-- ==== Sys2Proof/Word.lean ====
section
/-!
DEFINITION. The words of the DZ740 model and the sparse tables that hold its registers and memories.

Byte order is little-endian everywhere (R5) and bits are numbered from 0 (R6).
-/

namespace Sys2Proof

/-- One byte of a structure, a frame or a flit. -/
abbrev Byte := BitVec 8

/-- A 32-bit register word (R15). -/
abbrev W32 := BitVec 32

/-- A 64-bit register word (R15). -/
abbrev W64 := BitVec 64

/-- A sparse table: entries in strictly rising order of key, and no entry equal to what an
unlisted key reads as. -/
abbrev NMap (α : Type) := List (Nat × α)

end Sys2Proof
end

