-- ==== Sys2Proof/Config.lean ====
section
/-!
DEFINITION. What one unit or one implementation fixes and the manual does not state: fused identities and keys, and
the free values, which nothing in the model constrains. Each is an opaque constant without a body.
-/

namespace Sys2Proof.Config

/-- The values the manual leaves open after an operation that goes on (a free value): `freeValue n` is the n-th of
them, drawn with the counter `State.free`. -/
opaque freeValue : Nat → W64

/-- What configuration registers hold in the fields that R224 leaves to PCI Express Base Specification 4.0, by register. -/
opaque cfgOpen : Nat → W32

/-- Fused base MAC address of the unit, byte i for i = 0–5 (ETHm_MAC_LO and ETHm_MAC_HI, R490). -/
opaque macBase : Nat → Byte

/-- The unit's 64-bit Device Serial Number (R128, R538). -/
opaque serial : W64

/-- The ledger key K_LDG held in its Hasp slot, byte i for i = 0–31 (R538). -/
opaque ledgerKey : Nat → Byte

/-- Rilmon's factory key, held in the boot ROM, byte i for i = 0–63: X then Y (R130–R132). -/
opaque factoryKey : Nat → Byte

/-- The source MID in the header of a record that the hardware writes itself, which R534 does not state. -/
opaque hardwareMid : BitVec 4

/-- The level on a land that nothing drives, pulls or keeps, by land number (R70, R82). -/
opaque landFloat : Nat → Bool

end Sys2Proof.Config
end

