-- ==== Sys2Proof/Machine/Regs.lean ====
section
/-!
DEFINITION. The register map of BAR0: one definition per register field, with its place, width, cold value,
access code, warm behaviour, writers and permitted encodings, and the table that finds the register at an offset.

A field is a value of `Fld`. `R.PIN_CFG_sel n` is PIN_CFGn.sel, and so on. The store that holds field values is
`State.regs`; a field that no entry lists reads as its cold value.
-/

namespace Sys2Proof.Machine

/-- The access codes of R8, and `derived` for an RO field that is a view of other state of the unit. -/
inductive Acc where
  | rw | ro | wo | w1c | w1s | rc | rwl | derived
deriving DecidableEq, Repr

/-- One register field: BAR0 offset of its register, lowest bit, width and cold value (R23); its access code (R8);
whether it is unchanged at warm and unit reset (R20, R23); the MIDs whose writes it takes, bit i for MID i; its
encodings that are not reserved, as inclusive ranges, the empty list meaning all (R13); how many low bits of it read
0 (alignment); the key of the field that closes it to writes while it is 1, if there is one; whether a 1 in it closes
it (R12); and whether the instance has it (RSV otherwise). -/
structure Fld where
  off : Nat
  lo : Nat
  w : Nat
  cold : Nat
  acc : Acc
  keep : Bool := false
  mids : Nat := 0xFFFF
  ok : List (Nat × Nat) := []
  align : Nat := 0
  lock : Option Nat := none
  selfLock : Bool := false
  present : Bool := true
deriving DecidableEq, Repr

/-- The key of a field in the register store: offset and lowest bit. -/
def Fld.key (f : Fld) : Nat := f.off * 64 + f.lo

/-- One row of the address map: base, the count and stride of each index, whether the register is 64 bits wide
(R15), and its fields by MID (for registers with one copy per MID) and indices. -/
structure Bank where
  base : Nat
  dims : List (Nat × Nat)
  wide : Bool := false
  flds : Nat → List Nat → List Fld

/-! ### Cold values that depend on the instance -/

/-- Reset pull of land MXn (R67): 1 up, 2 down. -/
def pinPullCold (n : Nat) : Nat :=
  if n ≤ 63 then 1
  else if n ≤ 71 then 2
  else if n ≤ 91 then 1
  else if n ≤ 101 then (if (n - 92) % 5 = 0 || (n - 92) % 5 = 3 then 1 else 2)
  else if n ≤ 127 then 2
  else if n ≤ 131 then 1
  else if n ≤ 133 then 2
  else if n ≤ 136 then 1
  else if n ≤ 141 then 2
  else if n ≤ 173 then 1
  else 2

/-- Fused action_min of source n (R607): the codes of R596. -/
def dbtActMin (n : Nat) : Nat :=
  if n ≤ 1 || n = 4 || n = 117 || n = 118 then 1
  else if 80 ≤ n && n ≤ 115 then 3
  else 0

/-- Fused n_max of source n (R607). -/
def dbtNMax (n : Nat) : Nat :=
  if n ≤ 1 || n = 4 || n = 117 || (80 ≤ n && n ≤ 115) then 1
  else if n = 118 then 16
  else 255

/-- Fused k_min of source n (R607). -/
def dbtKMin (_n : Nat) : Nat := 0

/-- Fused frame rate of gateway egress port p (R608): CAN 0–15, LIN 16–23, ETH 24–30. -/
def dbtRate (p : Nat) : Nat :=
  if p ≤ 15 then 8000 else if p ≤ 23 then 100 else if p ≤ 25 then 200000 else if p ≤ 29 then 50000 else 10000

/-- Fused burst of gateway egress port p (R608). -/
def dbtBurst (p : Nat) : Nat := if p ≤ 15 then 64 else if p ≤ 23 then 8 else 255

/-- The queues of R375 in runs of consecutive numbers: first and last queue, log2 of the size in words, and the
first unit of the first queue of the run. -/
def qColdRuns : List (Nat × Nat × Nat × Nat) :=
  [(96, 103, 13, 0), (160, 175, 12, 1024),
   (88, 91, 11, 2048), (104, 119, 11, 2176), (128, 131, 11, 2688), (152, 155, 11, 2816),
   (0, 15, 10, 2944), (120, 123, 10, 3200), (132, 143, 10, 3264), (176, 207, 10, 3456),
   (16, 63, 9, 3968), (92, 93, 9, 4352), (156, 157, 9, 4368), (208, 215, 9, 4384),
   (64, 79, 8, 4448), (80, 87, 8, 4512), (144, 151, 8, 4544)]

/-- The run of R375 that holds queue q, if q names a queue (R372). -/
def qColdRun (q : Nat) : Option (Nat × Nat × Nat × Nat) :=
  qColdRuns.find? fun r => r.1 ≤ q && q ≤ r.2.1

/-- Cold log2 of queue q's size in words (R375). -/
def qLog2Cold (q : Nat) : Nat :=
  match qColdRun q with
  | some r => r.2.2.1
  | none => 0

/-- Cold base unit of queue q (R375). -/
def qBaseCold (q : Nat) : Nat :=
  match qColdRun q with
  | some r => r.2.2.2 + (q - r.1) * 2 ^ (r.2.2.1 - 6)
  | none => 0

/-- ETHm_STATUS.mode (R490): 1 for 1000BASE-T1, 2 for 100BASE-T1, 3 for 10BASE-T1S. -/
def ethModeCold (m : Nat) : Nat := if m ≤ 1 then 1 else if m ≤ 5 then 2 else 3

/-- Cold ETHm_TS_LAT.ingress (R490). -/
def ethInLatCold (m : Nat) : Nat := if m ≤ 1 then 356 else if m ≤ 5 then 1144 else 4920

/-- Cold ETHm_TS_LAT.egress (R490). -/
def ethOutLatCold (m : Nat) : Nat := if m ≤ 1 then 172 else if m ≤ 5 then 596 else 2480

/-- Cold ETHm_MAC_LO.addr: bytes 0–3 of the fused base address (R490). -/
def macLoCold (_m : Nat) : Nat :=
  (Config.macBase 0).toNat + (Config.macBase 1).toNat * 2 ^ 8 + (Config.macBase 2).toNat * 2 ^ 16
    + (Config.macBase 3).toNat * 2 ^ 24

/-- Cold ETHm_MAC_HI.addr: bytes 4 and 5 of the fused base address, with m added to byte 5 (R490). -/
def macHiCold (m : Nat) : Nat :=
  (Config.macBase 4).toNat + (((Config.macBase 5).toNat + m) % 256) * 2 ^ 8


/-- PIN_CTL.lock (R91). -/
def R.PIN_CTL_lock : Fld :=
  { off := 0x6300, lo := 0, w := 1, cold := 0, acc := .rwl, selfLock := true }

/-- KWY_CTL.lock (R290). -/
def R.KWY_CTL_lock : Fld :=
  { off := 0x9040, lo := 0, w := 1, cold := 0, acc := .rwl, mids := 4, selfLock := true }

/-- QMG_ADM_CTL.enable (R325). -/
def R.QMG_ADM_CTL_enable : Fld :=
  { off := 0x15840, lo := 0, w := 1, cold := 0, acc := .rw, mids := 3 }

/-- CAN_CTL.en (R449). -/
def R.CAN_CTL_en (m : Nat) : Fld :=
  { off := 0x40000 + 0x800 * m, lo := 0, w := 1, cold := 0, acc := .rw }

/-- LIN_CFG.en (R449). -/
def R.LIN_CFG_en (m : Nat) : Fld :=
  { off := 0x48000 + 0x200 * m, lo := 0, w := 1, cold := 0, acc := .rw }

/-- SENT_CFG.en (R449). -/
def R.SENT_CFG_en (m : Nat) : Fld :=
  { off := 0x4A000 + 0x100 * m, lo := 0, w := 1, cold := 0, acc := .rw }

/-- SER_CFG.en (R449). -/
def R.SER_CFG_en (m : Nat) : Fld :=
  { off := 0x4B000 + 0x100 * m, lo := 0, w := 1, cold := 0, acc := .rw }

/-- ETH_CFG.en (R490). -/
def R.ETH_CFG_en (m : Nat) : Fld :=
  { off := 0x50000 + 0x1000 * m, lo := 0, w := 1, cold := 0, acc := .rw }

/-- TRC_CTL.sink_en (R684). -/
def R.TRC_CTL_sink_en : Fld :=
  { off := 0xC0000, lo := 16, w := 1, cold := 0, acc := .rw, mids := 3 }

/-- GLB_ID.vendor (R160). -/
def R.GLB_ID_vendor : Fld :=
  { off := 0x0, lo := 0, w := 16, cold := 0xA3D1, acc := .ro, keep := true }

/-- GLB_ID.part (R160). -/
def R.GLB_ID_part : Fld :=
  { off := 0x0, lo := 16, w := 16, cold := 0x740, acc := .ro, keep := true }

/-- GLB_REV.module_rev (R160). -/
def R.GLB_REV_module_rev : Fld :=
  { off := 0x4, lo := 0, w := 4, cold := 2, acc := .ro, keep := true }

/-- GLB_REV.die_rev (R160). -/
def R.GLB_REV_die_rev : Fld :=
  { off := 0x4, lo := 4, w := 8, cold := 0x20, acc := .ro, keep := true }

/-- GLB_LIFECYCLE.state (R160). -/
def R.GLB_LIFECYCLE_state : Fld :=
  { off := 0x8, lo := 0, w := 2, cold := 0, acc := .derived }

/-- GLB_UNIT_ADDR.addr (R160). -/
def R.GLB_UNIT_ADDR_addr : Fld :=
  { off := 0xC, lo := 0, w := 10, cold := 0, acc := .derived }

/-- GLB_UNIT_ADDR.valid (R160). -/
def R.GLB_UNIT_ADDR_valid : Fld :=
  { off := 0xC, lo := 16, w := 1, cold := 0, acc := .derived }

/-- GLB_RESET.warm (R160). -/
def R.GLB_RESET_warm : Fld :=
  { off := 0x10, lo := 0, w := 1, cold := 0, acc := .wo }

/-- GLB_RESET.switch (R160). -/
def R.GLB_RESET_switch : Fld :=
  { off := 0x10, lo := 1, w := 1, cold := 0, acc := .wo }

/-- GLB_RESET.key (R160). -/
def R.GLB_RESET_key : Fld :=
  { off := 0x10, lo := 16, w := 16, cold := 0, acc := .wo }

/-- GLB_RESET_CAUSE.cause (R160). -/
def R.GLB_RESET_CAUSE_cause : Fld :=
  { off := 0x14, lo := 0, w := 4, cold := 0, acc := .ro }

/-- GLB_RESET_CAUSE.switch_req (R160). -/
def R.GLB_RESET_CAUSE_switch_req : Fld :=
  { off := 0x14, lo := 4, w := 1, cold := 0, acc := .ro }

/-- GLB_RESET_CAUSE.mid (R160). -/
def R.GLB_RESET_CAUSE_mid : Fld :=
  { off := 0x14, lo := 8, w := 4, cold := 0, acc := .ro }

/-- GLB_BOOT_STATUS.stage (R160). -/
def R.GLB_BOOT_STATUS_stage : Fld :=
  { off := 0x20, lo := 0, w := 4, cold := 0, acc := .ro }

/-- GLB_BOOT_STATUS.bank (R160). -/
def R.GLB_BOOT_STATUS_bank : Fld :=
  { off := 0x20, lo := 4, w := 1, cold := 0, acc := .ro }

/-- GLB_BOOT_STATUS.trial (R160). -/
def R.GLB_BOOT_STATUS_trial : Fld :=
  { off := 0x20, lo := 5, w := 1, cold := 0, acc := .ro }

/-- GLB_BOOT_STATUS.fallback (R160). -/
def R.GLB_BOOT_STATUS_fallback : Fld :=
  { off := 0x20, lo := 6, w := 1, cold := 0, acc := .ro }

/-- GLB_BOOT_STATUS.fw_ready (R160). -/
def R.GLB_BOOT_STATUS_fw_ready : Fld :=
  { off := 0x20, lo := 8, w := 1, cold := 0, acc := .rw, mids := 4 }

/-- GLB_BOOT_STATUS.reject_a (R160). -/
def R.GLB_BOOT_STATUS_reject_a : Fld :=
  { off := 0x20, lo := 12, w := 4, cold := 0, acc := .ro }

/-- GLB_BOOT_STATUS.reject_b (R160). -/
def R.GLB_BOOT_STATUS_reject_b : Fld :=
  { off := 0x20, lo := 16, w := 4, cold := 0, acc := .ro }

/-- GLB_BOOT_STATUS.index (R160). -/
def R.GLB_BOOT_STATUS_index : Fld :=
  { off := 0x20, lo := 24, w := 7, cold := 0, acc := .ro }

/-- GLB_FW_VERSION.major (R160). -/
def R.GLB_FW_VERSION_major : Fld :=
  { off := 0x24, lo := 0, w := 8, cold := 0, acc := .ro }

/-- GLB_FW_VERSION.minor (R160). -/
def R.GLB_FW_VERSION_minor : Fld :=
  { off := 0x24, lo := 8, w := 8, cold := 0, acc := .ro }

/-- GLB_FW_VERSION.patch (R160). -/
def R.GLB_FW_VERSION_patch : Fld :=
  { off := 0x24, lo := 16, w := 16, cold := 0, acc := .ro }

/-- GLB_ROLLBACK.count (R160). -/
def R.GLB_ROLLBACK_count : Fld :=
  { off := 0x28, lo := 0, w := 7, cold := 0, acc := .derived }

/-- GLB_BANK_STATE.preferred (R160). -/
def R.GLB_BANK_STATE_preferred : Fld :=
  { off := 0x2C, lo := 0, w := 2, cold := 0, acc := .derived }

/-- GLB_BANK_STATE.trial (R160). -/
def R.GLB_BANK_STATE_trial : Fld :=
  { off := 0x2C, lo := 2, w := 2, cold := 0, acc := .derived }

/-- GLB_BANK_STATE.pending (R160). -/
def R.GLB_BANK_STATE_pending : Fld :=
  { off := 0x2C, lo := 4, w := 2, cold := 0, acc := .derived }

/-- GLB_BANK_STATE.attempts (R160). -/
def R.GLB_BANK_STATE_attempts : Fld :=
  { off := 0x2C, lo := 6, w := 2, cold := 0, acc := .derived }

/-- GLB_BANK_STATE.status_a (R160). -/
def R.GLB_BANK_STATE_status_a : Fld :=
  { off := 0x2C, lo := 8, w := 2, cold := 0, acc := .derived }

/-- GLB_BANK_STATE.status_b (R160). -/
def R.GLB_BANK_STATE_status_b : Fld :=
  { off := 0x2C, lo := 10, w := 2, cold := 0, acc := .derived }

/-- GLB_BANK_STATE.index_a (R160). -/
def R.GLB_BANK_STATE_index_a : Fld :=
  { off := 0x2C, lo := 12, w := 7, cold := 0, acc := .derived }

/-- GLB_BANK_STATE.index_b (R160). -/
def R.GLB_BANK_STATE_index_b : Fld :=
  { off := 0x2C, lo := 19, w := 7, cold := 0, acc := .derived }

/-- GLB_BOOT_EVT.cause (R160). -/
def R.GLB_BOOT_EVT_cause : Fld :=
  { off := 0x40, lo := 0, w := 4, cold := 0, acc := .w1c, keep := true }

/-- GLB_BOOT_EVT_CNT.count (R160). -/
def R.GLB_BOOT_EVT_CNT_count (i : Nat) : Fld :=
  { off := 0x50 + 4 * i, lo := 0, w := 32, cold := 0, acc := .ro, keep := true }

/-- GLB_WDOG_CTL.timeout (R160). -/
def R.GLB_WDOG_CTL_timeout : Fld :=
  { off := 0x60, lo := 0, w := 15, cold := 2000, acc := .rw, mids := 4, ok := [(100, 30000)] }

/-- GLB_WDOG_CTL.running (R160). -/
def R.GLB_WDOG_CTL_running : Fld :=
  { off := 0x60, lo := 31, w := 1, cold := 0, acc := .ro }

/-- GLB_WDOG_KICK.key (R160). -/
def R.GLB_WDOG_KICK_key : Fld :=
  { off := 0x64, lo := 0, w := 16, cold := 0, acc := .wo }

/-- GLB_LC_REQ.target (R684). -/
def R.GLB_LC_REQ_target : Fld :=
  { off := 0x70, lo := 0, w := 2, cold := 0, acc := .wo }

/-- GLB_LC_REQ.key (R684). -/
def R.GLB_LC_REQ_key : Fld :=
  { off := 0x70, lo := 16, w := 16, cold := 0, acc := .wo }

/-- GLB_LC_STATUS.pending (R684). -/
def R.GLB_LC_STATUS_pending : Fld :=
  { off := 0x74, lo := 0, w := 1, cold := 0, acc := .ro, keep := true }

/-- GLB_LC_STATUS.target (R684). -/
def R.GLB_LC_STATUS_target : Fld :=
  { off := 0x74, lo := 1, w := 2, cold := 0, acc := .ro, keep := true }

/-- GLB_LC_STATUS.result (R684). -/
def R.GLB_LC_STATUS_result : Fld :=
  { off := 0x74, lo := 4, w := 3, cold := 0, acc := .ro, keep := true }

/-- GLB_DBG_CTL.allow (R684). -/
def R.GLB_DBG_CTL_allow : Fld :=
  { off := 0x78, lo := 0, w := 1, cold := 0, acc := .rw, mids := 3 }

/-- GLB_DBG_CTL.deny (R684). -/
def R.GLB_DBG_CTL_deny : Fld :=
  { off := 0x78, lo := 1, w := 1, cold := 0, acc := .rw, mids := 3 }

/-- PWR_STATE.target (R127). -/
def R.PWR_STATE_target : Fld :=
  { off := 0x1000, lo := 0, w := 2, cold := 0, acc := .rw }

/-- PWR_STATE.current (R127). -/
def R.PWR_STATE_current : Fld :=
  { off := 0x1000, lo := 8, w := 2, cold := 0, acc := .ro }

/-- PWR_STATE.busy (R127). -/
def R.PWR_STATE_busy : Fld :=
  { off := 0x1000, lo := 12, w := 1, cold := 0, acc := .ro }

/-- PWR_STATE.last_result (R127). -/
def R.PWR_STATE_last_result : Fld :=
  { off := 0x1000, lo := 16, w := 4, cold := 0, acc := .ro, keep := true }

/-- PWR_QUIET_PORTS0.can (R127). -/
def R.PWR_QUIET_PORTS0_can : Fld :=
  { off := 0x1004, lo := 0, w := 16, cold := 0xFFFF, acc := .rw, keep := true }

/-- PWR_QUIET_PORTS0.lin (R127). -/
def R.PWR_QUIET_PORTS0_lin : Fld :=
  { off := 0x1004, lo := 16, w := 8, cold := 0xFF, acc := .rw, keep := true }

/-- PWR_QUIET_PORTS0.sent (R127). -/
def R.PWR_QUIET_PORTS0_sent : Fld :=
  { off := 0x1004, lo := 24, w := 4, cold := 0, acc := .rw, keep := true }

/-- PWR_QUIET_PORTS0.ser (R127). -/
def R.PWR_QUIET_PORTS0_ser : Fld :=
  { off := 0x1004, lo := 28, w := 4, cold := 0, acc := .rw, keep := true }

/-- PWR_QUIET_PORTS1.card (R127). -/
def R.PWR_QUIET_PORTS1_card : Fld :=
  { off := 0x1008, lo := 0, w := 2, cold := 0, acc := .rw, keep := true }

/-- PWR_QUIET_PORTS1.eth (R127). -/
def R.PWR_QUIET_PORTS1_eth : Fld :=
  { off := 0x1008, lo := 2, w := 7, cold := 0, acc := .rw, keep := true }

/-- PWR_QUIET_PORTS1.lxb (R127). -/
def R.PWR_QUIET_PORTS1_lxb : Fld :=
  { off := 0x1008, lo := 9, w := 1, cold := 0, acc := .rw, keep := true }

/-- PWR_QUIET_PORTS1.gpio (R127). -/
def R.PWR_QUIET_PORTS1_gpio : Fld :=
  { off := 0x1008, lo := 10, w := 1, cold := 0, acc := .rw, keep := true }

/-- PWR_VIN.vin (R127). -/
def R.PWR_VIN_vin : Fld :=
  { off := 0x1010, lo := 0, w := 16, cold := 0, acc := .ro, keep := true }

/-- PWR_STATUS.cause (R127). -/
def R.PWR_STATUS_cause : Fld :=
  { off := 0x1014, lo := 0, w := 6, cold := 0, acc := .w1c }

/-- PWR_STATUS.in_low (R127). -/
def R.PWR_STATUS_in_low : Fld :=
  { off := 0x1014, lo := 16, w := 1, cold := 0, acc := .ro, keep := true }

/-- PWR_STATUS.in_over (R127). -/
def R.PWR_STATUS_in_over : Fld :=
  { off := 0x1014, lo := 17, w := 1, cold := 0, acc := .ro, keep := true }

/-- PWR_INT_EN.en (R127). -/
def R.PWR_INT_EN_en : Fld :=
  { off := 0x1018, lo := 0, w := 6, cold := 0x27, acc := .rw, keep := true }

/-- PWR_CNT.count (R127). -/
def R.PWR_CNT_count (i : Nat) : Fld :=
  { off := 0x1020 + 4 * i, lo := 0, w := 32, cold := 0, acc := .ro, keep := true }

/-- PWR_PF_LOG.shutdown_written (R127). -/
def R.PWR_PF_LOG_shutdown_written : Fld :=
  { off := 0x1040, lo := 0, w := 1, cold := 0, acc := .ro, keep := true }

/-- PWR_PF_LOG.ledger_flushed (R127). -/
def R.PWR_PF_LOG_ledger_flushed : Fld :=
  { off := 0x1040, lo := 1, w := 1, cold := 0, acc := .ro, keep := true }

/-- PWR_PF_LOG.mirror_acked (R127). -/
def R.PWR_PF_LOG_mirror_acked : Fld :=
  { off := 0x1040, lo := 2, w := 1, cold := 0, acc := .ro, keep := true }

/-- PWR_PF_LOG.store_ready (R127). -/
def R.PWR_PF_LOG_store_ready : Fld :=
  { off := 0x1040, lo := 3, w := 1, cold := 0, acc := .ro, keep := true }

/-- PWR_PF_LOG.t_step4 (R127). -/
def R.PWR_PF_LOG_t_step4 : Fld :=
  { off := 0x1040, lo := 16, w := 16, cold := 0, acc := .ro, keep := true }

/-- PWR_PF_ENERGY.energy (R127). -/
def R.PWR_PF_ENERGY_energy : Fld :=
  { off := 0x1044, lo := 0, w := 16, cold := 0, acc := .ro, keep := true }

/-- HUP_CFG.charge_current (R127). -/
def R.HUP_CFG_charge_current : Fld :=
  { off := 0x1800, lo := 0, w := 5, cold := 5, acc := .rw, keep := true, ok := [(2, 20)] }

/-- HUP_CFG.v_floor (R127). -/
def R.HUP_CFG_v_floor : Fld :=
  { off := 0x1800, lo := 8, w := 8, cold := 10, acc := .rw, keep := true, ok := [(0, 40)] }

/-- HUP_EREQ.ereq (R127). -/
def R.HUP_EREQ_ereq : Fld :=
  { off := 0x1804, lo := 0, w := 20, cold := 12000, acc := .rw, keep := true, ok := [(12000, 1048575)] }

/-- HUP_STATUS.state (R127). -/
def R.HUP_STATUS_state : Fld :=
  { off := 0x1808, lo := 0, w := 3, cold := 1, acc := .ro, keep := true }

/-- HUP_STATUS.write_through (R127). -/
def R.HUP_STATUS_write_through : Fld :=
  { off := 0x1808, lo := 4, w := 1, cold := 1, acc := .ro, keep := true }

/-- HUP_STATUS.cause (R127). -/
def R.HUP_STATUS_cause : Fld :=
  { off := 0x1808, lo := 8, w := 4, cold := 0, acc := .w1c, keep := true }

/-- HUP_STATUS.reason (R127). -/
def R.HUP_STATUS_reason : Fld :=
  { off := 0x1808, lo := 12, w := 4, cold := 0, acc := .ro, keep := true }

/-- HUP_VSTORE.value (R127). -/
def R.HUP_VSTORE_value : Fld :=
  { off := 0x180C, lo := 0, w := 20, cold := 0, acc := .ro, keep := true }

/-- HUP_E_CHARGE.value (R127). -/
def R.HUP_E_CHARGE_value : Fld :=
  { off := 0x1810, lo := 0, w := 20, cold := 0, acc := .ro, keep := true }

/-- HUP_E_VOLT.value (R127). -/
def R.HUP_E_VOLT_value : Fld :=
  { off := 0x1814, lo := 0, w := 20, cold := 0, acc := .ro, keep := true }

/-- HUP_E_USABLE.value (R127). -/
def R.HUP_E_USABLE_value : Fld :=
  { off := 0x1818, lo := 0, w := 20, cold := 0, acc := .ro, keep := true }

/-- HUP_CAP.value (R127). -/
def R.HUP_CAP_value : Fld :=
  { off := 0x181C, lo := 0, w := 16, cold := 0, acc := .ro, keep := true }

/-- HUP_ESR.value (R127). -/
def R.HUP_ESR_value : Fld :=
  { off := 0x1820, lo := 0, w := 16, cold := 0, acc := .ro, keep := true }

/-- HUP_INT_EN.en (R127). -/
def R.HUP_INT_EN_en : Fld :=
  { off := 0x1824, lo := 8, w := 4, cold := 7, acc := .rw, keep := true }

/-- HUP_CNT.count (R127). -/
def R.HUP_CNT_count (i : Nat) : Fld :=
  { off := 0x1830 + 4 * i, lo := 0, w := 32, cold := 0, acc := .ro, keep := true }

/-- CLK_STATUS.pll_lock (R160). -/
def R.CLK_STATUS_pll_lock : Fld :=
  { off := 0x2000, lo := 0, w := 1, cold := 0, acc := .ro }

/-- CLK_STATUS.ref25_ok (R160). -/
def R.CLK_STATUS_ref25_ok : Fld :=
  { off := 0x2000, lo := 1, w := 1, cold := 0, acc := .ro }

/-- CLK_STATUS.xt32_ok (R160). -/
def R.CLK_STATUS_xt32_ok : Fld :=
  { off := 0x2000, lo := 2, w := 1, cold := 0, acc := .ro, keep := true }

/-- CLK_STATUS.disciplined (R160). -/
def R.CLK_STATUS_disciplined : Fld :=
  { off := 0x2000, lo := 3, w := 1, cold := 0, acc := .ro, keep := true }

/-- CLK_STATUS.pcie_ref_ok (R160). -/
def R.CLK_STATUS_pcie_ref_ok : Fld :=
  { off := 0x2000, lo := 4, w := 1, cold := 0, acc := .ro }

/-- CLK_EVT.cause (R160). -/
def R.CLK_EVT_cause : Fld :=
  { off := 0x2004, lo := 0, w := 3, cold := 0, acc := .w1c, keep := true }

/-- CLK_CNT.count (R160). -/
def R.CLK_CNT_count (i : Nat) : Fld :=
  { off := 0x2010 + 4 * i, lo := 0, w := 32, cold := 0, acc := .ro, keep := true }

/-- CLK_MONO.time (R160). -/
def R.CLK_MONO_time : Fld :=
  { off := 0x2020, lo := 0, w := 64, cold := 0, acc := .ro, keep := true }

/-- CLK_XT32_PPM.error (R160). -/
def R.CLK_XT32_PPM_error : Fld :=
  { off := 0x2028, lo := 0, w := 20, cold := 0, acc := .ro, keep := true }

/-- THM_CFG.hyst (R592). -/
def R.THM_CFG_hyst : Fld :=
  { off := 0x3000, lo := 0, w := 4, cold := 5, acc := .rw, mids := 4, ok := [(2, 10)] }

/-- THM_LIM.warn (R592). -/
def R.THM_LIM_warn : Fld :=
  { off := 0x3004, lo := 0, w := 8, cold := 110, acc := .rw, mids := 4 }

/-- THM_LIM.enforce (R592). -/
def R.THM_LIM_enforce : Fld :=
  { off := 0x3004, lo := 8, w := 8, cold := 118, acc := .rw, mids := 4 }

/-- THM_LIM.critical (R592). -/
def R.THM_LIM_critical : Fld :=
  { off := 0x3004, lo := 16, w := 8, cold := 125, acc := .rw, mids := 4 }

/-- THM_GRACE.grace (R592). -/
def R.THM_GRACE_grace : Fld :=
  { off := 0x3008, lo := 0, w := 11, cold := 500, acc := .rw, mids := 4, ok := [(50, 2000)] }

/-- THM_DUTY.enf_duty (R592). -/
def R.THM_DUTY_enf_duty : Fld :=
  { off := 0x300C, lo := 0, w := 4, cold := 8, acc := .rw, mids := 4, ok := [(1, 8)] }

/-- THM_DUTY.host_duty (R592). -/
def R.THM_DUTY_host_duty : Fld :=
  { off := 0x300C, lo := 8, w := 5, cold := 16, acc := .rw, mids := 3, ok := [(1, 16)] }

/-- THM_DUTY.duty (R592). -/
def R.THM_DUTY_duty : Fld :=
  { off := 0x300C, lo := 16, w := 5, cold := 16, acc := .derived }

/-- THM_STATUS.state (R592). -/
def R.THM_STATUS_state : Fld :=
  { off := 0x3010, lo := 0, w := 2, cold := 0, acc := .ro }

/-- THM_STATUS.fast (R592). -/
def R.THM_STATUS_fast : Fld :=
  { off := 0x3010, lo := 2, w := 1, cold := 0, acc := .ro }

/-- THM_STATUS.grace_running (R592). -/
def R.THM_STATUS_grace_running : Fld :=
  { off := 0x3010, lo := 3, w := 1, cold := 0, acc := .ro }

/-- THM_STATUS.enforcing (R592). -/
def R.THM_STATUS_enforcing : Fld :=
  { off := 0x3010, lo := 4, w := 1, cold := 0, acc := .ro }

/-- THM_STATUS.hottest (R592). -/
def R.THM_STATUS_hottest : Fld :=
  { off := 0x3010, lo := 8, w := 4, cold := 0, acc := .ro }

/-- THM_STATUS.highest (R592). -/
def R.THM_STATUS_highest : Fld :=
  { off := 0x3010, lo := 12, w := 12, cold := 0, acc := .ro }

/-- THM_CMD.measure (R592). -/
def R.THM_CMD_measure : Fld :=
  { off := 0x3014, lo := 0, w := 1, cold := 0, acc := .w1s }

/-- THM_EVT.cause (R592). -/
def R.THM_EVT_cause : Fld :=
  { off := 0x3018, lo := 0, w := 7, cold := 0, acc := .w1c }

/-- THM_INT_EN.en (R592). -/
def R.THM_INT_EN_en : Fld :=
  { off := 0x301C, lo := 0, w := 7, cold := 0x3B, acc := .rw }

/-- THM_SAMPLE_CNT.count (R592). -/
def R.THM_SAMPLE_CNT_count : Fld :=
  { off := 0x3020, lo := 0, w := 32, cold := 0, acc := .ro }

/-- THM_PEAK.value (R592). -/
def R.THM_PEAK_value : Fld :=
  { off := 0x3024, lo := 0, w := 12, cold := 0x800, acc := .rc }

/-- THM_PEAK.sensor (R592). -/
def R.THM_PEAK_sensor : Fld :=
  { off := 0x3024, lo := 12, w := 4, cold := 0, acc := .rc }

/-- THM_EVT_CNT.count (R592). -/
def R.THM_EVT_CNT_count (i : Nat) : Fld :=
  { off := 0x3040 + 4 * i, lo := 0, w := 32, cold := 0, acc := .ro }

/-- THM_TS.raw (R592). -/
def R.THM_TS_raw (k : Nat) : Fld :=
  { off := 0x3100 + 4 * k, lo := 0, w := 12, cold := 0, acc := .ro }

/-- THM_TS.reported (R592). -/
def R.THM_TS_reported (k : Nat) : Fld :=
  { off := 0x3100 + 4 * k, lo := 12, w := 12, cold := 0, acc := .ro }

/-- THM_TS.suspect (R592). -/
def R.THM_TS_suspect (k : Nat) : Fld :=
  { off := 0x3100 + 4 * k, lo := 24, w := 1, cold := 0, acc := .ro }

/-- THM_TS.assumed (R592). -/
def R.THM_TS_assumed (k : Nat) : Fld :=
  { off := 0x3100 + 4 * k, lo := 25, w := 1, cold := 0, acc := .ro }

/-- THM_TS.count (R592). -/
def R.THM_TS_count (k : Nat) : Fld :=
  { off := 0x3100 + 4 * k, lo := 26, w := 4, cold := 0, acc := .ro }

/-- THM_TS.valid (R592). -/
def R.THM_TS_valid (k : Nat) : Fld :=
  { off := 0x3100 + 4 * k, lo := 31, w := 1, cold := 0, acc := .ro }

/-- FLT_SRC_CFG.n (R615). -/
def R.FLT_SRC_CFG_n (n : Nat) : Fld :=
  { off := 0x4000 + 4 * n, lo := 0, w := 8, cold := (dbtNMax n), acc := .rw, mids := 4, ok := [(1, 255)] }

/-- FLT_SRC_CFG.k (R615). -/
def R.FLT_SRC_CFG_k (n : Nat) : Fld :=
  { off := 0x4000 + 4 * n, lo := 8, w := 5, cold := (dbtKMin n), acc := .rw, mids := 4, ok := [(0, 22)] }

/-- FLT_SRC_CFG.action (R615). -/
def R.FLT_SRC_CFG_action (n : Nat) : Fld :=
  { off := 0x4000 + 4 * n, lo := 16, w := 3, cold := (dbtActMin n), acc := .rw, mids := 4 }

/-- FLT_SRC_CFG.to_pf (R615). -/
def R.FLT_SRC_CFG_to_pf (n : Nat) : Fld :=
  { off := 0x4000 + 4 * n, lo := 20, w := 2, cold := 3, acc := .rw, mids := 4 }

/-- FLT_SRC_CFG.to_cp (R615). -/
def R.FLT_SRC_CFG_to_cp (n : Nat) : Fld :=
  { off := 0x4000 + 4 * n, lo := 22, w := 1, cold := 0, acc := .rw, mids := 4 }

/-- FLT_SRC_CFG.rec_all (R615). -/
def R.FLT_SRC_CFG_rec_all (n : Nat) : Fld :=
  { off := 0x4000 + 4 * n, lo := 23, w := 1, cold := 0, acc := .rw, mids := 4 }

/-- FLT_SRC_STATE.count (R615). -/
def R.FLT_SRC_STATE_count (n : Nat) : Fld :=
  { off := 0x4200 + 4 * n, lo := 0, w := 8, cold := 0, acc := .ro }

/-- FLT_SRC_STATE.window (R615). -/
def R.FLT_SRC_STATE_window (n : Nat) : Fld :=
  { off := 0x4200 + 4 * n, lo := 8, w := 1, cold := 0, acc := .derived }

/-- FLT_SRC_TOTAL.count (R615). -/
def R.FLT_SRC_TOTAL_count (n : Nat) : Fld :=
  { off := 0x4400 + 4 * n, lo := 0, w := 32, cold := 0, acc := .ro, keep := true }

/-- FLT_SRC_SEV_CNT.count (R615). -/
def R.FLT_SRC_SEV_CNT_count (n : Nat) : Fld :=
  { off := 0x4600 + 4 * n, lo := 0, w := 32, cold := 0, acc := .ro, keep := true }

/-- FLT_PEND.pend (R615). -/
def R.FLT_PEND_pend (j : Nat) : Fld :=
  { off := 0x4800 + 4 * j, lo := 0, w := 32, cold := 0, acc := .w1c, mids := 7 }

/-- FLT_EVQ.word (R615). -/
def R.FLT_EVQ_word : Fld :=
  { off := 0x4810, lo := 0, w := 64, cold := 0, acc := .derived }

/-- FLT_EVQ_STAT.sideband (R615). -/
def R.FLT_EVQ_STAT_sideband : Fld :=
  { off := 0x4818, lo := 0, w := 2, cold := 0, acc := .derived }

/-- FLT_EVQ_STAT.poison (R615). -/
def R.FLT_EVQ_STAT_poison : Fld :=
  { off := 0x4818, lo := 2, w := 1, cold := 0, acc := .derived }

/-- FLT_EVQ_STAT.empty (R615). -/
def R.FLT_EVQ_STAT_empty : Fld :=
  { off := 0x4818, lo := 8, w := 1, cold := 1, acc := .derived }

/-- FLT_CTL.evq_pf (R615). -/
def R.FLT_CTL_evq_pf : Fld :=
  { off := 0x481C, lo := 0, w := 2, cold := 0, acc := .rw, mids := 4 }

/-- FLT_CTL.evq_cp (R615). -/
def R.FLT_CTL_evq_cp : Fld :=
  { off := 0x481C, lo := 2, w := 1, cold := 0, acc := .rw, mids := 4 }

/-- FLT_QUAR_PORT0.port (R615). -/
def R.FLT_QUAR_PORT0_port : Fld :=
  { off := 0x4840, lo := 0, w := 32, cold := 0, acc := .w1c, mids := 7 }

/-- FLT_QUAR_PORT1.port (R615). -/
def R.FLT_QUAR_PORT1_port : Fld :=
  { off := 0x4844, lo := 0, w := 9, cold := 0, acc := .w1c, mids := 7 }

/-- FLT_SAFE.active (R615). -/
def R.FLT_SAFE_active : Fld :=
  { off := 0x4848, lo := 0, w := 1, cold := 0, acc := .ro }

/-- FLT_SAFE.cause (R615). -/
def R.FLT_SAFE_cause : Fld :=
  { off := 0x4848, lo := 1, w := 3, cold := 0, acc := .ro }

/-- FLT_SAFE.source (R615). -/
def R.FLT_SAFE_source : Fld :=
  { off := 0x4848, lo := 8, w := 7, cold := 0, acc := .ro }

/-- DBT_FLT.n_max (R615). -/
def R.DBT_FLT_n_max (n : Nat) : Fld :=
  { off := 0x5000 + 4 * n, lo := 0, w := 8, cold := (dbtNMax n), acc := .rw, mids := 4 }

/-- DBT_FLT.k_min (R615). -/
def R.DBT_FLT_k_min (n : Nat) : Fld :=
  { off := 0x5000 + 4 * n, lo := 8, w := 5, cold := (dbtKMin n), acc := .rw, mids := 4 }

/-- DBT_FLT.action_min (R615). -/
def R.DBT_FLT_action_min (n : Nat) : Fld :=
  { off := 0x5000 + 4 * n, lo := 16, w := 3, cold := (dbtActMin n), acc := .rw, mids := 4 }

/-- DBT_GW.rate (R615). -/
def R.DBT_GW_rate (p : Nat) : Fld :=
  { off := 0x5200 + 4 * p, lo := 0, w := 20, cold := (dbtRate p), acc := .rw, mids := 4 }

/-- DBT_GW.burst (R615). -/
def R.DBT_GW_burst (p : Nat) : Fld :=
  { off := 0x5200 + 4 * p, lo := 20, w := 8, cold := (dbtBurst p), acc := .rw, mids := 4 }

/-- DBT_LAST.offset (R615). -/
def R.DBT_LAST_offset : Fld :=
  { off := 0x5300, lo := 0, w := 18, cold := 0, acc := .ro }

/-- DBT_LAST.mid (R615). -/
def R.DBT_LAST_mid : Fld :=
  { off := 0x5300, lo := 20, w := 4, cold := 0, acc := .ro }

/-- PIN_CFG.sel (R91). -/
def R.PIN_CFG_sel (n : Nat) : Fld :=
  { off := 0x6000 + 4 * n, lo := 0, w := 3, cold := 0, acc := .rwl, lock := some (R.PIN_CTL_lock).key }

/-- PIN_CFG.park (R91). -/
def R.PIN_CFG_park (n : Nat) : Fld :=
  { off := 0x6000 + 4 * n, lo := 4, w := 2, cold := 2, acc := .rwl, keep := true, ok := [(0, 2)], lock := some (R.PIN_CTL_lock).key }

/-- PIN_CFG.pull (R91). -/
def R.PIN_CFG_pull (n : Nat) : Fld :=
  { off := 0x6000 + 4 * n, lo := 8, w := 2, cold := (pinPullCold n), acc := .rwl, keep := true, ok := [(0, 2)], lock := some (R.PIN_CTL_lock).key }

/-- PIN_CFG.drive (R91). -/
def R.PIN_CFG_drive (n : Nat) : Fld :=
  { off := 0x6000 + 4 * n, lo := 12, w := 2, cold := 0, acc := .rwl, keep := true, ok := [(0, 2)], lock := some (R.PIN_CTL_lock).key }

/-- PIN_CFG.slew (R91). -/
def R.PIN_CFG_slew (n : Nat) : Fld :=
  { off := 0x6000 + 4 * n, lo := 14, w := 1, cold := 0, acc := .rwl, keep := true, lock := some (R.PIN_CTL_lock).key }

/-- PIN_CFG.attached (R91). -/
def R.PIN_CFG_attached (n : Nat) : Fld :=
  { off := 0x6000 + 4 * n, lo := 16, w := 3, cold := 0, acc := .ro }

/-- PIN_CFG.busy (R91). -/
def R.PIN_CFG_busy (n : Nat) : Fld :=
  { off := 0x6000 + 4 * n, lo := 20, w := 1, cold := 0, acc := .ro }

/-- PIN_STATUS.cause (R91). -/
def R.PIN_STATUS_cause : Fld :=
  { off := 0x6304, lo := 0, w := 3, cold := 0, acc := .w1c }

/-- PIN_STATUS.last_land (R91). -/
def R.PIN_STATUS_last_land : Fld :=
  { off := 0x6304, lo := 8, w := 8, cold := 0, acc := .ro }

/-- PIN_CNT.count (R91). -/
def R.PIN_CNT_count (i : Nat) : Fld :=
  { off := 0x6308 + 4 * i, lo := 0, w := 32, cold := 0, acc := .ro, keep := true }

/-- PIN_IN.level (R91). -/
def R.PIN_IN_level (k : Nat) : Fld :=
  { off := 0x6320 + 4 * k, lo := 0, w := 32, cold := 0, acc := .derived }

/-- MBX_TX.word (R290). -/
def R.MBX_TX_word (c : Nat) (w : Nat) : Fld :=
  { off := 0x8000 + 0x100 * c + 4 * w, lo := 0, w := 32, cold := 0, acc := .rw }

/-- MBX_RX.word (R290). -/
def R.MBX_RX_word (c : Nat) (w : Nat) : Fld :=
  { off := 0x8040 + 0x100 * c + 4 * w, lo := 0, w := 32, cold := 0, acc := .derived }

/-- MBX_TUMBLER.value (R290). -/
def R.MBX_TUMBLER_value (c : Nat) : Fld :=
  { off := 0x8080 + 0x100 * c, lo := 0, w := 5, cold := 0, acc := .derived }

/-- MBX_CTL.go (R290). -/
def R.MBX_CTL_go (c : Nat) : Fld :=
  { off := 0x8084 + 0x100 * c, lo := 0, w := 1, cold := 0, acc := .w1s }

/-- MBX_CTL.release (R290). -/
def R.MBX_CTL_release (c : Nat) : Fld :=
  { off := 0x8084 + 0x100 * c, lo := 1, w := 1, cold := 0, acc := .w1s }

/-- MBX_CTL.pop (R290). -/
def R.MBX_CTL_pop (c : Nat) : Fld :=
  { off := 0x8084 + 0x100 * c, lo := 2, w := 1, cold := 0, acc := .w1s }

/-- MBX_CTL.notice_en (R290). -/
def R.MBX_CTL_notice_en (c : Nat) : Fld :=
  { off := 0x8084 + 0x100 * c, lo := 8, w := 1, cold := 1, acc := .rw }

/-- MBX_CTL.evt_en (R290). -/
def R.MBX_CTL_evt_en (c : Nat) : Fld :=
  { off := 0x8084 + 0x100 * c, lo := 9, w := 1, cold := 1, acc := .rw }

/-- MBX_STATUS.rx_count (R290). -/
def R.MBX_STATUS_rx_count (c : Nat) : Fld :=
  { off := 0x8088 + 0x100 * c, lo := 0, w := 3, cold := 0, acc := .derived }

/-- MBX_STATUS.staging (R290). -/
def R.MBX_STATUS_staging (c : Nat) : Fld :=
  { off := 0x8088 + 0x100 * c, lo := 3, w := 1, cold := 0, acc := .derived }

/-- MBX_STATUS.held (R290). -/
def R.MBX_STATUS_held (c : Nat) : Fld :=
  { off := 0x8088 + 0x100 * c, lo := 8, w := 1, cold := 0, acc := .derived }

/-- MBX_STATUS.owner_mid (R290). -/
def R.MBX_STATUS_owner_mid (c : Nat) : Fld :=
  { off := 0x8088 + 0x100 * c, lo := 12, w := 4, cold := 0, acc := .derived }

/-- MBX_STATUS.owner_addr (R290). -/
def R.MBX_STATUS_owner_addr (c : Nat) : Fld :=
  { off := 0x8088 + 0x100 * c, lo := 16, w := 10, cold := 0, acc := .derived }

/-- MBX_RX_SRC.mid (R290). -/
def R.MBX_RX_SRC_mid (c : Nat) : Fld :=
  { off := 0x808C + 0x100 * c, lo := 0, w := 4, cold := 0, acc := .derived }

/-- MBX_RX_SRC.addr (R290). -/
def R.MBX_RX_SRC_addr (c : Nat) : Fld :=
  { off := 0x808C + 0x100 * c, lo := 4, w := 10, cold := 0, acc := .derived }

/-- MBX_RX_SRC.valid (R290). -/
def R.MBX_RX_SRC_valid (c : Nat) : Fld :=
  { off := 0x808C + 0x100 * c, lo := 16, w := 1, cold := 0, acc := .derived }

/-- MBX_RX_SRC.len (R290). -/
def R.MBX_RX_SRC_len (c : Nat) : Fld :=
  { off := 0x808C + 0x100 * c, lo := 24, w := 5, cold := 0, acc := .derived }

/-- MBX_EVT.cause (R290). -/
def R.MBX_EVT_cause (c : Nat) : Fld :=
  { off := 0x8090 + 0x100 * c, lo := 0, w := 4, cold := 0, acc := .w1c }

/-- MBX_CNT.count (R290). -/
def R.MBX_CNT_count (c : Nat) (i : Nat) : Fld :=
  { off := 0x80A0 + 0x100 * c + 4 * i, lo := 0, w := 32, cold := 0, acc := .ro, keep := true }

/-- KWY_BIND.sender (R290). -/
def R.KWY_BIND_sender (c : Nat) : Fld :=
  { off := 0x9000 + 4 * c, lo := 0, w := 4, cold := 0, acc := .rwl, mids := 4, lock := some (R.KWY_CTL_lock).key }

/-- KWY_BIND.receiver (R290). -/
def R.KWY_BIND_receiver (c : Nat) : Fld :=
  { off := 0x9000 + 4 * c, lo := 4, w := 4, cold := 0, acc := .rwl, mids := 4, lock := some (R.KWY_CTL_lock).key }

/-- KWY_BIND.valid (R290). -/
def R.KWY_BIND_valid (c : Nat) : Fld :=
  { off := 0x9000 + 4 * c, lo := 8, w := 1, cold := 0, acc := .rwl, mids := 4, lock := some (R.KWY_CTL_lock).key }

/-- KWY_VIOL.cause (R290). -/
def R.KWY_VIOL_cause : Fld :=
  { off := 0x9044, lo := 0, w := 2, cold := 0, acc := .w1c }

/-- KWY_VIOL.write (R290). -/
def R.KWY_VIOL_write : Fld :=
  { off := 0x9044, lo := 2, w := 1, cold := 0, acc := .ro }

/-- KWY_VIOL.mid (R290). -/
def R.KWY_VIOL_mid : Fld :=
  { off := 0x9044, lo := 8, w := 4, cold := 0, acc := .ro }

/-- KWY_VIOL.channel (R290). -/
def R.KWY_VIOL_channel : Fld :=
  { off := 0x9044, lo := 12, w := 4, cold := 0, acc := .ro }

/-- KWY_VIOL.addr (R290). -/
def R.KWY_VIOL_addr : Fld :=
  { off := 0x9044, lo := 16, w := 10, cold := 0, acc := .ro }

/-- KWY_CNT.count (R290). -/
def R.KWY_CNT_count (i : Nat) : Fld :=
  { off := 0x9048 + 4 * i, lo := 0, w := 32, cold := 0, acc := .ro, keep := true }

/-- INT_FSRC.src (R260). -/
def R.INT_FSRC_src : Fld :=
  { off := 0xA000, lo := 0, w := 6, cold := 0, acc := .derived }

/-- INT_FSRC.lxb_irq (R260). -/
def R.INT_FSRC_lxb_irq : Fld :=
  { off := 0xA000, lo := 8, w := 4, cold := 0, acc := .derived }

/-- INT_ESRC.src (R260). -/
def R.INT_ESRC_src : Fld :=
  { off := 0xA004, lo := 0, w := 3, cold := 0, acc := .derived }

/-- INT_LXB_EN.en (R260). -/
def R.INT_LXB_EN_en : Fld :=
  { off := 0xA008, lo := 0, w := 4, cold := 0, acc := .rw }

/-- INT_PIN_CTL.src (R260). -/
def R.INT_PIN_CTL_src : Fld :=
  { off := 0xA010, lo := 0, w := 8, cold := 0, acc := .rw, keep := true }

/-- INT_LINK.up (R260). -/
def R.INT_LINK_up : Fld :=
  { off := 0xA020, lo := 0, w := 1, cold := 0, acc := .ro }

/-- INT_LINK.width (R260). -/
def R.INT_LINK_width : Fld :=
  { off := 0xA020, lo := 1, w := 2, cold := 0, acc := .ro }

/-- INT_LINK.speed (R260). -/
def R.INT_LINK_speed : Fld :=
  { off := 0xA020, lo := 3, w := 3, cold := 0, acc := .ro }

/-- INT_LINK.perst_n (R260). -/
def R.INT_LINK_perst_n : Fld :=
  { off := 0xA020, lo := 6, w := 1, cold := 0, acc := .ro, keep := true }

/-- INT_HIF_EVT.cause (R260). -/
def R.INT_HIF_EVT_cause : Fld :=
  { off := 0xA024, lo := 0, w := 6, cold := 0, acc := .w1c, keep := true }

/-- INT_HIF_INT_EN.en (R260). -/
def R.INT_HIF_INT_EN_en : Fld :=
  { off := 0xA028, lo := 0, w := 6, cold := 0x38, acc := .rw, keep := true }

/-- INT_HIF_EVT_CNT.count (R260). -/
def R.INT_HIF_EVT_CNT_count (i : Nat) : Fld :=
  { off := 0xA040 + 4 * i, lo := 0, w := 32, cold := 0, acc := .ro, keep := true }

/-- INT_PF_LEVEL.gated (R260). -/
def R.INT_PF_LEVEL_gated (f : Nat) : Fld :=
  { off := 0xA100 + 0x100 * f, lo := 0, w := 4, cold := 0, acc := .derived }

/-- INT_PF_LEVEL.raw (R260). -/
def R.INT_PF_LEVEL_raw (f : Nat) : Fld :=
  { off := 0xA100 + 0x100 * f, lo := 8, w := 4, cold := 0, acc := .derived }

/-- INT_PF_EN.en (R260). -/
def R.INT_PF_EN_en (f : Nat) : Fld :=
  { off := 0xA104 + 0x100 * f, lo := 0, w := 4, cold := 0xF, acc := .rw }

/-- INT_PF_REARM.rearm (R260). -/
def R.INT_PF_REARM_rearm (f : Nat) : Fld :=
  { off := 0xA108 + 0x100 * f, lo := 0, w := 4, cold := 0, acc := .wo }

/-- INT_PF_QSRC.ring (R260). -/
def R.INT_PF_QSRC_ring (f : Nat) (i : Nat) : Fld :=
  { off := 0xA110 + 0x100 * f + 4 * i, lo := 0, w := 32, cold := 0, acc := .derived }

/-- INT_PF_MSRC.chan (R260). -/
def R.INT_PF_MSRC_chan (f : Nat) : Fld :=
  { off := 0xA118 + 0x100 * f, lo := 0, w := 16, cold := 0, acc := .derived }

/-- INT_PF_ASRC.acr (R260). -/
def R.INT_PF_ASRC_acr (f : Nat) : Fld :=
  { off := 0xA11C + 0x100 * f, lo := 0, w := 1, cold := 0, acc := .derived }

/-- INT_PF_MSG_CNT.count (R260). -/
def R.INT_PF_MSG_CNT_count (f : Nat) (x : Nat) : Fld :=
  { off := 0xA120 + 0x100 * f + 4 * x, lo := 0, w := 32, cold := 0, acc := .ro, keep := true }

/-- DBL_SQ_TAIL.value (R325). -/
def R.DBL_SQ_TAIL_value (n : Nat) : Fld :=
  { off := 0x10000 + 8 * n, lo := 0, w := 13, cold := 0, acc := .wo }

/-- DBL_SQ_RESUME.value (R325). -/
def R.DBL_SQ_RESUME_value (n : Nat) : Fld :=
  { off := 0x10004 + 8 * n, lo := 0, w := 13, cold := 0, acc := .wo }

/-- DBL_CR_HEAD.head (R325). -/
def R.DBL_CR_HEAD_head (m : Nat) : Fld :=
  { off := 0x10800 + 4 * m, lo := 0, w := 13, cold := 0, acc := .wo }

/-- QMG_SQ_STATE.state (R325). -/
def R.QMG_SQ_STATE_state (n : Nat) : Fld :=
  { off := 0x14000 + 0x10 * n, lo := 0, w := 2, cold := 0, acc := .derived }

/-- QMG_SQ_STATE.priority (R325). -/
def R.QMG_SQ_STATE_priority (n : Nat) : Fld :=
  { off := 0x14000 + 0x10 * n, lo := 2, w := 3, cold := 0, acc := .derived }

/-- QMG_SQ_STATE.unordered (R325). -/
def R.QMG_SQ_STATE_unordered (n : Nat) : Fld :=
  { off := 0x14000 + 0x10 * n, lo := 5, w := 1, cold := 0, acc := .derived }

/-- QMG_SQ_STATE.owner (R325). -/
def R.QMG_SQ_STATE_owner (n : Nat) : Fld :=
  { off := 0x14000 + 0x10 * n, lo := 6, w := 1, cold := 0, acc := .derived }

/-- QMG_SQ_STATE.cr (R325). -/
def R.QMG_SQ_STATE_cr (n : Nat) : Fld :=
  { off := 0x14000 + 0x10 * n, lo := 8, w := 6, cold := 0, acc := .derived }

/-- QMG_SQ_STATE.log2_depth (R325). -/
def R.QMG_SQ_STATE_log2_depth (n : Nat) : Fld :=
  { off := 0x14000 + 0x10 * n, lo := 16, w := 4, cold := 0, acc := .derived }

/-- QMG_SQ_STATE.err (R325). -/
def R.QMG_SQ_STATE_err (n : Nat) : Fld :=
  { off := 0x14000 + 0x10 * n, lo := 20, w := 3, cold := 0, acc := .derived }

/-- QMG_SQ_PTR.head (R325). -/
def R.QMG_SQ_PTR_head (n : Nat) : Fld :=
  { off := 0x14004 + 0x10 * n, lo := 0, w := 13, cold := 0, acc := .derived }

/-- QMG_SQ_PTR.tail (R325). -/
def R.QMG_SQ_PTR_tail (n : Nat) : Fld :=
  { off := 0x14004 + 0x10 * n, lo := 16, w := 13, cold := 0, acc := .derived }

/-- QMG_SQ_ERR.value (R325). -/
def R.QMG_SQ_ERR_value (n : Nat) : Fld :=
  { off := 0x14008 + 0x10 * n, lo := 0, w := 13, cold := 0, acc := .derived }

/-- QMG_SQ_TAGS.held (R325). -/
def R.QMG_SQ_TAGS_held (n : Nat) : Fld :=
  { off := 0x1400C + 0x10 * n, lo := 0, w := 12, cold := 0, acc := .derived }

/-- QMG_SQ_TAGS.tag_max (R325). -/
def R.QMG_SQ_TAGS_tag_max (n : Nat) : Fld :=
  { off := 0x1400C + 0x10 * n, lo := 16, w := 12, cold := 2048, acc := .rw, mids := 4, ok := [(1, 2048)] }

/-- QMG_CR_STATE.exists (R325). -/
def R.QMG_CR_STATE_exists (m : Nat) : Fld :=
  { off := 0x15000 + 0x20 * m, lo := 0, w := 1, cold := 0, acc := .derived }

/-- QMG_CR_STATE.owner (R325). -/
def R.QMG_CR_STATE_owner (m : Nat) : Fld :=
  { off := 0x15000 + 0x20 * m, lo := 1, w := 1, cold := 0, acc := .derived }

/-- QMG_CR_STATE.log2_depth (R325). -/
def R.QMG_CR_STATE_log2_depth (m : Nat) : Fld :=
  { off := 0x15000 + 0x20 * m, lo := 4, w := 4, cold := 0, acc := .derived }

/-- QMG_CR_STATE.bound (R325). -/
def R.QMG_CR_STATE_bound (m : Nat) : Fld :=
  { off := 0x15000 + 0x20 * m, lo := 8, w := 8, cold := 0, acc := .derived }

/-- QMG_CR_PTR.tail (R325). -/
def R.QMG_CR_PTR_tail (m : Nat) : Fld :=
  { off := 0x15004 + 0x20 * m, lo := 0, w := 13, cold := 0, acc := .derived }

/-- QMG_CR_PTR.head (R325). -/
def R.QMG_CR_PTR_head (m : Nat) : Fld :=
  { off := 0x15004 + 0x20 * m, lo := 16, w := 13, cold := 0, acc := .derived }

/-- QMG_CR_RSV.reserved (R325). -/
def R.QMG_CR_RSV_reserved (m : Nat) : Fld :=
  { off := 0x15008 + 0x20 * m, lo := 0, w := 13, cold := 0, acc := .derived }

/-- QMG_CR_EVT.cause (R325). -/
def R.QMG_CR_EVT_cause (m : Nat) : Fld :=
  { off := 0x1500C + 0x20 * m, lo := 0, w := 3, cold := 0, acc := .w1c }

/-- QMG_CR_INT.en (R325). -/
def R.QMG_CR_INT_en (m : Nat) : Fld :=
  { off := 0x15010 + 0x20 * m, lo := 0, w := 1, cold := 1, acc := .rw }

/-- QMG_CR_INT.threshold (R325). -/
def R.QMG_CR_INT_threshold (m : Nat) : Fld :=
  { off := 0x15010 + 0x20 * m, lo := 8, w := 7, cold := 1, acc := .rw, ok := [(1, 64)] }

/-- QMG_CR_INT.delay (R325). -/
def R.QMG_CR_INT_delay (m : Nat) : Fld :=
  { off := 0x15010 + 0x20 * m, lo := 16, w := 8, cold := 0, acc := .rw }

/-- QMG_CR_CNT.count (R325). -/
def R.QMG_CR_CNT_count (m : Nat) (i : Nat) : Fld :=
  { off := 0x15014 + 0x20 * m + 4 * i, lo := 0, w := 32, cold := 0, acc := .ro }

/-- QMG_ADM_CTL.owner (R325). -/
def R.QMG_ADM_CTL_owner : Fld :=
  { off := 0x15840, lo := 1, w := 1, cold := 0, acc := .ro }

/-- QMG_ADM_CTL.sq_log2 (R325). -/
def R.QMG_ADM_CTL_sq_log2 : Fld :=
  { off := 0x15840, lo := 4, w := 4, cold := 0, acc := .rw, ok := [(1, 12)], lock := some (R.QMG_ADM_CTL_enable).key }

/-- QMG_ADM_CTL.acr_log2 (R325). -/
def R.QMG_ADM_CTL_acr_log2 : Fld :=
  { off := 0x15840, lo := 8, w := 4, cold := 0, acc := .rw, ok := [(1, 12)], lock := some (R.QMG_ADM_CTL_enable).key }

/-- QMG_ADM_SQ_BASE.base (R325). -/
def R.QMG_ADM_SQ_BASE_base : Fld :=
  { off := 0x15848, lo := 0, w := 64, cold := 0, acc := .rw, align := 6, lock := some (R.QMG_ADM_CTL_enable).key }

/-- QMG_ADM_CR_BASE.base (R325). -/
def R.QMG_ADM_CR_BASE_base : Fld :=
  { off := 0x15850, lo := 0, w := 64, cold := 0, acc := .rw, align := 6, lock := some (R.QMG_ADM_CTL_enable).key }

/-- QMG_ADM_REPLY_BASE.base (R325). -/
def R.QMG_ADM_REPLY_BASE_base : Fld :=
  { off := 0x15858, lo := 0, w := 64, cold := 0, acc := .rw, align := 6, lock := some (R.QMG_ADM_CTL_enable).key }

/-- QMG_EVT.cause (R325). -/
def R.QMG_EVT_cause : Fld :=
  { off := 0x15880, lo := 0, w := 3, cold := 0, acc := .w1c }

/-- QMG_EVT_CNT.count (R325). -/
def R.QMG_EVT_CNT_count (i : Nat) : Fld :=
  { off := 0x15884 + 4 * i, lo := 0, w := 32, cold := 0, acc := .ro }

/-- CHE_TAGS_FREE.free (R363). -/
def R.CHE_TAGS_FREE_free : Fld :=
  { off := 0x20000, lo := 0, w := 12, cold := 2048, acc := .derived }

/-- CHE_FAR_SLOTS.used (R363). -/
def R.CHE_FAR_SLOTS_used : Fld :=
  { off := 0x20004, lo := 0, w := 10, cold := 0, acc := .derived }

/-- CHE_DEF_TIMEOUT.value (R363). -/
def R.CHE_DEF_TIMEOUT_value : Fld :=
  { off := 0x20008, lo := 0, w := 24, cold := 100, acc := .rw, mids := 4, ok := [(1, 16777215)] }

/-- CHE_DEF_TIMEOUT.scale (R363). -/
def R.CHE_DEF_TIMEOUT_scale : Fld :=
  { off := 0x20008, lo := 24, w := 1, cold := 1, acc := .rw, mids := 4 }

/-- CHE_TAG_SEL.tag (R363). -/
def R.CHE_TAG_SEL_tag (mid : Nat) : Fld :=
  { off := 0x20010 + 0x100000 * (mid + 1), lo := 0, w := 11, cold := 0, acc := .rw }

/-- CHE_TAG_STATE.state (R363). -/
def R.CHE_TAG_STATE_state : Fld :=
  { off := 0x20014, lo := 0, w := 4, cold := 0, acc := .derived }

/-- CHE_TAG_STATE.resume_pending (R363). -/
def R.CHE_TAG_STATE_resume_pending : Fld :=
  { off := 0x20014, lo := 4, w := 1, cold := 0, acc := .derived }

/-- CHE_TAG_STATE.sq (R363). -/
def R.CHE_TAG_STATE_sq : Fld :=
  { off := 0x20014, lo := 8, w := 8, cold := 0, acc := .derived }

/-- CHE_TAG_STATE.index (R363). -/
def R.CHE_TAG_STATE_index : Fld :=
  { off := 0x20014, lo := 16, w := 12, cold := 0, acc := .derived }

/-- CHE_TAG_CCW.addr (R363). -/
def R.CHE_TAG_CCW_addr : Fld :=
  { off := 0x20018, lo := 0, w := 64, cold := 0, acc := .derived }

/-- CHE_TAG_COUNT.jumps (R363). -/
def R.CHE_TAG_COUNT_jumps : Fld :=
  { off := 0x20020, lo := 0, w := 9, cold := 0, acc := .derived }

/-- CHE_TAG_COUNT.ccws (R363). -/
def R.CHE_TAG_COUNT_ccws : Fld :=
  { off := 0x20020, lo := 16, w := 16, cold := 0, acc := .derived }

/-- CHE_EVT.cause (R363). -/
def R.CHE_EVT_cause : Fld :=
  { off := 0x20040, lo := 0, w := 5, cold := 0, acc := .w1c }

/-- CHE_EVT_CNT.count (R363). -/
def R.CHE_EVT_CNT_count (i : Nat) : Fld :=
  { off := 0x20050 + 4 * i, lo := 0, w := 32, cold := 0, acc := .ro }

/-- CHE_SE.programs (R363). -/
def R.CHE_SE_programs (k : Nat) : Fld :=
  { off := 0x20100 + 4 * k, lo := 0, w := 7, cold := 0, acc := .derived }

/-- CHE_SE.physical (R363). -/
def R.CHE_SE_physical (k : Nat) : Fld :=
  { off := 0x20100 + 4 * k, lo := 8, w := 6, cold := k, acc := .derived }

/-- CHE_SE.moving (R363). -/
def R.CHE_SE_moving (k : Nat) : Fld :=
  { off := 0x20100 + 4 * k, lo := 16, w := 1, cold := 0, acc := .derived }

/-- CHE_END_CNT.count (R363). -/
def R.CHE_END_CNT_count (s : Nat) : Fld :=
  { off := 0x20200 + 4 * s, lo := 0, w := 32, cold := 0, acc := .ro }

/-- TLN_INV.se_free (R643). -/
def R.TLN_INV_se_free : Fld :=
  { off := 0x28000, lo := 0, w := 3, cold := 4, acc := .derived }

/-- TLN_INV.bank_free (R643). -/
def R.TLN_INV_bank_free : Fld :=
  { off := 0x28000, lo := 4, w := 1, cold := 1, acc := .derived }

/-- TLN_INV.rows_free (R643). -/
def R.TLN_INV_rows_free : Fld :=
  { off := 0x28000, lo := 8, w := 9, cold := 400, acc := .derived }

/-- TLN_CMD.repair (R643). -/
def R.TLN_CMD_repair : Fld :=
  { off := 0x28004, lo := 0, w := 1, cold := 0, acc := .wo }

/-- TLN_CMD.retire_se (R643). -/
def R.TLN_CMD_retire_se : Fld :=
  { off := 0x28004, lo := 1, w := 1, cold := 0, acc := .wo }

/-- TLN_CMD.clear_lane (R643). -/
def R.TLN_CMD_clear_lane : Fld :=
  { off := 0x28004, lo := 2, w := 1, cold := 0, acc := .wo }

/-- TLN_CMD.index (R643). -/
def R.TLN_CMD_index : Fld :=
  { off := 0x28004, lo := 8, w := 6, cold := 0, acc := .wo }

/-- TLN_CMD.port (R643). -/
def R.TLN_CMD_port : Fld :=
  { off := 0x28004, lo := 16, w := 1, cold := 0, acc := .wo }

/-- TLN_STATUS.repairing (R643). -/
def R.TLN_STATUS_repairing : Fld :=
  { off := 0x28008, lo := 0, w := 1, cold := 0, acc := .ro }

/-- TLN_STATUS.migrating (R643). -/
def R.TLN_STATUS_migrating : Fld :=
  { off := 0x28008, lo := 1, w := 1, cold := 0, acc := .ro }

/-- TLN_STATUS.queued (R643). -/
def R.TLN_STATUS_queued : Fld :=
  { off := 0x28008, lo := 8, w := 7, cold := 0, acc := .derived }

/-- TLN_STATUS.bank_queued (R643). -/
def R.TLN_STATUS_bank_queued : Fld :=
  { off := 0x28008, lo := 16, w := 1, cold := 0, acc := .derived }

/-- TLN_ROW_REQ.word (R643). -/
def R.TLN_ROW_REQ_word : Fld :=
  { off := 0x2800C, lo := 0, w := 16, cold := 0, acc := .wo }

/-- TLN_ROW_REQ.bank (R643). -/
def R.TLN_ROW_REQ_bank : Fld :=
  { off := 0x2800C, lo := 16, w := 5, cold := 0, acc := .wo }

/-- TLN_RP.rows (R643). -/
def R.TLN_RP_rows : Fld :=
  { off := 0x28010, lo := 0, w := 9, cold := 0, acc := .ro }

/-- TLN_RP.banks (R643). -/
def R.TLN_RP_banks : Fld :=
  { off := 0x28010, lo := 12, w := 1, cold := 0, acc := .ro }

/-- TLN_RP.subengines (R643). -/
def R.TLN_RP_subengines : Fld :=
  { off := 0x28010, lo := 16, w := 4, cold := 0, acc := .ro }

/-- TLN_JRNL.used (R643). -/
def R.TLN_JRNL_used : Fld :=
  { off := 0x28014, lo := 0, w := 17, cold := 0, acc := .derived }

/-- TLN_SPARE_TEST.interval (R643). -/
def R.TLN_SPARE_TEST_interval : Fld :=
  { off := 0x28018, lo := 0, w := 10, cold := 100, acc := .rw, mids := 4, ok := [(10, 1000)] }

/-- TLN_EVT.cause (R643). -/
def R.TLN_EVT_cause : Fld :=
  { off := 0x28020, lo := 0, w := 9, cold := 0, acc := .w1c }

/-- TLN_SA_SEL.bank (R643). -/
def R.TLN_SA_SEL_bank (mid : Nat) : Fld :=
  { off := 0x28030 + 0x100000 * (mid + 1), lo := 0, w := 5, cold := 0, acc := .rw }

/-- TLN_SA_SEL.sub_array (R643). -/
def R.TLN_SA_SEL_sub_array (mid : Nat) : Fld :=
  { off := 0x28030 + 0x100000 * (mid + 1), lo := 8, w := 3, cold := 0, acc := .rw }

/-- TLN_SA_STATE.spare0 (R643). -/
def R.TLN_SA_STATE_spare0 : Fld :=
  { off := 0x28034, lo := 0, w := 2, cold := 0, acc := .derived }

/-- TLN_SA_STATE.spare1 (R643). -/
def R.TLN_SA_STATE_spare1 : Fld :=
  { off := 0x28034, lo := 2, w := 2, cold := 0, acc := .derived }

/-- TLN_SA_STATE.row0 (R643). -/
def R.TLN_SA_STATE_row0 : Fld :=
  { off := 0x28034, lo := 4, w := 9, cold := 0, acc := .derived }

/-- TLN_SA_STATE.row1 (R643). -/
def R.TLN_SA_STATE_row1 : Fld :=
  { off := 0x28034, lo := 13, w := 9, cold := 0, acc := .derived }

/-- TLN_EVT_CNT.count (R643). -/
def R.TLN_EVT_CNT_count (i : Nat) : Fld :=
  { off := 0x28060 + 4 * i, lo := 0, w := 32, cold := 0, acc := .ro }

/-- TLN_Q.row (R643). -/
def R.TLN_Q_row (i : Nat) : Fld :=
  { off := 0x28100 + 4 * i, lo := 0, w := 17, cold := 0, acc := .derived }

/-- TLN_Q.valid (R643). -/
def R.TLN_Q_valid (i : Nat) : Fld :=
  { off := 0x28100 + 4 * i, lo := 31, w := 1, cold := 0, acc := .derived }

/-- TLN_PSE.state (R643). -/
def R.TLN_PSE_state (p : Nat) : Fld :=
  { off := 0x28200 + 4 * p, lo := 0, w := 2, cold := 0, acc := .derived }

/-- TLN_PSE.logical (R643). -/
def R.TLN_PSE_logical (p : Nat) : Fld :=
  { off := 0x28200 + 4 * p, lo := 8, w := 5, cold := 0, acc := .derived }

/-- TLN_PSE.fused (R643). -/
def R.TLN_PSE_fused (p : Nat) : Fld :=
  { off := 0x28200 + 4 * p, lo := 16, w := 1, cold := 0, acc := .derived }

/-- BUF_BANK.class (R402). -/
def R.BUF_BANK_class (b : Nat) : Fld :=
  { off := 0x30000 + 4 * b, lo := 0, w := 3, cold := 0, acc := .derived }

/-- BUF_BANK.physical (R402). -/
def R.BUF_BANK_physical (b : Nat) : Fld :=
  { off := 0x30000 + 4 * b, lo := 8, w := 5, cold := b, acc := .derived }

/-- BUF_BANK.retired (R402). -/
def R.BUF_BANK_retired (b : Nat) : Fld :=
  { off := 0x30000 + 4 * b, lo := 16, w := 1, cold := 0, acc := .derived }

/-- BUF_BANK_CNT.count (R402). -/
def R.BUF_BANK_CNT_count (b : Nat) (i : Nat) : Fld :=
  { off := 0x30080 + 8 * b + 4 * i, lo := 0, w := 32, cold := 0, acc := .ro }

/-- BUF_FREE.units (R402). -/
def R.BUF_FREE_units : Fld :=
  { off := 0x30200, lo := 0, w := 14, cold := 5664, acc := .derived }

/-- BUF_FREE.largest (R402). -/
def R.BUF_FREE_largest : Fld :=
  { off := 0x30200, lo := 16, w := 4, cold := 11, acc := .derived }

/-- BUF_EVT.cause (R402). -/
def R.BUF_EVT_cause : Fld :=
  { off := 0x30204, lo := 0, w := 2, cold := 0, acc := .w1c }

/-- BUF_LAST.q (R402). -/
def R.BUF_LAST_q : Fld :=
  { off := 0x30208, lo := 0, w := 8, cold := 0, acc := .ro }

/-- BUF_LAST.reason (R402). -/
def R.BUF_LAST_reason : Fld :=
  { off := 0x30208, lo := 8, w := 4, cold := 0, acc := .ro }

/-- BUF_EVT_CNT.count (R402). -/
def R.BUF_EVT_CNT_count (i : Nat) : Fld :=
  { off := 0x30210 + 4 * i, lo := 0, w := 32, cold := 0, acc := .ro }

/-- BUF_CHAIN_STATUS.fill (R402). -/
def R.BUF_CHAIN_STATUS_fill (c : Nat) : Fld :=
  { off := 0x30300 + 0x10 * c, lo := 0, w := 5, cold := 0, acc := .derived }

/-- BUF_CHAIN_STATUS.empty (R402). -/
def R.BUF_CHAIN_STATUS_empty (c : Nat) : Fld :=
  { off := 0x30300 + 0x10 * c, lo := 8, w := 1, cold := 1, acc := .derived }

/-- BUF_CHAIN_EVT.cause (R402). -/
def R.BUF_CHAIN_EVT_cause (c : Nat) : Fld :=
  { off := 0x30304 + 0x10 * c, lo := 0, w := 2, cold := 0, acc := .w1c }

/-- BUF_CHAIN_CNT.count (R402). -/
def R.BUF_CHAIN_CNT_count (c : Nat) (i : Nat) : Fld :=
  { off := 0x30308 + 0x10 * c + 4 * i, lo := 0, w := 32, cold := 0, acc := .ro }

/-- BUF_Q_CFG.en (R402). -/
def R.BUF_Q_CFG_en (q : Nat) : Fld :=
  { off := 0x31000 + 0x40 * q, lo := 0, w := 1, cold := 1, acc := .rw }

/-- BUF_Q_CFG.log2 (R402). -/
def R.BUF_Q_CFG_log2 (q : Nat) : Fld :=
  { off := 0x31000 + 0x40 * q, lo := 4, w := 4, cold := (qLog2Cold q), acc := .rw }

/-- BUF_Q_CFG.base (R402). -/
def R.BUF_Q_CFG_base (q : Nat) : Fld :=
  { off := 0x31000 + 0x40 * q, lo := 16, w := 14, cold := (qBaseCold q), acc := .rw }

/-- BUF_Q_PTR0.w (R402). -/
def R.BUF_Q_PTR0_w (q : Nat) : Fld :=
  { off := 0x31004 + 0x40 * q, lo := 0, w := 16, cold := 0, acc := .derived }

/-- BUF_Q_PTR0.c (R402). -/
def R.BUF_Q_PTR0_c (q : Nat) : Fld :=
  { off := 0x31004 + 0x40 * q, lo := 16, w := 16, cold := 0, acc := .derived }

/-- BUF_Q_PTR1.r (R402). -/
def R.BUF_Q_PTR1_r (q : Nat) : Fld :=
  { off := 0x31008 + 0x40 * q, lo := 0, w := 16, cold := 0, acc := .derived }

/-- BUF_Q_PTR1.room (R402). -/
def R.BUF_Q_PTR1_room (q : Nat) : Fld :=
  { off := 0x31008 + 0x40 * q, lo := 16, w := 16, cold := 0, acc := .derived }

/-- BUF_Q_STATUS.empty (R402). -/
def R.BUF_Q_STATUS_empty (q : Nat) : Fld :=
  { off := 0x3100C + 0x40 * q, lo := 0, w := 1, cold := 1, acc := .derived }

/-- BUF_Q_STATUS.dropping (R402). -/
def R.BUF_Q_STATUS_dropping (q : Nat) : Fld :=
  { off := 0x3100C + 0x40 * q, lo := 1, w := 1, cold := 0, acc := .derived }

/-- BUF_Q_STATUS.claimed (R402). -/
def R.BUF_Q_STATUS_claimed (q : Nat) : Fld :=
  { off := 0x3100C + 0x40 * q, lo := 2, w := 1, cold := 0, acc := .derived }

/-- BUF_Q_STATUS.gap_pending (R402). -/
def R.BUF_Q_STATUS_gap_pending (q : Nat) : Fld :=
  { off := 0x3100C + 0x40 * q, lo := 3, w := 1, cold := 0, acc := .derived }

/-- BUF_Q_STATUS.packets (R402). -/
def R.BUF_Q_STATUS_packets (q : Nat) : Fld :=
  { off := 0x3100C + 0x40 * q, lo := 16, w := 16, cold := 0, acc := .derived }

/-- BUF_Q_EVT.cause (R402). -/
def R.BUF_Q_EVT_cause (q : Nat) : Fld :=
  { off := 0x31010 + 0x40 * q, lo := 0, w := 4, cold := 0, acc := .w1c }

/-- BUF_Q_CMD.drop_pkt (R402). -/
def R.BUF_Q_CMD_drop_pkt (q : Nat) : Fld :=
  { off := 0x31014 + 0x40 * q, lo := 0, w := 1, cold := 0, acc := .wo }

/-- BUF_Q_EVT_CNT.count (R402). -/
def R.BUF_Q_EVT_CNT_count (q : Nat) (i : Nat) : Fld :=
  { off := 0x31020 + 0x40 * q + 4 * i, lo := 0, w := 32, cold := 0, acc := .ro }

/-- BUF_Q_CORR_CNT.count (R402). -/
def R.BUF_Q_CORR_CNT_count (q : Nat) : Fld :=
  { off := 0x31030 + 0x40 * q, lo := 0, w := 32, cold := 0, acc := .ro }

/-- BUF_Q_WDROP_CNT.count (R402). -/
def R.BUF_Q_WDROP_CNT_count (q : Nat) : Fld :=
  { off := 0x31034 + 0x40 * q, lo := 0, w := 32, cold := 0, acc := .ro }

/-- BUF_Q_PDROP_CNT.count (R402). -/
def R.BUF_Q_PDROP_CNT_count (q : Nat) : Fld :=
  { off := 0x31038 + 0x40 * q, lo := 0, w := 32, cold := 0, acc := .ro }

/-- BUF_Q_PKT_CNT.count (R402). -/
def R.BUF_Q_PKT_CNT_count (q : Nat) : Fld :=
  { off := 0x3103C + 0x40 * q, lo := 0, w := 32, cold := 0, acc := .ro }

/-- CAN_CTL.mode (R449). -/
def R.CAN_CTL_mode (m : Nat) : Fld :=
  { off := 0x40000 + 0x800 * m, lo := 1, w := 2, cold := 0, acc := .rw, ok := [(0, 2)], lock := some (R.CAN_CTL_en m).key }

/-- CAN_CTL.fd_en (R449). -/
def R.CAN_CTL_fd_en (m : Nat) : Fld :=
  { off := 0x40000 + 0x800 * m, lo := 3, w := 1, cold := 0, acc := .rw, lock := some (R.CAN_CTL_en m).key }

/-- CAN_CTL.xl_en (R449). -/
def R.CAN_CTL_xl_en (m : Nat) : Fld :=
  { off := 0x40000 + 0x800 * m, lo := 4, w := 1, cold := 0, acc := .rw, lock := some (R.CAN_CTL_en m).key, present := decide (m ≤ 3) }

/-- CAN_CTL.pex (R449). -/
def R.CAN_CTL_pex (m : Nat) : Fld :=
  { off := 0x40000 + 0x800 * m, lo := 5, w := 1, cold := 1, acc := .rw }

/-- CAN_CTL.auto_recover (R449). -/
def R.CAN_CTL_auto_recover (m : Nat) : Fld :=
  { off := 0x40000 + 0x800 * m, lo := 6, w := 1, cold := 0, acc := .rw }

/-- CAN_CTL.one_shot (R449). -/
def R.CAN_CTL_one_shot (m : Nat) : Fld :=
  { off := 0x40000 + 0x800 * m, lo := 7, w := 1, cold := 0, acc := .rw }

/-- CAN_CTL.retry_limit (R449). -/
def R.CAN_CTL_retry_limit (m : Nat) : Fld :=
  { off := 0x40000 + 0x800 * m, lo := 8, w := 4, cold := 0, acc := .rw }

/-- CAN_CTL.j1939 (R449). -/
def R.CAN_CTL_j1939 (m : Nat) : Fld :=
  { off := 0x40000 + 0x800 * m, lo := 12, w := 1, cold := 0, acc := .rw }

/-- CAN_CTL.tms (R449). -/
def R.CAN_CTL_tms (m : Nat) : Fld :=
  { off := 0x40000 + 0x800 * m, lo := 13, w := 1, cold := 0, acc := .rw, present := decide (m ≤ 3) }

/-- CAN_CTL.iso11992 (R449). -/
def R.CAN_CTL_iso11992 (m : Nat) : Fld :=
  { off := 0x40000 + 0x800 * m, lo := 14, w := 1, cold := 0, acc := .rw, present := decide (12 ≤ m) }

/-- CAN_NBT.brp (R449). -/
def R.CAN_NBT_brp (m : Nat) : Fld :=
  { off := 0x40004 + 0x800 * m, lo := 0, w := 8, cold := 2, acc := .rw, lock := some (R.CAN_CTL_en m).key }

/-- CAN_NBT.tseg1 (R449). -/
def R.CAN_NBT_tseg1 (m : Nat) : Fld :=
  { off := 0x40004 + 0x800 * m, lo := 8, w := 8, cold := 15, acc := .rw, lock := some (R.CAN_CTL_en m).key }

/-- CAN_NBT.tseg2 (R449). -/
def R.CAN_NBT_tseg2 (m : Nat) : Fld :=
  { off := 0x40004 + 0x800 * m, lo := 16, w := 7, cold := 8, acc := .rw, lock := some (R.CAN_CTL_en m).key }

/-- CAN_NBT.sjw (R449). -/
def R.CAN_NBT_sjw (m : Nat) : Fld :=
  { off := 0x40004 + 0x800 * m, lo := 23, w := 7, cold := 16, acc := .rw, lock := some (R.CAN_CTL_en m).key }

/-- CAN_DBT.brp (R449). -/
def R.CAN_DBT_brp (m : Nat) : Fld :=
  { off := 0x40008 + 0x800 * m, lo := 0, w := 8, cold := 1, acc := .rw, lock := some (R.CAN_CTL_en m).key }

/-- CAN_DBT.tseg1 (R449). -/
def R.CAN_DBT_tseg1 (m : Nat) : Fld :=
  { off := 0x40008 + 0x800 * m, lo := 8, w := 8, cold := 7, acc := .rw, lock := some (R.CAN_CTL_en m).key }

/-- CAN_DBT.tseg2 (R449). -/
def R.CAN_DBT_tseg2 (m : Nat) : Fld :=
  { off := 0x40008 + 0x800 * m, lo := 16, w := 7, cold := 2, acc := .rw, lock := some (R.CAN_CTL_en m).key }

/-- CAN_DBT.sjw (R449). -/
def R.CAN_DBT_sjw (m : Nat) : Fld :=
  { off := 0x40008 + 0x800 * m, lo := 23, w := 7, cold := 4, acc := .rw, lock := some (R.CAN_CTL_en m).key }

/-- CAN_XBT.brp (R449). -/
def R.CAN_XBT_brp (m : Nat) : Fld :=
  { off := 0x4000C + 0x800 * m, lo := 0, w := 8, cold := 1, acc := .rw, lock := some (R.CAN_CTL_en m).key, present := decide (m ≤ 3) }

/-- CAN_XBT.tseg1 (R449). -/
def R.CAN_XBT_tseg1 (m : Nat) : Fld :=
  { off := 0x4000C + 0x800 * m, lo := 8, w := 8, cold := 5, acc := .rw, lock := some (R.CAN_CTL_en m).key, present := decide (m ≤ 3) }

/-- CAN_XBT.tseg2 (R449). -/
def R.CAN_XBT_tseg2 (m : Nat) : Fld :=
  { off := 0x4000C + 0x800 * m, lo := 16, w := 7, cold := 2, acc := .rw, lock := some (R.CAN_CTL_en m).key, present := decide (m ≤ 3) }

/-- CAN_XBT.sjw (R449). -/
def R.CAN_XBT_sjw (m : Nat) : Fld :=
  { off := 0x4000C + 0x800 * m, lo := 23, w := 7, cold := 4, acc := .rw, lock := some (R.CAN_CTL_en m).key, present := decide (m ≤ 3) }

/-- CAN_TDC.en (R449). -/
def R.CAN_TDC_en (m : Nat) : Fld :=
  { off := 0x40010 + 0x800 * m, lo := 0, w := 1, cold := 0, acc := .rw, lock := some (R.CAN_CTL_en m).key }

/-- CAN_TDC.offset (R449). -/
def R.CAN_TDC_offset (m : Nat) : Fld :=
  { off := 0x40010 + 0x800 * m, lo := 1, w := 7, cold := 0, acc := .rw, lock := some (R.CAN_CTL_en m).key }

/-- CAN_STATUS.state (R449). -/
def R.CAN_STATUS_state (m : Nat) : Fld :=
  { off := 0x40014 + 0x800 * m, lo := 0, w := 2, cold := 3, acc := .derived }

/-- CAN_STATUS.tec (R449). -/
def R.CAN_STATUS_tec (m : Nat) : Fld :=
  { off := 0x40014 + 0x800 * m, lo := 8, w := 8, cold := 0, acc := .ro }

/-- CAN_STATUS.rec (R449). -/
def R.CAN_STATUS_rec (m : Nat) : Fld :=
  { off := 0x40014 + 0x800 * m, lo := 16, w := 8, cold := 0, acc := .ro }

/-- CAN_STATUS.lec (R449). -/
def R.CAN_STATUS_lec (m : Nat) : Fld :=
  { off := 0x40014 + 0x800 * m, lo := 24, w := 3, cold := 0, acc := .ro }

/-- CAN_STATUS.host_off (R449). -/
def R.CAN_STATUS_host_off (m : Nat) : Fld :=
  { off := 0x40014 + 0x800 * m, lo := 27, w := 1, cold := 0, acc := .ro }

/-- CAN_EVT.cause (R449). -/
def R.CAN_EVT_cause (m : Nat) : Fld :=
  { off := 0x40018 + 0x800 * m, lo := 0, w := 10, cold := 0, acc := .w1c }

/-- CAN_PWM.pwms (R449). -/
def R.CAN_PWM_pwms (m : Nat) : Fld :=
  { off := 0x4001C + 0x800 * m, lo := 0, w := 6, cold := 0, acc := .rw, present := decide (m ≤ 3) }

/-- CAN_PWM.pwml (R449). -/
def R.CAN_PWM_pwml (m : Nat) : Fld :=
  { off := 0x4001C + 0x800 * m, lo := 8, w := 6, cold := 0, acc := .rw, present := decide (m ≤ 3) }

/-- CAN_PWM.pwmo (R449). -/
def R.CAN_PWM_pwmo (m : Nat) : Fld :=
  { off := 0x4001C + 0x800 * m, lo := 16, w := 6, cold := 0, acc := .rw, present := decide (m ≤ 3) }

/-- CAN_EVT_CNT.count (R449). -/
def R.CAN_EVT_CNT_count (m : Nat) (i : Nat) : Fld :=
  { off := 0x40038 + 0x800 * m + 4 * i, lo := 0, w := 32, cold := 0, acc := .ro }

/-- CAN_FLT_ID.value (R449). -/
def R.CAN_FLT_ID_value (m : Nat) (f : Nat) : Fld :=
  { off := 0x40100 + 0x800 * m + 8 * f, lo := 0, w := 29, cold := 0, acc := .rw }

/-- CAN_FLT_ID.fmt (R449). -/
def R.CAN_FLT_ID_fmt (m : Nat) (f : Nat) : Fld :=
  { off := 0x40100 + 0x800 * m + 8 * f, lo := 29, w := 3, cold := 0, acc := .rw, ok := [(0, 3)] }

/-- CAN_FLT_MASK.mask (R449). -/
def R.CAN_FLT_MASK_mask (m : Nat) (f : Nat) : Fld :=
  { off := 0x40104 + 0x800 * m + 8 * f, lo := 0, w := 29, cold := 0, acc := .rw }

/-- CAN_FLT_MASK.j1939 (R449). -/
def R.CAN_FLT_MASK_j1939 (m : Nat) (f : Nat) : Fld :=
  { off := 0x40104 + 0x800 * m + 8 * f, lo := 29, w := 1, cold := 0, acc := .rw }

/-- CAN_FLT_MASK.class (R449). -/
def R.CAN_FLT_MASK_class (m : Nat) (f : Nat) : Fld :=
  { off := 0x40104 + 0x800 * m + 8 * f, lo := 30, w := 2, cold := 0, acc := .rw }

/-- CAN_XL_AF.af (R449). -/
def R.CAN_XL_AF_af (m : Nat) (k : Nat) : Fld :=
  { off := 0x40500 + 0x800 * m + 4 * k, lo := 0, w := 32, cold := 0, acc := .rw, present := decide (m ≤ 3) }

/-- CAN_PTX_CTL.en (R449). -/
def R.CAN_PTX_CTL_en (m : Nat) (k : Nat) : Fld :=
  { off := 0x40600 + 0x800 * m + 0x10 * k, lo := 0, w := 1, cold := 0, acc := .rw, present := decide (12 ≤ m) }

/-- CAN_PTX_CTL.period (R449). -/
def R.CAN_PTX_CTL_period (m : Nat) (k : Nat) : Fld :=
  { off := 0x40600 + 0x800 * m + 0x10 * k, lo := 16, w := 16, cold := 0, acc := .rw, ok := [(10, 5000)], present := decide (12 ≤ m) }

/-- CAN_PTX_ID.ident (R449). -/
def R.CAN_PTX_ID_ident (m : Nat) (k : Nat) : Fld :=
  { off := 0x40604 + 0x800 * m + 0x10 * k, lo := 0, w := 29, cold := 0, acc := .rw, present := decide (12 ≤ m) }

/-- CAN_PTX_D0.data (R449). -/
def R.CAN_PTX_D0_data (m : Nat) (k : Nat) : Fld :=
  { off := 0x40608 + 0x800 * m + 0x10 * k, lo := 0, w := 32, cold := 0, acc := .rw, present := decide (12 ≤ m) }

/-- CAN_PTX_D1.data (R449). -/
def R.CAN_PTX_D1_data (m : Nat) (k : Nat) : Fld :=
  { off := 0x4060C + 0x800 * m + 0x10 * k, lo := 0, w := 32, cold := 0, acc := .rw, present := decide (12 ≤ m) }

/-- CAN_SUP_ID.ident (R449). -/
def R.CAN_SUP_ID_ident (m : Nat) (k : Nat) : Fld :=
  { off := 0x40680 + 0x800 * m + 8 * k, lo := 0, w := 29, cold := 0, acc := .rw, present := decide (12 ≤ m) }

/-- CAN_SUP_ID.en (R449). -/
def R.CAN_SUP_ID_en (m : Nat) (k : Nat) : Fld :=
  { off := 0x40680 + 0x800 * m + 8 * k, lo := 31, w := 1, cold := 0, acc := .rw, present := decide (12 ≤ m) }

/-- CAN_SUP_PER.timeout (R449). -/
def R.CAN_SUP_PER_timeout (m : Nat) (k : Nat) : Fld :=
  { off := 0x40684 + 0x800 * m + 8 * k, lo := 0, w := 16, cold := 0, acc := .rw, ok := [(10, 65535)], present := decide (12 ≤ m) }

/-- LIN_CFG.role (R449). -/
def R.LIN_CFG_role (m : Nat) : Fld :=
  { off := 0x48000 + 0x200 * m, lo := 1, w := 1, cold := 0, acc := .rw, lock := some (R.LIN_CFG_en m).key }

/-- LIN_CFG.break_ext (R449). -/
def R.LIN_CFG_break_ext (m : Nat) : Fld :=
  { off := 0x48000 + 0x200 * m, lo := 2, w := 3, cold := 0, acc := .rw }

/-- LIN_CFG.wake_len (R449). -/
def R.LIN_CFG_wake_len (m : Nat) : Fld :=
  { off := 0x48000 + 0x200 * m, lo := 8, w := 8, cold := 0, acc := .rw, ok := [(0, 19)] }

/-- LIN_BAUD.rate (R449). -/
def R.LIN_BAUD_rate (m : Nat) : Fld :=
  { off := 0x48004 + 0x200 * m, lo := 0, w := 15, cold := 19200, acc := .rw, lock := some (R.LIN_CFG_en m).key }

/-- LIN_TBL.first (R449). -/
def R.LIN_TBL_first (m : Nat) (t : Nat) : Fld :=
  { off := 0x48010 + 0x200 * m + 4 * t, lo := 0, w := 6, cold := 0, acc := .rw }

/-- LIN_TBL.count (R449). -/
def R.LIN_TBL_count (m : Nat) (t : Nat) : Fld :=
  { off := 0x48010 + 0x200 * m + 4 * t, lo := 8, w := 7, cold := 0, acc := .rw }

/-- LIN_STATUS.state (R449). -/
def R.LIN_STATUS_state (m : Nat) : Fld :=
  { off := 0x48050 + 0x200 * m, lo := 0, w := 2, cold := 0, acc := .ro }

/-- LIN_STATUS.table (R449). -/
def R.LIN_STATUS_table (m : Nat) : Fld :=
  { off := 0x48050 + 0x200 * m, lo := 8, w := 4, cold := 0, acc := .ro }

/-- LIN_STATUS.slot (R449). -/
def R.LIN_STATUS_slot (m : Nat) : Fld :=
  { off := 0x48050 + 0x200 * m, lo := 16, w := 6, cold := 0, acc := .ro }

/-- LIN_EVT.cause (R449). -/
def R.LIN_EVT_cause (m : Nat) : Fld :=
  { off := 0x48054 + 0x200 * m, lo := 0, w := 8, cold := 0, acc := .w1c }

/-- LIN_EVT_CNT.count (R449). -/
def R.LIN_EVT_CNT_count (m : Nat) (i : Nat) : Fld :=
  { off := 0x48074 + 0x200 * m + 4 * i, lo := 0, w := 32, cold := 0, acc := .ro }

/-- LIN_RSP.action (R449). -/
def R.LIN_RSP_action (m : Nat) (i : Nat) : Fld :=
  { off := 0x48100 + 0x200 * m + 4 * i, lo := 0, w := 2, cold := 0, acc := .rw, ok := [(0, 2)] }

/-- LIN_RSP.length (R449). -/
def R.LIN_RSP_length (m : Nat) (i : Nat) : Fld :=
  { off := 0x48100 + 0x200 * m + 4 * i, lo := 2, w := 4, cold := 0, acc := .rw, ok := [(1, 8)] }

/-- LIN_RSP.enhanced (R449). -/
def R.LIN_RSP_enhanced (m : Nat) (i : Nat) : Fld :=
  { off := 0x48100 + 0x200 * m + 4 * i, lo := 6, w := 1, cold := 0, acc := .rw }

/-- LIN_SLOT_W0.id (R449). -/
def R.LIN_SLOT_W0_id (m : Nat) (s : Nat) : Fld :=
  { off := 0x49000 + 0x200 * m + 8 * s, lo := 0, w := 6, cold := 0, acc := .rw }

/-- LIN_SLOT_W0.type (R449). -/
def R.LIN_SLOT_W0_type (m : Nat) (s : Nat) : Fld :=
  { off := 0x49000 + 0x200 * m + 8 * s, lo := 6, w := 2, cold := 0, acc := .rw }

/-- LIN_SLOT_W0.publish (R449). -/
def R.LIN_SLOT_W0_publish (m : Nat) (s : Nat) : Fld :=
  { off := 0x49000 + 0x200 * m + 8 * s, lo := 8, w := 1, cold := 0, acc := .rw }

/-- LIN_SLOT_W0.length (R449). -/
def R.LIN_SLOT_W0_length (m : Nat) (s : Nat) : Fld :=
  { off := 0x49000 + 0x200 * m + 8 * s, lo := 9, w := 4, cold := 0, acc := .rw }

/-- LIN_SLOT_W0.enhanced (R449). -/
def R.LIN_SLOT_W0_enhanced (m : Nat) (s : Nat) : Fld :=
  { off := 0x49000 + 0x200 * m + 8 * s, lo := 13, w := 1, cold := 0, acc := .rw }

/-- LIN_SLOT_W0.ctable (R449). -/
def R.LIN_SLOT_W0_ctable (m : Nat) (s : Nat) : Fld :=
  { off := 0x49000 + 0x200 * m + 8 * s, lo := 16, w := 4, cold := 0, acc := .rw }

/-- LIN_SLOT_W1.time (R449). -/
def R.LIN_SLOT_W1_time (m : Nat) (s : Nat) : Fld :=
  { off := 0x49004 + 0x200 * m + 8 * s, lo := 0, w := 16, cold := 0, acc := .rw }

/-- SENT_CFG.tick (R449). -/
def R.SENT_CFG_tick (m : Nat) : Fld :=
  { off := 0x4A000 + 0x100 * m, lo := 4, w := 12, cold := 24, acc := .rw, lock := some (R.SENT_CFG_en m).key }

/-- SENT_CFG.nibbles (R449). -/
def R.SENT_CFG_nibbles (m : Nat) : Fld :=
  { off := 0x4A000 + 0x100 * m, lo := 16, w := 3, cold := 6, acc := .rw, lock := some (R.SENT_CFG_en m).key }

/-- SENT_CFG.crc_mode (R449). -/
def R.SENT_CFG_crc_mode (m : Nat) : Fld :=
  { off := 0x4A000 + 0x100 * m, lo := 19, w := 1, cold := 0, acc := .rw }

/-- SENT_CFG.pause (R449). -/
def R.SENT_CFG_pause (m : Nat) : Fld :=
  { off := 0x4A000 + 0x100 * m, lo := 20, w := 1, cold := 0, acc := .rw }

/-- SENT_CFG.slow (R449). -/
def R.SENT_CFG_slow (m : Nat) : Fld :=
  { off := 0x4A000 + 0x100 * m, lo := 21, w := 2, cold := 0, acc := .rw, ok := [(0, 2)] }

/-- SENT_STATUS.sync (R449). -/
def R.SENT_STATUS_sync (m : Nat) : Fld :=
  { off := 0x4A004 + 0x100 * m, lo := 0, w := 1, cold := 0, acc := .ro }

/-- SENT_STATUS.tick_ns (R449). -/
def R.SENT_STATUS_tick_ns (m : Nat) : Fld :=
  { off := 0x4A004 + 0x100 * m, lo := 8, w := 24, cold := 0, acc := .ro }

/-- SENT_EVT.cause (R449). -/
def R.SENT_EVT_cause (m : Nat) : Fld :=
  { off := 0x4A008 + 0x100 * m, lo := 0, w := 6, cold := 0, acc := .w1c }

/-- SENT_EVT_CNT.count (R449). -/
def R.SENT_EVT_CNT_count (m : Nat) (i : Nat) : Fld :=
  { off := 0x4A028 + 0x100 * m + 4 * i, lo := 0, w := 32, cold := 0, acc := .ro }

/-- SER_CFG.data8 (R449). -/
def R.SER_CFG_data8 (m : Nat) : Fld :=
  { off := 0x4B000 + 0x100 * m, lo := 1, w := 1, cold := 1, acc := .rw, lock := some (R.SER_CFG_en m).key }

/-- SER_CFG.parity (R449). -/
def R.SER_CFG_parity (m : Nat) : Fld :=
  { off := 0x4B000 + 0x100 * m, lo := 2, w := 2, cold := 0, acc := .rw, ok := [(0, 2)], lock := some (R.SER_CFG_en m).key }

/-- SER_CFG.stop2 (R449). -/
def R.SER_CFG_stop2 (m : Nat) : Fld :=
  { off := 0x4B000 + 0x100 * m, lo := 4, w := 1, cold := 0, acc := .rw, lock := some (R.SER_CFG_en m).key }

/-- SER_CFG.rtscts (R449). -/
def R.SER_CFG_rtscts (m : Nat) : Fld :=
  { off := 0x4B000 + 0x100 * m, lo := 5, w := 1, cold := 0, acc := .rw }

/-- SER_CFG.kline (R449). -/
def R.SER_CFG_kline (m : Nat) : Fld :=
  { off := 0x4B000 + 0x100 * m, lo := 6, w := 1, cold := 0, acc := .rw }

/-- SER_CFG.echo_check (R449). -/
def R.SER_CFG_echo_check (m : Nat) : Fld :=
  { off := 0x4B000 + 0x100 * m, lo := 7, w := 1, cold := 0, acc := .rw }

/-- SER_CFG.err_pass (R449). -/
def R.SER_CFG_err_pass (m : Nat) : Fld :=
  { off := 0x4B000 + 0x100 * m, lo := 8, w := 1, cold := 0, acc := .rw }

/-- SER_BAUD.div (R449). -/
def R.SER_BAUD_div (m : Nat) : Fld :=
  { off := 0x4B004 + 0x100 * m, lo := 0, w := 16, cold := 54, acc := .rw, lock := some (R.SER_CFG_en m).key }

/-- SER_BAUD.frac (R449). -/
def R.SER_BAUD_frac (m : Nat) : Fld :=
  { off := 0x4B004 + 0x100 * m, lo := 16, w := 4, cold := 4, acc := .rw, lock := some (R.SER_CFG_en m).key }

/-- SER_RXCHUNK.size (R449). -/
def R.SER_RXCHUNK_size (m : Nat) : Fld :=
  { off := 0x4B008 + 0x100 * m, lo := 0, w := 12, cold := 64, acc := .rw, ok := [(1, 2048)] }

/-- SER_RXCHUNK.idle (R449). -/
def R.SER_RXCHUNK_idle (m : Nat) : Fld :=
  { off := 0x4B008 + 0x100 * m, lo := 16, w := 8, cold := 2, acc := .rw, ok := [(1, 255)] }

/-- SER_RXCHUNK.break_len (R449). -/
def R.SER_RXCHUNK_break_len (m : Nat) : Fld :=
  { off := 0x4B008 + 0x100 * m, lo := 24, w := 8, cold := 13, acc := .rw, ok := [(1, 255)] }

/-- SER_KLINE.p4 (R449). -/
def R.SER_KLINE_p4 (m : Nat) : Fld :=
  { off := 0x4B00C + 0x100 * m, lo := 0, w := 8, cold := 0, acc := .rw, ok := [(0, 200)] }

/-- SER_KLINE.tinil (R449). -/
def R.SER_KLINE_tinil (m : Nat) : Fld :=
  { off := 0x4B00C + 0x100 * m, lo := 8, w := 8, cold := 25, acc := .rw, ok := [(1, 255)] }

/-- SER_KLINE.tinih (R449). -/
def R.SER_KLINE_tinih (m : Nat) : Fld :=
  { off := 0x4B00C + 0x100 * m, lo := 16, w := 8, cold := 25, acc := .rw, ok := [(1, 255)] }

/-- SER_EVT.cause (R449). -/
def R.SER_EVT_cause (m : Nat) : Fld :=
  { off := 0x4B010 + 0x100 * m, lo := 0, w := 6, cold := 0, acc := .w1c }

/-- SER_EVT_CNT.count (R449). -/
def R.SER_EVT_CNT_count (m : Nat) (i : Nat) : Fld :=
  { off := 0x4B030 + 0x100 * m + 4 * i, lo := 0, w := 32, cold := 0, acc := .ro }

/-- CARD_CFG.en (R449). -/
def R.CARD_CFG_en (m : Nat) : Fld :=
  { off := 0x4C000 + 0x100 * m, lo := 0, w := 1, cold := 0, acc := .rw }

/-- CARD_CFG.t1 (R449). -/
def R.CARD_CFG_t1 (m : Nat) : Fld :=
  { off := 0x4C000 + 0x100 * m, lo := 1, w := 1, cold := 1, acc := .rw }

/-- CARD_CFG.pres_pol (R449). -/
def R.CARD_CFG_pres_pol (m : Nat) : Fld :=
  { off := 0x4C000 + 0x100 * m, lo := 3, w := 1, cold := 0, acc := .rw }

/-- CARD_CFG.retries (R449). -/
def R.CARD_CFG_retries (m : Nat) : Fld :=
  { off := 0x4C000 + 0x100 * m, lo := 4, w := 3, cold := 4, acc := .rw }

/-- CARD_CLK.div (R449). -/
def R.CARD_CLK_div (m : Nat) : Fld :=
  { off := 0x4C004 + 0x100 * m, lo := 0, w := 6, cold := 10, acc := .rw, ok := [(8, 40)] }

/-- CARD_ETU.di (R449). -/
def R.CARD_ETU_di (m : Nat) : Fld :=
  { off := 0x4C008 + 0x100 * m, lo := 0, w := 4, cold := 1, acc := .rw, ok := [(1, 9)] }

/-- CARD_ETU.fi (R449). -/
def R.CARD_ETU_fi (m : Nat) : Fld :=
  { off := 0x4C008 + 0x100 * m, lo := 4, w := 4, cold := 1, acc := .rw, ok := [(0, 6), (9, 13)] }

/-- CARD_TIME.guard (R449). -/
def R.CARD_TIME_guard (m : Nat) : Fld :=
  { off := 0x4C00C + 0x100 * m, lo := 0, w := 8, cold := 0, acc := .rw }

/-- CARD_WT.wt (R449). -/
def R.CARD_WT_wt (m : Nat) : Fld :=
  { off := 0x4C010 + 0x100 * m, lo := 0, w := 24, cold := 9600, acc := .rw }

/-- CARD_CWT.cwt (R449). -/
def R.CARD_CWT_cwt (m : Nat) : Fld :=
  { off := 0x4C014 + 0x100 * m, lo := 0, w := 16, cold := 1024, acc := .rw }

/-- CARD_STATUS.state (R449). -/
def R.CARD_STATUS_state (m : Nat) : Fld :=
  { off := 0x4C018 + 0x100 * m, lo := 0, w := 2, cold := 0, acc := .ro }

/-- CARD_STATUS.inverse (R449). -/
def R.CARD_STATUS_inverse (m : Nat) : Fld :=
  { off := 0x4C018 + 0x100 * m, lo := 2, w := 1, cold := 0, acc := .ro }

/-- CARD_EVT.cause (R449). -/
def R.CARD_EVT_cause (m : Nat) : Fld :=
  { off := 0x4C01C + 0x100 * m, lo := 0, w := 6, cold := 0, acc := .w1c }

/-- CARD_EVT_CNT.count (R449). -/
def R.CARD_EVT_CNT_count (m : Nat) (i : Nat) : Fld :=
  { off := 0x4C03C + 0x100 * m + 4 * i, lo := 0, w := 32, cold := 0, acc := .ro }

/-- ETH_CFG.max_len (R490). -/
def R.ETH_CFG_max_len (m : Nat) : Fld :=
  { off := 0x50000 + 0x1000 * m, lo := 4, w := 12, cold := 1522, acc := .rw, lock := some (R.ETH_CFG_en m).key }

/-- ETH_PHY.role (R490). -/
def R.ETH_PHY_role (m : Nat) : Fld :=
  { off := 0x50004 + 0x1000 * m, lo := 0, w := 1, cold := 0, acc := .rw, lock := some (R.ETH_CFG_en m).key, present := decide (m ≤ 5) }

/-- ETH_PHY.hold_down (R490). -/
def R.ETH_PHY_hold_down (m : Nat) : Fld :=
  { off := 0x50004 + 0x1000 * m, lo := 1, w := 1, cold := 0, acc := .rw }

/-- ETH_PHY.test_mode (R490). -/
def R.ETH_PHY_test_mode (m : Nat) : Fld :=
  { off := 0x50004 + 0x1000 * m, lo := 4, w := 3, cold := 0, acc := .rw, lock := some (R.ETH_CFG_en m).key }

/-- ETH_STATUS.link (R490). -/
def R.ETH_STATUS_link (m : Nat) : Fld :=
  { off := 0x50008 + 0x1000 * m, lo := 0, w := 1, cold := 0, acc := .ro }

/-- ETH_STATUS.mode (R490). -/
def R.ETH_STATUS_mode (m : Nat) : Fld :=
  { off := 0x50008 + 0x1000 * m, lo := 1, w := 3, cold := (ethModeCold m), acc := .ro }

/-- ETH_STATUS.plca_active (R490). -/
def R.ETH_STATUS_plca_active (m : Nat) : Fld :=
  { off := 0x50008 + 0x1000 * m, lo := 4, w := 1, cold := 0, acc := .ro }

/-- ETH_TS_LAT.ingress (R490). -/
def R.ETH_TS_LAT_ingress (m : Nat) : Fld :=
  { off := 0x5000C + 0x1000 * m, lo := 0, w := 16, cold := (ethInLatCold m), acc := .rw }

/-- ETH_TS_LAT.egress (R490). -/
def R.ETH_TS_LAT_egress (m : Nat) : Fld :=
  { off := 0x5000C + 0x1000 * m, lo := 16, w := 16, cold := (ethOutLatCold m), acc := .rw }

/-- ETH_EVT.cause (R490). -/
def R.ETH_EVT_cause (m : Nat) : Fld :=
  { off := 0x50010 + 0x1000 * m, lo := 0, w := 11, cold := 0, acc := .w1c }

/-- ETH_EVT_CNT.count (R490). -/
def R.ETH_EVT_CNT_count (m : Nat) (i : Nat) : Fld :=
  { off := 0x50030 + 0x1000 * m + 4 * i, lo := 0, w := 32, cold := 0, acc := .ro }

/-- ETH_PLCA.en (R490). -/
def R.ETH_PLCA_en : Fld :=
  { off := 0x56060, lo := 0, w := 1, cold := 0, acc := .rw, lock := some (R.ETH_CFG_en 6).key }

/-- ETH_PLCA.node_id (R490). -/
def R.ETH_PLCA_node_id : Fld :=
  { off := 0x56060, lo := 8, w := 8, cold := 255, acc := .rw }

/-- ETH_PLCA.node_count (R490). -/
def R.ETH_PLCA_node_count : Fld :=
  { off := 0x56060, lo := 16, w := 8, cold := 8, acc := .rw, ok := [(1, 255)] }

/-- ETH_PLCA.to_timer (R490). -/
def R.ETH_PLCA_to_timer : Fld :=
  { off := 0x56060, lo := 24, w := 8, cold := 32, acc := .rw, ok := [(1, 255)] }

/-- ETH_PLCA_BURST.burst_count (R490). -/
def R.ETH_PLCA_BURST_burst_count : Fld :=
  { off := 0x56064, lo := 0, w := 8, cold := 0, acc := .rw }

/-- ETH_PLCA_BURST.burst_timer (R490). -/
def R.ETH_PLCA_BURST_burst_timer : Fld :=
  { off := 0x56064, lo := 8, w := 8, cold := 128, acc := .rw, ok := [(1, 255)] }

/-- ETH_CNT.count (R490). -/
def R.ETH_CNT_count (m : Nat) (i : Nat) : Fld :=
  { off := 0x50080 + 0x1000 * m + 4 * i, lo := 0, w := 32, cold := 0, acc := .ro }

/-- ETH_MAC_LO.addr (R490). -/
def R.ETH_MAC_LO_addr (m : Nat) : Fld :=
  { off := 0x500C0 + 0x1000 * m, lo := 0, w := 32, cold := (macLoCold m), acc := .rw }

/-- ETH_MAC_HI.addr (R490). -/
def R.ETH_MAC_HI_addr (m : Nat) : Fld :=
  { off := 0x500C4 + 0x1000 * m, lo := 0, w := 16, cold := (macHiCold m), acc := .rw }

/-- ETH_TXTS_STAT.valid (R490). -/
def R.ETH_TXTS_STAT_valid (m : Nat) (s : Nat) : Fld :=
  { off := 0x50100 + 0x1000 * m + 0x10 * s, lo := 0, w := 1, cold := 0, acc := .w1c }

/-- ETH_TXTS_STAT.overwritten (R490). -/
def R.ETH_TXTS_STAT_overwritten (m : Nat) (s : Nat) : Fld :=
  { off := 0x50100 + 0x1000 * m + 0x10 * s, lo := 1, w := 1, cold := 0, acc := .ro }

/-- ETH_TXTS_CNT.count (R490). -/
def R.ETH_TXTS_CNT_count (m : Nat) (s : Nat) : Fld :=
  { off := 0x50104 + 0x1000 * m + 0x10 * s, lo := 0, w := 32, cold := 0, acc := .ro }

/-- ETH_TXTS_TIME.time (R490). -/
def R.ETH_TXTS_TIME_time (m : Nat) (s : Nat) : Fld :=
  { off := 0x50108 + 0x1000 * m + 0x10 * s, lo := 0, w := 64, cold := 0, acc := .ro }

/-- ETH_FLT_W0.mac_lo (R490). -/
def R.ETH_FLT_W0_mac_lo (m : Nat) (f : Nat) : Fld :=
  { off := 0x50400 + 0x1000 * m + 0x10 * f, lo := 0, w := 32, cold := 0, acc := .rw }

/-- ETH_FLT_W1.mac_hi (R490). -/
def R.ETH_FLT_W1_mac_hi (m : Nat) (f : Nat) : Fld :=
  { off := 0x50404 + 0x1000 * m + 0x10 * f, lo := 0, w := 16, cold := 0, acc := .rw }

/-- ETH_FLT_W1.mac_mask (R490). -/
def R.ETH_FLT_W1_mac_mask (m : Nat) (f : Nat) : Fld :=
  { off := 0x50404 + 0x1000 * m + 0x10 * f, lo := 16, w := 6, cold := 0, acc := .rw }

/-- ETH_FLT_W2.et (R490). -/
def R.ETH_FLT_W2_et (m : Nat) (f : Nat) : Fld :=
  { off := 0x50408 + 0x1000 * m + 0x10 * f, lo := 0, w := 16, cold := 0, acc := .rw }

/-- ETH_FLT_W2.vid (R490). -/
def R.ETH_FLT_W2_vid (m : Nat) (f : Nat) : Fld :=
  { off := 0x50408 + 0x1000 * m + 0x10 * f, lo := 16, w := 12, cold := 0, acc := .rw }

/-- ETH_FLT_W2.pcp (R490). -/
def R.ETH_FLT_W2_pcp (m : Nat) (f : Nat) : Fld :=
  { off := 0x50408 + 0x1000 * m + 0x10 * f, lo := 28, w := 3, cold := 0, acc := .rw }

/-- ETH_FLT_W3.en (R490). -/
def R.ETH_FLT_W3_en (m : Nat) (f : Nat) : Fld :=
  { off := 0x5040C + 0x1000 * m + 0x10 * f, lo := 0, w := 1, cold := 0, acc := .rw }

/-- ETH_FLT_W3.cmp_et (R490). -/
def R.ETH_FLT_W3_cmp_et (m : Nat) (f : Nat) : Fld :=
  { off := 0x5040C + 0x1000 * m + 0x10 * f, lo := 1, w := 1, cold := 0, acc := .rw }

/-- ETH_FLT_W3.cmp_vid (R490). -/
def R.ETH_FLT_W3_cmp_vid (m : Nat) (f : Nat) : Fld :=
  { off := 0x5040C + 0x1000 * m + 0x10 * f, lo := 2, w := 1, cold := 0, acc := .rw }

/-- ETH_FLT_W3.cmp_pcp (R490). -/
def R.ETH_FLT_W3_cmp_pcp (m : Nat) (f : Nat) : Fld :=
  { off := 0x5040C + 0x1000 * m + 0x10 * f, lo := 3, w := 1, cold := 0, acc := .rw }

/-- ETH_FLT_W3.untagged (R490). -/
def R.ETH_FLT_W3_untagged (m : Nat) (f : Nat) : Fld :=
  { off := 0x5040C + 0x1000 * m + 0x10 * f, lo := 4, w := 1, cold := 0, acc := .rw }

/-- ETH_FLT_W3.class (R490). -/
def R.ETH_FLT_W3_class (m : Nat) (f : Nat) : Fld :=
  { off := 0x5040C + 0x1000 * m + 0x10 * f, lo := 8, w := 2, cold := 0, acc := .rw }

/-- TIM_NOW.time (R490). -/
def R.TIM_NOW_time : Fld :=
  { off := 0x58008, lo := 0, w := 64, cold := 0, acc := .derived }

/-- TIM_SET.time (R490). -/
def R.TIM_SET_time : Fld :=
  { off := 0x58010, lo := 0, w := 64, cold := 0, acc := .wo }

/-- TIM_RATE.rate (R490). -/
def R.TIM_RATE_rate : Fld :=
  { off := 0x58018, lo := 0, w := 32, cold := 0, acc := .rw }

/-- TIM_SLEW.offset (R490). -/
def R.TIM_SLEW_offset : Fld :=
  { off := 0x5801C, lo := 0, w := 21, cold := 0, acc := .wo }

/-- TIM_SLEW_LEFT.left (R490). -/
def R.TIM_SLEW_LEFT_left : Fld :=
  { off := 0x58020, lo := 0, w := 21, cold := 0, acc := .derived }

/-- TIM_XTS_CTL.go (R490). -/
def R.TIM_XTS_CTL_go : Fld :=
  { off := 0x58028, lo := 0, w := 1, cold := 0, acc := .w1s }

/-- TIM_XTS_CTL.sub (R490). -/
def R.TIM_XTS_CTL_sub : Fld :=
  { off := 0x58028, lo := 8, w := 5, cold := 0, acc := .ro }

/-- TIM_XTS_PTP.time (R490). -/
def R.TIM_XTS_PTP_time : Fld :=
  { off := 0x58030, lo := 0, w := 64, cold := 0, acc := .ro }

/-- TIM_XTS_MONO.time (R490). -/
def R.TIM_XTS_MONO_time : Fld :=
  { off := 0x58038, lo := 0, w := 64, cold := 0, acc := .ro }

/-- TIM_CAP_CTL.edge (R490). -/
def R.TIM_CAP_CTL_edge (n : Nat) : Fld :=
  { off := 0x58040 + 0x10 * n, lo := 0, w := 2, cold := 0, acc := .rw }

/-- TIM_CAP_TIME.time (R490). -/
def R.TIM_CAP_TIME_time (n : Nat) : Fld :=
  { off := 0x58048 + 0x10 * n, lo := 0, w := 64, cold := 0, acc := .ro }

/-- TIM_PPS_PER.period (R490). -/
def R.TIM_PPS_PER_period (n : Nat) : Fld :=
  { off := 0x58060 + 8 * n, lo := 0, w := 20, cold := 0, acc := .rw }

/-- TIM_PPS_WIDTH.width (R490). -/
def R.TIM_PPS_WIDTH_width (n : Nat) : Fld :=
  { off := 0x58064 + 8 * n, lo := 0, w := 20, cold := 0, acc := .rw }

/-- TIM_EVT.cause (R490). -/
def R.TIM_EVT_cause : Fld :=
  { off := 0x58080, lo := 0, w := 5, cold := 0, acc := .w1c }

/-- TIM_EVT_CNT.count (R490). -/
def R.TIM_EVT_CNT_count (i : Nat) : Fld :=
  { off := 0x580A0 + 4 * i, lo := 0, w := 32, cold := 0, acc := .ro }

/-- GRT_W.word (R530). -/
def R.GRT_W_word (e : Nat) (i : Nat) : Fld :=
  { off := 0x60000 + 0x10 * e + 4 * i, lo := 0, w := 32, cold := 0, acc := .rw, mids := 4 }

/-- GWC_CTL.hop_max (R530). -/
def R.GWC_CTL_hop_max : Fld :=
  { off := 0x70000, lo := 0, w := 4, cold := 4, acc := .rw, ok := [(1, 15)] }

/-- GWC_EVT.cause (R530). -/
def R.GWC_EVT_cause : Fld :=
  { off := 0x70004, lo := 0, w := 10, cold := 0, acc := .w1c }

/-- GWC_EVT_CNT.count (R530). -/
def R.GWC_EVT_CNT_count (i : Nat) : Fld :=
  { off := 0x70044 + 4 * i, lo := 0, w := 32, cold := 0, acc := .ro }

/-- GWC_P_CNT.count (R530). -/
def R.GWC_P_CNT_count (p : Nat) (i : Nat) : Fld :=
  { off := 0x70100 + 0x10 * p + 4 * i, lo := 0, w := 32, cold := 0, acc := .ro }

/-- GWC_CAP.rate (R530). -/
def R.GWC_CAP_rate (p : Nat) : Fld :=
  { off := 0x70300 + 4 * p, lo := 0, w := 20, cold := 1048575, acc := .rw }

/-- GWC_CAP.burst (R530). -/
def R.GWC_CAP_burst (p : Nat) : Fld :=
  { off := 0x70300 + 4 * p, lo := 20, w := 8, cold := 255, acc := .rw, ok := [(1, 255)] }

/-- GWC_RW_VAL.value (R530). -/
def R.GWC_RW_VAL_value (k : Nat) : Fld :=
  { off := 0x70400 + 8 * k, lo := 0, w := 29, cold := 0, acc := .rw, present := decide (1 ≤ k) }

/-- GWC_RW_VAL.en (R530). -/
def R.GWC_RW_VAL_en (k : Nat) : Fld :=
  { off := 0x70400 + 8 * k, lo := 31, w := 1, cold := 0, acc := .rw, present := decide (1 ≤ k) }

/-- GWC_RW_MASK.mask (R530). -/
def R.GWC_RW_MASK_mask (k : Nat) : Fld :=
  { off := 0x70404 + 8 * k, lo := 0, w := 29, cold := 0, acc := .rw, present := decide (1 ≤ k) }

/-- GWC_STR_ID.stream_id (R530). -/
def R.GWC_STR_ID_stream_id (k : Nat) : Fld :=
  { off := 0x70800 + 0x20 * k, lo := 0, w := 64, cold := 0, acc := .rw }

/-- GWC_STR_DMAC_LO.dmac (R530). -/
def R.GWC_STR_DMAC_LO_dmac (k : Nat) : Fld :=
  { off := 0x70808 + 0x20 * k, lo := 0, w := 32, cold := 0, acc := .rw }

/-- GWC_STR_DMAC_HI.dmac (R530). -/
def R.GWC_STR_DMAC_HI_dmac (k : Nat) : Fld :=
  { off := 0x7080C + 0x20 * k, lo := 0, w := 16, cold := 0, acc := .rw }

/-- GWC_STR_TAG.vid (R530). -/
def R.GWC_STR_TAG_vid (k : Nat) : Fld :=
  { off := 0x70810 + 0x20 * k, lo := 0, w := 12, cold := 0, acc := .rw }

/-- GWC_STR_TAG.pcp (R530). -/
def R.GWC_STR_TAG_pcp (k : Nat) : Fld :=
  { off := 0x70810 + 0x20 * k, lo := 12, w := 3, cold := 0, acc := .rw }

/-- GWC_STR_TAG.tagged (R530). -/
def R.GWC_STR_TAG_tagged (k : Nat) : Fld :=
  { off := 0x70810 + 0x20 * k, lo := 15, w := 1, cold := 0, acc := .rw }

/-- GWC_STR_CTL.en (R530). -/
def R.GWC_STR_CTL_en (k : Nat) : Fld :=
  { off := 0x70814 + 0x20 * k, lo := 0, w := 1, cold := 0, acc := .rw }

/-- GWC_STR_CTL.bus_id (R530). -/
def R.GWC_STR_CTL_bus_id (k : Nat) : Fld :=
  { off := 0x70814 + 0x20 * k, lo := 8, w := 5, cold := 0, acc := .rw }

/-- HNG_FAS_CMD.unit (R530). -/
def R.HNG_FAS_CMD_unit (f : Nat) (s : Nat) : Fld :=
  { off := 0x80000 + 0x100 * f + 0x20 * s, lo := 0, w := 10, cold := 0, acc := .rw }

/-- HNG_FAS_CMD.self (R530). -/
def R.HNG_FAS_CMD_self (f : Nat) (s : Nat) : Fld :=
  { off := 0x80000 + 0x100 * f + 0x20 * s, lo := 10, w := 1, cold := 0, acc := .rw }

/-- HNG_FAS_CMD.space (R530). -/
def R.HNG_FAS_CMD_space (f : Nat) (s : Nat) : Fld :=
  { off := 0x80000 + 0x100 * f + 0x20 * s, lo := 12, w := 2, cold := 0, acc := .rw }

/-- HNG_FAS_CMD.write (R530). -/
def R.HNG_FAS_CMD_write (f : Nat) (s : Nat) : Fld :=
  { off := 0x80000 + 0x100 * f + 0x20 * s, lo := 14, w := 1, cold := 0, acc := .rw }

/-- HNG_FAS_CMD.bcast (R530). -/
def R.HNG_FAS_CMD_bcast (f : Nat) (s : Nat) : Fld :=
  { off := 0x80000 + 0x100 * f + 0x20 * s, lo := 15, w := 1, cold := 0, acc := .rw }

/-- HNG_FAS_ADDR.addr (R530). -/
def R.HNG_FAS_ADDR_addr (f : Nat) (s : Nat) : Fld :=
  { off := 0x80004 + 0x100 * f + 0x20 * s, lo := 0, w := 26, cold := 0, acc := .rw }

/-- HNG_FAS_WDATA.data (R530). -/
def R.HNG_FAS_WDATA_data (f : Nat) (s : Nat) : Fld :=
  { off := 0x80008 + 0x100 * f + 0x20 * s, lo := 0, w := 32, cold := 0, acc := .rw }

/-- HNG_FAS_DATA.data (R530). -/
def R.HNG_FAS_DATA_data (f : Nat) (s : Nat) : Fld :=
  { off := 0x80010 + 0x100 * f + 0x20 * s, lo := 0, w := 32, cold := 0, acc := .ro }

/-- HNG_FAS_DATA.state (R530). -/
def R.HNG_FAS_DATA_state (f : Nat) (s : Nat) : Fld :=
  { off := 0x80010 + 0x100 * f + 0x20 * s, lo := 32, w := 4, cold := 0, acc := .ro }

/-- HNG_CTL.far_in_en (R530). -/
def R.HNG_CTL_far_in_en : Fld :=
  { off := 0x80400, lo := 0, w := 1, cold := 1, acc := .rw }

/-- HNG_CTL.far_timeout (R530). -/
def R.HNG_CTL_far_timeout : Fld :=
  { off := 0x80400, lo := 8, w := 8, cold := 2, acc := .rw, ok := [(1, 255)] }

/-- HNG_EVT.cause (R530). -/
def R.HNG_EVT_cause : Fld :=
  { off := 0x80404, lo := 0, w := 13, cold := 0, acc := .w1c }

/-- HNG_INT_EN.en (R530). -/
def R.HNG_INT_EN_en : Fld :=
  { off := 0x80408, lo := 0, w := 13, cold := 0xB49, acc := .rw }

/-- HNG_LAST.addr (R530). -/
def R.HNG_LAST_addr : Fld :=
  { off := 0x8040C, lo := 0, w := 10, cold := 0, acc := .ro }

/-- HNG_LAST.mid (R530). -/
def R.HNG_LAST_mid : Fld :=
  { off := 0x8040C, lo := 12, w := 4, cold := 0, acc := .ro }

/-- HNG_LAST.outcome (R530). -/
def R.HNG_LAST_outcome : Fld :=
  { off := 0x8040C, lo := 16, w := 4, cold := 0, acc := .ro }

/-- HNG_LAST.word (R530). -/
def R.HNG_LAST_word : Fld :=
  { off := 0x8040C, lo := 24, w := 5, cold := 0, acc := .ro }

/-- HNG_REQ_USE.total (R530). -/
def R.HNG_REQ_USE_total : Fld :=
  { off := 0x80410, lo := 0, w := 9, cold := 0, acc := .derived }

/-- HNG_REQ_USE.poller (R530). -/
def R.HNG_REQ_USE_poller : Fld :=
  { off := 0x80410, lo := 16, w := 9, cold := 0, acc := .derived }

/-- HNG_RXSUM.queued (R530). -/
def R.HNG_RXSUM_queued : Fld :=
  { off := 0x80414, lo := 0, w := 16, cold := 0, acc := .derived }

/-- HNG_RXSUM.event (R530). -/
def R.HNG_RXSUM_event : Fld :=
  { off := 0x80414, lo := 16, w := 16, cold := 0, acc := .derived }

/-- HNG_EVT_CNT.count (R530). -/
def R.HNG_EVT_CNT_count (i : Nat) : Fld :=
  { off := 0x80444 + 4 * i, lo := 0, w := 32, cold := 0, acc := .ro }

/-- HNG_POLL_CTL.interval (R530). -/
def R.HNG_POLL_CTL_interval : Fld :=
  { off := 0x80500, lo := 0, w := 7, cold := 100, acc := .rw, ok := [(1, 100)] }

/-- HNG_POLL_CTL.auto (R530). -/
def R.HNG_POLL_CTL_auto : Fld :=
  { off := 0x80500, lo := 8, w := 1, cold := 1, acc := .rw }

/-- HNG_POLL_WATCH.watch (R530). -/
def R.HNG_POLL_WATCH_watch : Fld :=
  { off := 0x80504, lo := 0, w := 32, cold := 0x41780, acc := .rw }

/-- HNG_POLL_EXT.en (R530). -/
def R.HNG_POLL_EXT_en (k : Nat) : Fld :=
  { off := 0x80520 + 4 * k, lo := 0, w := 1, cold := 0, acc := .rw }

/-- HNG_POLL_EXT.offset (R530). -/
def R.HNG_POLL_EXT_offset (k : Nat) : Fld :=
  { off := 0x80520 + 4 * k, lo := 2, w := 18, cold := 0, acc := .rw }

/-- HNG_POLL_EN.en (R530). -/
def R.HNG_POLL_EN_en (j : Nat) : Fld :=
  { off := 0x80600 + 4 * j, lo := 0, w := 32, cold := 0, acc := .rw }

/-- HNG_SEM.value (R530). -/
def R.HNG_SEM_value (s : Nat) : Fld :=
  { off := 0x81000 + 4 * s, lo := 0, w := 32, cold := 0, acc := .derived }

/-- HNG_SEM_LEASE.ms (R530). -/
def R.HNG_SEM_LEASE_ms : Fld :=
  { off := 0x81100, lo := 0, w := 16, cold := 0, acc := .rw }

/-- HNG_LXB_CTL.wait_timeout (R530). -/
def R.HNG_LXB_CTL_wait_timeout : Fld :=
  { off := 0x82000, lo := 0, w := 13, cold := 1024, acc := .rw, ok := [(16, 4096)] }

/-- HNG_LXB_CTL.lock_max (R530). -/
def R.HNG_LXB_CTL_lock_max : Fld :=
  { off := 0x82000, lo := 16, w := 16, cold := 4096, acc := .rw, ok := [(64, 65535)] }

/-- HNG_LXB_CS_CFG.en (R530). -/
def R.HNG_LXB_CS_CFG_en (n : Nat) : Fld :=
  { off := 0x82010 + 4 * n, lo := 0, w := 1, cold := 0, acc := .rw }

/-- HNG_LXB_CS_CFG.wait_states (R530). -/
def R.HNG_LXB_CS_CFG_wait_states (n : Nat) : Fld :=
  { off := 0x82010 + 4 * n, lo := 2, w := 4, cold := 0, acc := .rw }

/-- HNG_LXB_CS_CFG.wait_en (R530). -/
def R.HNG_LXB_CS_CFG_wait_en (n : Nat) : Fld :=
  { off := 0x82010 + 4 * n, lo := 6, w := 1, cold := 0, acc := .rw }

/-- HNG_LXB_CS_CFG.turn (R530). -/
def R.HNG_LXB_CS_CFG_turn (n : Nat) : Fld :=
  { off := 0x82010 + 4 * n, lo := 8, w := 2, cold := 0, acc := .rw }

/-- HNG_LXB_LOCK.value (R530). -/
def R.HNG_LXB_LOCK_value : Fld :=
  { off := 0x82030, lo := 0, w := 32, cold := 0, acc := .derived }

/-- CHN_KC_STATUS.addr (R220). -/
def R.CHN_KC_STATUS_addr : Fld :=
  { off := 0x88000, lo := 0, w := 10, cold := 0, acc := .ro, keep := true }

/-- CHN_KC_STATUS.assigned (R220). -/
def R.CHN_KC_STATUS_assigned : Fld :=
  { off := 0x88000, lo := 10, w := 1, cold := 0, acc := .ro, keep := true }

/-- CHN_KC_STATUS.gate_open (R220). -/
def R.CHN_KC_STATUS_gate_open : Fld :=
  { off := 0x88000, lo := 11, w := 1, cold := 0, acc := .ro, keep := true }

/-- CHN_KC_STATUS.last_cmd (R220). -/
def R.CHN_KC_STATUS_last_cmd : Fld :=
  { off := 0x88000, lo := 12, w := 4, cold := 0, acc := .ro, keep := true }

/-- CHN_KC_ATTN.unassigned (R220). -/
def R.CHN_KC_ATTN_unassigned : Fld :=
  { off := 0x88004, lo := 0, w := 1, cold := 1, acc := .ro, keep := true }

/-- CHN_KC_ATTN.cause (R220). -/
def R.CHN_KC_ATTN_cause : Fld :=
  { off := 0x88004, lo := 1, w := 5, cold := 0, acc := .w1c, keep := true }

/-- CHN_KC_ATTN.en (R220). -/
def R.CHN_KC_ATTN_en : Fld :=
  { off := 0x88004, lo := 8, w := 6, cold := 0x3F, acc := .rw, keep := true }

/-- CHN_KC_ATTN.kattn_out (R220). -/
def R.CHN_KC_ATTN_kattn_out : Fld :=
  { off := 0x88004, lo := 16, w := 1, cold := 0, acc := .ro, keep := true }

/-- CHN_KC_ATTN.kattn_in (R220). -/
def R.CHN_KC_ATTN_kattn_in : Fld :=
  { off := 0x88004, lo := 17, w := 1, cold := 1, acc := .derived }

/-- CHN_KC_FRAMES.acted (R220). -/
def R.CHN_KC_FRAMES_acted : Fld :=
  { off := 0x88008, lo := 0, w := 16, cold := 0, acc := .ro, keep := true }

/-- CHN_KC_FRAMES.discarded (R220). -/
def R.CHN_KC_FRAMES_discarded : Fld :=
  { off := 0x88008, lo := 16, w := 16, cold := 0, acc := .ro, keep := true }

/-- CHN_KC_CNT.count (R220). -/
def R.CHN_KC_CNT_count (i : Nat) : Fld :=
  { off := 0x88010 + 4 * i, lo := 0, w := 32, cold := 0, acc := .ro, keep := true }

/-- CHN_PT_CTL.en (R220). -/
def R.CHN_PT_CTL_en (p : Nat) : Fld :=
  { off := 0x88100 + 0x100 * p, lo := 0, w := 1, cold := 1, acc := .rw, keep := true }

/-- CHN_PT_CTL.quiet_idle (R220). -/
def R.CHN_PT_CTL_quiet_idle (p : Nat) : Fld :=
  { off := 0x88100 + 0x100 * p, lo := 1, w := 1, cold := 0, acc := .rw, keep := true }

/-- CHN_PT_CTL.retrain (R220). -/
def R.CHN_PT_CTL_retrain (p : Nat) : Fld :=
  { off := 0x88100 + 0x100 * p, lo := 2, w := 1, cold := 0, acc := .w1s }

/-- CHN_PT_CTL.lane_forbid (R220). -/
def R.CHN_PT_CTL_lane_forbid (p : Nat) : Fld :=
  { off := 0x88100 + 0x100 * p, lo := 3, w := 3, cold := 0, acc := .rw, keep := true }

/-- CHN_PT_STATUS.state (R220). -/
def R.CHN_PT_STATUS_state (p : Nat) : Fld :=
  { off := 0x88104 + 0x100 * p, lo := 0, w := 3, cold := 0, acc := .ro, keep := true }

/-- CHN_PT_STATUS.tx0 (R220). -/
def R.CHN_PT_STATUS_tx0 (p : Nat) : Fld :=
  { off := 0x88104 + 0x100 * p, lo := 4, w := 2, cold := 0, acc := .ro, keep := true }

/-- CHN_PT_STATUS.tx1 (R220). -/
def R.CHN_PT_STATUS_tx1 (p : Nat) : Fld :=
  { off := 0x88104 + 0x100 * p, lo := 6, w := 2, cold := 0, acc := .ro, keep := true }

/-- CHN_PT_STATUS.rx0 (R220). -/
def R.CHN_PT_STATUS_rx0 (p : Nat) : Fld :=
  { off := 0x88104 + 0x100 * p, lo := 8, w := 2, cold := 0, acc := .ro, keep := true }

/-- CHN_PT_STATUS.rx1 (R220). -/
def R.CHN_PT_STATUS_rx1 (p : Nat) : Fld :=
  { off := 0x88104 + 0x100 * p, lo := 10, w := 2, cold := 0, acc := .ro, keep := true }

/-- CHN_PT_STATUS.qualified (R220). -/
def R.CHN_PT_STATUS_qualified (p : Nat) : Fld :=
  { off := 0x88104 + 0x100 * p, lo := 12, w := 3, cold := 0, acc := .ro, keep := true }

/-- CHN_PT_STATUS.retired (R220). -/
def R.CHN_PT_STATUS_retired (p : Nat) : Fld :=
  { off := 0x88104 + 0x100 * p, lo := 15, w := 3, cold := 0, acc := .ro, keep := true }

/-- CHN_PT_STATUS.spare_ok (R220). -/
def R.CHN_PT_STATUS_spare_ok (p : Nat) : Fld :=
  { off := 0x88104 + 0x100 * p, lo := 18, w := 1, cold := 0, acc := .ro, keep := true }

/-- CHN_PT_PEER.addr (R220). -/
def R.CHN_PT_PEER_addr (p : Nat) : Fld :=
  { off := 0x88108 + 0x100 * p, lo := 0, w := 10, cold := 0, acc := .ro, keep := true }

/-- CHN_PT_PEER.assigned (R220). -/
def R.CHN_PT_PEER_assigned (p : Nat) : Fld :=
  { off := 0x88108 + 0x100 * p, lo := 10, w := 1, cold := 0, acc := .ro, keep := true }

/-- CHN_PT_PEER.position (R220). -/
def R.CHN_PT_PEER_position (p : Nat) : Fld :=
  { off := 0x88108 + 0x100 * p, lo := 11, w := 10, cold := 0, acc := .ro, keep := true }

/-- CHN_PT_PEER.valid (R220). -/
def R.CHN_PT_PEER_valid (p : Nat) : Fld :=
  { off := 0x88108 + 0x100 * p, lo := 21, w := 1, cold := 0, acc := .ro, keep := true }

/-- CHN_PT_SEQ.tx_next (R220). -/
def R.CHN_PT_SEQ_tx_next (p : Nat) : Fld :=
  { off := 0x8810C + 0x100 * p, lo := 0, w := 16, cold := 0, acc := .ro, keep := true }

/-- CHN_PT_SEQ.rx_expected (R220). -/
def R.CHN_PT_SEQ_rx_expected (p : Nat) : Fld :=
  { off := 0x8810C + 0x100 * p, lo := 16, w := 16, cold := 0, acc := .ro, keep := true }

/-- CHN_PT_EVT.cause (R220). -/
def R.CHN_PT_EVT_cause (p : Nat) : Fld :=
  { off := 0x88110 + 0x100 * p, lo := 0, w := 9, cold := 0, acc := .w1c, keep := true }

/-- CHN_PT_INT_EN.en (R220). -/
def R.CHN_PT_INT_EN_en (p : Nat) : Fld :=
  { off := 0x88114 + 0x100 * p, lo := 0, w := 9, cold := 0x1C6, acc := .rw, keep := true }

/-- CHN_PT_EVT_CNT.count (R220). -/
def R.CHN_PT_EVT_CNT_count (p : Nat) (i : Nat) : Fld :=
  { off := 0x88120 + 0x100 * p + 4 * i, lo := 0, w := 32, cold := 0, acc := .ro, keep := true }

/-- CHN_PT_LANE_CORR.count (R220). -/
def R.CHN_PT_LANE_CORR_count (p : Nat) (k : Nat) : Fld :=
  { off := 0x88150 + 0x100 * p + 4 * k, lo := 0, w := 32, cold := 0, acc := .ro, keep := true }

/-- CHN_PT_UNCORR_CNT.count (R220). -/
def R.CHN_PT_UNCORR_CNT_count (p : Nat) : Fld :=
  { off := 0x8815C + 0x100 * p, lo := 0, w := 32, cold := 0, acc := .ro, keep := true }

/-- CHN_PT_HDRERR_CNT.count (R220). -/
def R.CHN_PT_HDRERR_CNT_count (p : Nat) : Fld :=
  { off := 0x88160 + 0x100 * p, lo := 0, w := 32, cold := 0, acc := .ro, keep := true }

/-- CHN_PT_SPARE_THR.thr (R220). -/
def R.CHN_PT_SPARE_THR_thr : Fld :=
  { off := 0x88300, lo := 0, w := 24, cold := 10000, acc := .rw, keep := true }

/-- CHN_POS.position (R220). -/
def R.CHN_POS_position : Fld :=
  { off := 0x88304, lo := 0, w := 10, cold := 0, acc := .ro, keep := true }

/-- CHN_POS.valid (R220). -/
def R.CHN_POS_valid : Fld :=
  { off := 0x88304, lo := 10, w := 1, cold := 0, acc := .ro, keep := true }

/-- CHN_POS.head (R220). -/
def R.CHN_POS_head : Fld :=
  { off := 0x88304, lo := 11, w := 1, cold := 0, acc := .ro, keep := true }

/-- CHN_MAP.position (R220). -/
def R.CHN_MAP_position (a : Nat) : Fld :=
  { off := 0x89000 + 4 * a, lo := 0, w := 10, cold := 0, acc := .ro, keep := true }

/-- CHN_MAP.valid (R220). -/
def R.CHN_MAP_valid (a : Nat) : Fld :=
  { off := 0x89000 + 4 * a, lo := 10, w := 1, cold := 0, acc := .ro, keep := true }

/-- CHN_MAP.port (R220). -/
def R.CHN_MAP_port (a : Nat) : Fld :=
  { off := 0x89000 + 4 * a, lo := 11, w := 1, cold := 0, acc := .ro, keep := true }

/-- CHN_MAP.self (R220). -/
def R.CHN_MAP_self (a : Nat) : Fld :=
  { off := 0x89000 + 4 * a, lo := 12, w := 1, cold := 0, acc := .ro, keep := true }

/-- LDG_STATUS.role (R570). -/
def R.LDG_STATUS_role : Fld :=
  { off := 0x90000, lo := 0, w := 2, cold := 0, acc := .derived }

/-- LDG_STATUS.write_through (R570). -/
def R.LDG_STATUS_write_through : Fld :=
  { off := 0x90000, lo := 2, w := 1, cold := 1, acc := .derived }

/-- LDG_STATUS.full (R570). -/
def R.LDG_STATUS_full : Fld :=
  { off := 0x90000, lo := 3, w := 1, cold := 0, acc := .derived }

/-- LDG_STATUS.reserve (R570). -/
def R.LDG_STATUS_reserve : Fld :=
  { off := 0x90000, lo := 4, w := 1, cold := 0, acc := .derived }

/-- LDG_STATUS.ready (R570). -/
def R.LDG_STATUS_ready : Fld :=
  { off := 0x90000, lo := 5, w := 1, cold := 0, acc := .derived }

/-- LDG_STATUS.term (R570). -/
def R.LDG_STATUS_term : Fld :=
  { off := 0x90000, lo := 16, w := 16, cold := 0, acc := .derived }

/-- LDG_SEGS.free (R570). -/
def R.LDG_SEGS_free : Fld :=
  { off := 0x90004, lo := 0, w := 7, cold := 0, acc := .derived }

/-- LDG_SEGS.open (R570). -/
def R.LDG_SEGS_open : Fld :=
  { off := 0x90004, lo := 8, w := 6, cold := 0, acc := .derived }

/-- LDG_NEXT_SEQ.seq (R570). -/
def R.LDG_NEXT_SEQ_seq : Fld :=
  { off := 0x90008, lo := 0, w := 64, cold := 0, acc := .derived }

/-- LDG_DURABLE_SEQ.seq (R570). -/
def R.LDG_DURABLE_SEQ_seq : Fld :=
  { off := 0x90010, lo := 0, w := 64, cold := 0, acc := .derived }

/-- LDG_SEAL_SEQ.seq (R570). -/
def R.LDG_SEAL_SEQ_seq : Fld :=
  { off := 0x90018, lo := 0, w := 64, cold := 0, acc := .derived }

/-- LDG_HORIZON.seq (R570). -/
def R.LDG_HORIZON_seq : Fld :=
  { off := 0x90020, lo := 0, w := 64, cold := 0, acc := .derived }

/-- LDG_OLDEST_SEQ.seq (R570). -/
def R.LDG_OLDEST_SEQ_seq : Fld :=
  { off := 0x90028, lo := 0, w := 64, cold := 0, acc := .derived }

/-- LDG_EXPORTED.seq (R570). -/
def R.LDG_EXPORTED_seq : Fld :=
  { off := 0x90030, lo := 0, w := 64, cold := 0, acc := .derived }

/-- LDG_ID.ledger_id (R570). -/
def R.LDG_ID_ledger_id : Fld :=
  { off := 0x90038, lo := 0, w := 32, cold := 0, acc := .derived }

/-- LDG_CMD.seal (R570). -/
def R.LDG_CMD_seal : Fld :=
  { off := 0x9003C, lo := 0, w := 1, cold := 0, acc := .w1s }

/-- LDG_CMD.release (R570). -/
def R.LDG_CMD_release : Fld :=
  { off := 0x9003C, lo := 1, w := 1, cold := 0, acc := .w1s }

/-- LDG_EVT.cause (R570). -/
def R.LDG_EVT_cause : Fld :=
  { off := 0x90040, lo := 0, w := 14, cold := 0, acc := .w1c }

/-- LDG_LAST.release_reason (R570). -/
def R.LDG_LAST_release_reason : Fld :=
  { off := 0x90044, lo := 0, w := 4, cold := 0, acc := .ro }

/-- LDG_LAST.refusal (R570). -/
def R.LDG_LAST_refusal : Fld :=
  { off := 0x90044, lo := 8, w := 8, cold := 0, acc := .ro }

/-- LDG_PAIR.partner (R570). -/
def R.LDG_PAIR_partner : Fld :=
  { off := 0x90050, lo := 0, w := 10, cold := 0, acc := .derived }

/-- LDG_PAIR.valid (R570). -/
def R.LDG_PAIR_valid : Fld :=
  { off := 0x90050, lo := 10, w := 1, cold := 0, acc := .derived }

/-- LDG_PAIR.hb_ok (R570). -/
def R.LDG_PAIR_hb_ok : Fld :=
  { off := 0x90050, lo := 11, w := 1, cold := 0, acc := .derived }

/-- LDG_PAIR.grace_running (R570). -/
def R.LDG_PAIR_grace_running : Fld :=
  { off := 0x90050, lo := 12, w := 1, cold := 0, acc := .derived }

/-- LDG_PAIR_CTL.auto (R570). -/
def R.LDG_PAIR_CTL_auto : Fld :=
  { off := 0x90054, lo := 0, w := 1, cold := 1, acc := .rw, mids := 4 }

/-- LDG_PAIR_CTL.hold (R570). -/
def R.LDG_PAIR_CTL_hold : Fld :=
  { off := 0x90054, lo := 1, w := 1, cold := 0, acc := .rw, mids := 3 }

/-- LDG_PAIR_CTL.grace (R570). -/
def R.LDG_PAIR_CTL_grace : Fld :=
  { off := 0x90054, lo := 8, w := 16, cold := 50, acc := .rw, mids := 4, ok := [(10, 10000)] }

/-- LDG_EPOCH.epoch (R570). -/
def R.LDG_EPOCH_epoch : Fld :=
  { off := 0x90058, lo := 0, w := 32, cold := 0, acc := .ro }

/-- LDG_MIRROR_SEQ.value (R570). -/
def R.LDG_MIRROR_SEQ_value : Fld :=
  { off := 0x90060, lo := 0, w := 64, cold := 0, acc := .derived }

/-- LDG_BRANCH_FIRST.value (R570). -/
def R.LDG_BRANCH_FIRST_value : Fld :=
  { off := 0x90068, lo := 0, w := 64, cold := 0, acc := .derived }

/-- LDG_BRANCH_LAST.value (R570). -/
def R.LDG_BRANCH_LAST_value : Fld :=
  { off := 0x90070, lo := 0, w := 64, cold := 0, acc := .derived }

/-- LDG_PARTNER_SN.value (R570). -/
def R.LDG_PARTNER_SN_value : Fld :=
  { off := 0x90078, lo := 0, w := 64, cold := 0, acc := .derived }

/-- LDG_EVT_CNT.count (R570). -/
def R.LDG_EVT_CNT_count (i : Nat) : Fld :=
  { off := 0x90080 + 4 * i, lo := 0, w := 32, cold := 0, acc := .ro }

/-- LDG_FWA_DATA.word (R570). -/
def R.LDG_FWA_DATA_word (w : Nat) : Fld :=
  { off := 0x90100 + 4 * w, lo := 0, w := 32, cold := 0, acc := .rw, mids := 4 }

/-- LDG_FWA_CTL.go (R570). -/
def R.LDG_FWA_CTL_go : Fld :=
  { off := 0x901F0, lo := 0, w := 1, cold := 0, acc := .w1s }

/-- LDG_FWA_CTL.status (R570). -/
def R.LDG_FWA_CTL_status : Fld :=
  { off := 0x901F0, lo := 2, w := 3, cold := 0, acc := .ro }

/-- LDG_FWA_CTL.count (R570). -/
def R.LDG_FWA_CTL_count : Fld :=
  { off := 0x901F0, lo := 8, w := 8, cold := 40, acc := .rw, mids := 4 }

/-- LDG_FWA_SEQ.seq (R570). -/
def R.LDG_FWA_SEQ_seq : Fld :=
  { off := 0x901F8, lo := 0, w := 64, cold := 0, acc := .ro }

/-- SCB_CTL.pass (R643). -/
def R.SCB_CTL_pass : Fld :=
  { off := 0xA0000, lo := 0, w := 8, cold := 8, acc := .rw, mids := 4, ok := [(1, 64)] }

/-- SCB_CTL.quiet_pass (R643). -/
def R.SCB_CTL_quiet_pass : Fld :=
  { off := 0xA0000, lo := 8, w := 8, cold := 32, acc := .rw, mids := 4, ok := [(1, 255)] }

/-- SCB_STATUS.bank (R643). -/
def R.SCB_STATUS_bank : Fld :=
  { off := 0xA0004, lo := 0, w := 5, cold := 0, acc := .ro }

/-- SCB_STATUS.position (R643). -/
def R.SCB_STATUS_position : Fld :=
  { off := 0xA0004, lo := 8, w := 17, cold := 0, acc := .ro }

/-- SCB_CNT.count (R643). -/
def R.SCB_CNT_count (i : Nat) : Fld :=
  { off := 0xA0008 + 4 * i, lo := 0, w := 32, cold := 0, acc := .ro, keep := true }

/-- SCB_EVT.cause (R643). -/
def R.SCB_EVT_cause : Fld :=
  { off := 0xA0014, lo := 0, w := 5, cold := 0, acc := .w1c }

/-- SCB_EVT_CNT.count (R643). -/
def R.SCB_EVT_CNT_count (i : Nat) : Fld :=
  { off := 0xA0054 + 4 * i, lo := 0, w := 32, cold := 0, acc := .ro }

/-- SCB_OWN.owners (R643). -/
def R.SCB_OWN_owners (b : Nat) (i : Nat) : Fld :=
  { off := 0xA0100 + 8 * b + 4 * i, lo := 0, w := 32, cold := 0xFFFFFFFF, acc := .rw, mids := 4 }

/-- SCB_PMAP_SEL.block (R643). -/
def R.SCB_PMAP_SEL_block (mid : Nat) : Fld :=
  { off := 0xA0400 + 0x100000 * (mid + 1), lo := 5, w := 11, cold := 0, acc := .rw }

/-- SCB_PMAP_SEL.bank (R643). -/
def R.SCB_PMAP_SEL_bank (mid : Nat) : Fld :=
  { off := 0xA0400 + 0x100000 * (mid + 1), lo := 16, w := 5, cold := 0, acc := .rw }

/-- SCB_PMAP_DATA.bits (R643). -/
def R.SCB_PMAP_DATA_bits : Fld :=
  { off := 0xA0404, lo := 0, w := 32, cold := 0, acc := .derived }

/-- SCB_PMAP_TOTAL.count (R643). -/
def R.SCB_PMAP_TOTAL_count : Fld :=
  { off := 0xA0408, lo := 0, w := 21, cold := 0, acc := .derived }

/-- TRC_CTL.en (R684). -/
def R.TRC_CTL_en : Fld :=
  { off := 0xC0000, lo := 0, w := 1, cold := 1, acc := .rw, keep := true, mids := 39 }

/-- TRC_CTL.mode (R684). -/
def R.TRC_CTL_mode : Fld :=
  { off := 0xC0000, lo := 1, w := 1, cold := 0, acc := .rw, keep := true }

/-- TRC_CTL.class (R684). -/
def R.TRC_CTL_class : Fld :=
  { off := 0xC0000, lo := 8, w := 4, cold := 0xF, acc := .rw, keep := true }

/-- TRC_CTL.sink_pf (R684). -/
def R.TRC_CTL_sink_pf : Fld :=
  { off := 0xC0000, lo := 17, w := 1, cold := 0, acc := .rw }

/-- TRC_STATUS.wr_ptr (R684). -/
def R.TRC_STATUS_wr_ptr : Fld :=
  { off := 0xC0004, lo := 0, w := 13, cold := 0, acc := .ro, keep := true }

/-- TRC_STATUS.wrapped (R684). -/
def R.TRC_STATUS_wrapped : Fld :=
  { off := 0xC0004, lo := 14, w := 1, cold := 0, acc := .ro, keep := true }

/-- TRC_STATUS.stopped (R684). -/
def R.TRC_STATUS_stopped : Fld :=
  { off := 0xC0004, lo := 15, w := 1, cold := 0, acc := .ro, keep := true }

/-- TRC_STATUS.paused (R684). -/
def R.TRC_STATUS_paused : Fld :=
  { off := 0xC0004, lo := 16, w := 1, cold := 0, acc := .derived }

/-- TRC_ENTRIES.count (R684). -/
def R.TRC_ENTRIES_count : Fld :=
  { off := 0xC0008, lo := 0, w := 32, cold := 0, acc := .ro, keep := true }

/-- TRC_EVT.cause (R684). -/
def R.TRC_EVT_cause : Fld :=
  { off := 0xC000C, lo := 0, w := 3, cold := 0, acc := .w1c, keep := true }

/-- TRC_HOST_MARK.value (R684). -/
def R.TRC_HOST_MARK_value : Fld :=
  { off := 0xC0010, lo := 0, w := 32, cold := 0, acc := .wo }

/-- TRC_PAGE.page (R684). -/
def R.TRC_PAGE_page (mid : Nat) : Fld :=
  { off := 0xC0014 + 0x100000 * (mid + 1), lo := 0, w := 2, cold := 0, acc := .rw }

/-- TRC_CLEAR.clear (R684). -/
def R.TRC_CLEAR_clear : Fld :=
  { off := 0xC0018, lo := 0, w := 1, cold := 0, acc := .wo }

/-- TRC_SINK_BASE.base (R684). -/
def R.TRC_SINK_BASE_base : Fld :=
  { off := 0xC0020, lo := 0, w := 64, cold := 0, acc := .rw, align := 5, lock := some (R.TRC_CTL_sink_en).key }

/-- TRC_SINK_LOG2.k (R684). -/
def R.TRC_SINK_LOG2_k : Fld :=
  { off := 0xC0028, lo := 0, w := 5, cold := 6, acc := .rw, ok := [(6, 16)] }

/-- TRC_SINK_HEAD.head (R684). -/
def R.TRC_SINK_HEAD_head : Fld :=
  { off := 0xC002C, lo := 0, w := 17, cold := 0, acc := .wo }

/-- TRC_SINK_TAIL.tail (R684). -/
def R.TRC_SINK_TAIL_tail : Fld :=
  { off := 0xC0030, lo := 0, w := 17, cold := 0, acc := .ro }

/-- TRC_SINK_SKIP_CNT.count (R684). -/
def R.TRC_SINK_SKIP_CNT_count : Fld :=
  { off := 0xC0034, lo := 0, w := 32, cold := 0, acc := .ro }

/-- TRC_STOP_DROP_CNT.count (R684). -/
def R.TRC_STOP_DROP_CNT_count : Fld :=
  { off := 0xC0038, lo := 0, w := 32, cold := 0, acc := .ro, keep := true }

/-- TRC_EVT_CNT.count (R684). -/
def R.TRC_EVT_CNT_count (i : Nat) : Fld :=
  { off := 0xC0050 + 4 * i, lo := 0, w := 32, cold := 0, acc := .ro, keep := true }

/-- TRC_BUF.word (R684). -/
def R.TRC_BUF_word (w : Nat) : Fld :=
  { off := 0xD0000 + 8 * w, lo := 0, w := 64, cold := 0, acc := .derived }

/-- FTM_FLT_INJ.src (R615). -/
def R.FTM_FLT_INJ_src : Fld :=
  { off := 0xF0100, lo := 0, w := 7, cold := 0, acc := .wo }

/-- FTM_FLT_INJ.count (R615). -/
def R.FTM_FLT_INJ_count : Fld :=
  { off := 0xF0100, lo := 8, w := 8, cold := 0, acc := .wo }

/-- FTM_FLT_INJ.detail (R615). -/
def R.FTM_FLT_INJ_detail : Fld :=
  { off := 0xF0100, lo := 16, w := 8, cold := 0, acc := .wo }

/-- FTM_FLT_INJ.resource (R615). -/
def R.FTM_FLT_INJ_resource : Fld :=
  { off := 0xF0100, lo := 24, w := 8, cold := 0, acc := .wo }

/-- CFG_CMD.mse (R224). -/
def R.CFG_CMD_mse (f : Nat) : Fld :=
  { off := 0x1000000 + 0x100 * f, lo := 1, w := 1, cold := 0, acc := .rw }

/-- CFG_CMD.bme (R224). -/
def R.CFG_CMD_bme (f : Nat) : Fld :=
  { off := 0x1000000 + 0x100 * f, lo := 2, w := 1, cold := 0, acc := .rw }

/-- CFG_CMD.parity (R224). -/
def R.CFG_CMD_parity (f : Nat) : Fld :=
  { off := 0x1000000 + 0x100 * f, lo := 6, w := 1, cold := 0, acc := .rw }

/-- CFG_CMD.serr (R224). -/
def R.CFG_CMD_serr (f : Nat) : Fld :=
  { off := 0x1000000 + 0x100 * f, lo := 8, w := 1, cold := 0, acc := .rw }

/-- CFG_PM.d3 (R225). -/
def R.CFG_PM_d3 (f : Nat) : Fld :=
  { off := 0x1000004 + 0x100 * f, lo := 0, w := 1, cold := 0, acc := .rw }

/-- CFG_DEVCTL.cor_en (R233, R237). -/
def R.CFG_DEVCTL_cor_en (f : Nat) : Fld :=
  { off := 0x1000008 + 0x100 * f, lo := 0, w := 1, cold := 0, acc := .rw }

/-- CFG_DEVCTL.nonfatal_en (R233, R237). -/
def R.CFG_DEVCTL_nonfatal_en (f : Nat) : Fld :=
  { off := 0x1000008 + 0x100 * f, lo := 1, w := 1, cold := 0, acc := .rw }

/-- CFG_DEVCTL.fatal_en (R233, R237). -/
def R.CFG_DEVCTL_fatal_en (f : Nat) : Fld :=
  { off := 0x1000008 + 0x100 * f, lo := 2, w := 1, cold := 0, acc := .rw }

/-- CFG_DEVCTL.ur_en (R233, R237). -/
def R.CFG_DEVCTL_ur_en (f : Nat) : Fld :=
  { off := 0x1000008 + 0x100 * f, lo := 3, w := 1, cold := 0, acc := .rw }

/-- CFG_DEVCTL.relaxed (R233, R237). -/
def R.CFG_DEVCTL_relaxed (f : Nat) : Fld :=
  { off := 0x1000008 + 0x100 * f, lo := 4, w := 1, cold := 1, acc := .rw }

/-- CFG_DEVCTL.mps (R233, R237). -/
def R.CFG_DEVCTL_mps (f : Nat) : Fld :=
  { off := 0x1000008 + 0x100 * f, lo := 5, w := 3, cold := 0, acc := .rw }

/-- CFG_DEVCTL.ext_tag (R233, R237). -/
def R.CFG_DEVCTL_ext_tag (f : Nat) : Fld :=
  { off := 0x1000008 + 0x100 * f, lo := 8, w := 1, cold := 1, acc := .rw }

/-- CFG_DEVCTL.no_snoop (R233, R237). -/
def R.CFG_DEVCTL_no_snoop (f : Nat) : Fld :=
  { off := 0x1000008 + 0x100 * f, lo := 11, w := 1, cold := 1, acc := .rw }

/-- CFG_DEVCTL.mrrs (R233, R237). -/
def R.CFG_DEVCTL_mrrs (f : Nat) : Fld :=
  { off := 0x1000008 + 0x100 * f, lo := 12, w := 3, cold := 2, acc := .rw }

/-- CFG_DEVCTL2.cto_value (R233, R239). -/
def R.CFG_DEVCTL2_cto_value (f : Nat) : Fld :=
  { off := 0x100000C + 0x100 * f, lo := 0, w := 4, cold := 0, acc := .rw }

/-- CFG_DEVCTL2.cto_disable (R233, R239). -/
def R.CFG_DEVCTL2_cto_disable (f : Nat) : Fld :=
  { off := 0x100000C + 0x100 * f, lo := 4, w := 1, cold := 0, acc := .rw }

/-- CFG_DEVCTL2.ido_req (R233, R239). -/
def R.CFG_DEVCTL2_ido_req (f : Nat) : Fld :=
  { off := 0x100000C + 0x100 * f, lo := 8, w := 1, cold := 0, acc := .rw }

/-- CFG_DEVCTL2.ido_cpl (R233, R239). -/
def R.CFG_DEVCTL2_ido_cpl (f : Nat) : Fld :=
  { off := 0x100000C + 0x100 * f, lo := 9, w := 1, cold := 0, acc := .rw }

/-- CFG_DEVCTL2.tag10 (R233, R239). -/
def R.CFG_DEVCTL2_tag10 (f : Nat) : Fld :=
  { off := 0x100000C + 0x100 * f, lo := 12, w := 1, cold := 0, acc := .rw }

/-- CFG_MSIX.mask (R248). -/
def R.CFG_MSIX_mask (f : Nat) : Fld :=
  { off := 0x1000010 + 0x100 * f, lo := 14, w := 1, cold := 0, acc := .rw }

/-- CFG_MSIX.enable (R248). -/
def R.CFG_MSIX_enable (f : Nat) : Fld :=
  { off := 0x1000010 + 0x100 * f, lo := 15, w := 1, cold := 0, acc := .rw }

/-- CFG_AER_UNC.dl (R243). -/
def R.CFG_AER_UNC_dl (f : Nat) : Fld :=
  { off := 0x1000014 + 0x100 * f, lo := 4, w := 1, cold := 0, acc := .w1c, keep := true }

/-- CFG_AER_UNC.poisoned (R243). -/
def R.CFG_AER_UNC_poisoned (f : Nat) : Fld :=
  { off := 0x1000014 + 0x100 * f, lo := 12, w := 1, cold := 0, acc := .w1c, keep := true }

/-- CFG_AER_UNC.fc (R243). -/
def R.CFG_AER_UNC_fc (f : Nat) : Fld :=
  { off := 0x1000014 + 0x100 * f, lo := 13, w := 1, cold := 0, acc := .w1c, keep := true }

/-- CFG_AER_UNC.cpl_timeout (R243). -/
def R.CFG_AER_UNC_cpl_timeout (f : Nat) : Fld :=
  { off := 0x1000014 + 0x100 * f, lo := 14, w := 1, cold := 0, acc := .w1c, keep := true }

/-- CFG_AER_UNC.cpl_abort (R243). -/
def R.CFG_AER_UNC_cpl_abort (f : Nat) : Fld :=
  { off := 0x1000014 + 0x100 * f, lo := 15, w := 1, cold := 0, acc := .w1c, keep := true }

/-- CFG_AER_UNC.unexp_cpl (R243). -/
def R.CFG_AER_UNC_unexp_cpl (f : Nat) : Fld :=
  { off := 0x1000014 + 0x100 * f, lo := 16, w := 1, cold := 0, acc := .w1c, keep := true }

/-- CFG_AER_UNC.overflow (R243). -/
def R.CFG_AER_UNC_overflow (f : Nat) : Fld :=
  { off := 0x1000014 + 0x100 * f, lo := 17, w := 1, cold := 0, acc := .w1c, keep := true }

/-- CFG_AER_UNC.malformed (R243). -/
def R.CFG_AER_UNC_malformed (f : Nat) : Fld :=
  { off := 0x1000014 + 0x100 * f, lo := 18, w := 1, cold := 0, acc := .w1c, keep := true }

/-- CFG_AER_UNC.unsup_req (R243). -/
def R.CFG_AER_UNC_unsup_req (f : Nat) : Fld :=
  { off := 0x1000014 + 0x100 * f, lo := 20, w := 1, cold := 0, acc := .w1c, keep := true }

/-- CFG_AER_UNC.uncor_int (R243). -/
def R.CFG_AER_UNC_uncor_int (f : Nat) : Fld :=
  { off := 0x1000014 + 0x100 * f, lo := 22, w := 1, cold := 0, acc := .w1c, keep := true }

/-- CFG_AER_SEV.dl (R243). -/
def R.CFG_AER_SEV_dl (f : Nat) : Fld :=
  { off := 0x1000018 + 0x100 * f, lo := 4, w := 1, cold := 1, acc := .rw, keep := true }

/-- CFG_AER_SEV.poisoned (R243). -/
def R.CFG_AER_SEV_poisoned (f : Nat) : Fld :=
  { off := 0x1000018 + 0x100 * f, lo := 12, w := 1, cold := 0, acc := .rw, keep := true }

/-- CFG_AER_SEV.fc (R243). -/
def R.CFG_AER_SEV_fc (f : Nat) : Fld :=
  { off := 0x1000018 + 0x100 * f, lo := 13, w := 1, cold := 1, acc := .rw, keep := true }

/-- CFG_AER_SEV.cpl_timeout (R243). -/
def R.CFG_AER_SEV_cpl_timeout (f : Nat) : Fld :=
  { off := 0x1000018 + 0x100 * f, lo := 14, w := 1, cold := 0, acc := .rw, keep := true }

/-- CFG_AER_SEV.cpl_abort (R243). -/
def R.CFG_AER_SEV_cpl_abort (f : Nat) : Fld :=
  { off := 0x1000018 + 0x100 * f, lo := 15, w := 1, cold := 0, acc := .rw, keep := true }

/-- CFG_AER_SEV.unexp_cpl (R243). -/
def R.CFG_AER_SEV_unexp_cpl (f : Nat) : Fld :=
  { off := 0x1000018 + 0x100 * f, lo := 16, w := 1, cold := 0, acc := .rw, keep := true }

/-- CFG_AER_SEV.overflow (R243). -/
def R.CFG_AER_SEV_overflow (f : Nat) : Fld :=
  { off := 0x1000018 + 0x100 * f, lo := 17, w := 1, cold := 1, acc := .rw, keep := true }

/-- CFG_AER_SEV.malformed (R243). -/
def R.CFG_AER_SEV_malformed (f : Nat) : Fld :=
  { off := 0x1000018 + 0x100 * f, lo := 18, w := 1, cold := 1, acc := .rw, keep := true }

/-- CFG_AER_SEV.unsup_req (R243). -/
def R.CFG_AER_SEV_unsup_req (f : Nat) : Fld :=
  { off := 0x1000018 + 0x100 * f, lo := 20, w := 1, cold := 0, acc := .rw, keep := true }

/-- CFG_AER_SEV.uncor_int (R243). -/
def R.CFG_AER_SEV_uncor_int (f : Nat) : Fld :=
  { off := 0x1000018 + 0x100 * f, lo := 22, w := 1, cold := 1, acc := .rw, keep := true }

/-- CFG_AER_MASK.dl (R243). -/
def R.CFG_AER_MASK_dl (f : Nat) : Fld :=
  { off := 0x100001C + 0x100 * f, lo := 4, w := 1, cold := 0, acc := .rw, keep := true }

/-- CFG_AER_MASK.poisoned (R243). -/
def R.CFG_AER_MASK_poisoned (f : Nat) : Fld :=
  { off := 0x100001C + 0x100 * f, lo := 12, w := 1, cold := 0, acc := .rw, keep := true }

/-- CFG_AER_MASK.fc (R243). -/
def R.CFG_AER_MASK_fc (f : Nat) : Fld :=
  { off := 0x100001C + 0x100 * f, lo := 13, w := 1, cold := 0, acc := .rw, keep := true }

/-- CFG_AER_MASK.cpl_timeout (R243). -/
def R.CFG_AER_MASK_cpl_timeout (f : Nat) : Fld :=
  { off := 0x100001C + 0x100 * f, lo := 14, w := 1, cold := 0, acc := .rw, keep := true }

/-- CFG_AER_MASK.cpl_abort (R243). -/
def R.CFG_AER_MASK_cpl_abort (f : Nat) : Fld :=
  { off := 0x100001C + 0x100 * f, lo := 15, w := 1, cold := 0, acc := .rw, keep := true }

/-- CFG_AER_MASK.unexp_cpl (R243). -/
def R.CFG_AER_MASK_unexp_cpl (f : Nat) : Fld :=
  { off := 0x100001C + 0x100 * f, lo := 16, w := 1, cold := 0, acc := .rw, keep := true }

/-- CFG_AER_MASK.overflow (R243). -/
def R.CFG_AER_MASK_overflow (f : Nat) : Fld :=
  { off := 0x100001C + 0x100 * f, lo := 17, w := 1, cold := 0, acc := .rw, keep := true }

/-- CFG_AER_MASK.malformed (R243). -/
def R.CFG_AER_MASK_malformed (f : Nat) : Fld :=
  { off := 0x100001C + 0x100 * f, lo := 18, w := 1, cold := 0, acc := .rw, keep := true }

/-- CFG_AER_MASK.unsup_req (R243). -/
def R.CFG_AER_MASK_unsup_req (f : Nat) : Fld :=
  { off := 0x100001C + 0x100 * f, lo := 20, w := 1, cold := 0, acc := .rw, keep := true }

/-- CFG_AER_MASK.uncor_int (R243). -/
def R.CFG_AER_MASK_uncor_int (f : Nat) : Fld :=
  { off := 0x100001C + 0x100 * f, lo := 22, w := 1, cold := 1, acc := .rw, keep := true }

/-- CFG_BAR0.addr (R224). -/
def R.CFG_BAR0_addr (f : Nat) : Fld :=
  { off := 0x1000020 + 0x100 * f, lo := 20, w := 44, cold := 0, acc := .rw }

/-- CFG_BAR2.addr (R224). -/
def R.CFG_BAR2_addr (f : Nat) : Fld :=
  { off := 0x1000028 + 0x100 * f, lo := 26, w := 38, cold := 0, acc := .rw }

/-- CFG_BAR4.addr (R224). -/
def R.CFG_BAR4_addr (f : Nat) : Fld :=
  { off := 0x1000030 + 0x100 * f, lo := 16, w := 48, cold := 0, acc := .rw }

/-- CFG_AER_COR.receiver (R243). -/
def R.CFG_AER_COR_receiver (f : Nat) : Fld :=
  { off := 0x1000038 + 0x100 * f, lo := 0, w := 1, cold := 0, acc := .w1c, keep := true }

/-- CFG_AER_COR.bad_tlp (R243). -/
def R.CFG_AER_COR_bad_tlp (f : Nat) : Fld :=
  { off := 0x1000038 + 0x100 * f, lo := 6, w := 1, cold := 0, acc := .w1c, keep := true }

/-- CFG_AER_COR.bad_dllp (R243). -/
def R.CFG_AER_COR_bad_dllp (f : Nat) : Fld :=
  { off := 0x1000038 + 0x100 * f, lo := 7, w := 1, cold := 0, acc := .w1c, keep := true }

/-- CFG_AER_COR.rollover (R243). -/
def R.CFG_AER_COR_rollover (f : Nat) : Fld :=
  { off := 0x1000038 + 0x100 * f, lo := 8, w := 1, cold := 0, acc := .w1c, keep := true }

/-- CFG_AER_COR.replay (R243). -/
def R.CFG_AER_COR_replay (f : Nat) : Fld :=
  { off := 0x1000038 + 0x100 * f, lo := 12, w := 1, cold := 0, acc := .w1c, keep := true }

/-- CFG_AER_COR.advisory (R243). -/
def R.CFG_AER_COR_advisory (f : Nat) : Fld :=
  { off := 0x1000038 + 0x100 * f, lo := 13, w := 1, cold := 0, acc := .w1c, keep := true }

/-- CFG_AER_COR.internal (R243). -/
def R.CFG_AER_COR_internal (f : Nat) : Fld :=
  { off := 0x1000038 + 0x100 * f, lo := 14, w := 1, cold := 0, acc := .w1c, keep := true }

/-- CFG_AER_COR_MASK.receiver (R243). -/
def R.CFG_AER_COR_MASK_receiver (f : Nat) : Fld :=
  { off := 0x100003C + 0x100 * f, lo := 0, w := 1, cold := 0, acc := .rw, keep := true }

/-- CFG_AER_COR_MASK.bad_tlp (R243). -/
def R.CFG_AER_COR_MASK_bad_tlp (f : Nat) : Fld :=
  { off := 0x100003C + 0x100 * f, lo := 6, w := 1, cold := 0, acc := .rw, keep := true }

/-- CFG_AER_COR_MASK.bad_dllp (R243). -/
def R.CFG_AER_COR_MASK_bad_dllp (f : Nat) : Fld :=
  { off := 0x100003C + 0x100 * f, lo := 7, w := 1, cold := 0, acc := .rw, keep := true }

/-- CFG_AER_COR_MASK.rollover (R243). -/
def R.CFG_AER_COR_MASK_rollover (f : Nat) : Fld :=
  { off := 0x100003C + 0x100 * f, lo := 8, w := 1, cold := 0, acc := .rw, keep := true }

/-- CFG_AER_COR_MASK.replay (R243). -/
def R.CFG_AER_COR_MASK_replay (f : Nat) : Fld :=
  { off := 0x100003C + 0x100 * f, lo := 12, w := 1, cold := 0, acc := .rw, keep := true }

/-- CFG_AER_COR_MASK.advisory (R243). -/
def R.CFG_AER_COR_MASK_advisory (f : Nat) : Fld :=
  { off := 0x100003C + 0x100 * f, lo := 13, w := 1, cold := 1, acc := .rw, keep := true }

/-- CFG_AER_COR_MASK.internal (R243). -/
def R.CFG_AER_COR_MASK_internal (f : Nat) : Fld :=
  { off := 0x100003C + 0x100 * f, lo := 14, w := 1, cold := 1, acc := .rw, keep := true }

/-- CFG_AER_CAP.first (R225). -/
def R.CFG_AER_CAP_first (f : Nat) : Fld :=
  { off := 0x1000040 + 0x100 * f, lo := 0, w := 5, cold := 0, acc := .ro, keep := true }

/-- CFG_HDRLOG.dword (R225). -/
def R.CFG_HDRLOG_dword (f : Nat) (i : Nat) : Fld :=
  { off := 0x1000044 + 0x100 * f + 4 * i, lo := 0, w := 32, cold := 0, acc := .ro, keep := true }

/-- CFG_STATUS.master_parity (R224). -/
def R.CFG_STATUS_master_parity (f : Nat) : Fld :=
  { off := 0x1000054 + 0x100 * f, lo := 8, w := 1, cold := 0, acc := .w1c }

/-- CFG_STATUS.sig_abort (R224). -/
def R.CFG_STATUS_sig_abort (f : Nat) : Fld :=
  { off := 0x1000054 + 0x100 * f, lo := 11, w := 1, cold := 0, acc := .w1c }

/-- CFG_STATUS.rcv_abort (R224). -/
def R.CFG_STATUS_rcv_abort (f : Nat) : Fld :=
  { off := 0x1000054 + 0x100 * f, lo := 12, w := 1, cold := 0, acc := .w1c }

/-- CFG_STATUS.rcv_master (R224). -/
def R.CFG_STATUS_rcv_master (f : Nat) : Fld :=
  { off := 0x1000054 + 0x100 * f, lo := 13, w := 1, cold := 0, acc := .w1c }

/-- CFG_STATUS.sig_error (R224). -/
def R.CFG_STATUS_sig_error (f : Nat) : Fld :=
  { off := 0x1000054 + 0x100 * f, lo := 14, w := 1, cold := 0, acc := .w1c }

/-- CFG_STATUS.parity (R224). -/
def R.CFG_STATUS_parity (f : Nat) : Fld :=
  { off := 0x1000054 + 0x100 * f, lo := 15, w := 1, cold := 0, acc := .w1c }

/-- CFG_DEVSTA.cor (R225). -/
def R.CFG_DEVSTA_cor (f : Nat) : Fld :=
  { off := 0x1000058 + 0x100 * f, lo := 0, w := 1, cold := 0, acc := .w1c }

/-- CFG_DEVSTA.nonfatal (R225). -/
def R.CFG_DEVSTA_nonfatal (f : Nat) : Fld :=
  { off := 0x1000058 + 0x100 * f, lo := 1, w := 1, cold := 0, acc := .w1c }

/-- CFG_DEVSTA.fatal (R225). -/
def R.CFG_DEVSTA_fatal (f : Nat) : Fld :=
  { off := 0x1000058 + 0x100 * f, lo := 2, w := 1, cold := 0, acc := .w1c }

/-- CFG_DEVSTA.ur (R225). -/
def R.CFG_DEVSTA_ur (f : Nat) : Fld :=
  { off := 0x1000058 + 0x100 * f, lo := 3, w := 1, cold := 0, acc := .w1c }

/-- CFG_LINKCTL.aspm (R225, R255). -/
def R.CFG_LINKCTL_aspm (f : Nat) : Fld :=
  { off := 0x100005C + 0x100 * f, lo := 0, w := 2, cold := 0, acc := .rw }

/-- CFG_LINKCTL.rcb (R225, R255). -/
def R.CFG_LINKCTL_rcb (f : Nat) : Fld :=
  { off := 0x100005C + 0x100 * f, lo := 3, w := 1, cold := 0, acc := .rw }

/-- CFG_LINKCTL.common (R225, R255). -/
def R.CFG_LINKCTL_common (f : Nat) : Fld :=
  { off := 0x100005C + 0x100 * f, lo := 6, w := 1, cold := 0, acc := .rw }

/-- CFG_LINKCTL.extended (R225, R255). -/
def R.CFG_LINKCTL_extended (f : Nat) : Fld :=
  { off := 0x100005C + 0x100 * f, lo := 7, w := 1, cold := 0, acc := .rw }

/-- CFG_MISC.line_size (R224). -/
def R.CFG_MISC_line_size (f : Nat) : Fld :=
  { off := 0x1000060 + 0x100 * f, lo := 0, w := 8, cold := 0, acc := .rw }

/-- CFG_INTLINE.line (R224). -/
def R.CFG_INTLINE_line (f : Nat) : Fld :=
  { off := 0x1000064 + 0x100 * f, lo := 0, w := 8, cold := 0, acc := .rw }

/-- MSIX_ADDR.addr (R260). -/
def R.MSIX_ADDR_addr (f : Nat) (x : Nat) : Fld :=
  { off := 0x1000200 + 0x100 * f + 0x10 * x, lo := 0, w := 64, cold := 0, acc := .rw }

/-- MSIX_DATA.data (R260). -/
def R.MSIX_DATA_data (f : Nat) (x : Nat) : Fld :=
  { off := 0x1000208 + 0x100 * f + 0x10 * x, lo := 0, w := 32, cold := 0, acc := .rw }

/-- MSIX_VCTL.mask (R260). -/
def R.MSIX_VCTL_mask (f : Nat) (x : Nat) : Fld :=
  { off := 0x100020C + 0x100 * f + 0x10 * x, lo := 0, w := 1, cold := 1, acc := .rw }

/-- MSIX_PBA.pending (R260). -/
def R.MSIX_PBA_pending (f : Nat) : Fld :=
  { off := 0x1000400 + 0x100 * f, lo := 0, w := 4, cold := 0, acc := .ro }

/-- Registers of the address map, part 0 (R685, R686). -/
def bankPart0 : List Bank := [
  { base := 0x0, dims := [], flds := fun _ is => match is with
    | [] => [R.GLB_ID_vendor, R.GLB_ID_part]
    | _ => [] },
  { base := 0x4, dims := [], flds := fun _ is => match is with
    | [] => [R.GLB_REV_module_rev, R.GLB_REV_die_rev]
    | _ => [] },
  { base := 0x8, dims := [], flds := fun _ is => match is with
    | [] => [R.GLB_LIFECYCLE_state]
    | _ => [] },
  { base := 0xC, dims := [], flds := fun _ is => match is with
    | [] => [R.GLB_UNIT_ADDR_addr, R.GLB_UNIT_ADDR_valid]
    | _ => [] },
  { base := 0x10, dims := [], flds := fun _ is => match is with
    | [] => [R.GLB_RESET_warm, R.GLB_RESET_switch, R.GLB_RESET_key]
    | _ => [] },
  { base := 0x14, dims := [], flds := fun _ is => match is with
    | [] => [R.GLB_RESET_CAUSE_cause, R.GLB_RESET_CAUSE_switch_req, R.GLB_RESET_CAUSE_mid]
    | _ => [] },
  { base := 0x20, dims := [], flds := fun _ is => match is with
    | [] => [R.GLB_BOOT_STATUS_stage, R.GLB_BOOT_STATUS_bank, R.GLB_BOOT_STATUS_trial, R.GLB_BOOT_STATUS_fallback, R.GLB_BOOT_STATUS_fw_ready, R.GLB_BOOT_STATUS_reject_a, R.GLB_BOOT_STATUS_reject_b, R.GLB_BOOT_STATUS_index]
    | _ => [] },
  { base := 0x24, dims := [], flds := fun _ is => match is with
    | [] => [R.GLB_FW_VERSION_major, R.GLB_FW_VERSION_minor, R.GLB_FW_VERSION_patch]
    | _ => [] },
  { base := 0x28, dims := [], flds := fun _ is => match is with
    | [] => [R.GLB_ROLLBACK_count]
    | _ => [] },
  { base := 0x2C, dims := [], flds := fun _ is => match is with
    | [] => [R.GLB_BANK_STATE_preferred, R.GLB_BANK_STATE_trial, R.GLB_BANK_STATE_pending, R.GLB_BANK_STATE_attempts, R.GLB_BANK_STATE_status_a, R.GLB_BANK_STATE_status_b, R.GLB_BANK_STATE_index_a, R.GLB_BANK_STATE_index_b]
    | _ => [] },
  { base := 0x40, dims := [], flds := fun _ is => match is with
    | [] => [R.GLB_BOOT_EVT_cause]
    | _ => [] },
  { base := 0x50, dims := [(4, 0x4)], flds := fun _ is => match is with
    | [i] => [R.GLB_BOOT_EVT_CNT_count i]
    | _ => [] },
  { base := 0x60, dims := [], flds := fun _ is => match is with
    | [] => [R.GLB_WDOG_CTL_timeout, R.GLB_WDOG_CTL_running]
    | _ => [] },
  { base := 0x64, dims := [], flds := fun _ is => match is with
    | [] => [R.GLB_WDOG_KICK_key]
    | _ => [] },
  { base := 0x70, dims := [], flds := fun _ is => match is with
    | [] => [R.GLB_LC_REQ_target, R.GLB_LC_REQ_key]
    | _ => [] },
  { base := 0x74, dims := [], flds := fun _ is => match is with
    | [] => [R.GLB_LC_STATUS_pending, R.GLB_LC_STATUS_target, R.GLB_LC_STATUS_result]
    | _ => [] },
  { base := 0x78, dims := [], flds := fun _ is => match is with
    | [] => [R.GLB_DBG_CTL_allow, R.GLB_DBG_CTL_deny]
    | _ => [] },
  { base := 0x1000, dims := [], flds := fun _ is => match is with
    | [] => [R.PWR_STATE_target, R.PWR_STATE_current, R.PWR_STATE_busy, R.PWR_STATE_last_result]
    | _ => [] },
  { base := 0x1004, dims := [], flds := fun _ is => match is with
    | [] => [R.PWR_QUIET_PORTS0_can, R.PWR_QUIET_PORTS0_lin, R.PWR_QUIET_PORTS0_sent, R.PWR_QUIET_PORTS0_ser]
    | _ => [] },
  { base := 0x1008, dims := [], flds := fun _ is => match is with
    | [] => [R.PWR_QUIET_PORTS1_card, R.PWR_QUIET_PORTS1_eth, R.PWR_QUIET_PORTS1_lxb, R.PWR_QUIET_PORTS1_gpio]
    | _ => [] }]

/-- Registers of the address map, part 1 (R685, R686). -/
def bankPart1 : List Bank := [
  { base := 0x1010, dims := [], flds := fun _ is => match is with
    | [] => [R.PWR_VIN_vin]
    | _ => [] },
  { base := 0x1014, dims := [], flds := fun _ is => match is with
    | [] => [R.PWR_STATUS_cause, R.PWR_STATUS_in_low, R.PWR_STATUS_in_over]
    | _ => [] },
  { base := 0x1018, dims := [], flds := fun _ is => match is with
    | [] => [R.PWR_INT_EN_en]
    | _ => [] },
  { base := 0x1020, dims := [(6, 0x4)], flds := fun _ is => match is with
    | [i] => [R.PWR_CNT_count i]
    | _ => [] },
  { base := 0x1040, dims := [], flds := fun _ is => match is with
    | [] => [R.PWR_PF_LOG_shutdown_written, R.PWR_PF_LOG_ledger_flushed, R.PWR_PF_LOG_mirror_acked, R.PWR_PF_LOG_store_ready, R.PWR_PF_LOG_t_step4]
    | _ => [] },
  { base := 0x1044, dims := [], flds := fun _ is => match is with
    | [] => [R.PWR_PF_ENERGY_energy]
    | _ => [] },
  { base := 0x1800, dims := [], flds := fun _ is => match is with
    | [] => [R.HUP_CFG_charge_current, R.HUP_CFG_v_floor]
    | _ => [] },
  { base := 0x1804, dims := [], flds := fun _ is => match is with
    | [] => [R.HUP_EREQ_ereq]
    | _ => [] },
  { base := 0x1808, dims := [], flds := fun _ is => match is with
    | [] => [R.HUP_STATUS_state, R.HUP_STATUS_write_through, R.HUP_STATUS_cause, R.HUP_STATUS_reason]
    | _ => [] },
  { base := 0x180C, dims := [], flds := fun _ is => match is with
    | [] => [R.HUP_VSTORE_value]
    | _ => [] },
  { base := 0x1810, dims := [], flds := fun _ is => match is with
    | [] => [R.HUP_E_CHARGE_value]
    | _ => [] },
  { base := 0x1814, dims := [], flds := fun _ is => match is with
    | [] => [R.HUP_E_VOLT_value]
    | _ => [] },
  { base := 0x1818, dims := [], flds := fun _ is => match is with
    | [] => [R.HUP_E_USABLE_value]
    | _ => [] },
  { base := 0x181C, dims := [], flds := fun _ is => match is with
    | [] => [R.HUP_CAP_value]
    | _ => [] },
  { base := 0x1820, dims := [], flds := fun _ is => match is with
    | [] => [R.HUP_ESR_value]
    | _ => [] },
  { base := 0x1824, dims := [], flds := fun _ is => match is with
    | [] => [R.HUP_INT_EN_en]
    | _ => [] },
  { base := 0x1830, dims := [(4, 0x4)], flds := fun _ is => match is with
    | [i] => [R.HUP_CNT_count i]
    | _ => [] },
  { base := 0x2000, dims := [], flds := fun _ is => match is with
    | [] => [R.CLK_STATUS_pll_lock, R.CLK_STATUS_ref25_ok, R.CLK_STATUS_xt32_ok, R.CLK_STATUS_disciplined, R.CLK_STATUS_pcie_ref_ok]
    | _ => [] },
  { base := 0x2004, dims := [], flds := fun _ is => match is with
    | [] => [R.CLK_EVT_cause]
    | _ => [] },
  { base := 0x2010, dims := [(3, 0x4)], flds := fun _ is => match is with
    | [i] => [R.CLK_CNT_count i]
    | _ => [] }]

/-- Registers of the address map, part 2 (R685, R686). -/
def bankPart2 : List Bank := [
  { base := 0x2020, dims := [], wide := true, flds := fun _ is => match is with
    | [] => [R.CLK_MONO_time]
    | _ => [] },
  { base := 0x2028, dims := [], flds := fun _ is => match is with
    | [] => [R.CLK_XT32_PPM_error]
    | _ => [] },
  { base := 0x3000, dims := [], flds := fun _ is => match is with
    | [] => [R.THM_CFG_hyst]
    | _ => [] },
  { base := 0x3004, dims := [], flds := fun _ is => match is with
    | [] => [R.THM_LIM_warn, R.THM_LIM_enforce, R.THM_LIM_critical]
    | _ => [] },
  { base := 0x3008, dims := [], flds := fun _ is => match is with
    | [] => [R.THM_GRACE_grace]
    | _ => [] },
  { base := 0x300C, dims := [], flds := fun _ is => match is with
    | [] => [R.THM_DUTY_enf_duty, R.THM_DUTY_host_duty, R.THM_DUTY_duty]
    | _ => [] },
  { base := 0x3010, dims := [], flds := fun _ is => match is with
    | [] => [R.THM_STATUS_state, R.THM_STATUS_fast, R.THM_STATUS_grace_running, R.THM_STATUS_enforcing, R.THM_STATUS_hottest, R.THM_STATUS_highest]
    | _ => [] },
  { base := 0x3014, dims := [], flds := fun _ is => match is with
    | [] => [R.THM_CMD_measure]
    | _ => [] },
  { base := 0x3018, dims := [], flds := fun _ is => match is with
    | [] => [R.THM_EVT_cause]
    | _ => [] },
  { base := 0x301C, dims := [], flds := fun _ is => match is with
    | [] => [R.THM_INT_EN_en]
    | _ => [] },
  { base := 0x3020, dims := [], flds := fun _ is => match is with
    | [] => [R.THM_SAMPLE_CNT_count]
    | _ => [] },
  { base := 0x3024, dims := [], flds := fun _ is => match is with
    | [] => [R.THM_PEAK_value, R.THM_PEAK_sensor]
    | _ => [] },
  { base := 0x3040, dims := [(7, 0x4)], flds := fun _ is => match is with
    | [i] => [R.THM_EVT_CNT_count i]
    | _ => [] },
  { base := 0x3100, dims := [(9, 0x4)], flds := fun _ is => match is with
    | [k] => [R.THM_TS_raw k, R.THM_TS_reported k, R.THM_TS_suspect k, R.THM_TS_assumed k, R.THM_TS_count k, R.THM_TS_valid k]
    | _ => [] },
  { base := 0x4000, dims := [(128, 0x4)], flds := fun _ is => match is with
    | [n] => [R.FLT_SRC_CFG_n n, R.FLT_SRC_CFG_k n, R.FLT_SRC_CFG_action n, R.FLT_SRC_CFG_to_pf n, R.FLT_SRC_CFG_to_cp n, R.FLT_SRC_CFG_rec_all n]
    | _ => [] },
  { base := 0x4200, dims := [(128, 0x4)], flds := fun _ is => match is with
    | [n] => [R.FLT_SRC_STATE_count n, R.FLT_SRC_STATE_window n]
    | _ => [] },
  { base := 0x4400, dims := [(128, 0x4)], flds := fun _ is => match is with
    | [n] => [R.FLT_SRC_TOTAL_count n]
    | _ => [] },
  { base := 0x4600, dims := [(128, 0x4)], flds := fun _ is => match is with
    | [n] => [R.FLT_SRC_SEV_CNT_count n]
    | _ => [] },
  { base := 0x4800, dims := [(4, 0x4)], flds := fun _ is => match is with
    | [j] => [R.FLT_PEND_pend j]
    | _ => [] },
  { base := 0x4810, dims := [], wide := true, flds := fun _ is => match is with
    | [] => [R.FLT_EVQ_word]
    | _ => [] }]

/-- Registers of the address map, part 3 (R685, R686). -/
def bankPart3 : List Bank := [
  { base := 0x4818, dims := [], flds := fun _ is => match is with
    | [] => [R.FLT_EVQ_STAT_sideband, R.FLT_EVQ_STAT_poison, R.FLT_EVQ_STAT_empty]
    | _ => [] },
  { base := 0x481C, dims := [], flds := fun _ is => match is with
    | [] => [R.FLT_CTL_evq_pf, R.FLT_CTL_evq_cp]
    | _ => [] },
  { base := 0x4840, dims := [], flds := fun _ is => match is with
    | [] => [R.FLT_QUAR_PORT0_port]
    | _ => [] },
  { base := 0x4844, dims := [], flds := fun _ is => match is with
    | [] => [R.FLT_QUAR_PORT1_port]
    | _ => [] },
  { base := 0x4848, dims := [], flds := fun _ is => match is with
    | [] => [R.FLT_SAFE_active, R.FLT_SAFE_cause, R.FLT_SAFE_source]
    | _ => [] },
  { base := 0x5000, dims := [(128, 0x4)], flds := fun _ is => match is with
    | [n] => [R.DBT_FLT_n_max n, R.DBT_FLT_k_min n, R.DBT_FLT_action_min n]
    | _ => [] },
  { base := 0x5200, dims := [(31, 0x4)], flds := fun _ is => match is with
    | [p] => [R.DBT_GW_rate p, R.DBT_GW_burst p]
    | _ => [] },
  { base := 0x5300, dims := [], flds := fun _ is => match is with
    | [] => [R.DBT_LAST_offset, R.DBT_LAST_mid]
    | _ => [] },
  { base := 0x6000, dims := [(192, 0x4)], flds := fun _ is => match is with
    | [n] => [R.PIN_CFG_sel n, R.PIN_CFG_park n, R.PIN_CFG_pull n, R.PIN_CFG_drive n, R.PIN_CFG_slew n, R.PIN_CFG_attached n, R.PIN_CFG_busy n]
    | _ => [] },
  { base := 0x6300, dims := [], flds := fun _ is => match is with
    | [] => [R.PIN_CTL_lock]
    | _ => [] },
  { base := 0x6304, dims := [], flds := fun _ is => match is with
    | [] => [R.PIN_STATUS_cause, R.PIN_STATUS_last_land]
    | _ => [] },
  { base := 0x6308, dims := [(3, 0x4)], flds := fun _ is => match is with
    | [i] => [R.PIN_CNT_count i]
    | _ => [] },
  { base := 0x6320, dims := [(6, 0x4)], flds := fun _ is => match is with
    | [k] => [R.PIN_IN_level k]
    | _ => [] },
  { base := 0x8000, dims := [(16, 0x100), (16, 0x4)], flds := fun _ is => match is with
    | [c, w] => [R.MBX_TX_word c w]
    | _ => [] },
  { base := 0x8040, dims := [(16, 0x100), (16, 0x4)], flds := fun _ is => match is with
    | [c, w] => [R.MBX_RX_word c w]
    | _ => [] },
  { base := 0x8080, dims := [(16, 0x100)], flds := fun _ is => match is with
    | [c] => [R.MBX_TUMBLER_value c]
    | _ => [] },
  { base := 0x8084, dims := [(16, 0x100)], flds := fun _ is => match is with
    | [c] => [R.MBX_CTL_go c, R.MBX_CTL_release c, R.MBX_CTL_pop c, R.MBX_CTL_notice_en c, R.MBX_CTL_evt_en c]
    | _ => [] },
  { base := 0x8088, dims := [(16, 0x100)], flds := fun _ is => match is with
    | [c] => [R.MBX_STATUS_rx_count c, R.MBX_STATUS_staging c, R.MBX_STATUS_held c, R.MBX_STATUS_owner_mid c, R.MBX_STATUS_owner_addr c]
    | _ => [] },
  { base := 0x808C, dims := [(16, 0x100)], flds := fun _ is => match is with
    | [c] => [R.MBX_RX_SRC_mid c, R.MBX_RX_SRC_addr c, R.MBX_RX_SRC_valid c, R.MBX_RX_SRC_len c]
    | _ => [] },
  { base := 0x8090, dims := [(16, 0x100)], flds := fun _ is => match is with
    | [c] => [R.MBX_EVT_cause c]
    | _ => [] }]

/-- Registers of the address map, part 4 (R685, R686). -/
def bankPart4 : List Bank := [
  { base := 0x80A0, dims := [(16, 0x100), (5, 0x4)], flds := fun _ is => match is with
    | [c, i] => [R.MBX_CNT_count c i]
    | _ => [] },
  { base := 0x9000, dims := [(16, 0x4)], flds := fun _ is => match is with
    | [c] => [R.KWY_BIND_sender c, R.KWY_BIND_receiver c, R.KWY_BIND_valid c]
    | _ => [] },
  { base := 0x9040, dims := [], flds := fun _ is => match is with
    | [] => [R.KWY_CTL_lock]
    | _ => [] },
  { base := 0x9044, dims := [], flds := fun _ is => match is with
    | [] => [R.KWY_VIOL_cause, R.KWY_VIOL_write, R.KWY_VIOL_mid, R.KWY_VIOL_channel, R.KWY_VIOL_addr]
    | _ => [] },
  { base := 0x9048, dims := [(2, 0x4)], flds := fun _ is => match is with
    | [i] => [R.KWY_CNT_count i]
    | _ => [] },
  { base := 0xA000, dims := [], flds := fun _ is => match is with
    | [] => [R.INT_FSRC_src, R.INT_FSRC_lxb_irq]
    | _ => [] },
  { base := 0xA004, dims := [], flds := fun _ is => match is with
    | [] => [R.INT_ESRC_src]
    | _ => [] },
  { base := 0xA008, dims := [], flds := fun _ is => match is with
    | [] => [R.INT_LXB_EN_en]
    | _ => [] },
  { base := 0xA010, dims := [], flds := fun _ is => match is with
    | [] => [R.INT_PIN_CTL_src]
    | _ => [] },
  { base := 0xA020, dims := [], flds := fun _ is => match is with
    | [] => [R.INT_LINK_up, R.INT_LINK_width, R.INT_LINK_speed, R.INT_LINK_perst_n]
    | _ => [] },
  { base := 0xA024, dims := [], flds := fun _ is => match is with
    | [] => [R.INT_HIF_EVT_cause]
    | _ => [] },
  { base := 0xA028, dims := [], flds := fun _ is => match is with
    | [] => [R.INT_HIF_INT_EN_en]
    | _ => [] },
  { base := 0xA040, dims := [(6, 0x4)], flds := fun _ is => match is with
    | [i] => [R.INT_HIF_EVT_CNT_count i]
    | _ => [] },
  { base := 0xA100, dims := [(2, 0x100)], flds := fun _ is => match is with
    | [f] => [R.INT_PF_LEVEL_gated f, R.INT_PF_LEVEL_raw f]
    | _ => [] },
  { base := 0xA104, dims := [(2, 0x100)], flds := fun _ is => match is with
    | [f] => [R.INT_PF_EN_en f]
    | _ => [] },
  { base := 0xA108, dims := [(2, 0x100)], flds := fun _ is => match is with
    | [f] => [R.INT_PF_REARM_rearm f]
    | _ => [] },
  { base := 0xA110, dims := [(2, 0x100), (2, 0x4)], flds := fun _ is => match is with
    | [f, i] => [R.INT_PF_QSRC_ring f i]
    | _ => [] },
  { base := 0xA118, dims := [(2, 0x100)], flds := fun _ is => match is with
    | [f] => [R.INT_PF_MSRC_chan f]
    | _ => [] },
  { base := 0xA11C, dims := [(2, 0x100)], flds := fun _ is => match is with
    | [f] => [R.INT_PF_ASRC_acr f]
    | _ => [] },
  { base := 0xA120, dims := [(2, 0x100), (4, 0x4)], flds := fun _ is => match is with
    | [f, x] => [R.INT_PF_MSG_CNT_count f x]
    | _ => [] }]

/-- Registers of the address map, part 5 (R685, R686). -/
def bankPart5 : List Bank := [
  { base := 0x10000, dims := [(256, 0x8)], flds := fun _ is => match is with
    | [n] => [R.DBL_SQ_TAIL_value n]
    | _ => [] },
  { base := 0x10004, dims := [(256, 0x8)], flds := fun _ is => match is with
    | [n] => [R.DBL_SQ_RESUME_value n]
    | _ => [] },
  { base := 0x10800, dims := [(65, 0x4)], flds := fun _ is => match is with
    | [m] => [R.DBL_CR_HEAD_head m]
    | _ => [] },
  { base := 0x14000, dims := [(256, 0x10)], flds := fun _ is => match is with
    | [n] => [R.QMG_SQ_STATE_state n, R.QMG_SQ_STATE_priority n, R.QMG_SQ_STATE_unordered n, R.QMG_SQ_STATE_owner n, R.QMG_SQ_STATE_cr n, R.QMG_SQ_STATE_log2_depth n, R.QMG_SQ_STATE_err n]
    | _ => [] },
  { base := 0x14004, dims := [(256, 0x10)], flds := fun _ is => match is with
    | [n] => [R.QMG_SQ_PTR_head n, R.QMG_SQ_PTR_tail n]
    | _ => [] },
  { base := 0x14008, dims := [(256, 0x10)], flds := fun _ is => match is with
    | [n] => [R.QMG_SQ_ERR_value n]
    | _ => [] },
  { base := 0x1400C, dims := [(256, 0x10)], flds := fun _ is => match is with
    | [n] => [R.QMG_SQ_TAGS_held n, R.QMG_SQ_TAGS_tag_max n]
    | _ => [] },
  { base := 0x15000, dims := [(65, 0x20)], flds := fun _ is => match is with
    | [m] => [R.QMG_CR_STATE_exists m, R.QMG_CR_STATE_owner m, R.QMG_CR_STATE_log2_depth m, R.QMG_CR_STATE_bound m]
    | _ => [] },
  { base := 0x15004, dims := [(65, 0x20)], flds := fun _ is => match is with
    | [m] => [R.QMG_CR_PTR_tail m, R.QMG_CR_PTR_head m]
    | _ => [] },
  { base := 0x15008, dims := [(65, 0x20)], flds := fun _ is => match is with
    | [m] => [R.QMG_CR_RSV_reserved m]
    | _ => [] },
  { base := 0x1500C, dims := [(65, 0x20)], flds := fun _ is => match is with
    | [m] => [R.QMG_CR_EVT_cause m]
    | _ => [] },
  { base := 0x15010, dims := [(65, 0x20)], flds := fun _ is => match is with
    | [m] => [R.QMG_CR_INT_en m, R.QMG_CR_INT_threshold m, R.QMG_CR_INT_delay m]
    | _ => [] },
  { base := 0x15014, dims := [(65, 0x20), (3, 0x4)], flds := fun _ is => match is with
    | [m, i] => [R.QMG_CR_CNT_count m i]
    | _ => [] },
  { base := 0x15840, dims := [], flds := fun _ is => match is with
    | [] => [R.QMG_ADM_CTL_enable, R.QMG_ADM_CTL_owner, R.QMG_ADM_CTL_sq_log2, R.QMG_ADM_CTL_acr_log2]
    | _ => [] },
  { base := 0x15848, dims := [], wide := true, flds := fun _ is => match is with
    | [] => [R.QMG_ADM_SQ_BASE_base]
    | _ => [] },
  { base := 0x15850, dims := [], wide := true, flds := fun _ is => match is with
    | [] => [R.QMG_ADM_CR_BASE_base]
    | _ => [] },
  { base := 0x15858, dims := [], wide := true, flds := fun _ is => match is with
    | [] => [R.QMG_ADM_REPLY_BASE_base]
    | _ => [] },
  { base := 0x15880, dims := [], flds := fun _ is => match is with
    | [] => [R.QMG_EVT_cause]
    | _ => [] },
  { base := 0x15884, dims := [(3, 0x4)], flds := fun _ is => match is with
    | [i] => [R.QMG_EVT_CNT_count i]
    | _ => [] },
  { base := 0x20000, dims := [], flds := fun _ is => match is with
    | [] => [R.CHE_TAGS_FREE_free]
    | _ => [] }]

/-- Registers of the address map, part 6 (R685, R686). -/
def bankPart6 : List Bank := [
  { base := 0x20004, dims := [], flds := fun _ is => match is with
    | [] => [R.CHE_FAR_SLOTS_used]
    | _ => [] },
  { base := 0x20008, dims := [], flds := fun _ is => match is with
    | [] => [R.CHE_DEF_TIMEOUT_value, R.CHE_DEF_TIMEOUT_scale]
    | _ => [] },
  { base := 0x20010, dims := [], flds := fun mid is => match is with
    | [] => [R.CHE_TAG_SEL_tag mid]
    | _ => [] },
  { base := 0x20014, dims := [], flds := fun _ is => match is with
    | [] => [R.CHE_TAG_STATE_state, R.CHE_TAG_STATE_resume_pending, R.CHE_TAG_STATE_sq, R.CHE_TAG_STATE_index]
    | _ => [] },
  { base := 0x20018, dims := [], wide := true, flds := fun _ is => match is with
    | [] => [R.CHE_TAG_CCW_addr]
    | _ => [] },
  { base := 0x20020, dims := [], flds := fun _ is => match is with
    | [] => [R.CHE_TAG_COUNT_jumps, R.CHE_TAG_COUNT_ccws]
    | _ => [] },
  { base := 0x20040, dims := [], flds := fun _ is => match is with
    | [] => [R.CHE_EVT_cause]
    | _ => [] },
  { base := 0x20050, dims := [(5, 0x4)], flds := fun _ is => match is with
    | [i] => [R.CHE_EVT_CNT_count i]
    | _ => [] },
  { base := 0x20100, dims := [(32, 0x4)], flds := fun _ is => match is with
    | [k] => [R.CHE_SE_programs k, R.CHE_SE_physical k, R.CHE_SE_moving k]
    | _ => [] },
  { base := 0x20200, dims := [(15, 0x4)], flds := fun _ is => match is with
    | [s] => [R.CHE_END_CNT_count s]
    | _ => [] },
  { base := 0x28000, dims := [], flds := fun _ is => match is with
    | [] => [R.TLN_INV_se_free, R.TLN_INV_bank_free, R.TLN_INV_rows_free]
    | _ => [] },
  { base := 0x28004, dims := [], flds := fun _ is => match is with
    | [] => [R.TLN_CMD_repair, R.TLN_CMD_retire_se, R.TLN_CMD_clear_lane, R.TLN_CMD_index, R.TLN_CMD_port]
    | _ => [] },
  { base := 0x28008, dims := [], flds := fun _ is => match is with
    | [] => [R.TLN_STATUS_repairing, R.TLN_STATUS_migrating, R.TLN_STATUS_queued, R.TLN_STATUS_bank_queued]
    | _ => [] },
  { base := 0x2800C, dims := [], flds := fun _ is => match is with
    | [] => [R.TLN_ROW_REQ_word, R.TLN_ROW_REQ_bank]
    | _ => [] },
  { base := 0x28010, dims := [], flds := fun _ is => match is with
    | [] => [R.TLN_RP_rows, R.TLN_RP_banks, R.TLN_RP_subengines]
    | _ => [] },
  { base := 0x28014, dims := [], flds := fun _ is => match is with
    | [] => [R.TLN_JRNL_used]
    | _ => [] },
  { base := 0x28018, dims := [], flds := fun _ is => match is with
    | [] => [R.TLN_SPARE_TEST_interval]
    | _ => [] },
  { base := 0x28020, dims := [], flds := fun _ is => match is with
    | [] => [R.TLN_EVT_cause]
    | _ => [] },
  { base := 0x28030, dims := [], flds := fun mid is => match is with
    | [] => [R.TLN_SA_SEL_bank mid, R.TLN_SA_SEL_sub_array mid]
    | _ => [] },
  { base := 0x28034, dims := [], flds := fun _ is => match is with
    | [] => [R.TLN_SA_STATE_spare0, R.TLN_SA_STATE_spare1, R.TLN_SA_STATE_row0, R.TLN_SA_STATE_row1]
    | _ => [] }]

/-- Registers of the address map, part 7 (R685, R686). -/
def bankPart7 : List Bank := [
  { base := 0x28060, dims := [(9, 0x4)], flds := fun _ is => match is with
    | [i] => [R.TLN_EVT_CNT_count i]
    | _ => [] },
  { base := 0x28100, dims := [(64, 0x4)], flds := fun _ is => match is with
    | [i] => [R.TLN_Q_row i, R.TLN_Q_valid i]
    | _ => [] },
  { base := 0x28200, dims := [(36, 0x4)], flds := fun _ is => match is with
    | [p] => [R.TLN_PSE_state p, R.TLN_PSE_logical p, R.TLN_PSE_fused p]
    | _ => [] },
  { base := 0x30000, dims := [(25, 0x4)], flds := fun _ is => match is with
    | [b] => [R.BUF_BANK_class b, R.BUF_BANK_physical b, R.BUF_BANK_retired b]
    | _ => [] },
  { base := 0x30080, dims := [(25, 0x8), (2, 0x4)], flds := fun _ is => match is with
    | [b, i] => [R.BUF_BANK_CNT_count b i]
    | _ => [] },
  { base := 0x30200, dims := [], flds := fun _ is => match is with
    | [] => [R.BUF_FREE_units, R.BUF_FREE_largest]
    | _ => [] },
  { base := 0x30204, dims := [], flds := fun _ is => match is with
    | [] => [R.BUF_EVT_cause]
    | _ => [] },
  { base := 0x30208, dims := [], flds := fun _ is => match is with
    | [] => [R.BUF_LAST_q, R.BUF_LAST_reason]
    | _ => [] },
  { base := 0x30210, dims := [(2, 0x4)], flds := fun _ is => match is with
    | [i] => [R.BUF_EVT_CNT_count i]
    | _ => [] },
  { base := 0x30300, dims := [(3, 0x10)], flds := fun _ is => match is with
    | [c] => [R.BUF_CHAIN_STATUS_fill c, R.BUF_CHAIN_STATUS_empty c]
    | _ => [] },
  { base := 0x30304, dims := [(3, 0x10)], flds := fun _ is => match is with
    | [c] => [R.BUF_CHAIN_EVT_cause c]
    | _ => [] },
  { base := 0x30308, dims := [(3, 0x10), (2, 0x4)], flds := fun _ is => match is with
    | [c, i] => [R.BUF_CHAIN_CNT_count c i]
    | _ => [] },
  { base := 0x31000, dims := [(216, 0x40)], flds := fun _ is => match is with
    | [q] => [R.BUF_Q_CFG_en q, R.BUF_Q_CFG_log2 q, R.BUF_Q_CFG_base q]
    | _ => [] },
  { base := 0x31004, dims := [(216, 0x40)], flds := fun _ is => match is with
    | [q] => [R.BUF_Q_PTR0_w q, R.BUF_Q_PTR0_c q]
    | _ => [] },
  { base := 0x31008, dims := [(216, 0x40)], flds := fun _ is => match is with
    | [q] => [R.BUF_Q_PTR1_r q, R.BUF_Q_PTR1_room q]
    | _ => [] },
  { base := 0x3100C, dims := [(216, 0x40)], flds := fun _ is => match is with
    | [q] => [R.BUF_Q_STATUS_empty q, R.BUF_Q_STATUS_dropping q, R.BUF_Q_STATUS_claimed q, R.BUF_Q_STATUS_gap_pending q, R.BUF_Q_STATUS_packets q]
    | _ => [] },
  { base := 0x31010, dims := [(216, 0x40)], flds := fun _ is => match is with
    | [q] => [R.BUF_Q_EVT_cause q]
    | _ => [] },
  { base := 0x31014, dims := [(216, 0x40)], flds := fun _ is => match is with
    | [q] => [R.BUF_Q_CMD_drop_pkt q]
    | _ => [] },
  { base := 0x31020, dims := [(216, 0x40), (4, 0x4)], flds := fun _ is => match is with
    | [q, i] => [R.BUF_Q_EVT_CNT_count q i]
    | _ => [] },
  { base := 0x31030, dims := [(216, 0x40)], flds := fun _ is => match is with
    | [q] => [R.BUF_Q_CORR_CNT_count q]
    | _ => [] }]

/-- Registers of the address map, part 8 (R685, R686). -/
def bankPart8 : List Bank := [
  { base := 0x31034, dims := [(216, 0x40)], flds := fun _ is => match is with
    | [q] => [R.BUF_Q_WDROP_CNT_count q]
    | _ => [] },
  { base := 0x31038, dims := [(216, 0x40)], flds := fun _ is => match is with
    | [q] => [R.BUF_Q_PDROP_CNT_count q]
    | _ => [] },
  { base := 0x3103C, dims := [(216, 0x40)], flds := fun _ is => match is with
    | [q] => [R.BUF_Q_PKT_CNT_count q]
    | _ => [] },
  { base := 0x40000, dims := [(16, 0x800)], flds := fun _ is => match is with
    | [m] => [R.CAN_CTL_en m, R.CAN_CTL_mode m, R.CAN_CTL_fd_en m, R.CAN_CTL_xl_en m, R.CAN_CTL_pex m, R.CAN_CTL_auto_recover m, R.CAN_CTL_one_shot m, R.CAN_CTL_retry_limit m, R.CAN_CTL_j1939 m, R.CAN_CTL_tms m, R.CAN_CTL_iso11992 m]
    | _ => [] },
  { base := 0x40004, dims := [(16, 0x800)], flds := fun _ is => match is with
    | [m] => [R.CAN_NBT_brp m, R.CAN_NBT_tseg1 m, R.CAN_NBT_tseg2 m, R.CAN_NBT_sjw m]
    | _ => [] },
  { base := 0x40008, dims := [(16, 0x800)], flds := fun _ is => match is with
    | [m] => [R.CAN_DBT_brp m, R.CAN_DBT_tseg1 m, R.CAN_DBT_tseg2 m, R.CAN_DBT_sjw m]
    | _ => [] },
  { base := 0x4000C, dims := [(16, 0x800)], flds := fun _ is => match is with
    | [m] => [R.CAN_XBT_brp m, R.CAN_XBT_tseg1 m, R.CAN_XBT_tseg2 m, R.CAN_XBT_sjw m]
    | _ => [] },
  { base := 0x40010, dims := [(16, 0x800)], flds := fun _ is => match is with
    | [m] => [R.CAN_TDC_en m, R.CAN_TDC_offset m]
    | _ => [] },
  { base := 0x40014, dims := [(16, 0x800)], flds := fun _ is => match is with
    | [m] => [R.CAN_STATUS_state m, R.CAN_STATUS_tec m, R.CAN_STATUS_rec m, R.CAN_STATUS_lec m, R.CAN_STATUS_host_off m]
    | _ => [] },
  { base := 0x40018, dims := [(16, 0x800)], flds := fun _ is => match is with
    | [m] => [R.CAN_EVT_cause m]
    | _ => [] },
  { base := 0x4001C, dims := [(16, 0x800)], flds := fun _ is => match is with
    | [m] => [R.CAN_PWM_pwms m, R.CAN_PWM_pwml m, R.CAN_PWM_pwmo m]
    | _ => [] },
  { base := 0x40038, dims := [(16, 0x800), (10, 0x4)], flds := fun _ is => match is with
    | [m, i] => [R.CAN_EVT_CNT_count m i]
    | _ => [] },
  { base := 0x40100, dims := [(16, 0x800), (128, 0x8)], flds := fun _ is => match is with
    | [m, f] => [R.CAN_FLT_ID_value m f, R.CAN_FLT_ID_fmt m f]
    | _ => [] },
  { base := 0x40104, dims := [(16, 0x800), (128, 0x8)], flds := fun _ is => match is with
    | [m, f] => [R.CAN_FLT_MASK_mask m f, R.CAN_FLT_MASK_j1939 m f, R.CAN_FLT_MASK_class m f]
    | _ => [] },
  { base := 0x40500, dims := [(16, 0x800), (16, 0x4)], flds := fun _ is => match is with
    | [m, k] => [R.CAN_XL_AF_af m k]
    | _ => [] },
  { base := 0x40600, dims := [(16, 0x800), (8, 0x10)], flds := fun _ is => match is with
    | [m, k] => [R.CAN_PTX_CTL_en m k, R.CAN_PTX_CTL_period m k]
    | _ => [] },
  { base := 0x40604, dims := [(16, 0x800), (8, 0x10)], flds := fun _ is => match is with
    | [m, k] => [R.CAN_PTX_ID_ident m k]
    | _ => [] },
  { base := 0x40608, dims := [(16, 0x800), (8, 0x10)], flds := fun _ is => match is with
    | [m, k] => [R.CAN_PTX_D0_data m k]
    | _ => [] },
  { base := 0x4060C, dims := [(16, 0x800), (8, 0x10)], flds := fun _ is => match is with
    | [m, k] => [R.CAN_PTX_D1_data m k]
    | _ => [] },
  { base := 0x40680, dims := [(16, 0x800), (8, 0x8)], flds := fun _ is => match is with
    | [m, k] => [R.CAN_SUP_ID_ident m k, R.CAN_SUP_ID_en m k]
    | _ => [] }]

/-- Registers of the address map, part 9 (R685, R686). -/
def bankPart9 : List Bank := [
  { base := 0x40684, dims := [(16, 0x800), (8, 0x8)], flds := fun _ is => match is with
    | [m, k] => [R.CAN_SUP_PER_timeout m k]
    | _ => [] },
  { base := 0x48000, dims := [(8, 0x200)], flds := fun _ is => match is with
    | [m] => [R.LIN_CFG_en m, R.LIN_CFG_role m, R.LIN_CFG_break_ext m, R.LIN_CFG_wake_len m]
    | _ => [] },
  { base := 0x48004, dims := [(8, 0x200)], flds := fun _ is => match is with
    | [m] => [R.LIN_BAUD_rate m]
    | _ => [] },
  { base := 0x48010, dims := [(8, 0x200), (16, 0x4)], flds := fun _ is => match is with
    | [m, t] => [R.LIN_TBL_first m t, R.LIN_TBL_count m t]
    | _ => [] },
  { base := 0x48050, dims := [(8, 0x200)], flds := fun _ is => match is with
    | [m] => [R.LIN_STATUS_state m, R.LIN_STATUS_table m, R.LIN_STATUS_slot m]
    | _ => [] },
  { base := 0x48054, dims := [(8, 0x200)], flds := fun _ is => match is with
    | [m] => [R.LIN_EVT_cause m]
    | _ => [] },
  { base := 0x48074, dims := [(8, 0x200), (8, 0x4)], flds := fun _ is => match is with
    | [m, i] => [R.LIN_EVT_CNT_count m i]
    | _ => [] },
  { base := 0x48100, dims := [(8, 0x200), (64, 0x4)], flds := fun _ is => match is with
    | [m, i] => [R.LIN_RSP_action m i, R.LIN_RSP_length m i, R.LIN_RSP_enhanced m i]
    | _ => [] },
  { base := 0x49000, dims := [(8, 0x200), (64, 0x8)], flds := fun _ is => match is with
    | [m, s] => [R.LIN_SLOT_W0_id m s, R.LIN_SLOT_W0_type m s, R.LIN_SLOT_W0_publish m s, R.LIN_SLOT_W0_length m s, R.LIN_SLOT_W0_enhanced m s, R.LIN_SLOT_W0_ctable m s]
    | _ => [] },
  { base := 0x49004, dims := [(8, 0x200), (64, 0x8)], flds := fun _ is => match is with
    | [m, s] => [R.LIN_SLOT_W1_time m s]
    | _ => [] },
  { base := 0x4A000, dims := [(4, 0x100)], flds := fun _ is => match is with
    | [m] => [R.SENT_CFG_en m, R.SENT_CFG_tick m, R.SENT_CFG_nibbles m, R.SENT_CFG_crc_mode m, R.SENT_CFG_pause m, R.SENT_CFG_slow m]
    | _ => [] },
  { base := 0x4A004, dims := [(4, 0x100)], flds := fun _ is => match is with
    | [m] => [R.SENT_STATUS_sync m, R.SENT_STATUS_tick_ns m]
    | _ => [] },
  { base := 0x4A008, dims := [(4, 0x100)], flds := fun _ is => match is with
    | [m] => [R.SENT_EVT_cause m]
    | _ => [] },
  { base := 0x4A028, dims := [(4, 0x100), (6, 0x4)], flds := fun _ is => match is with
    | [m, i] => [R.SENT_EVT_CNT_count m i]
    | _ => [] },
  { base := 0x4B000, dims := [(4, 0x100)], flds := fun _ is => match is with
    | [m] => [R.SER_CFG_en m, R.SER_CFG_data8 m, R.SER_CFG_parity m, R.SER_CFG_stop2 m, R.SER_CFG_rtscts m, R.SER_CFG_kline m, R.SER_CFG_echo_check m, R.SER_CFG_err_pass m]
    | _ => [] },
  { base := 0x4B004, dims := [(4, 0x100)], flds := fun _ is => match is with
    | [m] => [R.SER_BAUD_div m, R.SER_BAUD_frac m]
    | _ => [] },
  { base := 0x4B008, dims := [(4, 0x100)], flds := fun _ is => match is with
    | [m] => [R.SER_RXCHUNK_size m, R.SER_RXCHUNK_idle m, R.SER_RXCHUNK_break_len m]
    | _ => [] },
  { base := 0x4B00C, dims := [(4, 0x100)], flds := fun _ is => match is with
    | [m] => [R.SER_KLINE_p4 m, R.SER_KLINE_tinil m, R.SER_KLINE_tinih m]
    | _ => [] },
  { base := 0x4B010, dims := [(4, 0x100)], flds := fun _ is => match is with
    | [m] => [R.SER_EVT_cause m]
    | _ => [] },
  { base := 0x4B030, dims := [(4, 0x100), (6, 0x4)], flds := fun _ is => match is with
    | [m, i] => [R.SER_EVT_CNT_count m i]
    | _ => [] }]

/-- Registers of the address map, part 10 (R685, R686). -/
def bankPart10 : List Bank := [
  { base := 0x4C000, dims := [(2, 0x100)], flds := fun _ is => match is with
    | [m] => [R.CARD_CFG_en m, R.CARD_CFG_t1 m, R.CARD_CFG_pres_pol m, R.CARD_CFG_retries m]
    | _ => [] },
  { base := 0x4C004, dims := [(2, 0x100)], flds := fun _ is => match is with
    | [m] => [R.CARD_CLK_div m]
    | _ => [] },
  { base := 0x4C008, dims := [(2, 0x100)], flds := fun _ is => match is with
    | [m] => [R.CARD_ETU_di m, R.CARD_ETU_fi m]
    | _ => [] },
  { base := 0x4C00C, dims := [(2, 0x100)], flds := fun _ is => match is with
    | [m] => [R.CARD_TIME_guard m]
    | _ => [] },
  { base := 0x4C010, dims := [(2, 0x100)], flds := fun _ is => match is with
    | [m] => [R.CARD_WT_wt m]
    | _ => [] },
  { base := 0x4C014, dims := [(2, 0x100)], flds := fun _ is => match is with
    | [m] => [R.CARD_CWT_cwt m]
    | _ => [] },
  { base := 0x4C018, dims := [(2, 0x100)], flds := fun _ is => match is with
    | [m] => [R.CARD_STATUS_state m, R.CARD_STATUS_inverse m]
    | _ => [] },
  { base := 0x4C01C, dims := [(2, 0x100)], flds := fun _ is => match is with
    | [m] => [R.CARD_EVT_cause m]
    | _ => [] },
  { base := 0x4C03C, dims := [(2, 0x100), (6, 0x4)], flds := fun _ is => match is with
    | [m, i] => [R.CARD_EVT_CNT_count m i]
    | _ => [] },
  { base := 0x50000, dims := [(7, 0x1000)], flds := fun _ is => match is with
    | [m] => [R.ETH_CFG_en m, R.ETH_CFG_max_len m]
    | _ => [] },
  { base := 0x50004, dims := [(7, 0x1000)], flds := fun _ is => match is with
    | [m] => [R.ETH_PHY_role m, R.ETH_PHY_hold_down m, R.ETH_PHY_test_mode m]
    | _ => [] },
  { base := 0x50008, dims := [(7, 0x1000)], flds := fun _ is => match is with
    | [m] => [R.ETH_STATUS_link m, R.ETH_STATUS_mode m, R.ETH_STATUS_plca_active m]
    | _ => [] },
  { base := 0x5000C, dims := [(7, 0x1000)], flds := fun _ is => match is with
    | [m] => [R.ETH_TS_LAT_ingress m, R.ETH_TS_LAT_egress m]
    | _ => [] },
  { base := 0x50010, dims := [(7, 0x1000)], flds := fun _ is => match is with
    | [m] => [R.ETH_EVT_cause m]
    | _ => [] },
  { base := 0x50030, dims := [(7, 0x1000), (11, 0x4)], flds := fun _ is => match is with
    | [m, i] => [R.ETH_EVT_CNT_count m i]
    | _ => [] },
  { base := 0x56060, dims := [], flds := fun _ is => match is with
    | [] => [R.ETH_PLCA_en, R.ETH_PLCA_node_id, R.ETH_PLCA_node_count, R.ETH_PLCA_to_timer]
    | _ => [] },
  { base := 0x56064, dims := [], flds := fun _ is => match is with
    | [] => [R.ETH_PLCA_BURST_burst_count, R.ETH_PLCA_BURST_burst_timer]
    | _ => [] },
  { base := 0x50080, dims := [(7, 0x1000), (3, 0x4)], flds := fun _ is => match is with
    | [m, i] => [R.ETH_CNT_count m i]
    | _ => [] },
  { base := 0x500C0, dims := [(7, 0x1000)], flds := fun _ is => match is with
    | [m] => [R.ETH_MAC_LO_addr m]
    | _ => [] },
  { base := 0x500C4, dims := [(7, 0x1000)], flds := fun _ is => match is with
    | [m] => [R.ETH_MAC_HI_addr m]
    | _ => [] }]

/-- Registers of the address map, part 11 (R685, R686). -/
def bankPart11 : List Bank := [
  { base := 0x50100, dims := [(7, 0x1000), (4, 0x10)], flds := fun _ is => match is with
    | [m, s] => [R.ETH_TXTS_STAT_valid m s, R.ETH_TXTS_STAT_overwritten m s]
    | _ => [] },
  { base := 0x50104, dims := [(7, 0x1000), (4, 0x10)], flds := fun _ is => match is with
    | [m, s] => [R.ETH_TXTS_CNT_count m s]
    | _ => [] },
  { base := 0x50108, dims := [(7, 0x1000), (4, 0x10)], wide := true, flds := fun _ is => match is with
    | [m, s] => [R.ETH_TXTS_TIME_time m s]
    | _ => [] },
  { base := 0x50400, dims := [(7, 0x1000), (64, 0x10)], flds := fun _ is => match is with
    | [m, f] => [R.ETH_FLT_W0_mac_lo m f]
    | _ => [] },
  { base := 0x50404, dims := [(7, 0x1000), (64, 0x10)], flds := fun _ is => match is with
    | [m, f] => [R.ETH_FLT_W1_mac_hi m f, R.ETH_FLT_W1_mac_mask m f]
    | _ => [] },
  { base := 0x50408, dims := [(7, 0x1000), (64, 0x10)], flds := fun _ is => match is with
    | [m, f] => [R.ETH_FLT_W2_et m f, R.ETH_FLT_W2_vid m f, R.ETH_FLT_W2_pcp m f]
    | _ => [] },
  { base := 0x5040C, dims := [(7, 0x1000), (64, 0x10)], flds := fun _ is => match is with
    | [m, f] => [R.ETH_FLT_W3_en m f, R.ETH_FLT_W3_cmp_et m f, R.ETH_FLT_W3_cmp_vid m f, R.ETH_FLT_W3_cmp_pcp m f, R.ETH_FLT_W3_untagged m f, R.ETH_FLT_W3_class m f]
    | _ => [] },
  { base := 0x58008, dims := [], wide := true, flds := fun _ is => match is with
    | [] => [R.TIM_NOW_time]
    | _ => [] },
  { base := 0x58010, dims := [], wide := true, flds := fun _ is => match is with
    | [] => [R.TIM_SET_time]
    | _ => [] },
  { base := 0x58018, dims := [], flds := fun _ is => match is with
    | [] => [R.TIM_RATE_rate]
    | _ => [] },
  { base := 0x5801C, dims := [], flds := fun _ is => match is with
    | [] => [R.TIM_SLEW_offset]
    | _ => [] },
  { base := 0x58020, dims := [], flds := fun _ is => match is with
    | [] => [R.TIM_SLEW_LEFT_left]
    | _ => [] },
  { base := 0x58028, dims := [], flds := fun _ is => match is with
    | [] => [R.TIM_XTS_CTL_go, R.TIM_XTS_CTL_sub]
    | _ => [] },
  { base := 0x58030, dims := [], wide := true, flds := fun _ is => match is with
    | [] => [R.TIM_XTS_PTP_time]
    | _ => [] },
  { base := 0x58038, dims := [], wide := true, flds := fun _ is => match is with
    | [] => [R.TIM_XTS_MONO_time]
    | _ => [] },
  { base := 0x58040, dims := [(2, 0x10)], flds := fun _ is => match is with
    | [n] => [R.TIM_CAP_CTL_edge n]
    | _ => [] },
  { base := 0x58048, dims := [(2, 0x10)], wide := true, flds := fun _ is => match is with
    | [n] => [R.TIM_CAP_TIME_time n]
    | _ => [] },
  { base := 0x58060, dims := [(2, 0x8)], flds := fun _ is => match is with
    | [n] => [R.TIM_PPS_PER_period n]
    | _ => [] },
  { base := 0x58064, dims := [(2, 0x8)], flds := fun _ is => match is with
    | [n] => [R.TIM_PPS_WIDTH_width n]
    | _ => [] },
  { base := 0x58080, dims := [], flds := fun _ is => match is with
    | [] => [R.TIM_EVT_cause]
    | _ => [] }]

/-- Registers of the address map, part 12 (R685, R686). -/
def bankPart12 : List Bank := [
  { base := 0x580A0, dims := [(5, 0x4)], flds := fun _ is => match is with
    | [i] => [R.TIM_EVT_CNT_count i]
    | _ => [] },
  { base := 0x60000, dims := [(4096, 0x10), (4, 0x4)], flds := fun _ is => match is with
    | [e, i] => [R.GRT_W_word e i]
    | _ => [] },
  { base := 0x70000, dims := [], flds := fun _ is => match is with
    | [] => [R.GWC_CTL_hop_max]
    | _ => [] },
  { base := 0x70004, dims := [], flds := fun _ is => match is with
    | [] => [R.GWC_EVT_cause]
    | _ => [] },
  { base := 0x70044, dims := [(10, 0x4)], flds := fun _ is => match is with
    | [i] => [R.GWC_EVT_CNT_count i]
    | _ => [] },
  { base := 0x70100, dims := [(31, 0x10), (3, 0x4)], flds := fun _ is => match is with
    | [p, i] => [R.GWC_P_CNT_count p i]
    | _ => [] },
  { base := 0x70300, dims := [(31, 0x4)], flds := fun _ is => match is with
    | [p] => [R.GWC_CAP_rate p, R.GWC_CAP_burst p]
    | _ => [] },
  { base := 0x70400, dims := [(64, 0x8)], flds := fun _ is => match is with
    | [k] => [R.GWC_RW_VAL_value k, R.GWC_RW_VAL_en k]
    | _ => [] },
  { base := 0x70404, dims := [(64, 0x8)], flds := fun _ is => match is with
    | [k] => [R.GWC_RW_MASK_mask k]
    | _ => [] },
  { base := 0x70800, dims := [(64, 0x20)], wide := true, flds := fun _ is => match is with
    | [k] => [R.GWC_STR_ID_stream_id k]
    | _ => [] },
  { base := 0x70808, dims := [(64, 0x20)], flds := fun _ is => match is with
    | [k] => [R.GWC_STR_DMAC_LO_dmac k]
    | _ => [] },
  { base := 0x7080C, dims := [(64, 0x20)], flds := fun _ is => match is with
    | [k] => [R.GWC_STR_DMAC_HI_dmac k]
    | _ => [] },
  { base := 0x70810, dims := [(64, 0x20)], flds := fun _ is => match is with
    | [k] => [R.GWC_STR_TAG_vid k, R.GWC_STR_TAG_pcp k, R.GWC_STR_TAG_tagged k]
    | _ => [] },
  { base := 0x70814, dims := [(64, 0x20)], flds := fun _ is => match is with
    | [k] => [R.GWC_STR_CTL_en k, R.GWC_STR_CTL_bus_id k]
    | _ => [] },
  { base := 0x80000, dims := [(2, 0x100), (8, 0x20)], flds := fun _ is => match is with
    | [f, s] => [R.HNG_FAS_CMD_unit f s, R.HNG_FAS_CMD_self f s, R.HNG_FAS_CMD_space f s, R.HNG_FAS_CMD_write f s, R.HNG_FAS_CMD_bcast f s]
    | _ => [] },
  { base := 0x80004, dims := [(2, 0x100), (8, 0x20)], flds := fun _ is => match is with
    | [f, s] => [R.HNG_FAS_ADDR_addr f s]
    | _ => [] },
  { base := 0x80008, dims := [(2, 0x100), (8, 0x20)], flds := fun _ is => match is with
    | [f, s] => [R.HNG_FAS_WDATA_data f s]
    | _ => [] },
  { base := 0x80010, dims := [(2, 0x100), (8, 0x20)], wide := true, flds := fun _ is => match is with
    | [f, s] => [R.HNG_FAS_DATA_data f s, R.HNG_FAS_DATA_state f s]
    | _ => [] },
  { base := 0x80400, dims := [], flds := fun _ is => match is with
    | [] => [R.HNG_CTL_far_in_en, R.HNG_CTL_far_timeout]
    | _ => [] },
  { base := 0x80404, dims := [], flds := fun _ is => match is with
    | [] => [R.HNG_EVT_cause]
    | _ => [] }]

/-- Registers of the address map, part 13 (R685, R686). -/
def bankPart13 : List Bank := [
  { base := 0x80408, dims := [], flds := fun _ is => match is with
    | [] => [R.HNG_INT_EN_en]
    | _ => [] },
  { base := 0x8040C, dims := [], flds := fun _ is => match is with
    | [] => [R.HNG_LAST_addr, R.HNG_LAST_mid, R.HNG_LAST_outcome, R.HNG_LAST_word]
    | _ => [] },
  { base := 0x80410, dims := [], flds := fun _ is => match is with
    | [] => [R.HNG_REQ_USE_total, R.HNG_REQ_USE_poller]
    | _ => [] },
  { base := 0x80414, dims := [], flds := fun _ is => match is with
    | [] => [R.HNG_RXSUM_queued, R.HNG_RXSUM_event]
    | _ => [] },
  { base := 0x80444, dims := [(13, 0x4)], flds := fun _ is => match is with
    | [i] => [R.HNG_EVT_CNT_count i]
    | _ => [] },
  { base := 0x80500, dims := [], flds := fun _ is => match is with
    | [] => [R.HNG_POLL_CTL_interval, R.HNG_POLL_CTL_auto]
    | _ => [] },
  { base := 0x80504, dims := [], flds := fun _ is => match is with
    | [] => [R.HNG_POLL_WATCH_watch]
    | _ => [] },
  { base := 0x80520, dims := [(8, 0x4)], flds := fun _ is => match is with
    | [k] => [R.HNG_POLL_EXT_en k, R.HNG_POLL_EXT_offset k]
    | _ => [] },
  { base := 0x80600, dims := [(32, 0x4)], flds := fun _ is => match is with
    | [j] => [R.HNG_POLL_EN_en j]
    | _ => [] },
  { base := 0x81000, dims := [(64, 0x4)], flds := fun _ is => match is with
    | [s] => [R.HNG_SEM_value s]
    | _ => [] },
  { base := 0x81100, dims := [], flds := fun _ is => match is with
    | [] => [R.HNG_SEM_LEASE_ms]
    | _ => [] },
  { base := 0x82000, dims := [], flds := fun _ is => match is with
    | [] => [R.HNG_LXB_CTL_wait_timeout, R.HNG_LXB_CTL_lock_max]
    | _ => [] },
  { base := 0x82010, dims := [(4, 0x4)], flds := fun _ is => match is with
    | [n] => [R.HNG_LXB_CS_CFG_en n, R.HNG_LXB_CS_CFG_wait_states n, R.HNG_LXB_CS_CFG_wait_en n, R.HNG_LXB_CS_CFG_turn n]
    | _ => [] },
  { base := 0x82030, dims := [], flds := fun _ is => match is with
    | [] => [R.HNG_LXB_LOCK_value]
    | _ => [] },
  { base := 0x88000, dims := [], flds := fun _ is => match is with
    | [] => [R.CHN_KC_STATUS_addr, R.CHN_KC_STATUS_assigned, R.CHN_KC_STATUS_gate_open, R.CHN_KC_STATUS_last_cmd]
    | _ => [] },
  { base := 0x88004, dims := [], flds := fun _ is => match is with
    | [] => [R.CHN_KC_ATTN_unassigned, R.CHN_KC_ATTN_cause, R.CHN_KC_ATTN_en, R.CHN_KC_ATTN_kattn_out, R.CHN_KC_ATTN_kattn_in]
    | _ => [] },
  { base := 0x88008, dims := [], flds := fun _ is => match is with
    | [] => [R.CHN_KC_FRAMES_acted, R.CHN_KC_FRAMES_discarded]
    | _ => [] },
  { base := 0x88010, dims := [(5, 0x4)], flds := fun _ is => match is with
    | [i] => [R.CHN_KC_CNT_count i]
    | _ => [] },
  { base := 0x88100, dims := [(2, 0x100)], flds := fun _ is => match is with
    | [p] => [R.CHN_PT_CTL_en p, R.CHN_PT_CTL_quiet_idle p, R.CHN_PT_CTL_retrain p, R.CHN_PT_CTL_lane_forbid p]
    | _ => [] },
  { base := 0x88104, dims := [(2, 0x100)], flds := fun _ is => match is with
    | [p] => [R.CHN_PT_STATUS_state p, R.CHN_PT_STATUS_tx0 p, R.CHN_PT_STATUS_tx1 p, R.CHN_PT_STATUS_rx0 p, R.CHN_PT_STATUS_rx1 p, R.CHN_PT_STATUS_qualified p, R.CHN_PT_STATUS_retired p, R.CHN_PT_STATUS_spare_ok p]
    | _ => [] }]

/-- Registers of the address map, part 14 (R685, R686). -/
def bankPart14 : List Bank := [
  { base := 0x88108, dims := [(2, 0x100)], flds := fun _ is => match is with
    | [p] => [R.CHN_PT_PEER_addr p, R.CHN_PT_PEER_assigned p, R.CHN_PT_PEER_position p, R.CHN_PT_PEER_valid p]
    | _ => [] },
  { base := 0x8810C, dims := [(2, 0x100)], flds := fun _ is => match is with
    | [p] => [R.CHN_PT_SEQ_tx_next p, R.CHN_PT_SEQ_rx_expected p]
    | _ => [] },
  { base := 0x88110, dims := [(2, 0x100)], flds := fun _ is => match is with
    | [p] => [R.CHN_PT_EVT_cause p]
    | _ => [] },
  { base := 0x88114, dims := [(2, 0x100)], flds := fun _ is => match is with
    | [p] => [R.CHN_PT_INT_EN_en p]
    | _ => [] },
  { base := 0x88120, dims := [(2, 0x100), (9, 0x4)], flds := fun _ is => match is with
    | [p, i] => [R.CHN_PT_EVT_CNT_count p i]
    | _ => [] },
  { base := 0x88150, dims := [(2, 0x100), (3, 0x4)], flds := fun _ is => match is with
    | [p, k] => [R.CHN_PT_LANE_CORR_count p k]
    | _ => [] },
  { base := 0x8815C, dims := [(2, 0x100)], flds := fun _ is => match is with
    | [p] => [R.CHN_PT_UNCORR_CNT_count p]
    | _ => [] },
  { base := 0x88160, dims := [(2, 0x100)], flds := fun _ is => match is with
    | [p] => [R.CHN_PT_HDRERR_CNT_count p]
    | _ => [] },
  { base := 0x88300, dims := [], flds := fun _ is => match is with
    | [] => [R.CHN_PT_SPARE_THR_thr]
    | _ => [] },
  { base := 0x88304, dims := [], flds := fun _ is => match is with
    | [] => [R.CHN_POS_position, R.CHN_POS_valid, R.CHN_POS_head]
    | _ => [] },
  { base := 0x89000, dims := [(1024, 0x4)], flds := fun _ is => match is with
    | [a] => [R.CHN_MAP_position a, R.CHN_MAP_valid a, R.CHN_MAP_port a, R.CHN_MAP_self a]
    | _ => [] },
  { base := 0x90000, dims := [], flds := fun _ is => match is with
    | [] => [R.LDG_STATUS_role, R.LDG_STATUS_write_through, R.LDG_STATUS_full, R.LDG_STATUS_reserve, R.LDG_STATUS_ready, R.LDG_STATUS_term]
    | _ => [] },
  { base := 0x90004, dims := [], flds := fun _ is => match is with
    | [] => [R.LDG_SEGS_free, R.LDG_SEGS_open]
    | _ => [] },
  { base := 0x90008, dims := [], wide := true, flds := fun _ is => match is with
    | [] => [R.LDG_NEXT_SEQ_seq]
    | _ => [] },
  { base := 0x90010, dims := [], wide := true, flds := fun _ is => match is with
    | [] => [R.LDG_DURABLE_SEQ_seq]
    | _ => [] },
  { base := 0x90018, dims := [], wide := true, flds := fun _ is => match is with
    | [] => [R.LDG_SEAL_SEQ_seq]
    | _ => [] },
  { base := 0x90020, dims := [], wide := true, flds := fun _ is => match is with
    | [] => [R.LDG_HORIZON_seq]
    | _ => [] },
  { base := 0x90028, dims := [], wide := true, flds := fun _ is => match is with
    | [] => [R.LDG_OLDEST_SEQ_seq]
    | _ => [] },
  { base := 0x90030, dims := [], wide := true, flds := fun _ is => match is with
    | [] => [R.LDG_EXPORTED_seq]
    | _ => [] },
  { base := 0x90038, dims := [], flds := fun _ is => match is with
    | [] => [R.LDG_ID_ledger_id]
    | _ => [] }]

/-- Registers of the address map, part 15 (R685, R686). -/
def bankPart15 : List Bank := [
  { base := 0x9003C, dims := [], flds := fun _ is => match is with
    | [] => [R.LDG_CMD_seal, R.LDG_CMD_release]
    | _ => [] },
  { base := 0x90040, dims := [], flds := fun _ is => match is with
    | [] => [R.LDG_EVT_cause]
    | _ => [] },
  { base := 0x90044, dims := [], flds := fun _ is => match is with
    | [] => [R.LDG_LAST_release_reason, R.LDG_LAST_refusal]
    | _ => [] },
  { base := 0x90050, dims := [], flds := fun _ is => match is with
    | [] => [R.LDG_PAIR_partner, R.LDG_PAIR_valid, R.LDG_PAIR_hb_ok, R.LDG_PAIR_grace_running]
    | _ => [] },
  { base := 0x90054, dims := [], flds := fun _ is => match is with
    | [] => [R.LDG_PAIR_CTL_auto, R.LDG_PAIR_CTL_hold, R.LDG_PAIR_CTL_grace]
    | _ => [] },
  { base := 0x90058, dims := [], flds := fun _ is => match is with
    | [] => [R.LDG_EPOCH_epoch]
    | _ => [] },
  { base := 0x90060, dims := [], wide := true, flds := fun _ is => match is with
    | [] => [R.LDG_MIRROR_SEQ_value]
    | _ => [] },
  { base := 0x90068, dims := [], wide := true, flds := fun _ is => match is with
    | [] => [R.LDG_BRANCH_FIRST_value]
    | _ => [] },
  { base := 0x90070, dims := [], wide := true, flds := fun _ is => match is with
    | [] => [R.LDG_BRANCH_LAST_value]
    | _ => [] },
  { base := 0x90078, dims := [], wide := true, flds := fun _ is => match is with
    | [] => [R.LDG_PARTNER_SN_value]
    | _ => [] },
  { base := 0x90080, dims := [(14, 0x4)], flds := fun _ is => match is with
    | [i] => [R.LDG_EVT_CNT_count i]
    | _ => [] },
  { base := 0x90100, dims := [(58, 0x4)], flds := fun _ is => match is with
    | [w] => [R.LDG_FWA_DATA_word w]
    | _ => [] },
  { base := 0x901F0, dims := [], flds := fun _ is => match is with
    | [] => [R.LDG_FWA_CTL_go, R.LDG_FWA_CTL_status, R.LDG_FWA_CTL_count]
    | _ => [] },
  { base := 0x901F8, dims := [], wide := true, flds := fun _ is => match is with
    | [] => [R.LDG_FWA_SEQ_seq]
    | _ => [] },
  { base := 0xA0000, dims := [], flds := fun _ is => match is with
    | [] => [R.SCB_CTL_pass, R.SCB_CTL_quiet_pass]
    | _ => [] },
  { base := 0xA0004, dims := [], flds := fun _ is => match is with
    | [] => [R.SCB_STATUS_bank, R.SCB_STATUS_position]
    | _ => [] },
  { base := 0xA0008, dims := [(3, 0x4)], flds := fun _ is => match is with
    | [i] => [R.SCB_CNT_count i]
    | _ => [] },
  { base := 0xA0014, dims := [], flds := fun _ is => match is with
    | [] => [R.SCB_EVT_cause]
    | _ => [] },
  { base := 0xA0054, dims := [(5, 0x4)], flds := fun _ is => match is with
    | [i] => [R.SCB_EVT_CNT_count i]
    | _ => [] },
  { base := 0xA0100, dims := [(25, 0x8), (2, 0x4)], flds := fun _ is => match is with
    | [b, i] => [R.SCB_OWN_owners b i]
    | _ => [] }]

/-- Registers of the address map, part 16 (R685, R686). -/
def bankPart16 : List Bank := [
  { base := 0xA0400, dims := [], flds := fun mid is => match is with
    | [] => [R.SCB_PMAP_SEL_block mid, R.SCB_PMAP_SEL_bank mid]
    | _ => [] },
  { base := 0xA0404, dims := [], flds := fun _ is => match is with
    | [] => [R.SCB_PMAP_DATA_bits]
    | _ => [] },
  { base := 0xA0408, dims := [], flds := fun _ is => match is with
    | [] => [R.SCB_PMAP_TOTAL_count]
    | _ => [] },
  { base := 0xC0000, dims := [], flds := fun _ is => match is with
    | [] => [R.TRC_CTL_en, R.TRC_CTL_mode, R.TRC_CTL_class, R.TRC_CTL_sink_en, R.TRC_CTL_sink_pf]
    | _ => [] },
  { base := 0xC0004, dims := [], flds := fun _ is => match is with
    | [] => [R.TRC_STATUS_wr_ptr, R.TRC_STATUS_wrapped, R.TRC_STATUS_stopped, R.TRC_STATUS_paused]
    | _ => [] },
  { base := 0xC0008, dims := [], flds := fun _ is => match is with
    | [] => [R.TRC_ENTRIES_count]
    | _ => [] },
  { base := 0xC000C, dims := [], flds := fun _ is => match is with
    | [] => [R.TRC_EVT_cause]
    | _ => [] },
  { base := 0xC0010, dims := [], flds := fun _ is => match is with
    | [] => [R.TRC_HOST_MARK_value]
    | _ => [] },
  { base := 0xC0014, dims := [], flds := fun mid is => match is with
    | [] => [R.TRC_PAGE_page mid]
    | _ => [] },
  { base := 0xC0018, dims := [], flds := fun _ is => match is with
    | [] => [R.TRC_CLEAR_clear]
    | _ => [] },
  { base := 0xC0020, dims := [], wide := true, flds := fun _ is => match is with
    | [] => [R.TRC_SINK_BASE_base]
    | _ => [] },
  { base := 0xC0028, dims := [], flds := fun _ is => match is with
    | [] => [R.TRC_SINK_LOG2_k]
    | _ => [] },
  { base := 0xC002C, dims := [], flds := fun _ is => match is with
    | [] => [R.TRC_SINK_HEAD_head]
    | _ => [] },
  { base := 0xC0030, dims := [], flds := fun _ is => match is with
    | [] => [R.TRC_SINK_TAIL_tail]
    | _ => [] },
  { base := 0xC0034, dims := [], flds := fun _ is => match is with
    | [] => [R.TRC_SINK_SKIP_CNT_count]
    | _ => [] },
  { base := 0xC0038, dims := [], flds := fun _ is => match is with
    | [] => [R.TRC_STOP_DROP_CNT_count]
    | _ => [] },
  { base := 0xC0050, dims := [(3, 0x4)], flds := fun _ is => match is with
    | [i] => [R.TRC_EVT_CNT_count i]
    | _ => [] },
  { base := 0xD0000, dims := [(8192, 0x8)], wide := true, flds := fun _ is => match is with
    | [w] => [R.TRC_BUF_word w]
    | _ => [] },
  { base := 0xF0100, dims := [], flds := fun _ is => match is with
    | [] => [R.FTM_FLT_INJ_src, R.FTM_FLT_INJ_count, R.FTM_FLT_INJ_detail, R.FTM_FLT_INJ_resource]
    | _ => [] },
  { base := 0x1000000, dims := [(2, 0x100)], flds := fun _ is => match is with
    | [f] => [R.CFG_CMD_mse f, R.CFG_CMD_bme f, R.CFG_CMD_parity f, R.CFG_CMD_serr f]
    | _ => [] }]

/-- Registers of the address map, part 17 (R685, R686). -/
def bankPart17 : List Bank := [
  { base := 0x1000004, dims := [(2, 0x100)], flds := fun _ is => match is with
    | [f] => [R.CFG_PM_d3 f]
    | _ => [] },
  { base := 0x1000008, dims := [(2, 0x100)], flds := fun _ is => match is with
    | [f] => [R.CFG_DEVCTL_cor_en f, R.CFG_DEVCTL_nonfatal_en f, R.CFG_DEVCTL_fatal_en f, R.CFG_DEVCTL_ur_en f, R.CFG_DEVCTL_relaxed f, R.CFG_DEVCTL_mps f, R.CFG_DEVCTL_ext_tag f, R.CFG_DEVCTL_no_snoop f, R.CFG_DEVCTL_mrrs f]
    | _ => [] },
  { base := 0x100000C, dims := [(2, 0x100)], flds := fun _ is => match is with
    | [f] => [R.CFG_DEVCTL2_cto_value f, R.CFG_DEVCTL2_cto_disable f, R.CFG_DEVCTL2_ido_req f, R.CFG_DEVCTL2_ido_cpl f, R.CFG_DEVCTL2_tag10 f]
    | _ => [] },
  { base := 0x1000010, dims := [(2, 0x100)], flds := fun _ is => match is with
    | [f] => [R.CFG_MSIX_mask f, R.CFG_MSIX_enable f]
    | _ => [] },
  { base := 0x1000014, dims := [(2, 0x100)], flds := fun _ is => match is with
    | [f] => [R.CFG_AER_UNC_dl f, R.CFG_AER_UNC_poisoned f, R.CFG_AER_UNC_fc f, R.CFG_AER_UNC_cpl_timeout f, R.CFG_AER_UNC_cpl_abort f, R.CFG_AER_UNC_unexp_cpl f, R.CFG_AER_UNC_overflow f, R.CFG_AER_UNC_malformed f, R.CFG_AER_UNC_unsup_req f, R.CFG_AER_UNC_uncor_int f]
    | _ => [] },
  { base := 0x1000018, dims := [(2, 0x100)], flds := fun _ is => match is with
    | [f] => [R.CFG_AER_SEV_dl f, R.CFG_AER_SEV_poisoned f, R.CFG_AER_SEV_fc f, R.CFG_AER_SEV_cpl_timeout f, R.CFG_AER_SEV_cpl_abort f, R.CFG_AER_SEV_unexp_cpl f, R.CFG_AER_SEV_overflow f, R.CFG_AER_SEV_malformed f, R.CFG_AER_SEV_unsup_req f, R.CFG_AER_SEV_uncor_int f]
    | _ => [] },
  { base := 0x100001C, dims := [(2, 0x100)], flds := fun _ is => match is with
    | [f] => [R.CFG_AER_MASK_dl f, R.CFG_AER_MASK_poisoned f, R.CFG_AER_MASK_fc f, R.CFG_AER_MASK_cpl_timeout f, R.CFG_AER_MASK_cpl_abort f, R.CFG_AER_MASK_unexp_cpl f, R.CFG_AER_MASK_overflow f, R.CFG_AER_MASK_malformed f, R.CFG_AER_MASK_unsup_req f, R.CFG_AER_MASK_uncor_int f]
    | _ => [] },
  { base := 0x1000020, dims := [(2, 0x100)], wide := true, flds := fun _ is => match is with
    | [f] => [R.CFG_BAR0_addr f]
    | _ => [] },
  { base := 0x1000028, dims := [(2, 0x100)], wide := true, flds := fun _ is => match is with
    | [f] => [R.CFG_BAR2_addr f]
    | _ => [] },
  { base := 0x1000030, dims := [(2, 0x100)], wide := true, flds := fun _ is => match is with
    | [f] => [R.CFG_BAR4_addr f]
    | _ => [] },
  { base := 0x1000038, dims := [(2, 0x100)], flds := fun _ is => match is with
    | [f] => [R.CFG_AER_COR_receiver f, R.CFG_AER_COR_bad_tlp f, R.CFG_AER_COR_bad_dllp f, R.CFG_AER_COR_rollover f, R.CFG_AER_COR_replay f, R.CFG_AER_COR_advisory f, R.CFG_AER_COR_internal f]
    | _ => [] },
  { base := 0x100003C, dims := [(2, 0x100)], flds := fun _ is => match is with
    | [f] => [R.CFG_AER_COR_MASK_receiver f, R.CFG_AER_COR_MASK_bad_tlp f, R.CFG_AER_COR_MASK_bad_dllp f, R.CFG_AER_COR_MASK_rollover f, R.CFG_AER_COR_MASK_replay f, R.CFG_AER_COR_MASK_advisory f, R.CFG_AER_COR_MASK_internal f]
    | _ => [] },
  { base := 0x1000040, dims := [(2, 0x100)], flds := fun _ is => match is with
    | [f] => [R.CFG_AER_CAP_first f]
    | _ => [] },
  { base := 0x1000044, dims := [(2, 0x100), (4, 0x4)], flds := fun _ is => match is with
    | [f, i] => [R.CFG_HDRLOG_dword f i]
    | _ => [] },
  { base := 0x1000054, dims := [(2, 0x100)], flds := fun _ is => match is with
    | [f] => [R.CFG_STATUS_master_parity f, R.CFG_STATUS_sig_abort f, R.CFG_STATUS_rcv_abort f, R.CFG_STATUS_rcv_master f, R.CFG_STATUS_sig_error f, R.CFG_STATUS_parity f]
    | _ => [] },
  { base := 0x1000058, dims := [(2, 0x100)], flds := fun _ is => match is with
    | [f] => [R.CFG_DEVSTA_cor f, R.CFG_DEVSTA_nonfatal f, R.CFG_DEVSTA_fatal f, R.CFG_DEVSTA_ur f]
    | _ => [] },
  { base := 0x100005C, dims := [(2, 0x100)], flds := fun _ is => match is with
    | [f] => [R.CFG_LINKCTL_aspm f, R.CFG_LINKCTL_rcb f, R.CFG_LINKCTL_common f, R.CFG_LINKCTL_extended f]
    | _ => [] },
  { base := 0x1000060, dims := [(2, 0x100)], flds := fun _ is => match is with
    | [f] => [R.CFG_MISC_line_size f]
    | _ => [] },
  { base := 0x1000064, dims := [(2, 0x100)], flds := fun _ is => match is with
    | [f] => [R.CFG_INTLINE_line f]
    | _ => [] },
  { base := 0x1000200, dims := [(2, 0x100), (4, 0x10)], wide := true, flds := fun _ is => match is with
    | [f, x] => [R.MSIX_ADDR_addr f x]
    | _ => [] }]

/-- Registers of the address map, part 18 (R685, R686). -/
def bankPart18 : List Bank := [
  { base := 0x1000208, dims := [(2, 0x100), (4, 0x10)], flds := fun _ is => match is with
    | [f, x] => [R.MSIX_DATA_data f x]
    | _ => [] },
  { base := 0x100020C, dims := [(2, 0x100), (4, 0x10)], flds := fun _ is => match is with
    | [f, x] => [R.MSIX_VCTL_mask f x]
    | _ => [] },
  { base := 0x1000400, dims := [(2, 0x100)], flds := fun _ is => match is with
    | [f] => [R.MSIX_PBA_pending f]
    | _ => [] }]

/-- Every register of BAR0 (R685, R686), in the order of the owning chapters. -/
def banks : List Bank :=
  bankPart0 ++ bankPart1 ++ bankPart2 ++ bankPart3 ++ bankPart4 ++ bankPart5 ++ bankPart6 ++ bankPart7 ++ bankPart8 ++ bankPart9 ++ bankPart10 ++ bankPart11 ++ bankPart12 ++ bankPart13 ++ bankPart14 ++ bankPart15 ++ bankPart16 ++ bankPart17 ++ bankPart18

/-- The indices of the instance of a row that lies at a distance from its base (R686). -/
def indicesAt : List (Nat × Nat) → Nat → Option (List Nat)
  | [], d => if d = 0 then some [] else none
  | (n, st) :: rest, d =>
    if d / st < n then (indicesAt rest (d % st)).map (d / st :: ·) else none

/-- The row's fields at a BAR0 offset as `mid` sees them, if the row has a register there. -/
def Bank.at? (b : Bank) (mid off : Nat) : Option (List Fld) :=
  if b.base ≤ off then (indicesAt b.dims (off - b.base)).map (b.flds mid) else none

/-- A register found in the map: its offset, whether it is 64 bits wide, and its fields. -/
structure RegAt where
  off : Nat
  wide : Bool
  flds : List Fld
deriving DecidableEq, Repr

/-- The register that begins at a BAR0 offset (R227, R685). -/
def regAt (mid off : Nat) : Option RegAt :=
  banks.findSome? fun b => (b.at? mid off).map fun fs => ⟨off, b.wide, fs⟩

end Sys2Proof.Machine
end

