-- ==== Sys2Proof/Syntax.lean ====
section
/-!
DEFINITION. The commands of the unit: register accesses, bus and link events, samples, timer expiries and firmware
commands, one constructor for each row of the opcode table. What the environment supplies (the data of a frame or of
a completion, the level of a pin, the value of a sample, the MID of a master) is an operand.
-/

namespace Sys2Proof

/-- The header fields of a received flit that its receiver uses, with the flit's payload (R181). -/
structure FlitIn where
  /-- Its codeword was uncorrectable while its header check passed; the receiving port marks it poisoned (R206). -/
  uncorr : Bool := false
  dst : BitVec 10 := 0
  src : BitVec 10 := 0
  hops : BitVec 10 := 0
  poison : Bool := false
  bcast : Bool := false
  lseq : BitVec 16 := 0
  /-- Last in-order number the peer accepted, and the credits it returns: class 1 LC, 2 RSP, 3 REQ. -/
  lack : BitVec 16 := 0
  cclass : BitVec 2 := 0
  ccount : BitVec 6 := 0
  payload : List Byte := []
deriving DecidableEq, Repr

/-- A received NAK, and whether the 4 µs of a replay time-out fall due with it (R205). -/
structure NakIn where
  flit : FlitIn
  timeout : Bool := false
deriving DecidableEq, Repr

/-- How a completion of a host-memory read ended (R238). -/
inductive Cpl where
  | ok (data : List Byte)
  /-- Successful, with the EP marking. -/
  | poisoned (data : List Byte)
  /-- Unsupported Request. -/
  | failed
  /-- Completer Abort. -/
  | aborted
deriving DecidableEq, Repr

/-- A word error that a reader meets: which word of the packet, whether it is uncorrectable, and then the raw data and
sideband bits with which the word is delivered (R366, R367). -/
structure WordErr where
  word : Nat
  uncorr : Bool
  raw : BitVec 66 := 0
deriving DecidableEq, Repr

/-- A turn of a WRITE: the agent, a tag or 2,048 and a far slot, and the errors that the port's check will meet in the words
written now (R332, R389). -/
structure WriteTurn where
  agent : Fin 2560
  errs : List WordErr := []
deriving DecidableEq, Repr

/-- A CAN frame on the bus (R413): `fmt` 0 classical, 1 FD, 2 XL. An XL frame's identifier is its priority identifier,
and `sec`, `vcid`, `sdt` and `af` are its own; a remote frame's length is `dlc`. -/
structure CanFrame where
  fmt : Fin 3
  ide : Bool := false
  rtr : Bool := false
  brs : Bool := false
  esi : Bool := false
  ident : BitVec 29
  sec : Bool := false
  vcid : BitVec 8 := 0
  sdt : BitVec 8 := 0
  af : W32 := 0
  dlc : BitVec 4 := 0
  data : List Byte := []
deriving DecidableEq, Repr

/-- What the error counters of ISO 11898-1 make of a CAN error or of lost arbitration (R417): an error of a
transmitter that counts, one of its exceptions that do not, an error of a receiver that counts 1 or 8, and lost
arbitration. -/
inductive CanErr where
  | transmit | transmitUncounted | receive | receiveMore | arbitration
deriving DecidableEq, Repr

/-- What a LIN response on the bus was (R424): its data, and its errors. -/
structure LinResp where
  data : List Byte := []
  checksum : Bool := false
  framing : Bool := false
  incomplete : Bool := false
deriving DecidableEq, Repr

/-- A SENT frame as its pulses give it (R427, R428): the measured tick in ns, the lengths in ticks of the status and
data nibbles, whether the check of the configured kind fails, and the length of the pause pulse in ticks. `slowBad` is
the check of a serial message that this frame completes. -/
structure SentFrame where
  tick : BitVec 24
  status : BitVec 8
  nibbles : List (BitVec 8)
  crcBad : Bool := false
  pause : BitVec 12 := 0
  slowBad : Bool := false
deriving DecidableEq, Repr

/-- The line as a UART receiver samples it for one character (R429, R430): one sample for each tick, from the first at
which the receiver looks for a start bit. Past the samples given the line is high. -/
structure UartChar where
  ticks : List Bool
deriving DecidableEq, Repr

/-- A port with an en bit (R330, R406). -/
inductive PortId where
  | can (m : Fin 16) | lin (m : Fin 8) | sent (m : Fin 4) | ser (m : Fin 4) | card (m : Fin 2) | eth (m : Fin 7)
deriving DecidableEq, Repr

/-- An error that belongs to the PCIe link (R243): Receiver Error, Bad TLP, Bad DLLP, REPLAY_NUM Rollover, Replay Timer
Timeout, Data Link Protocol Error, Flow Control Protocol Error, Receiver Overflow, Malformed TLP. -/
inductive LinkErr where
  | receiver | badTlp | badDllp | rollover | replayTimer | dataLink | flowControl | overflow | malformed
deriving DecidableEq, Repr

/-- An inbound request that the unit does not perform (R230): to BAR0 or BAR4 longer than two DW, a read of BAR2 beyond
its limits, a write to BAR2, a request that is not supported or whose function is disabled, and a vendor-defined
message of type 1. Offsets are within the BAR. -/
inductive BadReq where
  | longRead (off : BitVec 20) | longWrite (off : BitVec 20) | pageRead | pageWrite (off : BitVec 26)
  | unsupportedRead | unsupportedPosted | vendorType1
  /-- A packet with an error of the link. -/
  | link (e : LinkErr)
  /-- A packet one of whose words in the function's staging SEC-DED corrects, or finds uncorrectable. -/
  | staging (uncorr : Bool)
deriving DecidableEq, Repr

/-- Why a receiving port discards a sequenced flit (R204): an uncorrectable codeword, with or without a passing header
check, a failed header check, or another lseq than the expected one. -/
inductive Reject where
  | codeword (header : Bool) | header | sequence
deriving DecidableEq, Repr

/-- A Keychain transaction as a unit sees it (R166–R169): the 48 request bits, what it samples on KDAT_OUT in the response
phase, and how many response bits pass before KGATE rises again, where it does. -/
structure KcIn where
  frame : BitVec 48
  below : List Bool := []
  cut : Option Nat := none
deriving DecidableEq, Repr

/-- What the training sequences of a neighbour and the unit's own lanes give at the end of a training (R179, R196): the
receive lanes that qualified, the peer's selected receive lanes, its version, recovery flag, position and address. -/
structure Training where
  qualified : BitVec 3
  rxSel : BitVec 3
  version : BitVec 8 := 1
  recovery : Bool := false
  position : BitVec 10 := 0
  valid : Bool := true
  addr : BitVec 10 := 0
  assigned : Bool := false
deriving DecidableEq, Repr
/-- The width of a register access (R15, R16, R230): narrower than 32 bits or with bytes not enabled, 32 bits, 64 bits, or
a number of double words beyond these. -/
inductive Width where
  | narrow | word | long
  | burst (dw : BitVec 8)
deriving DecidableEq, Repr

/-- The modelled registers of a function's configuration space (R224, R225, R243), each with the bit places of PCI
Express Base Specification 4.0. -/
inductive CfgReg where
  /-- Vendor and Device ID; Command; Revision ID and Class Code; Header Type. -/
  | ident | command | revClass | headerType
  /-- The six base address words; Subsystem IDs; expansion ROM BAR; Capabilities Pointer; Interrupt Pin. -/
  | bar (k : Fin 6) | subsystem | rom | capPtr | intPin
  /-- Status; Cache Line Size, Latency Timer, BIST, Interrupt Line. -/
  | status | cacheLine | latency | bist | intLine
  /-- The header of the capability at the k-th offset of R225, with its ID and the next offset. -/
  | capability (k : Fin 8)
  /-- PM Capabilities and PM Control/Status. -/
  | pmcap | pmcsr
  /-- MSI-X Message Control, Table Offset and PBA Offset. -/
  | msix | msixTable | msixPba
  /-- Device Capabilities and Control, Link Capabilities and Status, Device Capabilities 2 and Control 2. -/
  | devcap | devctl | linkcap | linkStatus | devcap2 | devctl2
  /-- PCI Express Capabilities, Device Status, Link Control. -/
  | pcieCap | devStatus | linkControl
  /-- AER Uncorrectable Error Status and Severity. -/
  | aerUncorr | aerSeverity
  /-- AER Uncorrectable Error Mask, Correctable Error Status and Mask, Capabilities and Control, and Header Log. -/
  | aerMask | aerCorr | aerCorrMask | aerCap | headerLog (k : Fin 4)
  /-- Any other double word of configuration space, by its number. -/
  | other (dw : BitVec 10)
  /-- The low and high word of the Device Serial Number. -/
  | serial (high : Bool)
deriving DecidableEq, Repr

/-- What a register access names (R221, R223, R227–R229): an offset in BAR0, BAR2 or BAR4, a configuration register, or an
address on the PCIe link that the base address registers of the functions decode. -/
inductive Target where
  | bar0 (off : BitVec 20) | bar2 (off : BitVec 26) | bar4 (off : BitVec 16) | config (r : CfgReg)
  | mem (addr : BitVec 64)
deriving DecidableEq, Repr


/-- The commands and events of the unit, one for each row of the opcode table, in its order. -/
inductive Instr where
  /-- REGISTER_WRITE (R8). A write to a register field that has no row of its own takes effect as its access code
      states, or is refused as R13 and R16 state. -/
  | registerWrite (mid : BitVec 4) (origin : BitVec 10) (target : Target) (width : Width) (value : W64)
  /-- HALF_WRITE_DISCARD (R18). A held low half of a 64-bit register write that the high half has not completed
      within 1,024 core cycles is discarded and counted. -/
  | halfWriteDiscard (mid : BitVec 4) (off : BitVec 20)
  /-- SUPPLY_APPLIED (R95). Supply is applied and the unit is held in cold reset until PWR_IN has stayed at or above
      17.0 V for 10 ms. -/
  | supplyApplied
  /-- START_UP_QUALIFIED (R95). PWR_IN has stayed at or above the start-up threshold for 10 ms, so the cold reset is
      released. -/
  | startUpQualified
  /-- CUTOFF (R96). The voltage feeding the internal rails falls below 6.0 V and the power stage asserts cold reset. -/
  | cutoff
  /-- SUPPLY_SAMPLE (R93). Every 10 µs the supply monitor classifies PWR_IN into a band and applies that band's
      action. -/
  | supplySample (vin : BitVec 16)
  /-- POWER_FAIL_SEQUENCE (R116). PWR_IN has stayed below 15.0 V for 50 µs, and the unit runs the six steps of the
      power-fail sequence from the hold-up store. -/
  | powerFailSequence (steps : Fin 7) (acked : Bool) (step4 energy : BitVec 16)
  /-- GAUGE_UPDATE (R113). Every 1 ms the gauge computes E_Q, E_V and the usable energy under the pessimist rule. -/
  | gaugeUpdate (v : BitVec 20) (flow : Int)
  /-- RECALIBRATION_DISCHARGE_END (R115). The recalibration discharge reaches 12.0 V and the charger starts charging
      the store to 15.0 V. -/
  | recalibrationDischargeEnd
  /-- CALIBRATION_END (R111). The store reaches 15.0 V, and the calibration measures capacitance and ESR, resets the
      charge counter and sets the store state. -/
  | calibrationEnd (counted step : BitVec 26) (v : BitVec 20) (leak : BitVec 16)
  /-- SELF_TEST_TIMEOUT (R110). The store has not reached 15.0 V within 180 s of charging, so the self-test fails
      and the store becomes FAILED. -/
  | selfTestTimeout
  /-- ABSENT_DETECT (R109). HUP_P stays below 1.0 V after 1 s of charging, so the store becomes ABSENT. -/
  | absentDetect
  /-- TOP_UP (R100). In KEEP or OFF, the store voltage falls below 14.5 V and the charger tops it up to 15.0 V. -/
  | topUp
  /-- CHARGER_FAULT (R123). HUP_P is shorted or the charger current exceeds 1.5 A, so the charger stops and the
      store becomes FAILED. -/
  | chargerFault
  /-- HUP_OVERVOLT (R124). HUP_P rises above 16.5 V, so the charger stops and the store becomes NOT_READY with
      reason OVERVOLT. -/
  | hupOvervolt
  /-- HUP_OVERVOLT_END (R124). HUP_P falls below 15.0 V after an overvoltage and the charger resumes. -/
  | hupOvervoltEnd
  /-- AUX_FOLD_BACK (R125). An AUX output held at its current limit for 1 ms folds back to 10 % and sets
      PWR_STATUS.aux_fault. -/
  | auxFoldBack (five : Bool)
  /-- AUX_RETRY (R125). Every 100 ms a folded-back AUX output retries. -/
  | auxRetry (five : Bool)
  /-- PWR_STATE_WRITE (R103). A write of PWR_STATE.target requests a power state, which is accepted or refused and
      recorded in last_result. -/
  | pwrStateWrite (mid : BitVec 4) (value : W32)
  /-- ENTRY_DRAIN_END (R105). The SQ 0 drain wait of an entry to KEEP or OFF ends; the unit aborts the rest, commits
      the ledger, writes SHUTDOWN, parks lands and removes power. -/
  | entryDrainEnd
  /-- PERST_DEASSERT (R252). PERST_N rises, so link training begins, and in KEEP or OFF the unit leaves for ACTIVE
      by a warm reset. -/
  | perstDeassert
  /-- PERST_ASSERT (R251). PERST_N falls, which resets both functions as a function-level reset and powers down the
      PCIe PHY. -/
  | perstAssert
  /-- RST_N_ASSERT (R691). RST_N stays low for at least 1.0 µs and the unit accepts a warm reset. -/
  | rstNAssert
  /-- WARM_RESET_EFFECT (R692). Once the ledger has made its records durable and written SHUTDOWN, the warm or unit
      reset takes effect. -/
  | warmResetEffect
  /-- GLB_RESET_WARM (R160). A keyed write of GLB_RESET.warm requests a warm reset, with switch_req set when MID 2
      writes switch. -/
  | glbResetWarm (mid : BitVec 4) (value : W32)
  /-- RESET_RELEASE (R138). A cold, warm or unit reset is released and the boot ROM runs its steps to firmware
      start. -/
  | resetRelease (xt32 pcieRef badA badB : Bool)
  /-- NO_CLOCK (R154). REF25_IN gives no PLL lock within 10 ms of reset release, so the stage becomes NO_CLOCK. -/
  | noClock
  /-- NO_CLOCK_RETRY (R154). Every 100 ms in NO_CLOCK the boot ROM retries the PLL lock. -/
  | noClockRetry (lock xt32 pcieRef badA badB : Bool)
  /-- ROM_LOCKSTEP (R155). The control processor cores disagree during the boot ROM, so the unit warm-resets with
      cause ROM_LOCKSTEP or halts after three. -/
  | romLockstep
  /-- CP_LOCKSTEP_HALT (R62). The control processor cores disagree while firmware runs, so the processor halts and
      fetched SQ 0 entries end ABORTED. -/
  | cpLockstepHalt
  /-- WATCHDOG_EXPIRY (R156). The watchdog expires and the unit performs a warm reset with cause WATCHDOG. -/
  | watchdogExpiry
  /-- WATCHDOG_KICK (R160). A write of the key 0x4B1C to GLB_WDOG_KICK by MID 2 restarts the watchdog timeout. -/
  | watchdogKick (mid : BitVec 4) (value : BitVec 16)
  /-- REF25_LOSS (R157). The 25 MHz reference or the core PLL is lost, so CLK_EVT is set and the unit performs a
      safe stop. -/
  | ref25Loss (pll : Bool)
  /-- XT32_LOSS (R158). The 32.768 kHz oscillator stops or drifts beyond ±500 ppm, so CLK_EVT.xt32_loss is set. -/
  | xt32Loss (error : Option (BitVec 20))
  /-- IMG_QUERY (R144). Firmware replies with bank, trial, session and counter state. -/
  | imgQuery (via : Option (Fin 16))
  /-- IMG_BEGIN (R146). Firmware checks an image header, empties the target bank and opens a session. It came
      by request channel chan, or from SQ 0 where mail is false. -/
  | imgBegin (mail : Bool) (chan : Fin 16)
  /-- IMG_CHUNK (R147). Firmware writes one chunk of image body at the next expected offset. It came by request
      channel chan, or from SQ 0 where mail is false. -/
  | imgChunk (mail : Bool) (chan : Fin 16)
  /-- IMG_END (R144). Firmware checks the body digest, writes the header last and marks the bank STAGED. -/
  | imgEnd (via : Option (Fin 16))
  /-- IMG_ACTIVATE (R144). Firmware sets rec.pending to a STAGED bank. -/
  | imgActivate (via : Option (Fin 16))
  /-- IMG_RESTART (R144). Firmware posts its completion, seals the ledger and writes GLB_RESET with warm and switch. -/
  | imgRestart (via : Option (Fin 16))
  /-- IMG_CONFIRM (R144). Firmware makes the running trial bank preferred and CONFIRMED. -/
  | imgConfirm (via : Option (Fin 16))
  /-- IMG_REVERT (R144). Firmware marks the running trial bank BAD and warm-resets without switch. -/
  | imgRevert (via : Option (Fin 16))
  /-- IMG_SESSION_TIMEOUT (R148). An image session idles for 600 s and is closed with its bank left EMPTY. -/
  | imgSessionTimeout
  /-- KEYCHAIN_FRAME_BAD (R167). A Keychain frame with a wrong gate length, check byte or disallowed broadcast is
      discarded and counted. -/
  | keychainFrameBad
  /-- NOP (R173). A Keychain NOP frame passes without action or response. -/
  | kcNop (f : KcIn)
  /-- ASSIGN (R187). The first unassigned unit reached takes the address, opens its gate and answers with KID. -/
  | assign (f : KcIn)
  /-- ROLL_CALL (R173). The unit holding the address answers with its power state, stage, position and causes. -/
  | rollCall (f : KcIn)
  /-- KREAD (R176). The addressed unit answers with the Keychain register named by the index. -/
  | kread (f : KcIn)
  /-- ATTN_CTL (R177). The addressed or every assigned unit clears the named attention causes and may write enables. -/
  | attnCtl (f : KcIn)
  /-- UNIT_RESET (R192). A keyed Keychain UNIT_RESET performs a unit reset, leading to ACTIVE from KEEP or OFF. -/
  | unitReset (f : KcIn)
  /-- KEYCHAIN_PWR_SET (R193). A Keychain PWR_SET acts as a write of PWR_STATE.target at the end of its last request
      bit. -/
  | keychainPwrSet (f : KcIn)
  /-- UNASSIGN (R187). The addressed or every assigned unit returns to UNASSIGNED and announces it. -/
  | unassign (f : KcIn)
  /-- WIN_ADDR (R194). The addressed unit sets the window's BAR0 offset. -/
  | winAddr (f : KcIn)
  /-- WIN_WDATA (R194). The addressed unit stores a half of write data, starting a 32-bit write with the high half. -/
  | winWdata (f : KcIn)
  /-- WIN_READ (R194). The addressed unit starts a 32-bit window read as MID 0. -/
  | winRead (f : KcIn)
  /-- WIN_RESULT (R194). The addressed unit answers PENDING, OK with a half of the result, or ERROR. -/
  | winResult (f : KcIn)
  /-- WINDOW_ACCESS_DONE (R194). A window register access completes and the window state becomes DONE or ERROR. -/
  | windowAccessDone
  /-- KEYCHAIN_RESERVED_CMD (R173). A frame with cmd 0xC–0xF is answered BAD_CMD by the addressed unit. -/
  | keychainReservedCmd (f : KcIn)
  /-- PINTLE_PORT_ENABLE (R196). An enabled port with its PLL locked begins full training with TS1 on all lanes. -/
  | pintlePortEnable (p : Fin 2)
  /-- PINTLE_LINK_ACTIVE (R196). After lane qualification, selection, TS2 exchange and deskew, the port becomes
      ACTIVE. -/
  | pintleLinkActive (p : Fin 2) (t : Training)
  /-- TRAINING_TIMEOUT (R197). A port not ACTIVE 5.0 ms after step 1 sends nothing for 10 ms. -/
  | trainingTimeout (p : Fin 2)
  /-- RETRAINING_PAUSE_END (R197). The 10 ms pause ends and the port returns to step 1 of training. -/
  | retrainingPauseEnd (p : Fin 2)
  /-- RETRAIN (R198). A write of CHN_PTp_CTL.retrain starts recovery training. -/
  | retrain (p : Fin 2) (mid : BitVec 4)
  /-- RECOVERY_TRAINING (R198). The port retrains from step 2 keeping lseq, replay buffer and credits, then replays. -/
  | recoveryTraining (p : Fin 2) (t : Training)
  /-- LINK_SILENCE (R209). For 100 µs no valid flit arrives, so the port enters recovery training. -/
  | linkSilence (p : Fin 2)
  /-- ELECTRICAL_IDLE_DETECT (R209). The receive lanes show electrical idle for 10 µs and the port goes DOWN. -/
  | electricalIdleDetect (p : Fin 2)
  /-- RECOVERY_TIMEOUT (R209). Recovery training has not reached ACTIVE after 20 ms and the port goes DOWN. -/
  | recoveryTimeout (p : Fin 2)
  /-- PINTLE_PORT_DISABLE (R211). A write of CHN_PTp_CTL.en = 0 sends LEAVING and idles the port. -/
  | pintlePortDisable (p : Fin 2) (mid : BitVec 4)
  /-- FLIT_REJECT (R204). A sequenced flit with an uncorrectable codeword, failed header check or lseq ahead is
      discarded and a NAK may be sent. -/
  | flitReject (p : Fin 2) (data parity : List Byte) (nak : Bool)
  /-- FLIT_MALFORMED (R183). A sequenced flit with a good header but unknown type, bad len or wrong flags is
      acknowledged and discarded. -/
  | flitMalformed (p : Fin 2) (data parity : List Byte)
  /-- FLIT_FORWARD (R199). A flit not for this unit is forwarded by the address map or answered NO_ROUTE when
      undeliverable. -/
  | flitForward (p : Fin 2) (type : Byte) (f : FlitIn)
  /-- IDLE (R203). An IDLE flit carries lack and is consumed by the receiving port. -/
  | idle (p : Fin 2) (f : FlitIn)
  /-- IDLE_SEND (R203). When no other flit is due for 1 µs, the port sends IDLE carrying lack. -/
  | idleSend (p : Fin 2)
  /-- NAK (R205). On NAK(e) the transmitter resends every unacknowledged flit from lseq e in order. -/
  | nak (p : Fin 2) (f : NakIn)
  /-- REPLAY_TIMEOUT (R205). 4 µs pass with unacknowledged flits and no advance of lack, so all are resent from the
      oldest. -/
  | replayTimeout (p : Fin 2)
  /-- ANNOUNCE (R186). An ANNOUNCE writes or clears the address-map entry of its address. -/
  | announce (p : Fin 2) (f : FlitIn)
  /-- LINK_LOSS (R186). A LINK_LOSS clears every map entry beyond the reported loss and is forwarded. -/
  | linkLoss (p : Fin 2) (f : FlitIn)
  /-- LEAVING (R209). A LEAVING flit makes the receiving port go DOWN at once. -/
  | leaving (p : Fin 2) (f : FlitIn)
  /-- LANE_SWAP (R207). The peer transmitter copies the failing lane's stream onto the spare from the next ALIGN
      block. -/
  | laneSwap (p : Fin 2) (f : FlitIn)
  /-- LANE_SWAP_TRIGGER (R207). A lane's corrected-byte count in one second reaches the threshold, or it loses lock,
      and the port sends LANE_SWAP. -/
  | laneSwapTrigger (p : Fin 2) (k : Fin 3) (n : BitVec 24) (lock : Bool)
  /-- LANE_SWAP_COMPLETE (R207). At the following ALIGN block the receiver takes the spare in place of the failing
      lane and the peer retires it. -/
  | laneSwapComplete (p : Fin 2) (tx : Bool)
  /-- HEARTBEAT (R559). A heartbeat from the partner is accepted, and after a loss the member sends a STATE pair
      message. -/
  | heartbeat (p : Fin 2) (f : FlitIn)
  /-- HEARTBEAT_SEND (R212). Every 1 ms a bound pair member sends HEARTBEAT to its partner. -/
  | heartbeatSend
  /-- HEARTBEAT_LOSS (R559). No heartbeat is accepted for 5 ms, so hb_lost is set and a standby starts the takeover
      grace. -/
  | heartbeatLoss
  /-- RD_REQ (R494). The target performs a far 32-bit read as MID 4 and answers RD_RSP within 2 µs. -/
  | rdReq (p : Fin 2) (f : FlitIn) (uncorr : Bool)
  /-- WR_REQ (R494). The target performs a far 32-bit write as MID 4 and answers WR_RSP unless broadcast. -/
  | wrReq (p : Fin 2) (f : FlitIn)
  /-- RD_RSP (R493). A read response ends its far access with the outcome its status gives. -/
  | rdRsp (p : Fin 2) (f : FlitIn)
  /-- WR_RSP (R493). A write response ends its far access with the outcome its status gives. -/
  | wrRsp (p : Fin 2) (f : FlitIn)
  /-- NO_ROUTE (R493). A NO_ROUTE ends the refused request with FAR_GONE or IN_RESET. -/
  | noRoute (p : Fin 2) (f : FlitIn)
  /-- START (R354). A PRG START takes a far slot and begins the operation, or is answered RETRY. -/
  | start (p : Fin 2) (f : FlitIn)
  /-- PRG_DATA (R355). PRG DATA carries write data to the far agent, or read data back to the originator, within
      credit. -/
  | prgData (p : Fin 2) (rsp : Bool) (f : FlitIn)
  /-- CANCEL (R356). CANCEL stops a far operation without an END and frees its slot. -/
  | cancel (p : Fin 2) (f : FlitIn)
  /-- CREDIT (R355). A PRG CREDIT grants further receive or write credit. -/
  | credit (p : Fin 2) (rsp : Bool) (f : FlitIn)
  /-- END (R353). A PRG END reports the far operation's status and counts to the originator. -/
  | prgEnd (p : Fin 2) (f : FlitIn)
  /-- RETRY (R354). A PRG RETRY tells the originator that no far slot was free. -/
  | retry (p : Fin 2) (f : FlitIn)
  /-- FAR_START_RESEND (R354). 2 µs after a RETRY the originator sends the START again. -/
  | farStartResend (tag : Fin 2048)
  /-- INBOUND_UNSUPPORTED_REQUEST (R230). An inbound request of an unsupported kind, or to a disabled function, ends
      as Unsupported Request or Completer Abort. -/
  | inboundUnsupportedRequest (fn : Fin 2) (k : BadReq)
  /-- POISONED_WRITE_RX (R230). An inbound write carrying EP is discarded and logged as Poisoned TLP Received. -/
  | poisonedWriteRx (fn : Fin 2)
  /-- READ_COMPLETION (R238). A completion for one of the unit's memory reads arrives and its data is checked,
      carried or poisoned. -/
  | readCompletion (fn : Fin 2) (id : Nat) (c : Cpl)
  /-- COMPLETION_TIMEOUT (R239). A memory read gets no completion within its timeout and ends as R238 states. -/
  | completionTimeout (fn : Fin 2) (id : Nat)
  /-- FUNCTION_LEVEL_RESET (R253). A function-level reset destroys the function's queues, programs, slots and locks
      within 10 ms. -/
  | functionLevelReset (fn : Fin 2)
  /-- HOT_RESET (R251). A hot reset on the link resets both functions as a function-level reset. -/
  | hotReset
  /-- PCIE_LINK_DOWN (R251). The link goes down and both functions are reset as a function-level reset. -/
  | pcieLinkDown
  /-- PCIE_LINK_UP (R252). The link reaches L0 and the functions complete configuration requests. -/
  | pcieLinkUp (x2 : Bool) (speed : Fin 4)
  /-- LINK_WIDTH_DEGRADE (R259). One lane pair fails in L0 and the link retrains at ×1 without link-down. -/
  | linkWidthDegrade
  /-- BUS_MASTER_CHANGE (R241). Bus Master Enable or the D-state changes, holding or releasing the function's staged
      requests. -/
  | busMasterChange (fn : Fin 2) (bme d3 : Bool)
  /-- POSTED_CREDIT_RETURN (R235). The root port returns posted credits and staged posted writes leave in R234
      order. -/
  | postedCreditReturn (n : BitVec 12)
  /-- MSIX_MESSAGE (R247). A gated interrupt level rises, so an MSI-X message becomes due and is sent or marked
      pending. -/
  | msixMessage (fn : Fin 2) (x : Fin 4)
  /-- INTERRUPT_REARM (R247). A write of INT_PFf_REARM makes a message due for each set bit whose level is 1. -/
  | interruptRearm (fn : Fin 2) (value : BitVec 4)
  /-- MSIX_PENDING_SEND (R248). A pending bit's conditions come to hold and its message is sent. -/
  | msixPendingSend (fn : Fin 2) (x : Fin 4)
  /-- TUMBLER_READ (R266). A read of MBX_c_TUMBLER by the bound sender takes the lock or reports the owner. -/
  | tumblerRead (c : Fin 16) (mid : BitVec 4) (origin : BitVec 10)
  /-- TUMBLER_RELEASE (R267). The owner writes owner MID + 1 to MBX_c_TUMBLER and frees the lock. -/
  | tumblerRelease (c : Fin 16) (mid : BitVec 4) (origin : BitVec 10) (value : BitVec 5)
  /-- MAILBOX_GO (R270). The Tumbler owner writes MBX_c_CTL.go and the message waits for the staging stage. -/
  | mailboxGo (c : Fin 16) (mid : BitVec 4) (origin : BitVec 10) (release : Bool)
  /-- MAILBOX_COPY (R270). The staging stage is free, so the transmit words are copied and the lock is freed with
      release. -/
  | mailboxCopy (c : Fin 16)
  /-- MAILBOX_CHECK (R271). The staging stage checks the message and delivers it to the receive queue, drops it on a
      full queue, or marks it malformed. -/
  | mailboxCheck (c : Fin 16)
  /-- MAILBOX_POP (R273). The receiver writes pop and the head message is removed. -/
  | mailboxPop (c : Fin 16) (mid : BitVec 4) (origin : BitVec 10)
  /-- KEYWAY_BIND (R276). MID 2 writes KWY_BINDc, emptying the channel and freeing its Tumbler. -/
  | keywayBind (c : Fin 16) (mid : BitVec 4) (origin : BitVec 10) (value : W32)
  /-- KEYWAY_LOCK (R275). MID 2 sets KWY_CTL.lock, making the bindings read only. -/
  | keywayLock (mid : BitVec 4) (origin : BitVec 10) (value : W32)
  /-- UNIT_INFO (R282). Firmware replies with identity, revision, version, address, lifecycle and power state. -/
  | unitInfo (via : Option (Fin 16))
  /-- PARAM_GET (R282). Firmware replies with a parameter's value and attributes. -/
  | paramGet (via : Option (Fin 16))
  /-- PARAM_SET (R282). Firmware sets a parameter, persisting it on request, within Deadbolt bounds. -/
  | paramSet (via : Option (Fin 16))
  /-- PWR_SET (R102). Firmware writes PWR_STATE.target and replies with last_result. -/
  | pwrSet (via : Option (Fin 16))
  /-- SQ_CREATE (R307). Firmware creates an ACTIVE submission queue bound to a ring of the sender. -/
  | sqCreate (via : Option (Fin 16))
  /-- SQ_DESTROY (R307). Firmware shuts down a queue if needed and frees its number. -/
  | sqDestroy (via : Option (Fin 16))
  /-- SQ_SHUTDOWN (R319). Fetching stops, every program of the queue ends and ABORTED records are posted. -/
  | sqShutdown (via : Option (Fin 16))
  /-- SHUTDOWN_COMPLETE (R319). Every record of a shutdown has been posted and every tag returned. -/
  | shutdownComplete (n : Fin 256)
  /-- SQ_RESTART (R307). Firmware sets H and T to the restart index and returns a stopped queue to ACTIVE. -/
  | sqRestart (via : Option (Fin 16))
  /-- CR_CREATE (R307). Firmware creates a completion ring owned by the sender. -/
  | crCreate (via : Option (Fin 16))
  /-- CR_DESTROY (R307). Firmware destroys a ring that no queue is bound to. -/
  | crDestroy (via : Option (Fin 16))
  /-- PRG_RESUME (R312). Firmware delivers a resume to the program holding the tag. -/
  | prgResume (via : Option (Fin 16))
  /-- GRT_LOAD (R525). Firmware reads, checks and commits a block of routing entries or refuses all. It came by
      request channel chan, or from SQ 0 where mail is false. -/
  | grtLoad (mail : Bool) (chan : Fin 16)
  /-- GRT_ENABLE (R525). Firmware sets or clears en in a range of routing entries. -/
  | grtEnable (via : Option (Fin 16))
  /-- TIME_SET (R548). Firmware appends a TIME_SET record tying wall time to the last cross-timestamp. -/
  | timeSet (via : Option (Fin 16))
  /-- LDG_SEAL (R538). Firmware requests a SEAL and replies once it commits. -/
  | ldgSeal (via : Option (Fin 16))
  /-- LDG_STATUS (R282). Firmware replies with sequence points, role and write-through state. -/
  | ldgStatus (via : Option (Fin 16))
  /-- LDG_EXPORT (R550). Firmware writes an anchor SEAL and a record range to host memory. It came by request channel
      chan, or from SQ 0 where mail is false. -/
  | ldgExport (mail : Bool) (chan : Fin 16)
  /-- PAIR_BIND (R553). Firmware records a bind request, and the pair forms when both units match within 1 s. -/
  | pairBind (via : Option (Fin 16))
  /-- PAIR_BIND_WINDOW_EXPIRY (R553). No matching request arrives within 1 s and PAIR_BIND ends with STATE. -/
  | pairBindWindowExpiry
  /-- PAIR_UNBIND (R561). The unit leaves the pair for NONE and sends an UNBIND pair message. -/
  | pairUnbind (via : Option (Fin 16))
  /-- TAKEOVER (R566). A host-commanded standby takeover writes TAKEOVER and a SEAL and becomes ACTIVE. -/
  | takeover (via : Option (Fin 16))
  /-- HANDOVER (R560). The active unit sequences HANDOVER, becomes STANDBY and sends the epoch holding it. -/
  | handover (via : Option (Fin 16))
  /-- HANDOVER_TIMEOUT (R560). The epoch holding HANDOVER is not acknowledged within 100 ms and the command ends
      with STATE. -/
  | handoverTimeout
  /-- REPAIR_POINT (R632). Firmware starts a repair point, waits for it and replies with its counts. -/
  | repairPoint (via : Option (Fin 16))
  /-- FAULT_CFG (R607). Firmware writes a source's threshold, window and action within its bounds. -/
  | faultCfg (via : Option (Fin 16))
  /-- UNKNOWN_COMMAND (R285). A command with an unknown code, or not served in recovery, ends UNSUPPORTED. -/
  | unknownCommand (via : Option (Fin 16))
  /-- FIRMWARE_IGNORES_REPLY (R286). A REPLY or NOTICE reaching firmware is popped without action. -/
  | firmwareIgnoresReply (c : Fin 16)
  /-- ADMIN_ENABLE (R304). A write of QMG_ADM_CTL.enable = 1 enables the admin pair with pointers at 0. -/
  | adminEnable (mid : BitVec 4) (value : W32)
  /-- ADMIN_DISABLE (R305). The owner writes enable = 0, fetching from SQ 0 stops and the unit waits for firmware. -/
  | adminDisable (mid : BitVec 4)
  /-- ADMIN_DISABLE_END (R305). The 10 ms wait ends, unfinished entries get ABORTED, and the pair becomes disabled. -/
  | adminDisableEnd
  /-- SQ_DOORBELL (R310). A write of DBL_SQn_TAIL is judged and sets T or sends the queue to ERROR. -/
  | sqDoorbell (n : Fin 256) (mid : BitVec 4) (value : BitVec 13)
  /-- RESUME_DOORBELL (R312). A write of DBL_SQn_RESUME delivers a resume to the tagged program. -/
  | resumeDoorbell (n : Fin 256) (mid : BitVec 4) (tag : BitVec 11)
  /-- CR_HEAD_DOORBELL (R317). A write of DBL_CRm_HEAD or DBL_ACR_HEAD releases ring records. -/
  | crHeadDoorbell (m : Fin 65) (mid : BitVec 4) (head : BitVec 13)
  /-- ENTRY_FETCH (R313). The conditions of R313 hold and the unit issues a fetch read of up to 8 entries. -/
  | entryFetch (n : Fin 256)
  /-- ENTRY_FETCHED (R314). Fetched entries arrive; each advances H, takes a tag, reserves a slot and is checked. -/
  | entryFetched (fn : Fin 2) (c : Cpl)
  /-- ADMIN_FETCH (R306). SQ 0 has published entries and room, and the admin fetcher reads up to 8 into staging. -/
  | adminFetch
  /-- ADMIN_ENTRY_DONE (R306). Firmware reports an SQ 0 entry done and its record is posted into the ACR. -/
  | adminEntryDone
  /-- RING_DELAY_EXPIRY (R318). QMG_CRm_INT.delay µs have passed since the first record counted, so posted is set. -/
  | ringDelayExpiry (m : Fin 65)
  /-- CCW_START (R337). A sub-engine reads, checks and starts a program's next CCW, suspending on HOLD. -/
  | ccwStart (tag : Fin 2048)
  /-- DEVICE_OPERATION_END (R337). A device operation ends, and the program posts a notice, chains to the next CCW
      or ends. -/
  | deviceOperationEnd (a : Fin 2560)
  /-- CCW_TIMEOUT (R347). A device operation's time-out expires and the program ends with TIMEOUT. -/
  | ccwTimeout (tag : Fin 2048)
  /-- WRITE (R332). A WRITE CCW hands frame records or bytes from host memory to a port. Its turn
      carries the errors that the port's check will meet in the words written now (R389). -/
  | write (w : WriteTurn)
  /-- READ (R332). A READ CCW takes packets from a port's receive queues into host memory. -/
  | read (a : Fin 2560) (errs : List WordErr)
  /-- CONTROL (R331). A CONTROL CCW issues its function to the port. -/
  | control (a : Fin 2560)
  /-- SENSE (R408). A SENSE CCW writes the port's 32-byte status block. -/
  | sense (a : Fin 2560)
  /-- JUMP (R345). A JUMP continues the program at its target, ending with LOOP_LIMIT at the 257th. -/
  | jump (tag : Fin 2048)
  /-- WAIT_EVENT (R332). A WAIT_EVENT waits for the named port event or engine timer. -/
  | waitEvent (a : Fin 2560)
  /-- ENGINE_TIMER_EXPIRY (R332). An ENGINE WAIT_EVENT timer reaches its param and the CCW ends. -/
  | engineTimerExpiry (tag : Fin 2048)
  /-- LEDGER_APPEND (R357). A LEDGER_APPEND CCW hands an append block to the ledger of its dev. -/
  | ledgerAppend (tag : Fin 2048)
  /-- MARK (R358). A MARK CCW pushes a trace marker with param, tag and time. -/
  | mark (tag : Fin 2048)
  /-- POLL_FAR (R332). A POLL_FAR reads its value and mask and polls a register until it matches. -/
  | pollFar (tag : Fin 2048)
  /-- POLL_FAR_INTERVAL (R332). A POLL_FAR interval elapses and the register is read again. -/
  | pollFarInterval (tag : Fin 2048)
  /-- BUS_ON (R418). CONTROL BUS_ON ends host-off or starts bus-off recovery. -/
  | busOn (a : Fin 2560)
  /-- BUS_OFF (R418). CONTROL BUS_OFF puts the CAN port host-off. -/
  | busOff (a : Fin 2560)
  /-- ABORT_TX (R418). CONTROL ABORT_TX discards every committed CAN packet not yet begun. -/
  | abortTx (a : Fin 2560)
  /-- RUN_SCHEDULE (R422). CONTROL RUN_SCHEDULE starts or replaces a LIN schedule table. -/
  | runSchedule (a : Fin 2560)
  /-- STOP_SCHEDULE (R422). CONTROL STOP_SCHEDULE ends the schedule at the end of the current slot. -/
  | stopSchedule (a : Fin 2560)
  /-- WAKEUP (R426). CONTROL WAKEUP drives a dominant wake-up pulse on LIN. -/
  | wakeup (a : Fin 2560)
  /-- GOTO_SLEEP (R426). CONTROL GOTO_SLEEP sends the sleep command and the LIN port sleeps. -/
  | gotoSleep (a : Fin 2560)
  /-- SENT_START (R427). CONTROL START enables SENT decoding. -/
  | sentStart (a : Fin 2560)
  /-- SENT_STOP (R427). CONTROL STOP disables SENT decoding. -/
  | sentStop (a : Fin 2560)
  /-- BREAK (R436). CONTROL BREAK drives the UART transmit land low for break_len bit times. -/
  | breakTx (a : Fin 2560)
  /-- FAST_INIT (R437). CONTROL FAST_INIT drives the K-line low for tinil and high for tinih. -/
  | fastInit (a : Fin 2560)
  /-- FLUSH_RX (R436). CONTROL FLUSH_RX discards every committed chunk of the receive queue. -/
  | flushRx (a : Fin 2560)
  /-- ACTIVATE (R440). CONTROL ACTIVATE powers, clocks and resets a card and waits for the answer to reset. -/
  | activate (a : Fin 2560)
  /-- CARD_WARM_RESET (R440). CONTROL WARM_RESET drives card RST low for 40,000 clocks and waits for the answer. -/
  | cardWarmReset (a : Fin 2560)
  /-- DEACTIVATE (R440). CONTROL DEACTIVATE drives the card lines down in order within 100 µs. -/
  | deactivate (a : Fin 2560)
  /-- LINK_UP (R478). CONTROL LINK_UP clears hold_down and ends when the Ethernet link is up. -/
  | linkUp (a : Fin 2560)
  /-- LINK_DOWN (R478). CONTROL LINK_DOWN sets hold_down and takes the Ethernet link down. -/
  | linkDown (a : Fin 2560)
  /-- QUEUE_CONFIG (R374). A write of BUF_Qq_CFG places or enables a queue, or is refused with a reason. -/
  | queueConfig (q : Fin 216) (value : W32)
  /-- DROP_PKT (R393). A write of BUF_Qq_CMD.drop_pkt discards the oldest unbegun packet of a receive queue. -/
  | dropPkt (q : Fin 216)
  /-- CLAIM_GRANT (R385). A waiting producer is granted a transmit queue's claim. -/
  | claimGrant (q : Fin 216)
  /-- CAN_ENABLE (R720). An accepted write of CANm_CTL.en = 1 starts the controller error active and integrating. -/
  | canEnable (m : Fin 16) (mid : BitVec 4) (value : W32)
  /-- PORT_ENABLE (R407). A write of en = 1 to a LIN, SENT, SER or CARD port is judged against its fields and
      enables it or is refused. -/
  | portEnable (p : PortId) (mid : BitVec 4) (value : W32)
  /-- PORT_DISABLE (R406). A write of en = 0 disables a port, discarding its unbegun transmit packets. -/
  | portDisable (p : PortId) (mid : BitVec 4) (value : W32)
  /-- CAN_INTEGRATION_END (R720). 11 consecutive recessive bits end bus integration and the controller may transmit
      and store. -/
  | canIntegrationEnd (m : Fin 16)
  /-- CAN_FRAME_RECEIVE (R412). A received CAN frame is matched against filters and written to its class queue, and
      offered to the gateway. -/
  | canFrameReceive (m : Fin 16) (f : CanFrame) (time : BitVec 48)
  /-- CAN_FRAME_SENT (R416). A CAN frame's end-of-frame passes without error and the frame has left the port. -/
  | canFrameSent (m : Fin 16)
  /-- CAN_BUS_ERROR (R417). A CAN bus error or lost arbitration updates TEC and REC and retries or drops the frame. -/
  | canBusError (m : Fin 16) (e : CanErr) (lec : BitVec 3)
  /-- CAN_RECOVERY_END (R417). 128 occurrences of 11 recessive bits complete and the port returns to error active. -/
  | canRecoveryEnd (m : Fin 16)
  /-- AUTO_RECOVER_WRITE (R417). A write setting auto_recover while bus-off and not recovering starts recovery. -/
  | autoRecoverWrite (m : Fin 16) (mid : BitVec 4) (value : W32)
  /-- PERIODIC_FRAME_DUE (R420). A periodic slot's period elapses and its frame is loaded at the next frame
      boundary. -/
  | periodicFrameDue (m : Fin 16) (k : Fin 8)
  /-- SUPERVISION_TIMEOUT (R420). No frame with a supervised identifier arrives within its timeout. -/
  | supervisionTimeout (m : Fin 16) (k : Fin 8)
  /-- J1939_T1_EXPIRY (R419). A J1939 session sees no packet for 750 ms and ends without a record. -/
  | j1939T1Expiry (m : Fin 16) (sa : BitVec 8) (da : BitVec 8)
  /-- LIN_SLOT_START (R422). A commander's schedule slot begins and its header is sent. -/
  | linSlotStart (m : Fin 8)
  /-- LIN_HEADER_RECEIVE (R421). A responder receives a header, resynchronising or discarding it. -/
  | linHeaderReceive (m : Fin 8) (id : BitVec 6) (bit : BitVec 32) (time : BitVec 48)
  /-- LIN_RESPONSE_END (R424). A LIN response ends and a record is written or the pending response counts as sent. -/
  | linResponseEnd (m : Fin 8) (p : LinResp)
  /-- LIN_RESPONSE_TIMEOUT (R424). A response is not finished within 1.4 times the nominal frame time, giving a
      no_response record. -/
  | linResponseTimeout (m : Fin 8)
  /-- LIN_BIT_ERROR (R446). A bit error on a header or response the unit sends stops that frame. -/
  | linBitError (m : Fin 8)
  /-- LIN_WAKEUP_DETECT (R426). A dominant level over 150 µs on a sleeping port is taken as wake-up. -/
  | linWakeupDetect (m : Fin 8)
  /-- SENT_FRAME_RECEIVE (R427). A SENT frame is decoded and a fast-channel, and possibly slow-channel, record
      written. -/
  | sentFrameReceive (m : Fin 4) (f : SentFrame) (time : BitVec 48)
  /-- UART_CHARACTER_RECEIVE (R430). A start edge begins a character, which is sampled and stored, flagged, or taken
      as noise or break. -/
  | uartCharacterReceive (m : Fin 4) (c : UartChar) (time : BitVec 48)
  /-- UART_IDLE_TIMEOUT (R434). The line is idle for the chunk's idle time and the open chunk closes. -/
  | uartIdleTimeout (card : Bool) (m : Fin 4) (n : BitVec 16)
  /-- CTS_CHANGE (R436). SERm_CTS_N changes level, holding or releasing the transmitter. -/
  | ctsChange (m : Fin 4) (level : Bool)
  /-- CARD_CHARACTER_RECEIVE (R441). A card character is received and parity is signalled or flagged. -/
  | cardCharacterReceive (m : Fin 2) (b : Byte) (parityOk : Bool) (time : BitVec 48)
  /-- CARD_ATR_RECEIVE (R440). The first answer-to-reset character arrives and ACTIVATE ends. -/
  | cardAtrReceive (m : Fin 2) (b : Byte) (inverse : Bool) (time : BitVec 48)
  /-- ATR_TIMEOUT (R440). No answer to reset arrives within 40,000 clocks and the port deactivates. -/
  | atrTimeout (m : Fin 2)
  /-- CARD_WAITING_TIME_EXPIRY (R442). The waiting or character waiting time expires and the READ ends with detail
      0x43. -/
  | cardWaitingTimeExpiry (m : Fin 2)
  /-- CARD_PRESENCE_CHANGE (R443). A filtered presence edge marks a card inserted or removed, deactivating on
      removal. -/
  | cardPresenceChange (m : Fin 2) (level : Bool)
  /-- ETH_ENABLE (R476). A write of ETHm_CFG.en = 1 powers the MAC and PHY and starts link training. -/
  | ethEnable (m : Fin 7) (mid : BitVec 4) (value : W32)
  /-- ETH_LINK_CHANGE (R476). ETHm_STATUS.link changes, setting link_up or link_down and discarding queued frames on
      loss. -/
  | ethLinkChange (m : Fin 7) (up : Bool)
  /-- ETH_FRAME_RECEIVE (R458). A received Ethernet frame is checked, filtered, stamped, stored and offered to the
      gateway. -/
  | ethFrameReceive (m : Fin 7) (frame : List Byte) (fcsBad : Bool) (time : W64)
  /-- ETH_FRAME_SENT (R461). An Ethernet frame's last FCS bit is sent without collision and its timestamp is written
      on request. -/
  | ethFrameSent (m : Fin 7) (time : W64)
  /-- ETH_COLLISION (R482). A collision under CSMA/CD makes ETH6 back off or drop the frame. -/
  | ethCollision (late : Bool)
  /-- PLCA_BEACON_LOSS (R481). No BEACON is seen for four cycles and ETH6 falls back to CSMA/CD. -/
  | plcaBeaconLoss
  /-- PLCA_OPPORTUNITY (R480). A node's PLCA transmit opportunity begins, and it sends or lets it lapse after
      to_timer. -/
  | plcaOpportunity
  /-- TIM_SET (R466). A 64-bit write of TIM_SET steps the PTP clock. -/
  | timSet (mid : BitVec 4) (value : W64)
  /-- TIM_RATE (R464). A write of TIM_RATE changes the clock's rate adjustment. -/
  | timRate (mid : BitVec 4) (value : W32)
  /-- TIM_SLEW (R465). A write of TIM_SLEW starts, replaces or ends a slew. -/
  | timSlew (mid : BitVec 4) (value : W32)
  /-- SLEW_DONE (R465). TIM_SLEW_LEFT reaches 0 and slew_done is set. -/
  | slewDone
  /-- CROSS_TIMESTAMP (R470). A write of TIM_XTS_CTL.go captures PTP time and monotonic time together. -/
  | crossTimestamp
  /-- TIM_CAPTURE_EDGE (R473). A selected edge on TIM_CAPn stores its PTP time. -/
  | timCaptureEdge (n : Fin 2) (rising : Bool)
  /-- PPS_EDGE (R474). The PTP clock reaches a multiple of the period and TIM_PPSn rises, falling after its width. -/
  | ppsEdge (n : Fin 2)
  /-- FAR_SLOT_CMD (R497). A write of HNG_FASf_s_CMD starts one far, own or LXB access, or is ignored. -/
  | farSlotCmd (f : Fin 2) (k : Fin 8) (mid : BitVec 4) (value : W32)
  /-- FAR_ACCESS_TIMEOUT (R493). A far access reaches its time-out and ends with TIMEOUT. -/
  | farAccessTimeout (k : Fin 256)
  /-- FABRIC_FAR_ACCESS (R495). A far or LXB access by MID 2 or 5 receives RETRY until the result, which is then
      delivered. -/
  | fabricFarAccess (mid : BitVec 4) (lxb : Bool) (unit : BitVec 10) (off : BitVec 24) (write : Bool) (data : W64) (wide : Bool)
  /-- HELD_RESULT_EXPIRY (R495). A held result is not collected within 100 µs and is discarded. -/
  | heldResultExpiry (mid : BitVec 4) (lxb : Bool) (unit : BitVec 10) (off : BitVec 24)
  /-- FAR_LATCH_EXPIRY (R500). A MID 4 wide-access latch passes 100 µs without its high half and is discarded. -/
  | farLatchExpiry (origin : BitVec 10)
  /-- SEMAPHORE_READ (R501). A read of HNG_SEMs takes the semaphore or reports its holder. -/
  | semaphoreRead (k : Fin 64) (mid : BitVec 4) (origin : BitVec 10)
  /-- SEMAPHORE_RELEASE (R501). The holder writes HNG_SEMs and frees it. -/
  | semaphoreRelease (k : Fin 64) (mid : BitVec 4) (origin : BitVec 10)
  /-- SEMAPHORE_LEASE_EXPIRY (R502). A semaphore held longer than HNG_SEM_LEASE ms is freed. -/
  | semaphoreLeaseExpiry (k : Fin 64)
  /-- LXB_ACCESS (R503). An LXB access takes its turn and runs its address and data phases. -/
  | lxbAccess (data : BitVec 16)
  /-- LXB_WAIT_TIMEOUT (R504). LXB_WAIT_N holds the data phase beyond wait_timeout and the access fails. -/
  | lxbWaitTimeout
  /-- LXB_LOCK_READ (R506). A read of HNG_LXB_LOCK takes the LXB lock or reports the holder. -/
  | lxbLockRead (mid : BitVec 4)
  /-- LXB_LOCK_RELEASE (R506). The holder writes HNG_LXB_LOCK and LXB_LOCK falls. -/
  | lxbLockRelease (mid : BitVec 4)
  /-- LXB_LOCK_BROKEN (R507). A lock held beyond lock_max is broken and the holder's next access fails. -/
  | lxbLockBroken
  /-- POLL_ROUND (R508). A round falls due for a polled address and reads its mirror words into the BAR2 page. -/
  | pollRound (addr : BitVec 10)
  /-- GATEWAY_LOOKUP (R518). A frame committed in ingress staging is matched, rewritten, converted and offered to
      egress ports. -/
  | gatewayLookup (code : Fin 31) (uncorr : Bool)
  /-- ROUTING_ENTRY_COMMIT (R517). MID 2 writes word 0 of a routing entry, committing all four words. -/
  | routingEntryCommit (e : Fin 4096) (mid : BitVec 4) (origin : BitVec 10) (word : W32)
  /-- LDG_APPEND_PART (R544). A far append part arrives at the target and is assembled, the last part being
      appended. -/
  | ldgAppendPart (p : Fin 2) (f : FlitIn)
  /-- APPEND_END (R544). An APPEND_END response ends a far append with its status and sequence number. -/
  | appendEnd (p : Fin 2) (f : FlitIn)
  /-- FAR_APPEND_RESEND (R544). 2 µs after an APPEND_END with RETRY the originator sends the block again. -/
  | farAppendResend (tag : Fin 2048)
  /-- FAR_APPEND_TIMEOUT (R544). No APPEND_END arrives within 100 ms of the last part and the append ends TIMEOUT. -/
  | farAppendTimeout (tag : Fin 2048)
  /-- FIRMWARE_APPEND (R542). MID 2 writes LDG_FWA_CTL.go and the block is appended or refused. -/
  | firmwareAppend (mid : BitVec 4)
  /-- RECORD_DURABLE (R543). A committed record is written to flash in sequence order. -/
  | recordDurable
  /-- SEAL_REQUEST (R538). A write of LDG_CMD.seal sequences a SEAL. -/
  | sealRequest (mid : BitVec 4)
  /-- SEGMENT_RELEASE (R552). A write of LDG_CMD.release appends RELEASE and erases the oldest segment, or is
      refused. -/
  | segmentRelease (mid : BitVec 4)
  /-- EXPORTED_WRITE (R551). MID 2 raises LDG_EXPORTED within its limits. -/
  | exportedWrite (mid : BitVec 4) (value : W64)
  /-- EPOCH_CLOSE (R555). An open epoch closes and is sent as EPOCH_BEGIN, EPOCH_DATA and EPOCH_END. -/
  | epochClose
  /-- EPOCH_BEGIN (R556). The standby receives an EPOCH_BEGIN and starts staging, discarding any partial epoch. -/
  | epochBegin (p : Fin 2) (f : FlitIn)
  /-- EPOCH_DATA (R556). The standby stages the record bytes of an EPOCH_DATA flit. -/
  | epochData (p : Fin 2) (f : FlitIn)
  /-- EPOCH_END (R557). The standby checks the staged epoch and commits or discards it. -/
  | epochEnd (p : Fin 2) (f : FlitIn)
  /-- EPOCH_COMMIT (R557). The mirrored records become durable and the standby answers EPOCH_ACK COMMITTED. -/
  | epochCommit
  /-- EPOCH_ACK (R558). The active unit takes an EPOCH_ACK, advancing LDG_MIRROR_SEQ or resending a discarded epoch. -/
  | epochAck (p : Fin 2) (f : FlitIn)
  /-- EPOCH_RESEND_TIMEOUT (R558). No EPOCH_ACK arrives 50 ms after END and the epoch is resent whole. -/
  | epochResendTimeout (newer : Bool)
  /-- PAIR_STATE (R567). A STATE pair message is compared and a member may yield, resynchronise or branch. -/
  | pairState (p : Fin 2) (rsp : Bool) (f : FlitIn)
  /-- PAIR_BIND_MESSAGE (R553). A BIND pair message forms the pair in a new term with SEAL and BIND. -/
  | pairBindMessage (p : Fin 2) (rsp : Bool) (f : FlitIn)
  /-- PAIR_UNBIND_MESSAGE (R561). An UNBIND pair message in the same term unbinds the partner. -/
  | pairUnbindMessage (p : Fin 2) (rsp : Bool) (f : FlitIn)
  /-- PAIR_HOLD (R565). A write of LDG_PAIR_CTL.hold holds the takeover timer. -/
  | pairHold (mid : BitVec 4) (value : W32)
  /-- TAKEOVER_GRACE_EXPIRY (R565). The takeover grace ends with auto set and the standby takes over. -/
  | takeoverGraceExpiry
  /-- THERMAL_SAMPLE (R583). A sample measures all sensors, updates suspects and reported values and the thermal
      state. -/
  | thermalSample (sensors : List (BitVec 12 × Bool))
  /-- MEASURE (R579). A write of THM_CMD.measure demands a sample. -/
  | measure (mid : BitVec 4) (value : W32)
  /-- THERMAL_GRACE_EXPIRY (R584). The grace timer expires in WARNING and enforcement comes into force. -/
  | thermalGraceExpiry
  /-- THM_LIM_WRITE (R575). MID 2 writes THM_LIM, applied only if it tightens and keeps the ordering. -/
  | thmLimWrite (mid : BitVec 4) (value : W32)
  /-- THM_DUTY_WRITE (R577). A write of THM_DUTY sets host_duty or enf_duty within bounds. -/
  | thmDutyWrite (mid : BitVec 4) (value : W32)
  /-- THM_PEAK_READ (R592). A read of THM_PEAK returns the peak and clears it. -/
  | thmPeakRead
  /-- FAULT_SOURCE_CONFIG (R606). MID 2 writes FLT_SRCn_CFG within the Deadbolt bounds. -/
  | faultSourceConfig (n : Fin 128) (mid : BitVec 4) (origin : BitVec 10) (value : W32)
  /-- DEADBOLT_WRITE (R608). MID 2 writes a Deadbolt bound, applied field by field only where it tightens. -/
  | deadboltWrite (target : Fin 128 ⊕ Fin 31) (mid : BitVec 4) (origin : BitVec 10) (value : W32)
  /-- FAULT_EVENT_POP (R605). A low-half read of FLT_EVQ pops one word of the fault event chain. -/
  | faultEventPop (mid : BitVec 4) (origin : BitVec 10) (wide uncorr : Bool)
  /-- QUARANTINE_CLEAR (R599). A write of 1 to a FLT_QUAR_PORT bit releases the port. -/
  | quarantineClear (hi : Bool) (mid : BitVec 4) (origin : BitVec 10) (value : W32)
  /-- FAULT_INJECTION (R609). In FACTORY_TEST, a write of FTM_FLT_INJ injects events into a source. -/
  | faultInjection (mid : BitVec 4) (value : W32)
  /-- SELF_CHECK_FAILURE (R619). A physical sub-engine's residue or sequencer check fails and counts an event of its
      source. -/
  | selfCheckFailure (i : Fin 36)
  /-- SPARE_SELF_TEST (R619). Every TLN_SPARE_TEST.interval ms an idle spare sub-engine runs its self-test. -/
  | spareSelfTest (i : Fin 36) (failed : Bool)
  /-- MIGRATION_COMPLETE (R626). The migration ends, physical takes its new value and a SUBENGINE entry is
      journaled. -/
  | migrationComplete (k : Fin 32)
  /-- RETIRE_SE (R627). A write of TLN_CMD.retire_se retires a physical sub-engine. -/
  | retireSe (mid : BitVec 4) (index : BitVec 6)
  /-- ROW_REQUEST (R629). A write of TLN_ROW_REQ queues a row for retirement. -/
  | rowRequest (mid : BitVec 4) (value : W32)
  /-- REPAIR (R630). A write of TLN_CMD.repair starts a repair point that copies and remaps queued rows and a bank. -/
  | repair (mid : BitVec 4)
  /-- REPAIR_POINT_END (R630). A repair point ends, setting repair_done and loading TLN_RP. -/
  | repairPointEnd (words rows : List Nat) (bank : Bool)
  /-- CLEAR_LANE (R633). A write of TLN_CMD.clear_lane journals LANE_CLEAR for a port. -/
  | clearLane (mid : BitVec 4) (p : Fin 2)
  /-- SCRUB_READ (R636). The scrubber reads its next word, correcting, poisoning or passing it over. -/
  | scrubRead (corr uncorr starved : Bool)
  /-- TRACE_WRITE (R660). The trace writer pops an item from the staging chain and writes one entry. -/
  | traceWrite
  /-- HOST_MARK (R670). A write of TRC_HOST_MARK pushes a HOST_MARK entry. -/
  | hostMark (mid : BitVec 4) (value : W32)
  /-- TRACE_CLEAR (R669). A write of TRC_CLEAR restarts the writer at entry 0. -/
  | traceClear (mid : BitVec 4) (value : W32)
  /-- SINK_COPY (R665). The sink copies the next entry into the host ring when there is room and no other posted
      write is due. -/
  | sinkCopy (uncorr : Bool)
  /-- BYPASS (R671). The TAP selects the 1-bit bypass register. -/
  | bypass
  /-- IDCODE (R671). The TAP selects the identification register holding 0x2074_05CB. -/
  | idcode
  /-- SAMPLE_PRELOAD (R671). The TAP selects the boundary register for sampling and preload. -/
  | samplePreload (cells : List Bool)
  /-- EXTEST (R672). The boundary register drives the covered lands and detaches their functions. -/
  | extest
  /-- CLAMP (R672). The boundary register drives the lands while bypass is selected. -/
  | clamp
  /-- HIGHZ (R672). The covered lands are driven to high impedance with bypass selected. -/
  | highz
  /-- DAP_ACCESS (R673). Update-DR starts a MID 5 register access, own or far, whose status Capture-DR loads. -/
  | dapAccess (word : W64)
  /-- LIFECYCLE_REQUEST (R677). A keyed write of GLB_LC_REQ records a lifecycle request for the next reset. -/
  | lifecycleRequest (mid : BitVec 4) (origin : BitVec 10) (value : W32)
  /-- PIN_SELECT (R71). A write changing PIN_CFGn.sel releases the old function and parks the land. -/
  | pinSelect (n : Fin 192) (mid : BitVec 4) (value : W32)
  /-- PIN_CONFIG_WRITE (R74). A write to PIN_CFGn leaving sel unchanged applies pull, drive, slew and park. -/
  | pinConfigWrite (n : Fin 192) (mid : BitVec 4) (value : W32)
  /-- PARK_INTERVAL_END (R71). The park interval ends and the new function is attached. -/
  | parkIntervalEnd (n : Fin 192)
  /-- PIN_LOCK (R89). A write setting PIN_CTL.lock makes PIN_CFG0–PIN_CFG191 read only. -/
  | pinLock (mid : BitVec 4) (value : W32)
  /-- REGISTER_READ (R17). A register read with behaviour of its own: a low-half read that latches the high half, a
      refused read that is counted, or a Keyway-violating read that is recorded. -/
  | registerRead (mid : BitVec 4) (origin : BitVec 10) (target : Target) (width : Width) (uncorr : Bool)
  /-- NONPOSTED_CREDIT_RETURN (R235). The root port returns a non-posted credit and waiting memory reads (entry
      fetches, CCW, fragment and data reads) are issued. -/
  | nonpostedCreditReturn (n : BitVec 12)
  /-- BLOCK_LOCK_LOSS (R209). Both active Pintle lanes of a port lose block lock and the port enters recovery
      training. -/
  | blockLockLoss (p : Fin 2)
  /-- KATTN_OUT_CHANGE (R165). The level on KATTN_OUT from the downstream unit changes and the unit follows it on
      KATTN_IN. -/
  | kattnOutChange (level : Bool)
  /-- GPIO_INPUT_EDGE (R332). An edge arrives on a GPIO input and ends a WAIT_EVENT 0x07, 0x08 or 0x09 waiting on
      that pin. -/
  | gpioInputEdge (pin : Fin 48) (level : Bool)
  /-- LXB_IRQ_CHANGE (R246). An LXB_IRQ line changes level, changing its INTF contribution and ending a WAIT_EVENT
      0x0A when it goes high. -/
  | lxbIrqChange (n : Fin 4) (level : Bool)
  /-- PLCA_BEACON_RECEIVE (R481). ETH6 receives a PLCA BEACON, starting a PLCA cycle and returning from CSMA/CD to
      PLCA after a loss. -/
  | plcaBeaconReceive
  /-- UART_CHARACTER_SENT (R436). A UART finishes transmitting a character and starts the next after p4 and CTS
      allow, ending the WRITE at its last byte. -/
  | uartCharacterSent (m : Fin 4)
  /-- CARD_CHARACTER_SENT (R441). A card port finishes a transmitted character, resending it on a T=0 error signal
      up to the retries and ending the WRITE at its last character or with detail 0x42. -/
  | cardCharacterSent (m : Fin 2) (refused : Bool)
  /-- BREAK_END (R436). The break_len bit times of a CONTROL BREAK pass, the transmit land is released and the
      CONTROL ends. -/
  | breakEnd (m : Fin 4)
  /-- FAST_INIT_END (R437). The high phase of a FAST_INIT ends and the CONTROL ends. -/
  | fastInitEnd (m : Fin 4)
  /-- WAKEUP_PULSE_END (R426). The dominant wake-up pulse of wake_len ends and the LIN WAKEUP CONTROL ends. -/
  | wakeupPulseEnd (m : Fin 8)
  /-- XT32_RESTORED (R158). The 32.768 kHz oscillator runs again within ±500 ppm and CLK_STATUS.xt32_ok returns to
      1. -/
  | xt32Restored (error : BitVec 20)
deriving DecidableEq, Repr

end Sys2Proof
end

