-- ==== Sys2Proof/Machine/State.lean ====
section
/-!
DEFINITION. The state of one DZ740 as plain data, its value right after cold reset, and the reasons a step can stop.

Registers live in `State.regs`, keyed by `Fld.key`, with an entry only where a field differs from its cold value.
State that no register holds (contexts, queues, buffers, flash, links) lives in one structure for each block. Tables
with many like entries are `NMap`s. Fields marked MODEL are the model's own and not the manual's.
-/

namespace Sys2Proof.Machine

/-- Why the unit stops with a fault. No rule of the manual gives the unit a stuck state that a command can reach, so
no meaning raises it. Safe: the model would stop where the unit goes on. -/
inductive Fault where
  /-- Raised by no meaning: the manual gives every command an effect. -/
  | none
deriving DecidableEq, Repr

/-- Why a command is turned away. -/
inductive Refusal where
  /-- Raised by an arm of `exec` whose command has no meaning yet. Safe: nothing can be proved about it. -/
  | notModelled (mnemonic : String)
deriving DecidableEq, Repr

/-! ### Pintle -/

/-- A Pintle flit. lseq, lack and the returned credits are filled in by the sending port (R181). -/
structure Flit where
  type : Nat
  dst : Nat := 0
  src : Nat := 0
  hops : Nat := 0
  poison : Bool := false
  bcast : Bool := false
  payload : List Byte := []
  lseq : Nat := 0
  replay : Bool := false
  lack : Nat := 0
  cclass : Nat := 0
  ccount : Nat := 0
  /-- The port on whose receive buffer a forwarded flit lies until it is sent on (R202). -/
  holds : Option Nat := none
deriving DecidableEq, Repr

/-- The link state of one Pintle port that no register shows (R196–R211). -/
structure PtPort where
  /-- Sequenced flits sent and not acknowledged, oldest first (R205). -/
  unacked : List Flit := []
  /-- Flits waiting for a credit or for room in the replay buffer (R202, R205). -/
  waiting : List Flit := []
  credLc : Nat := 0
  credRsp : Nat := 0
  credReq : Nat := 0
  /-- Credits consumed here and not yet returned to the peer (R202). -/
  oweLc : Nat := 0
  oweRsp : Nat := 0
  oweReq : Nat := 0
  /-- Copies of the expected flit discarded for an uncorrectable codeword (R206). -/
  badCopies : Nat := 0
  /-- The lane swap under way: failing lane and spare (R207). -/
  swap : Option (Nat × Nat) := none
  /-- The lane swap that the peer asked for: failing transmit lane and spare. -/
  txSwap : Option (Nat × Nat) := none
  /-- The training pause of R197 runs. -/
  paused : Bool := false
  /-- A receive lane that has failed without a qualified spare (R208). -/
  failed : Option Nat := none
  /-- Flits sent since the port became ACTIVE, for the ALIGN blocks after every 512 groups (R180). -/
  flits : Nat := 0
deriving DecidableEq, Repr

/-- State of the Keychain register window (R194). -/
inductive WinState where
  | idle | pending | done | error
deriving DecidableEq, Repr

/-- The Keychain register window (R194). -/
structure Window where
  addr : Nat := 0
  wlow : Nat := 0
  write : Bool := false
  wdata : Nat := 0
  result : Nat := 0
  st : WinState := .idle
deriving DecidableEq, Repr

/-! ### Firmware commands -/

/-- How a firmware command came: on a mailbox channel, from a MID and chain address, or from a slot of SQ 0 (R277). -/
inductive Carrier where
  | mailbox (chan mid addr : Nat)
  | queue (slot mid : Nat)
deriving DecidableEq, Repr

/-- A firmware command whose reply is to come later: how it came, its code and token. -/
structure Asked where
  via : Carrier
  code : Nat
  token : Nat
deriving DecidableEq, Repr

/-- A command that has reached its turn: how it came, its sender and its request words w1–w14. -/
structure FwReq where
  asked : Asked
  mid : Nat
  ws : List Nat
deriving DecidableEq, Repr

/-! ### Host attachment -/

/-- What a posted write of a function carries, for the rules that hold or discard it (R234, R241, R253). -/
inductive PostKind where
  | data
  /-- The final record, in a ring, of the program holding the tag, which returns when the record is issued (R314). -/
  | final (tag ring : Nat)
  /-- Another record of a ring. -/
  | record (ring : Nat)
  | msix (x : Nat)
deriving DecidableEq, Repr

/-- A posted write that is due and has not left (R234). -/
structure Post where
  addr : Nat
  data : List Byte
  kind : PostKind
deriving DecidableEq, Repr

/-- What a host-memory read is for (R238). -/
inductive ReadFor where
  | entries (sq n : Nat)
  | admin (n : Nat)
  | ccw (tag : Nat)
  /-- A fragment table that holds the program's CCWs (R296). -/
  | prgTable (tag : Nat)
  | table (tag : Nat)
  | data (tag : Nat)
  /-- A read of firmware, by the number of the command that waits for it (R283). -/
  | fw (n : Nat)
deriving DecidableEq, Repr

/-- What firmware reads for a command (R283): an image header, the next fragment table, or data through the tables. -/
inductive FwPart where
  | header | table | data
deriving DecidableEq, Repr

/-- A firmware command that waits for a read of host memory (R283): what it reads, the bytes that its transfer takes, the
tables read so far and their fragments (R302), the data so far, and how the read under way has ended. -/
structure FwRead where
  req : FwReq
  part : FwPart
  need : Nat := 0
  tables : Nat := 0
  area : List (Nat × Nat) := []
  data : List Byte := []
  got : Option Cpl := none
deriving DecidableEq, Repr

/-- One memory request of a host-memory read (R237): its number, what it reads, whether it has been issued on the link, and
how it ended. -/
structure HostPart where
  id : Nat
  addr : Nat
  len : Nat
  issued : Bool := false
  got : Option Cpl := none
deriving DecidableEq, Repr

/-- A host-memory read that is due, with the requests into which R237 splits it (R237–R239). -/
structure HostRead where
  purpose : ReadFor
  len : Nat
  parts : List HostPart
deriving DecidableEq, Repr

/-- The upstream side of one function (R234–R241). -/
structure Upstream where
  posts : List Post := []
  reads : List HostRead := []
  /-- Reads issued and abandoned, whose completions are discarded without logging (R240). -/
  late : List Nat := []
deriving DecidableEq, Repr

/-! ### Mailboxes -/

/-- A mailbox message: sender MID, its chain address when the MID is 4, and the sixteen words (R264). -/
structure Msg where
  mid : Nat
  addr : Nat
  words : List Nat
deriving DecidableEq, Repr

/-- One mailbox channel (R261–R274). -/
structure Chan where
  /-- The Tumbler's owner: MID and chain address (R266). -/
  owner : Option (Nat × Nat) := none
  /-- go has been written and the copy has not happened; with release; and who wrote it (R270, R272). -/
  going : Bool := false
  goRelease : Bool := false
  goBy : Nat × Nat := (0, 0)
  staging : Option Msg := none
  queue : List Msg := []
deriving DecidableEq, Repr

/-! ### Queues and rings -/

/-- A submission queue (R294, R325). `state`: 0 absent, 1 active, 2 stopped, 3 error. -/
structure Sq where
  state : Nat := 0
  prio : Nat := 0
  unordered : Bool := false
  owner : Nat := 0
  cr : Nat := 0
  log2 : Nat := 0
  base : Nat := 0
  err : Nat := 0
  errVal : Nat := 0
  h : Nat := 0
  t : Nat := 0
  /-- A shutdown is under way, and a destruction waits for it (R307, R319). -/
  shutting : Bool := false
  destroy : Bool := false
deriving DecidableEq, Repr

/-- A completion ring; ring 64 is the admin ring (R291, R315–R318). -/
structure Ring where
  exist : Bool := false
  owner : Nat := 0
  log2 : Nat := 0
  base : Nat := 0
  tail : Nat := 0
  head : Nat := 0
  reserved : Nat := 0
  /-- Records posted since posted was last set (R318). -/
  count : Nat := 0
deriving DecidableEq, Repr

/-- A fetched SQ 0 entry in the admin staging area (R306). -/
structure AdmEntry where
  slot : Nat
  bytes : List Byte
  /-- Firmware has served the entry with this reply status and written its reply area. -/
  reply : Option Nat := none
  /-- Firmware has taken the entry for service. -/
  taken : Bool := false
deriving DecidableEq, Repr

/-! ### Channel programs -/

/-- The states of CHE_TAG_STATE.state (R363), and `ended` for a program whose final record has not left (R314). -/
inductive PState where
  | prefetched | ordHold | orderHold | running | deviceWait | suspended | moving | ended
deriving DecidableEq, Repr

/-- A channel command word, field by field (R328). -/
structure Ccw where
  opcode : Nat := 0
  func : Nat := 0
  flags : Nat := 0
  dev : Nat := 0
  count : Nat := 0
  param : Nat := 0
  data : Nat := 0
  timeout : Nat := 0
deriving DecidableEq, Repr

/-- Where a program finds its next CCW: plain memory, or the rest of a fragment-table chain (R295, R296, R345). -/
structure CcwSrc where
  addr : Nat := 0
  frags : List (Nat × Nat) := []
  tableNext : Nat := 0
  tables : Nat := 0
  viaTable : Bool := false
deriving DecidableEq, Repr

/-- The data area of one CCW of an operation (R337, R339): its CCW and host address, the host ranges known and not
used, the bytes of its count not used, and the fragment table to be read next with the tables read so far (R302). -/
structure Seg where
  ccw : Ccw := {}
  addr : Nat := 0
  area : List (Nat × Nat) := []
  room : Nat := 0
  table : Option Nat := none
  tables : Nat := 0
deriving DecidableEq, Repr

/-- A device operation, of a local program or of a far slot (R337, R352). -/
structure Op where
  /-- The CCW that began the operation and the host address it came from (R339). -/
  first : Ccw := {}
  firstAddr : Nat := 0
  /-- The areas from the CCW in which the operation stands onward. -/
  segs : List Seg := []
  /-- CCWs of the data chain read, and the flags of the last of them. -/
  chained : Nat := 1
  lastFlags : Nat := 0
  /-- Every CCW of the data chain has been read (R339). -/
  chainRead : Bool := true
  /-- START has been sent, for a far operation. -/
  sent : Bool := false
  begun : Bool := false
  /-- Write data read, or received from the originator, and not yet handed, each byte with its poison mark. -/
  buf : List (Byte × Bool) := []
  /-- Bytes of write data, from the point where the areas stand, that have been read. -/
  got : Nat := 0
  /-- Words of the packet being written into a transmit queue that are not yet written, with their poison marks, and
  the bytes of the operation's data that the packet carries (R386). -/
  pkt : List (Nat × Bool) := []
  /-- Errors of the next words written, numbered from the first of them (R389). -/
  errs : List WordErr := []
  pktSize : Nat := 0
  /-- A data read of the operation has not completed. -/
  awaiting : Bool := false
  frames : Nat := 0
  /-- Frames handed to the port that have not left it. -/
  inPort : Nat := 0
  handedLast : Bool := false
  poisoned : Bool := false
  gap : Bool := false
  truncated : Bool := false
  /-- Value and mask of POLL_FAR, and the value reported in aux. -/
  pollValue : Nat := 0
  pollMask : Nat := 0
  aux : Option Nat := none
  /-- Register or LXB accesses done, and whether one is under way. -/
  accesses : Nat := 0
  busy : Bool := false
  /-- Write credit held towards a far agent, or receive credit that a far agent holds; at a far agent, the write credit
  that the originator holds (R355). -/
  credit : Nat := 0
  /-- ccw_count and the place of the next CCW before the operation started, for its restart (R350). -/
  ccwsAt : Nat := 0
  srcAt : CcwSrc := {}
  /-- The event awaited has occurred since the operation started. -/
  event : Bool := false
  /-- The operation has ended with this status and detail, and the residual a far END reported. -/
  ended : Option (Nat × Nat) := none
  endResidual : Option Nat := none
  /-- A number of its own, by which frames under way name their operation. -/
  serial : Nat := 0
  /-- Monotonic time at which the operation started (R346). -/
  since : Nat := 0
deriving DecidableEq, Repr

/-- The context of a program (R327). -/
structure Prog where
  sq : Nat
  slot : Nat
  /-- Order of fetch in the unit, for P2 and P3. -/
  seq : Nat
  fn : Nat
  echo : Nat
  st : PState := .prefetched
  started : Bool := false
  inline : List Byte := []
  src : CcwSrc := {}
  ccwAddr : Nat := 0
  /-- The CCW read and not yet started; whether its read is under way. -/
  ccwWait : Bool := false
  ccwRead : Option (List Byte) := none
  ccwFailed : Bool := false
  /-- The current CCW and whether its LINK is END (R348). -/
  cur : Ccw := {}
  ccws : Nat := 0
  jumps : Nat := 0
  resume : Bool := false
  /-- The hold of R342 has been passed by a resume. -/
  resumed : Bool := false
  poisoned : Bool := false
  gap : Bool := false
  lenOk : Bool := false
  truncated : Bool := false
  migrated : Bool := false
  inst : Nat := 0
  /-- A migration is to start the operation again without its holds (R350). -/
  restarted : Bool := false
  /-- The first start and the first CCW of that operation, whose time-out runs on (R648). -/
  again : Option (Nat × Ccw) := none
deriving DecidableEq, Repr

/-- The request a far slot serves (R354): originator, tag and instance. -/
structure FarSlot where
  origin : Nat
  tag : Nat
  inst : Nat
  /-- Receive credit of the originator (R355) and data waiting for it. -/
  credit : Nat := 0
  /-- Read data waiting for credit, each byte with its poison mark. -/
  out : List (Byte × Bool) := []
deriving DecidableEq, Repr

/-! ### Word queues -/

/-- The pointers and episode state of a port queue (R376, R382–R385). -/
structure WQ where
  w : Nat := 0
  c : Nat := 0
  r : Nat := 0
  dropping : Bool := false
  dropWords : Nat := 0
  dropPkts : Nat := 0
  gapPending : Bool := false
  /-- The agent that holds the claim, and those that wait for it in order (R385). -/
  claim : Option Nat := none
  claimWait : List Nat := []
  /-- For each committed packet not yet begun: its token and the unit-wide order of its commit (R373). -/
  pkts : List (Nat × Nat) := []
  /-- The word last read (R391). -/
  lastWord : Nat := 0
deriving DecidableEq, Repr

/-- A fall-through chain: items as 66-bit words, head first (R377–R379, R391). -/
structure FChain where
  items : List Nat := []
  lastWord : Nat := 0
  dropping : Bool := false
  dropWords : Nat := 0
  dropRecs : Nat := 0
deriving DecidableEq, Repr

/-! ### Talon -/

/-- What Talon and the repair journal hold (R616–R634). -/
structure Talon where
  /-- Physical sub-engines retired, and retires since the previous repair point (R626, R632). -/
  retired : List Nat := []
  seSince : Nat := 0
  /-- Queued rows in order, laid out as the ROW target of R623, and the queued bank (R629). -/
  rowQ : List Nat := []
  bankQ : Option Nat := none
  /-- Spare rows used (1), failed (2) or used by a fused repair (3), with the row of the sub-array that is mapped: key 2 × (8 × physical bank + sub-array) + spare. -/
  spares : NMap (Nat × Nat) := []
  /-- The bank number that the spare bank serves, and whether the spare bank has failed (R618, R637). -/
  bankMap : Option Nat := none
  bankFailed : Bool := false
  /-- Migrations under way: logical sub-engine, old and new physical sub-engine, cause (R626). -/
  moves : List (Nat × Nat × Nat × Nat) := []
  /-- Retires that wait for a migration to end: physical sub-engine and cause (R611). -/
  waiting : List (Nat × Nat) := []
  /-- Free spare rows, and words of the unmapped spare bank, with a single-bit error: key, and the pass that found it
  (R637). -/
  suspects : NMap Nat := []
  /-- Lanes out of use: kind of their journal entry, and target (R624, R633). -/
  lanes : List (Nat × Nat) := []
  /-- A REPAIR_POINT command that waits for the end of its repair point (R632). -/
  asked : Option Asked := none
  /-- Both copies of the repair journal by index (R623). -/
  journal : NMap (List Byte × List Byte) := []
deriving DecidableEq, Repr

/-! ### Ports -/

/-- Where a frame that a port transmits comes from (R37, R416): the operation whose token it carries, the gateway, or a
periodic slot. -/
inductive TxSrc where
  | program (token : Nat)
  | gateway
  | periodic (slot : Nat)
deriving DecidableEq, Repr

/-- A frame that a controller has loaded: its record, and how often it has failed. `last` forbids another try after
an ABORT_TX (R418). -/
structure TxFrame where
  src : TxSrc
  bytes : List Byte
  tries : Nat := 0
  last : Bool := false
deriving DecidableEq, Repr

/-- A SAE J1939 transport session under assembly (R419): parties, PGN, whether RTS opened it, sizes, the next sequence
number, the data so far, and the filter with which it opened. -/
structure Session where
  sa : Nat
  da : Nat
  pgn : Nat
  prio : Nat
  rts : Bool
  size : Nat
  total : Nat
  next : Nat := 1
  data : List Byte := []
  filter : Nat := 0
deriving DecidableEq, Repr

/-- A CAN controller beside its registers (R408, R416–R420, R720). -/
structure CanPort where
  integrating : Bool := false
  busOff : Bool := false
  recovering : Bool := false
  tx : Option TxFrame := none
  sessions : List Session := []
  /-- Periodic slots that are due, and supervision slots that have timed out and not rearmed, one bit each. -/
  ptxDue : Nat := 0
  supFired : Nat := 0
  /-- Counters of the status block (R408). -/
  rx : Nat := 0
  sent : Nat := 0
  errors : Nat := 0
  noFilter : Nat := 0
  aborted : Nat := 0
deriving DecidableEq, Repr

/-- A LIN schedule that runs (R422): table, slot within 0–63, passes left (none: continuous), whether the slot has not
begun, and the token of the RUN_SCHEDULE that waits for the first slot. -/
structure LinRun where
  table : Nat
  slot : Nat
  passes : Option Nat := none
  fresh : Bool := true
  token : Option Nat := none
deriving DecidableEq, Repr

/-- Where the response of a header under way comes from (R423). -/
inductive LinFrom where
  /-- Another node. -/
  | bus
  /-- A pending response of a program. -/
  | program (token : Nat)
  | gateway
  /-- The data last sent for the identifier. -/
  | again
  /-- The sleep command of a GOTO_SLEEP (R426). -/
  | sleep (token : Nat)
deriving DecidableEq, Repr

/-- A header under way (R421–R425). -/
structure LinHdr where
  id : Nat
  type : Nat := 0
  enhanced : Bool := false
  record : Bool := false
  src : LinFrom := .bus
  bytes : List Byte := []
  ctable : Option Nat := none
  time : Nat := 0
deriving DecidableEq, Repr

/-- A LIN channel beside its registers (R421–R426). -/
structure LinPort where
  asleep : Bool := false
  run : Option LinRun := none
  /-- The schedules that a collision table interrupted (R425). -/
  back : List LinRun := []
  /-- What happens at the end of the current slot: a schedule to run, or a stop, with the tokens of the CONTROLs that end
  then (R422). -/
  next : Option (Option LinRun × List Nat) := none
  /-- Tokens of the GOTO_SLEEP whose sleep command is due, and of the WAKEUP whose pulse runs (R426). -/
  sleep : Option Nat := none
  waking : Option Nat := none
  /-- A wake-up pulse has come while the sleep command was being sent (R444). -/
  woken : Bool := false
  hdr : Option LinHdr := none
  /-- Pending responses of programs by identifier: token and record; of the gateway; and the data last sent. -/
  pend : NMap (Nat × List Byte) := []
  gw : NMap (List Byte) := []
  lastData : NMap (List Byte) := []
  rx : Nat := 0
  sent : Nat := 0
  noResponse : Nat := 0
  checksum : Nat := 0
  bitErr : Nat := 0
deriving DecidableEq, Repr

/-- A SENT receiver beside its registers (R427, R428): `serial` holds bits 3 and 2 of the status nibbles of frames in
order, newest last. -/
structure SentPort where
  decoding : Bool := false
  serial : List (Bool × Bool) := []
  pauseErr : Bool := false
  lastNibble : Nat := 0
  fast : Nat := 0
  slow : Nat := 0
  crcErr : Nat := 0
  syncDev : Nat := 0
deriving DecidableEq, Repr

/-- Bytes that a UART or card port transmits: token, the bytes left with the one being sent first, whether it is being
sent, and how often a card has refused it (R436, R441). -/
structure ByteTx where
  token : Nat
  bytes : List Byte
  started : Bool := false
  tries : Nat := 0
deriving DecidableEq, Repr

/-- A UART or card port beside its registers (R430–R443). -/
structure BytePort where
  tx : Option ByteTx := none
  /-- The chunk being received, with the time of its first byte (R434). -/
  chunk : List Byte := []
  chunkTime : Nat := 0
  /-- The rest of a chunk that a READ has begun: bytes and rstat (R435). -/
  rest : Option (List Byte × Nat) := none
  /-- Tokens of a BREAK or a FAST_INIT under way. -/
  breaking : Option Nat := none
  fastInit : Option Nat := none
  /-- Levels of SERm_CTS_N and SERm_RX. -/
  ctsN : Bool := false
  line : Bool := true
  /-- Start detection has re-armed at tick 10 of a last stop bit (R432). -/
  rearmed : Bool := false
  /-- Error signals given for the character being received (R441). -/
  repeats : Nat := 0
  rx : Nat := 0
  sent : Nat := 0
  framing : Nat := 0
  parity : Nat := 0
  breaks : Nat := 0
  noise : Nat := 0
  wtExpired : Nat := 0
deriving DecidableEq, Repr

/-- An Ethernet port beside its registers (R460–R462, R479–R482): the frame being sent, with its collisions as `tries`,
the frames that its PLCA opportunity still allows, and the counters of the status block. -/
structure EthPort where
  tx : Option TxFrame := none
  burst : Nat := 0
  rx : Nat := 0
  sent : Nat := 0
  fcs : Nat := 0
  noFilter : Nat := 0
  collisions : Nat := 0
deriving DecidableEq, Repr

/-- The PTP clock (R463–R466): nanoseconds since 0 s, the 32-bit fraction, the slew still to do in units of 10⁻⁴ ns, and
the phase of its 125 MHz edges in quarters of a nanosecond, 0–31. -/
structure Ptp where
  ns : Nat := 0
  frac : Nat := 0
  slew : Int := 0
  phase : Nat := 0
deriving DecidableEq, Repr

/-! ### Hinge -/

/-- Who waits for the end of a far access (R491, R492): far access slot, one half of a fabric access by its number, a
mirror word of a polled address, or the operation of a token. -/
inductive ReqOwner where
  | slot (f k : Nat)
  | fabric (n half : Nat)
  | poll (word : Nat)
  | agent (token : Nat)
deriving DecidableEq, Repr

/-- A request slot in use: generation count of its tag, unit asked, whether it writes, and its owner (R492). -/
structure Req where
  gen : Nat
  unit : Nat
  write : Bool
  owner : ReqOwner
deriving DecidableEq, Repr

/-- A far or LXB access of MID 2 or 5, pending or held (R495): what it names, the parts still awaited, and the results
of the parts that have ended, as outcome and data. -/
structure FabAcc where
  mid : Nat
  lxb : Bool
  unit : Nat
  off : Nat
  write : Bool
  parts : Nat
  done : NMap (Nat × Nat) := []
deriving DecidableEq, Repr

/-- A 16-bit LXB access that waits for its turn (R503, R505). -/
structure LxbReq where
  owner : ReqOwner
  mid : Nat
  cs : Nat
  addr : Nat
  write : Bool
  data : Nat
  part : Nat
deriving DecidableEq, Repr

/-- A latch of MID 4 (R500): origin, key offset of the register, whether it holds the low half of a write or the high half
of a read, and that half. -/
structure FarLatch where
  origin : Nat
  off : Nat
  write : Bool
  value : Nat
deriving DecidableEq, Repr

/-- The mirror page of a chain address (R509). -/
structure Mirror where
  stamp : Nat := 0
  seq : Nat := 0
  flags : Nat := 0
  stale : Nat := 0
  words : NMap Nat := []
deriving DecidableEq, Repr

/-- A round of mirror-page polling under way (R508): its stamp, the words to be read still, those awaited, the words
that failed, and whether a word was written or poisoned. -/
structure PollRound where
  stamp : Nat
  todo : List Nat
  out : List Nat := []
  failed : Nat := 0
  wrote : Bool := false
  pois : Bool := false
deriving DecidableEq, Repr

/-! ### Fault collector -/

/-- One event of a fault source on its way to the collector: source, cause index, resource, MID and chain address of
the access where known, and whether it was injected (R593, R603, R609). -/
structure FaultEv where
  src : Nat
  detail : Nat := 0
  res : Nat := 0
  mid : Option Nat := none
  addr : Option Nat := none
  injected : Bool := false
deriving DecidableEq, Repr

/-! ### Flash, fuses and one-time-programmable bits -/

/-- A firmware bank (R130): its header, empty while it is erased, and the body written so far. -/
structure FlashBank where
  header : List Byte := []
  body : List Byte := []
deriving DecidableEq, Repr

/-- The power-fail log (R119, R127): the fields of PWR_PF_LOG and PWR_PF_ENERGY, and the monotonic time saved. -/
structure PfLog where
  shutdown : Bool
  flushed : Bool
  acked : Bool
  ready : Bool
  step4 : Nat
  energy : Nat
  time : Nat
deriving DecidableEq, Repr

/-- What the error correction of the flash reports of a read (R42). -/
inductive FlashSeen where
  | clean | corrected | uncorrectable
deriving DecidableEq, Repr

/-- What no reset clears (R19, R128, R132, R133, R136). -/
structure Nv where
  /-- GLB_LIFECYCLE.state: 0 FACTORY_TEST, 1 PROVISIONED, 2 FIELD, 3 RETURNED (R135). -/
  lifecycle : Nat := 0
  /-- Programmed bits of the anti-rollback counter (R136). -/
  rollback : Nat := 0
  /-- Programmed image key slots: X then Y, and the revoke fuse (R132). -/
  keys : NMap (List Byte × Bool) := []
  /-- The K_LDG slot is programmed; its kill fuse (R677, R678). -/
  kLdg : Bool := false
  kLdgKilled : Bool := false
  /-- The lifecycle request recorded for the next reset (R677). -/
  lcReq : Option Nat := none
  /-- The two copies of the boot state record; empty while erased (R133). -/
  rec0 : List Byte := []
  rec1 : List Byte := []
  bankA : FlashBank := {}
  bankB : FlashBank := {}
  /-- The parameter store: values by parameter id; PIN_CFGn by n; tightened bounds by register offset (R31, R78, R150). -/
  params : NMap Nat := []
  pins : NMap Nat := []
  bounds : NMap Nat := []
  /-- Fused repairs (R616, R624): physical sub-engines retired, rows mapped by key of spare row, and the bank number that the
  spare bank serves. -/
  fusedSes : List Nat := []
  fusedRows : NMap Nat := []
  fusedBank : Option Nat := none
  pfLog : Option PfLog := none
deriving DecidableEq, Repr

/-- An open image session (R146–R148): owner, bank, header and next expected offset. -/
structure ImgSession where
  mid : Nat
  bank : Nat
  header : List Byte
  next : Nat := 0
deriving DecidableEq, Repr

/-! ### Supply, store and resets -/

/-- What the hold-up store's charger does (R109, R111, R115): nothing to calibrate, the self-test, the discharge of a
recalibration, and its charge. -/
inductive Cal where
  | none | selfTest | discharge | recharge
deriving DecidableEq, Repr

/-- What feeds the internal rails (R82, R95, R96, R118): the supply or the store, nothing since the power-fail sequence has
ended with the unit stopped, or nothing since the cutoff. -/
inductive Feed where
  | fed | stopped | off
deriving DecidableEq, Repr

/-- Supply and hold-up store beside their registers (R93–R125). -/
structure Supply where
  /-- The last sample was below 15.0 V (R93, R94). -/
  below : Bool := false
  cal : Cal := .selfTest
  /-- A calibration has passed since cold reset; reason of a failed recalibration (R109, R111). -/
  passed : Bool := false
  calReason : Nat := 0
  /-- Reason of FAILED, ABSENT, OVERVOLT and DISAGREE in force, and the reason of NOT_READY that arose last. -/
  latest : Nat := 0
  failed : Option Nat := none
  absent : Bool := false
  overVolt : Bool := false
  disagree : Bool := false
  /-- Consecutive disagreeing updates (R114). -/
  count : Nat := 0
  /-- Charge counter and the leakage of the last calibration, in µC and µC for each update (R113). -/
  charge : Nat := 0
  leak : Nat := 0
  /-- A top-up is under way (R100). -/
  topUp : Bool := false
  /-- AUX_3V3 and AUX_5V0 are folded back (R125). -/
  fold3 : Bool := false
  fold5 : Bool := false
  feed : Feed := .fed
  /-- The last step of the power-fail sequence that has ended, and 0 while the sequence does not run (R116). -/
  pf : Nat := 0
  /-- PWR_QUIET_PORTS0 and PWR_QUIET_PORTS1 as they stood at the last entry to QUIET (R127). -/
  quiet0 : Nat := 0
  quiet1 : Nat := 0
deriving DecidableEq, Repr

/-- Where a reset stands: cold reset held by the power stage (R95), asserted and about to be released, waiting for a
clock (R154), halted (R155), or released and booted. -/
inductive Phase where
  | held | asserted | noClock | halted | up
deriving DecidableEq, Repr

/-- A warm or unit reset that is pending: GLB_RESET_CAUSE.cause, switch_req and mid (R151, R160). -/
structure ResetAsk where
  cause : Nat
  switch : Bool := false
  mid : Nat := 0
deriving DecidableEq, Repr

/-! ### Test access port (R671–R674) -/

/-- The current instruction of the TAP. -/
inductive TapInstr where
  | bypass | idcode | sample | extest | clamp | highz | dapAccess
deriving DecidableEq, Repr

/-- A far access of the debug port that has not ended: unit, offset, whether it writes, and its data. -/
structure DapFar where
  unit : Nat
  off : Nat
  write : Bool
  data : Nat
deriving DecidableEq, Repr

/-- The debug access register: status of the last access, 0 OK, 1 PENDING, 2 DENIED, 3 ERROR, its read data, and the far
access that is pending. -/
structure Dap where
  status : Nat := 0
  data : Nat := 0
  far : Option DapFar := none
deriving DecidableEq, Repr

/-- A pending access has ended without a result (R681). -/
def Dap.afterReset (d : Dap) : Dap := if d.status = 1 then { status := 3 } else d

/-! ### The ledger -/

/-- The header of a segment of the ledger region (R532). -/
structure SegHdr where
  id : Nat
  opened : Nat
  first : Nat
  mirror : Bool
deriving DecidableEq, Repr

/-- A segment of the region: its header and its durable records, in order (R531, R532). -/
structure Segment where
  hdr : SegHdr
  recs : List (List Byte) := []
deriving DecidableEq, Repr

/-- The part a unit plays in a pair, and its chains (R541): role 0 NONE, 1 ACTIVE, 2 STANDBY, 3 BRANCHED; term; partner's
address and serial; ledger ID; branch range; the segments of the current chain and of the own chain as it stood at
BIND; and the number that BIND has in the partner's chain, for a standby (R658). -/
structure Pair where
  role : Nat := 0
  term : Nat := 0
  bound : Bool := false
  partner : Nat := 0
  sn : Nat := 0
  id : Nat := 0
  branchFirst : Nat := 0
  branchLast : Nat := 0
  cur : List Nat := []
  home : List Nat := []
  homeId : Nat := 0
  bindSeq : Nat := 0
deriving DecidableEq, Repr

/-- Where an append comes from (R542, R544): the operation of a token, LDG_FWA, or a far originator with its tag and the
number of its last part. -/
inductive AppendBy where
  | program (token : Nat)
  | firmware
  | far (origin tag part : Nat)
deriving DecidableEq, Repr

/-- An append block with its source (R534, R542). -/
structure Append where
  bytes : List Byte
  mid : Nat
  src : Nat
  poisoned : Bool
  by_ : AppendBy
deriving DecidableEq, Repr

/-- What waits for a sequence number, in order: a SEAL, another hardware record by its type and body, an append. -/
inductive LdgItem where
  | seal
  | hw (type : Nat) (body : List Byte)
  | append (a : Append)
deriving DecidableEq, Repr

/-- A committed record that is not yet durable (R531): its segment, with the header of one it opens; who waits for it to be
durable; and the pair state with it. -/
structure Staged where
  seg : Nat
  hdr : Option SegHdr
  bytes : List Byte
  by_ : Option AppendBy
  pair : Pair
deriving DecidableEq, Repr

/-- An epoch sent and not acknowledged (R555, R556), with the chain value after its last record. -/
structure Epoch where
  num : Nat
  term : Nat
  recs : List (List Byte)
  chain : List Byte
deriving DecidableEq, Repr

/-- An epoch being staged by the standby (R557): what EPOCH_BEGIN announced, its check, and the bytes so far. -/
structure Stage where
  num : Nat
  first : Nat
  count : Nat
  term : Nat
  size : Nat
  ok : Bool
  data : List Byte := []
  poisoned : Bool := false
deriving DecidableEq, Repr

/-- A far append being assembled (R544). -/
structure FarAppend where
  parts : Nat
  next : Nat
  bytes : List Byte
  poisoned : Bool
deriving DecidableEq, Repr

/-- The ledger (R531–R570). The fields down to `mirrorSeq` lie in flash. -/
structure Ledger where
  segs : NMap Segment := []
  /-- The pair state that the durable records give. -/
  nvPair : Pair := {}
  exported : Nat := 0
  mirrorSeq : Nat := 0
  ready : Bool := false
  pair : Pair := {}
  /-- The next number, the chain value before it, the newest SEAL, the records since it, and the first record that the
  next one covers. -/
  next : Nat := 0
  chain : List Byte := []
  sealSeq : Nat := 0
  since : Nat := 0
  covers : Nat := 0
  durable : Nat := 0
  /-- Horizon of the newest durable SEAL (R545). -/
  horizon : Nat := 4096
  /-- The open segment with its bytes used, the header it still lacks in flash, the segments opened, and the index of the
  newest. -/
  openSeg : Option Nat := none
  fill : Nat := 0
  newHdr : Option SegHdr := none
  opened : Nat := 0
  newest : Nat := 63
  staged : List Staged := []
  due : List LdgItem := []
  /-- Appends are refused NOT_READY: the power-fail sequence, or an accepted entry to KEEP or OFF (R563). -/
  closed : Bool := false
  /-- SHUTDOWN has been written since the last boot. -/
  shut : Bool := false
  /-- The segment that a sequenced RELEASE names, to be erased when the record is durable. -/
  erase : Option Nat := none
  /-- Records committed and not yet sent in an epoch, epochs sent, the number of the next, and whether the next epoch
  resynchronises (R555). -/
  unsent : List (List Byte) := []
  epochs : List Epoch := []
  nextEpoch : Nat := 1
  resync : Bool := false
  /-- The partner mirrors this unit's records; the chain value after the last record put into an epoch. -/
  feeding : Bool := false
  sentChain : List Byte := []
  /-- The standby's partial epoch, the epochs committed and not yet answered, and whether it still lacks its anchor. -/
  stage : Option Stage := none
  commits : List Nat := []
  /-- The term that a mirrored HANDOVER to this unit gives it once it is committed (R560). -/
  handTo : Option Nat := none
  lastEpoch : Nat := 0
  anchored : Bool := false
  /-- Heartbeats: the count sent, whether one has been accepted since boot, whether a loss is in force, and the takeover
  grace. -/
  hbSent : Nat := 0
  hbSeen : Bool := false
  hbLost : Bool := false
  grace : Bool := false
  /-- The role and term that the partner last reported. -/
  seen : Option (Nat × Nat) := none
  /-- A PAIR_BIND that waits for its partner: the command, the partner, and the role asked for this unit. -/
  binding : Option (Asked × Nat × Nat) := none
  /-- A HANDOVER that waits for its epoch's acknowledgement, with the record's number. -/
  handing : Option (Asked × Nat) := none
  /-- LDG_SEAL commands that wait for their SEAL, and the command whose firmware append is under way. -/
  sealFor : List Asked := []
  fwaFor : Option Asked := none
  farIn : NMap FarAppend := []
deriving DecidableEq, Repr

/-! ### A bad Keychain frame -/

/-- The bits of a Keychain frame whatever their number, what is sampled on KDAT_OUT in the response phase, and how many
response bits pass before KGATE rises again, where it does (R164–R169). -/
structure KcLine where
  bits : List Bool := []
  below : List Bool := []
  cut : Option Nat := none
deriving DecidableEq, Repr

/-! ### What leaves the unit -/

/-- The attributes of a memory request (R233): Relaxed Ordering, No Snoop, ID-Based Ordering. -/
structure Attrs where
  relaxed : Bool := false
  noSnoop : Bool := false
  idOrder : Bool := false
deriving DecidableEq, Repr

/-- MODEL. What leaves the unit at its interfaces, in order. -/
inductive Out where
  /-- A flit on Pintle port p, 0 UP and 1 DN, with its codeword. -/
  | flit (p : Nat) (f : Flit) (code : List Byte)
  /-- A control block on a physical lane of Pintle port p. -/
  | block (p lane : Nat) (bytes : List Byte)
  /-- A posted write of a function on the PCIe link, with its attributes. -/
  | write (fn addr : Nat) (data : List Byte) (attrs : Attrs := {})
  /-- A memory read of a function on the PCIe link, with its attributes. -/
  | read (fn id addr len : Nat) (attrs : Attrs := {})
  /-- An error message of a function on the PCIe link: 0 correctable, 1 non-fatal, 2 fatal. -/
  | errMessage (fn kind : Nat)
  /-- Bits driven upstream on KDAT_IN in the response phase of a Keychain transaction. -/
  | keychain (bits : List Bool)
  /-- A request passed on downstream on KDAT_OUT, under KGATE_OUT. -/
  | keychainOn (bits : List Bool)
  /-- A completion of an inbound PCIe request: 0 success, 1 UR, 2 CA. -/
  | completion (status : Nat) (data : Nat)
  /-- A successful completion of a read of BAR2 with up to 128 bytes (R230). -/
  | completionData (data : List Byte)
  /-- A frame record, or raw bytes, that left a port of a class (R330) and index. -/
  | frame (cls idx : Nat) (data : List Byte)
  /-- Any other act on a port's lines: class, index, what, argument. -/
  | line (cls idx what arg : Nat)
  /-- A fabric RETRY or result handed to MID 2 or 5 (R495). -/
  | fabric (mid : Nat) (result : Option (Nat × Nat))
  /-- What the data register that the TAP instruction selects has captured, to be shifted out on JTAG_TDO: its bits and its
  value (R671, R673). -/
  | tdo (bits : Nat) (value : Nat)
deriving DecidableEq, Repr

/-! ### The whole state -/

/-- The state of the unit. -/
structure State where
  /-- MODEL. Commands that wait, first in first out. -/
  pending : List Instr := []
  /-- Register fields that differ from their cold values. -/
  regs : NMap Nat := []
  /-- Core cycle within the current microsecond, 0–799 (R139). -/
  cycle : Nat := 0
  /-- Core cycle within the current window of the issue duty, 0–1,023 (R576). -/
  dutyCycle : Nat := 0
  /-- MODEL. Free values drawn so far. -/
  free : Nat := 0
  /-- MODEL. Whether each of the next flash program and erase operations of the repair journal and of firmware fails, the
  next one first; beyond the list they succeed. -/
  flashFails : List Bool := []
  /-- MODEL: what the next reads of flash structures meet, in order; beyond the list they are clean. -/
  flashReads : List FlashSeen := []
  /-- MODEL: what the lands bring in the next bad Keychain frames, in order; beyond the list, no bits. -/
  kcLines : List KcLine := []
  /-- MODEL. What has left the unit, newest last. -/
  out : List Out := []
  /-- MODEL. The data of the last register read performed. -/
  readData : Nat := 0
  /-- Halves latched by low-half reads: key register offset × 16 + MID, for MIDs other than 4 (R17). -/
  readLatch : NMap Nat := []
  /-- Low halves held by half writes: key register offset × 16 + MID, for MIDs other than 4 (R18). -/
  writeHold : NMap Nat := []
  /-- The latches of MID 4, oldest first, one for each origin (R500). -/
  farLatches : List FarLatch := []
  /-- Events on their way to the fault collector (R597). -/
  dueFaults : List FaultEv := []
  /-- Window end t_e of each source that has counted (R594). -/
  faultEnd : NMap Nat := []
  /-- Pintle ports UP and DN. -/
  up : PtPort := {}
  dn : PtPort := {}
  window : Window := {}
  pf0 : Upstream := {}
  pf1 : Upstream := {}
  /-- Posted and non-posted credits the root port has given (R235). -/
  postCredit : Nat := 0
  readCredit : Nat := 0
  nextRead : Nat := 0
  /-- Completions of inbound reads that wait for posted writes ahead of them, with how many of PF0 and of PF1 (R231). -/
  cplWait : List (Out × Nat × Nat) := []
  /-- The gated interrupt levels last seen, key 4·f + x (R247). -/
  lastLevel : NMap Bool := []
  chans : NMap Chan := []
  sqs : NMap Sq := []
  rings : NMap Ring := []
  /-- Fetched SQ 0 entries that firmware has not finished, and those that wait for the disable to end (R305, R306). -/
  admin : List AdmEntry := []
  /-- The control processor has halted (R62). -/
  cpHalted : Bool := false
  /-- Commands that wait for a read of host memory, by number, and the next number (R283). -/
  fwReads : NMap FwRead := []
  fwNext : Nat := 0
  /-- The request channel that firmware served last (R281). -/
  fwTurn : Nat := 15
  /-- SQ 0 fetching has stopped for an entry to KEEP or OFF (R105). -/
  sq0Stop : Bool := false
  /-- SQ 0 fetching has stopped: disable under way (R305). -/
  admStop : Bool := false
  progs : NMap Prog := []
  /-- Programs that are ready to start a CCW, in the order in which they became ready (R340). -/
  readyQ : List Nat := []
  /-- The queue that fetched last, by priority (R313). -/
  fetchLast : NMap Nat := []
  /-- CANCELs held while Bus Master Enable is 0 (R351): function, unit, tag and instance. -/
  cancels : List (Nat × Nat × Nat × Nat) := []
  /-- Operations by agent: a tag, or 2,048 + far slot (R352, R354). -/
  ops : NMap Op := []
  fetchSeq : Nat := 0
  commitSeq : Nat := 0
  /-- Physical sub-engine of a logical one, where it is not its own number (R327). -/
  sePhys : NMap Nat := []
  /-- PRG instance counts by tag (R352). -/
  insts : NMap Nat := []
  farSlots : NMap FarSlot := []
  wqs : NMap WQ := []
  /-- Words of the buffer SRAM by bank × 65,536 + word: 64 data bits and the sideband (R366). -/
  sram : NMap Nat := []
  /-- The poison map, by the same address (R368). -/
  poison : NMap Bool := []
  /-- Words of a committed packet that no longer read as they were written, by the same address: the errors that their
  transmitting port's check meets (R366, R389). -/
  upsets : NMap WordErr := []
  /-- CAN, LIN, SENT, UART and card ports by index. -/
  cans : NMap CanPort := []
  lins : NMap LinPort := []
  sents : NMap SentPort := []
  sers : NMap BytePort := []
  cards : NMap BytePort := []
  eths : NMap EthPort := []
  ptp : Ptp := {}
  /-- Frames in the gateway's ingress staging and egress queues by port code, each with its poison mark (R514). -/
  gwIn : NMap (List (List Byte × Bool)) := []
  gwOut : NMap (List (List Byte × Bool)) := []
  /-- Tokens missing from each egress bucket, in units of 10⁻⁶ token (R523), and stream sequence numbers (R522). -/
  gwSpent : NMap Nat := []
  gwSeq : NMap Nat := []
  /-- Words 1–3 of routing entries written and not committed (R517): key 4 × entry + word. -/
  grtShadow : NMap Nat := []
  /-- Park level in force on each multiplexed land: 0 driven low, 1 driven high, 2 low by the keeper, 3 high by the keeper
  (R70–R74); a keeper at the land's reset pull where none is listed (R76). -/
  pinParked : NMap Nat := []
  /-- Levels of the lands that carry GPIO pins, and the GPIO output register, one bit a pin. -/
  gpioIn : Nat := 0
  gpioOut : Nat := 0
  /-- Levels of CARD0_PRES and CARD1_PRES, and of TIM_CAP0 and TIM_CAP1, one bit each. -/
  presIn : Nat := 0
  capIn : Nat := 0
  tln : Talon := {}
  chain0 : FChain := {}
  chain1 : FChain := {}
  /-- The events of an injection still to come, one in each core cycle (R609). -/
  injecting : List FaultEv := []
  chain2 : FChain := {}
  /-- The owner of the region of the last severe event of sources 116 and 117, where it is MID 0–2 (R601, R622). -/
  fltOwner : NMap Nat := []
  /-- Request slots in use, and the generation counts of all (R492). -/
  reqs : NMap Req := []
  reqGen : NMap Nat := []
  /-- Accesses of MIDs 2 and 5 by number, and the next number. -/
  fabric : NMap FabAcc := []
  fabNext : Nat := 0
  /-- Data of the parts of an LXB access of far access slot 8·f + s that have ended. -/
  slotParts : NMap (List Nat) := []
  /-- LXB accesses in the order in which they were asked for, the MID served last, the LXB lock's holder, and the holder
  of a broken lock whose next access fails (R505–R507). -/
  lxbQ : List LxbReq := []
  lxbLast : Nat := 0
  lxbLock : Option Nat := none
  lxbBroken : Option Nat := none
  /-- The lock's holder has had an access since the grant: LXB_LOCK is high while the lock is held (R506). -/
  lxbOut : Bool := false
  /-- Holders of Hinge semaphores: MID and origin address (R501). -/
  sems : NMap (Nat × Nat) := []
  mirrors : NMap Mirror := []
  rounds : NMap PollRound := []
  /-- Levels of LXB_IRQ0–LXB_IRQ3 (R246). -/
  lxbIrq : Nat := 0
  nv : Nv := {}
  ldg : Ledger := {}
  sup : Supply := {}
  /-- The acknowledgement of step 3 of the power-fail sequence has come (R116, R119). -/
  pfAcked : Bool := false
  phase : Phase := .asserted
  /-- The last reset was a cold one. -/
  coldBoot : Bool := true
  /-- The warm or unit reset that waits for the ledger (R546, R692), and ROM_LOCKSTEP resets in a row (R155). -/
  resetDue : Option ResetAsk := none
  romRun : Nat := 0
  /-- KEEP (2) or OFF (3) that the last reset ended, or 0; the monotonic time saved on the way there; and the time of the
  waking edge, write or frame (R664). -/
  slept : Nat := 0
  sleptAt : Nat := 0
  wokeAt : Nat := 0
  img : Option ImgSession := none
  /-- Monotonic time at which the watchdog was last started or served (R156). -/
  wdogAt : Nat := 0
  /-- Written entries of the trace buffer, as four words (R660), and how many of the newest the sink has not copied
  (R665). -/
  trcBuf : NMap (List Nat) := []
  sinkLag : Nat := 0
  /-- What SAMPLE/PRELOAD loaded into the boundary register, cell by cell (R671). -/
  boundary : List Bool := []
  tap : TapInstr := .idcode
  dap : Dap := {}
  /-- Parameters in force that differ from their defaults (R282). -/
  params : NMap Nat := []
  /-- The QUIET pause of the trace is in force, and the items not pushed in it (R664). -/
  trcPaused : Bool := false
  wakeCount : Nat := 0
  /-- A thermal sample has been demanded and not taken (R579); the highest value of the last sample was at or above the
  critical limit (R583). -/
  thmDemand : Bool := false
  thmHot : Bool := false
  /-- Sideband of the word of FLT_EVQ that a MID popped last, with 4 where the word was poisoned, by MID (R605, R614). -/
  evqSeen : NMap Nat := []
deriving DecidableEq, Repr

/-- The unit right after cold reset: every register at its cold value, every memory and queue empty, no command
waiting. -/
def State.reset : State := {}

end Sys2Proof.Machine
end

