-- ==== Sys2Proof/Machine/Ops.lean ====
section
/-!
DEFINITION. The named operations that every meaning is built from: sparse tables, bytes and bit fields, register
fields, event causes with their counters, free values, and the record of what leaves the unit.
-/

namespace Sys2Proof.Machine

/-! ### Sparse tables -/

/-- The entry of a table at a key. -/
def tget {α : Type} : NMap α → Nat → Option α
  | [], _ => none
  | (k', v) :: r, k => if k' = k then some v else tget r k

/-- A table with an entry written, in rising order of key. -/
def tset {α : Type} : NMap α → Nat → α → NMap α
  | [], k, v => [(k, v)]
  | (k', v') :: r, k, v =>
    if k < k' then (k, v) :: (k', v') :: r
    else if k = k' then (k, v) :: r
    else (k', v') :: tset r k v

/-- A table without an entry. -/
def tdel {α : Type} : NMap α → Nat → NMap α
  | [], _ => []
  | (k', v) :: r, k => if k' = k then tdel r k else (k', v) :: tdel r k

/-- A table with a value written where `dflt` is what an unlisted key reads as. -/
def tput {α : Type} [DecidableEq α] (m : NMap α) (k : Nat) (v dflt : α) : NMap α :=
  if v = dflt then tdel m k else tset m k v

/-- The keys of a table rise strictly: its canonical form. -/
def Sorted {α : Type} (m : NMap α) : Prop := m.Pairwise (fun a b => a.1 < b.1)

/-! ### Bits and bytes -/

/-- Bits lo to lo + w − 1 of a value (R6). -/
def bits (x lo w : Nat) : Nat := x / 2 ^ lo % 2 ^ w

/-- A flag as a number. -/
def b2n (b : Bool) : Nat := if b then 1 else 0

/-- A value with bit i set. -/
def setBit (x i : Nat) : Nat := if x.testBit i then x else x + 2 ^ i

/-- A value with the bits of `m` cleared. -/
def clearBits (x m : Nat) : Nat := x - (x &&& m)

/-- The little-endian value of bytes (R5). -/
def leVal : List Byte → Nat
  | [] => 0
  | b :: bs => b.toNat + 256 * leVal bs

/-- The n little-endian bytes of a value (R5). -/
def leBytes : Nat → Nat → List Byte
  | 0, _ => []
  | n + 1, x => BitVec.ofNat 8 x :: leBytes n (x / 256)

/-- The little-endian value of the n bytes at an offset of a structure. -/
def fieldAt (bs : List Byte) (off n : Nat) : Nat := leVal ((bs.drop off).take n)

/-- The big-endian value of bytes. -/
def beVal (bs : List Byte) : Nat := bs.foldl (fun n b => 256 * n + b.toNat) 0

/-- The n big-endian bytes of a value. -/
def beBytes (n x : Nat) : List Byte := (leBytes n x).reverse

/-- n bytes of zero. -/
def zeros (n : Nat) : List Byte := List.replicate n 0

/-- Bytes cut or padded with zeros to a length. -/
def fit (n : Nat) (bs : List Byte) : List Byte := (bs ++ zeros n).take n

/-- Whether the n bytes at an offset are all zero. -/
def zeroAt (bs : List Byte) (off n : Nat) : Bool := ((bs.drop off).take n).all (· == 0)

/-- One bit step of the reflected CRC-32C with generator 0x1EDC_6F41 (R3). -/
def crcBit (c : Nat) : Nat := if c % 2 = 1 then (c / 2) ^^^ 0x82F63B78 else c / 2

/-- One byte step of CRC-32C (R3). -/
def crcByte (c : Nat) (b : Byte) : Nat :=
  crcBit (crcBit (crcBit (crcBit (crcBit (crcBit (crcBit (crcBit (c ^^^ b.toNat))))))))

/-- CRC-32C of bytes in ascending order (R3). -/
def crc32c (bs : List Byte) : Nat := bs.foldl crcByte 0xFFFFFFFF ^^^ 0xFFFFFFFF

/-- The check word of a structure whose check field lies at an offset (R3). -/
def checkOf (bs : List Byte) (off : Nat) : Nat := crc32c (bs.take off ++ zeros 4 ++ bs.drop (off + 4))

/-- Whether the check word of a structure is correct (R39). -/
def checkOk (bs : List Byte) (off : Nat) : Bool := fieldAt bs off 4 == checkOf bs off

/-- A structure with its check word written (R40). -/
def withCheck (bs : List Byte) (off : Nat) : List Byte :=
  bs.take off ++ leBytes 4 (checkOf bs off) ++ bs.drop (off + 4)

/-! ### Register fields -/

/-- The value of a register field. -/
def State.get (s : State) (f : Fld) : Nat := (tget s.regs f.key).getD f.cold

/-- Whether a one-bit field is 1. -/
def State.on (s : State) (f : Fld) : Bool := s.get f != 0

/-- The state with a register field written, cut to its width. -/
def State.put (s : State) (f : Fld) (v : Nat) : State :=
  { s with regs := tput s.regs f.key (v % 2 ^ f.w) f.cold }

/-- Fields put back to their cold values. -/
def State.cold (s : State) (fs : List Fld) : State := fs.foldl (fun t f => t.put f f.cold) s

/-- A one-bit field written. -/
def State.flag (s : State) (f : Fld) (b : Bool) : State := s.put f (b2n b)

/-- A counter advanced by n, modulo its width (R11). -/
def State.count (s : State) (f : Fld) (n : Nat := 1) : State := s.put f (s.get f + n)

/-- A W1C cause bit set, and its companion counter advanced by one set event (R11). -/
def State.raise (s : State) (evt : Fld) (bit : Nat) (cnt : Fld) : State :=
  (s.put evt (setBit (s.get evt) bit)).count cnt

/-- Bit i of a field. -/
def State.bitOf (s : State) (f : Fld) (i : Nat) : Bool := (s.get f).testBit i

/-! ### Time, free values, what leaves -/

/-- Monotonic time in µs (R139). -/
def State.now (s : State) : Nat := s.get R.CLK_MONO_time

/-- The state with its next free value, and that value: one the manual leaves open. -/
def State.drawFree (s : State) : State × Nat :=
  ({ s with free := s.free + 1 }, (Config.freeValue s.free).toNat)

/-- The state after something has left the unit. -/
def State.emit (s : State) (o : Out) : State := { s with out := s.out ++ [o] }

/-- An event handed to the fault collector, which acts on it before the step ends (R597). -/
def State.fault (s : State) (e : FaultEv) : State := { s with dueFaults := s.dueFaults ++ [e] }

/-- A cause set, counted, and handed to fault source `src` with its bit index as detail (R593). -/
def State.raiseF (s : State) (evt : Fld) (bit : Nat) (cnt : Fld) (src res : Nat) : State :=
  (s.raise evt bit cnt).fault { src := src, detail := bit, res := res }

/-- A flash program or erase operation at a byte address, and whether it succeeds; a failed one is an event of source
118 (R593). -/
def State.flashOp (s : State) (addr : Nat) : State × Bool :=
  match s.flashFails with
  | [] => (s, true)
  | false :: r => ({ s with flashFails := r }, true)
  | true :: r => ({ s with flashFails := r }.fault { src := 118, res := bits addr 4 23 }, false)

/-- A read of a structure in flash at a byte address, and whether it meets an uncorrectable word. A word corrected, and one
that is not correctable, is an event of source 118 (R42, R593). -/
def State.flashRead (s : State) (addr : Nat) : State × Bool :=
  let ev : FaultEv := { src := 118, res := bits addr 4 23 }
  match s.flashReads with
  | [] => (s, false)
  | .clean :: r => ({ s with flashReads := r }, false)
  | .corrected :: r => ({ s with flashReads := r }.fault ev, false)
  | .uncorrectable :: r => ({ s with flashReads := r }.fault ev, true)

/-! ### Identity of the unit -/

/-- Own chain address (R187). -/
def State.addr (s : State) : Nat := s.get R.CHN_KC_STATUS_addr

/-- The unit is ASSIGNED (R187). -/
def State.assigned (s : State) : Bool := s.on R.CHN_KC_STATUS_assigned

/-- PWR_STATE.current: 0 ACTIVE, 1 QUIET, 2 KEEP, 3 OFF (R98). -/
def State.power (s : State) : Nat := s.get R.PWR_STATE_current

/-- Power, clocks and registers are up: ACTIVE or QUIET. -/
def State.running (s : State) : Bool := s.power < 2

/-- The unit runs: a reset has been released and has not been asserted since. -/
def State.isUp (s : State) : Bool := s.phase == .up

/-- Registers answer: the unit is in ACTIVE or QUIET, and its clocks are up since boot step 3 (R98, R138). A unit that has
stopped in HALT or NO_CLOCK has not reached that step. -/
def State.answers (s : State) : Bool := s.running && s.isUp

/-- Stages of GLB_BOOT_STATUS (R160). -/
def stageRom : Nat := 0
def stageNoClock : Nat := 1
def stageVerify : Nat := 2
def stageFwStart : Nat := 3
def stageReady : Nat := 4
def stageRecovery : Nat := 5
def stageHalt : Nat := 6

def State.stage (s : State) : Nat := s.get R.GLB_BOOT_STATUS_stage

/-- Firmware serves: the control processor runs, the unit is in ACTIVE or QUIET, and firmware is ready, or the boot ROM
serves SQ 0 in recovery (R153, R717). -/
def State.fwServes (s : State) (admin : Bool) : Bool :=
  !s.cpHalted && s.isUp && s.running && (s.stage == stageReady || (admin && s.stage == stageRecovery))

/-- A register access acts once the registers answer, in ACTIVE and QUIET (R98, R138). -/
def State.whenUp (s : State) (f : State → State) : State := if s.answers then f s else s

/-- The issue duty in force (R576). -/
def State.duty (s : State) : Nat :=
  if s.on R.THM_STATUS_enforcing then min (s.get R.THM_DUTY_host_duty) (s.get R.THM_DUTY_enf_duty)
  else s.get R.THM_DUTY_host_duty

/-- The queue fetcher of SQ 1–255 and the sub-engines may start fetches, CCWs and data bursts: the first 64 cycles of each
step of the duty, of a window of 1,024 (R576). -/
def State.dutyOpen (s : State) : Bool := s.dutyCycle < 64 * s.duty

def State.setSup (s : State) (x : Supply) : State := { s with sup := x }

/-- The power-fail sequence runs (R116). -/
def State.failing (s : State) : Bool := s.sup.pf != 0

end Sys2Proof.Machine
end

