-- ==== Sys2Proof/Machine/Flags.lean ====
section
/-!
DEFINITION. What a register write does to a field by its access code, its lock, its writers and its permitted
encodings (R8, R12, R13, R407).
-/

namespace Sys2Proof.Machine

/-- An encoding is not reserved (R13). -/
def Fld.allows (f : Fld) (v : Nat) : Bool := f.ok.isEmpty || f.ok.any fun r => r.1 ≤ v && v ≤ r.2

/-- A value with the low bits that read 0 cleared. -/
def Fld.fitted (f : Fld) (v : Nat) : Nat := v / 2 ^ f.align * 2 ^ f.align

/-- No lock closes the field (R8, R12). -/
def State.unlocked (s : State) (f : Fld) : Bool :=
  (!f.selfLock || s.get f == 0) &&
    match f.lock with
    | none => true
    | some k => (tget s.regs k).getD 0 == 0

/-- The field takes writes of a MID in the state as it stands. -/
def State.takes (s : State) (f : Fld) (mid : Nat) : Bool := f.present && f.mids.testBit mid && s.unlocked f

/-- The part of a register value that falls into a field. -/
def Fld.part (f : Fld) (v : Nat) : Nat := bits v f.lo f.w

/-- One field of a write by MID `mid` of register value v, its lock judged in `s0`: RW and RWL take a permitted
encoding, a 1 clears W1C and sets W1S, and every other code ignores the write (R8, R13). -/
def State.writeFld (s s0 : State) (mid v : Nat) (f : Fld) : State :=
  if !s0.takes f mid then s
  else match f.acc with
    | .rw => if f.allows (f.part v) then s.put f (f.fitted (f.part v)) else s
    | .rwl => if f.allows (f.part v) then s.put f (f.fitted (f.part v)) else s
    | .w1c => s.put f (clearBits (s.get f) (f.part v))
    | .w1s => s.put f (s.get f ||| f.part v)
    | _ => s

/-- A write of the listed fields of one register. -/
def State.writeFlds (s : State) (mid v : Nat) (fs : List Fld) : State :=
  fs.foldl (fun t f => t.writeFld s mid v f) s

/-- The fields of a register other than one. -/
def otherFlds (r : RegAt) (f : Fld) : List Fld := r.flds.filter fun g => g.key != f.key

/-- The fields of the register at an offset other than one, written (R13). -/
def State.writeOthers (s : State) (mid v : Nat) (f : Fld) : State :=
  match regAt mid f.off with
  | some r => s.writeFlds mid v (otherFlds r f)
  | none => s

/-- The result of reading the stored fields of a register, without the effects of the read. -/
def State.readFlds (s : State) (fs : List Fld) : Nat := (fs.map fun f => s.get f * 2 ^ f.lo).sum

end Sys2Proof.Machine
end

