-- ==== Sys2Proof/Machine/Words.lean ====
section
/-!
DEFINITION. Buffer SRAM, port queues and fall-through chains: the words of R366, the receive and transmit rules of
R376–R394, and the chains of R377–R379.
-/

namespace Sys2Proof.Machine

/-! ### Words -/

/-- Sidebands of R366. -/
def sbData : Nat := 0
def sbLast : Nat := 1
def sbGap : Nat := 2
def sbFill : Nat := 3

/-- A word of 64 data bits with its sideband. -/
def mkWord (data sb : Nat) : Nat := data % 2 ^ 64 + 2 ^ 64 * (sb % 4)

/-- The data bits of a word. -/
def wordData (w : Nat) : Nat := w % 2 ^ 64

/-- The sideband of a word. -/
def wordSb (w : Nat) : Nat := w / 2 ^ 64 % 4

/-- The data words of bytes, padded with zeros to whole words (R369). -/
def wordsOf : Nat → List Byte → List Nat
  | 0, _ => []
  | n + 1, bs => leVal (bs.take 8) :: wordsOf n (bs.drop 8)

/-- The bytes of data words. -/
def bytesOf (ws : List Nat) : List Byte := ws.flatMap fun w => leBytes 8 (wordData w)

/-- A packet of data words: DATA, with LAST on the final word (R369). -/
def packetOf : List Nat → List Nat
  | [] => []
  | [w] => [mkWord w sbLast]
  | w :: ws => mkWord w sbData :: packetOf ws

/-- The words of a byte string as one packet. -/
def packetOfBytes (bs : List Byte) : List Nat := packetOf (wordsOf ((bs.length + 7) / 8) bs)

/-! ### SRAM -/

/-- The word at an SRAM address. -/
def State.sramRead (s : State) (a : Nat) : Nat := (tget s.sram a).getD 0

/-- The poison-map bit of an SRAM address (R368). -/
def State.poisonAt (s : State) (a : Nat) : Bool := (tget s.poison a).getD false

/-- A word written: a poisoned one sets the poison-map bit, any other clears it (R368), and an error that the word held
is gone. -/
def State.sramWrite (s : State) (a w : Nat) (pois : Bool) : State :=
  { s with sram := tput s.sram a w 0, poison := tput s.poison a pois false, upsets := tdel s.upsets a }

/-! ### Pointers of a port queue -/

def State.wq (s : State) (q : Nat) : WQ := (tget s.wqs q).getD {}

def State.setWq (s : State) (q : Nat) (x : WQ) : State := { s with wqs := tput s.wqs q x {} }

/-- Queue numbers that name a queue (R372). -/
def queueExists (q : Nat) : Bool :=
  q < 216 && !(q == 94 || q == 95 || (124 ≤ q && q ≤ 127) || q == 158 || q == 159)

/-- Queue q is in use (R718). -/
def State.qOn (s : State) (q : Nat) : Bool := queueExists q && s.on (R.BUF_Q_CFG_en q)

/-- Depth in words (R376). -/
def State.qDepth (s : State) (q : Nat) : Nat := 2 ^ s.get (R.BUF_Q_CFG_log2 q)

/-- SRAM address of the word a pointer names (R376). -/
def State.qAddr (s : State) (q ptr : Nat) : Nat := s.get (R.BUF_Q_CFG_base q) * 64 + ptr % s.qDepth q

/-- Pointer difference modulo 2D (R376). -/
def ptrSub (d a b : Nat) : Nat := (a + 2 * d - b) % (2 * d)

/-- Occupancy (W − R) mod 2D (R376). -/
def State.qOcc (s : State) (q : Nat) : Nat := ptrSub (s.qDepth q) (s.wq q).w (s.wq q).r

/-- EMPTY when C = R (R376). -/
def State.qEmpty (s : State) (q : Nat) : Bool := (s.wq q).c == (s.wq q).r

/-- Credits of a transmit queue (R386). -/
def State.qCredits (s : State) (q : Nat) : Nat := s.qDepth q - s.qOcc q

/-- One word written at W (R376). -/
def State.qPush (s : State) (q w : Nat) (pois : Bool) : State :=
  let x := s.wq q
  (s.sramWrite (s.qAddr q x.w) w pois).setWq q { x with w := (x.w + 1) % (2 * s.qDepth q) }

/-- Words written at W in order. -/
def State.qPushAll (s : State) (q : Nat) (ws : List Nat) (pois : Bool) : State :=
  ws.foldl (fun t w => t.qPush q w pois) s

/-- C = W, one packet notice, and the packet's place in the order of commits (R373, R380, R387, R394). -/
def State.qCommit (s : State) (q token : Nat) : State :=
  let x := s.wq q
  ({ s with commitSeq := s.commitSeq + 1 }.setWq q
    { x with c := x.w, pkts := x.pkts ++ [(token, s.commitSeq)] }).count (R.BUF_Q_PKT_CNT_count q)

/-- W returns to C (R380, R388). -/
def State.qRollback (s : State) (q : Nat) : State :=
  let x := s.wq q
  s.setWq q { x with w := x.c }

/-- A BUF_Qq_EVT cause set and counted; drop, underrun and uncorr are also events of sources 12, 13 and 14
(R401). -/
def State.qRaise (s : State) (q bit : Nat) : State :=
  if bit < 3 then s.raiseF (R.BUF_Q_EVT_cause q) bit (R.BUF_Q_EVT_CNT_count q bit) (12 + bit) q
  else s.raise (R.BUF_Q_EVT_cause q) bit (R.BUF_Q_EVT_CNT_count q bit)

/-- BUF_EVT.integrity set and counted as source 15 (R399–R401). -/
def State.bufIntegrity (s : State) : State :=
  s.raiseF R.BUF_EVT_cause 1 (R.BUF_EVT_CNT_count 1) 15 0

/-! ### Receiving -/

/-- The GAP word of an episode (R370). -/
def gapWord (words pkts : Nat) : Nat := mkWord (min words (2 ^ 32 - 1) + 2 ^ 32 * min pkts 65535) sbGap

/-- An open drop episode ends: one GAP word with its counts, committed (R383). -/
def State.qEndEpisode (s : State) (q : Nat) : State :=
  let x := s.wq q
  let t := s.qPush q (gapWord x.dropWords x.dropPkts) false
  let y := t.wq q
  (t.setWq q { y with c := y.w, dropping := false, dropWords := 0, dropPkts := 0 }).count (R.BUF_Q_PKT_CNT_count q)

/-- A packet begins: an open episode ends while the occupancy is at most D − 3 or the queue is empty (R383). -/
def State.qBegin (s : State) (q : Nat) : State :=
  if (s.wq q).dropping && (s.qOcc q + 3 ≤ s.qDepth q || s.qEmpty q) then s.qEndEpisode q else s

/-- A frame of n words that does not fit: rolled back, its words and packet counted, and an episode opened
(R382). -/
def State.qDrop (s : State) (q n : Nat) : State :=
  let s := s.qRollback q
  let x := s.wq q
  let t := s.setWq q { x with dropping := true, dropWords := x.dropWords + n, dropPkts := x.dropPkts + 1 }
  let t := (t.count (R.BUF_Q_WDROP_CNT_count q) n).count (R.BUF_Q_PDROP_CNT_count q)
  if x.dropping then t else t.qRaise q 0

/-- A frame record received for a receive queue (R380–R383), or for one that is not in use (R718). The header's two
words take the place of the FILL words, so that no committed word is FILL (R371). -/
def State.qReceive (s : State) (q : Nat) (record : List Byte) : State :=
  let ws := packetOfBytes record
  if !s.qOn q then
    ((s.count (R.BUF_Q_WDROP_CNT_count q) ws.length).count (R.BUF_Q_PDROP_CNT_count q)).qRaise q 0
  else
    let s := s.qBegin q
    if s.qOcc q + ws.length ≤ s.qDepth q - 1 then (s.qPushAll q ws false).qCommit q 0
    else s.qDrop q ws.length

/-! ### Consuming -/

/-- What a consumer took: the record's bytes, whether a GAP came before it, whether a word was poisoned, and how many
packets end among the words taken, as they were committed. -/
structure Taken where
  bytes : List Byte := []
  gap : Bool := false
  poisoned : Bool := false
  ends : Nat := 0
deriving DecidableEq, Repr

/-- One word taken at R (R376). -/
def State.qPop (s : State) (q : Nat) : State × Nat :=
  let x := s.wq q
  let w := s.sramRead (s.qAddr q x.r)
  (s.setWq q { x with r := (x.r + 1) % (2 * s.qDepth q), lastWord := w }, w)

/-- The bank of an SRAM address. -/
def bankOf (a : Nat) : Nat := a / 65536

/-- The error that a reader meets at word i of a packet: one that the read names, or one that the word holds. -/
def State.wordErr (s : State) (a i : Nat) (errs : List WordErr) : Option WordErr :=
  (errs.find? (fun e => e.word == i)).or (tget s.upsets a)

/-- The check of word i of a packet: corrections and uncorrectable words are counted by queue and bank, and a poisoned
word sets uncorr. An uncorrectable word whose poison-map bit was clear sets that bit and is an event of source 117
(R367, R368, R395, R620). The answer says whether the word is delivered poisoned, and its raw bits where they are. -/
def State.qWordErr (s : State) (q a i : Nat) (errs : List WordErr) : State × Bool × Option Nat :=
  match s.wordErr a i errs with
  | none => if s.poisonAt a then (s.qRaise q 2, true, none) else (s, false, none)
  | some e =>
    if e.uncorr then
      let t := (s.count (R.BUF_BANK_CNT_count (bankOf a) 1)).qRaise q 2
      let raw := some e.raw.toNat
      if s.poisonAt a then (t, true, raw)
      else ({ t with poison := tput t.poison a true false }.fault { src := 117, res := a }, true, raw)
    else
      let t := (s.count (R.BUF_Q_CORR_CNT_count q)).count (R.BUF_BANK_CNT_count (bankOf a) 0)
      if s.poisonAt a then (t.qRaise q 2, true, none) else (t, false, none)

/-- Errors of words written from pointer w on, which stay with the words (R389). -/
def State.qUpset (s : State) (q w : Nat) (errs : List WordErr) : State :=
  errs.foldl (fun t e => { t with upsets := tset t.upsets (t.qAddr q (w + e.word)) e }) s

/-- The words of one packet taken up to LAST; GAP words are consumed on the way (R384, R392, R398, R399). A consumer of a
receive queue frames by the sideband that it is delivered, a transmitting port by the one that was committed, so that a
poisoned packet is discarded whole (R367, R389, R398). DESIGN CHOICE (log 130). -/
def State.qTakeWords (s : State) (q : Nat) (errs : List WordErr) : Nat → Nat → Taken → State × Taken
  | 0, _, t => (s, t)
  | fuel + 1, i, t =>
    if s.qEmpty q then (s, t)
    else
      let a := s.qAddr q (s.wq q).r
      let r := s.qPop q
      let e := r.1.qWordErr q a i errs
      let w := e.2.2.getD r.2
      let sb := if 128 ≤ q then wordSb r.2 else wordSb w
      let s1 := e.1
      let t := { t with ends := t.ends + b2n (wordSb r.2 == sbLast) }
      if sb == sbGap then s1.qTakeWords q errs fuel i { t with gap := true }
      else
        let fill := sb == sbFill
        let s2 := if fill then (if e.2.1 then s1 else s1.qRaise q 2).bufIntegrity else s1
        let t' := { t with bytes := t.bytes ++ leBytes 8 (wordData w), poisoned := t.poisoned || e.2.1 || fill }
        if sb == sbLast then (s2, t') else s2.qTakeWords q errs fuel (i + 1) t'

/-- The oldest committed packet of a queue taken whole (R384, R392). -/
def State.qTake (s : State) (q : Nat) (errs : List WordErr) : State × Taken :=
  let r := s.qTakeWords q errs (2 * s.qDepth q) 0 { gap := (s.wq q).gapPending }
  let x := r.1.wq q
  let t := r.1.setWq q { x with gapPending := false, pkts := x.pkts.drop r.2.ends }
  let t := if t.qEmpty q && (t.wq q).dropping then t.qEndEpisode q else t
  (t, r.2)

/-- Bytes of the record at the head of a queue, past GAP words, without taking it (R373). -/
def State.qHead (s : State) (q : Nat) : Nat → Nat → List Byte → List Byte
  | 0, _, acc => acc
  | fuel + 1, ptr, acc =>
    if ptr == (s.wq q).c then acc
    else
      let w := s.sramRead (s.qAddr q ptr)
      let nxt := (ptr + 1) % (2 * s.qDepth q)
      if wordSb w == sbGap then s.qHead q fuel nxt acc
      else
        let acc' := acc ++ leBytes 8 (wordData w)
        if wordSb w == sbLast then acc' else s.qHead q fuel nxt acc'

/-- The record at the head of a queue, if a packet is committed. -/
def State.qPeek (s : State) (q : Nat) : Option (List Byte) :=
  if (s.wq q).pkts.isEmpty then none else some (s.qHead q (2 * s.qDepth q) (s.wq q).r [])

/-- An empty queue or chain read: the word last read again, and the underrun cause (R391). -/
def State.qUnderrun (s : State) (q : Nat) : State := s.qRaise q 1

/-- A DROP_PKT: the oldest packet no consumer has begun is discarded; without one it has no effect (R392). -/
def State.qDropPkt (s : State) (q : Nat) : State :=
  if (s.wq q).pkts.isEmpty then s
  else
    let r := s.qTake q []
    let x := r.1.wq q
    r.1.setWq q { x with gapPending := x.gapPending || r.2.gap }

/-! ### Transmitting -/

/-- A claim asked for: taken at once while no producer holds it and none waits, else queued in order (R385). -/
def State.qClaim (s : State) (q agent : Nat) : State :=
  let x := s.wq q
  if x.claim == some agent || x.claimWait.contains agent then s
  else if x.claim.isNone && x.claimWait.isEmpty then s.setWq q { x with claim := some agent }
  else s.setWq q { x with claimWait := x.claimWait ++ [agent] }

/-- The claim granted to the producer that has waited longest (R385). -/
def State.qGrant (s : State) (q : Nat) : State :=
  let x := s.wq q
  match x.claim, x.claimWait with
  | none, a :: rest => s.setWq q { x with claim := some a, claimWait := rest }
  | _, _ => s

/-- The claim released (R385). -/
def State.qRelease (s : State) (q : Nat) : State := s.setWq q { s.wq q with claim := none }

/-- An uncommitted packet withdrawn: W returns to C, the claim is released, and withdraw is set (R388). A producer
that only waits for the claim stops waiting. -/
def State.qWithdraw (s : State) (q agent : Nat) : State :=
  let x := s.wq q
  if x.claim == some agent then ((s.qRollback q).qRelease q).qRaise q 3
  else s.setWq q { x with claimWait := x.claimWait.filter (· != agent) }

/-- Words written by the holder of the claim while it has credits; the words that remain (R386). -/
def State.qPushCredit (s : State) (q : Nat) : List (Nat × Bool) → State × List (Nat × Bool)
  | [] => (s, [])
  | w :: ws => if s.qCredits q = 0 then (s, w :: ws) else (s.qPush q w.1 w.2).qPushCredit q ws

/-- Every committed packet that the port has not begun is discarded; the tokens of the frames that went (R390). -/
def State.qFlush (s : State) (q : Nat) : State × List Nat :=
  let x := s.wq q
  let n := x.pkts
  (s.setWq q { x with r := x.c, pkts := [] }, n.map (·.1))

/-- A queue emptied: W, C and R return to 0 and its contents are lost (R374). -/
def State.qEmptyOut (s : State) (q : Nat) : State := s.setWq q {}

/-! ### Fall-through chains -/

def State.chain (s : State) (c : Nat) : FChain := if c = 0 then s.chain0 else if c = 1 then s.chain1 else s.chain2

def State.setChain (s : State) (c : Nat) (x : FChain) : State :=
  if c = 0 then { s with chain0 := x } else if c = 1 then { s with chain1 := x } else { s with chain2 := x }

/-- An item lost on a full chain: lost is set and counted, and handed to the collector (R377, R401). The loss of what
reports such a loss is not handed to it again: DESIGN CHOICE, log entry 141. -/
def State.chainLost (s : State) (c : Nat) (hand : Bool) : State :=
  let t := s.raise (R.BUF_CHAIN_EVT_cause c) 0 (R.BUF_CHAIN_CNT_count c 0)
  if hand then t.fault { src := 15, detail := 0, res := 0x100 + c } else t

/-- An item pushed whole onto a chain of 16 stages. On chains 1 and 2 an item that does not fit opens a drop episode,
and one GAP word with its counts goes before the next item that fits (R377, R378, R604). -/
def State.chainPush (s : State) (c : Nat) (item : List Nat) (hand : Bool := true) : State × Bool :=
  let x := s.chain c
  let gap := if x.dropping then [gapWord x.dropWords x.dropRecs] else []
  if x.items.length + gap.length + item.length ≤ 16 then
    (s.setChain c { x with items := x.items ++ gap ++ item, dropping := false, dropWords := 0, dropRecs := 0 }, true)
  else if c = 0 then (s.chainLost c hand, false)
  else
    ((s.setChain c
        { x with dropping := true, dropWords := x.dropWords + item.length, dropRecs := x.dropRecs + 1 }).chainLost c hand,
      false)

/-- The head word of a chain popped, or on an empty chain the word last read again with underrun (R378, R391). -/
def State.chainPop (s : State) (c : Nat) : State × Nat :=
  let x := s.chain c
  match x.items with
  | [] =>
    ((s.raise (R.BUF_CHAIN_EVT_cause c) 1 (R.BUF_CHAIN_CNT_count c 1)).fault
      { src := 13, detail := 1, res := 0x100 + c }, x.lastWord)
  | w :: rest => (s.setChain c { x with items := rest, lastWord := w }, w)

end Sys2Proof.Machine
end

