-- ==== Sys2Proof/Machine/Upstream.lean ====
section
/-!
DEFINITION. The upstream side of the two functions: posted writes in the order in which they become due, host-memory
reads, credits, and what holds them back (R233–R241).
-/

namespace Sys2Proof.Machine

/-- The upstream staging of function f (R236). -/
def State.fn (s : State) (f : Nat) : Upstream := if f = 0 then s.pf0 else s.pf1

def State.setFn (s : State) (f : Nat) (x : Upstream) : State :=
  if f = 0 then { s with pf0 := x } else { s with pf1 := x }

/-- Bus Master Enable is 1, the function is in D0, and the link is up (R241). In the power-fail sequence nothing is
started (R116). -/
def State.canIssue (s : State) (f : Nat) : Bool :=
  s.on (R.CFG_CMD_bme f) && !s.on (R.CFG_PM_d3 f) && s.on R.INT_LINK_up && !s.failing

/-- Bus Master Enable of function f is 1 and it is in D0 (R306, R313). -/
def State.busMaster (s : State) (f : Nat) : Bool := s.on (R.CFG_CMD_bme f) && !s.on (R.CFG_PM_d3 f)

/-- Max Payload Size in bytes, of at most 512 (R225, R237). -/
def State.mps (s : State) (f : Nat) : Nat := min 512 (128 * 2 ^ s.get (R.CFG_DEVCTL_mps f))

/-- A write split at the Max Payload Size and at every 4 KiB boundary (R237). -/
def splitWrite (mps : Nat) : Nat → Nat → List Byte → List (Nat × List Byte)
  | 0, _, _ => []
  | fuel + 1, a, bs =>
    if bs.isEmpty then []
    else
      let n := min mps (4096 - a % 4096)
      (a, bs.take n) :: splitWrite mps fuel (a + n) (bs.drop n)

/-- The tag of a program returned to the pool, once its final record has been issued (R314). -/
def State.freeTag (s : State) (tag : Nat) : State := { s with progs := tdel s.progs tag }

def State.ring (s : State) (m : Nat) : Ring := (tget s.rings m).getD {}

def State.setRing (s : State) (m : Nat) (x : Ring) : State := { s with rings := tput s.rings m x {} }

/-- A QMG_CRm_EVT cause set and counted. -/
def State.ringRaise (s : State) (m bit : Nat) : State := s.raise (R.QMG_CR_EVT_cause m) bit (R.QMG_CR_CNT_count m bit)

/-- One record more since posted was last set: posted is set when the count reaches the threshold (R318). -/
def State.ringCount (s : State) (m : Nat) : State :=
  let r := s.ring m
  if r.count + 1 ≥ s.get (R.QMG_CR_INT_threshold m) then (s.setRing m { r with count := 0 }).ringRaise m 0
  else s.setRing m { r with count := r.count + 1 }

/-- What follows from a posted write's issue: a record counts towards its ring's notification, which so follows it (R47,
R318), a final record returns its tag (R314), and a message counts as sent and is no longer pending (R248). -/
def State.issued (s : State) (f : Nat) : PostKind → State
  | .final tag m => (s.freeTag tag).ringCount m
  | .record m => s.ringCount m
  | .msix x =>
    (s.count (R.INT_PF_MSG_CNT_count f x)).put (R.MSIX_PBA_pending f) (clearBits (s.get (R.MSIX_PBA_pending f)) (2 ^ x))
  | _ => s

/-- The attributes of every request that the unit issues, whatever Device Control permits (R233). -/
def requestAttrs : Attrs := { relaxed := false, noSnoop := false, idOrder := false }

/-- Completions of inbound reads leave, in their order, once no posted write is ahead of them: one that the function may
not issue is not waited for (R231). -/
def State.cplRelease : Nat → State → State
  | 0, s => s
  | n + 1, s =>
    match s.cplWait with
    | [] => s
    | (o, a, b) :: rest =>
      if (a = 0 || !s.canIssue 0) && (b = 0 || !s.canIssue 1) then
        State.cplRelease n ({ s with cplWait := rest }.emit o)
      else s

/-- The completion of an inbound read (R231): it waits for the posted writes of both functions that may be issued and
have become due. -/
def State.complete (s : State) (o : Out) : State :=
  let ahead (f : Nat) : Nat := if s.canIssue f then (s.fn f).posts.length else 0
  { s with cplWait := s.cplWait ++ [(o, ahead 0, ahead 1)] }.cplRelease (s.cplWait.length + 1)

/-- A posted write of function f has left: the completions behind it have one fewer ahead. -/
def cplStep (f : Nat) (l : List (Out × Nat × Nat)) : List (Out × Nat × Nat) :=
  l.map fun x => if f = 0 then (x.1, x.2.1 - 1, x.2.2) else (x.1, x.2.1, x.2.2 - 1)

/-- Posted writes of function f leave in the order in which they became due, one posted credit each, and never wait
for a read (R234, R235). -/
def State.drainPosts (f : Nat) : Nat → State → State
  | 0, s => s
  | fuel + 1, s =>
    match (s.fn f).posts with
    | [] => s
    | p :: rest =>
      if !s.canIssue f || s.postCredit = 0 then s
      else
        let t := { s.setFn f { s.fn f with posts := rest } with
                     postCredit := s.postCredit - 1, cplWait := cplStep f s.cplWait }
        State.drainPosts f fuel ((t.emit (.write f p.addr p.data requestAttrs)).issued f p.kind)

/-- Every posted write of function f that can leave leaves, and the completions that no write holds any more. -/
def State.drain (s : State) (f : Nat) : State :=
  let t := s.drainPosts f (s.fn f).posts.length
  t.cplRelease t.cplWait.length

/-- Posted writes of function f that become due (R234). -/
def State.posts (s : State) (f : Nat) (ps : List Post) : State :=
  (s.setFn f { s.fn f with posts := (s.fn f).posts ++ ps }).drain f

/-- A data write to host memory that becomes due. -/
def State.dataWrite (s : State) (f addr : Nat) (data : List Byte) : State :=
  s.posts f ((splitWrite (s.mps f) (data.length + 1) addr data).map fun p =>
    { addr := p.1, data := p.2, kind := .data })

/-- Non-posted requests a function may have outstanding (R237). -/
def State.readLimit (s : State) (f : Nat) : Nat := if s.on (R.CFG_DEVCTL_ext_tag f) then 256 else 32

/-- Max Read Request Size in bytes (R237). -/
def State.mrrs (s : State) (f : Nat) : Nat := min 4096 (128 * 2 ^ s.get (R.CFG_DEVCTL_mrrs f))

/-- A read split at the Max Read Request Size and at every 4 KiB boundary (R237). -/
def splitRead (mrrs : Nat) : Nat → Nat → Nat → List (Nat × Nat)
  | 0, _, _ => []
  | fuel + 1, a, len =>
    if len = 0 then []
    else
      let n := min len (min mrrs (4096 - a % 4096))
      (a, n) :: splitRead mrrs fuel (a + n) (len - n)

/-- The request has been issued and has not ended. -/
def HostPart.out (q : HostPart) : Bool := q.issued && q.got.isNone

/-- Every request of the read has ended. -/
def HostRead.ended (r : HostRead) : Bool := r.parts.all fun q => q.got.isSome

/-- A request of the read has been issued. -/
def HostRead.issued (r : HostRead) : Bool := r.parts.any (·.issued)

/-- The read names an unfinished request. -/
def HostRead.has (r : HostRead) (id : Nat) : Bool := r.parts.any fun q => q.id == id && q.got.isNone

/-- A request of the read changed. -/
def HostRead.setPart (r : HostRead) (id : Nat) (g : HostPart → HostPart) : HostRead :=
  { r with parts := r.parts.map fun q => if q.id == id then g q else q }

/-- The requests of function f. -/
def Upstream.parts (x : Upstream) : List HostPart := x.reads.flatMap (·.parts)

/-- How one read ends whose requests have ended: with all their bytes, poisoned if one came so, or with nothing. -/
def HostRead.result (r : HostRead) : Cpl :=
  r.parts.foldl (fun c q => match c, q.got with
    | .ok d, some (.ok e) => .ok (d ++ fit q.len e)
    | .ok d, some (.poisoned e) => .poisoned (d ++ fit q.len e)
    | .poisoned d, some (.ok e) => .poisoned (d ++ fit q.len e)
    | .poisoned d, some (.poisoned e) => .poisoned (d ++ fit q.len e)
    | _, _ => .failed) (.ok [])

/-- Waiting requests issued in order, one non-posted credit each (R235, R237). -/
def State.pumpReads (f : Nat) : Nat → State → State
  | 0, s => s
  | fuel + 1, s =>
    let x := s.fn f
    match x.parts.find? (fun q => !q.issued && q.got.isNone) with
    | none => s
    | some q =>
      if !s.canIssue f || s.readCredit = 0 || s.readLimit f ≤ (x.parts.filter (·.out)).length then s
      else
        let t := { s.setFn f { x with reads := x.reads.map (·.setPart q.id fun p => { p with issued := true }) } with
                     readCredit := s.readCredit - 1 }
        State.pumpReads f fuel (t.emit (.read f q.id q.addr q.len requestAttrs))

/-- Every request of function f that can be issued is issued. -/
def State.issueReads (s : State) (f : Nat) : State := s.pumpReads f (s.fn f).parts.length

/-- A host-memory read that becomes due (R237, R238). -/
def State.hostRead (s : State) (f addr len : Nat) (purpose : ReadFor) : State :=
  let ps := splitRead (s.mrrs f) (len + 1) addr len
  let r : HostRead := { purpose := purpose, len := len,
                        parts := ps.mapIdx fun i p => { id := s.nextRead + i, addr := p.1, len := p.2 } }
  ({ s with nextRead := s.nextRead + ps.length }.setFn f { s.fn f with reads := (s.fn f).reads ++ [r] }).issueReads f

/-- One request of function f ends (R238). -/
def State.endPart (s : State) (f id : Nat) (c : Cpl) : State :=
  s.setFn f { s.fn f with reads := (s.fn f).reads.map (·.setPart id fun q => { q with got := some c }) }

/-- The queue whose entries a read fetches. -/
def ReadFor.queue : ReadFor → Option Nat
  | .entries sq _ => some sq
  | .admin _ => some 0
  | _ => none

/-- The first read all of whose requests have ended, and the reads beside it. Entries of one queue are handed on in the
order of its slots (R314): a fetch read waits for those of the queues in `held`. -/
def firstDone (held : List (Option Nat)) : List HostRead → Option (HostRead × List HostRead)
  | [] => none
  | r :: rest =>
    let q := r.purpose.queue
    if r.ended && (q.isNone || !held.contains q) then some (r, rest)
    else (firstDone (q :: held) rest).map fun x => (x.1, r :: x.2)

/-- The first read of function f that can be handed on, taken out of the staging. -/
def State.takeRead (s : State) (f : Nat) : Option (HostRead × State) :=
  (firstDone [] (s.fn f).reads).map fun x => (x.1, s.setFn f { s.fn f with reads := x.2 })

/-- The reads of a program abandoned when it ends. -/
def ReadFor.ofTag (tag : Nat) : ReadFor → Bool
  | .ccw t => t == tag
  | .prgTable t => t == tag
  | .table t => t == tag
  | .data t => t == tag
  | _ => false

/-- Reads that match a test are no longer awaited; completions of their requests that are out will be discarded (R240). -/
def Upstream.abandon (x : Upstream) (p : HostRead → Bool) : Upstream :=
  { x with reads := x.reads.filter fun r => !p r,
           late := x.late ++ (((x.reads.filter p).flatMap (·.parts)).filter (·.out)).map (·.id) }

/-- The reads of an ended program are no longer awaited. -/
def State.dropReads (s : State) (f tag : Nat) : State := s.setFn f ((s.fn f).abandon fun r => r.purpose.ofTag tag)

/-- What a read is for is one of the commands with these numbers. -/
def ReadFor.ofFw (ns : List Nat) : ReadFor → Bool
  | .fw n => ns.contains n
  | _ => false

/-- Commands of firmware that match a test wait for their reads no longer. -/
def State.dropFw (s : State) (p : FwReq → Bool) : State :=
  let ns := (s.fwReads.filter fun e => p e.2.req).map (·.1)
  let drop (u : Upstream) : Upstream := u.abandon fun r => r.purpose.ofFw ns
  { s with fwReads := s.fwReads.filter (fun e => !p e.2.req), pf0 := drop s.pf0, pf1 := drop s.pf1 }

/-- The command came by a slot of SQ 0. -/
def FwReq.queued (r : FwReq) : Bool :=
  match r.asked.via with
  | .queue _ _ => true
  | .mailbox _ _ _ => false

/-- Uncorrectable errors logged in the AER capability of a function (R243). -/
inductive Aer where
  | dataLink | poisoned | flowControl | cplTimeout | cplAbort | unexpCpl | overflow | malformed | unsupReq | uncorInt
deriving DecidableEq, Repr

/-- The bit of an uncorrectable error in the status, mask and severity registers, and its fields in them. -/
def Aer.bit : Aer → Nat
  | .dataLink => 4 | .poisoned => 12 | .flowControl => 13 | .cplTimeout => 14 | .cplAbort => 15 | .unexpCpl => 16
  | .overflow => 17 | .malformed => 18 | .unsupReq => 20 | .uncorInt => 22

def Aer.status (f : Nat) : Aer → Fld
  | .dataLink => R.CFG_AER_UNC_dl f | .poisoned => R.CFG_AER_UNC_poisoned f | .flowControl => R.CFG_AER_UNC_fc f
  | .cplTimeout => R.CFG_AER_UNC_cpl_timeout f | .cplAbort => R.CFG_AER_UNC_cpl_abort f
  | .unexpCpl => R.CFG_AER_UNC_unexp_cpl f | .overflow => R.CFG_AER_UNC_overflow f
  | .malformed => R.CFG_AER_UNC_malformed f | .unsupReq => R.CFG_AER_UNC_unsup_req f
  | .uncorInt => R.CFG_AER_UNC_uncor_int f

def Aer.mask (f : Nat) : Aer → Fld
  | .dataLink => R.CFG_AER_MASK_dl f | .poisoned => R.CFG_AER_MASK_poisoned f | .flowControl => R.CFG_AER_MASK_fc f
  | .cplTimeout => R.CFG_AER_MASK_cpl_timeout f | .cplAbort => R.CFG_AER_MASK_cpl_abort f
  | .unexpCpl => R.CFG_AER_MASK_unexp_cpl f | .overflow => R.CFG_AER_MASK_overflow f
  | .malformed => R.CFG_AER_MASK_malformed f | .unsupReq => R.CFG_AER_MASK_unsup_req f
  | .uncorInt => R.CFG_AER_MASK_uncor_int f

def Aer.severity (f : Nat) : Aer → Fld
  | .dataLink => R.CFG_AER_SEV_dl f | .poisoned => R.CFG_AER_SEV_poisoned f | .flowControl => R.CFG_AER_SEV_fc f
  | .cplTimeout => R.CFG_AER_SEV_cpl_timeout f | .cplAbort => R.CFG_AER_SEV_cpl_abort f
  | .unexpCpl => R.CFG_AER_SEV_unexp_cpl f | .overflow => R.CFG_AER_SEV_overflow f
  | .malformed => R.CFG_AER_SEV_malformed f | .unsupReq => R.CFG_AER_SEV_unsup_req f
  | .uncorInt => R.CFG_AER_SEV_uncor_int f

def allAer : List Aer :=
  [.dataLink, .poisoned, .flowControl, .cplTimeout, .cplAbort, .unexpCpl, .overflow, .malformed, .unsupReq, .uncorInt]

/-- The error comes with a packet whose header the Header Log takes. -/
def Aer.hasHeader : Aer → Bool
  | .poisoned | .cplAbort | .unexpCpl | .malformed | .unsupReq => true
  | _ => false

/-- Correctable errors (R238, R243), by their status and mask fields. -/
inductive AerCor where
  | receiver | badTlp | badDllp | rollover | replayTimer | advisory | internal
deriving DecidableEq, Repr

def AerCor.status (f : Nat) : AerCor → Fld
  | .receiver => R.CFG_AER_COR_receiver f | .badTlp => R.CFG_AER_COR_bad_tlp f | .badDllp => R.CFG_AER_COR_bad_dllp f
  | .rollover => R.CFG_AER_COR_rollover f | .replayTimer => R.CFG_AER_COR_replay f
  | .advisory => R.CFG_AER_COR_advisory f | .internal => R.CFG_AER_COR_internal f

def AerCor.mask (f : Nat) : AerCor → Fld
  | .receiver => R.CFG_AER_COR_MASK_receiver f | .badTlp => R.CFG_AER_COR_MASK_bad_tlp f
  | .badDllp => R.CFG_AER_COR_MASK_bad_dllp f | .rollover => R.CFG_AER_COR_MASK_rollover f
  | .replayTimer => R.CFG_AER_COR_MASK_replay f | .advisory => R.CFG_AER_COR_MASK_advisory f
  | .internal => R.CFG_AER_COR_MASK_internal f

def allAerCor : List AerCor := [.receiver, .badTlp, .badDllp, .rollover, .replayTimer, .advisory, .internal]

/-- An error message leaves while the link is up. -/
def State.errMessage (s : State) (f kind : Nat) : State :=
  if s.on R.INT_LINK_up then s.emit (.errMessage f kind) else s

/-- The first uncorrectable error since the status was clear fills First Error Pointer and Header Log. The header is that
of a packet that no command of the model shows, so each of its double words is a free value. -/
def State.headerLog (s : State) (f : Nat) (e : Aer) : State :=
  if allAer.any fun g => s.on (g.status f) then s
  else
    let s := s.put (R.CFG_AER_CAP_first f) e.bit
    if e.hasHeader then
      (List.range 4).foldl (fun t i => let x := t.drawFree; x.1.put (R.CFG_HDRLOG_dword f i) x.2) s
    else s

/-- The legacy status bit that goes with an uncorrectable error: Signaled Target Abort, Detected Parity Error. -/
def State.legacyError (s : State) (f : Nat) : Aer → State
  | .cplAbort => s.put (R.CFG_STATUS_sig_abort f) 1
  | .poisoned => s.put (R.CFG_STATUS_parity f) 1
  | _ => s

/-- An uncorrectable error of function f logged, and reported with the severity that the host has set (R243). `quiet` is
an advisory one, which is reported as correctable (R238). -/
def State.aer (s : State) (f : Nat) (e : Aer) (quiet : Bool := false) : State :=
  let s := (s.headerLog f e).put (e.status f) 1
  let s := s.legacyError f e
  let s := if e = .unsupReq then s.put (R.CFG_DEVSTA_ur f) 1 else s
  if quiet then s
  else
    let fatal := s.on (e.severity f)
    let s := s.put (if fatal then R.CFG_DEVSTA_fatal f else R.CFG_DEVSTA_nonfatal f) 1
    let enabled := s.on (R.CFG_CMD_serr f)
      || s.on (if fatal then R.CFG_DEVCTL_fatal_en f else R.CFG_DEVCTL_nonfatal_en f)
    if s.on (e.mask f) || !enabled then s
    else
      let t := s.errMessage f (if fatal then 2 else 1)
      if s.on (R.CFG_CMD_serr f) then t.put (R.CFG_STATUS_sig_error f) 1 else t

/-- A correctable error of function f logged and reported (R243). -/
def State.aerCor (s : State) (f : Nat) (e : AerCor) : State :=
  let s := (s.put (e.status f) 1).put (R.CFG_DEVSTA_cor f) 1
  if s.on (e.mask f) || !s.on (R.CFG_DEVCTL_cor_en f) then s else s.errMessage f 0

/-- A poisoned payload completion is an advisory non-fatal error while its severity is non-fatal (R238). -/
def State.aerAdvisory (s : State) (f : Nat) (e : Aer) : State :=
  if s.on (e.severity f) then s.aer f e else (s.aer f e true).aerCor f .advisory

/-- An INT_HIF_EVT cause set; link_down, poisoned_rx, cpl_timeout and bad_access are events of source 28 (R258,
R593). -/
def State.hifRaise (s : State) (bit f : Nat) : State :=
  if bit < 2 then s.raise R.INT_HIF_EVT_cause bit (R.INT_HIF_EVT_CNT_count bit)
  else s.raiseF R.INT_HIF_EVT_cause bit (R.INT_HIF_EVT_CNT_count bit) 28 f

end Sys2Proof.Machine
end

