-- ==== Sys2Proof/Machine/Operands.lean ====
section
/-!
DEFINITION. The operand forms of the commands: what a received flit is to its receiver, and which register an access
names through each of its ways (R206, R224, R225, R228–R230).
-/

namespace Sys2Proof

/-- A received flit is poisoned: it came so, or its codeword was uncorrectable and its receiver marks it (R45, R206). -/
def FlitIn.poisoned (f : FlitIn) : Bool := f.poison || f.uncorr

end Sys2Proof

namespace Sys2Proof.Machine

/-- The offset that a BAR4 offset aliases in BAR0, for the first 0x100 bytes of a page (R229). -/
def bar4Alias (off : Nat) : Option Nat :=
  if off % 4096 < 0x100 then some (0x8000 + off / 4096 * 0x100 + off % 4096) else none

/-- The target is one that a master reaches: BAR2, BAR4 and configuration space are the functions' own. -/
def reaches (t : Target) (mid : Nat) : Bool :=
  match t with
  | .bar0 _ => true
  | _ => mid < 2

/-- Function f performs memory requests: Memory Space Enable is 1 and it is not in D3hot (R230). -/
def State.memEnabled (s : State) (f : Nat) : Bool := s.on (R.CFG_CMD_mse f) && !s.on (R.CFG_PM_d3 f)

/-- A memory request of a function that is not enabled; configuration requests are always performed. -/
def State.unsupported (s : State) (mid : Nat) : Target → Bool
  | .config _ => false
  | _ => mid < 2 && !s.memEnabled mid

/-- The base address field that word k of the base address registers of function f belongs to (R224). -/
def barFld (f : Nat) (k : Fin 6) : Fld :=
  if k.val < 2 then R.CFG_BAR0_addr f else if k.val < 4 then R.CFG_BAR2_addr f else R.CFG_BAR4_addr f

/-- The fields of a register of configuration space of function f that software writes, but for base addresses and
PowerState (R224, R225, R243). -/
def cfgFlds (f : Nat) : CfgReg → List Fld
  | .command => [R.CFG_CMD_mse f, R.CFG_CMD_bme f, R.CFG_CMD_parity f, R.CFG_CMD_serr f]
  | .status => [R.CFG_STATUS_master_parity f, R.CFG_STATUS_sig_abort f, R.CFG_STATUS_rcv_abort f,
      R.CFG_STATUS_rcv_master f, R.CFG_STATUS_sig_error f, R.CFG_STATUS_parity f]
  | .cacheLine => [R.CFG_MISC_line_size f]
  | .intLine => [R.CFG_INTLINE_line f]
  | .devctl => [R.CFG_DEVCTL_cor_en f, R.CFG_DEVCTL_nonfatal_en f, R.CFG_DEVCTL_fatal_en f, R.CFG_DEVCTL_ur_en f,
      R.CFG_DEVCTL_relaxed f, R.CFG_DEVCTL_mps f, R.CFG_DEVCTL_ext_tag f, R.CFG_DEVCTL_no_snoop f,
      R.CFG_DEVCTL_mrrs f]
  | .devStatus => [R.CFG_DEVSTA_cor f, R.CFG_DEVSTA_nonfatal f, R.CFG_DEVSTA_fatal f, R.CFG_DEVSTA_ur f]
  | .devctl2 => [R.CFG_DEVCTL2_cto_value f, R.CFG_DEVCTL2_cto_disable f, R.CFG_DEVCTL2_ido_req f,
      R.CFG_DEVCTL2_ido_cpl f, R.CFG_DEVCTL2_tag10 f]
  | .linkControl => [R.CFG_LINKCTL_aspm f, R.CFG_LINKCTL_rcb f, R.CFG_LINKCTL_common f, R.CFG_LINKCTL_extended f]
  | .msix => [R.CFG_MSIX_mask f, R.CFG_MSIX_enable f]
  | .aerUncorr => allAer.map (·.status f)
  | .aerSeverity => allAer.map (·.severity f)
  | .aerMask => allAer.map (·.mask f)
  | .aerCorr => allAerCor.map (·.status f)
  | .aerCorrMask => allAerCor.map (·.mask f)
  | .aerCap => [R.CFG_AER_CAP_first f]
  | .headerLog k => [R.CFG_HDRLOG_dword f k.val]
  | _ => []

/-- The bits of `mask` that R224 leaves to the specification, in register n. -/
def cfgOpenBits (n mask : Nat) : Nat := (Config.cfgOpen n).toNat &&& mask

/-- The header of the k-th capability of R225 in function f, as its ID, version and next offset. PF1 has the first
five. -/
def capHeader (f k : Nat) : Nat :=
  match k with
  | 0 => 0x4801
  | 1 => 0x6011
  | 2 => 0x0010
  | 3 => 0x14820001
  | 4 => if f = 0 then 0x15810003 else 0x00010003
  | 5 => if f = 0 then 0x16810019 else 0
  | 6 => if f = 0 then 0x19010026 else 0
  | _ => if f = 0 then 0x00010027 else 0

/-- What a register of configuration space of function f always holds (R224, R225). -/
def cfgFixed (f : Nat) : CfgReg → Nat
  | .ident => 0xA3D1 + (0x0740 + f) * 2 ^ 16
  | .revClass => 0x08800020
  | .headerType => 0x80
  | .subsystem => 0x0002A3D1
  | .capPtr => 0x40
  | .capability k => capHeader f k.val
  | .pmcap => cfgOpenBits 0 0x01FF
  | .pmcsr => 0x8
  | .msix => 3
  | .msixTable => 0xA800
  | .msixPba => 0xA900
  | .devcap => 0x10000022 + cfgOpenBits 1 0xEFFFFFD8
  | .linkcap => 0x824 + cfgOpenBits 2 0xFFFFF000
  | .devcap2 => 0x30013 + cfgOpenBits 3 0xFFF0C400
  | .status => 0x10
  | .pcieCap => 2
  | .other dw => (Config.cfgOpen (4 + 1024 * f + dw.toNat)).toNat
  | .serial high => if high then Config.serial.toNat / 2 ^ 32 else Config.serial.toNat % 2 ^ 32
  | _ => 0

end Sys2Proof.Machine
end

