-- ==== Sys2Proof/Machine/PtCode.lean ====
section
/-!
DEFINITION. The Pintle's physical coding: control blocks (R179), the RS(68,64) code and its groups (R180), and the flit
laid out in bytes with its check word (R181).
-/

namespace Sys2Proof.Machine

/-! ### GF(2⁸) (R180) -/

/-- A product by α = 0x02 modulo x⁸ + x⁴ + x³ + x² + 1. -/
def gfDouble (a : Nat) : Nat := if 128 ≤ a then (2 * a) ^^^ 0x11D else 2 * a

/-- The product of two field elements over the low `n` bits of the second. -/
def gfMulFrom : Nat → Nat → Nat → Nat
  | 0, _, _ => 0
  | n + 1, a, b => (if b % 2 = 1 then a else 0) ^^^ gfMulFrom n (gfDouble a) (b / 2)

def gfMul (a b : Nat) : Nat := gfMulFrom 8 a b

def gfPow (a : Nat) : Nat → Nat
  | 0 => 1
  | n + 1 => gfMul a (gfPow a n)

/-- The inverse of a field element: its power of 254. -/
def gfInv (a : Nat) : Nat :=
  let a2 := gfMul a a
  let a4 := gfMul a2 a2
  let a8 := gfMul a4 a4
  let a16 := gfMul a8 a8
  let a32 := gfMul a16 a16
  let a64 := gfMul a32 a32
  gfMul (gfMul (gfMul (gfMul a64 a64) a64) (gfMul a32 a16)) (gfMul (gfMul a8 a4) a2)

/-! ### RS(68,64) (R180) -/

/-- The coefficients of the generator with roots α⁰ to α³ below x⁴, that of x³ first. -/
def rsGen : List Nat := [0x0F, 0x36, 0x78, 0x40]

/-- One step of the division of the codeword by the generator: the remainder, highest coefficient first, after a byte. -/
def rsStep (r : List Nat) (b : Nat) : List Nat :=
  let q := r.headD 0 ^^^ b
  List.zipWith (fun x g => x ^^^ gfMul q g) (r.drop 1 ++ [0]) rsGen

/-- The four parity bytes of 64 bytes. DESIGN CHOICE, log entry 99: byte 0 of a codeword is the coefficient of x⁶⁷. -/
def rsParity (d : List Byte) : List Byte :=
  (d.foldl (fun r b => rsStep r b.toNat) [0, 0, 0, 0]).map (BitVec.ofNat 8)

/-- The syndrome of a word at α^j. -/
def rsSyndrome (w : List Byte) (j : Nat) : Nat :=
  w.foldl (fun v b => gfMul v (gfPow 2 j) ^^^ b.toNat) 0

/-- A word with a byte changed by an error value at the power i of x, of 67. -/
def rsFix (w : List Byte) (i e : Nat) : List Byte :=
  (w.zipIdx).map fun b => if b.2 + i = 67 then b.1 ^^^ BitVec.ofNat 8 e else b.1

/-- The powers of x, of 0–67, whose locators are roots of X² + p·X + q. -/
def rsRoots (p q : Nat) : List Nat :=
  (List.range 68).filter fun i =>
    let x := gfPow 2 i
    gfMul x x ^^^ gfMul p x ^^^ q == 0

/-- A received word of 68 bytes corrected in up to two bytes, with the number corrected; none where it is
uncorrectable. -/
def rsDecode (w : List Byte) : Option (List Byte × Nat) :=
  let s0 := rsSyndrome w 0
  let s1 := rsSyndrome w 1
  let s2 := rsSyndrome w 2
  let s3 := rsSyndrome w 3
  let det := gfMul s1 s1 ^^^ gfMul s0 s2
  if s0 = 0 && s1 = 0 && s2 = 0 && s3 = 0 then some (w, 0)
  else if det = 0 then
    match rsRoots 0 (gfMul (gfMul s1 s1) (gfInv (gfMul s0 s0))) with
    | [i] => if s0 ≠ 0 && s1 ≠ 0 && gfMul s2 s2 = gfMul s1 s3 then some (rsFix w i s0, 1) else none
    | _ => none
  else
    let p := gfMul (gfMul s1 s2 ^^^ gfMul s0 s3) (gfInv det)
    let q := gfMul (gfMul s2 s2 ^^^ gfMul s1 s3) (gfInv det)
    match rsRoots p q with
    | [i, j] =>
      let x := gfPow 2 i
      let y := gfPow 2 j
      let e := gfMul (s1 ^^^ gfMul s0 x) (gfInv (x ^^^ y))
      some (rsFix (rsFix w j e) i (s0 ^^^ e), 2)
    | _ => none

/-- Group byte g of two codewords is byte g mod 8 of block g div 8: 17 data blocks. -/
def groupBlocks (a b : List Byte) : List (List Byte) :=
  (List.range 17).map fun i => ((a ++ b).drop (8 * i)).take 8

/-- The self-synchronising scrambler 1 + x³⁹ + x⁵⁸ over the bits of a data block's payload, least significant bit of each
byte first: the last 58 scrambled bits, newest first, and the scrambled bits. -/
def scramble (st : List Bool) : List Bool → List Bool × List Bool
  | [] => (st, [])
  | b :: bs =>
    let o := xor b (xor (st.getD 38 false) (st.getD 57 false))
    let r := scramble ((o :: st).take 58) bs
    (r.1, o :: r.2)

/-! ### Control blocks (R179) -/

/-- What a TS block says of its sender. -/
structure TsInfo where
  rxSel : Nat
  recovery : Bool
  ready : Bool
  position : Nat
  valid : Bool
  addr : Nat
  assigned : Bool
deriving DecidableEq, Repr

/-- A TS1 (0x1E) or TS2 (0x2D) block on a physical lane. -/
def tsBlock (type lane : Nat) (t : TsInfo) : List Byte :=
  leBytes 1 type ++ leBytes 1 lane ++ leBytes 1 (t.rxSel + 8 * b2n t.recovery + 16 * b2n t.ready)
    ++ leBytes 2 (t.position + 2 ^ 15 * b2n t.valid) ++ leBytes 2 (t.addr + 2 ^ 15 * b2n t.assigned) ++ [0x01]

/-- A SPARE block. -/
def spareBlock (lane : Nat) : List Byte := leBytes 1 0x33 ++ leBytes 1 lane ++ zeros 6

/-- An ALIGN block, with the logical lane, 0xFF on the spare, and the marker count. -/
def alignBlock (lane logical count : Nat) : List Byte :=
  leBytes 1 0x4B ++ leBytes 1 lane ++ leBytes 1 logical ++ leBytes 2 count ++ zeros 3

/-- A received block is no sync error: a data block, or a control block of a type of R179. -/
def blockOk (sync : Nat) (b : List Byte) : Bool :=
  sync == 1 || (sync == 2 && [0x1E, 0x2D, 0x33, 0x4B].contains (fieldAt b 0 1))

/-! ### The flit in bytes (R181) -/

/-- Header bytes 0–11 of a flit. -/
def Flit.header (f : Flit) : List Byte :=
  leBytes 12 (f.type + f.dst % 1024 * 2 ^ 8 + f.src % 1024 * 2 ^ 18 + f.hops % 1024 * 2 ^ 28
    + f.payload.length % 64 * 2 ^ 38 + b2n f.poison * 2 ^ 44 + b2n f.bcast * 2 ^ 45 + b2n f.replay * 2 ^ 46
    + f.lseq % 65536 * 2 ^ 48 + f.lack % 65536 * 2 ^ 64 + f.cclass % 4 * 2 ^ 80 + f.ccount % 64 * 2 ^ 82)

/-- The 64 bytes of a flit, with the check word over its header bytes 0–11 (R40, R181). -/
def Flit.bytes (f : Flit) : List Byte := f.header ++ leBytes 4 (crc32c f.header) ++ fit 48 f.payload

/-- The RS codeword that carries a flit (R180). -/
def Flit.codeword (f : Flit) : List Byte := f.bytes ++ rsParity f.bytes

/-- A flit as a received codeword shows it: whether the codeword is uncorrectable, whether the header check passes, the
type, whether len is at most 48 and the zero fields are zero, and the fields (R39, R183). -/
structure RxFlit where
  uncorr : Bool
  header : Bool
  type : Nat
  shape : Bool
  fields : FlitIn
deriving DecidableEq, Repr

/-- A received codeword read (R180, R181). Where it is uncorrectable, its bytes stand as received. -/
def rxFlit (w : List Byte) : RxFlit :=
  let d := rsDecode w
  let b := (match d with
    | some x => x.1
    | none => w).take 64
  let h := leVal (b.take 12)
  let len := bits h 38 6
  { uncorr := d.isNone, header := fieldAt b 12 4 == crc32c (b.take 12), type := bits h 0 8,
    shape := len ≤ 48 && !h.testBit 47 && bits h 88 8 == 0,
    fields := { uncorr := d.isNone, dst := BitVec.ofNat 10 (bits h 8 10), src := BitVec.ofNat 10 (bits h 18 10),
                hops := BitVec.ofNat 10 (bits h 28 10), poison := h.testBit 44, bcast := h.testBit 45,
                lseq := BitVec.ofNat 16 (bits h 48 16), lack := BitVec.ofNat 16 (bits h 64 16),
                cclass := BitVec.ofNat 2 (bits h 80 2), ccount := BitVec.ofNat 6 (bits h 82 6),
                payload := (b.drop 16).take len } }

end Sys2Proof.Machine
end

