-- ==== Sys2Proof/Machine/Flits.lean ====
section
/-!
DEFINITION. The Pintle transmit and receive paths: credits, sequence numbers, replay buffer and routing
(R181, R182, R199–R205), and what a unit broadcasts (R185, R210).
-/

namespace Sys2Proof.Machine

/-! ### Types and classes -/

/-- The credit classes of R182. -/
inductive FClass where
  | lc | rsp | req
deriving DecidableEq, Repr

/-- The class of a flit type; the unsequenced types, and types R182 does not list, have none. -/
def flitClass (type : Nat) : Option FClass :=
  if 0x02 ≤ type && type ≤ 0x06 then some .lc
  else if type == 0x18 || type == 0x19 || type == 0x1F || type == 0x28 || type == 0x38 then some .rsp
  else if type == 0x10 || type == 0x11 || type == 0x20 || type == 0x30 then some .req
  else none

/-- Link-local types (R182). -/
def flitLocal (type : Nat) : Bool := type ≤ 0x01 || type == 0x04 || type == 0x05

/-! ### Ports -/

/-- Port UP is 0 and port DN is 1. -/
def State.pt (s : State) (p : Nat) : PtPort := if p = 0 then s.up else s.dn

def State.setPt (s : State) (p : Nat) (x : PtPort) : State :=
  if p = 0 then { s with up := x } else { s with dn := x }

/-- CHN_PTp_STATUS.state: 0 DOWN, 1 TRAIN, 2 ACTIVE, 3 RECOVERY, 4 IDLE (R220). -/
def State.ptState (s : State) (p : Nat) : Nat := s.get (R.CHN_PT_STATUS_state p)

def State.ptActive (s : State) (p : Nat) : Bool := s.ptState p == 2

/-- A CHN_PTp_EVT cause set; link_down, lane_swap, malformed, poison_accept and undeliverable are also events of
sources 16–21 (R219, R593). -/
def State.ptRaise (s : State) (p bit : Nat) (res : Nat := 0) : State :=
  let evt := R.CHN_PT_EVT_cause p
  let cnt := R.CHN_PT_EVT_CNT_count p bit
  if bit == 1 then s.raiseF evt bit cnt (16 + p) 0
  else if bit == 2 then s.raiseF evt bit cnt (18 + p) res
  else if bit ≥ 6 then s.raiseF evt bit cnt (20 + p) 0
  else s.raise evt bit cnt

/-! ### Transmission -/

/-- The credit return that the next transmitted flit carries, and the port without it (R202). DESIGN CHOICE, log entry
100: of several classes owed LC is returned first, then RSP, then REQ. -/
def PtPort.takeOwed (x : PtPort) : PtPort × Nat × Nat :=
  if x.oweLc ≠ 0 then ({ x with oweLc := x.oweLc - min 63 x.oweLc }, 1, min 63 x.oweLc)
  else if x.oweRsp ≠ 0 then ({ x with oweRsp := x.oweRsp - min 63 x.oweRsp }, 2, min 63 x.oweRsp)
  else if x.oweReq ≠ 0 then ({ x with oweReq := x.oweReq - min 63 x.oweReq }, 3, min 63 x.oweReq)
  else (x, 0, 0)

/-- Physical lanes that transmit on port p: those of logical lanes 0 and 1, and then the spare unless it is retired. -/
def State.txLanes (s : State) (p : Nat) : List Nat :=
  let a := s.get (R.CHN_PT_STATUS_tx0 p)
  let b := s.get (R.CHN_PT_STATUS_tx1 p)
  a :: b :: ((List.range 3).filter fun k => k != a && k != b && !s.bitOf (R.CHN_PT_STATUS_retired p) k)

/-- An ALIGN block on every lane, the spare included (R180). -/
def State.alignAll (s : State) (p n : Nat) : State :=
  (s.txLanes p).zipIdx.foldl (fun t k =>
    t.emit (.block p k.1 (alignBlock k.1 (if k.2 < 2 then k.2 else 255) (n % 65536)))) s

/-- A flit put on port p, with lack and a credit return filled in, its check word, and its codeword (R181, R203). After
every 512 groups of two codewords each lane carries an ALIGN block (R180). -/
def State.txFlit (s : State) (p : Nat) (f : Flit) : State :=
  let r := (s.pt p).takeOwed
  let lack := (s.get (R.CHN_PT_SEQ_rx_expected p) + 65535) % 65536
  let g := { f with lack := lack, cclass := r.2.1, ccount := r.2.2, holds := none }
  let n := r.1.flits + 1
  let s := (s.setPt p { r.1 with flits := n }).emit (.flit p g g.codeword)
  if n % 1024 = 0 then s.alignAll p (n / 1024) else s

def PtPort.credit (x : PtPort) : FClass → Nat
  | .lc => x.credLc
  | .rsp => x.credRsp
  | .req => x.credReq

def PtPort.spend (x : PtPort) : FClass → PtPort
  | .lc => { x with credLc := x.credLc - 1 }
  | .rsp => { x with credRsp := x.credRsp - 1 }
  | .req => { x with credReq := x.credReq - 1 }

/-- The oldest waiting flit of a class. -/
def PtPort.firstOf (x : PtPort) (c : FClass) : Option Flit := x.waiting.find? (fun f => flitClass f.type == some c)

/-- The flit that leaves next: link control, then responses, then requests, each only with a credit (R37, R202). -/
def PtPort.pick (x : PtPort) : Option (FClass × Flit) :=
  let try1 (c : FClass) : Option (FClass × Flit) :=
    if x.credit c = 0 then none else (x.firstOf c).map (fun f => (c, f))
  (try1 .lc).or ((try1 .rsp).or (try1 .req))

/-- A credit of a class owed to the peer, once its flit has been consumed or sent on (R202). -/
def PtPort.owe (x : PtPort) : FClass → PtPort
  | .lc => { x with oweLc := x.oweLc + 1 }
  | .rsp => { x with oweRsp := x.oweRsp + 1 }
  | .req => { x with oweReq := x.oweReq + 1 }

/-- The receive buffer in which a forwarded flit lay is free again, and its credit owed (R202). -/
def State.freed (s : State) (f : Flit) : State :=
  match f.holds, flitClass f.type with
  | some q, some c => s.setPt q ((s.pt q).owe c)
  | _, _ => s

/-- Waiting flits sent while the port is ACTIVE, holds credits, and has fewer than 256 flits unacknowledged (R202,
R205). -/
def State.pump (p : Nat) : Nat → State → State
  | 0, s => s
  | fuel + 1, s =>
    let x := s.pt p
    if !s.ptActive p || 256 ≤ x.unacked.length then s
    else match x.pick with
      | none => s
      | some (c, f) =>
        let seq := s.get (R.CHN_PT_SEQ_tx_next p)
        let g := { f with lseq := seq }
        let x := { x.spend c with waiting := x.waiting.erase f, unacked := x.unacked ++ [{ g with holds := none }] }
        let s := ((s.setPt p x).put (R.CHN_PT_SEQ_tx_next p) (seq + 1)).freed f
        State.pump p fuel (s.txFlit p g)

/-- Everything that can leave port p leaves. -/
def State.pumpAll (s : State) (p : Nat) : State := State.pump p (s.pt p).waiting.length s

/-- A sequenced flit handed to port p. A port that is neither ACTIVE nor in recovery sends nothing. -/
def State.sendOn (s : State) (p : Nat) (f : Flit) : State :=
  if s.ptState p == 2 || s.ptState p == 3 then
    let x := s.pt p
    (s.setPt p { x with waiting := x.waiting ++ [f] }).pumpAll p
  else s.freed f

/-- The port the map names for a chain address, if it has an entry (R200). -/
def State.routeTo (s : State) (dst : Nat) : Option Nat :=
  if s.on (R.CHN_MAP_valid dst) && !s.on (R.CHN_MAP_self dst) then some (s.get (R.CHN_MAP_port dst)) else none

/-- An addressed flit of the unit sent through the port its map names; without an entry no flit is sent (R200). -/
def State.sendTo (s : State) (type dst : Nat) (payload : List Byte) (poison : Bool := false) : State :=
  match s.routeTo dst with
  | none => s
  | some p => s.sendOn p { type := type, dst := dst, src := s.addr, payload := payload, poison := poison }

/-- A broadcast of the unit on one port. -/
def State.castOn (s : State) (p type : Nat) (payload : List Byte) : State :=
  s.sendOn p { type := type, src := s.addr, bcast := true, payload := payload }

/-- A broadcast of the unit on every ACTIVE port. -/
def State.cast (s : State) (type : Nat) (payload : List Byte) : State :=
  let s := if s.ptActive 0 then s.castOn 0 type payload else s
  if s.ptActive 1 then s.castOn 1 type payload else s

/-- The address word of ANNOUNCE and LINK_LOSS: bits 9:0, with bit 15 assigned (R182). -/
def State.addrWord (s : State) (assigned : Bool) : Nat := s.addr + b2n assigned * 2 ^ 15

/-- GLB_ID as a word (R160). -/
def glbId : Nat := 0x0740A3D1

/-- The payload of an ANNOUNCE (R182, R185). -/
def State.announcement (s : State) (assigned : Bool) : List Byte :=
  leBytes 2 (s.addrWord assigned) ++ leBytes 2 (s.get R.CHN_POS_position) ++ leBytes 4 glbId

/-- ANNOUNCE broadcast on every ACTIVE port (R185). -/
def State.announce (s : State) (assigned : Bool) : State := s.cast 0x02 (s.announcement assigned)

/-! ### Reception -/

/-- Credits a flit returns are added (R202). -/
def PtPort.gain (x : PtPort) (cclass n : Nat) : PtPort :=
  if cclass == 1 then { x with credLc := x.credLc + n }
  else if cclass == 2 then { x with credRsp := x.credRsp + n }
  else if cclass == 3 then { x with credReq := x.credReq + n }
  else x

/-- The unacknowledged flits that remain once the peer has accepted every flit through `lack` (R205). -/
def unackedAfter (base lack : Nat) (l : List Flit) : List Flit :=
  let n := (lack + 1 + 65536 - base % 65536) % 65536
  if n ≤ l.length then l.drop n else l

/-- lseq of the oldest unacknowledged flit, or the next to be sent. -/
def State.ackBase (s : State) (p : Nat) : Nat :=
  match (s.pt p).unacked with
  | [] => s.get (R.CHN_PT_SEQ_tx_next p)
  | f :: _ => f.lseq

/-- lack and returned credits of any arriving flit with a good header, then whatever may leave (R203, R205). -/
def State.rxHeader (s : State) (p : Nat) (f : FlitIn) : State :=
  let x := (s.pt p).gain f.cclass.toNat f.ccount.toNat
  (s.setPt p { x with unacked := unackedAfter (s.ackBase p) f.lack.toNat x.unacked }).pumpAll p

/-- Whether a sequenced flit with a good header is the one port p expects (R203); one whose codeword is uncorrectable is
accepted only after four discarded copies (R206). -/
def State.expects (s : State) (p : Nat) (f : FlitIn) : Bool :=
  s.ptActive p && f.lseq.toNat == s.get (R.CHN_PT_SEQ_rx_expected p) && (!f.uncorr || 4 ≤ (s.pt p).badCopies)

/-- A sequenced flit accepted: the expected number advances, lack and credits take effect, and the flit's own credit is
owed, where its type has a class (R183, R202, R203). Copies counted by R206 end with it. -/
def State.acceptAs (s : State) (p : Nat) (c : Option FClass) (f : FlitIn) : State :=
  let e := R.CHN_PT_SEQ_rx_expected p
  let s := s.put e (s.get e + 1)
  let s := if f.uncorr then (s.count (R.CHN_PT_UNCORR_CNT_count p)).ptRaise p 7 else s
  let x := s.pt p
  let x := match c with
    | some c => x.owe c
    | none => x
  (s.setPt p { x with badCopies := 0 }).rxHeader p f

/-- A flit of a class accepted. -/
def State.accept (s : State) (p : Nat) (c : FClass) (f : FlitIn) : State := s.acceptAs p (some c) f

/-- Whether a flit on port p is consumed here: link-local and broadcast flits always, an addressed one when its
destination is the unit's own address and the unit is ASSIGNED (R199). -/
def State.consumes (s : State) (f : FlitIn) : Bool := f.bcast || (s.assigned && f.dst.toNat == s.addr)

/-- The condition under which an addressed flit reaches its destination here: accepted, and its own address. -/
def State.arrives (s : State) (p : Nat) (f : FlitIn) : Bool :=
  s.expects p f && s.assigned && f.dst.toNat == s.addr && !f.bcast

/-- Until boot step 3 a REQ flit addressed to the unit is answered NO_ROUTE reason 1 (R215). -/
def State.inReset (s : State) : Bool := s.get R.GLB_BOOT_STATUS_stage < 2

/-- NO_ROUTE to a source: type of the refused flit, reason, and the refused payload's first two bytes (R182). -/
def State.noRoute (s : State) (dst type reason : Nat) (payload : List Byte) : State :=
  s.sendTo 0x1F dst ([BitVec.ofNat 8 type, BitVec.ofNat 8 reason] ++ fit 2 payload)

/-- A broadcast forwarded through the other port when that port is ACTIVE and hops is below 1,023 (R199, R218). -/
def State.relay (s : State) (p type : Nat) (f : FlitIn) : State :=
  if s.ptActive (1 - p) && f.hops.toNat < 1023 then
    s.sendOn (1 - p)
      { type := type, src := f.src.toNat, hops := f.hops.toNat + 1, bcast := true, poison := f.poisoned,
        payload := f.payload }
  else s

end Sys2Proof.Machine
end

