-- ==== Sys2Proof/Machine/Lands.lean ====
section
/-!
DEFINITION. The multiplexed lands and the functions that they offer (R67), which function is attached where (R68, R672),
and the levels that the inputs of functions see (R69).
-/

namespace Sys2Proof.Machine

/-- The classes of functions with a kernel clock (R72). -/
inductive PinClass where
  | can | lin | sent | ser | card | lxb | tim | gpio
deriving DecidableEq, Repr

/-- A function of the multiplexer: class, instance and signal. CAN: TX, RX, STB. LIN: TX, RX, EN. SER: TX, RX, RTS_N,
CTS_N. CARD: IO, CLK, RST, PRES, VCCEN. LXB: AD0–AD15, CS0_N–CS3_N, CLK, ALE, RD_N, WR_N, WAIT_N, LOCK, IRQ0–IRQ3. TIM:
PPS0, PPS1, CAP0, CAP1. GPIO: the pin is the instance. -/
structure PinFn where
  cls : PinClass
  idx : Nat
  sig : Nat
deriving DecidableEq, Repr

/-- The primary function of land MXn (R67). -/
def primaryFn (n : Nat) : Option PinFn :=
  if n < 32 then some ⟨.can, n / 2, n % 2⟩
  else if n < 48 then some ⟨.can, n - 32, 2⟩
  else if n < 64 then some ⟨.lin, (n - 48) / 2, n % 2⟩
  else if n < 72 then some ⟨.lin, n - 64, 2⟩
  else if n < 76 then some ⟨.sent, n - 72, 0⟩
  else if n < 92 then some ⟨.ser, (n - 76) / 4, (n - 76) % 4⟩
  else if n < 102 then some ⟨.card, (n - 92) / 5, (n - 92) % 5⟩
  else if n < 106 then some ⟨.tim, 0, n - 102⟩
  else if 112 ≤ n && n < 142 then some ⟨.lxb, 0, n - 112⟩
  else none

/-- The alternate function of land MXn (R67). -/
def alternateFn (n : Nat) : Option PinFn :=
  if 32 ≤ n && n < 48 then some ⟨.lxb, 0, n - 32⟩
  else if 72 ≤ n && n < 74 then some ⟨.tim, 0, n - 70⟩
  else if 142 ≤ n && n < 174 then some ⟨.can, (n - 142) / 2, n % 2⟩
  else none

/-- The function that encoding `sel` chooses on land n; none where it is reserved or parks (R67, R91). -/
def landFn (n sel : Nat) : Option PinFn :=
  if sel = 1 then primaryFn n else if sel = 2 then alternateFn n
  else if sel = 3 then some ⟨.gpio, n % 48, 0⟩ else none

/-- Whether an encoding of sel is not reserved on land n (R87). -/
def selOk (n sel : Nat) : Bool := sel == 0 || (landFn n sel).isSome

/-- The lands that offer a function (R67). -/
def fnLands (f : PinFn) : List Nat :=
  match f.cls with
  | .can => if f.sig = 2 then [32 + f.idx] else [2 * f.idx + f.sig, 142 + 2 * f.idx + f.sig]
  | .lin => if f.sig = 2 then [64 + f.idx] else [48 + 2 * f.idx + f.sig]
  | .sent => [72 + f.idx]
  | .ser => [76 + 4 * f.idx + f.sig]
  | .card => [92 + 5 * f.idx + f.sig]
  | .tim => if f.sig < 2 then [102 + f.sig] else [102 + f.sig, 70 + f.sig]
  | .lxb => if f.sig < 16 then [112 + f.sig, 32 + f.sig] else [112 + f.sig]
  | .gpio => [f.idx, 48 + f.idx, 96 + f.idx, 144 + f.idx]

/-- The boundary register drives the lands it covers, and every function on them is detached (R672). -/
def State.tapDrives (s : State) : Bool := s.tap == .extest || s.tap == .clamp || s.tap == .highz

/-- The land to which a function is attached now (R68, R672). -/
def State.landOf (s : State) (f : PinFn) : Option Nat :=
  if s.tapDrives then none
  else (fnLands f).find? fun n => landFn n (s.get (R.PIN_CFG_attached n)) == some f

/-- A function is attached to some land now. -/
def State.attached (s : State) (f : PinFn) : Bool := (s.landOf f).isSome

/-- What a function puts on its land; its output is discarded while it is attached to none (R69). -/
def State.emitOn (s : State) (f : PinFn) (o : Out) : State := if s.attached f then s.emit o else s

/-- A GPIO input: 0 while the function is attached to no land (R69). -/
def State.gpioLevel (s : State) (pin : Nat) : Bool := s.attached ⟨.gpio, pin, 0⟩ && s.gpioIn.testBit pin

/-- The LXB interrupt inputs, one bit each: 0 where the function is attached to no land (R69, R246). -/
def State.lxbIrqs (s : State) : Nat :=
  ((List.range 4).map fun n => if s.attached ⟨.lxb, 0, 26 + n⟩ && s.lxbIrq.testBit n then 2 ^ n else 0).sum

/-- A bit of a value put. -/
def putBit (x i : Nat) (b : Bool) : Nat := if b then setBit x i else clearBits x (2 ^ i)

end Sys2Proof.Machine
end

