-- ==== Sys2Proof/Machine/Mailbox.lean ====
section
/-!
DEFINITION. Mailbox channels, the Tumbler lock and the Keyway (R261–R276).
-/

namespace Sys2Proof.Machine

/-- A master at a register: MID, and the chain address where the access began (R28). -/
structure Who where
  mid : Nat
  addr : Nat := 0
deriving DecidableEq, Repr

/-- The identity that owns a lock: the chain address counts only with MID 4 (R266). -/
def Who.key (w : Who) : Nat × Nat := (w.mid, if w.mid = 4 then w.addr else 0)

def State.chan (s : State) (c : Nat) : Chan := (tget s.chans c).getD {}

def State.setChan (s : State) (c : Nat) (x : Chan) : State := { s with chans := tput s.chans c x {} }

/-- Whether a MID is the bound sender of channel c; MIDs 8–15 match nothing (R29, R261). -/
def State.isSender (s : State) (c mid : Nat) : Bool :=
  s.on (R.KWY_BIND_valid c) && mid < 8 && s.get (R.KWY_BIND_sender c) == mid

/-- Whether a MID is the bound receiver of channel c. -/
def State.isReceiver (s : State) (c mid : Nat) : Bool :=
  s.on (R.KWY_BIND_valid c) && mid < 8 && s.get (R.KWY_BIND_receiver c) == mid

/-- A Keyway violation recorded and counted, also in source 5 with the channel as resource (R262). -/
def State.keywayViolation (s : State) (c : Nat) (w : Who) (write : Bool) : State :=
  let s := s.raise R.KWY_VIOL_cause 0 (R.KWY_CNT_count 0)
  let s := (((s.flag R.KWY_VIOL_write write).put R.KWY_VIOL_mid w.mid).put R.KWY_VIOL_channel c).put R.KWY_VIOL_addr
    w.key.2
  s.fault { src := 5, detail := 0, res := c, mid := some w.mid, addr := if w.mid = 4 then some w.addr else none }

/-- An MBX_c_EVT cause set and counted. -/
def State.mbxRaise (s : State) (c bit : Nat) : State := s.raise (R.MBX_EVT_cause c) bit (R.MBX_CNT_count c bit)

/-! ### The Tumbler -/

/-- A read of MBX_c_TUMBLER: the lock taken, or the owner's MID + 1 (R266). -/
def State.tumblerRead (s : State) (c : Nat) (w : Who) : State × Nat :=
  if !s.isSender c w.mid then (s.keywayViolation c w false, 0)
  else match (s.chan c).owner with
    | none => (s.setChan c { s.chan c with owner := some w.key }, 0)
    | some o => (s, if o = w.key then 0 else o.1 + 1)

/-- Whether a master owns the Tumbler of channel c. -/
def State.ownsTumbler (s : State) (c : Nat) (w : Who) : Bool := (s.chan c).owner == some w.key

/-- A write to MBX_c_TUMBLER: owner MID + 1 by the owner frees the lock, every other write is ignored (R267). -/
def State.tumblerWrite (s : State) (c : Nat) (w : Who) (v : Nat) : State :=
  if !s.isSender c w.mid then s.keywayViolation c w true
  else if s.ownsTumbler c w && v == w.mid + 1 then s.setChan c { s.chan c with owner := none }
  else s

/-- Tumblers whose owner matches a test are freed (R268). -/
def State.freeTumblers (s : State) (p : Nat × Nat → Bool) : State :=
  (List.range 16).foldl (fun s c =>
    match (s.chan c).owner with
    | some o => if p o then s.setChan c { s.chan c with owner := none } else s
    | none => s) s

/-! ### Sending -/

/-- Whether the sender may write the transmit side now: it owns the Tumbler and no copy is due (R269, R270). -/
def State.mayTransmit (s : State) (c : Nat) (w : Who) : Bool := s.ownsTumbler c w && !(s.chan c).going

/-- A write of MBX_c_TXw (R262, R269, R270). -/
def State.txWordWrite (s : State) (c i : Nat) (w : Who) (v : Nat) : State :=
  if !s.isSender c w.mid then s.keywayViolation c w true
  else if s.mayTransmit c w then s.put (R.MBX_TX_word c i) v
  else s.mbxRaise c 2

/-- go = 1 written to MBX_c_CTL (R269, R270). -/
def State.mailboxGo (s : State) (c : Nat) (w : Who) (release : Bool) : State :=
  if !s.isSender c w.mid then s.keywayViolation c w true
  else if s.mayTransmit c w then s.setChan c { s.chan c with going := true, goRelease := release, goBy := w.key }
  else s.mbxRaise c 2

/-- Length of a message from its header word: 8 to 16, or 16 words of a malformed one (R270). -/
def msgLen (w0 : Nat) : Nat := if 8 ≤ w0 % 32 && w0 % 32 ≤ 16 then w0 % 32 else 16

/-- The staging stage is free: the words of go are copied into it with the identity that wrote go, and with release the
lock is freed where that identity still owns it (R268, R270, R272). -/
def State.mailboxCopy (s : State) (c : Nat) : State :=
  let x := s.chan c
  if x.going && x.staging.isNone then
    let o := x.goBy
    let n := msgLen (s.get (R.MBX_TX_word c 0))
    let m : Msg := { mid := o.1, addr := o.2, words := (List.range n).map fun i => s.get (R.MBX_TX_word c i) }
    s.setChan c { x with going := false, goRelease := false, staging := some m,
                         owner := if x.goRelease && x.owner == some o then none else x.owner, goBy := (0, 0) }
  else s

/-- The bytes of 32-bit words (R5). -/
def wordBytes (ws : List Nat) : List Byte := ws.flatMap (leBytes 4)

/-- Whether a message is well formed: length, kind, zero field and check word (R264, R265). -/
def msgOk (ws : List Nat) : Bool :=
  let w0 := ws.headD 0
  8 ≤ w0 % 32 && w0 % 32 ≤ 16 && bits w0 5 3 ≤ 2 && bits w0 24 8 == 0 && ws.length == w0 % 32
    && ws.getLastD 0 == crc32c (wordBytes ws.dropLast)

/-- A message that has passed its check, counted and delivered, or dropped on a full queue (R271). -/
def State.mailboxDeliver (s : State) (c : Nat) (m : Msg) : State :=
  let s := s.count (R.MBX_CNT_count c 4)
  let x := s.chan c
  if x.queue.length < 4 then s.setChan c { x with queue := x.queue ++ [m] } else s.mbxRaise c 0

/-- The staging stage checks its message (R265, R271). -/
def State.mailboxCheck (s : State) (c : Nat) : State :=
  let x := s.chan c
  match x.staging with
  | none => s
  | some m =>
    let s := s.setChan c { x with staging := none }
    if msgOk m.words then s.mailboxDeliver c m
    else (s.mbxRaise c 1).fault { src := 5, detail := 1, res := c, mid := some m.mid,
                                  addr := if m.mid = 4 then some m.addr else none }

/-! ### Receiving -/

/-- The head message removed by the hardware. -/
def State.mailboxDrop (s : State) (c : Nat) : State :=
  let x := s.chan c
  s.setChan c { x with queue := x.queue.drop 1 }

/-- pop = 1 written to MBX_c_CTL (R262, R273). -/
def State.mailboxPop (s : State) (c : Nat) (w : Who) : State :=
  if !s.isReceiver c w.mid then s.keywayViolation c w true
  else if (s.chan c).queue.isEmpty then s.mbxRaise c 3
  else s.mailboxDrop c

/-- A write of MBX_c_CTL by a party of the channel: the sender's fields and the receiver's fields each take effect for
the party that reaches them, and a 1 written to go or pop by the other is a violation (R262, R288). -/
def State.mbxCtlWrite (s : State) (c : Nat) (w : Who) (v : Nat) : State :=
  if !s.isSender c w.mid && !s.isReceiver c w.mid then s.keywayViolation c w true
  else
    let s := if v.testBit 0 then s.mailboxGo c w (v.testBit 1) else s
    let s := if v.testBit 2 then s.mailboxPop c w else s
    if s.isReceiver c w.mid then
      (s.put (R.MBX_CTL_notice_en c) (bits v 8 1)).put (R.MBX_CTL_evt_en c) (bits v 9 1)
    else s

/-- Whether channel c has a receive notice (R274). -/
def State.mbxNotice (s : State) (c : Nat) : Bool :=
  (!(s.chan c).queue.isEmpty && s.on (R.MBX_CTL_notice_en c))
    || ((s.bitOf (R.MBX_EVT_cause c) 0 || s.bitOf (R.MBX_EVT_cause c) 1) && s.on (R.MBX_CTL_evt_en c))

/-- Word w of the head message; 0 beyond its length and on an empty queue (R272). -/
def State.mbxRx (s : State) (c i : Nat) : Nat :=
  match (s.chan c).queue with
  | [] => 0
  | m :: _ => m.words.getD i 0

/-! ### The Keyway -/

/-- A refused write of the Keyway (R275): a violation when another MID makes it, and under the lock a locked write whoever
makes it. -/
def State.keywayRefused (s : State) (c : Nat) (w : Who) : State :=
  let s := if s.on R.KWY_CTL_lock then s.raise R.KWY_VIOL_cause 1 (R.KWY_CNT_count 1) else s
  if w.mid = 2 then s else s.keywayViolation c w true

/-- A channel emptied, its Tumbler freed and its causes cleared (R276). -/
def State.emptyChan (s : State) (c : Nat) : State := (s.setChan c {}).put (R.MBX_EVT_cause c) 0

/-- A write of KWY_BINDc (R275, R276). A write of the value it holds is no change, and empties nothing. -/
def State.keywayBind (s : State) (c : Nat) (w : Who) (v : Nat) : State :=
  if w.mid ≠ 2 || s.on R.KWY_CTL_lock then s.keywayRefused c w
  else
    let t := ((s.put (R.KWY_BIND_sender c) (bits v 0 4)).put (R.KWY_BIND_receiver c) (bits v 4 4)).put
      (R.KWY_BIND_valid c) (bits v 8 1)
    if t.regs = s.regs then s else t.emptyChan c

/-- A write of KWY_CTL (R12, R275): the lock is set and never cleared by a write. It belongs to no channel: DESIGN CHOICE, log
entry 110, KWY_VIOL.channel of a violating write shows 0. -/
def State.keywayLock (s : State) (w : Who) (v : Nat) : State :=
  if w.mid ≠ 2 || s.on R.KWY_CTL_lock then s.keywayRefused 0 w
  else s.put R.KWY_CTL_lock (bits v 0 1)

/-! ### The commands -/

/-- The master of an access, from the operands of a command. -/
def who (mid : BitVec 4) (origin : BitVec 10) : Who := { mid := mid.toNat, addr := origin.toNat }

/-- TUMBLER_READ (R266). -/
def tumblerReadEff (c : Fin 16) (mid : BitVec 4) (origin : BitVec 10) (s : State) : State :=
  let r := s.tumblerRead c (who mid origin)
  { r.1 with readData := r.2 }

/-- TUMBLER_RELEASE (R267). -/
def tumblerReleaseEff (c : Fin 16) (mid : BitVec 4) (origin : BitVec 10) (value : BitVec 5) (s : State) : State :=
  s.tumblerWrite c (who mid origin) value.toNat

/-- MAILBOX_GO (R269, R270). -/
def mailboxGoEff (c : Fin 16) (mid : BitVec 4) (origin : BitVec 10) (release : Bool) (s : State) : State :=
  s.mailboxGo c (who mid origin) release

end Sys2Proof.Machine
end

