-- ==== Sys2Proof/Machine/Interrupts.lean ====
section
/-!
DEFINITION. The interrupt sources of the two functions: contributors, gated levels, pins and MSI-X messages
(R245–R250, R274, R318, R601).
-/

namespace Sys2Proof.Machine

/-- Ring m contributes to INTQ of its owner: a cause is set and its notification is enabled (R318). -/
def State.ringInt (s : State) (m : Nat) : Bool :=
  (s.ring m).exist && s.get (R.QMG_CR_EVT_cause m) != 0 && s.on (R.QMG_CR_INT_en m)

/-- INT_PFf_QSRC: rings owned by f that contribute. -/
def State.qsrc (s : State) (f m : Nat) : Bool := s.ringInt m && (s.ring m).owner == f

/-- INT_PFf_MSRC bit c: a receive notice whose receiver is MID f (R274). -/
def State.msrc (s : State) (f c : Nat) : Bool := s.isReceiver c f && s.mbxNotice c

/-- A fault source's pending bit (R601). -/
def State.pending? (s : State) (n : Nat) : Bool := s.bitOf (R.FLT_PEND_pend (n / 32)) (n % 32)

/-- The fault-collector notify contribution to INTF of function f (R601): for sources 116 and 117, of the function
that owned the region of the last severe event. -/
def State.fltInt (s : State) (f : Nat) : Bool :=
  (List.range 128).any (fun n =>
    s.pending? n &&
      let o := (tget s.fltOwner n).getD 7
      if o < 2 then o == f else (s.get (R.FLT_SRC_CFG_to_pf n)).testBit f)
    || (!s.chain1.items.isEmpty && s.bitOf R.FLT_CTL_evq_pf f)

/-- The control processor's interrupt: fault sources, the fault event chain, and mailbox notices for MID 2 (R274, R601,
R622). -/
def State.cpInt (s : State) : Bool :=
  (List.range 128).any (fun n =>
    s.pending? n && (s.on (R.FLT_SRC_CFG_to_cp n) || tget s.fltOwner n == some 2))
    || (!s.chain1.items.isEmpty && s.on R.FLT_CTL_evq_cp)
    || (List.range 16).any (s.msrc 2)

/-- An enabled CHN_PTp_EVT cause is set. -/
def State.chnInt (s : State) : Bool :=
  (List.range 2).any fun p => (s.get (R.CHN_PT_EVT_cause p) &&& s.get (R.CHN_PT_INT_EN_en p)) != 0

/-- INT_FSRC bits 0–5 for function f: flt, chn, hng, glb, clk, hif. -/
def State.fsrc (s : State) (f : Nat) : Nat :=
  b2n (s.fltInt f) + 2 * b2n s.chnInt + 4 * b2n ((s.get R.HNG_EVT_cause &&& s.get R.HNG_INT_EN_en) != 0)
    + 8 * b2n (s.get R.GLB_BOOT_EVT_cause != 0) + 16 * b2n (s.get R.CLK_EVT_cause != 0)
    + 32 * b2n ((s.get R.INT_HIF_EVT_cause &&& s.get R.INT_HIF_INT_EN_en) != 0)

/-- INT_ESRC: pwr, hup, thm. -/
def State.esrc (s : State) : Nat :=
  b2n ((s.get R.PWR_STATUS_cause &&& s.get R.PWR_INT_EN_en) != 0)
    + 2 * b2n ((s.get R.HUP_STATUS_cause &&& s.get R.HUP_INT_EN_en) != 0)
    + 4 * b2n ((s.get R.THM_EVT_cause &&& s.get R.THM_INT_EN_en) != 0)

/-- The OR of the contributors of source x of function f: 0 INTQ, 1 INTM, 2 INTF, 3 INTE (R245). -/
def State.rawLevel (s : State) (f x : Nat) : Bool :=
  if x = 0 then (List.range 65).any (s.qsrc f)
  else if x = 1 then (List.range 16).any (s.msrc f)
  else if x = 2 then s.fsrc f != 0 || (s.lxbIrqs &&& s.get R.INT_LXB_EN_en) != 0
  else s.esrc != 0

/-- The gated level of source x of function f (R246). -/
def State.level (s : State) (f x : Nat) : Bool := s.bitOf (R.INT_PF_EN_en f) x && s.rawLevel f x

/-- The level that drives interrupt pin x: PF0, PF1, either or none (R250). -/
def State.pinLevel (s : State) (x : Nat) : Bool :=
  let sel := bits (s.get R.INT_PIN_CTL_src) (2 * x) 2
  if sel = 0 then s.level 0 x else if sel = 1 then s.level 1 x else if sel = 2 then s.level 0 x || s.level 1 x else false

/-- Whether a due message of vector x of function f is sent at once (R248). -/
def State.msixOpen (s : State) (f x : Nat) : Bool :=
  s.on (R.CFG_MSIX_enable f) && !s.on (R.CFG_MSIX_mask f) && !s.on (R.MSIX_VCTL_mask f x) && s.busMaster f

/-- The posted write of a vector's message (R249). -/
def State.msixPost (s : State) (f x : Nat) : State :=
  s.posts f [{ addr := s.get (R.MSIX_ADDR_addr f x), data := leBytes 4 (s.get (R.MSIX_DATA_data f x)), kind := .msix x }]

/-- A message of vector x that becomes due: sent, dropped while MSI-X is off, or marked pending (R248). -/
def State.msixDue (s : State) (f x : Nat) : State :=
  if s.msixOpen f x then s.msixPost f x
  else if !s.on (R.CFG_MSIX_enable f) then s
  else s.put (R.MSIX_PBA_pending f) (setBit (s.get (R.MSIX_PBA_pending f)) x)

/-- A message of vector x of function f is staged. -/
def State.msixStaged (s : State) (f x : Nat) : Bool := (s.fn f).posts.any fun p => p.kind == .msix x

/-- A gated level has fallen: the pending bit of the vector is cleared, and a message staged for it is withdrawn (R248). -/
def State.levelFell (s : State) (f x : Nat) : State :=
  let s := { s with lastLevel := tdel s.lastLevel (4 * f + x) }
  if s.bitOf (R.MSIX_PBA_pending f) x then
    (s.put (R.MSIX_PBA_pending f) (clearBits (s.get (R.MSIX_PBA_pending f)) (2 ^ x))).setFn f
      { s.fn f with posts := (s.fn f).posts.filter fun p => p.kind != .msix x }
  else s

/-- The gated levels that were 1 when last seen, seen again for falls (R247, R248). -/
def State.levelFalls (s : State) : State :=
  s.lastLevel.foldl (fun t e => if t.level (e.1 / 4) (e.1 % 4) then t else t.levelFell (e.1 / 4) (e.1 % 4)) s

/-- A gated level seen to be 1. -/
def State.levelHigh (s : State) (f x : Nat) : State := { s with lastLevel := tset s.lastLevel (4 * f + x) true }

/-- The gated level of a source seen again: a rise makes a message due (R247). -/
def State.levelSeen (s : State) (f x : Nat) : State :=
  if !s.level f x then s.levelFell f x
  else if (tget s.lastLevel (4 * f + x)).getD false then s
  else (s.levelHigh f x).msixDue f x

/-- A pending message whose conditions have come to hold is sent, once; its bit is cleared when it leaves (R248). -/
def State.msixPending (s : State) (f x : Nat) : State :=
  if s.bitOf (R.MSIX_PBA_pending f) x && s.msixOpen f x && s.level f x && !s.msixStaged f x then s.msixPost f x else s

/-- INT_PFf_REARM: a message is due for each set bit whose level is 1 (R247). A rise in the same cycle makes no second
one due (R257). -/
def State.rearm (s : State) (f v : Nat) : State :=
  (List.range 4).foldl (fun s x => if v.testBit x && s.level f x then (s.levelHigh f x).msixDue f x else s) s

end Sys2Proof.Machine
end

