-- ==== Sys2Proof/Machine/Trace.lean ====
section
/-!
DEFINITION. Trace items: what a producer pushes into the trace staging chain (R660–R664, R668), and the words of an
entry.
-/

namespace Sys2Proof.Machine

/-- The classes of trace entries: the bit of TRC_CTL.class that enables the type, or `always` (R663). -/
inductive TrcClass where
  | program | queue | fault | mark | always
deriving DecidableEq, Repr

/-- The fields of an entry that its producer gives (R661). -/
structure TrcItem where
  type : Nat
  mid : Nat := 0
  tag : Option Nat := none
  sq : Nat := 0
  status : Nat := 0
  arg0 : Nat := 0
  arg1 : Nat := 0
deriving DecidableEq, Repr

/-- The timestamp of an entry: monotonic time and the core cycle within its microsecond (R662). -/
def State.trcTime (s : State) : Nat := s.now % 2 ^ 54 * 1024 + s.cycle % 1024

/-- The four words of an entry pushed at a time (R661). -/
def trcWords (time : Nat) (i : TrcItem) : List Nat :=
  let tag := match i.tag with
    | none => 0
    | some t => t % 2048 + 2 ^ 15
  [time,
   i.type % 256 + i.mid % 16 * 2 ^ 8 + tag * 2 ^ 16 + i.sq % 256 * 2 ^ 32 + i.status % 256 * 2 ^ 40,
   i.arg0 % 2 ^ 64, i.arg1 % 2 ^ 64]

/-- TRC_CTL.class bit of a class (R684). -/
def TrcClass.bit : TrcClass → Option Nat
  | .program => some 0
  | .queue => some 1
  | .fault => some 2
  | .mark => some 3
  | .always => none

/-- Whether recording and the item's class are on (R663, R668). -/
def State.trcOn (s : State) (c : TrcClass) : Bool :=
  s.on R.TRC_CTL_en && (match c.bit with | none => true | some b => s.bitOf R.TRC_CTL_class b)

/-- An item offered by a producer: pushed with its timestamp, counted for WAKE during the QUIET pause, dropped and
counted on a full chain, or ignored while its class or recording is off (R664, R668, R377). The answer says whether
it entered the chain. -/
def State.tracePush (s : State) (c : TrcClass) (i : TrcItem) (hand : Bool := true) : State × Bool :=
  if !s.trcOn c then (s, false)
  else if s.trcPaused then ({ s with wakeCount := s.wakeCount + 1 }, false)
  else s.chainPush 2 (packetOf (trcWords s.trcTime i)) hand

/-- An item offered whose fate its producer does not watch. -/
def State.trace (s : State) (c : TrcClass) (i : TrcItem) (hand : Bool := true) : State := (s.tracePush c i hand).1

/-- The start marker of R664 pushed at the release of a reset that does not end KEEP or OFF. -/
def State.traceStart (s : State) (kept : Bool) : State :=
  s.trace .always { type := 0x40, status := s.get R.GLB_RESET_CAUSE_cause, arg0 := s.now, arg1 := b2n kept }

end Sys2Proof.Machine
end

