-- ==== Sys2Proof/Machine/Rings.lean ====
section
/-!
DEFINITION. Submission queues and completion rings: pointers, reservations, completion records and how they are
posted (R291–R300, R315–R318).
-/

namespace Sys2Proof.Machine

/-! ### Statuses (R300) -/

def stSuccess : Nat := 0x00
def stAborted : Nat := 0x01
def stInterrupted : Nat := 0x02
def stPoisoned : Nat := 0x03
def stFarGone : Nat := 0x04
def stLoopLimit : Nat := 0x05
def stHostReadError : Nat := 0x06
def stMalformedCcw : Nat := 0x07
def stMalformedFragment : Nat := 0x08
def stTimeout : Nat := 0x09
def stDeviceError : Nat := 0x0A
def stLength : Nat := 0x0B
def stBadDevice : Nat := 0x0C
def stQuarantined : Nat := 0x0D
def stMalformedEntry : Nat := 0x0E

/-! ### Queues -/

def State.sq (s : State) (n : Nat) : Sq := (tget s.sqs n).getD {}

def State.setSq (s : State) (n : Nat) (x : Sq) : State := { s with sqs := tput s.sqs n x {} }

/-- Pointer arithmetic modulo 2D (R294). -/
def ptrAdd (log2 p n : Nat) : Nat := (p + n) % 2 ^ (log2 + 1)

/-- (a − b) mod 2D. -/
def ptrDiff (log2 a b : Nat) : Nat := (a + 2 ^ (log2 + 1) - b % 2 ^ (log2 + 1)) % 2 ^ (log2 + 1)

/-- The slot a pointer names (R294). -/
def ptrSlot (log2 p : Nat) : Nat := p % 2 ^ log2

/-- Published entries not yet fetched: T − H (R294). -/
def Sq.published (q : Sq) : Nat := ptrDiff q.log2 q.t q.h

/-- Tags held by a queue's programs (R325). -/
def State.held (s : State) (n : Nat) : Nat := (s.progs.filter (fun e => e.2.sq == n)).length

/-- The state of a queue changes: a QUEUE trace entry (R663). R27 gives the queue manager no MID; DESIGN CHOICE, log entry
84: the entry carries MID 0. -/
def State.traceSq (s : State) (n : Nat) : State :=
  let q := s.sq n
  s.trace .queue { type := 0x10, sq := n, status := q.state, arg0 := q.err, arg1 := q.errVal }

/-- Queue n put into a state and traced. -/
def State.sqTo (s : State) (n st : Nat) : State := (s.setSq n { s.sq n with state := st }).traceSq n

/-- The read fetches entries of SQ n. -/
def ReadFor.ofQueue (n : Nat) : ReadFor → Bool
  | .entries k _ => k == n
  | .admin _ => n == 0
  | _ => false

/-- Fetch reads of SQ n that have not ended are abandoned: its fetching has stopped (R311, R319, R323). -/
def State.dropFetch (s : State) (n : Nat) : State :=
  let f := (s.sq n).owner
  s.setFn f ((s.fn f).abandon fun r => r.purpose.ofQueue n)

/-- Queue n enters ERROR with a cause and the latched value; source 10 counts it (R310, R322, R323). -/
def State.sqError (s : State) (n err val : Nat) : State :=
  (((s.dropFetch n).setSq n { s.sq n with state := 3, err := err, errVal := val }).traceSq n).fault { src := 10, detail := 0, res := n }

/-! ### Rings -/

/-- The ring a queue is bound to: the admin ring, 64, for SQ 0 (R291). -/
def State.ringOf (s : State) (n : Nat) : Nat := if n = 0 then 64 else (s.sq n).cr

/-- Posted records the host has not released: P of R315. -/
def Ring.posted (r : Ring) : Nat := ptrDiff r.log2 r.tail r.head

/-- Ring m has a free slot to reserve: P + Q < D (R315). -/
def Ring.free (r : Ring) : Bool := r.posted + r.reserved < 2 ^ r.log2

/-- The bytes of a completion record: bytes 0x00–0x07, the end status word and the echo, with the phase bit and the
check word over bytes 0x00–0x1B (R299, R316). -/
def recordBytes (phase : Bool) (tag sq kind index head : Nat) (esw echo : List Byte) : List Byte :=
  let body := leBytes 2 (tag % 2048 + b2n phase * 2 ^ 15) ++ leBytes 1 sq ++ leBytes 1 kind ++ leBytes 2 (index % 4096)
    ++ leBytes 2 (head % 8192) ++ fit 16 esw ++ fit 4 echo
  body ++ leBytes 4 (crc32c body)

/-- A record written into the slot at the ring's tail, and the tail advanced (R316). The phase is the inverse of the
tail's wrap bit. -/
def State.postRecord (s : State) (m tag sq kind index : Nat) (esw echo : List Byte) (k : PostKind) : State :=
  let r := s.ring m
  let bytes := recordBytes (!r.tail.testBit r.log2) tag sq kind index (s.sq sq).h esw echo
  let addr := r.base + 32 * ptrSlot r.log2 r.tail
  (s.setRing m { r with tail := ptrAdd r.log2 r.tail 1 }).posts r.owner
    [{ addr := addr, data := bytes, kind := k }]

/-- One reservation of a ring used or given back (R315). -/
def State.unreserve (s : State) (m : Nat) : State :=
  let r := s.ring m
  s.setRing m { r with reserved := r.reserved - 1 }

/-- Bytes 0x08–0x0F and 0x10–0x17 of a record, for its trace entry (R663). -/
def eswArgs (esw : List Byte) : Nat × Nat := (fieldAt esw 0 8, fieldAt esw 8 8)

/-- A FINAL record of an SQ 0 entry: status, reply status, code and token (R299, R306). -/
def State.postAdmin (s : State) (slot status reply : Nat) (entry : List Byte) : State :=
  let esw := [BitVec.ofNat 8 status, BitVec.ofNat 8 reply]
  (s.unreserve 64).postRecord 64 0 0 0 slot esw ((entry.drop 1).take 2) (.record 64)

end Sys2Proof.Machine
end

