-- ==== Sys2Proof/Machine/Ports.lean ====
section
/-!
DEFINITION. The ports of the unit: device addresses, classes and ranges (R329, R330), what stops a port (R98, R360,
R406, R599), and the queues of each port (R372).
-/

namespace Sys2Proof.Machine

/-! ### Device addresses (R329) -/

def devUnit (d : Nat) : Nat := bits d 0 10
def devSelf (d : Nat) : Bool := d.testBit 10
def devClass (d : Nat) : Nat := bits d 12 4
def devIndex (d : Nat) : Nat := bits d 16 4
def devSub (d : Nat) : Nat := bits d 20 12

/-- A device of the running unit: self, or the unit's own chain address (R329). -/
def State.devLocal (s : State) (d : Nat) : Bool := devSelf d || (s.assigned && devUnit d == s.addr)

/-- The port classes (R330). -/
def clsEngine : Nat := 0x0
def clsCan : Nat := 0x1
def clsLin : Nat := 0x2
def clsSent : Nat := 0x3
def clsSer : Nat := 0x4
def clsCard : Nat := 0x5
def clsEth : Nat := 0x6
def clsGpio : Nat := 0x7
def clsLxb : Nat := 0x8
def clsReg : Nat := 0x9
def clsLdg : Nat := 0xA

/-- Ports of a class (R330). -/
def portCount (cls : Nat) : Nat := [1, 16, 8, 4, 4, 2, 7, 1, 4, 1, 1].getD cls 0

/-! ### What stops a port -/

/-- A function runs in QUIET: its bit of PWR_QUIET_PORTS0 or PWR_QUIET_PORTS1 (R98, R127). -/
def State.quietRuns (s : State) (cls idx : Nat) : Bool :=
  if cls = clsCan then s.sup.quiet0.testBit idx
  else if cls = clsLin then s.sup.quiet0.testBit (16 + idx)
  else if cls = clsSent then s.sup.quiet0.testBit (24 + idx)
  else if cls = clsSer then s.sup.quiet0.testBit (28 + idx)
  else if cls = clsCard then s.sup.quiet1.testBit idx
  else if cls = clsEth then s.sup.quiet1.testBit (2 + idx)
  else if cls = clsLxb then s.sup.quiet1.testBit 9
  else if cls = clsGpio then s.sup.quiet1.testBit 10
  else true

/-- PWR_QUIET_PORTS0 and PWR_QUIET_PORTS1 take effect, at an entry to QUIET (R127). -/
def State.quietSet (s : State) : State :=
  { s with sup := { s.sup with
      quiet0 := s.readFlds [R.PWR_QUIET_PORTS0_can, R.PWR_QUIET_PORTS0_lin, R.PWR_QUIET_PORTS0_sent,
                            R.PWR_QUIET_PORTS0_ser],
      quiet1 := s.readFlds [R.PWR_QUIET_PORTS1_card, R.PWR_QUIET_PORTS1_eth, R.PWR_QUIET_PORTS1_lxb,
                            R.PWR_QUIET_PORTS1_gpio] } }

/-- The port is stopped in the present power state (R98), or by step 5 of the power-fail sequence (R116). -/
def State.portStopped (s : State) (cls idx : Nat) : Bool :=
  2 ≤ s.power || (s.power == 1 && !s.quietRuns cls idx) || 5 ≤ s.sup.pf

/-- The register and bit of a port in FLT_QUAR_PORT0 and FLT_QUAR_PORT1 (R599, R615). -/
def quarBit (cls idx : Nat) : Option (Fld × Nat) :=
  if cls = clsCan then some (R.FLT_QUAR_PORT0_port, idx)
  else if cls = clsLin then some (R.FLT_QUAR_PORT0_port, 16 + idx)
  else if cls = clsSent then some (R.FLT_QUAR_PORT0_port, 24 + idx)
  else if cls = clsSer then some (R.FLT_QUAR_PORT0_port, 28 + idx)
  else if cls = clsCard then some (R.FLT_QUAR_PORT1_port, idx)
  else if cls = clsEth then some (R.FLT_QUAR_PORT1_port, 2 + idx)
  else none

/-- The port is quarantined (R599). -/
def State.portQuarantined (s : State) (cls idx : Nat) : Bool :=
  match quarBit cls idx with
  | some (f, b) => s.bitOf f b
  | none => false

/-- The port's en field; GPIO pins have none, and an LXB chip select has its own (R330, R530). -/
def State.portEn (s : State) (cls idx : Nat) : Bool :=
  if cls = clsCan then s.on (R.CAN_CTL_en idx)
  else if cls = clsLin then s.on (R.LIN_CFG_en idx)
  else if cls = clsSent then s.on (R.SENT_CFG_en idx)
  else if cls = clsSer then s.on (R.SER_CFG_en idx)
  else if cls = clsCard then s.on (R.CARD_CFG_en idx)
  else if cls = clsEth then s.on (R.ETH_CFG_en idx)
  else if cls = clsLxb then s.on (R.HNG_LXB_CS_CFG_en idx)
  else true

/-- The port runs: it is enabled, not stopped and not quarantined. -/
def State.portRuns (s : State) (cls idx : Nat) : Bool :=
  s.portEn cls idx && !s.portStopped cls idx && !s.portQuarantined cls idx

/-- With what status and detail a program on a port ends while the port does not run (R360): stopped by the power
state, then quarantined, then disabled. -/
def State.portFault (s : State) (cls idx : Nat) : Option (Nat × Nat) :=
  if s.portStopped cls idx then some (stBadDevice, 0x02)
  else if s.portQuarantined cls idx then some (stQuarantined, 0)
  else if !s.portEn cls idx then some (stBadDevice, 0x03)
  else none

/-! ### Queues of a port (R372) -/

/-- Receive classes of a port class. -/
def rxClasses (cls : Nat) : Nat :=
  if cls = clsCan || cls = clsEth then 4 else if cls = clsLin || cls = clsSent then 2
  else if cls = clsSer || cls = clsCard then 1 else 0

/-- The receive queue of class c of a port. -/
def rxQueue (cls idx c : Nat) : Nat :=
  if cls = clsCan then 4 * idx + c
  else if cls = clsLin then 64 + 2 * idx + c
  else if cls = clsSent then 80 + 2 * idx + c
  else if cls = clsSer then 88 + idx
  else if cls = clsCard then 92 + idx
  else 96 + 4 * idx + c

/-- The receive queues of a port. -/
def rxQueues (cls idx : Nat) : List Nat := (List.range (rxClasses cls)).map (rxQueue cls idx)

/-- The transmit queue of a port; t is the sub-address of an Ethernet port (R330, R372). -/
def txQueue (cls idx t : Nat) : Nat :=
  if cls = clsCan then 128 + idx
  else if cls = clsLin then 144 + idx
  else if cls = clsSer then 152 + idx
  else if cls = clsCard then 156 + idx
  else 160 + 8 * idx + t % 8

/-- The transmit queues of a port. -/
def txQueues (cls idx : Nat) : List Nat :=
  if cls = clsEth then (List.range 8).map (txQueue cls idx)
  else if cls = clsCan || cls = clsLin || cls = clsSer || cls = clsCard then [txQueue cls idx 0]
  else []

/-- The port class and instance of a queue (R372). -/
def queuePort (q : Nat) : Nat × Nat :=
  if q < 64 then (clsCan, q / 4)
  else if q < 80 then (clsLin, (q - 64) / 2)
  else if q < 88 then (clsSent, (q - 80) / 2)
  else if q < 92 then (clsSer, q - 88)
  else if q < 96 then (clsCard, q - 92)
  else if q < 128 then (clsEth, (q - 96) / 4)
  else if q < 144 then (clsCan, q - 128)
  else if q < 152 then (clsLin, q - 144)
  else if q < 156 then (clsSer, q - 152)
  else if q < 160 then (clsCard, q - 156)
  else (clsEth, (q - 160) / 8)

/-- Transmit queues are numbered from 128 (R372). -/
def isTxQueue (q : Nat) : Bool := 128 ≤ q

end Sys2Proof.Machine
end

