-- ==== Sys2Proof/Machine/Programs.lean ====
section
/-!
DEFINITION. Channel programs and device operations: what they deliver to host memory, how they stop, and how they
end (R335–R350, R352–R356, R645).
-/

namespace Sys2Proof.Machine

/-! ### CCWs (R328, R334) -/

/-- The fields of a CCW's 32 bytes (R328). -/
def Ccw.parse (bs : List Byte) : Ccw :=
  { opcode := fieldAt bs 0 1, func := fieldAt bs 1 1, flags := fieldAt bs 2 2, dev := fieldAt bs 4 4,
    count := fieldAt bs 8 4, param := fieldAt bs 0xC 4, data := fieldAt bs 0x10 8, timeout := fieldAt bs 0x18 4 }

def Ccw.cc (c : Ccw) : Bool := c.flags.testBit 0
def Ccw.dc (c : Ccw) : Bool := c.flags.testBit 1
def Ccw.skp (c : Ccw) : Bool := c.flags.testBit 2
def Ccw.sus (c : Ccw) : Bool := c.flags.testBit 3
def Ccw.mpn (c : Ccw) : Bool := c.flags.testBit 4
def Ccw.idx (c : Ccw) : Bool := c.flags.testBit 5
def Ccw.ord (c : Ccw) : Bool := c.flags.testBit 6
def Ccw.idem (c : Ccw) : Bool := c.flags.testBit 7

def ocNop : Nat := 0x01
def ocWrite : Nat := 0x02
def ocRead : Nat := 0x03
def ocControl : Nat := 0x04
def ocSense : Nat := 0x05
def ocJump : Nat := 0x06
def ocWait : Nat := 0x07
def ocAppend : Nat := 0x08
def ocMark : Nat := 0x09
def ocPoll : Nat := 0x0A

/-- LINK is END: neither NEXT nor CONT. -/
def Ccw.linkEnd (c : Ccw) : Bool := !c.cc && !c.dc

/-- A transmitting CCW: a WRITE, or a CONTROL marked T in R332 (R348). -/
def Ccw.transmits (c : Ccw) : Bool :=
  c.opcode == ocWrite
    || (c.opcode == ocControl && [0x10, 0x12, 0x13, 0x30, 0x31].contains c.func)

/-- Two device addresses name one port: unit, class and index (R348). -/
def State.samePort (s : State) (a b : Nat) : Bool :=
  devClass a == devClass b && devIndex a == devIndex b
    && (s.devLocal a && s.devLocal b || (!s.devLocal a && !s.devLocal b && devUnit a == devUnit b))

/-! ### Agents: local programs by tag, far slots from 2,048 -/

/-- The agent number of a far slot. -/
def farAgent (slot : Nat) : Nat := 2048 + slot

def State.prog (s : State) (tag : Nat) : Option Prog := tget s.progs tag

def State.setProg (s : State) (tag : Nat) (p : Prog) : State := { s with progs := tset s.progs tag p }

def State.op (s : State) (a : Nat) : Option Op := tget s.ops a

def State.setOp (s : State) (a : Nat) (o : Op) : State := { s with ops := tset s.ops a o }

/-- An operation changed, if the agent has one. -/
def State.updOp (s : State) (a : Nat) (f : Op → Op) : State :=
  match s.op a with
  | some o => s.setOp a (f o)
  | none => s

/-- A program changed, if the tag is held. -/
def State.updProg (s : State) (tag : Nat) (f : Prog → Prog) : State :=
  match s.prog tag with
  | some p => s.setProg tag (f p)
  | none => s

/-- An operation ends with a status and detail, unless it has ended (R336). -/
def State.endOp (s : State) (a status detail : Nat) : State :=
  s.updOp a fun o => if o.ended.isSome then o else { o with ended := some (status, detail) }

/-- The number by which a frame under way names the operation that handed it. -/
def Op.token (o : Op) (a : Nat) : Nat := o.serial * 4096 + a

/-- The agent whose operation a token names, while that operation exists. -/
def State.tokenAgent (s : State) (token : Nat) : Option Nat :=
  match s.op (token % 4096) with
  | some o => if o.serial = token / 4096 then some (token % 4096) else none
  | none => none

/-- The token of an agent's operation. -/
def State.tokenOf (s : State) (a : Nat) : Nat :=
  match s.op a with
  | some o => o.token a
  | none => a

/-- The operation that a token names ends with a status and detail. -/
def State.endToken (s : State) (token status detail : Nat) : State :=
  match s.tokenAgent token with
  | some a => s.endOp a status detail
  | none => s

/-- Bytes of the whole data chain not used. -/
def Op.room (o : Op) : Nat := (o.segs.map (·.room)).sum

/-- The CCW in which the operation stands, and its address. -/
def Op.cur (o : Op) : Ccw := (o.segs.headD {}).ccw
def Op.curAddr (o : Op) : Nat := (o.segs.headD {}).addr

/-- No data of the operation remains to be read. -/
def Op.allRead (o : Op) : Bool := o.chainRead && o.room ≤ o.got

/-- Every frame of a WRITE is in its transmit queue. -/
def Op.allQueued (o : Op) : Bool := o.allRead && o.buf.isEmpty && o.pkt.isEmpty

/-- Whether the operation runs on a far unit. -/
def State.opFar (s : State) (a : Nat) (o : Op) : Bool := a < 2048 && !s.devLocal o.first.dev

/-! ### Data areas -/

/-- Bytes laid into host ranges: the writes, and the ranges left. -/
def useArea : List (Nat × Nat) → List Byte → List (Nat × List Byte) × List (Nat × Nat)
  | [], _ => ([], [])
  | (a, l) :: r, bs =>
    if bs.isEmpty then ([], (a, l) :: r)
    else if bs.length < l then ([(a, bs)], (a + bs.length, l - bs.length) :: r)
    else
      let u := useArea r (bs.drop l)
      ((a, bs.take l) :: u.1, u.2)

/-- Bytes laid into the areas of a data chain: the writes, the areas left, and how many CCWs were passed (R339). -/
def useSegs : List Seg → List Byte → List (Nat × List Byte) × List Seg × Nat
  | [], _ => ([], [], 0)
  | g :: rest, bs =>
    if bs.isEmpty then ([], g :: rest, 0)
    else
      let n := min g.room bs.length
      let u := useArea g.area (bs.take n)
      if rest.isEmpty || bs.length ≤ n then (u.1, { g with area := u.2, room := g.room - n } :: rest, 0)
      else
        let v := useSegs rest (bs.drop n)
        (u.1 ++ v.1, v.2.1, v.2.2 + 1)

/-- Host bytes that the next data would find: up to the first CCW whose ranges do not cover its count. -/
def segsAvail : List Seg → Nat
  | [] => 0
  | g :: rest =>
    let n := (g.area.map (·.2)).sum
    if n < g.room then n else g.room + segsAvail rest

/-- A fragment table of the areas is still to be read. -/
def Op.tablePending (o : Op) : Bool := o.segs.any (·.table.isSome)

/-- CCWs started, saturating (R335). -/
def Prog.addCcws (p : Prog) (n : Nat) : Prog := { p with ccws := min 65535 (p.ccws + n) }

/-! ### Far operations -/

/-- The first four bytes of a PRG payload (R352). -/
def prgHead (tag inst kind : Nat) : List Byte := leBytes 2 (tag % 2048) ++ leBytes 1 inst ++ leBytes 1 kind

/-- A PRG_REQ of the originator: kinds 0x01 START, 0x02 DATA, 0x03 CANCEL, 0x04 CREDIT (R352). -/
def State.prgReq (s : State) (unit tag kind : Nat) (rest : List Byte) (poison : Bool := false) : State :=
  s.sendTo 0x20 unit (prgHead tag ((tget s.insts tag).getD 0) kind ++ rest) poison

/-- A PRG_RSP of the far agent: kinds 0x81 DATA, 0x82 END, 0x83 CREDIT, 0x84 RETRY (R353). -/
def State.prgRsp (s : State) (unit tag inst kind : Nat) (rest : List Byte) (poison : Bool := false) : State :=
  s.sendTo 0x28 unit (prgHead tag inst kind ++ rest) poison

/-- The longest beginning of at most n bytes whose poison marks agree. -/
def uniform (n : Nat) : List (Byte × Bool) → List (Byte × Bool)
  | [] => []
  | b :: bs => (b :: bs.takeWhile fun c => c.2 == b.2).take n

/-- Read data of a far slot sent in DATA flits of at most 44 bytes, within the receive credit (R355). -/
def State.pumpOut (slot : Nat) : Nat → State → State
  | 0, s => s
  | fuel + 1, s =>
    match tget s.farSlots slot with
    | none => s
    | some fs =>
      let d := uniform (min 44 fs.credit) fs.out
      if d.isEmpty then s
      else
        let t := { s with farSlots := tset s.farSlots slot
                            { fs with credit := fs.credit - d.length, out := fs.out.drop d.length } }
        State.pumpOut slot fuel (t.prgRsp fs.origin fs.tag fs.inst 0x81 (d.map (·.1)) (d.any (·.2)))

/-- Everything a far slot may send is sent. -/
def State.pumpSlot (s : State) (slot : Nat) : State :=
  match tget s.farSlots slot with
  | none => s
  | some fs => s.pumpOut slot (fs.out.length + 1)

/-! ### CCWs entered -/

/-- Bytes 0x00–0x07 of a CCW. -/
def Ccw.head (c : Ccw) : Nat := c.opcode + c.func * 2 ^ 8 + c.flags * 2 ^ 16 + c.dev * 2 ^ 32

/-- A CCW starts: counted and traced (R335, R663). -/
def State.ccwStarted (s : State) (tag addr : Nat) (c : Ccw) : State :=
  match s.prog tag with
  | none => s
  | some p =>
    (s.setProg tag (p.addCcws 1)).trace .program
      { type := 0x02, mid := 3, tag := some tag, sq := p.sq, arg0 := addr, arg1 := c.head }

/-- Bytes of an operation used: its areas move on, and the continuation CCWs that it enters start (R339). The host
ranges the bytes lie in. -/
def State.useOp (s : State) (a : Nat) (bs : List Byte) : State × List (Nat × List Byte) :=
  match s.op a with
  | none => (s, [])
  | some o =>
    let u := useSegs o.segs bs
    let s := s.setOp a { o with segs := u.2.1 }
    (if a < 2048 then ((o.segs.drop 1).take u.2.2).foldl (fun t g => t.ccwStarted a g.addr g.ccw) s else s, u.1)

/-! ### Delivery of read data -/

/-- Data of a READ or SENSE: into the data area of a local program, or to the originator of a far slot; counted and
not written with DISC (R337, R341, R355). -/
def State.deliver (s : State) (a : Nat) (bs : List Byte) (pois : Bool) : State :=
  match s.op a with
  | none => s
  | some o =>
    let u := (s.setOp a { o with poisoned := o.poisoned || pois }).useOp a bs
    let s := u.1
    if a < 2048 then
      match s.prog a with
      | none => s
      | some p => if o.first.skp then s else u.2.foldl (fun t w => t.dataWrite p.fn w.1 w.2) s
    else if o.first.skp then s
    else
      let slot := a - 2048
      match tget s.farSlots slot with
      | none => s
      | some fs =>
        ({ s with farSlots := tset s.farSlots slot { fs with out := fs.out ++ bs.map (·, pois) } }).pumpSlot slot

/-! ### The end status word (R335) -/

/-- The physical sub-engine that carries a logical one (R327). -/
def State.physOf (s : State) (k : Nat) : Nat := (tget s.sePhys k).getD k

/-- What the last CCW of a record was, as the ESW describes it. -/
structure EswOf where
  detail : Nat := 0
  residual : Nat := 0
  frames : Nat := 0
  aux : Nat := 0
  dev : Nat := 0
  lengthOk : Bool := false
deriving DecidableEq, Repr

/-- The 16 bytes of an ESW (R335). -/
def State.eswBytes (s : State) (tag status : Nat) (p : Prog) (e : EswOf) : List Byte :=
  let far := !s.devLocal e.dev && devClass e.dev != clsEngine
  let unit := if far then devUnit e.dev + 2 ^ 15 else s.addr
  let flags := b2n p.poisoned + 2 * b2n p.gap + 4 * b2n (p.lenOk || e.lengthOk) + 8 * b2n p.migrated
    + 16 * b2n p.truncated
  leBytes 1 status ++ leBytes 1 e.detail ++ leBytes 2 p.ccws
    ++ leBytes 4 (e.residual % 2 ^ 24 + min 255 e.frames * 2 ^ 24) ++ leBytes 4 e.aux ++ leBytes 2 unit
    ++ leBytes 1 flags ++ leBytes 1 (s.physOf (tag / 64))

/-- ESW aux of a CCW (R335): the value reported, or the CCW's address. For a LEDGER_APPEND whose record has no number and a
POLL_FAR that has read nothing the manual states no value, and it is a free one. -/
def State.auxOf (s : State) (c : Ccw) (v : Option Nat) (addr : Nat) : Nat :=
  v.getD (if c.opcode = ocAppend || c.opcode = ocPoll then (Config.freeValue s.free).toNat % 2 ^ 32 else addr % 2 ^ 32)

/-- The ESW fields of the operation a program stands in, or of the CCW it has not started. -/
def State.eswNow (s : State) (tag : Nat) (p : Prog) (detail : Nat) : EswOf :=
  match s.op tag with
  | some o =>
    { detail := detail, residual := (o.endResidual.getD ((o.segs.headD {}).room)) % 2 ^ 24, frames := o.frames,
      aux := s.auxOf o.first o.aux o.curAddr, dev := o.first.dev }
  | none => { detail := detail, residual := p.cur.count % 2 ^ 24, aux := s.auxOf p.cur none p.ccwAddr, dev := p.cur.dev }

/-- Poison, gap and truncation met by an operation, kept with its program. -/
def Prog.merge (p : Prog) (o : Op) : Prog :=
  { p with poisoned := p.poisoned || o.poisoned, gap := p.gap || o.gap, truncated := p.truncated || o.truncated }

/-! ### Stopping an operation -/

/-- The agent's uncommitted packets withdrawn and its waits for a claim ended, in every queue (R388). -/
def State.withdraw (s : State) (a : Nat) : State :=
  (s.wqs.filter fun e => e.2.claim == some a || e.2.claimWait.contains a).foldl (fun t e => t.qWithdraw e.1 a) s

/-- CANCEL for a program's far operation; while the function's Bus Master Enable is 0 it is held (R351, R352). -/
def State.cancelFar (s : State) (fn unit tag : Nat) : State :=
  if s.busMaster fn then s.prgReq unit tag 0x03 []
  else { s with cancels := s.cancels ++ [(fn, unit, tag, (tget s.insts tag).getD 0)] }

/-- CANCELs of a function that have been held leave. -/
def State.sendCancels (s : State) (fn : Nat) : State :=
  if !s.busMaster fn then s
  else
    (s.cancels.filter fun c => c.1 == fn).foldl
      (fun t c => t.sendTo 0x20 c.2.1 (leBytes 2 (c.2.2.1 % 2048) ++ leBytes 1 c.2.2.2 ++ leBytes 1 0x03))
      { s with cancels := s.cancels.filter fun c => c.1 != fn }

/-- The rest of a chunk that an operation has begun is discarded (R347). -/
def State.dropRest (s : State) (o : Op) : State :=
  let idx := devIndex o.first.dev
  if !(o.first.opcode == ocRead && o.begun && s.devLocal o.first.dev) then s
  else if devClass o.first.dev = clsSer then
    match tget s.sers idx with
    | some x => { s with sers := tput s.sers idx { x with rest := none } {} }
    | none => s
  else if devClass o.first.dev = clsCard then
    match tget s.cards idx with
    | some x => { s with cards := tput s.cards idx { x with rest := none } {} }
    | none => s
  else s

/-- An append of an operation that waits for its sequence number. -/
def LdgItem.ofToken (token : Nat) : LdgItem → Bool
  | .append a => a.by_ == .program token
  | _ => false

/-- The far and LXB accesses of an operation are no longer awaited, and its append is discarded unless it has a sequence
number (R253, R543). -/
def State.dropAccess (s : State) (token : Nat) : State :=
  { s with reqs := s.reqs.filter (fun e => e.2.owner != .agent token),
           lxbQ := s.lxbQ.filter (fun r => r.owner != .agent token),
           ldg := { s.ldg with due := s.ldg.due.filter fun i => !i.ofToken token } }

/-- An operation stopped before its end: its packet is withdrawn, the rest of a packet that it reads is discarded, and
a far operation is cancelled (R347, R352, R356). -/
def State.stopOp (s : State) (a : Nat) : State :=
  match s.op a with
  | none => s
  | some o =>
    let s := s.withdraw a
    if o.ended.isSome then s
    else
      let s := (s.dropRest o).dropAccess (o.token a)
      match s.prog a with
      | some p => if s.opFar a o && o.sent then s.cancelFar p.fn (devUnit o.first.dev) a else s
      | none => s

/-! ### Ending a program -/

/-- The CHE_EVT cause of a final status, counted by source 11 with the queue as resource (R362, R593). -/
def State.cheCause (s : State) (status sq : Nat) : State :=
  let r (b : Nat) : State := s.raiseF R.CHE_EVT_cause b (R.CHE_EVT_CNT_count b) 11 sq
  if status = stMalformedCcw || status = stMalformedFragment then r 0
  else if status = stLoopLimit then r 1
  else if status = stTimeout then r 2
  else if status = stInterrupted then r 3
  else s

/-- The final record of a program: posted in its reserved slot, traced and counted, and its operation gone. Its tag
returns when the record leaves (R314–R316, R336, R363). The free value that aux may hold is used up. -/
def State.finalize (s : State) (tag status : Nat) (p : Prog) (e : EswOf) : State :=
  let status := if status = stSuccess && p.poisoned then stPoisoned else status
  let esw := s.eswBytes tag status p e
  let s := { s with ops := tdel s.ops tag, free := s.free + 1 }
  let s := (s.setProg tag { p with st := .ended }).dropReads p.fn tag
  let s := (s.cheCause status p.sq).count (R.CHE_END_CNT_count status)
  let s := s.trace .program { type := 0x06, mid := 3, tag := some tag, sq := p.sq, status := status,
                              arg0 := (eswArgs esw).1, arg1 := (eswArgs esw).2 }
  let m := s.ringOf p.sq
  (s.unreserve m).postRecord m tag p.sq 0 p.slot esw (leBytes 4 p.echo) (.final tag m)

/-- A program ended with a status by a cause outside its operation (R645): the operation stops, and the record
describes it as it stood. -/
def State.endProg (s : State) (tag status detail : Nat) : State :=
  match s.prog tag with
  | none => s
  | some p =>
    if p.st = .ended then s
    else
      let s := s.stopOp tag
      let p' := match s.op tag with
        | some o => p.merge o
        | none => p
      s.finalize tag status p' (s.eswNow tag p detail)

/-- A program that ends before its current CCW has started, with the residual of R335: the whole count, or 0 when the
CCW could not be read or failed its check. -/
def State.endUnstarted (s : State) (tag status detail residual : Nat) : State :=
  match s.prog tag with
  | none => s
  | some p =>
    if p.st = .ended then s
    else
      s.finalize tag status p
        { detail := detail, residual := residual % 2 ^ 24, aux := s.auxOf p.cur none p.ccwAddr, dev := p.cur.dev }

/-- A NOTICE record: posted while the ring has room, otherwise dropped (R315, R344). -/
def State.notice (s : State) (tag : Nat) (p : Prog) (e : EswOf) : State :=
  let m := s.ringOf p.sq
  if (s.ring m).free then
    let esw := s.eswBytes tag stSuccess p e
    let s := s.trace .program { type := 0x05, mid := 3, tag := some tag, sq := p.sq, status := stSuccess,
                                arg0 := (eswArgs esw).1, arg1 := (eswArgs esw).2 }
    s.postRecord m tag p.sq 1 p.slot esw (leBytes 4 p.echo) (.record m)
  else s.ringRaise m 1

/-! ### Many programs -/

/-- The tags of live programs that match a test, in rising order. -/
def State.tagsWhere (s : State) (f : Prog → Bool) : List Nat :=
  (s.progs.filter fun e => e.2.st != .ended && f e.2).map (·.1)

/-- Every listed program ended with a status (R319, R602). -/
def State.endAll (s : State) (tags : List Nat) (status detail : Nat) : State :=
  tags.foldl (fun t g => t.endProg g status detail) s

/-- The shutdown of SQ n: the queue reads STOPPED, fetching stops, and every program ends ABORTED (R319). -/
def State.shutdown (s : State) (n : Nat) : State :=
  let s := ((s.dropFetch n).setSq n { s.sq n with shutting := true }).sqTo n 2
  s.endAll (s.tagsWhere (fun p => p.sq == n)) stAborted 0

/-! ### Agents on a port -/

/-- The agents whose operation is local to this unit and on a port. -/
def State.agentsOn (s : State) (cls idx : Nat) : List Nat :=
  (s.ops.filter fun e =>
    e.2.ended.isNone && !s.opFar e.1 e.2 && devClass e.2.first.dev == cls && devIndex e.2.first.dev == idx).map (·.1)

/-- Agents on a port whose first CCW matches a test. -/
def State.agentsWith (s : State) (cls idx : Nat) (f : Ccw → Bool) : List Nat :=
  (s.agentsOn cls idx).filter fun a => match s.op a with
    | some o => f o.first
    | none => false

/-- Operations ended with one status and detail. -/
def State.endOps (s : State) (as : List Nat) (status detail : Nat) : State :=
  as.foldl (fun t a => t.endOp a status detail) s

/-- Operations stopped by their port: uncommitted packets are withdrawn and the operations end (R390, R599). -/
def State.failOps (s : State) (as : List Nat) (status detail : Nat) : State :=
  as.foldl (fun t a => (t.withdraw a).endOp a status detail) s

/-- A port event that WAIT_EVENT operations of a function wait for (R332); `sub` filters by sub-address. -/
def State.portEvent (s : State) (cls idx func : Nat) (sub : Nat → Bool) : State :=
  s.endOps (s.agentsWith cls idx fun c => c.opcode == ocWait && c.func == func && sub (devSub c.dev)) stSuccess 0

/-- A LIN port that stops: schedule, requests and pending responses go; a response that it is sending completes (R390). -/
def LinPort.stopped (x : LinPort) : LinPort :=
  { x with run := none, back := [], next := none, sleep := none, waking := none, woken := false, pend := [],
           hdr := x.hdr.filter fun h => h.src != .bus }

/-- An Ethernet port that stops: its PHY is off, its link drops, and the frame being sent is cut off (R462, R483). -/
def State.ethDrop (s : State) (idx : Nat) : State :=
  let t := match tget s.eths idx with
    | some x => { s with eths := tput s.eths idx { x with tx := none, burst := 0 } {} }
    | none => s
  let t := if idx = 6 then t.put (R.ETH_STATUS_plca_active 6) 0 else t
  if t.on (R.ETH_STATUS_link idx) then
    (t.put (R.ETH_STATUS_link idx) 0).raise (R.ETH_EVT_cause idx) 1 (R.ETH_EVT_CNT_count idx 1)
  else t

/-- What a port that stops drops beside its queues: pending LIN responses, a chunk partly received, and an Ethernet link
(R380, R444, R483). -/
def State.dropPartial (s : State) (cls idx : Nat) : State :=
  if cls = clsLin then
    match tget s.lins idx with
    | some x => { s with lins := tput s.lins idx x.stopped {} }
    | none => s
  else if cls = clsSer then
    match tget s.sers idx with
    | some x => { s with sers := tput s.sers idx { x with chunk := [], rearmed := false } {} }
    | none => s
  else if cls = clsCard then
    match tget s.cards idx with
    | some x => { s with cards := tput s.cards idx { x with chunk := [] } {} }
    | none => s
  else if cls = clsEth then s.ethDrop idx
  else s

/-- A port that stops running: committed frames it has not begun are discarded, and their programs, and every WRITE
or CONTROL under way on the port, end with the port's status (R390, R599). -/
def State.stopPort (s : State) (cls idx status detail : Nat) : State :=
  let s := s.dropPartial cls idx
  let r := (txQueues cls idx).foldl (fun (t : State × List Nat) q =>
    let f := t.1.qFlush q
    (f.1, t.2 ++ f.2)) (s, [])
  let under := r.1.agentsWith cls idx fun c => c.opcode == ocWrite || c.opcode == ocControl
  r.1.failOps (r.2.filterMap r.1.tokenAgent ++ under) status detail

/-- Receive queues of a port hold no packet. -/
def State.rxEmpty (s : State) (cls idx : Nat) : Bool := (rxQueues cls idx).all s.qEmpty

/-- A port that is disabled, quarantined or stopped (R390, R406, R599): as `stopPort`, and every READ or WAIT_EVENT on it
that would have to wait ends. -/
def State.portOff (s : State) (cls idx status detail : Nat) : State :=
  let s := s.stopPort cls idx status detail
  s.endOps (s.agentsWith cls idx fun c =>
    c.opcode == ocWait || (c.opcode == ocRead && s.rxEmpty cls idx)) status detail

/-! ### Frames that leave a port -/

/-- An operation that a token names, changed. -/
def State.updToken (s : State) (token : Nat) (f : Op → Op) : State :=
  match s.tokenAgent token with
  | some a => s.updOp a f
  | none => s

/-- A frame of an operation has left the port: a WRITE whose every frame has been queued and has left ends (R331), and an
Ethernet port counts its last frame as handed then (R348). -/
def State.frameLeft (s : State) (token : Nat) : State :=
  s.updToken token fun o =>
    let n := o.inPort - 1
    if (o.handedLast || o.allQueued) && n = 0 && o.ended.isNone then
      { o with inPort := n, handedLast := true, ended := some (stSuccess, 0) }
    else { o with inPort := n }

/-- A frame of an operation discarded for a poisoned word: no frame leaves, and the program is marked (R44, R389). -/
def State.framePoisoned (s : State) (token : Nat) : State :=
  (s.updToken token fun o => { o with poisoned := true }).frameLeft token

/-- A frame of an operation that its port drops with an error (R409). -/
def State.frameFailed (s : State) (token detail : Nat) : State :=
  match s.tokenAgent token with
  | some a => s.failOps [a] stDeviceError detail
  | none => s

end Sys2Proof.Machine
end

