-- ==== Sys2Proof/Machine/Talon.lean ====
section
/-!
DEFINITION. Talon: spares, the repair journal, the retirement of sub-engines, rows and banks (R616–R634).
-/

namespace Sys2Proof.Machine

def State.setTln (s : State) (x : Talon) : State := { s with tln := x }

/-- A TLN_EVT cause set; journal_bad, journal_fail and journal_full are events of source 118 (R624, R634). -/
def State.tlnRaise (s : State) (bit : Nat) : State :=
  if 5 ≤ bit && bit ≤ 7 then s.raiseF R.TLN_EVT_cause bit (R.TLN_EVT_CNT_count bit) 118 0
  else s.raise R.TLN_EVT_cause bit (R.TLN_EVT_CNT_count bit)

/-! ### The repair journal (R623, R634) -/

def jRow : Nat := 0x01
def jBank : Nat := 0x02
def jSubengine : Nat := 0x03
def jLaneRx : Nat := 0x04
def jLaneTx : Nat := 0x05
def jLaneClear : Nat := 0x06

/-- The cause field of an entry: a fault source, or a host or firmware request (R623). -/
def causeSource (n : Nat) : Nat := n % 128 + 2 ^ 7
def causeRequest : Nat := 2 ^ 8

/-- The 32 bytes of a journal entry (R623). -/
def jrnlEntry (time kind state target spare cause : Nat) : List Byte :=
  withCheck (leBytes 1 kind ++ leBytes 1 state ++ zeros 6 ++ leBytes 8 time ++ leBytes 4 target ++ leBytes 4 spare
    ++ leBytes 2 cause ++ zeros 6) 4

/-- target and spare of an entry of a kind, DONE or not: bits not given are zero, and each part is in being (R623). -/
def jrnlPlace (kind target spare : Nat) (done : Bool) : Bool :=
  if kind = jRow then target < 2 ^ 17 && target % 32 < 25 && (if done then spare < 2 else spare == 0)
  else if kind = jBank then target < 25 && spare == (if done then 24 else 0)
  else if kind = jSubengine then
    target < 36 && (spare % 64 < 36 || spare % 64 == 0x3F) && bits spare 6 2 == 0 && spare < 2 ^ 13
  else if kind = jLaneRx || kind = jLaneTx then target < 6 && spare == 0
  else target < 2 && spare == 0

/-- A journal entry that is valid (R14, R623). -/
def jrnlOk (b : List Byte) : Bool :=
  let kind := fieldAt b 0 1
  let st := fieldAt b 1 1
  b.length == 32 && checkOk b 4 && 1 ≤ kind && kind ≤ 6 && (st == 2 || (st == 1 && kind ≤ 2)) && zeroAt b 2 2
    && jrnlPlace kind (fieldAt b 0x10 4) (fieldAt b 0x14 4) (st == 2) && fieldAt b 0x18 2 < 512 && zeroAt b 0x1A 6

/-- Copy A of an entry where it is valid, else copy B. -/
def jrnlPick (e : Nat × List Byte × List Byte) : Option (List Byte) :=
  if jrnlOk e.2.1 then some e.2.1 else if jrnlOk e.2.2 then some e.2.2 else none

/-- An entry programmed at the next free index, in copy A and then in copy B. A failed operation leaves bytes that are no valid
entry.
With no index free the repair stays and journal_full is set (R634). The answer says whether nothing remains to do. -/
def State.jrnlTry (s : State) (e : List Byte) : State × Bool :=
  let n := s.tln.journal.length
  if 65536 ≤ n then (s.tlnRaise 7, true)
  else
    let a := s.flashOp (0x2500000 + 32 * n)
    let b := if a.2 then a.1.flashOp (0x2700000 + 32 * n) else a
    let x := if !a.2 then ([], []) else if b.2 then (e, e) else (e, [])
    (b.1.setTln { b.1.tln with journal := tset b.1.tln.journal n x }, b.2)

/-- An entry written: a failed write is repeated once, and another failure sets journal_fail (R634). -/
def State.jrnlWrite (s : State) (kind state target spare cause : Nat) : State :=
  let e := jrnlEntry s.now kind state target spare cause
  let r := s.jrnlTry e
  if r.2 then r.1
  else
    let q := r.1.jrnlTry e
    if q.2 then q.1 else q.1.tlnRaise 6

/-- The cause with which a row or bank was last queued. -/
def State.jrnlCause (s : State) (kind target : Nat) : Nat :=
  (s.tln.journal.filterMap jrnlPick).foldl (fun c b =>
    if fieldAt b 0 1 = kind && fieldAt b 1 1 = 0x01 && fieldAt b 0x10 4 = target then fieldAt b 0x18 2 else c) 0

/-! ### Sub-engines (R625, R626) -/

/-- The logical sub-engine that a physical one carries. -/
def State.logicalOf (s : State) (i : Nat) : Option Nat := (List.range 32).find? fun k => s.physOf k == i

/-- Spares: physical sub-engines that carry nothing, are not retired and are no target of a migration. -/
def State.spareSes (s : State) : List Nat :=
  (List.range 36).filter fun i =>
    !s.tln.retired.contains i && (s.logicalOf i).isNone && !s.tln.moves.any (fun m => m.2.2.1 == i)

/-- Whether the program's logical sub-engine is being moved (R626). -/
def State.moving (s : State) (k : Nat) : Bool := s.tln.moves.any fun m => m.1 == k

/-- Result codes of a fault event record (R597, R603). -/
def resDone : Nat := 0
def resAlready : Nat := 1
def resQueued : Nat := 2
def resNoSpare : Nat := 3

/-- A physical sub-engine marked retired, with its SUBENGINE entry (R623, R626). -/
def State.markRetired (s : State) (i taker logical cause : Nat) : State :=
  let s := s.setTln { s.tln with retired := s.tln.retired ++ [i], seSince := s.tln.seSince + 1 }
  (s.jrnlWrite jSubengine 0x02 i (taker + logical * 2 ^ 8) cause).tlnRaise 0

/-- A program's context once logical sub-engine k is being moved: one that was on it carries flags.migrated (R350). -/
def onMoved (k : Nat) (e : Nat × Prog) : Nat × Prog :=
  if e.1 / 64 = k then (e.1, { e.2 with migrated := true }) else e

/-- Physical sub-engine i retired (R626): a spare is marked, the target of a migration is replaced by the next spare
(R639), and a carrier's logical sub-engine starts to move to the lowest spare; the programs on it carry flags.migrated from then
on (R350). -/
def State.retireSe (s : State) (i cause : Nat) : State × Nat :=
  if s.tln.moves.any (fun m => m.2.1 == i) then
    (s.setTln { s.tln with waiting := s.tln.waiting ++ [(i, cause)] }, resQueued)
  else if s.tln.retired.contains i then (s, resAlready)
  else match s.tln.moves.find? (fun m => m.2.2.1 == i) with
    | some m =>
      match s.spareSes with
      | [] => (s.tlnRaise 3, resNoSpare)
      | j :: _ =>
        ((s.markRetired i 0x3F 0 cause).setTln
          { (s.markRetired i 0x3F 0 cause).tln with
              moves := s.tln.moves.map fun n => if n.1 == m.1 then (n.1, n.2.1, j, n.2.2.2) else n }, resDone)
    | none =>
      match s.logicalOf i with
      | none => (s.markRetired i 0x3F 0 cause, resDone)
      | some k =>
        match s.spareSes with
        | [] => (s.tlnRaise 3, resNoSpare)
        | j :: _ =>
          let s := s.setTln { s.tln with moves := s.tln.moves ++ [(k, i, j, cause)], retired := s.tln.retired ++ [i],
                                         seSince := s.tln.seSince + 1 }
          let s := { s with progs := s.progs.map (onMoved k) }
          ((s.put R.TLN_STATUS_migrating 1).tlnRaise 0, resDone)

/-! ### Lanes (R624, R633) -/

/-- The lanes of port p take part again. -/
def Talon.lanesCleared (x : Talon) (p : Nat) : Talon := { x with lanes := x.lanes.filter fun e => e.2 % 2 != p % 2 }

/-- Lanes of port p that its entries of a kind keep out of use. -/
def State.lanesOut (s : State) (p kind : Nat) : List Nat :=
  (s.tln.lanes.filter fun e => e.1 == kind && e.2 % 2 == p).map fun e => bits e.2 1 2

/-! ### Rows and banks (R617, R629) -/

/-- The physical bank that carries a bank number (R618). -/
def State.physBank (s : State) (b : Nat) : Nat :=
  match s.tln.bankMap with
  | some m => if b = m then 24 else if b = 24 then m else b
  | none => b

/-- The row code of a word: physical bank, sub-array and row (R617, R623). -/
def rowCode (bank word : Nat) : Nat := bank + bits word 13 3 * 2 ^ 5 + bits word 4 9 * 2 ^ 8

/-- Key of a spare row: physical bank, sub-array and index. -/
def spareKey (row i : Nat) : Nat := 2 * (8 * (row % 32) + bits row 5 3) + i

/-- The lower-numbered spare row of a row's sub-array that is neither used nor failed (R630). -/
def State.spareRow (s : State) (row : Nat) : Option Nat :=
  [0, 1].find? fun i => (tget s.tln.spares (spareKey row i)).isNone

/-- The spare bank is neither mapped nor failed. -/
def State.bankFree (s : State) : Bool := s.tln.bankMap.isNone && !s.tln.bankFailed

/-- A bank queued in place of a row, with its QUEUED entry; one bank at most (R629). The target names the bank by its
number. -/
def State.queueBank (s : State) (b cause : Nat) : State :=
  if s.tln.bankQ.isSome then s
  else (s.setTln { s.tln with bankQ := some b }).jrnlWrite jBank 0x01 b 0 cause

/-- The bank number that a physical bank carries (R618). -/
def State.bankNumber (s : State) (p : Nat) : Nat := s.physBank p

/-- The row of a word queued for retirement (R629), with the result of R600: QUEUED, or NO_SPARE when neither a spare
row nor the spare bank remains. -/
def State.queueRow (s : State) (bank word cause : Nat) : State × Nat :=
  let row := rowCode (s.physBank bank) word
  if s.tln.rowQ.contains row then (s, resQueued)
  else if (s.spareRow row).isNone then
    if s.tln.bankQ == some bank then (s, resQueued)
    else if s.bankFree && s.tln.bankQ.isNone then (s.queueBank bank cause, resQueued)
    else (s, resNoSpare)
  else if 64 ≤ s.tln.rowQ.length then (s.tlnRaise 4, resQueued)
  else
    (((s.setTln { s.tln with rowQ := s.tln.rowQ ++ [row] }).jrnlWrite jRow 0x01 row 0 cause).tlnRaise 1, resQueued)

/-! ### The owner table (R621) -/

/-- The owner of a word's region: MID 0–7, or none (R29, R621). -/
def State.regionOwner (s : State) (a : Nat) : Option Nat :=
  let region := bits a 12 4
  let v := bits (s.get (R.SCB_OWN_owners (bankOf a) (region / 8))) (4 * (region % 8)) 4
  if v < 8 then some v else none

end Sys2Proof.Machine
end

