-- ==== Sys2Proof/Machine/Faults.lean ====
section
/-!
DEFINITION. The fault collector: counting, actions, records and pending bits (R593–R604), quarantine (R598, R599),
retire (R600) and safe stop (R35, R602).
-/

namespace Sys2Proof.Machine

/-! ### Sources (R593) -/

/-- Assigned sources. -/
def srcAssigned (n : Nat) : Bool := n < 119 && !(n == 30 || n == 31 || (73 ≤ n && n ≤ 79))

/-- Actions a source accepts: COUNT, NOTIFY and SAFE_STOP always, QUARANTINE and RETIRE where R593 lists them. -/
def srcAccepts (n action : Nat) : Bool :=
  if action = 2 then n == 10 || n == 11 || (32 ≤ n && n ≤ 72)
  else if action = 3 then 80 ≤ n && n ≤ 117
  else action ≤ 1 || action == 4

/-- The port class and instance of sources 32–72. -/
def srcPort (n : Nat) : Nat × Nat :=
  if n < 48 then (clsCan, n - 32)
  else if n < 56 then (clsLin, n - 48)
  else if n < 60 then (clsSent, n - 56)
  else if n < 64 then (clsSer, n - 60)
  else if n < 66 then (clsCard, n - 64)
  else (clsEth, n - 66)

/-! ### Attention causes (R177) -/

/-- An attention cause 1–5 set and counted: up_loss, dn_loss, power_fail, safe_stop, ready. -/
def State.kcRaise (s : State) (cause : Nat) : State :=
  s.raise R.CHN_KC_ATTN_cause (cause - 1) (R.CHN_KC_CNT_count (cause - 1))

/-! ### Actions -/

/-- A safe stop (R35, R602), which during the power-fail sequence has no effect (R120, R611): every program ends
ABORTED, SQ 1–255 become STOPPED, the attention cause and the AER error are raised, FLT_SAFE holds the cause, and a repair
point is abandoned (R657). FLT_SAFE.active stops fetching, the channel engine and the gateway. -/
def State.safeStop (s : State) (cause src : Nat) : State :=
  if s.failing then s
  else
    let s := ((s.put R.FLT_SAFE_active 1).put R.FLT_SAFE_cause cause).put R.FLT_SAFE_source src
    let s := s.endAll (s.tagsWhere fun _ => true) stAborted 0
    let s := (s.sqs.filter fun e => e.1 != 0 && (e.2.state == 1 || e.2.state == 3)).foldl (fun t e => t.sqTo e.1 2) s
    (((s.put R.TLN_STATUS_repairing 0).kcRaise 4).aer 0 .uncorInt).aer 1 .uncorInt

/-- A safe stop is in force. -/
def State.safe (s : State) : Bool := s.on R.FLT_SAFE_active

/-- The disable of the admin pair begins: fetching stops, enable reads 0 and the wait of R305 runs. -/
def State.adminDisable (s : State) : State :=
  { (s.put R.QMG_ADM_CTL_enable 0) with admStop := true }

/-- Quarantine of the queue that an event names (R598). -/
def State.quarQueue (s : State) (n : Nat) : State × Nat :=
  if n = 0 then
    if s.on R.QMG_ADM_CTL_enable then (s.adminDisable, resDone) else (s, resAlready)
  else if (s.sq n).state == 1 || (s.sq n).state == 3 then (s.shutdown n, resDone)
  else (s, resAlready)

/-- Quarantine of a port: its bit is set and it behaves as a disabled port (R599). -/
def State.quarPort (s : State) (cls idx : Nat) : State × Nat :=
  match quarBit cls idx with
  | none => (s, resDone)
  | some (f, b) =>
    if s.bitOf f b then (s, resAlready)
    else ((s.put f (setBit (s.get f) b)).portOff cls idx stQuarantined 0, resDone)

/-- The action of a severe event applied, with its result (R596–R600). An action that a tightened bound gives a source
that does not accept it acts as NOTIFY, which it includes. -/
def State.applyAction (s : State) (e : FaultEv) (action : Nat) : State × Nat :=
  if !srcAccepts e.src action then (s, resDone)
  else if action = 2 then
    if e.src = 10 || e.src = 11 then s.quarQueue e.res
    else s.quarPort (srcPort e.src).1 (srcPort e.src).2
  else if action = 3 then
    if e.src < 116 then
      let r := s.retireSe (e.src - 80) (causeSource e.src)
      if r.2 = resNoSpare then
        let t := r.1.markRetired (e.src - 80) 0x3F ((r.1.logicalOf (e.src - 80)).getD 0) (causeSource e.src)
        (if t.safe then t else t.safeStop 0b100 e.src, resNoSpare)
      else r
    else s.queueRow (bankOf e.res) (e.res % 65536) (causeSource e.src)
  else if action = 4 then
    if s.safe || s.failing then (s, resAlready) else (s.safeStop 0b001 e.src, resDone)
  else (s, resDone)

/-! ### Records (R603, R604) -/

/-- The two words of a fault event record. -/
def faultWords (time : Nat) (e : FaultEv) (severe : Bool) (action result count : Nat) : List Nat :=
  [e.src % 128 + b2n severe * 2 ^ 7 + action % 8 * 2 ^ 8 + result % 8 * 2 ^ 11 + b2n e.mid.isSome * 2 ^ 14
     + b2n e.injected * 2 ^ 15 + e.mid.getD 0 % 16 * 2 ^ 16 + e.addr.getD 0 % 1024 * 2 ^ 20
     + b2n e.addr.isSome * 2 ^ 30 + count % 256 * 2 ^ 32 + e.detail % 256 * 2 ^ 40 + e.res % 65536 * 2 ^ 48,
   time % 2 ^ 48 + bits e.res 16 16 * 2 ^ 48]

/-- A fault event record written to chain 1 and, whether or not it fits there, to the trace (R604, R663). -/
def State.faultRecord (s : State) (e : FaultEv) (severe : Bool) (action result count : Nat) : State :=
  let ws := faultWords s.now e severe action result count
  let hand := e.src != 15 || e.res < 0x100
  (s.chainPush 1 (packetOf ws) hand).1.trace .fault { type := 0x20, arg0 := ws.getD 0 0, arg1 := ws.getD 1 0 } hand

/-! ### Counting (R594, R595) -/

/-- Events of sources 116 and 117 carry the owner of the word's region (R601, R622). -/
def State.withOwner (s : State) (e : FaultEv) : FaultEv :=
  if e.src = 116 || e.src = 117 then { e with mid := s.regionOwner e.res } else e

/-- An event of source 117 in a region without an owner queues its row, whatever the action (R629). -/
def State.unownedRow (s : State) (e : FaultEv) : State :=
  if e.src = 117 && (s.regionOwner e.res).isNone then
    (s.queueRow (bankOf e.res) (e.res % 65536) (causeSource 117)).1
  else s

/-- WF 4.1 asks for the row of each event of source 117 whose region MID 2 owns (R629). -/
def State.ownedRow (s : State) (e : FaultEv) : State :=
  if e.src = 117 && e.mid == some 2 && s.fwServes false then
    (s.queueRow (bankOf e.res) (e.res % 65536) causeRequest).1
  else s

/-- The count after an event, and whether it opens a window (R594). -/
def State.nextCount (s : State) (n : Nat) : Nat × Bool :=
  let c := s.get (R.FLT_SRC_STATE_count n)
  if c = 0 || (tget s.faultEnd n).getD 0 ≤ s.now then (1, true) else (min 255 (c + 1), false)

/-- One event counted; a severe one has its action applied, its record written and its pending bit set (R594, R597,
R601). The answer says whether it was severe. -/
def State.countEvent (s : State) (e0 : FaultEv) : State × Bool :=
  let e := s.withOwner e0
  let n := e.src
  let s := (s.unownedRow e).count (R.FLT_SRC_TOTAL_count n)
  let r := s.nextCount n
  let s := if r.2 then
      { s with faultEnd := tset s.faultEnd n (s.now + 1000 * 2 ^ s.get (R.FLT_SRC_CFG_k n)) } else s
  let action := s.get (R.FLT_SRC_CFG_action n)
  if s.get (R.FLT_SRC_CFG_n n) ≤ r.1 then
    let a := s.applyAction e action
    let s := a.1.put (R.FLT_SRC_STATE_count n) 0
    let s := if 1 ≤ action || s.on (R.FLT_SRC_CFG_rec_all n) then s.faultRecord e true action a.2 r.1 else s
    if 1 ≤ action then
      let s := if n = 116 || n = 117 then
          { s with fltOwner := match e.mid with
                     | some o => if o < 3 then tset s.fltOwner n o else tdel s.fltOwner n
                     | none => tdel s.fltOwner n }
        else s
      ((s.raise (R.FLT_PEND_pend (n / 32)) (n % 32) (R.FLT_SRC_SEV_CNT_count n)).ownedRow e, true)
    else (s.ownedRow e, true)
  else
    let s := s.put (R.FLT_SRC_STATE_count n) r.1
    ((if s.on (R.FLT_SRC_CFG_rec_all n) then s.faultRecord e false 0 0 r.1 else s).ownedRow e, false)

/-- Events of one step in ascending source, and within a source in the order of their cause bits, a real event before an
injected one (R595, R611). -/
def insertEv (e : FaultEv) : List FaultEv → List FaultEv
  | [] => [e]
  | x :: xs =>
    if e.src < x.src || (e.src = x.src && (if e.injected == x.injected then e.detail ≤ x.detail else x.injected)) then e :: x :: xs
    else x :: insertEv e xs

def sortEvs (l : List FaultEv) : List FaultEv := l.foldr insertEv []

/-- A list of events handed to the collector: after a severe event of a source, the other events that fall in its core
cycle are only added to its total (R595). Injected events fall in consecutive cycles (R609). -/
def State.collect (s : State) (severe : List Nat) : List FaultEv → State × List Nat
  | [] => (s, severe)
  | e :: es =>
    if !srcAssigned e.src then s.collect severe es
    else if severe.contains e.src && !e.injected then (s.count (R.FLT_SRC_TOTAL_count e.src)).collect severe es
    else
      let r := s.countEvent e
      r.1.collect (if r.2 then e.src :: severe else severe) es

/-- The collector acts on the events of a step, and on those that its actions cause, in rounds. It counts in ACTIVE and
QUIET (R610). -/
def State.settleRounds : Nat → List Nat → State → State
  | 0, _, s => { s with dueFaults := [] }
  | n + 1, severe, s =>
    if s.dueFaults.isEmpty then s
    else
      let r := State.collect { s with dueFaults := [] } severe (sortEvs s.dueFaults)
      State.settleRounds n r.2 r.1

/-- The collector's part of a step (R597): nothing is left due. -/
def State.collectAll (s : State) : State :=
  if s.dueFaults.isEmpty then s
  else if s.running then s.settleRounds 16 []
  else { s with dueFaults := [] }

/-- The end of a step: the collector has acted, and the interrupt levels that fell have been seen (R247, R597). -/
def settle (s : State) : State := s.collectAll.levelFalls

end Sys2Proof.Machine
end

