-- ==== Sys2Proof/Machine/PortIO.lean ====
section
/-!
DEFINITION. What the port classes share: frame records (R333, R404), storing a received frame and waking those that
wait for it (R373, R380, R394), the next frame that a port begins (R349, R389), and the gateway's ingress staging
(R513, R514).
-/

namespace Sys2Proof.Machine

/-- A counter of a status block, which saturates at its maximum (R408). -/
def sat1 (n : Nat) : Nat := min (2 ^ 32 - 1) (n + 1)

/-! ### Frame records (R333, R404) -/

def recLen (bs : List Byte) : Nat := fieldAt bs 0 2
def recRstat (bs : List Byte) : Nat := fieldAt bs 2 1
def recKind (bs : List Byte) : Nat := fieldAt bs 3 1
def recIdent (bs : List Byte) : Nat := fieldAt bs 4 4
/-- The filter index or frame identifier of a received record: byte 0x0E, or ident bits 21:16 of an Ethernet record
(R404, R455). -/
def recFilter (cls : Nat) (bs : List Byte) : Nat :=
  if cls = clsEth then bits (recIdent bs) 16 6 else fieldAt bs 0xE 1
def recData (bs : List Byte) : List Byte := bs.drop 16

/-- A record: length, rstat, kind, ident, time, bytes 0x0E and 0x0F, and the data padded to whole words. -/
def mkRecord (len rstat kind ident time b14 b15 : Nat) (data : List Byte) : List Byte :=
  leBytes 2 len ++ leBytes 1 rstat ++ leBytes 1 kind ++ leBytes 4 ident ++ leBytes 6 time ++ leBytes 1 b14
    ++ leBytes 1 b15 ++ fit ((data.length + 7) / 8 * 8) data

/-- The header fields that are zero on a WRITE are zero, and so is the padding (R333). -/
def recZerosOk (bs : List Byte) (dataLen : Nat) : Bool :=
  recRstat bs == 0 && zeroAt bs 8 8 && (bs.drop (16 + dataLen)).all (· == 0)

/-- Bytes of the record whose 16-byte header this is, for a port class: a remote CAN frame carries no data (R333,
R413). -/
def recSize (cls : Nat) (hdr : List Byte) : Nat :=
  if cls = clsCan && bits (recKind hdr) 0 3 = 0 && (recKind hdr).testBit 4 then 16
  else 16 + (recLen hdr + 7) / 8 * 8

/-! ### Pending packets (R373) -/

/-- The receive class of a filter of a port: its class field, or 0 where the port has none. -/
def State.filterClass (s : State) (cls idx f : Nat) : Nat :=
  if cls = clsCan then s.get (R.CAN_FLT_MASK_class idx f)
  else if cls = clsEth then s.get (R.ETH_FLT_W3_class idx f)
  else 0

/-- The sub-address that names any filter. -/
def anyFilter : Nat := 0xFFF

/-- The receive queues that a READ or WAIT_EVENT with a sub-address uses (R330, R372, R373, R718). -/
def State.rxFor (s : State) (cls idx sub : Nat) : List Nat :=
  if cls = clsSent then [rxQueue cls idx sub]
  else if cls = clsSer || cls = clsCard then [rxQueue cls idx 0]
  else if sub = anyFilter then (rxQueues cls idx).filter s.qOn
  else [rxQueue cls idx (s.filterClass cls idx sub)]

/-- Whether the packet at the head of a queue is one that the sub-address names. -/
def State.headFor (s : State) (cls sub q : Nat) : Bool :=
  match s.qPeek q with
  | none => false
  | some h => sub == anyFilter || !(cls == clsCan || cls == clsLin || cls == clsEth) || recFilter cls h == sub

/-- A chunk of a UART or card port that a READ has begun. -/
def State.restOf (s : State) (cls idx : Nat) : Option (List Byte × Nat) :=
  if cls = clsSer then ((tget s.sers idx).getD {}).rest
  else if cls = clsCard then ((tget s.cards idx).getD {}).rest
  else none

/-- A packet that the sub-address names is pending. -/
def State.pendingFor (s : State) (cls idx sub : Nat) : Bool :=
  (s.restOf cls idx).isSome || (s.rxFor cls idx sub).any fun q => s.qOn q && s.headFor cls sub q

/-- The order of the commit of the packet at the head of a queue. -/
def State.headSeq (s : State) (q : Nat) : Nat := ((s.wq q).pkts.headD (0, 0)).2

/-- The queue from which a READ takes its next packet: of those whose head suits, the one committed earliest (R373). -/
def State.nextQueue (s : State) (cls idx sub : Nat) : Option Nat :=
  ((s.rxFor cls idx sub).filter fun q => s.qOn q && s.headFor cls sub q).foldl (fun b q =>
    match b with
    | none => some q
    | some p => if s.headSeq q < s.headSeq p then some q else some p) none

/-- WAIT_EVENT 0x01 operations of a port whose packet is pending end (R332, R373). -/
def State.wakeWaits (s : State) (cls idx : Nat) : State :=
  s.endOps (s.agentsWith cls idx fun c =>
    c.opcode == ocWait && c.func == 0x01 && s.pendingFor cls idx (devSub c.dev)) stSuccess 0

/-- A record written to a receive queue of a port, and its notice (R380, R394). -/
def State.store (s : State) (cls idx c : Nat) (record : List Byte) : State :=
  (s.qReceive (rxQueue cls idx c) record).wakeWaits cls idx

/-! ### Frames to transmit -/

/-- The oldest committed packet of a transmit queue, taken by its port: its token and bytes. Packets with a poisoned
word are discarded whole on the way (R349, R389). -/
def State.txTake (q : Nat) : Nat → State → State × Option (Nat × List Byte)
  | 0, s => (s, none)
  | fuel + 1, s =>
    match (s.wq q).pkts with
    | [] => (s, none)
    | (token, _) :: _ =>
      let r := s.qTake q []
      if r.2.poisoned then State.txTake q fuel (r.1.framePoisoned token)
      else (r.1, some (token, r.2.bytes))

def State.txNext (s : State) (q : Nat) : State × Option (Nat × List Byte) := s.txTake q (s.wq q).pkts.length

/-! ### The gateway's ingress staging (R512–R514) -/

/-- The gateway code of a port: CAN 0–15, LIN 16–23, ETH 24–30 (R512). -/
def gwCode (cls idx : Nat) : Nat := if cls = clsCan then idx else if cls = clsLin then 16 + idx else 24 + idx

/-- The class and index of a gateway code. -/
def gwPort (code : Nat) : Nat × Nat :=
  if code < 16 then (clsCan, code) else if code < 24 then (clsLin, code - 16) else (clsEth, code - 24)

/-- A GWC_EVT cause set; every cause but no_route is an event of source 23 (R528, R593). -/
def State.gwRaise (s : State) (bit port : Nat) : State :=
  if bit = 0 then s.raise R.GWC_EVT_cause bit (R.GWC_EVT_CNT_count bit)
  else s.raiseF R.GWC_EVT_cause bit (R.GWC_EVT_CNT_count bit) 23 port

/-- Words that frames take in a gateway queue. -/
def gwWords (l : List (List Byte × Bool)) : Nat := (l.map fun f => (f.1.length + 7) / 8).sum

def State.gwStaged (s : State) (code : Nat) : List (List Byte × Bool) := (tget s.gwIn code).getD []

def State.gwQueued (s : State) (code : Nat) : List (List Byte × Bool) := (tget s.gwOut code).getD []

/-- A received frame offered to the gateway: staged, or dropped when its 8 KiB of staging are full (R513, R514). -/
def State.gwOffer (s : State) (code : Nat) (record : List Byte) : State :=
  let l := s.gwStaged code ++ [(record, false)]
  if gwWords l < 1024 then { s with gwIn := tset s.gwIn code l } else s.gwRaise 9 code

/-- The next gateway frame of an egress port taken; frames with a poisoned word are discarded on the way (R527). -/
def State.gwTake (code : Nat) : Nat → State → State × Option (List Byte)
  | 0, s => (s, none)
  | fuel + 1, s =>
    match s.gwQueued code with
    | [] => (s, none)
    | (bs, pois) :: rest =>
      let t := { s with gwOut := tput s.gwOut code rest [] }
      if pois then State.gwTake code fuel ((t.count (R.GWC_P_CNT_count code 2)).gwRaise 5 code)
      else (t, some bs)

def State.gwNext (s : State) (code : Nat) : State × Option (List Byte) := s.gwTake code (s.gwQueued code).length

end Sys2Proof.Machine
end

