-- ==== Sys2Proof/Machine/Can.lean ====
section
/-!
DEFINITION. CAN ports: configuration, filters, reception and J1939 assembly, transmission, error states, periodic and
supervised frames (R403–R420, R719, R720).
-/

namespace Sys2Proof.Machine

def State.can (s : State) (m : Nat) : CanPort := (tget s.cans m).getD {}

def State.setCan (s : State) (m : Nat) (x : CanPort) : State := { s with cans := tput s.cans m x {} }

/-- A CANm_EVT cause set; warning, passive, bus_off, pex, j1939_abort, ptx_late and sup_timeout are events of source
32 + m (R448, R593). -/
def State.canRaise (s : State) (m bit : Nat) : State :=
  if bit = 3 || bit = 5 || bit = 9 then s.raise (R.CAN_EVT_cause m) bit (R.CAN_EVT_CNT_count m bit)
  else s.raiseF (R.CAN_EVT_cause m) bit (R.CAN_EVT_CNT_count m bit) (32 + m) m

/-! ### State -/

/-- The error state by the counters: 0 active, 1 passive, 2 bus-off (R417). -/
def State.canErrState (s : State) (m : Nat) : Nat :=
  if (s.can m).busOff then 2
  else if 127 < s.get (R.CAN_STATUS_tec m) || 127 < s.get (R.CAN_STATUS_rec m) then 1 else 0

/-- CANm_STATUS.state: 3 while disabled, host-off, stopped or quarantined (R449). -/
def State.canState (s : State) (m : Nat) : Nat :=
  if !s.portRuns clsCan m || s.on (R.CAN_STATUS_host_off m) then 3 else s.canErrState m

/-- Listen-only mode or restricted operation (R412). -/
def State.canQuiet (s : State) (m : Nat) : Bool := s.get (R.CAN_CTL_mode m) != 0

/-- The controller takes part on the bus: it runs, has integrated and is not bus-off (R720). -/
def State.canOnBus (s : State) (m : Nat) : Bool :=
  s.portRuns clsCan m && !(s.can m).integrating && !(s.can m).busOff

/-! ### Records (R413) -/

/-- Data lengths of a format: 0 classical, 1 FD, 2 XL. -/
def canLenOk (fmt n : Nat) : Bool :=
  if fmt = 0 then n ≤ 8
  else if fmt = 1 then n ≤ 8 || [12, 16, 20, 24, 32, 48, 64].contains n
  else fmt == 2 && 1 ≤ n && n ≤ 2048

/-- Whether a record of a WRITE obeys R333, R413 and the port's formats (R445). -/
def State.canRecOk (s : State) (m : Nat) (bs : List Byte) : Bool :=
  let k := recKind bs
  let fmt := bits k 0 3
  let id := recIdent bs
  let rtr := k.testBit 4
  recZerosOk bs (if fmt = 0 && rtr then 0 else recLen bs) && canLenOk fmt (recLen bs)
    && (if fmt = 0 then k / 32 == 0
        else if fmt = 1 then s.on (R.CAN_CTL_fd_en m) && !rtr && k / 64 == 0
        else s.on (R.CAN_CTL_xl_en m) && k / 8 == 0)
    && (fmt == 2 || (if k.testBit 3 then id < 2 ^ 29 else id < 2 ^ 11))

/-- The lowest acceptance-field entry equal to a received one, or 0xF (R414). -/
def State.afSel (s : State) (m af : Nat) : Nat :=
  ((List.range 16).find? fun k => s.get (R.CAN_XL_AF_af m k) == af).getD 0xF

/-- The ident field of a received frame (R413). -/
def State.canIdent (s : State) (m : Nat) (f : CanFrame) : Nat :=
  if f.fmt.val = 2 then
    f.ident.toNat % 2 ^ 11 + s.afSel m f.af.toNat * 2 ^ 11 + b2n f.sec * 2 ^ 15 + f.vcid.toNat * 2 ^ 16
      + f.sdt.toNat * 2 ^ 24
  else if f.ide then f.ident.toNat else f.ident.toNat % 2 ^ 11

/-- The record of a received frame taken by a filter (R404, R413). A remote frame with a DLC of 9–15 has length 8, the data
limit of its format: DESIGN CHOICE (log 132). -/
def State.canRecord (s : State) (m : Nat) (f : CanFrame) (filter time : Nat) : List Byte :=
  let fmt := f.fmt.val
  let remote := fmt == 0 && f.rtr
  let kind := fmt + 8 * b2n (f.ide && fmt != 2) + 16 * b2n remote + 32 * b2n (f.brs && fmt == 1)
  mkRecord (if remote then min 8 f.dlc.toNat else f.data.length) (16 * b2n (f.esi && fmt == 1)) kind
    (s.canIdent m f) time filter 0 (if remote then [] else f.data)

/-! ### Filters (R412) -/

/-- Whether filter k of port m takes a frame. -/
def State.canFilterTakes (s : State) (m : Nat) (f : CanFrame) (k : Nat) : Bool :=
  let fmt := s.get (R.CAN_FLT_ID_fmt m k)
  (if f.fmt.val = 2 then fmt == 3 else if f.ide then fmt == 2 else fmt == 1)
    && ((s.canIdent m f ^^^ s.get (R.CAN_FLT_ID_value m k)) &&& s.get (R.CAN_FLT_MASK_mask m k)) % 2 ^ 29 == 0

/-- The filter that takes a frame: the lowest numbered. -/
def State.canFilter (s : State) (m : Nat) (f : CanFrame) : Option Nat :=
  (List.range 128).find? (s.canFilterTakes m f)

/-! ### J1939 transport (R419)

The layout of TP.CM and TP.DT is SAE J1939-21's and not the manual's: PRESUMED. -/

/-- Group and party fields of a 29-bit identifier. -/
def j1939Pf (id : Nat) : Nat := bits id 16 8
def j1939Da (id : Nat) : Nat := bits id 8 8
def j1939Sa (id : Nat) : Nat := bits id 0 8

/-- A session of port m ended without a record. -/
def State.j1939Abort (s : State) (m sa da : Nat) : State :=
  let x := s.can m
  (s.setCan m { x with sessions := x.sessions.filter (fun j => !(j.sa == sa && j.da == da)),
                       aborted := sat1 x.aborted }).canRaise m 6

/-- A TP.CM frame that opens a session: an RTS for a session already followed restarts it, and a seventeenth is
refused. One whose size lies outside R413's 9–1,785 bytes, or does not need the packets that it names, opens none: DESIGN
CHOICE (log 135). -/
def State.j1939Open (s : State) (m : Nat) (j : Session) : State :=
  let x := s.can m
  let rest := x.sessions.filter fun k => !(k.sa == j.sa && k.da == j.da)
  if j.size < 9 || 1785 < j.size || j.total ≠ (j.size + 6) / 7 then s
  else if 16 ≤ rest.length then s.canRaise m 6
  else s.setCan m { x with sessions := rest ++ [j] }

/-- The assembled record of a session (R413). -/
def sessionRecord (j : Session) (time : Nat) : List Byte :=
  mkRecord j.size 0 (3 + 64 * b2n j.rts) (j.pgn % 2 ^ 18 + j.sa % 256 * 2 ^ 18 + j.prio % 8 * 2 ^ 26) time j.filter j.da
    (fit j.size j.data)

/-- A TP.DT frame of a session: the next packet, or a sequence error; the last one writes the record. -/
def State.j1939Data (s : State) (m : Nat) (j : Session) (data : List Byte) (time : Nat) : State :=
  if fieldAt data 0 1 ≠ j.next then s.j1939Abort m j.sa j.da
  else
    let j' := { j with next := j.next + 1, data := j.data ++ data.drop 1 }
    let x := s.can m
    if j.next = j.total then
      (s.setCan m { x with sessions := x.sessions.filter (fun k => !(k.sa == j.sa && k.da == j.da)) }).store clsCan m
        (s.get (R.CAN_FLT_MASK_class m j.filter)) (sessionRecord j' time)
    else s.setCan m { x with sessions := x.sessions.map fun k => if k.sa == j.sa && k.da == j.da then j' else k }

/-- A frame that goes to the transport assembler. Frames other than TP.CM and TP.DT are not followed. -/
def State.j1939 (s : State) (m filter : Nat) (f : CanFrame) (time : Nat) : State :=
  let id := f.ident.toNat
  let sa := j1939Sa id
  let da := j1939Da id
  if j1939Pf id = 0xEC then
    let c := fieldAt f.data 0 1
    let j : Session := { sa := sa, da := da, pgn := fieldAt f.data 5 3, prio := bits id 26 3, rts := c == 16,
                         size := fieldAt f.data 1 2, total := fieldAt f.data 3 1, filter := filter }
    if c = 16 || c = 32 then s.j1939Open m j
    else if c = 255 then
      match (s.can m).sessions.find? fun k => (k.sa == sa && k.da == da) || (k.sa == da && k.da == sa) with
      | some k => s.j1939Abort m k.sa k.da
      | none => s
    else s
  else if j1939Pf id = 0xEB then
    match (s.can m).sessions.find? fun k => k.sa == sa && k.da == da with
    | some k => s.j1939Data m k f.data time
    | none => s
  else s

/-- T1 of a session has passed (R419). -/
def State.j1939T1 (s : State) (m sa da : Nat) : State :=
  if (s.can m).sessions.any (fun k => k.sa == sa && k.da == da) then s.j1939Abort m sa da else s

/-! ### Loading frames (R416, R420) -/

/-- The record of periodic slot k: an 8-byte classical frame with a 29-bit identifier (R420). -/
def State.ptxRecord (s : State) (m k : Nat) : List Byte :=
  mkRecord 8 0 8 (s.get (R.CAN_PTX_ID_ident m k)) 0 0 0
    (leBytes 4 (s.get (R.CAN_PTX_D0_data m k)) ++ leBytes 4 (s.get (R.CAN_PTX_D1_data m k)))

/-- A periodic slot sends: it is enabled, and the port's timing functions are on, outside R412's quiet modes. -/
def State.ptxOn (s : State) (m k : Nat) : Bool :=
  s.on (R.CAN_CTL_iso11992 m) && s.on (R.CAN_PTX_CTL_en m k) && !s.canQuiet m

/-- The lowest periodic slot that is due. -/
def State.ptxNext (s : State) (m : Nat) : Option Nat :=
  (List.range 8).find? fun k => (s.can m).ptxDue.testBit k && s.ptxOn m k

/-- A frame put into the controller, which begins it. -/
def State.canBegin (s : State) (m : Nat) (f : TxFrame) : State := s.setCan m { s.can m with tx := some f }

/-- A frame boundary: the controller loads a due periodic frame, then a program frame, then a gateway frame (R416). -/
def State.canLoad (s : State) (m : Nat) : State :=
  if !s.canOnBus m || s.on (R.CAN_STATUS_host_off m) || (s.can m).tx.isSome then s
  else match s.ptxNext m with
    | some k =>
      let x := s.can m
      (s.setCan m { x with ptxDue := clearBits x.ptxDue (2 ^ k) }).canBegin m { src := .periodic k, bytes := s.ptxRecord m k }
    | none =>
      let r := s.txNext (txQueue clsCan m 0)
      match r.2 with
      | some (token, bs) => r.1.canBegin m { src := .program token, bytes := bs }
      | none =>
        let g := r.1.gwNext (gwCode clsCan m)
        match g.2 with
        | some bs => g.1.canBegin m { src := .gateway, bytes := bs }
        | none => g.1

/-- The controller starts or resumes: integration or recovery has ended, and a frame boundary follows. -/
def State.canReady (s : State) (m : Nat) : State :=
  (s.setCan m { s.can m with integrating := false }).canLoad m

/-- CANm_STB: low while the controller is enabled and not host-off (R411). -/
def State.canStb (s : State) (m : Nat) : Bool := !s.on (R.CAN_CTL_en m) || s.on (R.CAN_STATUS_host_off m)

/-! ### Error counters (R417) -/

/-- BUS_ON operations that the port has taken end (R418). -/
def State.busOnDone (s : State) (m : Nat) : State :=
  s.endOps ((s.agentsWith clsCan m fun c => c.opcode == ocControl && c.func == 0x01).filter fun a =>
    match s.op a with
    | some o => o.event
    | none => false) stSuccess 0

/-- A WAIT_EVENT 0x02 on the port ends when the error state differs from `old` (R332), and a return to error active ends
a BUS_ON (R418). -/
def State.canStateSeen (s : State) (m old : Nat) : State :=
  if s.canErrState m = old then s
  else
    let s := s.portEvent clsCan m 0x02 (fun _ => true)
    if s.canErrState m = 0 then s.busOnDone m else s

/-- Committed frames that have not begun are discarded with a detail (R417, R418). -/
def State.canDiscard (s : State) (m detail : Nat) : State :=
  let f := s.qFlush (txQueue clsCan m 0)
  f.2.foldl (fun t g => t.frameFailed g detail) f.1

/-- Entry to bus-off; with auto_recover = 1 recovery begins with it, which ends a waiting BUS_ON (R417, R418). -/
def State.canBusOff (s : State) (m : Nat) : State :=
  let auto := s.on (R.CAN_CTL_auto_recover m)
  let s := ((s.setCan m { s.can m with busOff := true, recovering := auto }).canRaise m 2).canDiscard m 0x10
  if auto then s.busOnDone m else s

/-- Both counters given new values, with the causes that this sets (R417). -/
def State.canCount (s : State) (m tec rec : Nat) : State :=
  let old := s.canErrState m
  let warns := (s.get (R.CAN_STATUS_tec m) < 96 && 96 ≤ tec) || (s.get (R.CAN_STATUS_rec m) < 96 && 96 ≤ rec)
  let s := (s.put (R.CAN_STATUS_tec m) (min 255 tec)).put (R.CAN_STATUS_rec m) (min 255 rec)
  let s := if warns then s.canRaise m 0 else s
  let s := if old = 0 && 127 < max tec rec then s.canRaise m 1 else s
  let s := if 255 < tec && old != 2 then s.canBusOff m else s
  s.canStateSeen m old

/-- The controller changes its counters at errors: not in listen-only mode, in restricted operation or while host-off
(R412). -/
def State.canCounts (s : State) (m : Nat) : Bool := !s.canQuiet m && !s.on (R.CAN_STATUS_host_off m)

/-- What an error does to the counters. -/
def State.canErrCount (s : State) (m : Nat) (e : CanErr) : State :=
  let t := s.get (R.CAN_STATUS_tec m)
  let r := s.get (R.CAN_STATUS_rec m)
  if !s.canCounts m then s
  else match e with
    | .transmit => s.canCount m (t + 8) r
    | .receive => s.canCount m t (r + 1)
    | .receiveMore => s.canCount m t (r + 8)
    | _ => s

/-- A failed attempt of the frame that the controller sends: it is dropped in one-shot mode, at its retry limit, after
an ABORT_TX, or when the port has stopped running; otherwise it is sent again (R416, R418). -/
def State.canFailed (s : State) (m : Nat) : State :=
  let x := s.can m
  match x.tx with
  | none => s
  | some f =>
    let limit := s.get (R.CAN_CTL_retry_limit m)
    if f.last || s.on (R.CAN_CTL_one_shot m) || (limit ≠ 0 && limit ≤ f.tries) || !s.portRuns clsCan m then
      let s := s.setCan m { x with tx := none }
      let s := match f.src with
        | .program token => s.frameFailed token (if f.last then 0x12 else 0x11)
        | _ => s
      s.canLoad m
    else s.setCan m { x with tx := some { f with tries := f.tries + 1 } }

/-- An error or lost arbitration seen by the controller, with the last error code (R416, R417, R449). A detected error
of a transmitter ends the attempt. -/
def State.canError (s : State) (m : Nat) (e : CanErr) (lec : Nat) : State :=
  if (s.can m).integrating || (s.can m).busOff then s
  else
    let x := s.can m
    let s := if e = .arbitration then s
      else (s.setCan m { x with errors := sat1 x.errors }).put (R.CAN_STATUS_lec m) lec
    let s := s.canErrCount m e
    if e = .receive || e = .receiveMore then s else s.canFailed m

/-- A frame received without error lowers REC: by 1, or from the passive range to a value of 119–127 that ISO 11898-1
leaves to the controller, a free value. -/
def State.canRecDown (s : State) (m : Nat) : State :=
  let r := s.get (R.CAN_STATUS_rec m)
  let t := s.get (R.CAN_STATUS_tec m)
  if r = 0 then s
  else if r ≤ 127 then s.canCount m t (r - 1)
  else
    let d := s.drawFree
    d.1.canCount m t (119 + d.2 % 9)

/-! ### Reception -/

/-- A frame of a format that the port does not accept: a protocol exception, or a form error (R415). -/
def State.canException (s : State) (m : Nat) : State :=
  if s.on (R.CAN_CTL_pex m) then (s.setCan m { s.can m with integrating := true }).canRaise m 4
  else s.canError m .receive 2

/-- Whether the port accepts the format of a frame (R415). -/
def State.canAccepts (s : State) (m : Nat) (f : CanFrame) : Bool :=
  if f.fmt.val = 1 then s.on (R.CAN_CTL_fd_en m) else if f.fmt.val = 2 then s.on (R.CAN_CTL_xl_en m) else true

/-- Supervision slots of a received identifier rearm (R420). -/
def State.supSeen (s : State) (m : Nat) (f : CanFrame) : State :=
  let x := s.can m
  let hit := (List.range 8).filter fun k =>
    s.on (R.CAN_SUP_ID_en m k) && f.ide && s.get (R.CAN_SUP_ID_ident m k) == f.ident.toNat
  s.setCan m { x with supFired := hit.foldl (fun v k => clearBits v (2 ^ k)) x.supFired }

/-- A frame stored by its filter, handed to the assembler, or counted as taken by none (R412, R419). -/
def State.canStore (s : State) (m : Nat) (f : CanFrame) (time : Nat) : State :=
  match s.canFilter m f with
  | none => (s.setCan m { s.can m with noFilter := sat1 (s.can m).noFilter }).canRaise m 5
  | some k =>
    if s.on (R.CAN_CTL_j1939 m) && s.on (R.CAN_FLT_MASK_j1939 m k) then s.j1939 m k f time
    else s.store clsCan m (s.get (R.CAN_FLT_MASK_class m k)) (s.canRecord m f k time)

/-- A frame received without error (R412–R415, R419, R420, R513): none reaches a detached CANm_RX (R69). -/
def State.canReceive (s : State) (m : Nat) (f : CanFrame) (time : Nat) : State :=
  if !s.canOnBus m || !s.attached ⟨.can, m, 1⟩ then s
  else if !s.canAccepts m f then s.canException m
  else
    let s := s.canRecDown m
    let s := s.setCan m { s.can m with rx := sat1 (s.can m).rx }
    let s := (s.supSeen m f).canStore m f time
    s.gwOffer (gwCode clsCan m) (s.canRecord m f 0 time)

/-! ### Transmission -/

/-- A frame on the bus: its record, and for an XL frame the acceptance field that af_sel names (R414). -/
def State.canWire (s : State) (m : Nat) (bs : List Byte) : List Byte :=
  bs ++ (if bits (recKind bs) 0 3 = 2 then leBytes 4 (s.get (R.CAN_XL_AF_af m (bits (recIdent bs) 11 4))) else [])

/-- The frame that the controller sends has left the port (R416). With CANm_TX or CANm_RX detached none does: the
controller sees the recessive idle level, and bit errors (R69). While host-off the port sends nothing, and the frame waits
for BUS_ON (R418): DESIGN CHOICE (log 134). -/
def State.canSent (s : State) (m : Nat) : State :=
  let x := s.can m
  match x.tx with
  | none => s
  | some f =>
    if x.busOff || x.integrating || s.on (R.CAN_STATUS_host_off m) || !s.attached ⟨.can, m, 0⟩
        || !s.attached ⟨.can, m, 1⟩ then s
    else
      let t := s.get (R.CAN_STATUS_tec m)
      let s := (s.setCan m { x with tx := none, sent := sat1 x.sent }).emit (.frame clsCan m (s.canWire m f.bytes))
      let s := s.canCount m (t - 1) (s.get (R.CAN_STATUS_rec m))
      let s := match f.src with
        | .program token => s.frameLeft token
        | _ => s
      s.canLoad m

/-- The period of a slot has passed (R420). -/
def State.ptxPeriod (s : State) (m k : Nat) : State :=
  if !(s.ptxOn m k && s.portRuns clsCan m) then s
  else
    let x := s.can m
    if x.ptxDue.testBit k then s.canRaise m 7
    else (s.setCan m { x with ptxDue := setBit x.ptxDue k }).canLoad m

/-- No frame of a supervised identifier has arrived within its timeout (R420). -/
def State.supTimeout (s : State) (m k : Nat) : State :=
  let x := s.can m
  if s.on (R.CAN_CTL_iso11992 m) && s.on (R.CAN_SUP_ID_en m k) && s.portRuns clsCan m && !x.supFired.testBit k then
    (s.setCan m { x with supFired := setBit x.supFired k }).canRaise m 8
  else s

/-! ### Recovery and CONTROL functions (R417, R418) -/

/-- Bus-off recovery begins, which ends a waiting BUS_ON. -/
def State.canRecover (s : State) (m : Nat) : State :=
  let x := s.can m
  if x.busOff && !x.recovering then (s.setCan m { x with recovering := true }).busOnDone m else s

/-- Recovery has counted its 128 occurrences: the port is error active again (R417). -/
def State.canRecovered (s : State) (m : Nat) : State :=
  let x := s.can m
  if x.busOff && x.recovering then
    let old := s.canErrState m
    let s := ((s.setCan m { x with busOff := false, recovering := false }).put (R.CAN_STATUS_tec m) 0).put
      (R.CAN_STATUS_rec m) 0
    ((s.canRaise m 3).canStateSeen m old).canLoad m
  else s

/-- CONTROL BUS_ON of an agent. -/
def State.busOn (s : State) (m a : Nat) : State :=
  let s := (s.put (R.CAN_STATUS_host_off m) 0).updOp a fun o => { o with event := true }
  if (s.can m).busOff then (s.canRecover m).endOp a stSuccess 0
  else if s.canErrState m = 0 then (s.endOp a stSuccess 0).canLoad m
  else s.canLoad m

/-- CONTROL BUS_OFF of an agent. -/
def State.busOffCtl (s : State) (m a : Nat) : State := (s.put (R.CAN_STATUS_host_off m) 1).endOp a stSuccess 0

/-- CONTROL ABORT_TX of an agent: a frame in transmission completes, or is not sent again. -/
def State.abortTx (s : State) (m a : Nat) : State :=
  let s := s.canDiscard m 0x12
  let x := s.can m
  let s := match x.tx with
    | some f => s.setCan m { x with tx := some { f with last := true } }
    | none => s
  s.endOp a stSuccess 0

/-! ### Configuration (R407, R410, R720) -/

/-- Quanta per bit, and kernel cycles per bit (R410). -/
def bitQuanta (t1 t2 : Nat) : Nat := 1 + t1 + t2

/-- One bit-timing register obeys the common rules of R410. -/
def timingOk (brp t1 t2 sjw : Nat) : Bool :=
  1 ≤ brp && 2 ≤ t1 && 1 ≤ t2 && 1 ≤ sjw && sjw ≤ t2 && 8 ≤ bitQuanta t1 t2 && bitQuanta t1 t2 ≤ 383

/-- Every field that R407 judges for en = 1 obeys its rule. -/
def State.canCfgOk (s : State) (m : Nat) : Bool :=
  let nb := s.get (R.CAN_NBT_brp m) * bitQuanta (s.get (R.CAN_NBT_tseg1 m)) (s.get (R.CAN_NBT_tseg2 m))
  let db := s.get (R.CAN_DBT_brp m) * bitQuanta (s.get (R.CAN_DBT_tseg1 m)) (s.get (R.CAN_DBT_tseg2 m))
  let xb := s.get (R.CAN_XBT_brp m) * bitQuanta (s.get (R.CAN_XBT_tseg1 m)) (s.get (R.CAN_XBT_tseg2 m))
  timingOk (s.get (R.CAN_NBT_brp m)) (s.get (R.CAN_NBT_tseg1 m)) (s.get (R.CAN_NBT_tseg2 m)) (s.get (R.CAN_NBT_sjw m))
    && 80 ≤ nb && nb ≤ 8000
    && (!s.on (R.CAN_CTL_fd_en m)
        || (timingOk (s.get (R.CAN_DBT_brp m)) (s.get (R.CAN_DBT_tseg1 m)) (s.get (R.CAN_DBT_tseg2 m))
              (s.get (R.CAN_DBT_sjw m)) && 10 ≤ db && db ≤ nb))
    && (!s.on (R.CAN_CTL_xl_en m)
        || (timingOk (s.get (R.CAN_XBT_brp m)) (s.get (R.CAN_XBT_tseg1 m)) (s.get (R.CAN_XBT_tseg2 m))
              (s.get (R.CAN_XBT_sjw m)) && 8 ≤ xb && xb ≤ nb))
    && (!s.on (R.CAN_TDC_en m) || s.get (R.CAN_TDC_offset m) != 0)

/-- Every protocol state of the port ended: counters, error states, host-off, sessions and due slots (R720). -/
def State.canClear (s : State) (m : Nat) : State :=
  let x := s.can m
  (((s.setCan m { x with integrating := false, busOff := false, recovering := false, sessions := [], ptxDue := 0,
                         supFired := 0 }).put (R.CAN_STATUS_tec m) 0).put (R.CAN_STATUS_rec m) 0).put
    (R.CAN_STATUS_host_off m) 0

/-- An accepted write of en = 1 (R720). -/
def State.canEnable (s : State) (m : Nat) : State :=
  let s := (s.put (R.CAN_CTL_en m) 1).canClear m
  s.setCan m { s.can m with integrating := true }

/-- The effect of en in a write of CANm_CTL, once the other fields are written (R406, R407, R720). -/
def State.canEn (s : State) (m : Nat) (en : Bool) : State :=
  if en && !s.on (R.CAN_CTL_en m) then
    if s.canCfgOk m then s.canEnable m else s.canRaise m 9
  else if !en && s.on (R.CAN_CTL_en m) then
    ((s.put (R.CAN_CTL_en m) 0).portOff clsCan m stBadDevice 0x03).canClear m
  else s

/-- A write that sets auto_recover while the port is bus-off starts recovery (R417). -/
def State.autoRecover (s : State) (m : Nat) : State :=
  if s.on (R.CAN_CTL_auto_recover m) then s.canRecover m else s

/-- Periodic slots that do not send are not due: a slot starts one period after it is enabled (R420). -/
def State.ptxOff (s : State) (m : Nat) : State :=
  let x := s.can m
  s.setCan m { x with ptxDue := (List.range 8).foldl (fun v k => if s.ptxOn m k then v else clearBits v (2 ^ k)) x.ptxDue }

/-- A write of CANm_CTL by a MID. -/
def State.canCtlWrite (s : State) (m mid v : Nat) : State :=
  (((s.writeOthers mid v (R.CAN_CTL_en m)).ptxOff m).autoRecover m).canEn m (v.testBit 0)

/-! ### SENSE (R408) -/

def State.canSense (s : State) (m : Nat) : List Byte :=
  let x := s.can m
  fit 32 (leBytes 1 (s.canState m) ++ leBytes 1 (s.get (R.CAN_STATUS_tec m)) ++ leBytes 1 (s.get (R.CAN_STATUS_rec m))
    ++ leBytes 1 (s.get (R.CAN_STATUS_lec m)) ++ leBytes 4 x.rx ++ leBytes 4 x.sent ++ leBytes 4 x.errors
    ++ leBytes 4 x.noFilter ++ leBytes 4 x.aborted)

/-! ### The commands -/

/-- CAN_ENABLE (R720). The value is the whole CANm_CTL write, with en = 1. -/
def execCanEnable (m : Fin 16) (mid : BitVec 4) (value : W32) (s : State) : Host.Outcome State Fault Refusal :=
  .next (settle (s.whenUp fun s => s.canCtlWrite m mid.toNat (setBit value.toNat 0)))

/-- CAN_INTEGRATION_END (R720). -/
def execCanIntegrationEnd (m : Fin 16) (s : State) : Host.Outcome State Fault Refusal :=
  .next (settle (if (s.can m).integrating && s.portRuns clsCan m then s.canReady m else s))

/-- CAN_FRAME_RECEIVE (R412). -/
def execCanFrameReceive (m : Fin 16) (f : CanFrame) (time : BitVec 48) (s : State) : Host.Outcome State Fault Refusal :=
  .next (settle (s.canReceive m f time.toNat))

/-- CAN_FRAME_SENT (R416). -/
def execCanFrameSent (m : Fin 16) (s : State) : Host.Outcome State Fault Refusal := .next (settle (s.canSent m))

/-- CAN_BUS_ERROR (R417). -/
def execCanBusError (m : Fin 16) (e : CanErr) (lec : BitVec 3) (s : State) : Host.Outcome State Fault Refusal :=
  .next (settle (s.canError m e lec.toNat))

/-- CAN_RECOVERY_END (R417). -/
def execCanRecoveryEnd (m : Fin 16) (s : State) : Host.Outcome State Fault Refusal := .next (settle (s.canRecovered m))

/-- AUTO_RECOVER_WRITE (R417). The value is the whole CANm_CTL write, with auto_recover = 1. -/
def execAutoRecoverWrite (m : Fin 16) (mid : BitVec 4) (value : W32) (s : State) : Host.Outcome State Fault Refusal :=
  .next (settle (s.whenUp fun s => s.canCtlWrite m mid.toNat (setBit value.toNat 6)))

/-- PERIODIC_FRAME_DUE (R420). -/
def execPeriodicFrameDue (m : Fin 16) (k : Fin 8) (s : State) : Host.Outcome State Fault Refusal :=
  .next (settle (s.ptxPeriod m k))

/-- SUPERVISION_TIMEOUT (R420). -/
def execSupervisionTimeout (m : Fin 16) (k : Fin 8) (s : State) : Host.Outcome State Fault Refusal :=
  .next (settle (s.supTimeout m k))

/-- J1939_T1_EXPIRY (R419). -/
def execJ1939T1Expiry (m : Fin 16) (sa da : BitVec 8) (s : State) : Host.Outcome State Fault Refusal :=
  .next (settle (s.j1939T1 m sa.toNat da.toNat))

/-- A CONTROL of an agent that its CCW has issued and that has not ended, on a port class with a function (R331). -/
def State.issuedOn (s : State) (a cls func : Nat) : Option Nat :=
  match s.op a with
  | some o =>
    if !s.opFar a o && o.begun && o.ended.isNone && o.first.opcode == ocControl && o.first.func == func
        && devClass o.first.dev == cls then some (devIndex o.first.dev) else none
  | none => none

/-- A port function of an agent carried out, where its CONTROL has been issued. -/
def State.portFunc (s : State) (a cls func : Nat) (f : State → Nat → State) : State :=
  match s.issuedOn a cls func with
  | some i => f s i
  | none => s

/-- BUS_ON (R418). -/
def execBusOn (a : Fin 2560) (s : State) : Host.Outcome State Fault Refusal :=
  .next (settle (s.portFunc a clsCan 0x01 fun t m => t.busOn m a))

/-- BUS_OFF (R418). -/
def execBusOff (a : Fin 2560) (s : State) : Host.Outcome State Fault Refusal :=
  .next (settle (s.portFunc a clsCan 0x02 fun t m => t.busOffCtl m a))

/-- ABORT_TX (R418). -/
def execAbortTx (a : Fin 2560) (s : State) : Host.Outcome State Fault Refusal :=
  .next (settle (s.portFunc a clsCan 0x03 fun t m => t.abortTx m a))

end Sys2Proof.Machine
end

