-- ==== Sys2Proof/Machine/Lin.lean ====
section
/-!
DEFINITION. LIN ports: schedules, headers and responses, sleep and wake-up (R421–R426, R446).
-/

namespace Sys2Proof.Machine

def State.lin (s : State) (m : Nat) : LinPort := (tget s.lins m).getD {}

def State.setLin (s : State) (m : Nat) (x : LinPort) : State := { s with lins := tput s.lins m x {} }

/-- A LINm_EVT cause set; bit_error, checksum, no_response, collision and header_error are events of source 48 + m
(R593). -/
def State.linRaise (s : State) (m bit : Nat) : State :=
  if bit < 4 || bit = 5 then s.raiseF (R.LIN_EVT_cause m) bit (R.LIN_EVT_CNT_count m bit) (48 + m) m
  else s.raise (R.LIN_EVT_cause m) bit (R.LIN_EVT_CNT_count m bit)

/-- The port is a responder. -/
def State.linResponder (s : State) (m : Nat) : Bool := s.on (R.LIN_CFG_role m)

/-- LINm_STATUS.state: 0 idle, 1 schedule running, 2 asleep, 3 disabled (R449). -/
def State.linState (s : State) (m : Nat) : Nat :=
  if !s.portRuns clsLin m then 3 else if (s.lin m).asleep then 2 else if (s.lin m).run.isSome then 1 else 0

/-- Whether a record of a WRITE obeys R333 and the port's limits (R445). -/
def linRecOk (bs : List Byte) : Bool :=
  recZerosOk bs (recLen bs) && 1 ≤ recLen bs && recLen bs ≤ 8 && recIdent bs < 64 && recKind bs < 8
    && bits (recKind bs) 0 2 != 3

/-! ### Schedules (R422) -/

/-- Whether slot s of port m is valid within a table. -/
def State.linSlotOk (s : State) (m k : Nat) : Bool :=
  let n := s.get (R.LIN_SLOT_W0_length m k)
  k < 64 && s.get (R.LIN_SLOT_W0_type m k) != 3 && 1 ≤ n && n ≤ 8 && s.get (R.LIN_SLOT_W1_time m k) != 0

/-- The slots of a table. -/
def State.linTable (s : State) (m t : Nat) : List Nat :=
  (List.range (s.get (R.LIN_TBL_count m t))).map (s.get (R.LIN_TBL_first m t) + ·)

/-- A table is valid (R422). -/
def State.linTableOk (s : State) (m t : Nat) : Bool := !(s.linTable m t).isEmpty && (s.linTable m t).all (s.linSlotOk m)

/-- A run of a table from its first slot. -/
def State.linStart (s : State) (m t : Nat) (passes : Option Nat) (token : Option Nat) : LinRun :=
  { table := t, slot := s.get (R.LIN_TBL_first m t), passes := passes, token := token }

/-- A run moved to its next slot; none when its passes are done. -/
def State.linStep (s : State) (m : Nat) (r : LinRun) : Option LinRun :=
  if r.slot + 1 < s.get (R.LIN_TBL_first m r.table) + s.get (R.LIN_TBL_count m r.table) then
    some { r with slot := r.slot + 1 }
  else match r.passes with
    | none => some { r with slot := s.get (R.LIN_TBL_first m r.table) }
    | some n => if n ≤ 1 then none else some { r with slot := s.get (R.LIN_TBL_first m r.table), passes := some (n - 1) }

/-- The schedule moves on at the end of a slot. A collision table that has run gives way to the table that it
interrupted (R425), and a table whose passes are done sets sched_done. -/
def State.linNextSlot (s : State) (m : Nat) : State :=
  let x := s.lin m
  match x.run with
  | none => s
  | some r =>
    if r.fresh then s
    else match s.linStep m r with
      | some r' => s.setLin m { x with run := some { r' with fresh := true } }
      | none =>
        match x.back with
        | [] => (s.setLin m { x with run := none }).linRaise m 6
        | b :: rest => s.setLin m { x with run := some { b with fresh := true }, back := rest }

/-- What waits for the end of the slot takes effect: a STOP_SCHEDULE or a RUN_SCHEDULE (R422). -/
def State.linRequest (s : State) (m : Nat) : State :=
  let x := s.lin m
  match x.next with
  | none => s.linNextSlot m
  | some (r, ends) =>
    ends.foldl (fun t g => t.endToken g stSuccess 0) (s.setLin m { x with run := r, back := [], next := none })

/-! ### Pending responses (R423) -/

/-- Records at the head of the transmit queue become pending responses, in order, while their identifier has none. -/
def State.linIntake (m : Nat) : Nat → State → State
  | 0, s => s
  | fuel + 1, s =>
    match s.qPeek (txQueue clsLin m 0) with
    | none => s
    | some h =>
      if (tget (s.lin m).pend (recIdent h)).isSome then s
      else
        let r := s.txNext (txQueue clsLin m 0)
        match r.2 with
        | none => r.1
        | some (token, bs) =>
          let x := r.1.lin m
          State.linIntake m fuel (r.1.setLin m { x with pend := tset x.pend (recIdent bs) (token, bs) })

/-- Every record that the port can take becomes a pending response. -/
def State.linLoad (s : State) (m : Nat) : State :=
  if s.portRuns clsLin m then s.linIntake m (s.wq (txQueue clsLin m 0)).pkts.length else s

/-- Where the response for an identifier comes from: a program, then the gateway where LINm_RSPi publishes, then, where
`again` allows, the data last sent. -/
def State.linSource (s : State) (m id : Nat) (again : Bool) : Option (LinFrom × List Byte) :=
  let x := s.lin m
  match tget x.pend id with
  | some (token, bs) => some (.program token, bs)
  | none =>
    match tget x.gw id with
    | some bs =>
      if s.get (R.LIN_RSP_action m id) = 2 then some (.gateway, bs)
      else if again then (tget x.lastData id).map (fun b => (.again, b)) else none
    | none => if again then (tget x.lastData id).map (fun b => (.again, b)) else none

/-- A header under way, and its response to follow. -/
def State.linUnder (s : State) (m : Nat) (h : LinHdr) : State := s.setLin m { s.lin m with hdr := some h }

/-- A commander's header: a break of 13 + break_ext bits, and the identifier (R421). -/
def State.linHeader (s : State) (m : Nat) (h : LinHdr) : State :=
  (s.linUnder m h).emit (.line clsLin m 0 (h.id + 64 * (13 + s.get (R.LIN_CFG_break_ext m))))

/-! ### The commander's slots -/

/-- The record of the sleep command (R426). -/
def sleepRecord : List Byte := mkRecord 8 0 2 0x3C 0 0 0 ([0x00] ++ List.replicate 7 0xFF)

/-- Identifiers that the running schedule contains. -/
def State.linContains (s : State) (m id : Nat) : Bool :=
  match (s.lin m).run with
  | none => false
  | some r => (s.linTable m r.table).any fun k => s.get (R.LIN_SLOT_W0_id m k) == id

/-- A pending response whose identifier the schedule does not contain, sent with its own header (R423). -/
def State.linOwn (s : State) (m : Nat) : Option (Nat × Nat × List Byte) :=
  (s.lin m).pend.find? fun e => !s.linContains m e.1

/-- The header of schedule slot k. -/
def State.linSlotHdr (s : State) (m k : Nat) : LinHdr :=
  let id := s.get (R.LIN_SLOT_W0_id m k)
  let publish := s.on (R.LIN_SLOT_W0_publish m k)
  let type := s.get (R.LIN_SLOT_W0_type m k)
  let h : LinHdr := { id := id, type := type, enhanced := s.on (R.LIN_SLOT_W0_enhanced m k), record := !publish,
                      ctable := if type = 1 then some (s.get (R.LIN_SLOT_W0_ctable m k)) else none, time := s.now }
  match s.linSource m id publish with
  | some (src, bs) => { h with src := src, bytes := bs, record := false }
  | none => h

/-- A slot of the running schedule begins: the RUN_SCHEDULE that waits for it ends, and its header is sent. A publish
slot without data sends its header only. -/
def State.linRunSlot (s : State) (m : Nat) (r : LinRun) : State :=
  let s := s.setLin m { s.lin m with run := some { r with fresh := false, token := none } }
  let s := (s.put (R.LIN_STATUS_table m) r.table).put (R.LIN_STATUS_slot m) r.slot
  let s := match r.token with
    | some g => s.endToken g stSuccess 0
    | none => s
  s.linHeader m (s.linSlotHdr m r.slot)

/-- The next slot of a commander begins (R422, R423, R425, R426). A header still under way has ended with its slot. -/
def State.linSlot (s : State) (m : Nat) : State :=
  if !s.portRuns clsLin m || s.linResponder m then s
  else
    let s := (s.setLin m { s.lin m with hdr := none }).linRequest m
    let x := s.lin m
    if x.asleep && x.run.isNone then s
    else match x.sleep with
      | some a => s.linHeader m { id := 0x3C, type := 2, src := .sleep a, bytes := sleepRecord, time := s.now }
      | none =>
        match s.linOwn m with
        | some (id, token, bs) => s.linHeader m { id := id, src := .program token, bytes := bs, time := s.now }
        | none =>
          match x.run with
          | some r => s.linRunSlot m r
          | none => s

/-! ### Headers received (R421) -/

/-- A bit time in nanoseconds lies within ±15 % of LINm_BAUD (R421). -/
def State.linInRange (s : State) (m bit : Nat) : Bool :=
  85 * 10 ^ 7 ≤ bit * s.get (R.LIN_BAUD_rate m) && bit * s.get (R.LIN_BAUD_rate m) ≤ 115 * 10 ^ 7

/-- A header received by a responder, with the bit time of its sync field: resynchronised on, or discarded when that lies
outside ±15 %. -/
def State.linRxHeader (s : State) (m id bit : Nat) (time : Nat) : State :=
  if !s.attached ⟨.lin, m, 1⟩ || !s.portRuns clsLin m || !s.linResponder m then s
  else if !s.linInRange m bit then s.linRaise m 5
  else
    let h : LinHdr := { id := id, type := if id = 0x3C || id = 0x3D then 2 else 0, time := time,
                        enhanced := s.on (R.LIN_RSP_enhanced m id), record := s.get (R.LIN_RSP_action m id) == 1 }
    match s.linSource m id false with
    | some (src, bs) => s.linUnder m { h with src := src, bytes := bs, record := false }
    | none => s.linUnder m h

/-! ### Responses (R424, R425) -/

/-- A RUN_SCHEDULE that a port has taken and whose first slot has not begun. -/
def LinPort.toRun (x : LinPort) : Option LinRun :=
  match x.next with
  | some (r, _) => r
  | none => x.run.filter fun r => r.token.isSome

/-- The sleep command has left, and the port sleeps: its schedule ends, but for a RUN_SCHEDULE taken meanwhile, which
wakes it (R426), and what waits for the end of the slot takes effect. -/
def State.linSlept (s : State) (m token : Nat) : State :=
  let x := s.lin m
  let r := x.toRun
  let ends := match x.next with
    | some n => n.2
    | none => []
  let s := s.setLin m { x with asleep := r.isNone, sleep := none, run := r, back := [], next := none, woken := false }
  (ends ++ [token]).foldl (fun t g => t.endToken g stSuccess 0) s

/-- A dominant level over 150 µs on a sleeping port, or one that comes while the port sends the sleep command and is taken
at once after it (R426, R444). A commander stays asleep until it receives RUN_SCHEDULE. -/
def State.linWake (s : State) (m : Nat) : State :=
  let x := s.lin m
  if !s.portRuns clsLin m || !s.attached ⟨.lin, m, 1⟩ then s
  else if x.asleep then
    let s := if s.linResponder m then s.setLin m { x with asleep := false } else s
    (s.linRaise m 4).portEvent clsLin m 0x03 (fun _ => true)
  else if x.sleep.isSome then s.setLin m { x with woken := true }
  else s

/-- A response that the port sent has left. -/
def State.linSentResp (s : State) (m : Nat) (h : LinHdr) : State :=
  let x := s.lin m
  let x := { x with hdr := none, sent := sat1 x.sent,
                    lastData := if s.linResponder m then x.lastData else tset x.lastData h.id h.bytes }
  let s := s.emit (.frame clsLin m h.bytes)
  match h.src with
  | .bus => s
  | .again => s.setLin m x
  | .gateway => s.setLin m { x with gw := tdel x.gw h.id }
  | .program token => ((s.setLin m { x with pend := tdel x.pend h.id }).frameLeft token).linLoad m
  | .sleep g =>
    let t := (s.setLin m { x with lastData := (s.lin m).lastData }).linSlept m g
    if x.woken then t.linWake m else t

/-- The kind byte of a record: frame type and enhanced checksum. -/
def LinHdr.kind (h : LinHdr) : Nat := h.type + 4 * b2n h.enhanced

/-- The slot's collision table is run in place of the following slot (R425). -/
def State.linCollide (s : State) (m t : Nat) : State :=
  let x := s.lin m
  match x.run with
  | none => s
  | some r =>
    if !s.linTableOk m t then s
    else
      let after := (s.linStep m r).bind (s.linStep m)
      let coll := s.linStart m t (some 1) none
      let back := match after with
        | some b => b :: x.back
        | none => x.back
      s.setLin m { x with run := some coll, back := back }

/-- A response of another node has ended. -/
def State.linBusResp (s : State) (m : Nat) (h : LinHdr) (p : LinResp) : State :=
  let coll := h.ctable.isSome && (p.checksum || p.framing)
  let x := s.lin m
  let s := s.setLin m { x with hdr := none, rx := sat1 x.rx, checksum := if p.checksum then sat1 x.checksum else x.checksum }
  let s := if coll then s.linRaise m 3 else if p.checksum then s.linRaise m 1 else s
  let rec0 (rstat : Nat) : List Byte := mkRecord p.data.length rstat h.kind h.id h.time h.id 0 p.data
  let s := if h.record then
      s.store clsLin m 0 (rec0 (16 * b2n p.checksum + 32 * b2n p.framing + 64 * b2n p.incomplete + 128 * b2n coll))
    else s
  let s := if p.checksum || p.framing || p.incomplete then s else s.gwOffer (gwCode clsLin m) (rec0 0)
  match h.ctable with
  | some t => if coll then s.linCollide m t else s
  | none => s

/-- A response ends: one of the port's own, or one of another node. None is seen on a detached LINm_RX, and one that the
port sends without LINm_TX or LINm_RX meets bit errors (R69). -/
def State.linRespEnd (s : State) (m : Nat) (p : LinResp) : State :=
  match (s.lin m).hdr with
  | none => s
  | some h =>
    if h.src = .bus then (if s.attached ⟨.lin, m, 1⟩ then s.linBusResp m h p else s)
    else if s.attached ⟨.lin, m, 0⟩ && s.attached ⟨.lin, m, 1⟩ then s.linSentResp m h
    else s

/-- A response of another node has not ended within its time (R424). -/
def State.linNoResp (s : State) (m : Nat) : State :=
  let x := s.lin m
  match x.hdr with
  | none => s
  | some h =>
    if h.src ≠ .bus then s
    else
      let s := s.setLin m { x with hdr := none }
      if h.record then
        ((s.setLin m { s.lin m with noResponse := sat1 x.noResponse }).linRaise m 2).store clsLin m 0
          (mkRecord 0 8 h.kind h.id h.time h.id 0 [])
      else s

/-- A bit error on a header or response that the port sends stops that frame (R446). -/
def State.linBitError (s : State) (m : Nat) : State :=
  let x := s.lin m
  match x.hdr with
  | none => s
  | some h =>
    if h.src = .bus && s.linResponder m then s
    else
      let x := { x with hdr := none, bitErr := sat1 x.bitErr }
      let s := s.linRaise m 0
      match h.src with
      | .program token => (((s.setLin m { x with pend := tdel x.pend h.id }).frameFailed token 0x20)).linLoad m
      | .gateway => s.setLin m { x with gw := tdel x.gw h.id }
      | .sleep g => (s.setLin m { x with sleep := none, woken := false }).endToken g stDeviceError 0x20
      | _ => s.setLin m x

/-! ### Wake-up and CONTROL functions (R422, R426) -/

/-- The CONTROLs that wait for the end of the slot once another has come: they end there, a RUN_SCHEDULE too, whose
schedule never begins (R444). DESIGN CHOICE (log 136). -/
def LinPort.replaced (x : LinPort) : List Nat :=
  match x.next with
  | none => []
  | some (r, ends) => ends ++ (r.bind (·.token)).toList

/-- CONTROL RUN_SCHEDULE of an agent for a table and passes. -/
def State.runSchedule (s : State) (m a t passes : Nat) : State :=
  if s.linResponder m then s.endOp a stDeviceError 0x21
  else if !s.linTableOk m t then s.endOp a stDeviceError 0x22
  else
    let x := s.lin m
    let r := s.linStart m t (if passes = 0 then none else some passes) (some (s.tokenOf a))
    if x.run.isSome then s.setLin m { x with next := some (some r, x.replaced), asleep := false }
    else s.setLin m { x with run := some r, asleep := false }

/-- CONTROL STOP_SCHEDULE of an agent. -/
def State.stopSchedule (s : State) (m a : Nat) : State :=
  if s.linResponder m then s.endOp a stDeviceError 0x21
  else
    let x := s.lin m
    if x.run.isSome then s.setLin m { x with next := some (none, x.replaced ++ [s.tokenOf a]) }
    else s.endOp a stSuccess 0

/-- CONTROL GOTO_SLEEP of an agent. -/
def State.gotoSleep (s : State) (m a : Nat) : State :=
  if s.linResponder m then s.endOp a stDeviceError 0x21
  else s.setLin m { s.lin m with sleep := some (s.tokenOf a) }

/-- CONTROL WAKEUP of an agent: the pulse begins. -/
def State.linPulse (s : State) (m a : Nat) : State :=
  (s.setLin m { s.lin m with waking := some (s.tokenOf a) }).emitOn ⟨.lin, m, 0⟩
    (.line clsLin m 1 (s.get (R.LIN_CFG_wake_len m) + 1))

/-- The pulse ends, and its CONTROL with it. -/
def State.linPulseEnd (s : State) (m : Nat) : State :=
  let x := s.lin m
  match x.waking with
  | some g => (s.setLin m { x with waking := none }).endToken g stSuccess 0
  | none => s

/-! ### Configuration and SENSE -/

/-- The effect of en in a write of LINm_CFG: a bit rate outside 1,000–20,000 bit/s breaks its rule (R406, R407, R449). -/
def State.linEn (s : State) (m : Nat) (en : Bool) : State :=
  let rate := s.get (R.LIN_BAUD_rate m)
  if en && !s.on (R.LIN_CFG_en m) then
    if rate < 1000 || 20000 < rate then s.linRaise m 7 else s.put (R.LIN_CFG_en m) 1
  else if !en && s.on (R.LIN_CFG_en m) then
    let s := (s.put (R.LIN_CFG_en m) 0).portOff clsLin m stBadDevice 0x03
    s.setLin m { s.lin m with asleep := false }
  else s

def State.linSense (s : State) (m : Nat) : List Byte :=
  let x := s.lin m
  fit 32 (leBytes 1 (s.get (R.LIN_CFG_role m)) ++ leBytes 1 (s.linState m) ++ leBytes 1 (s.get (R.LIN_STATUS_table m))
    ++ leBytes 1 (s.get (R.LIN_STATUS_slot m)) ++ leBytes 4 x.rx ++ leBytes 4 x.sent ++ leBytes 4 x.noResponse
    ++ leBytes 4 x.checksum ++ leBytes 4 x.bitErr)

/-! ### The commands -/

/-- LIN_SLOT_START (R422). -/
def execLinSlotStart (m : Fin 8) (s : State) : Host.Outcome State Fault Refusal := .next (settle (s.linSlot m))

/-- LIN_HEADER_RECEIVE (R421). `bit` is the measured bit time in nanoseconds. -/
def execLinHeaderReceive (m : Fin 8) (id : BitVec 6) (bit : BitVec 32) (time : BitVec 48) (s : State) :
    Host.Outcome State Fault Refusal :=
  .next (settle (s.linRxHeader m id.toNat bit.toNat time.toNat))

/-- LIN_RESPONSE_END (R424). -/
def execLinResponseEnd (m : Fin 8) (p : LinResp) (s : State) : Host.Outcome State Fault Refusal :=
  .next (settle (s.linRespEnd m p))

/-- LIN_RESPONSE_TIMEOUT (R424). -/
def execLinResponseTimeout (m : Fin 8) (s : State) : Host.Outcome State Fault Refusal := .next (settle (s.linNoResp m))

/-- LIN_BIT_ERROR (R446). -/
def execLinBitError (m : Fin 8) (s : State) : Host.Outcome State Fault Refusal := .next (settle (s.linBitError m))

/-- LIN_WAKEUP_DETECT (R426). -/
def execLinWakeupDetect (m : Fin 8) (s : State) : Host.Outcome State Fault Refusal := .next (settle (s.linWake m))

/-- WAKEUP_PULSE_END (R426). -/
def execWakeupPulseEnd (m : Fin 8) (s : State) : Host.Outcome State Fault Refusal := .next (s.linPulseEnd m)

/-- RUN_SCHEDULE (R422). The table is the sub-address, and param gives the passes (R332). -/
def execRunSchedule (a : Fin 2560) (s : State) : Host.Outcome State Fault Refusal :=
  .next (s.portFunc a clsLin 0x10 fun t m =>
    match t.op a with
    | some o => t.runSchedule m a (devSub o.first.dev) (o.first.param % 256)
    | none => t)

/-- STOP_SCHEDULE (R422). -/
def execStopSchedule (a : Fin 2560) (s : State) : Host.Outcome State Fault Refusal :=
  .next (s.portFunc a clsLin 0x11 fun t m => t.stopSchedule m a)

/-- WAKEUP (R426). -/
def execWakeup (a : Fin 2560) (s : State) : Host.Outcome State Fault Refusal :=
  .next (s.portFunc a clsLin 0x12 fun t m => t.linPulse m a)

/-- GOTO_SLEEP (R426). -/
def execGotoSleep (a : Fin 2560) (s : State) : Host.Outcome State Fault Refusal :=
  .next (s.portFunc a clsLin 0x13 fun t m => t.gotoSleep m a)

end Sys2Proof.Machine
end

