-- ==== Sys2Proof/Machine/Sent.lean ====
section
/-!
DEFINITION. SENT ports: fast-channel and slow-channel messages (R427, R428).
-/

namespace Sys2Proof.Machine

def State.sent (s : State) (m : Nat) : SentPort := (tget s.sents m).getD {}

def State.setSent (s : State) (m : Nat) (x : SentPort) : State := { s with sents := tput s.sents m x {} }

/-- A SENTm_EVT cause set; all but cfg_refused are events of source 56 + m (R593). -/
def State.sentRaise (s : State) (m bit : Nat) : State :=
  if bit < 5 then s.raiseF (R.SENT_EVT_cause m) bit (R.SENT_EVT_CNT_count m bit) (56 + m) m
  else s.raise (R.SENT_EVT_cause m) bit (R.SENT_EVT_CNT_count m bit)

/-- a and b differ by more than b / d. -/
def apart (a b d : Nat) : Bool := b < d * (a - b) || b < d * (b - a)

/-- A nibble pulse lies within 12–27 ticks. -/
def nibbleOk (l : BitVec 8) : Bool := 12 ≤ l.toNat && l.toNat ≤ 27

/-- The value of a nibble pulse; outside its range the manual gives none, and it is a free value. -/
def State.nibble (s : State) (l : BitVec 8) : State × Nat :=
  if nibbleOk l then (s, l.toNat - 12)
  else
    let d := s.drawFree
    (d.1, d.2 % 16)

def State.nibbles (s : State) : List (BitVec 8) → State × List Nat
  | [] => (s, [])
  | l :: ls =>
    let a := s.nibble l
    let b := a.1.nibbles ls
    (b.1, a.2 :: b.2)

/-! ### Serial messages of the slow channel (R428)

The frame layouts are SAE J2716's and not the manual's: PRESUMED. -/

/-- A value from bits, most significant first. -/
def msbVal (l : List Bool) : Nat := l.foldl (fun v b => 2 * v + b2n b) 0

/-- A short message in the last 16 frames: bit 3 is 1 in the first alone. Kind, identifier, data. -/
def shortMsg (l : List (Bool × Bool)) : Option (Nat × Nat × List Byte) :=
  let f := l.drop (l.length - 16)
  let b3 := f.map (·.1)
  let b2 := f.map (·.2)
  if f.length = 16 && b3 == true :: List.replicate 15 false then
    some (1, msbVal (b2.take 4), leBytes 1 (msbVal ((b2.drop 4).take 8)))
  else none

/-- An enhanced message in the last 18 frames: bit 3 is 1 in the first six and 0 in frames 7, 13 and 18. -/
def enhancedMsg (l : List (Bool × Bool)) : Option (Nat × Nat × List Byte) :=
  let f := l.drop (l.length - 18)
  let b3 := f.map (·.1)
  let b2 := f.map (·.2)
  let at3 (i : Nat) : Bool := b3.getD i false
  if f.length = 18 && b3.take 7 == [true, true, true, true, true, true, false] && !at3 12 && !at3 17 then
    let hi := msbVal ((b3.drop 8).take 4)
    let lo := msbVal ((b3.drop 13).take 4)
    let data := msbVal (b2.drop 6)
    if at3 7 then some (3, hi, leBytes 2 (lo * 2 ^ 12 + data)) else some (2, hi * 16 + lo, leBytes 2 data)
  else none

/-- The serial bits of an accepted frame taken; a complete message is written to class 1. -/
def State.sentSerial (s : State) (m st : Nat) (bad : Bool) (time rstat : Nat) : State :=
  let mode := s.get (R.SENT_CFG_slow m)
  if mode = 0 then s
  else
    let x := s.sent m
    let l := (x.serial ++ [(st.testBit 3, st.testBit 2)])
    let l := l.drop (l.length - 18)
    match (if mode = 1 then shortMsg l else enhancedMsg l) with
    | none => s.setSent m { x with serial := l }
    | some (kind, id, data) =>
      let s := s.setSent m { x with serial := [], slow := sat1 x.slow, crcErr := if bad then sat1 x.crcErr else x.crcErr }
      let s := if bad then s.sentRaise m 4 else s
      s.store clsSent m 1 (mkRecord data.length (16 * b2n bad + rstat) kind id time 0 0 data)

/-! ### Frames -/

/-- A frame that R427 accepts is decoded and written. -/
def State.sentDecode (s : State) (m : Nat) (f : SentFrame) (time : Nat) : State :=
  let old := s.get (R.SENT_STATUS_tick_ns m)
  let dev := s.on (R.SENT_STATUS_sync m) && apart f.tick.toNat old 64
  let range := !nibbleOk f.status || f.nibbles.any (fun l => !nibbleOk l)
  let a := s.nibble f.status
  let b := a.1.nibbles f.nibbles
  let x := b.1.sent m
  let pause := x.pauseErr
  let s := b.1.setSent m { x with pauseErr := false, lastNibble := a.2, fast := sat1 x.fast,
                                  crcErr := if f.crcBad then sat1 x.crcErr else x.crcErr,
                                  syncDev := if dev then sat1 x.syncDev else x.syncDev }
  let s := (s.put (R.SENT_STATUS_sync m) 1).put (R.SENT_STATUS_tick_ns m) f.tick.toNat
  let s := if f.crcBad then s.sentRaise m 0 else s
  let s := if range then s.sentRaise m 1 else s
  let s := if dev then s.sentRaise m 2 else s
  let rstat := 16 * b2n f.crcBad + 32 * b2n range + 64 * b2n dev + 128 * b2n pause
  let s := s.store clsSent m 0
    (mkRecord b.2.length rstat 0 0 time 0 a.2 (b.2.map fun v => BitVec.ofNat 8 v))
  s.sentSerial m a.2 f.slowBad time (128 * b2n pause)

/-- A SENT frame. One whose sync pulse, nibble count or pause pulse breaks R427 is not accepted; after a bad pause pulse
the next record is marked. -/
def State.sentReceive (s : State) (m : Nat) (f : SentFrame) (time : Nat) : State :=
  if !s.portRuns clsSent m || !(s.sent m).decoding || !s.attached ⟨.sent, m, 0⟩ then s
  else if apart f.tick.toNat (125 * s.get (R.SENT_CFG_tick m)) 4 then s.put (R.SENT_STATUS_sync m) 0
  else if f.nibbles.length ≠ s.get (R.SENT_CFG_nibbles m) then s
  else if s.on (R.SENT_CFG_pause m) && !(12 ≤ f.pause.toNat && f.pause.toNat ≤ 768) then
    (s.setSent m { s.sent m with pauseErr := true }).sentRaise m 3
  else s.sentDecode m f time

/-- Decoding on or off, by a CONTROL of an agent. -/
def State.sentDecoding (s : State) (m a : Nat) (on : Bool) : State :=
  (s.setSent m { s.sent m with decoding := on, serial := [] }).endOp a stSuccess 0

/-- The effect of en in a write of SENTm_CFG: a tick outside 24–720, or no or seven nibbles, break their rules (R406,
R407, R449). -/
def State.sentEn (s : State) (m : Nat) (en : Bool) : State :=
  let tick := s.get (R.SENT_CFG_tick m)
  let n := s.get (R.SENT_CFG_nibbles m)
  if en && !s.on (R.SENT_CFG_en m) then
    if tick < 24 || 720 < tick || n < 1 || 6 < n then s.sentRaise m 5 else s.put (R.SENT_CFG_en m) 1
  else if !en && s.on (R.SENT_CFG_en m) then
    let s := (s.put (R.SENT_CFG_en m) 0).portOff clsSent m stBadDevice 0x03
    (s.setSent m { s.sent m with serial := [] }).put (R.SENT_STATUS_sync m) 0
  else s

def State.sentSense (s : State) (m : Nat) : List Byte :=
  let x := s.sent m
  fit 32 (leBytes 1 (s.get (R.SENT_STATUS_sync m)) ++ leBytes 3 x.lastNibble
    ++ leBytes 4 (s.get (R.SENT_STATUS_tick_ns m)) ++ leBytes 4 x.fast ++ leBytes 4 x.slow ++ leBytes 4 x.crcErr
    ++ leBytes 4 x.syncDev)

/-! ### The commands -/

/-- SENT_FRAME_RECEIVE (R427). The time is that of the falling edge that ends the sync pulse. -/
def execSentFrameReceive (m : Fin 4) (f : SentFrame) (time : BitVec 48) (s : State) :
    Host.Outcome State Fault Refusal :=
  .next (settle (s.sentReceive m f time.toNat))

/-- SENT_START (R427). -/
def execSentStart (a : Fin 2560) (s : State) : Host.Outcome State Fault Refusal :=
  .next (s.portFunc a clsSent 0x20 fun t m => t.sentDecoding m a true)

/-- SENT_STOP (R427). -/
def execSentStop (a : Fin 2560) (s : State) : Host.Outcome State Fault Refusal :=
  .next (s.portFunc a clsSent 0x21 fun t m => t.sentDecoding m a false)

end Sys2Proof.Machine
end

