-- ==== Sys2Proof/Machine/Serial.lean ====
section
/-!
DEFINITION. UART and card ports: characters, chunks, transmission, K-line functions, and the card's activation
(R429–R443).
-/

namespace Sys2Proof.Machine

/-- A UART (class SER) or card port. -/
def State.bp (s : State) (cls m : Nat) : BytePort :=
  if cls = clsSer then (tget s.sers m).getD {} else (tget s.cards m).getD {}

def State.setBp (s : State) (cls m : Nat) (x : BytePort) : State :=
  if cls = clsSer then { s with sers := tput s.sers m x {} } else { s with cards := tput s.cards m x {} }

/-- A SERm_EVT cause set; framing, parity, break, noise and echo are events of source 60 + m (R593). -/
def State.serRaise (s : State) (m bit : Nat) : State :=
  if bit < 5 then s.raiseF (R.SER_EVT_cause m) bit (R.SER_EVT_CNT_count m bit) (60 + m) m
  else s.raise (R.SER_EVT_cause m) bit (R.SER_EVT_CNT_count m bit)

/-- A CARDm_EVT cause set; parity, wt_expired and no_atr are events of source 64 + m (R593). -/
def State.cardRaise (s : State) (m bit : Nat) : State :=
  if 2 ≤ bit && bit ≤ 4 then s.raiseF (R.CARD_EVT_cause m) bit (R.CARD_EVT_CNT_count m bit) (64 + m) m
  else s.raise (R.CARD_EVT_cause m) bit (R.CARD_EVT_CNT_count m bit)

/-! ### Chunks (R434) -/

/-- Chunk size and idle time. The manual gives a card port neither; it uses the cold values of a UART. -/
def State.chunkSize (s : State) (cls m : Nat) : Nat := if cls = clsSer then s.get (R.SER_RXCHUNK_size m) else 64
def State.chunkIdle (s : State) (cls m : Nat) : Nat := if cls = clsSer then s.get (R.SER_RXCHUNK_idle m) else 2

/-- rstat bits of a chunk: framing, parity, break. -/
def chunkRstat (framing parity brk : Bool) : Nat := 16 * b2n framing + 32 * b2n parity + 64 * b2n brk

/-- The chunk under way closes. -/
def State.chunkClose (s : State) (cls m rstat : Nat) : State :=
  let x := s.bp cls m
  (s.setBp cls m { x with chunk := [] }).store cls m 0
    (mkRecord x.chunk.length rstat 0 0 x.chunkTime 0 0 x.chunk)

/-- A byte received: it joins the chunk, which closes at its size and at a byte with an error. -/
def State.chunkByte (s : State) (cls m : Nat) (b : Byte) (time rstat : Nat) : State :=
  let x := s.bp cls m
  let s := s.setBp cls m { x with chunk := x.chunk ++ [b], rx := sat1 x.rx,
                                  chunkTime := if x.chunk.isEmpty then time else x.chunkTime }
  if rstat ≠ 0 || s.chunkSize cls m ≤ x.chunk.length + 1 then s.chunkClose cls m rstat else s

/-- The line has been idle for n bit times: the chunk closes at its idle time, and READs with func 0x01 whose time it is
are to end (R332, R434). -/
def State.byteIdle (s : State) (cls m n : Nat) : State :=
  if !s.portRuns cls m then s
  else
    let s := if s.chunkIdle cls m ≤ n && !(s.bp cls m).chunk.isEmpty then s.chunkClose cls m 0 else s
    (s.agentsWith cls m fun c => c.opcode == ocRead && c.func == 0x01 && c.param % 65536 ≤ n).foldl
      (fun t a => t.updOp a fun o => { o with event := true }) s

/-! ### Transmission (R436, R441) -/

/-- The transmitter may start a byte: CTS_N holds it while rtscts is 1; a detached CTS_N reads high (R69, R436). -/
def State.mayStart (s : State) (cls m : Nat) : Bool :=
  cls != clsSer || !s.on (R.SER_CFG_rtscts m)
    || (s.attached ⟨.ser, m, 3⟩ && !(s.bp cls m).ctsN)

/-- The port can take a packet: it runs, sends nothing else, and a card is active. -/
def State.byteFree (s : State) (cls m : Nat) : Bool :=
  let x := s.bp cls m
  s.portRuns cls m && x.tx.isNone && x.breaking.isNone && x.fastInit.isNone
    && (cls != clsCard || s.get (R.CARD_STATUS_state m) == 3)

/-- The next packet of the transmit queue taken, and its first byte started. -/
def State.byteLoad (s : State) (cls m : Nat) : State :=
  if !s.byteFree cls m then s
  else
    let r := s.txNext (txQueue cls m 0)
    match r.2 with
    | none => r.1
    | some (token, bs) =>
      r.1.setBp cls m { r.1.bp cls m with
        tx := some { token := token, bytes := (recData bs).take (recLen bs), started := r.1.mayStart cls m } }

/-- The function by which a UART or card port sends (R67). -/
def txLine (cls m : Nat) : PinFn := if cls = clsSer then ⟨.ser, m, 0⟩ else ⟨.card, m, 0⟩

/-- The byte being sent has left: the next one starts, or the packet has left. -/
def State.byteSent (s : State) (cls m : Nat) : State :=
  let x := s.bp cls m
  match x.tx with
  | none => s
  | some t =>
    if !t.started then s
    else
      let s := s.emitOn (txLine cls m) (.frame cls m (t.bytes.take 1))
      let rest := t.bytes.drop 1
      if rest.isEmpty then
        ((s.setBp cls m { x with tx := none, sent := sat1 x.sent }).frameLeft t.token).byteLoad cls m
      else
        s.setBp cls m { x with sent := sat1 x.sent,
                               tx := some { t with bytes := rest, started := s.mayStart cls m, tries := 0 } }

/-- Transmission stops, and its WRITE ends with a detail. -/
def State.byteStop (s : State) (cls m detail : Nat) : State :=
  let x := s.bp cls m
  match x.tx with
  | none => s
  | some t => ((s.setBp cls m { x with tx := none }).frameFailed t.token detail).byteLoad cls m

/-! ### UART characters (R430, R431, R438) -/

/-- The majority of three samples. -/
def majority (t : Bool × Bool × Bool) : Bool := (t.1 && t.2.1) || (t.1 && t.2.2) || (t.2.1 && t.2.2)

/-- Data bits, parity bits and stop bits of the format. -/
def State.serData (s : State) (m : Nat) : Nat := 7 + s.get (R.SER_CFG_data8 m)
def State.serParity (s : State) (m : Nat) : Nat := if s.get (R.SER_CFG_parity m) = 0 then 0 else 1
def State.serStops (s : State) (m : Nat) : Nat := 1 + s.get (R.SER_CFG_stop2 m)

/-- A byte from bits, least significant first. -/
def lsbVal (l : List Bool) : Nat := l.foldr (fun b v => b2n b + 2 * v) 0

/-- A byte received by a UART: an echo that matches is not stored, and the first that does not stops the transmission
(R438). -/
def State.uartByte (s : State) (m : Nat) (b : Byte) (framing parity : Bool) (time : Nat) : State :=
  let x := s.bp clsSer m
  let s := s.setBp clsSer m { x with framing := if framing then sat1 x.framing else x.framing,
                                     parity := if parity then sat1 x.parity else x.parity }
  let s := if framing then s.serRaise m 0 else s
  let s := if parity then s.serRaise m 1 else s
  let check := s.on (R.SER_CFG_kline m) && s.on (R.SER_CFG_echo_check m)
  match x.tx with
  | some t =>
    if check && t.started then
      if t.bytes.headD 0 == b then s
      else ((s.serRaise m 4).byteStop clsSer m 0x33).chunkByte clsSer m b time (chunkRstat framing parity false)
    else s.chunkByte clsSer m b time (chunkRstat framing parity false)
  | none => s.chunkByte clsSer m b time (chunkRstat framing parity false)

/-- A break: the open chunk closes with its bytes, and the break closes a chunk of its own (R434, R444). -/
def State.uartBreak (s : State) (m time : Nat) : State :=
  let x := s.bp clsSer m
  let s := s.setBp clsSer m { x with breaks := sat1 x.breaks }
  let s := if x.chunk.isEmpty then s else s.chunkClose clsSer m 0
  let s := s.setBp clsSer m { s.bp clsSer m with chunkTime := time }
  ((s.serRaise m 2).chunkClose clsSer m (chunkRstat false false true)).portEvent clsSer m 0x04 (fun _ => true)

/-- The samples from tick 0 of the next start bit: a low sample after a high one, or once start detection has re-armed the
first low sample (R430, R432). -/
def uartTick0 (armed prev : Bool) : List Bool → Option (List Bool)
  | [] => none
  | x :: xs => if !x && (armed || prev) then some (x :: xs) else uartTick0 armed x xs

/-- The value of bit j: the majority of its samples at ticks 7, 8 and 9 (R430). -/
def uartBit (t : List Bool) (j : Nat) : Bool :=
  majority (t.getD (16 * j + 7) true, t.getD (16 * j + 8) true, t.getD (16 * j + 9) true)

/-- Where the receiver stands after a character: re-armed or not, with the last sample that it used (R430–R432). -/
def State.uartStands (s : State) (m : Nat) (armed line : Bool) : State :=
  s.setBp clsSer m { s.bp clsSer m with rearmed := armed, line := line }

/-- A character from its start bit on (R430–R432). -/
def State.uartChar (s : State) (m : Nat) (t : List Bool) (time : Nat) : State :=
  let d := s.serData m
  let p := s.serParity m
  let last := d + p + s.serStops m
  if uartBit t 0 then
    let x := s.bp clsSer m
    ((s.setBp clsSer m { x with noise := sat1 x.noise }).serRaise m 3).uartStands m false (t.getD 9 true)
  else
    let data := (List.range d).map fun j => uartBit t (1 + j)
    let par := if p = 1 then [uartBit t (1 + d)] else []
    let framing := (List.range (s.serStops m)).any fun j => !uartBit t (1 + d + p + j)
    let parity := p == 1 && (data ++ par).countP id % 2 != (if s.get (R.SER_CFG_parity m) = 1 then 0 else 1)
    let zero := (data ++ par).all (!·)
    if framing && zero && !t.getD (16 * last + 15) true then (s.uartBreak m time).uartStands m false false
    else
      (s.uartByte m (BitVec.ofNat 8 (lsbVal data)) framing parity time).uartStands m (uartBit t last)
        (t.getD (16 * last + if framing && zero then 15 else 9) true)

/-- Samples of the line: the character that begins in them, if one does (R430, R432). -/
def State.uartReceive (s : State) (m : Nat) (c : UartChar) (time : Nat) : State :=
  let x := s.bp clsSer m
  if !s.portRuns clsSer m || !s.attached ⟨.ser, m, 1⟩ then s
  else match uartTick0 x.rearmed x.line c.ticks with
    | none => s.uartStands m x.rearmed (c.ticks.getLastD x.line)
    | some t => s.uartChar m t time

/-- A byte that SERm_CTS_N held back starts once it may (R436). -/
def State.ctsSeen (s : State) (m : Nat) : State :=
  let x := s.bp clsSer m
  match x.tx with
  | some t =>
    if t.started || !s.mayStart clsSer m then s else s.setBp clsSer m { x with tx := some { t with started := true } }
  | none => s

/-- SERm_CTS_N changes level (R436). -/
def State.ctsChange (s : State) (m : Nat) (level : Bool) : State :=
  (s.setBp clsSer m { s.bp clsSer m with ctsN := level }).ctsSeen m

/-- SERm_RTS_N: high while rtscts is 1 and the receive queue has room for fewer than 256 bytes, the word kept for a GAP
apart (R381, R402, R436). -/
def State.rtsN (s : State) (m : Nat) : Bool :=
  let q := rxQueue clsSer m 0
  s.on (R.SER_CFG_rtscts m) && s.qDepth q - 1 - s.qOcc q < 256 / 8

/-- Every committed chunk of the receive queue discarded (R436). -/
def State.flushRx (s : State) (cls m : Nat) : State :=
  let q := rxQueue cls m 0
  let s := (s.wq q).pkts.foldl (fun t _ => t.qDropPkt q) s
  s.setBp cls m { s.bp cls m with rest := none }

/-! ### The card (R439–R443) -/

/-- Whether an operation is a READ or WRITE. -/
def Ccw.moves (c : Ccw) : Bool := c.opcode == ocRead || c.opcode == ocWrite

/-- A deactivation of a card that stays present: its transmission stops, and READs and WRITEs on the port end, the card
being no longer active (R440, R442). -/
def State.cardOff (s : State) (m : Nat) : State :=
  let x := s.bp clsCard m
  let s := (s.setBp clsCard m { x with tx := none, chunk := [], repeats := 0 }).put (R.CARD_STATUS_state m) 1
  (s.emitOn ⟨.card, m, 2⟩ (.line clsCard m 3 0)).failOps (s.agentsWith clsCard m Ccw.moves) stDeviceError 0x44

/-- The agents whose ACTIVATE or WARM_RESET the port has taken. -/
def State.atrWaiters (s : State) (m : Nat) : List Nat :=
  (s.agentsWith clsCard m fun c => c.opcode == ocControl && (c.func == 0x40 || c.func == 0x41)).filter fun a =>
    match s.op a with
    | some o => o.event
    | none => false

/-- An activation or warm reset begins, and waits for the answer to reset. -/
def State.cardReset (s : State) (m a what : Nat) : State :=
  ((s.put (R.CARD_STATUS_state m) 2).updOp a fun o => { o with event := true }).emitOn ⟨.card, m, 2⟩
    (.line clsCard m what 0)

/-- CONTROL ACTIVATE of an agent. On a card that is already active it is done. -/
def State.cardActivate (s : State) (m a : Nat) : State :=
  let st := s.get (R.CARD_STATUS_state m)
  if st = 0 then s.endOp a stDeviceError 0x40
  else if st = 3 then s.endOp a stSuccess 0
  else s.cardReset m a 1

/-- CONTROL WARM_RESET of an agent. -/
def State.cardWarm (s : State) (m a : Nat) : State :=
  let st := s.get (R.CARD_STATUS_state m)
  if st = 0 then s.endOp a stDeviceError 0x40
  else if st = 1 then s.endOp a stDeviceError 0x44
  else s.cardReset m a 2

/-- CONTROL DEACTIVATE of an agent. -/
def State.cardDeactivate (s : State) (m a : Nat) : State :=
  if s.get (R.CARD_STATUS_state m) = 0 then s.endOp a stDeviceError 0x40
  else ((s.endOps (s.atrWaiters m) stDeviceError 0x44).cardOff m).endOp a stSuccess 0

/-- The first character of an answer to reset: it gives the convention, goes to the receive queue, and ends the
CONTROL. -/
def State.cardAtr (s : State) (m : Nat) (b : Byte) (inverse : Bool) (time : Nat) : State :=
  if s.get (R.CARD_STATUS_state m) = 2 && s.portRuns clsCard m && s.attached ⟨.card, m, 0⟩ then
    let s := (s.put (R.CARD_STATUS_state m) 3).flag (R.CARD_STATUS_inverse m) inverse
    let s := s.endOps (s.atrWaiters m) stSuccess 0
    (s.chunkByte clsCard m b time 0).byteLoad clsCard m
  else s

/-- No answer to reset has arrived within 40,000 card clocks. -/
def State.cardNoAtr (s : State) (m : Nat) : State :=
  if s.get (R.CARD_STATUS_state m) = 2 then
    let s := s.endOps (s.atrWaiters m) stDeviceError 0x41
    (s.cardOff m).cardRaise m 4
  else s

/-- A character received from an active card: in T=0 a parity error is signalled until the retries are used up; then,
and in T=1, it is stored with its flag (R441). -/
def State.cardReceive (s : State) (m : Nat) (b : Byte) (parityOk : Bool) (time : Nat) : State :=
  if s.get (R.CARD_STATUS_state m) ≠ 3 || !s.portRuns clsCard m || !s.attached ⟨.card, m, 0⟩ then s
  else
    let x := s.bp clsCard m
    if parityOk then (s.setBp clsCard m { x with repeats := 0 }).chunkByte clsCard m b time 0
    else
      let s := (s.setBp clsCard m { x with parity := sat1 x.parity }).cardRaise m 2
      if !s.on (R.CARD_CFG_t1 m) && x.repeats < s.get (R.CARD_CFG_retries m) then
        (s.setBp clsCard m { s.bp clsCard m with repeats := x.repeats + 1 }).emitOn ⟨.card, m, 0⟩ (.line clsCard m 4 0)
      else
        (s.setBp clsCard m { s.bp clsCard m with repeats := 0 }).chunkByte clsCard m b time (chunkRstat false true false)

/-- A character sent to the card; `refused` is the card's error signal, which counts in T=0 alone (R441). -/
def State.cardSent (s : State) (m : Nat) (refused : Bool) : State :=
  let x := s.bp clsCard m
  match x.tx with
  | none => s
  | some t =>
    if refused && s.attached ⟨.card, m, 0⟩ && !s.on (R.CARD_CFG_t1 m) then
      if t.tries < s.get (R.CARD_CFG_retries m) then
        s.setBp clsCard m { x with tx := some { t with tries := t.tries + 1 } }
      else s.byteStop clsCard m 0x42
    else s.byteSent clsCard m

/-- The waiting time, or in T=1 the character waiting time, has passed (R442). -/
def State.cardExpiry (s : State) (m : Nat) : State :=
  let as := s.agentsWith clsCard m fun c => c.opcode == ocRead && c.func == 0x00
  if as.isEmpty then s
  else
    let x := s.bp clsCard m
    ((s.setBp clsCard m { x with wtExpired := sat1 x.wtExpired }).cardRaise m 3).endOps as stDeviceError 0x43

/-- The filtered level of CARDm_PRES: a detached function means that no card is present (R443). -/
def State.cardPresence (s : State) (m : Nat) (level : Bool) : State :=
  let s := { s with presIn := putBit s.presIn m level }
  let present := s.attached ⟨.card, m, 3⟩ && level == s.on (R.CARD_CFG_pres_pol m)
  let st := s.get (R.CARD_STATUS_state m)
  let event (t : State) : State := t.portEvent clsCard m 0x05 (fun _ => true)
  if present && st = 0 then event ((s.put (R.CARD_STATUS_state m) 1).cardRaise m 0)
  else if !present && st = 1 then event (s.put (R.CARD_STATUS_state m) 0)
  else if !present && 2 ≤ st then
    let s := event ((s.cardRaise m 1).endOps (s.atrWaiters m) stDeviceError 0x40)
    let s := s.failOps (s.agentsOn clsCard m) stDeviceError 0x40
    (s.cardOff m).put (R.CARD_STATUS_state m) 0
  else s

/-! ### Configuration and SENSE -/

/-- The effect of en in a write of SERm_CFG: a divisor of 0 breaks R429 (R406, R407). -/
def State.serEn (s : State) (m : Nat) (en : Bool) : State :=
  if en && !s.on (R.SER_CFG_en m) then
    if s.get (R.SER_BAUD_div m) = 0 then s.serRaise m 5 else s.put (R.SER_CFG_en m) 1
  else if !en && s.on (R.SER_CFG_en m) then (s.put (R.SER_CFG_en m) 0).portOff clsSer m stBadDevice 0x03
  else s

/-- The effect of en in a write of CARDm_CFG (R406, R407). A card that is not inactive is deactivated. -/
def State.cardEn (s : State) (m : Nat) (en : Bool) : State :=
  if en && !s.on (R.CARD_CFG_en m) then s.put (R.CARD_CFG_en m) 1
  else if !en && s.on (R.CARD_CFG_en m) then
    let s := (s.put (R.CARD_CFG_en m) 0).portOff clsCard m stBadDevice 0x03
    if 2 ≤ s.get (R.CARD_STATUS_state m) then s.cardOff m else s
  else s

def State.serSense (s : State) (m : Nat) : List Byte :=
  let x := s.bp clsSer m
  fit 32 (leBytes 1 (b2n (!s.attached ⟨.ser, m, 1⟩ || x.line)) ++ leBytes 3 (b2n (!s.attached ⟨.ser, m, 3⟩ || x.ctsN)) ++ leBytes 4 x.rx
    ++ leBytes 4 x.sent ++ leBytes 4 x.framing ++ leBytes 4 x.parity ++ leBytes 4 x.breaks ++ leBytes 4 x.noise)

def State.cardSense (s : State) (m : Nat) : List Byte :=
  let x := s.bp clsCard m
  fit 32 (leBytes 1 (s.get (R.CARD_STATUS_state m)) ++ leBytes 1 (s.get (R.CARD_STATUS_inverse m))
    ++ leBytes 2 (s.get (R.CARD_ETU_di m) + 16 * s.get (R.CARD_ETU_fi m)) ++ leBytes 4 x.rx ++ leBytes 4 x.sent
    ++ leBytes 4 x.parity ++ leBytes 4 x.wtExpired)

/-! ### The commands -/

/-- UART_CHARACTER_RECEIVE (R430). -/
def execUartCharacterReceive (m : Fin 4) (c : UartChar) (time : BitVec 48) (s : State) :
    Host.Outcome State Fault Refusal :=
  .next (settle (s.uartReceive m c time.toNat))

/-- UART_IDLE_TIMEOUT (R434): the line of a UART, or of a card port, has been idle for `n` bit times or etu. -/
def execUartIdleTimeout (card : Bool) (m : Fin 4) (n : BitVec 16) (s : State) : Host.Outcome State Fault Refusal :=
  .next (settle (if card && 2 ≤ m.val then s else s.byteIdle (if card then clsCard else clsSer) m n.toNat))

/-- UART_CHARACTER_SENT (R436). -/
def execUartCharacterSent (m : Fin 4) (s : State) : Host.Outcome State Fault Refusal :=
  .next (settle (s.byteSent clsSer m))

/-- CTS_CHANGE (R436). -/
def execCtsChange (m : Fin 4) (level : Bool) (s : State) : Host.Outcome State Fault Refusal :=
  .next (s.ctsChange m level)

/-- BREAK (R436). -/
def execBreakTx (a : Fin 2560) (s : State) : Host.Outcome State Fault Refusal :=
  .next (s.portFunc a clsSer 0x30 fun t m =>
    (t.setBp clsSer m { t.bp clsSer m with breaking := some (t.tokenOf a) }).emitOn (txLine clsSer m)
      (.line clsSer m 0 (t.get (R.SER_RXCHUNK_break_len m))))

/-- BREAK_END (R436). -/
def execBreakEnd (m : Fin 4) (s : State) : Host.Outcome State Fault Refusal :=
  let x := s.bp clsSer m
  .next (match x.breaking with
    | some g => settle (((s.setBp clsSer m { x with breaking := none }).endToken g stSuccess 0).byteLoad clsSer m)
    | none => s)

/-- FAST_INIT (R437). -/
def execFastInit (a : Fin 2560) (s : State) : Host.Outcome State Fault Refusal :=
  .next (s.portFunc a clsSer 0x31 fun t m =>
    (t.setBp clsSer m { t.bp clsSer m with fastInit := some (t.tokenOf a) }).emitOn (txLine clsSer m)
      (.line clsSer m 1 (t.get (R.SER_KLINE_tinil m) + 256 * t.get (R.SER_KLINE_tinih m))))

/-- FAST_INIT_END (R437). -/
def execFastInitEnd (m : Fin 4) (s : State) : Host.Outcome State Fault Refusal :=
  let x := s.bp clsSer m
  .next (match x.fastInit with
    | some g => settle (((s.setBp clsSer m { x with fastInit := none }).endToken g stSuccess 0).byteLoad clsSer m)
    | none => s)

/-- FLUSH_RX (R436). -/
def execFlushRx (a : Fin 2560) (s : State) : Host.Outcome State Fault Refusal :=
  .next (settle (s.portFunc a clsSer 0x32 fun t m => (t.flushRx clsSer m).endOp a stSuccess 0))

/-- ACTIVATE (R440). -/
def execActivate (a : Fin 2560) (s : State) : Host.Outcome State Fault Refusal :=
  .next (s.portFunc a clsCard 0x40 fun t m => t.cardActivate m a)

/-- CARD_WARM_RESET (R440). -/
def execCardWarmReset (a : Fin 2560) (s : State) : Host.Outcome State Fault Refusal :=
  .next (s.portFunc a clsCard 0x41 fun t m => t.cardWarm m a)

/-- DEACTIVATE (R440). -/
def execDeactivate (a : Fin 2560) (s : State) : Host.Outcome State Fault Refusal :=
  .next (settle (s.portFunc a clsCard 0x42 fun t m => t.cardDeactivate m a))

/-- CARD_CHARACTER_RECEIVE (R441). -/
def execCardCharacterReceive (m : Fin 2) (b : Byte) (parityOk : Bool) (time : BitVec 48) (s : State) :
    Host.Outcome State Fault Refusal :=
  .next (settle (s.cardReceive m b parityOk time.toNat))

/-- CARD_CHARACTER_SENT (R441). -/
def execCardCharacterSent (m : Fin 2) (refused : Bool) (s : State) : Host.Outcome State Fault Refusal :=
  .next (settle (s.cardSent m refused))

/-- CARD_ATR_RECEIVE (R440). -/
def execCardAtrReceive (m : Fin 2) (b : Byte) (inverse : Bool) (time : BitVec 48) (s : State) :
    Host.Outcome State Fault Refusal :=
  .next (settle (s.cardAtr m b inverse time.toNat))

/-- ATR_TIMEOUT (R440). -/
def execAtrTimeout (m : Fin 2) (s : State) : Host.Outcome State Fault Refusal := .next (settle (s.cardNoAtr m))

/-- CARD_WAITING_TIME_EXPIRY (R442). -/
def execCardWaitingTimeExpiry (m : Fin 2) (s : State) : Host.Outcome State Fault Refusal :=
  .next (settle (s.cardExpiry m))

/-- CARD_PRESENCE_CHANGE (R443). -/
def execCardPresenceChange (m : Fin 2) (level : Bool) (s : State) : Host.Outcome State Fault Refusal :=
  .next (settle (s.cardPresence m level))

end Sys2Proof.Machine
end

