-- ==== Sys2Proof/Machine/Eth.lean ====
section
/-!
DEFINITION. Ethernet ports and the PTP clock (R450–R490).
-/

namespace Sys2Proof.Machine

def State.eth (s : State) (m : Nat) : EthPort := (tget s.eths m).getD {}

def State.setEth (s : State) (m : Nat) (x : EthPort) : State := { s with eths := tput s.eths m x {} }

/-- An ETHm_EVT cause set; fcs, runt, oversize, ts_overrun, collision and plca_lost are events of source 66 + m (R489). -/
def State.ethRaise (s : State) (m bit : Nat) : State :=
  if (2 ≤ bit && bit ≤ 4) || (7 ≤ bit && bit ≤ 9) then
    s.raiseF (R.ETH_EVT_cause m) bit (R.ETH_EVT_CNT_count m bit) (66 + m) m
  else s.raise (R.ETH_EVT_cause m) bit (R.ETH_EVT_CNT_count m bit)

def State.ethLink (s : State) (m : Nat) : Bool := s.on (R.ETH_STATUS_link m)

/-! ### PTP time (R454, R463–R466) -/

/-- A PTP time as nanoseconds since 0 s, and back; seconds modulo 2³⁴. -/
def ptpToNs (v : Nat) : Nat := v / 2 ^ 30 * 1000000000 + v % 2 ^ 30
def ptpOfNs (n : Nat) : Nat := n % 1000000000 + n / 1000000000 % 2 ^ 34 * 2 ^ 30

/-- TIM_NOW (R454). -/
def State.ptpNow (s : State) : Nat := ptpOfNs s.ptp.ns

/-- A PTP time moved by a number of nanoseconds. -/
def ptpShift (v : Nat) (d : Int) : Nat := ptpOfNs ((ptpToNs v + d + 2 ^ 34 * 1000000000).toNat % (2 ^ 34 * 1000000000))

/-- A two's complement value of w bits. -/
def signed (w v : Nat) : Int := if v < 2 ^ (w - 1) then (v : Int) else (v : Int) - 2 ^ w

/-- The slew contribution σ in units of 10⁻¹² (R465). -/
def Ptp.sigma (p : Ptp) : Int := if 0 < p.slew then 100000000 else if p.slew < 0 then -100000000 else 0

/-- The increment of one edge in units of 2⁻³² ns, rounded down (R463). -/
def ptpIncr (rho sigma : Int) : Nat := (8 * (1000000000000 + rho + sigma) * 2 ^ 32 / 1000000000000).toNat

/-- A TIM_EVT cause set. -/
def State.timRaise (s : State) (bit : Nat) : State := s.raise R.TIM_EVT_cause bit (R.TIM_EVT_CNT_count bit)

/-- One edge of the 125 MHz clock: the clock advances, and a slew moves towards 0 by 8 × 10⁻⁴ ns. -/
def State.ptpEdge (s : State) : State :=
  let p := s.ptp
  let f := p.frac + ptpIncr (signed 32 (s.get R.TIM_RATE_rate)) p.sigma
  let left : Int := if 8 < p.slew then p.slew - 8 else if p.slew < -8 then p.slew + 8 else 0
  let s := { s with ptp := { p with ns := p.ns + f / 2 ^ 32, frac := f % 2 ^ 32, slew := left } }
  if p.slew ≠ 0 && left = 0 then s.timRaise 3 else s

/-- One core cycle of 1.25 ns: the clock has an edge every 6.4 of them. -/
def State.ptpTick (s : State) : State :=
  let n := s.ptp.phase + 5
  let t := { s with ptp := { s.ptp with phase := n % 32 } }
  if 32 ≤ n then t.ptpEdge else t

/-- TIM_SLEW_LEFT: the offset still to slew in ns, away from 0 (R465). -/
def Ptp.left (p : Ptp) : Int := if 0 ≤ p.slew then (p.slew + 9999) / 10000 else -((-p.slew + 9999) / 10000)

/-- MIDs that may write the clock (R467). -/
def timWriter (mid : Nat) : Bool := mid < 3 || mid == 4

/-- A write of TIM_SET (R466). -/
def State.timSet (s : State) (mid v : Nat) : State :=
  if !timWriter mid then s
  else if v % 2 ^ 30 < 1000000000 then
    { s with ptp := { s.ptp with ns := ptpToNs v, frac := 0, slew := 0 } }.timRaise 2
  else s.timRaise 4

/-- A write of TIM_RATE (R464). -/
def State.timRate (s : State) (mid v : Nat) : State :=
  let r := signed 32 v
  if timWriter mid && -500000000 ≤ r && r ≤ 500000000 then s.put R.TIM_RATE_rate v else s

/-- A write of TIM_SLEW (R465). -/
def State.timSlew (s : State) (mid v : Nat) : State :=
  let d := signed 21 (v % 2 ^ 21)
  if !timWriter mid then s
  else if -1000000 ≤ d && d ≤ 1000000 then { s with ptp := { s.ptp with slew := d * 10000 } }
  else s.timRaise 4

/-- The slew's time has passed: its whole offset has been made (R465). -/
def State.slewDone (s : State) : State :=
  if s.ptp.slew = 0 then s
  else
    { s with ptp := { s.ptp with ns := ((s.ptp.ns : Int) + s.ptp.left).toNat, slew := 0 } }.timRaise 3

/-- A write of TIM_XTS_CTL.go = 1: PTP and monotonic time captured together (R470). A microsecond has 25 steps of 40 ns,
32 core cycles each. -/
def State.crossStamp (s : State) : State :=
  ((s.put R.TIM_XTS_PTP_time s.ptpNow).put R.TIM_XTS_MONO_time s.now).put R.TIM_XTS_CTL_sub (s.cycle / 32)

/-- An edge on TIM_CAPn (R473). -/
def State.capEdge (s : State) (n : Nat) (rising : Bool) : State :=
  let s := { s with capIn := putBit s.capIn n rising }
  if s.attached ⟨.tim, 0, 2 + n⟩ && s.bitOf (R.TIM_CAP_CTL_edge n) (if rising then 0 else 1) then
    (s.put (R.TIM_CAP_TIME_time n) (ptpShift s.ptpNow (-16))).timRaise n
  else s

/-- The class number under which the pulse outputs leave, which is no port class. -/
def clsTim : Nat := 0x10

/-- A pulse of TIM_PPSn: it rises, and falls after its width (R474). -/
def State.ppsEdge (s : State) (n : Nat) : State :=
  if s.get (R.TIM_PPS_PER_period n) = 0 then s else s.emitOn ⟨.tim, 0, n⟩ (.line clsTim n 1 (s.get (R.TIM_PPS_WIDTH_width n)))

/-- A write of TIM_PPSn_PER or TIM_PPSn_WIDTH (R467, R474, R490): a period divides 1,000,000, and a width is below the
period. -/
def State.ppsWrite (s : State) (mid n : Nat) (width : Bool) (v : Nat) : State :=
  let v := v % 2 ^ 20
  if !timWriter mid then s
  else if width then
    if 1 ≤ v && v < s.get (R.TIM_PPS_PER_period n) then s.put (R.TIM_PPS_WIDTH_width n) v else s
  else if v = 0 || (v ≤ 1000000 && 1000000 % v = 0) then s.put (R.TIM_PPS_PER_period n) v
  else s

/-- A write of TIM_CAPn_CTL (R467). -/
def State.capCtlWrite (s : State) (mid n v : Nat) : State := if timWriter mid then s.put (R.TIM_CAP_CTL_edge n) v else s

/-! ### Frames -/

/-- A big-endian value of n bytes of a frame. -/
def beAt (l : List Byte) (off n : Nat) : Nat := beVal ((l.drop off).take n)

/-- A VLAN or S-VLAN tag lies at an offset. -/
def tagAt (l : List Byte) (off : Nat) : Bool := beAt l off 2 == 0x8100 || beAt l off 2 == 0x88A8

/-- Tags before the EtherType, of at most two (R455). -/
def tagCount (l : List Byte) : Nat := if tagAt l 12 then (if tagAt l 16 then 2 else 1) else 0

/-- The EtherType or length field after at most two tags. -/
def etherType (l : List Byte) : Nat := beAt l (12 + 4 * tagCount l) 2

/-- The destination lies in 01-80-C2-00-00-00 to 01-80-C2-00-00-0F. -/
def linkLocal (l : List Byte) : Bool := beAt l 0 5 == 0x0180C20000 && beAt l 5 1 < 16

/-- Whether filter f of port m takes a frame (R458). -/
def State.ethFilterTakes (s : State) (m : Nat) (l : List Byte) (f : Nat) : Bool :=
  let mac := leBytes 4 (s.get (R.ETH_FLT_W0_mac_lo m f)) ++ leBytes 2 (s.get (R.ETH_FLT_W1_mac_hi m f))
  let tagged := tagCount l != 0
  let tci := beAt l 14 2
  s.on (R.ETH_FLT_W3_en m f)
    && (List.range 6).all (fun j => !s.bitOf (R.ETH_FLT_W1_mac_mask m f) j || mac.getD j 0 == l.getD j 0)
    && (!s.on (R.ETH_FLT_W3_cmp_et m f) || etherType l == s.get (R.ETH_FLT_W2_et m f))
    && (!s.on (R.ETH_FLT_W3_cmp_vid m f) || (tagged && tci % 4096 == s.get (R.ETH_FLT_W2_vid m f)))
    && (!s.on (R.ETH_FLT_W3_cmp_pcp m f) || (tagged && tci / 8192 == s.get (R.ETH_FLT_W2_pcp m f)))
    && (!s.on (R.ETH_FLT_W3_untagged m f) || !tagged)

/-- The record of a received frame (R455). -/
def ethRecord (l : List Byte) (filter time : Nat) : List Byte :=
  mkRecord l.length 0 (b2n (tagCount l != 0) + 2 * b2n (linkLocal l)) (etherType l + filter % 64 * 2 ^ 16) time
    (bits time 48 8) (bits time 56 8) l

/-- Whether a record of a WRITE obeys R333 and R455. -/
def State.ethRecOk (s : State) (m : Nat) (bs : List Byte) : Bool :=
  recZerosOk bs (recLen bs) && 14 ≤ recLen bs && recLen bs + 4 ≤ s.get (R.ETH_CFG_max_len m) && recKind bs < 2
    && recIdent bs < 4

/-- The port carries frames: it runs, its link is up and no test mode is on (R452, R462). -/
def State.ethCarries (s : State) (m : Nat) : Bool :=
  s.portRuns clsEth m && s.ethLink m && s.get (R.ETH_PHY_test_mode m) == 0

/-- A frame received without a reason to discard it: stored by its filter, and offered to the gateway (R458, R459). -/
def State.ethStore (s : State) (m : Nat) (l : List Byte) (time : Nat) : State :=
  let k := (List.range 64).find? (s.ethFilterTakes m l)
  let s := s.setEth m { s.eth m with rx := sat1 (s.eth m).rx }
  let s := match k with
    | some f => s.store clsEth m (s.get (R.ETH_FLT_W3_class m f)) (ethRecord l f time)
    | none =>
      ((s.setEth m { s.eth m with noFilter := sat1 (s.eth m).noFilter }).ethRaise m 6).count (R.ETH_CNT_count m 2)
  let s := if k.isSome || !linkLocal l then s.count (R.ETH_CNT_count m 0) else s
  if linkLocal l then s else s.gwOffer (gwCode clsEth m) (ethRecord l 0 time)

/-- A frame received, from its destination address to before its FCS, with the PTP time at which its first bit after the
SFD crossed to the MAC (R456–R459, R468). -/
def State.ethReceive (s : State) (m : Nat) (l : List Byte) (fcsBad : Bool) (time : Nat) : State :=
  if !s.ethCarries m then s
  else
    let short := l.length + 4 < 64
    let long := s.get (R.ETH_CFG_max_len m) < l.length + 4
    if fcsBad || short || long then
      let s := if fcsBad then
          (s.setEth m { s.eth m with fcs := sat1 (s.eth m).fcs }).ethRaise m 2 else s
      let s := if short then s.ethRaise m 3 else s
      if long then s.ethRaise m 4 else s
    else if etherType l = 0x8808 then s.ethRaise m 5
    else s.ethStore m l (ptpShift time (-(s.get (R.ETH_TS_LAT_ingress m) : Int)))

/-! ### Transmission (R460–R462, R469, R480, R482) -/

/-- The highest-numbered transmit queue with a committed packet (R460). -/
def State.ethQueue (s : State) (m : Nat) : Option Nat :=
  ((List.range 8).reverse.map (txQueue clsEth m)).find? fun q => !(s.wq q).pkts.isEmpty

/-- The next program frame: of the highest queue that holds one, past those that hold poisoned frames alone. -/
def State.ethProgram (m : Nat) : Nat → State → State × Option (Nat × List Byte)
  | 0, s => (s, none)
  | fuel + 1, s =>
    match s.ethQueue m with
    | none => (s, none)
    | some q =>
      let r := s.txNext q
      if r.2.isSome then r else State.ethProgram m fuel r.1

/-- A frame boundary at which the port may send: a program frame of the highest queue, else a gateway frame (R460). -/
def State.ethBegin (s : State) (m : Nat) : State :=
  let r := State.ethProgram m 8 s
  match r.2 with
  | some (token, bs) => r.1.setEth m { r.1.eth m with tx := some { src := .program token, bytes := bs } }
  | none =>
    let g := r.1.gwNext (gwCode clsEth m)
    match g.2 with
    | some bs => g.1.setEth m { g.1.eth m with tx := some { src := .gateway, bytes := bs } }
    | none => g.1

/-- The port waits for a PLCA opportunity: ETH6 while PLCA is active (R480). -/
def State.plcaWaits (s : State) (m : Nat) : Bool :=
  m == 6 && s.on (R.ETH_STATUS_plca_active 6) && (s.eth 6).burst == 0

/-- The port starts its next frame, where it may. -/
def State.ethLoad (s : State) (m : Nat) : State :=
  if s.ethCarries m && (s.eth m).tx.isNone && !s.plcaWaits m then s.ethBegin m else s

/-- The egress timestamp of a frame that asked for one (R469). -/
def State.ethStamp (s : State) (m k time : Nat) : State :=
  let was := s.on (R.ETH_TXTS_STAT_valid m k)
  let s := ((s.put (R.ETH_TXTS_STAT_valid m k) 1).flag (R.ETH_TXTS_STAT_overwritten m k) was).count
    (R.ETH_TXTS_CNT_count m k)
  let s := s.put (R.ETH_TXTS_TIME_time m k) time
  if was then s.ethRaise m 7 else s

/-- The frame being sent has left the port (R461). -/
def State.ethSent (s : State) (m : Nat) (time : Nat) : State :=
  let x := s.eth m
  match x.tx with
  | none => s
  | some f =>
    let s := s.setEth m { x with tx := none, sent := sat1 x.sent, burst := x.burst - 1 }
    let d := (recData f.bytes).take (recLen f.bytes)
    let s := (s.emit (.frame clsEth m (d ++ zeros (60 - d.length)))).count (R.ETH_CNT_count m 1)
    let s := match f.src with
      | .program token =>
        let s := if (recKind f.bytes).testBit 0 then
            s.ethStamp m (recIdent f.bytes % 4) (ptpShift time (s.get (R.ETH_TS_LAT_egress m))) else s
        s.frameLeft token
      | _ => s
    let s := s.ethLoad m
    if (s.eth m).tx.isNone then s.setEth m { s.eth m with burst := 0 } else s

/-- A collision on ETH6 under CSMA/CD: the frame backs off, or is dropped at its sixteenth collision or after its first 64
bytes (R482). -/
def State.ethCollide (s : State) (late : Bool) : State :=
  let x := s.eth 6
  match x.tx with
  | none => s
  | some f =>
    if s.on (R.ETH_STATUS_plca_active 6) then s
    else
      let s := (s.setEth 6 { x with collisions := sat1 x.collisions }).ethRaise 6 8
      let x := s.eth 6
      if late || 15 ≤ f.tries then
        let s := s.setEth 6 { x with tx := none }
        let s := match f.src with
          | .program token => s.frameFailed token 0x51
          | _ => s
        s.ethLoad 6
      else s.setEth 6 { x with tx := some { f with tries := f.tries + 1 } }

/-! ### The link (R462, R476, R478) -/

/-- Every committed packet that has not begun is discarded with detail 0x50 (R462). -/
def State.ethDiscard (s : State) (m : Nat) : State :=
  (txQueues clsEth m).foldl (fun t q =>
    let f := t.qFlush q
    f.2.foldl (fun u g => u.frameFailed g 0x50) f.1) s

/-- The link goes down: the frame being sent is cut off, and those that wait are discarded (R462). -/
def State.ethCut (s : State) (m : Nat) : State :=
  let x := s.eth m
  let s := s.setEth m { x with tx := none, burst := 0 }
  let s := match x.tx with
    | some f => (match f.src with
        | .program token => s.frameFailed token 0x50
        | _ => s)
    | none => s
  s.ethDiscard m

/-- LINK_UP operations that the port has taken end (R478). -/
def State.linkUpDone (s : State) (m : Nat) : State :=
  s.endOps ((s.agentsWith clsEth m fun c => c.opcode == ocControl && c.func == 0x50).filter fun a =>
    match s.op a with
    | some o => o.event
    | none => false) stSuccess 0

/-- ETHm_STATUS.link takes a value (R476). -/
def State.ethLinkTo (s : State) (m : Nat) (up : Bool) : State :=
  if s.ethLink m = up then s
  else
    let s := (s.flag (R.ETH_STATUS_link m) up).ethRaise m (if up then 0 else 1)
    let s := if up then s.linkUpDone m else s.ethCut m
    let s := s.portEvent clsEth m 0x06 (fun _ => true)
    if up then s.ethLoad m else s

/-- The port may have a link: it runs and is not held down. -/
def State.ethMayLink (s : State) (m : Nat) : Bool := s.portRuns clsEth m && !s.on (R.ETH_PHY_hold_down m)

/-- PLCA is enabled with a node number below 255 (R480). -/
def State.plcaOn (s : State) : Bool := s.on R.ETH_PLCA_en && s.get R.ETH_PLCA_node_id < 255

/-- PLCA active as the port's own state has it: not while PLCA is off or the port does not run, and for the coordinator,
which sends the BEACONs itself, while it runs (R480, R481). -/
def State.plcaSettle (s : State) : State :=
  if !s.plcaOn || !s.portRuns clsEth 6 then s.put (R.ETH_STATUS_plca_active 6) 0
  else if s.get R.ETH_PLCA_node_id = 0 then s.put (R.ETH_STATUS_plca_active 6) 1
  else s

/-- The link that follows from the port's own state: none while it may have none, and up at once on ETH6 (R476). -/
def State.ethSettle (s : State) (m : Nat) : State :=
  let s := if m = 6 then s.plcaSettle else s
  if !s.ethMayLink m then s.ethLinkTo m false else if m = 6 then s.ethLinkTo 6 true else s

/-- The Ethernet ports as their own states have them. -/
def State.ethsSettle (s : State) : State := (List.range 7).foldl (fun t m => t.ethSettle m) s

/-- Training with the partner changes the link. -/
def State.ethLinkChange (s : State) (m : Nat) (up : Bool) : State :=
  if up && !s.ethMayLink m then s else s.ethLinkTo m up

/-- CONTROL LINK_UP of an agent. -/
def State.linkUp (s : State) (m a : Nat) : State :=
  let s := (s.put (R.ETH_PHY_hold_down m) 0).updOp a fun o => { o with event := true }
  let s := s.ethSettle m
  if s.ethLink m then s.endOp a stSuccess 0 else s

/-- CONTROL LINK_DOWN of an agent. -/
def State.linkDown (s : State) (m a : Nat) : State :=
  ((s.put (R.ETH_PHY_hold_down m) 1).ethSettle m).endOp a stSuccess 0

/-! ### PLCA (R480, R481) -/

/-- A transmit opportunity of the node: it sends, or lets it lapse. The coordinator's is the first of a cycle, and its
BEACON, which gives the number of opportunities, comes before it (R480). -/
def State.plcaOpportunity (s : State) : State :=
  if s.on (R.ETH_STATUS_plca_active 6) && (s.eth 6).tx.isNone then
    let s := if s.get R.ETH_PLCA_node_id = 0 then s.emit (.line clsEth 6 2 (s.get R.ETH_PLCA_node_count)) else s
    let s := (s.setEth 6 { s.eth 6 with burst := s.get R.ETH_PLCA_BURST_burst_count + 1 }).ethLoad 6
    if (s.eth 6).tx.isNone then s.setEth 6 { s.eth 6 with burst := 0 } else s
  else s

/-- No BEACON for four cycles: ETH6 falls back to CSMA/CD. The coordinator sees its own. -/
def State.plcaLoss (s : State) : State :=
  if s.on (R.ETH_STATUS_plca_active 6) && s.get R.ETH_PLCA_node_id != 0 then
    ((s.put (R.ETH_STATUS_plca_active 6) 0).ethRaise 6 9).ethLoad 6
  else s

/-- A BEACON received: PLCA is active. -/
def State.plcaBeacon (s : State) : State :=
  if s.plcaOn && s.portRuns clsEth 6 then s.put (R.ETH_STATUS_plca_active 6) 1 else s

/-! ### Configuration and SENSE -/

/-- The effect of en in a write of ETHm_CFG (R406, R476, R488). -/
def State.ethEn (s : State) (m : Nat) (en : Bool) : State :=
  if en && !s.on (R.ETH_CFG_en m) then
    if 64 ≤ s.get (R.ETH_CFG_max_len m) && s.get (R.ETH_CFG_max_len m) ≤ 2000 then
      (s.put (R.ETH_CFG_en m) 1).ethSettle m
    else s.ethRaise m 10
  else if !en && s.on (R.ETH_CFG_en m) then
    ((s.put (R.ETH_CFG_en m) 0).portOff clsEth m stBadDevice 0x03).ethSettle m
  else s

/-- A write of ETHm_CFG by a MID. -/
def State.ethCfgWrite (s : State) (m mid v : Nat) : State :=
  (s.writeOthers mid v (R.ETH_CFG_en m)).ethEn m (v.testBit 0)

def State.ethSense (s : State) (m : Nat) : List Byte :=
  let x := s.eth m
  fit 32 (leBytes 1 (b2n (s.ethLink m)) ++ leBytes 1 (s.get (R.ETH_PHY_role m)) ++ leBytes 1 (s.get (R.ETH_STATUS_mode m))
    ++ leBytes 1 (if m = 6 then s.get R.ETH_PLCA_en + 2 * s.get (R.ETH_STATUS_plca_active 6) else 0)
    ++ leBytes 4 x.rx ++ leBytes 4 x.sent ++ leBytes 4 x.fcs ++ leBytes 4 x.noFilter ++ leBytes 4 x.collisions)

/-! ### The commands -/

/-- ETH_ENABLE (R476). The value is the whole ETHm_CFG write, with en = 1. -/
def execEthEnable (m : Fin 7) (mid : BitVec 4) (value : W32) (s : State) : Host.Outcome State Fault Refusal :=
  .next (settle (s.whenUp fun s => s.ethCfgWrite m mid.toNat (setBit value.toNat 0)))

/-- ETH_LINK_CHANGE (R476). -/
def execEthLinkChange (m : Fin 7) (up : Bool) (s : State) : Host.Outcome State Fault Refusal :=
  .next (settle (s.ethLinkChange m up))

/-- ETH_FRAME_RECEIVE (R458). -/
def execEthFrameReceive (m : Fin 7) (frame : List Byte) (fcsBad : Bool) (time : W64) (s : State) :
    Host.Outcome State Fault Refusal :=
  .next (settle (s.ethReceive m frame fcsBad time.toNat))

/-- ETH_FRAME_SENT (R461). -/
def execEthFrameSent (m : Fin 7) (time : W64) (s : State) : Host.Outcome State Fault Refusal :=
  .next (settle (s.ethSent m time.toNat))

/-- ETH_COLLISION (R482). -/
def execEthCollision (late : Bool) (s : State) : Host.Outcome State Fault Refusal := .next (settle (s.ethCollide late))

/-- PLCA_BEACON_LOSS (R481). -/
def execPlcaBeaconLoss (s : State) : Host.Outcome State Fault Refusal := .next (settle s.plcaLoss)

/-- PLCA_BEACON_RECEIVE (R481). -/
def execPlcaBeaconReceive (s : State) : Host.Outcome State Fault Refusal := .next s.plcaBeacon

/-- PLCA_OPPORTUNITY (R480). -/
def execPlcaOpportunity (s : State) : Host.Outcome State Fault Refusal := .next (settle s.plcaOpportunity)

/-- LINK_UP (R478). -/
def execLinkUp (a : Fin 2560) (s : State) : Host.Outcome State Fault Refusal :=
  .next (settle (s.portFunc a clsEth 0x50 fun t m => t.linkUp m a))

/-- LINK_DOWN (R478). -/
def execLinkDown (a : Fin 2560) (s : State) : Host.Outcome State Fault Refusal :=
  .next (settle (s.portFunc a clsEth 0x51 fun t m => t.linkDown m a))

/-- TIM_SET (R466). -/
def execTimSet (mid : BitVec 4) (value : W64) (s : State) : Host.Outcome State Fault Refusal :=
  .next (s.whenUp fun s => s.timSet mid.toNat value.toNat)

/-- TIM_RATE (R464). -/
def execTimRate (mid : BitVec 4) (value : W32) (s : State) : Host.Outcome State Fault Refusal :=
  .next (s.whenUp fun s => s.timRate mid.toNat value.toNat)

/-- TIM_SLEW (R465). -/
def execTimSlew (mid : BitVec 4) (value : W32) (s : State) : Host.Outcome State Fault Refusal :=
  .next (s.whenUp fun s => s.timSlew mid.toNat value.toNat)

/-- SLEW_DONE (R465). -/
def execSlewDone (s : State) : Host.Outcome State Fault Refusal := .next s.slewDone

/-- CROSS_TIMESTAMP (R470). -/
def execCrossTimestamp (s : State) : Host.Outcome State Fault Refusal := .next (s.whenUp fun s => s.crossStamp)

/-- TIM_CAPTURE_EDGE (R473). -/
def execTimCaptureEdge (n : Fin 2) (rising : Bool) (s : State) : Host.Outcome State Fault Refusal :=
  .next (s.capEdge n rising)

/-- PPS_EDGE (R474). -/
def execPpsEdge (n : Fin 2) (s : State) : Host.Outcome State Fault Refusal := .next (s.ppsEdge n)

end Sys2Proof.Machine
end

