-- ==== Sys2Proof/Machine/Crypto.lean ====
section
/-!
DEFINITION. SHA-256 (FIPS 180-4) and HMAC-SHA-256 (FIPS 198-1), which the ledger and the image checks use (R131, R535,
R537, R538), and the CRC-8 of Keychain frames (R172).
-/

namespace Sys2Proof.Machine

/-! ### SHA-256 -/

/-- A 32-bit word rotated right by n. -/
def rotr (x n : Nat) : Nat := x / 2 ^ n + x % 2 ^ n * 2 ^ (32 - n)

def sum32 (a b : Nat) : Nat := (a + b) % 2 ^ 32

/-- The complement of a 32-bit word. -/
def not32 (x : Nat) : Nat := 2 ^ 32 - 1 - x

/-- The eight working variables of FIPS 180-4. -/
structure Sha where
  a : Nat
  b : Nat
  c : Nat
  d : Nat
  e : Nat
  f : Nat
  g : Nat
  h : Nat
deriving DecidableEq, Repr

/-- The round constants. -/
def shaK : List Nat :=
  [0x428A2F98, 0x71374491, 0xB5C0FBCF, 0xE9B5DBA5, 0x3956C25B, 0x59F111F1, 0x923F82A4, 0xAB1C5ED5]
    ++ [0xD807AA98, 0x12835B01, 0x243185BE, 0x550C7DC3, 0x72BE5D74, 0x80DEB1FE, 0x9BDC06A7, 0xC19BF174]
    ++ [0xE49B69C1, 0xEFBE4786, 0x0FC19DC6, 0x240CA1CC, 0x2DE92C6F, 0x4A7484AA, 0x5CB0A9DC, 0x76F988DA]
    ++ [0x983E5152, 0xA831C66D, 0xB00327C8, 0xBF597FC7, 0xC6E00BF3, 0xD5A79147, 0x06CA6351, 0x14292967]
    ++ [0x27B70A85, 0x2E1B2138, 0x4D2C6DFC, 0x53380D13, 0x650A7354, 0x766A0ABB, 0x81C2C92E, 0x92722C85]
    ++ [0xA2BFE8A1, 0xA81A664B, 0xC24B8B70, 0xC76C51A3, 0xD192E819, 0xD6990624, 0xF40E3585, 0x106AA070]
    ++ [0x19A4C116, 0x1E376C08, 0x2748774C, 0x34B0BCB5, 0x391C0CB3, 0x4ED8AA4A, 0x5B9CCA4F, 0x682E6FF3]
    ++ [0x748F82EE, 0x78A5636F, 0x84C87814, 0x8CC70208, 0x90BEFFFA, 0xA4506CEB, 0xBEF9A3F7, 0xC67178F2]

/-- The initial hash value. -/
def shaInit : Sha :=
  ⟨0x6A09E667, 0xBB67AE85, 0x3C6EF372, 0xA54FF53A,
    0x510E527F, 0x9B05688C, 0x1F83D9AB, 0x5BE0CD19⟩

/-- One round with constant k and message word w. -/
def Sha.round (x : Sha) (k w : Nat) : Sha :=
  let s1 := rotr x.e 6 ^^^ rotr x.e 11 ^^^ rotr x.e 25
  let ch := (x.e &&& x.f) ^^^ (not32 x.e &&& x.g)
  let t1 := (x.h + s1 + ch + k + w) % 2 ^ 32
  let s0 := rotr x.a 2 ^^^ rotr x.a 13 ^^^ rotr x.a 22
  let maj := (x.a &&& x.b) ^^^ (x.a &&& x.c) ^^^ (x.b &&& x.c)
  ⟨(t1 + s0 + maj) % 2 ^ 32, x.a, x.b, x.c, sum32 x.d t1, x.e, x.f, x.g⟩

/-- The message word 16 places after the head of a window of sixteen. -/
def nextWord (w : List Nat) : Nat :=
  let x := w.getD 1 0
  let y := w.getD 14 0
  let s0 := rotr x 7 ^^^ rotr x 18 ^^^ (x / 2 ^ 3)
  let s1 := rotr y 17 ^^^ rotr y 19 ^^^ (y / 2 ^ 10)
  (w.getD 0 0 + s0 + w.getD 9 0 + s1) % 2 ^ 32

/-- The rounds of the constants given, over a window of sixteen message words. -/
def shaRounds : List Nat → List Nat → Sha → Sha
  | [], _, x => x
  | k :: ks, w, x => shaRounds ks (w.drop 1 ++ [nextWord w]) (x.round k (w.getD 0 0))

/-- The sixteen words of a block. -/
def blockWords (bs : List Byte) : List Nat := (List.range 16).map fun i => beVal ((bs.drop (4 * i)).take 4)

/-- One block taken into the hash value. -/
def Sha.block (x : Sha) (bs : List Byte) : Sha :=
  let y := shaRounds shaK (blockWords bs) x
  ⟨sum32 x.a y.a, sum32 x.b y.b, sum32 x.c y.c, sum32 x.d y.d, sum32 x.e y.e, sum32 x.f y.f, sum32 x.g y.g,
    sum32 x.h y.h⟩

/-- n blocks taken in. -/
def Sha.blocks : Nat → Sha → List Byte → Sha
  | 0, x, _ => x
  | n + 1, x, bs => Sha.blocks n (x.block (bs.take 64)) (bs.drop 64)

/-- A message padded to whole blocks. -/
def shaPad (bs : List Byte) : List Byte :=
  bs ++ [0x80] ++ zeros ((119 - bs.length % 64) % 64) ++ beBytes 8 (8 * bs.length)

/-- SHA-256 of bytes. -/
def sha256 (bs : List Byte) : List Byte :=
  let x := Sha.blocks ((bs.length + 72) / 64) shaInit (shaPad bs)
  beBytes 4 x.a ++ beBytes 4 x.b ++ beBytes 4 x.c ++ beBytes 4 x.d ++ beBytes 4 x.e ++ beBytes 4 x.f ++ beBytes 4 x.g
    ++ beBytes 4 x.h

/-- HMAC-SHA-256 under a key of at most 64 bytes. -/
def hmac (key bs : List Byte) : List Byte :=
  let k := fit 64 key
  sha256 (k.map (· ^^^ 0x5C) ++ sha256 (k.map (· ^^^ 0x36) ++ bs))

/-! ### CRC-8 (R172) -/

/-- One bit step with generator 0x2F. -/
def crc8Bit (c : Nat) : Nat := if 128 ≤ c then (2 * c - 256) ^^^ 0x2F else 2 * c

/-- CRC-8 of bytes, most significant bit first. -/
def crc8 (bs : List Byte) : Nat :=
  bs.foldl (fun c b =>
    crc8Bit (crc8Bit (crc8Bit (crc8Bit (crc8Bit (crc8Bit (crc8Bit (crc8Bit (c ^^^ b.toNat))))))))) 0xFF ^^^ 0xFF

/-! ### ECDSA on P-256 (R131; FIPS 186-5)

The curve's constants are FIPS 186-5's and not the manual's: PRESUMED. -/

/-- The field prime, the group order and the coefficient b of P-256. -/
def ecP : Nat := 0xffffffff00000001000000000000000000000000ffffffffffffffffffffffff
def ecN : Nat := 0xffffffff00000000ffffffffffffffffbce6faada7179e84f3b9cac2fc632551
def ecB : Nat := 0x5ac635d8aa3a93e7b3ebbd55769886bc651d06b0cc53b0f63bce3c3e27d2604b

/-- The base point. -/
def ecGx : Nat := 0x6b17d1f2e12c4247f8bce6e563a440f277037d812deb33a0f4a13945d898c296
def ecGy : Nat := 0x4fe342e2fe1a7f9b8ee7eb4a7c0f9e162bce33576b315ececbb6406837bf51f5

/-- A power modulo m, with the exponent's bits counted by the fuel. -/
def powMod (m : Nat) : Nat → Nat → Nat → Nat
  | 0, _, _ => 1
  | n + 1, b, e =>
    let r := powMod m n (b * b % m) (e / 2)
    if e % 2 = 1 then r * b % m else r

/-- The inverse modulo a prime of at most 256 bits. -/
def invMod (m a : Nat) : Nat := powMod m 256 (a % m) (m - 2)

/-- A point in Jacobian coordinates; z = 0 is the point at infinity. -/
structure EcPoint where
  x : Nat
  y : Nat
  z : Nat
deriving DecidableEq, Repr

/-- Difference in the field. -/
def ecSub (a b : Nat) : Nat := (a + ecP - b % ecP) % ecP

/-- A point doubled. -/
def EcPoint.double (p : EcPoint) : EcPoint :=
  let yy := p.y * p.y % ecP
  let s := 4 * p.x * yy % ecP
  let zz := p.z * p.z % ecP
  let m := 3 * ecSub p.x zz * (p.x + zz) % ecP
  let x := ecSub (m * m) (2 * s)
  { x := x, y := ecSub (m * ecSub s x) (8 * yy * yy), z := 2 * p.y * p.z % ecP }

/-- The sum of two points. -/
def EcPoint.add (p q : EcPoint) : EcPoint :=
  if p.z = 0 then q
  else if q.z = 0 then p
  else
    let pz := p.z * p.z % ecP
    let qz := q.z * q.z % ecP
    let u := p.x * qz % ecP
    let s := p.y * qz * q.z % ecP
    let h := ecSub (q.x * pz) u
    let r := ecSub (q.y * pz * p.z) s
    if h = 0 then if r = 0 then p.double else { x := 1, y := 1, z := 0 }
    else
      let hh := h * h % ecP
      let v := u * hh % ecP
      let x := ecSub (r * r) (hh * h + 2 * v)
      { x := x, y := ecSub (r * ecSub v x) (s * hh * h), z := p.z * q.z * h % ecP }

/-- A multiple of a point, with the bits of the factor counted by the fuel. -/
def EcPoint.mul : Nat → Nat → EcPoint → EcPoint
  | 0, _, _ => { x := 1, y := 1, z := 0 }
  | n + 1, k, p =>
    let r := EcPoint.mul n (k / 2) p.double
    if k % 2 = 1 then r.add p else r

/-- Whether (r, s) is a signature of a 256-bit hash under the public key (x, y). -/
def ecdsaOk (x y hash r s : Nat) : Bool :=
  x < ecP && y < ecP && y * y % ecP == (x * x * x + (ecP - 3) * x + ecB) % ecP
    && 0 < r && r < ecN && 0 < s && s < ecN
    && (let w := invMod ecN s
        let q := (EcPoint.mul 256 (hash * w % ecN) { x := ecGx, y := ecGy, z := 1 }).add
          (EcPoint.mul 256 (r * w % ecN) { x := x, y := y, z := 1 })
        q.z != 0 && q.x * powMod ecP 256 (q.z * q.z % ecP) (ecP - 2) % ecP % ecN == r)

end Sys2Proof.Machine
end

