-- ==== Sys2Proof/Machine/Replies.lean ====
section
/-!
DEFINITION. How firmware answers a command, by mailbox or on SQ 0 (R278–R281, R285, R298).
-/

namespace Sys2Proof.Machine

/-! ### Reply statuses (R285) -/

def rsOk : Nat := 0x00
def rsBusy : Nat := 0x01
def rsNoSession : Nat := 0x02
def rsBankActive : Nat := 0x03
def rsState : Nat := 0x04
def rsFormat : Nat := 0x05
def rsKey : Nat := 0x06
def rsSig : Nat := 0x07
def rsRollback : Nat := 0x08
def rsRevision : Nat := 0x09
def rsLifecycle : Nat := 0x0A
def rsOffset : Nat := 0x0B
def rsDigest : Nat := 0x0C
def rsFlash : Nat := 0x0D
def rsPaired : Nat := 0x0E
def rsUnsupported : Nat := 0x0F
def rsBadArg : Nat := 0x10
def rsDenied : Nat := 0x11
def rsCarrier : Nat := 0x12
def rsNoResource : Nat := 0x13
def rsQueues : Nat := 0x14
def rsBadTarget : Nat := 0x15

/-! ### Messages and reply areas -/

/-- A message of firmware: header, words, zeros up to the smallest length of 8 or more, and the check word (R264,
R278). -/
def fwMessage (kind code token : Nat) (ws : List Nat) : List Nat :=
  let n := max 8 (ws.length + 2)
  let body := (n + kind * 2 ^ 5 + code % 256 * 2 ^ 8 + token % 256 * 2 ^ 16) :: (ws ++ List.replicate (n - 2 - ws.length) 0)
  body ++ [crc32c (wordBytes body)]

/-- The lowest channel bound from MID 2 to a MID (R279). -/
def State.replyChan (s : State) (mid : Nat) : Option Nat :=
  (List.range 16).find? fun c => s.isSender c 2 && s.isReceiver c mid

/-- The 64 bytes of a reply area: w1, the reply words, zeros (R298). -/
def replyArea (status : Nat) (ws : List Nat) : List Byte := fit 56 (wordBytes (status :: ws)) ++ zeros 8

/-- A command answered: by REPLY message, or in the reply area of its entry, which is then served (R279, R280, R298). -/
def State.fwReply (s : State) (a : Asked) (status : Nat) (ws : List Nat) : State :=
  if s.cpHalted then s
  else match a.via with
  | .mailbox _ mid _ =>
    match s.replyChan mid with
    | none => s
    | some c => s.mailboxDeliver c { mid := 2, addr := 0, words := fwMessage 1 a.code a.token (status :: ws) }
  | .queue slot mid =>
    if s.admin.any fun e => e.slot == slot && e.taken && e.reply.isNone then
      let l := s.admin.map fun (e : AdmEntry) =>
        if e.slot == slot && e.taken then { e with reply := some status } else e
      let s := { s with admin := l }
      s.dataWrite mid (s.get R.QMG_ADM_REPLY_BASE_base + 64 * slot) (replyArea status ws)
    else s

/-- Two 32-bit words of a 64-bit value, low half first (R282). -/
def words2 (v : Nat) : List Nat := [v % 2 ^ 32, v / 2 ^ 32 % 2 ^ 32]

/-- Commands taken whose answer is to come. -/
def State.waitingAsks (s : State) : List Asked :=
  (s.ldg.binding.map (·.1)).toList ++ (s.ldg.handing.map (·.1)).toList ++ s.ldg.sealFor ++ s.ldg.fwaFor.toList
    ++ s.tln.asked.toList ++ s.fwReads.map (·.2.req.asked)

end Sys2Proof.Machine
end

