-- ==== Sys2Proof/Machine/Buffers.lean ====
section
/-!
DEFINITION. Placement of the port queues (R374), their commands (R385, R393), and the enabling and disabling of a port
(R406, R407).
-/

namespace Sys2Proof.Machine

/-! ### Placement (R374) -/

/-- 512-byte units of 2^k words. -/
def unitsOf (k : Nat) : Nat := 2 ^ (k - 6)

/-- Least log2 size in words of queue q. -/
def minLog2 (q : Nat) : Nat :=
  let p := queuePort q
  if p.1 = clsCan && p.2 < 4 then 9 else if p.1 = clsEth then 8 else 6

/-- A placement of queue q overlaps another queue that is in use. -/
def State.overlaps (s : State) (q base k : Nat) : Bool :=
  (List.range 216).any fun p =>
    p != q && s.qOn p && s.get (R.BUF_Q_CFG_base p) < base + unitsOf k
      && base < s.get (R.BUF_Q_CFG_base p) + unitsOf (s.get (R.BUF_Q_CFG_log2 p))

/-- The port of queue q is disabled. -/
def State.portIdle (s : State) (q : Nat) : Bool := !s.portEn (queuePort q).1 (queuePort q).2

/-- The BUF_LAST reason of the first condition that a placement breaks, or none: the port rule alone for a write that
only takes a queue out of use. -/
def State.placeFault (s : State) (q base k : Nat) (portOnly : Bool) : Option Nat :=
  if !s.portIdle q then some 1
  else if portOnly then none
  else if k < 6 || 15 < k then some 6
  else if base % unitsOf k ≠ 0 then some 4
  else if 10240 < base + unitsOf k then some 3
  else if s.overlaps q base k then some 2
  else if k < minLog2 q then some 5
  else none

/-- A write of BUF_Qq_CFG or BUF_Qq_CMD refused with a reason (R374, R393). -/
def State.bufRefused (s : State) (q reason : Nat) : State :=
  ((s.raise R.BUF_EVT_cause 0 (R.BUF_EVT_CNT_count 0)).put R.BUF_LAST_q q).put R.BUF_LAST_reason reason

/-- A write of BUF_Qq_CFG (R374): an accepted change of place, and a write of en = 0, empty the queue. -/
def State.qCfgWrite (s : State) (q v : Nat) : State :=
  let en := v % 2
  let k := bits v 4 4
  let base := bits v 16 14
  let moves := base != s.get (R.BUF_Q_CFG_base q) || k != s.get (R.BUF_Q_CFG_log2 q)
  let ends := en == 0 && s.qOn q
  if !queueExists q || !(moves || ends || (en == 1 && !s.qOn q)) then s
  else match s.placeFault q base k (ends && !moves) with
    | some r => s.bufRefused q r
    | none =>
      let t := ((s.put (R.BUF_Q_CFG_en q) en).put (R.BUF_Q_CFG_log2 q) k).put (R.BUF_Q_CFG_base q) base
      if moves || ends then t.qEmptyOut q else t

/-- A write of BUF_Qq_CMD (R393). -/
def State.qCmdWrite (s : State) (q v : Nat) : State :=
  if !queueExists q || v % 2 = 0 then s
  else if isTxQueue q then s.bufRefused q 7
  else s.qDropPkt q

/-! ### Ports -/

/-- A write of the configuration register that holds the en bit of a port (R406, R407). -/
def State.portCfgWrite (s : State) (p : PortId) (mid v : Nat) : State :=
  match p with
  | .can m => s.canCtlWrite m mid v
  | .lin m => (s.writeOthers mid v (R.LIN_CFG_en m)).linEn m (v.testBit 0)
  | .sent m => (s.writeOthers mid v (R.SENT_CFG_en m)).sentEn m (v.testBit 0)
  | .ser m => (s.writeOthers mid v (R.SER_CFG_en m)).serEn m (v.testBit 0)
  | .card m => (s.writeOthers mid v (R.CARD_CFG_en m)).cardEn m (v.testBit 0)
  | .eth m => s.ethCfgWrite m mid v

/-! ### The commands -/

/-- QUEUE_CONFIG (R374). -/
def execQueueConfig (q : Fin 216) (value : W32) (s : State) : Host.Outcome State Fault Refusal :=
  .next (s.whenUp fun s => s.qCfgWrite q value.toNat)

/-- DROP_PKT (R393). The value is the whole BUF_Qq_CMD write, with drop_pkt = 1. -/
def execDropPkt (q : Fin 216) (s : State) : Host.Outcome State Fault Refusal :=
  .next (settle (s.whenUp fun s => s.qCmdWrite q 1))

/-- CLAIM_GRANT (R385). -/
def execClaimGrant (q : Fin 216) (s : State) : Host.Outcome State Fault Refusal := .next (s.qGrant q)

/-- PORT_ENABLE (R407). The value is the whole write, with en = 1. -/
def execPortEnable (p : PortId) (mid : BitVec 4) (value : W32) (s : State) : Host.Outcome State Fault Refusal :=
  .next (settle (s.whenUp fun s => s.portCfgWrite p mid.toNat (setBit value.toNat 0)))

/-- PORT_DISABLE (R406). The value is the whole write, with en = 0. -/
def execPortDisable (p : PortId) (mid : BitVec 4) (value : W32) (s : State) : Host.Outcome State Fault Refusal :=
  .next (settle (s.whenUp fun s => s.portCfgWrite p mid.toNat (clearBits value.toNat 1)))

end Sys2Proof.Machine
end

