-- ==== Sys2Proof/Machine/Ccws.lean ====
section
/-!
DEFINITION. Which CCWs are well formed, and the detail code of one that is not (R328–R334, R339, R345, R360), and the
fragment tables of R301–R303.
-/

namespace Sys2Proof.Machine

/-! ### What a CCW gives -/

/-- Bits 23:0 of the count. -/
def Ccw.bytes (c : Ccw) : Nat := c.count % 2 ^ 24

def Ccw.sli (c : Ccw) : Bool := c.flags.testBit 8
def Ccw.cls (c : Ccw) : Nat := devClass c.dev
def Ccw.sub (c : Ccw) : Nat := devSub c.dev

/-- A class whose write data are frame records (R332). -/
def recordClass (cls : Nat) : Bool := cls == clsCan || cls == clsLin || cls == clsEth

/-- The CONTROL functions of a class (R332). -/
def controlFuncs (cls : Nat) : List Nat :=
  if cls = clsCan then [0x01, 0x02, 0x03]
  else if cls = clsLin then [0x10, 0x11, 0x12, 0x13]
  else if cls = clsSent then [0x20, 0x21]
  else if cls = clsSer then [0x30, 0x31, 0x32]
  else if cls = clsCard then [0x40, 0x41, 0x42]
  else if cls = clsEth then [0x50, 0x51]
  else []

/-- The WAIT_EVENT functions of a class (R332). -/
def waitFuncs (cls : Nat) : List Nat :=
  if cls = clsEngine then [0x0F]
  else if cls = clsCan then [0x01, 0x02]
  else if cls = clsLin then [0x01, 0x03]
  else if cls = clsSent then [0x01]
  else if cls = clsSer then [0x01, 0x04]
  else if cls = clsCard then [0x05]
  else if cls = clsEth then [0x01, 0x06]
  else if cls = clsGpio then [0x07, 0x08, 0x09]
  else if cls = clsLxb then [0x0A]
  else []

/-- The classes of an opcode (R331, R332); the empty list for a reserved opcode. -/
def opClasses (op : Nat) : List Nat :=
  if op = ocNop || op = ocJump || op = ocMark then [clsEngine]
  else if op = ocWrite then [clsCan, clsLin, clsSer, clsCard, clsEth, clsGpio, clsLxb, clsReg]
  else if op = ocRead then [clsCan, clsLin, clsSent, clsSer, clsCard, clsEth, clsGpio, clsLxb, clsReg]
  else if op = ocControl then [clsCan, clsLin, clsSent, clsSer, clsCard, clsEth]
  else if op = ocSense then [clsCan, clsLin, clsSent, clsSer, clsCard, clsEth, clsGpio, clsLxb]
  else if op = ocWait then [clsEngine, clsCan, clsLin, clsSent, clsSer, clsCard, clsEth, clsGpio, clsLxb]
  else if op = ocAppend then [clsLdg]
  else if op = ocPoll then [clsReg]
  else []

/-- The opcode has a func by R332 for the class; where it has none, func is zero. -/
def funcUsed (op : Nat) : Bool := op == ocRead || op == ocControl || op == ocWait || op == ocPoll

/-- A func inside its stated range. -/
def Ccw.funcOk (c : Ccw) : Bool :=
  if c.opcode = ocRead then
    if c.cls = clsCan then 1 ≤ c.func && c.func ≤ 0x80
    else if c.cls = clsLin || c.cls = clsSent || c.cls = clsEth then 1 ≤ c.func && c.func ≤ 0x7F
    else if c.cls = clsSer || c.cls = clsCard then c.func ≤ 1
    else c.func == 0
  else if c.opcode = ocControl then (controlFuncs c.cls).contains c.func
  else if c.opcode = ocWait then (waitFuncs c.cls).contains c.func
  else if c.opcode = ocPoll then 1 ≤ c.func
  else true

/-- The bits of param that may be other than zero (R332). -/
def Ccw.paramMask (c : Ccw) : Nat :=
  if c.opcode = ocMark then 2 ^ 32 - 1
  else if c.opcode = ocWrite || c.opcode = ocRead || c.opcode = ocPoll then
    if c.cls = clsLxb then 2 ^ 24 - 1
    else if c.cls = clsReg then 2 ^ 20 - 4
    else if (c.cls = clsSer || c.cls = clsCard) && c.opcode = ocRead && c.func = 1 then 2 ^ 16 - 1
    else 0
  else if c.opcode = ocControl && c.func = 0x10 then 2 ^ 8 - 1
  else if c.opcode = ocWait && c.func = 0x0F then 2 ^ 24 - 1
  else if c.opcode = ocWait && c.func = 0x0A then 3
  else 0

/-- A param inside its stated range. -/
def Ccw.paramOk (c : Ccw) : Bool :=
  if c.opcode = ocWait && c.func = 0x0F then c.param % 2 ^ 24 != 0
  else if c.opcode = ocRead && (c.cls = clsSer || c.cls = clsCard) && c.func = 1 then c.param % 2 ^ 16 != 0
  else if (c.opcode = ocWrite || c.opcode = ocRead) && c.cls = clsLxb then c.param % 2 == 0
  else true

/-- The opcode moves data, so that its count is not given as 0 (R331). -/
def counted (op : Nat) : Bool := op == ocWrite || op == ocRead || op == ocSense || op == ocAppend || op == ocPoll

/-- A count inside its stated range (R331, R332, R542). -/
def Ccw.countOk (c : Ccw) : Bool :=
  let n := c.bytes
  if c.opcode = ocSense then 1 ≤ n && n ≤ 32
  else if c.opcode = ocPoll then n == 8
  else if c.opcode = ocAppend then 40 ≤ n && n ≤ 232 && (n - 40) % 16 == 0
  else if c.opcode = ocWrite || c.opcode = ocRead then
    if recordClass c.cls || c.cls = clsSent then 16 ≤ n
    else if c.cls = clsGpio then n == 1
    else if c.cls = clsLxb then 2 ≤ n && n ≤ 65536 && n % 2 == 0
    else if c.cls = clsReg then 4 ≤ n && n ≤ 256 && n % 4 == 0
    else 1 ≤ n
  else true

/-- A sub-address that R330 gives a meaning, or zero. A value beyond the range that R330 gives is taken as reserved
(DEDUCED). -/
def Ccw.subOk (c : Ccw) : Bool :=
  let frames := c.opcode = ocRead || (c.opcode = ocWait && c.func = 0x01)
  if c.cls = clsCan && frames then c.sub < 128 || c.sub == 0xFFF
  else if c.cls = clsLin && frames then c.sub < 64 || c.sub == 0xFFF
  else if c.cls = clsLin && c.opcode = ocControl && c.func = 0x10 then c.sub < 16
  else if c.cls = clsSent then c.sub < 2
  else if c.cls = clsEth && frames then c.sub < 64 || c.sub == 0xFFF
  else if c.cls = clsEth && c.opcode = ocWrite then c.sub < 8
  else if c.cls = clsGpio then c.sub < 48
  else c.sub == 0

/-- dev without a breach of its zero bits (R329, R330). -/
def Ccw.devOk (c : Ccw) : Bool :=
  !c.dev.testBit 11 && (!devSelf c.dev || devUnit c.dev == 0)
    && (c.cls != clsEngine || (devUnit c.dev == 0 && !devSelf c.dev))

/-- The flags that an opcode allows (R334), as a mask; `cont` for a continuation CCW. -/
def flagMask (op : Nat) (cont : Bool) : Nat :=
  let rw := op == ocWrite || op == ocRead
  let first := op != ocJump && !cont
  b2n (op != ocJump) + 2 * b2n rw + 4 * b2n (op == ocRead || op == ocSense) + 8 * b2n first + 16 * b2n (op != ocJump)
    + 32 * b2n (rw || op == ocSense || op == ocJump) + 64 * b2n first + 128 * b2n (first && op != ocAppend)
    + 256 * b2n (op == ocRead || op == ocSense)

/-! ### The rules of R360 -/

/-- A field or bit given as zero is not zero (detail 0x03). -/
def Ccw.zeroBreach (c : Ccw) : Bool :=
  c.count / 2 ^ 24 != 0 || c.timeout / 2 ^ 25 != 0 || c.flags / 2 ^ 9 != 0 || !c.devOk || !c.subOk
    || (!funcUsed c.opcode && c.func != 0) || c.param - (c.param &&& c.paramMask) != 0
    || (!counted c.opcode && c.count != 0)
    || ([ocNop, ocJump, ocMark, ocAppend].contains c.opcode && c.timeout != 0)
    || (c.opcode == ocJump && (c.dev != 0 || c.flags != 32 * b2n c.idx))

/-- A LINK value or flag that is not allowed (detail 0x04). -/
def Ccw.flagBreach (c : Ccw) (cont : Bool) : Bool :=
  c.flags % 2 ^ 9 - (c.flags % 2 ^ 9 &&& flagMask c.opcode cont) != 0 || (c.cc && c.dc) || (c.mpn && c.dc)

/-- The top of the address space of a class that has one (R332). -/
def classTop (cls : Nat) : Option Nat :=
  if cls = clsReg then some (2 ^ 20) else if cls = clsLxb then some (2 ^ 24) else none

/-- Accesses of the operation up to this CCW pass the top (R332). -/
def Ccw.topBreach (c : Ccw) (before : Nat) : Bool :=
  match classTop c.cls with
  | some t => counted c.opcode && t < c.param + before + c.bytes
  | none => false

/-- A JUMP target that R345 does not allow (detail 0x06). -/
def Ccw.jumpBreach (c : Ccw) : Bool :=
  c.opcode == ocJump && (c.data == 0 || c.data % (if c.idx then 16 else 32) != 0)

/-- What a continuation CCW is judged against: the first CCW, the CCWs of the chain so far, and their bytes (R339). -/
structure ChainOf where
  first : Ccw
  ccws : Nat
  bytes : Nat
deriving DecidableEq, Repr

/-- A continuation that breaks R339 (detail 0x07). A JUMP is transparent to the chain (R345). -/
def Ccw.chainBreach (c : Ccw) (k : ChainOf) : Bool :=
  c.opcode != ocJump
    && (c.opcode != k.first.opcode || c.func != k.first.func || c.dev != k.first.dev || c.param != k.first.param
        || c.timeout != 0 || 16 ≤ k.ccws)

/-- The lowest detail code among the rules that a CCW breaks (R360). -/
def ccwFault (bs : List Byte) (chain : Option ChainOf) : Option Nat :=
  let c := Ccw.parse bs
  let cont := chain.isSome && c.opcode != ocJump
  if bs.length ≠ 32 || !checkOk bs 0x1C then some 1
  else if !(opClasses c.opcode).contains c.cls then some 2
  else if c.zeroBreach then some 3
  else if c.flagBreach cont then some 4
  else if !c.funcOk || !c.paramOk || !c.countOk || c.topBreach (match chain with | some k => k.bytes | none => 0) then
    some 5
  else if c.jumpBreach then some 6
  else match chain with
    | some k => if c.chainBreach k then some 7 else none
    | none => none

/-! ### Fragment tables (R301–R303) -/

/-- The fragments of table bytes: address and length. -/
def fragments : Nat → List Byte → List (Nat × Nat)
  | 0, _ => []
  | n + 1, bs => (fieldAt bs 0 8, fieldAt bs 8 4) :: fragments n (bs.drop 16)

/-- The fragments of a table and the address of the next one, or none for a malformed table. -/
def parseTable (bs : List Byte) : Option (List (Nat × Nat) × Option Nat) :=
  let n := fieldAt bs 0 2
  let t := bs.take (16 + 16 * n)
  let chain := (fieldAt bs 2 1).testBit 0
  let next := fieldAt bs 8 8
  let body := t.drop 16
  if 1 ≤ n && n ≤ 256 && t.length == 16 + 16 * n && checkOk t 4 && fieldAt bs 2 1 < 2 && zeroAt bs 3 1
      && (if chain then next != 0 && next % 16 == 0 else next == 0)
      && (List.range n).all (fun i => zeroAt body (16 * i + 12) 4)
      && (fragments n body).all (fun f => 1 ≤ f.2 && f.2 < 2 ^ 24)
  then some (fragments n body, if chain then some next else none) else none

/-- Bytes of the largest fragment table. -/
def tableBytes : Nat := 16 + 16 * 256

end Sys2Proof.Machine
end

