-- ==== Sys2Proof/Machine/Gateway.lean ====
section
/-!
DEFINITION. The gateway: routing table, lookup, rewrite, conversion, IEEE 1722, rate caps and egress (R512–R528). With
it, what a port does when a frame has been handed to it.

The layouts of NTSCF and ACF messages are IEEE 1722's and not the manual's: PRESUMED.
-/

namespace Sys2Proof.Machine

/-! ### Frames handed to a port -/

/-- A port looks for its next frame: after a commit, a gateway frame or a change of state. Frames handed to a bus-off CAN
port or to an Ethernet port without a link are discarded (R417, R462). -/
def State.portKick (s : State) (cls idx : Nat) : State :=
  if cls = clsCan then if (s.can idx).busOff then s.canDiscard idx 0x10 else s.canLoad idx
  else if cls = clsLin then s.linLoad idx
  else if cls = clsSer || cls = clsCard then s.byteLoad cls idx
  else if cls = clsEth then if s.ethLink idx then s.ethLoad idx else s.ethDiscard idx
  else s

/-! ### The routing table (R515–R517) -/

/-- A routing entry, field by field. -/
structure Route where
  ingress : Nat
  en : Bool
  kind : Nat
  ide : Bool
  encap : Nat
  stream : Nat
  brief : Bool
  rewrite : Nat
  value : Nat
  mask : Nat
  egress : List Nat
deriving DecidableEq, Repr

/-- The fields of four words (R515). -/
def Route.parse (w0 w1 w2 w3 : Nat) : Route :=
  { ingress := bits w0 0 5, en := w0.testBit 5, kind := bits w0 6 3, ide := w0.testBit 9, encap := bits w0 10 2,
    stream := bits w0 12 6, brief := w0.testBit 18, rewrite := bits w0 20 6, value := w1 % 2 ^ 29,
    mask := w2 % 2 ^ 29, egress := [bits w3 0 5, bits w3 5 5, bits w3 10 5, bits w3 15 5] }

/-- The committed entry e. -/
def State.route (s : State) (e : Nat) : Route :=
  Route.parse (s.get (R.GRT_W_word e 0)) (s.get (R.GRT_W_word e 1)) (s.get (R.GRT_W_word e 2)) (s.get (R.GRT_W_word e 3))

/-- A word of the shadow, or of the entry where nothing is held. -/
def State.grtHeld (s : State) (e i : Nat) : Nat := (tget s.grtShadow (4 * e + i)).getD (s.get (R.GRT_W_word e i))

/-- Word 0 commits all four words (R517). -/
def State.grtCommit (s : State) (e w0 : Nat) : State :=
  let t := (((s.put (R.GRT_W_word e 1) (s.grtHeld e 1)).put (R.GRT_W_word e 2) (s.grtHeld e 2)).put (R.GRT_W_word e 3)
    (s.grtHeld e 3)).put (R.GRT_W_word e 0) w0
  { t with grtShadow := tdel (tdel (tdel t.grtShadow (4 * e + 1)) (4 * e + 2)) (4 * e + 3) }

/-- A register access that is refused, counted by source 3 with its offset and master (R16, R517). -/
def State.accessRefused (s : State) (off : Nat) (w : Who) : State :=
  s.fault { src := 3, detail := 0, res := bits off 2 18, mid := some w.mid,
            addr := if w.mid = 4 then some w.addr else none }

/-- A write of word i of entry e by a master (R517). -/
def State.grtWrite (s : State) (e i : Nat) (w : Who) (v : Nat) : State :=
  if w.mid ≠ 2 then s.accessRefused (0x60000 + 16 * e + 4 * i) w
  else if i = 0 then s.grtCommit e v
  else { s with grtShadow := tset s.grtShadow (4 * e + i) v }

/-! ### IEEE 1722 (R522) -/

/-- Where the AVTPDU of an Ethernet frame begins. -/
def pduAt (l : List Byte) : Nat := 14 + 4 * tagCount l

/-- The frame carries an NTSCF AVTPDU of version 0 with sv = 1. -/
def isNtscf (l : List Byte) : Bool :=
  etherType l == 0x22F0 && beAt l (pduAt l) 1 == 0x82 && beAt l (pduAt l + 1) 1 / 16 == 8

/-- The stream ID, and the length of the ACF part. -/
def pduStream (l : List Byte) : Nat := beAt l (pduAt l + 4) 8
def pduLen (l : List Byte) : Nat := beAt l (pduAt l + 1) 2 % 2 ^ 11

/-- Stream entry k (R519): its ID without the hop count. -/
def State.streamId (s : State) (k : Nat) : Nat := s.get (R.GWC_STR_ID_stream_id k) / 16

/-- Whether the AVTPDU's stream ID matches entry k; an entry that is not enabled matches none. -/
def State.streamMatch (s : State) (k : Nat) (l : List Byte) : Bool :=
  s.on (R.GWC_STR_CTL_en k) && pduStream l / 16 == s.streamId k

/-- The ACF messages of an AVTPDU's part, each with its bytes; none when the lengths are inconsistent. -/
def acfSplit : Nat → List Byte → Option (List (List Byte))
  | 0, l => if l.isEmpty then some [] else none
  | fuel + 1, l =>
    if l.isEmpty then some []
    else
      let n := 4 * (beAt l 0 2 % 512)
      if n = 0 || l.length < n then none else (acfSplit fuel (l.drop n)).map (l.take n :: ·)

/-- The ACF messages of a frame (R522). -/
def acfMessages (l : List Byte) : Option (List (List Byte)) :=
  let body := l.drop (pduAt l + 12)
  if body.length < pduLen l then none else acfSplit 512 (body.take (pduLen l))

def acfType (m : List Byte) : Nat := beAt m 0 1 / 2
def acfPad (m : List Byte) : Nat := beAt m 2 1 / 64

/-- The bus identifier of an ACF CAN or CAN Brief message, or of an ACF LIN message. -/
def acfBus (m : List Byte) : Nat := if acfType m = 3 then beAt m 2 1 % 32 else beAt m 3 1 % 32

/-- The record of an ACF CAN or CAN Brief message, whose identifier and payload lie at an offset. -/
def acfCanRecord (m : List Byte) (off : Nat) : List Byte :=
  let f := beAt m 2 1
  let data := (m.drop (off + 4)).take (m.length - off - 4 - acfPad m)
  let fd := f.testBit 1
  let rtr := f.testBit 4 && !fd
  mkRecord data.length (16 * b2n (f.testBit 0 && fd))
    (b2n fd + 8 * b2n (f.testBit 3) + 16 * b2n rtr + 32 * b2n (f.testBit 2 && fd)) (beAt m off 4 % 2 ^ 29) 0 0 0
    (if rtr then [] else data)

/-- The record of an ACF LIN message. -/
def acfLinRecord (m : List Byte) : List Byte :=
  let data := (m.drop 12).take (m.length - 12 - acfPad m)
  mkRecord data.length 0 0 (beAt m 3 1 % 64) 0 0 0 data

/-- The frame that an ACF message carries: whether it is LIN, and its record. Other types carry none. -/
def acfFrame (m : List Byte) : Option (Bool × List Byte) :=
  if acfType m = 1 then some (false, acfCanRecord m 12)
  else if acfType m = 2 then some (false, acfCanRecord m 4)
  else if acfType m = 3 then some (true, acfLinRecord m)
  else none

/-- An ACF message of a record: header, flags, bus, identifier and padded data, of a type with or without a timestamp. -/
def acfBuild (type flags bus : Nat) (lin stamp : Bool) (id : Nat) (data : List Byte) : List Byte :=
  let pad := (4 - data.length % 4) % 4
  let head := if lin then beBytes 1 (pad * 64 + bus) ++ beBytes 1 id ++ zeros 8
    else beBytes 1 (pad * 64 + flags) ++ beBytes 1 bus ++ zeros (if stamp then 8 else 0) ++ beBytes 4 id
  let body := head ++ data ++ zeros pad
  beBytes 2 (type * 512 + (2 + body.length) / 4) ++ body

/-- The ACF message that carries a CAN or LIN record (R522). -/
def State.acfOf (s : State) (r : Route) (lin : Bool) (rec : List Byte) : List Byte :=
  let bus := s.get (R.GWC_STR_CTL_bus_id r.stream)
  let data := (recData rec).take (recLen rec)
  let k := recKind rec
  if lin then acfBuild 3 0 bus true true (recIdent rec % 64) data
  else
    let fd := bits k 0 3 == 1
    let flags := 16 * b2n (k.testBit 4) + 8 * b2n (k.testBit 3) + 4 * b2n (k.testBit 5 && fd) + 2 * b2n fd
      + b2n ((recRstat rec).testBit 4)
    if r.brief then acfBuild 2 flags bus false false (recIdent rec % 2 ^ 29) data
    else acfBuild 1 flags bus false true (recIdent rec % 2 ^ 29) data

/-- The Ethernet frame that carries an ACF message of stream k on egress port m (R522). -/
def State.ntscfFrame (s : State) (k m : Nat) (acf : List Byte) (seq : Nat) : List Byte :=
  let tag := if s.on (R.GWC_STR_TAG_tagged k) then
      beBytes 2 0x8100 ++ beBytes 2 (s.get (R.GWC_STR_TAG_vid k) + s.get (R.GWC_STR_TAG_pcp k) * 2 ^ 13) else []
  leBytes 4 (s.get (R.GWC_STR_DMAC_LO_dmac k)) ++ leBytes 2 (s.get (R.GWC_STR_DMAC_HI_dmac k))
    ++ leBytes 4 (s.get (R.ETH_MAC_LO_addr m)) ++ leBytes 2 (s.get (R.ETH_MAC_HI_addr m)) ++ tag ++ beBytes 2 0x22F0
    ++ beBytes 1 0x82 ++ beBytes 2 (0x8000 + acf.length % 2 ^ 11) ++ beBytes 1 seq
    ++ beBytes 8 (s.streamId k * 16) ++ acf

/-- An AVTPDU with its hop count raised by 1 (R522). -/
def hopUp (l : List Byte) : List Byte :=
  let i := pduAt l + 11
  l.take i ++ leBytes 1 (beAt l i 1 + 1) ++ l.drop (i + 1)

/-! ### Matching (R516) -/

/-- What was offered: a CAN, LIN or Ethernet frame's record. -/
inductive Offered where
  | can | lin | eth
deriving DecidableEq, Repr

def offeredOf (code : Nat) : Offered := if code < 16 then .can else if code < 24 then .lin else .eth

/-- The frame bytes of an Ethernet record. -/
def ethBytes (rec : List Byte) : List Byte := (recData rec).take (recLen rec)

/-- A key matches under the entry's value and mask. -/
def Route.keyOk (r : Route) (key : Nat) : Bool := ((key ^^^ r.value) &&& r.mask) % 2 ^ 29 == 0

/-- An ACF message's bus identifier matches in bits 12:8. -/
def Route.busOk (r : Route) (m : List Byte) : Bool :=
  ((acfBus m ^^^ bits r.value 8 5) &&& bits r.mask 8 5) == 0

/-- The key of an XL record. -/
def xlKey (id : Nat) : Nat := id % 2 ^ 11 + bits id 16 8 * 2 ^ 11 + bits id 24 8 * 2 ^ 19

/-- An enabled entry matches a frame offered on its ingress port (R516). A DECAP entry matches when some message's bus
does, or when the lengths are inconsistent. -/
def State.routeMatches (s : State) (code : Nat) (rec : List Byte) (r : Route) : Bool :=
  let k := recKind rec
  let id := recIdent rec
  let l := ethBytes rec
  r.en && r.ingress == code &&
    match offeredOf code with
    | .can =>
      if bits k 0 3 = 2 then r.kind == 1 && r.keyOk (xlKey id)
      else r.kind == 0 && r.ide == k.testBit 3 && r.keyOk (id % 2 ^ 29)
    | .lin => r.kind == 2 && r.keyOk (id % 64)
    | .eth =>
      if r.kind = 3 then etherType l != 0x22F0 && r.keyOk (etherType l)
      else
        r.kind == 4 && isNtscf l && s.streamMatch (r.value % 64) l
          && (r.encap != 2 || match acfMessages l with
              | some ms => ms.any r.busOk
              | none => true)

/-- The lowest-numbered matching entry. -/
def State.routeFor (s : State) (code : Nat) (rec : List Byte) : Option Route :=
  ((List.range 4096).find? fun e => s.routeMatches code rec (s.route e)).map s.route

/-! ### Rewrite and conversion (R520, R521) -/

/-- The identifier of a CAN or LIN record rewritten by entry k. -/
def State.rewriteId (s : State) (k : Nat) (lin : Bool) (rec : List Byte) : List Byte :=
  if k = 0 || !s.on (R.GWC_RW_VAL_en k) then rec
  else
    let old := recIdent rec
    let mask := s.get (R.GWC_RW_MASK_mask k)
    let val := s.get (R.GWC_RW_VAL_value k)
    let kind := recKind rec
    let w := if lin then 64 else if bits kind 0 3 = 2 then 2 ^ 11 else if kind.testBit 3 then 2 ^ 29 else 2 ^ 11
    let new := ((clearBits old mask ||| (val &&& mask)) % w) + old / w * w
    rec.take 4 ++ leBytes 4 new ++ rec.drop 8

/-- A gateway record: the received record without receive-only fields. -/
def plainRecord (rec : List Byte) : List Byte :=
  mkRecord (recLen rec) 0 (recKind rec) (recIdent rec) 0 0 0 (ethBytes rec)

/-- The form of a CAN or LIN record for a CAN egress port; none where R521 drops it. -/
def State.forCan (s : State) (m : Nat) (lin : Bool) (rec : List Byte) : Option (List Byte) :=
  if lin then some (mkRecord (recLen rec) 0 0 (recIdent rec % 64) 0 0 0 (ethBytes rec))
  else
    let fmt := bits (recKind rec) 0 3
    if (fmt = 1 && !s.on (R.CAN_CTL_fd_en m)) || (fmt = 2 && !s.on (R.CAN_CTL_xl_en m)) then none
    else some (plainRecord rec)

/-- The form for a LIN egress port. -/
def forLin (lin : Bool) (rec : List Byte) : Option (List Byte) :=
  let k := recKind rec
  if !lin && (bits k 0 3 = 2 || (bits k 0 3 = 0 && k.testBit 4)) then none
  else if recLen rec < 1 || 8 < recLen rec then none
  else some (mkRecord (recLen rec) 0 0 (recIdent rec % 64) 0 0 0 (ethBytes rec))

/-- An Ethernet frame as a record for an egress port; none when it is longer than max_len (R521). -/
def State.forEth (s : State) (m : Nat) (l : List Byte) : Option (List Byte) :=
  if s.get (R.ETH_CFG_max_len m) < l.length + 4 then none else some (mkRecord l.length 0 0 0 0 0 0 l)

/-! ### Egress (R518, R523) -/

/-- The port can take gateway frames. -/
def State.egressUp (s : State) (code : Nat) : Bool :=
  let p := gwPort code
  s.portRuns p.1 p.2 &&
    if p.1 = clsCan then !(s.can p.2).busOff && !s.on (R.CAN_STATUS_host_off p.2) && !s.canQuiet p.2
    else p.1 != clsEth || s.ethLink p.2

/-- Burst and rate of an egress port's bucket: the lower of its own and the Deadbolt's. -/
def State.capBurst (s : State) (p : Nat) : Nat := min (s.get (R.GWC_CAP_burst p)) (s.get (R.DBT_GW_burst p))
def State.capRate (s : State) (p : Nat) : Nat := min (s.get (R.GWC_CAP_rate p)) (s.get (R.DBT_GW_rate p))

/-- The bucket holds at least one token. -/
def State.hasToken (s : State) (p : Nat) : Bool :=
  (tget s.gwSpent p).getD 0 + 1000000 ≤ s.capBurst p * 1000000

/-- A token taken. -/
def State.takeToken (s : State) (p : Nat) : State :=
  { s with gwSpent := tput s.gwSpent p ((tget s.gwSpent p).getD 0 + 1000000) 0 }

/-- One microsecond of gain in every bucket (R523). -/
def State.gainTokens (s : State) : State :=
  s.gwSpent.foldl (fun t e => { t with gwSpent := tput t.gwSpent e.1 (e.2 - t.capRate e.1) 0 }) s

/-- Words of an egress queue (R514). -/
def egressWords (code : Nat) : Nat :=
  if code < 16 then 8192 else if code < 24 then 1024 else if code < 26 then 65536 else 16384

/-- A frame dropped at an egress port, with its cause. -/
def State.egressDrop (s : State) (p bit : Nat) : State := (s.count (R.GWC_P_CNT_count p 1)).gwRaise bit p

/-- A result enqueued at an egress port: at a LIN port it becomes the pending gateway response of its identifier; a
poisoned one is discarded there at once (R521, R527). -/
def State.egressPut (s : State) (p : Nat) (rec : List Byte) (pois : Bool) : State :=
  let q := gwPort p
  let s := (s.takeToken p).count (R.GWC_P_CNT_count p 0)
  if q.1 = clsLin then
    if pois then (s.count (R.GWC_P_CNT_count p 2)).gwRaise 5 p
    else
      let x := s.lin q.2
      s.setLin q.2 { x with gw := tset x.gw (recIdent rec % 64) rec }
  else ({ s with gwOut := tset s.gwOut p (s.gwQueued p ++ [(rec, pois)]) }).portKick q.1 q.2

/-- A result offered to an egress port (R518): `rec` is none where R521 drops it. -/
def State.egress (s : State) (p : Nat) (rec : Option (List Byte)) (pois : Bool) : State :=
  if !s.egressUp p then s.egressDrop p 3
  else if !s.hasToken p then s.egressDrop p 2
  else match rec with
    | none => s.egressDrop p 4
    | some r =>
      if p < 16 || 24 ≤ p then
        if gwWords (s.gwQueued p) + (r.length + 7) / 8 ≤ egressWords p then s.egressPut p r pois else s.egressDrop p 1
      else s.egressPut p r pois

/-- The egress ports of an entry, without unused ones and without the ingress port (R518). -/
def Route.ports (r : Route) : List Nat := r.egress.filter fun p => p < 31 && p != r.ingress

/-- A CAN or LIN record offered to an egress port. -/
def State.sendRec (s : State) (r : Route) (lin : Bool) (rec : List Byte) (seq : Nat) (pois : Bool) (p : Nat) : State :=
  let q := gwPort p
  if q.1 = clsCan then s.egress p (s.forCan q.2 lin rec) pois
  else if q.1 = clsLin then s.egress p (forLin lin rec) pois
  else if r.encap = 1 && (lin || bits (recKind rec) 0 3 != 2) then
    s.egress p (s.forEth q.2 (s.ntscfFrame r.stream q.2 (s.acfOf r lin rec) seq)) pois
  else s.egress p none pois

/-- A CAN or LIN frame routed by an entry; an encapsulation counts the stream's sequence number (R518, R522). -/
def State.routeRec (s : State) (r : Route) (lin : Bool) (rec : List Byte) (pois : Bool) : State :=
  let out := s.rewriteId r.rewrite lin rec
  let seq := (tget s.gwSeq r.stream).getD 0
  let s := if r.encap = 1 then { s with gwSeq := tput s.gwSeq r.stream ((seq + 1) % 256) 0 } else s
  r.ports.foldl (fun t p => t.sendRec r lin out seq pois p) s

/-- One ACF message of a PDU routed (R522): those of other buses are not the entry's. -/
def State.routeAcf (s : State) (r : Route) (pois : Bool) (m : List Byte) : State :=
  match acfFrame m with
  | none => s.gwRaise 7 31
  | some (lin, rec) =>
    if r.busOk m then
      let out := s.rewriteId r.rewrite lin rec
      r.ports.foldl (fun t p =>
        if 24 ≤ p then t.egress p none pois else t.sendRec { r with encap := 0 } lin out 0 pois p) s
    else s

/-- An Ethernet frame routed by an entry (R521, R522). -/
def State.routeEth (s : State) (r : Route) (l : List Byte) (pois : Bool) : State :=
  if r.kind = 3 then
    r.ports.foldl (fun t p => t.egress p (if p < 24 then none else t.forEth (gwPort p).2 l) pois) s
  else if r.encap = 2 then
    match acfMessages l with
    | none => s.gwRaise 8 31
    | some ms => ms.foldl (fun t m => t.routeAcf r pois m) s
  else
    let hop := pduStream l % 16
    r.ports.foldl (fun t p =>
      if p < 24 then t.egress p none pois
      else if s.get R.GWC_CTL_hop_max ≤ hop then t.egressDrop p 6
      else t.egress p (t.forEth (gwPort p).2 (hopUp l)) pois) s

/-- The frame at the head of ingress staging looked up and routed (R516, R518). `pois`: one of its words has met an
uncorrectable error. A safe stop stops the gateway (R602). -/
def State.gwLookup (s : State) (code : Nat) (pois : Bool) : State :=
  match s.gwStaged code with
  | [] => s
  | (rec, p) :: rest =>
    if s.safe || s.failing then s
    else
      let s := { s with gwIn := tput s.gwIn code rest [] }
      match s.routeFor code rec with
      | none => s.gwRaise 0 code
      | some r =>
        match offeredOf code with
        | .can => s.routeRec r false rec (p || pois)
        | .lin => s.routeRec r true rec (p || pois)
        | .eth => s.routeEth r (ethBytes rec) (p || pois)

/-! ### The commands -/

/-- GATEWAY_LOOKUP (R518). -/
def execGatewayLookup (code : Fin 31) (uncorr : Bool) (s : State) : Host.Outcome State Fault Refusal :=
  .next (settle (s.gwLookup code uncorr))

/-- ROUTING_ENTRY_COMMIT (R517). -/
def execRoutingEntryCommit (e : Fin 4096) (mid : BitVec 4) (origin : BitVec 10) (word : W32) (s : State) :
    Host.Outcome State Fault Refusal :=
  .next (settle (s.whenUp fun s => s.grtWrite e 0 (who mid origin) word.toNat))

end Sys2Proof.Machine
end

