-- ==== Sys2Proof/Machine/Queues.lean ====
section
/-!
DEFINITION. The queue manager: doorbells (R310–R312, R317, R321), fetching (R306, R313, R314, R322), the admin pair
(R304–R306) and ring notification (R318).
-/

namespace Sys2Proof.Machine

/-- A QMG_EVT cause set and counted: 0 db_foreign, 1 db_inactive, 2 resume_ignored. -/
def State.qmgRaise (s : State) (bit : Nat) : State := s.raise R.QMG_EVT_cause bit (R.QMG_EVT_CNT_count bit)

/-- The admin pair is not disabled: it is enabled, or its disable is under way (R305). -/
def State.adminUp (s : State) : Bool := s.on R.QMG_ADM_CTL_enable || s.admStop

/-- The queue is absent; SQ 0 is while the admin pair is disabled (R321). -/
def State.sqAbsent (s : State) (n : Nat) : Bool :=
  if n = 0 then !s.adminUp else (s.sq n).state == 0

/-! ### Doorbells -/

/-- A tail value judged for an ACTIVE queue (R310). -/
def State.sqTail (s : State) (n v : Nat) : State :=
  let q := s.sq n
  let d (x : Nat) : Nat := ptrDiff q.log2 x q.h
  if 2 ^ (q.log2 + 1) ≤ v then s.sqError n 3 v
  else if d v < d q.t || 2 ^ q.log2 < d v then s.sqError n 2 v
  else s.setSq n { q with t := v }

/-- A write of DBL_SQn_TAIL by a MID (R310, R321). -/
def State.sqDoorbell (s : State) (n mid v : Nat) : State :=
  if s.sqAbsent n then s.qmgRaise 1
  else if mid ≠ (s.sq n).owner then s.qmgRaise 0
  else if (s.sq n).state ≠ 1 then s.qmgRaise 1
  else s.sqTail n v

/-- A resume that reaches a program (R343): a suspended one goes on, and its CCW is read again; any other remembers
it. -/
def State.resume (s : State) (tag : Nat) (p : Prog) : State :=
  if p.st = .suspended then
    let s := s.trace .program { type := 0x04, mid := 3, tag := some tag, sq := p.sq, arg0 := p.ccwAddr }
    s.setProg tag { p with st := .running, resumed := true, ccwRead := none, ccwWait := false }
  else s.setProg tag { p with resume := true }

/-- A write of a tag to DBL_SQn_RESUME by a MID (R312, R321). -/
def State.resumeDoorbell (s : State) (n mid tag : Nat) : State :=
  if s.sqAbsent n then s.qmgRaise 1
  else if mid ≠ (s.sq n).owner then s.qmgRaise 0
  else match s.prog tag with
    | some p => if p.sq = n && p.st != .ended then s.resume tag p else s.qmgRaise 2
    | none => s.qmgRaise 2

/-- A write of a ring head by a MID; ring 64 is the ACR (R317, R321). -/
def State.crHead (s : State) (m mid v : Nat) : State :=
  let r := s.ring m
  if !r.exist then s.qmgRaise 1
  else if mid ≠ r.owner then s.qmgRaise 0
  else if v < 2 ^ (r.log2 + 1) && ptrDiff r.log2 v r.head ≤ ptrDiff r.log2 r.tail r.head then
    s.setRing m { r with head := v }
  else s.ringRaise m 2

/-! ### Fetching -/

/-- Fetched entries of a queue that have not started (R313). -/
def State.waitingToStart (s : State) (n : Nat) : Nat :=
  (s.progs.filter fun e => e.2.sq == n && !e.2.started && e.2.st != .ended).length

/-- Entries of fetch reads that have not arrived, counted over the queues that match a test. -/
def State.inFetch (s : State) (f : Nat → Bool) : Nat :=
  ((s.pf0.reads ++ s.pf1.reads).map fun r => match r.purpose with
    | .entries n k => if f n then k else 0
    | _ => 0).sum

/-- Tags of logical sub-engines that have a physical one (R625). -/
def State.tagCount (s : State) : Nat := 64 * ((List.range 32).filter fun k => s.physOf k != 0x3F).length

/-- Tags free in the unit (R363). -/
def State.tagsFree (s : State) : Nat := s.tagCount - s.progs.length

/-- Programs on a logical sub-engine. -/
def State.loadOf (s : State) (k : Nat) : Nat := (s.progs.filter fun e => e.1 / 64 == k).length

/-- The logical sub-engine that holds the fewest programs and has a free slot, the lowest on a tie (R326). -/
def State.pickSe (s : State) : Option Nat :=
  (List.range 32).foldl (fun b k =>
    if s.physOf k == 0x3F || 64 ≤ s.loadOf k then b
    else match b with
      | none => some k
      | some j => if s.loadOf k < s.loadOf j then some k else b) none

/-- The tag that the next entry takes: the lowest free slot of that sub-engine (R326). -/
def State.pickTag (s : State) : Option Nat :=
  match s.pickSe with
  | none => none
  | some k => (((List.range 64).map (64 * k + ·)).find? fun g => (s.prog g).isNone)

/-- The pointer from which the next fetch read of queue n starts: H, and the entries of its reads under way. -/
def State.fetchFrom (s : State) (n : Nat) : Nat := ptrAdd (s.sq n).log2 (s.sq n).h (s.inFetch (· == n))

/-- Entries that one read of queue n may fetch: up to 8, to the end of the queue, to a 4 KiB boundary, to T, and to the
tags, the places of prefetch and the ring slots there are (R311, R313, R315). -/
def State.fetchSize (s : State) (n : Nat) : Nat :=
  let q := s.sq n
  let h := s.fetchFrom n
  let out := s.inFetch (· == n)
  let addr := q.base + 64 * ptrSlot q.log2 h
  let r := s.ring q.cr
  [8, q.published - out, 2 ^ q.log2 - ptrSlot q.log2 h, (4096 - addr % 4096) / 64,
   8 - s.waitingToStart n - out, s.get (R.QMG_SQ_TAGS_tag_max n) - s.held n - out,
   s.tagsFree - s.inFetch (fun _ => true),
   2 ^ r.log2 - (r.posted + r.reserved) - s.inFetch (fun k => (s.sq k).cr == q.cr)].foldl min 8

/-- The conditions of R313 hold for queue n, and the issue duty lets a fetch start (R576). -/
def State.canFetch (s : State) (n : Nat) : Bool :=
  n != 0 && (s.sq n).state == 1 && s.busMaster (s.sq n).owner && s.running && !s.safe && !s.failing && s.dutyOpen
    && s.fetchSize n != 0

/-- How far queue n lies behind the queue of its priority that fetched last, in a round of queue numbers. -/
def State.fetchAge (s : State) (n : Nat) : Nat := (n + 255 - (tget s.fetchLast (s.sq n).prio).getD 0) % 256

/-- It is the turn of queue n among the queues that can fetch: strict priority, and round robin within a level (R37,
R313). -/
def State.fetchTurn (s : State) (n : Nat) : Bool :=
  s.sqs.all fun e =>
    !s.canFetch e.1 || (s.sq n).prio < e.2.prio
      || ((s.sq n).prio == e.2.prio && s.fetchAge n ≤ s.fetchAge e.1)

/-- A fetch read of queue n, when it is its turn (R313). -/
def State.entryFetch (s : State) (n : Nat) : State :=
  let q := s.sq n
  if s.canFetch n && s.fetchTurn n then
    let k := s.fetchSize n
    let t := { s with fetchLast := tset s.fetchLast q.prio n }
    t.hostRead q.owner (q.base + 64 * ptrSlot q.log2 (s.fetchFrom n)) (64 * k) (.entries n k)
  else s

/-- Whether a program entry obeys R295. -/
def entryOk (bs : List Byte) : Bool :=
  let flags := fieldAt bs 1 1
  let inline := flags.testBit 0
  let addr := fieldAt bs 0x10 8
  bs.length == 64 && checkOk bs 4 && fieldAt bs 0 1 == 0x01 && flags < 4 && zeroAt bs 2 2 && zeroAt bs 0x18 8
    && (inline || zeroAt bs 0x20 32)
    && addr % (if flags.testBit 1 then 16 else 32) == 0
    && (addr != 0 || (inline && (Ccw.parse (bs.drop 0x20)).linkEnd))

/-- The program of a fetched entry (R295, R327). -/
def entryProg (n slot seq fn : Nat) (bs : List Byte) : Prog :=
  let flags := fieldAt bs 1 1
  let inline := flags.testBit 0
  let addr := fieldAt bs 0x10 8
  { sq := n, slot := slot, seq := seq, fn := fn, echo := fieldAt bs 8 4,
    inline := if inline then bs.drop 0x20 else [],
    ccwRead := if inline then some (bs.drop 0x20) else none,
    ccwAddr := if inline || flags.testBit 1 then 0 else addr,
    src := { addr := addr, viaTable := flags.testBit 1, tableNext := if flags.testBit 1 then addr else 0 } }

/-- One entry of a fetch read arrives (R314, R322): H advances, a tag and a ring slot are taken, and it is checked. An
entry behind a malformed one of the same read ends ABORTED (R320). -/
def State.entryArrives (s : State) (n : Nat) (aborted : Bool) (data : Option (List Byte)) : State × Bool :=
  match s.pickTag with
  | none => (s, aborted)
  | some tag =>
    let q := s.sq n
    let m := s.ringOf n
    let bs := data.getD []
    let p := entryProg n (ptrSlot q.log2 q.h) s.fetchSeq q.owner bs
    let s := { s.setSq n { q with h := ptrAdd q.log2 q.h 1 } with fetchSeq := s.fetchSeq + 1 }
    let s := (s.setRing m { s.ring m with reserved := (s.ring m).reserved + 1 }).setProg tag p
    let s := s.trace .program { type := 0x01, mid := 3, tag := some tag, sq := n, arg0 := p.slot, arg1 := p.echo }
    if aborted then (s.endUnstarted tag stAborted 0 0, true)
    else if entryOk bs && data.isSome then (s, false)
    else (((s.endUnstarted tag stMalformedEntry 0 0).sqError n 1 q.h), true)

/-- The entries of a read, 64 bytes each. -/
def entryList : Nat → Option (List Byte) → List (Option (List Byte))
  | 0, _ => []
  | k + 1, d => d.map (·.take 64) :: entryList k (d.map (·.drop 64))

/-- A fetch read of queue n has ended: with its data, or as a structure whose check failed (R238, R314). -/
def State.entriesArrive (s : State) (n k : Nat) (data : Option (List Byte)) : State :=
  if (s.sq n).state ≠ 1 then s
  else ((entryList k data).foldl (fun (r : State × Bool) e => r.1.entryArrives n r.2 e) (s, false)).1

/-! ### The admin pair -/

/-- Entries that the admin fetcher may read now (R306). -/
def State.adminSize (s : State) : Nat :=
  let q := s.sq 0
  let addr := q.base + 64 * ptrSlot q.log2 q.h
  let r := s.ring 64
  [8, q.published, 2 ^ q.log2 - ptrSlot q.log2 q.h, (4096 - addr % 4096) / 64, 16 - s.admin.length,
   2 ^ r.log2 - (r.posted + r.reserved)].foldl min 8

/-- An admin fetch read is outstanding. -/
def State.adminOut (s : State) : Bool :=
  (s.pf0.reads ++ s.pf1.reads).any fun r => match r.purpose with
    | .admin _ => true
    | _ => false

/-- The admin fetcher may read: the pair is enabled and ACTIVE, nothing has stopped SQ 0, and there is room (R62, R105,
R305, R306, R602). -/
def State.canAdminFetch (s : State) : Bool :=
  s.on R.QMG_ADM_CTL_enable && (s.sq 0).state == 1 && s.busMaster (s.sq 0).owner && s.running && !s.safe && !s.failing
    && !s.cpHalted && !s.sq0Stop && !s.adminOut && s.adminSize != 0

/-- ADMIN_FETCH (R306). -/
def State.adminFetch (s : State) : State :=
  if s.canAdminFetch then
    let q := s.sq 0
    s.hostRead q.owner (q.base + 64 * ptrSlot q.log2 q.h) (64 * s.adminSize) (.admin s.adminSize)
  else s

/-- Whether an SQ 0 entry obeys R297. -/
def adminEntryOk (bs : List Byte) : Bool :=
  bs.length == 64 && checkOk bs 4 && fieldAt bs 0 1 == 0x02 && zeroAt bs 3 1

/-- One SQ 0 entry arrives: H advances and an ACR slot is reserved; a malformed one ends the queue's run (R306,
R322). -/
def State.adminArrives (s : State) (aborted : Bool) (data : Option (List Byte)) : State × Bool :=
  let q := s.sq 0
  let bs := data.getD []
  let slot := ptrSlot q.log2 q.h
  let s := s.setSq 0 { q with h := ptrAdd q.log2 q.h 1 }
  let s := s.setRing 64 { s.ring 64 with reserved := (s.ring 64).reserved + 1 }
  if aborted then (s.postAdmin slot stAborted 0 bs, true)
  else if adminEntryOk bs && data.isSome then
    ({ s with admin := s.admin ++ [{ slot := slot, bytes := bs }] }, false)
  else ((s.postAdmin slot stMalformedEntry 0 bs).sqError 0 1 q.h, true)

/-- An admin fetch read has ended (R238, R306). -/
def State.adminArrive (s : State) (k : Nat) (data : Option (List Byte)) : State :=
  if (s.sq 0).state ≠ 1 || !s.on R.QMG_ADM_CTL_enable then s
  else ((entryList k data).foldl (fun (r : State × Bool) e => r.1.adminArrives r.2 e) (s, false)).1

/-- Firmware reports its oldest staged entry done: the record is posted behind the reply area (R298, R306). -/
def State.adminDone (s : State) : State :=
  match s.admin with
  | [] => s
  | e :: rest =>
    match e.reply with
    | none => s
    | some st => ({ s with admin := rest }).postAdmin e.slot stSuccess st e.bytes

/-- ABORTED posted for every fetched SQ 0 entry that firmware has not finished (R53, R62, R105, R305). Entries that
firmware has served and not reported are unfinished; a fetch under way is abandoned, so that no entry comes later. -/
def State.adminAbort (s : State) : State :=
  s.admin.foldl (fun t e => t.postAdmin e.slot stAborted 0 e.bytes)
    { (s.dropFetch 0).dropFw FwReq.queued with admin := [] }

/-- A write of QMG_ADM_CTL that enables the pair for a function: pointers at 0 and the ACR in being (R304). -/
def State.adminEnable (s : State) (f : Nat) : State :=
  let kq := s.get R.QMG_ADM_CTL_sq_log2
  let kr := s.get R.QMG_ADM_CTL_acr_log2
  if kq = 0 || kr = 0 then s
  else
    let s := (s.put R.QMG_ADM_CTL_enable 1).put R.QMG_ADM_CTL_owner f
    let s := s.setSq 0 { state := 1, owner := f, log2 := kq, base := s.get R.QMG_ADM_SQ_BASE_base }
    s.setRing 64 { exist := true, owner := f, log2 := kr, base := s.get R.QMG_ADM_CR_BASE_base }

/-- Encodings 1–12 of a depth field; any other leaves the field unchanged (R13, R325). -/
def State.putDepth (s : State) (f : Fld) (k : Nat) : State := if 1 ≤ k && k ≤ 12 then s.put f k else s

/-- A write of QMG_ADM_CTL by a MID (R304, R305): the depth fields while enable is 0, then enable, which MIDs 0 and 1
write. Writes of the other function while the pair is enabled, and of enable = 1 while a disable is under way, do nothing
to it. -/
def State.admCtlWrite (s : State) (mid v : Nat) : State :=
  if s.on R.QMG_ADM_CTL_enable then
    if mid = s.get R.QMG_ADM_CTL_owner && !v.testBit 0 then s.adminDisable else s
  else
    let s := (s.putDepth R.QMG_ADM_CTL_sq_log2 (bits v 4 4)).putDepth R.QMG_ADM_CTL_acr_log2 (bits v 8 4)
    if v.testBit 0 && mid < 2 && !s.admStop then s.adminEnable mid else s

/-- The wait of R305 ends: unfinished entries end ABORTED and the pair is disabled. -/
def State.adminDisableEnd (s : State) : State :=
  if s.admStop then
    let s := s.adminAbort
    ({ (s.setSq 0 {}) with admStop := false }.setRing 64 { s.ring 64 with exist := false }).put R.QMG_ADM_CTL_owner 0
  else s

/-! ### Ring notification, shutdowns -/

/-- A write of QMG_CRm_INT: by the ring's owning function or MID 2 (R325). -/
def State.crIntWrite (s : State) (m mid v : Nat) : State :=
  if mid = 2 || ((s.ring m).exist && mid == (s.ring m).owner) then
    s.writeFlds mid v [R.QMG_CR_INT_en m, R.QMG_CR_INT_threshold m, R.QMG_CR_INT_delay m]
  else s

/-- QMG_CRm_INT.delay µs have passed since the first record counted (R318). -/
def State.ringDelay (s : State) (m : Nat) : State :=
  let r := s.ring m
  if r.count ≠ 0 && s.get (R.QMG_CR_INT_delay m) ≠ 0 then (s.setRing m { r with count := 0 }).ringRaise m 0 else s

/-- Every record of the shutdown of SQ n has been posted and every tag has returned (R307, R319). -/
def State.shutdownDone (s : State) (n : Nat) : State :=
  let q := s.sq n
  if q.shutting && s.held n = 0 then
    if q.destroy then s.setSq n {} else s.setSq n { q with shutting := false }
  else s

/-! ### The commands -/

/-- SQ_DOORBELL (R310). -/
def execSqDoorbell (n : Fin 256) (mid : BitVec 4) (value : BitVec 13) (s : State) : Host.Outcome State Fault Refusal :=
  .next (settle (s.whenUp fun s => s.sqDoorbell n mid.toNat value.toNat))

/-- CR_HEAD_DOORBELL (R317). Ring 64 is the ACR. -/
def execCrHeadDoorbell (m : Fin 65) (mid : BitVec 4) (head : BitVec 13) (s : State) :
    Host.Outcome State Fault Refusal :=
  .next (s.whenUp fun s => s.crHead m mid.toNat head.toNat)

/-- ENTRY_FETCH (R313). -/
def execEntryFetch (n : Fin 256) (s : State) : Host.Outcome State Fault Refusal := .next (s.entryFetch n)

/-- ADMIN_FETCH (R306). -/
def execAdminFetch (s : State) : Host.Outcome State Fault Refusal := .next s.adminFetch

/-- ADMIN_ENTRY_DONE (R306). -/
def execAdminEntryDone (s : State) : Host.Outcome State Fault Refusal := .next s.adminDone

/-- ADMIN_ENABLE (R304). -/
def execAdminEnable (mid : BitVec 4) (value : W32) (s : State) : Host.Outcome State Fault Refusal :=
  .next (s.whenUp fun s => s.admCtlWrite mid.toNat value.toNat)

/-- ADMIN_DISABLE (R305). -/
def execAdminDisable (mid : BitVec 4) (s : State) : Host.Outcome State Fault Refusal :=
  .next (s.whenUp fun s => s.admCtlWrite mid.toNat 0)

/-- ADMIN_DISABLE_END (R305). -/
def execAdminDisableEnd (s : State) : Host.Outcome State Fault Refusal := .next s.adminDisableEnd

/-- RING_DELAY_EXPIRY (R318). -/
def execRingDelayExpiry (m : Fin 65) (s : State) : Host.Outcome State Fault Refusal := .next (s.ringDelay m)

/-- SHUTDOWN_COMPLETE (R319). -/
def execShutdownComplete (n : Fin 256) (s : State) : Host.Outcome State Fault Refusal := .next (s.shutdownDone n)

end Sys2Proof.Machine
end

