-- ==== Sys2Proof/Machine/Channel.lean ====
section
/-!
DEFINITION. The channel engine: reading, checking, holding and starting CCWs (R337–R350), JUMPs, the end of a device
operation and what follows it, host data of operations, and START of far operations (R351–R356).
-/

namespace Sys2Proof.Machine

/-! ### Fragment tables of a data area (R302) -/

/-- A table read of the program is under way. -/
def State.tableOut (s : State) (fn tag : Nat) : Bool := (s.fn fn).reads.any fun r => r.purpose == .table tag

/-- The first area of an operation that waits for a table. -/
def Op.tableDue (o : Op) : Option Nat := (o.segs.find? fun g => g.table.isSome).bind (·.table)

/-- The next fragment table of an operation is read, one at a time. A seventeenth table of a chain, and
one that is not 16-byte aligned, are not read (R301, R303). -/
def State.pumpTable (s : State) (tag : Nat) : State :=
  match s.prog tag, s.op tag with
  | some p, some o =>
    if s.tableOut p.fn tag || o.ended.isSome then s
    else match o.segs.find? (fun g => g.table.isSome) with
      | none => s
      | some g =>
        if 16 ≤ g.tables || g.table.getD 0 % 16 ≠ 0 then s.endOp tag stMalformedFragment 0
        else s.hostRead p.fn (g.table.getD 0) tableBytes (.table tag)
  | _, _ => s

/-- An area with the fragments of the table it waited for; the next table is due while the area is short of its
count. -/
def Seg.gotTable (g : Seg) (frags : List (Nat × Nat)) (next : Option Nat) : Seg :=
  let area := g.area ++ frags
  { g with area := area, tables := g.tables + 1,
           table := if g.room ≤ (area.map (·.2)).sum then none else next }

/-- The first waiting area of a list changed. -/
def updTable (frags : List (Nat × Nat)) (next : Option Nat) : List Seg → List Seg
  | [] => []
  | g :: r => if g.table.isSome then g.gotTable frags next :: r else g :: updTable frags next r

/-- A fragment table of an operation has arrived, or its read failed (R238, R303). -/
def State.tableArrives (s : State) (tag : Nat) (data : Option (List Byte)) : State :=
  match data.bind parseTable with
  | none => s.endOp tag stMalformedFragment 0
  | some (frags, next) => (s.updOp tag fun o => { o with segs := updTable frags next o.segs }).pumpTable tag

/-! ### Reading CCWs (R337, R338, R296) -/

/-- The program ends at a CCW that has not started, with the operation it would continue stopped (R335, R339). -/
def State.endCcw (s : State) (tag status detail residual : Nat) : State :=
  match s.op tag with
  | none => s.endUnstarted tag status detail residual
  | some o => ((s.stopOp tag).updProg tag fun p => p.merge o).endUnstarted tag status detail residual

/-- The next CCW of a program read: the inline one, the one in plain memory, or the next of the fragment chain. -/
def State.readCcw (s : State) (tag : Nat) (p : Prog) : State :=
  if !p.started && !p.inline.isEmpty then s.setProg tag { p with ccwRead := some p.inline, ccwAddr := 0 }
  else if !p.src.viaTable then
    (s.setProg tag { p with ccwWait := true, ccwAddr := p.src.addr }).hostRead p.fn p.src.addr 32 (.ccw tag)
  else match p.src.frags with
    | (a, l) :: _ =>
      if l % 32 ≠ 0 then s.endCcw tag stMalformedFragment 0 0
      else (s.setProg tag { p with ccwWait := true, ccwAddr := a }).hostRead p.fn a 32 (.ccw tag)
    | [] =>
      if p.src.tableNext = 0 || 16 ≤ p.src.tables then s.endCcw tag stMalformedFragment 0 0
      else (s.setProg tag { p with ccwWait := true }).hostRead p.fn p.src.tableNext tableBytes (.prgTable tag)

/-- A CCW has arrived, or its read failed (R238). -/
def State.ccwArrives (s : State) (tag : Nat) (data : Option (List Byte)) : State :=
  s.updProg tag fun p =>
    if !p.ccwWait then p
    else match data with
      | some bs => { p with ccwWait := false, ccwRead := some (fit 32 bs) }
      | none => { p with ccwWait := false, ccwFailed := true }

/-- A fragment table that holds a program's CCWs has arrived (R296). -/
def State.prgTableArrives (s : State) (tag : Nat) (data : Option (List Byte)) : State :=
  match s.prog tag with
  | none => s
  | some p =>
    if !p.ccwWait then s
    else match data.bind parseTable with
      | none => s.endCcw tag stMalformedFragment 0 0
      | some (frags, next) =>
        s.setProg tag { p with ccwWait := false,
                               src := { p.src with frags := p.src.frags ++ frags, tables := p.src.tables + 1,
                                                   tableNext := next.getD 0 } }

/-- The place of the CCW after the one read. -/
def Prog.nextSrc (p : Prog) : CcwSrc :=
  if !p.started && !p.inline.isEmpty then p.src
  else if !p.src.viaTable then { p.src with addr := p.src.addr + 32 }
  else match p.src.frags with
    | (a, l) :: rest => { p.src with frags := if l ≤ 32 then rest else (a + 32, l - 32) :: rest }
    | [] => p.src

/-! ### Holds (R48, R342, R348) -/

/-- Programs fetched earlier from the same queue whose final record has not been posted. -/
def State.earlier (s : State) (p : Prog) : List (Nat × Prog) :=
  s.progs.filter fun e => e.2.sq == p.sq && e.2.seq < p.seq && e.2.st != .ended

/-- An entry fetched earlier from the same queue is due to start before this one, which has not started either (R314): it
still waits for its first CCW, and no hold has let others go ahead. -/
def State.behind (s : State) (p : Prog) : Bool :=
  !p.started && (s.earlier p).any fun e => !e.2.started && e.2.st == .prefetched

/-- An earlier program does not hold back a transmitting CCW that names the port of `dev` (R348). -/
def State.letsPass (s : State) (dev : Nat) (e : Nat × Prog) : Bool :=
  match s.op e.1 with
  | some o => o.chainRead && o.cur.linkEnd
      && (!(o.first.transmits && s.samePort o.first.dev dev) || o.handedLast)
  | none =>
    match e.2.ccwRead with
    | some bs =>
      let c := Ccw.parse bs
      c.linkEnd && c.opcode != ocJump && !(c.transmits && s.samePort c.dev dev)
    | none => false

/-- Why a checked CCW may not start yet, if it may not. -/
def State.heldBy (s : State) (p : Prog) (c : Ccw) : Option PState :=
  if p.restarted then none
  else if c.ord && !(s.earlier p).isEmpty then some .ordHold
  else if c.transmits && !(s.sq p.sq).unordered && !(s.earlier p).all (s.letsPass c.dev) then some .orderHold
  else none

/-! ### Starting (R337, R346, R360, R718) -/

/-- With what a CCW that names a device of this unit ends at its start, if it does: the index names no port, the port
does not run, or the queue that it needs is not in use. -/
def State.startFault (s : State) (c : Ccw) : Option (Nat × Nat) :=
  let idx := devIndex c.dev
  if portCount c.cls ≤ idx then some (stBadDevice, 0x01)
  else if c.cls = clsEngine || c.cls = clsReg || c.cls = clsLdg then none
  else match s.portFault c.cls idx with
    | some f => some f
    | none =>
      if (c.opcode = ocRead || (c.opcode = ocWait && c.func = 0x01)) && rxClasses c.cls != 0
          && !((s.rxFor c.cls idx c.sub).any s.qOn) then some (stBadDevice, 0x03)
      else if c.opcode = ocWrite && !(txQueues c.cls idx).isEmpty && !s.qOn (txQueue c.cls idx c.sub) then
        some (stBadDevice, 0x03)
      else none

/-- The data area of a CCW of an operation. With DISC no host memory is used, and no table is read (R341); DEDUCED, log entry
109: the DISC of the operation's first CCW holds for its whole chain. -/
def mkSeg (disc : Bool) (c : Ccw) (addr : Nat) : Seg :=
  if c.idx && !disc then { ccw := c, addr := addr, room := c.bytes, table := some c.data }
  else { ccw := c, addr := addr, room := c.bytes, area := [(c.data, c.bytes)] }

/-- START of a program's far operation, once every CCW of its chain has been read and while the function is bus master
(R351, R352, R355). Its receive credit covers data areas that are known, up to 2,048 bytes. -/
def State.farStart (s : State) (tag : Nat) : State :=
  match s.prog tag, s.op tag with
  | some p, some o =>
    if !s.opFar tag o || o.sent || o.busy || !o.chainRead || o.ended.isSome || !s.busMaster p.fn
        || o.first.cls = clsReg || o.first.cls = clsLdg then s
    else if (s.routeTo (devUnit o.first.dev)).isNone then s.endOp tag stFarGone 0
    else
      let credit := if o.first.opcode = ocWrite || o.first.skp then 0 else min 2048 (segsAvail o.segs)
      let s := { s with insts := tput s.insts tag (((tget s.insts tag).getD 0 + 1) % 256) 0 }
      let s := s.updOp tag fun o => { o with sent := true, credit := credit,
                                             begun := o.begun || o.first.opcode == ocRead || o.first.opcode == ocControl }
      s.prgReq (devUnit o.first.dev) tag 0x01
        (leBytes 1 o.first.opcode ++ leBytes 1 o.first.func ++ leBytes 2 (4 * b2n o.first.skp) ++ leBytes 4 o.first.dev
          ++ leBytes 4 o.room ++ leBytes 4 o.first.param ++ leBytes 4 credit)
  | _, _ => s

/-- A device operation begins for an agent. -/
def State.openOp (s : State) (a : Nat) (o : Op) : State :=
  { s with commitSeq := s.commitSeq + 1 }.setOp a { o with serial := s.commitSeq, since := s.now }

/-- The operation of an agent on this unit ended where it cannot start. -/
def State.judgeStart (s : State) (a : Nat) (c : Ccw) : State :=
  match s.startFault c with
  | some f => s.endOp a f.1 f.2
  | none => s

/-- An operation that starts again keeps the time-out that began at its first start (R648). -/
def State.sinceFirst (s : State) (tag : Nat) (p : Prog) : State :=
  match p.again with
  | some (t, _) => s.updOp tag fun o => { o with since := t }
  | none => s

/-- A checked CCW that nothing holds starts (R337, R346). A NOP ends at once. -/
def State.startCcw (s : State) (tag : Nat) (p : Prog) (c : Ccw) : State :=
  let o : Op := { first := c, firstAddr := p.ccwAddr, segs := [mkSeg c.skp c p.ccwAddr], lastFlags := c.flags,
                  chainRead := !c.dc, ccwsAt := p.ccws, srcAt := p.src }
  let s := s.setProg tag { p with cur := c, src := p.nextSrc, ccwRead := none, started := true, st := .deviceWait,
                                  resumed := false, restarted := false, again := none }
  let s := ((s.ccwStarted tag p.ccwAddr c).openOp tag o).sinceFirst tag p
  let s := if c.opcode = ocNop then s.endOp tag stSuccess 0 else s
  let s := if c.cls = clsEngine || s.devLocal c.dev || c.cls = clsReg || c.cls = clsLdg then s.judgeStart tag c else s
  let s := if s.opFar tag o && c.cls != clsEngine && (s.routeTo (devUnit c.dev)).isNone then s.endOp tag stFarGone 0
    else s
  (s.pumpTable tag).farStart tag

/-- The program suspends before its CCW (R342). -/
def State.suspend (s : State) (tag : Nat) (p : Prog) : State :=
  (s.setProg tag { p with st := .suspended }).trace .program
    { type := 0x03, mid := 3, tag := some tag, sq := p.sq, arg0 := p.ccwAddr }

/-- A CCW that has been read and begins an operation: refused, suspended, held or started. A JUMP waits for its own
command. -/
def State.takeCcw (s : State) (tag : Nat) (p : Prog) (bs : List Byte) : State :=
  let c := Ccw.parse bs
  match ccwFault bs none with
  | some d =>
    (s.setProg tag { p with cur := if d = 1 then {} else c }).endCcw tag stMalformedCcw d (if d = 1 then 0 else c.bytes)
  | none =>
    if c.opcode = ocJump || s.behind p then s
    else if c.sus && !p.resumed && !p.resume && !p.restarted then s.suspend tag { p with cur := c }
    else
      let p := if c.sus && !p.resumed && p.resume then { p with resume := false, resumed := true } else p
      match s.heldBy p c with
      | some st => s.setProg tag { p with cur := c, st := st }
      | none => s.startCcw tag p c

/-- A CCW that has been read and continues an operation (R339). -/
def State.takeChained (s : State) (tag : Nat) (p : Prog) (o : Op) (bs : List Byte) : State :=
  let c := Ccw.parse bs
  match ccwFault bs (some { first := o.first, ccws := o.chained, bytes := (o.segs.map (·.ccw.bytes)).sum }) with
  | some d =>
    (s.setProg tag { p with cur := if d = 1 then {} else c }).endCcw tag stMalformedCcw d (if d = 1 then 0 else c.bytes)
  | none =>
    if c.opcode = ocJump then s
    else
      let s := s.setProg tag { p with cur := c, src := p.nextSrc, ccwRead := none }
      let s := s.updOp tag fun o => { o with segs := o.segs ++ [mkSeg o.first.skp c p.ccwAddr], chained := o.chained + 1,
                                             lastFlags := c.flags, chainRead := !c.dc }
      (s.pumpTable tag).farStart tag

/-- The program may take a CCW: it is live, not suspended, its sub-engine is not moving, and the unit runs. -/
def State.mayTake (s : State) (tag : Nat) (p : Prog) : Bool :=
  p.st != .ended && p.st != .suspended && s.running && !s.safe && !s.failing && !s.moving (tag / 64)

/-- The engine has something to do at a CCW boundary of a program: a CCW to read or to start, and no hold (R340). -/
def State.ready (s : State) (tag : Nat) (p : Prog) : Bool :=
  s.mayTake tag p && !p.ccwWait && !s.behind p &&
    match s.op tag with
    | some o => !o.chainRead
    | none =>
      match p.ccwRead with
      | none => true
      | some bs => (ccwFault bs none).isSome || (s.heldBy p (Ccw.parse bs)).isNone

/-- The ready programs, those that were ready before first. -/
def State.readyNow (s : State) : List Nat :=
  let l := (s.progs.filter fun e => s.ready e.1 e.2).map (·.1)
  s.readyQ.filter l.contains ++ l.filter fun g => !s.readyQ.contains g

/-- The order in which programs became ready brought up to date (R340): where several have become ready since, they follow
in the order of their tags. -/
def State.reready (s : State) : State := { s with readyQ := s.readyNow }

/-- The program is the one to which its sub-engine turns (R340): no ready program of the sub-engine has a queue of higher
priority, or one of the same priority and has been ready longer. -/
def State.hasTurn (s : State) (tag : Nat) (p : Prog) : Bool :=
  let prio (g : Nat) : Nat := match s.prog g with
    | some x => (s.sq x.sq).prio
    | none => 8
  let l := s.readyNow.filter fun g => g / 64 == tag / 64
  !s.ready tag p ||
    (l.all fun g => (s.sq p.sq).prio ≤ prio g) && l.find? (fun g => prio g == (s.sq p.sq).prio) == some tag

/-- CCW_START: one turn of a program that is due to read or start a CCW (R337, R339). -/
def State.ccwTurn (s : State) (tag : Nat) : State :=
  match s.prog tag with
  | none => s
  | some p =>
    if !s.dutyOpen || !s.mayTake tag p || p.ccwWait || !s.hasTurn tag p then s
    else if p.ccwFailed then
      (s.setProg tag { p with cur := {} }).endCcw tag stMalformedCcw 0x01 0
    else match s.op tag, p.ccwRead with
      | none, none => s.readCcw tag p
      | none, some bs => s.takeCcw tag p bs
      | some o, none => if o.chainRead then s else s.readCcw tag p
      | some o, some bs => if o.chainRead then s else s.takeChained tag p o bs

/-! ### JUMP (R345) -/

/-- A JUMP that has been read and checked is carried out. -/
def State.jump (s : State) (tag : Nat) : State :=
  match s.prog tag with
  | none => s
  | some p =>
    match p.ccwRead with
    | none => s
    | some bs =>
      let c := Ccw.parse bs
      let chained := match s.op tag with
        | some o => some o.chainRead
        | none => none
      if !s.dutyOpen || !s.mayTake tag p || !s.hasTurn tag p || s.behind p || c.opcode ≠ ocJump || chained == some true
          || (ccwFault bs none).isSome then s
      else
        let s := (s.setProg tag { p with cur := c, started := true }).ccwStarted tag p.ccwAddr c
        if 256 ≤ p.jumps then s.endCcw tag stLoopLimit 0 0
        else s.updProg tag fun p => { p with
          jumps := p.jumps + 1, ccwRead := none, resumed := false, st := if chained.isSome then p.st else .running,
          src := if c.idx then { viaTable := true, tableNext := c.data } else { addr := c.data } }

/-! ### The end of an operation (R335–R344, R353) -/

/-- A length mismatch of a READ or SENSE (R337). -/
def Op.mismatch (o : Op) : Bool := (o.first.opcode == ocRead || o.first.opcode == ocSense) && (o.room != 0 || o.truncated)

/-- What follows an operation of a local program that has ended without error: its notice, then its next CCW or its
final record (R338, R344). -/
def State.chainOn (s : State) (tag : Nat) (p : Prog) (o : Op) : State :=
  let e := s.eswNow tag p 0
  let s := if o.lastFlags.testBit 4 then s.notice tag p e else s
  if o.lastFlags.testBit 0 then
    ({ s with ops := tdel s.ops tag }.dropReads p.fn tag).setProg tag { p with st := .running }
  else s.finalize tag stSuccess p e

/-- The end of an operation judged, once its chain has been read (R337, R339). -/
def State.localEnd (s : State) (tag : Nat) (p : Prog) (o : Op) (status detail : Nat) : State :=
  if !o.chainRead then s
  else
    let s := s.withdraw tag
    let p := p.merge o
    if status ≠ stSuccess then s.finalize tag status p (s.eswNow tag p detail)
    else if o.mismatch && !o.lastFlags.testBit 8 then s.finalize tag stLength p (s.eswNow tag p 0)
    else
      let p := { p with lenOk := p.lenOk || o.mismatch }
      (s.setProg tag p).chainOn tag p o

/-- The far agent reports its operation with END once its read data has been sent, and frees its slot (R353–R355). -/
def State.farEnd (s : State) (slot : Nat) (o : Op) (status detail : Nat) : State :=
  match tget s.farSlots slot with
  | none => s
  | some fs =>
    if !fs.out.isEmpty then s
    else
      let s := s.withdraw (farAgent slot)
      let s := s.prgRsp fs.origin fs.tag fs.inst 0x82
        (leBytes 1 status ++ leBytes 1 detail ++ leBytes 1 (b2n o.poisoned + 2 * b2n o.gap + 16 * b2n o.truncated)
          ++ zeros 1 ++ leBytes 4 (o.room % 2 ^ 24 + min 255 o.frames * 2 ^ 24) ++ zeros 4)
      { s with ops := tdel s.ops (farAgent slot), farSlots := tdel s.farSlots slot }

/-- DEVICE_OPERATION_END: an agent's operation that has ended is judged. -/
def State.opEnd (s : State) (a : Nat) : State :=
  match s.op a with
  | none => s
  | some o =>
    match o.ended with
    | none => s
    | some (status, detail) =>
      if 2048 ≤ a then s.farEnd (a - 2048) o status detail
      else match s.prog a with
        | none => s
        | some p => if s.moving (a / 64) then s else s.localEnd a p o status detail

/-! ### Time-outs (R346, R347) -/

/-- The time-out of an operation in µs: its first CCW's field, or CHE_DEF_TIMEOUT where that is 0 (R346). -/
def State.timeoutOf (s : State) (c : Ccw) : Nat :=
  if c.timeout % 2 ^ 24 ≠ 0 then c.timeout % 2 ^ 24 * (if c.timeout.testBit 24 then 1000 else 1)
  else s.get R.CHE_DEF_TIMEOUT_value * (if s.on R.CHE_DEF_TIMEOUT_scale then 1000 else 1)

/-- The time-out of an operation that started at a time with a first CCW has expired. -/
def State.expired (s : State) (since : Nat) (c : Ccw) : Bool :=
  c.opcode != ocNop && c.opcode != ocMark && c.opcode != ocAppend && since + s.timeoutOf c ≤ s.now

/-- CCW_TIMEOUT: the time-out of a program's operation has expired, or that of one which is to start again (R648, R657). -/
def State.opTimeout (s : State) (tag : Nat) : State :=
  match s.op tag with
  | none =>
    match (s.prog tag).bind (·.again) with
    | some (t, c) => if s.expired t c then s.endProg tag stTimeout 0 else s
    | none => s
  | some o => if o.ended.isSome || !s.expired o.since o.first then s else s.endProg tag stTimeout 0

/-! ### Host data (R238) -/

/-- The host range of the byte at an offset of the areas, as far as it runs on. -/
def skipArea : List (Nat × Nat) → Nat → Option (Nat × Nat)
  | [], _ => none
  | (a, l) :: r, k => if k < l then some (a + k, l - k) else skipArea r (k - l)

def rangeAt : List Seg → Nat → Option (Nat × Nat)
  | [], _ => none
  | g :: r, k =>
    if g.room ≤ k then rangeAt r (k - g.room) else (skipArea g.area k).map fun x => (x.1, min x.2 (g.room - k))

/-- More of a program's data read from host memory: one read at a time, in bursts of up to 512 bytes (R340), each
started within the issue duty (R576). An area that ends before the count ends the operation with LENGTH (R302). -/
def State.wantData (s : State) (tag : Nat) : State :=
  match s.prog tag, s.op tag with
  | some p, some o =>
    if o.awaiting || o.room ≤ o.got || o.ended.isSome then s
    else match rangeAt o.segs o.got with
      | some (addr, n) =>
        if !s.dutyOpen then s
        else (s.setOp tag { o with awaiting := true }).hostRead p.fn addr (min n 512) (.data tag)
      | none => if o.tablePending then s.pumpTable tag else s.endOp tag stLength 0
  | _, _ => s

/-- A data read has ended with n bytes, or failed (R238). -/
def State.dataArrives (s : State) (tag n : Nat) (data : Option (List Byte)) (pois : Bool) : State :=
  match data with
  | none => (s.updOp tag fun o => { o with awaiting := false }).endOp tag stHostReadError 0
  | some bs => s.updOp tag fun o =>
      { o with awaiting := false, buf := o.buf ++ (fit n bs).map (·, pois), got := o.got + n,
               poisoned := o.poisoned || pois }

/-- An operation that is live, with its program's sub-engine at rest, as an event of the engine finds it. -/
def State.liveOp (s : State) (a : Nat) : Option Op :=
  match s.op a with
  | none => none
  | some o => if o.ended.isSome || !s.running || (a < 2048 && s.moving (a / 64)) then none else some o

/-- A live operation whose first CCW has an opcode. -/
def State.liveWith (s : State) (a opcode : Nat) : Option Op :=
  match s.liveOp a with
  | some o => if o.first.opcode = opcode then some o else none
  | none => none

/-! ### CONTROL, SENSE, WAIT_EVENT, MARK -/

/-- CONTROL: its function is issued to the port (R331). -/
def State.control (s : State) (a : Nat) : State :=
  match s.liveWith a ocControl with
  | none => s
  | some o => if s.opFar a o then s.farStart a else s.setOp a { o with begun := true, handedLast := true }

/-- 32 bytes that no rule states: the status block of a GPIO pin or an LXB chip select is a free value. -/
def State.freeBlock (s : State) : State × List Byte :=
  let r := (List.range 4).foldl (fun (t : State × List Byte) _ =>
    let d := t.1.drawFree
    (d.1, t.2 ++ leBytes 8 d.2)) (s, [])
  r

/-- The status block of a port (R408, R479). -/
def State.senseBlock (s : State) (cls idx : Nat) : State × List Byte :=
  if cls = clsCan then (s, s.canSense idx)
  else if cls = clsLin then (s, s.linSense idx)
  else if cls = clsSent then (s, s.sentSense idx)
  else if cls = clsSer then (s, s.serSense idx)
  else if cls = clsCard then (s, s.cardSense idx)
  else if cls = clsEth then (s, s.ethSense idx)
  else s.freeBlock

/-- The areas of an operation can take the next n bytes, as far as they have room: for a far slot always. -/
def Op.areaReady (o : Op) (a n : Nat) : Bool :=
  2048 ≤ a || o.first.skp || min n o.room ≤ segsAvail o.segs

/-- An operation whose areas do not hold the next bytes: a table is read, or the chain has ended before the count
(R302). -/
def State.areaShort (s : State) (a : Nat) (o : Op) : State :=
  if o.tablePending then s.pumpTable a else s.endOp a stLength 0

/-- A local program's host writes are held, so that it takes nothing from a port (R241). -/
def State.writesHeld (s : State) (a : Nat) : Bool :=
  match s.prog a with
  | some p => a < 2048 && !s.busMaster p.fn
  | none => false

/-- SENSE: the status block is written (R408). -/
def State.sense (s : State) (a : Nat) : State :=
  match s.liveWith a ocSense with
  | none => s
  | some o =>
    if s.opFar a o then s.farStart a
    else if !o.chainRead || s.writesHeld a then s
    else if !o.areaReady a 32 then s.areaShort a o
    else
      let r := s.senseBlock o.first.cls (devIndex o.first.dev)
      (r.1.deliver a (r.2.take o.room) false).endOp a stSuccess 0

/-- WAIT_EVENT: the operation begins to wait; an event that is a standing condition ends it at once (R332). -/
def State.waitEvent (s : State) (a : Nat) : State :=
  match s.liveWith a ocWait with
  | none => s
  | some o =>
    if s.opFar a o then s.farStart a
    else
      let idx := devIndex o.first.dev
      if o.first.func = 0x01 && s.pendingFor o.first.cls idx o.first.sub then s.endOp a stSuccess 0
      else if o.first.func = 0x0A && s.lxbIrqs.testBit (o.first.param % 4) then s.endOp a stSuccess 0
      else s

/-- The timer of an ENGINE WAIT_EVENT has reached its param (R332). -/
def State.timerExpiry (s : State) (a : Nat) : State :=
  match s.liveWith a ocWait with
  | some o => if o.first.func = 0x0F then s.endOp a stSuccess 0 else s
  | none => s

/-- MARK: its entry is pushed, and the operation ends when the entry is written, or at once when it is not pushed
(R358). -/
def State.mark (s : State) (tag : Nat) : State :=
  match s.liveWith tag ocMark, s.prog tag with
  | some o, some p =>
    if o.begun then s
    else
      let r := (s.setOp tag { o with begun := true }).tracePush .mark
        { type := 0x30, mid := 3, tag := some tag, sq := p.sq, arg0 := o.first.param, arg1 := o.firstAddr }
      if r.2 then r.1 else r.1.endOp tag stSuccess 0
  | _, _ => s

/-! ### The commands -/

/-- CCW_START (R337). -/
def execCcwStart (tag : Fin 2048) (s : State) : Host.Outcome State Fault Refusal :=
  .next (settle (s.ccwTurn tag).reready)

/-- JUMP (R345). -/
def execJump (tag : Fin 2048) (s : State) : Host.Outcome State Fault Refusal := .next (settle (s.jump tag).reready)

/-- RESUME_DOORBELL (R312). Bits 12:11 of the value are ignored (R325). -/
def execResumeDoorbell (n : Fin 256) (mid : BitVec 4) (tag : BitVec 11) (s : State) :
    Host.Outcome State Fault Refusal :=
  .next (settle (s.whenUp fun s => (s.resumeDoorbell n mid.toNat tag.toNat).reready))

/-- DEVICE_OPERATION_END (R337). -/
def execDeviceOperationEnd (a : Fin 2560) (s : State) : Host.Outcome State Fault Refusal :=
  .next (settle (s.opEnd a).reready)

/-- CCW_TIMEOUT (R347). -/
def execCcwTimeout (tag : Fin 2048) (s : State) : Host.Outcome State Fault Refusal := .next (settle (s.opTimeout tag))

/-- CONTROL (R331). -/
def execControl (a : Fin 2560) (s : State) : Host.Outcome State Fault Refusal := .next (settle (s.control a))

/-- SENSE (R408). -/
def execSense (a : Fin 2560) (s : State) : Host.Outcome State Fault Refusal := .next (settle (s.sense a))

/-- WAIT_EVENT (R332). -/
def execWaitEvent (a : Fin 2560) (s : State) : Host.Outcome State Fault Refusal := .next (settle (s.waitEvent a))

/-- ENGINE_TIMER_EXPIRY (R332). -/
def execEngineTimerExpiry (tag : Fin 2048) (s : State) : Host.Outcome State Fault Refusal :=
  .next (settle (s.timerExpiry tag))

/-- MARK (R358). -/
def execMark (tag : Fin 2048) (s : State) : Host.Outcome State Fault Refusal := .next (settle (s.mark tag))

end Sys2Proof.Machine
end

