-- ==== Sys2Proof/Machine/Pins.lean ====
section
/-!
DEFINITION. The pin multiplexer: which function a land carries, switching with a park interval, refusals, the lock, and
what resets and power states do to the lands (R67–R90).
-/

namespace Sys2Proof.Machine

/-- Whether the function runs in the present power state (R80, R98). TIM functions are stopped only in KEEP and OFF
(R483). -/
def State.fnRuns (s : State) (f : PinFn) : Bool :=
  match f.cls with
  | .can => !s.portStopped clsCan f.idx
  | .lin => !s.portStopped clsLin f.idx
  | .sent => !s.portStopped clsSent f.idx
  | .ser => !s.portStopped clsSer f.idx
  | .card => !s.portStopped clsCard f.idx
  | .lxb => !s.portStopped clsLxb 0
  | .gpio => !s.portStopped clsGpio 0
  | .tim => s.running

/-- A function is attached to, or being attached to, or held for another land than n (R88). -/
def State.fnTaken (s : State) (n : Nat) (f : PinFn) : Bool :=
  (List.range 192).any fun m => m != n && landFn m (s.get (R.PIN_CFG_sel m)) == some f

/-- A PIN_STATUS cause set for land n: 0 conflict, 1 bad_sel, 2 locked_write (R87–R89). -/
def State.pinRaise (s : State) (n bit : Nat) : State :=
  (s.raise R.PIN_STATUS_cause bit (R.PIN_CNT_count bit)).put R.PIN_STATUS_last_land n

/-! ### Levels (R70, R73, R76, R79, R82) -/

/-- The keeper's level at a cold-reset release: that of the reset pull (R76). -/
def coldPark (n : Nat) : Nat := if pinPullCold n = 1 then 3 else 2

/-- The module has no supply: no land is driven and no pull or keeper is active (R82). -/
def State.unpowered (s : State) : Bool := s.sup.feed == .off

/-- A cold reset is asserted: multiplexed lands are at high impedance with their reset pull on (R76). -/
def State.coldHeld (s : State) : Bool :=
  s.coldBoot && (s.phase == .asserted || s.phase == .noClock || (s.phase == .held && s.sup.feed == .fed))

/-- The land's pull is on: while the land carries an input or a bidirectional function, and while a cold reset is
asserted (R70). LXB_AD, CARDm_IO and GPIO are bidirectional. -/
def State.pullOn (s : State) (n : Nat) : Bool :=
  !s.unpowered && (s.coldHeld || (!s.tapDrives && match landFn n (s.get (R.PIN_CFG_attached n)) with
    | some ⟨.can, _, sig⟩ => sig == 1
    | some ⟨.lin, _, sig⟩ => sig == 1
    | some ⟨.sent, _, _⟩ => true
    | some ⟨.ser, _, sig⟩ => sig == 1 || sig == 3
    | some ⟨.card, _, sig⟩ => sig == 0 || sig == 3
    | some ⟨.lxb, _, sig⟩ => sig < 16 || sig == 24 || 26 ≤ sig
    | some ⟨.tim, _, sig⟩ => 2 ≤ sig
    | some ⟨.gpio, _, _⟩ => true
    | none => false))

/-- The level of the line of an attached function between frames and accesses: what the unit drives, or what an input
sees. CARDm_VCCEN and CARDm_RST follow the activation of the card (R440), and CARDm_CLK counts as low, its level between
two of its edges not being followed. DESIGN CHOICE, log entry 90: an idle bus, a released line and the LXB data lines
between accesses have the idle levels of R69. -/
def State.fnLevel (s : State) (f : PinFn) : Bool :=
  match f.cls with
  | .can => if f.sig = 2 then s.canStb f.idx else true
  | .lin => if f.sig = 2 then s.on (R.LIN_CFG_en f.idx) else f.sig == 1 || (s.lin f.idx).waking.isNone
  | .sent => true
  | .ser =>
    let x := s.bp clsSer f.idx
    if f.sig = 0 then x.breaking.isNone && x.fastInit.isNone
    else if f.sig = 1 then x.line else if f.sig = 2 then s.rtsN f.idx else x.ctsN
  | .card =>
    let st := s.get (R.CARD_STATUS_state f.idx)
    if f.sig = 0 then 2 ≤ st else if f.sig = 1 then false else if f.sig = 2 then st == 3
    else if f.sig = 3 then s.presIn.testBit f.idx else 2 ≤ st
  | .lxb =>
    if f.sig < 16 then false else if f.sig < 20 then true
    else if f.sig = 21 || f.sig = 20 then false
    else if f.sig < 25 then true
    else if f.sig = 25 then s.lxbLock.isSome && s.lxbOut
    else s.lxbIrq.testBit (f.sig - 26)
  | .tim => if f.sig < 2 then false else s.capIn.testBit (f.sig - 2)
  | .gpio => s.gpioIn.testBit f.idx

/-- The level of land MXn, where the manual fixes one: none on a land that nothing drives, pulls or keeps, and on one
that the boundary register drives, whose cell order the manual leaves to the boundary description (R671). -/
def State.landLevel (s : State) (n : Nat) : Option Bool :=
  if s.unpowered then none
  else if s.coldHeld then some (pinPullCold n == 1)
  else if s.tapDrives then none
  else match landFn n (s.get (R.PIN_CFG_attached n)) with
    | some f => some (s.fnLevel f)
    | none => some ((tget s.pinParked n).getD (coldPark n) % 2 == 1)

/-- PIN_INk: the level sampled on each of the 32 lands from MX(32k), whatever its function (R91). A level that the manual
does not fix is a free value. -/
def State.pinIn (s : State) (k : Nat) : Nat :=
  ((List.range 32).map fun j => b2n ((s.landLevel (32 * k + j)).getD (Config.landFloat (32 * k + j))) * 2 ^ j).sum

/-- The land takes the park level of its PIN_CFGn: it drives low or high, or its keeper holds the level that the land had
(R70). -/
def State.parkNow (s : State) (n : Nat) : State :=
  let park := s.get (R.PIN_CFG_park n)
  let code := if park < 2 then park else if (s.landLevel n).getD (Config.landFloat n) then 3 else 2
  { s with pinParked := tput s.pinParked n code (coldPark n) }

/-- The level that a GPIO input of land n sees has changed, by attaching or releasing it: its WAIT_EVENTs end as at any
edge (R69, R332). -/
def State.gpioSeen (s : State) (pin : Nat) (old : Bool) : State :=
  let new := s.gpioLevel pin
  if new = old then s
  else (s.portEvent clsGpio 0 (if new then 0x07 else 0x08) (· == pin)).portEvent clsGpio 0 0x09 (· == pin)

/-- The old function released and the land parked, busy until the interval ends (R71). A land that is already busy keeps
the park level latched when its switch began (R86). -/
def State.pinSwitch (s : State) (n sel : Nat) : State :=
  let seen := s.gpioLevel (n % 48)
  let s := if s.on (R.PIN_CFG_busy n) then s else s.parkNow n
  (((s.put (R.PIN_CFG_sel n) sel).put (R.PIN_CFG_attached n) 0).put (R.PIN_CFG_busy n) 1).gpioSeen (n % 48) seen

/-- A new park field takes effect at once on a land that is parked and not busy (R74). -/
def State.pinParkField (s : State) (n : Nat) : State :=
  if s.get (R.PIN_CFG_attached n) = 0 && !s.on (R.PIN_CFG_busy n) then s.parkNow n else s

/-- A write of PIN_CFGn by a MID (R71, R74, R87–R89). -/
def State.pinWrite (s : State) (n mid v : Nat) : State :=
  if s.on R.PIN_CTL_lock then s.pinRaise n 2
  else
    let old := s.get (R.PIN_CFG_sel n)
    let sel := bits v 0 3
    let s := s.writeOthers mid v (R.PIN_CFG_sel n)
    if !selOk n sel then (s.pinRaise n 1).pinParkField n
    else if sel = old then s.pinParkField n
    else match landFn n sel with
      | some f => if s.fnTaken n f then (s.pinRaise n 0).pinParkField n else s.pinSwitch n sel
      | none => s.pinSwitch n sel

/-- LXB_IRQn is high: WAIT_EVENTs 0x0A for it end (R332). -/
def State.lxbIrqHigh (s : State) (n : Nat) : State :=
  s.endOps ((List.range 4).flatMap fun i => s.agentsWith clsLxb i fun c =>
    c.opcode == ocWait && c.func == 0x0A && c.param % 4 == n) stSuccess 0

/-- A function attached to land n: its input sees the level of the land from now on. A GPIO pin then drives its output
level onto the land (log entry 91). -/
def State.pinAttach (s : State) (n sel : Nat) : State :=
  let s := s.put (R.PIN_CFG_attached n) sel
  if sel = 3 then
    { s with gpioIn := putBit s.gpioIn (n % 48) (s.gpioOut.testBit (n % 48)) }.gpioSeen (n % 48) false
  else match landFn n sel with
    | some ⟨.ser, m, 3⟩ => s.ctsSeen m
    | some ⟨.lxb, _, sig⟩ => if 26 ≤ sig && s.lxbIrq.testBit (sig - 26) then s.lxbIrqHigh (sig - 26) else s
    | _ => s

/-- The park interval of land n ends: the function is attached, unless the power state stops it (R71, R80). -/
def State.pinSettled (s : State) (n : Nat) : State :=
  if !s.on (R.PIN_CFG_busy n) then s
  else
    let sel := s.get (R.PIN_CFG_sel n)
    let s := s.put (R.PIN_CFG_busy n) 0
    match landFn n sel with
    | some f => if s.fnRuns f then s.pinAttach n sel else s
    | none => s

/-- A write of PIN_CTL by a MID (R12, R90). -/
def State.pinCtlWrite (s : State) (mid v : Nat) : State := s.writeFlds mid v [R.PIN_CTL_lock]

/-! ### Power states and resets (R77, R80, R81) -/

/-- Lands that carry a function that a test selects. -/
def State.landsOf (s : State) (p : PinFn → Bool) : List Nat :=
  (List.range 192).filter fun n => match landFn n (s.get (R.PIN_CFG_sel n)) with
    | some f => p f
    | none => false

/-- Functions that the present power state stops: their lands park (R80). -/
def State.pinsStop (s : State) : State :=
  (s.landsOf fun f => !s.fnRuns f).foldl (fun t n =>
    if t.get (R.PIN_CFG_attached n) = 0 then t
    else ((t.parkNow n).put (R.PIN_CFG_attached n) 0).gpioSeen (n % 48) (t.gpioLevel (n % 48))) s

/-- Functions that run again: their lands are busy for one park interval (R80). -/
def State.pinsResume (s : State) : State :=
  (s.landsOf s.fnRuns).foldl (fun t n =>
    if t.get (R.PIN_CFG_attached n) = 0 && !t.on (R.PIN_CFG_busy n) then t.put (R.PIN_CFG_busy n) 1 else t) s

/-- Every land that is attached or busy goes to its park level, and no target is attached (R77, R81). DESIGN CHOICE, log
entry 92: a land that is busy keeps the park level latched when its switch began (R86), also where PIN_CFGn.park has been
written since. -/
def State.pinsRelease (s : State) : State :=
  (List.range 192).foldl (fun t n =>
    if t.get (R.PIN_CFG_attached n) = 0 && !t.on (R.PIN_CFG_busy n) then t
    else
      let t := if t.on (R.PIN_CFG_busy n) then t else t.parkNow n
      ((t.put (R.PIN_CFG_attached n) 0).put (R.PIN_CFG_busy n) 0)) s

/-! ### GPIO inputs (R332) -/

/-- A land that carries a GPIO pin changes level, by the outside or by the unit: the WAIT_EVENTs 0x07 rising, 0x08 falling
and 0x09 either edge on the pin end. -/
def State.gpioEdge (s : State) (pin : Nat) (level : Bool) : State :=
  if s.attached ⟨.gpio, pin, 0⟩ then
    { s with gpioIn := putBit s.gpioIn pin level }.gpioSeen pin (s.gpioLevel pin)
  else s

/-- A pin of the GPIO output register written: the land that carries it takes the level (R332). -/
def State.gpioDrive (s : State) (pin : Nat) (level : Bool) : State :=
  { s with gpioOut := putBit s.gpioOut pin level }.gpioEdge pin level

/-! ### The commands -/

/-- PIN_SELECT (R71). -/
def execPinSelect (n : Fin 192) (mid : BitVec 4) (value : W32) (s : State) : Host.Outcome State Fault Refusal :=
  .next (settle (s.whenUp fun s => s.pinWrite n mid.toNat value.toNat))

/-- PIN_CONFIG_WRITE (R74): the write carries the sel that the land has. -/
def execPinConfigWrite (n : Fin 192) (mid : BitVec 4) (value : W32) (s : State) : Host.Outcome State Fault Refusal :=
  .next (settle (s.whenUp fun s => s.pinWrite n mid.toNat (value.toNat / 8 * 8 + s.get (R.PIN_CFG_sel n))))

/-- PARK_INTERVAL_END (R71). -/
def execParkIntervalEnd (n : Fin 192) (s : State) : Host.Outcome State Fault Refusal := .next (settle (s.pinSettled n))

/-- PIN_LOCK (R89, R90). -/
def execPinLock (mid : BitVec 4) (value : W32) (s : State) : Host.Outcome State Fault Refusal :=
  .next (s.whenUp fun s => s.pinCtlWrite mid.toNat value.toNat)

/-- GPIO_INPUT_EDGE (R332). -/
def execGpioInputEdge (pin : Fin 48) (level : Bool) (s : State) : Host.Outcome State Fault Refusal :=
  .next (settle (s.gpioEdge pin level))

end Sys2Proof.Machine
end

