-- ==== Sys2Proof/Machine/Transfers.lean ====
section
/-!
DEFINITION. READ and WRITE on the ports: frame records and bytes handed to transmit queues (R331, R333, R348, R385–R389,
R436), packets taken from receive queues (R337, R373, R384, R398, R435), GPIO levels, and the DATA and CREDIT flits of
far operations (R352–R356).
-/

namespace Sys2Proof.Machine

/-! ### Credits of far operations (R354, R355) -/

/-- A far agent grants write credit: up to 2,048 bytes at a time, within the count. It does so while the record that it
assembles for its port is incomplete, and DESIGN CHOICE, log entry 108, counts the bytes of that record as handed. -/
def State.grantWrite (s : State) (slot : Nat) : State :=
  match tget s.farSlots slot, s.op (farAgent slot) with
  | some fs, some o =>
    let n := min (2048 - o.credit) (o.room - o.got - o.credit)
    if n = 0 || o.ended.isSome then s
    else
      (s.setOp (farAgent slot) { o with credit := o.credit + n }).prgRsp fs.origin fs.tag fs.inst 0x83 (leBytes 4 n)
  | _, _ => s

/-- The originator of a far READ or SENSE renews receive credit, as far as its data area is known (R355). -/
def State.renewCredit (s : State) (tag : Nat) : State :=
  match s.prog tag, s.op tag with
  | some p, some o =>
    if !(s.opFar tag o && o.sent && (o.first.opcode = ocRead || o.first.opcode = ocSense)) || o.first.skp
        || o.ended.isSome || !s.busMaster p.fn then s
    else
      let n := min 2048 (segsAvail o.segs) - o.credit
      if n ≠ 0 then
        (s.setOp tag { o with credit := o.credit + n }).prgReq (devUnit o.first.dev) tag 0x04 (leBytes 4 n)
      else if o.credit = 0 && o.room ≠ 0 && segsAvail o.segs = 0 then
        if o.tablePending then s.pumpTable tag
        else (s.cancelFar p.fn (devUnit o.first.dev) tag).endOp tag stLength 0
      else s
  | _, _ => s

/-! ### WRITE: packets into a transmit queue -/

/-- The words of bytes with their poison marks, the last one LAST (R369). -/
def packetWords : Nat → List (Byte × Bool) → List (Nat × Bool)
  | 0, _ => []
  | n + 1, bs =>
    let w := (bs.take 8).map (·.1)
    let rest := bs.drop 8
    (mkWord (leVal w) (if rest.isEmpty then sbLast else sbData), (bs.take 8).any (·.2)) ::
      (if rest.isEmpty then [] else packetWords n rest)

/-- A packet of a record made ready: its words, and how many of the operation's bytes it carries. -/
def State.readyPacket (s : State) (a : Nat) (o : Op) (record : List (Byte × Bool)) (size : Nat) : State :=
  s.setOp a { o with pkt := packetWords record.length record, pktSize := size }

/-- The packet's last word has been written: it is committed, and the frame is handed (R387), for R348 only once it has
left an Ethernet port. -/
def State.handPacket (s : State) (a q cls idx : Nat) : State :=
  match s.op a with
  | none => s
  | some o =>
    let size := o.pktSize
    let s := (s.useOp a ((o.buf.take size).map (·.1))).1
    let s := s.updOp a fun o =>
      let o := { o with buf := o.buf.drop size, got := o.got - size, pktSize := 0, inPort := o.inPort + 1,
                        frames := if recordClass cls then o.frames + 1 else o.frames }
      { o with handedLast := o.allQueued && cls != clsEth }
    (((s.qCommit q (o.token a)).qRelease q).portKick cls idx)

/-- Words of the ready packet written while the agent holds the claim and credits (R385, R386). -/
def State.pushPacket (s : State) (a cls idx : Nat) : State :=
  match s.op a with
  | none => s
  | some o =>
    let q := txQueue cls idx o.first.sub
    let s := s.qClaim q a
    if (s.wq q).claim != some a then s
    else
      let n := o.pkt.length
      let w := (s.wq q).w
      let r := s.qPushCredit q o.pkt
      let s := (r.1.qUpset q w (o.errs.filter fun e => e.word < n - r.2.length)).updOp a fun o =>
        { o with pkt := r.2, errs := [], begun := o.begun || r.2.length < n }
      if r.2.isEmpty then s.handPacket a q cls idx else s

/-- Whether a record of a class obeys R333 and its port's limits. -/
def State.recOk (s : State) (cls idx : Nat) (bs : List Byte) : Bool :=
  if cls = clsCan then s.canRecOk idx bs
  else if cls = clsLin then linRecOk bs
  else s.ethRecOk idx bs

/-- More write data: read by a local program, or awaited from the originator within new credit. -/
def State.moreData (s : State) (a : Nat) : State :=
  if a < 2048 then s.wantData a else s.grantWrite (a - 2048)

/-- A WRITE of frame records goes on: a packet under way, the next record, or its end (R331, R360). -/
def State.writeRecords (s : State) (a : Nat) (o : Op) (cls idx : Nat) : State :=
  if !o.pkt.isEmpty then s.pushPacket a cls idx
  else if cls = clsCan && s.canQuiet idx && !o.buf.isEmpty then s.endOp a stDeviceError 0x13
  else
    let hdr := (o.buf.take 16).map (·.1)
    let size := recSize cls hdr
    if 16 ≤ o.buf.length && size ≤ o.buf.length then
      if s.recOk cls idx ((o.buf.take size).map (·.1)) then
        (s.readyPacket a o (o.buf.take size) size).pushPacket a cls idx
      else s.endOp a stDeviceError 0x01
    else if !o.allRead then s.moreData a
    else if !o.buf.isEmpty then s.endOp a stDeviceError 0x01
    else if o.inPort = 0 then s.endOp a stSuccess 0
    else s.setOp a { o with handedLast := cls != clsEth }

/-- A WRITE of raw bytes goes on: packets of up to 2,048 bytes with a record header (R436). -/
def State.writeBytes (s : State) (a : Nat) (o : Op) (cls idx : Nat) : State :=
  if !o.pkt.isEmpty then s.pushPacket a cls idx
  else if cls = clsCard && s.get (R.CARD_STATUS_state idx) ≠ 3 then s.endOp a stDeviceError 0x44
  else if o.buf.length < 2048 && !o.allRead then s.moreData a
  else if o.buf.isEmpty then
    if o.inPort = 0 then s.endOp a stSuccess 0 else s.setOp a { o with handedLast := true }
  else
    let n := min 2048 o.buf.length
    let d := o.buf.take n
    let hdr := (mkRecord n 0 0 0 0 0 0 []).map (·, false)
    (s.readyPacket a o (hdr ++ d ++ (zeros ((n + 7) / 8 * 8 - n)).map (·, false)) n).pushPacket a cls idx

/-- A WRITE to a GPIO pin: bit 0 of its byte is the level. A poisoned byte is not driven (R44). -/
def State.writeGpio (s : State) (a : Nat) (o : Op) : State :=
  match o.buf with
  | [] => if o.allRead then s.endOp a stSuccess 0 else s.moreData a
  | (b, pois) :: rest =>
    let s := (s.useOp a [b]).1
    let s := s.updOp a fun o => { o with buf := rest, got := o.got - 1, begun := true }
    let s := if pois then s else s.gpioDrive o.first.sub (b.toNat.testBit 0)
    s.endOp a stSuccess 0

/-- Operations of far slots hand their frames in the order in which their STARTs came (R354). -/
def State.farTurn (s : State) (a : Nat) (o : Op) : Bool :=
  a < 2048 || !s.ops.any fun e =>
    2048 ≤ e.1 && e.2.ended.isNone && e.2.serial < o.serial && !e.2.handedLast && !e.2.allQueued
      && e.2.first.transmits && s.samePort e.2.first.dev o.first.dev

/-- A far WRITE of a program goes on: START, data read, and DATA within the write credit held (R355). -/
def State.writeFar (s : State) (tag : Nat) (o : Op) : State :=
  match s.prog tag with
  | none => s
  | some p =>
    let unit := devUnit o.first.dev
    if !o.sent then s.farStart tag
    else if !s.busMaster p.fn then s
    else if (s.routeTo unit).isNone then s.endOp tag stFarGone 0
    else if o.buf.isEmpty then
      if o.allRead then s.setOp tag { o with handedLast := o.first.cls != clsEth } else s.wantData tag
    else
      let d := uniform (min 44 o.credit) o.buf
      if d.isEmpty then s
      else
        let rest := o.buf.drop d.length
        (s.setOp tag { o with buf := rest, credit := o.credit - d.length, begun := true,
                              handedLast := rest.isEmpty && o.allRead && o.first.cls != clsEth }).prgReq unit tag 0x02
          (d.map (·.1)) (d.any (·.2))

/-- A WRITE on a port goes on. -/
def State.writePort (s : State) (a : Nat) (o : Op) : State :=
  let cls := o.first.cls
  let idx := devIndex o.first.dev
  if s.opFar a o then s.writeFar a o
  else if !s.farTurn a o then s
  else if !(txQueues cls idx).isEmpty && !s.qOn (txQueue cls idx o.first.sub) then
    (s.withdraw a).endOp a stBadDevice 0x03
  else if cls = clsGpio then s.writeGpio a o
  else if recordClass cls then s.writeRecords a o cls idx
  else s.writeBytes a o cls idx

/-! ### READ: packets from receive queues -/

/-- An earlier READ with the same sub-address takes the port's packets (R359). -/
def State.readTurn (s : State) (o : Op) : Bool :=
  !s.ops.any fun e =>
    e.2.ended.isNone && !s.opFar e.1 e.2 && e.2.first.opcode == ocRead && e.2.serial < o.serial
      && s.samePort e.2.first.dev o.first.dev && e.2.first.sub == o.first.sub

/-- A taken record with its rstat: gap, poison, and a cut where LAST and the header disagree, which only a poisoned
word can cause (R333, R384, R398). -/
def fixRecord (cls : Nat) (t : Taken) : List Byte × Bool :=
  let hdr := t.bytes.take 16
  let want := recSize cls hdr
  let cut := want != t.bytes.length
  let n := min want t.bytes.length
  let len := if cut then min (recLen hdr) (t.bytes.length - 16) else recLen hdr
  let st := recRstat hdr ||| (b2n t.gap + 2 * b2n (t.poisoned || cut) + 4 * b2n cut)
  (leBytes 2 len ++ leBytes 1 st ++ (t.bytes.take n).drop 3, cut)

/-- A record cut to the room that is left, marked truncated (R337). -/
def cutRecord (room : Nat) (bs : List Byte) : List Byte :=
  (bs.take 2 ++ leBytes 1 (recRstat bs ||| 4) ++ bs.drop 3).take room

/-- The operation has its frames: func frames, or one assembled J1939 message (R332). -/
def Op.framesDone (o : Op) (record : List Byte) : Bool :=
  if o.first.func = 0x80 then bits (recKind record) 0 3 == 3 else o.first.func ≤ o.frames

/-- The data area is used up, and no CCW of the chain can add to it (R337, R339). -/
def Op.full (o : Op) : Bool := o.room == 0 && o.chainRead

/-- A frame record taken for an operation. -/
def State.takeFrame (s : State) (a : Nat) (o : Op) (cls : Nat) (t : Taken) : State :=
  let f := fixRecord cls t
  let fits := f.1.length ≤ o.room
  let out := if fits then f.1 else cutRecord o.room f.1
  let s := s.updOp a fun o =>
    { o with frames := o.frames + 1, begun := true, gap := o.gap || t.gap, poisoned := o.poisoned || t.poisoned || f.2,
             truncated := o.truncated || !fits || f.2 }
  let s := s.deliver a out (t.poisoned || f.2)
  match s.op a with
  | none => s
  | some o' => if o'.full || o'.framesDone f.1 then s.endOp a stSuccess 0 else s

/-- A queue that the READ needs has gone out of use (R718), or the port does not run and holds nothing for it
(R360, R406). -/
def State.readDry (s : State) (a : Nat) (o : Op) (cls idx : Nat) : State :=
  match s.portFault cls idx with
  | some f => s.endOp a f.1 f.2
  | none => if (s.rxFor cls idx o.first.sub).any s.qOn then s else s.endOp a stBadDevice 0x03

/-- A READ of frame records goes on: the next packet that its sub-address names is taken (R373). -/
def State.readRecords (s : State) (a : Nat) (o : Op) (cls idx : Nat) (errs : List WordErr) : State :=
  match s.nextQueue cls idx o.first.sub with
  | none => s.readDry a o cls idx
  | some q =>
    let size := ((s.qPeek q).getD []).length
    if o.full then s.endOp a stSuccess 0
    else if !o.chainRead && o.room < size then s
    else if !o.areaReady a size then s.areaShort a o
    else
      let r := s.qTake q errs
      r.1.takeFrame a o cls r.2

/-- The error detail of a chunk with an error flag, or none (R435). -/
def State.chunkFault (s : State) (cls idx rstat : Nat) : Option Nat :=
  if cls = clsCard then if rstat.testBit 5 then some 0x42 else none
  else if s.on (R.SER_CFG_err_pass idx) then none
  else if rstat.testBit 4 then some 0x30
  else if rstat.testBit 5 then some 0x31
  else if rstat.testBit 6 then some 0x32
  else none

/-- The chunk that a READ stands in: the rest of one begun, or the next packet of the queue (R435). -/
def State.nextChunk (s : State) (a cls idx : Nat) (errs : List WordErr) : Option (State × List Byte × Nat × Bool) :=
  match s.restOf cls idx with
  | some r => some (s, r.1, r.2, false)
  | none =>
    let q := rxQueue cls idx 0
    if !s.qOn q || (s.qPeek q).isNone then none
    else
      let r := s.qTake q errs
      let f := fixRecord cls r.2
      let st := r.1.updOp a fun o => { o with gap := o.gap || r.2.gap, truncated := o.truncated || f.2 }
      some (st, (recData f.1).take (recLen f.1), recRstat f.1, r.2.poisoned || f.2)

/-- A READ of raw bytes goes on with one chunk; what its count leaves stays for the next READ. -/
def State.readBytes (s : State) (a : Nat) (o : Op) (cls idx : Nat) (errs : List WordErr) : State :=
  if cls = clsCard && s.get (R.CARD_STATUS_state idx) ≠ 3 && (s.restOf cls idx).isNone && s.rxEmpty cls idx then
    s.endOp a stDeviceError 0x44
  else if o.full then s.endOp a stSuccess 0
  else if o.room = 0 then s
  else if !o.areaReady a 2048 && segsAvail o.segs = 0 then s.areaShort a o
  else match s.nextChunk a cls idx errs with
    | none => if o.event then s.endOp a stSuccess 0 else s.readDry a o cls idx
    | some (s, bs, rstat, pois) =>
      let n := min bs.length (if a < 2048 && !o.first.skp then segsAvail o.segs else o.room)
      let rest := bs.drop n
      let x := s.bp cls idx
      let s := s.setBp cls idx { x with rest := if rest.isEmpty then none else some (rest, rstat) }
      let s := (s.updOp a fun o => { o with begun := true }).deliver a (bs.take n) pois
      let full := match s.op a with
        | some o' => o'.full
        | none => false
      if rest.isEmpty then
        match s.chunkFault cls idx rstat with
        | some d => s.endOp a stDeviceError d
        | none => if full then s.endOp a stSuccess 0 else s
      else if full then s.endOp a stSuccess 0
      else s

/-- A READ of a GPIO pin: its level in bit 0. -/
def State.readGpio (s : State) (a : Nat) (o : Op) : State :=
  if !o.areaReady a 1 then s.areaShort a o
  else
    let s := s.updOp a fun o => { o with begun := true }
    (s.deliver a [BitVec.ofNat 8 (b2n (s.gpioLevel o.first.sub))] false).endOp a stSuccess 0

/-- A READ on a port goes on, a program's within the issue duty (R576). A far slot takes a packet once what it took before
has been sent. -/
def State.readPort (s : State) (a : Nat) (o : Op) (errs : List WordErr) : State :=
  let cls := o.first.cls
  let idx := devIndex o.first.dev
  let waiting := match tget s.farSlots (a - 2048) with
    | some fs => 2048 ≤ a && !fs.out.isEmpty
    | none => false
  if s.opFar a o then if o.sent then s.renewCredit a else s.farStart a
  else if s.writesHeld a || waiting || !s.readTurn o || (a < 2048 && !s.dutyOpen) then s
  else if cls = clsGpio then s.readGpio a o
  else if cls = clsSer || cls = clsCard then s.readBytes a o cls idx errs
  else s.readRecords a o cls idx errs

/-! ### The far agent (R352–R356) -/

/-- The far slot that serves an originator's tag and instance. -/
def State.slotOf (s : State) (src tag inst : Nat) : Option Nat :=
  (s.farSlots.find? fun e => e.2.origin == src && e.2.tag == tag && e.2.inst == inst).map (·.1)

/-- The tag and instance of a PRG payload. -/
def prgTag (pl : List Byte) : Nat := fieldAt pl 0 2 % 2048
def prgInst (pl : List Byte) : Nat := fieldAt pl 2 1

/-- A START received: a free far slot taken and the operation begun, or RETRY (R354). -/
def State.farBegin (s : State) (src : Nat) (pl : List Byte) : State :=
  let tag := prgTag pl
  let inst := prgInst pl
  if s.inReset then s.noRoute src 0x20 1 pl
  else match (List.range 512).find? (fun k => (tget s.farSlots k).isNone) with
    | none => s.prgRsp src tag inst 0x84 []
    | some k =>
      let c : Ccw := { opcode := fieldAt pl 4 1, func := fieldAt pl 5 1, flags := fieldAt pl 6 2, dev := fieldAt pl 8 4,
                       count := fieldAt pl 12 4, param := fieldAt pl 16 4 }
      let s := { s with farSlots := tset s.farSlots k
                          { origin := src, tag := tag, inst := inst, credit := fieldAt pl 20 4 } }
      let s := s.openOp (farAgent k) { first := c, segs := [{ ccw := c, room := c.count }], lastFlags := c.flags }
      let s := s.judgeStart (farAgent k) c
      if c.opcode = ocWrite then s.grantWrite k else s

/-- A CANCEL received: the operation stops without an END, and its slot is free (R356). -/
def State.farCancel (s : State) (src : Nat) (pl : List Byte) : State :=
  match s.slotOf src (prgTag pl) (prgInst pl) with
  | none => s
  | some k =>
    let s := s.stopOp (farAgent k)
    { s with ops := tdel s.ops (farAgent k), farSlots := tdel s.farSlots k }

/-- Write data of the originator (R355). -/
def State.farData (s : State) (src : Nat) (pl : List Byte) (pois : Bool) : State :=
  match s.slotOf src (prgTag pl) (prgInst pl) with
  | none => s
  | some k => s.updOp (farAgent k) fun o =>
      let d := (pl.drop 4).take o.credit
      { o with buf := o.buf ++ d.map (·, pois), got := o.got + d.length, credit := o.credit - d.length,
               poisoned := o.poisoned || pois }

/-- More receive credit for a far slot. -/
def State.farCredit (s : State) (src : Nat) (pl : List Byte) : State :=
  match s.slotOf src (prgTag pl) (prgInst pl) with
  | none => s
  | some k =>
    match tget s.farSlots k with
    | none => s
    | some fs =>
      ({ s with farSlots := tset s.farSlots k { fs with credit := fs.credit + fieldAt pl 4 4 } }).pumpSlot k

/-! ### The originator (R353, R356) -/

/-- The program whose running far operation a PRG_RSP names by tag and instance; any other is discarded. -/
def State.originOf (s : State) (pl : List Byte) : Option Nat :=
  let tag := prgTag pl
  match s.op tag with
  | some o => if o.sent && o.ended.isNone && (tget s.insts tag).getD 0 == prgInst pl then some tag else none
  | none => none

/-- Read data of a far operation, within the credit given. -/
def State.originData (s : State) (pl : List Byte) (pois : Bool) : State :=
  match s.originOf pl with
  | none => s
  | some tag =>
    match s.op tag with
    | none => s
    | some o =>
      let d := (pl.drop 4).take o.credit
      ((s.setOp tag { o with credit := o.credit - d.length }).deliver tag d pois).renewCredit tag

/-- Write credit of a far operation. -/
def State.originCredit (s : State) (pl : List Byte) : State :=
  match s.originOf pl with
  | none => s
  | some tag => s.updOp tag fun o => { o with credit := o.credit + fieldAt pl 4 4 }

/-- END of a far operation: its status, what it met, and how much of the count it used (R353). -/
def State.originEnd (s : State) (pl : List Byte) : State :=
  match s.originOf pl with
  | none => s
  | some tag =>
    match s.op tag with
    | none => s
    | some o =>
      let fl := fieldAt pl 6 1
      let used := o.room - fieldAt pl 8 3
      let s := (s.useOp tag (zeros used)).1
      (s.updOp tag fun o =>
        { o with poisoned := o.poisoned || fl.testBit 0, gap := o.gap || fl.testBit 1,
                 truncated := o.truncated || fl.testBit 4, frames := fieldAt pl 11 1, handedLast := true }).endOp
        tag (fieldAt pl 4 1) (fieldAt pl 5 1)

/-- RETRY: no far slot was free; START is sent again after 2 µs (R354, R362). -/
def State.originRetry (s : State) (pl : List Byte) : State :=
  match s.originOf pl with
  | none => s
  | some tag =>
    (s.updOp tag fun o => { o with sent := false, busy := true }).raise R.CHE_EVT_cause 4 (R.CHE_EVT_CNT_count 4)

/-- START sent again (R354). -/
def State.resendStart (s : State) (tag : Nat) : State :=
  match s.op tag with
  | some o =>
    if o.busy && !o.sent && o.ended.isNone then (s.setOp tag { o with busy := false }).farStart tag else s
  | none => s

/-! ### The commands -/

/-- A PRG flit accepted on port p and taken by the unit. -/
def State.prgFlit (s : State) (p : Nat) (c : FClass) (f : FlitIn) (g : State → State) : State :=
  if s.arrives p f then g (s.accept p c f) else s

/-- START (R354). -/
def execStart (p : Fin 2) (f : FlitIn) (s : State) : Host.Outcome State Fault Refusal :=
  .next (settle (s.prgFlit p .req f fun t => t.farBegin f.src.toNat f.payload))

/-- PRG_DATA (R355): of an originator, or of a far agent when `rsp`. -/
def execPrgData (p : Fin 2) (rsp : Bool) (f : FlitIn) (s : State) : Host.Outcome State Fault Refusal :=
  .next (settle (s.prgFlit p (if rsp then .rsp else .req) f fun t =>
    if rsp then t.originData f.payload f.poisoned else t.farData f.src.toNat f.payload f.poisoned))

/-- CANCEL (R356). -/
def execCancel (p : Fin 2) (f : FlitIn) (s : State) : Host.Outcome State Fault Refusal :=
  .next (settle (s.prgFlit p .req f fun t => t.farCancel f.src.toNat f.payload))

/-- CREDIT (R355): of an originator, or of a far agent when `rsp`. -/
def execCredit (p : Fin 2) (rsp : Bool) (f : FlitIn) (s : State) : Host.Outcome State Fault Refusal :=
  .next (settle (s.prgFlit p (if rsp then .rsp else .req) f fun t =>
    if rsp then t.originCredit f.payload else t.farCredit f.src.toNat f.payload))

/-- END (R353). -/
def execPrgEnd (p : Fin 2) (f : FlitIn) (s : State) : Host.Outcome State Fault Refusal :=
  .next (settle (s.prgFlit p .rsp f fun t => t.originEnd f.payload))

/-- RETRY (R354). -/
def execRetry (p : Fin 2) (f : FlitIn) (s : State) : Host.Outcome State Fault Refusal :=
  .next (settle (s.prgFlit p .rsp f fun t => t.originRetry f.payload))

/-- FAR_START_RESEND (R354). -/
def execFarStartResend (tag : Fin 2048) (s : State) : Host.Outcome State Fault Refusal :=
  .next (settle (s.resendStart tag))

end Sys2Proof.Machine
end

