-- ==== Sys2Proof/Machine/Ledger.lean ====
section
/-!
DEFINITION. The ledger of one unit: records, chain, seals and segments (R531–R540), appends (R542–R545, R563, R564),
shutdown and restart (R546, R547), and the release of segments (R551, R552).
-/

namespace Sys2Proof.Machine

def State.setLdg (s : State) (l : Ledger) : State := { s with ldg := l }

/-- An LDG_EVT cause set; most are also events of sources 24–27 (R569, R593). -/
def State.ldgRaise (s : State) (bit : Nat) : State :=
  let evt := R.LDG_EVT_cause
  let cnt := R.LDG_EVT_CNT_count bit
  if bit = 1 || bit = 2 then s.raiseF evt bit cnt 24 0
  else if [3, 5, 6, 12, 13].contains bit then s.raiseF evt bit cnt 25 s.ldg.pair.partner
  else if bit = 7 then s.raiseF evt bit cnt 26 0
  else if bit = 11 then s.raiseF evt bit cnt 27 0
  else s.raise evt bit cnt

/-! ### Records (R534–R539) -/

def tGenesis : Nat := 0x01
def tSeal : Nat := 0x02
def tShutdown : Nat := 0x03
def tRestart : Nat := 0x04
def tBind : Nat := 0x05
def tUnbind : Nat := 0x06
def tTakeover : Nat := 0x07
def tHandover : Nat := 0x08
def tRelease : Nat := 0x09

/-- The Device Serial Number. -/
def serial : Nat := Config.serial.toNat

/-- The ledger key K_LDG. -/
def ledgerKey : List Byte := (List.range 32).map Config.ledgerKey

/-- A record header with its check word over bytes 0x00–0x1B (R534). -/
def recHeader (seq time id type mid src length flags : Nat) : List Byte :=
  let h := leBytes 8 seq ++ leBytes 8 time ++ leBytes 4 id ++ leBytes 1 type ++ leBytes 1 mid ++ leBytes 2 src
    ++ leBytes 2 length ++ leBytes 2 flags
  h ++ leBytes 4 (crc32c h)

def ldgSeq (r : List Byte) : Nat := fieldAt r 0 8
def ldgTime (r : List Byte) : Nat := fieldAt r 8 8
def ldgType (r : List Byte) : Nat := fieldAt r 0x14 1
def ldgLength (r : List Byte) : Nat := fieldAt r 0x18 2

/-- The check word of a record header (R534). -/
def ldgHeaderOk (r : List Byte) : Bool := fieldAt r 0x1C 4 == crc32c (r.take 0x1C)

/-- C_n from C_(n−1) and record n (R537). -/
def chainNext (c r : List Byte) : List Byte := sha256 (c ++ r.take 64)

/-- The chain value after a record: a SEAL carries C_last itself, and GENESIS starts from zeros (R537, R538). -/
def chainAfter (c r : List Byte) : List Byte :=
  if ldgType r = tSeal then chainNext ((r.drop 0x50).take 32) r
  else if ldgType r = tGenesis then chainNext (zeros 32) r
  else chainNext c r

/-- A record, from its header fields, the digest as a function of header bytes 0x00–0x1B, and its body (R534). -/
def mkLedgerRec (seq time id type mid src flags : Nat) (digest : List Byte → List Byte) (body : List Byte) : List Byte :=
  let h := recHeader seq time id type mid src (64 + body.length) flags
  h ++ fit 32 (digest (h.take 0x1C)) ++ body

/-! ### Segments (R532, R538, R564) -/

def segSize : Nat := 2 ^ 20

/-- Segment indices in use: programmed in flash, or opened by a staged record or the next one. -/
def Ledger.inUse (l : Ledger) (i : Nat) : Bool :=
  (tget l.segs i).isSome || l.staged.any (fun x => x.hdr.isSome && x.seg == i) || (l.newHdr.isSome && l.openSeg == some i)

/-- Free segments, 0–64. -/
def Ledger.freeSegs (l : Ledger) : Nat := ((List.range 64).filter fun i => !l.inUse i).length

/-- A record of n bytes fits the open segment. -/
def Ledger.fits (l : Ledger) (n : Nat) : Bool := l.openSeg.isSome && l.fill + n ≤ segSize

/-- The next segment of the ring is free. -/
def Ledger.canOpen (l : Ledger) : Bool := !l.inUse ((l.newest + 1) % 64)

/-- The next segment opened for the current chain, its header to go to flash with its first record. -/
def Ledger.openNext (l : Ledger) (mirror : Bool) : Ledger :=
  let i := (l.newest + 1) % 64
  let h : SegHdr := { id := l.pair.id, opened := l.opened + 1, first := l.next, mirror := mirror }
  { l with openSeg := some i, fill := 64, newHdr := some h, opened := l.opened + 1, newest := i,
           pair := { l.pair with cur := l.pair.cur ++ [i] } }

/-- A record placed into the open segment and staged. -/
def Ledger.place (l : Ledger) (r : List Byte) (by_ : Option AppendBy) : Ledger :=
  let isSeal := ldgType r = tSeal
  { l with next := ldgSeq r + 1, chain := chainAfter l.chain r, fill := l.fill + r.length, newHdr := none,
           sealSeq := if isSeal then ldgSeq r else l.sealSeq, since := if isSeal then 0 else l.since + 1,
           covers := if isSeal then ldgSeq r + 1 else l.covers,
           staged := l.staged ++ [{ seg := l.openSeg.getD 0, hdr := l.newHdr, bytes := r, by_ := by_, pair := l.pair }] }

/-! ### Sequencing (R531, R537, R538, R543, R545) -/

/-- The ledger runs: PROVISIONED or FIELD (R676). -/
def State.ldgRuns (s : State) : Bool := s.nv.lifecycle == 1 || s.nv.lifecycle == 2

/-- A unit in NONE or ACTIVE sequences records (R541). -/
def State.sequences (s : State) : Bool := s.ldg.pair.role < 2

/-- Flags of a record sequenced now: WT in write-through mode (R112, R534). -/
def State.wtFlag (s : State) : Nat := s.get R.HUP_STATUS_write_through

/-- LDG_SEAL commands that wait for a SEAL are answered with its number once it commits (R561). -/
def State.sealAnswered (s : State) (seq : Nat) : State :=
  s.ldg.sealFor.foldl (fun t a => t.fwReply a rsOk (words2 seq)) (s.setLdg { s.ldg with sealFor := [] })

/-- The command whose firmware append has ended is answered. -/
def State.fwaAnswered (s : State) (status : Nat) (ws : List Nat) : State :=
  match s.ldg.fwaFor with
  | none => s
  | some a => (s.setLdg { s.ldg with fwaFor := none }).fwReply a status ws

/-- The next record sequenced into the open segment. A unit whose partner mirrors it keeps it for its
next epoch (R555). -/
def State.ldgPut (s : State) (type mid src : Nat) (digest : List Byte → List Byte) (body : List Byte)
    (by_ : Option AppendBy) : State :=
  let l := s.ldg
  let r := mkLedgerRec l.next s.now l.pair.id type mid src s.wtFlag digest body
  let l := l.place r by_
  let l := if l.feeding then { l with unsent := l.unsent ++ [r] } else l
  let s := s.setLdg l
  if type = tSeal then (s.ldgRaise 0).sealAnswered (ldgSeq r) else s

/-- The MID of hardware records. -/
def hwMid : Nat := Config.hardwareMid.toNat

/-- The body of a SEAL sequenced next (R538). -/
def Ledger.sealBody (l : Ledger) : List Byte :=
  leBytes 8 l.covers ++ leBytes 8 (l.next - 1) ++ fit 32 l.chain ++ leBytes 8 serial ++ leBytes 8 (l.next + 4096)
    ++ leBytes 2 l.pair.term ++ zeros 14

/-- A SEAL sequenced into the open segment. -/
def State.putSeal (s : State) : State :=
  let body := s.ldg.sealBody
  s.ldgPut tSeal hwMid 0 (fun h => hmac ledgerKey (h ++ body)) body none

/-- A SEAL sequenced, in a new segment where the open one is full; none while no segment is free. -/
def State.sealNow (s : State) : Option State :=
  if s.ldg.fits 144 then some s.putSeal
  else if s.ldg.canOpen then some (s.setLdg (s.ldg.openNext false)).putSeal
  else none

/-- Room for a record of n bytes: the open segment, or a new one that opens with its SEAL. -/
def State.ldgRoom (s : State) (n : Nat) : Option State :=
  if s.ldg.fits n then some s else if s.ldg.canOpen then some (s.setLdg (s.ldg.openNext false)).putSeal else none

/-- Room for a hardware record. TAKEOVER comes before its SEAL (R61), so that DESIGN CHOICE, log entry 121, it opens a new
segment itself, where R532 asks for a SEAL. -/
def State.hwRoom (s : State) (type n : Nat) : Option State :=
  if type ≠ tTakeover then s.ldgRoom n
  else if s.ldg.fits n then some s
  else if s.ldg.canOpen then some (s.setLdg (s.ldg.openNext false))
  else none

/-- A hardware record sequenced: its digest is the SHA-256 of its body (R535). -/
def State.putHw (s : State) (type : Nat) (body : List Byte) : State :=
  s.ldgPut type hwMid 0 (fun _ => sha256 body) body none

/-- Body of an append block (R542). -/
def Append.body (a : Append) : List Byte := a.bytes.drop 40

/-- An APPEND_END for a far append (R544): the tag and part number of the request, and kind 0x81. -/
def State.appendEnd (s : State) (origin tag part status seq : Nat) : State :=
  s.sendTo 0x38 origin
    (leBytes 2 tag ++ leBytes 1 part ++ leBytes 1 0x81 ++ leBytes 1 status ++ zeros 3 ++ leBytes 8 seq ++ zeros 32)

/-- What asked for an append is told that its record has committed, or is durable in write-through mode (R543). -/
def State.appended (s : State) (by_ : AppendBy) (seq : Nat) : State :=
  match by_ with
  | .program token =>
    match s.tokenAgent token with
    | none => s
    | some a =>
      match s.op a with
      | none => s
      | some o =>
        let s := (s.useOp a (zeros o.room)).1
        (s.updOp a fun o => { o with aux := some (seq % 2 ^ 32), buf := [], got := 0 }).endOp a stSuccess 0
  | .firmware =>
    (((s.put R.LDG_FWA_SEQ_seq seq).put R.LDG_FWA_CTL_status 0).put R.LDG_FWA_CTL_go 0).fwaAnswered rsOk (words2 seq)
  | .far origin tag part => s.appendEnd origin tag part 0 seq

/-- The operation of an append counts as having begun device I/O once its record has its number, which its ESW shows from
then on (R331, R335). -/
def State.appendBegun (s : State) (seq : Nat) : AppendBy → State
  | .program token =>
    match s.tokenAgent token with
    | some a => s.updOp a fun o => { o with begun := true, aux := some (seq % 2 ^ 32) }
    | none => s
  | _ => s

/-- An append sequenced. In write-through mode its end waits until the record is durable. -/
def State.putAppend (s : State) (a : Append) : State :=
  let seq := s.ldg.next
  let wt := s.wtFlag = 1
  let keep := match a.by_ with
    | .firmware => false
    | _ => wt
  let s := (s.ldgPut (fieldAt a.bytes 0 1) a.mid a.src (fun _ => (a.bytes.drop 8).take 32) a.body
    (if keep then some a.by_ else none)).appendBegun seq a.by_
  if keep then s else s.appended a.by_ seq

/-- A staged SEAL will raise the horizon once it is durable. -/
def Ledger.sealStaged (l : Ledger) : Bool := l.staged.any fun x => ldgType x.bytes == tSeal

/-- One sequencing, if one is due and may happen (R538, R543, R545): a SEAL that is due first, then what waits, in order.
A number above the horizon is given only to a SEAL that is to raise it. -/
def State.ldgOne (s : State) : Option State :=
  let l := s.ldg
  let rest (t : State) : State := t.setLdg { t.ldg with due := l.due.drop 1 }
  if 1024 ≤ l.staged.length then none
  else if l.horizon < l.next then
    match l.due with
    | [] => none
    | .seal :: _ => if l.sealStaged then none else s.sealNow.map rest
    | _ => if l.sealStaged then none else s.sealNow
  else if 64 ≤ l.since then
    match l.due with
    | .seal :: _ => s.sealNow.map rest
    | _ => s.sealNow
  else match l.due with
    | [] => none
    | .seal :: _ => s.sealNow.map rest
    | .hw type body :: _ =>
      if l.fits (64 + body.length) then some (rest (s.putHw type body)) else s.hwRoom type (64 + body.length)
    | .append a :: _ =>
      if l.fits (24 + a.bytes.length) then some (rest (s.putAppend a)) else s.ldgRoom (24 + a.bytes.length)

/-- Sequencing goes on as far as it can. -/
def State.ldgPump : Nat → State → State
  | 0, s => s
  | fuel + 1, s =>
    match s.ldgOne with
    | some t => State.ldgPump fuel t
    | none => s

/-- Everything that can be sequenced is sequenced, while the ledger has resumed and runs. -/
def State.sequence (s : State) : State :=
  if s.ldg.ready && s.ldgRuns && s.sequences then s.ldgPump (3 * s.ldg.due.length + 3) else s

/-- An item joins what waits for a number. -/
def State.ldgQueue (s : State) (i : LdgItem) : State :=
  (s.setLdg { s.ldg with due := s.ldg.due ++ [i] }).sequence

/-- A SEAL asked for (R538). A request that waits already serves both. -/
def State.ldgSealReq (s : State) : State :=
  if s.ldg.due.contains .seal then s.sequence else s.ldgQueue .seal

/-! ### Durability (R531, R543, R545) -/

/-- A record added to its segment in flash. -/
def addRecord (segs : NMap Segment) (x : Staged) : NMap Segment :=
  match tget segs x.seg, x.hdr with
  | _, some h => tset segs x.seg { hdr := h, recs := [x.bytes] }
  | some g, none => tset segs x.seg { g with recs := g.recs ++ [x.bytes] }
  | none, none => segs

/-- A segment erased: its index leaves the chains too (R533, R552). -/
def Ledger.eraseSeg (l : Ledger) (i : Nat) : Ledger :=
  let drop (p : Pair) : Pair := { p with cur := p.cur.filter (· != i), home := p.home.filter (· != i) }
  { l with segs := tdel l.segs i, pair := drop l.pair, nvPair := drop l.nvPair }

/-- Mirror segments that a mirrored RELEASE covers whole (R552). -/
def Ledger.covered (l : Ledger) (last : Nat) : List Nat :=
  l.pair.cur.filter fun i => l.openSeg != some i && match tget l.segs i with
    | some g => g.hdr.mirror && (g.recs.getLast?.map ldgSeq).getD last ≤ last
    | none => false

/-- A RELEASE has become durable: the segment that it names is erased, or the mirror segments that it covers (R552). -/
def State.releaseDone (s : State) (r : List Byte) : State :=
  match s.ldg.erase with
  | some i => (s.setLdg { s.ldg.eraseSeg i with erase := none }).ldgRaise 9
  | none =>
    if s.ldg.pair.role = 2 then
      s.setLdg ((s.ldg.covered (fieldAt r 0x48 8)).foldl Ledger.eraseSeg s.ldg)
    else s

/-- The oldest staged record becomes durable. -/
def State.durableOne (s : State) : State :=
  let l := s.ldg
  match l.staged with
  | [] => s
  | x :: rest =>
    let seq := ldgSeq x.bytes
    let s := s.setLdg { l with staged := rest, segs := addRecord l.segs x, nvPair := x.pair, durable := seq,
                               horizon := if ldgType x.bytes = tSeal then fieldAt x.bytes 0x78 8 else l.horizon }
    let s := match x.by_ with
      | some b => s.appended b seq
      | none => s
    if ldgType x.bytes = tRelease then s.releaseDone x.bytes else s

/-- The n oldest staged records become durable, in order. -/
def State.durableN : Nat → State → State
  | 0, s => s
  | n + 1, s => State.durableN n s.durableOne

/-- Every staged record becomes durable. -/
def State.ldgFlush (s : State) : State := State.durableN s.ldg.staged.length s

/-! ### Appends (R542, R563, R564) -/

/-- The type and the zero bytes of an append block, and the length of its body (R536, R542). -/
def Append.ok (a : Append) : Bool :=
  let n := a.bytes.length - 40
  let t := fieldAt a.bytes 0 1
  40 ≤ a.bytes.length && n % 16 == 0 && n ≤ 192 && zeroAt a.bytes 1 7
    && (if a.mid = 2 then 0x20 ≤ t && t ≤ 0x3F else 0x40 ≤ t)

/-- Why an append is refused, in the order of the table of R563: its detail, or 0 for a poisoned block. -/
def State.appendRefusal (s : State) (a : Append) : Option Nat :=
  if !a.ok then some 0x70
  else if s.ldg.freeSegs ≤ 1 then some 0x71
  else if !s.sequences || !s.ldgRuns then some 0x72
  else if s.ldg.closed then some 0x73
  else if a.poisoned then some 0
  else none

/-- APPEND_END.status and LDG_FWA_CTL.status of a refusal; a poisoned block has no code of its own and counts as
malformed. -/
def farStatus (d : Nat) : Nat := if d = 0x71 then 3 else if d = 0x72 then 2 else if d = 0x73 then 5 else 4
def fwaStatus (d : Nat) : Nat := if d = 0x71 then 2 else if d = 0x72 then 3 else if d = 0x73 then 4 else 1

/-- An append refused without being sequenced (R563, R564). -/
def State.appendRefused (s : State) (a : Append) (d : Nat) : State :=
  let s := (s.ldgRaise 1).put R.LDG_LAST_refusal d
  let s := if d = 0x71 then s.ldgRaise 2 else s
  match a.by_ with
  | .program token =>
    match s.tokenAgent token with
    | some t => if d = 0 then s.endOp t stPoisoned 0 else s.endOp t stDeviceError d
    | none => s
  | .firmware => ((s.put R.LDG_FWA_CTL_status (fwaStatus d)).put R.LDG_FWA_CTL_go 0).fwaAnswered rsState []
  | .far origin tag part => s.appendEnd origin tag part (farStatus d) 0

/-- The unit leaves ACTIVE: appends that have no number are refused NOT_ACTIVE (R562), a SEAL asked for is no longer due, and
hardware records wait (R564). -/
def State.refuseDue (s : State) : State :=
  let l := s.ldg
  let late := l.due.filterMap fun i => match i with
    | .append a => some a
    | _ => none
  let s := s.setLdg { l with sealFor := [], due := l.due.filter fun i => match i with
                        | .hw _ _ => true
                        | _ => false }
  let s := late.foldl (fun t a => t.appendRefused a 0x72) s
  l.sealFor.foldl (fun t a => t.fwReply a rsState []) s

/-- A complete append reaches the sequencer. -/
def State.ldgAppend (s : State) (a : Append) : State :=
  match s.appendRefusal a with
  | some d => s.appendRefused a d
  | none => s.ldgQueue (.append a)

/-- The src field of an append that began in this unit (R534): its own address, valid while it has one. -/
def State.ownSrc (s : State) : Nat := if s.assigned then s.addr + 2 ^ 15 else 0

/-- A firmware append through LDG_FWA (R542). A go while another runs is ignored. -/
def State.fwaGo (s : State) : State :=
  if s.on R.LDG_FWA_CTL_go then s
  else
    let bytes := ((List.range 58).flatMap fun w => leBytes 4 (s.get (R.LDG_FWA_DATA_word w))).take
      (s.get R.LDG_FWA_CTL_count)
    (s.put R.LDG_FWA_CTL_go 1).ldgAppend { bytes := bytes, mid := 2, src := s.ownSrc, poisoned := false, by_ := .firmware }

/-- The words of a block written to LDG_FWA_DATAw and appended, as firmware does it. -/
def State.fwRecord (s : State) (type : Nat) (body : List Byte) : State :=
  let block := leBytes 1 type ++ zeros 7 ++ sha256 body ++ body
  let s := (List.range (block.length / 4)).foldl (fun t w => t.put (R.LDG_FWA_DATA_word w) (fieldAt block (4 * w) 4)) s
  (s.put R.LDG_FWA_CTL_count block.length).fwaGo

/-- A far append: block bytes in parts of 40, in order (R544). -/
def appendParts : Nat → List Byte → List (List Byte)
  | 0, _ => []
  | n + 1, bs => if bs.isEmpty then [] else bs.take 40 :: appendParts n (bs.drop 40)

/-- The parts of a program's far append sent (R544), while the function of its queue is bus master (R351). -/
def State.sendAppend (s : State) (tag : Nat) (o : Op) : State :=
  let unit := devUnit o.first.dev
  if s.writesHeld tag then s
  else if (s.routeTo unit).isNone then s.endOp tag stFarGone 0
  else
    let parts := appendParts 6 (o.buf.map (·.1))
    let s := s.setOp tag { o with sent := true, begun := true, busy := false }
    (parts.zipIdx.foldl (fun t e =>
      t.sendTo 0x30 unit (leBytes 2 tag ++ leBytes 1 e.2 ++ leBytes 1 0x01 ++ leBytes 1 parts.length ++ zeros 3 ++ e.1)) s)

/-- LEDGER_APPEND goes on: its block is read, then handed to the ledger that dev names (R357, R542). -/
def State.ledgerAppend (s : State) (tag : Nat) : State :=
  match s.liveWith tag ocAppend with
  | none => s
  | some o =>
    if 2048 ≤ tag || o.busy || o.sent then s
    else if !o.allRead then s.wantData tag
    else if o.buf.length < o.room then s
    else if o.poisoned && s.opFar tag o then s.endOp tag stPoisoned 0
    else if s.opFar tag o then s.sendAppend tag o
    else
      (s.setOp tag { o with busy := true }).ldgAppend
        { bytes := o.buf.map (·.1), mid := 3, src := s.ownSrc, poisoned := o.poisoned, by_ := .program (o.token tag) }

/-- A part of a far append (R544): RETRY answers the last part when part 0 found no free assembly slot. -/
def State.appendPart (s : State) (f : FlitIn) : State :=
  let pl := f.payload
  let tag := fieldAt pl 0 2
  let part := fieldAt pl 2 1
  let parts := fieldAt pl 4 1
  let origin := f.src.toNat
  let key := origin * 2 ^ 16 + tag
  let l := s.ldg
  let l := if part = 0 && (l.farIn.length < 64 || (tget l.farIn key).isSome) then
      { l with farIn := tset l.farIn key { parts := parts, next := 0, bytes := [], poisoned := false } }
    else l
  match tget l.farIn key with
  | none => if part + 1 = parts then (s.setLdg l).appendEnd origin tag part 1 0 else s.setLdg l
  | some x =>
    let x := { x with next := part + 1, bytes := x.bytes ++ pl.drop 8, poisoned := x.poisoned || f.poisoned }
    if part + 1 < parts then s.setLdg { l with farIn := tset l.farIn key x }
    else
      let s := s.setLdg { l with farIn := tdel l.farIn key }
      if !l.ready then s.appendEnd origin tag part 5 0
      else s.ldgAppend { bytes := x.bytes, mid := 3, src := origin + 2 ^ 15, poisoned := x.poisoned,
                         by_ := .far origin tag part }

/-- The program whose far append an APPEND_END names. -/
def State.appendOf (s : State) (pl : List Byte) : Option (Nat × Op) :=
  let tag := fieldAt pl 0 2
  match s.op tag with
  | some o => if s.opFar tag o && o.first.opcode = ocAppend && o.sent && !o.busy && o.ended.isNone then some (tag, o)
              else none
  | none => none

/-- APPEND_END (R544). -/
def State.appendEnded (s : State) (pl : List Byte) : State :=
  match s.appendOf pl with
  | none => s
  | some (tag, o) =>
    let st := fieldAt pl 4 1
    if st = 0 then s.appended (.program (o.token tag)) (fieldAt pl 8 8)
    else if st = 1 then s.setOp tag { o with busy := true }
    else s.endOp tag stDeviceError (if st = 2 then 0x72 else if st = 3 then 0x71 else if st = 5 then 0x73 else 0x70)

/-! ### Shutdown and restart (R540, R541, R546, R547) -/

/-- SHUTDOWN with a cause, followed by a SEAL, both durable (R546). Every sequenced record becomes durable first, and
appends without a number are discarded. -/
def State.ldgShutdown (s : State) (cause : Nat) : State :=
  let s := s.ldgFlush
  let s := s.setLdg { s.ldg with due := s.ldg.due.filter fun i => match i with
                        | .append _ => false
                        | _ => true }
  if !s.ldg.ready || !s.ldgRuns || !s.sequences || s.ldg.shut then s
  else
    let body := leBytes 1 cause ++ leBytes 1 (s.get R.HUP_STATUS_state) ++ zeros 6 ++ leBytes 8 s.ldg.horizon
    let s := ((s.setLdg { s.ldg with shut := true }).ldgQueue (.hw tShutdown body)).ldgQueue .seal
    s.ldgFlush

/-- What a replay of the chain's records gives: chain value, last number, newest SEAL, records since it, next record to be
covered, and horizon. -/
structure ChainPt where
  chain : List Byte := []
  last : Option Nat := none
  sealSeq : Nat := 0
  since : Nat := 0
  covers : Nat := 0
  horizon : Nat := 4096
  /-- The newest record is SHUTDOWN, or the SEAL that follows it. -/
  clean : Bool := false
  shutLast : Bool := false
deriving DecidableEq, Repr

def ChainPt.step (x : ChainPt) (r : List Byte) : ChainPt :=
  let t := ldgType r
  let isSeal := t = tSeal
  { chain := chainAfter x.chain r, last := some (ldgSeq r),
    sealSeq := if isSeal then ldgSeq r else x.sealSeq, since := if isSeal then 0 else x.since + 1,
    covers := if isSeal then ldgSeq r + 1 else x.covers, horizon := if isSeal then fieldAt r 0x78 8 else x.horizon,
    clean := t == tShutdown || (isSeal && x.shutLast), shutLast := t == tShutdown }

/-- The durable records of the segments of a chain, in order, each header checked as it is read (R39). DESIGN CHOICE, log
entry 120: a header whose check fails ends what is read of the chain. -/
def Ledger.chainRecs (l : Ledger) (c : List Nat) : List (List Byte) :=
  (c.flatMap fun i => ((tget l.segs i).map (·.recs)).getD []).takeWhile ldgHeaderOk

/-- Bytes used of a segment in flash. -/
def Segment.used (g : Segment) : Nat := 64 + (g.recs.map List.length).sum

/-- The sequencer's state from the durable records of a chain. -/
def Ledger.resume (l : Ledger) (p : Pair) : Ledger :=
  let cur := p.cur.filter fun i => (tget l.segs i).isSome
  let x := (l.chainRecs cur).foldl ChainPt.step {}
  let openSeg := cur.getLast?
  { l with pair := { p with cur := cur, home := p.home.filter fun i => (tget l.segs i).isSome },
           next := (x.last.map (· + 1)).getD 0, durable := x.last.getD 0, chain := x.chain, sealSeq := x.sealSeq,
           since := x.since, covers := x.covers, horizon := x.horizon, openSeg := openSeg,
           fill := ((openSeg.bind fun i => tget l.segs i).map Segment.used).getD segSize }

/-- What a reset leaves of the ledger: flash, and the chain that its records give (R541, R570). -/
def Ledger.afterReset (l : Ledger) : Ledger :=
  let opened := (l.segs.map fun e => e.2.hdr.opened).foldl max 0
  let newest := ((l.segs.find? fun e => e.2.hdr.opened == opened).map (·.1)).getD 63
  let m : Ledger := { segs := l.segs, nvPair := l.nvPair, exported := l.exported, mirrorSeq := l.mirrorSeq,
                      opened := opened, newest := newest }
  m.resume l.nvPair

/-- The boot that finds no segment writes GENESIS (R540). -/
def State.genesis (s : State) : State :=
  let l := s.ldg
  let s := s.setLdg ({ l with pair := { l.pair with id := serial % 2 ^ 32 }, next := 0, covers := 0 }.openNext false)
  s.putHw tGenesis (leBytes 8 serial ++ leBytes 1 s.nv.lifecycle ++ zeros 7)

/-- RESTART, clean or with its gap declared (R547). -/
def State.restart (s : State) : State :=
  let l := s.ldg
  let x := (l.chainRecs l.pair.cur).foldl ChainPt.step {}
  let n := x.last.getD 0
  let gap := !x.clean && n < x.horizon
  let s := if gap then s.setLdg { l with next := x.horizon + 1 } else s
  let body := leBytes 1 (b2n x.clean + 2 * b2n gap) ++ leBytes 1 (s.get R.GLB_RESET_CAUSE_cause) ++ zeros 6
    ++ leBytes 8 (if gap then n + 1 else 0) ++ leBytes 8 (if gap then x.horizon else 0) ++ zeros 8
  let s := match s.ldgRoom 96 with
    | some t => t.putHw tRestart body
    | none => s.setLdg { s.ldg with due := s.ldg.due ++ [.hw tRestart body] }
  if x.clean then s else s.ldgRaise 11

/-- Flash address of a segment (R532). -/
def segAddr (i : Nat) : Nat := 0x4000000 + i * 0x100000

/-- The segments read at boot (R42, R541). -/
def State.readSegs (s : State) : State := s.ldg.segs.foldl (fun t e => (t.flashRead (segAddr e.1)).1) s

/-- The ledger resumes before firmware starts (R540, R547). -/
def State.ldgBoot (s : State) : State :=
  let s := s.readSegs
  let s := s.setLdg { s.ldg with ready := true }
  if !s.ldgRuns then s
  else if s.ldg.segs.isEmpty then s.genesis.sequence
  else if s.sequences then s.restart.sequence
  else s

/-- The time of the newest durable record that the unit sequenced itself (R139, R547). -/
def Ledger.newestTime (l : Ledger) : Option Nat :=
  (((l.chainRecs (l.nvPair.home ++ l.nvPair.cur)).filter fun r =>
    !((l.segs.find? fun e => e.2.recs.contains r).map fun e => e.2.hdr.mirror).getD false).getLast?).map ldgTime

/-! ### Export and release (R550–R552) -/

/-- The oldest retained record of the current chain. -/
def Ledger.oldest (l : Ledger) : Nat := (((l.chainRecs l.pair.cur).head?).map ldgSeq).getD 0

/-- A write of LDG_EXPORTED by MID 2 (R551). -/
def State.exportedWrite (s : State) (v : Nat) : State :=
  if s.ldg.exported ≤ v && v ≤ s.ldg.durable then s.setLdg { s.ldg with exported := v } else s

/-- The oldest retained segment. -/
def Ledger.oldestSeg (l : Ledger) : Option (Nat × Segment) :=
  l.segs.foldl (fun o e => match o with
    | some x => if x.2.hdr.opened ≤ e.2.hdr.opened then some x else some e
    | none => some e) none

/-- Why the oldest segment is not released: LDG_LAST.release_reason (R552, R570). Records of a chain that is no longer the
current one count as exported: R553 asked for their export before the binding. -/
def State.releaseReason (s : State) (i : Nat) (g : Segment) : Option Nat :=
  let l := s.ldg
  let last := (g.recs.getLast?.map ldgSeq).getD 0
  let current := l.pair.cur.contains i
  if l.openSeg = some i then some 1
  else if current && l.exported < last then some 2
  else if current && !((l.chainRecs l.pair.cur).any fun r => ldgType r == tSeal && last < ldgSeq r) then some 3
  else none

/-- A release refused. -/
def State.releaseRefused (s : State) (reason : Nat) : State := (s.put R.LDG_LAST_release_reason reason).ldgRaise 10

/-- LDG_CMD.release (R552): RELEASE is appended, and the segment erased once that is durable. A ledger that does not run
erases nothing (R676). -/
def State.ldgRelease (s : State) : State :=
  if !s.sequences || !s.ldgRuns then s.releaseRefused 4
  else match s.ldg.oldestSeg with
    | none => s.releaseRefused 1
    | some (i, g) =>
      if s.ldg.erase.isSome then s.releaseRefused 1
      else match s.releaseReason i g with
        | some n => s.releaseRefused n
        | none =>
          let body := leBytes 8 ((g.recs.head?.map ldgSeq).getD 0) ++ leBytes 8 ((g.recs.getLast?.map ldgSeq).getD 0)
          (s.setLdg { s.ldg with erase := some i }).ldgQueue (.hw tRelease body)

/-- A write of LDG_CMD (R538, R552, R570). -/
def State.ldgCmdWrite (s : State) (mid v : Nat) : State :=
  let s := if v.testBit 0 && mid < 3 && s.sequences then s.ldgSealReq else s
  if v.testBit 1 && mid < 2 then s.ldgRelease else s

/-! ### The commands -/

/-- LEDGER_APPEND (R357). -/
def execLedgerAppend (tag : Fin 2048) (s : State) : Host.Outcome State Fault Refusal :=
  .next (settle (s.ledgerAppend tag))

/-- An LDG flit accepted on port p and taken by the unit; before boot step 3 a request is answered NO_ROUTE (R215). -/
def State.ldgFlit (s : State) (p : Nat) (rsp : Bool) (f : FlitIn) (g : State → State) : State :=
  s.prgFlit p (if rsp then .rsp else .req) f fun t =>
    if !rsp && t.inReset then t.noRoute f.src.toNat 0x30 1 f.payload else g t

/-- LDG_APPEND_PART (R544). -/
def execLdgAppendPart (p : Fin 2) (f : FlitIn) (s : State) : Host.Outcome State Fault Refusal :=
  .next (settle (s.ldgFlit p false f fun t => t.appendPart f))

/-- APPEND_END (R544). -/
def execAppendEnd (p : Fin 2) (f : FlitIn) (s : State) : Host.Outcome State Fault Refusal :=
  .next (settle (s.ldgFlit p true f fun t => t.appendEnded f.payload))

/-- FAR_APPEND_RESEND (R544): 2 µs after a RETRY. -/
def execFarAppendResend (tag : Fin 2048) (s : State) : Host.Outcome State Fault Refusal :=
  .next (settle (match s.liveWith tag ocAppend with
    | some o => if o.sent && o.busy then s.sendAppend tag o else s
    | none => s))

/-- FAR_APPEND_TIMEOUT (R544). -/
def execFarAppendTimeout (tag : Fin 2048) (s : State) : Host.Outcome State Fault Refusal :=
  .next (settle (match s.liveWith tag ocAppend with
    | some o => if o.sent && !o.busy then s.endOp tag stTimeout 0 else s
    | none => s))

/-- FIRMWARE_APPEND (R542): MID 2 writes LDG_FWA_CTL.go. -/
def execFirmwareAppend (mid : BitVec 4) (s : State) : Host.Outcome State Fault Refusal :=
  .next (settle (s.whenUp fun s => if mid = 2 then s.fwaGo else s))

/-- RECORD_DURABLE (R543): what waited for room is then sequenced. -/
def execRecordDurable (s : State) : Host.Outcome State Fault Refusal := .next (settle s.durableOne.sequence)

/-- SEAL_REQUEST (R538). -/
def execSealRequest (mid : BitVec 4) (s : State) : Host.Outcome State Fault Refusal :=
  .next (settle (s.whenUp fun s => s.ldgCmdWrite mid.toNat 1))

/-- SEGMENT_RELEASE (R552). -/
def execSegmentRelease (mid : BitVec 4) (s : State) : Host.Outcome State Fault Refusal :=
  .next (settle (s.whenUp fun s => s.ldgCmdWrite mid.toNat 2))

/-- EXPORTED_WRITE (R551). -/
def execExportedWrite (mid : BitVec 4) (value : W64) (s : State) : Host.Outcome State Fault Refusal :=
  .next (s.whenUp fun s => if mid = 2 then s.exportedWrite value.toNat else s)

end Sys2Proof.Machine
end

