-- ==== Sys2Proof/Machine/Hinge.lean ====
section
/-!
DEFINITION. The Hinge: request slots and the outcomes of far accesses (R491–R496), far access slots (R497, R498),
semaphores (R501, R502), the local expansion bus (R503–R507) and mirror pages (R508–R511).
-/

namespace Sys2Proof.Machine

/-- A HNG_EVT cause set; far_gone, timeout, denied, poison, lxb_error and lock_broken are events of source 22 with the
chain address as resource (R593). -/
def State.hngRaise (s : State) (bit addr : Nat) : State :=
  if bit < 4 || bit = 8 || bit = 9 then s.raiseF R.HNG_EVT_cause bit (R.HNG_EVT_CNT_count bit) 22 addr
  else s.raise R.HNG_EVT_cause bit (R.HNG_EVT_CNT_count bit)

/-! ### Outcomes, encoded as HNG_FASf_s_DATA.state (R498) -/

def foPending : Nat := 1
def foDone : Nat := 2
def foFarGone : Nat := 3
def foNotReady : Nat := 4
def foDenied : Nat := 5
def foPoison : Nat := 6
def foTimeout : Nat := 7
def foInReset : Nat := 8
def foLxbError : Nat := 9
def foLockBroken : Nat := 10

/-- The HNG_EVT cause that an outcome sets; NOT_READY and IN_RESET have none, and a lock sets its cause when it is
broken. -/
def foCause (fo : Nat) : Option Nat :=
  if fo = foFarGone then some 0 else if fo = foTimeout then some 1 else if fo = foDenied then some 2
  else if fo = foPoison then some 3 else if fo = foLxbError then some 8 else none

/-- An ending other than DONE sets its cause and is recorded in HNG_LAST (R493). -/
def State.farNoted (s : State) (addr mid fo : Nat) : State :=
  if fo = foDone then s
  else
    let s := match foCause fo with
      | some b => s.hngRaise b addr
      | none => s
    ((s.put R.HNG_LAST_addr addr).put R.HNG_LAST_mid mid).put R.HNG_LAST_outcome fo

/-! ### Far access slots (R498) -/

/-- A far access slot ends: state and data, 0 unless a read ended DONE or POISON. -/
def State.slotEnd (s : State) (f k fo data : Nat) : State :=
  let keep := !s.on (R.HNG_FAS_CMD_write f k) && (fo == foDone || fo == foPoison)
  ((s.put (R.HNG_FAS_DATA_state f k) fo).put (R.HNG_FAS_DATA_data f k) (if keep then data else 0))

/-! ### Operations of the channel engine (R332, R493) -/

/-- A POLL_FAR has read its register. -/
def State.pollSeen (s : State) (a data : Nat) : State :=
  match s.op a with
  | none => s
  | some o =>
    let s := s.setOp a { o with aux := some data, busy := false }
    if ((data ^^^ o.pollValue) &&& o.pollMask) = 0 then s.endOp a stSuccess 0 else s

/-- An access of n bytes of a REG or LXB operation has been performed: the areas move on, and the operation ends with
its last access (R331). -/
def State.accessDone (s : State) (a n data : Nat) (pois : Bool) : State :=
  match s.op a with
  | none => s
  | some o =>
    if o.first.opcode = ocPoll then (s.setOp a { o with poisoned := o.poisoned || pois }).pollSeen a data
    else
      let s := s.setOp a { o with busy := false, accesses := o.accesses + 1 }
      let s := if o.first.opcode = ocRead then s.deliver a (leBytes n data) pois
        else ((s.useOp a (zeros n)).1).updOp a fun o => { o with buf := o.buf.drop n, got := o.got - n }
      match s.op a with
      | some o' => if o'.chainRead && o'.room = 0 then s.endOp a stSuccess 0 else s
      | none => s

/-- An access of an operation has ended with an outcome. -/
def State.agentAccess (s : State) (a n fo data : Nat) : State :=
  if fo = foDone then s.accessDone a n data false
  else if fo = foPoison then s.accessDone a n data true
  else if fo = foNotReady then s.endOp a stDeviceError 0x62
  else if fo = foDenied then s.endOp a stDeviceError 0x63
  else if fo = foLxbError then s.endOp a stDeviceError 0x60
  else s.endOp a stFarGone 0

/-! ### Mirror pages (R508–R511) -/

def State.mirror (s : State) (a : Nat) : Mirror := (tget s.mirrors a).getD {}

/-- The offsets of mirror words 0–19 (R510). -/
def mirrorOffs : List Nat :=
  [R.GLB_BOOT_STATUS_stage.off, R.GLB_UNIT_ADDR_addr.off, R.GLB_BOOT_EVT_cause.off, R.PWR_STATE_current.off,
   R.PWR_STATUS_cause.off, R.HUP_STATUS_cause.off, R.CLK_EVT_cause.off, R.INT_FSRC_src.off, R.INT_ESRC_src.off,
   (R.INT_PF_LEVEL_gated 0).off, (R.INT_PF_LEVEL_gated 1).off, R.INT_HIF_EVT_cause.off, R.CHN_KC_ATTN_cause.off,
   (R.CHN_PT_EVT_cause 0).off, (R.CHN_PT_EVT_cause 1).off, R.CHE_EVT_cause.off, R.BUF_EVT_cause.off,
   R.HNG_EVT_cause.off, R.HNG_RXSUM_queued.off, R.GWC_EVT_cause.off]

/-- The BAR0 offset of mirror word i. -/
def State.mirrorOff (s : State) (i : Nat) : Nat :=
  if i < 24 then mirrorOffs.getD i 0 else 4 * s.get (R.HNG_POLL_EXT_offset (i - 24))

/-- The words that a round reads: 0–19, and the enabled ones of 24–31. -/
def State.mirrorWords (s : State) : List Nat :=
  List.range 20 ++ ((List.range 8).filter fun k => s.on (R.HNG_POLL_EXT_en k)).map (· + 24)

/-- Address a is polled (R508). -/
def State.polled (s : State) (a : Nat) : Bool :=
  if s.on R.HNG_POLL_CTL_auto then s.on (R.CHN_MAP_valid a) else s.bitOf (R.HNG_POLL_EN_en (a / 32)) (a % 32)

/-- A mirror word written: the page's first word of a round makes seq odd, and a watched word that changes sets
far_change (R509, R511). -/
def State.mirrorWrite (s : State) (a i v : Nat) (r : PollRound) : State :=
  let m := s.mirror a
  let m := if r.wrote then m else { m with seq := (m.seq + 1) % 2 ^ 32 }
  let old := (tget m.words i).getD 0
  let s := { s with mirrors := tset s.mirrors a { m with words := tput m.words i v 0 } }
  if old ≠ v && s.bitOf R.HNG_POLL_WATCH_watch i then
    ((s.hngRaise 6 a).put R.HNG_LAST_addr a).put R.HNG_LAST_word i
  else s

/-- A round has ended: stamp, flags and stale written, and seq made even. -/
def State.roundEnd (s : State) (a : Nat) (r : PollRound) : State :=
  let m := s.mirror a
  let seq := m.seq + (if r.wrote then 1 else 2)
  let flags := b2n (s.on (R.CHN_MAP_valid a)) + 2 * b2n (s.polled a) + 4 * b2n (r.failed != 0) + 8 * b2n r.pois
  { s with rounds := tdel s.rounds a,
           mirrors := tset s.mirrors a
             { m with stamp := r.stamp, flags := flags, stale := r.failed, seq := seq % 2 ^ 32 } }

/-- A word of a round has been read, or its read has failed. -/
def State.wordRead (s : State) (a i fo data : Nat) : State :=
  match tget s.rounds a with
  | none => s
  | some r =>
    let r := { r with out := r.out.filter (· != i) }
    if fo = foDone || fo = foPoison then
      let s := s.mirrorWrite a i data r
      { s with rounds := tset s.rounds a { r with wrote := true, pois := r.pois || fo == foPoison } }
    else { s with rounds := tset s.rounds a { r with failed := setBit r.failed i } }

/-- The round of an address ends once every word has been read. -/
def State.roundCheck (s : State) (a : Nat) : State :=
  match tget s.rounds a with
  | some r => if r.todo.isEmpty && r.out.isEmpty then s.roundEnd a r else s
  | none => s

/-- The 32-bit word at an offset of BAR2 (R228, R509). -/
def State.mirrorAt (s : State) (off : Nat) : Nat :=
  let m := s.mirror (off / 2 ^ 16)
  let o := off % 2 ^ 16
  if o = 0 then m.stamp % 2 ^ 32 else if o = 4 then m.stamp / 2 ^ 32 else if o = 8 then m.seq
  else if o = 0xC then m.flags else if o = 0x10 then m.stale
  else if 0x40 ≤ o && o < 0xC0 then (tget m.words ((o - 0x40) / 4)).getD 0 else 0

/-! ### Fabric accesses (R495, R496) -/

/-- The access of a MID to an address, pending or held. -/
def State.fabFind (s : State) (mid : Nat) (lxb : Bool) (unit off : Nat) : Option (Nat × FabAcc) :=
  s.fabric.find? fun e => e.2.mid == mid && e.2.lxb == lxb && e.2.unit == unit && e.2.off == off

/-- Every part of an access has ended. -/
def FabAcc.ended (x : FabAcc) : Bool := x.parts ≤ x.done.length

/-- The result of an ended access: the first outcome other than DONE, and the parts' data, lowest first. -/
def FabAcc.result (x : FabAcc) : Nat × Nat :=
  let w := if x.lxb then 16 else 32
  let data := (x.done.map fun e => e.2.2 * 2 ^ (w * e.1)).sum
  (((x.done.find? fun e => e.2.1 != foDone).map (·.2.1)).getD foDone, data)

/-- One part of a fabric access has ended. -/
def State.fabPart (s : State) (n half fo data : Nat) : State :=
  match tget s.fabric n with
  | none => s
  | some x => { s with fabric := tset s.fabric n { x with done := tset x.done half (fo, data) } }

/-! ### Request slots (R492) -/

/-- MID of an owner, as HNG_LAST shows it. -/
def State.ownerMid (s : State) : ReqOwner → Nat
  | .slot f _ => f
  | .fabric n _ => ((tget s.fabric n).map (·.mid)).getD 2
  | .poll _ => 4
  | .agent _ => 3

/-- The request slots that an owner may take, in order: its own for a far access slot, and the shared ones. -/
def slotRange : ReqOwner → List Nat
  | .slot f k => [8 * f + k]
  | _ => (List.range 240).map (· + 16)

/-- Request slots held by the poller. -/
def State.pollerUse (s : State) : Nat :=
  (s.reqs.filter fun e => match e.2.owner with
    | .poll _ => true
    | _ => false).length

/-- A free request slot for an owner: the poller holds at most 64. -/
def State.freeSlot (s : State) (w : ReqOwner) : Option Nat :=
  match w with
  | .poll _ => if 64 ≤ s.pollerUse then none else (slotRange w).find? fun k => (tget s.reqs k).isNone
  | _ => (slotRange w).find? fun k => (tget s.reqs k).isNone

/-- A RD_REQ or WR_REQ sent from a request slot (R182, R492). -/
def State.sendReq (s : State) (k : Nat) (w : ReqOwner) (unit : Nat) (write : Bool) (off data : Nat) : State :=
  let gen := ((tget s.reqGen k).getD 15 + 1) % 16
  let s := { s with reqs := tset s.reqs k { gen := gen, unit := unit, write := write, owner := w },
                    reqGen := tset s.reqGen k gen }
  let head := leBytes 2 (k + gen * 2 ^ 8) ++ zeros 2 ++ leBytes 4 off
  if write then s.sendTo 0x11 unit (head ++ leBytes 4 data) else s.sendTo 0x10 unit head

/-- Words of a round sent while request slots are free. -/
def State.pumpRound (a : Nat) : Nat → State → State
  | 0, s => s
  | fuel + 1, s =>
    match tget s.rounds a with
    | none => s
    | some r =>
      match r.todo, s.freeSlot (.poll 0) with
      | i :: rest, some k =>
        let s := { s with rounds := tset s.rounds a { r with todo := rest, out := r.out ++ [i] } }
        if (s.routeTo a).isNone then State.pumpRound a fuel ((s.farNoted a 4 foFarGone).wordRead a i foFarGone 0)
        else State.pumpRound a fuel (s.sendReq k (.poll i) a false (s.mirrorOff i) 0)
      | _, _ => s

/-- A round goes on, and ends with its last word. -/
def State.roundOn (s : State) (a : Nat) : State := (s.pumpRound a 32).roundCheck a

/-- The end of a request handed to its owner (R493). -/
def State.handOutcome (s : State) (w : ReqOwner) (unit fo data : Nat) : State :=
  let s := s.farNoted unit (s.ownerMid w) fo
  match w with
  | .slot f k => s.slotEnd f k fo data
  | .fabric n h => s.fabPart n h fo data
  | .poll i => (s.wordRead unit i fo data).roundOn unit
  | .agent token =>
    match s.tokenAgent token with
    | some a => s.agentAccess a 4 fo data
    | none => s

/-- A request slot's access ends with an outcome, and the slot is free. -/
def State.reqEnd (s : State) (k fo data : Nat) : State :=
  match tget s.reqs k with
  | none => s
  | some r => { s with reqs := tdel s.reqs k }.handOutcome r.owner r.unit fo data

/-- The request that a response's tag matches. -/
def State.reqMatch (s : State) (tag : Nat) (write : Bool) : Option Nat :=
  let k := tag % 256
  match tget s.reqs k with
  | some r => if r.gen = bits tag 8 4 && r.write = write then some k else none
  | none => none

/-- The outcome of a response's status. -/
def statusOutcome (st : Nat) : Nat :=
  if st = 0 then foDone else if st = 1 then foNotReady else if st = 2 then foDenied else foPoison

/-- RD_RSP or WR_RSP consumed (R493). Read data whose flit is poisoned keeps its mark (R45). -/
def State.farResponse (s : State) (write : Bool) (pl : List Byte) (pois : Bool) : State :=
  match s.reqMatch (fieldAt pl 0 2) write with
  | some k =>
    let fo := statusOutcome (fieldAt pl 2 1)
    s.reqEnd k (if pois && !write && fo = foDone then foPoison else fo) (if write then 0 else fieldAt pl 8 4)
  | none => s

/-- NO_ROUTE consumed: the refused request, by its type and the bytes it began with (R182, R356, R493). A program's
far append is named by its tag alone. -/
def State.farRefused (s : State) (pl : List Byte) : State :=
  let type := fieldAt pl 0 1
  let fo := if fieldAt pl 1 1 = 1 then foInReset else foFarGone
  let tag := fieldAt pl 2 2
  if type = 0x10 || type = 0x11 then
    match s.reqMatch tag (type == 0x11) with
    | some k => s.reqEnd k fo 0
    | none => s
  else if type = 0x20 || type = 0x30 then
    match s.op (tag % 2048) with
    | some o => if s.opFar (tag % 2048) o && o.sent then s.endOp (tag % 2048) stFarGone 0 else s
    | none => s
  else s

/-- A far access starts for an owner: FAR_GONE without a map entry, else its request leaves. The answer says whether a
request slot was free (R200, R201, R492). -/
def State.farAccess (s : State) (w : ReqOwner) (unit : Nat) (write : Bool) (off data : Nat) : State × Bool :=
  if (s.routeTo unit).isNone then (s.handOutcome w unit foFarGone 0, true)
  else match s.freeSlot w with
    | some k => (s.sendReq k w unit write off data, true)
    | none => (s, false)

/-! ### Semaphores (R501, R502) -/

/-- Semaphores whose holder matches a test are freed. -/
def State.freeSems (s : State) (p : Nat × Nat → Bool) : State := { s with sems := s.sems.filter fun e => !p e.2 }

/-- A read of HNG_SEMs: taken, or the holder's identity. -/
def State.semRead (s : State) (k : Nat) (w : Who) : State × Nat :=
  match tget s.sems k with
  | none => ({ s with sems := tset s.sems k w.key }, 0)
  | some o => (s, if o = w.key then 0 else 2 ^ 31 + o.1 % 16 + o.2 % 1024 * 2 ^ 4)

/-- A write of HNG_SEMs. -/
def State.semWrite (s : State) (k : Nat) (w : Who) : State :=
  if tget s.sems k = some w.key then { s with sems := tdel s.sems k } else s.hngRaise 10 0

/-- The lease of a held semaphore expires. -/
def State.semLease (s : State) (k : Nat) : State :=
  if s.get R.HNG_SEM_LEASE_ms ≠ 0 && (tget s.sems k).isSome then
    ({ s with sems := tdel s.sems k }).hngRaise 11 0
  else s

/-! ### The local expansion bus (R503–R507) -/

/-- A chip select is enabled, and its unit is not stopped (R98, R504). -/
def State.lxbUp (s : State) (cs : Nat) : Bool := s.on (R.HNG_LXB_CS_CFG_en cs) && !s.portStopped clsLxb cs

/-- MIDs 0, 1, 2 and 5 reach HNG_LXB_LOCK. -/
def lockMid (mid : Nat) : Bool := mid < 3 || mid == 5

/-- A read of HNG_LXB_LOCK (R506). -/
def State.lxbLockRead (s : State) (mid : Nat) : State × Nat :=
  if !lockMid mid then (s, 0)
  else match s.lxbLock with
    | none => ({ s with lxbLock := some mid, lxbOut := false }, 0)
    | some m => (s, if m = mid then 0 else 2 ^ 31 + m)

/-- A write of HNG_LXB_LOCK. -/
def State.lxbLockWrite (s : State) (mid : Nat) : State :=
  if !lockMid mid then s
  else if s.lxbLock = some mid then { s with lxbLock := none }
  else s.hngRaise 10 0

/-- The lock has been held beyond lock_max (R507). -/
def State.lxbBreak (s : State) : State :=
  match s.lxbLock with
  | none => s
  | some m => ({ s with lxbLock := none, lxbBroken := some m }).hngRaise 9 s.addr

/-- The lock freed for a MID that is reset (R502, R506). -/
def State.lxbFree (s : State) (mid : Nat) : State :=
  { s with lxbLock := if s.lxbLock = some mid then none else s.lxbLock,
           lxbBroken := if s.lxbBroken = some mid then none else s.lxbBroken }

/-- The accesses that may have the next turn: the lock holder's only, while the lock is held (R506). -/
def State.lxbReady (s : State) : List LxbReq :=
  match s.lxbLock with
  | some m => s.lxbQ.filter fun r => r.mid == m
  | none => s.lxbQ

/-- The next access by round robin among MIDs: the oldest of the first MID after the one served last (R505). -/
def State.lxbNext (s : State) : Option LxbReq :=
  (((List.range 8).map fun i => (s.lxbLast + 1 + i) % 8).findSome? fun m => s.lxbReady.find? fun r => r.mid == m)

/-- The parts of an access that is over leave the queue. -/
def State.lxbDrop (s : State) (w : ReqOwner) : State :=
  { s with lxbQ := s.lxbQ.filter fun r => match r.owner, w with
             | .fabric n _, .fabric m _ => n != m
             | x, y => x != y }

/-- An LXB access of an owner fails with an outcome (R504, R507). -/
def State.lxbFail (s : State) (w : ReqOwner) (fo : Nat) : State :=
  let s := (s.lxbDrop w).farNoted s.addr (s.ownerMid w) fo
  match w with
  | .slot f k => ({ s with slotParts := tdel s.slotParts (8 * f + k) }).slotEnd f k fo 0
  | .fabric n _ =>
    match tget s.fabric n with
    | some x => (List.range x.parts).foldl (fun t h => if (tget x.done h).isSome then t else t.fabPart n h fo 0) s
    | none => s
  | .agent token =>
    match s.tokenAgent token with
    | some a => s.agentAccess a 2 fo 0
    | none => s
  | .poll _ => s

/-- One 16-bit access has been performed. -/
def State.lxbPart (s : State) (r : LxbReq) (data : Nat) : State :=
  match r.owner with
  | .slot f k =>
    let l := (tget s.slotParts (8 * f + k)).getD [] ++ [data]
    if 2 ≤ l.length then
      ({ s with slotParts := tdel s.slotParts (8 * f + k) }).slotEnd f k foDone (l.getD 0 0 + 2 ^ 16 * l.getD 1 0)
    else { s with slotParts := tset s.slotParts (8 * f + k) l }
  | .fabric n h => s.fabPart n h foDone data
  | .agent token =>
    match s.tokenAgent token with
    | some a => s.agentAccess a 2 foDone data
    | none => s
  | .poll _ => s

/-- An LXB access asked for by an owner, in 16-bit parts (R500); it fails at once where the chip select is not
enabled (R504). -/
def State.lxbAsk (s : State) (w : Nat → ReqOwner) (mid cs addr : Nat) (write : Bool) (data parts : Nat) : State :=
  if !s.lxbUp cs then s.lxbFail (w 0) foLxbError
  else
    { s with lxbQ := s.lxbQ ++ (List.range parts).map fun i =>
               { owner := w i, mid := mid, cs := cs, addr := (addr + 2 * i) % 2 ^ 24, write := write,
                 data := bits data (16 * i) 16, part := i } }

/-- The access that has its turn taken out of the queue. -/
def State.lxbTake (s : State) (r : LxbReq) : State := { s with lxbQ := s.lxbQ.erase r, lxbLast := r.mid }

/-- The LXB_AD lines that are attached: the others read 0 (R69). -/
def State.lxbAd (s : State) : Nat :=
  ((List.range 16).map fun i => if s.attached ⟨.lxb, 0, i⟩ then 2 ^ i else 0).sum

/-- An access whose chip select has been disabled, or whose bus has been stopped, since it was asked for (R504). -/
def State.lxbGone (s : State) (r : LxbReq) : State :=
  match r.owner, s.portFault clsLxb r.cs with
  | .agent token, some f => s.endToken token f.1 f.2
  | w, _ => s.lxbFail w foLxbError

/-- LXB_ACCESS: the next access runs its phases; a read samples `data` (R503). LXB_LOCK rises with the first of the lock's
holder (R506). -/
def State.lxbAccess (s : State) (data : Nat) : State :=
  match s.lxbNext with
  | none => s
  | some r =>
    let s := s.lxbTake r
    let s := { s with lxbOut := s.lxbOut || s.lxbLock == some r.mid }
    if s.lxbBroken = some r.mid then ({ s with lxbBroken := none }).lxbFail r.owner foLockBroken
    else if !s.lxbUp r.cs then s.lxbGone r
    else
      let got := data &&& s.lxbAd
      (s.emitOn ⟨.lxb, 0, 16 + r.cs⟩
        (.line clsLxb r.cs (b2n r.write + 1) (r.addr + 2 ^ 24 * (if r.write then r.data else got)))).lxbPart r
        (if r.write then 0 else got)

/-- LXB_WAIT_TIMEOUT: LXB_WAIT_N holds the data phase of the access that has its turn beyond wait_timeout (R504). -/
def State.lxbWait (s : State) : State :=
  match s.lxbNext with
  | none => s
  | some r =>
    if !s.on (R.HNG_LXB_CS_CFG_wait_en r.cs) || !s.attached ⟨.lxb, 0, 24⟩ then s
    else if s.lxbBroken = some r.mid then (({ s.lxbTake r with lxbBroken := none })).lxbFail r.owner foLockBroken
    else (s.lxbTake r).lxbFail r.owner foLxbError

/-- A level change of an LXB_IRQ line: its INTF contribution changes, and a high level ends WAIT_EVENT 0x0A (R246,
R332). -/
def State.lxbIrqSet (s : State) (n : Nat) (level : Bool) : State :=
  let s := { s with lxbIrq := putBit s.lxbIrq n level }
  if level && s.attached ⟨.lxb, 0, 26 + n⟩ then s.lxbIrqHigh n else s

/-! ### Departures (R60, R186, R493, R502, R511) -/

/-- The map entry of an address has been cleared: far accesses and operations end, and what its masters held is
freed. -/
def State.unitGone (s : State) (a : Nat) : State :=
  let s := (s.reqs.filter fun e => e.2.unit == a).foldl (fun t e => t.reqEnd e.1 foFarGone 0) s
  let gone := s.ops.filter fun e => s.opFar e.1 e.2 && e.2.sent && e.2.ended.isNone && devUnit e.2.first.dev == a
  let s := s.endOps (gone.map (·.1)) stFarGone 0
  let s := (s.freeSems fun h => h == (4, a)).freeTumblers fun h => h == (4, a)
  match tget s.mirrors a with
  | some m => { s with mirrors := tset s.mirrors a { m with flags := clearBits m.flags 1 } }
  | none => s

/-! ### The commands -/

/-- RD_RSP (R493). -/
def execRdRsp (p : Fin 2) (f : FlitIn) (s : State) : Host.Outcome State Fault Refusal :=
  .next (settle (s.prgFlit p .rsp f fun t => t.farResponse false f.payload f.poisoned))

/-- WR_RSP (R493). -/
def execWrRsp (p : Fin 2) (f : FlitIn) (s : State) : Host.Outcome State Fault Refusal :=
  .next (settle (s.prgFlit p .rsp f fun t => t.farResponse true f.payload f.poisoned))

/-- NO_ROUTE (R493). -/
def execNoRoute (p : Fin 2) (f : FlitIn) (s : State) : Host.Outcome State Fault Refusal :=
  .next (settle (s.prgFlit p .rsp f fun t => t.farRefused f.payload))

/-- FAR_ACCESS_TIMEOUT (R493): of the access in request slot k. A CCW's access has its own time-out. -/
def execFarAccessTimeout (k : Fin 256) (s : State) : Host.Outcome State Fault Refusal :=
  .next (settle (match tget s.reqs k with
    | some r => (match r.owner with
        | .agent _ => s
        | _ => s.reqEnd k foTimeout 0)
    | none => s))

/-- HELD_RESULT_EXPIRY (R495): of the access of a MID to an address. -/
def execHeldResultExpiry (mid : BitVec 4) (lxb : Bool) (unit : BitVec 10) (off : BitVec 24) (s : State) :
    Host.Outcome State Fault Refusal :=
  .next (settle (match s.fabFind mid.toNat lxb unit.toNat off.toNat with
    | some (n, x) => if x.ended then ({ s with fabric := tdel s.fabric n }).hngRaise 4 0 else s
    | none => s))

/-- SEMAPHORE_READ (R501). -/
def execSemaphoreRead (k : Fin 64) (mid : BitVec 4) (origin : BitVec 10) (s : State) :
    Host.Outcome State Fault Refusal :=
  .next (s.whenUp fun s =>
    let r := s.semRead k (who mid origin)
    { r.1 with readData := r.2 })

/-- SEMAPHORE_RELEASE (R501). -/
def execSemaphoreRelease (k : Fin 64) (mid : BitVec 4) (origin : BitVec 10) (s : State) :
    Host.Outcome State Fault Refusal :=
  .next (settle (s.whenUp fun s => s.semWrite k (who mid origin)))

/-- SEMAPHORE_LEASE_EXPIRY (R502). -/
def execSemaphoreLeaseExpiry (k : Fin 64) (s : State) : Host.Outcome State Fault Refusal :=
  .next (settle (s.semLease k))

/-- LXB_ACCESS (R503). -/
def execLxbAccess (data : BitVec 16) (s : State) : Host.Outcome State Fault Refusal :=
  .next (settle (s.lxbAccess data.toNat))

/-- LXB_WAIT_TIMEOUT (R504). -/
def execLxbWaitTimeout (s : State) : Host.Outcome State Fault Refusal := .next (settle s.lxbWait)

/-- LXB_LOCK_READ (R506). -/
def execLxbLockRead (mid : BitVec 4) (s : State) : Host.Outcome State Fault Refusal :=
  .next (s.whenUp fun s =>
    let r := s.lxbLockRead mid.toNat
    { r.1 with readData := r.2 })

/-- LXB_LOCK_RELEASE (R506). -/
def execLxbLockRelease (mid : BitVec 4) (s : State) : Host.Outcome State Fault Refusal :=
  .next (settle (s.whenUp fun s => s.lxbLockWrite mid.toNat))

/-- LXB_LOCK_BROKEN (R507). -/
def execLxbLockBroken (s : State) : Host.Outcome State Fault Refusal := .next (settle s.lxbBreak)

/-- LXB_IRQ_CHANGE (R246). -/
def execLxbIrqChange (n : Fin 4) (level : Bool) (s : State) : Host.Outcome State Fault Refusal :=
  .next (settle (s.lxbIrqSet n level))

end Sys2Proof.Machine
end

