-- ==== Sys2Proof/Machine/Pintle.lean ====
section
/-!
DEFINITION. The Pintle ports: training, recovery and departure (R196–R198, R207–R211), reception and replay
(R183, R199, R203–R206), positions and the address map (R184–R186).
-/

namespace Sys2Proof.Machine

/-! ### Positions and the address map -/

/-- Whether port p's link holds: ACTIVE, or in recovery training, which keeps what the link has (R198). -/
def State.linked (s : State) (p : Nat) : Bool := s.ptState p == 2 || s.ptState p == 3

/-- Own position as R184 gives it, and whether it is valid. -/
def State.positionNow (s : State) : Nat × Bool :=
  if s.ptActive 0 then
    if s.on (R.CHN_PT_PEER_valid 0) then ((s.get (R.CHN_PT_PEER_position 0) + 1) % 1024, true) else (0, false)
  else (0, true)

/-- The self entry of the map (R220). -/
def State.mapSelf (s : State) : State :=
  let a := s.addr
  (((s.put (R.CHN_MAP_position a) (s.get R.CHN_POS_position)).put (R.CHN_MAP_valid a) 1).put (R.CHN_MAP_port a) 0).put
    (R.CHN_MAP_self a) 1

/-- The position recomputed; the answer says whether it changed (R184). -/
def State.setPosition (s : State) : State × Bool :=
  let n := s.positionNow
  let old := (s.get R.CHN_POS_position, s.on R.CHN_POS_valid)
  let s := ((s.put R.CHN_POS_position n.1).flag R.CHN_POS_valid n.2).flag R.CHN_POS_head (!s.ptActive 0)
  (if s.assigned then s.mapSelf else s, old != n)

/-- ANNOUNCE of an assigned unit (R185). -/
def State.announceIf (s : State) (b : Bool) : State := if b && s.assigned then s.announce true else s

/-- The position recomputed, and announced when it changed (R184, R185). -/
def State.reposition (s : State) : State :=
  let r := s.setPosition
  r.1.announceIf r.2

/-- A map entry cleared, and what follows for the unit's own accesses (R60, R186). -/
def State.mapClear (s : State) (a : Nat) : State :=
  if s.on (R.CHN_MAP_valid a) && !s.on (R.CHN_MAP_self a) then
    (s.cold [R.CHN_MAP_position a, R.CHN_MAP_valid a, R.CHN_MAP_port a]).unitGone a
  else s

/-- The entry of an address cleared by its ANNOUNCE with assigned = 0, the unit's own one too (R186). -/
def State.mapErase (s : State) (a : Nat) : State := (s.mapClear a).cold [R.CHN_MAP_position a, R.CHN_MAP_valid a,
  R.CHN_MAP_port a, R.CHN_MAP_self a]

/-- Entries beyond a lost port of a reporter: above its position for DN, below it for UP (R186). -/
def State.beyond (s : State) (pos port : Nat) : List Nat :=
  (List.range 1024).filter fun a =>
    s.on (R.CHN_MAP_valid a) && !s.on (R.CHN_MAP_self a) &&
      (let q := s.get (R.CHN_MAP_position a)
       if port = 1 then pos < q else q < pos)

def State.mapLoss (s : State) (pos port : Nat) : State := (s.beyond pos port).foldl State.mapClear s

/-! ### Departure (R209–R211) -/

/-- LEAVING sent on a port that is ACTIVE (R211). DESIGN CHOICE, log entry 101: as the last flit of the link it waits for
no credit and for no acknowledgement. -/
def State.leave (s : State) (p reason : Nat) : State :=
  if s.ptActive p then
    let seq := s.get (R.CHN_PT_SEQ_tx_next p)
    (s.put (R.CHN_PT_SEQ_tx_next p) (seq + 1)).txFlit p
      { type := 0x04, src := s.addr, payload := leBytes 1 reason, lseq := seq }
  else s

/-- What the other port holds of a link that ends: flits that lie in its receive buffers keep no credit. -/
def State.unhold (s : State) (p : Nat) : State :=
  let q := 1 - p
  let x := s.pt q
  s.setPt q { x with waiting := x.waiting.map fun f => if f.holds = some p then { f with holds := none } else f }

/-- Port p leaves its link without a broadcast: events, attention cause and map entries, then its state and an empty
replay buffer (R210). The flits that waited on it are dropped, and free their receive buffers. DESIGN CHOICE, log entry
102: CHN_PTp_STATUS.state shows IDLE (4) after a port disable, and DOWN (0) after every other departure, that for a
power state included. -/
def State.portLost (s : State) (p st : Nat) : State :=
  let s := if s.linked p then ((s.ptRaise p 1).kcRaise (p + 1)).mapLoss (s.get R.CHN_POS_position) p else s
  let s := (s.pt p).waiting.foldl State.freed s
  ((s.put (R.CHN_PT_STATUS_state p) st).setPt p {}).unhold p

/-- The payload of a LINK_LOSS (R182). -/
def State.lossReport (s : State) (p : Nat) : List Byte :=
  leBytes 2 (s.addrWord s.assigned) ++ leBytes 2 (s.get R.CHN_POS_position) ++ leBytes 1 p

/-- Port p goes DOWN, or IDLE: LINK_LOSS leaves through the other port when that is ACTIVE (R210). -/
def State.portDown (s : State) (p st : Nat) : State :=
  let report := s.lossReport p
  let was := s.linked p
  let s := s.portLost p st
  let s := if was && s.ptActive (1 - p) then s.castOn (1 - p) 0x03 report else s
  if p = 0 then s.reposition else s

/-- Both ports idle together, after LEAVING (R211, R215, R216). -/
def State.portsIdle (s : State) (reason : Nat) : State :=
  (((((s.leave 0 reason).leave 1 reason).portLost 0 0).portLost 1 0).setPosition).1

/-! ### Training (R196–R198) -/

/-- Receive lanes that may qualify on port p (R197). -/
def State.mayQualify (s : State) (p k : Nat) : Bool :=
  !(s.lanesOut p jLaneRx).contains k && !s.bitOf (R.CHN_PT_CTL_lane_forbid p) k

/-- The lanes of a three-bit mask, lowest first. -/
def lanesOf (m : BitVec 3) : List Nat := (List.range 3).filter fun k => m.toNat.testBit k

/-- The receive lanes that a training qualified. -/
def State.qualifiedLanes (s : State) (p : Nat) (t : Training) : List Nat :=
  (lanesOf t.qualified).filter fun k => s.mayQualify p k

/-- A training that can end: two lanes each way, and version 0x01 (R196, R197). -/
def State.trains (s : State) (p : Nat) (t : Training) : Bool :=
  2 ≤ (s.qualifiedLanes p t).length && 2 ≤ (lanesOf t.rxSel).length && t.version == 1

/-- A lane mask from a list of lanes. -/
def laneMask (l : List Nat) : Nat := ((List.range 3).map fun k => b2n (l.contains k) * 2 ^ k).sum

/-- Lanes and neighbour of a port that becomes ACTIVE: the two lowest-numbered qualified receive lanes, and the transmit
lanes that the peer names (R196). -/
def State.linkFormed (s : State) (p : Nat) (t : Training) : State :=
  let rx := s.qualifiedLanes p t
  let tx := lanesOf t.rxSel
  let s := (((s.put (R.CHN_PT_STATUS_rx0 p) (rx.getD 0 0)).put (R.CHN_PT_STATUS_rx1 p) (rx.getD 1 0)).put
    (R.CHN_PT_STATUS_tx0 p) (tx.getD 0 0)).put (R.CHN_PT_STATUS_tx1 p) (tx.getD 1 0)
  let s := ((s.put (R.CHN_PT_STATUS_qualified p) (laneMask rx)).flag (R.CHN_PT_STATUS_spare_ok p) (3 ≤ rx.length)).put
    (R.CHN_PT_STATUS_retired p) (laneMask (s.lanesOut p jLaneRx ++ s.lanesOut p jLaneTx))
  (((s.put (R.CHN_PT_PEER_addr p) t.addr.toNat).flag (R.CHN_PT_PEER_assigned p) t.assigned).put
    (R.CHN_PT_PEER_position p) t.position.toNat).flag (R.CHN_PT_PEER_valid p) t.valid

/-- What the unit's own TS blocks say on port p, for its selected receive lanes (R179, R196). DESIGN CHOICE, log entry
103: ready is 1 in TS2. -/
def State.tsInfo (s : State) (rxSel : Nat) (recovery ready : Bool) : TsInfo :=
  { rxSel := rxSel, recovery := recovery, ready := ready, position := s.get R.CHN_POS_position,
    valid := s.on R.CHN_POS_valid, addr := s.addr, assigned := s.assigned }

/-- TS1 on every transmit lane that the repair journal does not exclude: step 1, or step 2 in recovery (R196, R198). -/
def State.sendTs1 (s : State) (p rxSel : Nat) (recovery : Bool) : State :=
  ((List.range 3).filter fun k => !(s.lanesOut p jLaneTx).contains k).foldl (fun t k =>
    t.emit (.block p k (tsBlock 0x1E k (s.tsInfo rxSel recovery false)))) s

/-- Steps 4 to 7 of a training as the unit sends them: TS1 with its rx_sel, TS2 on the two lanes that the peer names and
SPARE on the third, and then an ALIGN block on each lane (R178, R196). -/
def State.sendTs2 (s : State) (p : Nat) (t : Training) (recovery : Bool) : State :=
  let sel := laneMask ((s.qualifiedLanes p t).take 2)
  let named := lanesOf t.rxSel
  let s1 := s.sendTs1 p sel recovery
  let s2 := (s1.txLanes p).foldl (fun u k =>
    u.emit (.block p k (if named.contains k then tsBlock 0x2D k (s.tsInfo sel recovery true) else spareBlock k))) s1
  s2.alignAll p 0

/-- Port p becomes ACTIVE: link_up, the position, and ANNOUNCE (R184, R185, R220). In recovery the flits that the peer has
not acknowledged are sent again first (R198). -/
def State.portActive (s : State) (p : Nat) (t : Training) (first : State → State) : State :=
  let s := ((s.linkFormed p t).put (R.CHN_PT_STATUS_state p) 2).ptRaise p 0
  let s := first (s.sendTs2 p t t.recovery)
  s.setPosition.1.announceIf true

/-- A port is idled while the unit is in QUIET (R215). -/
def State.quietIdles (s : State) (p : Nat) : Bool :=
  s.on (R.CHN_PT_CTL_en p) && s.on (R.CHN_PT_CTL_quiet_idle p) && !s.ldg.pair.bound

/-- Training begins at step 1 on an enabled port that is DOWN or IDLE, while the unit is in ACTIVE or QUIET (R190,
R196), and not on a port that QUIET idles (R215). -/
def State.portTrain (s : State) (p : Nat) : State :=
  if s.on (R.CHN_PT_CTL_en p) && s.running && s.sup.pf < 3 && !(s.power == 1 && s.quietIdles p)
      && (s.ptState p == 0 || s.ptState p == 4) then
    ((s.put (R.CHN_PT_STATUS_state p) 1).setPt p {}).sendTs1 p 0 false
  else s

/-- Full training ends: sequence numbers 0, an empty replay buffer, and full credits (R196, R202). -/
def State.portUp (s : State) (p : Nat) (t : Training) : State :=
  if s.ptState p == 1 && !(s.pt p).paused && s.trains p t && !t.recovery then
    let s := s.setPt p { credLc := 8, credRsp := 64, credReq := 64 }
    ((s.put (R.CHN_PT_SEQ_tx_next p) 0).put (R.CHN_PT_SEQ_rx_expected p) 0).portActive p t id
  else s

/-- Recovery training begins on an ACTIVE port, and abandons a lane swap (R198, R209, R216). The position is 0 until UP is
ACTIVE again (R184). -/
def State.recover (s : State) (p : Nat) : State :=
  if s.ptActive p then
    let s := (s.put (R.CHN_PT_STATUS_state p) 3).setPt p
      { s.pt p with swap := none, txSwap := none, badCopies := 0, failed := none }
    let s := (s.ptRaise p 3).sendTs1 p 0 true
    if p = 0 then s.reposition else s
  else s

/-- Unacknowledged flits from a position of the list sent again, with replay = 1 (R205). -/
def State.resend (s : State) (p : Nat) (l : List Flit) : State :=
  if l.isEmpty then s else (l.foldl (fun t f => t.txFlit p { f with replay := true }) s).ptRaise p 5

/-- Recovery training ends: ACTIVE again with a replay, or full training where the peer has none to recover (R198). -/
def State.recovered (s : State) (p : Nat) (t : Training) : State :=
  if s.ptState p == 3 && s.trains p t then
    if t.recovery then (s.portActive p t fun u => u.resend p (u.pt p).unacked).pumpAll p
    else (s.portDown p 0).portTrain p
  else s

/-- A write of CHN_PTp_CTL (R211, R220). -/
def State.ptCtlWrite (s : State) (p mid v : Nat) : State :=
  let was := s.on (R.CHN_PT_CTL_en p)
  let s := s.writeFlds mid v [R.CHN_PT_CTL_en p, R.CHN_PT_CTL_quiet_idle p, R.CHN_PT_CTL_lane_forbid p]
  let s := if was && !s.on (R.CHN_PT_CTL_en p) then (s.leave p 2).portDown p 4
    else if !was then s.portTrain p else s
  if bits v 2 1 = 1 && s.takes (R.CHN_PT_CTL_retrain p) mid then s.recover p else s

/-- The value of CHN_PTp_CTL as it stands. -/
def State.ptCtl (s : State) (p : Nat) : Nat :=
  s.readFlds [R.CHN_PT_CTL_en p, R.CHN_PT_CTL_quiet_idle p, R.CHN_PT_CTL_lane_forbid p]

/-! ### Reception -/

/-- NAK with the expected number (R204). -/
def State.sendNak (s : State) (p : Nat) : State :=
  (s.txFlit p { type := 0x01, src := s.addr, payload := leBytes 2 (s.get (R.CHN_PT_SEQ_rx_expected p)) }).ptRaise p 4

/-- lseq lies ahead of the expected number, within half of the number space (R204). -/
def State.ahead (s : State) (p : Nat) (f : FlitIn) : Bool :=
  let d := (f.lseq.toNat + 65536 - s.get (R.CHN_PT_SEQ_rx_expected p)) % 65536
  0 < d && d < 32768

/-- The reason for which port p does not accept a received sequenced flit, if it does not (R203, R204, R206). -/
def State.rejects (s : State) (p : Nat) (r : RxFlit) : Option Reject :=
  if !r.header then some (if r.uncorr then .codeword false else .header)
  else if r.type < 2 || s.expects p r.fields then none
  else if r.uncorr then some (.codeword true)
  else some .sequence

/-- A sequenced flit that port p does not accept is discarded (R204, R206, R208); `nak` says that the last NAK lies at
least 1 µs back. DESIGN CHOICE, log entry 104: lack and the credits returned in a discarded flit take effect where its
header check passes; and a flit with an uncorrectable codeword and a failed header check counts as a copy of the
expected one. -/
def State.reject (s : State) (p : Nat) (why : Reject) (f : FlitIn) (nak : Bool) : State :=
  let x := s.pt p
  if !s.ptActive p then s
  else match why with
    | .sequence =>
      let s := s.rxHeader p f
      if s.ahead p f && nak then s.sendNak p else s
    | .header =>
      let s := s.count (R.CHN_PT_HDRERR_CNT_count p)
      if 4 ≤ x.badCopies then s.recover p else if nak then s.sendNak p else s
    | .codeword header =>
      let s := s.count (R.CHN_PT_UNCORR_CNT_count p)
      let s := if header then s.rxHeader p f else s.count (R.CHN_PT_HDRERR_CNT_count p)
      if x.failed.isSome || (4 ≤ x.badCopies && !header) then s.recover p
      else
        let copy := !header || f.lseq.toNat == s.get (R.CHN_PT_SEQ_rx_expected p)
        let s := s.setPt p { s.pt p with badCopies := x.badCopies + b2n copy }
        if nak then s.sendNak p else s

/-- Whether a sequenced flit with a good header is malformed: its type, its shape, or its bcast flag (R183). -/
def RxFlit.malformed (r : RxFlit) : Bool :=
  2 ≤ r.type && ((flitClass r.type).isNone || !r.shape
    || (r.fields.bcast != (r.type == 0x02 || r.type == 0x03) && !(r.type == 0x11 && r.fields.bcast)))

/-- An unsequenced flit with a good header on an ACTIVE port. -/
def State.unsequenced (s : State) (p : Nat) (f : FlitIn) (k : State → State) : State :=
  if s.ptActive p then k (s.rxHeader p f) else s

/-- The unacknowledged flits from an lseq onward. -/
def fromSeq (e : Nat) (l : List Flit) : List Flit := l.dropWhile fun f => f.lseq != e

/-- NO_ROUTE to the source of an undeliverable REQ flit, and the cause (R199). -/
def State.undeliverable (s : State) (p type : Nat) (f : FlitIn) : State :=
  (if flitClass type == some .req then s.noRoute f.src.toNat type 0 f.payload else s).ptRaise p 8

/-- An addressed flit that is not for the unit: accepted, and forwarded by its map or undeliverable (R199). Its credit
is owed once it has been sent on (R202). -/
def State.forward (s : State) (p type : Nat) (f : FlitIn) : State :=
  match s.routeTo f.dst.toNat with
  | some q =>
    if q != p && f.hops.toNat < 1023 then
      (s.acceptAs p none f).sendOn q
        { type := type, dst := f.dst.toNat, src := f.src.toNat, hops := f.hops.toNat + 1, poison := f.poisoned,
          payload := f.payload, holds := some p }
    else (s.acceptAs p (flitClass type) f).undeliverable p type f
  | none => (s.acceptAs p (flitClass type) f).undeliverable p type f

/-- A flit that FLIT_FORWARD handles: addressed, sequenced, of a known type, and not for the unit. -/
def State.passes (s : State) (p type : Nat) (f : FlitIn) : Bool :=
  s.expects p f && !f.bcast && !s.consumes f && !flitLocal type && (flitClass type).isSome

/-- ANNOUNCE consumed: the map entry of its address, and the neighbour's position when it comes from one (R184, R186,
R220). -/
def State.announced (s : State) (p : Nat) (f : FlitIn) : State :=
  let w := fieldAt f.payload 0 2
  let a := w % 1024
  let pos := fieldAt f.payload 2 2 % 1024
  let s := if w.testBit 15 then
      ((s.put (R.CHN_MAP_position a) pos).put (R.CHN_MAP_valid a) 1).put (R.CHN_MAP_port a) p
    else s.mapErase a
  if f.hops = 0 then
    let s := (((s.put (R.CHN_PT_PEER_addr p) a).flag (R.CHN_PT_PEER_assigned p) (w.testBit 15)).put
      (R.CHN_PT_PEER_position p) pos).put (R.CHN_PT_PEER_valid p) 1
    if p = 0 then s.reposition else s
  else s

/-- LINK_LOSS consumed (R186). -/
def State.lossSeen (s : State) (f : FlitIn) : State :=
  s.mapLoss (fieldAt f.payload 2 2 % 1024) (fieldAt f.payload 4 1 % 2)

/-- A broadcast accepted, forwarded and consumed (R199). -/
def State.broadcast (s : State) (p type : Nat) (c : FClass) (f : FlitIn) (k : State → State) : State :=
  if s.expects p f && f.bcast then k ((s.accept p c f).relay p type f) else s

/-- A link-local sequenced flit accepted and consumed. -/
def State.linkFlit (s : State) (p : Nat) (f : FlitIn) (k : State → State) : State :=
  if s.expects p f && !f.bcast then k (s.accept p .lc f) else s

/-! ### Lane sparing (R207, R208) -/

/-- The spare receive lane of port p. -/
def State.spareLane (s : State) (p : Nat) : Nat :=
  3 - (s.get (R.CHN_PT_STATUS_rx0 p) + s.get (R.CHN_PT_STATUS_rx1 p))

/-- Receive lane k of port p has had `n` bytes corrected within one second, or lost its block lock: the swap condition
(R207, R208). -/
def State.laneFails (s : State) (p k n : Nat) (lock : Bool) : State :=
  if !s.ptActive p || !(s.get (R.CHN_PT_STATUS_rx0 p) = k || s.get (R.CHN_PT_STATUS_rx1 p) = k) then s
  else
    let s := s.count (R.CHN_PT_LANE_CORR_count p k) n
    let thr := s.get R.CHN_PT_SPARE_THR_thr
    if (thr != 0 && thr ≤ n) || lock then
      let s := s.ptRaise p 2 k
      if s.on (R.CHN_PT_STATUS_spare_ok p) then
        if (s.pt p).swap.isSome then s
        else
          let j := s.spareLane p
          (s.setPt p { s.pt p with swap := some (k, j) }).sendOn p
            { type := 0x05, src := s.addr, payload := leBytes 1 k ++ leBytes 1 j }
      else if lock then s.recover p
      else s.setPt p { s.pt p with failed := some k }
    else s

/-- LANE_SWAP consumed: the transmitter starts the copy onto the spare. -/
def State.swapAsked (s : State) (p : Nat) (f : FlitIn) : State :=
  s.setPt p { s.pt p with txSwap := some (fieldAt f.payload 0 1 % 4, fieldAt f.payload 1 1 % 4) }

/-- A lane of port p retired, with its journal entry (R207, R633). -/
def State.laneRetired (s : State) (p k kind : Nat) : State :=
  let f := R.CHN_PT_STATUS_retired p
  let s := s.put f (setBit (s.get f) k)
  (s.setTln { s.tln with lanes := s.tln.lanes ++ [(kind, p + 2 * k)] }).jrnlWrite kind 0x02 (p + 2 * k) 0 (causeSource (18 + p))

/-- A field that names lane k names lane j from now on. -/
def State.relane (s : State) (f : Fld) (k j : Nat) : State := if s.get f = k then s.put f j else s

/-- A live swap ends at this side: the receiver takes the spare, or the transmitter retires the failing lane. -/
def State.swapDone (s : State) (p : Nat) (tx : Bool) : State :=
  let x := s.pt p
  if !s.ptActive p then s
  else if tx then match x.txSwap with
    | none => s
    | some (k, j) =>
      let s := s.setPt p { x with txSwap := none }
      ((s.relane (R.CHN_PT_STATUS_tx0 p) k j).relane (R.CHN_PT_STATUS_tx1 p) k j).laneRetired p k jLaneTx
  else match x.swap with
    | none => s
    | some (k, j) =>
      let s := s.setPt p { x with swap := none }
      let s := ((s.relane (R.CHN_PT_STATUS_rx0 p) k j).relane (R.CHN_PT_STATUS_rx1 p) k j).put
        (R.CHN_PT_STATUS_spare_ok p) 0
      let q := R.CHN_PT_STATUS_qualified p
      (s.put q (clearBits (s.get q) (2 ^ k))).laneRetired p k jLaneRx

/-! ### The commands -/

/-- PINTLE_PORT_ENABLE (R196). -/
def execPintlePortEnable (p : Fin 2) (s : State) : Host.Outcome State Fault Refusal := .next (s.whenUp fun s => s.portTrain p)

/-- PINTLE_LINK_ACTIVE (R196). -/
def execPintleLinkActive (p : Fin 2) (t : Training) (s : State) : Host.Outcome State Fault Refusal :=
  .next (settle (s.portUp p t))

/-- TRAINING_TIMEOUT (R197). -/
def execTrainingTimeout (p : Fin 2) (s : State) : Host.Outcome State Fault Refusal :=
  .next (if s.ptState p == 1 then s.setPt p { s.pt p with paused := true } else s)

/-- RETRAINING_PAUSE_END (R197). -/
def execRetrainingPauseEnd (p : Fin 2) (s : State) : Host.Outcome State Fault Refusal :=
  .next (if s.ptState p == 1 && (s.pt p).paused then
      (s.setPt p { s.pt p with paused := false }).sendTs1 p 0 false
    else s)

/-- RETRAIN (R198). -/
def execRetrain (p : Fin 2) (mid : BitVec 4) (s : State) : Host.Outcome State Fault Refusal :=
  .next (settle (s.whenUp fun s => s.ptCtlWrite p mid.toNat (setBit (s.ptCtl p) 2)))

/-- RECOVERY_TRAINING (R198). -/
def execRecoveryTraining (p : Fin 2) (t : Training) (s : State) : Host.Outcome State Fault Refusal :=
  .next (settle (s.recovered p t))

/-- LINK_SILENCE (R209). -/
def execLinkSilence (p : Fin 2) (s : State) : Host.Outcome State Fault Refusal := .next (settle (s.recover p))

/-- BLOCK_LOCK_LOSS (R209). -/
def execBlockLockLoss (p : Fin 2) (s : State) : Host.Outcome State Fault Refusal := .next (settle (s.recover p))

/-- ELECTRICAL_IDLE_DETECT (R209, R210). -/
def execElectricalIdleDetect (p : Fin 2) (s : State) : Host.Outcome State Fault Refusal :=
  .next (settle (if s.linked p then s.portDown p 0 else s))

/-- RECOVERY_TIMEOUT (R209, R210). -/
def execRecoveryTimeout (p : Fin 2) (s : State) : Host.Outcome State Fault Refusal :=
  .next (settle (if s.ptState p == 3 then s.portDown p 0 else s))

/-- PINTLE_PORT_DISABLE (R211). -/
def execPintlePortDisable (p : Fin 2) (mid : BitVec 4) (s : State) : Host.Outcome State Fault Refusal :=
  .next (settle (s.whenUp fun s => s.ptCtlWrite p mid.toNat (clearBits (s.ptCtl p) 1)))

/-- FLIT_REJECT (R204, R206). -/
def execFlitReject (p : Fin 2) (data parity : List Byte) (nak : Bool) (s : State) : Host.Outcome State Fault Refusal :=
  let r := rxFlit (data ++ parity)
  .next (settle (match s.rejects p r with
    | some why => s.reject p why r.fields nak
    | none => s))

/-- FLIT_MALFORMED (R183). -/
def execFlitMalformed (p : Fin 2) (data parity : List Byte) (s : State) : Host.Outcome State Fault Refusal :=
  let r := rxFlit (data ++ parity)
  .next (settle (if r.header && r.malformed && s.expects p r.fields then
      (s.acceptAs p (flitClass r.type) r.fields).ptRaise p 6
    else s))

/-- FLIT_FORWARD (R199). -/
def execFlitForward (p : Fin 2) (type : Byte) (f : FlitIn) (s : State) : Host.Outcome State Fault Refusal :=
  .next (settle (if s.passes p type.toNat f then s.forward p type.toNat f else s))

/-- IDLE (R203). -/
def execIdle (p : Fin 2) (f : FlitIn) (s : State) : Host.Outcome State Fault Refusal :=
  .next (s.unsequenced p f id)

/-- IDLE_SEND (R203). -/
def execIdleSend (p : Fin 2) (s : State) : Host.Outcome State Fault Refusal :=
  .next (if s.ptActive p then s.txFlit p { type := 0x00, src := s.addr } else s)

/-- NAK (R205): with a replay time-out due the replay is from the lower lseq, the oldest. -/
def execNak (p : Fin 2) (f : NakIn) (s : State) : Host.Outcome State Fault Refusal :=
  .next (settle (s.unsequenced p f.flit fun t =>
    t.resend p (if f.timeout then (t.pt p).unacked else fromSeq (fieldAt f.flit.payload 0 2) (t.pt p).unacked)))

/-- REPLAY_TIMEOUT (R205). -/
def execReplayTimeout (p : Fin 2) (s : State) : Host.Outcome State Fault Refusal :=
  .next (settle (if s.ptActive p then s.resend p (s.pt p).unacked else s))

/-- ANNOUNCE (R186). -/
def execAnnounce (p : Fin 2) (f : FlitIn) (s : State) : Host.Outcome State Fault Refusal :=
  .next (settle (s.broadcast p 0x02 .lc f fun t => t.announced p f))

/-- LINK_LOSS (R186). -/
def execLinkLoss (p : Fin 2) (f : FlitIn) (s : State) : Host.Outcome State Fault Refusal :=
  .next (settle (s.broadcast p 0x03 .lc f fun t => t.lossSeen f))

/-- LEAVING (R209). -/
def execLeaving (p : Fin 2) (f : FlitIn) (s : State) : Host.Outcome State Fault Refusal :=
  .next (settle (s.linkFlit p f fun t => t.portDown p 0))

/-- LANE_SWAP (R207). -/
def execLaneSwap (p : Fin 2) (f : FlitIn) (s : State) : Host.Outcome State Fault Refusal :=
  .next (settle (s.linkFlit p f fun t => t.swapAsked p f))

/-- LANE_SWAP_TRIGGER (R207, R208): `n` bytes corrected on receive lane k within one second, or its block lock lost
while its partner lane holds lock. -/
def execLaneSwapTrigger (p : Fin 2) (k : Fin 3) (n : BitVec 24) (lock : Bool) (s : State) :
    Host.Outcome State Fault Refusal :=
  .next (settle (s.laneFails p k n.toNat lock))

/-- LANE_SWAP_COMPLETE (R207): at the receiver, or at the transmitter. -/
def execLaneSwapComplete (p : Fin 2) (tx : Bool) (s : State) : Host.Outcome State Fault Refusal :=
  .next (settle (s.swapDone p tx))

end Sys2Proof.Machine
end

