-- ==== Sys2Proof/Machine/Pair.lean ====
section
/-!
DEFINITION. Standby pairs: heartbeats (R559), pair messages (R554, R567, R568), the epoch mirror protocol (R555–R558),
forming and dissolving a pair (R553, R561), takeover (R565, R566) and handover (R560).
-/

namespace Sys2Proof.Machine

/-- The unit is a bound pair member. -/
def State.member (s : State) : Bool := s.ldg.pair.bound

/-- LDG_PAIR.hb_ok. -/
def State.hbOk (s : State) : Bool := s.member && s.ldg.hbSeen && !s.ldg.hbLost

/-- The newest record of the current chain. -/
def Ledger.newestSeq (l : Ledger) : Nat := l.next - 1

/-- The pair state as it stands goes to flash, where no record carries the change. -/
def State.savePair (s : State) : State := s.setLdg { s.ldg with nvPair := s.ldg.pair }

def State.setPair (s : State) (p : Pair) : State := s.setLdg { s.ldg with pair := p }

/-- A message of the partner that R554 rejects. -/
def State.mismatch (s : State) : State := if s.member then s.ldgRaise 12 else s

/-! ### Pair messages (R554) -/

def opState : Nat := 1
def opBind : Nat := 2
def opUnbind : Nat := 3

/-- Payload of a pair message of a kind: request 0x20, answer 0xA0. -/
def State.pairPayload (s : State) (kind op role : Nat) : List Byte :=
  let l := s.ldg
  let b := leBytes 1 op ++ leBytes 1 role ++ leBytes 2 l.pair.term ++ leBytes 8 l.newestSeq ++ leBytes 8 l.mirrorSeq
    ++ leBytes 8 serial ++ leBytes 4 l.pair.id ++ zeros 4
  zeros 3 ++ leBytes 1 kind ++ b ++ leBytes 4 (crc32c b) ++ zeros 4

/-- A pair message sent to a unit, as a request or as the answer to one. -/
def State.pairSend (s : State) (unit op role : Nat) (answer : Bool) : State :=
  s.sendTo (if answer then 0x38 else 0x30) unit (s.pairPayload (if answer then 0xA0 else 0x20) op role)

/-- STATE sent to the partner. -/
def State.sendState (s : State) (answer : Bool) : State :=
  s.pairSend s.ldg.pair.partner opState s.ldg.pair.role answer

/-- Fields of a pair message. -/
def pmOp (pl : List Byte) : Nat := fieldAt pl 4 1
def pmRole (pl : List Byte) : Nat := fieldAt pl 5 1
def pmTerm (pl : List Byte) : Nat := fieldAt pl 6 2
def pmNewest (pl : List Byte) : Nat := fieldAt pl 8 8
def pmMirror (pl : List Byte) : Nat := fieldAt pl 16 8
def pmSerial (pl : List Byte) : Nat := fieldAt pl 24 8
def pmLedger (pl : List Byte) : Nat := fieldAt pl 32 4
def pmOk (pl : List Byte) : Bool := fieldAt pl 40 4 == crc32c ((pl.drop 4).take 36)

/-- A pair message from the bound partner, by address and serial. -/
def State.fromPartner (s : State) (f : FlitIn) : Bool :=
  s.member && f.src.toNat == s.ldg.pair.partner && pmSerial f.payload == s.ldg.pair.sn && pmOk f.payload && !f.poisoned

/-! ### Sending epochs (R555, R556, R558) -/

/-- Every retained record of the current chain, durable or staged. -/
def Ledger.allRecs (l : Ledger) : List (List Byte) := l.chainRecs l.pair.cur ++ l.staged.map (·.bytes)

/-- The records that the next epoch may take: all unsent ones, behind the newest SEAL at or before the first of them when
the epoch resynchronises. -/
def Ledger.epochFrom (l : Ledger) : List (List Byte) :=
  if !l.resync then l.unsent
  else match l.unsent with
    | [] => []
    | r :: _ =>
      let old := l.allRecs.filter fun x => ldgSeq x < ldgSeq r
      if ldgType r = tSeal then l.unsent
      else
        let tail := old.reverse.takeWhile (fun x => ldgType x != tSeal)
        let anchor := (old.reverse.drop tail.length).take 1
        anchor ++ tail.reverse ++ l.unsent

/-- Records of one epoch: up to 256 records and 65,536 bytes, ending with a SEAL or a HANDOVER; the SEAL that anchors a
resynchronisation does not end it. -/
def epochTake : Nat → Nat → Bool → List (List Byte) → List (List Byte)
  | 0, _, _, _ => []
  | _, _, _, [] => []
  | n + 1, room, anchor, r :: rs =>
    if room < r.length then []
    else if (ldgType r = tSeal && !anchor) || ldgType r = tHandover then [r]
    else r :: epochTake n (room - r.length) false rs

/-- Parts of an epoch's bytes, 40 at a time, with their offsets. -/
def epochParts : Nat → Nat → List Byte → List (Nat × List Byte)
  | 0, _, _ => []
  | n + 1, off, bs => if bs.isEmpty then [] else (off, bs.take 40) :: epochParts n (off + 40) (bs.drop 40)

/-- An epoch sent whole to the partner. -/
def State.sendEpoch (s : State) (e : Epoch) : State :=
  let dest := s.ldg.pair.partner
  let data := e.recs.flatten
  let b := leBytes 4 e.num ++ leBytes 8 ((e.recs.head?.map ldgSeq).getD 0) ++ leBytes 2 e.recs.length ++ leBytes 2 e.term
    ++ leBytes 4 data.length
  let x := leBytes 4 e.num ++ leBytes 2 e.recs.length ++ leBytes 2 e.term
  let s := s.sendTo 0x30 dest (zeros 3 ++ leBytes 1 0x10 ++ b ++ leBytes 4 (crc32c b) ++ zeros 20)
  let s := (epochParts 1640 0 data).foldl (fun t p =>
    t.sendTo 0x30 dest (zeros 3 ++ leBytes 1 0x11 ++ leBytes 4 p.1 ++ p.2)) s
  s.sendTo 0x30 dest (zeros 3 ++ leBytes 1 0x12 ++ x ++ leBytes 4 (crc32c (x ++ e.chain)) ++ e.chain)

/-- The term that an epoch carries: that in which its records were sequenced, which for a unit that has handed over is the
one before its present term (R557, R560). -/
def Ledger.epochTerm (l : Ledger) : Nat := if l.pair.role = 2 then (l.pair.term + 65535) % 65536 else l.pair.term

/-- The open epoch closed and sent, while fewer than two are unacknowledged. -/
def State.closeEpoch (s : State) : State :=
  let l := s.ldg
  let all := l.epochFrom
  if !l.feeding || l.unsent.isEmpty || 2 ≤ l.epochs.length then s
  else
    let recs := epochTake 256 65536 l.resync all
    let e : Epoch := { num := l.nextEpoch, term := l.epochTerm, recs := recs,
                       chain := recs.foldl chainAfter l.sentChain }
    let s := s.setLdg { l with unsent := all.drop recs.length, epochs := l.epochs ++ [e],
                               nextEpoch := (l.nextEpoch + 1) % 2 ^ 32, resync := false, sentChain := e.chain }
    (s.put R.LDG_EPOCH_epoch e.num).sendEpoch e

/-- The unacknowledged records and all later ones are to be sent again, from a mirror point on (R567, R568). -/
def State.resynchronise (s : State) (mirror : Nat) : State :=
  let l := s.ldg
  s.setLdg { l with feeding := true, resync := true, epochs := [], unsent := l.allRecs.filter fun r => mirror < ldgSeq r }

/-- LDG_MIRROR_SEQ of the unit that sends. -/
def State.setMirror (s : State) (n : Nat) : State := s.setLdg { s.ldg with mirrorSeq := n }

/-- A HANDOVER that waits for its epoch is answered when the mirror point reaches it (R560). -/
def State.handAnswered (s : State) : State :=
  match s.ldg.handing with
  | none => s
  | some (a, n) =>
    if n ≤ s.ldg.mirrorSeq then (s.setLdg { s.ldg with handing := none }).fwReply a rsOk (words2 n) else s

/-- EPOCH_ACK (R558). A COMMITTED epoch advances the mirror point; a DISCARDED one is sent again. -/
def State.epochAcked (s : State) (pl : List Byte) : State :=
  let l := s.ldg
  match l.epochs.find? fun e => e.num == fieldAt pl 4 4 with
  | none => s
  | some e =>
    if fieldAt pl 8 1 = 0 then
      let rest := (l.epochs.dropWhile fun x => x.num != e.num).drop 1
      let last := (e.recs.getLast?.map ldgSeq).getD l.mirrorSeq
      let s := s.setLdg { l with epochs := rest, mirrorSeq := last,
                                 feeding := l.feeding && !(l.pair.role == 2 && rest.isEmpty && l.unsent.isEmpty) }
      s.handAnswered
    else (s.sendEpoch e).ldgRaise 8

/-! ### Receiving epochs (R556, R557) -/

/-- A partial epoch discarded. -/
def State.dropStage (s : State) : State :=
  if s.ldg.stage.isSome then (s.setLdg { s.ldg with stage := none }).ldgRaise 7 else s

/-- EPOCH_BEGIN. -/
def State.epochBegin (s : State) (f : FlitIn) : State :=
  let pl := f.payload
  let s := s.dropStage
  let g : Stage :=
    { num := fieldAt pl 4 4, first := fieldAt pl 8 8, count := fieldAt pl 16 2, term := fieldAt pl 18 2,
      size := fieldAt pl 20 4, ok := fieldAt pl 24 4 == crc32c ((pl.drop 4).take 20), poisoned := f.poisoned }
  s.setLdg { s.ldg with stage := some g }

/-- EPOCH_DATA: bytes that follow on those staged. -/
def State.epochData (s : State) (f : FlitIn) : State :=
  match s.ldg.stage with
  | none => s
  | some g =>
    let fits := fieldAt f.payload 4 4 = g.data.length
    s.setLdg { s.ldg with stage := some { g with data := g.data ++ f.payload.drop 8, ok := g.ok && fits,
                                                 poisoned := g.poisoned || f.poisoned } }

/-- The records of an epoch's bytes, if each has a valid header and length. -/
def splitRecs : Nat → List Byte → Option (List (List Byte))
  | 0, bs => if bs.isEmpty then some [] else none
  | n + 1, bs =>
    if bs.isEmpty then some []
    else
      let len := ldgLength bs
      if 64 ≤ len && len ≤ 256 && len % 16 = 0 && len ≤ bs.length && ldgHeaderOk bs then
        (splitRecs n (bs.drop len)).map (bs.take len :: ·)
      else none

/-- A record follows on number n: the next one, or a RESTART that declares the gap (R547). -/
def runsOn (n : Nat) (r : List Byte) : Bool :=
  ldgSeq r == n || (ldgType r == tRestart && (fieldAt r 0x40 1).testBit 1 && fieldAt r 0x48 8 == n
    && fieldAt r 0x50 8 + 1 == ldgSeq r)

/-- The numbers of records run on from n. -/
def allRunOn : Nat → List (List Byte) → Bool
  | _, [] => true
  | n, r :: rs => runsOn n r && allRunOn (ldgSeq r + 1) rs

/-- An epoch may begin with a SEAL that anchors the standby's chain: after BIND or an exchange of STATE. -/
def Ledger.anchors (l : Ledger) (recs : List (List Byte)) : Bool :=
  match recs with
  | r :: _ => !l.anchored && ldgType r == tSeal && (l.next == 0 || ldgSeq r ≤ l.next)
  | [] => false

/-- The order of an epoch's records is right. -/
def Ledger.epochRuns (l : Ledger) (recs : List (List Byte)) : Bool :=
  match recs with
  | [] => false
  | r :: rs => if l.anchors recs then allRunOn (ldgSeq r + 1) rs else allRunOn l.next recs

/-- One mirrored record placed: a new mirror segment opens at a SEAL when the open one could not hold the 65 records up to
the next (R532). -/
def Ledger.mirror (l : Ledger) (r : List Byte) : Option Ledger :=
  let l := { l with pair := { l.pair with id := fieldAt r 0x10 4 } }
  let new := l.openSeg.isNone || (ldgType r = tSeal && segSize < l.fill + 16640)
  if !new then some (l.place r none)
  else if l.canOpen then some (({ l with next := ldgSeq r }.openNext true).place r none)
  else none

/-- The records of an epoch that the standby does not hold yet, placed in order. -/
def Ledger.mirrorAll : List (List Byte) → Ledger → Option Ledger
  | [], l => some l
  | r :: rs, l =>
    if ldgSeq r < l.next && l.openSeg.isSome then Ledger.mirrorAll rs l
    else match l.mirror r with
      | some m => Ledger.mirrorAll rs m
      | none => none

/-- Why a staged epoch is discarded, or the ledger with its records (R557): 1 CHECK, 2 SEQUENCE, 5 TERM, 3 CHAIN,
4 FULL. -/
def State.judgeEpoch (s : State) (g : Stage) (f : FlitIn) : Nat ⊕ Ledger :=
  let pl := f.payload
  let l := s.ldg
  let ok := g.ok && !g.poisoned && !f.poisoned && fieldAt pl 12 4 == crc32c ((pl.drop 4).take 8 ++ (pl.drop 16).take 32)
    && fieldAt pl 4 4 == g.num && fieldAt pl 8 2 == g.count && fieldAt pl 10 2 == g.term && g.data.length == g.size
  match splitRecs 257 g.data with
  | none => .inl 1
  | some recs =>
    if !ok || recs.length ≠ g.count then .inl 1
    else if (recs.head?.map ldgSeq) ≠ some g.first || !l.epochRuns recs then .inl 2
    else if g.term ≠ l.pair.term then .inl 5
    else if recs.foldl chainAfter (if l.anchors recs then [] else l.chain) ≠ (pl.drop 16).take 32 then .inl 3
    else match Ledger.mirrorAll recs l with
      | some m => .inr m
      | none => .inl 4

/-- EPOCH_ACK sent to the active unit. -/
def State.sendAck (s : State) (num reason : Nat) : State :=
  s.sendTo 0x38 s.ldg.pair.partner
    (zeros 3 ++ leBytes 1 0x90 ++ leBytes 4 num ++ leBytes 1 (b2n (reason != 0)) ++ leBytes 1 reason ++ zeros 2
      ++ leBytes 8 s.ldg.mirrorSeq ++ zeros 28)

/-- The term of a HANDOVER to this unit among records. -/
def handTerm (recs : List (List Byte)) : Option Nat :=
  (recs.find? fun r => ldgType r == tHandover && fieldAt r 0x40 8 == serial).map fun r => fieldAt r 0x48 2

/-- An epoch has been committed since BIND, by its number modulo 2³² (R555, R557). -/
def Ledger.hasEpoch (l : Ledger) (num : Nat) : Bool :=
  l.lastEpoch != 0 && (l.lastEpoch + 2 ^ 32 - num) % 2 ^ 32 < 2 ^ 31

/-- EPOCH_END. An epoch that is committed already is answered COMMITTED again, or once it is durable, and nothing of it is
written. -/
def State.epochEnd (s : State) (f : FlitIn) : State :=
  let num := fieldAt f.payload 4 4
  if s.ldg.hasEpoch num then
    let t := s.setLdg { s.ldg with stage := none }
    if s.ldg.commits.contains num then t else t.sendAck num 0
  else match s.ldg.stage with
  | none => s
  | some g =>
    let recs := (splitRecs 257 g.data).getD []
    let s := s.setLdg { s.ldg with stage := none }
    match s.judgeEpoch g f with
    | .inl reason => (s.ldgRaise 7).sendAck num reason
    | .inr m =>
      (s.setLdg { m with commits := m.commits ++ [num], lastEpoch := num, anchored := true,
                         handTo := (handTerm recs).or m.handTo }).put R.LDG_EPOCH_epoch num

/-- A committed HANDOVER makes the standby ACTIVE in the new term; it sequences a SEAL first (R560). -/
def State.handedOver (s : State) : State :=
  match s.ldg.handTo with
  | none => s
  | some t =>
    let l := s.ldg
    let s := s.setLdg { l with handTo := none, pair := { l.pair with role := 1, term := t }, grace := false,
                               feeding := true, resync := true, unsent := [], epochs := [] }
    s.savePair.ldgSealReq

/-- EPOCH_COMMIT: the mirrored records become durable, and each epoch is answered COMMITTED. -/
def State.epochCommit (s : State) : State :=
  let nums := s.ldg.commits
  if nums.isEmpty then s
  else
    let s := s.ldgFlush
    let s := s.setLdg { s.ldg with commits := [], mirrorSeq := s.ldg.newestSeq }
    (nums.foldl (fun t n => t.sendAck n 0) s).handedOver

/-! ### Heartbeats (R559, R565) -/

/-- A heartbeat accepted from the partner. -/
def State.heartbeat (s : State) : State :=
  let l := s.ldg
  let s := if l.hbLost then s.ldgRaise 4 else s
  let s := s.setLdg { s.ldg with hbSeen := true, hbLost := false, grace := false }
  if l.hbLost || !l.hbSeen then s.sendState false else s

/-- HEARTBEAT sent (R182, R212). -/
def State.sendHeartbeat (s : State) : State :=
  if !s.member then s
  else
    let n := s.ldg.hbSent + 1
    (s.setLdg { s.ldg with hbSent := n }).sendTo 0x06 s.ldg.pair.partner (leBytes 8 s.now ++ leBytes 4 n)

/-- No heartbeat for 5 ms. -/
def State.heartbeatLost (s : State) : State :=
  if !s.member || s.ldg.hbLost then s
  else (s.setLdg { s.ldg with hbLost := true, grace := s.ldg.pair.role == 2 }).ldgRaise 3

/-! ### Takeover (R566) -/

/-- 32 bytes that the manual does not state. -/
def State.freeChain (s : State) : State × List Byte :=
  (List.range 4).foldl (fun (t : State × List Byte) _ =>
    let d := t.1.drawFree
    (d.1, t.2 ++ leBytes 8 d.2)) (s, [])

/-- The SEAL at the head of a staged epoch, when it has arrived whole. -/
def Stage.seal (g : Stage) : Option (List Byte) :=
  let n := ldgLength g.data
  if 64 ≤ n && n ≤ g.data.length && ldgHeaderOk g.data && ldgType g.data == tSeal then some (g.data.take n) else none

/-- Where a takeover goes on (R566): behind the newest mirrored record. With no complete epoch after BIND, behind the anchor
SEAL of the first epoch, once that has begun, and else behind BIND (R658); the chain value there is a free one, but for an
anchor SEAL that has arrived. -/
def State.takeFrom (s : State) : State :=
  let l := s.ldg
  let go (t : State) (n covers : Nat) (c : List Byte) : State :=
    t.setLdg { t.ldg with next := n + 1, chain := c, covers := covers, sealSeq := covers - 1, since := n + 1 - covers }
  if l.openSeg.isSome then s
  else match l.stage with
    | some g =>
      match g.seal with
      | some r => go s g.first (g.first + 1) (chainAfter [] r)
      | none => go s.freeChain.1 g.first (g.first + 1) s.freeChain.2
    | none => go s.freeChain.1 l.pair.bindSeq l.pair.bindSeq s.freeChain.2

/-- A takeover: cause 0 for a host command, 1 automatic. Two records, TAKEOVER and a SEAL (R61). -/
def State.takeover (s : State) (cause : Nat) : State :=
  let s := s.takeFrom.dropStage.ldgFlush
  let l := s.ldg
  let time := (((l.chainRecs l.pair.cur).getLast?).map ldgTime).getD 0
  let term := (l.pair.term + 1) % 65536
  let s := s.setLdg { l with pair := { l.pair with role := 1, term := term }, grace := false, feeding := false,
                             epochs := [], unsent := [], commits := [], handTo := none, mirrorSeq := l.newestSeq,
                             shut := false }
  let body := leBytes 8 l.next ++ leBytes 8 l.pair.sn ++ leBytes 8 serial ++ leBytes 8 time ++ leBytes 2 term
    ++ leBytes 1 cause ++ zeros 13
  let s := match s.hwRoom tTakeover 112 with
    | some t => t.putHw tTakeover body
    | none => s.setLdg { s.ldg with due := .hw tTakeover body :: s.ldg.due }
  (s.ldgSealReq).ldgRaise 5

/-- The grace ends (R565). -/
def State.graceEnd (s : State) : State :=
  if !s.ldg.grace || s.on R.LDG_PAIR_CTL_hold then s
  else if s.on R.LDG_PAIR_CTL_auto then s.takeover 1
  else s.setLdg { s.ldg with grace := false }

/-! ### Pair messages received (R553, R561, R567, R568) -/

/-- An ACTIVE unit that meets an ACTIVE partner and must yield. -/
def State.yields (s : State) (term : Nat) : Bool :=
  s.ldg.pair.term < term || (s.ldg.pair.term == term && s.ldg.pair.partner < s.addr)

/-- The unit yields: to STANDBY where the partner's mirror point covers its chain, else to BRANCHED behind a closing
SEAL. -/
def State.yieldTo (s : State) (term mirror : Nat) : State :=
  let l := s.ldg
  if l.newestSeq ≤ mirror then
    (s.setLdg { l with pair := { l.pair with role := 2, term := term }, feeding := false, epochs := [], unsent := [],
                       anchored := false, mirrorSeq := l.newestSeq, grace := false }).savePair.refuseDue
  else
    let s := (s.ldgSealReq).ldgFlush
    let l := s.ldg
    ((s.setLdg { l with pair := { l.pair with role := 3, branchFirst := mirror + 1, branchLast := l.newestSeq },
                        feeding := false, epochs := [], unsent := [] }).savePair).refuseDue.ldgRaise 6

/-- The partner's role, term and mirror point are known. -/
def State.stateSeen (s : State) (role term mirror : Nat) : State :=
  let s := s.setLdg { s.ldg with seen := some (role, term) }
  let me := s.ldg.pair.role
  if me = 1 && role = 1 then (if s.yields term then s.yieldTo term mirror else s)
  else if me = 1 && role = 2 && term = s.ldg.pair.term then s.resynchronise mirror
  else if me = 2 && role = 1 then s.setLdg { s.ldg with anchored := false }
  else if me ≠ 1 && role ≠ 1 then s.ldgRaise 13
  else s

/-- A STATE pair message, or the answer to one. -/
def State.pairState (s : State) (f : FlitIn) (answer : Bool) : State :=
  if !s.fromPartner f then s.mismatch
  else
    let s := s.stateSeen (pmRole f.payload) (pmTerm f.payload) (pmMirror f.payload)
    if answer then s else s.sendState true

/-- The pair forms in a new term: the unit named ACTIVE sequences a SEAL and BIND, and the other starts to mirror the
partner's chain (R541, R553), of which the pair message gives the ledger ID and the newest number. BIND then is the second
record behind that (DEDUCED, log entry 123). -/
def State.formPair (s : State) (role partner sn term id newest : Nat) : State :=
  let l := s.ldg
  let base : Ledger := { l with binding := none, hbSeen := false, hbLost := false, grace := false, seen := none,
                                mirrorSeq := 0, epochs := [], unsent := [], nextEpoch := 1, lastEpoch := 0,
                                stage := none, commits := [] }
  if role = 0 then
    let s := s.setLdg { base with pair := { l.pair with role := 1, term := term, bound := true, partner := partner,
                                                        sn := sn },
                                  feeding := true, resync := true }
    let body := leBytes 8 serial ++ leBytes 8 sn ++ leBytes 2 s.addr ++ leBytes 2 partner ++ leBytes 2 term ++ zeros 10
    (s.ldgQueue .seal).ldgQueue (.hw tBind body)
  else
    let s := (s.setLdg base).ldgFlush
    let p := s.ldg.pair
    (s.setLdg { s.ldg with pair := { p with role := 2, term := term, bound := true, partner := partner, sn := sn,
                                            home := p.cur, homeId := p.id, cur := [], id := id,
                                            bindSeq := newest + 2 },
                           feeding := false, next := 0, chain := [], openSeg := none, anchored := false }).savePair.refuseDue

/-- A BIND pair message: it matches a request that names its sender and asks this unit for the same role. -/
def State.pairBind (s : State) (f : FlitIn) (answer : Bool) : State :=
  let pl := f.payload
  match s.ldg.binding with
  | some (a, partner, role) =>
    if partner = f.src.toNat && pmRole pl = role && pmOk pl && !f.poisoned then
      let term := (max s.ldg.pair.term (pmTerm pl) + 1) % 65536
      let s := if answer then s else s.pairSend partner opBind (1 - role) true
      (s.formPair role partner (pmSerial pl) term (pmLedger pl) (pmNewest pl)).fwReply a rsOk []
    else s
  | none => s

/-- The unit leaves its pair (R561). -/
def State.unbind (s : State) : State :=
  let s := s.dropStage.ldgFlush
  let l := s.ldg
  let out : Ledger := { l with grace := false, feeding := false, epochs := [], unsent := [], commits := [],
                               handTo := none, seen := none, hbLost := false, hbSeen := false }
  let none_ (p : Pair) : Pair := { p with role := 0, bound := false, branchFirst := 0, branchLast := 0 }
  if l.pair.role = 2 then
    (s.setLdg (out.resume { none_ l.pair with cur := l.pair.home, home := [], id := l.pair.homeId })).savePair
  else
    let s := (s.setLdg { out with pair := none_ l.pair }).savePair
    if l.pair.role = 1 then s.ldgQueue (.hw tUnbind (leBytes 2 l.pair.term ++ zeros 14)) else s

/-- An UNBIND pair message of the present term. -/
def State.pairUnbind (s : State) (f : FlitIn) : State :=
  if !s.fromPartner f then s.mismatch
  else if pmTerm f.payload = s.ldg.pair.term then s.unbind else s

/-! ### The power-fail sequence (R116) -/

/-- Step 3 on an active pair member: its epochs are closed and sent, and acknowledged or not. -/
def State.mirrorAtPowerFail (s : State) (acked : Bool) : State :=
  if s.ldg.pair.role ≠ 1 || !s.member then s
  else
    let s := s.closeEpoch.closeEpoch
    match s.ldg.epochs.getLast? with
    | some e => if acked then s.setLdg { s.ldg with epochs := [], mirrorSeq := (e.recs.getLast?.map ldgSeq).getD 0 } else s
    | none => s

/-! ### The commands -/

/-- A flit of the mirror protocol from the partner; any other sender's is counted and ignored. -/
def State.mirrorFlit (s : State) (p : Nat) (rsp : Bool) (f : FlitIn) (g : State → State) : State :=
  s.ldgFlit p rsp f fun t => if t.member && f.src.toNat == t.ldg.pair.partner then g t else t.mismatch

/-- The unit mirrors. -/
def State.asStandby (s : State) (g : State → State) : State := if s.ldg.pair.role = 2 then g s else s

/-- HEARTBEAT (R559). -/
def execHeartbeat (p : Fin 2) (f : FlitIn) (s : State) : Host.Outcome State Fault Refusal :=
  .next (settle (s.prgFlit p .lc f fun t =>
    if t.member && f.src.toNat == t.ldg.pair.partner then t.heartbeat else t.mismatch))

/-- HEARTBEAT_SEND (R212). -/
def execHeartbeatSend (s : State) : Host.Outcome State Fault Refusal := .next s.sendHeartbeat

/-- HEARTBEAT_LOSS (R559). -/
def execHeartbeatLoss (s : State) : Host.Outcome State Fault Refusal := .next (settle s.heartbeatLost)

/-- EPOCH_CLOSE (R555). -/
def execEpochClose (s : State) : Host.Outcome State Fault Refusal := .next s.closeEpoch

/-- EPOCH_BEGIN (R556). -/
def execEpochBegin (p : Fin 2) (f : FlitIn) (s : State) : Host.Outcome State Fault Refusal :=
  .next (settle (s.mirrorFlit p false f fun t => t.asStandby fun u => u.epochBegin f))

/-- EPOCH_DATA (R556). -/
def execEpochData (p : Fin 2) (f : FlitIn) (s : State) : Host.Outcome State Fault Refusal :=
  .next (settle (s.mirrorFlit p false f fun t => t.asStandby fun u => u.epochData f))

/-- EPOCH_END (R557). -/
def execEpochEnd (p : Fin 2) (f : FlitIn) (s : State) : Host.Outcome State Fault Refusal :=
  .next (settle (s.mirrorFlit p false f fun t => t.asStandby fun u => u.epochEnd f))

/-- EPOCH_COMMIT (R557). -/
def execEpochCommit (s : State) : Host.Outcome State Fault Refusal := .next (settle s.epochCommit)

/-- EPOCH_ACK (R558). -/
def execEpochAck (p : Fin 2) (f : FlitIn) (s : State) : Host.Outcome State Fault Refusal :=
  .next (settle (s.mirrorFlit p true f fun t => t.epochAcked f.payload))

/-- EPOCH_RESEND_TIMEOUT (R558): of the older or the newer of the unacknowledged epochs. -/
def execEpochResendTimeout (newer : Bool) (s : State) : Host.Outcome State Fault Refusal :=
  .next (settle (match s.ldg.epochs[b2n newer]? with
    | some e => (s.sendEpoch e).ldgRaise 8
    | none => s))

/-- PAIR_STATE (R567, R568). -/
def execPairState (p : Fin 2) (rsp : Bool) (f : FlitIn) (s : State) : Host.Outcome State Fault Refusal :=
  .next (settle (s.ldgFlit p rsp f fun t => t.pairState f rsp))

/-- PAIR_BIND_MESSAGE (R553). -/
def execPairBindMessage (p : Fin 2) (rsp : Bool) (f : FlitIn) (s : State) : Host.Outcome State Fault Refusal :=
  .next (settle (s.ldgFlit p rsp f fun t => t.pairBind f rsp))

/-- PAIR_UNBIND_MESSAGE (R561). -/
def execPairUnbindMessage (p : Fin 2) (rsp : Bool) (f : FlitIn) (s : State) : Host.Outcome State Fault Refusal :=
  .next (settle (s.ldgFlit p rsp f fun t =>
    let u := t.pairUnbind f
    if rsp || !t.fromPartner f then u else u.pairSend f.src.toNat opUnbind u.ldg.pair.role true))

/-- PAIR_HOLD (R565). -/
def execPairHold (mid : BitVec 4) (value : W32) (s : State) : Host.Outcome State Fault Refusal :=
  .next (s.whenUp fun s => s.writeFlds mid.toNat value.toNat [R.LDG_PAIR_CTL_hold])

/-- TAKEOVER_GRACE_EXPIRY (R565). -/
def execTakeoverGraceExpiry (s : State) : Host.Outcome State Fault Refusal := .next (settle s.graceEnd)

end Sys2Proof.Machine
end

