-- ==== Sys2Proof/Machine/HostIf.lean ====
section
/-!
DEFINITION. The host attachment: completions and their time-outs (R238–R240), credits (R235), bus mastering (R241),
refused requests (R230), the resets and states of the link (R251–R254, R259), and interrupt messages (R247, R248).
-/

namespace Sys2Proof.Machine

/-! ### Completions (R238–R240) -/

/-- What a completion brings for a control structure: its bytes, or none for a structure whose check fails. -/
def controlData : Cpl → Option (List Byte)
  | .ok d => some d
  | _ => none

/-- What a completion brings for payload: its bytes and poison mark, or none. -/
def payload : Cpl → Option (List Byte × Bool)
  | .ok d => some (d, false)
  | .poisoned d => some (d, true)
  | .failed => none
  | .aborted => none

/-- A read of function f that has ended is handed to what asked for it. -/
def State.readDone (s : State) (r : HostRead) (c : Cpl) : State :=
  let d := controlData c
  match r.purpose with
  | .entries sq n => s.entriesArrive sq n d
  | .admin n => s.adminArrive n d
  | .ccw tag => s.ccwArrives tag d
  | .prgTable tag => s.prgTableArrives tag d
  | .table tag => s.tableArrives tag d
  | .data tag =>
    let p := payload c
    s.dataArrives tag r.len (p.map (·.1)) ((p.map (·.2)).getD false)
  | .fw n =>
    match tget s.fwReads n with
    | some x => { s with fwReads := tset s.fwReads n { x with got := some c } }
    | none => s

/-- Poisoned TLP Received: logged, and poisoned_rx set (R238, R258). -/
def State.poisonedRx (s : State) (f : Nat) : State := (s.aer f .poisoned).hifRaise 3 f

/-- What a read is for is payload, and not a control structure (R238). -/
def ReadFor.isPayload : ReadFor → Bool
  | .data _ => true
  | _ => false

/-- What a completion leaves in the error registers (R238): EP is logged, as an advisory error for payload; Unsupported
Request and Completer Abort show in Status. Poison of a completion is also Master Data Parity Error where Parity Error
Response is 1. -/
def State.cplErrors (s : State) (f : Nat) (p : ReadFor) : Cpl → State
  | .ok _ => s
  | .poisoned _ =>
    let t := if p.isPayload then (s.aerAdvisory f .poisoned).hifRaise 3 f else s.poisonedRx f
    if s.on (R.CFG_CMD_parity f) then t.put (R.CFG_STATUS_master_parity f) 1 else t
  | .failed => s.put (R.CFG_STATUS_rcv_master f) 1
  | .aborted => s.put (R.CFG_STATUS_rcv_abort f) 1

/-- The reads of function f whose requests have all ended are handed on, one after the other. -/
def State.readsDone (f : Nat) : Nat → State → State
  | 0, s => s
  | n + 1, s =>
    match s.takeRead f with
    | some (r, t) => State.readsDone f n (t.readDone r r.result)
    | none => s

/-- A request of function f has ended: its read too, if it was the last one, and others may be issued. -/
def State.partDone (s : State) (f id : Nat) (c : Cpl) : State :=
  (State.readsDone f (s.fn f).reads.length (s.endPart f id c)).issueReads f

/-- A completion for request `id` of function f (R238, R240): one of an abandoned read is discarded, and one that matches
nothing is logged. While the link is down none arrives. -/
def State.completion (s : State) (f id : Nat) (c : Cpl) : State :=
  if !s.on R.INT_LINK_up then s
  else
    let x := s.fn f
    match x.reads.find? fun r => r.parts.any fun q => q.id == id && q.out with
    | some r => (s.cplErrors f r.purpose c).partDone f id c
    | none =>
      if x.late.contains id then s.setFn f { x with late := x.late.erase id } else s.aer f .unexpCpl

/-- A request gets no completion within its time-out, issued or not (R239): not one that R241 holds before its issue, and
none while the time-out is disabled. -/
def State.cplTimeout (s : State) (f id : Nat) : State :=
  match (s.fn f).parts.find? fun q => q.id == id && q.got.isNone with
  | none => s
  | some q =>
    if s.on (R.CFG_DEVCTL2_cto_disable f) || (!q.issued && !s.busMaster f) then s
    else ((s.aer f .cplTimeout).hifRaise 4 f).partDone f id .failed

/-! ### Credits and bus mastering (R235, R241, R257) -/

/-- Staged interrupt messages of function f withdrawn, and their pending bits set (R257). -/
def State.unstageMsix (s : State) (f : Nat) : State :=
  let x := s.fn f
  x.posts.foldl (fun t p => match p.kind with
    | .msix v => t.put (R.MSIX_PBA_pending f) (setBit (t.get (R.MSIX_PBA_pending f)) v)
    | _ => t)
    (s.setFn f { x with posts := x.posts.filter fun p => match p.kind with
                          | .msix _ => false
                          | _ => true })

/-- Everything that function f holds back and may issue leaves (R234, R241). -/
def State.release (s : State) (f : Nat) : State := ((s.drain f).issueReads f).sendCancels f

/-- Bus Master Enable and the D-state of function f take new values. What is held no longer holds back completions
(R231). -/
def State.busMasterSet (s : State) (f : Nat) (bme d3 : Bool) : State :=
  let s := (s.flag (R.CFG_CMD_bme f) bme).flag (R.CFG_PM_d3 f) d3
  if s.busMaster f then s.release f
  else
    let t := s.unstageMsix f
    t.cplRelease t.cplWait.length

/-! ### Function-level reset (R253) -/

/-- Configuration space, MSI-X table and INT registers of function f at their reset values; sticky fields stay. -/
def flrFields (f : Nat) : List Fld :=
  [R.CFG_CMD_mse f, R.CFG_CMD_bme f, R.CFG_PM_d3 f, R.CFG_DEVCTL_mps f, R.CFG_DEVCTL_ext_tag f, R.CFG_DEVCTL_mrrs f,
   R.CFG_DEVCTL2_cto_value f, R.CFG_DEVCTL2_cto_disable f, R.CFG_DEVCTL2_tag10 f, R.CFG_MSIX_mask f,
   R.CFG_CMD_parity f, R.CFG_CMD_serr f, R.CFG_DEVCTL_cor_en f, R.CFG_DEVCTL_nonfatal_en f, R.CFG_DEVCTL_fatal_en f,
   R.CFG_DEVCTL_ur_en f, R.CFG_DEVCTL_relaxed f, R.CFG_DEVCTL_no_snoop f, R.CFG_DEVCTL2_ido_req f,
   R.CFG_DEVCTL2_ido_cpl f, R.CFG_STATUS_master_parity f, R.CFG_STATUS_sig_abort f, R.CFG_STATUS_rcv_abort f,
   R.CFG_STATUS_rcv_master f, R.CFG_STATUS_sig_error f, R.CFG_STATUS_parity f, R.CFG_DEVSTA_cor f,
   R.CFG_DEVSTA_nonfatal f, R.CFG_DEVSTA_fatal f, R.CFG_DEVSTA_ur f, R.CFG_LINKCTL_aspm f, R.CFG_LINKCTL_rcb f,
   R.CFG_LINKCTL_common f, R.CFG_LINKCTL_extended f, R.CFG_MISC_line_size f, R.CFG_INTLINE_line f,
   R.CFG_MSIX_enable f, R.CFG_BAR0_addr f, R.CFG_BAR2_addr f, R.CFG_BAR4_addr f, R.MSIX_PBA_pending f,
   R.INT_PF_EN_en f]
    ++ (List.range 4).flatMap fun x =>
      [R.MSIX_ADDR_addr f x, R.MSIX_DATA_data f x, R.MSIX_VCTL_mask f x, R.INT_PF_MSG_CNT_count f x]

/-- Programs of queues owned by function f end at once, without a record. -/
def State.flrPrograms (s : State) (f : Nat) : State :=
  (s.progs.filter fun e => e.2.fn == f).foldl (fun t e =>
    let t := t.stopOp e.1
    { t with progs := tdel t.progs e.1, ops := tdel t.ops e.1 }) s

/-- The registers of rings and queues that function f owns at their cold values (R325). -/
def State.flrQueueFields (s : State) (f : Nat) : State :=
  let s := (s.rings.filter fun e => e.2.owner == f && e.2.exist).foldl (fun t e =>
    t.cold [R.QMG_CR_EVT_cause e.1, R.QMG_CR_INT_en e.1, R.QMG_CR_INT_threshold e.1, R.QMG_CR_INT_delay e.1,
            R.QMG_CR_CNT_count e.1 0, R.QMG_CR_CNT_count e.1 1, R.QMG_CR_CNT_count e.1 2]) s
  (s.sqs.filter fun e => e.2.owner == f && e.2.state != 0).foldl (fun t e => t.cold [R.QMG_SQ_TAGS_tag_max e.1]) s

/-- Queues and rings owned by function f are destroyed. -/
def State.flrQueues (s : State) (f : Nat) : State :=
  let s := s.flrQueueFields f
  let s := if s.on R.QMG_ADM_CTL_enable && s.get R.QMG_ADM_CTL_owner = f || s.admStop && (s.sq 0).owner = f then
      { (s.put R.QMG_ADM_CTL_enable 0).put R.QMG_ADM_CTL_owner 0 with admin := [], admStop := false }
    else s
  { s with sqs := s.sqs.filter (fun e => e.2.owner != f || e.2.state == 0),
           rings := s.rings.filter fun e => e.2.owner != f || !e.2.exist }

/-- Far access slots of function f are emptied. -/
def State.flrSlots (s : State) (f : Nat) : State :=
  let mine (w : ReqOwner) : Bool := match w with
    | .slot g _ => g == f
    | _ => false
  let s := { s with reqs := s.reqs.filter (fun e => !mine e.2.owner), lxbQ := s.lxbQ.filter (fun r => !mine r.owner),
                    slotParts := s.slotParts.filter fun e => e.1 / 8 != f }
  s.cold ((List.range 8).flatMap fun k => [R.HNG_FAS_DATA_state f k, R.HNG_FAS_DATA_data f k])

/-- Mailbox messages that wait for MID f are discarded. -/
def State.flrMail (s : State) (f : Nat) : State :=
  (List.range 16).foldl (fun t c => if t.isReceiver c f then t.setChan c { t.chan c with queue := [] } else t) s

/-- Copies that MID f has asked for and that have not been made are not made (R287). -/
def State.flrGo (s : State) (f : Nat) : State :=
  (List.range 16).foldl (fun t c =>
    let x := t.chan c
    if x.going && x.goBy.1 == f then t.setChan c { x with going := false, goRelease := false } else t) s

/-- Reads of firmware for commands of MID f are abandoned. DESIGN CHOICE, log entry 118: a command that came by mailbox is
answered NO_RESOURCE, as after a failed read; one of SQ 0 goes with its queue. -/
def State.flrFw (s : State) (f : Nat) : State :=
  let l := (s.fwReads.filter fun e => e.2.req.mid == f && !e.2.req.queued).map (·.2.req.asked)
  l.foldl (fun t a => t.fwReply a rsNoResource []) (s.dropFw fun r => r.mid == f)

/-- The effects of a function-level reset of f. -/
def State.flrEffect (s : State) (f : Nat) : State :=
  let s := ((s.flrPrograms f).flrQueues f).flrGo f
  let s := s.setFn f { late := ((s.fn f).abandon fun _ => true).late }
  let s := { s with cancels := s.cancels.filter fun c => c.1 != f }
  let s := (s.cold (flrFields f)).flrSlots f
  let s := (s.freeTumblers fun h => h.1 == f).freeSems fun h => h.1 == f
  ((s.lxbFree f).flrMail f).flrFw f

/-- FUNCTION_LEVEL_RESET: flr0 or flr1 set (R258). A pending warm or unit reset absorbs it (R22). -/
def State.flr (s : State) (f : Nat) : State := if s.resetDue.isSome then s else (s.flrEffect f).hifRaise f f

/-- The PCIe interface takes requests: its link is up, which it is not while PERST_N is low, in a reset of the unit, and
in KEEP and OFF (R251, R254, R255). -/
def State.hostUp (s : State) : Bool := s.on R.INT_LINK_up && s.isUp

/-! ### The link (R251, R252, R254, R259) -/

/-- INT_LINK of a link that is down. -/
def State.linkFields (s : State) (up width speed : Nat) : State :=
  ((s.put R.INT_LINK_up up).put R.INT_LINK_width width).put R.INT_LINK_speed speed

/-- The link goes down for a reason other than a reset of the unit: link_down when it was up, and both functions
reset. -/
def State.pcieDown (s : State) : State :=
  let was := s.on R.INT_LINK_up
  let s := { s.linkFields 0 0 0 with cplWait := [] }
  let s := if was then s.hifRaise 2 0 else s
  (s.flrEffect 0).flrEffect 1

/-- Boot step 3 has ended since the last reset, so that the link may train (R252). -/
def State.linkMayTrain (s : State) : Bool :=
  s.on R.INT_LINK_perst_n && s.running && 3 ≤ s.get R.GLB_BOOT_STATUS_stage

/-- The link reaches L0 with a width and speed. -/
def State.pcieUp (s : State) (x2 : Bool) (speed : Nat) : State :=
  if s.linkMayTrain && !s.on R.INT_LINK_up then s.linkFields 1 (if x2 then 2 else 1) (speed + 1) else s

/-- PERST_N falls. -/
def State.perstLow (s : State) : State := (s.put R.INT_LINK_perst_n 0).pcieDown

/-! ### Refused requests (R230) -/

/-- The register-access source counts a refused access at a BAR0 offset. -/
def State.barRefused (s : State) (f off : Nat) : State := s.accessRefused off { mid := f }

/-- An error of the link, which both functions report (R243). -/
def State.linkError (s : State) : LinkErr → State
  | .receiver => (s.aerCor 0 .receiver).aerCor 1 .receiver
  | .badTlp => (s.aerCor 0 .badTlp).aerCor 1 .badTlp
  | .badDllp => (s.aerCor 0 .badDllp).aerCor 1 .badDllp
  | .rollover => (s.aerCor 0 .rollover).aerCor 1 .rollover
  | .replayTimer => (s.aerCor 0 .replayTimer).aerCor 1 .replayTimer
  | .dataLink => (s.aer 0 .dataLink).aer 1 .dataLink
  | .flowControl => (s.aer 0 .flowControl).aer 1 .flowControl
  | .overflow => (s.aer 0 .overflow).aer 1 .overflow
  | .malformed => (s.aer 0 .malformed).aer 1 .malformed

/-- An inbound request that is not performed, or an error of the link or of the staging that comes with a packet. -/
def State.inboundBad (s : State) (f : Nat) : BadReq → State
  | .longRead off => (((s.aer f .cplAbort).barRefused f off.toNat).hifRaise 5 f).complete (.completion 2 0)
  | .longWrite off => ((s.aer f .cplAbort).barRefused f off.toNat).hifRaise 5 f
  | .pageRead => ((s.aer f .cplAbort).hifRaise 5 f).complete (.completion 2 0)
  | .pageWrite off => (s.barRefused f off.toNat).hifRaise 5 f
  | .unsupportedRead => ((s.aer f .unsupReq).hifRaise 5 f).complete (.completion 1 0)
  | .unsupportedPosted => (s.aer f .unsupReq).hifRaise 5 f
  | .vendorType1 => s
  | .link e => s.linkError e
  | .staging uncorr => if uncorr then s.aer f .uncorInt else s.aerCor f .internal

/-- What a read is for is entries of a submission queue. -/
def ReadFor.isEntries : ReadFor → Bool
  | .entries _ _ => true
  | .admin _ => true
  | _ => false

/-- The oldest request of a function that is out and fetches entries. -/
def State.entryRead (s : State) (f : Nat) : Option HostPart :=
  (((s.fn f).reads.filter (·.purpose.isEntries)).flatMap (·.parts)).find? (·.out)

/-! ### The commands -/

/-- POSTED_CREDIT_RETURN (R235). -/
def execPostedCreditReturn (n : BitVec 12) (s : State) : Host.Outcome State Fault Refusal :=
  .next (({ s with postCredit := s.postCredit + n.toNat }.drain 0).drain 1)

/-- NONPOSTED_CREDIT_RETURN (R235). -/
def execNonpostedCreditReturn (n : BitVec 12) (s : State) : Host.Outcome State Fault Refusal :=
  .next (({ s with readCredit := s.readCredit + n.toNat }.issueReads 0).issueReads 1)

/-- BUS_MASTER_CHANGE (R241). -/
def execBusMasterChange (fn : Fin 2) (bme d3 : Bool) (s : State) : Host.Outcome State Fault Refusal :=
  .next (if s.hostUp then s.busMasterSet fn bme d3 else s)

/-- FUNCTION_LEVEL_RESET (R253). -/
def execFunctionLevelReset (fn : Fin 2) (s : State) : Host.Outcome State Fault Refusal :=
  .next (settle (if s.hostUp then s.flr fn else s))

/-- HOT_RESET (R251). -/
def execHotReset (s : State) : Host.Outcome State Fault Refusal := .next (settle s.pcieDown)

/-- PCIE_LINK_DOWN (R251). -/
def execPcieLinkDown (s : State) : Host.Outcome State Fault Refusal := .next (settle s.pcieDown)

/-- PERST_ASSERT (R251). -/
def execPerstAssert (s : State) : Host.Outcome State Fault Refusal := .next (settle s.perstLow)

/-- PCIE_LINK_UP (R252): at ×2 or ×1, at speed 0 for 2.5 to 3 for 16.0 GT/s. -/
def execPcieLinkUp (x2 : Bool) (speed : Fin 4) (s : State) : Host.Outcome State Fault Refusal :=
  .next (s.pcieUp x2 speed)

/-- LINK_WIDTH_DEGRADE (R259). -/
def execLinkWidthDegrade (s : State) : Host.Outcome State Fault Refusal :=
  .next (if s.on R.INT_LINK_up then s.put R.INT_LINK_width 1 else s)

/-- INBOUND_UNSUPPORTED_REQUEST (R230). -/
def execInboundUnsupportedRequest (fn : Fin 2) (k : BadReq) (s : State) : Host.Outcome State Fault Refusal :=
  .next (settle (if s.hostUp then s.inboundBad fn k else s))

/-- POISONED_WRITE_RX (R230). -/
def execPoisonedWriteRx (fn : Fin 2) (s : State) : Host.Outcome State Fault Refusal :=
  .next (settle (if s.hostUp then s.poisonedRx fn else s))

/-- MSIX_MESSAGE (R247): the gated level of source x of a function seen again. -/
def execMsixMessage (fn : Fin 2) (x : Fin 4) (s : State) : Host.Outcome State Fault Refusal := .next (s.levelSeen fn x)

/-- INTERRUPT_REARM (R247). -/
def execInterruptRearm (fn : Fin 2) (value : BitVec 4) (s : State) : Host.Outcome State Fault Refusal :=
  .next (if s.answers then s.rearm fn value.toNat else s)

/-- MSIX_PENDING_SEND (R248). -/
def execMsixPendingSend (fn : Fin 2) (x : Fin 4) (s : State) : Host.Outcome State Fault Refusal :=
  .next (s.msixPending fn x)

end Sys2Proof.Machine
end

