-- ==== Sys2Proof/Machine/Reset.lean ====
section
/-!
DEFINITION. Cold, warm and unit reset: what they leave, and how a warm or unit reset waits for the ledger
(R19–R23, R54, R76, R77, R90, R107, R149, R254, R546, R692).
-/

namespace Sys2Proof.Machine

/-! ### What a reset leaves -/

/-- The repair journal is all of Talon that a reset keeps; boot step 5 replays it (R149, R624). -/
def Talon.afterReset (t : Talon) : Talon := { journal := t.journal }

/-- The upstream staging of a function after a reset has taken the link down: completions of the requests that were out
will be discarded (R240). -/
def Upstream.afterReset (x : Upstream) : Upstream := { late := (x.abandon fun _ => true).late }

/-- Everything at its cold value but flash, fuses and Hasp slots (R19). What the model records of its surroundings, and
its own bookkeeping, stays. -/
def State.coldReset (s : State) : State :=
  { State.reset with
    pending := s.pending, free := s.free, flashFails := s.flashFails, flashReads := s.flashReads, kcLines := s.kcLines,
    out := s.out, nv := s.nv, tln := s.tln.afterReset, ldg := s.ldg.afterReset, pf0 := s.pf0.afterReset,
    pf1 := s.pf1.afterReset, nextRead := s.nextRead, gpioIn := s.gpioIn, presIn := s.presIn,
    capIn := s.capIn, lxbIrq := s.lxbIrq, sup := { below := s.sup.below, feed := s.sup.feed }, coldBoot := true }

/-- The registers that keep their value at warm and unit reset (R20, R23). -/
def keepsWarm (key : Nat) : Bool :=
  match regAt 0 (key / 64) with
  | some r => r.flds.any fun f => f.key == key && f.keep
  | none => false

/-- A byte port after a warm reset: only the levels of its lines. -/
def BytePort.lines (x : BytePort) : BytePort := { ctsN := x.ctsN, line := x.line }

/-- The register window of the Keychain after a reset: a pending access has ended without a result (R216). -/
def Window.afterReset (w : Window) : Window := if w.st = .pending then { w with st := .error, result := 0 } else w

/-- Trace registers, which lose their values at the exit from KEEP and OFF (R684). -/
def trcFields : List Fld :=
  [R.TRC_CTL_en, R.TRC_CTL_mode, R.TRC_CTL_class, R.TRC_STATUS_wr_ptr, R.TRC_STATUS_wrapped, R.TRC_STATUS_stopped,
   R.TRC_ENTRIES_count, R.TRC_EVT_cause, R.TRC_STOP_DROP_CNT_count]
    ++ (List.range 3).map R.TRC_EVT_CNT_count

/-- The counters of the fault collector, which lose their values at the exit from KEEP and OFF (R610). -/
def fltCounters : List Fld := (List.range 128).flatMap fun n => [R.FLT_SRC_TOTAL_count n, R.FLT_SRC_SEV_CNT_count n]

/-- A warm or unit reset takes effect (R19–R21, R54, R77, R107, R149, R254): no completion is posted, the PCIe link
goes down, the Pintle links stay, and the unit is in ACTIVE. One that ends KEEP or OFF loses the trace
and the collector's counters too. -/
def State.warmReset (s : State) (a : ResetAsk) : State :=
  let s := s.pinsRelease
  let kept := s.regs.filter fun e => keepsWarm e.1
  let t : State :=
    { State.reset with
      pending := s.pending, free := s.free, flashFails := s.flashFails, flashReads := s.flashReads, kcLines := s.kcLines,
      out := s.out, nv := s.nv, tln := s.tln.afterReset, ldg := s.ldg.afterReset, pf0 := s.pf0.afterReset,
      pf1 := s.pf1.afterReset,
      nextRead := s.nextRead, regs := kept, cycle := s.cycle, up := s.up, dn := s.dn,
      window := s.window.afterReset, pinParked := s.pinParked, gpioIn := s.gpioIn, presIn := s.presIn,
      capIn := s.capIn, lxbIrq := s.lxbIrq,
      sers := (s.sers.map fun e => (e.1, e.2.lines)).filter fun e => e.2 != {},
      sup := s.sup, coldBoot := false, romRun := if a.cause = 6 then s.romRun + 1 else 0,
      slept := if 2 ≤ s.power then s.power else 0, sleptAt := s.sleptAt, wokeAt := s.wokeAt, trcBuf := s.trcBuf,
      sinkLag := s.sinkLag, boundary := s.boundary,
      dap := s.dap.afterReset, tap := s.tap }
  let t := if 2 ≤ s.power then { t.cold (trcFields ++ fltCounters) with trcBuf := [], sinkLag := 0 } else t
  (((t.put R.GLB_RESET_CAUSE_cause a.cause).flag R.GLB_RESET_CAUSE_switch_req a.switch).put R.GLB_RESET_CAUSE_mid
    (if a.cause = 2 then a.mid else 0)).put R.INT_LINK_perst_n (s.get R.INT_LINK_perst_n)

/-! ### Pending resets -/

def causePin : Nat := 1
def causeSoft : Nat := 2
def causeUnit : Nat := 3
def causeWake : Nat := 4
def causeWatchdog : Nat := 5
def causeRomLockstep : Nat := 6

/-- Of resets that are pending together the lower rank gives the cause (R22, R151): PIN, SOFT, UNIT, WAKE, WATCHDOG. -/
def causeRank (c : Nat) : Nat := if c = 1 then 0 else if c = 2 then 1 else if c = 3 then 2 else if c = 4 then 3 else 4

/-- A request that is pending and a later one, absorbed into one reset: switch_req is that of the first (R22, R151). -/
def ResetAsk.join (a b : ResetAsk) : ResetAsk :=
  let c := if causeRank b.cause < causeRank a.cause then b else a
  { c with switch := a.switch }

/-- A warm or unit reset requested: it waits for the ledger (R546). In KEEP and OFF it is what wakes the unit, at the
time of this request (R107, R664). The power-fail sequence runs to its end whatever is asked (R118). -/
def State.askReset (s : State) (a : ResetAsk) : State :=
  if s.failing then s else
  let s := if 2 ≤ s.power && s.resetDue.isNone then { s with wokeAt := s.now } else s
  { s with resetDue := some (match s.resetDue with
             | some b => b.join a
             | none => a) }

/-- The pending reset takes effect, once the ledger has written SHUTDOWN with cause 3 and a SEAL (R546, R692). -/
def State.resetEffect (s : State) : State :=
  match s.resetDue with
  | none => s
  | some a => (s.ldgShutdown 3).warmReset a

/-! ### Levels that follow from the state (R79) -/

/-- RSTOUT_N: low in reset until boot step 9, in KEEP and OFF, and from step 5 of the power-fail sequence. -/
def State.rstoutN (s : State) : Bool :=
  s.running && 3 ≤ s.get R.GLB_BOOT_STATUS_stage && s.isUp && s.sup.pf < 5

/-- SAFE_N: low in reset, in OFF, in ACTIVE and QUIET after a safe stop, and from step 1 of the power-fail sequence;
released otherwise. -/
def State.safeN (s : State) : Bool := s.isUp && s.power != 3 && !(s.running && s.safe) && !s.failing

/-- An interrupt pin, driven low while its level is 1 (R250); released in reset, KEEP and OFF, and from step 5 of the
power-fail sequence. -/
def State.intN (s : State) (x : Nat) : Bool := !(s.isUp && s.running && s.sup.pf < 5 && s.pinLevel x)

/-- What Pintle, PCIe and Ethernet lands do (R79): Pintle transmitters of port p, the PCIe transmitters, and the PHY of
ETHm are active; otherwise they are in electrical idle, and a PHY is off with its lines at high impedance. -/
def State.pintleActive (s : State) (p : Nat) : Bool := s.running && s.sup.pf < 3 && 1 ≤ s.ptState p && s.ptState p ≤ 3
def State.pcieActive (s : State) : Bool := s.running && s.sup.pf < 5 && s.on R.INT_LINK_up
def State.phyOn (s : State) (m : Nat) : Bool := s.isUp && s.portRuns clsEth m

/-- AUX_3V3 and AUX_5V0 are on (R98), until step 6 of the power-fail sequence ends. -/
def State.aux3On (s : State) : Bool := s.phase != .held && s.power != 3
def State.aux5On (s : State) : Bool := s.phase != .held && s.running

/-! ### The commands -/

/-- RST_N_ASSERT (R691, R692). The power-fail sequence ignores it (R703). -/
def execRstNAssert (s : State) : Host.Outcome State Fault Refusal :=
  .next (if s.phase = .held then s else s.askReset { cause := causePin })

/-- WARM_RESET_EFFECT (R692). -/
def execWarmResetEffect (s : State) : Host.Outcome State Fault Refusal :=
  .next (settle s.resetEffect)

/-- A write of GLB_RESET (R160): the key, the MIDs that may write warm, and switch from MID 2. In HALT it has no effect
(R155). -/
def State.glbResetWrite (s : State) (mid v : Nat) : State :=
  if s.phase = .halted then s
  else if bits v 16 16 = 0xD740 && v.testBit 0 && [0, 1, 2, 4].contains mid then
    s.askReset { cause := causeSoft, switch := v.testBit 1 && mid == 2, mid := mid }
  else s

/-- GLB_RESET_WARM (R160). -/
def execGlbResetWarm (mid : BitVec 4) (value : W32) (s : State) : Host.Outcome State Fault Refusal :=
  .next (s.whenUp fun s => s.glbResetWrite mid.toNat value.toNat)

/-- The watchdog runs and has not been served for its time-out (R156). -/
def State.wdogDue (s : State) : Bool :=
  s.on R.GLB_WDOG_CTL_running && s.wdogAt + 1000 * s.get R.GLB_WDOG_CTL_timeout ≤ s.now

/-- WATCHDOG_EXPIRY (R156). -/
def execWatchdogExpiry (s : State) : Host.Outcome State Fault Refusal :=
  .next (if s.wdogDue then s.askReset { cause := causeWatchdog } else s)

/-- The boot ROM serves in recovery (R153). -/
def State.romServes (s : State) : Bool := s.isUp && s.get R.GLB_BOOT_STATUS_stage == 5

/-- ROM_LOCKSTEP (R155): while the boot ROM runs. Before step 9 the ledger has not resumed, and the reset waits for
nothing. -/
def execRomLockstep (s : State) : Host.Outcome State Fault Refusal :=
  .next (if s.phase = .asserted || s.phase = .noClock then s.warmReset { cause := causeRomLockstep }
    else if s.romServes then s.askReset { cause := causeRomLockstep }
    else s)

/-- CP_LOCKSTEP_HALT (R62, R151): firmware stops, the watchdog stops, and Tumblers of MID 2 are freed (R268). -/
def execCpLockstepHalt (s : State) : Host.Outcome State Fault Refusal :=
  .next (settle (if s.cpHalted || !s.isUp || s.romServes then s
    else
      let s := { s.put R.GLB_WDOG_CTL_running 0 with cpHalted := true }
      ((s.adminAbort.dropFw fun _ => true).freeTumblers fun h => h.1 == 2).fault { src := 0 }))

/-- A write of GLB_WDOG_KICK (R160). -/
def State.wdogKick (s : State) (mid v : Nat) : State :=
  if mid = 2 && v % 65536 = 0x4B1C then { s with wdogAt := s.now } else s

/-- WATCHDOG_KICK (R160). -/
def execWatchdogKick (mid : BitVec 4) (value : BitVec 16) (s : State) : Host.Outcome State Fault Refusal :=
  .next (s.whenUp fun s => s.wdogKick mid.toNat value.toNat)

end Sys2Proof.Machine
end

