-- ==== Sys2Proof/Machine/Supply.lean ====
section
/-!
DEFINITION. Supply bands and cold reset (R93–R96), power states (R101–R108, R664), the hold-up store and its gauge
(R109–R115, R123–R125), and the power-fail sequence (R106, R116–R122).
-/

namespace Sys2Proof.Machine

/-- A PWR_STATUS cause set: 0 low_band, 1 over, 2 dip, 3 done, 4 refused, 5 aux_fault; aux_fault is an event of
source 29. -/
def State.pwrRaise (s : State) (bit : Nat) : State :=
  if bit = 5 then s.raiseF R.PWR_STATUS_cause 5 (R.PWR_CNT_count 5) 29 0
  else s.raise R.PWR_STATUS_cause bit (R.PWR_CNT_count bit)

/-- A HUP_STATUS cause set: 0 not_ready, 1 disagree, 2 selftest_fail, 3 recal_done, at bits 8–11; disagree is the one
cause of source 8, and selftest_fail is an event of source 29. -/
def State.hupRaise (s : State) (bit : Nat) : State :=
  let s := s.raise R.HUP_STATUS_cause bit (R.HUP_CNT_count bit)
  if bit = 1 then s.fault { src := 8 }
  else if bit = 2 then s.fault { src := 29, detail := 10 }
  else s

/-! ### Bands (R93–R96) -/

/-- Cold reset asserted and held by the power stage, with the rails fed or not (R95, R96). -/
def State.holdCold (s : State) (feed : Feed) : State :=
  let t := { s.coldReset with phase := .held }
  t.setSup { t.sup with feed := feed }

/-- A sample of PWR_IN in units of 10 mV. -/
def State.supplySample (s : State) (vin : Nat) : State :=
  if s.phase = .held then s
  else
    let low := 1500 ≤ vin && vin < 1800
    let high := 8000 < vin
    let s := if low && !s.on R.PWR_STATUS_in_low then s.pwrRaise 0 else s
    let s := if high && !s.on R.PWR_STATUS_in_over then s.pwrRaise 1 else s
    let s := if s.sup.below && 1500 ≤ vin then s.pwrRaise 2 else s
    let s := ((s.put R.PWR_VIN_vin vin).flag R.PWR_STATUS_in_low low).flag R.PWR_STATUS_in_over high
    s.setSup { s.sup with below := vin < 1500 }

/-! ### The store (R109–R115, R123, R124) -/

/-- The charger can charge: not in the low band, where it pauses, nor above 16.5 V, nor after a charger fault (R93, R123,
R124). -/
def State.chargerRuns (s : State) : Bool :=
  !s.on R.PWR_STATUS_in_low && !s.sup.overVolt && s.sup.failed != some 7

/-- Floor voltage in mV. -/
def State.vFloor (s : State) : Nat := 6000 + 50 * s.get R.HUP_CFG_v_floor

/-- The energy above the floor, in mJ, of a store of capacitance C (0.1 mF) at a voltage (mV). -/
def energyAt (c floor v : Nat) : Nat := c * (v * v - floor * floor) / 20000000

/-- The energy above the floor, in mJ, that a charge (µC) stands for. -/
def energyOf (c floor q : Nat) : Nat := (100 * q * q - c * c * floor * floor) / (20000000 * c)

/-- E_Q, from the charge counter, and E_V, from the store voltage (R113). -/
def State.eCharge (s : State) : Nat := energyOf (s.get R.HUP_CAP_value) s.vFloor s.sup.charge
def State.eVolt (s : State) : Nat := energyAt (s.get R.HUP_CAP_value) s.vFloor (s.get R.HUP_VSTORE_value)

/-- The estimates differ by more than the larger of 1,000 mJ and 20 % of the larger one (R114). -/
def State.apart (s : State) : Bool :=
  let a := s.eCharge
  let b := s.eVolt
  max 5000 (max a b) < 5 * ((a - b) + (b - a))

/-- Reasons of NOT_READY other than too little energy that are in force. -/
def Supply.reasons (x : Supply) : List Nat :=
  (if x.overVolt then [5] else []) ++ (if x.calReason ≠ 0 then [x.calReason] else []) ++ (if x.disagree then [1] else [])

/-- Reason of a state that is not READY (R109, R127): of the reasons in force the one that arose last; none for READY,
ABSENT and CHARGING. DESIGN CHOICE, log entry 93: the manual gives the reasons no order. -/
def State.storeReason (s : State) : Nat :=
  match s.sup.failed with
  | some r => r
  | none =>
    let l := s.sup.reasons
    if !s.sup.overVolt && (s.sup.absent || !s.sup.passed) then 0
    else if l.contains s.sup.latest then s.sup.latest
    else if !l.isEmpty then l.headD 0
    else if s.get R.HUP_E_USABLE_value < s.get R.HUP_EREQ_ereq then 2
    else 0

/-- HUP_STATUS.state as R109 gives it. -/
def State.storeState (s : State) : Nat :=
  if s.sup.failed.isSome then 4
  else if s.sup.overVolt then 3
  else if s.sup.absent then 0
  else if !s.sup.passed then 1
  else if s.storeReason = 0 then 2 else 3

/-- The state judged again: not_ready and an entry to OVERVOLT are reported, and write-through follows (R109, R112,
R124). -/
def State.judgeStore (s : State) : State :=
  let old := s.get R.HUP_STATUS_state
  let oldReason := s.get R.HUP_STATUS_reason
  let new := s.storeState
  let reason := s.storeReason
  let s := if old = 2 && new ≠ 2 then s.hupRaise 0 else s
  let s := if new = 3 && reason = 5 && !(old = 3 && oldReason = 5) then s.fault { src := 29, detail := 8 } else s
  let s := if new = 4 && old ≠ 4 then s.hupRaise 2 else s
  ((s.put R.HUP_STATUS_state new).put R.HUP_STATUS_reason reason).flag R.HUP_STATUS_write_through (new != 2)

/-- The estimates written to the gauge registers (R113). DESIGN CHOICE, log entry 94: an estimate above the 20 bits of its
register shows as 2²⁰ − 1. -/
def State.showGauge (s : State) : State :=
  let a := s.eCharge
  let b := s.eVolt
  let top := 2 ^ 20 - 1
  ((s.put R.HUP_E_CHARGE_value (min top a)).put R.HUP_E_VOLT_value (min top b)).put R.HUP_E_USABLE_value
    (min top (min a b))

/-- A recalibration starts: with a discharge while the store is above 12.0 V (R115). None starts in the power-fail
sequence, whose discharge is stopped (R120), nor with a charger that has stopped for good (R123). -/
def State.recalibrate (s : State) : State :=
  if s.sup.pf ≠ 0 || s.sup.failed = some 7 then s
  else s.setSup { s.sup with cal := if 12000 < s.get R.HUP_VSTORE_value then .discharge else .recharge }

/-- 16 updates in a row have disagreed (R114). -/
def State.disagrees (s : State) : State :=
  ((s.setSup { s.sup with disagree := true, latest := 1, count := 0 }).hupRaise 1).recalibrate

/-- An update of the gauge: store voltage in mV, and the charge that flowed in less the charge that flowed out since the
last update, in µC (R113, R114). Disagreements count while no calibration runs. DESIGN CHOICE, log entry 94: a charge
counter that the flow would take below 0 stops at 0. -/
def State.gauge (s : State) (v : Nat) (flow : Int) : State :=
  let x := s.sup
  let q := ((x.charge : Int) + flow - x.leak).toNat
  let s := s.put R.HUP_VSTORE_value v
  let s := s.setSup { x with charge := q, absent := x.absent && v < 1000, topUp := x.topUp && v < 15000 }
  let s := s.showGauge
  let s := if s.sup.cal ≠ .none then s
    else if !s.apart then s.setSup { s.sup with count := 0 }
    else if s.sup.count + 1 < 16 then s.setSup { s.sup with count := s.sup.count + 1 }
    else s.disagrees
  s.judgeStore

/-- What a calibration finds wrong, in the order of R110: 4 CAPACITANCE, 3 ESR, 2 ENERGY, or 0. -/
def State.calFault (s : State) (cap esr : Nat) : Nat :=
  if cap < 500 || 20000 < cap then 4
  else if 50000 * s.get R.HUP_CFG_v_floor < 1333 * esr then 3
  else if energyAt cap s.vFloor 15000 < s.get R.HUP_EREQ_ereq then 2
  else 0

/-- A calibration ends at 15.0 V (R110, R111, R115): the charge counted from 12.0 V in µC, the voltage step at the end of
the charge current in µV, the store voltage in mV, and the leakage in µC for each update. None ends while the charger
does not charge. DESIGN CHOICE, log entry 95: a capacitance or ESR above the 16 bits of HUP_CAP or HUP_ESR is kept modulo
65,536, and the gauge goes on with what the registers hold; the conditions of R110 judge the full results. -/
def State.calEnd (s : State) (counted step v leak : Nat) : State :=
  let kind := s.sup.cal
  if kind = .none || kind = .discharge || !s.chargerRuns then s
  else
    let cap := counted / 300
    let esr := step / (5 * s.get R.HUP_CFG_charge_current)
    let bad := s.calFault cap esr
    let s := ((s.put R.HUP_CAP_value cap).put R.HUP_ESR_value esr).put R.HUP_VSTORE_value v
    let s := (s.setSup { s.sup with cal := .none, charge := cap * 1500, leak := leak, count := 0, absent := false }).hupRaise
      3
    let s := s.showGauge
    let s := if kind = .selfTest then
        (if bad = 0 then s.setSup { s.sup with passed := true, calReason := 0 }
         else s.setSup { s.sup with failed := some bad })
      else
        s.setSup { s.sup with calReason := bad, latest := if bad = 0 then s.sup.latest else bad,
                              disagree := s.sup.disagree && !(bad == 0 && !s.apart) }
    s.judgeStore

/-- The store has FAILED with a reason (R110, R123). -/
def State.storeFails (s : State) (reason : Nat) : State :=
  (s.setSup { s.sup with failed := some reason, cal := .none, absent := false, topUp := false }).judgeStore

/-- A charger fault: the charger stops, and the store has FAILED with reason CHARGER (R123). A store that has already
FAILED takes the new reason, and selftest_fail is set again. -/
def State.chargerFault (s : State) : State :=
  if s.sup.failed = some 7 then s
  else if s.sup.failed.isSome then (s.storeFails 7).hupRaise 2
  else s.storeFails 7

/-! ### Power states (R101–R107) -/

/-- Outcomes of a request. -/
def prOk : Nat := 0
def prQueues : Nat := 1
def prPaired : Nat := 2
def prBadTarget : Nat := 3
def prBusy : Nat := 4

def State.pwrResult (s : State) (r : Nat) : State :=
  let s := s.put R.PWR_STATE_last_result r
  if r = prOk then s else s.pwrRaise 4

/-- Ports that have queues or operations, by class and index. -/
def allPorts : List (Nat × Nat) :=
  [clsCan, clsLin, clsSent, clsSer, clsCard, clsEth, clsGpio, clsLxb].flatMap fun c =>
    (List.range (portCount c)).map fun i => (c, i)

/-- Ports that the present power state stops end what is under way on them (R98, R360, R390). -/
def State.portsStop (s : State) : State :=
  (allPorts.filter fun p => s.portStopped p.1 p.2).foldl (fun t p => t.portOff p.1 p.2 stBadDevice 0x02) s

/-- Pintle ports that QUIET idles: LEAVING, then DOWN, a training abandoned. Two that go DOWN together send no LINK_LOSS
(R215, R216). -/
def State.quietIdle (s : State) : State :=
  let t := (if s.quietIdles 0 then s.leave 0 2 else s)
  let t := (if s.quietIdles 1 then t.leave 1 2 else t)
  if s.quietIdles 0 && s.quietIdles 1 then ((t.portLost 0 0).portLost 1 0).setPosition.1
  else if s.quietIdles 0 then t.portDown 0 0
  else if s.quietIdles 1 then t.portDown 1 0
  else t

/-- A port that QUIET idled trains again on the return to ACTIVE (R215). -/
def State.quietTrain (s : State) (p : Nat) : State := if s.quietIdles p then s.portTrain p else s

/-- Entry to QUIET by a MID, or 0xF for a Keychain frame (R104, R127, R664). -/
def State.enterQuiet (s : State) (who : Nat) : State :=
  let s := s.trace .always { type := 0x41, mid := who, status := 1, arg0 := who }
  let s := { s with trcPaused := true, wakeCount := 0 }
  ((s.quietSet.put R.PWR_STATE_current 1).pinsStop).portsStop.quietIdle

/-- Return to ACTIVE from QUIET (R104, R215, R664). -/
def State.exitQuiet (s : State) : State :=
  let n := s.wakeCount
  let s := (s.put R.PWR_STATE_current 0).pinsResume
  let s := { s with trcPaused := false, wakeCount := 0 }
  (((s.trace .always { type := 0x42, arg0 := s.now, arg1 := n }).quietTrain 0).quietTrain 1).ethsSettle

/-- An accepted entry to KEEP or OFF: step 1 of R105. Appends are refused from here on (R563). -/
def State.enterLow (s : State) : State :=
  { s.put R.PWR_STATE_busy 1 with sq0Stop := true }.setLdg { s.ldg with closed := true }

/-- Some SQ 1–255 exists. -/
def State.anySq (s : State) : Bool := s.sqs.any fun e => e.1 != 0 && e.2.state != 0

/-- What R103 answers a request for a target. -/
def State.pwrJudge (s : State) (t : Nat) : Nat :=
  if s.on R.PWR_STATE_busy then prBusy
  else if t = s.power then prOk
  else if s.running then (if t < 2 then prOk else if s.anySq then prQueues else if s.member then prPaired else prOk)
  else if t = 1 then prBadTarget else prOk

/-- The exit from KEEP or OFF begins (R107). -/
def State.wake (s : State) : State :=
  ((s.put R.PWR_STATE_target 0).put R.PWR_STATE_busy 1).askReset { cause := causeWake }

/-- An accepted transition to another state begins. Each has busy at 1 until a later core cycle (R103, R120). -/
def State.pwrGo (s : State) (who t : Nat) : State :=
  let s := s.put R.PWR_STATE_busy 1
  if s.running then (if t = 1 then s.enterQuiet who else if t = 0 then s.exitQuiet else s.enterLow)
  else if t = 0 then s.wake
  else s.put R.PWR_STATE_current t

/-- The core cycle in which a transition without a wait of its own ends: busy falls and done is set (R108, R127). Log
entry 96. -/
def State.pwrTick (s : State) : State :=
  if s.on R.PWR_STATE_busy && s.get R.PWR_STATE_target == s.power then (s.put R.PWR_STATE_busy 0).pwrRaise 3 else s

/-- A request for a power state by a MID, or 0xF for a Keychain frame (R101, R103). During the power-fail sequence it is
ignored (R121). -/
def State.pwrRequest (s : State) (who t : Nat) : State :=
  if s.phase = .held || s.failing then s
  else
    let r := s.pwrJudge t
    let s := s.pwrResult r
    if r ≠ prOk then s
    else
      let s := s.put R.PWR_STATE_target t
      if t = s.power then s else s.pwrGo who t

/-- A write of PWR_STATE by a MID (R101). -/
def State.pwrStateWrite (s : State) (mid v : Nat) : State :=
  if [0, 1, 2, 4].contains mid then s.pwrRequest mid (bits v 0 2) else s

/-- The drain wait of an entry to KEEP or OFF ends, and the rest of R105 follows. -/
def State.drainEnd (s : State) : State :=
  if !s.on R.PWR_STATE_busy || !s.running || !s.sq0Stop || s.failing then s
  else
    let t := s.get R.PWR_STATE_target
    let s := s.admin.foldl (fun u _ => u.fault { src := 7 }) s
    let s := settle ((s.adminAbort).ldgShutdown (t - 2))
    let s := ((s.pinsRelease).portsIdle 0).pcieDown
    let s := { settle s with sleptAt := s.now, sq0Stop := false }
    ((((s.put R.PWR_STATE_current t).put R.PWR_STATE_busy 0).put R.GLB_WDOG_CTL_running 0).put R.CLK_STATUS_pll_lock
      0).pwrRaise 3

/-- PERST_N rises (R252, R255). -/
def State.perstHigh (s : State) : State :=
  let s := s.put R.INT_LINK_perst_n 1
  if 2 ≤ s.power && s.get R.PWR_STATE_target ≠ 0 && s.phase = .up && !s.failing then s.wake else s

/-! ### The power-fail sequence (R106, R116–R121) -/

/-- The full sequence runs: not in KEEP and OFF, nor while an exit from them is under way (R106, R120). -/
def State.pfFull (s : State) : Bool := s.running && !(2 ≤ s.slept && !s.isUp)

/-- Step 1: appends without a sequence number are discarded, and an image session closes (R116, R148). -/
def State.pfStep1 (s : State) : State :=
  let s := { s with img := none }
  (s.setLdg { s.ldg with closed := true, due := s.ldg.due.filter fun i => match i with
                           | .append _ => false
                           | _ => true }).kcRaise 3

/-- Step 3: the epoch, whose acknowledgement comes or not, and Pintle to electrical idle when the step ends. -/
def State.pfStep3 (s : State) (acked : Bool) : State :=
  let active := s.ldg.pair.role = 1 && s.member
  let s := { (s.mirrorAtPowerFail acked) with pfAcked := active && acked }
  s.portsIdle 1

/-- Step 4: SHUTDOWN with cause 2, a SEAL and the log; the reduced sequence writes no SHUTDOWN. -/
def State.pfStep4 (s : State) (step4 energy : Nat) : State :=
  let ready := s.get R.HUP_STATUS_state == 2
  let full := s.pfFull
  let s := if full then s.ldgShutdown 2 else s
  let log : PfLog := { shutdown := full && s.ldg.shut, flushed := full, acked := s.pfAcked, ready := ready,
                       step4 := step4 % 65536, energy := energy % 65536, time := s.now }
  { s with nv := { s.nv with pfLog := some log } }

/-- Step 5: every land parks, PCIe goes to electrical idle, and the Ethernet PHYs turn off. -/
def State.pfStep5 (s : State) : State :=
  let s := s.pinsRelease.pcieDown
  (List.range 7).foldl (fun t m => t.ethLinkTo m false) s

/-- Step 6: the unit stops, and its lands keep their park levels until the cutoff (R81, R118). -/
def State.pfStep6 (s : State) : State := { s.holdCold .stopped with pinParked := s.pinParked }

/-- The next step of the sequence: whether step 3 receives its acknowledgement, and what the log of step 4 is to say. In
the reduced sequence only steps 4 and 6 run. -/
def State.pfStep (s : State) (acked : Bool) (step4 energy : Nat) : State :=
  let k := if s.sup.pf = 0 && !s.pfFull then 4 else if s.sup.pf = 4 && !s.pfFull then 6 else s.sup.pf + 1
  let s := if s.sup.pf = 0 then
      { (s.put R.TLN_STATUS_repairing 0).setSup { s.sup with cal := if s.sup.cal = .discharge then .none else s.sup.cal } with
        resetDue := none, pfAcked := false }
    else s
  let s := s.setSup { s.sup with pf := k }
  if k = 1 then s.pfStep1
  else if k = 2 then s.ldgFlush
  else if k = 3 then s.pfStep3 acked
  else if k = 4 then s.pfStep4 step4 energy
  else if k = 5 then s.pfStep5
  else s.pfStep6

/-- The next `n` steps of the sequence. It starts only while PWR_IN is below 15.0 V, and then runs on whatever PWR_IN does
(R118). -/
def State.powerFail (acked : Bool) (step4 energy : Nat) : Nat → State → State
  | 0, s => s
  | n + 1, s =>
    if s.phase = .held || (s.sup.pf = 0 && !s.sup.below) then s
    else State.powerFail acked step4 energy n (s.pfStep acked step4 energy)

/-! ### The commands -/

/-- SUPPLY_APPLIED (R95). -/
def execSupplyApplied (s : State) : Host.Outcome State Fault Refusal := .next (s.holdCold .fed)

/-- START_UP_QUALIFIED (R95, R109). A unit that the power-fail sequence has stopped starts here too (R118). -/
def execStartUpQualified (s : State) : Host.Outcome State Fault Refusal :=
  .next (if s.phase = .held then { s with phase := .asserted, sup := {}, pinParked := [] } else s)

/-- CUTOFF (R82, R96): nothing feeds the rails any more. -/
def execCutoff (s : State) : Host.Outcome State Fault Refusal := .next (s.holdCold .off)

/-- SUPPLY_SAMPLE (R93): PWR_IN in units of 10 mV. -/
def execSupplySample (vin : BitVec 16) (s : State) : Host.Outcome State Fault Refusal :=
  .next (settle (s.supplySample vin.toNat))

/-- POWER_FAIL_SEQUENCE (R116): the next `steps` steps of the sequence, all six where none has run. Log entry 97. -/
def execPowerFailSequence (steps : Fin 7) (acked : Bool) (step4 energy : BitVec 16) (s : State) :
    Host.Outcome State Fault Refusal :=
  .next (settle (s.powerFail acked step4.toNat energy.toNat steps))

/-- GAUGE_UPDATE (R113, R114). -/
def execGaugeUpdate (v : BitVec 20) (flow : Int) (s : State) : Host.Outcome State Fault Refusal :=
  .next (settle (s.gauge v.toNat flow))

/-- RECALIBRATION_DISCHARGE_END (R115). -/
def execRecalibrationDischargeEnd (s : State) : Host.Outcome State Fault Refusal :=
  .next (if s.sup.cal = .discharge then s.setSup { s.sup with cal := .recharge } else s)

/-- CALIBRATION_END (R111). -/
def execCalibrationEnd (counted step : BitVec 26) (v : BitVec 20) (leak : BitVec 16) (s : State) :
    Host.Outcome State Fault Refusal :=
  .next (settle (s.calEnd counted.toNat step.toNat v.toNat leak.toNat))

/-- SELF_TEST_TIMEOUT (R110): reason TIMEOUT. The limit pauses with the charger in the low band (R120). -/
def execSelfTestTimeout (s : State) : Host.Outcome State Fault Refusal :=
  .next (settle (if s.sup.cal = .selfTest && !s.on R.PWR_STATUS_in_low then s.storeFails 6 else s))

/-- ABSENT_DETECT (R109): after 1 s of charging. -/
def execAbsentDetect (s : State) : Host.Outcome State Fault Refusal :=
  .next (settle (if s.sup.cal = .selfTest && s.chargerRuns then (s.setSup { s.sup with absent := true }).judgeStore
    else s))

/-- TOP_UP (R100): in KEEP and OFF, while the charger can charge. -/
def execTopUp (s : State) : Host.Outcome State Fault Refusal :=
  .next (if s.running || !s.chargerRuns then s else s.setSup { s.sup with topUp := true })

/-- CHARGER_FAULT (R123). -/
def execChargerFault (s : State) : Host.Outcome State Fault Refusal := .next (settle s.chargerFault)

/-- HUP_OVERVOLT (R124): the charger stops. -/
def execHupOvervolt (s : State) : Host.Outcome State Fault Refusal :=
  .next (settle ((s.setSup { s.sup with overVolt := true, latest := 5, topUp := false }).judgeStore))

/-- HUP_OVERVOLT_END (R124): the charger resumes. -/
def execHupOvervoltEnd (s : State) : Host.Outcome State Fault Refusal :=
  .next (settle ((s.setSup { s.sup with overVolt := false }).judgeStore))

/-- AUX_FOLD_BACK (R125): of AUX_5V0, or of AUX_3V3. -/
def execAuxFoldBack (five : Bool) (s : State) : Host.Outcome State Fault Refusal :=
  .next (settle ((s.setSup (if five then { s.sup with fold5 := true } else { s.sup with fold3 := true })).pwrRaise 5))

/-- AUX_RETRY (R125). -/
def execAuxRetry (five : Bool) (s : State) : Host.Outcome State Fault Refusal :=
  .next (s.setSup (if five then { s.sup with fold5 := false } else { s.sup with fold3 := false }))

/-- PWR_STATE_WRITE (R103). -/
def execPwrStateWrite (mid : BitVec 4) (value : W32) (s : State) : Host.Outcome State Fault Refusal :=
  .next (settle (s.pwrStateWrite mid.toNat value.toNat))

/-- ENTRY_DRAIN_END (R105). -/
def execEntryDrainEnd (s : State) : Host.Outcome State Fault Refusal := .next (settle s.drainEnd)

/-- PERST_DEASSERT (R252). -/
def execPerstDeassert (s : State) : Host.Outcome State Fault Refusal := .next s.perstHigh

end Sys2Proof.Machine
end

