-- ==== Sys2Proof/Machine/Thermal.lean ====
section
/-!
DEFINITION. Thermal management: samples with cross-checking and substitution, the thermal state and its actions, the
limits and the issue duty (R572–R592).
-/

namespace Sys2Proof.Machine

/-! ### Sensors (R572, R573, R581, R589) -/

/-- The neighbours of sensor k (R572). -/
def thmNeighbours (k : Nat) : List Nat :=
  [[1, 2, 6], [0, 3, 6, 7], [0, 3, 4], [1, 2, 5, 7], [2, 5, 8], [3, 4, 8], [0, 1], [1, 3], [4, 5]].getD k []

/-- A value put into a rising list. -/
def insertInt (x : Int) : List Int → List Int
  | [] => [x]
  | y :: ys => if x ≤ y then x :: y :: ys else y :: insertInt x ys

/-- The median; of an even number of values the mean of the two middle ones, rounded up (R573). -/
def median (l : List Int) : Int :=
  let s := l.foldr insertInt []
  let n := s.length
  if n % 2 = 1 then s.getD (n / 2) 0 else (s.getD (n / 2 - 1) 0 + s.getD (n / 2) 0 + 1) / 2

/-- A sample of one sensor: its raw value in steps of 0.125 °C, and whether the conversion failed. -/
abbrev Reading := BitVec 12 × Bool

def rawOf (l : List Reading) (k : Nat) : Int := (l.getD k (0, true)).1.toInt
def convFailed (l : List Reading) (k : Nat) : Bool := (l.getD k (0, true)).2

/-- The raw values of the neighbours of k that are not suspect. -/
def neighbourRaws (l : List Reading) (sus : List Bool) (k : Nat) : List Int :=
  ((thmNeighbours k).filter fun j => !sus.getD j false).map (rawOf l)

/-- A conversion that failed, or a raw value outside −55.0 to +175.0 °C (R589). -/
def implausible (l : List Reading) (k : Nat) : Bool := convFailed l k || rawOf l k < -440 || 1400 < rawOf l k

/-- The deviation count of a sensor that is not suspect, after a sample (R581). -/
def nextDeviation (l : List Reading) (sus : List Bool) (k count : Nat) : Nat :=
  let raws := neighbourRaws l sus k
  if raws.isEmpty then count
  else
    let d := rawOf l k - median raws
    if 48 < d || d < -48 then count + 1 else 0

/-- A temperature as its 12-bit two's-complement field. -/
def temp12 (x : Int) : Nat := (BitVec.ofInt 12 x).toNat

/-- A 12-bit field as a temperature. -/
def ofTemp12 (v : Nat) : Int := (BitVec.ofNat 12 v).toInt

/-- The reported value of sensor k, and whether it is assumed (R573). -/
def State.reported (s : State) (l : List Reading) (sus : List Bool) (k : Nat) : Int × Bool :=
  if !sus.getD k false then (rawOf l k, false)
  else
    let raws := neighbourRaws l sus k
    if raws.isEmpty then ((8 * s.get R.THM_LIM_warn : Nat), true) else (median raws + 24, false)

/-- A THM_EVT cause set: 0 warn, 1 enforce, 2 clear, 3 critical, 4 suspect, 5 blind, 6 measured; suspect and blind are
events of source 9, of the sensor k (R582). -/
def State.thmRaise (s : State) (bit k : Nat) : State :=
  if bit = 4 || bit = 5 then s.raiseF R.THM_EVT_cause bit (R.THM_EVT_CNT_count bit) 9 k
  else s.raise R.THM_EVT_cause bit (R.THM_EVT_CNT_count bit)

/-- Suspect states as THM_TSk shows them. -/
def State.suspects (s : State) : List Bool := (List.range 9).map fun k => s.on (R.THM_TS_suspect k)

/-- The suspect state and count of sensor k updated from the states at the start of the sample (R581, R589). -/
def State.judgeSensor (s : State) (l : List Reading) (sus : List Bool) (k : Nat) : State :=
  if sus.getD k false then s
  else
    let c := nextDeviation l sus k (s.get (R.THM_TS_count k))
    let s := s.put (R.THM_TS_count k) c
    if 8 ≤ c || implausible l k then (s.put (R.THM_TS_suspect k) 1).thmRaise 4 k else s

/-- The raw and reported values of sensor k written; it sets blind when it comes to be assumed (R573, R582). -/
def State.reportSensor (s : State) (l : List Reading) (sus : List Bool) (k : Nat) : State :=
  let r := s.reported l sus k
  let s := if r.2 && !s.on (R.THM_TS_assumed k) then s.thmRaise 5 k else s
  (((s.put (R.THM_TS_raw k) (temp12 (rawOf l k))).put (R.THM_TS_reported k) (temp12 r.1)).flag
    (R.THM_TS_assumed k) r.2).put (R.THM_TS_valid k) 1

/-- The reported values of all sensors. -/
def State.reports (s : State) : List Int := (List.range 9).map fun k => ofTemp12 (s.get (R.THM_TS_reported k))

/-- The sensor with the highest of the values, the lower index on a tie. -/
def hottest (l : List Int) : Nat :=
  (List.range l.length).foldl (fun b k => if l.getD b 0 < l.getD k 0 then k else b) 0

/-! ### The thermal state (R583) -/

/-- Enforcement comes into force, and enforce is set if it was not (R583, R584). -/
def State.enforce (s : State) : State :=
  let s := if s.on R.THM_STATUS_enforcing then s else s.thmRaise 1 0
  (s.put R.THM_STATUS_state 2).put R.THM_STATUS_enforcing 1

/-- The first row of R583 that applies to a sample with these reported values and this highest value. CRITICAL lasts
until a reset (R586). -/
def State.thermalState (s : State) (l : List Int) (high : Int) : State :=
  let st := s.get R.THM_STATUS_state
  let warn : Int := (8 * s.get R.THM_LIM_warn : Nat)
  let hot : Bool := ((8 * s.get R.THM_LIM_critical : Nat) : Int) ≤ high
  let hyst : Int := (8 * s.get R.THM_CFG_hyst : Nat)
  if st = 3 then s
  else if hot && s.thmHot then
    let s := (s.put R.THM_STATUS_state 3).thmRaise 3 0
    if s.safe then s else s.safeStop 0b010 0
  else if ((8 * s.get R.THM_LIM_enforce : Nat) : Int) ≤ high then
    (if st = 0 then s.thmRaise 0 0 else s).enforce
  else if warn ≤ high && st = 0 then
    ((s.put R.THM_STATUS_state 1).put R.THM_STATUS_grace_running 1).thmRaise 0 0
  else if l.all (fun x => x < warn - hyst) && st ≠ 0 then
    (((s.put R.THM_STATUS_state 0).put R.THM_STATUS_enforcing 0).put R.THM_STATUS_grace_running 0).thmRaise 2 0
  else s

/-- The fast rate of R578 after a sample. -/
def State.fastRate (s : State) (l : List Int) (high : Int) : State :=
  let near : Int := (8 * s.get R.THM_LIM_warn : Nat) - 80
  if near ≤ high then s.put R.THM_STATUS_fast 1
  else if l.all fun x => x < near - (8 * s.get R.THM_CFG_hyst : Nat) then s.put R.THM_STATUS_fast 0
  else s

/-- THM_PEAK after a sample (R592). -/
def State.peak (s : State) (high : Int) (k : Nat) : State :=
  if ofTemp12 (s.get R.THM_PEAK_value) < high then (s.put R.THM_PEAK_value (temp12 high)).put R.THM_PEAK_sensor k else s

/-- One sample of the nine sensors (R573, R578–R583, R588, R589). -/
def State.thmSample (s : State) (l : List Reading) : State :=
  let sus := s.suspects
  let s := (List.range 9).foldl (fun t k => t.judgeSensor l sus k) s
  let now := s.suspects
  let s := (List.range 9).foldl (fun t k => t.reportSensor l now k) s
  let rs := s.reports
  let k := hottest rs
  let high := rs.getD k 0
  let s := (((s.count R.THM_SAMPLE_CNT_count).put R.THM_STATUS_hottest k).put R.THM_STATUS_highest (temp12 high)).peak
    high k
  let s := (s.fastRate rs high).thermalState rs high
  let s := { s with thmHot := ((8 * s.get R.THM_LIM_critical : Nat) : Int) ≤ high }
  if s.thmDemand then { s with thmDemand := false }.thmRaise 6 0 else s

/-- Samples are taken from the end of boot step 3 on: timed in ACTIVE, on a demand in QUIET, and neither in KEEP nor in
OFF (R578). -/
def State.samples (s : State) : Bool := s.isUp && (s.power = 0 || (s.power = 1 && s.thmDemand))

/-! ### Register writes -/

/-- A write of THM_CMD (R579). -/
def State.thmCmdWrite (s : State) (mid v : Nat) : State :=
  if v.testBit 0 && [0, 1, 2, 4].contains mid then { s with thmDemand := true } else s

/-- A refused loosening of a Deadbolt bound by a write at a BAR0 offset, counted by source 4 (R31, R608). -/
def State.boundRefused (s : State) (off mid : Nat) : State :=
  s.fault { src := 4, res := bits off 2 18, mid := some mid }

/-- A write of THM_LIM (R575). -/
def State.thmLimWrite (s : State) (mid v : Nat) : State :=
  let w := bits v 0 8
  let e := bits v 8 8
  let c := bits v 16 8
  if mid ≠ 2 then s
  else if 110 < w || 118 < e || 125 < c then s.boundRefused R.THM_LIM_warn.off mid
  else if w + 2 ≤ e && e + 2 ≤ c then
    ((s.put R.THM_LIM_warn w).put R.THM_LIM_enforce e).put R.THM_LIM_critical c
  else s

/-- A write of THM_DUTY (R577). -/
def State.thmDutyWrite (s : State) (mid v : Nat) : State :=
  if mid = 2 && 8 < bits v 0 4 then s.boundRefused R.THM_DUTY_enf_duty.off mid
  else s.writeFlds mid v [R.THM_DUTY_enf_duty, R.THM_DUTY_host_duty]

/-- A read of THM_PEAK: its value, then both fields cleared to the lowest encodable value (R592). -/
def State.thmPeakRead (s : State) : State × Nat :=
  (s.cold [R.THM_PEAK_value, R.THM_PEAK_sensor], s.readFlds [R.THM_PEAK_value, R.THM_PEAK_sensor])

/-! ### The commands -/

/-- THERMAL_SAMPLE (R583). -/
def execThermalSample (sensors : List Reading) (s : State) : Host.Outcome State Fault Refusal :=
  .next (settle (if s.samples then s.thmSample sensors else s))

/-- MEASURE (R579). -/
def execMeasure (mid : BitVec 4) (value : W32) (s : State) : Host.Outcome State Fault Refusal :=
  .next (s.whenUp fun s => s.thmCmdWrite mid.toNat value.toNat)

/-- THERMAL_GRACE_EXPIRY (R584). -/
def execThermalGraceExpiry (s : State) : Host.Outcome State Fault Refusal :=
  .next (settle (if s.on R.THM_STATUS_grace_running then
      let s := s.put R.THM_STATUS_grace_running 0
      if s.get R.THM_STATUS_state = 1 then s.enforce else s
    else s))

/-- THM_LIM_WRITE (R575). -/
def execThmLimWrite (mid : BitVec 4) (value : W32) (s : State) : Host.Outcome State Fault Refusal :=
  .next (settle (s.whenUp fun s => s.thmLimWrite mid.toNat value.toNat))

/-- THM_DUTY_WRITE (R577). -/
def execThmDutyWrite (mid : BitVec 4) (value : W32) (s : State) : Host.Outcome State Fault Refusal :=
  .next (settle (s.whenUp fun s => s.thmDutyWrite mid.toNat value.toNat))

/-- THM_PEAK_READ (R592). -/
def execThmPeakRead (s : State) : Host.Outcome State Fault Refusal :=
  .next (s.whenUp fun s => { s.thmPeakRead.1 with readData := s.thmPeakRead.2 })

end Sys2Proof.Machine
end

