-- ==== Sys2Proof/Machine/Latch.lean ====
section
/-!
DEFINITION. The halves of 64-bit registers: what a low-half read latches and what a low-half write holds (R17, R18,
R500).
-/

namespace Sys2Proof.Machine

/-- Key of a latch of a MID other than 4. -/
def latchKey (off mid : Nat) : Nat := off * 16 + mid

/-- A half kept for its master. Of MID 4 there is one latch for each origin and 32 in all: a low half from a further
origin discards the oldest and sets latch_evict (R500). -/
def State.keepHalf (s : State) (w : Who) (off : Nat) (write : Bool) (v : Nat) : State :=
  if w.mid = 4 then
    let l := s.farLatches.filter fun x => x.origin != w.addr
    let e : FarLatch := { origin := w.addr, off := off, write := write, value := v }
    if 32 ≤ l.length then { s with farLatches := l.drop 1 ++ [e] }.hngRaise 7 w.addr
    else { s with farLatches := l ++ [e] }
  else if write then { s with writeHold := tset s.writeHold (latchKey off w.mid) v }
  else { s with readLatch := tset s.readLatch (latchKey off w.mid) v }

/-- The half kept for a master at a register, if there is one. -/
def State.heldHalf (s : State) (w : Who) (off : Nat) (write : Bool) : Option Nat :=
  if w.mid = 4 then
    (s.farLatches.find? fun x => x.origin == w.addr && x.off == off && x.write == write).map (·.value)
  else if write then tget s.writeHold (latchKey off w.mid)
  else tget s.readLatch (latchKey off w.mid)

/-- The half released. -/
def State.dropHalf (s : State) (w : Who) (off : Nat) (write : Bool) : State :=
  if w.mid = 4 then { s with farLatches := s.farLatches.filter fun x => x.origin != w.addr }
  else if write then { s with writeHold := tdel s.writeHold (latchKey off w.mid) }
  else { s with readLatch := tdel s.readLatch (latchKey off w.mid) }

/-- A held low half discarded, and counted by the register-access source (R18); with none held nothing happens. -/
def State.halfDiscard (s : State) (w : Who) (off : Nat) : State :=
  match s.heldHalf w off true with
  | some _ => (s.dropHalf w off true).accessRefused off w
  | none => s

/-- HALF_WRITE_DISCARD (R18): the low half that MID `mid` holds for the register at an offset. -/
def execHalfWriteDiscard (mid : BitVec 4) (off : BitVec 20) (s : State) : Host.Outcome State Fault Refusal :=
  .next (settle (if mid = 4 then s else s.halfDiscard { mid := mid.toNat } off.toNat))

/-- The latch of MID 4 for an origin has passed 100 µs (R500): a held low half of a write is counted as R18 states. -/
def State.farLatchExpire (s : State) (origin : Nat) : State :=
  match s.farLatches.find? fun x => x.origin == origin with
  | none => s
  | some x =>
    let w : Who := { mid := 4, addr := origin }
    let t := { s with farLatches := s.farLatches.filter fun y => y.origin != origin }
    if x.write then t.accessRefused x.off w else t

/-- FAR_LATCH_EXPIRY (R500). -/
def execFarLatchExpiry (origin : BitVec 10) (s : State) : Host.Outcome State Fault Refusal :=
  .next (settle (s.farLatchExpire origin.toNat))

end Sys2Proof.Machine
end

