-- ==== Sys2Proof/Machine/FaultCmds.lean ====
section
/-!
DEFINITION. The registers of the fault collector and of Deadbolt: configuration within the bounds, tightening, the event
chain, quarantine and injection (R599, R605–R609, R612).
-/

namespace Sys2Proof.Machine

/-! ### Configuration (R606) -/

/-- A value of a field is looser than its DBT_FLTn bound: N, window exponent, action. -/
def State.nLooser (s : State) (n v : Nat) : Bool := s.get (R.DBT_FLT_n_max n) < v
def State.kLooser (s : State) (n v : Nat) : Bool := v < s.get (R.DBT_FLT_k_min n)
def State.actLooser (s : State) (n v : Nat) : Bool := v < s.get (R.DBT_FLT_action_min n)

/-- Reserved encodings of FLT_SRCn_CFG, with the actions that the source does not accept (R606). -/
def nReserved (v : Nat) : Bool := v == 0
def kReserved (v : Nat) : Bool := 22 < v
def actReserved (n v : Nat) : Bool := 4 < v || !srcAccepts n v

/-- Reserved encodings of an action (R596). -/
def actCodeReserved (v : Nat) : Bool := 4 < v

/-- A field of FLT_SRCn_CFG written where its value is neither reserved nor looser. -/
def State.putIf (s : State) (f : Fld) (ok : Bool) (v : Nat) : State := if ok then s.put f v else s

/-- A write of FLT_SRCn_CFG by a master (R606, R612). A write with a looser field counts once. -/
def State.srcCfgWrite (s : State) (n : Nat) (w : Who) (v : Nat) : State :=
  let off := (R.FLT_SRC_CFG_n n).off
  if w.mid ≠ 2 then s.accessRefused off w
  else if !srcAssigned n then s
  else
    let t := bits v 0 8
    let k := bits v 8 5
    let a := bits v 16 3
    let loose := (!nReserved t && s.nLooser n t) || (!kReserved k && s.kLooser n k)
      || (!actReserved n a && s.actLooser n a)
    let u := s.putIf (R.FLT_SRC_CFG_n n) (!nReserved t && !s.nLooser n t) t
    let u := u.putIf (R.FLT_SRC_CFG_k n) (!kReserved k && !s.kLooser n k) k
    let u := u.putIf (R.FLT_SRC_CFG_action n) (!actReserved n a && !s.actLooser n a) a
    let u := ((u.put (R.FLT_SRC_CFG_to_pf n) (bits v 20 2)).put (R.FLT_SRC_CFG_to_cp n) (bits v 22 1)).put
      (R.FLT_SRC_CFG_rec_all n) (bits v 23 1)
    if loose then u.boundRefused off 2 else u

/-! ### Deadbolt (R608) -/

/-- One field of a bound written: a reserved or equal value leaves it, a tighter one is taken, and any other is refused.
The answer says whether it was refused. -/
def State.tighten (s : State) (f : Fld) (v : Nat) (reserved tighter : Bool) : State × Bool :=
  if reserved || v = s.get f then (s, false) else if tighter then (s.put f v, false) else (s, true)

/-- FLT_SRCn_CFG takes the bound's value where it is looser (R608). -/
def State.applyBound (s : State) (n : Nat) : State :=
  let s := if s.nLooser n (s.get (R.FLT_SRC_CFG_n n)) then s.put (R.FLT_SRC_CFG_n n) (s.get (R.DBT_FLT_n_max n)) else s
  let s := if s.kLooser n (s.get (R.FLT_SRC_CFG_k n)) then s.put (R.FLT_SRC_CFG_k n) (s.get (R.DBT_FLT_k_min n)) else s
  if s.actLooser n (s.get (R.FLT_SRC_CFG_action n)) then
    s.put (R.FLT_SRC_CFG_action n) (s.get (R.DBT_FLT_action_min n)) else s

/-- A refused write recorded in DBT_LAST (R608). -/
def State.dbtRefused (s : State) (off mid : Nat) : State :=
  ((s.boundRefused off mid).put R.DBT_LAST_offset (bits off 2 18)).put R.DBT_LAST_mid mid

/-- A bound that has been tightened goes to firmware's parameter store, from which firmware reapplies it at boot (R31).
DESIGN CHOICE, log entry 98: firmware stores it in the step in which the bound is written. -/
def State.boundStored (s : State) (off old : Nat) (fs : List Fld) : State :=
  if s.readFlds fs = old then s
  else { s with nv := { s.nv with bounds := tset s.nv.bounds off (s.readFlds fs) } }

/-- A write of DBT_FLTn by a master (R608, R612). A bound may name an action that the source does not accept (R596): a
reserved encoding alone is left. DEDUCED, log entry 82. -/
def State.dbtFltWrite (s : State) (n : Nat) (w : Who) (v : Nat) : State :=
  let off := (R.DBT_FLT_n_max n).off
  if w.mid ≠ 2 then s.accessRefused off w
  else if !srcAssigned n then s
  else
    let t := bits v 0 8
    let k := bits v 8 5
    let a := bits v 16 3
    let x := s.tighten (R.DBT_FLT_n_max n) t (nReserved t) (t < s.get (R.DBT_FLT_n_max n))
    let y := x.1.tighten (R.DBT_FLT_k_min n) k (kReserved k) (s.get (R.DBT_FLT_k_min n) < k)
    let z := y.1.tighten (R.DBT_FLT_action_min n) a (actCodeReserved a) (s.get (R.DBT_FLT_action_min n) < a)
    let fs := [R.DBT_FLT_n_max n, R.DBT_FLT_k_min n, R.DBT_FLT_action_min n]
    let u := (z.1.applyBound n).boundStored off (s.readFlds fs) fs
    if x.2 || y.2 || z.2 then u.dbtRefused off 2 else u

/-- A write of DBT_GWp by a master (R608, R612). -/
def State.dbtGwWrite (s : State) (p : Nat) (w : Who) (v : Nat) : State :=
  let off := (R.DBT_GW_rate p).off
  if w.mid ≠ 2 then s.accessRefused off w
  else
    let r := bits v 0 20
    let b := bits v 20 8
    let x := s.tighten (R.DBT_GW_rate p) r false (r < s.get (R.DBT_GW_rate p))
    let y := x.1.tighten (R.DBT_GW_burst p) b (b == 0) (b < s.get (R.DBT_GW_burst p))
    let fs := [R.DBT_GW_rate p, R.DBT_GW_burst p]
    let u := y.1.boundStored off (s.readFlds fs) fs
    if x.2 || y.2 then u.dbtRefused off 2 else u

/-! ### Pending bits, the event chain, quarantine and injection -/

/-- A write of FLT_PENDj by a master (R601, R612). -/
def State.pendWrite (s : State) (j : Nat) (w : Who) (v : Nat) : State :=
  if 2 < w.mid then s.accessRefused (R.FLT_PEND_pend j).off w
  else s.put (R.FLT_PEND_pend j) (clearBits (s.get (R.FLT_PEND_pend j)) v)

/-- A word of the fault event chain popped by a MID, met with an uncorrectable error or not (R391, R605, R614). Another
MID's read pops nothing, and what it returns the manual does not state. -/
def State.evqPop (s : State) (mid : Nat) (uncorr : Bool) : State × Nat :=
  if 2 < mid then s.drawFree
  else
    let r := s.chainPop 1
    ({ r.1 with evqSeen := tput r.1.evqSeen mid (wordSb r.2 + 4 * b2n uncorr) 0 }, wordData r.2)

/-- A released port runs as its en field says (R599): a CAN controller starts anew on the bus. -/
def State.portReleased (s : State) (cls idx : Nat) : State :=
  if !s.portEn cls idx then s
  else if cls = clsCan then s.canEnable idx
  else if cls = clsEth then s.ethSettle idx
  else s

/-- A write of FLT_QUAR_PORTk by a master, bits of quarantined ports cleared (R599, R612). -/
def State.quarWrite (s : State) (hi : Bool) (w : Who) (v : Nat) : State :=
  let f := if hi then R.FLT_QUAR_PORT1_port else R.FLT_QUAR_PORT0_port
  if 2 < w.mid then s.accessRefused f.off w
  else
    let freed := s.get f &&& v
    let s := s.put f (clearBits (s.get f) v)
    let ports := allPorts.filter fun p =>
      match quarBit p.1 p.2 with
      | some (g, b) => g.key == f.key && freed.testBit b
      | none => false
    ports.foldl (fun t p => t.portReleased p.1 p.2) s

/-- The next event of an injection is due. -/
def State.injectNext (s : State) : State :=
  match s.injecting with
  | [] => s
  | e :: r => { s with injecting := r, dueFaults := s.dueFaults ++ [e] }

/-- A write of FTM_FLT_INJ (R609): the first event is due in this core cycle, and each core cycle brings one more. -/
def State.faultInject (s : State) (mid v : Nat) : State :=
  if s.nv.lifecycle ≠ 0 || !(mid ≤ 1 || mid = 5) || !srcAssigned (bits v 0 7) || !s.injecting.isEmpty then s
  else
    let e : FaultEv := { src := bits v 0 7, detail := bits v 16 8, res := bits v 24 8, injected := true }
    { s with injecting := List.replicate (bits v 8 8) e }.injectNext

/-- The core cycle's event of an injection (R609). -/
def State.injectTick (s : State) : State := if s.injecting.isEmpty then s else settle s.injectNext

/-! ### The commands -/

/-- FAULT_SOURCE_CONFIG (R606). -/
def execFaultSourceConfig (n : Fin 128) (mid : BitVec 4) (origin : BitVec 10) (value : W32) (s : State) :
    Host.Outcome State Fault Refusal :=
  .next (settle (s.whenUp fun s => s.srcCfgWrite n { mid := mid.toNat, addr := origin.toNat } value.toNat))

/-- DEADBOLT_WRITE (R608): of DBT_FLTn, or of DBT_GWp. -/
def execDeadboltWrite (target : Fin 128 ⊕ Fin 31) (mid : BitVec 4) (origin : BitVec 10) (value : W32) (s : State) :
    Host.Outcome State Fault Refusal :=
  .next (settle (s.whenUp fun s =>
    let w : Who := { mid := mid.toNat, addr := origin.toNat }
    match target with
    | .inl n => s.dbtFltWrite n w value.toNat
    | .inr p => s.dbtGwWrite p w value.toNat))

/-- QUARANTINE_CLEAR (R599): a write of FLT_QUAR_PORT0, or of FLT_QUAR_PORT1. -/
def execQuarantineClear (hi : Bool) (mid : BitVec 4) (origin : BitVec 10) (value : W32) (s : State) :
    Host.Outcome State Fault Refusal :=
  .next (settle (s.whenUp fun s => s.quarWrite hi { mid := mid.toNat, addr := origin.toNat } value.toNat))

/-- FAULT_INJECTION (R609). -/
def execFaultInjection (mid : BitVec 4) (value : W32) (s : State) : Host.Outcome State Fault Refusal :=
  .next (settle (s.whenUp fun s => s.faultInject mid.toNat value.toNat))

/-- FAULT_EVENT_POP (R379, R605): a low-half read, whose high half is latched for the MID, or a 64-bit read. -/
def execFaultEventPop (mid : BitVec 4) (origin : BitVec 10) (wide uncorr : Bool) (s : State) :
    Host.Outcome State Fault Refusal :=
  .next (settle (s.whenUp fun s =>
    let w : Who := { mid := mid.toNat, addr := origin.toNat }
    let r := s.evqPop w.mid uncorr
    let v := r.2 % 2 ^ 64
    if wide then { r.1 with readData := v }
    else { r.1.keepHalf w R.FLT_EVQ_word.off false (v / 2 ^ 32) with readData := v % 2 ^ 32 }))

end Sys2Proof.Machine
end

