-- ==== Sys2Proof/Machine/Clock.lean ====
section
/-!
DEFINITION. The passing of one core cycle of 1.25 ns, which the step takes when no command waits.
-/

namespace Sys2Proof.Machine

/-- The monotonic counter is clocked: not under cold reset, and in KEEP and OFF only while the 32.768 kHz oscillator is
within its limits (R98, R158). -/
def State.monoRuns (s : State) : Bool := s.phase != .held && (s.running || s.on R.CLK_STATUS_xt32_ok)

/-- One core cycle of the monotonic counter: 800 of them make a microsecond, in which the gateway's buckets also gain
(R139, R523, R662). -/
def State.monoTick (s : State) : State :=
  if !s.monoRuns then s
  else if s.cycle < 799 then { s with cycle := s.cycle + 1 }
  else
    let t := ({ s with cycle := 0 }).count R.CLK_MONO_time
    if s.running && s.isUp then t.gainTokens else t

/-- One core cycle of the windows of the issue duty (R576). -/
def State.dutyTick (s : State) : State := { s with dutyCycle := (s.dutyCycle + 1) % 1024 }

/-- One core cycle: the monotonic counter and the PTP clock advance (R139, R463), the window of the
issue duty goes on (R576), an injection brings its next fault event (R609), and a change of power state that has
taken place ends (R120). -/
def State.tick (s : State) : State :=
  let t := s.monoTick.pwrTick
  if s.running && s.isUp then t.ptpTick.dutyTick.injectTick else t

end Sys2Proof.Machine
end

