-- ==== Sys2Proof/Machine/TalonCmds.lean ====
section
/-!
DEFINITION. Talon at work: live retirement of sub-engines, repair points, lanes, the scrubber and the self-checks
(R350, R619, R620, R626–R641).
-/

namespace Sys2Proof.Machine

/-! ### Migration (R350, R626) -/

/-- The operation has begun device I/O (R331). -/
def Op.deviceBegun (o : Op) : Bool := o.begun && o.first.opcode != ocMark

/-- A program back at its checkpoint: its operation starts again from its first CCW, without the holds that it has
passed, and a far operation is cancelled (R350, R352). -/
def State.restartOp (s : State) (tag : Nat) : State :=
  match s.prog tag, s.op tag with
  | some p, some o =>
    let s := s.stopOp tag
    ({ s with ops := tdel s.ops tag }.dropReads p.fn tag).setProg tag
      { p with st := .running, src := o.srcAt, ccws := o.ccwsAt, ccwRead := none, ccwWait := false, ccwFailed := false,
               restarted := true, again := some (o.since, o.first), started := o.ccwsAt != 0 }
  | _, _ => s

/-- What the migration does to one program: traced and marked; one whose operation has not ended starts again or ends
INTERRUPTED (R350, R663). -/
def State.migrateProg (s : State) (tag i j : Nat) : State :=
  match s.prog tag with
  | none => s
  | some p =>
    let s := (s.setProg tag { p with migrated := true }).trace .program
      { type := 0x07, mid := 6, tag := some tag, sq := p.sq, arg0 := i, arg1 := j }
    match s.op tag with
    | none => s
    | some o =>
      if o.ended.isSome then s
      else if o.deviceBegun && !o.first.idem then s.endProg tag stInterrupted 0
      else s.restartOp tag

/-- Live programs of a logical sub-engine. -/
def State.progsOf (s : State) (k : Nat) : List Nat := (s.tagsWhere fun _ => true).filter fun t => t / 64 == k

/-- The migration of logical sub-engine k ends: programs, mapping, journal entry, and the retires that waited (R611,
R626). -/
def State.migrationEnd (s : State) (k : Nat) : State :=
  match s.tln.moves.find? fun m => m.1 == k with
  | none => s
  | some (_, i, j, cause) =>
    let s := (s.progsOf k).foldl (fun t g => t.migrateProg g i j) s
    let s := { s with sePhys := tput s.sePhys k j k }
    let s := s.jrnlWrite jSubengine 0x02 i (j + k * 2 ^ 8) cause
    let due := s.tln.waiting.filter fun x => x.1 == i
    let s := s.setTln { s.tln with moves := s.tln.moves.filter fun m => m.1 != k,
                                   waiting := s.tln.waiting.filter fun x => x.1 != i }
    let s := s.flag R.TLN_STATUS_migrating (!s.tln.moves.isEmpty)
    due.foldl (fun t x => (t.retireSe x.1 x.2).1) s

/-! ### The repair point (R630–R632, R640) -/

/-- What the copies of a repair point meet: words found uncorrectable, and the spares that fail their read-back: spare
rows by key, and the spare bank. -/
structure RepairFaults where
  words : List Nat := []
  rows : List Nat := []
  bank : Bool := false
deriving DecidableEq, Repr

/-- An uncorrectable word read: its poison-map bit is set, and if it was clear the read is an event of source 117
(R620). -/
def State.uncorrRead (s : State) (a : Nat) : State :=
  if s.poisonAt a then s
  else { s with poison := tput s.poison a true false }.fault { src := 117, res := a }

/-- A word read through its check by a copy: one with a single-bit error is written corrected, and an uncorrectable one is
met (R631). -/
def State.copyRead (s : State) (a : Nat) : State :=
  match tget s.upsets a with
  | none => s
  | some e => if e.uncorr then s.uncorrRead a else { s with upsets := tdel s.upsets a }

/-- A word lies in a queued row or in the queued bank, which a repair point copies. -/
def State.copied (s : State) (a : Nat) : Bool :=
  s.tln.rowQ.contains (rowCode (s.physBank (bankOf a)) (a % 65536)) || s.tln.bankQ == some (bankOf a)

/-- The words that a repair point copies read through their check: those that the copy found uncorrectable, and those
written with an error. -/
def State.copyWords (s : State) (words : List Nat) : State :=
  ((s.upsets.map (·.1)).filter s.copied).foldl (fun t a => t.copyRead a) (words.foldl (fun t a => t.uncorrRead a) s)

/-- A spare row that has failed (R637, R640). -/
def State.spareFails (s : State) (key : Nat) : State :=
  (s.setTln { s.tln with spares := tset s.tln.spares key (2, 0) }).tlnRaise 8

/-- The bank of a queued row queued in its place, whether or not the spare bank is free (R630); with another bank queued
the row stays. The answer says whether the row goes from the queue. -/
def State.rowToBank (s : State) (row : Nat) : State × Bool :=
  let b := s.bankNumber (row % 32)
  if s.tln.bankQ.isSome then (s, s.tln.bankQ == some b)
  else (s.queueBank b (s.jrnlCause jRow row), true)

/-- One queued row repaired: copied into the lower-numbered good spare row, or its bank queued. The count of rows so far,
and the rows that stay queued. -/
def State.repairRow (f : RepairFaults) (row : Nat) : Nat → State → Nat → List Nat → State × Nat × List Nat
  | 0, s, n, l => (s, n, l)
  | fuel + 1, s, n, l =>
    match s.spareRow row with
    | none =>
      let r := s.rowToBank row
      (r.1, n, if r.2 then l else l ++ [row])
    | some i =>
      let key := spareKey row i
      if f.rows.contains key then State.repairRow f row fuel (s.spareFails key) n l
      else
        let s := s.setTln { s.tln with spares := tset s.tln.spares key (1, row / 2 ^ 8 % 512) }
        (s.jrnlWrite jRow 0x02 row i (s.jrnlCause jRow row), n + 1, l)

/-- All queued rows in order. -/
def State.repairRows (f : RepairFaults) : List Nat → State → Nat → List Nat → State × Nat × List Nat
  | [], s, n, l => (s, n, l)
  | row :: rest, s, n, l =>
    let r := State.repairRow f row 3 s n l
    State.repairRows f rest r.1 r.2.1 r.2.2

/-- The queued bank repaired, and whether it was. -/
def State.repairBank (s : State) (f : RepairFaults) : State × Nat :=
  match s.tln.bankQ with
  | none => (s, 0)
  | some b =>
    if !s.bankFree then (s.tlnRaise 3, 0)
    else if f.bank then ((s.setTln { s.tln with bankFailed := true }).tlnRaise 3, 0)
    else
      let s := s.setTln { s.tln with bankMap := some b, bankQ := none }
      (s.jrnlWrite jBank 0x02 b 24 (s.jrnlCause jBank b), 1)

/-- TLN_CMD.repair from a MID (R630). -/
def State.repairStart (s : State) (mid : Nat) : State :=
  if mid = 2 && s.power = 0 && !s.on R.TLN_STATUS_repairing then s.put R.TLN_STATUS_repairing 1 else s

/-- The repair point ends (R630, R632). -/
def State.repairEnd (s : State) (f : RepairFaults) : State :=
  if !s.on R.TLN_STATUS_repairing then s
  else
    let s := settle (s.copyWords f.words)
    let r := State.repairRows f s.tln.rowQ s 0 []
    let s := r.1.setTln { r.1.tln with rowQ := r.2.2 }
    let b := s.repairBank f
    let subs := b.1.tln.seSince
    let s := b.1.setTln { b.1.tln with seSince := 0, asked := none }
    let s := (((s.put R.TLN_RP_rows r.2.1).put R.TLN_RP_banks b.2).put R.TLN_RP_subengines subs).put
      R.TLN_STATUS_repairing 0
    let s := s.tlnRaise 2
    match b.1.tln.asked with
    | some a => s.fwReply a rsOk [r.2.1, b.2, s.get R.TLN_RP_subengines]
    | none => s

/-! ### Requests -/

/-- TLN_CMD.retire_se from a MID (R627). -/
def State.retireRequest (s : State) (mid i : Nat) : State :=
  if mid ≤ 2 && i < 36 then (s.retireSe i causeRequest).1 else s

/-- TLN_CMD.clear_lane from a MID (R633). -/
def State.clearLane (s : State) (mid p : Nat) : State :=
  if mid ≤ 1 then (s.setTln (s.tln.lanesCleared p)).jrnlWrite jLaneClear 0x02 p 0 causeRequest else s

/-- A write of TLN_CMD (R643): one with index 36–63 is ignored. -/
def State.tlnCmdWrite (s : State) (mid v : Nat) : State :=
  if 36 ≤ bits v 8 6 then s
  else
    let s := if v.testBit 0 then s.repairStart mid else s
    let s := if v.testBit 1 then s.retireRequest mid (bits v 8 6) else s
    if v.testBit 2 then s.clearLane mid (bits v 16 1) else s

/-- A write of TLN_ROW_REQ (R629). -/
def State.rowRequest (s : State) (mid v : Nat) : State :=
  if mid ≤ 2 && bits v 16 5 < 25 then (s.queueRow (bits v 16 5) (v % 65536) causeRequest).1 else s

/-! ### The scrubber (R635–R638) -/

/-- What the check of one SRAM word finds. -/
inductive WordCheck where
  | good | corrected | uncorrectable
deriving DecidableEq, Repr

/-- A SCB_EVT cause set: 0 pass_done, 1 corr, 2 uncorr, 3 spare_fail, 4 starved. -/
def State.scbRaise (s : State) (bit : Nat) : State := s.raise R.SCB_EVT_cause bit (R.SCB_EVT_CNT_count bit)

/-- Sub-array, row and word of a position within a physical bank, spare rows after row 511. -/
def scbPlace (pos : Nat) : Nat × Nat × Nat := (pos / 8224, pos / 16 % 514, pos % 16)

/-- The row whose address a spare row serves, unless the other spare row has taken its place. -/
def State.spareServes (s : State) (bank sub i : Nat) : Option Nat :=
  let key := 2 * (8 * bank + sub)
  match tget s.tln.spares (key + i), tget s.tln.spares (key + 1) with
  | some (st, row), other =>
    if st = 2 then none
    else match i, other with
      | 0, some (st', row') => if st' != 2 && row' = row then none else some row
      | _, _ => some row
  | none, _ => none

/-- The row of a sub-array is served by a spare row. -/
def State.rowMoved (s : State) (bank sub row : Nat) : Bool :=
  s.spareServes bank sub 0 == some row || s.spareServes bank sub 1 == some row

/-- The SRAM address that a place of a physical bank serves, if its row is in use (R617, R618). -/
def State.scbAddr (s : State) (bank pos : Nat) : Option Nat :=
  let p := scbPlace pos
  let base := s.bankNumber bank * 65536 + p.1 * 8192
  if p.2.1 < 512 then
    if s.rowMoved bank p.1 p.2.1 then none else some (base + p.2.1 * 16 + p.2.2)
  else (s.spareServes bank p.1 (p.2.1 - 512)).map fun row => base + row * 16 + p.2.2

/-- A physical bank that is retired, which the scrubber leaves out (R618). -/
def State.bankRetired (s : State) (bank : Nat) : Bool := s.tln.bankMap.isSome && s.bankNumber bank == 24

/-- The spare bank while it is unmapped. -/
def State.spareBank (s : State) (bank : Nat) : Bool := s.tln.bankMap.isNone && bank == 24

/-- What the check of a word in use finds: an error with which the word was written stands in it still. -/
def State.checkOf (s : State) (a : Nat) (c : WordCheck) : WordCheck :=
  match tget s.upsets a with
  | none => c
  | some e => if e.uncorr then .uncorrectable else if c = .good then .corrected else c

/-- The scrubber meets a word of a row in use (R636). -/
def State.scrubUsed (s : State) (a : Nat) : WordCheck → State
  | .good => s
  | .corrected =>
    let s := { s with upsets := tdel s.upsets a }
    ((s.count (R.SCB_CNT_count 1)).scbRaise 1).fault { src := 116, res := a }
  | .uncorrectable =>
    if s.poisonAt a then s else ((s.count (R.SCB_CNT_count 2)).scbRaise 2).uncorrRead a

/-- A free spare row, or a word of the unmapped spare bank, judged by its key: failed by an uncorrectable word, or by
single-bit errors in two consecutive passes (R637). -/
def State.scrubFree (s : State) (key : Nat) : WordCheck → State × Bool
  | .good => (s, false)
  | .uncorrectable => (s, true)
  | .corrected =>
    let pass := s.get (R.SCB_CNT_count 0)
    let t := s.setTln { s.tln with suspects := tset s.tln.suspects key pass }
    (t, match tget s.tln.suspects key with
        | some n => (n + 1) % 2 ^ 32 == pass
        | none => false)

/-- Key of a word of the spare bank among the suspects, apart from the keys of spare rows. -/
def bankWordKey (pos : Nat) : Nat := 1000 + pos

/-- The scrubber's part at one place: the rule of words in use, of free spare rows, and of the unmapped spare bank. -/
def State.scrubAt (s : State) (bank pos : Nat) (c : WordCheck) : State :=
  let p := scbPlace pos
  let key := 2 * (8 * bank + p.1) + (p.2.1 - 512)
  let s := if 512 ≤ p.2.1 && (tget s.tln.spares key).isNone then
      let r := s.scrubFree key c
      if r.2 then (r.1.setTln { r.1.tln with spares := tset r.1.tln.spares key (2, 0) }).scbRaise 3 else r.1
    else s
  if s.spareBank bank then
    let r := s.scrubFree (bankWordKey pos) c
    if r.2 && !r.1.tln.bankFailed then (r.1.setTln { r.1.tln with bankFailed := true }).scbRaise 3 else r.1
  else
    match s.scbAddr bank pos with
    | some a => s.scrubUsed a (s.checkOf a c)
    | none => s

/-- The place after one: the next physical bank that is not retired, or the first word at the end of a pass (R635). -/
def State.scbNext (s : State) (bank pos : Nat) : State :=
  if pos + 1 < 65792 then s.put R.SCB_STATUS_position (pos + 1)
  else
    let s := s.put R.SCB_STATUS_position 0
    match (List.range 25).find? fun b => bank < b && !s.bankRetired b with
    | some b => s.put R.SCB_STATUS_bank b
    | none =>
      ((s.put R.SCB_STATUS_bank (if s.bankRetired 0 then 1 else 0)).count (R.SCB_CNT_count 0)).scbRaise 0

/-- One scrubber read (R635–R638): what its check finds, and whether it took its cycle through the starvation bound. -/
def State.scrub (s : State) (c : WordCheck) (starved : Bool) : State :=
  if !s.isUp || !s.running then s
  else
    let s := if starved then s.scbRaise 4 else s
    let bank := s.get R.SCB_STATUS_bank
    let pos := s.get R.SCB_STATUS_position
    let s := if s.bankRetired bank then s else s.scrubAt bank pos c
    s.scbNext bank (if s.bankRetired bank then 65791 else pos)

/-! ### The commands -/

/-- MIGRATION_COMPLETE (R626). -/
def execMigrationComplete (k : Fin 32) (s : State) : Host.Outcome State Fault Refusal := .next (settle (s.migrationEnd k).reready)

/-- RETIRE_SE (R627). -/
def execRetireSe (mid : BitVec 4) (index : BitVec 6) (s : State) : Host.Outcome State Fault Refusal :=
  .next (settle (s.whenUp fun s => s.retireRequest mid.toNat index.toNat))

/-- ROW_REQUEST (R629). -/
def execRowRequest (mid : BitVec 4) (value : W32) (s : State) : Host.Outcome State Fault Refusal :=
  .next (settle (s.whenUp fun s => s.rowRequest mid.toNat value.toNat))

/-- REPAIR (R630). -/
def execRepair (mid : BitVec 4) (s : State) : Host.Outcome State Fault Refusal := .next (s.whenUp fun s => s.repairStart mid.toNat)

/-- REPAIR_POINT_END (R630, R631, R640): the words found uncorrectable while they were copied, and the spares that
failed. -/
def execRepairPointEnd (words rows : List Nat) (bank : Bool) (s : State) : Host.Outcome State Fault Refusal :=
  .next (settle (s.repairEnd { words := words, rows := rows, bank := bank }))

/-- CLEAR_LANE (R633). -/
def execClearLane (mid : BitVec 4) (p : Fin 2) (s : State) : Host.Outcome State Fault Refusal :=
  .next (settle (s.whenUp fun s => s.clearLane mid.toNat p))

/-- SCRUB_READ (R636): whether the word has a single-bit error, or an uncorrectable one. -/
def execScrubRead (corr uncorr starved : Bool) (s : State) : Host.Outcome State Fault Refusal :=
  .next (settle (s.scrub (if uncorr then .uncorrectable else if corr then .corrected else .good) starved))

/-- SELF_CHECK_FAILURE (R619). -/
def execSelfCheckFailure (i : Fin 36) (s : State) : Host.Outcome State Fault Refusal :=
  .next (settle (s.fault { src := 80 + i, res := i }))

/-- A spare sub-engine's self-test (R619): an event where it fails. -/
def State.spareTest (s : State) (i : Nat) (failed : Bool) : State :=
  if failed && s.spareSes.contains i then s.fault { src := 80 + i, res := i } else s

/-- SPARE_SELF_TEST (R619). -/
def execSpareSelfTest (i : Fin 36) (failed : Bool) (s : State) : Host.Outcome State Fault Refusal :=
  .next (settle (s.spareTest i failed))

end Sys2Proof.Machine
end

