-- ==== Sys2Proof/Machine/TraceCmds.lean ====
section
/-!
DEFINITION. The trace writer, its host-memory sink, marks and restarts (R660, R665–R670), the instructions of the test
access port (R671, R672, R675), and lifecycle requests (R677, R683).
-/

namespace Sys2Proof.Machine

/-! ### The writer (R660, R668, R669) -/

/-- A TRC_EVT cause set: 0 full, 1 sink_overrun, 2 uncorr. -/
def State.trcRaise (s : State) (bit : Nat) : State := s.raise R.TRC_EVT_cause bit (R.TRC_EVT_CNT_count bit)

/-- The words of the first item of a chain, and those after it. -/
def firstItem : List Nat → List Nat × List Nat
  | [] => ([], [])
  | w :: ws =>
    if wordSb w == sbLast || wordSb w == sbGap then ([w], ws)
    else
      let r := firstItem ws
      (w :: r.1, r.2)

/-- The entry that an item is written as. A GAP word gives a GAP entry with its counts, at the time of the item that
follows it (R370, R668). -/
def trcEntry (item rest : List Nat) : List Nat :=
  match item with
  | [w] =>
    if wordSb w == sbGap then
      trcWords 0 { type := 0x44, arg0 := bits (wordData w) 32 16, arg1 := bits (wordData w) 0 32 } |>.set 0
        (wordData (rest.headD 0))
    else [wordData w]
  | ws => ws.map wordData

/-- The MARK operation whose entry has been written or discarded ends (R358). -/
def State.markDone (s : State) (entry : List Nat) : State :=
  let w := entry.getD 1 0
  if bits w 0 8 ≠ 0x30 then s
  else
    let tag := bits w 16 11
    match s.op tag with
    | some o => if o.first.opcode = ocMark && o.begun then s.endOp tag stSuccess 0 else s
    | none => s

/-- The sink's part of an overwrite of an entry that it has not copied (R667). -/
def State.sinkLost (s : State) : State :=
  if s.sinkLag < 8192 then { s with sinkLag := s.sinkLag + 1 }
  else if s.on R.TRC_CTL_sink_en then (s.count R.TRC_SINK_SKIP_CNT_count).trcRaise 1
  else s

/-- An entry written at the write pointer, which moves on; STOP mode stops after entry 8,191 (R660, R669). -/
def State.trcStore (s : State) (entry : List Nat) : State :=
  let p := s.get R.TRC_STATUS_wr_ptr
  let s := { s with trcBuf := tset s.trcBuf p entry }
  let s := ((s.put R.TRC_STATUS_wr_ptr ((p + 1) % 8192)).count R.TRC_ENTRIES_count).sinkLost
  if p + 1 < 8192 then s
  else
    let s := s.put R.TRC_STATUS_wrapped 1
    if s.on R.TRC_CTL_mode then (s.put R.TRC_STATUS_stopped 1).trcRaise 0 else s

/-- The writer pops one item and writes it, or discards it once it has stopped (R668, R669). In the power-fail sequence it
runs until step 5 (R664). -/
def State.traceWrite (s : State) : State :=
  let x := s.chain2
  if x.items.isEmpty || 5 ≤ s.sup.pf || !s.on R.TRC_CTL_en then s
  else
    let i := firstItem x.items
    let entry := trcEntry i.1 i.2
    let s := { s with chain2 := { x with items := i.2, lastWord := i.1.getLastD x.lastWord } }
    let s := if s.on R.TRC_STATUS_stopped then s.count R.TRC_STOP_DROP_CNT_count else s.trcStore entry
    s.markDone entry

/-- A write of TRC_CLEAR by a MID (R669). The sink goes on with the first entry written after it. -/
def State.trcClearWrite (s : State) (mid v : Nat) : State :=
  if v.testBit 0 && [0, 1, 2, 5].contains mid then
    { ((s.put R.TRC_STATUS_wr_ptr 0).put R.TRC_STATUS_wrapped 0).put R.TRC_STATUS_stopped 0 with sinkLag := 0 }
  else s

/-- A write of TRC_HOST_MARK by a MID (R670). -/
def State.hostMark (s : State) (mid v : Nat) : State :=
  if mid ≤ 1 then s.trace .mark { type := 0x31, mid := mid, arg0 := v } else s

/-! ### The sink (R665, R666) -/

/-- The sink has an entry to copy and room for it. -/
def State.sinkRoom (s : State) : Bool :=
  let k := s.get R.TRC_SINK_LOG2_k
  (s.get R.TRC_SINK_TAIL_tail + 2 ^ (k + 1) - s.get R.TRC_SINK_HEAD_head % 2 ^ (k + 1)) % 2 ^ (k + 1) < 2 ^ k

/-- A sink write may be issued: no other posted write of its function is due, and the function may issue. -/
def State.sinkFree (s : State) (f : Nat) : Bool := (s.fn f).posts.isEmpty && s.canIssue f && s.postCredit != 0

/-- One copy of the sink; `uncorr` says that it meets an uncorrectable word (R682). -/
def State.sinkCopy (s : State) (uncorr : Bool) : State :=
  let f := s.get R.TRC_CTL_sink_pf
  if !s.on R.TRC_CTL_sink_en || s.sinkLag = 0 || !s.sinkRoom || !s.sinkFree f then s
  else
    let k := s.get R.TRC_SINK_LOG2_k
    let tail := s.get R.TRC_SINK_TAIL_tail
    let entry := (tget s.trcBuf ((s.get R.TRC_STATUS_wr_ptr + 8192 - s.sinkLag) % 8192)).getD []
    let s := if uncorr then s.trcRaise 2 else s
    let s := { s with sinkLag := s.sinkLag - 1 }
    (s.put R.TRC_SINK_TAIL_tail ((tail + 1) % 2 ^ (k + 1))).dataWrite f
      (s.get R.TRC_SINK_BASE_base + 32 * (tail % 2 ^ k)) (fit 32 (bytesOf entry))

/-! ### The test access port (R671, R672, R675) -/

/-- The lifecycle state allows every instruction, or only those that drive no land. -/
def State.tapAllows (s : State) (i : TapInstr) : Bool :=
  s.nv.lifecycle == 0 || s.nv.lifecycle == 3 || [.bypass, .idcode, .sample, .dapAccess].contains i

/-- The instruction after Update-IR: one that is not allowed selects the bypass register. -/
def State.tapLoad (s : State) (i : TapInstr) : State :=
  let t := { s with tap := if s.tapAllows i then i else .bypass }
  if !s.tapDrives || t.tapDrives then t
  else
    (t.landsOf t.fnRuns).foldl (fun u n =>
      if u.on (R.PIN_CFG_busy n) then u
      else ((u.put (R.PIN_CFG_attached n) 0).parkNow n).put (R.PIN_CFG_busy n) 1) t

/-! ### Lifecycle requests (R677, R683) -/

/-- A write of GLB_LC_REQ by a master. -/
def State.lcReqWrite (s : State) (w : Who) (v : Nat) : State :=
  if 1 < w.mid || bits v 16 16 ≠ 0x1C5A then s.accessRefused R.GLB_LC_REQ_target.off w
  else
    let t := v % 4
    { (s.put R.GLB_LC_STATUS_pending 1).put R.GLB_LC_STATUS_target t with nv := { s.nv with lcReq := some t } }

/-! ### The commands -/

/-- TRACE_WRITE (R660). -/
def execTraceWrite (s : State) : Host.Outcome State Fault Refusal := .next s.traceWrite

/-- HOST_MARK (R670). -/
def execHostMark (mid : BitVec 4) (value : W32) (s : State) : Host.Outcome State Fault Refusal :=
  .next (settle (s.whenUp fun s => s.hostMark mid.toNat value.toNat))

/-- TRACE_CLEAR (R669). -/
def execTraceClear (mid : BitVec 4) (value : W32) (s : State) : Host.Outcome State Fault Refusal :=
  .next (s.whenUp fun s => s.trcClearWrite mid.toNat value.toNat)

/-- SINK_COPY (R665). -/
def execSinkCopy (uncorr : Bool) (s : State) : Host.Outcome State Fault Refusal := .next (s.sinkCopy uncorr)

/-- BYPASS (R671). -/
def execBypass (s : State) : Host.Outcome State Fault Refusal := .next (s.tapLoad .bypass)

/-- The identification register: version 2, part number 0x0740, manufacturer 0x2E5 and a 1 (R671). -/
def idcodeValue : Nat := 2 * 2 ^ 28 + 0x0740 * 2 ^ 12 + 0x2E5 * 2 + 1

/-- IDCODE (R671): the identification register is selected, and its value shifts out. -/
def execIdcode (s : State) : Host.Outcome State Fault Refusal := .next ((s.tapLoad .idcode).emit (.tdo 32 idcodeValue))

/-- SAMPLE_PRELOAD (R671): with the cells preloaded. -/
def execSamplePreload (cells : List Bool) (s : State) : Host.Outcome State Fault Refusal :=
  .next { s.tapLoad .sample with boundary := cells }

/-- EXTEST (R672). -/
def execExtest (s : State) : Host.Outcome State Fault Refusal := .next (s.tapLoad .extest)

/-- CLAMP (R672). -/
def execClamp (s : State) : Host.Outcome State Fault Refusal := .next (s.tapLoad .clamp)

/-- HIGHZ (R672). -/
def execHighz (s : State) : Host.Outcome State Fault Refusal := .next (s.tapLoad .highz)

/-- LIFECYCLE_REQUEST (R677). -/
def execLifecycleRequest (mid : BitVec 4) (origin : BitVec 10) (value : W32) (s : State) :
    Host.Outcome State Fault Refusal :=
  .next (settle (s.whenUp fun s => s.lcReqWrite { mid := mid.toNat, addr := origin.toNat } value.toNat))

end Sys2Proof.Machine
end

