-- ==== Sys2Proof/Machine/Firmware.lean ====
section
/-!
DEFINITION. Firmware's service of commands: carriers, catalogue and the checks that every command has (R278–R286), and
the parameters (R277, R282, R309, R565, R575–R585, R607, R621).
-/

namespace Sys2Proof.Machine

/-! ### Requests (R278, R280) -/

/-- Request word n, from 1. -/
def FwReq.w (r : FwReq) (n : Nat) : Nat := r.ws.getD (n - 1) 0

/-- A 64-bit request value in words n and n + 1. -/
def FwReq.w64 (r : FwReq) (n : Nat) : Nat := r.w n + 2 ^ 32 * r.w (n + 1)

/-- Kind, code and token of a message's header word (R264). -/
def msgKind (w0 : Nat) : Nat := bits w0 5 3
def msgCode (w0 : Nat) : Nat := bits w0 8 8
def msgToken (w0 : Nat) : Nat := bits w0 16 8

/-- A command of channel c is still being served (R281). -/
def State.chanBusy (s : State) (c : Nat) : Bool :=
  s.waitingAsks.any fun a => match a.via with
    | .mailbox d _ _ => d == c
    | .queue _ _ => false

/-- The request at the head of a channel that firmware receives. -/
def State.mailRequest (s : State) (c : Nat) : Option FwReq :=
  if !s.fwServes false || !s.isReceiver c 2 || s.chanBusy c then none
  else match (s.chan c).queue with
    | [] => none
    | m :: _ =>
      let w0 := m.words.headD 0
      if msgKind w0 ≠ 0 then none
      else some { asked := { via := .mailbox c m.mid m.addr, code := msgCode w0, token := msgToken w0 }, mid := m.mid,
                  ws := (m.words.drop 1).dropLast }

/-- The SQ 0 entry that firmware takes next; it serves one at a time (R717). -/
def State.adminRequest (s : State) : Option FwReq :=
  if !s.fwServes true || s.admin.any (fun e => e.taken && e.reply.isNone) then none
  else match s.admin.find? fun e => !e.taken with
    | none => none
    | some e =>
      let f := s.get R.QMG_ADM_CTL_owner
      some { asked := { via := .queue e.slot f, code := fieldAt e.bytes 1 1, token := fieldAt e.bytes 2 1 }, mid := f,
             ws := (List.range 14).map fun n => fieldAt e.bytes (8 + 4 * n) 4 }

/-- It is the turn of channel c among the request channels that firmware can serve: they are served round robin (R281). -/
def State.mailTurn (s : State) (c : Nat) : Bool :=
  ((List.range 16).map fun i => (s.fwTurn + 1 + i) % 16).find? (fun d => (s.mailRequest d).isSome) == some c

/-- The request that firmware takes next from a carrier: a mailbox channel at its turn, or SQ 0. -/
def State.fwHead (s : State) : Option (Fin 16) → Option FwReq
  | some c => if s.mailTurn c then s.mailRequest c else none
  | none => s.adminRequest

/-- A request taken for service (R281, R717). -/
def State.fwTake (s : State) (r : FwReq) : State :=
  match r.asked.via with
  | .mailbox c _ _ => { s.mailboxDrop c with fwTurn := c }
  | .queue slot _ =>
    let l := s.admin.map fun (e : AdmEntry) =>
      if e.slot == slot && !e.taken then { e with taken := true } else e
    { s with admin := l }

/-! ### The catalogue (R282) -/

/-- One command of the catalogue: code, carrier, MIDs, and for each request word that it uses the bits that may be
other than zero. -/
structure FwCmd where
  code : Nat
  queueOnly : Bool := false
  far : Bool := false
  masks : List Nat := []
deriving DecidableEq, Repr

/-- Every bit of a word. -/
def full : Nat := 2 ^ 32 - 1

/-- The commands that firmware serves (R282). -/
def catalogue : List FwCmd :=
  [{ code := 0x01, far := true }, { code := 0x02, far := true, masks := [0xFFFF] },
   { code := 0x03, masks := [0xFFFF, full, full, 1] }, { code := 0x04, far := true, masks := [3] },
   { code := 0x10, masks := [0x3F0FFF, 0xF, full, full] }, { code := 0x11, masks := [0xFF] },
   { code := 0x12, masks := [0xFF] }, { code := 0x13, masks := [0xFF, 0xFFF] },
   { code := 0x14, masks := [0xF3F, full, full] }, { code := 0x15, masks := [0x3F] }, { code := 0x16, masks := [0x7FF] },
   { code := 0x20, queueOnly := true, masks := [0xFFF, 0x1FFF, full, full] },
   { code := 0x21, masks := [0xFFF, 0x1FFF, 1] }]
  ++ [{ code := 0x30, masks := [full, full, 0xFF] }, { code := 0x31 }, { code := 0x32, far := true },
   { code := 0x33, queueOnly := true, masks := [full, full, full, full, full, full] },
   { code := 0x34, masks := [0x103FF] }, { code := 0x35 }, { code := 0x36 }, { code := 0x37 }, { code := 0x40 },
   { code := 0x41, masks := [0x7F, 0x71FFF] }, { code := 0x50 }, { code := 0x51, masks := [1, full, full] },
   { code := 0x52, queueOnly := true, masks := [1, full, full, full, full] }, { code := 0x53, masks := [1] },
   { code := 0x54, masks := [1] }, { code := 0x55 }, { code := 0x56, masks := [1] }, { code := 0x57 }]

/-- The catalogue entry of a code that is served at this stage: in recovery 0x50–0x55 only (R153). -/
def State.served (s : State) (code : Nat) : Option FwCmd :=
  if s.stage = stageRecovery && !(0x50 ≤ code && code ≤ 0x55) then none
  else catalogue.find? fun c => c.code == code

/-- A MID may send a command. -/
def FwCmd.from (c : FwCmd) (mid : Nat) : Bool := mid == 0 || mid == 1 || (c.far && mid == 4)

/-- Unused words and bits are zero. -/
def zeroUnused : List Nat → List Nat → Bool
  | [], _ => true
  | w :: ws, [] => w == 0 && zeroUnused ws []
  | w :: ws, m :: ms => clearBits w m == 0 && zeroUnused ws ms

/-- The status of the checks that every command has: carrier, MID, zero words. -/
def FwReq.judge (r : FwReq) (c : FwCmd) : Nat :=
  let mail := match r.asked.via with
    | .mailbox _ _ _ => true
    | .queue _ _ => false
  if c.queueOnly && mail then rsCarrier
  else if !c.from r.mid then rsDenied
  else if !zeroUnused r.ws c.masks then rsBadArg
  else rsOk

/-- The carrier of a command: a request channel, or SQ 0 (R277). -/
def carriedBy (mail : Bool) (chan : Fin 16) : Option (Fin 16) := if mail then some chan else none

/-- The reply of a request. -/
def State.answer (s : State) (r : FwReq) (status : Nat) (ws : List Nat := []) : State := s.fwReply r.asked status ws

/-- The command with a code served from a carrier, if it is the one at its turn. -/
def State.fwServe (s : State) (via : Option (Fin 16)) (code : Nat) (f : FwReq → State → State) : State :=
  match s.fwHead via with
  | none => s
  | some r =>
    if r.asked.code ≠ code then s
    else match s.served code with
      | none => s
      | some c =>
        let t := s.fwTake r
        if r.judge c = rsOk then f r t else t.answer r (r.judge c)

/-- UNKNOWN_COMMAND: a code outside the catalogue, or one not served in recovery (R153, R285). -/
def State.fwUnknown (s : State) (via : Option (Fin 16)) : State :=
  match s.fwHead via with
  | none => s
  | some r => if (s.served r.asked.code).isSome then s else (s.fwTake r).answer r rsUnsupported

/-- A REPLY or NOTICE that reaches firmware is popped and has no other effect (R286). -/
def State.fwIgnores (s : State) (c : Nat) : State :=
  if !s.fwServes false || !s.isReceiver c 2 then s
  else match (s.chan c).queue with
    | [] => s
    | m :: _ => if msgKind (m.words.headD 0) = 0 then s else s.mailboxDrop c

/-! ### Reads of host memory (R283) -/

/-- A command goes on once a read of host memory, with the requester ID of its sender, has ended. -/
def State.fwRead (s : State) (x : FwRead) (addr len : Nat) : State :=
  let n := s.fwNext
  ({ s with fwNext := n + 1, fwReads := tset s.fwReads n { x with got := none } }).hostRead x.req.mid addr len (.fw n)

/-- The fragment tables at an address are read for a transfer of a number of bytes (R302). -/
def State.fwTables (s : State) (r : FwReq) (need addr : Nat) : State :=
  s.fwRead { req := r, part := .table, need := need } addr tableBytes

/-! ### Parameters -/

/-- Default of parameter 0x0600 + n (R607), in the layout of FLT_SRCn_CFG, with to_pf at its cold value. -/
def fltDefault (n : Nat) : Nat :=
  let v (action t k : Nat) : Nat := t + k * 2 ^ 8 + action * 2 ^ 16 + 3 * 2 ^ 20
  if n = 3 || n = 5 || n = 6 then v 0 64 10
  else if n = 9 || (22 ≤ n && n ≤ 26) || n = 28 then v 1 4 10
  else if n = 10 || n = 11 then v 1 8 10
  else if (12 ≤ n && n ≤ 15) || n = 20 || n = 21 || (32 ≤ n && n ≤ 65) then v 1 16 10
  else if 66 ≤ n && n ≤ 72 then v 1 64 10
  else if 80 ≤ n && n ≤ 115 then v 3 1 0
  else if n = 116 then v 1 64 13
  else if n = 118 then v 1 4 22
  else v 1 1 0

/-- The parameters that WF 4.1 knows, with their defaults: 0x0100–0x010F the Keyway (R277), 0x0200 tag_max (R309),
0x0201 the default time-out, 0x0301 and 0x0302 takeover grace and auto (R565), 0x0400–0x0402 the thermal limits (R575),
0x0403 the thermal grace (R585), 0x0404 enf_duty (R577), 0x0405 the sampling period in QUIET (R580), 0x0600–0x0676 the
fault sources (R607), and 0x0700–0x0731 the owner table (R621). -/
def paramDefault (id : Nat) : Option Nat :=
  if 0x0100 ≤ id && id ≤ 0x010F then
    some ([0x120, 0x102, 0x121, 0x112, 0x110, 0x101, 0x124, 0x142].getD (id - 0x0100) 0)
  else if id = 0x0200 then some 512
  else if id = 0x0201 then some 0x01000064
  else if id = 0x0301 then some 50
  else if id = 0x0302 then some 1
  else if id = 0x0400 then some 110
  else if id = 0x0401 then some 118
  else if id = 0x0402 then some 125
  else if id = 0x0403 then some 500
  else if id = 0x0404 then some 8
  else if id = 0x0405 then some 1000
  else if 0x0600 ≤ id && id ≤ 0x067F then if srcAssigned (id - 0x0600) then some (fltDefault (id - 0x0600)) else none
  else if 0x0700 ≤ id && id ≤ 0x0731 then
    some (if 0x0720 ≤ id && id ≤ 0x072F then 0x22222222 else 0xFFFFFFFF)
  else none

/-- The fields that hold a parameter in force. -/
def paramFlds (id : Nat) : List Fld :=
  if 0x0100 ≤ id && id ≤ 0x010F then
    let c := id - 0x0100
    [R.KWY_BIND_sender c, R.KWY_BIND_receiver c, R.KWY_BIND_valid c]
  else if id = 0x0201 then [R.CHE_DEF_TIMEOUT_value, R.CHE_DEF_TIMEOUT_scale]
  else if 0x0600 ≤ id && id ≤ 0x067F then
    let n := id - 0x0600
    [R.FLT_SRC_CFG_n n, R.FLT_SRC_CFG_k n, R.FLT_SRC_CFG_action n, R.FLT_SRC_CFG_to_pf n, R.FLT_SRC_CFG_to_cp n,
     R.FLT_SRC_CFG_rec_all n]
  else if 0x0700 ≤ id && id ≤ 0x0731 then [R.SCB_OWN_owners ((id - 0x0700) / 2) ((id - 0x0700) % 2)]
  else []

/-- The value of a parameter in force: that of its register, or of firmware's copy. -/
def State.paramNow (s : State) (id : Nat) : Nat :=
  if id = 0x0301 then s.get R.LDG_PAIR_CTL_grace
  else if id = 0x0302 then s.get R.LDG_PAIR_CTL_auto
  else if id = 0x0400 then s.get R.THM_LIM_warn
  else if id = 0x0401 then s.get R.THM_LIM_enforce
  else if id = 0x0402 then s.get R.THM_LIM_critical
  else if id = 0x0403 then s.get R.THM_GRACE_grace
  else if id = 0x0404 then s.get R.THM_DUTY_enf_duty
  else if id = 0x0200 || id = 0x0405 then (tget s.params id).getD ((paramDefault id).getD 0)
  else s.readFlds (paramFlds id)

/-- THM_LIM with one of its limits changed obeys R575. -/
def State.limOk (s : State) (id v : Nat) : Bool :=
  let w := if id = 0x0400 then v else s.get R.THM_LIM_warn
  let e := if id = 0x0401 then v else s.get R.THM_LIM_enforce
  let c := if id = 0x0402 then v else s.get R.THM_LIM_critical
  w ≤ 110 && e ≤ 118 && c ≤ 125 && w + 2 ≤ e && e + 2 ≤ c

/-- Bits 18:0 of FLT_SRCn_CFG are neither reserved nor looser than the bound (R607). -/
def State.fltOk (s : State) (n v : Nat) : Bool :=
  !nReserved (bits v 0 8) && !kReserved (bits v 8 5) && !actReserved n (bits v 16 3) && !s.nLooser n (bits v 0 8)
    && !s.kLooser n (bits v 8 5) && !s.actLooser n (bits v 16 3)

/-- A value that a parameter may take, within the Deadbolt bounds (R285). -/
def State.paramOk (s : State) (id v : Nat) : Bool :=
  if 0x0100 ≤ id && id ≤ 0x010F then v < 512
  else if id = 0x0200 then 1 ≤ v && v ≤ 2048
  else if id = 0x0201 then v < 2 ^ 25 && v % 2 ^ 24 != 0
  else if id = 0x0301 then 10 ≤ v && v ≤ 10000
  else if id = 0x0302 then v ≤ 1
  else if id = 0x0400 || id = 0x0401 || id = 0x0402 then s.limOk id v
  else if id = 0x0403 then 50 ≤ v && v ≤ 2000
  else if id = 0x0404 then 1 ≤ v && v ≤ 8
  else if id = 0x0405 then 1 ≤ v && v < 2 ^ 32
  else if 0x0600 ≤ id && id ≤ 0x067F then
    let n := id - 0x0600
    v < 2 ^ 24 && bits v 13 3 == 0 && bits v 19 1 == 0 && s.fltOk n (v % 2 ^ 19)
  else v < 2 ^ 32

/-- A parameter put into force as MID 2 writes its register. The Keyway takes its parameters at the next boot only
(R275). -/
def State.paramPut (s : State) (id v : Nat) : State :=
  if id = 0x0301 then s.put R.LDG_PAIR_CTL_grace v
  else if id = 0x0302 then s.put R.LDG_PAIR_CTL_auto v
  else if id = 0x0400 then s.put R.THM_LIM_warn v
  else if id = 0x0401 then s.put R.THM_LIM_enforce v
  else if id = 0x0402 then s.put R.THM_LIM_critical v
  else if id = 0x0403 then s.put R.THM_GRACE_grace v
  else if id = 0x0404 then s.put R.THM_DUTY_enf_duty v
  else if id = 0x0200 || id = 0x0405 then { s with params := tput s.params id v ((paramDefault id).getD 0) }
  else if 0x0600 ≤ id && id ≤ 0x067F then s.srcCfgWrite (id - 0x0600) { mid := 2 } v
  else if 0x0100 ≤ id && id ≤ 0x010F then s
  else s.writeFlds 2 v (paramFlds id)

/-- Byte address of the parameter store in the flash (R127). -/
def paramStore : Nat := 0x2100000

/-- Flash address of a bank. -/
def bankAddr (b : Nat) : Nat := if b = 0 then 0x100000 else 0x1100000

/-- The unit is in recovery, where either bank may be written. -/
def State.recovery (s : State) : Bool := s.stage == stageRecovery

/-- A bank is the running one: firmware has been started from it. -/
def State.runsBank (s : State) (b : Nat) : Bool := !s.recovery && s.get R.GLB_BOOT_STATUS_bank == b

/-- A flash address that the Deadbolt closes to the control processor: the bank from which the running firmware was
started, the repair journal, the reserved region and the ledger region (R128, R129). -/
def State.flashClosed (s : State) (addr : Nat) : Bool :=
  0x2500000 ≤ addr ||
    (stageFwStart ≤ s.stage && (List.range 2).any fun b =>
      s.runsBank b && bankAddr b ≤ addr && addr < bankAddr b + 0x1000000)

/-- A flash program or erase operation of the control processor at a byte address, and whether it succeeds. One that the
Deadbolt refuses is not done, and counts in source 4 (R129). -/
def State.cpFlash (s : State) (addr : Nat) : State × Bool :=
  if s.flashClosed addr then (s.fault { src := 4, res := bits addr 4 23, mid := some 2 }, false) else s.flashOp addr

/-- The value that the parameter store holds, or the default (R150). -/
def State.paramStored (s : State) (id : Nat) : Nat := (tget s.nv.params id).getD ((paramDefault id).getD 0)

/-- A body of 16 bytes whose layout the manual does not state. -/
def State.freeBody (s : State) : State × List Byte :=
  let a := s.drawFree
  let b := a.1.drawFree
  (b.1, leBytes 8 a.2 ++ leBytes 8 b.2)

/-- A firmware record of a type whose body's layout the manual does not state. -/
def State.fwNote (s : State) (type : Nat) : State :=
  let r := s.freeBody
  r.1.fwRecord type r.2

/-- Type codes of the records of firmware (R536). -/
def tFwBoot : Nat := 0x20
def tTimeSet : Nat := 0x21
def tParamChange : Nat := 0x22

/-- PARAM_GET: id, value in force, writable, at default. -/
def FwReq.paramGet (r : FwReq) (s : State) : State :=
  match paramDefault (r.w 1) with
  | none => s.answer r rsBadArg
  | some d =>
    let v := s.paramNow (r.w 1)
    s.answer r rsOk [r.w 1, v, 0, 1 + 2 * b2n (v == d)]

/-- A parameter changed, and stored with its PARAM_CHANGE record where it persists (R549). -/
def FwReq.paramApply (r : FwReq) (s : State) : State :=
  let id := r.w 1
  let v := r.w64 2
  let t := if r.w 4 = 1 then { s with nv := { s.nv with params := tset s.nv.params id v } } else s
  let t := t.paramPut id v
  (if r.w 4 = 1 then t.fwNote tParamChange else t).answer r rsOk (words2 (t.paramNow id))

/-- PARAM_SET. -/
def FwReq.paramSet (r : FwReq) (s : State) : State :=
  if (paramDefault (r.w 1)).isNone || !s.paramOk (r.w 1) (r.w64 2) then s.answer r rsBadArg
  else if r.w 4 = 1 then
    let f := s.cpFlash paramStore
    if f.2 then r.paramApply f.1 else f.1.answer r rsFlash
  else r.paramApply s

/-- UNIT_INFO. -/
def FwReq.unitInfo (r : FwReq) (s : State) : State :=
  s.answer r rsOk
    [0x0740A3D1, 0x202,
     s.readFlds [R.GLB_FW_VERSION_major, R.GLB_FW_VERSION_minor, R.GLB_FW_VERSION_patch],
     s.addr + 2 ^ 16 * b2n s.assigned, s.nv.lifecycle + 4 * s.power]

/-- The reply status of PWR_STATE.last_result (R285). -/
def pwrReply (r : Nat) : Nat :=
  if r = prOk then rsOk
  else if r = prQueues then rsQueues
  else if r = prPaired then rsPaired
  else if r = prBadTarget then rsBadTarget
  else rsBusy

/-- PWR_SET: firmware writes PWR_STATE.target. -/
def FwReq.pwrSet (r : FwReq) (s : State) : State :=
  let t := s.pwrRequest 2 (r.w 1)
  let res := t.get R.PWR_STATE_last_result
  t.answer r (pwrReply res) [res]

/-- A source may be named in FAULT_CFG with these values (R607). -/
def FwReq.faultCfg (r : FwReq) (s : State) : State :=
  let n := r.w 1
  if !srcAssigned n || !s.fltOk n (r.w 2) then s.answer r rsBadArg
  else
    let keep := s.readFlds [R.FLT_SRC_CFG_to_pf n, R.FLT_SRC_CFG_to_cp n, R.FLT_SRC_CFG_rec_all n]
    let t := s.srcCfgWrite n { mid := 2 } (keep + r.w 2)
    t.answer r rsOk [t.readFlds [R.FLT_SRC_CFG_n n, R.FLT_SRC_CFG_k n, R.FLT_SRC_CFG_action n]]

/-- The port through which firmware appends is free. -/
def State.fwaFree (s : State) : Bool := !s.on R.LDG_FWA_CTL_go

/-! ### The commands -/

/-- UNIT_INFO (R282). -/
def execUnitInfo (via : Option (Fin 16)) (s : State) : Host.Outcome State Fault Refusal :=
  .next (settle (s.fwServe via 0x01 FwReq.unitInfo))

/-- PARAM_GET (R282). -/
def execParamGet (via : Option (Fin 16)) (s : State) : Host.Outcome State Fault Refusal :=
  .next (settle (s.fwServe via 0x02 FwReq.paramGet))

/-- PARAM_SET (R282, R549). Firmware takes it while its append port is free. -/
def execParamSet (via : Option (Fin 16)) (s : State) : Host.Outcome State Fault Refusal :=
  .next (settle (if s.fwaFree then s.fwServe via 0x03 FwReq.paramSet else s))

/-- PWR_SET (R101, R285). -/
def execPwrSet (via : Option (Fin 16)) (s : State) : Host.Outcome State Fault Refusal :=
  .next (settle (s.fwServe via 0x04 FwReq.pwrSet))

/-- FAULT_CFG (R607). -/
def execFaultCfg (via : Option (Fin 16)) (s : State) : Host.Outcome State Fault Refusal :=
  .next (settle (s.fwServe via 0x41 FwReq.faultCfg))

/-- UNKNOWN_COMMAND (R285). -/
def execUnknownCommand (via : Option (Fin 16)) (s : State) : Host.Outcome State Fault Refusal :=
  .next (settle (s.fwUnknown via))

/-- FIRMWARE_IGNORES_REPLY (R286). -/
def execFirmwareIgnoresReply (c : Fin 16) (s : State) : Host.Outcome State Fault Refusal := .next (s.fwIgnores c)

end Sys2Proof.Machine
end

