-- ==== Sys2Proof/Machine/Images.lean ====
section
/-!
DEFINITION. Firmware banks, the boot state record and the image commands (R128–R137, R144–R148, R151, R153).
-/

namespace Sys2Proof.Machine

/-! ### The boot state record (R133, R134) -/

/-- Bank statuses. -/
def bsEmpty : Nat := 0
def bsStaged : Nat := 1
def bsConfirmed : Nat := 2
def bsBad : Nat := 3

/-- A boot state record. -/
structure BootRec where
  seq : Nat := 0
  preferred : Nat := 0
  pending : Option Nat := none
  trial : Option Nat := none
  attempts : Nat := 0
  statusA : Nat := 0
  statusB : Nat := 0
  indexA : Nat := 0
  indexB : Nat := 0
deriving DecidableEq, Repr

/-- The record's magic, "WBSR". -/
def recMagic : Nat := 0x52534257

/-- A bank, or none as 0xFF. -/
def bankByte : Option Nat → Nat
  | some b => b
  | none => 0xFF

/-- The 64 bytes of a record. -/
def BootRec.bytes (r : BootRec) : List Byte :=
  let b := leBytes 4 recMagic ++ leBytes 4 r.seq ++ leBytes 1 r.preferred ++ leBytes 1 (bankByte r.pending)
    ++ leBytes 1 (bankByte r.trial) ++ leBytes 1 r.attempts ++ leBytes 1 r.statusA ++ leBytes 1 r.statusB
    ++ leBytes 1 r.indexA ++ leBytes 1 r.indexB ++ zeros 44
  b ++ leBytes 4 (crc32c b)

/-- A bank field that may be none. -/
def readBank (x : Nat) : Option Nat := if x < 2 then some x else none

/-- The record of a copy, if the copy is valid: magic, check word and field encodings. -/
def bootRec (bs : List Byte) : Option BootRec :=
  let f (o : Nat) : Nat := fieldAt bs o 1
  let bankOk (x : Nat) : Bool := x < 2 || x == 0xFF
  if bs.length == 64 && fieldAt bs 0 4 == recMagic && fieldAt bs 0x3C 4 == crc32c (bs.take 0x3C) && f 8 < 2
      && bankOk (f 9) && bankOk (f 0xA) && f 0xB ≤ 3 && f 0xC ≤ 3 && f 0xD ≤ 3 && f 0xE ≤ 64 && f 0xF ≤ 64 && zeroAt bs 0x10 44 then
    some { seq := fieldAt bs 4 4, preferred := f 8, pending := readBank (f 9), trial := readBank (f 0xA),
           attempts := f 0xB, statusA := f 0xC, statusB := f 0xD, indexA := f 0xE, indexB := f 0xF }
  else none

/-- The governing copy and its record: the valid copy with the higher seq. DESIGN CHOICE, log entry 106: of two valid copies
with one seq, copy 0. -/
def Nv.govern (n : Nv) : Option (Nat × BootRec) :=
  match bootRec n.rec0, bootRec n.rec1 with
  | some a, some b => if a.seq < b.seq then some (1, b) else some (0, a)
  | some a, none => some (0, a)
  | none, some b => some (1, b)
  | none, none => none

/-- The governing record, or an empty one where no copy is valid. -/
def Nv.boot (n : Nv) : BootRec := ((n.govern).map (·.2)).getD {}

/-- A record written to the copy that does not govern, under the next seq, and whether the flash took it. A failed write
leaves a copy that is not valid. -/
def State.recWrite (s : State) (r : BootRec) : State × Bool :=
  let copy := match s.nv.govern with
    | some (c, _) => 1 - c
    | none => 0
  let bytes := { r with seq := (s.nv.boot.seq + 1) % 2 ^ 32 }.bytes
  let f := s.cpFlash (0x1000 * copy)
  let b := if f.2 then bytes else []
  let n := f.1.nv
  ({ f.1 with nv := if copy = 0 then { n with rec0 := b } else { n with rec1 := b } }, f.2)

def BootRec.status (r : BootRec) (b : Nat) : Nat := if b = 0 then r.statusA else r.statusB
def BootRec.setStatus (r : BootRec) (b st : Nat) : BootRec :=
  if b = 0 then { r with statusA := st } else { r with statusB := st }
def BootRec.setIndex (r : BootRec) (b i : Nat) : BootRec := if b = 0 then { r with indexA := i } else { r with indexB := i }

/-- GLB_BANK_STATE: the governing record (R160). -/
def Nv.bankState (n : Nv) : Nat :=
  let r := n.boot
  let b (x : Option Nat) : Nat := x.getD 3
  r.preferred + b r.trial * 2 ^ 2 + b r.pending * 2 ^ 4 + r.attempts * 2 ^ 6 + r.statusA * 2 ^ 8 + r.statusB * 2 ^ 10
    + r.indexA % 128 * 2 ^ 12 + r.indexB % 128 * 2 ^ 19

/-! ### Image headers (R130–R132, R135, R137) -/

def hdrBody (h : List Byte) : Nat := fieldAt h 0x14 4
def hdrIndex (h : List Byte) : Nat := fieldAt h 0x10 1
def hdrRelease (h : List Byte) : Nat := fieldAt h 0x0C 4

/-- No field but the two lengths is malformed. -/
def hdrFormatOk (h : List Byte) : Bool :=
  let key := fieldAt h 9 1
  h.length == 256 && fieldAt h 0 4 == 0x4E594C57 && fieldAt h 4 2 == 1 && fieldAt h 6 2 == 0x100
    && (fieldAt h 8 1 == 1 || fieldAt h 8 1 == 2) && (key < 4 || key == 0xFF) && hdrIndex h ≤ 64
    && zeroAt h 0x0A 2 && zeroAt h 0x12 2 && zeroAt h 0x1C 4 && zeroAt h 0x48 120

/-- body_length and entry_offset obey their rules. -/
def hdrSizeOk (h : List Byte) : Bool :=
  hdrBody h % 4096 == 0 && 4096 ≤ hdrBody h && hdrBody h ≤ 16773120 && fieldAt h 0x18 4 % 4 == 0
    && fieldAt h 0x18 4 < hdrBody h

/-- The public key of a key index: an image key slot that is programmed and not revoked, or the factory key. -/
def Nv.imageKey (n : Nv) (i : Nat) : Option (List Byte) :=
  if i = 0xFF then some ((List.range 64).map Config.factoryKey)
  else match tget n.keys i with
    | some (k, false) => some k
    | _ => none

/-- The signature over header bytes 0x00–0xBF verifies under a key. -/
def hdrSigned (h key : List Byte) : Bool :=
  ecdsaOk (leVal (key.take 32)) (leVal (key.drop 32)) (beVal (sha256 (h.take 0xC0))) (fieldAt h 0xC0 32) (fieldAt h 0xE0 32)

/-- Production firmware under a Hasp key in PROVISIONED and FIELD, factory firmware under the factory key otherwise. -/
def Nv.accepts (n : Nv) (h : List Byte) : Bool :=
  if n.lifecycle = 1 || n.lifecycle = 2 then fieldAt h 8 1 == 1 && fieldAt h 9 1 < 4
  else fieldAt h 8 1 == 2 && fieldAt h 9 1 == 0xFF

/-- The image is below the anti-rollback counter where the check applies. -/
def Nv.rolledBack (n : Nv) (h : List Byte) : Bool := (n.lifecycle == 1 || n.lifecycle == 2) && hdrIndex h < n.rollback

/-- The module revision of GLB_REV. -/
def moduleRev : Nat := 2

/-- Reject reasons of GLB_BOOT_STATUS (R152, R160). -/
def rjFormat : Nat := 1
def rjKey : Nat := 2
def rjSig : Nat := 3
def rjDigest : Nat := 4
def rjRollback : Nat := 5
def rjRevision : Nat := 6
def rjSize : Nat := 7
def rjFlash : Nat := 8
def rjStatus : Nat := 9
def rjLifecycle : Nat := 0xA

/-- The checks of boot step 8 on one bank, in the order of R138: the reason of the first that fails. `bad` says that an
uncorrectable word is met while the bank is read. -/
def Nv.bankReject (n : Nv) (k : FlashBank) (bad : Bool) : Option Nat :=
  let h := k.header
  if bad then some rjFlash
  else if !hdrSizeOk h then some rjSize
  else if !hdrFormatOk h then some rjFormat
  else match n.imageKey (fieldAt h 9 1) with
    | none => some rjKey
    | some key =>
      if !hdrSigned h key then some rjSig
      else if sha256 (k.body.take (hdrBody h)) ≠ (h.drop 0x20).take 32 then some rjDigest
      else if !n.accepts h then some rjLifecycle
      else if moduleRev < fieldAt h 0x11 1 then some rjRevision
      else if n.rolledBack h then some rjRollback
      else none

/-- The checks of IMG_BEGIN, in the order of R146, as a reply status. -/
def Nv.headerStatus (n : Nv) (h : List Byte) : Nat :=
  if !hdrFormatOk h || !hdrSizeOk h then rsFormat
  else match n.imageKey (fieldAt h 9 1) with
    | none => rsKey
    | some key =>
      if !hdrSigned h key then rsSig
      else if moduleRev < fieldAt h 0x11 1 then rsRevision
      else if !n.accepts h then rsLifecycle
      else if n.rolledBack h then rsRollback
      else rsOk

/-! ### Banks -/

def Nv.bank (n : Nv) (b : Nat) : FlashBank := if b = 0 then n.bankA else n.bankB
def Nv.setBank (n : Nv) (b : Nat) (k : FlashBank) : Nv := if b = 0 then { n with bankA := k } else { n with bankB := k }

/-- The running bank is on trial. -/
def State.onTrial (s : State) : Bool :=
  !s.recovery && s.nv.boot.trial == some (s.get R.GLB_BOOT_STATUS_bank)

/-- Session owner and bank suit a command: BUSY for another MID's session, NO_SESSION without one for that bank. -/
def State.sessionStatus (s : State) (mid b : Nat) : Nat :=
  match s.img with
  | none => rsNoSession
  | some x => if x.mid ≠ mid then rsBusy else if x.bank ≠ b then rsNoSession else rsOk

/-! ### The commands of R144 -/

/-- IMG_QUERY. DESIGN CHOICE, log entry 107: in recovery, where no bank runs, it shows bank A as running and not on
trial. -/
def FwReq.imgQuery (r : FwReq) (s : State) : State :=
  let n := s.nv
  let run := if s.recovery then 0 else s.get R.GLB_BOOT_STATUS_bank + 2 * b2n s.onTrial
  let session := match s.img with
    | none => 0
    | some x => (x.bank + 1) * 2 ^ 8 + x.mid * 2 ^ 12
  s.answer r rsOk
    [run + n.bankState % 2 ^ 30 * 4, n.rollback % 128 + session, hdrRelease n.bankA.header, hdrRelease n.bankB.header,
     ((s.img).map (·.next)).getD 0]

/-- IMG_BEGIN once its header is read and checked: the bank becomes EMPTY in the record, with pending cleared where it
names the bank, its first sector is erased, and a session opens. -/
def FwReq.imgOpen (r : FwReq) (b : Nat) (h : List Byte) (s : State) : State :=
  let rec_ := s.nv.boot.setStatus b bsEmpty
  let w := s.recWrite (if rec_.pending = some b then { rec_ with pending := none } else rec_)
  if !w.2 then w.1.answer r rsFlash
  else
    let e := w.1.cpFlash (bankAddr b)
    let t := { e.1 with nv := e.1.nv.setBank b {} }
    if !e.2 then t.answer r rsFlash
    else { t with img := some { mid := r.mid, bank := b, header := h } }.answer r rsOk

/-- Why an IMG_BEGIN is refused whatever its header holds: another MID's session, or the running bank (R145, R151). -/
def FwReq.imgBars (r : FwReq) (s : State) : Nat :=
  if (s.img).any fun x => x.mid != r.mid then rsBusy else if s.runsBank (r.w 1) then rsBankActive else rsOk

/-- IMG_BEGIN: its 256-byte header is read (R283). -/
def FwReq.imgBegin (r : FwReq) (s : State) : State :=
  if r.imgBars s ≠ rsOk then s.answer r (r.imgBars s)
  else s.fwRead { req := r, part := .header } (r.w64 2) 256

/-- IMG_BEGIN with its header read. -/
def FwReq.imgBegun (r : FwReq) (h : List Byte) (s : State) : State :=
  let st := if r.imgBars s ≠ rsOk then r.imgBars s else s.nv.headerStatus h
  if st ≠ rsOk then s.answer r st else r.imgOpen (r.w 1) h s

/-- The rules of a chunk (R147). -/
def ImgSession.chunkOk (x : ImgSession) (off len : Nat) : Bool :=
  off == x.next && len % 4096 == 0 && 4096 ≤ len && len ≤ 65536 && off + len ≤ hdrBody x.header

/-- Why an IMG_CHUNK is refused: its session, its table address, or the rules of R147. -/
def FwReq.chunkBars (r : FwReq) (s : State) : Nat :=
  if s.sessionStatus r.mid (r.w 1) ≠ rsOk then s.sessionStatus r.mid (r.w 1)
  else if r.w64 4 % 16 ≠ 0 then rsBadArg
  else if (s.img).any fun x => !x.chunkOk (r.w 2) (r.w 3) then rsOffset
  else rsOk

/-- IMG_CHUNK: its data is read through the fragment table (R283). -/
def FwReq.imgChunk (r : FwReq) (s : State) : State :=
  if r.chunkBars s ≠ rsOk then s.answer r (r.chunkBars s) else s.fwTables r (r.w 3) (r.w64 4)

/-- IMG_CHUNK with its data read, which goes to the flash. -/
def FwReq.imgChunked (r : FwReq) (d : List Byte) (s : State) : State :=
  let b := r.w 1
  let off := r.w 2
  match s.img with
  | none => s.answer r rsNoSession
  | some x =>
    if r.chunkBars s ≠ rsOk then s.answer r (r.chunkBars s)
    else
      let f := s.cpFlash (bankAddr b + 0x1000 + off)
      if !f.2 then f.1.answer r rsFlash
      else
        let k := f.1.nv.bank b
        let n := f.1.nv.setBank b { k with body := fit off k.body ++ d }
        { f.1 with nv := n, img := some { x with next := off + r.w 3 } }.answer r rsOk [off + r.w 3]

/-- IMG_END with the digest right: the header goes to the bank last, and the record calls it STAGED. -/
def FwReq.imgStage (r : FwReq) (x : ImgSession) (s : State) : State :=
  let f := s.cpFlash (bankAddr x.bank)
  if !f.2 then f.1.answer r rsFlash
  else
    let t := { f.1 with nv := f.1.nv.setBank x.bank { f.1.nv.bank x.bank with header := x.header } }
    let w := t.recWrite ((t.nv.boot.setStatus x.bank bsStaged).setIndex x.bank (hdrIndex x.header))
    if !w.2 then w.1.answer r rsFlash else { w.1 with img := none }.answer r rsOk

/-- IMG_END. -/
def FwReq.imgEnd (r : FwReq) (s : State) : State :=
  let b := r.w 1
  match s.img with
  | none => s.answer r rsNoSession
  | some x =>
    if s.sessionStatus r.mid b ≠ rsOk then s.answer r (s.sessionStatus r.mid b)
    else if x.next ≠ hdrBody x.header then s.answer r rsOffset
    else if sha256 ((s.nv.bank b).body.take x.next) ≠ (x.header.drop 0x20).take 32 then s.answer r rsDigest
    else r.imgStage x s

/-- A record written for a command that has no other effect on flash. -/
def FwReq.imgRecord (r : FwReq) (b : BootRec) (s : State) : State :=
  let w := s.recWrite b
  w.1.answer r (if w.2 then rsOk else rsFlash)

/-- IMG_ACTIVATE; in recovery the bank becomes preferred too (R153). -/
def FwReq.imgActivate (r : FwReq) (s : State) : State :=
  let b := r.w 1
  let x := s.nv.boot
  if s.img.isSome then s.answer r rsState
  else if s.runsBank b then s.answer r rsBankActive
  else if x.status b ≠ bsStaged then s.answer r rsState
  else r.imgRecord (if s.recovery then { x with pending := some b, preferred := b } else { x with pending := some b }) s

/-- IMG_RESTART: the reply, a SEAL, and a write of GLB_RESET with switch. -/
def FwReq.imgRestart (r : FwReq) (s : State) : State :=
  if s.img.isSome then s.answer r rsState
  else if s.member then s.answer r rsPaired
  else
    let t := s.answer r rsOk
    (if t.sequences then t.ldgSealReq else t).askReset { cause := causeSoft, switch := true, mid := 2 }

/-- IMG_CONFIRM of the bank on trial that runs. -/
def FwReq.imgConfirm (r : FwReq) (s : State) : State :=
  let b := r.w 1
  if s.img.isSome || !s.onTrial || !s.runsBank b then s.answer r rsState
  else
    let w := s.recWrite { (s.nv.boot.setStatus b bsConfirmed) with preferred := b, trial := none }
    if w.2 then (w.1.put R.GLB_BOOT_STATUS_trial 0).answer r rsOk else w.1.answer r rsFlash

/-- IMG_REVERT of the bank on trial that runs: the reply, and a write of GLB_RESET without switch. DESIGN CHOICE, log entry
30: an open session is judged first, then PAIRED, then the want of a trial. -/
def FwReq.imgRevert (r : FwReq) (s : State) : State :=
  let b := s.get R.GLB_BOOT_STATUS_bank
  if s.img.isSome then s.answer r rsState
  else if s.member then s.answer r rsPaired
  else if !s.onTrial then s.answer r rsState
  else
    let w := s.recWrite { (s.nv.boot.setStatus b bsBad) with trial := none }
    if !w.2 then w.1.answer r rsFlash
    else ((w.1.put R.GLB_BOOT_STATUS_trial 0).answer r rsOk).askReset { cause := causeSoft, mid := 2 }

/-! ### The commands -/

/-- IMG_QUERY (R144, R282). -/
def execImgQuery (via : Option (Fin 16)) (s : State) : Host.Outcome State Fault Refusal :=
  .next (settle (s.fwServe via 0x50 FwReq.imgQuery))

/-- IMG_BEGIN (R144, R146, R151). -/
def execImgBegin (mail : Bool) (chan : Fin 16) (s : State) : Host.Outcome State Fault Refusal :=
  .next (settle (s.fwServe (carriedBy mail chan) 0x51 FwReq.imgBegin))

/-- IMG_CHUNK (R144, R147). -/
def execImgChunk (mail : Bool) (chan : Fin 16) (s : State) : Host.Outcome State Fault Refusal :=
  .next (settle (s.fwServe (carriedBy mail chan) 0x52 FwReq.imgChunk))

/-- IMG_END (R144, R147). -/
def execImgEnd (via : Option (Fin 16)) (s : State) : Host.Outcome State Fault Refusal :=
  .next (settle (s.fwServe via 0x53 FwReq.imgEnd))

/-- IMG_ACTIVATE (R144, R153). -/
def execImgActivate (via : Option (Fin 16)) (s : State) : Host.Outcome State Fault Refusal :=
  .next (settle (s.fwServe via 0x54 FwReq.imgActivate))

/-- IMG_RESTART (R144). -/
def execImgRestart (via : Option (Fin 16)) (s : State) : Host.Outcome State Fault Refusal :=
  .next (settle (s.fwServe via 0x55 FwReq.imgRestart))

/-- IMG_CONFIRM (R144, R151). -/
def execImgConfirm (via : Option (Fin 16)) (s : State) : Host.Outcome State Fault Refusal :=
  .next (settle (s.fwServe via 0x56 FwReq.imgConfirm))

/-- IMG_REVERT (R144). -/
def execImgRevert (via : Option (Fin 16)) (s : State) : Host.Outcome State Fault Refusal :=
  .next (settle (s.fwServe via 0x57 FwReq.imgRevert))

/-- IMG_SESSION_TIMEOUT (R148): 600 s without an accepted command of the session. -/
def execImgSessionTimeout (s : State) : Host.Outcome State Fault Refusal := .next { s with img := none }

end Sys2Proof.Machine
end

