-- ==== Sys2Proof/Machine/Boot.lean ====
section
/-!
DEFINITION. The release of a reset: the boot ROM's steps (R138, R139, R141–R143, R154, R155, R624, R625, R677, R678) and
firmware's start (R140, R284, R549). With them the clocks that a unit can lose (R157, R158).
-/

namespace Sys2Proof.Machine

/-! ### Steps 1 and 2 -/

/-- The first trace entry after a release (R664). One that ends an exit from KEEP or OFF completes that transition (R107,
R127). -/
def State.releaseMark (s : State) : State :=
  if s.slept = 0 then s.traceStart (!s.coldBoot)
  else
    (s.pwrRaise 3).trace .always { type := 0x43, status := s.slept, arg0 := s.sleptAt, arg1 := s.wokeAt - s.sleptAt }

/-- The conditions of a lifecycle request, as GLB_LC_STATUS.result (R677): 1 DONE, 2 REFUSED_ORDER, 3 REFUSED_KEYS. -/
def Nv.lcResult (n : Nv) (t : Nat) : Nat :=
  if n.lifecycle = 0 && t = 1 then if n.kLdg && n.keys.any (fun e => !e.2.2) then 1 else 3
  else if (n.lifecycle = 1 && t = 2) || ((n.lifecycle = 1 || n.lifecycle = 2) && t = 3) then 1
  else 2

/-- The recorded request performed, and the kill fuse set in RETURNED (R677, R678). -/
def State.lcPerform (s : State) : State :=
  let t := match s.nv.lcReq with
    | none => s
    | some q =>
      let r := s.nv.lcResult q
      let u := (s.put R.GLB_LC_STATUS_pending 0).put R.GLB_LC_STATUS_result r
      { u with nv := { u.nv with lcReq := none, lifecycle := if r = 1 then q else u.nv.lifecycle } }
  if t.nv.lifecycle = 3 then { t with nv := { t.nv with kLdgKilled := true } } else t

/-! ### Step 5: the repair journal (R623–R625) -/

/-- A DONE entry for the same row or bank is among entries. -/
def doneAmong (b : List Byte) (l : List (List Byte)) : Bool :=
  l.any fun x => fieldAt x 0 1 == fieldAt b 0 1 && fieldAt x 1 1 == 2 && fieldAt x 0x10 4 == fieldAt b 0x10 4

/-- What one entry does, with the valid entries that follow it. -/
def State.replayOne (s : State) (b : List Byte) (later : List (List Byte)) : State :=
  let kind := fieldAt b 0 1
  let done := fieldAt b 1 1 = 2
  let t := fieldAt b 0x10 4
  let x := s.tln
  if kind = jRow then
    if done then s.setTln { x with spares := tset x.spares (spareKey t (fieldAt b 0x14 4 % 2)) (1, t / 2 ^ 8) }
    else if doneAmong b later || x.rowQ.contains t then s
    else s.setTln { x with rowQ := x.rowQ ++ [t] }
  else if kind = jBank then
    if done then s.setTln { x with bankMap := some t }
    else if doneAmong b later then s
    else s.setTln { x with bankQ := some t }
  else if kind = jSubengine then
    if x.retired.contains (t % 64) then s else s.setTln { x with retired := x.retired ++ [t % 64] }
  else if kind = jLaneClear then s.setTln (x.lanesCleared t)
  else s.setTln { x with lanes := x.lanes ++ [(kind, t)] }

/-- The entry at an index read from flash: copy A, or copy B where A is not valid or meets an uncorrectable word (R42,
R624). -/
def State.jrnlRead (s : State) (e : Nat × List Byte × List Byte) : State × Option (List Byte) :=
  let a := s.flashRead (0x2500000 + 32 * e.1)
  if !a.2 && jrnlOk e.2.1 then (a.1, some e.2.1)
  else
    let b := a.1.flashRead (0x2700000 + 32 * e.1)
    (b.1, if !b.2 && jrnlOk e.2.2 then some e.2.2 else none)

/-- Replay of entries in order; an index valid in neither copy is skipped and sets journal_bad. -/
def State.replay : NMap (List Byte × List Byte) → State → State
  | [], s => s
  | e :: r, s =>
    let x := s.jrnlRead e
    match x.2 with
    | some b => State.replay r (x.1.replayOne b (r.filterMap jrnlPick))
    | none => State.replay r (x.1.tlnRaise 5)

/-- Physical sub-engines that are not retired carry logical 0–31, in ascending order of both; 0x3F where none is left
(R625). -/
def State.assignSes (s : State) : State :=
  let good := (List.range 36).filter fun i => !s.tln.retired.contains i
  (List.range 32).foldl (fun (t : State) k =>
    let m := tput t.sePhys k (good.getD k 0x3F) k
    { t with sePhys := m }) s

/-! ### Step 6: a cold reset's log and time (R119, R139) -/

/-- The monotonic time after a cold reset. -/
def State.restoredTime (s : State) : Nat :=
  max ((s.nv.pfLog.map (·.time)).getD 0) ((s.ldg.newestTime.map (· + 1)).getD 0)

/-- The power-fail log loaded and erased, and the time restored. -/
def State.restore (s : State) : State :=
  if !s.coldBoot then s
  else
    let s := s.put R.CLK_MONO_time s.restoredTime
    match s.nv.pfLog with
    | none => s
    | some l =>
      let s := (((s.flag R.PWR_PF_LOG_shutdown_written l.shutdown).flag R.PWR_PF_LOG_ledger_flushed l.flushed).flag
        R.PWR_PF_LOG_mirror_acked l.acked).flag R.PWR_PF_LOG_store_ready l.ready
      let s := (s.put R.PWR_PF_LOG_t_step4 l.step4).put R.PWR_PF_ENERGY_energy l.energy
      { s with nv := { s.nv with pfLog := none } }

/-! ### Steps 7 and 8: the bank (R141, R142, R152) -/

/-- A GLB_BOOT_EVT cause: 0 fallback, 1 recovery, 2 advanced, 3 record_repaired. All but the advance are also events of
source 2. -/
def State.bootRaise (s : State) (bit : Nat) : State :=
  if bit = 2 then s.raise R.GLB_BOOT_EVT_cause bit (R.GLB_BOOT_EVT_CNT_count bit)
  else s.raiseF R.GLB_BOOT_EVT_cause bit (R.GLB_BOOT_EVT_CNT_count bit) 2 0

/-- A bank rejected with a reason. -/
def State.rejected (s : State) (b reason : Nat) : State :=
  s.put (if b = 0 then R.GLB_BOOT_STATUS_reject_a else R.GLB_BOOT_STATUS_reject_b) reason

/-- The other bank. -/
def otherBank (b : Nat) : Nat := 1 - b

/-- The candidates that the record gives, with the changes to it that go before (R141). -/
def State.candidates (s : State) (r : BootRec) : State × BootRec × List Nat :=
  match r.trial with
  | some t =>
    if r.attempts = 0 then
      let q := { r.setStatus t bsBad with trial := none }
      (((s.rejected t rjStatus).recWrite q).1, q, [q.preferred])
    else
      let q := { r with attempts := r.attempts - 1 }
      ((s.recWrite q).1, q, [t, q.preferred])
  | none =>
    match r.pending with
    | some p =>
      if s.on R.GLB_RESET_CAUSE_switch_req && r.status p = bsStaged then
        let q := { r with trial := some p, pending := none, attempts := 2 }
        ((s.recWrite q).1, q, [p, q.preferred])
      else (s, r, [r.preferred])
    | none => (s, r, [r.preferred])

/-- The confirmed other bank joins the candidates (R141). -/
def withFallback (r : BootRec) (l : List Nat) : List Nat :=
  let o := otherBank r.preferred
  if r.status o = bsConfirmed && !l.contains o then l ++ [o] else l

/-- An uncorrectable word met in a bank is an event of source 118 (R42, R593). -/
def State.bankRead (s : State) (b reason : Nat) : State :=
  if reason = rjFlash then s.fault { src := 118, res := bits (bankAddr b) 4 23 } else s

/-- A copy of the boot state record read at boot: one that meets an uncorrectable word is not valid (R42, R134). -/
def State.readRecs (s : State) : State :=
  let a := s.flashRead 0
  let b := a.1.flashRead 0x1000
  let n := b.1.nv
  { b.1 with nv := { n with rec0 := if a.2 then [] else n.rec0, rec1 := if b.2 then [] else n.rec1 } }

/-- The banks tried in order under a record: the one started, with the record as it then stands. -/
def State.tryBanks (badA badB : Bool) : List Nat → State → BootRec → State × BootRec × Option Nat
  | [], s, r => (s, r, none)
  | b :: l, s, r =>
    if r.status b = bsEmpty || r.status b = bsBad then State.tryBanks badA badB l (s.rejected b rjStatus) r
    else match s.nv.bankReject (s.nv.bank b) (if b = 0 then badA else badB) with
      | none => (s, r, some b)
      | some reason =>
        let s := s.bankRead b reason
        let q := { r.setStatus b bsBad with trial := if r.trial = some b then none else r.trial }
        State.tryBanks badA badB l ((s.rejected b reason).recWrite q).1 q

/-- Without a valid record A is tried, then B, and a new record names the bank that passes (R142). -/
def State.tryBlank (badA badB : Bool) : List Nat → State → State × BootRec × Option Nat
  | [], s => (s, {}, none)
  | b :: l, s =>
    match s.nv.bankReject (s.nv.bank b) (if b = 0 then badA else badB) with
    | none =>
      let q := ((({ preferred := b } : BootRec).setStatus b bsConfirmed).setIndex b (hdrIndex (s.nv.bank b).header))
      ((s.recWrite q).1, q, some b)
    | some reason => State.tryBlank badA badB l ((s.bankRead b reason).rejected b reason)

/-- The bank selected and started, with the first candidate (R141, R142). -/
def State.selectBank (s : State) (badA badB : Bool) : State × BootRec × Option Nat × Nat :=
  let s := s.readRecs
  let s := if (bootRec s.nv.rec0).isNone || (bootRec s.nv.rec1).isNone then s.bootRaise 3 else s
  match s.nv.govern with
  | none =>
    let r := State.tryBlank badA badB [0, 1] s
    (r.1, r.2.1, r.2.2, 0)
  | some (_, rec_) =>
    let c := s.candidates rec_
    let l := withFallback c.2.1 c.2.2
    let r := State.tryBanks badA badB l c.1 c.2.1
    (r.1, r.2.1, r.2.2, l.headD 0)

/-! ### Step 9 and firmware's start (R140, R143) -/

/-- The anti-rollback counter advanced where it is due. -/
def State.advance (s : State) (b : Nat) (r : BootRec) : State :=
  let i := hdrIndex (s.nv.bank b).header
  if (s.nv.lifecycle = 1 || s.nv.lifecycle = 2) && b = r.preferred && r.trial ≠ some b && s.nv.rollback < i then
    { s with nv := { s.nv with rollback := i } }.bootRaise 2
  else s

/-- What GLB_BOOT_STATUS and GLB_FW_VERSION say of the running image. -/
def State.runningImage (s : State) (b : Nat) (r : BootRec) : State :=
  let h := (s.nv.bank b).header
  let s := ((s.put R.GLB_BOOT_STATUS_bank b).flag R.GLB_BOOT_STATUS_trial (r.trial == some b)).put R.GLB_BOOT_STATUS_index
    (hdrIndex h)
  ((s.put R.GLB_FW_VERSION_major (fieldAt h 0x0C 1)).put R.GLB_FW_VERSION_minor (fieldAt h 0x0D 1)).put
    R.GLB_FW_VERSION_patch (fieldAt h 0x0E 2)

/-- The Keyway written from its parameters and locked (R277). -/
def State.writeKeyway (s : State) : State :=
  ((List.range 16).foldl (fun t c => t.keywayBind c { mid := 2 } (t.paramStored (0x0100 + c))) s).keywayLock { mid := 2 } 1

/-- Tightened Deadbolt bounds written again from the parameter store (R31). -/
def State.writeBounds (s : State) : State :=
  s.nv.bounds.foldl (fun t e =>
    if 0x5000 ≤ e.1 && e.1 < 0x5200 then t.dbtFltWrite ((e.1 - 0x5000) / 4) { mid := 2 } e.2
    else if 0x5200 ≤ e.1 && e.1 < 0x527C then t.dbtGwWrite ((e.1 - 0x5200) / 4) { mid := 2 } e.2
    else t) s

/-- The parameters that firmware writes before it opens SQ 0, but for the Keyway and THM_LIM. -/
def startParams : List Nat :=
  [0x0200, 0x0201, 0x0301, 0x0302, 0x0403, 0x0404, 0x0405] ++ (List.range 128).map (0x0600 + ·)
    ++ (List.range 50).map (0x0700 + ·)

/-- Parameters put into force from the store (R150, R277, R363, R565, R575–R585, R607, R621). -/
def State.writeParams (s : State) : State :=
  let lim := s.paramStored 0x0400 % 256 + s.paramStored 0x0401 % 256 * 2 ^ 8 + s.paramStored 0x0402 % 256 * 2 ^ 16
  startParams.foldl (fun t id => if (paramDefault id).isSome then t.paramPut id (t.paramStored id) else t)
    (s.thmLimWrite 2 lim)

/-- The words of BOOT_REPORT (R284). -/
def State.bootReport (s : State) : List Nat :=
  [s.get R.GLB_BOOT_STATUS_bank + 2 * s.get R.GLB_BOOT_STATUS_trial + 4 * s.get R.GLB_BOOT_STATUS_fallback
     + s.get R.GLB_BOOT_STATUS_index * 2 ^ 8 + s.nv.rollback % 128 * 2 ^ 16,
   s.readFlds [R.GLB_FW_VERSION_major, R.GLB_FW_VERSION_minor, R.GLB_FW_VERSION_patch],
   s.get R.GLB_RESET_CAUSE_cause + 16 * s.get R.GLB_RESET_CAUSE_switch_req + s.get R.GLB_BOOT_STATUS_reject_a * 2 ^ 8
     + s.get R.GLB_BOOT_STATUS_reject_b * 2 ^ 12,
   s.addr + 2 ^ 16 * b2n s.assigned]

/-- BOOT_REPORT sent on every channel from MID 2 to MID 0 or 1. -/
def State.sendReport (s : State) : State :=
  (List.range 16).foldl (fun t c =>
    if t.isSender c 2 && (t.isReceiver c 0 || t.isReceiver c 1) then
      t.mailboxDeliver c { mid := 2, addr := 0, words := fwMessage 2 0x60 0 t.bootReport }
    else t) s

/-- Firmware's start (R140), with FW_BOOT (R549) and the attention cause ready. -/
def State.fwStart (s : State) : State :=
  let s := (s.wdogKick 2 0x4B1C).writeKeyway.writeBounds.writeParams
  let s := s.nv.pins.foldl (fun t e => t.pinWrite e.1 2 e.2) s
  let s := s.fwNote tFwBoot
  let s := (s.put R.GLB_BOOT_STATUS_fw_ready 1).put R.GLB_BOOT_STATUS_stage stageReady
  (s.kcRaise 5).sendReport

/-- A bank has passed, and is started at step 9. -/
def State.startBank (s : State) (b first : Nat) (r : BootRec) : State :=
  let s := if b = first then s else (s.put R.GLB_BOOT_STATUS_fallback 1).bootRaise 0
  let s := (s.advance b r).runningImage b r
  let s := { (s.put R.GLB_WDOG_CTL_running 1).put R.GLB_BOOT_STATUS_stage stageFwStart with wdogAt := s.now, romRun := 0 }
  s.ldgBoot.fwStart

/-! ### The release -/

/-- The fused repairs applied (R616, R624). -/
def State.fuseRepairs (s : State) : State :=
  s.setTln { s.tln with
    retired := s.nv.fusedSes, bankMap := s.nv.fusedBank, spares := s.nv.fusedRows.map fun e => (e.1, 3, e.2) }

/-- Steps 1 and 2. -/
def State.bootBegin (s : State) : State := s.releaseMark.lcPerform.fuseRepairs

/-- Step 3: the PLL locks. The operands say whether the 32.768 kHz oscillator and PE_REFCLK are good. -/
def State.clocksUp (s : State) (xt32 pcieRef : Bool) : State :=
  let s := (s.put R.CLK_STATUS_pll_lock 1).put R.CLK_STATUS_ref25_ok 1
  ((s.flag R.CLK_STATUS_xt32_ok xt32).flag R.CLK_STATUS_disciplined xt32).flag R.CLK_STATUS_pcie_ref_ok pcieRef

/-- Steps 3 to 9, or recovery (R153). -/
def State.bootRest (s : State) (xt32 pcieRef badA badB : Bool) : State :=
  let s := s.clocksUp xt32 pcieRef
  let s := ((State.replay s.tln.journal s).assignSes).restore
  let s := { s.put R.GLB_BOOT_STATUS_stage stageVerify with phase := .up }
  let x := s.selectBank badA badB
  match x.2.2.1 with
  | some b => x.1.startBank b x.2.2.2 x.2.1
  | none =>
    ((x.1.put R.GLB_BOOT_STATUS_stage stageRecovery).bootRaise 1).ldgBoot

/-- After three ROM_LOCKSTEP resets in a row the unit stops (R155). -/
def State.halt (s : State) : State := { s.put R.GLB_BOOT_STATUS_stage stageHalt with phase := .halted }

/-- A release from its first step. -/
def State.releaseReset (s : State) (go : State → State) : State :=
  if s.phase ≠ .asserted then s else if 3 ≤ s.romRun then s.halt else go s.bootBegin

/-! ### Clocks lost and found (R157, R158) -/

/-- A CLK_EVT cause: 0 ref25_loss, 1 xt32_loss, 2 pll_unlock; an event of source 1. -/
def State.clkRaise (s : State) (bit : Nat) : State := s.raiseF R.CLK_EVT_cause bit (R.CLK_CNT_count bit) 1 0

/-- The reference, or only the PLL's lock, is lost while the unit runs. -/
def State.clockLost (s : State) (pll : Bool) : State :=
  if !s.isUp || !s.running then s
  else
    let s := (s.put R.CLK_STATUS_pll_lock 0).put R.CLK_STATUS_disciplined 0
    let s := if pll then s.clkRaise 2 else (s.put R.CLK_STATUS_ref25_ok 0).clkRaise 0
    if s.safe then s else s.safeStop 0b011 0

/-! ### The commands -/

/-- RESET_RELEASE (R138): with the state of the two clocks, and whether an uncorrectable word is met in each bank. -/
def execResetRelease (xt32 pcieRef badA badB : Bool) (s : State) : Host.Outcome State Fault Refusal :=
  .next (settle (s.releaseReset fun t => t.bootRest xt32 pcieRef badA badB))

/-- NO_CLOCK (R154). -/
def execNoClock (s : State) : Host.Outcome State Fault Refusal :=
  .next (settle (s.releaseReset fun t => { t.put R.GLB_BOOT_STATUS_stage stageNoClock with phase := .noClock }))

/-- NO_CLOCK_RETRY (R154): goes on at step 3 when the PLL locks. -/
def execNoClockRetry (lock xt32 pcieRef badA badB : Bool) (s : State) : Host.Outcome State Fault Refusal :=
  .next (settle (if s.phase = .noClock && lock then s.bootRest xt32 pcieRef badA badB else s))

/-- REF25_LOSS (R157): of the reference, or of the PLL's lock alone. -/
def execRef25Loss (pll : Bool) (s : State) : Host.Outcome State Fault Refusal := .next (settle (s.clockLost pll))

/-- XT32_LOSS (R158): the oscillator stops, or its measured error is beyond 500 ppm. -/
def execXt32Loss (error : Option (BitVec 20)) (s : State) : Host.Outcome State Fault Refusal :=
  let s := match error with
    | some e => s.put R.CLK_XT32_PPM_error e.toNat
    | none => s
  .next (settle (((s.put R.CLK_STATUS_xt32_ok 0).put R.CLK_STATUS_disciplined 0).clkRaise 1))

/-- XT32_RESTORED (R158): the oscillator runs within 500 ppm, with its measured error. -/
def execXt32Restored (error : BitVec 20) (s : State) : Host.Outcome State Fault Refusal :=
  .next (((s.put R.CLK_XT32_PPM_error error.toNat).put R.CLK_STATUS_xt32_ok 1).put R.CLK_STATUS_disciplined
    (s.get R.CLK_STATUS_ref25_ok))

end Sys2Proof.Machine
end

