-- ==== Sys2Proof/Machine/FwCmds.lean ====
section
/-!
DEFINITION. The firmware commands of the queues (R307, R309), the routing table (R525), the ledger and pairs
(R548–R553, R560, R561, R566) and repair (R630).
-/

namespace Sys2Proof.Machine

/-! ### Queues and rings (R307) -/

/-- SQ n exists, is not being destroyed, and is the sender's. -/
def State.ownsSq (s : State) (n mid : Nat) : Bool :=
  n != 0 && (s.sq n).state != 0 && !(s.sq n).destroy && (s.sq n).owner == mid

/-- CR m exists and is the sender's. -/
def State.ownsRing (s : State) (m mid : Nat) : Bool := (s.ring m).exist && (s.ring m).owner == mid

/-- A log2 depth in range. -/
def depthOk (k : Nat) : Bool := 1 ≤ k && k ≤ 12

/-- A unit whose PERST_N is low has no host memory, so that no queue or ring of its own can be created (R256). DESIGN
CHOICE, log entry 119: the command is answered STATE. -/
def State.hostless (s : State) : Bool := !s.on R.INT_LINK_perst_n

/-- SQ_CREATE. -/
def FwReq.sqCreate (r : FwReq) (s : State) : State :=
  let n := bits (r.w 1) 0 8
  let m := bits (r.w 1) 16 6
  if s.hostless then s.answer r rsState
  else if n = 0 || !depthOk (r.w 2) || r.w64 3 % 64 ≠ 0 || !s.ownsRing m r.mid then s.answer r rsBadArg
  else if (s.sq n).state ≠ 0 then s.answer r rsNoResource
  else
    let q : Sq := { state := 1, prio := bits (r.w 1) 8 3, unordered := (r.w 1).testBit 11, owner := r.mid, cr := m,
                    log2 := r.w 2, base := r.w64 3 }
    let t := (s.setSq n q).put (R.QMG_SQ_TAGS_tag_max n) (s.paramNow 0x0200)
    (t.traceSq n).answer r rsOk [(R.DBL_SQ_TAIL_value n).off]

/-- SQ_SHUTDOWN: the reply gives the number of programs that the shutdown ends. -/
def FwReq.sqShutdown (r : FwReq) (s : State) : State :=
  let n := r.w 1
  if !s.ownsSq n r.mid then s.answer r rsBadArg
  else (s.shutdown n).answer r rsOk [(s.tagsWhere fun p => p.sq == n).length]

/-- SQ_RESTART. -/
def FwReq.sqRestart (r : FwReq) (s : State) : State :=
  let n := r.w 1
  let q := s.sq n
  if !s.ownsSq n r.mid || q.state = 1 || 2 ^ q.log2 ≤ r.w 2 then s.answer r rsBadArg
  else if s.held n ≠ 0 then s.answer r rsNoResource
  else
    let t := s.setSq n { q with h := r.w 2, t := r.w 2, err := 0, shutting := false }
    (t.sqTo n 1).answer r rsOk

/-- SQ_DESTROY. -/
def FwReq.sqDestroy (r : FwReq) (s : State) : State :=
  let n := r.w 1
  if !s.ownsSq n r.mid then s.answer r rsBadArg
  else
    let t := if (s.sq n).state = 2 then s else s.shutdown n
    let t := t.setSq n { t.sq n with shutting := true, destroy := true }
    (t.shutdownDone n).answer r rsOk

/-- CR_CREATE: QMG_CRm_INT takes its cold value. -/
def FwReq.crCreate (r : FwReq) (s : State) : State :=
  let m := bits (r.w 1) 0 6
  let k := bits (r.w 1) 8 4
  if s.hostless then s.answer r rsState
  else if !depthOk k || r.w64 2 % 32 ≠ 0 then s.answer r rsBadArg
  else if (s.ring m).exist then s.answer r rsNoResource
  else
    let t := s.setRing m { exist := true, owner := r.mid, log2 := k, base := r.w64 2 }
    let t := t.cold [R.QMG_CR_INT_threshold m, R.QMG_CR_INT_delay m, R.QMG_CR_INT_en m]
    t.answer r rsOk [(R.DBL_CR_HEAD_head m).off]

/-- Records that have not left are not written to a ring that is absent. -/
def Upstream.dropRing (u : Upstream) (m : Nat) : Upstream :=
  { u with posts := u.posts.filter fun p => p.kind != .record m }

/-- CR_DESTROY. -/
def FwReq.crDestroy (r : FwReq) (s : State) : State :=
  let m := r.w 1
  if !s.ownsRing m r.mid then s.answer r rsBadArg
  else if s.sqs.any fun e => e.1 != 0 && e.2.state != 0 && e.2.cr == m then s.answer r rsNoResource
  else
    ((s.setRing m {}).setFn r.mid ((s.fn r.mid).dropRing m)).answer r rsOk

/-- PRG_RESUME. -/
def FwReq.prgResume (r : FwReq) (s : State) : State :=
  match s.prog (r.w 1) with
  | none => s.answer r rsBadArg
  | some p =>
    if p.st = .ended || !s.ownsSq p.sq r.mid then s.answer r rsBadArg
    else (s.resume (r.w 1) p).reready.answer r rsOk

/-! ### The routing table (R525) -/

/-- Port class of a gateway port code. -/
def gwClass (code : Nat) : Nat := (gwPort code).1

/-- The kind of an entry suits the class of its ingress port. -/
def Route.suits (x : Route) : Bool :=
  x.ingress < 31 &&
    (if gwClass x.ingress = clsCan then x.kind ≤ 1
     else if gwClass x.ingress = clsLin then x.kind == 2
     else x.kind == 3 || x.kind == 4)

/-- R521 allows an egress class for the entry's kind and encap. -/
def Route.allows (x : Route) (cls : Nat) : Bool :=
  if x.kind = 0 || x.kind = 2 then x.encap ≤ 1 && (cls != clsEth || x.encap == 1)
  else if x.kind = 1 then x.encap ≤ 1 && cls == clsCan
  else if x.kind = 3 then x.encap == 0 && cls == clsEth
  else if x.encap = 2 then cls != clsEth
  else x.encap == 0 && cls == clsEth

/-- Bits of the value and of the mask that belong to the kind's key. -/
def Route.keyBits (x : Route) : Nat × Nat :=
  if x.kind = 0 then (2 ^ 29 - 1, 2 ^ 29 - 1)
  else if x.kind = 1 then (2 ^ 27 - 1, 2 ^ 27 - 1)
  else if x.kind = 2 then (0x3F, 0x3F)
  else if x.kind = 3 then (0xFFFF, 0xFFFF)
  else (0x1F3F, 0x1F00)

/-- The streams that an entry names: the one it encapsulates into, and the one that an IEEE 1722 entry matches. -/
def Route.streams (x : Route) : List Nat :=
  (if x.encap = 1 then [x.stream] else []) ++ (if x.kind = 4 then [x.value % 64] else [])

/-- The four words of an entry pass the checks of GRT_LOAD. -/
def State.grtOk (s : State) (w0 w1 w2 w3 : Nat) : Bool :=
  let x := Route.parse w0 w1 w2 w3
  !w0.testBit 19 && bits w0 26 6 == 0 && bits w1 29 3 == 0 && bits w2 29 3 == 0 && bits w3 20 12 == 0
    && x.kind ≤ 4 && x.encap ≤ 2 && (!x.ide || x.kind == 0) && x.suits
    && x.egress.all (fun p => p == 31 || (p != x.ingress && x.allows (gwClass p)))
    && x.streams.all (fun k => s.on (R.GWC_STR_CTL_en k))
    && (x.rewrite == 0 || s.on (R.GWC_RW_VAL_en x.rewrite))
    && clearBits w1 x.keyBits.1 == 0 && clearBits w2 x.keyBits.2 == 0

/-- Word i of entry k in the data of a GRT_LOAD. -/
def loadWord (data : List Byte) (k i : Nat) : Nat := fieldAt data (16 * k + 4 * i) 4

/-- Entry k of the data written to entry e and committed. -/
def State.grtStore (s : State) (e : Nat) (data : List Byte) (k : Nat) : State :=
  let w (i : Nat) (t : State) : State := t.grtWrite e i { mid := 2 } (loadWord data k i)
  w 0 (w 3 (w 2 (w 1 s)))

/-- The reply word of GRT_LOAD that names no entry (R282). -/
def noEntry : Nat := 2 ^ 32 - 1

/-- GRT_LOAD: its entries are read through the fragment table (R283, R525). -/
def FwReq.grtLoad (r : FwReq) (s : State) : State :=
  let first := r.w 1
  let n := r.w 2
  if n = 0 || 4096 < n || 4096 < first + n || r.w64 3 % 16 ≠ 0 then s.answer r rsBadArg [noEntry]
  else s.fwTables r (16 * n) (r.w64 3)

/-- GRT_LOAD with its entries read: all are checked before any is written. -/
def FwReq.grtLoaded (r : FwReq) (d : List Byte) (s : State) : State :=
  let first := r.w 1
  let n := r.w 2
  match (List.range n).find? fun k => !s.grtOk (loadWord d k 0) (loadWord d k 1) (loadWord d k 2) (loadWord d k 3) with
  | some k => s.answer r rsBadArg [first + k]
  | none => ((List.range n).foldl (fun t k => t.grtStore (first + k) d k) s).answer r rsOk [noEntry]

/-- GRT_ENABLE. -/
def FwReq.grtEnable (r : FwReq) (s : State) : State :=
  let first := r.w 1
  let n := r.w 2
  if n = 0 || 4096 < n || 4096 < first + n then s.answer r rsBadArg
  else
    let set (t : State) (e : Nat) : State :=
      let w := t.get (R.GRT_W_word e 0)
      t.grtWrite e 0 { mid := 2 } (if r.w 3 = 1 then setBit w 5 else clearBits w 32)
    ((List.range n).foldl (fun t k => set t (first + k)) s).answer r rsOk

/-! ### The ledger (R548–R551, R561) -/

/-- A cross-timestamp was captured in the last second (R548). -/
def State.xtsFresh (s : State) : Bool :=
  let m := s.get R.TIM_XTS_MONO_time
  m != 0 && m ≤ s.now && s.now ≤ m + 1000000

/-- TIME_SET: one record, whose number answers the command. -/
def FwReq.timeSet (r : FwReq) (s : State) : State :=
  if 4 < r.w 3 then s.answer r rsBadArg
  else if !s.xtsFresh then s.answer r rsState
  else
    let body := leBytes 8 (r.w64 1) ++ leBytes 8 (s.get R.TIM_XTS_MONO_time) ++ leBytes 8 (s.get R.TIM_XTS_PTP_time)
      ++ leBytes 1 (r.w 3) ++ zeros 7
    (s.setLdg { s.ldg with fwaFor := some r.asked }).fwRecord tTimeSet body

/-- LDG_SEAL. -/
def FwReq.ldgSeal (r : FwReq) (s : State) : State :=
  if !s.sequences || !s.ldgRuns then s.answer r rsState
  else (s.setLdg { s.ldg with sealFor := s.ldg.sealFor ++ [r.asked] }).ldgSealReq

/-- LDG_STATUS. -/
def FwReq.ldgStatus (r : FwReq) (s : State) : State :=
  s.answer r rsOk (words2 s.ldg.next ++ words2 s.ldg.sealSeq ++ [s.ldg.pair.role + 4 * s.wtFlag])

/-- The records of an export from first to last, behind their anchor (R550). -/
def exportRecs (recs : List (List Byte)) (first last : Nat) : List (List Byte) :=
  let oldest := (recs.head?.map ldgSeq).getD 0
  let anchor := if first ≤ oldest then []
    else ((recs.filter fun x => ldgType x == tSeal && ldgSeq x < first).getLast?).toList
  anchor ++ recs.filter fun x => first ≤ ldgSeq x && ldgSeq x ≤ last

/-- Whole records that fit a number of bytes. -/
def fitRecs : Nat → List (List Byte) → List (List Byte)
  | _, [] => []
  | room, x :: xs => if x.length ≤ room then x :: fitRecs (room - x.length) xs else []

/-- The lowest number that an export may begin with (R550). -/
def Ledger.exportFrom (l : Ledger) (recs : List (List Byte)) : Nat :=
  if l.pair.role = 2 then ((recs.find? fun x => ldgType x == tSeal).map ldgSeq).getD 0
  else (recs.head?.map ldgSeq).getD 0

/-- The records that a LDG_EXPORT asks for, after its adjustments: none where first then exceeds last (R550). -/
def State.exportWanted (s : State) (r : FwReq) : Option (List (List Byte)) :=
  let recs := s.ldg.chainRecs s.ldg.pair.cur
  let first := max (r.w64 1) (s.ldg.exportFrom recs)
  let last := min (r.w64 3) ((recs.getLast?.map ldgSeq).getD 0)
  if recs.isEmpty || last < first then none else some (exportRecs recs first last)

/-- LDG_EXPORT: the fragment tables of its buffer are read (R283, R550). -/
def FwReq.ldgExport (r : FwReq) (s : State) : State :=
  match s.exportWanted r with
  | none => s.answer r rsBadArg
  | some l => if r.w64 5 % 16 ≠ 0 then s.answer r rsBadArg else s.fwTables r l.flatten.length (r.w64 5)

/-- Flash address of the segment that holds a record. -/
def Ledger.addrOf (l : Ledger) (r : List Byte) : Nat :=
  segAddr (((l.segs.find? fun e => e.2.recs.contains r).map (·.1)).getD 0)

/-- LDG_EXPORT into the host ranges of its buffer. -/
def FwReq.ldgExported (r : FwReq) (area : List (Nat × Nat)) (s : State) : State :=
  match s.exportWanted r with
  | none => s.answer r rsBadArg
  | some l =>
    let out := fitRecs (area.map (·.2)).sum l
    match out.head?, out.getLast? with
    | some x, some y =>
      let s := out.foldl (fun t x => (t.flashRead (t.ldg.addrOf x)).1) s
      let t := (useArea area out.flatten).1.foldl (fun u w => u.dataWrite r.mid w.1 w.2) s
      let t := if ldgSeq x ≤ t.ldg.exported + 1 then t.exportedWrite (ldgSeq y) else t
      t.answer r rsOk (words2 (ldgSeq x) ++ words2 (ldgSeq y) ++ [out.flatten.length])
    | _, _ =>
      let f := s.drawFree
      let g := f.1.drawFree
      g.1.answer r rsOk (words2 f.2 ++ words2 g.2 ++ [0])

/-! ### Pairs (R553, R560, R561, R566) -/

/-- Why a PAIR_BIND is refused at once (R553). A BRANCHED unit leaves that role as standby only (R567). DESIGN CHOICE, log
entry 122: a request to be active in that role, and one while another waits, end with STATE. -/
def State.bindRefusal (s : State) (partner role : Nat) : Option Nat :=
  let p := s.ldg.pair
  if p.role = 2 || (p.role = 1 && p.bound && s.ldg.seen == some (2, p.term)) then some rsPaired
  else if partner = s.addr || !s.on (R.CHN_MAP_valid partner) then some rsBadArg
  else if role = 1 && (s.ldg.exported < s.ldg.durable || p.role = 1) then some rsState
  else if role = 0 && p.role = 3 then some rsState
  else if s.ldg.binding.isSome then some rsState
  else none

/-- PAIR_BIND: the unit waits for its partner. -/
def FwReq.pairBind (r : FwReq) (s : State) : State :=
  let partner := r.w 1 % 1024
  let role := bits (r.w 1) 16 1
  match s.bindRefusal partner role with
  | some st => s.answer r st
  | none => (s.setLdg { s.ldg with binding := some (r.asked, partner, role) }).pairSend partner opBind (1 - role) false

/-- The window of a PAIR_BIND ends without a match. -/
def State.bindExpired (s : State) : State :=
  match s.ldg.binding with
  | none => s
  | some (a, _, _) => (s.setLdg { s.ldg with binding := none }).fwReply a rsState []

/-- PAIR_UNBIND. -/
def FwReq.pairUnbind (r : FwReq) (s : State) : State :=
  let p := s.ldg.pair
  if p.role = 0 then s.answer r rsState
  else
    let t := s.pairSend p.partner opUnbind p.role false
    t.unbind.answer r rsOk

/-- TAKEOVER. -/
def FwReq.takeover (r : FwReq) (s : State) : State :=
  if s.ldg.pair.role ≠ 2 then s.answer r rsState
  else (s.takeover 0).answer r rsOk (words2 s.ldg.next)

/-- HANDOVER sequenced: the unit sequences nothing from then on and is STANDBY, and the epoch that holds the record is
sent. -/
def State.handOver (s : State) (a : Asked) : State :=
  let l := s.ldg
  let term := (l.pair.term + 1) % 65536
  let body := leBytes 8 l.pair.sn ++ leBytes 2 term ++ zeros 6
  let t := s.setLdg { l with pair := { l.pair with role := 2, term := term }, anchored := false,
                             handing := some (a, l.next) }
  (t.putHw tHandover body).closeEpoch.refuseDue

/-- HANDOVER. -/
def FwReq.handover (r : FwReq) (s : State) : State :=
  if s.ldg.pair.role ≠ 1 || !s.hbOk then s.answer r rsState
  else match s.closeEpoch.ldgRoom 80 with
    | none => s.answer r rsState
    | some t => t.handOver r.asked

/-- A HANDOVER whose epoch has not been acknowledged in 100 ms. -/
def State.handoverExpired (s : State) : State :=
  match s.ldg.handing with
  | none => s
  | some (a, _) => (s.setLdg { s.ldg with handing := none }).fwReply a rsState []

/-! ### Repair (R630) -/

/-- REPAIR_POINT: answered when the repair point ends. -/
def FwReq.repairPoint (r : FwReq) (s : State) : State :=
  if s.power ≠ 0 then s.answer r rsState
  else if s.on R.TLN_STATUS_repairing then s.answer r rsBusy
  else
    let t := s.repairStart 2
    t.setTln { t.tln with asked := some r.asked }

/-! ### The commands -/

/-- SQ_CREATE (R307, R309). -/
def execSqCreate (via : Option (Fin 16)) (s : State) : Host.Outcome State Fault Refusal :=
  .next (settle (s.fwServe via 0x10 FwReq.sqCreate))

/-- SQ_DESTROY (R307). -/
def execSqDestroy (via : Option (Fin 16)) (s : State) : Host.Outcome State Fault Refusal :=
  .next (settle (s.fwServe via 0x11 FwReq.sqDestroy))

/-- SQ_SHUTDOWN (R307, R319). -/
def execSqShutdown (via : Option (Fin 16)) (s : State) : Host.Outcome State Fault Refusal :=
  .next (settle (s.fwServe via 0x12 FwReq.sqShutdown))

/-- SQ_RESTART (R307). -/
def execSqRestart (via : Option (Fin 16)) (s : State) : Host.Outcome State Fault Refusal :=
  .next (settle (s.fwServe via 0x13 FwReq.sqRestart))

/-- CR_CREATE (R307). -/
def execCrCreate (via : Option (Fin 16)) (s : State) : Host.Outcome State Fault Refusal :=
  .next (settle (s.fwServe via 0x14 FwReq.crCreate))

/-- CR_DESTROY (R307). -/
def execCrDestroy (via : Option (Fin 16)) (s : State) : Host.Outcome State Fault Refusal :=
  .next (settle (s.fwServe via 0x15 FwReq.crDestroy))

/-- PRG_RESUME (R343). -/
def execPrgResume (via : Option (Fin 16)) (s : State) : Host.Outcome State Fault Refusal :=
  .next (settle (s.fwServe via 0x16 FwReq.prgResume))

/-- GRT_LOAD (R525). -/
def execGrtLoad (mail : Bool) (chan : Fin 16) (s : State) : Host.Outcome State Fault Refusal :=
  .next (settle (s.fwServe (carriedBy mail chan) 0x20 FwReq.grtLoad))

/-- GRT_ENABLE (R525). -/
def execGrtEnable (via : Option (Fin 16)) (s : State) : Host.Outcome State Fault Refusal :=
  .next (settle (s.fwServe via 0x21 FwReq.grtEnable))

/-- TIME_SET (R548). Firmware takes it while its append port is free. -/
def execTimeSet (via : Option (Fin 16)) (s : State) : Host.Outcome State Fault Refusal :=
  .next (settle (if s.fwaFree then s.fwServe via 0x30 FwReq.timeSet else s))

/-- LDG_SEAL (R561). -/
def execLdgSeal (via : Option (Fin 16)) (s : State) : Host.Outcome State Fault Refusal :=
  .next (settle (s.fwServe via 0x31 FwReq.ldgSeal))

/-- LDG_STATUS (R561). -/
def execLdgStatus (via : Option (Fin 16)) (s : State) : Host.Outcome State Fault Refusal :=
  .next (settle (s.fwServe via 0x32 FwReq.ldgStatus))

/-- LDG_EXPORT (R550, R551). -/
def execLdgExport (mail : Bool) (chan : Fin 16) (s : State) : Host.Outcome State Fault Refusal :=
  .next (settle (s.fwServe (carriedBy mail chan) 0x33 FwReq.ldgExport))

/-- PAIR_BIND (R553). -/
def execPairBind (via : Option (Fin 16)) (s : State) : Host.Outcome State Fault Refusal :=
  .next (settle (s.fwServe via 0x34 FwReq.pairBind))

/-- PAIR_BIND_WINDOW_EXPIRY (R553). -/
def execPairBindWindowExpiry (s : State) : Host.Outcome State Fault Refusal := .next (settle s.bindExpired)

/-- PAIR_UNBIND (R561). -/
def execPairUnbind (via : Option (Fin 16)) (s : State) : Host.Outcome State Fault Refusal :=
  .next (settle (s.fwServe via 0x35 FwReq.pairUnbind))

/-- TAKEOVER (R566). -/
def execTakeover (via : Option (Fin 16)) (s : State) : Host.Outcome State Fault Refusal :=
  .next (settle (s.fwServe via 0x36 FwReq.takeover))

/-- HANDOVER (R560). -/
def execHandover (via : Option (Fin 16)) (s : State) : Host.Outcome State Fault Refusal :=
  .next (settle (s.fwServe via 0x37 FwReq.handover))

/-- HANDOVER_TIMEOUT (R560). -/
def execHandoverTimeout (s : State) : Host.Outcome State Fault Refusal := .next (settle s.handoverExpired)

/-- REPAIR_POINT (R630). -/
def execRepairPoint (via : Option (Fin 16)) (s : State) : Host.Outcome State Fault Refusal :=
  .next (settle (s.fwServe via 0x40 FwReq.repairPoint))

end Sys2Proof.Machine
end

