-- ==== Sys2Proof/Machine/Keychain.lean ====
section
/-!
DEFINITION. Keychain frames: acceptance, responses and commands (R167–R177, R187, R192–R195).
-/

namespace Sys2Proof.Machine

/-! ### Frames (R170–R175) -/

/-- The fields of a request frame. -/
structure KcFrame where
  cmd : Nat
  bcast : Bool
  zero : Bool
  addr : Nat
  arg : Nat
deriving DecidableEq, Repr

/-- The fields of 48 bits (R170). -/
def kcParse (w : KcIn) : KcFrame :=
  let f := w.frame.toNat
  { cmd := bits f 0 4, bcast := f.testBit 4, zero := f.testBit 5, addr := bits f 6 10, arg := bits f 16 24 }

/-- The check byte is correct (R172). -/
def kcCheckOk (w : KcIn) : Bool := bits w.frame.toNat 40 8 == crc8 (leBytes 5 w.frame.toNat)

/-- The low n bits of a value, least significant first. -/
def lsbBits (n v : Nat) : List Bool := (List.range n).map v.testBit

/-- The 48 bits of a response frame (R171): present, status, address, zeros, data and check byte. -/
def kcReply (addr data status : Nat) : List Bool :=
  let v := 1 + status % 8 * 2 + addr % 1024 * 2 ^ 4 + data % 2 ^ 24 * 2 ^ 16
  lsbBits 48 (v + 2 ^ 40 * crc8 (leBytes 5 v))

/-- What leaves upstream before KGATE rises again (R169). -/
def kcUpstream (w : KcIn) (l : List Bool) : List Bool :=
  match w.cut with
  | none => l
  | some n => l.take n

/-- A request passed on downstream through an open gate (R164, R166). -/
def State.kcPass (s : State) (l : List Bool) : State :=
  if s.on R.CHN_KC_STATUS_gate_open then s.emit (.keychainOn l) else s

/-- What is sampled on KDAT_OUT in the response phase, relayed upstream through the gate as it stood (R166). -/
def State.kcRelay (s : State) (gate : Bool) (w : KcIn) : State :=
  if gate && !w.below.isEmpty then s.emit (.keychain (kcUpstream w w.below)) else s

/-- A response of the unit, in place of what is sampled on KDAT_OUT (R168). -/
def State.kcAnswer (s : State) (w : KcIn) (addr data status : Nat) : State :=
  s.emit (.keychain (kcUpstream w (kcReply addr data status)))

/-- Response statuses (R171). -/
def ksOk : Nat := 0
def ksPending : Nat := 1
def ksBadCmd : Nat := 2
def ksBadArg : Nat := 3
def ksNotReady : Nat := 4
def ksHostPresent : Nat := 5
def ksError : Nat := 6

/-- Argument bits that may be other than zero, by command (R173). -/
def kcMask (cmd : Nat) : Nat :=
  [0, 0, 0, 7, 0x13F3E, 0xFFFF, 3, 0, 0x3FFFF, 0x1FFFF, 0, 1].getD cmd 0

/-- Commands that may be broadcast (R173). -/
def kcMayCast (cmd : Nat) : Bool := cmd == 0 || (4 ≤ cmd && cmd ≤ 7)

/-- The argument obeys R175. -/
def KcFrame.argOk (f : KcFrame) : Bool :=
  !f.zero && clearBits f.arg (kcMask f.cmd) == 0 && (f.cmd != 3 || f.arg < 6) && (f.cmd != 5 || f.arg == 0xD740)

/-- A frame discarded (R167): counted, and an event of source 6. -/
def State.kcDiscard (s : State) : State := (s.count R.CHN_KC_FRAMES_discarded).fault { src := 6 }

/-- What a command does: the state, whether the unit has acted, the status and the data of its response. -/
structure KcAct where
  s : State
  acted : Bool := true
  status : Nat := 0
  data : Nat := 0

/-- A frame acted on is counted with its command, and answered unless it was broadcast: with address 0 for ASSIGN
(R171). -/
def KcAct.close (a : KcAct) (gate : Bool) (addr : Nat) (w : KcIn) : State :=
  let f := kcParse w
  let s := if a.acted then (a.s.count R.CHN_KC_FRAMES_acted).put R.CHN_KC_STATUS_last_cmd f.cmd else a.s
  if f.bcast then s.kcRelay gate w else s.kcAnswer w (if f.cmd = 1 then 0 else addr) a.data a.status

/-- A frame of one command reaches the unit: passed on, then discarded, not for it, answered BAD_ARG, or acted on. `mine`
says whether the unit is one that acts. -/
def State.kcFrame (s : State) (w : KcIn) (cmd : Nat → Bool) (mine : KcFrame → Bool) (go : State → KcFrame → KcAct) :
    State :=
  let f := kcParse w
  let gate := s.on R.CHN_KC_STATUS_gate_open
  if s.phase = .held then s
  else if kcCheckOk w && !cmd f.cmd then s
  else
    let s := s.kcPass (lsbBits 48 w.frame.toNat)
    if !kcCheckOk w || f.bcast && !kcMayCast f.cmd then (s.kcDiscard).kcRelay gate w
    else if !mine f then s.kcRelay gate w
    else if f.cmd < 12 && !f.argOk then
      if f.bcast then s.kcRelay gate w else s.kcAnswer w (if f.cmd = 1 then 0 else s.addr) 0 ksBadArg
    else (go s f).close gate s.addr w

/-- A frame of a wrong length, or with a wrong check byte (R167): what the lands bring next passes the unit as every frame
does (R164, R166). -/
def State.kcBadFrame (s : State) : State :=
  let x := s.kcLines.headD {}
  (({ s with kcLines := s.kcLines.tail }).kcPass x.bits).kcDiscard.kcRelay (s.on R.CHN_KC_STATUS_gate_open)
    { frame := 0, below := x.below, cut := x.cut }

/-- An assigned unit that a frame addresses (R174). -/
def State.kcMine (s : State) (f : KcFrame) : Bool := s.assigned && (f.bcast || f.addr == s.addr)

/-! ### Assignment (R187) -/

/-- KID (R176). -/
def State.kid (s : State) : Nat := 0x0740 + 2 * 2 ^ 16 + s.nv.lifecycle % 4 * 2 ^ 20

/-- The unit takes an address. -/
def State.assign (s : State) (a : Nat) : State :=
  let s := ((s.put R.CHN_KC_STATUS_addr a).put R.CHN_KC_STATUS_assigned 1).put R.CHN_KC_STATUS_gate_open 1
  ((s.put R.CHN_KC_ATTN_unassigned 0).mapSelf).announce true

/-- PWR_SET and UNIT_RESET: neither is carried out during the power-fail sequence (R216). -/
def State.kcUnlessFailing (s : State) (go : State → State) : KcAct :=
  if s.failing then { s := s, acted := false, status := ksNotReady } else { s := go s }

/-- The unit gives its address up. -/
def State.unassign (s : State) : State :=
  let a := s.addr
  let s := (s.announce false).cold [R.CHN_MAP_position a, R.CHN_MAP_valid a, R.CHN_MAP_port a, R.CHN_MAP_self a]
  s.cold [R.CHN_KC_STATUS_addr, R.CHN_KC_STATUS_assigned, R.CHN_KC_STATUS_gate_open, R.CHN_KC_ATTN_unassigned]

/-! ### Registers (R176, R177) -/

/-- Attention causes 5:0, and the enables with bit 0 always set. -/
def State.kcCauses (s : State) : Nat := s.get R.CHN_KC_ATTN_unassigned + 2 * s.get R.CHN_KC_ATTN_cause
def State.kcEnables (s : State) : Nat := setBit (s.get R.CHN_KC_ATTN_en) 0

/-- The unit's own attention (R165). -/
def State.ownAttention (s : State) : Bool := (s.kcCauses &&& s.kcEnables) != 0

/-- The level driven on KATTN_IN (R165). -/
def State.kattnIn (s : State) : Bool := s.on R.CHN_KC_ATTN_kattn_out || s.ownAttention

/-- KWIN's state field. -/
def WinState.code : WinState → Nat
  | .idle => 0
  | .pending => 1
  | .done => 2
  | .error => 3

/-- The register of a KREAD index (R176). -/
def State.kread (s : State) (i : Nat) : Nat :=
  let stage := s.get R.GLB_BOOT_STATUS_stage
  if i = 0 then s.kid
  else if i = 1 then
    s.addr + b2n s.assigned * 2 ^ 10 + s.get R.CHN_KC_STATUS_gate_open * 2 ^ 11 + s.get R.CHN_POS_position * 2 ^ 12
      + s.get R.CHN_POS_valid * 2 ^ 22
  else if i = 2 then
    s.power + s.get R.PWR_STATE_target * 2 ^ 2 + s.get R.PWR_STATE_busy * 2 ^ 4 + s.get R.PWR_STATE_last_result * 2 ^ 5
      + stage * 2 ^ 9 + s.get R.CLK_STATUS_pll_lock * 2 ^ 13 + b2n (s.get R.HUP_STATUS_state == 2) * 2 ^ 14
  else if i = 3 then
    s.kcCauses + s.kcEnables * 2 ^ 8 + s.get R.CHN_KC_ATTN_kattn_out * 2 ^ 16 + b2n s.ownAttention * 2 ^ 17
  else if i = 4 then
    s.get R.CHN_KC_FRAMES_acted % 4096 + s.get R.CHN_KC_FRAMES_discarded % 4096 * 2 ^ 12
  else s.window.st.code + 4 * b2n s.window.write

/-- ROLL_CALL data (R173). -/
def State.rollCall (s : State) : Nat :=
  s.power + s.get R.GLB_BOOT_STATUS_stage * 2 ^ 2 + s.get R.CHN_POS_position * 2 ^ 6 + s.get R.CHN_POS_valid * 2 ^ 16
    + s.kcCauses * 2 ^ 17

/-- ATTN_CTL. -/
def State.attnCtl (s : State) (arg : Nat) : State :=
  let s := s.put R.CHN_KC_ATTN_cause (clearBits (s.get R.CHN_KC_ATTN_cause) (bits arg 1 5))
  if arg.testBit 16 then s.put R.CHN_KC_ATTN_en (setBit (bits arg 8 6) 0) else s

/-! ### The window (R194, R195) -/

/-- Why a window command is not carried out. -/
def State.winBlocked (s : State) (result : Bool) : Option Nat :=
  if s.on R.INT_LINK_perst_n then some ksHostPresent
  else if !s.on R.CLK_STATUS_pll_lock || !s.running then some ksNotReady
  else if s.window.st = .pending && !result then some ksPending
  else none

/-- A window command, where nothing blocks it. -/
def State.winDo (s : State) (result : Bool) (go : State → KcAct) : KcAct :=
  match s.winBlocked result with
  | some st => { s := s, acted := false, status := st }
  | none => go s

def State.setWindow (s : State) (w : Window) : State := { s with window := w }

/-- WIN_WDATA: the low half is stored, the high half starts a write. -/
def State.winData (s : State) (arg : Nat) : State :=
  if arg.testBit 16 then
    s.setWindow { s.window with wdata := s.window.wlow + arg % 65536 * 2 ^ 16, write := true, st := .pending }
  else s.setWindow { s.window with wlow := arg % 65536 }

/-- WIN_RESULT. DESIGN CHOICE, log entry 105: where no access has been started it answers OK with data 0. -/
def State.winResult (s : State) (half : Nat) : KcAct :=
  let w := s.window
  if w.st = .pending then { s := s, status := ksPending }
  else if w.st = .error then { s := s, status := ksError }
  else { s := s, data := if w.write then 0 else bits w.result (16 * half) 16 }

/-! ### The commands -/

/-- KEYCHAIN_FRAME_BAD (R167): KGATE was not high for 50 cycles, or the check byte is wrong. -/
def execKeychainFrameBad (s : State) : Host.Outcome State Fault Refusal :=
  .next (settle (if s.phase = .held then s else s.kcBadFrame))

/-- NOP: no unit acts on it or answers (R173). -/
def execKcNop (f : KcIn) (s : State) : Host.Outcome State Fault Refusal :=
  .next (settle (s.kcFrame f (· == 0) (fun x => s.kcMine x && !x.argOk) fun t _ => { s := t }))

/-- ASSIGN (R187): by an unassigned unit. -/
def execAssign (f : KcIn) (s : State) : Host.Outcome State Fault Refusal :=
  .next (settle (s.kcFrame f (· == 1) (fun _ => !s.assigned) fun t x => { s := t.assign x.addr, data := t.kid }))

/-- ROLL_CALL (R173). -/
def execRollCall (f : KcIn) (s : State) : Host.Outcome State Fault Refusal :=
  .next (settle (s.kcFrame f (· == 2) s.kcMine fun t _ => { s := t, data := t.rollCall }))

/-- KREAD (R176). -/
def execKread (f : KcIn) (s : State) : Host.Outcome State Fault Refusal :=
  .next (settle (s.kcFrame f (· == 3) s.kcMine fun t x => { s := t, data := t.kread x.arg }))

/-- ATTN_CTL (R173, R177). -/
def execAttnCtl (f : KcIn) (s : State) : Host.Outcome State Fault Refusal :=
  .next (settle (s.kcFrame f (· == 4) s.kcMine fun t x => { s := t.attnCtl x.arg }))

/-- UNIT_RESET (R192). -/
def execUnitReset (f : KcIn) (s : State) : Host.Outcome State Fault Refusal :=
  .next (settle (s.kcFrame f (· == 5) s.kcMine fun t _ =>
    t.kcUnlessFailing fun u => u.askReset { cause := causeUnit }))

/-- PWR_SET by Keychain (R193). -/
def execKeychainPwrSet (f : KcIn) (s : State) : Host.Outcome State Fault Refusal :=
  .next (settle (s.kcFrame f (· == 6) s.kcMine fun t x =>
    t.kcUnlessFailing fun u => u.pwrRequest 0xF x.arg))

/-- UNASSIGN (R187). -/
def execUnassign (f : KcIn) (s : State) : Host.Outcome State Fault Refusal :=
  .next (settle (s.kcFrame f (· == 7) s.kcMine fun t _ => { s := t.unassign }))

/-- WIN_ADDR (R194). -/
def execWinAddr (f : KcIn) (s : State) : Host.Outcome State Fault Refusal :=
  .next (settle (s.kcFrame f (· == 8) s.kcMine fun t x =>
    t.winDo false fun t => { s := t.setWindow { t.window with addr := 4 * x.arg } }))

/-- WIN_WDATA (R194). -/
def execWinWdata (f : KcIn) (s : State) : Host.Outcome State Fault Refusal :=
  .next (settle (s.kcFrame f (· == 9) s.kcMine fun t x => t.winDo false fun t => { s := t.winData x.arg }))

/-- WIN_READ (R194). -/
def execWinRead (f : KcIn) (s : State) : Host.Outcome State Fault Refusal :=
  .next (settle (s.kcFrame f (· == 10) s.kcMine fun t _ =>
    t.winDo false fun t => { s := t.setWindow { t.window with write := false, st := .pending } }))

/-- WIN_RESULT (R194). -/
def execWinResult (f : KcIn) (s : State) : Host.Outcome State Fault Refusal :=
  .next (settle (s.kcFrame f (· == 11) s.kcMine fun t x => t.winDo true fun t => t.winResult x.arg))

/-- KEYCHAIN_RESERVED_CMD (R173): answered BAD_CMD. -/
def execKeychainReservedCmd (f : KcIn) (s : State) : Host.Outcome State Fault Refusal :=
  .next (settle (s.kcFrame f (12 ≤ ·) s.kcMine fun t _ => { s := t, acted := false, status := ksBadCmd }))

/-- KATTN_OUT_CHANGE (R165): the level of KATTN_IN follows. -/
def execKattnOutChange (level : Bool) (s : State) : Host.Outcome State Fault Refusal :=
  .next (s.flag R.CHN_KC_ATTN_kattn_out level)

end Sys2Proof.Machine
end

