-- ==== Sys2Proof/Machine/MailboxCmds.lean ====
section
/-!
DEFINITION. The commands of the mailboxes and the Keyway (R266–R276).
-/

namespace Sys2Proof.Machine

/-- TUMBLER_READ (R266). -/
def execTumblerRead (c : Fin 16) (mid : BitVec 4) (origin : BitVec 10) (s : State) :
    Host.Outcome State Fault Refusal :=
  .next (settle (s.whenUp (tumblerReadEff c mid origin)))

/-- TUMBLER_RELEASE (R267). -/
def execTumblerRelease (c : Fin 16) (mid : BitVec 4) (origin : BitVec 10) (value : BitVec 5) (s : State) :
    Host.Outcome State Fault Refusal :=
  .next (settle (s.whenUp (tumblerReleaseEff c mid origin value)))

/-- MAILBOX_GO (R270). -/
def execMailboxGo (c : Fin 16) (mid : BitVec 4) (origin : BitVec 10) (release : Bool) (s : State) :
    Host.Outcome State Fault Refusal :=
  .next (settle (s.whenUp (mailboxGoEff c mid origin release)))

/-- MAILBOX_COPY (R270). -/
def execMailboxCopy (c : Fin 16) (s : State) : Host.Outcome State Fault Refusal := .next (s.whenUp (·.mailboxCopy c))

/-- MAILBOX_CHECK (R271). -/
def execMailboxCheck (c : Fin 16) (s : State) : Host.Outcome State Fault Refusal :=
  .next (settle (s.whenUp (·.mailboxCheck c)))

/-- MAILBOX_POP (R273). -/
def execMailboxPop (c : Fin 16) (mid : BitVec 4) (origin : BitVec 10) (s : State) :
    Host.Outcome State Fault Refusal :=
  .next (settle (s.whenUp (·.mailboxPop c (who mid origin))))

/-- KEYWAY_BIND (R276). -/
def execKeywayBind (c : Fin 16) (mid : BitVec 4) (origin : BitVec 10) (value : W32) (s : State) :
    Host.Outcome State Fault Refusal :=
  .next (settle (s.whenUp (·.keywayBind c (who mid origin) value.toNat)))

/-- KEYWAY_LOCK (R275). -/
def execKeywayLock (mid : BitVec 4) (origin : BitVec 10) (value : W32) (s : State) :
    Host.Outcome State Fault Refusal :=
  .next (settle (s.whenUp (·.keywayLock (who mid origin) value.toNat)))

end Sys2Proof.Machine
end

