-- ==== Sys2Proof/Machine/Bus.lean ====
section
/-!
DEFINITION. The unit's own register map as every master meets it (R8–R18, R227, R685, R686): what a read shows of state
that lies elsewhere, the reads and writes with effects of their own, 64-bit registers and their halves, the banked MSI-X
table, and far access slots (R497–R499).
-/

namespace Sys2Proof.Machine

/-! ### Values shown from elsewhere -/

/-- A number built bit by bit from a test. -/
def bitsOf (n : Nat) (p : Nat → Bool) : Nat := ((List.range n).map fun i => b2n (p i) * 2 ^ i).sum

/-- Bit 8 of FLT_SRCn_STATE: a window is open (R594, R615). -/
def State.windowOpen (s : State) (n : Nat) : Bool :=
  s.get (R.FLT_SRC_STATE_count n) != 0 && s.now < (tget s.faultEnd n).getD 0

/-- FLT_EVQ_STAT as a MID sees it. -/
def State.evqStat (s : State) (mid : Nat) : Nat := (tget s.evqSeen mid).getD 0 + 2 ^ 8 * b2n s.chain1.items.isEmpty

/-- MBX_c_STATUS. -/
def State.mbxStatus (s : State) (c : Nat) : Nat :=
  let x := s.chan c
  x.queue.length + 2 ^ 3 * b2n x.staging.isSome + 2 ^ 8 * b2n x.owner.isSome
    + ((x.owner.map fun o => o.1 % 16 * 2 ^ 12 + o.2 % 1024 * 2 ^ 16).getD 0)

/-- MBX_c_RX_SRC. -/
def State.mbxSrc (s : State) (c : Nat) : Nat :=
  match (s.chan c).queue with
  | [] => 0
  | m :: _ =>
    m.mid % 16 + (if m.mid = 4 then m.addr % 1024 * 2 ^ 4 else 0) + 2 ^ 16 + 2 ^ 24 * (m.words.headD 0 % 32)

/-- MBX_c_CTL: go reads 1 until the copy; release and pop read 0. -/
def State.mbxCtl (s : State) (c : Nat) : Nat :=
  b2n (s.chan c).going + s.readFlds [R.MBX_CTL_notice_en c, R.MBX_CTL_evt_en c]

/-- INT_FSRC, with flt for either function (R601). -/
def State.fsrcAll (s : State) : Nat := (s.fsrc 0 ||| s.fsrc 1) + 2 ^ 8 * s.lxbIrqs

/-- INT_PFf_LEVEL. -/
def State.levels (s : State) (f : Nat) : Nat := bitsOf 4 (s.level f) + 2 ^ 8 * bitsOf 4 (s.rawLevel f)

/-- QMG_SQn_STATE. SQ 0 reads ABSENT while the admin pair is disabled, and its ring number reads 0. -/
def State.sqState (s : State) (n : Nat) : Nat :=
  let q := s.sq n
  (if n = 0 && !s.adminUp then 0 else q.state) + q.prio * 2 ^ 2 + b2n q.unordered * 2 ^ 5
    + q.owner * 2 ^ 6 + (if n = 0 then 0 else q.cr) * 2 ^ 8 + q.log2 * 2 ^ 16 + q.err * 2 ^ 20

/-- Submission queues bound to a ring; ring 64 serves SQ 0. -/
def State.boundTo (s : State) (m : Nat) : Nat :=
  if m = 64 then b2n s.adminUp
  else (s.sqs.filter fun e => e.1 != 0 && e.2.state != 0 && e.2.cr == m).length

/-- QMG_CRm_STATE. -/
def State.crState (s : State) (m : Nat) : Nat :=
  let r := s.ring m
  b2n r.exist + r.owner * 2 + r.log2 * 2 ^ 4 + s.boundTo m * 2 ^ 8

/-- CHE_TAG_STATE.state. A program whose final record has not left still holds its tag and shows RUNNING. -/
def PState.code : PState → Nat
  | .prefetched => 1 | .ordHold => 2 | .orderHold => 3 | .running => 4 | .deviceWait => 5 | .suspended => 6
  | .moving => 7 | .ended => 4

/-- The program of the tag that CHE_TAG_SEL names for a MID. -/
def State.selected (s : State) (mid : Nat) : Option Prog := s.prog (s.get (R.CHE_TAG_SEL_tag mid))

/-- CHE_TAG_STATE as a MID sees it. -/
def State.tagState (s : State) (mid : Nat) : Nat :=
  match s.selected mid with
  | none => 0
  | some p =>
    (if s.moving (s.get (R.CHE_TAG_SEL_tag mid) / 64) then 7 else p.st.code) + b2n p.resume * 2 ^ 4 + p.sq * 2 ^ 8
      + p.slot * 2 ^ 16

/-- CHE_SEk. -/
def State.seState (s : State) (k : Nat) : Nat := s.loadOf k + s.physOf k * 2 ^ 8 + b2n (s.moving k) * 2 ^ 16

/-- TLN_INV. -/
def State.tlnInv (s : State) : Nat :=
  s.spareSes.length + b2n s.bankFree * 2 ^ 4 + (400 - (s.tln.spares.filter fun e => e.1 < 400).length) * 2 ^ 8

/-- TLN_SA_STATE of the sub-array that TLN_SA_SEL names for a MID. -/
def State.saState (s : State) (mid : Nat) : Nat :=
  let key := 2 * (8 * s.get (R.TLN_SA_SEL_bank mid) + s.get (R.TLN_SA_SEL_sub_array mid))
  let e (i : Nat) : Nat × Nat := (tget s.tln.spares (key + i)).getD (0, 0)
  (e 0).1 + (e 1).1 * 2 ^ 2 + (e 0).2 % 512 * 2 ^ 4 + (e 1).2 % 512 * 2 ^ 13

/-- TLN_PSEp. -/
def State.pseState (s : State) (p : Nat) : Nat :=
  if s.tln.retired.contains p then 2 + b2n (s.nv.fusedSes.contains p) * 2 ^ 16
  else match s.logicalOf p with
    | some k => 1 + k * 2 ^ 8
    | none => 0

/-- Activity class of bank b (R364). -/
def bankClass (b : Nat) : Nat :=
  if b < 10 then 0 else if b < 16 then 1 else if b < 19 then 2 else if b < 22 then 3 else if b < 24 then 4 else 5

/-- BUF_BANKb: class, physical bank, and whether physical bank b is retired. -/
def State.bankState (s : State) (b : Nat) : Nat :=
  bankClass b + s.physBank b * 2 ^ 8 + b2n (s.tln.bankMap == some b || (b == 24 && s.tln.bankFailed)) * 2 ^ 16

/-- The 512-byte units that queues in use take. -/
def State.unitsUsed (s : State) : Nat :=
  (((List.range 216).filter s.qOn).map fun q => unitsOf (s.get (R.BUF_Q_CFG_log2 q))).sum

/-- No queue in use has a unit of the aligned block of 2^k units at base. -/
def State.blockFree (s : State) (base k : Nat) : Bool :=
  !(List.range 216).any fun q =>
    s.qOn q && s.get (R.BUF_Q_CFG_base q) < base + 2 ^ k
      && base < s.get (R.BUF_Q_CFG_base q) + unitsOf (s.get (R.BUF_Q_CFG_log2 q))

/-- log2 of the largest free aligned block of port-queue space, 0 where none is free. -/
def State.largestFree (s : State) : Nat :=
  (((List.range 14).reverse).find? fun k =>
    (List.range (10240 / 2 ^ k)).any fun i => s.blockFree (i * 2 ^ k) k).getD 0

/-- BUF_Qq_PTR1: R, and the room by the kind of queue. -/
def State.qPtr1 (s : State) (q : Nat) : Nat :=
  (s.wq q).r + (if isTxQueue q then s.qCredits q else s.qDepth q - 1 - s.qOcc q) * 2 ^ 16

/-- BUF_Qq_STATUS. -/
def State.qStatus (s : State) (q : Nat) : Nat :=
  let x := s.wq q
  b2n (s.qEmpty q) + 2 * b2n x.dropping + 4 * b2n x.claim.isSome + 8 * b2n x.gapPending
    + min 65535 x.pkts.length * 2 ^ 16

/-- HNG_RXSUM. -/
def State.rxSum (s : State) : Nat :=
  bitsOf 16 (fun c => !(s.chan c).queue.isEmpty)
    + 2 ^ 16 * bitsOf 16 fun c => s.bitOf (R.MBX_EVT_cause c) 0 || s.bitOf (R.MBX_EVT_cause c) 1

/-- LDG_STATUS but for write_through, which HUP_STATUS holds. -/
def State.ldgStatus (s : State) : Nat :=
  let l := s.ldg
  l.pair.role + 4 * s.wtFlag + 8 * b2n (l.freeSegs == 0) + 16 * b2n (l.freeSegs == 1) + 32 * b2n l.ready
    + l.pair.term % 65536 * 2 ^ 16

/-- LDG_PAIR. -/
def State.ldgPair (s : State) : Nat :=
  let p := s.ldg.pair
  p.partner % 1024 + b2n p.bound * 2 ^ 10 + b2n s.hbOk * 2 ^ 11 + b2n s.ldg.grace * 2 ^ 12

/-- SCB_PMAP_DATA of the block that SCB_PMAP_SEL names for a MID. -/
def State.pmapData (s : State) (mid : Nat) : Nat :=
  let a := s.get (R.SCB_PMAP_SEL_bank mid) * 65536 + 32 * s.get (R.SCB_PMAP_SEL_block mid)
  bitsOf 32 fun j => s.poisonAt (a + j)

/-- Word w of the trace buffer window of a MID. -/
def State.trcWord (s : State) (mid w : Nat) : Nat :=
  ((tget s.trcBuf (2048 * s.get (R.TRC_PAGE_page mid) + w / 4)).getD []).getD (w % 4) 0

/-- A row of the map whose derived fields show other state: base, indices, and their value in place, for a MID. -/
structure View where
  base : Nat
  dims : List (Nat × Nat) := []
  val : State → Nat → List Nat → Nat

/-- The index of a register with one. -/
def ix (is : List Nat) : Nat := is.headD 0

/-- Views of the GLB, THM, FLT, INT and CHN blocks. -/
def viewsA : List View := [
  { base := R.GLB_LIFECYCLE_state.off, val := fun s _ _ => s.nv.lifecycle },
  { base := R.GLB_UNIT_ADDR_addr.off, val := fun s _ _ => s.addr + b2n s.assigned * 2 ^ 16 },
  { base := R.GLB_ROLLBACK_count.off, val := fun s _ _ => s.nv.rollback },
  { base := R.GLB_BANK_STATE_preferred.off, val := fun s _ _ => s.nv.bankState },
  { base := R.THM_DUTY_duty.off, val := fun s _ _ => s.duty * 2 ^ 16 },
  { base := (R.FLT_SRC_STATE_window 0).off, dims := [(128, 4)], val := fun s _ is => b2n (s.windowOpen (ix is)) * 2 ^ 8 },
  { base := R.FLT_EVQ_STAT_empty.off, val := fun s mid _ => s.evqStat mid },
  { base := R.INT_FSRC_src.off, val := fun s _ _ => s.fsrcAll },
  { base := R.INT_ESRC_src.off, val := fun s _ _ => s.esrc },
  { base := (R.INT_PF_LEVEL_gated 0).off, dims := [(2, 0x100)], val := fun s _ is => s.levels (ix is) },
  { base := (R.INT_PF_QSRC_ring 0 0).off, dims := [(2, 0x100), (2, 4)],
    val := fun s _ is => bitsOf 32 fun j => s.qsrc (ix is) (32 * is.getD 1 0 + j) },
  { base := (R.INT_PF_MSRC_chan 0).off, dims := [(2, 0x100)], val := fun s _ is => bitsOf 16 (s.msrc (ix is)) },
  { base := (R.INT_PF_ASRC_acr 0).off, dims := [(2, 0x100)], val := fun s _ is => b2n (s.qsrc (ix is) 64) },
  { base := R.CHN_KC_ATTN_kattn_in.off, val := fun s _ _ => b2n s.kattnIn * 2 ^ 17 },
  { base := (R.PIN_IN_level 0).off, dims := [(6, 4)], val := fun s _ is => s.pinIn (ix is) }]

/-- Views of the QMG and CHE blocks. -/
def viewsB : List View := [
  { base := (R.QMG_SQ_STATE_state 0).off, dims := [(256, 16)], val := fun s _ is => s.sqState (ix is) },
  { base := (R.QMG_SQ_PTR_head 0).off, dims := [(256, 16)],
    val := fun s _ is => (s.sq (ix is)).h + (s.sq (ix is)).t * 2 ^ 16 },
  { base := (R.QMG_SQ_ERR_value 0).off, dims := [(256, 16)], val := fun s _ is => (s.sq (ix is)).errVal },
  { base := (R.QMG_SQ_TAGS_held 0).off, dims := [(256, 16)], val := fun s _ is => s.held (ix is) },
  { base := (R.QMG_CR_STATE_exists 0).off, dims := [(65, 32)], val := fun s _ is => s.crState (ix is) },
  { base := (R.QMG_CR_PTR_tail 0).off, dims := [(65, 32)],
    val := fun s _ is => (s.ring (ix is)).tail + (s.ring (ix is)).head * 2 ^ 16 },
  { base := (R.QMG_CR_RSV_reserved 0).off, dims := [(65, 32)], val := fun s _ is => (s.ring (ix is)).reserved },
  { base := R.CHE_TAGS_FREE_free.off, val := fun s _ _ => s.tagsFree },
  { base := R.CHE_FAR_SLOTS_used.off, val := fun s _ _ => s.farSlots.length },
  { base := R.CHE_TAG_STATE_state.off, val := fun s mid _ => s.tagState mid },
  { base := R.CHE_TAG_CCW_addr.off, val := fun s mid _ => ((s.selected mid).map (·.ccwAddr)).getD 0 },
  { base := R.CHE_TAG_COUNT_jumps.off,
    val := fun s mid _ => ((s.selected mid).map fun p => p.jumps + p.ccws * 2 ^ 16).getD 0 },
  { base := (R.CHE_SE_programs 0).off, dims := [(32, 4)], val := fun s _ is => s.seState (ix is) }]

/-- Views of the TLN, BUF and SCB blocks. -/
def viewsC : List View := [
  { base := R.TLN_INV_se_free.off, val := fun s _ _ => s.tlnInv },
  { base := R.TLN_STATUS_queued.off,
    val := fun s _ _ => s.tln.rowQ.length * 2 ^ 8 + b2n s.tln.bankQ.isSome * 2 ^ 16 },
  { base := R.TLN_JRNL_used.off, val := fun s _ _ => s.tln.journal.length },
  { base := R.TLN_SA_STATE_spare0.off, val := fun s mid _ => s.saState mid },
  { base := (R.TLN_Q_row 0).off, dims := [(64, 4)],
    val := fun s _ is => ((s.tln.rowQ[ix is]?).map fun r => r % 2 ^ 17 + 2 ^ 31).getD 0 },
  { base := (R.TLN_PSE_state 0).off, dims := [(36, 4)], val := fun s _ is => s.pseState (ix is) },
  { base := (R.BUF_BANK_class 0).off, dims := [(25, 4)], val := fun s _ is => s.bankState (ix is) },
  { base := R.BUF_FREE_units.off, val := fun s _ _ => 10240 - s.unitsUsed + s.largestFree * 2 ^ 16 },
  { base := (R.BUF_CHAIN_STATUS_fill 0).off, dims := [(3, 16)],
    val := fun s _ is => (s.chain (ix is)).items.length + b2n (s.chain (ix is)).items.isEmpty * 2 ^ 8 },
  { base := (R.BUF_Q_PTR0_w 0).off, dims := [(216, 0x40)],
    val := fun s _ is => (s.wq (ix is)).w + (s.wq (ix is)).c * 2 ^ 16 },
  { base := (R.BUF_Q_PTR1_r 0).off, dims := [(216, 0x40)], val := fun s _ is => s.qPtr1 (ix is) },
  { base := (R.BUF_Q_STATUS_empty 0).off, dims := [(216, 0x40)], val := fun s _ is => s.qStatus (ix is) },
  { base := R.SCB_PMAP_DATA_bits.off, val := fun s mid _ => s.pmapData mid },
  { base := R.SCB_PMAP_TOTAL_count.off, val := fun s _ _ => s.poison.length }]

/-- Views of the ports, the PTP clock, the Hinge, the ledger and the trace. -/
def viewsD : List View := [
  { base := (R.CAN_STATUS_state 0).off, dims := [(16, 0x800)], val := fun s _ is => s.canState (ix is) },
  { base := R.TIM_NOW_time.off, val := fun s _ _ => s.ptpNow },
  { base := R.TIM_SLEW_LEFT_left.off, val := fun s _ _ => (s.ptp.left % 2 ^ 21).toNat },
  { base := R.HNG_REQ_USE_total.off, val := fun s _ _ => s.reqs.length + s.pollerUse * 2 ^ 16 },
  { base := R.HNG_RXSUM_queued.off, val := fun s _ _ => s.rxSum },
  { base := R.LDG_STATUS_role.off, val := fun s _ _ => s.ldgStatus },
  { base := R.LDG_SEGS_free.off, val := fun s _ _ => s.ldg.freeSegs + s.ldg.openSeg.getD 0 * 2 ^ 8 },
  { base := R.LDG_NEXT_SEQ_seq.off, val := fun s _ _ => s.ldg.next },
  { base := R.LDG_DURABLE_SEQ_seq.off, val := fun s _ _ => s.ldg.durable },
  { base := R.LDG_SEAL_SEQ_seq.off, val := fun s _ _ => s.ldg.sealSeq },
  { base := R.LDG_HORIZON_seq.off, val := fun s _ _ => s.ldg.horizon },
  { base := R.LDG_OLDEST_SEQ_seq.off, val := fun s _ _ => s.ldg.oldest },
  { base := R.LDG_EXPORTED_seq.off, val := fun s _ _ => s.ldg.exported },
  { base := R.LDG_ID_ledger_id.off, val := fun s _ _ => s.ldg.pair.id },
  { base := R.LDG_PAIR_partner.off, val := fun s _ _ => s.ldgPair },
  { base := R.LDG_MIRROR_SEQ_value.off, val := fun s _ _ => s.ldg.mirrorSeq },
  { base := R.LDG_BRANCH_FIRST_value.off, val := fun s _ _ => s.ldg.pair.branchFirst },
  { base := R.LDG_BRANCH_LAST_value.off, val := fun s _ _ => s.ldg.pair.branchLast },
  { base := R.LDG_PARTNER_SN_value.off, val := fun s _ _ => s.ldg.pair.sn },
  { base := R.TRC_STATUS_paused.off, val := fun s _ _ => b2n s.trcPaused * 2 ^ 16 },
  { base := (R.TRC_BUF_word 0).off, dims := [(8192, 8)], val := fun s mid is => s.trcWord mid (ix is) }]

/-- Where an offset stands among the instances of a row. -/
def placeAt (base : Nat) (dims : List (Nat × Nat)) (off : Nat) : Option (List Nat) :=
  if base ≤ off then indicesAt dims (off - base) else none

/-- The derived part of the register at an offset, as a MID sees it. -/
def State.derived (s : State) (mid off : Nat) : Nat :=
  ((viewsA ++ viewsB ++ viewsC ++ viewsD).findSome? fun v =>
    (placeAt v.base v.dims off).map (v.val s mid)).getD 0

/-! ### Reading one register -/

/-- A field that a read shows from the register store: not one that is absent, derived, or write only (R8). -/
def Fld.shown (f : Fld) : Bool :=
  f.present && match f.acc with
    | .derived => false
    | .wo => false
    | _ => true

/-- A register that is reserved as a whole: of a queue number that names no queue (R372), or of a fault source that is
not assigned (R593). -/
def rsvReg (off : Nat) : Bool :=
  if 0x31000 ≤ off && off < 0x34600 then !queueExists ((off - 0x31000) / 0x40)
  else if 0x4000 ≤ off && off < 0x4800 then !srcAssigned ((off - 0x4000) / 4 % 128)
  else if 0x5000 ≤ off && off < 0x5200 then !srcAssigned ((off - 0x5000) / 4)
  else false

/-- The value of a register whose read has no effect. -/
def State.value (s : State) (mid : Nat) (r : RegAt) : Nat :=
  if rsvReg r.off then 0 else s.readFlds (r.flds.filter Fld.shown) + s.derived mid r.off

/-- A read of a mailbox register (R262, R266, R272). -/
def State.mbxRead (s : State) (w : Who) (off : Nat) : State × Nat :=
  let c := (off - 0x8000) / 0x100
  let o := (off - 0x8000) % 0x100
  let party (ok : Bool) (v : Nat) : State × Nat := if ok then (s, v) else (s.keywayViolation c w false, 0)
  if o < 0x40 then party (s.isSender c w.mid) (s.get (R.MBX_TX_word c (o / 4)))
  else if o < 0x80 then party (s.isReceiver c w.mid) (s.mbxRx c ((o - 0x40) / 4))
  else if o = 0x80 then s.tumblerRead c w
  else if o = 0x8C then party (s.isReceiver c w.mid) (s.mbxSrc c)
  else
    party (s.isSender c w.mid || s.isReceiver c w.mid)
      (if o = 0x84 then s.mbxCtl c else if o = 0x88 then s.mbxStatus c
       else if o = 0x90 then s.get (R.MBX_EVT_cause c) else s.get (R.MBX_CNT_count c ((o - 0xA0) / 4)))

/-- A register read as a whole, with the effects that its read has: the mailboxes, FLT_EVQ, THM_PEAK, the semaphores and
the LXB lock. `uncorr` says that the read meets an uncorrectable word, which FLT_EVQ and TRC_BUF note (R614, R682). -/
def State.loadReg (s : State) (w : Who) (r : RegAt) (uncorr : Bool) : State × Nat :=
  if 0x8000 ≤ r.off && r.off < 0x9000 then s.mbxRead w r.off
  else if r.off = R.FLT_EVQ_word.off then
    let x := s.evqPop w.mid uncorr
    (x.1, x.2 % 2 ^ 64)
  else if r.off = R.THM_PEAK_value.off then s.thmPeakRead
  else match placeAt (R.HNG_SEM_value 0).off [(64, 4)] r.off with
    | some is => s.semRead (ix is) w
    | none =>
      if r.off = R.HNG_LXB_LOCK_value.off then s.lxbLockRead w.mid
      else if uncorr && (placeAt (R.TRC_BUF_word 0).off [(8192, 8)] r.off).isSome then (s.trcRaise 2, s.value w.mid r)
      else (s, s.value w.mid r)

/-! ### Writing one register -/

/-- A row of the map whose writes have effects of their own. -/
structure Act where
  base : Nat
  dims : List (Nat × Nat) := []
  act : State → Who → List Nat → Nat → State

/-- A generic write of the register at an offset, by access code (R8, R13). -/
def State.plainWrite (s : State) (mid off v : Nat) : State :=
  match regAt mid off with
  | some r => s.writeFlds mid v r.flds
  | none => s

/-- A write of GLB_BOOT_STATUS: fw_ready brings stage READY and the attention cause ready (R140, R160). -/
def State.bootStatusWrite (s : State) (mid v : Nat) : State :=
  let was := s.on R.GLB_BOOT_STATUS_fw_ready
  let t := s.plainWrite mid R.GLB_BOOT_STATUS_stage.off v
  if !was && t.on R.GLB_BOOT_STATUS_fw_ready then (t.put R.GLB_BOOT_STATUS_stage stageReady).kcRaise 5 else t

/-- A write of CHN_KC_ATTN: the enable of cause 0 reads 1 and ignores writes. -/
def State.attnWrite (s : State) (mid v : Nat) : State :=
  let t := s.plainWrite mid R.CHN_KC_ATTN_cause.off v
  t.put R.CHN_KC_ATTN_en (setBit (t.get R.CHN_KC_ATTN_en) 0)

/-- A write of FLT_CTL (R612). -/
def State.fltCtlWrite (s : State) (w : Who) (v : Nat) : State :=
  if w.mid ≠ 2 then s.accessRefused R.FLT_CTL_evq_pf.off w else s.plainWrite w.mid R.FLT_CTL_evq_pf.off v

/-- A write of LDG_FWA_CTL by MID 2: count, then go (R542, R570). -/
def State.fwaCtlWrite (s : State) (mid v : Nat) : State :=
  let n := bits v 8 8
  if mid ≠ 2 then s
  else
    let s := if 40 ≤ n && n ≤ 232 && (n - 40) % 16 = 0 then s.put R.LDG_FWA_CTL_count n else s
    if v.testBit 0 then s.fwaGo else s

/-- A write of HUP_EREQ: the store is judged against it (R109). -/
def State.ereqWrite (s : State) (mid v : Nat) : State := (s.plainWrite mid R.HUP_EREQ_ereq.off v).judgeStore

/-- A write of a mailbox register (R262). -/
def State.mbxWrite (s : State) (w : Who) (off v : Nat) : State :=
  let c := (off - 0x8000) / 0x100
  let o := (off - 0x8000) % 0x100
  if o < 0x40 then s.txWordWrite c (o / 4) w v
  else if o = 0x80 then s.tumblerWrite c w (bits v 0 5)
  else if o = 0x84 then s.mbxCtlWrite c w v
  else if (0x40 ≤ o && o < 0x80) || o = 0x8C then
    if s.isReceiver c w.mid then s else s.keywayViolation c w true
  else if !s.isSender c w.mid && !s.isReceiver c w.mid then s.keywayViolation c w true
  else if o = 0x90 then s.put (R.MBX_EVT_cause c) (clearBits (s.get (R.MBX_EVT_cause c)) v)
  else s

/-- Effects of writes to the GLB, PWR, HUP, THM, FLT, DBT, PIN, KWY and INT blocks. -/
def actsA : List Act := [
  { base := R.GLB_RESET_warm.off, act := fun s w _ v => s.glbResetWrite w.mid v },
  { base := R.GLB_BOOT_STATUS_stage.off, act := fun s w _ v => s.bootStatusWrite w.mid v },
  { base := R.GLB_WDOG_KICK_key.off, act := fun s w _ v => s.wdogKick w.mid v },
  { base := R.GLB_LC_REQ_target.off, act := fun s w _ v => s.lcReqWrite w v },
  { base := R.PWR_STATE_target.off, act := fun s w _ v => s.pwrStateWrite w.mid v },
  { base := R.HUP_EREQ_ereq.off, act := fun s w _ v => s.ereqWrite w.mid v },
  { base := R.THM_CMD_measure.off, act := fun s w _ v => s.thmCmdWrite w.mid v },
  { base := R.THM_LIM_warn.off, act := fun s w _ v => s.thmLimWrite w.mid v },
  { base := R.THM_DUTY_enf_duty.off, act := fun s w _ v => s.thmDutyWrite w.mid v },
  { base := (R.FLT_SRC_CFG_n 0).off, dims := [(128, 4)], act := fun s w is v => s.srcCfgWrite (ix is) w v },
  { base := (R.FLT_PEND_pend 0).off, dims := [(4, 4)], act := fun s w is v => s.pendWrite (ix is) w v },
  { base := R.FLT_CTL_evq_pf.off, act := fun s w _ v => s.fltCtlWrite w v },
  { base := R.FLT_QUAR_PORT0_port.off, act := fun s w _ v => s.quarWrite false w v },
  { base := R.FLT_QUAR_PORT1_port.off, act := fun s w _ v => s.quarWrite true w v },
  { base := (R.DBT_FLT_n_max 0).off, dims := [(128, 4)], act := fun s w is v => s.dbtFltWrite (ix is) w v },
  { base := (R.DBT_GW_rate 0).off, dims := [(31, 4)], act := fun s w is v => s.dbtGwWrite (ix is) w v },
  { base := (R.PIN_CFG_sel 0).off, dims := [(192, 4)], act := fun s w is v => s.pinWrite (ix is) w.mid v },
  { base := R.PIN_CTL_lock.off, act := fun s w _ v => s.pinCtlWrite w.mid v },
  { base := (R.KWY_BIND_sender 0).off, dims := [(16, 4)], act := fun s w is v => s.keywayBind (ix is) w v },
  { base := R.KWY_CTL_lock.off, act := fun s w _ v => s.keywayLock w v },
  { base := (R.INT_PF_REARM_rearm 0).off, dims := [(2, 0x100)], act := fun s _ is v => s.rearm (ix is) v },
  { base := R.FTM_FLT_INJ_src.off, act := fun s w _ v => s.faultInject w.mid v }]

/-- Effects of writes to the DBL, QMG, TLN, BUF, LDG, CHN and TRC blocks. -/
def actsB : List Act := [
  { base := (R.DBL_SQ_TAIL_value 0).off, dims := [(256, 8)],
    act := fun s w is v => s.sqDoorbell (ix is) w.mid (bits v 0 13) },
  { base := (R.DBL_SQ_RESUME_value 0).off, dims := [(256, 8)],
    act := fun s w is v => s.resumeDoorbell (ix is) w.mid (bits v 0 11) },
  { base := (R.DBL_CR_HEAD_head 0).off, dims := [(65, 4)], act := fun s w is v => s.crHead (ix is) w.mid (bits v 0 13) },
  { base := (R.QMG_CR_INT_en 0).off, dims := [(65, 32)], act := fun s w is v => s.crIntWrite (ix is) w.mid v },
  { base := R.QMG_ADM_CTL_enable.off, act := fun s w _ v => s.admCtlWrite w.mid v },
  { base := R.TLN_CMD_repair.off, act := fun s w _ v => s.tlnCmdWrite w.mid v },
  { base := R.TLN_ROW_REQ_word.off, act := fun s w _ v => s.rowRequest w.mid v },
  { base := (R.BUF_Q_CFG_en 0).off, dims := [(216, 0x40)], act := fun s _ is v => s.qCfgWrite (ix is) v },
  { base := (R.BUF_Q_CMD_drop_pkt 0).off, dims := [(216, 0x40)], act := fun s _ is v => s.qCmdWrite (ix is) v },
  { base := R.LDG_CMD_seal.off, act := fun s w _ v => s.ldgCmdWrite w.mid v },
  { base := R.LDG_EXPORTED_seq.off, act := fun s w _ v => if w.mid = 2 then s.exportedWrite v else s },
  { base := R.LDG_FWA_CTL_go.off, act := fun s w _ v => s.fwaCtlWrite w.mid v },
  { base := R.CHN_KC_ATTN_cause.off, act := fun s w _ v => s.attnWrite w.mid v },
  { base := (R.CHN_PT_CTL_en 0).off, dims := [(2, 0x100)], act := fun s w is v => s.ptCtlWrite (ix is) w.mid v },
  { base := R.TRC_HOST_MARK_value.off, act := fun s w _ v => s.hostMark w.mid v },
  { base := R.TRC_CLEAR_clear.off, act := fun s w _ v => s.trcClearWrite w.mid v },
  { base := R.TRC_SINK_HEAD_head.off, act := fun s _ _ v => s.put R.TRC_SINK_HEAD_head v }]

/-- Effects of writes to the ports, the PTP clock, the gateway and the Hinge. -/
def actsC : List Act := [
  { base := (R.CAN_CTL_en 0).off, dims := [(16, 0x800)], act := fun s w is v => s.canCtlWrite (ix is) w.mid v },
  { base := (R.CAN_PTX_CTL_en 0 0).off, dims := [(16, 0x800), (8, 16)],
    act := fun s w is v => (s.plainWrite w.mid (R.CAN_PTX_CTL_en (ix is) (is.getD 1 0)).off v).ptxOff (ix is) },
  { base := (R.LIN_CFG_en 0).off, dims := [(8, 0x200)],
    act := fun s w is v => (s.writeOthers w.mid v (R.LIN_CFG_en (ix is))).linEn (ix is) (v.testBit 0) },
  { base := (R.SENT_CFG_en 0).off, dims := [(4, 0x100)],
    act := fun s w is v => (s.writeOthers w.mid v (R.SENT_CFG_en (ix is))).sentEn (ix is) (v.testBit 0) },
  { base := (R.SER_CFG_en 0).off, dims := [(4, 0x100)],
    act := fun s w is v => (s.writeOthers w.mid v (R.SER_CFG_en (ix is))).serEn (ix is) (v.testBit 0) },
  { base := (R.CARD_CFG_en 0).off, dims := [(2, 0x100)],
    act := fun s w is v => (s.writeOthers w.mid v (R.CARD_CFG_en (ix is))).cardEn (ix is) (v.testBit 0) },
  { base := (R.ETH_CFG_en 0).off, dims := [(7, 0x1000)], act := fun s w is v => s.ethCfgWrite (ix is) w.mid v },
  { base := (R.ETH_PHY_role 0).off, dims := [(7, 0x1000)],
    act := fun s w is v => (s.plainWrite w.mid (R.ETH_PHY_role (ix is)).off v).ethSettle (ix is) },
  { base := R.ETH_PLCA_en.off,
    act := fun s w _ v => (s.plainWrite w.mid R.ETH_PLCA_en.off v).plcaSettle },
  { base := R.TIM_SET_time.off, act := fun s w _ v => s.timSet w.mid v },
  { base := R.TIM_RATE_rate.off, act := fun s w _ v => s.timRate w.mid v },
  { base := R.TIM_SLEW_offset.off, act := fun s w _ v => s.timSlew w.mid v },
  { base := R.TIM_XTS_CTL_go.off, act := fun s _ _ v => if v.testBit 0 then s.crossStamp else s },
  { base := (R.TIM_CAP_CTL_edge 0).off, dims := [(2, 16)],
    act := fun s w is v => s.capCtlWrite w.mid (ix is) (bits v 0 2) },
  { base := (R.TIM_PPS_PER_period 0).off, dims := [(2, 8)], act := fun s w is v => s.ppsWrite w.mid (ix is) false v },
  { base := (R.TIM_PPS_WIDTH_width 0).off, dims := [(2, 8)], act := fun s w is v => s.ppsWrite w.mid (ix is) true v },
  { base := (R.GRT_W_word 0 0).off, dims := [(4096, 16), (4, 4)],
    act := fun s w is v => s.grtWrite (ix is) (is.getD 1 0) w v },
  { base := (R.HNG_SEM_value 0).off, dims := [(64, 4)], act := fun s w is _ => s.semWrite (ix is) w },
  { base := R.HNG_LXB_LOCK_value.off, act := fun s w _ _ => s.lxbLockWrite w.mid }]

/-- A register other than HNG_FASf_s_CMD written as a whole. -/
def State.storeReg (s : State) (w : Who) (r : RegAt) (v : Nat) : State :=
  if 0x8000 ≤ r.off && r.off < 0x9000 then s.mbxWrite w r.off v
  else match (actsA ++ actsB ++ actsC).findSome? fun a =>
      (placeAt a.base a.dims r.off).map fun is => a.act s w is v with
    | some t => t
    | none => s.writeFlds w.mid v r.flds

/-! ### The banked MSI-X table and pending bits (R15, R223, R260) -/

/-- The range of the MSI-X table and pending-bit array. -/
def msixRange (off : Nat) : Bool := 0xA800 ≤ off && off < 0xAA00

/-- The offset names a word of the table or of the pending-bit array. -/
def msixNamed (off : Nat) : Bool := off < 0xA840 || off == 0xA900 || off == 0xA904

/-- A 32-bit word of the range of function f. -/
def State.msixWord (s : State) (f off : Nat) : Nat :=
  let x := (off - 0xA800) / 16
  if off = 0xA900 then s.get (R.MSIX_PBA_pending f)
  else if 0xA840 ≤ off then 0
  else if off % 16 = 0 then s.get (R.MSIX_ADDR_addr f x) % 2 ^ 32
  else if off % 16 = 4 then s.get (R.MSIX_ADDR_addr f x) / 2 ^ 32
  else if off % 16 = 8 then s.get (R.MSIX_DATA_data f x)
  else s.get (R.MSIX_VCTL_mask f x)

/-- A 32-bit word of the table of function f written. -/
def State.msixSet (s : State) (f off v : Nat) : State :=
  let x := (off - 0xA800) / 16
  let a := s.get (R.MSIX_ADDR_addr f x)
  if 0xA840 ≤ off then s
  else if off % 16 = 0 then s.put (R.MSIX_ADDR_addr f x) (a / 2 ^ 32 * 2 ^ 32 + v)
  else if off % 16 = 4 then s.put (R.MSIX_ADDR_addr f x) (a % 2 ^ 32 + v * 2 ^ 32)
  else if off % 16 = 8 then s.put (R.MSIX_DATA_data f x) v
  else s.put (R.MSIX_VCTL_mask f x) v

/-- A word of the range read by a master: MIDs 0 and 1 reach their function's copy, and any other reads 0. -/
def State.msixRead (s : State) (w : Who) (off : Nat) : State × Nat :=
  if 1 < w.mid then (s, 0) else if msixNamed off then (s, s.msixWord w.mid off) else (s.accessRefused off w, 0)

/-- A word of the range written by a master. -/
def State.msixWrite (s : State) (w : Who) (off v : Nat) : State :=
  if 1 < w.mid then s else if msixNamed off then s.msixSet w.mid off v else s.accessRefused off w

/-! ### The map (R15–R18, R227, R680) -/

/-- The FTM block, closed outside FACTORY_TEST: it reads 0 and ignores writes without any event (R680). -/
def State.ftmClosed (s : State) (off : Nat) : Bool := 0xF0000 ≤ off && off < 0x100000 && s.nv.lifecycle != 0

/-- The 64-bit register whose high half lies at an offset. -/
def highAt (mid off : Nat) : Option RegAt :=
  if off < 4 then none
  else match regAt mid (off - 4) with
    | some r => if r.wide then some r else none
    | none => none

/-- An aligned 32-bit read of the map. Offsets of the map run to 0x10_0000. -/
def State.loadWord (s : State) (w : Who) (off : Nat) (uncorr : Bool := false) : State × Nat :=
  if msixRange off then s.msixRead w off
  else if s.ftmClosed off then (s, 0)
  else if 0x100000 ≤ off then (s.accessRefused off w, 0)
  else match regAt w.mid off with
    | some r =>
      let x := s.loadReg w r uncorr
      if r.wide then (x.1.keepHalf w off false (x.2 / 2 ^ 32), x.2 % 2 ^ 32) else x
    | none =>
      match highAt w.mid off with
      | some r =>
        match s.heldHalf w r.off false with
        | some v => (s.dropHalf w r.off false, v)
        | none =>
          let x := s.loadReg w r false
          ({ s with free := x.1.free }, x.2 / 2 ^ 32)
      | none => (s.accessRefused off w, 0)

/-- A 64-bit read of the map: a 64-bit register, two words of the MSI-X table, or a refusal (R15, R16). -/
def State.loadLong (s : State) (w : Who) (off : Nat) (uncorr : Bool := false) : State × Nat :=
  if off % 8 ≠ 0 then (s.accessRefused off w, 0)
  else if msixRange off then
    let x := s.msixRead w off
    if msixNamed off then (x.1, x.2 + (x.1.msixRead w (off + 4)).2 * 2 ^ 32) else x
  else if s.ftmClosed off then (s, 0)
  else match regAt w.mid off with
    | some r => if r.wide && off < 0x100000 then s.loadReg w r uncorr else (s.accessRefused off w, 0)
    | none => (s.accessRefused off w, 0)

/-- The width of an access: narrower than 32 bits, or with bytes that are not enabled; 32 bits; 64 bits (R15, R16). -/
def State.load (s : State) (w : Who) (off : Nat) (width : Width) (uncorr : Bool) : State × Nat :=
  match width with
  | .narrow | .burst _ => (s.accessRefused off w, 0)
  | .word => if off % 4 = 0 then s.loadWord w off uncorr else (s.accessRefused off w, 0)
  | .long => s.loadLong w off uncorr

/-- The function and slot whose HNG_FASf_s_CMD lies at an offset. -/
def fasAt (off : Nat) : Option (Nat × Nat) :=
  (placeAt (R.HNG_FAS_CMD_unit 0 0).off [(2, 0x100), (8, 0x20)] off).map fun is => (ix is, is.getD 1 0)

/-- A value of HNG_FASf_s_CMD that the rules accept (R497, R499): no reserved space, the LXB of the own unit only, and a
broadcast only as a write to REG. -/
def fasOk (v : Nat) : Bool :=
  bits v 12 2 < 2 && (bits v 12 2 == 0 || v.testBit 10) && (!v.testBit 15 || (v.testBit 14 && bits v 12 2 == 0))

/-- The access of an accepted slot command (R497–R500). `go` performs one on the unit's own map. -/
def State.fasStart (s : State) (f k v : Nat) (go : State → Nat → State × Nat) : State :=
  let unit := bits v 0 10
  let write := v.testBit 14
  let addr := s.get (R.HNG_FAS_ADDR_addr f k)
  let data := s.get (R.HNG_FAS_WDATA_data f k)
  let off := bits addr 2 18 * 4
  let s := s.plainWrite f (R.HNG_FAS_CMD_unit f k).off v
  let s := { (s.put (R.HNG_FAS_DATA_state f k) foPending).put (R.HNG_FAS_DATA_data f k) 0 with
               slotParts := tdel s.slotParts (8 * f + k) }
  if v.testBit 15 then
    (s.cast 0x11 (leBytes 2 (8 * f + k + (tget s.reqGen (8 * f + k)).getD 0 * 2 ^ 8) ++ zeros 2 ++ leBytes 4 off
      ++ leBytes 4 data)).slotEnd f k foDone 0
  else if bits v 12 2 = 1 then
    s.lxbAsk (fun _ => .slot f k) f (bits addr 24 2) (bits addr 0 24 / 2 * 2) write data 2
  else if v.testBit 10 || (s.assigned && unit = s.addr) then
    let x := go s off
    x.1.slotEnd f k foDone x.2
  else (s.farAccess (.slot f k) unit write off data).1

/-- A 32-bit write of the map, aligned, with a bound on the writes that far access slots make in turn: each finds its own
slot pending, so that no more than sixteen can nest. -/
def State.storeWord : Nat → State → Who → Nat → Nat → State
  | 0, s, _, _, _ => s
  | n + 1, s, w, off, v =>
    if msixRange off then s.msixWrite w off v
    else if s.ftmClosed off then s
    else if 0x100000 ≤ off then s.accessRefused off w
    else match fasAt off with
      | some (f, k) =>
        if w.mid = f && s.get (R.HNG_FAS_DATA_state f k) ≠ foPending && fasOk v then
          let data := s.get (R.HNG_FAS_WDATA_data f k)
          s.fasStart f k v fun t o =>
            if v.testBit 14 then (State.storeWord n t { mid := f } o data, 0) else t.loadWord { mid := f } o
        else s.hngRaise 12 0
      | none =>
        match regAt w.mid off with
        | some r => if r.wide then s.keepHalf w off true v else s.storeReg w r v
        | none =>
          match highAt w.mid off with
          | some r =>
            match s.heldHalf w r.off true with
            | some lo => (s.dropHalf w r.off true).storeReg w r (lo + v * 2 ^ 32)
            | none => s.accessRefused off w
          | none => s.accessRefused off w

/-- The bound of a write that comes from outside the map. -/
def nesting : Nat := 17

/-- A 64-bit write of the map. -/
def State.storeLong (s : State) (w : Who) (off v : Nat) : State :=
  if off % 8 ≠ 0 then s.accessRefused off w
  else if msixRange off then
    if msixNamed off then (s.msixWrite w off (v % 2 ^ 32)).msixWrite w (off + 4) (v / 2 ^ 32) else s.msixWrite w off v
  else if s.ftmClosed off then s
  else match regAt w.mid off with
    | some r => if r.wide && off < 0x100000 then s.storeReg w r v else s.accessRefused off w
    | none => s.accessRefused off w

/-- A write of the map by its width. -/
def State.save (s : State) (w : Who) (off : Nat) (width : Width) (v : Nat) : State :=
  match width with
  | .narrow | .burst _ => s.accessRefused off w
  | .word => if off % 4 = 0 then State.storeWord nesting s w off (v % 2 ^ 32) else s.accessRefused off w
  | .long => s.storeLong w off v

end Sys2Proof.Machine
end

