-- ==== Sys2Proof/Machine/Access.lean ====
section
/-!
DEFINITION. The ways to the register map: inbound requests of the functions (R228–R230), the Keychain window (R194), far
requests (R494), far and LXB accesses of the control processor and the debug access port (R495, R496, R673, R674),
mirror-page rounds (R508), and the channel engine's READ, WRITE and POLL_FAR (R331, R332, R351).
-/

namespace Sys2Proof.Machine

/-! ### Configuration space (R224, R225) -/

/-- A word of the base address registers read: the address, and in its low word the kind of memory (R224). -/
def State.barRead (s : State) (f : Nat) (k : Fin 6) : Nat :=
  let x := s.get (barFld f k) * 2 ^ (barFld f k).lo
  if k.val % 2 = 1 then x / 2 ^ 32 else x % 2 ^ 32 + (if k.val = 2 then 0xC else 0x4)

/-- A word of the base address registers written; the bits below the BAR's size stay 0. -/
def State.barWrite (s : State) (f : Nat) (k : Fin 6) (v : Nat) : State :=
  let x := s.get (barFld f k) * 2 ^ (barFld f k).lo
  let y := if k.val % 2 = 1 then x % 2 ^ 32 + v % 2 ^ 32 * 2 ^ 32 else x / 2 ^ 32 * 2 ^ 32 + v % 2 ^ 32
  s.put (barFld f k) (y / 2 ^ (barFld f k).lo)

/-- A register of configuration space read. PowerState reads 3 in D3hot. -/
def State.cfgRead (s : State) (f : Nat) : CfgReg → Nat
  | .bar k => s.barRead f k
  | .pmcsr => 3 * s.get (R.CFG_PM_d3 f) + cfgFixed f .pmcsr
  | .linkStatus => s.get R.INT_LINK_speed + s.get R.INT_LINK_width * 2 ^ 4
  | .devStatus => s.readFlds (cfgFlds f .devStatus) + 2 ^ 5 * b2n ((s.fn f).parts.any (·.out))
  | r => s.readFlds (cfgFlds f r) + cfgFixed f r

/-- A register of configuration space written: Bus Master Enable and PowerState have the effects of R241, and Initiate
FLR those of R253. PowerState takes D0 and D3hot. -/
def State.cfgWrite (s : State) (f v : Nat) (r : CfgReg) : State :=
  let t := s.writeFlds f v (cfgFlds f r)
  match r with
  | .bar k => s.barWrite f k v
  | .command => t.busMasterSet f (v.testBit 2) (s.on (R.CFG_PM_d3 f))
  | .pmcsr =>
    if bits v 0 2 = 0 || bits v 0 2 = 3 then s.busMasterSet f (s.on (R.CFG_CMD_bme f)) (bits v 0 2 == 3) else s
  | .devctl => if v.testBit 15 then t.flr f else t
  | _ => t

/-! ### Register accesses by a master (R8, R17, R227–R230) -/

/-- A read of BAR2: the word, or two words, of the mirror page (R228, R509). -/
def State.bar2Read (s : State) (off : Nat) (width : Width) : Nat :=
  let o := off / 4 * 4
  if width = .long then s.mirrorAt o + s.mirrorAt (o + 4) * 2 ^ 32 else s.mirrorAt o

/-- The bytes of n words of the mirror pages (R230). -/
def State.mirrorBytes (s : State) (o n : Nat) : List Byte :=
  (List.range n).flatMap fun i => leBytes 4 (s.mirrorAt (o + 4 * i))

/-- The completions of a longer read of BAR2, of up to 128 bytes each, cut at multiples of 128 (R230). -/
def State.pageCompletions (s : State) : Nat → Nat → Nat → State
  | 0, _, _ => s
  | fuel + 1, o, n =>
    if n = 0 then s
    else
      let k := min n ((128 - o % 128) / 4)
      (s.complete (.completionData (s.mirrorBytes o k))).pageCompletions fuel (o + 4 * k) (n - k)

/-- A read of BAR2 of n double words: up to 512 bytes within one mirror page are returned, and more is a Completer Abort
(R230). -/
def State.pageRead (s : State) (f off n : Nat) : State :=
  let o := off / 4 * 4
  if 128 < n || 65536 < o % 65536 + 4 * n then s.inboundBad f .pageRead
  else { s.pageCompletions (n + 1) o n with readData := leVal (s.mirrorBytes o n) }

/-- The function whose BAR an address on the link matches, and what the access names (R221); where both match, PF0. -/
def State.barMatch (s : State) (addr : Nat) : Option (Nat × Target) :=
  [0, 1].findSome? fun f =>
    if !s.memEnabled f then none
    else if addr / 2 ^ 20 = s.get (R.CFG_BAR0_addr f) then some (f, .bar0 (BitVec.ofNat 20 addr))
    else if addr / 2 ^ 26 = s.get (R.CFG_BAR2_addr f) then some (f, .bar2 (BitVec.ofNat 26 addr))
    else if addr / 2 ^ 16 = s.get (R.CFG_BAR4_addr f) then some (f, .bar4 (BitVec.ofNat 16 addr))
    else none

/-- A read of BAR0, or what the BAR holds, by a master. -/
def State.targetRead (s : State) (w : Who) (t : Target) (width : Width) (uncorr : Bool) : State × Nat :=
  match t with
  | .bar0 off => s.load w off.toNat width uncorr
  | .bar2 off => (s, s.bar2Read off.toNat width)
  | .bar4 off =>
    match bar4Alias off.toNat with
    | some o => s.load w o width uncorr
    | none => (s, 0)
  | .config r => (s, s.cfgRead w.mid r)
  | .mem _ => (s, 0)

/-- A write likewise. BAR2 is read only (R228). -/
def State.targetWrite (s : State) (w : Who) (t : Target) (width : Width) (v : Nat) : State :=
  match t with
  | .bar0 off => s.save w off.toNat width v
  | .bar2 off => s.inboundBad w.mid (.pageWrite off)
  | .bar4 off =>
    match bar4Alias off.toNat with
    | some o => s.save w o width v
    | none => s
  | .config r => s.cfgWrite w.mid v r
  | .mem _ => s

/-- An access takes place (R98, R138, R251): registers answer, the master has a way to what it names, and a function's
request comes over a link that is up. -/
def State.accepts (s : State) (w : Who) (t : Target) : Bool :=
  reaches t w.mid && s.answers && (!(w.mid < 2) || s.hostUp)

/-- A request of a function longer than two double words, or longer than a naturally aligned one can be, to BAR0 or
BAR4 (R230). -/
def longRequest (t : Target) (width : Width) : Option (BitVec 20) :=
  match width, t with
  | .burst _, .bar0 off => some off
  | .burst _, .bar4 off => some (off.setWidth 20)
  | _, _ => none

/-- A read by a master, with the completion of a function's request (R230). -/
def State.readAt (s : State) (w : Who) (t : Target) (width : Width) (uncorr : Bool) : State :=
  if !s.accepts w t then s
  else if s.unsupported w.mid t then s.inboundBad w.mid .unsupportedRead
  else match t, width, longRequest t width with
    | .bar2 off, .burst n, _ => s.pageRead w.mid off.toNat n.toNat
    | _, _, some off => if w.mid < 2 then s.inboundBad w.mid (.longRead off) else s
    | _, _, none =>
      let x := s.targetRead w t width uncorr
      let u := { x.1 with readData := x.2 }
      if w.mid < 2 then u.complete (.completion 0 x.2) else u

/-- A write by a master (R230). -/
def State.writeAt (s : State) (w : Who) (t : Target) (width : Width) (v : Nat) : State :=
  if !s.accepts w t then s
  else if s.unsupported w.mid t then s.inboundBad w.mid .unsupportedPosted
  else match longRequest t width with
    | some off => if w.mid < 2 then s.inboundBad w.mid (.longWrite off) else s
    | none => s.targetWrite w t width v

/-- A memory request that matches no BAR is an Unsupported Request, which both functions log. -/
def State.unmatched (s : State) (read : Bool) : State :=
  if !s.hostUp then s
  else if read then ((s.aer 1 .unsupReq).inboundBad 0 .unsupportedRead)
  else (s.aer 1 .unsupReq).inboundBad 0 .unsupportedPosted

/-- A read by a master, or by the function whose BAR the address matches (R221). -/
def State.registerRead (s : State) (w : Who) (t : Target) (width : Width) (uncorr : Bool) : State :=
  match t with
  | .mem a =>
    match s.barMatch a.toNat with
    | some (f, u) => s.readAt { mid := f } u width uncorr
    | none => s.unmatched true
  | _ => s.readAt w t width uncorr

/-- A write by a master, or by the function whose BAR the address matches (R221). -/
def State.registerWrite (s : State) (w : Who) (t : Target) (width : Width) (v : Nat) : State :=
  match t with
  | .mem a =>
    match s.barMatch a.toNat with
    | some (f, u) => s.writeAt { mid := f } u width v
    | none => s.unmatched false
  | _ => s.writeAt w t width v

/-! ### The Keychain window (R194) -/

/-- The access has been counted by the register-access source since `s`. -/
def State.refusedSince (s t : State) : Bool := (t.dueFaults.drop s.dueFaults.length).any fun e => e.src == 3

/-- The window access under way is performed as MID 0, and the window shows DONE, or ERROR when it was refused. -/
def State.windowDone (s : State) : State :=
  let x := s.window
  if x.st ≠ .pending || !s.answers then s
  else
    let r := if x.write then (s.save { mid := 0 } x.addr .word x.wdata, 0) else s.load { mid := 0 } x.addr .word false
    r.1.setWindow { x with st := if s.refusedSince r.1 then .error else .done, result := r.2 }

/-! ### Far requests at the target (R494, R500) -/

/-- The status with which a far access is turned away, if it is: DENIED or NOT_READY. -/
def State.farStatus (s : State) (off : Nat) : Option Nat :=
  if !s.on R.HNG_CTL_far_in_en || (0x80000 ≤ off && off < 0x80400) then some 2
  else if s.failing || s.ldg.closed then some 1
  else none

/-- The BAR0 offset of a request: bits 19:2. -/
def reqOff (pl : List Byte) : Nat := bits (fieldAt pl 4 4) 2 18 * 4

/-- A response with tag, status and, for a read, data. -/
def State.farAnswer (s : State) (type src : Nat) (pl : List Byte) (status : Nat) (data : List Byte) : State :=
  s.sendTo type src (fit 2 pl ++ leBytes 1 status ++ zeros (if data.isEmpty then 1 else 5) ++ data)

/-- A RD_REQ served. -/
def State.serveRead (s : State) (src : Nat) (pl : List Byte) (uncorr : Bool) : State :=
  if s.inReset then s.noRoute src 0x10 1 pl
  else match s.farStatus (reqOff pl) with
    | some st => s.farAnswer 0x18 src pl st (zeros 4)
    | none =>
      let x := s.load { mid := 4, addr := src } (reqOff pl) .word uncorr
      x.1.farAnswer 0x18 src pl (if uncorr then 3 else 0) (leBytes 4 x.2)

/-- A WR_REQ served; a broadcast one draws no response. -/
def State.serveWrite (s : State) (src : Nat) (pl : List Byte) (bcast : Bool) : State :=
  if s.inReset then if bcast then s else s.noRoute src 0x11 1 pl
  else match s.farStatus (reqOff pl) with
    | some st => if bcast then s else s.farAnswer 0x19 src pl st []
    | none =>
      let t := s.save { mid := 4, addr := src } (reqOff pl) .word (fieldAt pl 8 4)
      if bcast then t else t.farAnswer 0x19 src pl 0 []

/-! ### Far and LXB accesses by MID 2 and MID 5 (R495, R496, R500) -/

/-- Accesses of a MID, pending or held. -/
def State.fabCount (s : State) (mid : Nat) : Nat := (s.fabric.filter fun e => e.2.mid == mid).length

/-- A new access of MID 2 or 5 started, in one or two parts; without a request slot for every part nothing starts. -/
def State.fabStart (s : State) (mid : Nat) (lxb : Bool) (unit off : Nat) (write : Bool) (data : Nat) (wide : Bool) :
    State :=
  let n := s.fabNext
  let parts := if wide then 2 else 1
  let t := { s with fabNext := n + 1,
                    fabric := tset s.fabric n
                      { mid := mid, lxb := lxb, unit := unit, off := off, write := write, parts := parts } }
  if lxb then t.lxbAsk (.fabric n) mid (unit % 4) (off / 2 * 2) write data parts
  else
    let r := (List.range parts).foldl (fun (x : State × Bool) h =>
      let y := x.1.farAccess (.fabric n h) unit write (off + 4 * h) (bits data (32 * h) 32)
      (y.1, x.2 && y.2)) (t, true)
    if r.2 then r.1 else s

/-- A 64-bit access names a 64-bit register, and a 32-bit access is aligned (R16, R500). -/
def fabAligned (mid off : Nat) (wide : Bool) : Bool :=
  if wide then off % 8 == 0 && ((regAt mid off).map (·.wide)).getD false else off % 4 == 0

/-- One attempt of MID 2 or 5 at a far register or an LXB address: the result of the access, as outcome and data, or
none for RETRY. The unit's own address is no far one, and its register is reached at once. -/
def State.fabTry (s : State) (mid : Nat) (lxb : Bool) (unit off : Nat) (write : Bool) (data : Nat) (wide : Bool) :
    State × Option (Nat × Nat) :=
  match s.fabFind mid lxb unit off with
  | some (n, x) => if x.ended then ({ s with fabric := tdel s.fabric n }, some x.result) else (s, none)
  | none =>
    if !lxb && !fabAligned mid off wide then (s.accessRefused off { mid := mid }, some (foDone, 0))
    else if !lxb && s.assigned && unit = s.addr then
      let width := if wide then Width.long else Width.word
      let r := if write then (s.save { mid := mid } off width data, 0) else s.load { mid := mid } off width false
      (r.1, some (foDone, r.2))
    else if 4 ≤ s.fabCount mid then (s, none)
    else (s.fabStart mid lxb unit off write data wide, none)

/-! ### The debug access port (R673–R675, R681) -/

/-- The boot ROM runs, or serves in recovery. -/
def State.romRuns (s : State) : Bool := s.stage < stageFwStart || s.stage == stageRecovery || s.stage == stageHalt

/-- The port lets an access through (R675): open in FACTORY_TEST; closed while the boot ROM runs; then by the lifecycle
state, with reads only in FIELD. -/
def State.dapOpen (s : State) (write : Bool) : Bool :=
  if s.nv.lifecycle = 0 then true
  else if s.romRuns then false
  else if s.nv.lifecycle = 1 then !s.on R.GLB_DBG_CTL_deny
  else if s.nv.lifecycle = 2 then s.on R.GLB_DBG_CTL_allow && !write
  else true

/-- The end of a far access of the port: OK with the data of a read, or ERROR. -/
def dapEnd (write : Bool) (r : Nat × Nat) : Dap :=
  if r.1 = foDone then { status := 0, data := if write then 0 else r.2 } else { status := 3 }

/-- Capture-DR: a far access that is pending is attempted again, and its result taken. -/
def State.dapCapture (s : State) : State :=
  match s.dap.far with
  | none => s
  | some a =>
    let x := s.fabTry 5 false a.unit a.off a.write a.data false
    match x.2 with
    | some r => { x.1 with dap := dapEnd a.write r }
    | none => x.1

/-- Update-DR with a READ or WRITE. Where the registers do not answer, the access ends without a result, as at a reset
(R681): DESIGN CHOICE, log entry 140. -/
def State.dapUpdate (s : State) (v : Nat) : State :=
  let write := bits v 0 2 == 2
  let off := bits v 2 18 * 4
  let data := bits v 32 32
  if s.dap.status = 1 then s
  else if !s.dapOpen write then
    { s.accessRefused off { mid := 5 } with dap := { status := 2 } }
  else if !s.answers then { s with dap := { status := 3 } }
  else if v.testBit 20 then
    let x := s.fabTry 5 false (bits v 21 10) off write data false
    match x.2 with
    | some r => { x.1 with dap := dapEnd write r }
    | none =>
      let far : DapFar := { unit := bits v 21 10, off := off, write := write, data := data }
      { x.1 with dap := { status := 1, far := some far } }
  else
    let r := if write then (s.save { mid := 5 } off .word data, 0) else s.load { mid := 5 } off .word false
    { r.1 with dap := dapEnd write (foDone, r.2) }

/-- What Capture-DR loads: the status of the last access, and the data of a read that is OK. -/
def Dap.captured (d : Dap) : Nat := d.status % 4 + (if d.status = 0 then d.data % 2 ^ 32 else 0) * 2 ^ 32

/-- One scan of the DAP_ACCESS register: what Capture-DR loads shifts out, then what Update-DR starts. -/
def State.dapScan (s : State) (v : Nat) : State :=
  if s.tap ≠ .dapAccess then s
  else
    let s := s.dapCapture
    let s := s.emit (.tdo 64 s.dap.captured)
    if bits v 0 2 = 1 || bits v 0 2 = 2 then s.dapUpdate v else s

/-! ### Rounds of the poller (R508, R510) -/

/-- A local read of one mirror word, as MID 4. -/
def State.pollOwn (s : State) (a i : Nat) : State :=
  let x := s.load { mid := 4, addr := a } (s.mirrorOff i) .word false
  x.1.wordRead a i foDone x.2

/-- A round falls due for an address. -/
def State.pollRound (s : State) (a : Nat) : State :=
  if !s.polled a || !s.running then s
  else match tget s.rounds a with
    | some _ => s.hngRaise 5 a
    | none =>
      let r : PollRound := { stamp := s.now, todo := s.mirrorWords }
      if s.assigned && a = s.addr then
        let t := { s with rounds := tset s.rounds a { r with todo := [], out := s.mirrorWords } }
        (s.mirrorWords.foldl (fun u i => u.pollOwn a i) t).roundCheck a
      else { s with rounds := tset s.rounds a r }.roundOn a

/-! ### REG, LXB and POLL_FAR of the channel engine (R331, R332, R351) -/

/-- A 32-bit register access of an operation: on this unit with MID 3 and done at once, or at a far unit through a
request slot. The operation has begun its device I/O when an access is issued, but for a POLL_FAR (R331). -/
def State.engineAccess (s : State) (a : Nat) (o : Op) (off : Nat) (write : Bool) (data : Nat) : State :=
  let io := o.begun || o.first.opcode != ocPoll
  if s.devLocal o.first.dev then
    let w : Who := { mid := 3 }
    let t := s.updOp a fun o => { o with begun := io }
    let r := if write then (t.save w off .word data, 0) else t.load w off .word false
    r.1.accessDone a 4 r.2 false
  else
    let t := s.updOp a fun o => { o with busy := true, begun := io }
    let x := t.farAccess (.agent (o.token a)) (devUnit o.first.dev) write off data
    if x.2 then x.1 else s

/-- An access with poisoned write data is not performed (R332). -/
def State.skipAccess (s : State) (a n : Nat) : State :=
  (s.updOp a fun o => { o with poisoned := true }).accessDone a n 0 false

/-- The next access of a REG operation. -/
def State.regTurn (s : State) (a : Nat) (o : Op) : State :=
  let off := bits o.first.param 2 18 * 4 + 4 * o.accesses
  if o.busy || s.writesHeld a || o.room = 0 then s
  else if o.first.opcode = ocRead then
    if !o.areaReady a 4 then s.areaShort a o else s.engineAccess a o off false 0
  else if o.buf.length < 4 then s.moreData a
  else if (o.buf.take 4).any (·.2) then s.skipAccess a 4
  else s.engineAccess a o off true (leVal ((o.buf.take 4).map (·.1)))

/-- The next 16-bit access of an LXB operation on this unit. -/
def State.lxbTurn (s : State) (a : Nat) (o : Op) : State :=
  let cs := devIndex o.first.dev
  let addr := bits o.first.param 0 24 + 2 * o.accesses
  let ask (write : Bool) (data : Nat) : State :=
    (s.updOp a fun o => { o with busy := true, begun := true }).lxbAsk (fun _ => .agent (o.token a)) 3 cs addr write data 1
  if o.busy || s.writesHeld a || o.room = 0 then s
  else match s.portFault clsLxb cs with
    | some f => s.endOp a f.1 f.2
    | none =>
      if o.first.opcode = ocRead then if !o.areaReady a 2 then s.areaShort a o else ask false 0
      else if o.buf.length < 2 then s.moreData a
      else if (o.buf.take 2).any (·.2) then s.skipAccess a 2
      else ask true (leVal ((o.buf.take 2).map (·.1)))

/-- WRITE: one turn of an operation. -/
def State.write (s : State) (a : Nat) (errs : List WordErr) : State :=
  match s.liveWith a ocWrite with
  | none => s
  | some o =>
    if o.first.cls = clsReg then s.regTurn a o
    else if o.first.cls = clsLxb && !s.opFar a o then s.lxbTurn a o
    else (s.setOp a { o with errs := errs }).writePort a { o with errs := errs }

/-- READ: one turn of an operation, with the word errors that it meets. -/
def State.read (s : State) (a : Nat) (errs : List WordErr) : State :=
  match s.liveWith a ocRead with
  | none => s
  | some o =>
    if o.first.cls = clsReg then s.regTurn a o
    else if o.first.cls = clsLxb && !s.opFar a o then s.lxbTurn a o
    else s.readPort a o errs

/-- The register of a POLL_FAR read. -/
def State.pollRead (s : State) (a : Nat) (o : Op) : State :=
  if o.busy || s.writesHeld a then s else s.engineAccess a o (bits o.first.param 2 18 * 4) false 0

/-- POLL_FAR: its value and mask are read, and then the register. -/
def State.pollStart (s : State) (a : Nat) : State :=
  match s.liveWith a ocPoll with
  | none => s
  | some o =>
    if o.room = 0 then s
    else if o.buf.length < 8 then s.wantData a
    else
      let d := (o.buf.take 8).map (·.1)
      let s := (s.useOp a (zeros 8)).1
      let s := s.updOp a fun o => { o with buf := [], got := 0, pollValue := fieldAt d 0 4, pollMask := fieldAt d 4 4 }
      match s.op a with
      | some o' => s.pollRead a o'
      | none => s

/-- The interval of a POLL_FAR has passed. -/
def State.pollAgain (s : State) (a : Nat) : State :=
  match s.liveWith a ocPoll with
  | some o => if o.room = 0 then s.pollRead a o else s
  | none => s

/-! ### The commands -/

/-- REGISTER_WRITE (R8, R13, R16). -/
def execRegisterWrite (mid : BitVec 4) (origin : BitVec 10) (target : Target) (width : Width) (value : W64) (s : State) :
    Host.Outcome State Fault Refusal :=
  .next (settle (s.registerWrite (who mid origin) target width value.toNat).reready)

/-- REGISTER_READ (R16, R17): `uncorr` says that the read meets an uncorrectable word. -/
def execRegisterRead (mid : BitVec 4) (origin : BitVec 10) (target : Target) (width : Width) (uncorr : Bool) (s : State) :
    Host.Outcome State Fault Refusal :=
  .next (settle (s.registerRead (who mid origin) target width uncorr))

/-- WINDOW_ACCESS_DONE (R194). -/
def execWindowAccessDone (s : State) : Host.Outcome State Fault Refusal := .next (settle s.windowDone)

/-- RD_REQ (R494): `uncorr` says that the read meets an uncorrectable word. -/
def execRdReq (p : Fin 2) (f : FlitIn) (uncorr : Bool) (s : State) : Host.Outcome State Fault Refusal :=
  .next (settle (s.prgFlit p .req f fun t => t.serveRead f.src.toNat f.payload uncorr))

/-- WR_REQ (R494), addressed or broadcast. -/
def execWrReq (p : Fin 2) (f : FlitIn) (s : State) : Host.Outcome State Fault Refusal :=
  .next (settle (if f.bcast then
      s.broadcast p 0x11 .req f fun t => if t.assigned then t.serveWrite f.src.toNat f.payload true else t
    else s.prgFlit p .req f fun t => t.serveWrite f.src.toNat f.payload false))

/-- WRITE (R332). -/
def execWrite (w : WriteTurn) (s : State) : Host.Outcome State Fault Refusal :=
  .next (settle (s.write w.agent w.errs))

/-- READ (R332). -/
def execRead (a : Fin 2560) (errs : List WordErr) (s : State) : Host.Outcome State Fault Refusal :=
  .next (settle (s.read a errs))

/-- POLL_FAR (R332). -/
def execPollFar (tag : Fin 2048) (s : State) : Host.Outcome State Fault Refusal := .next (settle (s.pollStart tag))

/-- POLL_FAR_INTERVAL (R332). -/
def execPollFarInterval (tag : Fin 2048) (s : State) : Host.Outcome State Fault Refusal :=
  .next (settle (s.pollAgain tag))

/-- FAR_SLOT_CMD (R497): a write of HNG_FASf_s_CMD. -/
def execFarSlotCmd (f : Fin 2) (k : Fin 8) (mid : BitVec 4) (value : W32) (s : State) :
    Host.Outcome State Fault Refusal :=
  .next (settle (s.whenUp fun s => State.storeWord nesting s { mid := mid.toNat } (R.HNG_FAS_CMD_unit f k).off value.toNat))

/-- FABRIC_FAR_ACCESS (R495): an attempt of MID 2 or 5 at a far register, or at an LXB address of chip select `unit`. -/
def execFabricFarAccess (mid : BitVec 4) (lxb : Bool) (unit : BitVec 10) (off : BitVec 24) (write : Bool) (data : W64)
    (wide : Bool) (s : State) : Host.Outcome State Fault Refusal :=
  .next (settle (s.whenUp fun s => if mid = 2 || mid = 5 then
      let x := s.fabTry mid.toNat lxb unit.toNat off.toNat write data.toNat wide
      x.1.emit (.fabric mid.toNat x.2)
    else s))

/-- POLL_ROUND (R508). -/
def execPollRound (addr : BitVec 10) (s : State) : Host.Outcome State Fault Refusal :=
  .next (settle (s.pollRound addr.toNat))

/-- DAP_ACCESS (R673): one scan of the 64-bit data register. -/
def execDapAccess (word : W64) (s : State) : Host.Outcome State Fault Refusal :=
  .next (settle (s.dapScan word.toNat))

end Sys2Proof.Machine
end

