-- ==== Sys2Proof/Machine/HostReads.lean ====
section
/-!
DEFINITION. Completions of host-memory reads, and what firmware does with its own: the header of an image, fragment tables
and the data that they name (R238, R239, R283, R301–R303, R314).
-/

namespace Sys2Proof.Machine

/-- A command ended with a status before its transfer. -/
def FwReq.readEnds (r : FwReq) (s : State) (status : Nat) : State :=
  s.answer r status (if r.asked.code = 0x20 then [noEntry] else [])

/-- A command whose data has been read whole. -/
def FwReq.loaded (r : FwReq) (d : List Byte) (s : State) : State :=
  if r.asked.code = 0x20 then r.grtLoaded d s else r.imgChunked d s

/-- A command whose fragments reach its byte count: LDG_EXPORT writes through them, and the others read their data, one
fragment after the other. -/
def FwRead.onArea (x : FwRead) (s : State) : State :=
  if x.req.asked.code = 0x33 then x.req.ldgExported x.area s
  else if x.need ≤ x.data.length then x.req.loaded x.data s
  else match skipArea x.area x.data.length with
    | some (addr, n) => s.fwRead { x with part := .data } addr (min n (x.need - x.data.length))
    | none => x.req.readEnds s rsBadArg

/-- A table has been read (R301–R303): its fragments join the buffer, and the next table is read while the buffer is shorter
than the transfer. A chain that ends before ends the command with BAD_ARG, but LDG_EXPORT fills what there is. DESIGN CHOICE,
log entry 117: a malformed or seventeenth table ends it with BAD_ARG too. -/
def FwRead.onTable (x : FwRead) (d : List Byte) (s : State) : State :=
  match parseTable d with
  | none => x.req.readEnds s rsBadArg
  | some (fs, next) =>
    let y := { x with area := x.area ++ fs, tables := x.tables + 1 }
    if y.need ≤ (y.area.map (·.2)).sum then y.onArea s
    else match next with
      | some a => if 16 ≤ y.tables then x.req.readEnds s rsBadArg else s.fwRead y a tableBytes
      | none => if x.req.asked.code = 0x33 then y.onArea s else x.req.readEnds s rsBadArg

/-- A read of firmware has ended: a failed one ends its command with NO_RESOURCE (R285). -/
def FwRead.goesOn (x : FwRead) (c : Cpl) (s : State) : State :=
  match controlData c with
  | none => x.req.readEnds s rsNoResource
  | some d =>
    match x.part with
    | .header => x.req.imgBegun d s
    | .table => x.onTable d s
    | .data => { x with data := x.data ++ d }.onArea s

/-- Every command whose read has ended goes on. -/
def State.fwGoOn (s : State) : State :=
  s.fwReads.foldl (fun t e => match e.2.got with
    | some c => e.2.goesOn c { t with fwReads := tdel t.fwReads e.1 }
    | none => t) s

/-! ### The commands -/

/-- READ_COMPLETION (R238). -/
def execReadCompletion (fn : Fin 2) (id : Nat) (c : Cpl) (s : State) : Host.Outcome State Fault Refusal :=
  .next (settle (s.completion fn id c).fwGoOn.reready)

/-- ENTRY_FETCHED (R314): the completion of the function's oldest entry fetch. -/
def execEntryFetched (fn : Fin 2) (c : Cpl) (s : State) : Host.Outcome State Fault Refusal :=
  .next (settle (match s.entryRead fn with
    | some r => (s.completion fn r.id c).reready
    | none => s))

/-- COMPLETION_TIMEOUT (R239). -/
def execCompletionTimeout (fn : Fin 2) (id : Nat) (s : State) : Host.Outcome State Fault Refusal :=
  .next (settle (s.cplTimeout fn id).fwGoOn.reready)

end Sys2Proof.Machine
end

