-- ==== Sys2Proof/Machine/Dispatch.lean ====
section
/-!
DEFINITION. The meaning of each command: one arm for each row of the opcode table, in its order.
-/

namespace Sys2Proof.Machine

/-- The effect of a command on the state; the queue of waiting commands is the step's. -/
def exec (i : Instr) (s : State) : Host.Outcome State Fault Refusal :=
  match i with
  | .registerWrite mid origin target width value => Sys2Proof.Machine.execRegisterWrite mid origin target width value s
  | .halfWriteDiscard mid off => Sys2Proof.Machine.execHalfWriteDiscard mid off s
  | .supplyApplied => Sys2Proof.Machine.execSupplyApplied s
  | .startUpQualified => Sys2Proof.Machine.execStartUpQualified s
  | .cutoff => Sys2Proof.Machine.execCutoff s
  | .supplySample vin => Sys2Proof.Machine.execSupplySample vin s
  | .powerFailSequence steps acked step4 energy => Sys2Proof.Machine.execPowerFailSequence steps acked step4 energy s
  | .gaugeUpdate v flow => Sys2Proof.Machine.execGaugeUpdate v flow s
  | .recalibrationDischargeEnd => Sys2Proof.Machine.execRecalibrationDischargeEnd s
  | .calibrationEnd counted step v leak => Sys2Proof.Machine.execCalibrationEnd counted step v leak s
  | .selfTestTimeout => Sys2Proof.Machine.execSelfTestTimeout s
  | .absentDetect => Sys2Proof.Machine.execAbsentDetect s
  | .topUp => Sys2Proof.Machine.execTopUp s
  | .chargerFault => Sys2Proof.Machine.execChargerFault s
  | .hupOvervolt => Sys2Proof.Machine.execHupOvervolt s
  | .hupOvervoltEnd => Sys2Proof.Machine.execHupOvervoltEnd s
  | .auxFoldBack five => Sys2Proof.Machine.execAuxFoldBack five s
  | .auxRetry five => Sys2Proof.Machine.execAuxRetry five s
  | .pwrStateWrite mid value => Sys2Proof.Machine.execPwrStateWrite mid value s
  | .entryDrainEnd => Sys2Proof.Machine.execEntryDrainEnd s
  | .perstDeassert => Sys2Proof.Machine.execPerstDeassert s
  | .perstAssert => Sys2Proof.Machine.execPerstAssert s
  | .rstNAssert => Sys2Proof.Machine.execRstNAssert s
  | .warmResetEffect => Sys2Proof.Machine.execWarmResetEffect s
  | .glbResetWarm mid value => Sys2Proof.Machine.execGlbResetWarm mid value s
  | .resetRelease xt32 pcieRef badA badB => Sys2Proof.Machine.execResetRelease xt32 pcieRef badA badB s
  | .noClock => Sys2Proof.Machine.execNoClock s
  | .noClockRetry lock xt32 pcieRef badA badB => Sys2Proof.Machine.execNoClockRetry lock xt32 pcieRef badA badB s
  | .romLockstep => Sys2Proof.Machine.execRomLockstep s
  | .cpLockstepHalt => Sys2Proof.Machine.execCpLockstepHalt s
  | .watchdogExpiry => Sys2Proof.Machine.execWatchdogExpiry s
  | .watchdogKick mid value => Sys2Proof.Machine.execWatchdogKick mid value s
  | .ref25Loss pll => Sys2Proof.Machine.execRef25Loss pll s
  | .xt32Loss error => Sys2Proof.Machine.execXt32Loss error s
  | .imgQuery via => Sys2Proof.Machine.execImgQuery via s
  | .imgBegin mail chan => Sys2Proof.Machine.execImgBegin mail chan s
  | .imgChunk mail chan => Sys2Proof.Machine.execImgChunk mail chan s
  | .imgEnd via => Sys2Proof.Machine.execImgEnd via s
  | .imgActivate via => Sys2Proof.Machine.execImgActivate via s
  | .imgRestart via => Sys2Proof.Machine.execImgRestart via s
  | .imgConfirm via => Sys2Proof.Machine.execImgConfirm via s
  | .imgRevert via => Sys2Proof.Machine.execImgRevert via s
  | .imgSessionTimeout => Sys2Proof.Machine.execImgSessionTimeout s
  | .keychainFrameBad => Sys2Proof.Machine.execKeychainFrameBad s
  | .kcNop f => Sys2Proof.Machine.execKcNop f s
  | .assign f => Sys2Proof.Machine.execAssign f s
  | .rollCall f => Sys2Proof.Machine.execRollCall f s
  | .kread f => Sys2Proof.Machine.execKread f s
  | .attnCtl f => Sys2Proof.Machine.execAttnCtl f s
  | .unitReset f => Sys2Proof.Machine.execUnitReset f s
  | .keychainPwrSet f => Sys2Proof.Machine.execKeychainPwrSet f s
  | .unassign f => Sys2Proof.Machine.execUnassign f s
  | .winAddr f => Sys2Proof.Machine.execWinAddr f s
  | .winWdata f => Sys2Proof.Machine.execWinWdata f s
  | .winRead f => Sys2Proof.Machine.execWinRead f s
  | .winResult f => Sys2Proof.Machine.execWinResult f s
  | .windowAccessDone => Sys2Proof.Machine.execWindowAccessDone s
  | .keychainReservedCmd f => Sys2Proof.Machine.execKeychainReservedCmd f s
  | .pintlePortEnable p => Sys2Proof.Machine.execPintlePortEnable p s
  | .pintleLinkActive p t => Sys2Proof.Machine.execPintleLinkActive p t s
  | .trainingTimeout p => Sys2Proof.Machine.execTrainingTimeout p s
  | .retrainingPauseEnd p => Sys2Proof.Machine.execRetrainingPauseEnd p s
  | .retrain p mid => Sys2Proof.Machine.execRetrain p mid s
  | .recoveryTraining p t => Sys2Proof.Machine.execRecoveryTraining p t s
  | .linkSilence p => Sys2Proof.Machine.execLinkSilence p s
  | .electricalIdleDetect p => Sys2Proof.Machine.execElectricalIdleDetect p s
  | .recoveryTimeout p => Sys2Proof.Machine.execRecoveryTimeout p s
  | .pintlePortDisable p mid => Sys2Proof.Machine.execPintlePortDisable p mid s
  | .flitReject p data parity nak => Sys2Proof.Machine.execFlitReject p data parity nak s
  | .flitMalformed p data parity => Sys2Proof.Machine.execFlitMalformed p data parity s
  | .flitForward p type f => Sys2Proof.Machine.execFlitForward p type f s
  | .idle p f => Sys2Proof.Machine.execIdle p f s
  | .idleSend p => Sys2Proof.Machine.execIdleSend p s
  | .nak p f => Sys2Proof.Machine.execNak p f s
  | .replayTimeout p => Sys2Proof.Machine.execReplayTimeout p s
  | .announce p f => Sys2Proof.Machine.execAnnounce p f s
  | .linkLoss p f => Sys2Proof.Machine.execLinkLoss p f s
  | .leaving p f => Sys2Proof.Machine.execLeaving p f s
  | .laneSwap p f => Sys2Proof.Machine.execLaneSwap p f s
  | .laneSwapTrigger p k n lock => Sys2Proof.Machine.execLaneSwapTrigger p k n lock s
  | .laneSwapComplete p tx => Sys2Proof.Machine.execLaneSwapComplete p tx s
  | .heartbeat p f => Sys2Proof.Machine.execHeartbeat p f s
  | .heartbeatSend => Sys2Proof.Machine.execHeartbeatSend s
  | .heartbeatLoss => Sys2Proof.Machine.execHeartbeatLoss s
  | .rdReq p f uncorr => Sys2Proof.Machine.execRdReq p f uncorr s
  | .wrReq p f => Sys2Proof.Machine.execWrReq p f s
  | .rdRsp p f => Sys2Proof.Machine.execRdRsp p f s
  | .wrRsp p f => Sys2Proof.Machine.execWrRsp p f s
  | .noRoute p f => Sys2Proof.Machine.execNoRoute p f s
  | .start p f => Sys2Proof.Machine.execStart p f s
  | .prgData p rsp f => Sys2Proof.Machine.execPrgData p rsp f s
  | .cancel p f => Sys2Proof.Machine.execCancel p f s
  | .credit p rsp f => Sys2Proof.Machine.execCredit p rsp f s
  | .prgEnd p f => Sys2Proof.Machine.execPrgEnd p f s
  | .retry p f => Sys2Proof.Machine.execRetry p f s
  | .farStartResend tag => Sys2Proof.Machine.execFarStartResend tag s
  | .inboundUnsupportedRequest fn k => Sys2Proof.Machine.execInboundUnsupportedRequest fn k s
  | .poisonedWriteRx fn => Sys2Proof.Machine.execPoisonedWriteRx fn s
  | .readCompletion fn id c => Sys2Proof.Machine.execReadCompletion fn id c s
  | .completionTimeout fn id => Sys2Proof.Machine.execCompletionTimeout fn id s
  | .functionLevelReset fn => Sys2Proof.Machine.execFunctionLevelReset fn s
  | .hotReset => Sys2Proof.Machine.execHotReset s
  | .pcieLinkDown => Sys2Proof.Machine.execPcieLinkDown s
  | .pcieLinkUp x2 speed => Sys2Proof.Machine.execPcieLinkUp x2 speed s
  | .linkWidthDegrade => Sys2Proof.Machine.execLinkWidthDegrade s
  | .busMasterChange fn bme d3 => Sys2Proof.Machine.execBusMasterChange fn bme d3 s
  | .postedCreditReturn n => Sys2Proof.Machine.execPostedCreditReturn n s
  | .msixMessage fn x => Sys2Proof.Machine.execMsixMessage fn x s
  | .interruptRearm fn value => Sys2Proof.Machine.execInterruptRearm fn value s
  | .msixPendingSend fn x => Sys2Proof.Machine.execMsixPendingSend fn x s
  | .tumblerRead c mid origin => Sys2Proof.Machine.execTumblerRead c mid origin s
  | .tumblerRelease c mid origin value => Sys2Proof.Machine.execTumblerRelease c mid origin value s
  | .mailboxGo c mid origin release => Sys2Proof.Machine.execMailboxGo c mid origin release s
  | .mailboxCopy c => Sys2Proof.Machine.execMailboxCopy c s
  | .mailboxCheck c => Sys2Proof.Machine.execMailboxCheck c s
  | .mailboxPop c mid origin => Sys2Proof.Machine.execMailboxPop c mid origin s
  | .keywayBind c mid origin value => Sys2Proof.Machine.execKeywayBind c mid origin value s
  | .keywayLock mid origin value => Sys2Proof.Machine.execKeywayLock mid origin value s
  | .unitInfo via => Sys2Proof.Machine.execUnitInfo via s
  | .paramGet via => Sys2Proof.Machine.execParamGet via s
  | .paramSet via => Sys2Proof.Machine.execParamSet via s
  | .pwrSet via => Sys2Proof.Machine.execPwrSet via s
  | .sqCreate via => Sys2Proof.Machine.execSqCreate via s
  | .sqDestroy via => Sys2Proof.Machine.execSqDestroy via s
  | .sqShutdown via => Sys2Proof.Machine.execSqShutdown via s
  | .shutdownComplete n => Sys2Proof.Machine.execShutdownComplete n s
  | .sqRestart via => Sys2Proof.Machine.execSqRestart via s
  | .crCreate via => Sys2Proof.Machine.execCrCreate via s
  | .crDestroy via => Sys2Proof.Machine.execCrDestroy via s
  | .prgResume via => Sys2Proof.Machine.execPrgResume via s
  | .grtLoad mail chan => Sys2Proof.Machine.execGrtLoad mail chan s
  | .grtEnable via => Sys2Proof.Machine.execGrtEnable via s
  | .timeSet via => Sys2Proof.Machine.execTimeSet via s
  | .ldgSeal via => Sys2Proof.Machine.execLdgSeal via s
  | .ldgStatus via => Sys2Proof.Machine.execLdgStatus via s
  | .ldgExport mail chan => Sys2Proof.Machine.execLdgExport mail chan s
  | .pairBind via => Sys2Proof.Machine.execPairBind via s
  | .pairBindWindowExpiry => Sys2Proof.Machine.execPairBindWindowExpiry s
  | .pairUnbind via => Sys2Proof.Machine.execPairUnbind via s
  | .takeover via => Sys2Proof.Machine.execTakeover via s
  | .handover via => Sys2Proof.Machine.execHandover via s
  | .handoverTimeout => Sys2Proof.Machine.execHandoverTimeout s
  | .repairPoint via => Sys2Proof.Machine.execRepairPoint via s
  | .faultCfg via => Sys2Proof.Machine.execFaultCfg via s
  | .unknownCommand via => Sys2Proof.Machine.execUnknownCommand via s
  | .firmwareIgnoresReply c => Sys2Proof.Machine.execFirmwareIgnoresReply c s
  | .adminEnable mid value => Sys2Proof.Machine.execAdminEnable mid value s
  | .adminDisable mid => Sys2Proof.Machine.execAdminDisable mid s
  | .adminDisableEnd => Sys2Proof.Machine.execAdminDisableEnd s
  | .sqDoorbell n mid value => Sys2Proof.Machine.execSqDoorbell n mid value s
  | .resumeDoorbell n mid tag => Sys2Proof.Machine.execResumeDoorbell n mid tag s
  | .crHeadDoorbell m mid head => Sys2Proof.Machine.execCrHeadDoorbell m mid head s
  | .entryFetch n => Sys2Proof.Machine.execEntryFetch n s
  | .entryFetched fn c => Sys2Proof.Machine.execEntryFetched fn c s
  | .adminFetch => Sys2Proof.Machine.execAdminFetch s
  | .adminEntryDone => Sys2Proof.Machine.execAdminEntryDone s
  | .ringDelayExpiry m => Sys2Proof.Machine.execRingDelayExpiry m s
  | .ccwStart tag => Sys2Proof.Machine.execCcwStart tag s
  | .deviceOperationEnd a => Sys2Proof.Machine.execDeviceOperationEnd a s
  | .ccwTimeout tag => Sys2Proof.Machine.execCcwTimeout tag s
  | .write w => Sys2Proof.Machine.execWrite w s
  | .read a errs => Sys2Proof.Machine.execRead a errs s
  | .control a => Sys2Proof.Machine.execControl a s
  | .sense a => Sys2Proof.Machine.execSense a s
  | .jump tag => Sys2Proof.Machine.execJump tag s
  | .waitEvent a => Sys2Proof.Machine.execWaitEvent a s
  | .engineTimerExpiry tag => Sys2Proof.Machine.execEngineTimerExpiry tag s
  | .ledgerAppend tag => Sys2Proof.Machine.execLedgerAppend tag s
  | .mark tag => Sys2Proof.Machine.execMark tag s
  | .pollFar tag => Sys2Proof.Machine.execPollFar tag s
  | .pollFarInterval tag => Sys2Proof.Machine.execPollFarInterval tag s
  | .busOn a => Sys2Proof.Machine.execBusOn a s
  | .busOff a => Sys2Proof.Machine.execBusOff a s
  | .abortTx a => Sys2Proof.Machine.execAbortTx a s
  | .runSchedule a => Sys2Proof.Machine.execRunSchedule a s
  | .stopSchedule a => Sys2Proof.Machine.execStopSchedule a s
  | .wakeup a => Sys2Proof.Machine.execWakeup a s
  | .gotoSleep a => Sys2Proof.Machine.execGotoSleep a s
  | .sentStart a => Sys2Proof.Machine.execSentStart a s
  | .sentStop a => Sys2Proof.Machine.execSentStop a s
  | .breakTx a => Sys2Proof.Machine.execBreakTx a s
  | .fastInit a => Sys2Proof.Machine.execFastInit a s
  | .flushRx a => Sys2Proof.Machine.execFlushRx a s
  | .activate a => Sys2Proof.Machine.execActivate a s
  | .cardWarmReset a => Sys2Proof.Machine.execCardWarmReset a s
  | .deactivate a => Sys2Proof.Machine.execDeactivate a s
  | .linkUp a => Sys2Proof.Machine.execLinkUp a s
  | .linkDown a => Sys2Proof.Machine.execLinkDown a s
  | .queueConfig q value => Sys2Proof.Machine.execQueueConfig q value s
  | .dropPkt q => Sys2Proof.Machine.execDropPkt q s
  | .claimGrant q => Sys2Proof.Machine.execClaimGrant q s
  | .canEnable m mid value => Sys2Proof.Machine.execCanEnable m mid value s
  | .portEnable p mid value => Sys2Proof.Machine.execPortEnable p mid value s
  | .portDisable p mid value => Sys2Proof.Machine.execPortDisable p mid value s
  | .canIntegrationEnd m => Sys2Proof.Machine.execCanIntegrationEnd m s
  | .canFrameReceive m f time => Sys2Proof.Machine.execCanFrameReceive m f time s
  | .canFrameSent m => Sys2Proof.Machine.execCanFrameSent m s
  | .canBusError m e lec => Sys2Proof.Machine.execCanBusError m e lec s
  | .canRecoveryEnd m => Sys2Proof.Machine.execCanRecoveryEnd m s
  | .autoRecoverWrite m mid value => Sys2Proof.Machine.execAutoRecoverWrite m mid value s
  | .periodicFrameDue m k => Sys2Proof.Machine.execPeriodicFrameDue m k s
  | .supervisionTimeout m k => Sys2Proof.Machine.execSupervisionTimeout m k s
  | .j1939T1Expiry m sa da => Sys2Proof.Machine.execJ1939T1Expiry m sa da s
  | .linSlotStart m => Sys2Proof.Machine.execLinSlotStart m s
  | .linHeaderReceive m id bit time => Sys2Proof.Machine.execLinHeaderReceive m id bit time s
  | .linResponseEnd m p => Sys2Proof.Machine.execLinResponseEnd m p s
  | .linResponseTimeout m => Sys2Proof.Machine.execLinResponseTimeout m s
  | .linBitError m => Sys2Proof.Machine.execLinBitError m s
  | .linWakeupDetect m => Sys2Proof.Machine.execLinWakeupDetect m s
  | .sentFrameReceive m f time => Sys2Proof.Machine.execSentFrameReceive m f time s
  | .uartCharacterReceive m c time => Sys2Proof.Machine.execUartCharacterReceive m c time s
  | .uartIdleTimeout card m n => Sys2Proof.Machine.execUartIdleTimeout card m n s
  | .ctsChange m level => Sys2Proof.Machine.execCtsChange m level s
  | .cardCharacterReceive m b parityOk time => Sys2Proof.Machine.execCardCharacterReceive m b parityOk time s
  | .cardAtrReceive m b inverse time => Sys2Proof.Machine.execCardAtrReceive m b inverse time s
  | .atrTimeout m => Sys2Proof.Machine.execAtrTimeout m s
  | .cardWaitingTimeExpiry m => Sys2Proof.Machine.execCardWaitingTimeExpiry m s
  | .cardPresenceChange m level => Sys2Proof.Machine.execCardPresenceChange m level s
  | .ethEnable m mid value => Sys2Proof.Machine.execEthEnable m mid value s
  | .ethLinkChange m up => Sys2Proof.Machine.execEthLinkChange m up s
  | .ethFrameReceive m frame fcsBad time => Sys2Proof.Machine.execEthFrameReceive m frame fcsBad time s
  | .ethFrameSent m time => Sys2Proof.Machine.execEthFrameSent m time s
  | .ethCollision late => Sys2Proof.Machine.execEthCollision late s
  | .plcaBeaconLoss => Sys2Proof.Machine.execPlcaBeaconLoss s
  | .plcaOpportunity => Sys2Proof.Machine.execPlcaOpportunity s
  | .timSet mid value => Sys2Proof.Machine.execTimSet mid value s
  | .timRate mid value => Sys2Proof.Machine.execTimRate mid value s
  | .timSlew mid value => Sys2Proof.Machine.execTimSlew mid value s
  | .slewDone => Sys2Proof.Machine.execSlewDone s
  | .crossTimestamp => Sys2Proof.Machine.execCrossTimestamp s
  | .timCaptureEdge n rising => Sys2Proof.Machine.execTimCaptureEdge n rising s
  | .ppsEdge n => Sys2Proof.Machine.execPpsEdge n s
  | .farSlotCmd f k mid value => Sys2Proof.Machine.execFarSlotCmd f k mid value s
  | .farAccessTimeout k => Sys2Proof.Machine.execFarAccessTimeout k s
  | .fabricFarAccess mid lxb unit off write data wide => Sys2Proof.Machine.execFabricFarAccess mid lxb unit off write data wide s
  | .heldResultExpiry mid lxb unit off => Sys2Proof.Machine.execHeldResultExpiry mid lxb unit off s
  | .farLatchExpiry origin => Sys2Proof.Machine.execFarLatchExpiry origin s
  | .semaphoreRead k mid origin => Sys2Proof.Machine.execSemaphoreRead k mid origin s
  | .semaphoreRelease k mid origin => Sys2Proof.Machine.execSemaphoreRelease k mid origin s
  | .semaphoreLeaseExpiry k => Sys2Proof.Machine.execSemaphoreLeaseExpiry k s
  | .lxbAccess data => Sys2Proof.Machine.execLxbAccess data s
  | .lxbWaitTimeout => Sys2Proof.Machine.execLxbWaitTimeout s
  | .lxbLockRead mid => Sys2Proof.Machine.execLxbLockRead mid s
  | .lxbLockRelease mid => Sys2Proof.Machine.execLxbLockRelease mid s
  | .lxbLockBroken => Sys2Proof.Machine.execLxbLockBroken s
  | .pollRound addr => Sys2Proof.Machine.execPollRound addr s
  | .gatewayLookup code uncorr => Sys2Proof.Machine.execGatewayLookup code uncorr s
  | .routingEntryCommit e mid origin word => Sys2Proof.Machine.execRoutingEntryCommit e mid origin word s
  | .ldgAppendPart p f => Sys2Proof.Machine.execLdgAppendPart p f s
  | .appendEnd p f => Sys2Proof.Machine.execAppendEnd p f s
  | .farAppendResend tag => Sys2Proof.Machine.execFarAppendResend tag s
  | .farAppendTimeout tag => Sys2Proof.Machine.execFarAppendTimeout tag s
  | .firmwareAppend mid => Sys2Proof.Machine.execFirmwareAppend mid s
  | .recordDurable => Sys2Proof.Machine.execRecordDurable s
  | .sealRequest mid => Sys2Proof.Machine.execSealRequest mid s
  | .segmentRelease mid => Sys2Proof.Machine.execSegmentRelease mid s
  | .exportedWrite mid value => Sys2Proof.Machine.execExportedWrite mid value s
  | .epochClose => Sys2Proof.Machine.execEpochClose s
  | .epochBegin p f => Sys2Proof.Machine.execEpochBegin p f s
  | .epochData p f => Sys2Proof.Machine.execEpochData p f s
  | .epochEnd p f => Sys2Proof.Machine.execEpochEnd p f s
  | .epochCommit => Sys2Proof.Machine.execEpochCommit s
  | .epochAck p f => Sys2Proof.Machine.execEpochAck p f s
  | .epochResendTimeout newer => Sys2Proof.Machine.execEpochResendTimeout newer s
  | .pairState p rsp f => Sys2Proof.Machine.execPairState p rsp f s
  | .pairBindMessage p rsp f => Sys2Proof.Machine.execPairBindMessage p rsp f s
  | .pairUnbindMessage p rsp f => Sys2Proof.Machine.execPairUnbindMessage p rsp f s
  | .pairHold mid value => Sys2Proof.Machine.execPairHold mid value s
  | .takeoverGraceExpiry => Sys2Proof.Machine.execTakeoverGraceExpiry s
  | .thermalSample sensors => Sys2Proof.Machine.execThermalSample sensors s
  | .measure mid value => Sys2Proof.Machine.execMeasure mid value s
  | .thermalGraceExpiry => Sys2Proof.Machine.execThermalGraceExpiry s
  | .thmLimWrite mid value => Sys2Proof.Machine.execThmLimWrite mid value s
  | .thmDutyWrite mid value => Sys2Proof.Machine.execThmDutyWrite mid value s
  | .thmPeakRead => Sys2Proof.Machine.execThmPeakRead s
  | .faultSourceConfig n mid origin value => Sys2Proof.Machine.execFaultSourceConfig n mid origin value s
  | .deadboltWrite target mid origin value => Sys2Proof.Machine.execDeadboltWrite target mid origin value s
  | .faultEventPop mid origin wide uncorr => Sys2Proof.Machine.execFaultEventPop mid origin wide uncorr s
  | .quarantineClear hi mid origin value => Sys2Proof.Machine.execQuarantineClear hi mid origin value s
  | .faultInjection mid value => Sys2Proof.Machine.execFaultInjection mid value s
  | .selfCheckFailure se => Sys2Proof.Machine.execSelfCheckFailure se s
  | .spareSelfTest se failed => Sys2Proof.Machine.execSpareSelfTest se failed s
  | .migrationComplete k => Sys2Proof.Machine.execMigrationComplete k s
  | .retireSe mid index => Sys2Proof.Machine.execRetireSe mid index s
  | .rowRequest mid value => Sys2Proof.Machine.execRowRequest mid value s
  | .repair mid => Sys2Proof.Machine.execRepair mid s
  | .repairPointEnd words rows bank => Sys2Proof.Machine.execRepairPointEnd words rows bank s
  | .clearLane mid p => Sys2Proof.Machine.execClearLane mid p s
  | .scrubRead corr uncorr starved => Sys2Proof.Machine.execScrubRead corr uncorr starved s
  | .traceWrite => Sys2Proof.Machine.execTraceWrite s
  | .hostMark mid value => Sys2Proof.Machine.execHostMark mid value s
  | .traceClear mid value => Sys2Proof.Machine.execTraceClear mid value s
  | .sinkCopy uncorr => Sys2Proof.Machine.execSinkCopy uncorr s
  | .bypass => Sys2Proof.Machine.execBypass s
  | .idcode => Sys2Proof.Machine.execIdcode s
  | .samplePreload cells => Sys2Proof.Machine.execSamplePreload cells s
  | .extest => Sys2Proof.Machine.execExtest s
  | .clamp => Sys2Proof.Machine.execClamp s
  | .highz => Sys2Proof.Machine.execHighz s
  | .dapAccess word => Sys2Proof.Machine.execDapAccess word s
  | .lifecycleRequest mid origin value => Sys2Proof.Machine.execLifecycleRequest mid origin value s
  | .pinSelect n mid value => Sys2Proof.Machine.execPinSelect n mid value s
  | .pinConfigWrite n mid value => Sys2Proof.Machine.execPinConfigWrite n mid value s
  | .parkIntervalEnd n => Sys2Proof.Machine.execParkIntervalEnd n s
  | .pinLock mid value => Sys2Proof.Machine.execPinLock mid value s
  | .registerRead mid origin target width uncorr => Sys2Proof.Machine.execRegisterRead mid origin target width uncorr s
  | .nonpostedCreditReturn n => Sys2Proof.Machine.execNonpostedCreditReturn n s
  | .blockLockLoss p => Sys2Proof.Machine.execBlockLockLoss p s
  | .kattnOutChange level => Sys2Proof.Machine.execKattnOutChange level s
  | .gpioInputEdge pin level => Sys2Proof.Machine.execGpioInputEdge pin level s
  | .lxbIrqChange n level => Sys2Proof.Machine.execLxbIrqChange n level s
  | .plcaBeaconReceive => Sys2Proof.Machine.execPlcaBeaconReceive s
  | .uartCharacterSent m => Sys2Proof.Machine.execUartCharacterSent m s
  | .cardCharacterSent m refused => Sys2Proof.Machine.execCardCharacterSent m refused s
  | .breakEnd m => Sys2Proof.Machine.execBreakEnd m s
  | .fastInitEnd m => Sys2Proof.Machine.execFastInitEnd m s
  | .wakeupPulseEnd m => Sys2Proof.Machine.execWakeupPulseEnd m s
  | .xt32Restored error => Sys2Proof.Machine.execXt32Restored error s

end Sys2Proof.Machine
end

