-- ==== Sys2Proof/Machine/Step.lean ====
section
/-!
DEFINITION. One step of the unit: the command that waits longest, or one core cycle where none waits.
-/

namespace Sys2Proof.Machine

/-- One step: the command at the front of the queue takes effect with the queue's rest waiting; on an empty queue one
core cycle passes. -/
def step (s : State) : Host.Outcome State Fault Refusal :=
  match s.pending with
  | [] => .next s.tick
  | c :: rest => exec c { s with pending := rest }

/-- The state with the command that a word of the opcode table spells put at the front of the queue. The table gives
no row a bit, so no word spells a command and the state stays as it is. -/
def State.withFetchWord (s : State) (_nbits _w : Nat) : State := s

end Sys2Proof.Machine
end

