-- ==== Sys2Proof/Safety.lean ====
section
/-!
DEFINITION. What is true of every state that a run from reset meets, and what no command undoes: the terms of the
statements about whole runs.
-/

namespace Sys2Proof.Machine

/-! ### What a command changes -/

/-- `t` is `u` but for the listed register fields: every other field, and everything that is no register field, is as in
`u`. -/
def Only (u t : State) (fs : List Fld) : Prop :=
  t = { u with regs := t.regs } ∧ ∀ g : Fld, g.key ∉ fs.map Fld.key → t.get g = u.get g

/-- A counter's value n later, modulo its width (R11). -/
def State.plus (s : State) (f : Fld) (n : Nat) : Nat := (s.get f + n) % 2 ^ f.w

/-- A cause is set and counted once in `t`, against `s` (R11). -/
def Raised (s t : State) (evt : Fld) (bit : Nat) (cnt : Fld) : Prop :=
  t.get evt = setBit (s.get evt) bit % 2 ^ evt.w ∧ t.get cnt = s.plus cnt 1

/-! ### The canonical form of memory -/

/-- The buffer SRAM and its poison map are in canonical form: addresses rise strictly, and no entry equals what an
unlisted address reads as (R366, R368). -/
abbrev State.memWf (s : State) : Prop :=
  (s.sram.Pairwise fun a b => a.1 < b.1) ∧ (∀ e ∈ s.sram, e.2 ≠ 0) ∧
  (s.poison.Pairwise fun a b => a.1 < b.1) ∧ (∀ e ∈ s.poison, e.2 ≠ false)

/-- The entries of the register store rise strictly, so that equal registers are equal data. -/
abbrev State.regsWf (s : State) : Prop := s.regs.Pairwise fun a b => a.1 < b.1

/-- Between two steps the store of registers and the memory are in canonical form, and the fault collector has acted on
every event (R597). -/
abbrev State.Inv (s : State) : Prop := s.regsWf ∧ s.memWf ∧ s.dueFaults = []

/-! ### Fuses -/

/-- What a fuse or a one-time-programmable bit shows at `n` it shows at `n'` too (R19, R132, R135, R136, R678). -/
structure Nv.FusesKept (n n' : Nv) : Prop where
  rollback : n.rollback ≤ n'.rollback
  lifecycle : n.lifecycle ≤ n'.lifecycle
  killed : n.kLdgKilled = true → n'.kLdgKilled = true
  revoked : ∀ k x, tget n.keys k = some (x, true) → ∃ y, tget n'.keys k = some (y, true)

end Sys2Proof.Machine
end

