-- ==== Sys2Proof/WellFormed.lean ====
section
/-!
DEFINITION. Which commands the unit's surroundings can give it. The meanings are total and take every command; a
command that is not well-formed stands for nothing that a rule of the manual describes.
-/

namespace Sys2Proof

/-- A flit has 48 payload bytes at most (R181). -/
def FlitIn.wf (f : FlitIn) : Bool := f.payload.length ≤ 48

/-- The data of a completion fits the longest read that the unit issues, of a Max_Read_Request_Size of 4,096 bytes (R237). -/
def Cpl.wf : Cpl → Bool
  | .ok d => d.length ≤ 4096
  | .poisoned d => d.length ≤ 4096
  | .failed | .aborted => true

/-- The data limits of the CAN formats; a base identifier has 11 bits (R413). -/
def CanFrame.wf (f : CanFrame) : Bool :=
  (f.ide || f.fmt.val == 2 || f.ident.toNat < 2 ^ 11) &&
    (match f.fmt.val with
     | 0 => f.data.length ≤ 8
     | 1 => f.data.length ≤ 8 || [12, 16, 20, 24, 32, 48, 64].contains f.data.length
     | _ => 1 ≤ f.data.length && f.data.length ≤ 2048)

/-- A LIN response carries eight bytes at most (R421). -/
def LinResp.wf (p : LinResp) : Bool := p.data.length ≤ 8

/-- A receiver samples at least once for each character (R430). -/
def UartChar.wf (c : UartChar) : Bool := !c.ticks.isEmpty

/-- A received flit is one codeword, of 64 data bytes and 4 parity bytes (R180). -/
def codewordWf (data parity : List Byte) : Bool := data.length == 64 && parity.length == 4

/-- The checks of a command's operands. The nine sensors are sampled together (R578), and a last error code of 7 is not
produced (R449). -/
def wellFormed : Instr → Bool
  | .flitReject _ d p _ | .flitMalformed _ d p => codewordWf d p
  | .nak _ n => n.flit.wf
  | .flitForward _ _ f | .idle _ f | .announce _ f
  | .linkLoss _ f | .leaving _ f | .laneSwap _ f | .heartbeat _ f | .rdReq _ f _ | .wrReq _ f | .rdRsp _ f
  | .wrRsp _ f | .noRoute _ f | .start _ f | .prgData _ _ f | .cancel _ f | .credit _ _ f | .prgEnd _ f
  | .retry _ f | .ldgAppendPart _ f | .appendEnd _ f | .epochBegin _ f | .epochData _ f | .epochEnd _ f
  | .epochAck _ f | .pairState _ _ f | .pairBindMessage _ _ f | .pairUnbindMessage _ _ f => f.wf
  | .readCompletion _ _ c | .entryFetched _ c => c.wf
  | .canFrameReceive _ f _ => f.wf
  | .linResponseEnd _ p => p.wf
  | .uartCharacterReceive _ c _ => c.wf
  | .canBusError _ _ lec => lec != 7#3
  | .thermalSample l => l.length == 9
  | _ => true

end Sys2Proof
end

