-- ==== Sys2Proof/Certificates/Slice0/Obligations.lean ====
section
/-!
DEFINITION. What is stated about the model.

Where a meaning ends with the fault collector's part, a statement gives the state that the collector is handed:
`exec c s = .next (settle t)`, with what `t` holds. What the collector makes of it has statements of its own.
-/

namespace Sys2Proof.Machine

/-- A frame of command k that the unit is to act on: it is checked and well-formed, and the unit is addressed or the
frame is a broadcast that the command allows (R167, R173–R175). -/
def KcTakes (s : State) (w : KcIn) (k : Nat) : Prop :=
  s.phase ≠ .held ∧ kcCheckOk w = true ∧ (kcParse w).cmd = k ∧ s.kcMine (kcParse w) = true ∧
    (k < 12 → (kcParse w).argOk = true) ∧ ((kcParse w).bcast = true → kcMayCast k = true)

/-- The unit once a frame has passed it: it has left downstream where the gate is open (R166). -/
def kcHeard (s : State) (w : KcIn) : State :=
  if s.on R.CHN_KC_STATUS_gate_open then { s with out := s.out ++ [.keychainOn (lsbBits 48 w.frame.toNat)] } else s

/-- What was sampled downstream is relayed through a gate that was open (R166). -/
def kcRelayed (u : State) (w : KcIn) (gate : Bool) : State :=
  if gate = true ∧ w.below ≠ [] then { u with out := u.out ++ [.keychain (kcUpstream w w.below)] } else u

/-- A response frame leaves in place of what was sampled downstream (R168, R171). -/
def kcAnswered (u : State) (w : KcIn) (addr data status : Nat) : State :=
  { u with out := u.out ++ [.keychain (kcUpstream w (kcReply addr data status))] }

/-- A frame acted on is counted, its command is shown, and it is answered unless it was broadcast (R174, R221). -/
def kcDone (s u : State) (w : KcIn) (addr data status : Nat) : State :=
  let c := (u.count R.CHN_KC_FRAMES_acted).put R.CHN_KC_STATUS_last_cmd (kcParse w).cmd
  if (kcParse w).bcast then kcRelayed c w (s.on R.CHN_KC_STATUS_gate_open) else kcAnswered c w addr data status

/-- Every register is at its cold value, every memory and queue is empty, and cold reset is held (R19, R95). -/
def ColdHeld (t : State) : Prop :=
  t.phase = .held ∧ (∀ f : Fld, t.get f = f.cold) ∧ t.sram = [] ∧ t.wqs = [] ∧ t.sqs = [] ∧ t.progs = [] ∧ t.ops = [] ∧
    t.readLatch = [] ∧ t.writeHold = [] ∧ t.farLatches = [] ∧ t.up = {} ∧ t.dn = {}

/-- The hold-up store shows the state that R109 gives it. -/
def StoreJudged (t : State) : Prop :=
  t.get R.HUP_STATUS_state = t.storeState ∧ t.get R.HUP_STATUS_reason = t.storeReason % 2 ^ R.HUP_STATUS_reason.w ∧
    t.get R.HUP_STATUS_write_through = b2n (t.storeState != 2)

/-- The fields that a judgement of the store writes. -/
def storeFlds : List Fld :=
  [R.HUP_STATUS_state, R.HUP_STATUS_reason, R.HUP_STATUS_write_through, R.HUP_STATUS_cause, R.HUP_CNT_count 0,
   R.HUP_CNT_count 1, R.HUP_CNT_count 2, R.HUP_CNT_count 3]

/-- `t` is `s` with the store's state `x`, judged anew. -/
def StoreBecomes (s t : State) (x : Supply) (fs : List Fld) : Prop :=
  Only { s with sup := x, dueFaults := t.dueFaults } t (fs ++ storeFlds) ∧ StoreJudged t

/-- The gauge registers show the two estimates and the smaller of them, at most 2²⁰ − 1 (R113; the cap is the model's
choice, log entry 94). -/
def GaugeShown (t : State) : Prop :=
  t.get R.HUP_E_CHARGE_value = min (2 ^ 20 - 1) t.eCharge ∧ t.get R.HUP_E_VOLT_value = min (2 ^ 20 - 1) t.eVolt ∧
    t.get R.HUP_E_USABLE_value = min (2 ^ 20 - 1) (min t.eCharge t.eVolt)

/-- The fields that a gauge update and a calibration write besides those of the judgement. -/
def gaugeFlds : List Fld := [R.HUP_VSTORE_value, R.HUP_E_CHARGE_value, R.HUP_E_VOLT_value, R.HUP_E_USABLE_value]

/-- The unit at the next step k of the power-fail sequence. -/
def atStep (s : State) (k : Nat) : State := { s with sup := { s.sup with pf := k } }

/-- The unit when the power-fail sequence starts: repairs stop, a discharge ends, and no reset is pending any more
(R118, R120, R121). -/
def pfBegun (s : State) (k : Nat) : State :=
  { s.put R.TLN_STATUS_repairing 0 with
    sup := { s.sup with pf := k, cal := if s.sup.cal = .discharge then .none else s.sup.cal }
    resetDue := none, pfAcked := false }

/-- The register at an offset is a 32-bit one without behaviour of its own, and a 32-bit access of it is aligned. -/
structure PlainAt (s : State) (mid off : Nat) (r : RegAt) : Prop where
  aligned : off % 4 = 0
  map : off < 0x100000 ∧ msixRange off = false ∧ s.ftmClosed off = false ∧ (off < 0x8000 ∨ 0x9000 ≤ off)
  reg : regAt mid off = some r
  narrow : r.wide = false
  noSlot : fasAt off = none
  noAct : ((actsA ++ actsB ++ actsC).findSome? fun a => placeAt a.base a.dims off) = none
  noRead : off ≠ R.FLT_EVQ_word.off ∧ off ≠ R.THM_PEAK_value.off ∧ off ≠ R.HNG_LXB_LOCK_value.off ∧
    placeAt (R.HNG_SEM_value 0).off [(64, 4)] off = none ∧ placeAt (R.TRC_BUF_word 0).off [(8192, 8)] off = none
  apart : (r.flds.map Fld.key).Nodup

/-- What a write of value v by a MID makes of a field (R8, R12, R13). -/
def Written (s t : State) (mid v : Nat) (f : Fld) : Prop :=
  t.get f =
    if s.takes f mid = false then s.get f
    else match f.acc with
      | .rw | .rwl => if f.allows (f.part v) then f.fitted (f.part v) % 2 ^ f.w else s.get f
      | .w1c => clearBits (s.get f) (f.part v) % 2 ^ f.w
      | .w1s => (s.get f ||| f.part v) % 2 ^ f.w
      | _ => s.get f

/-- A command that is an access of one register of the map. -/
def registerCommand : Instr → Bool
  | .glbResetWarm .. | .watchdogKick .. | .pintlePortEnable .. | .retrain .. | .pintlePortDisable .. => true
  | .interruptRearm .. | .tumblerRead .. | .tumblerRelease .. | .mailboxGo .. | .mailboxPop .. => true
  | .keywayBind .. | .keywayLock .. | .adminEnable .. | .adminDisable .. | .sqDoorbell .. | .resumeDoorbell .. => true
  | .crHeadDoorbell .. | .queueConfig .. | .dropPkt .. | .canEnable .. | .portEnable .. | .portDisable .. => true
  | .autoRecoverWrite .. | .ethEnable .. | .timSet .. | .timRate .. | .timSlew .. | .crossTimestamp => true
  | .farSlotCmd .. | .fabricFarAccess .. | .semaphoreRead .. | .semaphoreRelease .. | .lxbLockRead .. => true
  | .lxbLockRelease .. | .routingEntryCommit .. | .firmwareAppend .. | .sealRequest .. | .segmentRelease .. => true
  | .exportedWrite .. | .pairHold .. | .measure .. | .thmLimWrite .. | .thmDutyWrite .. | .thmPeakRead => true
  | .faultSourceConfig .. | .deadboltWrite .. | .faultEventPop .. | .quarantineClear .. | .faultInjection .. => true
  | .retireSe .. | .rowRequest .. | .repair .. | .clearLane .. | .hostMark .. | .traceClear .. => true
  | .lifecycleRequest .. | .pinSelect .. | .pinConfigWrite .. | .pinLock .. | .windowAccessDone => true
  | _ => false

/-- A CONTROL with a function has been issued to port i of a class and has not ended (R331). -/
def Issued (s : State) (a cls func i : Nat) : Prop := s.issuedOn a cls func = some i

/-- The configuration of a CAN port as a write of CANm_CTL leaves it, before its en bit takes effect (R407, R420). -/
def canWritten (s : State) (m : Nat) (mid : BitVec 4) (v : Nat) : State :=
  (s.writeOthers mid.toNat v (R.CAN_CTL_en m)).ptxOff m

/-- `t` is `s` with the operation of agent a ended with a status and detail (R336). -/
def OpEnded (s t : State) (a status detail : Nat) : Prop :=
  t = { s with ops := t.ops } ∧ (∀ b, b ≠ a → t.op b = s.op b) ∧
    t.op a = (s.op a).map fun o => if o.ended.isSome then o else { o with ended := some (status, detail) }

/-- The engine turns to a program: the issue duty is open, the program may take a CCW, and it is its turn (R340, R576). -/
def TurnOf (s : State) (tag : Nat) (p : Prog) : Prop :=
  s.dutyOpen = true ∧ s.mayTake tag p = true ∧ s.hasTurn tag p = true

/-- `t` is `s` with channel c of the mailboxes made `x`. -/
def ChanBecomes (s t : State) (c : Nat) (x : Chan) : Prop :=
  t = { s with chans := t.chans } ∧ t.chan c = x ∧ ∀ d, d ≠ c → t.chan d = s.chan d

/-- `t` is `s` with a Keyway violation recorded and handed to fault source 5 (R262). -/
def Violated (s t : State) (c : Nat) (w : Who) (write : Bool) : Prop :=
  Only { s with dueFaults := s.dueFaults ++
    [{ src := 5, res := c, mid := some w.mid, addr := if w.mid = 4 then some w.addr else none }] } t
    [R.KWY_VIOL_cause, R.KWY_CNT_count 0, R.KWY_VIOL_write, R.KWY_VIOL_mid, R.KWY_VIOL_channel, R.KWY_VIOL_addr] ∧
  Raised s t R.KWY_VIOL_cause 0 (R.KWY_CNT_count 0) ∧ t.get R.KWY_VIOL_mid = w.mid % 16 ∧
  t.get R.KWY_VIOL_channel = c % 16 ∧ t.get R.KWY_VIOL_write = b2n write

/-- `t` is `s` with the submission queue n made `x`. -/
def SqBecomes (s t : State) (n : Nat) (x : Sq) : Prop :=
  t = { s with sqs := t.sqs } ∧ t.sq n = x ∧ ∀ k, k ≠ n → t.sq k = s.sq k

/-- `t` is `s` with the completion ring m made `x`. -/
def RingBecomes (s t : State) (m : Nat) (x : Ring) : Prop :=
  t = { s with rings := t.rings } ∧ t.ring m = x ∧ ∀ k, k ≠ m → t.ring k = s.ring k

/-- `t` is `s` with a QMG_EVT cause set and counted, and nothing else changed. -/
def QmgCause (s t : State) (bit : Nat) : Prop :=
  Only s t [R.QMG_EVT_cause, R.QMG_EVT_CNT_count bit] ∧ Raised s t R.QMG_EVT_cause bit (R.QMG_EVT_CNT_count bit)

/-- What a function-level reset of f leaves (R253). A mailbox command of f that firmware was reading data for is answered
after the messages that waited have gone (the model's choice, log entry 118). -/
def FunctionReset (s t : State) (f : Nat) : Prop :=
  (∀ e ∈ t.progs, e.2.fn ≠ f) ∧ (∀ e ∈ t.sqs, e.2.owner = f → e.2.state = 0) ∧
  (∀ e ∈ t.rings, e.2.owner = f → e.2.exist = false) ∧ (t.fn f).posts = [] ∧ (t.fn f).reads = [] ∧
  (∀ g ∈ flrFields f, t.get g = g.cold) ∧
  (∀ k < 8, t.get (R.HNG_FAS_DATA_state f k) = 0 ∧ t.get (R.HNG_FAS_DATA_data f k) = 0) ∧
  (∀ e ∈ t.sems, e.2.1 ≠ f) ∧ t.lxbLock ≠ some f ∧
  (∀ c < 16, ∀ o, (t.chan c).owner = some o → o.1 ≠ f) ∧
  ((∀ e ∈ s.fwReads, e.2.req.mid = f → e.2.req.queued = true) → ∀ c < 16, t.isReceiver c f = true →
    (t.chan c).queue = [])

/-- A field of FLT_SRCn_CFG in t: the written value where it is neither reserved nor looser than its bound, else as it
was (R606). -/
def CfgField (s t : State) (f : Fld) (v : Nat) (reserved looser : Bool) : Prop :=
  t.get f = if reserved || looser then s.get f else v

/-- A bound in t: the written value where it is tighter and not reserved, else as it was (R608). -/
def BoundField (s t : State) (f : Fld) (v : Nat) (reserved tighter : Bool) : Prop :=
  t.get f = if !reserved && tighter then v else s.get f

/-- The ports that a write of a quarantine register frees: those whose bit is set in it and in the value (R599). -/
def freedPorts (s : State) (f : Fld) (v : Nat) : List (Nat × Nat) :=
  allPorts.filter fun p =>
    match quarBit p.1 p.2 with
    | some (g, b) => g.key == f.key && (s.get f &&& v).testBit b
    | none => false

/-- The firmware commands served from a carrier, each with its code (R282). -/
def fwCommands (via : Option (Fin 16)) (chan : Fin 16) : List (Instr × Nat) :=
  let mail := via.isSome
  let c := via.getD chan
  [(.unitInfo via, 0x01), (.paramGet via, 0x02), (.pwrSet via, 0x04), (.sqCreate via, 0x10), (.sqDestroy via, 0x11),
   (.sqShutdown via, 0x12), (.sqRestart via, 0x13), (.crCreate via, 0x14), (.crDestroy via, 0x15),
   (.prgResume via, 0x16), (.grtLoad mail c, 0x20), (.grtEnable via, 0x21), (.ldgSeal via, 0x31), (.ldgStatus via, 0x32),
   (.ldgExport mail c, 0x33), (.pairBind via, 0x34), (.pairUnbind via, 0x35), (.takeover via, 0x36), (.handover via, 0x37),
   (.repairPoint via, 0x40), (.faultCfg via, 0x41), (.imgQuery via, 0x50), (.imgBegin mail c, 0x51), (.imgChunk mail c, 0x52),
   (.imgEnd via, 0x53), (.imgActivate via, 0x54), (.imgRestart via, 0x55), (.imgConfirm via, 0x56),
   (.imgRevert via, 0x57)]

/-- The two firmware commands that append to the ledger, served while firmware's append port is free. -/
def fwAppending (via : Option (Fin 16)) : List (Instr × Nat) := [(.paramSet via, 0x03), (.timeSet via, 0x30)]

/-- The command r with a code is at its turn on a carrier, served at this stage, and passes the checks that every
command has; u is the state with it taken (R282–R285). -/
def FwTurn (s u : State) (via : Option (Fin 16)) (code : Nat) (r : FwReq) : Prop :=
  s.fwHead via = some r ∧ r.asked.code = code ∧ (∃ c, s.served code = some c ∧ r.judge c = rsOk) ∧ u = s.fwTake r

/-- `t` is `s` with a HNG_EVT cause set and counted, and nothing else changed. -/
def HngCause (s t : State) (bit : Nat) : Prop :=
  Only s t [R.HNG_EVT_cause, R.HNG_EVT_CNT_count bit] ∧ Raised s t R.HNG_EVT_cause bit (R.HNG_EVT_CNT_count bit)

/-- `t` is `s` with a HNG_EVT cause set, counted and handed to fault source 22, and nothing else changed. -/
def HngFault (s t : State) (bit addr : Nat) : Prop :=
  Only { s with dueFaults := s.dueFaults ++ [{ src := 22, detail := bit, res := addr }] } t
    [R.HNG_EVT_cause, R.HNG_EVT_CNT_count bit] ∧ Raised s t R.HNG_EVT_cause bit (R.HNG_EVT_CNT_count bit)

/-- What a LIN slot of a commander does once what waited for the end of the slot before has taken effect, in state u: a
sleeping port without a schedule stays quiet; the sleep command goes first, then a pending response whose identifier the
schedule does not contain, then the schedule's own slot (R422, R423, R426). -/
def LinSlotFrom (s u : State) (m : Fin 8) : Prop :=
  let y := u.lin m
  let starts (t : State) : Prop := exec (.linSlotStart m) s = .next (settle t)
  (y.asleep = true → y.run = none → starts u) ∧
  (y.asleep = false ∨ y.run ≠ none →
    (∀ g, y.sleep = some g → starts (u.linHeader m
      { id := 0x3C, type := 2, src := .sleep g, bytes := sleepRecord, time := u.now })) ∧
    (y.sleep = none →
      (∀ id token bs, u.linOwn m = some (id, token, bs) →
        starts (u.linHeader m { id := id, src := .program token, bytes := bs, time := u.now })) ∧
      (u.linOwn m = none → y.run = none → starts u) ∧
      (∀ r, u.linOwn m = none → y.run = some r →
        let v := ((u.setLin m { y with run := some { r with fresh := false, token := none } }).put
          (R.LIN_STATUS_table m) r.table).put (R.LIN_STATUS_slot m) r.slot
        (r.token = none → starts (v.linHeader m (v.linSlotHdr m r.slot))) ∧
        (∀ g, r.token = some g →
          let w := v.endToken g stSuccess 0
          starts (w.linHeader m (w.linSlotHdr m r.slot))))))

/-- What a write of value w to PIN_CFGn by a MID does, while registers answer: the states it may leave, by the rules of
the pin multiplexer (R71, R74, R86–R89). -/
def PinWritten (s : State) (n mid w : Nat) (done : State → Prop) : Prop :=
  let old := s.get (R.PIN_CFG_sel n)
  let sel := w % 8
  let u := s.writeOthers mid w (R.PIN_CFG_sel n)
  let caused (t : State) (bit : Nat) := (t.raise R.PIN_STATUS_cause bit (R.PIN_CNT_count bit)).put R.PIN_STATUS_last_land n
  let parked (t : State) := if t.get (R.PIN_CFG_attached n) = 0 && !t.on (R.PIN_CFG_busy n) then t.parkNow n else t
  (s.on R.PIN_CTL_lock = true → done (caused s 2)) ∧
  (s.on R.PIN_CTL_lock = false →
    (selOk n sel = false → done (parked (caused u 1))) ∧
    (selOk n sel = true → sel = old → done (parked u)) ∧
    (∀ f, landFn n sel = some f → sel ≠ old → u.fnTaken n f = true → done (parked (caused u 0))) ∧
    (selOk n sel = true → sel ≠ old → (∀ f, landFn n sel = some f → u.fnTaken n f = false) →
      let v := if u.on (R.PIN_CFG_busy n) then u else u.parkNow n
      done ((((v.put (R.PIN_CFG_sel n) sel).put (R.PIN_CFG_attached n) 0).put (R.PIN_CFG_busy n) 1).gpioSeen (n % 48)
        (u.gpioLevel (n % 48)))))

/-- What a retire request that is taken does to physical sub-engine i: a carrier that is being moved waits, one retired
already stays, a migration's target is replaced by the next spare, a spare is marked, and a carrier's logical sub-engine
starts to move to the lowest spare (R626, R639). -/
def SubengineRetired (s : State) (i : Nat) (done : State → Prop) : Prop :=
  (s.tln.moves.any (fun m => m.2.1 == i) = true →
    done (s.setTln { s.tln with waiting := s.tln.waiting ++ [(i, causeRequest)] })) ∧
  (s.tln.moves.any (fun m => m.2.1 == i) = false →
    (s.tln.retired.contains i = true → done s) ∧
    (s.tln.retired.contains i = false →
      (∀ m, s.tln.moves.find? (fun m => m.2.2.1 == i) = some m →
        (s.spareSes = [] → done (s.tlnRaise 3)) ∧
        (∀ j rest, s.spareSes = j :: rest →
          let u := s.markRetired i 0x3F 0 causeRequest
          let moves := s.tln.moves.map fun n => if n.1 == m.1 then (n.1, n.2.1, j, n.2.2.2) else n
          done (u.setTln { u.tln with moves := moves }))) ∧
      (s.tln.moves.find? (fun m => m.2.2.1 == i) = none →
        (s.logicalOf i = none → done (s.markRetired i 0x3F 0 causeRequest)) ∧
        (∀ k, s.logicalOf i = some k →
          (s.spareSes = [] → done (s.tlnRaise 3)) ∧
          (∀ j rest, s.spareSes = j :: rest →
            let moves := s.tln.moves ++ [(k, i, j, causeRequest)]
            let u := s.setTln { s.tln with moves := moves, retired := s.tln.retired ++ [i], seSince := s.tln.seSince + 1 }
            let v := { u with progs := u.progs.map (onMoved k) }
            done ((v.put R.TLN_STATUS_migrating 1).tlnRaise 0))))))

/-- What loading a test instruction leaves: an instruction that the lifecycle does not allow selects the bypass register,
and lands that the boundary register lets go of are parked and busy for an interval (R671, R672, R675). -/
def TapLoaded (s : State) (i : TapInstr) (done : State → Prop) : Prop :=
  let allowed := s.nv.lifecycle == 0 || s.nv.lifecycle == 3 || [.bypass, .idcode, .sample, .dapAccess].contains i
  let t := { s with tap := if allowed then i else .bypass }
  (s.tapDrives = false ∨ t.tapDrives = true → done t) ∧
  (s.tapDrives = true → t.tapDrives = false → done ((t.landsOf t.fnRuns).foldl (fun u n =>
    if u.on (R.PIN_CFG_busy n) then u
    else ((u.put (R.PIN_CFG_attached n) 0).parkNow n).put (R.PIN_CFG_busy n) 1) t))

end Sys2Proof.Machine

open Sys2Proof Sys2Proof.Machine

/-- A bad Keychain frame is discarded and counted. A frame with a wrong gate length or check byte is counted in KCNT
and handed to fault source 6; the unit does not act on it and does not respond: only what passes it through an open
gate leaves. The same holds of a frame of any command whose check byte is wrong. It says that KEYCHAIN_FRAME_BAD
completes with that effect in every state out of held cold reset. -/
def Obligations.KeychainBadFrameDiscarded : Prop :=
  ∀ s : State, s.phase ≠ .held →
    (let x := s.kcLines.headD {}
     let u := (State.count { s with kcLines := s.kcLines.tail } R.CHN_KC_FRAMES_discarded).fault { src := 6 }
     exec .keychainFrameBad s = .next (settle
       (if s.on R.CHN_KC_STATUS_gate_open then
         { u with
           out := s.out ++ .keychainOn x.bits ::
             if x.below = [] then [] else [.keychain ((x.cut.map fun n => x.below.take n).getD x.below)] }
        else u))) ∧
    ∀ w, kcCheckOk w = false → ∀ c ∈ [Instr.kcNop w, .assign w, .rollCall w, .kread w, .attnCtl w, .unitReset w,
        .keychainPwrSet w, .unassign w, .winAddr w, .winWdata w, .winRead w, .winResult w, .keychainReservedCmd w],
      exec c s = exec .keychainFrameBad
        { s with kcLines := { bits := lsbBits 48 w.frame.toNat, below := w.below, cut := w.cut } :: s.kcLines }

/-- ROLL_CALL and KREAD answer with what they read and change no state but their counters; a NOP does nothing. An
accepted ROLL_CALL or KREAD sends the data its rule names with status OK, counts the frame, and changes nothing else.
A NOP and a reserved command have no effect on state; the reserved one is answered BAD_CMD. A frame that addresses
another unit, or none, is only passed on and relayed; one whose argument breaks R175 is answered BAD_ARG and not
carried out. It says that NOP, ROLL_CALL, KREAD and KEYCHAIN_RESERVED_CMD complete with these effects. -/
def Obligations.KeychainReadsAnswered : Prop :=
  ∀ (s : State) (w : KcIn) (gate : Bool), gate = s.on R.CHN_KC_STATUS_gate_open →
    (KcTakes s w 0 → exec (.kcNop w) s = .next (settle (kcRelayed (kcHeard s w) w gate))) ∧
    (KcTakes s w 2 → exec (.rollCall w) s = .next (settle (kcDone s (kcHeard s w) w s.addr s.rollCall 0))) ∧
    (KcTakes s w 3 →
      exec (.kread w) s = .next (settle (kcDone s (kcHeard s w) w s.addr (s.kread (kcParse w).arg) 0))) ∧
    (∀ k, 12 ≤ k → KcTakes s w k →
      exec (.keychainReservedCmd w) s = .next (settle (kcAnswered (kcHeard s w) w s.addr 0 ksBadCmd))) ∧
    (s.phase ≠ .held → kcCheckOk w = true → (kcParse w).bcast = false →
      ∀ x ∈ [(Instr.rollCall w, 2), (.kread w, 3), (.attnCtl w, 4), (.unitReset w, 5), (.keychainPwrSet w, 6),
          (.unassign w, 7), (.winAddr w, 8), (.winWdata w, 9), (.winRead w, 10), (.winResult w, 11)],
        (kcParse w).cmd = x.2 →
        (s.kcMine (kcParse w) = false → exec x.1 s = .next (settle (kcRelayed (kcHeard s w) w gate))) ∧
        (s.kcMine (kcParse w) = true → (kcParse w).argOk = false →
          exec x.1 s = .next (settle (kcAnswered (kcHeard s w) w s.addr 0 ksBadArg))))

/-- ASSIGN, UNASSIGN, ATTN_CTL, UNIT_RESET, PWR_SET and the window commands act as their rows say. Each accepted frame
is counted and answered once. ATTN_CTL clears the named causes and writes the enables when bit 16 is set; UNIT_RESET
asks for a unit reset and PWR_SET for a power state, but neither is carried out during the power-fail sequence; ASSIGN
is taken by an unassigned unit, answered with KID, and gives the unit its address; UNASSIGN takes it away. While
nothing blocks the window, WIN_ADDR sets the offset, WIN_WDATA stores a half and with the high half starts a write,
WIN_READ starts a read, and WIN_RESULT answers with the half of the result, PENDING or ERROR (in IDLE, OK with data 0:
the model's choice, log entry 105). A blocked command is answered with the reason and is not carried out. Completes,
each with its own effect: ATTN_CTL, UNIT_RESET, KEYCHAIN_PWR_SET, UNASSIGN, ASSIGN, WIN_ADDR, WIN_WDATA, WIN_READ,
WIN_RESULT. -/
def Obligations.KeychainCommandsAct : Prop :=
  ∀ (s : State) (w : KcIn) (a : State), a = kcHeard s w →
    (KcTakes s w 4 →
      let c := a.put R.CHN_KC_ATTN_cause (clearBits (s.get R.CHN_KC_ATTN_cause) (bits (kcParse w).arg 1 5))
      exec (.attnCtl w) s = .next (settle (kcDone s (if (kcParse w).arg.testBit 16 then
        c.put R.CHN_KC_ATTN_en (setBit (bits (kcParse w).arg 8 6) 0) else c) w s.addr 0 0))) ∧
    (KcTakes s w 5 →
      (s.failing = false →
        exec (.unitReset w) s = .next (settle (kcDone s (a.askReset { cause := 3 }) w s.addr 0 0))) ∧
      (s.failing = true → (kcParse w).bcast = false →
        exec (.unitReset w) s = .next (settle (kcAnswered a w s.addr 0 ksNotReady)))) ∧
    (KcTakes s w 6 →
      (s.failing = false → exec (.keychainPwrSet w) s =
        .next (settle (kcDone s (a.pwrRequest 0xF (kcParse w).arg) w s.addr 0 0))) ∧
      (s.failing = true → (kcParse w).bcast = false →
        exec (.keychainPwrSet w) s = .next (settle (kcAnswered a w s.addr 0 ksNotReady)))) ∧
    (KcTakes s w 7 → exec (.unassign w) s = .next (settle (kcDone s a.unassign w s.addr 0 0)) ∧
      a.unassign.assigned = false) ∧
    (s.phase ≠ .held → kcCheckOk w = true → (kcParse w).cmd = 1 → (kcParse w).bcast = false →
      (s.assigned = false → (kcParse w).argOk = true →
        exec (.assign w) s = .next (settle (kcDone s (a.assign (kcParse w).addr) w 0 s.kid 0))) ∧
      (s.assigned = true →
        exec (.assign w) s = .next (settle (kcRelayed a w (s.on R.CHN_KC_STATUS_gate_open))))) ∧
    (KcTakes s w 8 → s.winBlocked false = none → exec (.winAddr w) s = .next (settle (kcDone s
      { a with window := { s.window with addr := 4 * (kcParse w).arg } } w s.addr 0 0))) ∧
    (KcTakes s w 9 → s.winBlocked false = none →
      let v := (kcParse w).arg % 65536
      ((kcParse w).arg.testBit 16 = false → exec (.winWdata w) s = .next (settle (kcDone s
        { a with window := { s.window with wlow := v } } w s.addr 0 0))) ∧
      ((kcParse w).arg.testBit 16 = true → exec (.winWdata w) s = .next (settle (kcDone s
        { a with window := { s.window with
            wdata := s.window.wlow + v * 2 ^ 16, write := true, st := .pending } } w s.addr 0 0)))) ∧
    (KcTakes s w 10 → s.winBlocked false = none → exec (.winRead w) s = .next (settle (kcDone s
      { a with window := { s.window with write := false, st := .pending } } w s.addr 0 0))) ∧
    (KcTakes s w 11 → s.winBlocked true = none → exec (.winResult w) s = .next (settle (kcDone s a w s.addr
      (if s.window.st = .pending ∨ s.window.st = .error ∨ s.window.write = true then 0
       else bits s.window.result (16 * (kcParse w).arg) 16)
      (if s.window.st = .pending then ksPending else if s.window.st = .error then ksError else 0)))) ∧
    (∀ st, (KcTakes s w 10 → s.winBlocked false = some st →
        exec (.winRead w) s = .next (settle (kcAnswered a w s.addr 0 st))) ∧
      (KcTakes s w 8 → s.winBlocked false = some st →
        exec (.winAddr w) s = .next (settle (kcAnswered a w s.addr 0 st))) ∧
      (KcTakes s w 9 → s.winBlocked false = some st →
        exec (.winWdata w) s = .next (settle (kcAnswered a w s.addr 0 st))) ∧
      (KcTakes s w 11 → s.winBlocked true = some st →
        exec (.winResult w) s = .next (settle (kcAnswered a w s.addr 0 st))))

/-- Power applied, the cutoff and the end of a power fail leave cold reset held; a sample of the supply shows its
band. SUPPLY_APPLIED and CUTOFF put every register at its cold value and empty every memory and queue, but keep flash
and fuses. START_UP_QUALIFIED lets a held unit go on to its release. POWER_FAIL_SEQUENCE runs the next steps of the
sequence, which starts only after a sample below 15.0 V and then runs on: step 1 closes appends and the image session,
2 makes the ledger durable, 3 sends the epoch and idles Pintle, 4 leaves the log, 5 parks the lands, and 6 leaves cold
reset held with the lands as they are; in KEEP and OFF only 4 and 6 run. A sample is shown in PWR_VIN, the low and
over bits follow it, and the causes low_band, over and dip are set when the sample enters the low band, goes above
80.0 V, or comes back from below 15.0 V. Completes: SUPPLY_APPLIED, CUTOFF, START_UP_QUALIFIED, POWER_FAIL_SEQUENCE,
SUPPLY_SAMPLE. -/
def Obligations.SupplyResetsAndBands : Prop :=
  ∀ s : State,
    (∃ t, exec .supplyApplied s = .next t ∧ ColdHeld t ∧ t.nv = s.nv ∧ t.pending = s.pending ∧ t.sup.feed = .fed) ∧
    (∃ t, exec .cutoff s = .next t ∧ ColdHeld t ∧ t.nv = s.nv ∧ t.pending = s.pending ∧ t.sup.feed = .off) ∧
    (s.phase = .held → exec .startUpQualified s = .next { s with phase := .asserted, sup := {}, pinParked := [] }) ∧
    (s.phase ≠ .held → exec .startUpQualified s = .next s) ∧
    (∀ steps acked step4 energy, s.phase = .held ∨ s.sup.pf = 0 ∧ s.sup.below = false →
      exec (.powerFailSequence steps acked step4 energy) s = .next (settle s)) ∧
    (∀ (n : Fin 6) acked step4 energy, s.phase ≠ .held → s.sup.pf ≠ 0 ∨ s.sup.below = true →
      exec (.powerFailSequence n.succ acked step4 energy) s = .next (settle
        (State.powerFail acked step4.toNat energy.toNat n (s.pfStep acked step4.toNat energy.toNat)))) ∧
    (∀ acked step4 energy, s.phase ≠ .held → s.sup.pf ≠ 0 ∨ s.sup.below = true →
      let run := exec (.powerFailSequence 1 acked step4 energy) s
      (s.sup.pf = 0 → s.pfFull = true → run = .next (settle (State.kcRaise { pfBegun s 1 with
        img := none
        ldg := { s.ldg with closed := true, due := s.ldg.due.filter fun i => match i with
                              | .append _ => false
                              | _ => true } } 3))) ∧
      (s.sup.pf = 1 → run = .next (settle (atStep s 2).ldgFlush)) ∧
      (s.sup.pf = 2 → run = .next (settle (State.portsIdle { (atStep s 3).mirrorAtPowerFail acked with
        pfAcked := s.ldg.pair.role = 1 && s.member && acked } 1))) ∧
      (s.sup.pf = 3 ∨ s.sup.pf = 0 ∧ s.pfFull = false → ∃ t, run = .next (settle t) ∧ ∃ log, t.nv.pfLog = some log ∧
        log.step4 = step4.toNat ∧ log.energy = energy.toNat ∧ log.flushed = s.pfFull ∧
        (s.pfFull = false → log.shutdown = false)) ∧
      (s.sup.pf = 4 → s.pfFull = true → run = .next (settle
        ((List.range 7).foldl (fun t m => t.ethLinkTo m false) (atStep s 5).pinsRelease.pcieDown))) ∧
      (s.sup.pf = 5 ∨ s.sup.pf = 4 ∧ s.pfFull = false → ∃ t, run = .next (settle t) ∧ ColdHeld t ∧ t.nv = s.nv ∧
        t.pending = s.pending ∧ t.sup.feed = .stopped ∧ t.pinParked = s.pinParked)) ∧
    (∀ vin : BitVec 16, s.phase ≠ .held →
    ∃ t, exec (.supplySample vin) s = .next (settle t) ∧
      Only { s with sup := { s.sup with below := vin.toNat < 1500 } } t
        [R.PWR_VIN_vin, R.PWR_STATUS_in_low, R.PWR_STATUS_in_over, R.PWR_STATUS_cause, R.PWR_CNT_count 0,
         R.PWR_CNT_count 1, R.PWR_CNT_count 2] ∧
      t.get R.PWR_VIN_vin = vin.toNat % 2 ^ R.PWR_VIN_vin.w ∧
      t.get R.PWR_STATUS_in_low = b2n (1500 ≤ vin.toNat && vin.toNat < 1800) ∧
      t.get R.PWR_STATUS_in_over = b2n (8000 < vin.toNat) ∧
      (1500 ≤ vin.toNat → vin.toNat < 1800 → s.on R.PWR_STATUS_in_low = false →
        t.bitOf R.PWR_STATUS_cause 0 = true ∧ t.get (R.PWR_CNT_count 0) = s.plus (R.PWR_CNT_count 0) 1) ∧
      (8000 < vin.toNat → s.on R.PWR_STATUS_in_over = false →
        t.bitOf R.PWR_STATUS_cause 1 = true ∧ t.get (R.PWR_CNT_count 1) = s.plus (R.PWR_CNT_count 1) 1) ∧
      (s.sup.below = true → 1500 ≤ vin.toNat →
        t.bitOf R.PWR_STATUS_cause 2 = true ∧ t.get (R.PWR_CNT_count 2) = s.plus (R.PWR_CNT_count 2) 1))

/-- Whatever happens to the hold-up store, its status shows the state, reason and write-through that R109 and R112
give. After a gauge update, a calibration, a self-test time-out, an absent store, a charger fault, and the start and
end of an overvoltage, HUP_STATUS shows the state of the store as R109 decides it; the event itself is recorded; and
no register outside the HUP block, and nothing else, changes. A gauge update moves the charge by the flow less the
leakage, shows both estimates, and counts a disagreement, of which the sixteenth starts a recalibration. A calibration
sets capacitance, ESR, charge and leakage, and passes, fails or gives a reason by R110. Where the charger does not
charge, neither a calibration nor the search for a store ends. Completes: GAUGE_UPDATE, CALIBRATION_END,
SELF_TEST_TIMEOUT, ABSENT_DETECT, CHARGER_FAULT, HUP_OVERVOLT, HUP_OVERVOLT_END. -/
def Obligations.StoreJudgedAfterEveryEvent : Prop :=
  ∀ s : State,
    (∀ (v : BitVec 20) flow, ∃ t, exec (.gaugeUpdate v flow) s = .next (settle t) ∧
      StoreBecomes s t t.sup gaugeFlds ∧ GaugeShown t ∧
      t.get R.HUP_VSTORE_value = v.toNat % 2 ^ R.HUP_VSTORE_value.w ∧
      (let x : Supply := { s.sup with
         charge := ((s.sup.charge : Int) + flow - s.sup.leak).toNat
         absent := s.sup.absent && v.toNat < 1000, topUp := s.sup.topUp && v.toNat < 15000 }
       (s.sup.cal ≠ .none → t.sup = x) ∧
       (s.sup.cal = .none → t.apart = false → t.sup = { x with count := 0 }) ∧
       (s.sup.cal = .none → t.apart = true → s.sup.count + 1 < 16 → t.sup = { x with count := s.sup.count + 1 }) ∧
       (s.sup.cal = .none → t.apart = true → 16 ≤ s.sup.count + 1 → t.sup = { x with
         disagree := true, latest := 1, count := 0
         cal := if s.sup.pf ≠ 0 ∨ s.sup.failed = some 7 then .none
           else if 12000 < t.get R.HUP_VSTORE_value then .discharge else .recharge } ∧
         t.bitOf R.HUP_STATUS_cause 1 = true ∧ { src := 8 } ∈ t.dueFaults))) ∧
    (∀ (counted step : BitVec 26) (v : BitVec 20) (leak : BitVec 16),
      let cap := counted.toNat / 300
      let esr := step.toNat / (5 * s.get R.HUP_CFG_charge_current)
      let x : Supply := { s.sup with
        cal := .none, charge := cap * 1500, leak := leak.toNat, count := 0, absent := false }
      s.chargerRuns = true → s.sup.cal = .selfTest ∨ s.sup.cal = .recharge →
      ∃ t, exec (.calibrationEnd counted step v leak) s = .next (settle t) ∧
        StoreBecomes s t t.sup (R.HUP_CAP_value :: R.HUP_ESR_value :: gaugeFlds) ∧ GaugeShown t ∧
        t.get R.HUP_CAP_value = cap % 2 ^ R.HUP_CAP_value.w ∧ t.get R.HUP_ESR_value = esr % 2 ^ R.HUP_ESR_value.w ∧
        t.get R.HUP_VSTORE_value = v.toNat % 2 ^ R.HUP_VSTORE_value.w ∧ t.bitOf R.HUP_STATUS_cause 3 = true ∧
        (s.sup.cal = .selfTest → s.calFault cap esr = 0 → t.sup = { x with passed := true, calReason := 0 }) ∧
        (s.sup.cal = .selfTest → s.calFault cap esr ≠ 0 → t.sup = { x with failed := some (s.calFault cap esr) }) ∧
        (s.sup.cal = .recharge → s.calFault cap esr = 0 →
          t.sup = { x with calReason := 0, disagree := s.sup.disagree && t.apart }) ∧
        (s.sup.cal = .recharge → s.calFault cap esr ≠ 0 →
          t.sup = { x with calReason := s.calFault cap esr, latest := s.calFault cap esr })) ∧
    (∀ counted step v leak, s.chargerRuns = false ∨ s.sup.cal = .none ∨ s.sup.cal = .discharge →
      exec (.calibrationEnd counted step v leak) s = .next (settle s)) ∧
    (s.sup.cal = .selfTest → s.on R.PWR_STATUS_in_low = false → ∃ t, exec .selfTestTimeout s = .next (settle t) ∧
      StoreBecomes s t { s.sup with failed := some 6, cal := .none, absent := false, topUp := false } [] ∧
      t.get R.HUP_STATUS_state = 4 ∧ t.get R.HUP_STATUS_reason = 6) ∧
    (s.sup.cal ≠ .selfTest ∨ s.on R.PWR_STATUS_in_low = true → exec .selfTestTimeout s = .next (settle s)) ∧
    (s.sup.cal = .selfTest → s.chargerRuns = true → ∃ t, exec .absentDetect s = .next (settle t) ∧
      StoreBecomes s t { s.sup with absent := true } []) ∧
    (s.sup.cal ≠ .selfTest ∨ s.chargerRuns = false → exec .absentDetect s = .next (settle s)) ∧
    (s.sup.failed ≠ some 7 → ∃ t, exec .chargerFault s = .next (settle t) ∧
      StoreBecomes s t { s.sup with failed := some 7, cal := .none, absent := false, topUp := false } [] ∧
      t.get R.HUP_STATUS_state = 4 ∧ t.get R.HUP_STATUS_reason = 7 ∧
      (s.get R.HUP_STATUS_state ≠ 4 ∨ s.sup.failed.isSome = true → t.bitOf R.HUP_STATUS_cause 2 = true)) ∧
    (s.sup.failed = some 7 → exec .chargerFault s = .next (settle s)) ∧
    (∃ t, exec .hupOvervolt s = .next (settle t) ∧
      StoreBecomes s t { s.sup with overVolt := true, latest := 5, topUp := false } []) ∧
    (∃ t, exec .hupOvervoltEnd s = .next (settle t) ∧ StoreBecomes s t { s.sup with overVolt := false } [])

/-- A request for a power state is answered as R103 says; the drain's end completes the entry. A refused request only
sets its result and the cause refused. An accepted one for the present state sets result and target; one for QUIET
enters QUIET, one for ACTIVE leaves it or wakes the unit, one for KEEP or OFF begins the entry or swaps the two. Each
transition has busy at 1 until a later cycle (log entry 96). A write by a MID that R101 does not name, or during the
power-fail sequence, changes nothing. The end of the drain makes the target current, ends the watchdog and the PLL's
lock. A rise of PERST_N is shown, and wakes a unit in KEEP or OFF. Fold-back and retry set the rails' states, the
top-up starts in KEEP and OFF, and the end of a discharge begins the recharge. Completes: PWR_STATE_WRITE,
ENTRY_DRAIN_END, PERST_DEASSERT, AUX_FOLD_BACK, AUX_RETRY, TOP_UP, RECALIBRATION_DISCHARGE_END. -/
def Obligations.PowerRequestsJudged : Prop :=
  ∀ s : State,
    (∀ (mid : BitVec 4) (value : W32), [0, 1, 2, 4].contains mid.toNat = true → s.phase ≠ .held → s.failing = false →
      let goal := bits value.toNat 0 2
      let a := (s.put R.PWR_STATE_last_result 0).put R.PWR_STATE_target goal
      let b := a.put R.PWR_STATE_busy 1
      (s.pwrJudge goal ≠ prOk → exec (.pwrStateWrite mid value) s = .next (settle
        ((s.put R.PWR_STATE_last_result (s.pwrJudge goal)).raise R.PWR_STATUS_cause 4 (R.PWR_CNT_count 4)))) ∧
      (s.pwrJudge goal = prOk → goal = s.power → exec (.pwrStateWrite mid value) s = .next (settle a)) ∧
      (s.pwrJudge goal = prOk → goal ≠ s.power →
        (s.running = true → goal = 1 → exec (.pwrStateWrite mid value) s = .next (settle (b.enterQuiet mid.toNat))) ∧
        (s.running = true → goal = 0 → exec (.pwrStateWrite mid value) s = .next (settle b.exitQuiet)) ∧
        (s.running = true → 2 ≤ goal → exec (.pwrStateWrite mid value) s = .next (settle
          { b.put R.PWR_STATE_busy 1 with sq0Stop := true, ldg := { s.ldg with closed := true } })) ∧
        (s.running = false → goal = 0 → exec (.pwrStateWrite mid value) s = .next (settle
          (((b.put R.PWR_STATE_target 0).put R.PWR_STATE_busy 1).askReset { cause := 4 }))) ∧
        (s.running = false → 2 ≤ goal →
          exec (.pwrStateWrite mid value) s = .next (settle (b.put R.PWR_STATE_current goal))))) ∧
    (∀ (mid : BitVec 4) value, [0, 1, 2, 4].contains mid.toNat = false ∨ s.phase = .held ∨ s.failing = true →
      exec (.pwrStateWrite mid value) s = .next (settle s)) ∧
    (s.on R.PWR_STATE_busy = true → s.running = true → s.sq0Stop = true → s.failing = false →
      ∃ t, exec .entryDrainEnd s = .next (settle t) ∧ t.power = s.get R.PWR_STATE_target % 4 ∧
        t.on R.PWR_STATE_busy = false ∧ t.on R.GLB_WDOG_CTL_running = false ∧ t.on R.CLK_STATUS_pll_lock = false ∧
        t.bitOf R.PWR_STATUS_cause 3 = true ∧ t.sq0Stop = false) ∧
    (s.on R.PWR_STATE_busy = false ∨ s.running = false ∨ s.sq0Stop = false ∨ s.failing = true →
      exec .entryDrainEnd s = .next (settle s)) ∧
    (s.running = true → exec .perstDeassert s = .next (s.put R.INT_LINK_perst_n 1)) ∧
    (2 ≤ s.power → s.get R.PWR_STATE_target ≠ 0 → s.phase = .up → s.failing = false → exec .perstDeassert s = .next
      ((((s.put R.INT_LINK_perst_n 1).put R.PWR_STATE_target 0).put R.PWR_STATE_busy 1).askReset { cause := 4 })) ∧
    (∀ five, exec (.auxFoldBack five) s = .next (settle (State.fault (State.raise { s with
      sup := if five then { s.sup with fold5 := true } else { s.sup with fold3 := true } }
        R.PWR_STATUS_cause 5 (R.PWR_CNT_count 5)) { src := 29, detail := 5 }))) ∧
    (∀ five, exec (.auxRetry five) s = .next { s with
      sup := if five then { s.sup with fold5 := false } else { s.sup with fold3 := false } }) ∧
    (s.running = false → s.chargerRuns = true → exec .topUp s = .next { s with sup := { s.sup with topUp := true } }) ∧
    (s.running = true ∨ s.chargerRuns = false → exec .topUp s = .next s) ∧
    (s.sup.cal = .discharge →
      exec .recalibrationDischargeEnd s = .next { s with sup := { s.sup with cal := .recharge } }) ∧
    (s.sup.cal ≠ .discharge → exec .recalibrationDischargeEnd s = .next s)

/-- RST_N, a key write of GLB_RESET and the watchdog ask for a warm reset, and when it takes effect only what it keeps
is kept. Each event records its cause as the pending reset, or changes nothing where its condition does not hold; a
reset asked for while another is pending joins it. When the reset takes effect every register field that a warm reset
does not keep is at its cold value, GLB_RESET_CAUSE names the cause, and programs, queues and buffers are gone. A
lock-step failure in the boot ROM resets at once; one of the control processor halts it, stops the watchdog, aborts
the admin queue and frees its Tumblers. Completes: RST_N_ASSERT, GLB_RESET_WARM, WARM_RESET_EFFECT, WATCHDOG_EXPIRY,
WATCHDOG_KICK, ROM_LOCKSTEP, CP_LOCKSTEP_HALT. -/
def Obligations.ResetsAskedAndTaken : Prop :=
  ∀ s : State,
    (s.phase ≠ .held → s.failing = false →
      (s.resetDue = none → exec .rstNAssert s = .next { s with
        resetDue := some { cause := 1 }, wokeAt := if 2 ≤ s.power then s.now else s.wokeAt }) ∧
      ∀ a, s.resetDue = some a → ∃ b, exec .rstNAssert s = .next { s with resetDue := some b } ∧ b.cause = 1 ∧
        b.switch = a.switch) ∧
    (s.phase = .held ∨ s.failing = true → exec .rstNAssert s = .next s) ∧
    (∀ mid value, s.answers = true → bits value.toNat 16 16 = 0xD740 → value.toNat.testBit 0 = true →
      [0, 1, 2, 4].contains mid.toNat = true → exec (.glbResetWarm mid value) s =
        .next (s.askReset { cause := 2, switch := value.toNat.testBit 1 && mid.toNat == 2, mid := mid.toNat })) ∧
    (∀ mid value, bits value.toNat 16 16 ≠ 0xD740 → exec (.glbResetWarm mid value) s = .next s) ∧
    (∀ a, s.resetDue = some a → ∃ t, exec .warmResetEffect s = .next (settle t) ∧ t.resetDue = none ∧
      t.phase = .asserted ∧ t.coldBoot = false ∧ t.get R.GLB_RESET_CAUSE_cause = a.cause % 2 ^ R.GLB_RESET_CAUSE_cause.w ∧
      t.progs = [] ∧ t.ops = [] ∧ t.sqs = [] ∧ t.wqs = [] ∧ t.sram = [] ∧
      ∀ f : Fld, keepsWarm f.key = false →
        f.key ∉ [R.GLB_RESET_CAUSE_cause.key, R.GLB_RESET_CAUSE_switch_req.key, R.GLB_RESET_CAUSE_mid.key,
          R.INT_LINK_perst_n.key] → t.get f = f.cold) ∧
    (s.resetDue = none → exec .warmResetEffect s = .next (settle s)) ∧
    (s.wdogDue = true → exec .watchdogExpiry s = .next (s.askReset { cause := 5 })) ∧
    (s.wdogDue = false → exec .watchdogExpiry s = .next s) ∧
    (∀ mid value, exec (.watchdogKick mid value) s =
      .next (if s.answers = true ∧ mid.toNat = 2 ∧ value.toNat = 0x4B1C then { s with wdogAt := s.now } else s)) ∧
    (s.phase = .asserted ∨ s.phase = .noClock → exec .romLockstep s = .next (s.warmReset { cause := 6 })) ∧
    (s.romServes = true → exec .romLockstep s = .next (s.askReset { cause := 6 })) ∧
    (s.cpHalted = false → s.isUp = true → s.romServes = false → ∃ t : State, exec .cpLockstepHalt s = .next (settle t) ∧
      t = State.fault ((State.dropFw (State.adminAbort { s.put R.GLB_WDOG_CTL_running 0 with cpHalted := true })
        fun _ => true).freeTumblers fun h => h.1 == 2) { src := 0 }) ∧
    (s.cpHalted = true ∨ s.isUp = false ∨ s.romServes = true → exec .cpLockstepHalt s = .next (settle s))

/-- A release boots, stops for want of a clock, or halts; losses of clocks are shown and counted. A release from
asserted reset runs the boot; without a clock the unit waits in NO_CLOCK and goes on when the PLL locks; after three
ROM lock-step resets in a row it halts. A lost reference or lock stops the unit safely unless it is stopped already; a
lost 32.768 kHz oscillator clears xt32_ok and disciplined, and its return sets them. Completes: RESET_RELEASE,
NO_CLOCK, NO_CLOCK_RETRY, REF25_LOSS, XT32_LOSS, XT32_RESTORED. -/
def Obligations.BootAndClocks : Prop :=
  ∀ s : State,
    (∀ xt pc a b, s.phase = .asserted → s.romRun < 3 →
      exec (.resetRelease xt pc a b) s = .next (settle (s.bootBegin.bootRest xt pc a b))) ∧
    (∀ xt pc a b, s.phase = .asserted → 3 ≤ s.romRun → exec (.resetRelease xt pc a b) s =
      .next (settle { s.put R.GLB_BOOT_STATUS_stage stageHalt with phase := .halted })) ∧
    (∀ xt pc a b, s.phase ≠ .asserted → exec (.resetRelease xt pc a b) s = .next (settle s) ∧
      exec .noClock s = .next (settle s)) ∧
    (s.phase = .asserted → s.romRun < 3 → exec .noClock s =
      .next (settle { s.bootBegin.put R.GLB_BOOT_STATUS_stage stageNoClock with phase := .noClock })) ∧
    (∀ xt pc a b, s.phase = .noClock → exec (.noClockRetry true xt pc a b) s = .next (settle (s.bootRest xt pc a b))) ∧
    (∀ xt pc a b, exec (.noClockRetry false xt pc a b) s = .next (settle s)) ∧
    (∀ pll : Bool, s.isUp = true → s.running = true →
      let u := (s.put R.CLK_STATUS_pll_lock 0).put R.CLK_STATUS_disciplined 0
      let v := if pll then (u.raise R.CLK_EVT_cause 2 (R.CLK_CNT_count 2)).fault { src := 1, detail := 2 }
        else ((u.put R.CLK_STATUS_ref25_ok 0).raise R.CLK_EVT_cause 0 (R.CLK_CNT_count 0)).fault { src := 1 }
      (s.safe = true → exec (.ref25Loss pll) s = .next (settle v)) ∧
      (s.safe = false → exec (.ref25Loss pll) s = .next (settle (v.safeStop 3 0)))) ∧
    (∀ pll, s.isUp = false ∨ s.running = false → exec (.ref25Loss pll) s = .next (settle s)) ∧
    (∀ error : Option (BitVec 20), exec (.xt32Loss error) s = .next (settle (State.fault (State.raise
      ((((error.map fun e => s.put R.CLK_XT32_PPM_error e.toNat).getD s).put R.CLK_STATUS_xt32_ok 0).put
        R.CLK_STATUS_disciplined 0) R.CLK_EVT_cause 1 (R.CLK_CNT_count 1)) { src := 1, detail := 1 }))) ∧
    (∀ error : BitVec 20, exec (.xt32Restored error) s = .next (((s.put R.CLK_XT32_PPM_error error.toNat).put
      R.CLK_STATUS_xt32_ok 1).put R.CLK_STATUS_disciplined (s.get R.CLK_STATUS_ref25_ok)))

/-- A register write takes each field by its access code, lock, writer and encodings; a read shows the fields and
changes nothing. A 32-bit write of a register without behaviour of its own gives each of its fields the value that its
access code, its lock, the writer's MID and its permitted encodings give it, and changes nothing else but which
programs are ready. A read gives the register's value and changes no register. An access that is narrow or misaligned
is only counted by fault source 3 (a read gives 0). BAR4 aliases a mailbox page, a write to BAR2 is refused, a
configuration request reaches its register, and a request with an address goes to the function whose BAR it matches,
or is unsupported. A function without memory access gets Unsupported Request. Where registers do not answer (KEEP,
OFF, a reset under way, no clock) no access has an effect, nor has any other command that is an access of one
register. Completes: REGISTER_WRITE and REGISTER_READ, for every target and width. -/
def Obligations.RegisterAccessByCode : Prop :=
  ∀ (s : State) (mid : BitVec 4) (origin : BitVec 10) (v : W64) (u : Bool) (width : Width),
    let w := who mid origin
    let wrote (target : Target) (t : State) := exec (.registerWrite mid origin target width v) s = .next (settle t.reready)
    let gave (target : Target) (t : State) (x : Nat) := exec (.registerRead mid origin target width u) s = .next (settle
      (if mid.toNat < 2 then { t with readData := x }.complete (.completion 0 x) else { t with readData := x }))
    (∀ (off : BitVec 20) (r : RegAt), s.accepts w (.bar0 off) = true → s.unsupported mid.toNat (.bar0 off) = false →
      (PlainAt s mid.toNat off.toNat r → width = .word → ∃ t, wrote (.bar0 off) t ∧ Only s t r.flds ∧
        ∀ f ∈ r.flds, Written s t mid.toNat (v.toNat % 2 ^ 32) f) ∧
      (PlainAt s mid.toNat off.toNat r → width = .word → gave (.bar0 off) s (s.value mid.toNat r)) ∧
      (width = .narrow ∨ width = .word ∧ off.toNat % 4 ≠ 0 ∨ width = .long ∧ off.toNat % 8 ≠ 0 →
        wrote (.bar0 off) (s.accessRefused off.toNat w) ∧ gave (.bar0 off) (s.accessRefused off.toNat w) 0) ∧
      (width = .word ∨ width = .long → wrote (.bar0 off) (s.save w off.toNat width v.toNat) ∧
        gave (.bar0 off) (s.load w off.toNat width u).1 (s.load w off.toNat width u).2) ∧
      (∀ n, width = .burst n → mid.toNat < 2 → wrote (.bar0 off) (s.inboundBad mid.toNat (.longWrite off)) ∧
        exec (.registerRead mid origin (.bar0 off) width u) s = .next (settle (s.inboundBad mid.toNat (.longRead off))))) ∧
    (∀ off : BitVec 26, s.accepts w (.bar2 off) = true → s.unsupported mid.toNat (.bar2 off) = false →
      wrote (.bar2 off) (s.inboundBad mid.toNat (.pageWrite off)) ∧
      (width = .word → gave (.bar2 off) s (s.mirrorAt (off.toNat / 4 * 4))) ∧
      (∀ n, width = .burst n →
        exec (.registerRead mid origin (.bar2 off) width u) s = .next (settle (s.pageRead mid.toNat off.toNat n.toNat)))) ∧
    (∀ off : BitVec 16, s.accepts w (.bar4 off) = true → s.unsupported mid.toNat (.bar4 off) = false →
      width = .word ∨ width = .long →
      (0x100 ≤ off.toNat % 4096 → wrote (.bar4 off) s ∧ gave (.bar4 off) s 0) ∧
      (off.toNat % 4096 < 0x100 →
        let o := 0x8000 + off.toNat / 4096 * 0x100 + off.toNat % 4096
        wrote (.bar4 off) (s.save w o width v.toNat) ∧
          gave (.bar4 off) (s.load w o width u).1 (s.load w o width u).2)) ∧
    (∀ r : CfgReg, s.accepts w (.config r) = true →
      wrote (.config r) (s.cfgWrite mid.toNat v.toNat r) ∧ gave (.config r) s (s.cfgRead mid.toNat r)) ∧
    (∀ target, (∀ a, target ≠ .mem a) → s.accepts w target = true → s.unsupported mid.toNat target = true →
      wrote target (s.inboundBad mid.toNat .unsupportedPosted) ∧
      exec (.registerRead mid origin target width u) s = .next (settle (s.inboundBad mid.toNat .unsupportedRead))) ∧
    (∀ target, (∀ a, target ≠ .mem a) → s.accepts w target = false →
      wrote target s ∧ exec (.registerRead mid origin target width u) s = .next (settle s)) ∧
    (∀ (a : W64) f t, s.barMatch a.toNat = some (f, t) →
      wrote (.mem a) (s.writeAt { mid := f } t width v.toNat) ∧
      exec (.registerRead mid origin (.mem a) width u) s = .next (settle (s.readAt { mid := f } t width u))) ∧
    (∀ a : W64, s.barMatch a.toNat = none → wrote (.mem a) (s.unmatched false) ∧
      exec (.registerRead mid origin (.mem a) width u) s = .next (settle (s.unmatched true))) ∧
    (∀ c, registerCommand c = true → s.answers = false → exec c s = .next s ∨ exec c s = .next (settle s))

/-- A held half that is not completed in time is discarded, and a low half of a write so lost is counted.
HALF_WRITE_DISCARD drops the half that a MID holds for a write and hands the loss to fault source 3; for MID 4, whose
latches are those of FAR_LATCH_EXPIRY, it does nothing. FAR_LATCH_EXPIRY drops the latch of an origin and counts it
only where it holds a write. With nothing held nothing happens. Completes: HALF_WRITE_DISCARD, FAR_LATCH_EXPIRY. -/
def Obligations.HalvesOfWideRegisters : Prop :=
  ∀ s : State,
    (∀ (mid : BitVec 4) (off : BitVec 20) v, mid ≠ 4 → tget s.writeHold (off.toNat * 16 + mid.toNat) = some v →
      exec (.halfWriteDiscard mid off) s = .next (settle { s with
        writeHold := tdel s.writeHold (off.toNat * 16 + mid.toNat)
        dueFaults := s.dueFaults ++ [{ src := 3, res := bits off.toNat 2 18, mid := some mid.toNat }] })) ∧
    (∀ (mid : BitVec 4) (off : BitVec 20), mid = 4 ∨ tget s.writeHold (off.toNat * 16 + mid.toNat) = none →
      exec (.halfWriteDiscard mid off) s = .next (settle s)) ∧
    (∀ (a : BitVec 10) x, s.farLatches.find? (fun l => l.origin == a.toNat) = some x →
      exec (.farLatchExpiry a) s = .next (settle { s with
        farLatches := s.farLatches.filter fun l => l.origin != a.toNat
        dueFaults := s.dueFaults ++ if x.write then
            [{ src := 3, res := bits x.off 2 18, mid := some 4, addr := some a.toNat }] else [] })) ∧
    (∀ a : BitVec 10, s.farLatches.find? (fun l => l.origin == a.toNat) = none →
      exec (.farLatchExpiry a) s = .next (settle s))

/-- A far read or write is performed as MID 4 and answered; a refused one is answered with its status; the window
access completes. A RD_REQ that reaches its unit is answered with the register's value (status 3 where the read meets
an uncorrectable word), a WR_REQ performs the write and is answered 0, unless it was a broadcast. A request that
far_in_en, the mailbox range, a power failure or a closed ledger turns away is answered 2 or 1 and performs nothing;
one that meets the boot ROM draws NO_ROUTE. A flit that is not for the unit has no effect here. A pending window
access of a plain register ends DONE; with none pending nothing happens. Completes: RD_REQ, WR_REQ,
WINDOW_ACCESS_DONE. -/
def Obligations.FarRequestsServed : Prop :=
  ∀ (s : State),
    (∀ (p : Fin 2) (f : FlitIn) (u : Bool), s.arrives p f = true →
      let a := s.accept p .req f
      let off := reqOff f.payload
      (a.inReset = false → a.farStatus off = none →
        let x := a.load { mid := 4, addr := f.src.toNat } off .word u
        exec (.rdReq p f u) s =
          .next (settle (x.1.farAnswer 0x18 f.src.toNat f.payload (if u then 3 else 0) (leBytes 4 x.2)))) ∧
      (a.inReset = false → ∀ st, a.farStatus off = some st →
        exec (.rdReq p f u) s = .next (settle (a.farAnswer 0x18 f.src.toNat f.payload st (zeros 4))) ∧
        exec (.wrReq p f) s = .next (settle (a.farAnswer 0x19 f.src.toNat f.payload st []))) ∧
      (a.inReset = false → a.farStatus off = none → exec (.wrReq p f) s = .next (settle
        ((a.save { mid := 4, addr := f.src.toNat } off .word (fieldAt f.payload 8 4)).farAnswer 0x19 f.src.toNat
          f.payload 0 []))) ∧
      (a.inReset = true → exec (.rdReq p f u) s = .next (settle (a.noRoute f.src.toNat 0x10 1 f.payload)) ∧
        exec (.wrReq p f) s = .next (settle (a.noRoute f.src.toNat 0x11 1 f.payload)))) ∧
    (∀ (p : Fin 2) (f : FlitIn) u, s.arrives p f = false → exec (.rdReq p f u) s = .next (settle s) ∧
      (f.bcast = false ∨ s.expects p f = false → exec (.wrReq p f) s = .next (settle s))) ∧
    (∀ (p : Fin 2) (f : FlitIn), s.expects p f = true → f.bcast = true →
      let a := (s.accept p .req f).relay p 0x11 f
      (a.assigned = true → a.inReset = false → a.farStatus (reqOff f.payload) = none →
        exec (.wrReq p f) s = .next (settle
          (a.save { mid := 4, addr := f.src.toNat } (reqOff f.payload) .word (fieldAt f.payload 8 4)))) ∧
      (a.assigned = false ∨ a.inReset = true ∨ a.farStatus (reqOff f.payload) ≠ none →
        exec (.wrReq p f) s = .next (settle a))) ∧
    (s.window.st ≠ .pending ∨ s.answers = false → exec .windowAccessDone s = .next (settle s)) ∧
    (s.window.st = .pending → s.answers = true → 
      let x := if s.window.write then (s.save { mid := 0 } s.window.addr .word s.window.wdata, 0)
        else s.load { mid := 0 } s.window.addr .word false
      exec .windowAccessDone s = .next (settle { x.1 with
        window := { s.window with st := if s.refusedSince x.1 then .error else .done, result := x.2 } })) ∧
    (∀ r, s.window.st = .pending → s.answers = true → s.window.write = false → PlainAt s 0 s.window.addr r →
      exec .windowAccessDone s = .next (settle { s with
        window := { s.window with st := .done, result := s.value 0 r } })) ∧
    (∀ r, s.window.st = .pending → s.answers = true → s.window.write = true → PlainAt s 0 s.window.addr r → ∃ t,
      exec .windowAccessDone s = .next (settle t) ∧ Only { s with window := { s.window with st := .done, result := 0 } } t
        r.flds ∧ ∀ f ∈ r.flds, Written s t 0 (s.window.wdata % 2 ^ 32) f)

/-- A turn of a REG operation makes one register access as MID 3, and a turn of a port's operation is the port's. A
READ or WRITE of class REG on this unit reads or writes the register that param names, as MID 3, and goes on with the
data; a write with a poisoned word is skipped. POLL_FAR reads its value and mask and then the register, and reads it
again at each interval. On another unit the access takes a request slot. A READ or WRITE of a port is that port's
turn, with the word errors it meets; one of LXB on this unit asks the bus for one 16-bit access. An operation that is
not live, waits, or has no data yet asks for the data or is left alone. Completes: WRITE, READ, POLL_FAR,
POLL_FAR_INTERVAL. -/
def Obligations.OperationsTurn : Prop :=
  ∀ (s : State) (a : Fin 2560) (o : Op) (errs : List WordErr),
    (s.liveWith a ocWrite = some o → o.first.cls = clsReg → o.busy = false → s.writesHeld a = false → o.room ≠ 0 →
      let off := bits o.first.param 2 18 * 4 + 4 * o.accesses
      let d := leVal ((o.buf.take 4).map (·.1))
      (o.buf.length < 4 → exec (.write ⟨a, errs⟩) s = .next (settle (s.moreData a))) ∧
      (4 ≤ o.buf.length → (o.buf.take 4).any (·.2) = true → exec (.write ⟨a, errs⟩) s = .next (settle
        ((s.updOp a fun x => { x with poisoned := true }).accessDone a 4 0 false))) ∧
      (4 ≤ o.buf.length → (o.buf.take 4).any (·.2) = false → s.devLocal o.first.dev = true →
        exec (.write ⟨a, errs⟩) s = .next (settle (((s.updOp a fun x => { x with begun := true }).save { mid := 3 } off .word
          d).accessDone a 4 0 false))) ∧
      (4 ≤ o.buf.length → (o.buf.take 4).any (·.2) = false → s.devLocal o.first.dev = false →
        let x := (s.updOp a fun x => { x with busy := true, begun := true }).farAccess (.agent (o.token a))
          (devUnit o.first.dev) true off d
        exec (.write ⟨a, errs⟩) s = .next (settle (if x.2 then x.1 else s)))) ∧
    (s.liveWith a ocRead = some o → o.first.cls = clsReg → o.busy = false → s.writesHeld a = false →
      o.room ≠ 0 →
      let off := bits o.first.param 2 18 * 4 + 4 * o.accesses
      (o.areaReady a 4 = false → exec (.read a errs) s = .next (settle (s.areaShort a o))) ∧
      (o.areaReady a 4 = true → s.devLocal o.first.dev = true →
        let x := (s.updOp a fun x => { x with begun := true }).load { mid := 3 } off .word false
        exec (.read a errs) s = .next (settle (x.1.accessDone a 4 x.2 false))) ∧
      (o.areaReady a 4 = true → s.devLocal o.first.dev = false →
        let x := (s.updOp a fun x => { x with busy := true, begun := true }).farAccess (.agent (o.token a))
          (devUnit o.first.dev) false off 0
        exec (.read a errs) s = .next (settle (if x.2 then x.1 else s)))) ∧
    (s.liveWith a ocWrite = some o → o.first.cls ≠ clsReg → (o.first.cls ≠ clsLxb ∨ s.opFar a o = true) →
      exec (.write ⟨a, errs⟩) s =
        .next (settle ((s.setOp a { o with errs := errs }).writePort a { o with errs := errs }))) ∧
    (s.liveWith a ocRead = some o → o.first.cls ≠ clsReg → (o.first.cls ≠ clsLxb ∨ s.opFar a o = true) →
      exec (.read a errs) s = .next (settle (s.readPort a o errs))) ∧
    (o.first.cls = clsLxb → s.opFar a o = false → o.busy = false → s.writesHeld a = false → o.room ≠ 0 →
      s.portFault clsLxb (devIndex o.first.dev) = none →
      let ask (write : Bool) (d : Nat) := (s.updOp a fun x => { x with busy := true, begun := true }).lxbAsk
        (fun _ => .agent (o.token a)) 3 (devIndex o.first.dev) (bits o.first.param 0 24 + 2 * o.accesses) write d 1
      (s.liveWith a ocRead = some o → o.areaReady a 2 = true →
        exec (.read a errs) s = .next (settle (ask false 0))) ∧
      (s.liveWith a ocWrite = some o → 2 ≤ o.buf.length → (o.buf.take 2).any (·.2) = false →
        exec (.write ⟨a, errs⟩) s = .next (settle (ask true (leVal ((o.buf.take 2).map (·.1))))))) ∧
    (o.first.cls = clsReg ∨ o.first.cls = clsLxb ∧ s.opFar a o = false →
      o.busy = true ∨ s.writesHeld a = true ∨ o.room = 0 →
      (s.liveWith a ocWrite = some o → exec (.write ⟨a, errs⟩) s = .next (settle s)) ∧
      (s.liveWith a ocRead = some o → exec (.read a errs) s = .next (settle s))) ∧
    (s.liveWith a ocWrite = none → exec (.write ⟨a, errs⟩) s = .next (settle s)) ∧
    (s.liveWith a ocRead = none → exec (.read a errs) s = .next (settle s)) ∧
    (∀ (tag : Fin 2048) q, s.liveWith tag ocPoll = some q → q.room = 0 → q.busy = false → s.writesHeld tag = false →
      exec (.pollFarInterval tag) s =
        .next (settle (s.engineAccess tag q (bits q.first.param 2 18 * 4) false 0))) ∧
    (∀ (tag : Fin 2048) q, s.liveWith tag ocPoll = some q → q.room = 0 → q.busy = false → s.writesHeld tag = false →
      s.devLocal q.first.dev = true → q.first.opcode = ocPoll →
      let x := (s.updOp tag fun x => { x with begun := q.begun }).load { mid := 3 } (bits q.first.param 2 18 * 4) .word
        false
      exec (.pollFarInterval tag) s = .next (settle (x.1.accessDone tag 4 x.2 false))) ∧
    (∀ (tag : Fin 2048) q, s.liveWith tag ocPoll = some q → q.room ≠ 0 ∨ q.busy = true ∨ s.writesHeld tag = true →
      exec (.pollFarInterval tag) s = .next (settle s)) ∧
    (∀ tag : Fin 2048, s.liveWith tag ocPoll = none →
      exec (.pollFarInterval tag) s = .next (settle s) ∧ exec (.pollFar tag) s = .next (settle s)) ∧
    (∀ (tag : Fin 2048) q q', s.liveWith tag ocPoll = some q → q.room ≠ 0 → 8 ≤ q.buf.length →
      let d := (q.buf.take 8).map (·.1)
      let u := (s.useOp tag (zeros 8)).1.updOp tag fun x =>
        { x with buf := [], got := 0, pollValue := fieldAt d 0 4, pollMask := fieldAt d 4 4 }
      u.op tag = some q' → exec (.pollFar tag) s = .next (settle (u.pollRead tag q'))) ∧
    (∀ (tag : Fin 2048) q, s.liveWith tag ocPoll = some q →
      (q.room = 0 → exec (.pollFar tag) s = .next (settle s)) ∧
      (q.room ≠ 0 → q.buf.length < 8 → exec (.pollFar tag) s = .next (settle (s.wantData tag))))

/-- A slot command, a fabric access, a poll round and a debug scan start their access or hand over its result. While
registers answer: a write of HNG_FASf_s_CMD by its function to a slot that is not pending starts the access it asks
for; any other only sets the cause cmd_ignored. A fabric access is handed its held result, RETRY while it is pending,
RETRY with nothing started at four accesses, or RETRY once it has been started; a misaligned one is refused, and the
unit's own address is served at once. A round falling due reads the mirror words, or sets poll_late while one runs. A
debug scan shifts out the status of the last access with the data of a read that was OK; it performs an access on this
unit, starts one on another, or is DENIED; with another instruction in the TAP it does nothing. Where registers do not
answer the access ends ERROR (the model's choice, log entry 140). Completes: FAR_SLOT_CMD, FABRIC_FAR_ACCESS,
POLL_ROUND, DAP_ACCESS. -/
def Obligations.FarAccessesStart : Prop :=
  ∀ s : State,
    (s.answers = true → ∀ (f : Fin 2) (k : Fin 8) (mid : BitVec 4) (v : W32), mid.toNat = f.val →
      s.get (R.HNG_FAS_DATA_state f k) ≠ foPending → fasOk v.toNat = true →
      exec (.farSlotCmd f k mid v) s = .next (settle (s.fasStart f k v.toNat fun t o =>
        if v.toNat.testBit 14 then
          (State.storeWord 16 t { mid := f } o (s.get (R.HNG_FAS_WDATA_data f k)), 0)
        else t.loadWord { mid := f } o))) ∧
    (s.answers = true → ∀ (f : Fin 2) (k : Fin 8) (mid : BitVec 4) (v : W32),
      ¬ (mid.toNat = f.val ∧ s.get (R.HNG_FAS_DATA_state f k) ≠ foPending ∧ fasOk v.toNat = true) →
      ∃ t, exec (.farSlotCmd f k mid v) s = .next (settle t) ∧
        Only s t [R.HNG_EVT_cause, R.HNG_EVT_CNT_count 12] ∧
        Raised s t R.HNG_EVT_cause 12 (R.HNG_EVT_CNT_count 12)) ∧
    (∀ (mid : BitVec 4) lxb (unit : BitVec 10) (off : BitVec 24) write (data : W64) wide,
      let c := Instr.fabricFarAccess mid lxb unit off write data wide
      let o := off.toNat
      (mid ≠ 2 → mid ≠ 5 → exec c s = .next (settle s)) ∧
      (s.answers = true → mid = 2 ∨ mid = 5 →
        (∀ n x, s.fabFind mid.toNat lxb unit.toNat o = some (n, x) → exec c s = .next (settle { s with
          fabric := if x.ended then tdel s.fabric n else s.fabric
          out := s.out ++ [.fabric mid.toNat (if x.ended then some x.result else none)] })) ∧
        (s.fabFind mid.toNat lxb unit.toNat o = none →
          (lxb = false → fabAligned mid.toNat o wide = false → exec c s = .next (settle
            ((s.accessRefused o { mid := mid.toNat }).emit (.fabric mid.toNat (some (foDone, 0)))))) ∧
          (lxb = false → fabAligned mid.toNat o wide = true → s.assigned = true → unit.toNat = s.addr →
            let width := if wide then Width.long else Width.word
            let x := if write then (s.save { mid := mid.toNat } o width data.toNat, 0)
              else s.load { mid := mid.toNat } o width false
            exec c s = .next (settle (x.1.emit (.fabric mid.toNat (some (foDone, x.2)))))) ∧
          (lxb = true ∨ fabAligned mid.toNat o wide = true ∧ (s.assigned = true → unit.toNat ≠ s.addr) →
            (s.fabCount mid.toNat < 4 → exec c s = .next (settle
              ((s.fabStart mid.toNat lxb unit.toNat o write data.toNat wide).emit (.fabric mid.toNat none)))) ∧
            (4 ≤ s.fabCount mid.toNat → exec c s = .next (settle (s.emit (.fabric mid.toNat none)))))))) ∧
    (∀ a : BitVec 10, s.polled a.toNat = false ∨ s.running = false → exec (.pollRound a) s = .next (settle s)) ∧
    (∀ a : BitVec 10, s.polled a.toNat = true → s.running = true → tget s.rounds a.toNat = none →
      (s.assigned = true → a.toNat ≠ s.addr) → exec (.pollRound a) s = .next (settle
        (({ s with rounds := tset s.rounds a.toNat { stamp := s.now, todo := s.mirrorWords } }).roundOn a.toNat))) ∧
    (∀ a : BitVec 10, s.polled a.toNat = true → s.running = true → tget s.rounds a.toNat = none →
      s.assigned = true → a.toNat = s.addr →
      let t := { s with rounds := tset s.rounds a.toNat { stamp := s.now, todo := [], out := s.mirrorWords } }
      exec (.pollRound a) s = .next (settle
        ((s.mirrorWords.foldl (fun u i => u.pollOwn a.toNat i) t).roundCheck a.toNat))) ∧
    (∀ (a : BitVec 10) r, s.polled a.toNat = true → s.running = true → tget s.rounds a.toNat = some r →
      ∃ t, exec (.pollRound a) s = .next (settle t) ∧ Only s t [R.HNG_EVT_cause, R.HNG_EVT_CNT_count 5] ∧
        Raised s t R.HNG_EVT_cause 5 (R.HNG_EVT_CNT_count 5)) ∧
    (∀ v : W64, s.tap ≠ .dapAccess → exec (.dapAccess v) s = .next (settle s)) ∧
    (∀ v : W64, s.tap = .dapAccess →
      let t := { s.dapCapture with out := s.dapCapture.out ++ [.tdo 64 s.dapCapture.dap.captured] }
      let asked := bits v.toNat 0 2 = 1 ∨ bits v.toNat 0 2 = 2
      (¬ asked ∨ t.dap.status = 1 → exec (.dapAccess v) s = .next (settle t)) ∧
      (asked → t.dap.status ≠ 1 →
        let write := bits v.toNat 0 2 == 2
        let off := bits v.toNat 2 18 * 4
        (t.dapOpen write = false → exec (.dapAccess v) s = .next (settle
          { t.accessRefused off { mid := 5 } with dap := { status := 2 } })) ∧
        (t.dapOpen write = true → t.answers = false → exec (.dapAccess v) s = .next (settle
          { t with dap := { status := 3 } })) ∧
        (t.dapOpen write = true → t.answers = true → v.toNat.testBit 20 = false →
          (write = true → exec (.dapAccess v) s = .next (settle
            { t.save { mid := 5 } off .word (bits v.toNat 32 32) with dap := { status := 0 } })) ∧
          (write = false → let x := t.load { mid := 5 } off .word false
            exec (.dapAccess v) s = .next (settle { x.1 with dap := { status := 0, data := x.2 } }))) ∧
        (t.dapOpen write = true → t.answers = true → v.toNat.testBit 20 = true →
          let x := t.fabTry 5 false (bits v.toNat 21 10) off write (bits v.toNat 32 32) false
          (x.2 = none → exec (.dapAccess v) s = .next (settle { x.1 with
            dap := { status := 1, far := some { unit := bits v.toNat 21 10, off := off, write := write,
                                                data := bits v.toNat 32 32 } } })) ∧
          (∀ r, x.2 = some r → exec (.dapAccess v) s = .next (settle { x.1 with dap := dapEnd write r }))))) ∧
    (s.dap.far = none → s.dapCapture = s) ∧
    (∀ a, s.dap.far = some a → let x := s.fabTry 5 false a.unit a.off a.write a.data false
      (x.2 = none → s.dapCapture = x.1) ∧
      (∀ r, x.2 = some r → s.dapCapture = { x.1 with dap := dapEnd a.write r }))

/-- A placement is taken or refused with its reason; a waiting claim is granted; DROP_PKT discards the oldest packet.
While registers answer, a write of BUF_Qq_CFG that moves a queue, or puts it into or out of use, writes its fields
when no condition of R374 is broken, and empties it when it moves or goes out of use; otherwise it only records the
reason. One that changes nothing has no effect. A free claim goes to the producer that has waited longest. DROP_PKT
takes the oldest packet of a receive queue, and is refused with reason 7 on a transmit queue. Nothing happens at a
number that names no queue. Completes: QUEUE_CONFIG, CLAIM_GRANT, DROP_PKT. -/
def Obligations.QueuePlacement : Prop :=
  ∀ (s : State) (q : Fin 216),
    (s.answers = true → queueExists q = true → ∀ v : W32,
      let en := v.toNat % 2
      let base := bits v.toNat 16 14
      let k := bits v.toNat 4 4
      let moves := base ≠ s.get (R.BUF_Q_CFG_base q) ∨ k ≠ s.get (R.BUF_Q_CFG_log2 q)
      let ends := en = 0 ∧ s.qOn q = true
      (¬ moves → ¬ ends → ¬ (en = 1 ∧ s.qOn q = false) → exec (.queueConfig q v) s = .next s) ∧
      (moves ∨ ends ∨ en = 1 ∧ s.qOn q = false →
        (∀ r, s.placeFault q base k (decide (ends ∧ ¬ moves)) = some r → ∃ t, exec (.queueConfig q v) s = .next t ∧
          Only s t [R.BUF_EVT_cause, R.BUF_EVT_CNT_count 0, R.BUF_LAST_q, R.BUF_LAST_reason] ∧
          Raised s t R.BUF_EVT_cause 0 (R.BUF_EVT_CNT_count 0) ∧ t.get R.BUF_LAST_q = q.val ∧
          t.get R.BUF_LAST_reason = r) ∧
        (s.placeFault q base k (decide (ends ∧ ¬ moves)) = none → ∃ t, exec (.queueConfig q v) s = .next t ∧
          Only { s with wqs := t.wqs } t [R.BUF_Q_CFG_en q, R.BUF_Q_CFG_log2 q, R.BUF_Q_CFG_base q] ∧
          t.get (R.BUF_Q_CFG_en q) = en ∧ t.get (R.BUF_Q_CFG_log2 q) = k ∧ t.get (R.BUF_Q_CFG_base q) = base ∧
          (moves ∨ ends → t.wq q = {}) ∧ (¬ moves → ¬ ends → t.wq q = s.wq q) ∧ ∀ p, p ≠ q.val → t.wq p = s.wq p))) ∧
    (queueExists q = false → (∀ v, exec (.queueConfig q v) s = .next s) ∧ exec (.dropPkt q) s = .next (settle s)) ∧
    (∀ a rest, (s.wq q).claim = none → (s.wq q).claimWait = a :: rest → ∃ t,
      exec (.claimGrant q) s = .next t ∧ t = { s with wqs := t.wqs } ∧
      t.wq q = { s.wq q with claim := some a, claimWait := rest } ∧ ∀ p, p ≠ q.val → t.wq p = s.wq p) ∧
    ((s.wq q).claim ≠ none ∨ (s.wq q).claimWait = [] → exec (.claimGrant q) s = .next s) ∧
    (s.answers = true → queueExists q = true →
      (isTxQueue q = false → (s.wq q).pkts ≠ [] →
        let r := s.qTake q []
        exec (.dropPkt q) s = .next (settle (r.1.setWq q
          { r.1.wq q with gapPending := (r.1.wq q).gapPending || r.2.gap }))) ∧
      (isTxQueue q = false → (s.wq q).pkts = [] → exec (.dropPkt q) s = .next (settle s)) ∧
      (isTxQueue q = true → ∃ t, exec (.dropPkt q) s = .next (settle t) ∧
        Only s t [R.BUF_EVT_cause, R.BUF_EVT_CNT_count 0, R.BUF_LAST_q, R.BUF_LAST_reason] ∧
        Raised s t R.BUF_EVT_cause 0 (R.BUF_EVT_CNT_count 0) ∧ t.get R.BUF_LAST_reason = 7))

/-- An accepted enable starts a CAN port error active and integrating; recovery ends bus-off; BUS_ON, BUS_OFF and
ABORT_TX act on their port. While registers answer: an enable that obeys the timing rules sets en and clears every
protocol state; one that does not sets cfg_refused only; on an enabled port it changes the other fields. A disable
ends what runs on the port and clears its protocol state. A write of auto_recover starts a recovery. The end of
integration lets the port load a frame. Recovery brings it back from bus-off with both counters 0. CONTROL BUS_OFF and
BUS_ON set and clear host-off; BUS_ON ends at once where the port is error active or its recovery has begun. ABORT_TX
discards what has not begun, and sends no second try. A function that is not issued to the port does nothing.
Completes: CAN_ENABLE, AUTO_RECOVER_WRITE, CAN_INTEGRATION_END, CAN_RECOVERY_END, BUS_ON, BUS_OFF, ABORT_TX, and
PORT_ENABLE and PORT_DISABLE of a CAN port. -/
def Obligations.CanStartsAndRecovers : Prop :=
  ∀ (s : State) (m : Fin 16),
    (s.answers = true → ∀ (mid : BitVec 4) (v : W32),
      let u := (canWritten s m mid (setBit v.toNat 0)).autoRecover m
      exec (.portEnable (.can m) mid v) s = exec (.canEnable m mid v) s ∧
      (u.on (R.CAN_CTL_en m) = true → exec (.canEnable m mid v) s = .next (settle u)) ∧
      (u.on (R.CAN_CTL_en m) = false → u.canCfgOk m = true → ∃ t, exec (.canEnable m mid v) s = .next (settle t) ∧
        Only { u with cans := t.cans } t
          [R.CAN_CTL_en m, R.CAN_STATUS_tec m, R.CAN_STATUS_rec m, R.CAN_STATUS_host_off m] ∧
        t.get (R.CAN_CTL_en m) = 1 ∧ t.get (R.CAN_STATUS_tec m) = 0 ∧ t.get (R.CAN_STATUS_rec m) = 0 ∧
        t.get (R.CAN_STATUS_host_off m) = 0 ∧ t.can m = { u.can m with
          integrating := true, busOff := false, recovering := false, sessions := [], ptxDue := 0, supFired := 0 } ∧
        ∀ n, n ≠ m.val → t.can n = u.can n) ∧
      (u.on (R.CAN_CTL_en m) = false → u.canCfgOk m = false → ∃ t, exec (.canEnable m mid v) s = .next (settle t) ∧
        Only u t [R.CAN_EVT_cause m, R.CAN_EVT_CNT_count m 9] ∧
        Raised u t (R.CAN_EVT_cause m) 9 (R.CAN_EVT_CNT_count m 9))) ∧
    (s.answers = true → ∀ (mid : BitVec 4) (v : W32),
      let u := (canWritten s m mid (clearBits v.toNat 1)).autoRecover m
      (u.on (R.CAN_CTL_en m) = true → exec (.portDisable (.can m) mid v) s = .next (settle
        (((u.put (R.CAN_CTL_en m) 0).portOff clsCan m stBadDevice 0x03).canClear m))) ∧
      (u.on (R.CAN_CTL_en m) = false → exec (.portDisable (.can m) mid v) s = .next (settle u))) ∧
    (s.answers = true → ∀ (mid : BitVec 4) (v : W32),
      let u := canWritten s m mid (setBit v.toNat 6)
      exec (.autoRecoverWrite m mid v) s = .next (settle
        (State.canEn (if u.on (R.CAN_CTL_auto_recover m) ∧ (u.can m).busOff ∧ (u.can m).recovering = false then
            (u.setCan m { u.can m with recovering := true }).busOnDone m
          else u) m ((setBit v.toNat 6).testBit 0)))) ∧
    ((s.can m).integrating = true → s.portRuns clsCan m = true → exec (.canIntegrationEnd m) s =
      .next (settle ((s.setCan m { s.can m with integrating := false }).canLoad m))) ∧
    ((s.can m).integrating = false ∨ s.portRuns clsCan m = false →
      exec (.canIntegrationEnd m) s = .next (settle s)) ∧
    ((s.can m).busOff = true → (s.can m).recovering = true → ∃ u,
      Only { s with cans := u.cans } u
        [R.CAN_STATUS_tec m, R.CAN_STATUS_rec m, R.CAN_EVT_cause m, R.CAN_EVT_CNT_count m 3] ∧
      u.can m = { s.can m with busOff := false, recovering := false } ∧ u.get (R.CAN_STATUS_tec m) = 0 ∧
      u.get (R.CAN_STATUS_rec m) = 0 ∧ Raised s u (R.CAN_EVT_cause m) 3 (R.CAN_EVT_CNT_count m 3) ∧
      exec (.canRecoveryEnd m) s = .next (settle ((u.canStateSeen m 2).canLoad m))) ∧
    ((s.can m).busOff = false ∨ (s.can m).recovering = false →
      exec (.canRecoveryEnd m) s = .next (settle s)) ∧
    (∀ a : Fin 2560,
      (Issued s a clsCan 2 m → exec (.busOff a) s =
        .next (settle ((s.put (R.CAN_STATUS_host_off m) 1).endOp a stSuccess 0))) ∧
      (Issued s a clsCan 1 m →
        let u := (s.put (R.CAN_STATUS_host_off m) 0).updOp a fun o => { o with event := true }
        ((u.can m).busOff = true → exec (.busOn a) s = .next (settle ((u.canRecover m).endOp a stSuccess 0))) ∧
        ((u.can m).busOff = false → u.canErrState m = 0 →
          exec (.busOn a) s = .next (settle ((u.endOp a stSuccess 0).canLoad m))) ∧
        ((u.can m).busOff = false → u.canErrState m ≠ 0 → exec (.busOn a) s = .next (settle (u.canLoad m)))) ∧
      (Issued s a clsCan 3 m →
        let u := s.canDiscard m 0x12
        ((u.can m).tx = none → exec (.abortTx a) s = .next (settle (u.endOp a stSuccess 0))) ∧
        (∀ f, (u.can m).tx = some f → exec (.abortTx a) s = .next (settle
          ((u.setCan m { u.can m with tx := some { f with last := true } }).endOp a stSuccess 0)))) ∧
      (∀ x ∈ [(Instr.busOn a, 1), (.busOff a, 2), (.abortTx a, 3)], s.issuedOn a clsCan x.2 = none →
        exec x.1 s = .next (settle s)))

/-- A CAN frame is stored by its first filter and offered to the gateway; errors move the counters; timers mark their
slots. A received frame of an accepted format lowers REC, is counted, rearms its supervision slots, is stored as its
lowest filter says, and goes to the gateway; one of another format is an exception. Nothing is received off the bus or
with CANm_RX detached. A sent frame leaves the port, lowers TEC and tells its program (while host-off, it waits: the
model's choice, log entry 134). An error is counted, sets lec and moves the counters, and a transmitter's attempt
fails; a receive error below the warning level only adds 1 to REC. A due period marks its slot or sets ptx_late; a
supervision time-out and a J1939 T1 expiry set their causes; each does nothing where its slot or session is off.
Completes: CAN_FRAME_RECEIVE, CAN_FRAME_SENT, CAN_BUS_ERROR, PERIODIC_FRAME_DUE, SUPERVISION_TIMEOUT, J1939_T1_EXPIRY.
-/
def Obligations.CanFramesAndErrors : Prop :=
  ∀ (s : State) (m : Fin 16),
    (∀ (f : CanFrame) (time : BitVec 48),
      (s.canOnBus m = false ∨ s.attached ⟨.can, m, 1⟩ = false →
        exec (.canFrameReceive m f time) s = .next (settle s)) ∧
      (s.canOnBus m = true → s.attached ⟨.can, m, 1⟩ = true → s.canAccepts m f = false →
        exec (.canFrameReceive m f time) s = .next (settle (s.canException m))) ∧
      (s.canOnBus m = true → s.attached ⟨.can, m, 1⟩ = true → s.canAccepts m f = true →
        let u := s.canRecDown m
        let v := (u.setCan m { u.can m with rx := sat1 (u.can m).rx }).supSeen m f
        exec (.canFrameReceive m f time) s = .next (settle ((v.canStore m f time.toNat).gwOffer (gwCode clsCan m)
          ((v.canStore m f time.toNat).canRecord m f 0 time.toNat))) ∧
        (∀ k, v.canFilter m f = some k → v.on (R.CAN_CTL_j1939 m) = false → v.canStore m f time.toNat =
          v.store clsCan m (v.get (R.CAN_FLT_MASK_class m k)) (v.canRecord m f k time.toNat)) ∧
        (v.canFilter m f = none → v.canStore m f time.toNat =
          (v.setCan m { v.can m with noFilter := sat1 (v.can m).noFilter }).canRaise m 5))) ∧
    (∀ f, (s.can m).tx = some f → (s.can m).busOff = false → (s.can m).integrating = false →
      s.on (R.CAN_STATUS_host_off m) = false → s.attached ⟨.can, m, 0⟩ = true → s.attached ⟨.can, m, 1⟩ = true →
      let u := (({ s with out := s.out ++ [Out.frame clsCan m (s.canWire m f.bytes)] }).setCan m
        { s.can m with tx := none, sent := sat1 (s.can m).sent }).canCount m (s.get (R.CAN_STATUS_tec m) - 1)
          (s.get (R.CAN_STATUS_rec m))
      (∀ token, f.src = .program token →
        exec (.canFrameSent m) s = .next (settle ((u.frameLeft token).canLoad m))) ∧
      ((∀ token, f.src ≠ .program token) → exec (.canFrameSent m) s = .next (settle (u.canLoad m)))) ∧
    ((s.can m).tx = none ∨ (s.can m).busOff = true ∨ (s.can m).integrating = true ∨
        s.on (R.CAN_STATUS_host_off m) = true ∨ s.attached ⟨.can, m, 0⟩ = false ∨ s.attached ⟨.can, m, 1⟩ = false →
      exec (.canFrameSent m) s = .next (settle s)) ∧
    (∀ lec : BitVec 3, (s.can m).integrating = false → (s.can m).busOff = false → s.canCounts m = true →
      s.get (R.CAN_STATUS_tec m) < 96 → s.get (R.CAN_STATUS_rec m) < 95 → ∃ t,
        exec (.canBusError m .receive lec) s = .next (settle t) ∧
        Only { s with cans := t.cans } t [R.CAN_STATUS_lec m, R.CAN_STATUS_tec m, R.CAN_STATUS_rec m] ∧
        t.can m = { s.can m with errors := sat1 (s.can m).errors } ∧ (∀ n, n ≠ m.val → t.can n = s.can n) ∧
        t.get (R.CAN_STATUS_rec m) = s.get (R.CAN_STATUS_rec m) + 1 ∧
        t.get (R.CAN_STATUS_tec m) = s.get (R.CAN_STATUS_tec m) ∧ t.get (R.CAN_STATUS_lec m) = lec.toNat) ∧
    (∀ (e : CanErr) (lec : BitVec 3), (s.can m).integrating = false → (s.can m).busOff = false →
      let u := (s.setCan m { s.can m with errors := sat1 (s.can m).errors }).put (R.CAN_STATUS_lec m) lec.toNat
      (e = .arbitration → exec (.canBusError m e lec) s = .next (settle ((s.canErrCount m e).canFailed m))) ∧
      (e = .receive ∨ e = .receiveMore → exec (.canBusError m e lec) s = .next (settle (u.canErrCount m e))) ∧
      (e ≠ .arbitration → e ≠ .receive → e ≠ .receiveMore →
        exec (.canBusError m e lec) s = .next (settle ((u.canErrCount m e).canFailed m)))) ∧
    (∀ e lec, (s.can m).integrating = true ∨ (s.can m).busOff = true →
      exec (.canBusError m e lec) s = .next (settle s)) ∧
    (∀ k : Fin 8, s.ptxOn m k = true → s.portRuns clsCan m = true →
      ((s.can m).ptxDue.testBit k = false → exec (.periodicFrameDue m k) s = .next (settle
        ((s.setCan m { s.can m with ptxDue := (s.can m).ptxDue + 2 ^ k.val }).canLoad m))) ∧
      ((s.can m).ptxDue.testBit k = true → ∃ t, exec (.periodicFrameDue m k) s = .next (settle t) ∧
        Only { s with dueFaults := s.dueFaults ++ [{ src := 32 + m, detail := 7, res := m }] } t
          [R.CAN_EVT_cause m, R.CAN_EVT_CNT_count m 7] ∧
        Raised s t (R.CAN_EVT_cause m) 7 (R.CAN_EVT_CNT_count m 7))) ∧
    (∀ k : Fin 8, s.ptxOn m k = false ∨ s.portRuns clsCan m = false →
      exec (.periodicFrameDue m k) s = .next (settle s)) ∧
    (∀ k : Fin 8, s.on (R.CAN_CTL_iso11992 m) = true → s.on (R.CAN_SUP_ID_en m k) = true → s.portRuns clsCan m = true →
      (s.can m).supFired.testBit k = false → ∃ t, exec (.supervisionTimeout m k) s = .next (settle t) ∧
        Only { s with cans := t.cans, dueFaults := s.dueFaults ++ [{ src := 32 + m, detail := 8, res := m }] } t
          [R.CAN_EVT_cause m, R.CAN_EVT_CNT_count m 8] ∧
        t.can m = { s.can m with supFired := (s.can m).supFired + 2 ^ k.val } ∧
        Raised s t (R.CAN_EVT_cause m) 8 (R.CAN_EVT_CNT_count m 8)) ∧
    (∀ k : Fin 8, s.on (R.CAN_CTL_iso11992 m) = false ∨ s.on (R.CAN_SUP_ID_en m k) = false ∨
        s.portRuns clsCan m = false ∨ (s.can m).supFired.testBit k = true →
      exec (.supervisionTimeout m k) s = .next (settle s)) ∧
    (∀ sa da : BitVec 8, (s.can m).sessions.any (fun j => j.sa == sa.toNat && j.da == da.toNat) = true → ∃ t,
      exec (.j1939T1Expiry m sa da) s = .next (settle t) ∧
        Only { s with cans := t.cans, dueFaults := s.dueFaults ++ [{ src := 32 + m, detail := 6, res := m }] } t
          [R.CAN_EVT_cause m, R.CAN_EVT_CNT_count m 6] ∧
        t.can m = { s.can m with
          sessions := (s.can m).sessions.filter fun j => !(j.sa == sa.toNat && j.da == da.toNat)
          aborted := sat1 (s.can m).aborted } ∧
        Raised s t (R.CAN_EVT_cause m) 6 (R.CAN_EVT_CNT_count m 6)) ∧
    (∀ sa da : BitVec 8, (s.can m).sessions.any (fun j => j.sa == sa.toNat && j.da == da.toNat) = false →
      exec (.j1939T1Expiry m sa da) s = .next (settle s))

/-- A program reads, checks, holds, suspends at or starts its next CCW; JUMP goes on at its target up to 256 times.
When the engine turns to it, a program without an operation, or with one whose chain goes on, reads its next CCW, an
inline one at once. A CCW that breaks a rule, or could not be read, ends the program MALFORMED_CCW with its detail; a
suspending one suspends it; one that ordering holds waits; any other starts, or adds its area to the operation. An
entry behind an earlier one that has not started waits. A JUMP counts and sets where the next CCW is read, and the
257th ends the program LOOP_LIMIT. Out of its turn nothing happens but that the order of the ready programs is brought
up to date. Completes: CCW_START, JUMP. -/
def Obligations.ProgramsTakeCcws : Prop :=
  ∀ (s : State) (tag : Fin 2048),
    (s.prog tag = none → exec (.ccwStart tag) s = .next (settle s.reready) ∧
      exec (.jump tag) s = .next (settle s.reready)) ∧
    ∀ p : Prog, s.prog tag = some p →
    let starts (t : State) := exec (.ccwStart tag) s = .next (settle t.reready)
    (¬ TurnOf s tag p ∨ p.ccwWait = true → starts s) ∧
    (TurnOf s tag p → p.ccwWait = false →
      (p.ccwFailed = true → starts ((s.setProg tag { p with cur := {} }).endCcw tag stMalformedCcw 0x01 0)) ∧
      (p.ccwFailed = false →
        (s.op tag = none → p.ccwRead = none → p.started = false → p.inline ≠ [] → ∃ t, starts t ∧
          t = { s with progs := t.progs } ∧ t.prog tag = some { p with ccwRead := some p.inline, ccwAddr := 0 } ∧
          ∀ k, k ≠ tag.val → t.prog k = s.prog k) ∧
        (p.ccwRead = none → (s.op tag = none ∨ ∃ o, s.op tag = some o ∧ o.chainRead = false) →
          starts (s.readCcw tag p) ∧
          (p.started = true ∨ p.inline = [] → p.src.viaTable = false → s.readCcw tag p =
            (s.setProg tag { p with ccwWait := true, ccwAddr := p.src.addr }).hostRead p.fn p.src.addr 32 (.ccw tag))) ∧
        (∀ o, s.op tag = some o → o.chainRead = true → starts s) ∧
        (∀ bs, s.op tag = none → p.ccwRead = some bs →
          let c := Ccw.parse bs
          (∀ d, ccwFault bs none = some d → starts
            ((s.setProg tag { p with cur := if d = 1 then {} else c }).endCcw tag stMalformedCcw d
              (if d = 1 then 0 else c.bytes))) ∧
          (ccwFault bs none = none → c.opcode = ocJump ∨ s.behind p = true → starts s) ∧
          (ccwFault bs none = none → c.opcode ≠ ocJump → s.behind p = false →
            let suspends := c.sus && !p.resumed && !p.resume && !p.restarted
            let q := if c.sus && !p.resumed && p.resume then { p with resume := false, resumed := true } else p
            (suspends = true → starts (s.suspend tag { p with cur := c })) ∧
            (suspends = false → ∀ st, s.heldBy q c = some st → ∃ t, starts t ∧ t = { s with progs := t.progs } ∧
              t.prog tag = some { q with cur := c, st := st } ∧ ∀ k, k ≠ tag.val → t.prog k = s.prog k) ∧
            (suspends = false → s.heldBy q c = none → starts (s.startCcw tag q c)))) ∧
        (∀ o bs, s.op tag = some o → o.chainRead = false → p.ccwRead = some bs →
          let c := Ccw.parse bs
          let fault := ccwFault bs
            (some { first := o.first, ccws := o.chained, bytes := (o.segs.map (·.ccw.bytes)).sum })
          (∀ d, fault = some d → starts
            ((s.setProg tag { p with cur := if d = 1 then {} else c }).endCcw tag stMalformedCcw d
              (if d = 1 then 0 else c.bytes))) ∧
          (fault = none → c.opcode = ocJump → starts s) ∧
          (fault = none → c.opcode ≠ ocJump → starts
            ((((s.setProg tag { p with cur := c, src := p.nextSrc, ccwRead := none }).updOp tag fun x =>
              { x with segs := x.segs ++ [mkSeg x.first.skp c p.ccwAddr], chained := x.chained + 1,
                       lastFlags := c.flags, chainRead := !c.dc }).pumpTable tag).farStart tag))))) ∧
    (p.ccwRead = none → exec (.jump tag) s = .next (settle s.reready)) ∧
    (∀ bs, p.ccwRead = some bs →
      let c := Ccw.parse bs
      let jumps := TurnOf s tag p ∧ s.behind p = false ∧ c.opcode = ocJump ∧ ccwFault bs none = none ∧
        ∀ o, s.op tag = some o → o.chainRead = false
      let u := (s.setProg tag { p with cur := c, started := true }).ccwStarted tag p.ccwAddr c
      (jumps → p.jumps < 256 → exec (.jump tag) s = .next (settle (u.updProg tag fun q => { q with
        jumps := q.jumps + 1, ccwRead := none, resumed := false, st := if (s.op tag).isSome then q.st else .running
        src := if c.idx then { viaTable := true, tableNext := c.data } else { addr := c.data } }).reready)) ∧
      (jumps → 256 ≤ p.jumps → exec (.jump tag) s = .next (settle (u.endCcw tag stLoopLimit 0 0).reready)) ∧
      (¬ jumps → exec (.jump tag) s = .next (settle s.reready)))

/-- An ended operation gives its program the final record, the next CCW or the far END; a time-out ends the program.
An operation that ended with an error ends its program with that status; one that ended well, with its length as
wanted or suppressed, posts its notice and goes on to the next CCW or to the final record. Nothing happens while the
chain has not been read, while the sub-engine moves, or before the operation has ended. A far operation whose data has
been sent is reported with END and frees its slot. A time-out that has run its time, counted from the operation's
first start, ends the program with TIMEOUT; before that, and for NOP, MARK and APPEND, it does nothing. Completes:
DEVICE_OPERATION_END, CCW_TIMEOUT. -/
def Obligations.OperationsEnd : Prop :=
  ∀ (s : State) (a : Fin 2560),
    let ends (t : State) := exec (.deviceOperationEnd a) s = .next (settle t.reready)
    (s.op a = none → ends s) ∧
    (∀ o, s.op a = some o →
      (o.ended = none → ends s) ∧
      (a.val < 2048 → s.prog a = none ∨ s.moving (a / 64) = true → ends s) ∧
      (∀ p st d, a.val < 2048 → o.ended = some (st, d) → s.prog a = some p → s.moving (a / 64) = false →
        (o.chainRead = false → ends s) ∧
        (o.chainRead = true →
          let u := s.withdraw a
          let q := p.merge o
          (st ≠ stSuccess → ends (u.finalize a st q (u.eswNow a q d))) ∧
          (st = stSuccess → o.mismatch = true → o.lastFlags.testBit 8 = false →
            ends (u.finalize a stLength q (u.eswNow a q 0))) ∧
          (st = stSuccess → (o.mismatch = true → o.lastFlags.testBit 8 = true) →
            let q' := { q with lenOk := q.lenOk || o.mismatch }
            ends ((u.setProg a q').chainOn a q' o)))) ∧
      (∀ st d, 2048 ≤ a.val → o.ended = some (st, d) →
        (tget s.farSlots (a.val - 2048) = none → ends s) ∧
        (∀ fs, tget s.farSlots (a.val - 2048) = some fs → fs.out ≠ [] → ends s) ∧
        (∀ fs, tget s.farSlots (a.val - 2048) = some fs → fs.out = [] →
          let u := (s.withdraw (farAgent (a.val - 2048))).prgRsp fs.origin fs.tag fs.inst 0x82
            (leBytes 1 st ++ leBytes 1 d ++ leBytes 1 (b2n o.poisoned + 2 * b2n o.gap + 16 * b2n o.truncated)
              ++ zeros 1 ++ leBytes 4 (o.room % 2 ^ 24 + min 255 o.frames * 2 ^ 24) ++ zeros 4)
          ends { u with ops := tdel u.ops (farAgent (a.val - 2048))
                        farSlots := tdel u.farSlots (a.val - 2048) }))) ∧
    (∀ tag : Fin 2048,
      let times (t : State) := exec (.ccwTimeout tag) s = .next (settle t)
      (∀ o, s.op tag = some o → o.ended = none → s.expired o.since o.first = true →
        times (s.endProg tag stTimeout 0)) ∧
      (∀ o, s.op tag = some o → o.ended ≠ none ∨ s.expired o.since o.first = false → times s) ∧
      (∀ o at', s.op tag = some o → [ocNop, ocMark, ocAppend].contains o.first.opcode = true →
        s.expired at' o.first = false) ∧
      (s.op tag = none → ∀ t c, (s.prog tag).bind (·.again) = some (t, c) →
        times (if s.expired t c then s.endProg tag stTimeout 0 else s)) ∧
      (s.op tag = none → (s.prog tag).bind (·.again) = none → times s))

/-- CONTROL is issued, SENSE writes the status block, WAIT_EVENT ends on its event, a timer ends its wait, MARK is
pushed once. A CONTROL on this unit is handed to its port and changes nothing else. A SENSE whose area is known
delivers the first bytes of the port's status block and ends. A WAIT_EVENT whose event already stands ends with
SUCCESS, and one of an engine timer ends when the timer does; otherwise nothing changes. On another unit each is
started there. A MARK pushes its entry, and ends at once where the entry is not pushed. With no such operation live
nothing happens. Completes: CONTROL, SENSE, WAIT_EVENT, ENGINE_TIMER_EXPIRY, MARK. -/
def Obligations.ControlSenseWaitMark : Prop :=
  ∀ (s : State) (a : Fin 2560),
    (∀ x ∈ [(Instr.control a, ocControl), (.sense a, ocSense), (.waitEvent a, ocWait)],
      (s.liveWith a x.2 = none → exec x.1 s = .next (settle s)) ∧
      (∀ o, s.liveWith a x.2 = some o → s.opFar a o = true → exec x.1 s = .next (settle (s.farStart a)))) ∧
    (∀ o, s.liveWith a ocControl = some o → s.opFar a o = false → ∃ t, exec (.control a) s = .next (settle t) ∧
      t = { s with ops := t.ops } ∧ t.op a = some { o with begun := true, handedLast := true } ∧
      ∀ b, b ≠ a.val → t.op b = s.op b) ∧
    (∀ o, s.liveWith a ocSense = some o → s.opFar a o = false →
      (o.chainRead = false ∨ s.writesHeld a = true → exec (.sense a) s = .next (settle s)) ∧
      (o.chainRead = true → s.writesHeld a = false →
        (o.areaReady a 32 = false → exec (.sense a) s = .next (settle (s.areaShort a o))) ∧
        (o.areaReady a 32 = true →
          let r := s.senseBlock o.first.cls (devIndex o.first.dev)
          exec (.sense a) s = .next (settle ((r.1.deliver a (r.2.take o.room) false).endOp a stSuccess 0))))) ∧
    (∀ o, s.liveWith a ocWait = some o → s.opFar a o = false →
      let i := devIndex o.first.dev
      let stands := (o.first.func == 0x01 && s.pendingFor o.first.cls i o.first.sub) ||
        (o.first.func == 0x0A && s.lxbIrqs.testBit (o.first.param % 4))
      (stands = true → ∃ t, exec (.waitEvent a) s = .next (settle t) ∧ OpEnded s t a stSuccess 0) ∧
      (stands = false → exec (.waitEvent a) s = .next (settle s))) ∧
    (∀ tag : Fin 2048,
      (∀ o, s.liveWith tag ocWait = some o →
        (o.first.func = 0x0F → ∃ t, exec (.engineTimerExpiry tag) s = .next (settle t) ∧ OpEnded s t tag stSuccess 0) ∧
        (o.first.func ≠ 0x0F → exec (.engineTimerExpiry tag) s = .next (settle s))) ∧
      (s.liveWith tag ocWait = none → exec (.engineTimerExpiry tag) s = .next (settle s)) ∧
      (∀ o p, s.liveWith tag ocMark = some o → s.prog tag = some p →
        (o.begun = true → exec (.mark tag) s = .next (settle s)) ∧
        (o.begun = false →
          let r := (s.setOp tag { o with begun := true }).tracePush .mark
            { type := 0x30, mid := 3, tag := some tag.val, sq := p.sq, arg0 := o.first.param, arg1 := o.firstAddr }
          exec (.mark tag) s = .next (settle (if r.2 then r.1 else r.1.endOp tag stSuccess 0)))) ∧
      (s.liveWith tag ocMark = none ∨ s.prog tag = none → exec (.mark tag) s = .next (settle s)))

/-- The Tumbler is taken by the first read of its bound sender, shown to later ones, and freed only by its owner's own
code. A read by the bound sender takes a free lock and gives 0; while it is held it gives 0 to the owner and the
owner's MID + 1 to any other, and changes nothing. A write by the owner of its MID + 1 frees it; any other write by
the sender is ignored. A read or write by a MID that is not the bound sender is a Keyway violation, and a read then
gives 0. While registers do not answer (R98) neither has an effect. Completes: TUMBLER_READ, TUMBLER_RELEASE. -/
def Obligations.TumblerLocks : Prop :=
  ∀ (s : State) (c : Fin 16) (mid : BitVec 4) (origin : BitVec 10),
    let w := who mid origin
    (s.answers = true → s.isSender c mid.toNat = true →
      ((s.chan c).owner = none → ∃ t, exec (.tumblerRead c mid origin) s = .next (settle { t with readData := 0 }) ∧
        ChanBecomes s t c { s.chan c with owner := some w.key }) ∧
      (∀ o, (s.chan c).owner = some o → exec (.tumblerRead c mid origin) s =
        .next (settle { s with readData := if o = w.key then 0 else o.1 + 1 })) ∧
      (∀ v : BitVec 5, (s.chan c).owner = some w.key → v.toNat = mid.toNat + 1 → ∃ t,
        exec (.tumblerRelease c mid origin v) s = .next (settle t) ∧ ChanBecomes s t c { s.chan c with owner := none }) ∧
      (∀ v : BitVec 5, (s.chan c).owner ≠ some w.key ∨ v.toNat ≠ mid.toNat + 1 →
        exec (.tumblerRelease c mid origin v) s = .next (settle s))) ∧
    (s.answers = true → s.isSender c mid.toNat = false →
      (∃ t, exec (.tumblerRead c mid origin) s = .next (settle { t with readData := 0 }) ∧ Violated s t c w false) ∧
      ∀ v, ∃ t, exec (.tumblerRelease c mid origin v) s = .next (settle t) ∧ Violated s t c w true) ∧
    (s.answers = false → exec (.tumblerRead c mid origin) s = .next (settle s) ∧
      ∀ v, exec (.tumblerRelease c mid origin v) s = .next (settle s))

/-- A message goes from the transmit words through staging into the receive queue, in order, and pop removes the head.
While registers answer: go by the Tumbler's owner marks the copy due, and by any other sender sets the cause denied.
The copy moves the words into a free staging stage with the identity that wrote go, and with release frees the lock
where that identity still owns it (the model's choice, log entry 111). The check delivers a well-formed message to the
end of a queue of fewer than four, drops it on a full one with its cause, and hands a malformed one to fault source 5.
pop by the receiver removes the head, and on an empty queue sets its cause. By a MID that is not the party, go and pop
are violations. With nothing to copy or check nothing happens. Completes: MAILBOX_GO, MAILBOX_COPY, MAILBOX_CHECK,
MAILBOX_POP. -/
def Obligations.MessagesMove : Prop :=
  ∀ (s : State) (c : Fin 16),
    ((s.chan c).going = false ∨ (s.chan c).staging ≠ none ∨ s.answers = false →
      exec (.mailboxCopy c) s = .next s) ∧
    ((s.chan c).staging = none ∨ s.answers = false → exec (.mailboxCheck c) s = .next (settle s)) ∧
    (s.answers = true →
      (∀ mid origin rel, s.isSender c mid.toNat = true →
        (s.mayTransmit c (who mid origin) = true → ∃ t, exec (.mailboxGo c mid origin rel) s = .next (settle t) ∧
          ChanBecomes s t c { s.chan c with going := true, goRelease := rel, goBy := (who mid origin).key }) ∧
        (s.mayTransmit c (who mid origin) = false → ∃ t, exec (.mailboxGo c mid origin rel) s = .next (settle t) ∧
          Only s t [R.MBX_EVT_cause c, R.MBX_CNT_count c 2] ∧
          Raised s t (R.MBX_EVT_cause c) 2 (R.MBX_CNT_count c 2))) ∧
      (∀ mid origin rel, s.isSender c mid.toNat = false → ∃ t,
        exec (.mailboxGo c mid origin rel) s = .next (settle t) ∧ Violated s t c (who mid origin) true) ∧
      ((s.chan c).going = true → (s.chan c).staging = none →
        let o := (s.chan c).goBy
        ∃ t m, exec (.mailboxCopy c) s = .next t ∧ ChanBecomes s t c { s.chan c with
          going := false, goRelease := false, goBy := (0, 0), staging := some m
          owner := if (s.chan c).goRelease = true ∧ (s.chan c).owner = some o then none else (s.chan c).owner } ∧
        m.mid = o.1 ∧ m.addr = o.2 ∧
        m.words = (List.range (msgLen (s.get (R.MBX_TX_word c 0)))).map fun i => s.get (R.MBX_TX_word c i)) ∧
      (∀ m, (s.chan c).staging = some m →
        (msgOk m.words = true → (s.chan c).queue.length < 4 → ∃ t, exec (.mailboxCheck c) s = .next (settle t) ∧
          Only { s with chans := t.chans } t [R.MBX_CNT_count c 4] ∧
          t.get (R.MBX_CNT_count c 4) = s.plus (R.MBX_CNT_count c 4) 1 ∧
          t.chan c = { s.chan c with staging := none, queue := (s.chan c).queue ++ [m] } ∧
          ∀ d, d ≠ c.val → t.chan d = s.chan d) ∧
        (msgOk m.words = true → 4 ≤ (s.chan c).queue.length → ∃ t, exec (.mailboxCheck c) s = .next (settle t) ∧
          Only { s with chans := t.chans } t [R.MBX_CNT_count c 4, R.MBX_EVT_cause c, R.MBX_CNT_count c 0] ∧
          t.chan c = { s.chan c with staging := none } ∧
          Raised s t (R.MBX_EVT_cause c) 0 (R.MBX_CNT_count c 0)) ∧
        (msgOk m.words = false → ∃ t, exec (.mailboxCheck c) s = .next (settle t) ∧
          Only { s with chans := t.chans, dueFaults := t.dueFaults } t [R.MBX_EVT_cause c, R.MBX_CNT_count c 1] ∧
          t.chan c = { s.chan c with staging := none } ∧ Raised s t (R.MBX_EVT_cause c) 1 (R.MBX_CNT_count c 1) ∧
          ∃ e, t.dueFaults = s.dueFaults ++ [e] ∧ e.src = 5 ∧ e.detail = 1 ∧ e.res = c.val)) ∧
      (∀ mid origin, s.isReceiver c mid.toNat = true →
        ((s.chan c).queue ≠ [] → ∃ t, exec (.mailboxPop c mid origin) s = .next (settle t) ∧
          ChanBecomes s t c { s.chan c with queue := (s.chan c).queue.drop 1 }) ∧
        ((s.chan c).queue = [] → ∃ t, exec (.mailboxPop c mid origin) s = .next (settle t) ∧
          Only s t [R.MBX_EVT_cause c, R.MBX_CNT_count c 3] ∧
          Raised s t (R.MBX_EVT_cause c) 3 (R.MBX_CNT_count c 3))) ∧
      (∀ mid origin, s.isReceiver c mid.toNat = false → ∃ t, exec (.mailboxPop c mid origin) s = .next (settle t) ∧
        Violated s t c (who mid origin) true))

/-- MID 2 binds channels and sets the lock, after which and from any other MID a write is refused. While registers
answer and before the lock, a write of KWY_BINDc by MID 2 that changes the register sets it, empties the channel,
frees its Tumbler and clears its causes; one that changes nothing has no effect; the lock is set by its bit. Under the
lock every write of either sets the cause locked_write and its count; a write by another MID is a violation, before
the lock and after it (that of KWY_CTL shows channel 0: the model's choice, log entry 110). Completes: KEYWAY_BIND,
KEYWAY_LOCK. -/
def Obligations.KeywayBindsAndLocks : Prop :=
  ∀ (s : State) (c : Fin 16) (origin : BitVec 10) (v : W32), s.answers = true →
    (s.on R.KWY_CTL_lock = false →
      (let t := ((s.put (R.KWY_BIND_sender c) (bits v.toNat 0 4)).put (R.KWY_BIND_receiver c) (bits v.toNat 4 4)).put
        (R.KWY_BIND_valid c) (bits v.toNat 8 1)
       t.regs = s.regs → exec (.keywayBind c 2 origin v) s = .next (settle s)) ∧
      (s.get (R.KWY_BIND_sender c) ≠ bits v.toNat 0 4 ∨ s.get (R.KWY_BIND_receiver c) ≠ bits v.toNat 4 4 ∨
          s.get (R.KWY_BIND_valid c) ≠ bits v.toNat 8 1 → ∃ t, exec (.keywayBind c 2 origin v) s = .next (settle t) ∧
        Only { s with chans := t.chans } t
          [R.KWY_BIND_sender c, R.KWY_BIND_receiver c, R.KWY_BIND_valid c, R.MBX_EVT_cause c] ∧
        t.chan c = {} ∧ (∀ d, d ≠ c.val → t.chan d = s.chan d) ∧ t.get (R.KWY_BIND_sender c) = bits v.toNat 0 4 ∧
        t.get (R.KWY_BIND_receiver c) = bits v.toNat 4 4 ∧ t.get (R.KWY_BIND_valid c) = bits v.toNat 8 1 ∧
        t.get (R.MBX_EVT_cause c) = 0) ∧
      ∃ t, exec (.keywayLock 2 origin v) s = .next (settle t) ∧ Only s t [R.KWY_CTL_lock] ∧
        t.get R.KWY_CTL_lock = bits v.toNat 0 1) ∧
    (s.on R.KWY_CTL_lock = true → ∃ u, Only s u [R.KWY_VIOL_cause, R.KWY_CNT_count 1] ∧
      Raised s u R.KWY_VIOL_cause 1 (R.KWY_CNT_count 1) ∧ exec (.keywayBind c 2 origin v) s = .next (settle u) ∧
      exec (.keywayLock 2 origin v) s = .next (settle u) ∧
      ∀ mid : BitVec 4, mid ≠ 2 →
        (∃ t, exec (.keywayBind c mid origin v) s = .next (settle t) ∧ Violated u t c (who mid origin) true) ∧
        ∃ t, exec (.keywayLock mid origin v) s = .next (settle t) ∧ Violated u t 0 (who mid origin) true) ∧
    (∀ mid : BitVec 4, mid ≠ 2 → s.on R.KWY_CTL_lock = false →
      (∃ t, exec (.keywayBind c mid origin v) s = .next (settle t) ∧ Violated s t c (who mid origin) true) ∧
      ∃ t, exec (.keywayLock mid origin v) s = .next (settle t) ∧ Violated s t 0 (who mid origin) true)

/-- A doorbell is judged by its queue, its writer and its value: taken, refused with its cause, or an error of its
queue. While registers answer: a tail within the published and free range of an ACTIVE queue becomes T; one out of
range puts the queue into ERROR with reason 3 or 2. A ring head between the head and the tail is taken, any other sets
the ring's cause. A resume makes a suspended program run, to read its CCW again, and is remembered by any other. A
doorbell of an absent or inactive queue, of another MID or for a tag that is not the queue's only sets its cause.
Completes: SQ_DOORBELL, RESUME_DOORBELL, CR_HEAD_DOORBELL. -/
def Obligations.DoorbellsJudged : Prop :=
  ∀ s : State, s.answers = true →
    (∀ (n : Fin 256) (mid : BitVec 4) (v : BitVec 13),
      let q := s.sq n
      (s.sqAbsent n = true ∨ mid.toNat = q.owner ∧ q.state ≠ 1 → ∃ t,
        exec (.sqDoorbell n mid v) s = .next (settle t) ∧ QmgCause s t 1) ∧
      (s.sqAbsent n = false → mid.toNat ≠ q.owner → ∃ t,
        exec (.sqDoorbell n mid v) s = .next (settle t) ∧ QmgCause s t 0) ∧
      (s.sqAbsent n = false → mid.toNat = q.owner → q.state = 1 →
        let d := fun x => ptrDiff q.log2 x q.h
        (v.toNat < 2 ^ (q.log2 + 1) → d q.t ≤ d v.toNat → d v.toNat ≤ 2 ^ q.log2 → ∃ t,
          exec (.sqDoorbell n mid v) s = .next (settle t) ∧ SqBecomes s t n { q with t := v.toNat }) ∧
        (v.toNat < 2 ^ (q.log2 + 1) → d v.toNat < d q.t ∨ 2 ^ q.log2 < d v.toNat →
          exec (.sqDoorbell n mid v) s = .next (settle (s.sqError n 2 v.toNat))) ∧
        (2 ^ (q.log2 + 1) ≤ v.toNat →
          exec (.sqDoorbell n mid v) s = .next (settle (s.sqError n 3 v.toNat))))) ∧
    (∀ (n : Fin 256) (mid : BitVec 4) (tag : BitVec 11),
      let resumes (t : State) := exec (.resumeDoorbell n mid tag) s = .next (settle t.reready)
      (s.sqAbsent n = true → ∃ t, resumes t ∧ QmgCause s t 1) ∧
      (s.sqAbsent n = false → mid.toNat ≠ (s.sq n).owner → ∃ t, resumes t ∧ QmgCause s t 0) ∧
      (s.sqAbsent n = false → mid.toNat = (s.sq n).owner →
        (∀ p, s.prog tag.toNat = some p → p.sq = n.val → p.st ≠ .ended → p.st ≠ .suspended → ∃ t,
          resumes t ∧ t = { s with progs := t.progs } ∧
          t.prog tag.toNat = some { p with resume := true } ∧ ∀ k, k ≠ tag.toNat → t.prog k = s.prog k) ∧
        (∀ p, s.prog tag.toNat = some p → p.sq = n.val → p.st = .suspended → resumes ((s.trace .program
          { type := 0x04, mid := 3, tag := some tag.toNat, sq := p.sq, arg0 := p.ccwAddr }).setProg tag.toNat
            { p with st := .running, resumed := true, ccwRead := none, ccwWait := false })) ∧
        ((∀ p, s.prog tag.toNat = some p → p.sq ≠ n.val ∨ p.st = .ended) → ∃ t, resumes t ∧ QmgCause s t 2))) ∧
    (∀ (m : Fin 65) (mid : BitVec 4) (v : BitVec 13),
      let r := s.ring m
      (r.exist = false → ∃ t, exec (.crHeadDoorbell m mid v) s = .next t ∧ QmgCause s t 1) ∧
      (r.exist = true → mid.toNat ≠ r.owner → ∃ t, exec (.crHeadDoorbell m mid v) s = .next t ∧ QmgCause s t 0) ∧
      (r.exist = true → mid.toNat = r.owner →
        (v.toNat < 2 ^ (r.log2 + 1) ∧ ptrDiff r.log2 v.toNat r.head ≤ ptrDiff r.log2 r.tail r.head → ∃ t,
          exec (.crHeadDoorbell m mid v) s = .next t ∧ RingBecomes s t m { r with head := v.toNat }) ∧
        (¬ (v.toNat < 2 ^ (r.log2 + 1) ∧ ptrDiff r.log2 v.toNat r.head ≤ ptrDiff r.log2 r.tail r.head) → ∃ t,
          exec (.crHeadDoorbell m mid v) s = .next t ∧ Only s t [R.QMG_CR_EVT_cause m, R.QMG_CR_CNT_count m 2] ∧
          Raised s t (R.QMG_CR_EVT_cause m) 2 (R.QMG_CR_CNT_count m 2))))

/-- Queues fetch when R313 allows it; the admin pair is enabled, served and disabled; a ring's delay and a shutdown
end. A queue that may fetch and whose turn it is, by priority and then round robin, has its read made, and any other
has none; the admin fetcher does the same for SQ 0. A served SQ 0 entry is reported. While registers answer: an
enabling write starts the pair with pointers at 0 for its function, after the depth fields have taken permitted
values; the owner's disable stops it; a write by the other function while it is enabled has no effect. The end of the
wait ends unfinished entries ABORTED and takes the pair away. A ring's delay sets posted and its count to 0; a
shutdown that has drained ends. Each does nothing where its condition fails. Completes: ENTRY_FETCH, ADMIN_FETCH,
ADMIN_ENTRY_DONE, ADMIN_ENABLE, ADMIN_DISABLE, ADMIN_DISABLE_END, RING_DELAY_EXPIRY, SHUTDOWN_COMPLETE. -/
def Obligations.QueuesFetchAndClose : Prop :=
  ∀ s : State,
    (∀ n : Fin 256,
      let q := s.sq n
      (s.canFetch n = true → s.fetchTurn n = true → exec (.entryFetch n) s = .next
        (({ s with fetchLast := tset s.fetchLast q.prio n }).hostRead q.owner
          (q.base + 64 * ptrSlot q.log2 (s.fetchFrom n)) (64 * s.fetchSize n) (.entries n (s.fetchSize n)))) ∧
      (s.canFetch n = false ∨ s.fetchTurn n = false → exec (.entryFetch n) s = .next s) ∧
      (s.fetchTurn n = true ↔ ∀ e ∈ s.sqs, s.canFetch e.1 = true →
        q.prio < e.2.prio ∨ q.prio = e.2.prio ∧ s.fetchAge n ≤ s.fetchAge e.1)) ∧
    (s.canAdminFetch = true → exec .adminFetch s = .next (s.hostRead (s.sq 0).owner
      ((s.sq 0).base + 64 * ptrSlot (s.sq 0).log2 (s.sq 0).h) (64 * s.adminSize) (.admin s.adminSize))) ∧
    (s.canAdminFetch = false → exec .adminFetch s = .next s) ∧
    (∀ e rest, s.admin = e :: rest →
      (∀ st, e.reply = some st →
        exec .adminEntryDone s = .next (({ s with admin := rest }).postAdmin e.slot stSuccess st e.bytes)) ∧
      (e.reply = none → exec .adminEntryDone s = .next s)) ∧
    (s.admin = [] → exec .adminEntryDone s = .next s) ∧
    (s.answers = true → ∀ (mid : BitVec 4) (v : W32),
      let u := (s.putDepth R.QMG_ADM_CTL_sq_log2 (bits v.toNat 4 4)).putDepth R.QMG_ADM_CTL_acr_log2
        (bits v.toNat 8 4)
      (s.on R.QMG_ADM_CTL_enable = false →
        (mid.toNat < 2 → s.admStop = false → v.toNat.testBit 0 = true →
          1 ≤ bits v.toNat 4 4 → bits v.toNat 4 4 ≤ 12 → 1 ≤ bits v.toNat 8 4 → bits v.toNat 8 4 ≤ 12 → ∃ t,
          exec (.adminEnable mid v) s = .next t ∧ Only { s with sqs := t.sqs, rings := t.rings } t
            [R.QMG_ADM_CTL_enable, R.QMG_ADM_CTL_owner, R.QMG_ADM_CTL_sq_log2, R.QMG_ADM_CTL_acr_log2] ∧
          t.get R.QMG_ADM_CTL_enable = 1 ∧ t.get R.QMG_ADM_CTL_owner = mid.toNat ∧
          t.sq 0 = { state := 1, owner := mid.toNat, log2 := bits v.toNat 4 4, base := s.get R.QMG_ADM_SQ_BASE_base } ∧
          t.ring 64 = { exist := true, owner := mid.toNat, log2 := bits v.toNat 8 4,
                        base := s.get R.QMG_ADM_CR_BASE_base }) ∧
        (mid.toNat < 2 → s.admStop = false → v.toNat.testBit 0 = true →
          exec (.adminEnable mid v) s = .next (u.adminEnable mid.toNat)) ∧
        (2 ≤ mid.toNat ∨ s.admStop = true ∨ v.toNat.testBit 0 = false → exec (.adminEnable mid v) s = .next u) ∧
        exec (.adminDisable mid) s = .next s) ∧
      (s.on R.QMG_ADM_CTL_enable = true → mid.toNat = s.get R.QMG_ADM_CTL_owner → ∃ t,
        exec (.adminDisable mid) s = .next t ∧ Only { s with admStop := true } t [R.QMG_ADM_CTL_enable] ∧
        t.get R.QMG_ADM_CTL_enable = 0 ∧
        (v.toNat.testBit 0 = false → exec (.adminEnable mid v) s = .next t) ∧
        (v.toNat.testBit 0 = true → exec (.adminEnable mid v) s = .next s)) ∧
      (s.on R.QMG_ADM_CTL_enable = true → mid.toNat ≠ s.get R.QMG_ADM_CTL_owner →
        exec (.adminDisable mid) s = .next s ∧ exec (.adminEnable mid v) s = .next s)) ∧
    (s.admStop = true → ∃ t, exec .adminDisableEnd s = .next t ∧ t.admStop = false ∧ t.admin = [] ∧ t.sq 0 = {} ∧
      (t.ring 64).exist = false ∧ t.get R.QMG_ADM_CTL_owner = 0 ∧
      ∃ u : State, u = s.adminAbort ∧ Only { u with admStop := false, sqs := t.sqs, rings := t.rings } t
        [R.QMG_ADM_CTL_owner]) ∧
    (s.admStop = false → exec .adminDisableEnd s = .next s) ∧
    (∀ m : Fin 65, (s.ring m).count ≠ 0 → s.get (R.QMG_CR_INT_delay m) ≠ 0 → ∃ t,
      exec (.ringDelayExpiry m) s = .next t ∧
      Only { s with rings := t.rings } t [R.QMG_CR_EVT_cause m, R.QMG_CR_CNT_count m 0] ∧
      t.ring m = { s.ring m with count := 0 } ∧ Raised s t (R.QMG_CR_EVT_cause m) 0 (R.QMG_CR_CNT_count m 0)) ∧
    (∀ m : Fin 65, (s.ring m).count = 0 ∨ s.get (R.QMG_CR_INT_delay m) = 0 →
      exec (.ringDelayExpiry m) s = .next s) ∧
    (∀ n : Fin 256, (s.sq n).shutting = true → s.held n = 0 → ∃ t, exec (.shutdownComplete n) s = .next t ∧
      SqBecomes s t n (if (s.sq n).destroy then {} else { s.sq n with shutting := false })) ∧
    (∀ n : Fin 256, (s.sq n).shutting = false ∨ s.held n ≠ 0 → exec (.shutdownComplete n) s = .next s)

/-- Completions reach what asked for them, credits let waiting requests leave, and a function that is no bus master
holds its own. A completion of an issued request ends it, is handed with those of its read to its reader, and lets
further requests leave; one that matches none is logged or, for an abandoned read, dropped; while the link is down
none arrives. A time-out does the same with a failed completion, unless it is disabled or the request is held. A
returned credit lets waiting writes or requests leave, with attributes 0, and otherwise is only kept. A change of Bus
Master Enable while the link is up lets what is held leave, or withdraws staged messages; with nothing held it only
sets its fields. Completes: READ_COMPLETION, ENTRY_FETCHED, COMPLETION_TIMEOUT, POSTED_CREDIT_RETURN,
NONPOSTED_CREDIT_RETURN, BUS_MASTER_CHANGE. -/
def Obligations.HostReadsAndCredits : Prop :=
  ∀ s : State,
    (∀ (f : Fin 2) id c,
      let done (t : State) := exec (.readCompletion f id c) s = .next (settle t.fwGoOn.reready)
      let named := (s.fn f).reads.find? fun r => r.parts.any fun q => q.id == id && q.out
      (s.on R.INT_LINK_up = false → done s) ∧
      (s.on R.INT_LINK_up = true →
        (∀ r, named = some r → done ((s.cplErrors f r.purpose c).partDone f id c)) ∧
        (named = none → (s.fn f).late.contains id = true →
          done (s.setFn f { s.fn f with late := (s.fn f).late.erase id })) ∧
        (named = none → (s.fn f).late.contains id = false → done (s.aer f .unexpCpl) ∧
          (s.aer f .unexpCpl).get (R.CFG_AER_UNC_unexp_cpl f) = 1)) ∧
      (∀ r q d, (s.fn f).reads = [r] → r.parts = [q] → q.id = id → q.got = none → s.partDone f id (.ok d) =
        (((s.setFn f { s.fn f with reads := [] }).readDone { r with parts := [{ q with got := some (.ok d) }] }
          (.ok (fit q.len d))).issueReads f))) ∧
    (∀ (f : Fin 2) c, (∀ r, s.entryRead f = some r →
        exec (.entryFetched f c) s = .next (settle (s.completion f r.id c).reready)) ∧
      (s.entryRead f = none → exec (.entryFetched f c) s = .next (settle s))) ∧
    (∀ (f : Fin 2) id,
      let times (t : State) := exec (.completionTimeout f id) s = .next (settle t.fwGoOn.reready)
      let named := (s.fn f).parts.find? fun q => q.id == id && q.got.isNone
      (named = none → times s) ∧
      (∀ q, named = some q → s.on (R.CFG_DEVCTL2_cto_disable f) = true ∨ q.issued = false ∧ s.busMaster f = false →
        times s) ∧
      (∀ q, named = some q → s.on (R.CFG_DEVCTL2_cto_disable f) = false → q.issued = true ∨ s.busMaster f = true →
        times (((s.aer f .cplTimeout).hifRaise 4 f).partDone f id .failed))) ∧
    (∀ n : BitVec 12, exec (.postedCreditReturn n) s =
      .next (({ s with postCredit := s.postCredit + n.toNat }.drain 0).drain 1)) ∧
    (∀ n : BitVec 12, s.pf0.posts = [] → s.pf1.posts = [] → s.cplWait = [] →
      exec (.postedCreditReturn n) s = .next { s with postCredit := s.postCredit + n.toNat }) ∧
    (∀ (n : BitVec 12) p, s.pf0.posts = [p] → p.kind = .data → s.pf1.posts = [] → s.cplWait = [] →
      s.canIssue 0 = true → n ≠ 0 → exec (.postedCreditReturn n) s = .next { s with
        pf0 := { s.pf0 with posts := [] }, postCredit := s.postCredit + n.toNat - 1
        out := s.out ++ [.write 0 p.addr p.data { relaxed := false, noSnoop := false, idOrder := false }] }) ∧
    (∀ n : BitVec 12, exec (.nonpostedCreditReturn n) s =
      .next (({ s with readCredit := s.readCredit + n.toNat }.issueReads 0).issueReads 1)) ∧
    (∀ n : BitVec 12, s.pf0.reads = [] → s.pf1.reads = [] →
      exec (.nonpostedCreditReturn n) s = .next { s with readCredit := s.readCredit + n.toNat }) ∧
    (∀ (n : BitVec 12) r q, s.pf0.reads = [r] → r.parts = [q] → q.issued = false → q.got = none → s.pf1.reads = [] →
      s.canIssue 0 = true → n ≠ 0 → exec (.nonpostedCreditReturn n) s = .next { s with
        pf0 := { s.pf0 with reads := [{ r with parts := [{ q with issued := true }] }] }
        readCredit := s.readCredit + n.toNat - 1
        out := s.out ++ [.read 0 q.id q.addr q.len { relaxed := false, noSnoop := false, idOrder := false }] }) ∧
    (∀ (f : Fin 2) bme d3, s.hostUp = false → exec (.busMasterChange f bme d3) s = .next s) ∧
    (∀ (f : Fin 2) bme d3, s.hostUp = true →
      let u := (s.flag (R.CFG_CMD_bme f) bme).flag (R.CFG_PM_d3 f) d3
      (u.busMaster f = (bme && !d3)) ∧
      (u.busMaster f = true →
        exec (.busMasterChange f bme d3) s = .next (((u.drain f).issueReads f).sendCancels f)) ∧
      (u.busMaster f = false → exec (.busMasterChange f bme d3) s =
        .next ((u.unstageMsix f).cplRelease (u.unstageMsix f).cplWait.length))) ∧
    (∀ (f : Fin 2) bme d3, s.hostUp = true → (s.fn f).posts = [] → (s.fn f).reads = [] → s.cancels = [] →
      s.cplWait = [] → ∃ t,
      exec (.busMasterChange f bme d3) s = .next t ∧ Only s t [R.CFG_CMD_bme f, R.CFG_PM_d3 f] ∧
      t.get (R.CFG_CMD_bme f) = b2n bme ∧ t.get (R.CFG_PM_d3 f) = b2n d3)

/-- A function-level reset ends everything its function owns; a link that goes down resets both functions and shows
it. After a function-level reset the function has no program, active queue, ring, staged request, slot, lock or
waiting message, its configuration is at reset values, and its cause is set; a pending warm or unit reset absorbs it,
and over a link that is down none arrives. A hot reset, a link down and PERST_N do this to both functions and clear
INT_LINK. The link comes up when it may train, with its width and speed; a degraded link shows width 1. Completes:
FUNCTION_LEVEL_RESET, HOT_RESET, PCIE_LINK_DOWN, PERST_ASSERT, PCIE_LINK_UP, LINK_WIDTH_DEGRADE. -/
def Obligations.HostResetsAndLink : Prop :=
  ∀ s : State,
    (∀ f : Fin 2, s.hostUp = true → s.resetDue = none → ∃ t, exec (.functionLevelReset f) s = .next (settle t) ∧
      FunctionReset s t f ∧ t.bitOf R.INT_HIF_EVT_cause f = true ∧ t.nv = s.nv ∧ t.sram = s.sram) ∧
    (∀ f : Fin 2, s.hostUp = false ∨ s.resetDue ≠ none → exec (.functionLevelReset f) s = .next (settle s)) ∧
    (∀ c ∈ [Instr.hotReset, .pcieLinkDown, .perstAssert], ∃ t, exec c s = .next (settle t) ∧ FunctionReset s t 0 ∧
      FunctionReset s t 1 ∧ t.get R.INT_LINK_up = 0 ∧ t.get R.INT_LINK_width = 0 ∧ t.get R.INT_LINK_speed = 0 ∧
      (s.on R.INT_LINK_up = true → t.bitOf R.INT_HIF_EVT_cause 2 = true) ∧
      (c = .perstAssert → t.get R.INT_LINK_perst_n = 0)) ∧
    (∀ x2 speed, s.linkMayTrain = true → s.on R.INT_LINK_up = false → ∃ t,
      exec (.pcieLinkUp x2 speed) s = .next t ∧ Only s t [R.INT_LINK_up, R.INT_LINK_width, R.INT_LINK_speed] ∧
      t.get R.INT_LINK_up = 1 ∧ t.get R.INT_LINK_width = (if x2 then 2 else 1) ∧
      t.get R.INT_LINK_speed = speed.val + 1) ∧
    (∀ x2 speed, s.linkMayTrain = false ∨ s.on R.INT_LINK_up = true → exec (.pcieLinkUp x2 speed) s = .next s) ∧
    (s.on R.INT_LINK_up = true → ∃ t, exec .linkWidthDegrade s = .next t ∧ Only s t [R.INT_LINK_width] ∧
      t.get R.INT_LINK_width = 1) ∧
    (s.on R.INT_LINK_up = false → exec .linkWidthDegrade s = .next s)

/-- A rising gated level makes its message due, a falling one clears the pending bit; requests that are not performed
are logged. On a rise of a level the message is sent, marked pending while masked, or dropped while MSI-X is off, and
the level is kept; on a fall it is forgotten, the pending bit clears and a staged message is withdrawn; without a
change nothing happens. REARM makes a message due again for each named high level, which counts as the rise. A pending
message whose conditions hold is sent once. Over a link that is up, a poisoned write and each kind of request that is
not performed log their error and set their cause, a refused read is completed so, and an error of the link is logged
for both functions; logging sets the error's bit and sends its message where that is not masked. Completes:
MSIX_MESSAGE, MSIX_PENDING_SEND, INTERRUPT_REARM, POISONED_WRITE_RX, INBOUND_UNSUPPORTED_REQUEST. -/
def Obligations.InterruptMessages : Prop :=
  ∀ (s : State) (f : Fin 2),
    (∀ x : Fin 4,
      let old := (tget s.lastLevel (4 * f.val + x.val)).getD false
      let u := { s with lastLevel := tset s.lastLevel (4 * f.val + x.val) true }
      let fell := { s with lastLevel := tdel s.lastLevel (4 * f.val + x.val) }
      (s.level f x = true → old = true → exec (.msixMessage f x) s = .next s) ∧
      (s.level f x = true → old = false → s.msixOpen f x = true → exec (.msixMessage f x) s =
        .next (u.posts f [{ addr := s.get (R.MSIX_ADDR_addr f x), data := leBytes 4 (s.get (R.MSIX_DATA_data f x)),
                            kind := .msix x }])) ∧
      (s.level f x = true → old = false → s.on (R.CFG_MSIX_enable f) = false →
        exec (.msixMessage f x) s = .next u) ∧
      (s.level f x = true → old = false → s.on (R.CFG_MSIX_enable f) = true → s.msixOpen f x = false → ∃ t,
        exec (.msixMessage f x) s = .next t ∧ Only u t [R.MSIX_PBA_pending f] ∧
        t.bitOf (R.MSIX_PBA_pending f) x = true) ∧
      (s.level f x = false → s.bitOf (R.MSIX_PBA_pending f) x = false → exec (.msixMessage f x) s = .next fell) ∧
      (s.level f x = false → s.bitOf (R.MSIX_PBA_pending f) x = true → ∃ t, exec (.msixMessage f x) s = .next
          (t.setFn f { s.fn f with posts := (s.fn f).posts.filter fun p => p.kind != .msix x }) ∧
        Only fell t [R.MSIX_PBA_pending f] ∧ t.bitOf (R.MSIX_PBA_pending f) x = false) ∧
      (s.bitOf (R.MSIX_PBA_pending f) x = true → s.msixOpen f x = true → s.level f x = true →
        s.msixStaged f x = false → exec (.msixPendingSend f x) s = .next (s.msixPost f x)) ∧
      (s.bitOf (R.MSIX_PBA_pending f) x = false ∨ s.msixOpen f x = false ∨ s.level f x = false ∨
          s.msixStaged f x = true → exec (.msixPendingSend f x) s = .next s) ∧
      (s.answers = true → s.level f x = true →
        exec (.interruptRearm f (BitVec.ofNat 4 (2 ^ x.val))) s = .next (u.msixDue f x))) ∧
    (s.answers = true → ∀ v : BitVec 4, exec (.interruptRearm f v) s = .next ((List.range 4).foldl (fun t x =>
      if v.toNat.testBit x && t.level f x then
        { t with lastLevel := tset t.lastLevel (4 * f.val + x) true }.msixDue f x
      else t) s)) ∧
    (s.hostUp = true → exec (.poisonedWriteRx f) s = .next (settle ((s.aer f .poisoned).hifRaise 3 f))) ∧
    (s.hostUp = true → ∀ k,
      let refused (t : State) := exec (.inboundUnsupportedRequest f k) s = .next (settle t)
      (k = .unsupportedRead → refused (((s.aer f .unsupReq).hifRaise 5 f).complete (.completion 1 0))) ∧
      (k = .unsupportedPosted → refused ((s.aer f .unsupReq).hifRaise 5 f)) ∧
      (∀ off, k = .longRead off → refused
        ((((s.aer f .cplAbort).accessRefused off.toNat { mid := f }).hifRaise 5 f).complete (.completion 2 0))) ∧
      (∀ off, k = .longWrite off → refused
        (((s.aer f .cplAbort).accessRefused off.toNat { mid := f }).hifRaise 5 f)) ∧
      (k = .pageRead → refused (((s.aer f .cplAbort).hifRaise 5 f).complete (.completion 2 0))) ∧
      (∀ off, k = .pageWrite off → refused ((s.accessRefused off.toNat { mid := f }).hifRaise 5 f)) ∧
      (k = .vendorType1 → refused s) ∧
      (∀ e, k = .link e → refused (s.linkError e)) ∧
      (k = .staging true → refused (s.aer f .uncorInt)) ∧
      (k = .staging false → refused (s.aerCor f .internal))) ∧
    (s.hostUp = false → exec (.poisonedWriteRx f) s = .next (settle s) ∧
      ∀ k, exec (.inboundUnsupportedRequest f k) s = .next (settle s)) ∧
    (∀ e : Aer, (s.aer f e).get (e.status f) = 1 ∧
      (s.on (e.mask f) = true → (s.aer f e).out = s.out) ∧
      (s.on (e.mask f) = false → s.on R.INT_LINK_up = true → s.on (R.CFG_CMD_serr f) = true →
        (s.aer f e).out = s.out ++ [.errMessage f (if s.on (e.severity f) then 2 else 1)])) ∧
    (∀ o, s.cplWait = [] → (∀ g < 2, s.canIssue g = true → (s.fn g).posts = []) →
      s.complete o = { s with out := s.out ++ [o] })

/-- A received Ethernet frame is checked, then stored by its first filter and offered to the gateway; a sent one
leaves padded and counted. A frame with a bad FCS or a length out of range sets and counts each of its causes and goes
no further; a MAC control frame sets only its own. Any other is counted, stored by its lowest filter or counted as
taken by none, and, unless link-local, offered to the gateway. Nothing is received while the port carries no frames. A
sent frame leaves padded to 60 bytes, is counted, gives its egress timestamp where it asked for one, tells its
program, and the next is loaded. A collision counts, and the frame backs off or, late or the sixteenth time, is
dropped with detail 0x51; under active PLCA there is none. With no frame being sent both do nothing. Completes:
ETH_FRAME_RECEIVE, ETH_FRAME_SENT, ETH_COLLISION. -/
def Obligations.EthernetFramesMove : Prop :=
  ∀ (s : State) (m : Fin 7),
    (∀ l bad (time : W64), s.ethCarries m = false → exec (.ethFrameReceive m l bad time) s = .next (settle s)) ∧
    (∀ l bad (time : W64), s.ethCarries m = true →
      let long := s.get (R.ETH_CFG_max_len m) < l.length + 4
      (bad = true ∨ l.length + 4 < 64 ∨ long →
        let u := if bad then (s.setEth m { s.eth m with fcs := sat1 (s.eth m).fcs }).ethRaise m 2 else s
        let w := if l.length + 4 < 64 then u.ethRaise m 3 else u
        exec (.ethFrameReceive m l bad time) s = .next (settle (if long then w.ethRaise m 4 else w))) ∧
      (¬ (bad = true ∨ l.length + 4 < 64 ∨ long) →
        (etherType l = 0x8808 → exec (.ethFrameReceive m l bad time) s = .next (settle (s.ethRaise m 5))) ∧
        (etherType l ≠ 0x8808 →
          let when_ := ptpShift time.toNat (-(s.get (R.ETH_TS_LAT_ingress m) : Int))
          let u := s.setEth m { s.eth m with rx := sat1 (s.eth m).rx }
          (∀ f, (List.range 64).find? (s.ethFilterTakes m l) = some f →
            let w := (u.store clsEth m (s.get (R.ETH_FLT_W3_class m f)) (ethRecord l f when_)).count
              (R.ETH_CNT_count m 0)
            exec (.ethFrameReceive m l bad time) s = .next (settle
              (if linkLocal l then w else w.gwOffer (gwCode clsEth m) (ethRecord l 0 when_)))) ∧
          ((List.range 64).find? (s.ethFilterTakes m l) = none →
            let w := ((u.setEth m { u.eth m with noFilter := sat1 (u.eth m).noFilter }).ethRaise m 6).count
              (R.ETH_CNT_count m 2)
            exec (.ethFrameReceive m l bad time) s = .next (settle
              (if linkLocal l then w
               else (w.count (R.ETH_CNT_count m 0)).gwOffer (gwCode clsEth m) (ethRecord l 0 when_))))))) ∧
    (∀ f (time : W64), (s.eth m).tx = some f →
      let d := (recData f.bytes).take (recLen f.bytes)
      let u := State.count { (s.setEth m
        { s.eth m with tx := none, sent := sat1 (s.eth m).sent, burst := (s.eth m).burst - 1 }) with
          out := s.out ++ [Out.frame clsEth m (d ++ zeros (60 - d.length))] } (R.ETH_CNT_count m 1)
      let ends (w : State) := exec (.ethFrameSent m time) s = .next (settle
        (if (w.eth m).tx.isNone then w.setEth m { w.eth m with burst := 0 } else w))
      ((∀ token, f.src ≠ .program token) → ends (u.ethLoad m)) ∧
      (∀ token, f.src = .program token →
        ((recKind f.bytes).testBit 0 = false → ends ((u.frameLeft token).ethLoad m)) ∧
        ((recKind f.bytes).testBit 0 = true → ends (((u.ethStamp m (recIdent f.bytes % 4)
          (ptpShift time.toNat (u.get (R.ETH_TS_LAT_egress m)))).frameLeft token).ethLoad m)))) ∧
    (∀ time, (s.eth m).tx = none → exec (.ethFrameSent m time) s = .next (settle s)) ∧
    (∀ late f, (s.eth 6).tx = some f → s.on (R.ETH_STATUS_plca_active 6) = false →
      let u := (s.setEth 6 { s.eth 6 with collisions := sat1 (s.eth 6).collisions }).ethRaise 6 8
      (late = false → f.tries < 15 → exec (.ethCollision late) s = .next (settle
        (u.setEth 6 { u.eth 6 with tx := some { f with tries := f.tries + 1 } }))) ∧
      (late = true ∨ 15 ≤ f.tries →
        let w := u.setEth 6 { u.eth 6 with tx := none }
        (∀ token, f.src = .program token →
          exec (.ethCollision late) s = .next (settle ((w.frameFailed token 0x51).ethLoad 6))) ∧
        ((∀ token, f.src ≠ .program token) → exec (.ethCollision late) s = .next (settle (w.ethLoad 6))))) ∧
    (∀ late, (s.eth 6).tx = none ∨ s.on (R.ETH_STATUS_plca_active 6) = true →
      exec (.ethCollision late) s = .next (settle s))

/-- An enabled Ethernet port gets its link; a link change sets its cause; PLCA is taken up and lost; LINK_UP and
LINK_DOWN act on hold_down. While registers answer, an accepted enable sets en (and makes PLCA active on a running
coordinator), a refused one only sets cfg_refused, and one of an enabled port changes the other fields; a disable ends
what runs on the port and its link. A link that changes shows it, sets its cause and ends what waited, and a loss cuts
off what is sent; a port that may have no link gets none. A BEACON makes PLCA active on a running node, its loss ends
that with its cause on a node that is not the coordinator, and an opportunity sends a frame or lapses; the coordinator
sends its BEACON first. LINK_UP and LINK_DOWN clear and set hold_down; LINK_UP ends once the link is up. A function
that is not issued to the port does nothing. Completes: ETH_ENABLE, ETH_LINK_CHANGE, PLCA_BEACON_RECEIVE,
PLCA_BEACON_LOSS, PLCA_OPPORTUNITY, LINK_UP, LINK_DOWN, and PORT_ENABLE and PORT_DISABLE of an Ethernet port. -/
def Obligations.EthernetLinks : Prop :=
  ∀ (s : State) (m : Fin 7),
    (s.answers = true → ∀ (mid : BitVec 4) (v : W32),
      let u := s.writeOthers mid.toNat (setBit v.toNat 0) (R.ETH_CFG_en m)
      let w := u.put (R.ETH_CFG_en m) 1
      exec (.portEnable (.eth m) mid v) s = exec (.ethEnable m mid v) s ∧
      (u.on (R.ETH_CFG_en m) = true → exec (.ethEnable m mid v) s = .next (settle u)) ∧
      (u.on (R.ETH_CFG_en m) = false →
        (64 ≤ u.get (R.ETH_CFG_max_len m) → u.get (R.ETH_CFG_max_len m) ≤ 2000 →
          exec (.ethEnable m mid v) s = .next (settle (w.ethSettle m)) ∧
          (m.val = 6 → w.plcaOn = true → w.portRuns clsEth 6 = true → w.get R.ETH_PLCA_node_id = 0 →
            let x := w.put (R.ETH_STATUS_plca_active 6) 1
            w.ethSettle m = x.ethLinkTo 6 (x.ethMayLink 6))) ∧
        (u.get (R.ETH_CFG_max_len m) < 64 ∨ 2000 < u.get (R.ETH_CFG_max_len m) → ∃ t,
          exec (.ethEnable m mid v) s = .next (settle t) ∧ Only u t [R.ETH_EVT_cause m, R.ETH_EVT_CNT_count m 10] ∧
          Raised u t (R.ETH_EVT_cause m) 10 (R.ETH_EVT_CNT_count m 10)))) ∧
    (s.answers = true → ∀ (mid : BitVec 4) (v : W32),
      let u := s.writeOthers mid.toNat (clearBits v.toNat 1) (R.ETH_CFG_en m)
      (u.on (R.ETH_CFG_en m) = true → exec (.portDisable (.eth m) mid v) s = .next (settle
        (((u.put (R.ETH_CFG_en m) 0).portOff clsEth m stBadDevice 0x03).ethSettle m))) ∧
      (u.on (R.ETH_CFG_en m) = false → exec (.portDisable (.eth m) mid v) s = .next (settle u))) ∧
    (s.ethLink m = false → s.ethMayLink m = true →
      let u := ((s.put (R.ETH_STATUS_link m) 1).ethRaise m 0).linkUpDone m
      exec (.ethLinkChange m true) s =
        .next (settle ((u.portEvent clsEth m 0x06 (fun _ => true)).ethLoad m))) ∧
    (s.ethLink m = true →
      let u := ((s.put (R.ETH_STATUS_link m) 0).ethRaise m 1).ethCut m
      exec (.ethLinkChange m false) s = .next (settle (u.portEvent clsEth m 0x06 (fun _ => true)))) ∧
    (∀ up, s.ethLink m = up ∨ up = true ∧ s.ethMayLink m = false →
      exec (.ethLinkChange m up) s = .next (settle s)) ∧
    (s.plcaOn = true → s.portRuns clsEth 6 = true →
      exec .plcaBeaconReceive s = .next (s.put (R.ETH_STATUS_plca_active 6) 1)) ∧
    (s.plcaOn = false ∨ s.portRuns clsEth 6 = false → exec .plcaBeaconReceive s = .next s) ∧
    (s.on (R.ETH_STATUS_plca_active 6) = true → s.get R.ETH_PLCA_node_id ≠ 0 → exec .plcaBeaconLoss s = .next (settle
      (((s.put (R.ETH_STATUS_plca_active 6) 0).ethRaise 6 9).ethLoad 6))) ∧
    (s.on (R.ETH_STATUS_plca_active 6) = false ∨ s.get R.ETH_PLCA_node_id = 0 →
      exec .plcaBeaconLoss s = .next (settle s)) ∧
    (s.on (R.ETH_STATUS_plca_active 6) = true → (s.eth 6).tx = none →
      let u := if s.get R.ETH_PLCA_node_id = 0 then
          { s with out := s.out ++ [Out.line clsEth 6 2 (s.get R.ETH_PLCA_node_count)] } else s
      let w := (u.setEth 6 { u.eth 6 with burst := u.get R.ETH_PLCA_BURST_burst_count + 1 }).ethLoad 6
      exec .plcaOpportunity s = .next (settle
        (if (w.eth 6).tx.isNone then w.setEth 6 { w.eth 6 with burst := 0 } else w))) ∧
    (s.on (R.ETH_STATUS_plca_active 6) = false ∨ (s.eth 6).tx ≠ none →
      exec .plcaOpportunity s = .next (settle s)) ∧
    (∀ a : Fin 2560,
      (Issued s a clsEth 0x51 m → exec (.linkDown a) s = .next (settle
        (((s.put (R.ETH_PHY_hold_down m) 1).ethSettle m).endOp a stSuccess 0))) ∧
      (Issued s a clsEth 0x50 m →
        let u := ((s.put (R.ETH_PHY_hold_down m) 0).updOp a fun o => { o with event := true }).ethSettle m
        exec (.linkUp a) s = .next (settle (if u.ethLink m then u.endOp a stSuccess 0 else u))) ∧
      (s.issuedOn a clsEth 0x51 = none → exec (.linkDown a) s = .next (settle s)) ∧
      (s.issuedOn a clsEth 0x50 = none → exec (.linkUp a) s = .next (settle s)))

/-- The PTP clock is set, trimmed and slewed by its writers, and captured as the rules say. While registers answer: a
valid TIM_SET makes the clock read the value, ends a slew and sets its cause; an invalid one only sets its cause.
TIM_RATE takes an offset within its limits and ignores another; TIM_SLEW starts, replaces or ends a slew within its
own and otherwise sets its cause; other MIDs change nothing. A cross timestamp captures PTP and monotonic time
together. The end of a slew applies what is left. A selected edge at an attached land stores its time less 16 ns and
sets its cause; every edge is seen. A period reached emits the pulse at an attached land. Completes: TIM_SET,
TIM_RATE, TIM_SLEW, SLEW_DONE, CROSS_TIMESTAMP, TIM_CAPTURE_EDGE, PPS_EDGE. -/
def Obligations.PtpClockAndPulses : Prop :=
  ∀ s : State,
    (s.answers = true → ∀ (mid : BitVec 4) (v : W64), timWriter mid.toNat = true →
      (v.toNat % 2 ^ 30 < 1000000000 → ∃ t, exec (.timSet mid v) s = .next t ∧ t.ptpNow = v.toNat ∧
        Only { s with ptp := { s.ptp with ns := ptpToNs v.toNat, frac := 0, slew := 0 } } t
          [R.TIM_EVT_cause, R.TIM_EVT_CNT_count 2] ∧ Raised s t R.TIM_EVT_cause 2 (R.TIM_EVT_CNT_count 2)) ∧
      (1000000000 ≤ v.toNat % 2 ^ 30 → ∃ t, exec (.timSet mid v) s = .next t ∧
        Only s t [R.TIM_EVT_cause, R.TIM_EVT_CNT_count 4] ∧ Raised s t R.TIM_EVT_cause 4 (R.TIM_EVT_CNT_count 4))) ∧
    (s.answers = true → ∀ (mid : BitVec 4) (v : W32), timWriter mid.toNat = true →
      (-500000000 ≤ signed 32 v.toNat → signed 32 v.toNat ≤ 500000000 → ∃ t, exec (.timRate mid v) s = .next t ∧
        Only s t [R.TIM_RATE_rate] ∧ t.get R.TIM_RATE_rate = v.toNat) ∧
      (signed 32 v.toNat < -500000000 ∨ 500000000 < signed 32 v.toNat → exec (.timRate mid v) s = .next s) ∧
      (let d := signed 21 (v.toNat % 2 ^ 21)
       (-1000000 ≤ d → d ≤ 1000000 →
        exec (.timSlew mid v) s = .next { s with ptp := { s.ptp with slew := d * 10000 } } ∧
        ({ s.ptp with slew := d * 10000 } : Ptp).left = d) ∧
       (d < -1000000 ∨ 1000000 < d → ∃ t, exec (.timSlew mid v) s = .next t ∧
        Only s t [R.TIM_EVT_cause, R.TIM_EVT_CNT_count 4] ∧ Raised s t R.TIM_EVT_cause 4 (R.TIM_EVT_CNT_count 4)))) ∧
    (s.answers = true → ∀ mid : BitVec 4, timWriter mid.toNat = false →
      (∀ v, exec (.timSet mid v) s = .next s) ∧ (∀ v, exec (.timRate mid v) s = .next s) ∧
      ∀ v, exec (.timSlew mid v) s = .next s) ∧
    (s.ptp.slew ≠ 0 → ∃ t, exec .slewDone s = .next t ∧
      Only { s with ptp := { s.ptp with ns := ((s.ptp.ns : Int) + s.ptp.left).toNat, slew := 0 } } t
        [R.TIM_EVT_cause, R.TIM_EVT_CNT_count 3] ∧ Raised s t R.TIM_EVT_cause 3 (R.TIM_EVT_CNT_count 3)) ∧
    (s.ptp.slew = 0 → exec .slewDone s = .next s) ∧
    (s.answers = true → ∃ t, exec .crossTimestamp s = .next t ∧
      Only s t [R.TIM_XTS_PTP_time, R.TIM_XTS_MONO_time, R.TIM_XTS_CTL_sub] ∧
      t.get R.TIM_XTS_PTP_time = s.ptpNow ∧ t.get R.TIM_XTS_MONO_time = s.now % 2 ^ R.TIM_XTS_MONO_time.w ∧
      t.get R.TIM_XTS_CTL_sub = s.cycle / 32 % 2 ^ R.TIM_XTS_CTL_sub.w) ∧
    (∀ (n : Fin 2) (rising : Bool),
      let u := { s with capIn := putBit s.capIn n rising }
      let sel := u.bitOf (R.TIM_CAP_CTL_edge n) (if rising then 0 else 1)
      (u.attached ⟨.tim, 0, 2 + n⟩ = true → sel = true → ∃ t,
        exec (.timCaptureEdge n rising) s = .next t ∧
        Only u t [R.TIM_CAP_TIME_time n, R.TIM_EVT_cause, R.TIM_EVT_CNT_count n] ∧
        t.get (R.TIM_CAP_TIME_time n) = ptpShift s.ptpNow (-16) ∧
        Raised u t R.TIM_EVT_cause n (R.TIM_EVT_CNT_count n)) ∧
      (u.attached ⟨.tim, 0, 2 + n⟩ = false ∨ sel = false → exec (.timCaptureEdge n rising) s = .next u)) ∧
    (∀ n : Fin 2, s.get (R.TIM_PPS_PER_period n) ≠ 0 → s.attached ⟨.tim, 0, n⟩ = true → exec (.ppsEdge n) s =
      .next { s with out := s.out ++ [.line clsTim n 1 (s.get (R.TIM_PPS_WIDTH_width n))] }) ∧
    (∀ n : Fin 2, s.get (R.TIM_PPS_PER_period n) = 0 ∨ s.attached ⟨.tim, 0, n⟩ = false →
      exec (.ppsEdge n) s = .next s)

/-- FLT_SRCn_CFG takes each field that is neither reserved nor looser than its bound, and only from MID 2. While
registers answer: a write by MID 2 of an assigned source gives each field the written value unless it is reserved, not
accepted by the source, or looser than DBT_FLTn; a looser field is counted by the Deadbolt source once. Nothing else
changes. Another MID's write is only counted as a refused access, and an unassigned source's has no effect. Completes:
FAULT_SOURCE_CONFIG. -/
def Obligations.FaultSourcesConfigured : Prop :=
  ∀ (s : State) (n : Fin 128) (origin : BitVec 10) (v : W32), s.answers = true →
    let k := bits v.toNat 0 8
    let w := bits v.toNat 8 5
    let a := bits v.toNat 16 3
    let loose := (!nReserved k && s.nLooser n k) || (!kReserved w && s.kLooser n w) ||
      (!actReserved n a && s.actLooser n a)
    (srcAssigned n = true → ∃ t, exec (.faultSourceConfig n 2 origin v) s = .next (settle t) ∧
      Only { s with dueFaults := t.dueFaults } t
        [R.FLT_SRC_CFG_n n, R.FLT_SRC_CFG_k n, R.FLT_SRC_CFG_action n, R.FLT_SRC_CFG_to_pf n, R.FLT_SRC_CFG_to_cp n,
         R.FLT_SRC_CFG_rec_all n] ∧
      t.dueFaults = s.dueFaults ++
        (if loose then [{ src := 4, res := bits (R.FLT_SRC_CFG_n n).off 2 18, mid := some 2 }] else []) ∧
      CfgField s t (R.FLT_SRC_CFG_n n) k (nReserved k) (s.nLooser n k) ∧
      CfgField s t (R.FLT_SRC_CFG_k n) w (kReserved w) (s.kLooser n w) ∧
      CfgField s t (R.FLT_SRC_CFG_action n) a (actReserved n a) (s.actLooser n a) ∧
      t.get (R.FLT_SRC_CFG_to_pf n) = bits v.toNat 20 2 ∧ t.get (R.FLT_SRC_CFG_to_cp n) = bits v.toNat 22 1 ∧
      t.get (R.FLT_SRC_CFG_rec_all n) = bits v.toNat 23 1) ∧
    (srcAssigned n = false → exec (.faultSourceConfig n 2 origin v) s = .next (settle s)) ∧
    ∀ mid : BitVec 4, mid ≠ 2 → exec (.faultSourceConfig n mid origin v) s =
      .next (settle (s.accessRefused (R.FLT_SRC_CFG_n n).off (who mid origin)))

/-- A Deadbolt write never loosens a bound, and leaves no source looser than its bound. After any write of a DBT_FLTn
or DBT_GWp, by any MID, no bound is looser than before: n_max, rate and burst have not risen, k_min and action_min
have not fallen. While registers answer, a write by MID 2 gives each field that is tighter and not reserved the
written value and leaves the others; one that is looser is refused, recorded in DBT_LAST and counted once. After a
write of DBT_FLTn the source's configuration is within its bounds. Firmware's store of bounds follows (the model's
choice of the moment, log entry 98). Another MID's write is only counted as refused, and an unassigned source's has no
effect. Completes: DEADBOLT_WRITE. -/
def Obligations.DeadboltOnlyTightens : Prop :=
  ∀ (s : State) (origin : BitVec 10) (v : W32),
    (∀ (target : Fin 128 ⊕ Fin 31) (mid : BitVec 4), ∃ t,
      exec (.deadboltWrite target mid origin v) s = .next (settle t) ∧
      (∀ n < 128, t.get (R.DBT_FLT_n_max n) ≤ s.get (R.DBT_FLT_n_max n) ∧
        s.get (R.DBT_FLT_k_min n) ≤ t.get (R.DBT_FLT_k_min n) ∧
        s.get (R.DBT_FLT_action_min n) ≤ t.get (R.DBT_FLT_action_min n)) ∧
      (∀ p < 31, t.get (R.DBT_GW_rate p) ≤ s.get (R.DBT_GW_rate p) ∧
        t.get (R.DBT_GW_burst p) ≤ s.get (R.DBT_GW_burst p)) ∧
      t = { s with regs := t.regs, dueFaults := t.dueFaults, nv := { s.nv with bounds := t.nv.bounds } } ∧
      (∀ n : Fin 128, target = .inl n → mid = 2 → s.answers = true → srcAssigned n = true →
        s.get (R.DBT_FLT_n_max n) < 2 ^ 8 →
        s.get (R.DBT_FLT_k_min n) < 2 ^ 5 → s.get (R.DBT_FLT_action_min n) < 2 ^ 3 →
        t.nLooser n (t.get (R.FLT_SRC_CFG_n n)) = false ∧ t.kLooser n (t.get (R.FLT_SRC_CFG_k n)) = false ∧
        t.actLooser n (t.get (R.FLT_SRC_CFG_action n)) = false)) ∧
    (s.answers = true → ∀ n : Fin 128, srcAssigned n = true →
      let k := bits v.toNat 0 8
      let w := bits v.toNat 8 5
      let a := bits v.toNat 16 3
      let loose := (k ≠ 0 ∧ s.get (R.DBT_FLT_n_max n) < k) ∨ (w ≤ 22 ∧ w < s.get (R.DBT_FLT_k_min n)) ∨
        (a ≤ 4 ∧ a < s.get (R.DBT_FLT_action_min n))
      ∃ t, exec (.deadboltWrite (.inl n) 2 origin v) s = .next (settle t) ∧
        BoundField s t (R.DBT_FLT_n_max n) k (nReserved k) (k < s.get (R.DBT_FLT_n_max n)) ∧
        BoundField s t (R.DBT_FLT_k_min n) w (kReserved w) (s.get (R.DBT_FLT_k_min n) < w) ∧
        BoundField s t (R.DBT_FLT_action_min n) a (actCodeReserved a) (s.get (R.DBT_FLT_action_min n) < a) ∧
        (¬ loose → t.dueFaults = s.dueFaults ∧ t.get R.DBT_LAST_offset = s.get R.DBT_LAST_offset ∧
          t.get R.DBT_LAST_mid = s.get R.DBT_LAST_mid) ∧
        (loose → t.dueFaults = s.dueFaults ++ [{ src := 4, res := bits (R.DBT_FLT_n_max n).off 2 18, mid := some 2 }] ∧
          t.get R.DBT_LAST_offset = bits (R.DBT_FLT_n_max n).off 2 18 ∧ t.get R.DBT_LAST_mid = 2)) ∧
    (s.answers = true → ∀ p : Fin 31,
      let r := bits v.toNat 0 20
      let b := bits v.toNat 20 8
      let loose := s.get (R.DBT_GW_rate p) < r ∨ (b ≠ 0 ∧ s.get (R.DBT_GW_burst p) < b)
      ∃ t, exec (.deadboltWrite (.inr p) 2 origin v) s = .next (settle t) ∧
        BoundField s t (R.DBT_GW_rate p) r false (r < s.get (R.DBT_GW_rate p)) ∧
        BoundField s t (R.DBT_GW_burst p) b (b == 0) (b < s.get (R.DBT_GW_burst p)) ∧
        (¬ loose → Only { s with nv := t.nv } t [R.DBT_GW_rate p, R.DBT_GW_burst p]) ∧
        (loose → Only { s with nv := t.nv, dueFaults := s.dueFaults ++
            [{ src := 4, res := bits (R.DBT_GW_rate p).off 2 18, mid := some 2 }] } t
            [R.DBT_GW_rate p, R.DBT_GW_burst p, R.DBT_LAST_offset, R.DBT_LAST_mid] ∧
          t.get R.DBT_LAST_offset = bits (R.DBT_GW_rate p).off 2 18 ∧ t.get R.DBT_LAST_mid = 2)) ∧
    (s.answers = true →
      (∀ n : Fin 128, srcAssigned n = false → exec (.deadboltWrite (.inl n) 2 origin v) s = .next (settle s)) ∧
      (∀ (n : Fin 128) (mid : BitVec 4), mid ≠ 2 → exec (.deadboltWrite (.inl n) mid origin v) s =
        .next (settle (s.accessRefused (R.DBT_FLT_n_max n).off (who mid origin)))) ∧
      ∀ (p : Fin 31) (mid : BitVec 4), mid ≠ 2 → exec (.deadboltWrite (.inr p) mid origin v) s =
        .next (settle (s.accessRefused (R.DBT_GW_rate p).off (who mid origin))))

/-- The collector counts an event within its window, is severe at the threshold, and leaves nothing due. The end of a
command is the collector's part followed by the falls of interrupt levels. In ACTIVE and QUIET one due event of a
source whose action is COUNT, with rec_all 0, counts from 1 with a new window when the count is 0 or the window has
ended, else adds 1 up to 255; at the threshold the count becomes 0. FLT_SRCn_TOTAL rises by 1, and nothing else
changes. Whatever was due, nothing is due afterwards; with nothing due and no level fallen nothing changes; in KEEP
and OFF events are dropped. -/
def Obligations.CollectorCountsEvents : Prop :=
  (∀ (s : State) (e : FaultEv), s.dueFaults = [e] → s.running = true → srcAssigned e.src = true → e.src < 116 →
    s.get (R.FLT_SRC_CFG_action e.src) = 0 → s.get (R.FLT_SRC_CFG_rec_all e.src) = 0 →
    let t := s.collectAll
    let c := s.get (R.FLT_SRC_STATE_count e.src)
    let opens := c = 0 ∨ (tget s.faultEnd e.src).getD 0 ≤ s.now
    let c' := if c = 0 ∨ (tget s.faultEnd e.src).getD 0 ≤ s.now then 1 else min 255 (c + 1)
    settle s = t.levelFalls ∧
    Only { s with dueFaults := [], faultEnd := t.faultEnd } t
      [R.FLT_SRC_STATE_count e.src, R.FLT_SRC_TOTAL_count e.src] ∧
    t.get (R.FLT_SRC_TOTAL_count e.src) = s.plus (R.FLT_SRC_TOTAL_count e.src) 1 ∧
    t.get (R.FLT_SRC_STATE_count e.src) = (if s.get (R.FLT_SRC_CFG_n e.src) ≤ c' then 0 else c') ∧
    (opens → tget t.faultEnd e.src = some (s.now + 1000 * 2 ^ s.get (R.FLT_SRC_CFG_k e.src))) ∧
    (¬ opens → t.faultEnd = s.faultEnd)) ∧
  (∀ s : State, (settle s).dueFaults = []) ∧
  (∀ s : State, s.dueFaults = [] → (∀ e ∈ s.lastLevel, s.level (e.1 / 4) (e.1 % 4) = true) → settle s = s) ∧
  ∀ s : State, s.running = false → s.collectAll = { s with dueFaults := [] }

/-- A quarantined port is released by MIDs 0 to 2, events are injected in FACTORY_TEST only, and the event chain is
popped word by word. While registers answer: a write by MIDs 0 to 2 clears the bits it names, and each port freed runs
again as its enable says; a freed port that is not enabled only loses its bit. An injection brings one event in this
core cycle and leaves the rest for the cycles that follow; outside FACTORY_TEST, from another MID, for an unassigned
source or while one runs it does nothing. A read of FLT_EVQ by MIDs 0 to 2 removes the head word of chain 1 and
returns its data, or its low half with the high half held; on an empty chain it is an underrun. Another MID's read
pops nothing and returns a free value. Completes: QUARANTINE_CLEAR, FAULT_INJECTION, FAULT_EVENT_POP. -/
def Obligations.FaultCommandsAct : Prop :=
  ∀ (s : State) (origin : BitVec 10) (v : W32), s.answers = true →
    (∀ (hi : Bool) (mid : BitVec 4), mid.toNat < 3 →
      let f := if hi then R.FLT_QUAR_PORT1_port else R.FLT_QUAR_PORT0_port
      exec (.quarantineClear hi mid origin v) s = .next (settle ((freedPorts s f v.toNat).foldl
        (fun t p => t.portReleased p.1 p.2) (s.put f (clearBits (s.get f) v.toNat)))) ∧
      ((∀ p ∈ allPorts, (∃ b, quarBit p.1 p.2 = some (f, b) ∧ (s.get f &&& v.toNat).testBit b = true) →
        s.portEn p.1 p.2 = false) →
      ∃ t, exec (.quarantineClear hi mid origin v) s = .next (settle t) ∧ Only s t [f] ∧
        t.get f = clearBits (s.get f) v.toNat % 2 ^ f.w)) ∧
    (∀ (hi : Bool) (mid : BitVec 4), 2 < mid.toNat →
      exec (.quarantineClear hi mid origin v) s = .next (settle (s.accessRefused
        (if hi then R.FLT_QUAR_PORT1_port else R.FLT_QUAR_PORT0_port).off (who mid origin)))) ∧
    (∀ mid : BitVec 4,
      let may := s.nv.lifecycle = 0 ∧ (mid.toNat ≤ 1 ∨ mid.toNat = 5) ∧ srcAssigned (bits v.toNat 0 7) = true ∧
        s.injecting = []
      let e : FaultEv := { src := bits v.toNat 0 7, detail := bits v.toNat 16 8, res := bits v.toNat 24 8, injected := true }
      (may → ∀ n, bits v.toNat 8 8 = n + 1 → exec (.faultInjection mid v) s = .next (settle { s with
        injecting := List.replicate n e, dueFaults := s.dueFaults ++ [e] })) ∧
      (¬ may ∨ bits v.toNat 8 8 = 0 → exec (.faultInjection mid v) s = .next (settle s))) ∧
    (∀ (mid : BitVec 4) uncorr, mid.toNat < 3 →
      let r := s.chainPop 1
      let t := { r.1 with evqSeen := tput r.1.evqSeen mid.toNat (wordSb r.2 + 4 * b2n uncorr) 0 }
      let d := wordData r.2 % 2 ^ 64
      exec (.faultEventPop mid origin true uncorr) s = .next (settle { t with readData := d }) ∧
      exec (.faultEventPop mid origin false uncorr) s = .next (settle { t.keepHalf (who mid origin) R.FLT_EVQ_word.off
        false (d / 2 ^ 32) with readData := d % 2 ^ 32 }) ∧
      (∀ w rest, s.chain1.items = w :: rest →
        r = ({ s with chain1 := { s.chain1 with items := rest, lastWord := w } }, w)) ∧
      (s.chain1.items = [] →
        r.2 = s.chain1.lastWord ∧
        Only { s with dueFaults := s.dueFaults ++ [{ src := 13, detail := 1, res := 0x101 }] } r.1
          [R.BUF_CHAIN_EVT_cause 1, R.BUF_CHAIN_CNT_count 1 1] ∧
        Raised s r.1 (R.BUF_CHAIN_EVT_cause 1) 1 (R.BUF_CHAIN_CNT_count 1 1))) ∧
    (∀ (mid : BitVec 4) uncorr, 2 < mid.toNat → ∃ d h,
      exec (.faultEventPop mid origin true uncorr) s = .next (settle { s with free := s.free + 1, readData := d }) ∧
      exec (.faultEventPop mid origin false uncorr) s = .next (settle
        { State.keepHalf { s with free := s.free + 1 } (who mid origin) R.FLT_EVQ_word.off false h with
          readData := d % 2 ^ 32 }))

/-- A staged frame is routed by the lowest entry that matches or sets no_route; word 0 commits an entry; a result is
enqueued or dropped. The head of ingress staging is taken, and routed as its lowest matching entry says; with none,
the cause no_route is set. A safe stop and the power-fail sequence leave staging alone. While registers answer, a
write of word 0 by MID 2 commits the held words of the entry, and another MID's is refused. At an egress port without
link or run, without a token, or for a form that R521 drops, the frame is dropped and counted; else it joins the
port's queue. Completes: GATEWAY_LOOKUP, ROUTING_ENTRY_COMMIT. -/
def Obligations.GatewayRoutes : Prop :=
  ∀ s : State,
    (∀ (code : Fin 31) u rec p rest, s.gwStaged code = (rec, p) :: rest → s.safe = false → s.failing = false →
      let a := { s with gwIn := tput s.gwIn code rest [] }
      (a.routeFor code rec = none → ∃ t, exec (.gatewayLookup code u) s = .next (settle t) ∧
        Only a t [R.GWC_EVT_cause, R.GWC_EVT_CNT_count 0] ∧ Raised a t R.GWC_EVT_cause 0 (R.GWC_EVT_CNT_count 0)) ∧
      (∀ r, a.routeFor code rec = some r → exec (.gatewayLookup code u) s = .next (settle
        (if code.val < 16 then a.routeRec r false rec (p || u)
         else if code.val < 24 then a.routeRec r true rec (p || u) else a.routeEth r (ethBytes rec) (p || u))))) ∧
    (∀ (code : Fin 31) u, s.gwStaged code = [] ∨ s.safe = true ∨ s.failing = true →
      exec (.gatewayLookup code u) s = .next (settle s)) ∧
    (s.answers = true → ∀ (e : Fin 4096) origin (w : W32), ∃ t,
      exec (.routingEntryCommit e 2 origin w) s = .next (settle t) ∧
      Only { s with grtShadow := t.grtShadow } t
        [R.GRT_W_word e 0, R.GRT_W_word e 1, R.GRT_W_word e 2, R.GRT_W_word e 3] ∧
      t.get (R.GRT_W_word e 0) = w.toNat ∧ (∀ i ∈ [1, 2, 3], t.get (R.GRT_W_word e i) = s.grtHeld e i % 2 ^ 32) ∧
      ∀ i ∈ [1, 2, 3], tget t.grtShadow (4 * e.val + i) = none) ∧
    (s.answers = true → ∀ (e : Fin 4096) (mid : BitVec 4) origin w, mid ≠ 2 →
      exec (.routingEntryCommit e mid origin w) s =
        .next (settle (s.accessRefused (0x60000 + 16 * e.val) (who mid origin)))) ∧
    (∀ p rec x, s.egressUp p = false → ∃ t, t = s.egress p rec x ∧
      Only { s with dueFaults := s.dueFaults ++ [{ src := 23, detail := 3, res := p }] } t
        [R.GWC_P_CNT_count p 1, R.GWC_EVT_cause, R.GWC_EVT_CNT_count 3]) ∧
    (∀ p rec x, s.egressUp p = true → s.hasToken p = false → s.egress p rec x = s.egressDrop p 2) ∧
    (∀ p x, s.egressUp p = true → s.hasToken p = true → s.egress p none x = s.egressDrop p 4) ∧
    (∀ p r x, s.egressUp p = true → s.hasToken p = true → p < 16 →
      gwWords (s.gwQueued p) + (r.length + 7) / 8 ≤ 8192 →
      let u := (s.takeToken p).count (R.GWC_P_CNT_count p 0)
      s.egress p (some r) x =
        ({ u with gwOut := tset u.gwOut p (u.gwQueued p ++ [(r, x)]) }).portKick clsCan p)

/-- A firmware command is served only at its turn, and one that fails its checks is only answered. A command that is
not at its turn changes nothing: request channels are served round robin, and SQ 0 entries one at a time. One at its
turn whose carrier, MID or zero words are wrong is taken and answered with that status and nothing else. An unknown
code, or one not served in recovery, is taken and answered UNSUPPORTED. PARAM_SET and TIME_SET wait while firmware's
append port is in use. A reply or notice that reaches firmware is popped without further effect; nothing else is.
Completes: UNKNOWN_COMMAND, FIRMWARE_IGNORES_REPLY. -/
def Obligations.FirmwareChecksCommands : Prop :=
  ∀ (s : State) (via : Option (Fin 16)) (chan : Fin 16),
    (∀ x, x ∈ fwCommands via chan ∨ x ∈ fwAppending via ∧ s.fwaFree = true →
      (s.fwHead via = none → exec x.1 s = .next (settle s)) ∧
      ∀ r, s.fwHead via = some r →
        (r.asked.code ≠ x.2 ∨ s.served x.2 = none → exec x.1 s = .next (settle s)) ∧
        (∀ c, r.asked.code = x.2 → s.served x.2 = some c → r.judge c ≠ rsOk →
          exec x.1 s = .next (settle ((s.fwTake r).answer r (r.judge c))))) ∧
    (∀ x ∈ fwAppending via, s.fwaFree = false → exec x.1 s = .next (settle s)) ∧
    (∀ r, s.fwHead via = some r → s.served r.asked.code = none →
      exec (.unknownCommand via) s = .next (settle ((s.fwTake r).answer r rsUnsupported))) ∧
    (∀ r c, s.fwHead via = some r → s.served r.asked.code = some c →
      exec (.unknownCommand via) s = .next (settle s)) ∧
    (s.fwHead via = none → exec (.unknownCommand via) s = .next (settle s)) ∧
    (∀ (c : Fin 16) m rest, s.fwServes false = true → s.isReceiver c 2 = true → (s.chan c).queue = m :: rest →
      (msgKind (m.words.headD 0) ≠ 0 → ∃ t, exec (.firmwareIgnoresReply c) s = .next t ∧
        ChanBecomes s t c { s.chan c with queue := rest }) ∧
      (msgKind (m.words.headD 0) = 0 → exec (.firmwareIgnoresReply c) s = .next s)) ∧
    (∀ c : Fin 16, s.fwServes false = false ∨ s.isReceiver c 2 = false ∨ (s.chan c).queue = [] →
      exec (.firmwareIgnoresReply c) s = .next s) ∧
    (∀ c : Fin 16, s.fwServes false = false ∨ s.isReceiver c 2 = false ∨ s.chanBusy c = true →
      s.fwHead (some c) = none)

/-- UNIT_INFO, PARAM_GET, LDG_STATUS answer what the unit holds; PARAM_SET, PWR_SET and FAULT_CFG set it within its
bounds. At its turn each reading command is answered OK with its words. PARAM_SET of an unknown parameter or a value
out of bounds is answered BAD_ARG; one in bounds is put into force and answered with the value in force, and where it
persists it is stored with its PARAM_CHANGE record, or answered FLASH with nothing changed where the flash fails.
PWR_SET makes the request of MID 2 and is answered with its result. FAULT_CFG writes bits 18:0 of a source within its
bounds, or is answered BAD_ARG. Completes: UNIT_INFO, PARAM_GET, PARAM_SET, PWR_SET, LDG_STATUS, FAULT_CFG. -/
def Obligations.FirmwareReadsAndSets : Prop :=
  ∀ (s u : State) (via : Option (Fin 16)) (r : FwReq),
    (FwTurn s u via 0x01 r → exec (.unitInfo via) s = .next (settle (u.answer r rsOk
      [0x0740A3D1, 0x202, u.readFlds [R.GLB_FW_VERSION_major, R.GLB_FW_VERSION_minor, R.GLB_FW_VERSION_patch],
       u.addr + 2 ^ 16 * b2n u.assigned, u.nv.lifecycle + 4 * u.power]))) ∧
    (FwTurn s u via 0x02 r → ∀ d, paramDefault (r.w 1) = some d → exec (.paramGet via) s = .next (settle
      (u.answer r rsOk [r.w 1, u.paramNow (r.w 1), 0, 1 + 2 * b2n (u.paramNow (r.w 1) == d)]))) ∧
    (FwTurn s u via 0x02 r → paramDefault (r.w 1) = none →
      exec (.paramGet via) s = .next (settle (u.answer r rsBadArg))) ∧
    (FwTurn s u via 0x03 r → s.fwaFree = true →
      (paramDefault (r.w 1) = none ∨ u.paramOk (r.w 1) (r.w64 2) = false →
        exec (.paramSet via) s = .next (settle (u.answer r rsBadArg))) ∧
      (∀ d, paramDefault (r.w 1) = some d → u.paramOk (r.w 1) (r.w64 2) = true →
        (r.w 4 ≠ 1 →
          let t := u.paramPut (r.w 1) (r.w64 2)
          exec (.paramSet via) s = .next (settle (t.answer r rsOk (words2 (t.paramNow (r.w 1)))))) ∧
        (r.w 4 = 1 →
          let f := u.cpFlash paramStore
          let t := State.paramPut { f.1 with nv := { f.1.nv with params := tset f.1.nv.params (r.w 1) (r.w64 2) } }
            (r.w 1) (r.w64 2)
          (f.2 = true → exec (.paramSet via) s = .next (settle
            ((t.fwNote tParamChange).answer r rsOk (words2 (t.paramNow (r.w 1)))))) ∧
          (f.2 = false → exec (.paramSet via) s = .next (settle (f.1.answer r rsFlash)))))) ∧
    (s.fwaFree = false → exec (.paramSet via) s = .next (settle s)) ∧
    (FwTurn s u via 0x04 r →
      let t := u.pwrRequest 2 (r.w 1)
      exec (.pwrSet via) s = .next (settle (t.answer r (pwrReply (t.get R.PWR_STATE_last_result))
        [t.get R.PWR_STATE_last_result]))) ∧
    (FwTurn s u via 0x32 r → exec (.ldgStatus via) s = .next (settle (u.answer r rsOk
      (words2 u.ldg.next ++ words2 u.ldg.sealSeq ++ [u.ldg.pair.role + 4 * u.wtFlag])))) ∧
    (FwTurn s u via 0x41 r →
      (srcAssigned (r.w 1) = false ∨ u.fltOk (r.w 1) (r.w 2) = false →
        exec (.faultCfg via) s = .next (settle (u.answer r rsBadArg))) ∧
      (srcAssigned (r.w 1) = true → u.fltOk (r.w 1) (r.w 2) = true →
        let t := u.srcCfgWrite (r.w 1) { mid := 2 } (u.readFlds [R.FLT_SRC_CFG_to_pf (r.w 1),
          R.FLT_SRC_CFG_to_cp (r.w 1), R.FLT_SRC_CFG_rec_all (r.w 1)] + r.w 2)
        exec (.faultCfg via) s = .next (settle (t.answer r rsOk
          [t.readFlds [R.FLT_SRC_CFG_n (r.w 1), R.FLT_SRC_CFG_k (r.w 1), R.FLT_SRC_CFG_action (r.w 1)]]))))

/-- The queue, ring and routing commands create, stop, restart and destroy what their sender owns, and load or refuse
all. SQ_CREATE makes an ACTIVE queue of the sender with the given ring, depth, base and priority; SQ_SHUTDOWN shuts an
owned queue down; SQ_RESTART makes a stopped one ACTIVE at its index; SQ_DESTROY frees one; CR_CREATE and CR_DESTROY
do so for rings. Each refuses what the sender does not own or a bad operand with BAD_ARG, and what is taken, holds
programs or is in use with NO_RESOURCE; without a host nothing is created (STATE: the model's choice, log entry 119).
PRG_RESUME resumes a program of the sender's queue. GRT_LOAD reads its entries through fragment tables and commits
every one or none, and GRT_ENABLE sets or clears en in a range. Completes: SQ_CREATE, SQ_DESTROY, SQ_SHUTDOWN,
SQ_RESTART, CR_CREATE, CR_DESTROY, PRG_RESUME, GRT_LOAD, GRT_ENABLE. -/
def Obligations.FirmwareQueues : Prop :=
  ∀ (s u : State) (via : Option (Fin 16)) (chan : Fin 16) (r : FwReq),
    let mail := via.isSome
    let c := via.getD chan
    (FwTurn s u via 0x10 r →
      let n := bits (r.w 1) 0 8
      let m := bits (r.w 1) 16 6
      let bad := n = 0 ∨ depthOk (r.w 2) = false ∨ r.w64 3 % 64 ≠ 0 ∨ u.ownsRing m r.mid = false
      (u.hostless = true → exec (.sqCreate via) s = .next (settle (u.answer r rsState))) ∧
      (u.hostless = false → bad → exec (.sqCreate via) s = .next (settle (u.answer r rsBadArg))) ∧
      (u.hostless = false → ¬ bad → (u.sq n).state ≠ 0 →
        exec (.sqCreate via) s = .next (settle (u.answer r rsNoResource))) ∧
      (u.hostless = false → ¬ bad → (u.sq n).state = 0 → ∃ t,
        exec (.sqCreate via) s = .next (settle ((t.traceSq n).answer r rsOk [(R.DBL_SQ_TAIL_value n).off])) ∧
        Only { u with sqs := t.sqs } t [R.QMG_SQ_TAGS_tag_max n] ∧ (∀ k, k ≠ n → t.sq k = u.sq k) ∧
        t.sq n = { state := 1, prio := bits (r.w 1) 8 3, unordered := (r.w 1).testBit 11, owner := r.mid, cr := m,
                   log2 := r.w 2, base := r.w64 3 })) ∧
    (FwTurn s u via 0x11 r → u.ownsSq (r.w 1) r.mid = true →
      let t := if (u.sq (r.w 1)).state = 2 then u else u.shutdown (r.w 1)
      exec (.sqDestroy via) s = .next (settle (((t.setSq (r.w 1)
        { t.sq (r.w 1) with shutting := true, destroy := true }).shutdownDone (r.w 1)).answer r rsOk)) ∧
      ((u.sq (r.w 1)).state = 2 → u.held (r.w 1) = 0 → ∃ t,
        exec (.sqDestroy via) s = .next (settle (t.answer r rsOk)) ∧ SqBecomes u t (r.w 1) {})) ∧
    (FwTurn s u via 0x12 r → u.ownsSq (r.w 1) r.mid = true → exec (.sqShutdown via) s = .next (settle
      ((u.shutdown (r.w 1)).answer r rsOk [(u.tagsWhere fun p => p.sq == r.w 1).length]))) ∧
    (FwTurn s u via 0x13 r → u.ownsSq (r.w 1) r.mid = true →
      ((u.sq (r.w 1)).state = 1 ∨ 2 ^ (u.sq (r.w 1)).log2 ≤ r.w 2 →
        exec (.sqRestart via) s = .next (settle (u.answer r rsBadArg))) ∧
      ((u.sq (r.w 1)).state ≠ 1 → r.w 2 < 2 ^ (u.sq (r.w 1)).log2 →
        (u.held (r.w 1) ≠ 0 → exec (.sqRestart via) s = .next (settle (u.answer r rsNoResource))) ∧
        (u.held (r.w 1) = 0 → ∃ t,
          exec (.sqRestart via) s = .next (settle ((t.sqTo (r.w 1) 1).answer r rsOk)) ∧
          SqBecomes u t (r.w 1) { u.sq (r.w 1) with h := r.w 2, t := r.w 2, err := 0, shutting := false }))) ∧
    (FwTurn s u via 0x14 r →
      let m := bits (r.w 1) 0 6
      let k := bits (r.w 1) 8 4
      let bad := depthOk k = false ∨ r.w64 2 % 32 ≠ 0
      (u.hostless = true → exec (.crCreate via) s = .next (settle (u.answer r rsState))) ∧
      (u.hostless = false → bad → exec (.crCreate via) s = .next (settle (u.answer r rsBadArg))) ∧
      (u.hostless = false → ¬ bad → (u.ring m).exist = true →
        exec (.crCreate via) s = .next (settle (u.answer r rsNoResource))) ∧
      (u.hostless = false → ¬ bad → (u.ring m).exist = false → ∃ t,
        exec (.crCreate via) s = .next (settle (t.answer r rsOk [(R.DBL_CR_HEAD_head m).off])) ∧
        Only { u with rings := t.rings } t
          [R.QMG_CR_INT_threshold m, R.QMG_CR_INT_delay m, R.QMG_CR_INT_en m] ∧
        t.ring m = { exist := true, owner := r.mid, log2 := k, base := r.w64 2 } ∧
        ∀ j, j ≠ m → t.ring j = u.ring j)) ∧
    (FwTurn s u via 0x15 r →
      let used := ∃ e ∈ u.sqs, e.1 ≠ 0 ∧ e.2.state ≠ 0 ∧ e.2.cr = r.w 1
      (u.ownsRing (r.w 1) r.mid = false → exec (.crDestroy via) s = .next (settle (u.answer r rsBadArg))) ∧
      (u.ownsRing (r.w 1) r.mid = true → used →
        exec (.crDestroy via) s = .next (settle (u.answer r rsNoResource))) ∧
      (u.ownsRing (r.w 1) r.mid = true → ¬ used → exec (.crDestroy via) s = .next (settle
        (((u.setRing (r.w 1) {}).setFn r.mid ((u.fn r.mid).dropRing (r.w 1))).answer r rsOk)))) ∧
    (∀ c ∈ [(Instr.sqDestroy via, 0x11), (.sqShutdown via, 0x12), (.sqRestart via, 0x13)],
      FwTurn s u via c.2 r → u.ownsSq (r.w 1) r.mid = false →
      exec c.1 s = .next (settle (u.answer r rsBadArg))) ∧
    (FwTurn s u via 0x16 r →
      (u.prog (r.w 1) = none → exec (.prgResume via) s = .next (settle (u.answer r rsBadArg))) ∧
      (∀ p, u.prog (r.w 1) = some p →
        (p.st ≠ .ended → u.ownsSq p.sq r.mid = true →
          exec (.prgResume via) s = .next (settle ((u.resume (r.w 1) p).reready.answer r rsOk))) ∧
        (p.st = .ended ∨ u.ownsSq p.sq r.mid = false →
          exec (.prgResume via) s = .next (settle (u.answer r rsBadArg))))) ∧
    (FwTurn s u via 0x20 r →
      let bad := r.w 2 = 0 ∨ 4096 < r.w 2 ∨ 4096 < r.w 1 + r.w 2 ∨ r.w64 3 % 16 ≠ 0
      (bad → exec (.grtLoad mail c) s = .next (settle (u.answer r rsBadArg [2 ^ 32 - 1]))) ∧
      (¬ bad → exec (.grtLoad mail c) s = .next (settle (u.fwTables r (16 * r.w 2) (r.w64 3))))) ∧
    (∀ d : List Byte,
      ((∀ k < r.w 2, u.grtOk (loadWord d k 0) (loadWord d k 1) (loadWord d k 2) (loadWord d k 3) = true) → ∃ t : State,
        r.grtLoaded d u = t.answer r rsOk [2 ^ 32 - 1] ∧
        (∀ k < r.w 2, ∀ i < 4, t.get (R.GRT_W_word (r.w 1 + k) i) = loadWord d k i) ∧
        ∀ e i, e < r.w 1 ∨ r.w 1 + r.w 2 ≤ e → i < 4 → t.get (R.GRT_W_word e i) = u.get (R.GRT_W_word e i)) ∧
      (∀ k, ((List.range (r.w 2)).find? fun k =>
          !u.grtOk (loadWord d k 0) (loadWord d k 1) (loadWord d k 2) (loadWord d k 3)) = some k →
        r.grtLoaded d u = u.answer r rsBadArg [r.w 1 + k])) ∧
    (FwTurn s u via 0x21 r →
      (r.w 2 = 0 ∨ 4096 < r.w 2 ∨ 4096 < r.w 1 + r.w 2 →
        exec (.grtEnable via) s = .next (settle (u.answer r rsBadArg))) ∧
      (r.w 2 ≠ 0 → r.w 1 + r.w 2 ≤ 4096 → ∃ t : State,
        exec (.grtEnable via) s = .next (settle (t.answer r rsOk)) ∧
        ∀ e, r.w 1 ≤ e → e < r.w 1 + r.w 2 → (t.get (R.GRT_W_word e 0)).testBit 5 = decide (r.w 3 = 1)))

/-- The ledger, pair and repair commands act or are refused by the state of the ledger and the pair. TIME_SET with a
fresh cross-timestamp hands its record to the ledger; LDG_SEAL asks for a SEAL; LDG_EXPORT reads its fragment tables,
writes its records there and answers the range. PAIR_BIND waits for its partner after its BIND message or is refused;
its window's end and that of a HANDOVER answer STATE. PAIR_UNBIND leaves the pair, TAKEOVER takes over, HANDOVER hands
over, and each is refused STATE in the wrong role. REPAIR_POINT starts a repair point in ACTIVE, and is refused BUSY
while one runs. Completes: TIME_SET, LDG_SEAL, LDG_EXPORT, PAIR_BIND, PAIR_BIND_WINDOW_EXPIRY, PAIR_UNBIND, TAKEOVER,
HANDOVER, HANDOVER_TIMEOUT, REPAIR_POINT. -/
def Obligations.FirmwareLedgerCommands : Prop :=
  ∀ (s u : State) (via : Option (Fin 16)) (chan : Fin 16) (r : FwReq),
    let mail := via.isSome
    let c := via.getD chan
    (FwTurn s u via 0x30 r → s.fwaFree = true →
      (4 < r.w 3 → exec (.timeSet via) s = .next (settle (u.answer r rsBadArg))) ∧
      (r.w 3 ≤ 4 → u.xtsFresh = true → exec (.timeSet via) s = .next (settle
        ((u.setLdg { u.ldg with fwaFor := some r.asked }).fwRecord 0x21 (leBytes 8 (r.w64 1) ++
          leBytes 8 (u.get R.TIM_XTS_MONO_time) ++ leBytes 8 (u.get R.TIM_XTS_PTP_time) ++ leBytes 1 (r.w 3) ++
          zeros 7)))) ∧
      (r.w 3 ≤ 4 → u.xtsFresh = false → exec (.timeSet via) s = .next (settle (u.answer r rsState)))) ∧
    (FwTurn s u via 0x31 r →
      (u.sequences = true → u.ldgRuns = true → exec (.ldgSeal via) s = .next (settle
        ((u.setLdg { u.ldg with sealFor := u.ldg.sealFor ++ [r.asked] }).ldgSealReq))) ∧
      (u.sequences = false ∨ u.ldgRuns = false →
        exec (.ldgSeal via) s = .next (settle (u.answer r rsState)))) ∧
    (FwTurn s u via 0x33 r →
      (u.exportWanted r = none ∨ r.w64 5 % 16 ≠ 0 →
        exec (.ldgExport mail c) s = .next (settle (u.answer r rsBadArg))) ∧
      (∀ l, u.exportWanted r = some l → r.w64 5 % 16 = 0 →
        exec (.ldgExport mail c) s = .next (settle (u.fwTables r l.flatten.length (r.w64 5))))) ∧
    (let recs := u.ldg.chainRecs u.ldg.pair.cur
     let first := max (r.w64 1) (u.ldg.exportFrom recs)
     let last := min (r.w64 3) ((recs.getLast?.map ldgSeq).getD 0)
     (recs = [] ∨ last < first → u.exportWanted r = none) ∧
     (recs ≠ [] → first ≤ last → u.exportWanted r = some (exportRecs recs first last)) ∧
     (∀ area x l xs, u.exportWanted r = some l → fitRecs (area.map (·.2)).sum l = x :: xs → u.flashReads = [] →
       let y := (x :: xs).getLastD x
       let t := (useArea area (x :: xs).flatten).1.foldl (fun v w => v.dataWrite r.mid w.1 w.2) u
       u.ldg.exported + 1 < ldgSeq x → r.ldgExported area u = t.answer r rsOk
         (words2 (ldgSeq x) ++ words2 (ldgSeq y) ++ [(x :: xs).flatten.length]))) ∧
    (FwTurn s u via 0x34 r →
      let partner := r.w 1 % 1024
      let role := bits (r.w 1) 16 1
      (u.bindRefusal partner role = none → exec (.pairBind via) s = .next (settle
        ((u.setLdg { u.ldg with binding := some (r.asked, partner, role) }).pairSend partner opBind (1 - role)
          false))) ∧
      (∀ st, u.bindRefusal partner role = some st →
        exec (.pairBind via) s = .next (settle (u.answer r st)))) ∧
    (∀ b, s.ldg.binding = some b → exec .pairBindWindowExpiry s =
      .next (settle ((s.setLdg { s.ldg with binding := none }).fwReply b.1 rsState []))) ∧
    (∀ b, s.ldg.handing = some b → exec .handoverTimeout s =
      .next (settle ((s.setLdg { s.ldg with handing := none }).fwReply b.1 rsState []))) ∧
    (s.ldg.binding = none → exec .pairBindWindowExpiry s = .next (settle s)) ∧
    (s.ldg.handing = none → exec .handoverTimeout s = .next (settle s)) ∧
    (FwTurn s u via 0x35 r → u.ldg.pair.role ≠ 0 → exec (.pairUnbind via) s = .next (settle
      ((u.pairSend u.ldg.pair.partner opUnbind u.ldg.pair.role false).unbind.answer r rsOk))) ∧
    (FwTurn s u via 0x36 r → u.ldg.pair.role = 2 → exec (.takeover via) s = .next (settle
      ((u.takeover 0).answer r rsOk (words2 u.ldg.next)))) ∧
    (FwTurn s u via 0x37 r →
      (∀ t, u.ldg.pair.role = 1 → u.hbOk = true → u.closeEpoch.ldgRoom 80 = some t →
        exec (.handover via) s = .next (settle (t.handOver r.asked))) ∧
      (u.ldg.pair.role ≠ 1 ∨ u.hbOk = false ∨ u.closeEpoch.ldgRoom 80 = none →
        exec (.handover via) s = .next (settle (u.answer r rsState)))) ∧
    (FwTurn s u via 0x40 r →
      (u.power ≠ 0 → exec (.repairPoint via) s = .next (settle (u.answer r rsState))) ∧
      (u.power = 0 → u.on R.TLN_STATUS_repairing = true →
        exec (.repairPoint via) s = .next (settle (u.answer r rsBusy))) ∧
      (u.power = 0 → u.on R.TLN_STATUS_repairing = false → exec (.repairPoint via) s =
        .next (settle ((u.repairStart 2).setTln { (u.repairStart 2).tln with asked := some r.asked })))) ∧
    (∀ x ∈ [(Instr.pairUnbind via, 0x35, u.ldg.pair.role = 0), (.takeover via, 0x36, u.ldg.pair.role ≠ 2),
        (.handover via, 0x37, u.ldg.pair.role ≠ 1)], FwTurn s u via x.2.1 r → x.2.2 →
      exec x.1 s = .next (settle (u.answer r rsState)))

/-- A semaphore is taken by a reader when free, shown to others, and freed only by its holder. The holder of a
semaphore is a MID, with its origin address when the MID is 4. While registers answer: a read of a free semaphore
makes the reader the holder and gives 0; a read by the holder gives 0; any other read gives bit 31 with the holder's
MID and origin. A write by the holder frees it; a write by any other master changes nothing but HNG_EVT.sem_foreign
and its count. Completes: SEMAPHORE_READ, SEMAPHORE_RELEASE. -/
def Obligations.SemaphoresExclude : Prop :=
  ∀ (s : State) (k : Fin 64) (mid : BitVec 4) (origin : BitVec 10), s.answers = true →
    let me : Nat × Nat := (mid.toNat, if mid = 4 then origin.toNat else 0)
    (tget s.sems k = none → ∃ t : State, exec (.semaphoreRead k mid origin) s = .next { t with readData := 0 } ∧
      t = { s with sems := t.sems } ∧ tget t.sems k = some me ∧ ∀ j, j ≠ k.val → tget t.sems j = tget s.sems j) ∧
    (tget s.sems k = some me → exec (.semaphoreRead k mid origin) s = .next { s with readData := 0 }) ∧
    (∀ h, tget s.sems k = some h → h ≠ me → exec (.semaphoreRead k mid origin) s =
      .next { s with readData := 2 ^ 31 + h.1 % 16 + h.2 % 1024 * 2 ^ 4 }) ∧
    (tget s.sems k = some me → ∃ t, exec (.semaphoreRelease k mid origin) s = .next (settle t) ∧
      t = { s with sems := t.sems } ∧ tget t.sems k = none ∧ ∀ j, j ≠ k.val → tget t.sems j = tget s.sems j) ∧
    (tget s.sems k ≠ some me → ∃ t, exec (.semaphoreRelease k mid origin) s = .next (settle t) ∧ HngCause s t 10)

/-- The LXB lock is taken, released and broken by its rules; an access has its turn, fails on a wait time-out, and
interrupt lines are followed. While registers answer, a free lock goes to the MID that reads it, is shown to others as
bit 31 with the holder, is freed by the holder's write, and a foreign write only sets sem_foreign. A broken lock sets
its cause and is remembered for its holder, whose next access fails LOCK_BROKEN. The next access in turn leaves the
queue, drives its phases (at an attached chip select, with the attached data lines) and hands its data over; one whose
chip select is off or stopped ends; beyond the wait limit, where LXB_WAIT_N is watched and attached, it fails. A lease
that expires frees its semaphore. An interrupt line's level is followed, and a high one at an attached land ends the
waits for it. Completes: LXB_LOCK_READ, LXB_LOCK_RELEASE, LXB_LOCK_BROKEN, SEMAPHORE_LEASE_EXPIRY, LXB_ACCESS,
LXB_WAIT_TIMEOUT, LXB_IRQ_CHANGE. -/
def Obligations.ExpansionBusTurns : Prop :=
  ∀ s : State,
    (s.answers = true → ∀ mid : BitVec 4, lockMid mid.toNat = true →
      (s.lxbLock = none →
        exec (.lxbLockRead mid) s = .next { s with lxbLock := some mid.toNat, lxbOut := false, readData := 0 }) ∧
      (∀ h, s.lxbLock = some h → exec (.lxbLockRead mid) s =
        .next { s with readData := if h = mid.toNat then 0 else 2 ^ 31 + h }) ∧
      (s.lxbLock = some mid.toNat → exec (.lxbLockRelease mid) s = .next (settle { s with lxbLock := none })) ∧
      (s.lxbLock ≠ some mid.toNat → ∃ t, exec (.lxbLockRelease mid) s = .next (settle t) ∧ HngCause s t 10)) ∧
    (s.answers = true → ∀ mid : BitVec 4, lockMid mid.toNat = false →
      exec (.lxbLockRead mid) s = .next { s with readData := 0 } ∧
      exec (.lxbLockRelease mid) s = .next (settle s)) ∧
    (∀ h, s.lxbLock = some h → ∃ t, exec .lxbLockBroken s = .next (settle t) ∧
      HngFault { s with lxbLock := none, lxbBroken := some h } t 9 s.addr) ∧
    (s.lxbLock = none → exec .lxbLockBroken s = .next (settle s)) ∧
    (∀ k : Fin 64, s.get R.HNG_SEM_LEASE_ms ≠ 0 → tget s.sems k ≠ none → ∃ t,
      exec (.semaphoreLeaseExpiry k) s = .next (settle t) ∧ HngCause { s with sems := tdel s.sems k } t 11) ∧
    (∀ k : Fin 64, s.get R.HNG_SEM_LEASE_ms = 0 ∨ tget s.sems k = none →
      exec (.semaphoreLeaseExpiry k) s = .next (settle s)) ∧
    (∀ (d : BitVec 16) r, s.lxbNext = some r →
      let u := { s with
        lxbQ := s.lxbQ.erase r, lxbLast := r.mid, lxbOut := s.lxbOut || s.lxbLock == some r.mid }
      (s.lxbBroken = some r.mid → exec (.lxbAccess d) s =
        .next (settle (State.lxbFail { u with lxbBroken := none } r.owner foLockBroken))) ∧
      (s.lxbBroken ≠ some r.mid →
        (u.lxbUp r.cs = false → exec (.lxbAccess d) s = .next (settle (u.lxbGone r))) ∧
        (u.lxbUp r.cs = true →
          let got := d.toNat &&& u.lxbAd
          let phases := Out.line clsLxb r.cs (b2n r.write + 1)
            (r.addr + 2 ^ 24 * (if r.write then r.data else got))
          (u.attached ⟨.lxb, 0, 16 + r.cs⟩ = true → exec (.lxbAccess d) s = .next (settle
            (State.lxbPart { u with out := u.out ++ [phases] } r (if r.write then 0 else got)))) ∧
          (u.attached ⟨.lxb, 0, 16 + r.cs⟩ = false → exec (.lxbAccess d) s = .next (settle
            (u.lxbPart r (if r.write then 0 else got))))))) ∧
    (∀ d, s.lxbNext = none → exec (.lxbAccess d) s = .next (settle s)) ∧
    (∀ r, s.lxbNext = some r →
      let watched := s.on (R.HNG_LXB_CS_CFG_wait_en r.cs) = true ∧ s.attached ⟨.lxb, 0, 24⟩ = true
      let u := { s with lxbQ := s.lxbQ.erase r, lxbLast := r.mid }
      (¬ watched → exec .lxbWaitTimeout s = .next (settle s)) ∧
      (watched → s.lxbBroken ≠ some r.mid →
        exec .lxbWaitTimeout s = .next (settle (u.lxbFail r.owner foLxbError))) ∧
      (watched → s.lxbBroken = some r.mid → exec .lxbWaitTimeout s =
        .next (settle (State.lxbFail { u with lxbBroken := none } r.owner foLockBroken)))) ∧
    (s.lxbNext = none → exec .lxbWaitTimeout s = .next (settle s)) ∧
    (∀ (n : Fin 4) (level : Bool),
      let u := { s with lxbIrq := putBit s.lxbIrq n level }
      (level = true → u.attached ⟨.lxb, 0, 26 + n⟩ = true →
        exec (.lxbIrqChange n level) s = .next (settle (u.lxbIrqHigh n))) ∧
      (level = false ∨ u.attached ⟨.lxb, 0, 26 + n⟩ = false → exec (.lxbIrqChange n level) s = .next (settle u)))

/-- A response, a NO_ROUTE or a time-out ends the far access that it matches and frees its request slot. A RD_RSP or
WR_RSP that matches a request ends it with the outcome of its status, poisoned read data keeping its mark; one with
status 0 for a far access slot frees the request, shows DONE and, for a read, the data. A response that matches
nothing is consumed. NO_ROUTE ends the request, or the far program, that it names with FAR_GONE or IN_RESET. A
time-out ends the access with TIMEOUT, sets its cause and records it, but not that of a CCW. A held result that
expires is discarded with its cause. Completes: RD_RSP, WR_RSP, NO_ROUTE, FAR_ACCESS_TIMEOUT, HELD_RESULT_EXPIRY. -/
def Obligations.FarAccessesEnd : Prop :=
  ∀ s : State,
    (∀ (p : Fin 2) (f : FlitIn), s.arrives p f = true →
      let a := s.accept p .rsp f
      let tag := fieldAt f.payload 0 2
      let st := fieldAt f.payload 2 1
      let fo := if st = 0 then foDone else if st = 1 then foNotReady else if st = 2 then foDenied else foPoison
      (∀ k, a.reqMatch tag false = some k → exec (.rdRsp p f) s = .next (settle
        (a.reqEnd k (if f.poisoned && decide (fo = foDone) then foPoison else fo) (fieldAt f.payload 8 4)))) ∧
      (∀ k, a.reqMatch tag true = some k → exec (.wrRsp p f) s = .next (settle (a.reqEnd k fo 0))) ∧
      (∀ k r g j, a.reqMatch tag false = some k → tget a.reqs k = some r → r.owner = .slot g j → g < 2 → j < 8 →
        st = 0 → f.poisoned = false → ∃ t, exec (.rdRsp p f) s = .next (settle t) ∧
          Only { a with reqs := tdel a.reqs k } t [R.HNG_FAS_DATA_state g j, R.HNG_FAS_DATA_data g j] ∧
          t.get (R.HNG_FAS_DATA_state g j) = 2 ∧ t.get (R.HNG_FAS_DATA_data g j) =
            if a.on (R.HNG_FAS_CMD_write g j) then 0 else fieldAt f.payload 8 4) ∧
      (a.reqMatch tag false = none → exec (.rdRsp p f) s = .next (settle a)) ∧
      (∀ k r g j, a.reqMatch tag true = some k → tget a.reqs k = some r → r.owner = .slot g j → g < 2 → j < 8 →
        st = 0 → ∃ t, exec (.wrRsp p f) s = .next (settle t) ∧
          Only { a with reqs := tdel a.reqs k } t [R.HNG_FAS_DATA_state g j, R.HNG_FAS_DATA_data g j] ∧
          t.get (R.HNG_FAS_DATA_state g j) = 2 ∧ t.get (R.HNG_FAS_DATA_data g j) = 0) ∧
      (a.reqMatch tag true = none → exec (.wrRsp p f) s = .next (settle a)) ∧
      (let type := fieldAt f.payload 0 1
       let gone := if fieldAt f.payload 1 1 = 1 then foInReset else foFarGone
       let req := fieldAt f.payload 2 2
       (type = 0x10 ∨ type = 0x11 →
         (∀ k, a.reqMatch req (type == 0x11) = some k →
           exec (.noRoute p f) s = .next (settle (a.reqEnd k gone 0))) ∧
         (a.reqMatch req (type == 0x11) = none → exec (.noRoute p f) s = .next (settle a))) ∧
       (type = 0x20 ∨ type = 0x30 →
         (∀ o, a.op (req % 2048) = some o → a.opFar (req % 2048) o = true → o.sent = true →
           exec (.noRoute p f) s = .next (settle (a.endOp (req % 2048) stFarGone 0))) ∧
         ((∀ o, a.op (req % 2048) = some o → a.opFar (req % 2048) o = false ∨ o.sent = false) →
           exec (.noRoute p f) s = .next (settle a))) ∧
       (type ∉ [0x10, 0x11, 0x20, 0x30] → exec (.noRoute p f) s = .next (settle a)))) ∧
    (∀ (p : Fin 2) (f : FlitIn), s.arrives p f = false → exec (.rdRsp p f) s = .next (settle s) ∧
      exec (.wrRsp p f) s = .next (settle s) ∧ exec (.noRoute p f) s = .next (settle s)) ∧
    (∀ (k : Fin 256) r g j, tget s.reqs k = some r → r.owner = .slot g j → g < 2 → j < 8 → ∃ t,
      exec (.farAccessTimeout k) s = .next (settle t) ∧
      Only { s with
        reqs := tdel s.reqs k, dueFaults := s.dueFaults ++ [{ src := 22, detail := 1, res := r.unit }] } t
        [R.HNG_EVT_cause, R.HNG_EVT_CNT_count 1, R.HNG_LAST_addr, R.HNG_LAST_mid, R.HNG_LAST_outcome,
         R.HNG_FAS_DATA_state g j, R.HNG_FAS_DATA_data g j] ∧
      t.get (R.HNG_FAS_DATA_state g j) = 7 ∧ t.get R.HNG_LAST_outcome = 7 ∧
      Raised s t R.HNG_EVT_cause 1 (R.HNG_EVT_CNT_count 1)) ∧
    (∀ (k : Fin 256) r, tget s.reqs k = some r →
      (∀ token, r.owner = .agent token → exec (.farAccessTimeout k) s = .next (settle s)) ∧
      ((∀ token, r.owner ≠ .agent token) → exec (.farAccessTimeout k) s = .next (settle (s.reqEnd k foTimeout 0)))) ∧
    (∀ (k : Fin 256), tget s.reqs k = none → exec (.farAccessTimeout k) s = .next (settle s)) ∧
    (∀ (mid : BitVec 4) lxb (unit : BitVec 10) (off : BitVec 24) n x,
      s.fabFind mid.toNat lxb unit.toNat off.toNat = some (n, x) →
      (x.ended = true → ∃ t, exec (.heldResultExpiry mid lxb unit off) s = .next (settle t) ∧
        HngCause { s with fabric := tdel s.fabric n } t 4) ∧
      (x.ended = false → exec (.heldResultExpiry mid lxb unit off) s = .next (settle s))) ∧
    (∀ (mid : BitVec 4) lxb (unit : BitVec 10) (off : BitVec 24),
      s.fabFind mid.toNat lxb unit.toNat off.toNat = none →
      exec (.heldResultExpiry mid lxb unit off) s = .next (settle s))

/-- An image is begun, written chunk by chunk, checked, staged, activated, tried, confirmed or reverted, and refused
by its rules. IMG_QUERY answers the banks (in recovery as log entry 107 says). IMG_BEGIN refuses another MID's session
and the running bank, reads its header, refuses a bad one, and else opens a session on an emptied bank. IMG_CHUNK
takes the next chunk of its session only, read through fragment tables, and writes it where the flash can be written;
IMG_END stages a bank whose digest is right. IMG_ACTIVATE records the pending bank; IMG_RESTART answers and asks for
the switching reset; IMG_CONFIRM and IMG_REVERT judge the bank on trial; each is refused with an open session, on a
bound unit or without a trial as its rule says. A session that idles ends. Completes: IMG_QUERY, IMG_BEGIN, IMG_CHUNK,
IMG_END, IMG_ACTIVATE, IMG_RESTART, IMG_CONFIRM, IMG_REVERT, IMG_SESSION_TIMEOUT. -/
def Obligations.ImagesReplaced : Prop :=
  ∀ (s u : State) (via : Option (Fin 16)) (chan : Fin 16) (r : FwReq),
    let mail := via.isSome
    let c := via.getD chan
    (FwTurn s u via 0x50 r → exec (.imgQuery via) s = .next (settle (u.answer r rsOk
      [(if u.recovery then 0 else u.get R.GLB_BOOT_STATUS_bank + 2 * b2n u.onTrial) + u.nv.bankState % 2 ^ 30 * 4,
       u.nv.rollback % 128 + ((u.img).map fun x => (x.bank + 1) * 2 ^ 8 + x.mid * 2 ^ 12).getD 0,
       hdrRelease u.nv.bankA.header, hdrRelease u.nv.bankB.header, ((u.img).map (·.next)).getD 0]))) ∧
    (FwTurn s u via 0x51 r →
      (∀ x, u.img = some x → x.mid ≠ r.mid → exec (.imgBegin mail c) s = .next (settle (u.answer r rsBusy))) ∧
      ((∀ x, u.img = some x → x.mid = r.mid) →
        (u.runsBank (r.w 1) = true → exec (.imgBegin mail c) s = .next (settle (u.answer r rsBankActive))) ∧
        (u.runsBank (r.w 1) = false → exec (.imgBegin mail c) s = .next (settle
          (u.fwRead { req := r, part := .header } (r.w64 2) 256))))) ∧
    ((∀ x, u.img = some x → x.mid = r.mid) → u.runsBank (r.w 1) = false → ∀ h,
      (u.nv.headerStatus h ≠ rsOk → r.imgBegun h u = u.answer r (u.nv.headerStatus h)) ∧
      (u.nv.headerStatus h = rsOk → r.imgBegun h u = r.imgOpen (r.w 1) h u)) ∧
    (FwTurn s u via 0x52 r →
      (u.img = none → exec (.imgChunk mail c) s = .next (settle (u.answer r rsNoSession))) ∧
      (∀ x, u.img = some x →
        (x.mid ≠ r.mid → exec (.imgChunk mail c) s = .next (settle (u.answer r rsBusy))) ∧
        (x.mid = r.mid → x.bank ≠ r.w 1 → exec (.imgChunk mail c) s = .next (settle (u.answer r rsNoSession))) ∧
        (x.mid = r.mid → x.bank = r.w 1 →
          (r.w64 4 % 16 ≠ 0 → exec (.imgChunk mail c) s = .next (settle (u.answer r rsBadArg))) ∧
          (r.w64 4 % 16 = 0 → x.chunkOk (r.w 2) (r.w 3) = false →
            exec (.imgChunk mail c) s = .next (settle (u.answer r rsOffset))) ∧
          (r.w64 4 % 16 = 0 → x.chunkOk (r.w 2) (r.w 3) = true →
            exec (.imgChunk mail c) s = .next (settle (u.fwTables r (r.w 3) (r.w64 4))))))) ∧
    (∀ x d, u.img = some x → x.mid = r.mid → x.bank = r.w 1 → r.w64 4 % 16 = 0 → x.chunkOk (r.w 2) (r.w 3) = true →
      let f := u.cpFlash (bankAddr (r.w 1) + 0x1000 + r.w 2)
      (f.2 = false → r.imgChunked d u = f.1.answer r rsFlash) ∧
      (f.2 = true → ∃ t : State, r.imgChunked d u = t.answer r rsOk [r.w 2 + r.w 3] ∧
        t = { f.1 with nv := t.nv, img := some { x with next := r.w 2 + r.w 3 } } ∧
        (t.nv.bank x.bank).body = fit (r.w 2) (f.1.nv.bank x.bank).body ++ d)) ∧
    (FwTurn s u via 0x53 r →
      (u.img = none → exec (.imgEnd via) s = .next (settle (u.answer r rsNoSession))) ∧
      (∀ x, u.img = some x →
        (x.mid ≠ r.mid → exec (.imgEnd via) s = .next (settle (u.answer r rsBusy))) ∧
        (x.mid = r.mid → x.bank ≠ r.w 1 → exec (.imgEnd via) s = .next (settle (u.answer r rsNoSession))) ∧
        (x.mid = r.mid → x.bank = r.w 1 →
          let right := sha256 ((u.nv.bank (r.w 1)).body.take x.next) = (x.header.drop 0x20).take 32
          (x.next ≠ hdrBody x.header → exec (.imgEnd via) s = .next (settle (u.answer r rsOffset))) ∧
          (x.next = hdrBody x.header → ¬ right → exec (.imgEnd via) s = .next (settle (u.answer r rsDigest))) ∧
          (x.next = hdrBody x.header → right → exec (.imgEnd via) s = .next (settle (r.imgStage x u)))))) ∧
    (FwTurn s u via 0x54 r →
      (u.img ≠ none → exec (.imgActivate via) s = .next (settle (u.answer r rsState))) ∧
      (u.img = none → u.runsBank (r.w 1) = true →
        exec (.imgActivate via) s = .next (settle (u.answer r rsBankActive))) ∧
      (u.img = none → u.runsBank (r.w 1) = false →
        (u.nv.boot.status (r.w 1) = bsStaged → exec (.imgActivate via) s = .next (settle (r.imgRecord
          { u.nv.boot with pending := some (r.w 1)
                           preferred := if u.recovery then r.w 1 else u.nv.boot.preferred } u))) ∧
        (u.nv.boot.status (r.w 1) ≠ bsStaged →
          exec (.imgActivate via) s = .next (settle (u.answer r rsState))))) ∧
    (FwTurn s u via 0x55 r →
      (u.img ≠ none → exec (.imgRestart via) s = .next (settle (u.answer r rsState))) ∧
      (u.img = none → u.member = true → exec (.imgRestart via) s = .next (settle (u.answer r rsPaired))) ∧
      (u.img = none → u.member = false →
        let t := u.answer r rsOk
        exec (.imgRestart via) s = .next (settle ((if t.sequences then t.ldgSealReq else t).askReset
          { cause := 2, switch := true, mid := 2 })))) ∧
    (FwTurn s u via 0x56 r →
      (u.img ≠ none ∨ u.onTrial = false ∨ u.runsBank (r.w 1) = false →
        exec (.imgConfirm via) s = .next (settle (u.answer r rsState))) ∧
      (u.img = none → u.onTrial = true → u.runsBank (r.w 1) = true →
        let w := u.recWrite { (u.nv.boot.setStatus (r.w 1) bsConfirmed) with preferred := r.w 1, trial := none }
        (w.2 = true → exec (.imgConfirm via) s =
          .next (settle ((w.1.put R.GLB_BOOT_STATUS_trial 0).answer r rsOk))) ∧
        (w.2 = false → exec (.imgConfirm via) s = .next (settle (w.1.answer r rsFlash))))) ∧
    (FwTurn s u via 0x57 r →
      (u.img ≠ none → exec (.imgRevert via) s = .next (settle (u.answer r rsState))) ∧
      (u.img = none → u.member = true → exec (.imgRevert via) s = .next (settle (u.answer r rsPaired))) ∧
      (u.img = none → u.member = false → u.onTrial = false →
        exec (.imgRevert via) s = .next (settle (u.answer r rsState))) ∧
      (u.img = none → u.member = false → u.onTrial = true →
        let w := u.recWrite
          { (u.nv.boot.setStatus (u.get R.GLB_BOOT_STATUS_bank) bsBad) with trial := none }
        (w.2 = true → exec (.imgRevert via) s = .next (settle
          (((w.1.put R.GLB_BOOT_STATUS_trial 0).answer r rsOk).askReset { cause := 2, mid := 2 }))) ∧
        (w.2 = false → exec (.imgRevert via) s = .next (settle (w.1.answer r rsFlash))))) ∧
    exec .imgSessionTimeout s = .next { s with img := none }

/-- An append is refused by its reason or waits for the next number; records become durable oldest first; far appends
come and end part by part. LEDGER_APPEND reads its block, then hands it to the ledger, or sends it in parts to a far
one while its function is bus master; firmware's go does so for LDG_FWA_DATA. A block that a rule refuses sets its
cause and ends with its code; any other joins what waits. A part of a far append opens or extends its slot, the last
hands the block over or is answered; APPEND_END with status 0 gives its number, 1 a resend after RETRY, others their
detail; without an end it times out. The oldest staged record enters its segment, its append ends, and a RELEASE
erases what it names. While registers answer: a seal is asked for once; a release without grounds is refused with its
reason, and one with grounds becomes a RELEASE record; LDG_EXPORTED moves only forward, up to the durable record;
other MIDs change nothing. Completes: LEDGER_APPEND, LDG_APPEND_PART, APPEND_END, FAR_APPEND_RESEND,
FAR_APPEND_TIMEOUT, FIRMWARE_APPEND, RECORD_DURABLE, SEAL_REQUEST, SEGMENT_RELEASE, EXPORTED_WRITE. -/
def Obligations.AppendsEnterTheLedger : Prop :=
  ∀ s : State,
    (∀ (tag : Fin 2048) o, s.liveWith tag ocAppend = some o →
      let goes (t : State) := exec (.ledgerAppend tag) s = .next (settle t)
      (o.busy = true ∨ o.sent = true → goes s) ∧
      (o.busy = false → o.sent = false → o.allRead = false → goes (s.wantData tag)) ∧
      (o.busy = false → o.sent = false → o.allRead = true → o.buf.length < o.room → goes s) ∧
      (o.busy = false → o.sent = false → o.allRead = true → o.room ≤ o.buf.length → s.opFar tag o = true →
        (o.poisoned = true → goes (s.endOp tag stPoisoned 0)) ∧
        (o.poisoned = false → goes (s.sendAppend tag o))) ∧
      (o.busy = false → o.sent = false → o.allRead = true → o.room ≤ o.buf.length → s.opFar tag o = false →
        let a : Append := { bytes := o.buf.map (·.1), mid := 3, src := s.ownSrc, poisoned := o.poisoned,
                            by_ := .program (o.token tag) }
        let u := s.setOp tag { o with busy := true }
        (∀ d, u.appendRefusal a = some d → goes (u.appendRefused a d)) ∧
        (u.appendRefusal a = none → goes (u.ldgQueue (.append a))))) ∧
    (∀ tag o, (s.writesHeld tag = true → s.sendAppend tag o = s) ∧
      (s.writesHeld tag = false → s.routeTo (devUnit o.first.dev) = none →
        s.sendAppend tag o = s.endOp tag stFarGone 0)) ∧
    (∀ tag : Fin 2048, s.liveWith tag ocAppend = none → exec (.ledgerAppend tag) s = .next (settle s) ∧
      exec (.farAppendResend tag) s = .next (settle s) ∧ exec (.farAppendTimeout tag) s = .next (settle s)) ∧
    (∀ (tag : Fin 2048) o, s.liveWith tag ocAppend = some o →
      (o.sent = true → o.busy = true → exec (.farAppendResend tag) s = .next (settle (s.sendAppend tag o))) ∧
      (o.sent = false ∨ o.busy = false → exec (.farAppendResend tag) s = .next (settle s)) ∧
      (o.sent = true → o.busy = false → exec (.farAppendTimeout tag) s = .next (settle (s.endOp tag stTimeout 0))) ∧
      (o.sent = false ∨ o.busy = true → exec (.farAppendTimeout tag) s = .next (settle s))) ∧
    (∀ (p : Fin 2) (f : FlitIn), s.arrives p f = true →
      let a := s.accept p .req f
      let takes (t : State) := exec (.ldgAppendPart p f) s = .next (settle t)
      let origin := f.src.toNat
      let tag := fieldAt f.payload 0 2
      let part := fieldAt f.payload 2 1
      let parts := fieldAt f.payload 4 1
      let key := origin * 2 ^ 16 + tag
      let slots := if part = 0 ∧ (a.ldg.farIn.length < 64 ∨ (tget a.ldg.farIn key).isSome = true) then
          tset a.ldg.farIn key { parts := parts, next := 0, bytes := [], poisoned := false }
        else a.ldg.farIn
      let with_ (l : NMap FarAppend) := a.setLdg { a.ldg with farIn := l }
      (a.inReset = true → takes (a.noRoute origin 0x30 1 f.payload)) ∧
      (a.inReset = false →
        (tget slots key = none →
          (part + 1 = parts → takes ((with_ slots).appendEnd origin tag part 1 0)) ∧
          (part + 1 ≠ parts → takes (with_ slots))) ∧
        (∀ x, tget slots key = some x →
          let y := { x with next := part + 1, bytes := x.bytes ++ f.payload.drop 8,
                            poisoned := x.poisoned || f.poisoned }
          let u := with_ (tdel slots key)
          let b : Append := { bytes := y.bytes, mid := 3, src := origin + 2 ^ 15, poisoned := y.poisoned,
                              by_ := .far origin tag part }
          (part + 1 < parts → takes (with_ (tset slots key y))) ∧
          (parts ≤ part + 1 →
            (a.ldg.ready = false → takes (u.appendEnd origin tag part 5 0)) ∧
            (a.ldg.ready = true →
              (∀ d, u.appendRefusal b = some d → takes (u.appendRefused b d)) ∧
              (u.appendRefusal b = none → takes (u.ldgQueue (.append b)))))))) ∧
    (∀ (p : Fin 2) (f : FlitIn), s.arrives p f = true →
      let a := s.accept p .rsp f
      (a.appendOf f.payload = none → exec (.appendEnd p f) s = .next (settle a)) ∧
      (∀ tag o, a.appendOf f.payload = some (tag, o) →
        (fieldAt f.payload 4 1 = 0 → exec (.appendEnd p f) s =
          .next (settle (a.appended (.program (o.token tag)) (fieldAt f.payload 8 8)))) ∧
        (fieldAt f.payload 4 1 = 1 → exec (.appendEnd p f) s = .next (settle (a.setOp tag { o with busy := true }))) ∧
        (∀ st, fieldAt f.payload 4 1 = st → st ≠ 0 → st ≠ 1 → exec (.appendEnd p f) s = .next (settle
          (a.endOp tag stDeviceError (if st = 2 then 0x72 else if st = 3 then 0x71 else if st = 5 then 0x73 else 0x70)))))) ∧
    (∀ (p : Fin 2) (f : FlitIn), s.arrives p f = false →
      exec (.ldgAppendPart p f) s = .next (settle s) ∧ exec (.appendEnd p f) s = .next (settle s)) ∧
    (s.answers = true → ∀ mid : BitVec 4,
      (mid ≠ 2 ∨ s.on R.LDG_FWA_CTL_go = true → exec (.firmwareAppend mid) s = .next (settle s)) ∧
      (mid = 2 → s.on R.LDG_FWA_CTL_go = false →
        let a : Append :=
          { bytes := ((List.range 58).flatMap fun w => leBytes 4 (s.get (R.LDG_FWA_DATA_word w))).take
                       (s.get R.LDG_FWA_CTL_count),
            mid := 2, src := s.ownSrc, poisoned := false, by_ := .firmware }
        let u := s.put R.LDG_FWA_CTL_go 1
        (∀ d, u.appendRefusal a = some d → exec (.firmwareAppend mid) s = .next (settle (u.appendRefused a d))) ∧
        (u.appendRefusal a = none → exec (.firmwareAppend mid) s = .next (settle (u.ldgQueue (.append a)))))) ∧
    (s.ldg.staged = [] → exec .recordDurable s = .next (settle s.sequence)) ∧
    (∀ x rest, s.ldg.staged = x :: rest →
      let t := s.setLdg { s.ldg with
        staged := rest, segs := addRecord s.ldg.segs x, nvPair := x.pair, durable := ldgSeq x.bytes
        horizon := if ldgType x.bytes = tSeal then fieldAt x.bytes 0x78 8 else s.ldg.horizon }
      let lands (u : State) := exec .recordDurable s = .next (settle (State.sequence
        (if ldgType x.bytes = tRelease then u.releaseDone x.bytes else u)))
      (x.by_ = none → lands t) ∧ (∀ b, x.by_ = some b → lands (t.appended b (ldgSeq x.bytes)))) ∧
    (s.answers = true → ∀ mid : BitVec 4,
      (mid.toNat < 3 → s.sequences = true →
        (LdgItem.seal ∉ s.ldg.due → exec (.sealRequest mid) s = .next (settle (s.ldgQueue .seal))) ∧
        (LdgItem.seal ∈ s.ldg.due → exec (.sealRequest mid) s = .next (settle s.sequence))) ∧
      (¬ (mid.toNat < 3 ∧ s.sequences = true) → exec (.sealRequest mid) s = .next (settle s)) ∧
      (2 ≤ mid.toNat → exec (.segmentRelease mid) s = .next (settle s)) ∧
      (mid.toNat < 2 →
        let refused (n : Nat) := exec (.segmentRelease mid) s = .next (settle (s.releaseRefused n))
        (s.sequences = false ∨ s.ldgRuns = false → refused 4) ∧
        (s.sequences = true → s.ldgRuns = true →
          (s.ldg.oldestSeg = none ∨ s.ldg.erase ≠ none → refused 1) ∧
          (∀ i g, s.ldg.erase = none → s.ldg.oldestSeg = some (i, g) →
            (∀ n, s.releaseReason i g = some n → refused n) ∧
            (s.releaseReason i g = none → exec (.segmentRelease mid) s = .next (settle
              ((s.setLdg { s.ldg with erase := some i }).ldgQueue (.hw tRelease
                (leBytes 8 ((g.recs.head?.map ldgSeq).getD 0) ++
                  leBytes 8 ((g.recs.getLast?.map ldgSeq).getD 0))))))))) ∧
      (∀ v : W64, mid = 2 ∧ s.ldg.exported ≤ v.toNat ∧ v.toNat ≤ s.ldg.durable →
        exec (.exportedWrite mid v) s = .next { s with ldg := { s.ldg with exported := v.toNat } }) ∧
      (∀ v : W64, ¬ (mid = 2 ∧ s.ldg.exported ≤ v.toNat ∧ v.toNat ≤ s.ldg.durable) →
        exec (.exportedWrite mid v) s = .next s)) ∧
    (∀ n < 8, Only s (s.releaseRefused n) [R.LDG_LAST_release_reason, R.LDG_EVT_cause, R.LDG_EVT_CNT_count 10] ∧
      (s.releaseRefused n).get R.LDG_LAST_release_reason = n ∧
      Raised s (s.releaseRefused n) R.LDG_EVT_cause 10 (R.LDG_EVT_CNT_count 10))

/-- Members beat, epochs are staged, judged, committed and acknowledged or sent again, and a stranger's message is
only counted. A heartbeat of the partner is seen; the first, and the first after a loss, send STATE, and the latter
clears the loss. A heartbeat is sent with the next count; a loss sets its cause and starts a standby's grace.
EPOCH_CLOSE sends the next epoch while fewer than two are unacknowledged. EPOCH_BEGIN stages an epoch and drops a
partial one; EPOCH_DATA adds to it; EPOCH_END commits it, answers DISCARDED with its reason, or acknowledges again one
that is committed already. A committed epoch becomes durable and is acknowledged. COMMITTED advances the mirror point;
DISCARDED and a time-out send the epoch again. A flit of another sender only sets partner_mismatch of a member, and a
request before boot step 3 is answered NO_ROUTE. Completes: HEARTBEAT, HEARTBEAT_SEND, HEARTBEAT_LOSS, EPOCH_CLOSE,
EPOCH_BEGIN, EPOCH_DATA, EPOCH_END, EPOCH_COMMIT, EPOCH_ACK, EPOCH_RESEND_TIMEOUT. -/
def Obligations.PairsMirrorInEpochs : Prop :=
  ∀ s : State,
    (s.member = true → exec .heartbeatSend s = .next
      (State.sendTo { s with ldg := { s.ldg with hbSent := s.ldg.hbSent + 1 } } 0x06 s.ldg.pair.partner
        (leBytes 8 s.now ++ leBytes 4 (s.ldg.hbSent + 1)))) ∧
    (s.member = false → exec .heartbeatSend s = .next s) ∧
    (s.member = true → s.ldg.hbLost = false → ∃ t, exec .heartbeatLoss s = .next (settle t) ∧
      Only { s with
        ldg := { s.ldg with hbLost := true, grace := s.ldg.pair.role == 2 }
        dueFaults := t.dueFaults } t [R.LDG_EVT_cause, R.LDG_EVT_CNT_count 3] ∧
      t.dueFaults.length = s.dueFaults.length + 1 ∧ Raised s t R.LDG_EVT_cause 3 (R.LDG_EVT_CNT_count 3)) ∧
    (s.member = false ∨ s.ldg.hbLost = true → exec .heartbeatLoss s = .next (settle s)) ∧
    (s.ldg.feeding = false ∨ s.ldg.unsent = [] ∨ 2 ≤ s.ldg.epochs.length → exec .epochClose s = .next s) ∧
    (∀ recs, s.ldg.feeding = true → s.ldg.unsent ≠ [] → s.ldg.epochs.length < 2 →
      recs = epochTake 256 65536 s.ldg.resync s.ldg.epochFrom →
      let e : Epoch := { num := s.ldg.nextEpoch, term := s.ldg.epochTerm, recs := recs,
                         chain := recs.foldl chainAfter s.ldg.sentChain }
      exec .epochClose s = .next (((s.setLdg { s.ldg with
        unsent := s.ldg.epochFrom.drop recs.length, epochs := s.ldg.epochs ++ [e], resync := false
        nextEpoch := (s.ldg.nextEpoch + 1) % 2 ^ 32, sentChain := e.chain }).put
          R.LDG_EPOCH_epoch e.num).sendEpoch e)) ∧
    (∀ newer e, s.ldg.epochs[b2n newer]? = some e →
      exec (.epochResendTimeout newer) s = .next (settle ((s.sendEpoch e).ldgRaise 8))) ∧
    (∀ newer, s.ldg.epochs[b2n newer]? = none → exec (.epochResendTimeout newer) s = .next (settle s)) ∧
    (∀ (p : Fin 2) (f : FlitIn), s.arrives p f = false → exec (.heartbeat p f) s = .next (settle s) ∧
      exec (.epochBegin p f) s = .next (settle s) ∧ exec (.epochData p f) s = .next (settle s) ∧
      exec (.epochEnd p f) s = .next (settle s) ∧ exec (.epochAck p f) s = .next (settle s)) ∧
    (∀ (p : Fin 2) (f : FlitIn), s.arrives p f = true →
      let h := s.accept p .lc f
      (h.member = true → f.src.toNat ≠ h.ldg.pair.partner → ∃ t, exec (.heartbeat p f) s = .next (settle t) ∧
        Raised h t R.LDG_EVT_cause 12 (R.LDG_EVT_CNT_count 12)) ∧
      (h.member = false ∨ f.src.toNat ≠ h.ldg.pair.partner →
        exec (.heartbeat p f) s = .next (settle (if h.member then h.ldgRaise 12 else h))) ∧
      (h.member = true → f.src.toNat = h.ldg.pair.partner →
        let u := if h.ldg.hbLost then h.ldgRaise 4 else h
        let v := u.setLdg { u.ldg with hbSeen := true, hbLost := false, grace := false }
        exec (.heartbeat p f) s = .next (settle
          (if h.ldg.hbLost ∨ h.ldg.hbSeen = false then v.sendState false else v)))) ∧
    (∀ (p : Fin 2) (f : FlitIn), s.arrives p f = true →
      let b := s.accept p .req f
      let a := s.accept p .rsp f
      (∀ c ∈ [Instr.epochBegin p f, .epochData p f, .epochEnd p f],
        (b.inReset = true → exec c s = .next (settle (b.noRoute f.src.toNat 0x30 1 f.payload))) ∧
        (b.inReset = false → b.member = false ∨ f.src.toNat ≠ b.ldg.pair.partner →
          exec c s = .next (settle (if b.member then b.ldgRaise 12 else b)))) ∧
      (a.member = false ∨ f.src.toNat ≠ a.ldg.pair.partner →
        exec (.epochAck p f) s = .next (settle (if a.member then a.ldgRaise 12 else a)))) ∧
    (∀ (p : Fin 2) (f : FlitIn) (b : State), s.arrives p f = true → b = s.accept p .req f → b.inReset = false →
      b.member = true → f.src.toNat = b.ldg.pair.partner →
      (b.ldg.pair.role ≠ 2 → exec (.epochBegin p f) s = .next (settle b) ∧
        exec (.epochData p f) s = .next (settle b) ∧ exec (.epochEnd p f) s = .next (settle b)) ∧
      (b.ldg.pair.role = 2 →
        (let g : Stage :=
            { num := fieldAt f.payload 4 4, first := fieldAt f.payload 8 8, count := fieldAt f.payload 16 2,
              term := fieldAt f.payload 18 2, size := fieldAt f.payload 20 4,
              ok := fieldAt f.payload 24 4 == crc32c ((f.payload.drop 4).take 20), poisoned := f.poisoned };
          (b.ldg.stage = none →
            exec (.epochBegin p f) s = .next (settle (b.setLdg { b.ldg with stage := some g }))) ∧
          (b.ldg.stage ≠ none →
            let d := (b.setLdg { b.ldg with stage := none }).ldgRaise 7
            exec (.epochBegin p f) s = .next (settle (d.setLdg { d.ldg with stage := some g })))) ∧
        (∀ g, b.ldg.stage = some g →
          let h : Stage := { g with data := g.data ++ f.payload.drop 8,
                                    ok := g.ok && fieldAt f.payload 4 4 == g.data.length,
                                    poisoned := g.poisoned || f.poisoned };
          exec (.epochData p f) s = .next (settle (b.setLdg { b.ldg with stage := some h }))) ∧
        (b.ldg.stage = none → exec (.epochData p f) s = .next (settle b)) ∧
        (let num := fieldAt f.payload 4 4
         let u := b.setLdg { b.ldg with stage := none }
         let ends (t : State) := exec (.epochEnd p f) s = .next (settle t)
         (b.ldg.hasEpoch num = true →
           (num ∈ b.ldg.commits → ends u) ∧ (num ∉ b.ldg.commits → ends (u.sendAck num 0))) ∧
         (b.ldg.hasEpoch num = false →
           (b.ldg.stage = none → ends b) ∧
           (∀ g, b.ldg.stage = some g →
             (∀ reason, u.judgeEpoch g f = .inl reason → ends ((u.ldgRaise 7).sendAck num reason)) ∧
             (∀ m, u.judgeEpoch g f = .inr m → ends ((u.setLdg { m with
               commits := m.commits ++ [num], lastEpoch := num, anchored := true
               handTo := (handTerm ((splitRecs 257 g.data).getD [])).or m.handTo }).put R.LDG_EPOCH_epoch num))))))) ∧
    (s.ldg.commits = [] → exec .epochCommit s = .next (settle s)) ∧
    (s.ldg.commits ≠ [] → ∀ l, l = s.ldgFlush.ldg → exec .epochCommit s = .next (settle
      (s.ldg.commits.foldl (fun t n => t.sendAck n 0)
        (s.ldgFlush.setLdg { l with commits := [], mirrorSeq := l.newestSeq })).handedOver)) ∧
    (∀ (p : Fin 2) (f : FlitIn) (a : State), s.arrives p f = true → a = s.accept p .rsp f → a.member = true →
      f.src.toNat = a.ldg.pair.partner →
      (a.ldg.epochs.find? (fun e => e.num == fieldAt f.payload 4 4) = none →
        exec (.epochAck p f) s = .next (settle a)) ∧
      (∀ e, a.ldg.epochs.find? (fun e => e.num == fieldAt f.payload 4 4) = some e →
        (fieldAt f.payload 8 1 ≠ 0 → exec (.epochAck p f) s = .next (settle ((a.sendEpoch e).ldgRaise 8))) ∧
        (fieldAt f.payload 8 1 = 0 →
          let rest := (a.ldg.epochs.dropWhile fun x => x.num != e.num).drop 1
          exec (.epochAck p f) s = .next (settle (a.setLdg { a.ldg with
            epochs := rest, mirrorSeq := (e.recs.getLast?.map ldgSeq).getD a.ldg.mirrorSeq
            feeding := a.ldg.feeding &&
              !(a.ldg.pair.role == 2 && rest.isEmpty && a.ldg.unsent.isEmpty) }).handAnswered))))

/-- A pair forms on matching BIND messages, dissolves on UNBIND, agrees by STATE, and a standby takes over when its
grace ends. STATE of the partner is acted on and a request is answered with STATE: of two ACTIVE members the lower
term yields, an ACTIVE one feeds its STANDBY in the same term anew, a STANDBY anchors anew at its ACTIVE partner, and
two that are not ACTIVE only set no_active. A matching BIND forms the pair in a term above both and answers the
command; any other changes nothing. UNBIND of the present term dissolves the pair, and a request is answered with
UNBIND (the model's choice, log entry 128). A stranger's message only sets partner_mismatch of a member, and a request
before boot step 3 is answered NO_ROUTE. While registers answer, the hold bit is as written. When the grace ends,
automatic takeover makes the standby ACTIVE in the next term unless held. Completes: PAIR_STATE, PAIR_BIND_MESSAGE,
PAIR_UNBIND_MESSAGE, PAIR_HOLD, TAKEOVER_GRACE_EXPIRY. -/
def Obligations.PairsFormAndTakeTurns : Prop :=
  ∀ s : State,
    (s.answers = true → ∀ (mid : BitVec 4) (v : W32), s.takes R.LDG_PAIR_CTL_hold mid.toNat = true → ∃ t,
      exec (.pairHold mid v) s = .next t ∧ Only s t [R.LDG_PAIR_CTL_hold] ∧
      t.get R.LDG_PAIR_CTL_hold = bits v.toNat R.LDG_PAIR_CTL_hold.lo 1) ∧
    (∀ (mid : BitVec 4) (v : W32), s.takes R.LDG_PAIR_CTL_hold mid.toNat = false →
      exec (.pairHold mid v) s = .next s) ∧
    (s.ldg.grace = false ∨ s.on R.LDG_PAIR_CTL_hold = true → exec .takeoverGraceExpiry s = .next (settle s)) ∧
    (s.ldg.grace = true → s.on R.LDG_PAIR_CTL_hold = false →
      (s.on R.LDG_PAIR_CTL_auto = false →
        exec .takeoverGraceExpiry s = .next (settle { s with ldg := { s.ldg with grace := false } })) ∧
      (s.on R.LDG_PAIR_CTL_auto = true → exec .takeoverGraceExpiry s = .next (settle (s.takeover 1)))) ∧
    (∀ (p : Fin 2) (rsp : Bool) (f : FlitIn), s.arrives p f = false →
      exec (.pairState p rsp f) s = .next (settle s) ∧ exec (.pairBindMessage p rsp f) s = .next (settle s) ∧
      exec (.pairUnbindMessage p rsp f) s = .next (settle s)) ∧
    (∀ (p : Fin 2) (f : FlitIn), s.arrives p f = true →
      let b := s.accept p .req f
      b.inReset = true → ∀ c ∈ [Instr.pairState p false f, .pairBindMessage p false f, .pairUnbindMessage p false f],
        exec c s = .next (settle (b.noRoute f.src.toNat 0x30 1 f.payload))) ∧
    (∀ (p : Fin 2) (rsp : Bool) (f : FlitIn) (a : State), s.arrives p f = true →
      a = s.accept p (if rsp then .rsp else .req) f → (rsp = false → a.inReset = false) →
      (a.fromPartner f = false → a.member = false → exec (.pairState p rsp f) s = .next (settle a) ∧
        exec (.pairUnbindMessage p rsp f) s = .next (settle a)) ∧
      (a.fromPartner f = false → a.member = true → exec (.pairState p rsp f) s = .next (settle (a.ldgRaise 12)) ∧
        exec (.pairUnbindMessage p rsp f) s = .next (settle (a.ldgRaise 12))) ∧
      (a.fromPartner f = true →
        let me := a.ldg.pair.role
        let role := pmRole f.payload
        let term := pmTerm f.payload
        let mirror := pmMirror f.payload
        let u := a.stateSeen role term mirror
        let b := a.setLdg { a.ldg with seen := some (role, term) }
        exec (.pairState p rsp f) s = .next (settle (if rsp then u else u.sendState true)) ∧
        (me = 1 → role = 1 → u =
          if a.ldg.pair.term < term ∨ a.ldg.pair.term = term ∧ a.ldg.pair.partner < a.addr then
            b.yieldTo term mirror else b) ∧
        (me = 1 → role = 2 → term = a.ldg.pair.term → u = b.resynchronise mirror) ∧
        (me = 1 → role ≠ 1 → role ≠ 2 ∨ term ≠ a.ldg.pair.term → u = b) ∧
        (me = 2 → role = 1 → u = b.setLdg { b.ldg with anchored := false }) ∧
        (me ≠ 1 → me ≠ 2 → role = 1 → u = b) ∧
        (me ≠ 1 → role ≠ 1 → u = b.ldgRaise 13)) ∧
      (a.ldg.binding = none → exec (.pairBindMessage p rsp f) s = .next (settle a)) ∧
      (∀ q partner role, a.ldg.binding = some (q, partner, role) →
        (partner = f.src.toNat ∧ pmRole f.payload = role ∧ pmOk f.payload = true ∧ f.poisoned = false →
          let term := (max a.ldg.pair.term (pmTerm f.payload) + 1) % 65536
          let u := if rsp then a else a.pairSend partner opBind (1 - role) true
          exec (.pairBindMessage p rsp f) s = .next (settle ((u.formPair role partner (pmSerial f.payload) term
            (pmLedger f.payload) (pmNewest f.payload)).fwReply q rsOk []))) ∧
        (¬ (partner = f.src.toNat ∧ pmRole f.payload = role ∧ pmOk f.payload = true ∧ f.poisoned = false) →
          exec (.pairBindMessage p rsp f) s = .next (settle a))) ∧
      (a.fromPartner f = true → pmTerm f.payload = a.ldg.pair.term → exec (.pairUnbindMessage p rsp f) s =
        .next (settle (if rsp then a.unbind
          else a.unbind.pairSend f.src.toNat opUnbind a.unbind.ldg.pair.role true))) ∧
      (a.fromPartner f = true → pmTerm f.payload ≠ a.ldg.pair.term → exec (.pairUnbindMessage p rsp f) s =
        .next (settle (if rsp then a else a.pairSend f.src.toNat opUnbind a.ldg.pair.role true))))

/-- A Pintle port trains, becomes ACTIVE with its lanes and full credits, recovers, goes down and is disabled. While
registers answer, an enabled port that is down or idle starts TS1 and trains, while the unit runs and does not idle it
in QUIET. Training that agrees makes it ACTIVE with the two lowest qualified receive lanes, the lanes the peer names,
sequence numbers 0, an empty replay buffer and credits 8, 64 and 64; a pause stops it, and its end starts TS1 again.
Silence, a lost block lock and a retrain write start recovery, which ends with a replay or, where the peer has nothing
to recover, in new training. Electrical idle, a time-out and LEAVING take the port down; a disabling write leaves it
IDLE. Each does nothing in another state. Completes: PINTLE_PORT_ENABLE, PINTLE_LINK_ACTIVE, TRAINING_TIMEOUT,
RETRAINING_PAUSE_END, LINK_SILENCE, BLOCK_LOCK_LOSS, RETRAIN, RECOVERY_TRAINING, ELECTRICAL_IDLE_DETECT,
RECOVERY_TIMEOUT, PINTLE_PORT_DISABLE, LEAVING. -/
def Obligations.PintleTrains : Prop :=
  ∀ (s : State) (p : Fin 2),
    (s.answers = true →
      let starts := s.on (R.CHN_PT_CTL_en p) = true ∧ s.running = true ∧ s.sup.pf < 3 ∧
        ¬ (s.power = 1 ∧ s.quietIdles p = true) ∧ (s.ptState p = 0 ∨ s.ptState p = 4)
      (starts → exec (.pintlePortEnable p) s =
        .next (((s.put (R.CHN_PT_STATUS_state p) 1).setPt p {}).sendTs1 p 0 false)) ∧
      (¬ starts → exec (.pintlePortEnable p) s = .next s)) ∧
    (∀ sel rec, s.sendTs1 p sel rec = { s with out := (s.sendTs1 p sel rec).out }) ∧
    (s.ptState p = 1 →
      exec (.trainingTimeout p) s = .next (s.setPt p { s.pt p with paused := true }) ∧
      ((s.pt p).paused = true → exec (.retrainingPauseEnd p) s =
        .next ((s.setPt p { s.pt p with paused := false }).sendTs1 p 0 false))) ∧
    (s.ptState p ≠ 1 → exec (.trainingTimeout p) s = .next s) ∧
    (s.ptState p ≠ 1 ∨ (s.pt p).paused = false → exec (.retrainingPauseEnd p) s = .next s) ∧
    (∀ tr : Training, s.ptState p = 1 → (s.pt p).paused = false → s.trains p tr = true → tr.recovery = false →
      ∃ u : State, exec (.pintleLinkActive p tr) s = .next (settle
          ((u.sendTs2 p tr false).setPosition.1.announceIf true)) ∧
        u.ptState p = 2 ∧ u.get (R.CHN_PT_SEQ_tx_next p) = 0 ∧ u.get (R.CHN_PT_SEQ_rx_expected p) = 0 ∧
        u.get (R.CHN_PT_STATUS_rx0 p) = (s.qualifiedLanes p tr).getD 0 0 ∧
        u.get (R.CHN_PT_STATUS_rx1 p) = (s.qualifiedLanes p tr).getD 1 0 ∧
        u.get (R.CHN_PT_STATUS_tx0 p) = (lanesOf tr.rxSel).getD 0 0 ∧
        u.get (R.CHN_PT_STATUS_tx1 p) = (lanesOf tr.rxSel).getD 1 0 ∧
        u.get (R.CHN_PT_PEER_addr p) = tr.addr.toNat ∧ u.get (R.CHN_PT_PEER_position p) = tr.position.toNat ∧
        u.pt p = { credLc := 8, credRsp := 64, credReq := 64 } ∧
        Raised s u (R.CHN_PT_EVT_cause p) 0 (R.CHN_PT_EVT_CNT_count p 0)) ∧
    (∀ tr : Training, s.ptState p ≠ 1 ∨ (s.pt p).paused = true ∨ s.trains p tr = false ∨ tr.recovery = true →
      exec (.pintleLinkActive p tr) s = .next (settle s)) ∧
    (s.ptActive p = true → ∃ t : State, Only (s.setPt p
          { s.pt p with swap := none, txSwap := none, badCopies := 0, failed := none }) t
        [R.CHN_PT_STATUS_state p, R.CHN_PT_EVT_cause p, R.CHN_PT_EVT_CNT_count p 3] ∧ t.ptState p = 3 ∧
      Raised s t (R.CHN_PT_EVT_cause p) 3 (R.CHN_PT_EVT_CNT_count p 3) ∧
      let u := if p = 0 then (t.sendTs1 p 0 true).reposition else t.sendTs1 p 0 true
      exec (.linkSilence p) s = .next (settle u) ∧ exec (.blockLockLoss p) s = .next (settle u) ∧ s.recover p = u) ∧
    (s.ptActive p = false → exec (.linkSilence p) s = .next (settle s) ∧
      exec (.blockLockLoss p) s = .next (settle s) ∧ s.recover p = s) ∧
    (s.answers = true → ∀ mid : BitVec 4,
      exec (.retrain p mid) s = .next (settle (s.ptCtlWrite p mid.toNat (setBit (s.ptCtl p) 2))) ∧
      (s.takes (R.CHN_PT_CTL_retrain p) mid.toNat = true → s.get (R.CHN_PT_CTL_en p) = 1 → ∃ u : State,
        Only s u [R.CHN_PT_CTL_en p, R.CHN_PT_CTL_quiet_idle p, R.CHN_PT_CTL_lane_forbid p] ∧
        u.get (R.CHN_PT_CTL_en p) = 1 ∧ exec (.retrain p mid) s = .next (settle (u.recover p)))) ∧
    (∀ (tr : Training), s.ptState p = 3 → s.trains p tr = true →
      (tr.recovery = true → exec (.recoveryTraining p tr) s = .next (settle
        ((s.portActive p tr fun u => u.resend p (u.pt p).unacked).pumpAll p))) ∧
      (tr.recovery = false → exec (.recoveryTraining p tr) s = .next (settle ((s.portDown p 0).portTrain p)))) ∧
    (∀ (tr : Training), s.ptState p ≠ 3 ∨ s.trains p tr = false →
      exec (.recoveryTraining p tr) s = .next (settle s)) ∧
    (s.ptState p = 2 ∨ s.ptState p = 3 →
      exec (.electricalIdleDetect p) s = .next (settle (s.portDown p 0)) ∧
        (s.portLost p 0).ptState p = 0 ∧ (s.portLost p 0).pt p = {}) ∧
    (s.ptState p ≠ 2 → s.ptState p ≠ 3 → exec (.electricalIdleDetect p) s = .next (settle s)) ∧
    (s.ptState p = 3 → exec (.recoveryTimeout p) s = .next (settle (s.portDown p 0))) ∧
    (s.ptState p ≠ 3 → exec (.recoveryTimeout p) s = .next (settle s)) ∧
    (s.answers = true → ∀ mid : BitVec 4, s.get (R.CHN_PT_CTL_quiet_idle p) < 2 →
      let others := [R.CHN_PT_CTL_en p, R.CHN_PT_CTL_quiet_idle p, R.CHN_PT_CTL_lane_forbid p]
      (s.get (R.CHN_PT_CTL_en p) = 0 ∨ s.takes (R.CHN_PT_CTL_en p) mid.toNat = false ∧ s.get (R.CHN_PT_CTL_en p) = 1 →
        ∃ u : State, Only s u others ∧ u.get (R.CHN_PT_CTL_en p) = s.get (R.CHN_PT_CTL_en p) ∧
          exec (.pintlePortDisable p mid) s = .next (settle u)) ∧
      (s.takes (R.CHN_PT_CTL_en p) mid.toNat = true → s.get (R.CHN_PT_CTL_en p) = 1 → ∃ u : State,
        Only s u others ∧ u.get (R.CHN_PT_CTL_en p) = 0 ∧
        exec (.pintlePortDisable p mid) s = .next (settle ((u.leave p 2).portDown p 4)))) ∧
    (∀ f : FlitIn, s.expects p f = true → f.bcast = false →
      exec (.leaving p f) s = .next (settle ((s.accept p .lc f).portDown p 0))) ∧
    (∀ f : FlitIn, s.expects p f = false ∨ f.bcast = true → exec (.leaving p f) s = .next (settle s))

/-- A flit is accepted only when it is the expected one, refused by its reason, forwarded by the map, and what is lost
is sent again. A received codeword is decoded and its header check judged: a flit with a bad header is counted and
answered with NAK; one ahead of the expected number draws a NAK; of an uncorrectable one the copies of the expected
flit are counted, and after four a bad one starts recovery, as does one on a port whose lane has failed. IDLE only
carries acknowledgements and credits. NAK sends again from the number it names, or from the oldest where a time-out
falls due with it; a replay time-out sends all. A malformed flit is accepted with its cause. A flit for another unit
leaves through the port that its map names, one hop on, keeping its buffer until then, or is undeliverable. Nothing
happens on a port that is not ACTIVE. Completes: FLIT_REJECT, FLIT_MALFORMED, FLIT_FORWARD, IDLE, IDLE_SEND, NAK,
REPLAY_TIMEOUT. -/
def Obligations.FlitsAreAcceptedOnceInOrder : Prop :=
  ∀ (s : State) (p : Fin 2) (f : FlitIn),
    (s.ptActive p = false → (∀ data parity nak, exec (.flitReject p data parity nak) s = .next (settle s)) ∧
      (∀ data parity, exec (.flitMalformed p data parity) s = .next (settle s)) ∧
      (∀ ty, exec (.flitForward p ty f) s = .next (settle s)) ∧
      exec (.idle p f) s = .next s ∧ exec (.idleSend p) s = .next s ∧
      (∀ timeout, exec (.nak p ⟨f, timeout⟩) s = .next (settle s)) ∧ exec (.replayTimeout p) s = .next (settle s)) ∧
    (∀ (data parity : List Byte) (nak : Bool),
      let r := rxFlit (data ++ parity)
      let refuses (t : State) := exec (.flitReject p data parity nak) s = .next (settle t)
      (r.header = true → r.type < 2 ∨ s.expects p r.fields = true → refuses s) ∧
      (s.ptActive p = true →
        (r.header = false → r.uncorr = false →
          let t := s.count (R.CHN_PT_HDRERR_CNT_count p)
          refuses (if 4 ≤ (s.pt p).badCopies then t.recover p else if nak then t.sendNak p else t)) ∧
        (r.header = true → 2 ≤ r.type → s.expects p r.fields = false → r.uncorr = false →
          let t := s.rxHeader p r.fields
          refuses (if t.ahead p r.fields = true ∧ nak = true then t.sendNak p else t)) ∧
        (r.uncorr = true → r.header = false ∨ 2 ≤ r.type ∧ s.expects p r.fields = false →
          let t := s.count (R.CHN_PT_UNCORR_CNT_count p)
          let u := if r.header then t.rxHeader p r.fields else t.count (R.CHN_PT_HDRERR_CNT_count p)
          let copy := !r.header || r.fields.lseq.toNat == u.get (R.CHN_PT_SEQ_rx_expected p)
          let w := u.setPt p { u.pt p with badCopies := (s.pt p).badCopies + b2n copy }
          ((s.pt p).failed ≠ none ∨ 4 ≤ (s.pt p).badCopies ∧ r.header = false → refuses (u.recover p)) ∧
          ((s.pt p).failed = none → (s.pt p).badCopies < 4 ∨ r.header = true →
            refuses (if nak then w.sendNak p else w))))) ∧
    (s.ptActive p = true →
      exec (.idle p f) s = .next (s.rxHeader p f) ∧
      exec (.idleSend p) s = .next (s.txFlit p { type := 0, src := s.addr }) ∧
      exec (.nak p ⟨f, false⟩) s = .next (settle ((s.rxHeader p f).resend p
        (fromSeq (fieldAt f.payload 0 2) ((s.rxHeader p f).pt p).unacked))) ∧
      exec (.nak p ⟨f, true⟩) s = .next (settle ((s.rxHeader p f).resend p ((s.rxHeader p f).pt p).unacked)) ∧
      exec (.replayTimeout p) s = .next (settle (s.resend p (s.pt p).unacked))) ∧
    (∀ data parity : List Byte,
      let r := rxFlit (data ++ parity)
      let bad := r.header = true ∧ 2 ≤ r.type ∧ (flitClass r.type = none ∨ r.shape = false ∨
        r.fields.bcast = true ∧ r.type ∉ [0x02, 0x03, 0x11] ∨ r.fields.bcast = false ∧ r.type ∈ [0x02, 0x03])
      (bad → s.expects p r.fields = true → exec (.flitMalformed p data parity) s =
        .next (settle ((s.acceptAs p (flitClass r.type) r.fields).ptRaise p 6))) ∧
      (¬ bad ∨ s.expects p r.fields = false → exec (.flitMalformed p data parity) s = .next (settle s))) ∧
    (∀ ty : Byte,
      let mine := s.assigned = true ∧ f.dst.toNat = s.addr
      (s.expects p f = false ∨ f.bcast = true ∨ flitLocal ty.toNat = true ∨ flitClass ty.toNat = none ∨ mine →
        exec (.flitForward p ty f) s = .next (settle s)) ∧
      (s.expects p f = true → flitLocal ty.toNat = false → flitClass ty.toNat ≠ none → f.bcast = false → ¬ mine →
        (∀ q, s.routeTo f.dst.toNat = some q → q ≠ p → f.hops.toNat < 1023 → exec (.flitForward p ty f) s =
          .next (settle ((s.acceptAs p none f).sendOn q
            { type := ty.toNat, dst := f.dst.toNat, src := f.src.toNat, hops := f.hops.toNat + 1,
              poison := f.poisoned, payload := f.payload, holds := some p }))) ∧
        (s.routeTo f.dst.toNat = none ∨ s.routeTo f.dst.toNat = some p.val ∨ 1023 ≤ f.hops.toNat →
          let a := s.acceptAs p (flitClass ty.toNat) f
          exec (.flitForward p ty f) s = .next (settle ((if flitClass ty.toNat = some .req then
            a.noRoute f.src.toNat ty.toNat 0 f.payload else a).ptRaise p 8)))))

/-- ANNOUNCE and LINK_LOSS set and clear map entries, and a failing lane is swapped for the spare by both sides. A
broadcast ANNOUNCE is relayed and sets, or with assigned = 0 clears, the map entry of its address; from a neighbour it
also gives the neighbour's position. LINK_LOSS is relayed and clears the entries beyond the lost port. A receive lane
with corrections at the threshold or a lost block lock sets lane_swap and asks the peer for the spare once; without a
spare the port recovers, or remembers the failed lane. LANE_SWAP remembers the pair of lanes; completion puts the
spare in the failing lane's place and retires the lane with a journal entry. A flit that is not expected does nothing.
Completes: ANNOUNCE, LINK_LOSS, LANE_SWAP, LANE_SWAP_TRIGGER, LANE_SWAP_COMPLETE. -/
def Obligations.MapsAndLanesFollow : Prop :=
  ∀ (s : State) (p : Fin 2) (f : FlitIn),
    (s.expects p f = true → f.bcast = true →
      let a := (s.accept p .lc f).relay p 0x02 f
      let w := fieldAt f.payload 0 2
      let k := w % 1024
      let pos := fieldAt f.payload 2 2 % 1024
      let u := if w.testBit 15 then
          ((a.put (R.CHN_MAP_position k) pos).put (R.CHN_MAP_valid k) 1).put (R.CHN_MAP_port k) p
        else a.mapErase k
      (f.hops ≠ 0 → exec (.announce p f) s = .next (settle u)) ∧
      (f.hops ≠ 0 → w / 2 ^ 15 = 1 → ∃ t, exec (.announce p f) s = .next (settle t) ∧
        Only a t [R.CHN_MAP_position k, R.CHN_MAP_valid k, R.CHN_MAP_port k] ∧ t.get (R.CHN_MAP_valid k) = 1 ∧
        t.get (R.CHN_MAP_position k) = pos ∧ t.get (R.CHN_MAP_port k) = p) ∧
      (f.hops = 0 →
        let v := (((u.put (R.CHN_PT_PEER_addr p) k).flag (R.CHN_PT_PEER_assigned p) (w.testBit 15)).put
          (R.CHN_PT_PEER_position p) pos).put (R.CHN_PT_PEER_valid p) 1
        exec (.announce p f) s = .next (settle (if p = 0 then v.reposition else v))) ∧
      exec (.linkLoss p f) s = .next (settle (((s.accept p .lc f).relay p 0x03 f).mapLoss
        (fieldAt f.payload 2 2 % 1024) (fieldAt f.payload 4 1 % 2)))) ∧
    (s.expects p f = false ∨ f.bcast = false → exec (.announce p f) s = .next (settle s) ∧
      exec (.linkLoss p f) s = .next (settle s)) ∧
    (s.expects p f = true → f.bcast = false → ∀ a, a = s.accept p .lc f →
      exec (.laneSwap p f) s = .next (settle (a.setPt p
        { a.pt p with txSwap := some (fieldAt f.payload 0 1 % 4, fieldAt f.payload 1 1 % 4) }))) ∧
    (s.expects p f = false ∨ f.bcast = true → exec (.laneSwap p f) s = .next (settle s)) ∧
    (∀ (k : Fin 3) (n : BitVec 24) lock,
      let mine := s.get (R.CHN_PT_STATUS_rx0 p) = k ∨ s.get (R.CHN_PT_STATUS_rx1 p) = k
      let thr := s.get R.CHN_PT_SPARE_THR_thr
      (s.ptActive p = false ∨ ¬ mine → exec (.laneSwapTrigger p k n lock) s = .next (settle s)) ∧
      (s.ptActive p = true → mine →
        (lock = false → thr = 0 ∨ n.toNat < thr → ∃ t, exec (.laneSwapTrigger p k n lock) s = .next (settle t) ∧
          Only s t [R.CHN_PT_LANE_CORR_count p k] ∧
          t.get (R.CHN_PT_LANE_CORR_count p k) = s.plus (R.CHN_PT_LANE_CORR_count p k) n.toNat) ∧
        (lock = true ∨ thr ≠ 0 ∧ thr ≤ n.toNat → ∀ t, t = (s.count (R.CHN_PT_LANE_CORR_count p k) n.toNat).ptRaise p 2 k →
          (s.on (R.CHN_PT_STATUS_spare_ok p) = true → (s.pt p).swap = none →
            exec (.laneSwapTrigger p k n lock) s = .next (settle
              ((t.setPt p { s.pt p with swap := some (k.val, t.spareLane p) }).sendOn p
                { type := 0x05, src := t.addr, payload := leBytes 1 k ++ leBytes 1 (t.spareLane p) }))) ∧
          (s.on (R.CHN_PT_STATUS_spare_ok p) = true → (s.pt p).swap ≠ none →
            exec (.laneSwapTrigger p k n lock) s = .next (settle t)) ∧
          (s.on (R.CHN_PT_STATUS_spare_ok p) = false → exec (.laneSwapTrigger p k n lock) s = .next (settle
            (if lock then t.recover p else t.setPt p { s.pt p with failed := some k.val })))))) ∧
    (s.ptActive p = true → (s.pt p).txSwap = none → exec (.laneSwapComplete p true) s = .next (settle s)) ∧
    (s.ptActive p = true → (s.pt p).swap = none → exec (.laneSwapComplete p false) s = .next (settle s)) ∧
    (∀ k j, s.ptActive p = true → (s.pt p).txSwap = some (k, j) →
      exec (.laneSwapComplete p true) s = .next (settle
        ((((s.setPt p { s.pt p with txSwap := none }).relane (R.CHN_PT_STATUS_tx0 p) k j).relane
          (R.CHN_PT_STATUS_tx1 p) k j).laneRetired p k jLaneTx))) ∧
    (∀ k j, s.ptActive p = true → (s.pt p).swap = some (k, j) →
      let u := (((s.setPt p { s.pt p with swap := none }).relane (R.CHN_PT_STATUS_rx0 p) k j).relane
        (R.CHN_PT_STATUS_rx1 p) k j).put (R.CHN_PT_STATUS_spare_ok p) 0
      exec (.laneSwapComplete p false) s = .next (settle ((u.put (R.CHN_PT_STATUS_qualified p)
        (clearBits (u.get (R.CHN_PT_STATUS_qualified p)) (2 ^ k))).laneRetired p k jLaneRx))) ∧
    (∀ fld k j, (s.get fld = k → s.relane fld k j = s.put fld j) ∧ (s.get fld ≠ k → s.relane fld k j = s)) ∧
    (s.ptActive p = false → ∀ tx, exec (.laneSwapComplete p tx) s = .next (settle s))

/-- START, DATA, CREDIT, CANCEL, END and RETRY carry a far operation between its originator and its agent. A START
takes the lowest free far slot and begins its operation, which its device may end at once and which a WRITE follows
with credit; it is answered RETRY when none is free, and NO_ROUTE before the unit is out of reset. CANCEL stops the
operation of its tag and instance and frees the slot. DATA adds bytes within the credit given; CREDIT adds to it. END
gives the program its status and detail; RETRY sets far_retry and makes START wait to be sent again, which a resend
does. A flit whose tag and instance name nothing is consumed without effect. Which bytes the agent counts as handed
when it grants credit is the model's choice (log entry 108). Completes: START, PRG_DATA, CANCEL, CREDIT, END, RETRY,
FAR_START_RESEND. -/
def Obligations.FarOperationsExchange : Prop :=
  ∀ s : State,
    (∀ (p : Fin 2) (f : FlitIn), s.arrives p f = false → exec (.start p f) s = .next (settle s) ∧
      exec (.cancel p f) s = .next (settle s) ∧ exec (.prgEnd p f) s = .next (settle s) ∧
      exec (.retry p f) s = .next (settle s) ∧ ∀ rsp, exec (.prgData p rsp f) s = .next (settle s) ∧
      exec (.credit p rsp f) s = .next (settle s)) ∧
    (∀ (p : Fin 2) (f : FlitIn) (a : State), s.arrives p f = true → a = s.accept p .req f →
      let tag := prgTag f.payload
      let inst := prgInst f.payload
      let src := f.src.toNat
      (a.inReset = true → exec (.start p f) s = .next (settle (a.noRoute src 0x20 1 f.payload))) ∧
      (a.inReset = false → (∀ k < 512, tget a.farSlots k ≠ none) →
        exec (.start p f) s = .next (settle (a.prgRsp src tag inst 0x84 []))) ∧
      (∀ k, a.inReset = false → k < 512 → tget a.farSlots k = none → (∀ j < k, tget a.farSlots j ≠ none) →
        let c : Ccw := { opcode := fieldAt f.payload 4 1, func := fieldAt f.payload 5 1, flags := fieldAt f.payload 6 2,
                         dev := fieldAt f.payload 8 4, count := fieldAt f.payload 12 4, param := fieldAt f.payload 16 4 }
        let x : FarSlot := { origin := src, tag := tag, inst := inst, credit := fieldAt f.payload 20 4 }
        let u := (State.openOp { a with farSlots := tset a.farSlots k x } (farAgent k) { first := c, segs := [{ ccw := c, room := c.count }], lastFlags := c.flags })
        (∀ v : State, (u.startFault c = none → v = u) →
          (∀ st d, u.startFault c = some (st, d) → v = u.endOp (farAgent k) st d) →
          (c.opcode ≠ ocWrite → exec (.start p f) s = .next (settle v)) ∧
          (c.opcode = ocWrite → exec (.start p f) s = .next (settle (v.grantWrite k))))) ∧
      (a.slotOf src tag inst = none → exec (.cancel p f) s = .next (settle a) ∧
        exec (.prgData p false f) s = .next (settle a) ∧ exec (.credit p false f) s = .next (settle a)) ∧
      (∀ k, a.slotOf src tag inst = some k →
        (let u := a.stopOp (farAgent k)
         exec (.cancel p f) s =
          .next (settle { u with ops := tdel u.ops (farAgent k), farSlots := tdel u.farSlots k })) ∧
        (a.op (farAgent k) = none → exec (.prgData p false f) s = .next (settle a)) ∧
        (tget a.farSlots k = none → exec (.credit p false f) s = .next (settle a)) ∧
        (∀ o, a.op (farAgent k) = some o →
          let d := (f.payload.drop 4).take o.credit
          exec (.prgData p false f) s = .next (settle (a.setOp (farAgent k)
            { o with buf := o.buf ++ d.map (·, f.poisoned), got := o.got + d.length, credit := o.credit - d.length,
                     poisoned := o.poisoned || f.poisoned }))) ∧
        (∀ x, tget a.farSlots k = some x → exec (.credit p false f) s = .next (settle (State.pumpSlot
          { a with farSlots := tset a.farSlots k { x with credit := x.credit + fieldAt f.payload 4 4 } } k))))) ∧
    (∀ (p : Fin 2) (f : FlitIn) (a : State), s.arrives p f = true → a = s.accept p .rsp f →
      (a.originOf f.payload = none → exec (.prgEnd p f) s = .next (settle a) ∧
        exec (.retry p f) s = .next (settle a) ∧ exec (.prgData p true f) s = .next (settle a) ∧
        exec (.credit p true f) s = .next (settle a)) ∧
      (∀ tag o, a.originOf f.payload = some tag → a.op tag = some o →
        exec (.credit p true f) s = .next (settle (a.setOp tag { o with credit := o.credit + fieldAt f.payload 4 4 })) ∧
        (let d := (f.payload.drop 4).take o.credit
         exec (.prgData p true f) s = .next (settle (((a.setOp tag { o with credit := o.credit - d.length }).deliver tag
          d f.poisoned).renewCredit tag))) ∧
        exec (.retry p f) s = .next (settle ((a.setOp tag { o with sent := false, busy := true }).raise
          R.CHE_EVT_cause 4 (R.CHE_EVT_CNT_count 4))) ∧
        (let u := (a.useOp tag (zeros (o.room - fieldAt f.payload 8 3))).1
         (u.op tag = none → exec (.prgEnd p f) s =
          .next (settle (u.endOp tag (fieldAt f.payload 4 1) (fieldAt f.payload 5 1)))) ∧
         ∀ q, u.op tag = some q → exec (.prgEnd p f) s = .next (settle ((u.setOp tag
          { q with poisoned := q.poisoned || (fieldAt f.payload 6 1).testBit 0,
                   gap := q.gap || (fieldAt f.payload 6 1).testBit 1,
                   truncated := q.truncated || (fieldAt f.payload 6 1).testBit 4,
                   frames := fieldAt f.payload 11 1, handedLast := true }).endOp
          tag (fieldAt f.payload 4 1) (fieldAt f.payload 5 1)))))) ∧
    (∀ (tag : Fin 2048) o, s.op tag = some o →
      (o.busy = true → o.sent = false → o.ended = none → exec (.farStartResend tag) s =
        .next (settle ((s.setOp tag { o with busy := false }).farStart tag))) ∧
      (o.busy = false ∨ o.sent = true ∨ o.ended ≠ none → exec (.farStartResend tag) s = .next (settle s))) ∧
    (∀ tag : Fin 2048, s.op tag = none → exec (.farStartResend tag) s = .next (settle s))

/-- A LIN port runs its schedule, answers headers, ends responses with their events, and sleeps and wakes.
RUN_SCHEDULE on a valid table starts it, or waits for the slot's end; it fails with 0x21 on a responder and 0x22 on an
invalid table. STOP_SCHEDULE and GOTO_SLEEP wait for the slot; a wake-up pulse is driven and ends. What waits takes
effect when the next slot starts: a new schedule, the next slot of the running one, a table that a collision
interrupted, or the end of the passes. Then the slot sends the sleep command, an own frame, or the schedule's header.
A responder takes a header within 15 % and counts one outside. A response sent leaves with its frame; one of another
node is stored, counted, offered to the gateway, and a collision runs its table. A response that does not come, a bit
error, and a dominant level on a sleeping port have the effects and causes that the spec gives. A detached LIN_RX or
LIN_TX sees and sends nothing. While registers answer, PORT_ENABLE sets en at a rate of 1,000 to 20,000 bit/s and else
cfg_refused, and PORT_DISABLE ends what runs. That a CONTROL replaced while it waits ends with the slot is the model's
choice (log entry 136). Completes: RUN_SCHEDULE, STOP_SCHEDULE, WAKEUP, GOTO_SLEEP, WAKEUP_PULSE_END, LIN_SLOT_START,
LIN_HEADER_RECEIVE, LIN_RESPONSE_END, LIN_RESPONSE_TIMEOUT, LIN_BIT_ERROR, LIN_WAKEUP_DETECT, and PORT_ENABLE and
PORT_DISABLE of a LIN port. -/
def Obligations.LinFollowsItsSchedule : Prop :=
  ∀ s : State,
    (∀ (a : Fin 2560) (m : Nat) (x : LinPort), x = s.lin m →
      (Issued s a clsLin 0x10 m → ∀ o, s.op a = some o →
        let t := devSub o.first.dev
        let n := o.first.param % 256
        let r : LinRun := { table := t, slot := s.get (R.LIN_TBL_first m t), passes := if n = 0 then none else some n,
                            token := some (o.token a) }
        (s.linResponder m = true → exec (.runSchedule a) s = .next (s.endOp a stDeviceError 0x21)) ∧
        (s.linResponder m = false → s.linTableOk m t = false →
          exec (.runSchedule a) s = .next (s.endOp a stDeviceError 0x22)) ∧
        (s.linResponder m = false → s.linTableOk m t = true →
          (x.run = none → exec (.runSchedule a) s = .next (s.setLin m { x with run := some r, asleep := false })) ∧
          (x.run ≠ none → exec (.runSchedule a) s =
            .next (s.setLin m { x with next := some (some r, x.replaced), asleep := false })))) ∧
      (Issued s a clsLin 0x11 m →
        (s.linResponder m = true → exec (.stopSchedule a) s = .next (s.endOp a stDeviceError 0x21)) ∧
        (s.linResponder m = false → x.run = none → exec (.stopSchedule a) s = .next (s.endOp a stSuccess 0)) ∧
        (s.linResponder m = false → x.run ≠ none → exec (.stopSchedule a) s =
          .next (s.setLin m { x with next := some (none, x.replaced ++ [s.tokenOf a]) }))) ∧
      (Issued s a clsLin 0x12 m →
        let u := s.setLin m { x with waking := some (s.tokenOf a) }
        (s.attached ⟨.lin, m, 0⟩ = true → exec (.wakeup a) s = .next
          (u.emit (.line clsLin m 1 (s.get (R.LIN_CFG_wake_len m) + 1)))) ∧
        (s.attached ⟨.lin, m, 0⟩ = false → exec (.wakeup a) s = .next u)) ∧
      (Issued s a clsLin 0x13 m →
        (s.linResponder m = true → exec (.gotoSleep a) s = .next (s.endOp a stDeviceError 0x21)) ∧
        (s.linResponder m = false →
          exec (.gotoSleep a) s = .next (s.setLin m { x with sleep := some (s.tokenOf a) })))) ∧
    (∀ a : Fin 2560, (s.issuedOn a clsLin 0x10 = none → exec (.runSchedule a) s = .next s) ∧
      (s.issuedOn a clsLin 0x11 = none → exec (.stopSchedule a) s = .next s) ∧
      (s.issuedOn a clsLin 0x12 = none → exec (.wakeup a) s = .next s) ∧
      (s.issuedOn a clsLin 0x13 = none → exec (.gotoSleep a) s = .next s)) ∧
    (s.answers = true → ∀ (m : Fin 8) (mid : BitVec 4) (v : W32),
      (let u := s.writeOthers mid.toNat (setBit v.toNat 0) (R.LIN_CFG_en m)
       let rate := u.get (R.LIN_BAUD_rate m)
       (u.on (R.LIN_CFG_en m) = true → exec (.portEnable (.lin m) mid v) s = .next (settle u)) ∧
       (u.on (R.LIN_CFG_en m) = false → rate < 1000 ∨ 20000 < rate →
         exec (.portEnable (.lin m) mid v) s = .next (settle (u.linRaise m 7))) ∧
       (u.on (R.LIN_CFG_en m) = false → 1000 ≤ rate → rate ≤ 20000 →
         exec (.portEnable (.lin m) mid v) s = .next (settle (u.put (R.LIN_CFG_en m) 1)))) ∧
      (let u := s.writeOthers mid.toNat (clearBits v.toNat 1) (R.LIN_CFG_en m)
       (u.on (R.LIN_CFG_en m) = false → exec (.portDisable (.lin m) mid v) s = .next (settle u)) ∧
       (u.on (R.LIN_CFG_en m) = true →
         let w := (u.put (R.LIN_CFG_en m) 0).portOff clsLin m stBadDevice 0x03
         exec (.portDisable (.lin m) mid v) s = .next (settle (w.setLin m { w.lin m with asleep := false }))))) ∧
    (∀ (m : Fin 8) (x : LinPort), x = s.lin m →
      (x.waking = none → exec (.wakeupPulseEnd m) s = .next s) ∧
      (∀ g, x.waking = some g →
        exec (.wakeupPulseEnd m) s = .next ((s.setLin m { x with waking := none }).endToken g stSuccess 0)) ∧
      (s.portRuns clsLin m = false ∨ s.linResponder m = true → exec (.linSlotStart m) s = .next (settle s)) ∧
      (s.portRuns clsLin m = true → s.linResponder m = false →
        let u := s.setLin m { x with hdr := none }
        (∀ r ends, x.next = some (r, ends) → LinSlotFrom s (ends.foldl (fun t g => t.endToken g stSuccess 0)
          (u.setLin m { x with hdr := none, run := r, back := [], next := none })) m) ∧
        (x.next = none → x.run = none → LinSlotFrom s u m) ∧
        (∀ r, x.next = none → x.run = some r →
          (r.fresh = true → LinSlotFrom s u m) ∧
          (r.fresh = false →
            (∀ q, s.linStep m r = some q →
              LinSlotFrom s (u.setLin m { x with hdr := none, run := some { q with fresh := true } }) m) ∧
            (s.linStep m r = none → x.back = [] →
              LinSlotFrom s ((u.setLin m { x with hdr := none, run := none }).linRaise m 6) m) ∧
            (∀ b rest, s.linStep m r = none → x.back = b :: rest → LinSlotFrom s (u.setLin m
              { x with hdr := none, run := some { b with fresh := true }, back := rest }) m)))) ∧
      (∀ (id : BitVec 6) (bit : BitVec 32) (time : BitVec 48),
        (s.attached ⟨.lin, m, 1⟩ = false ∨ s.portRuns clsLin m = false ∨ s.linResponder m = false →
          exec (.linHeaderReceive m id bit time) s = .next (settle s)) ∧
        (s.attached ⟨.lin, m, 1⟩ = true → s.portRuns clsLin m = true → s.linResponder m = true →
          (s.linInRange m bit.toNat = false →
            exec (.linHeaderReceive m id bit time) s = .next (settle (s.linRaise m 5))) ∧
          (s.linInRange m bit.toNat = true →
            let h : LinHdr := { id := id.toNat, type := if id.toNat = 0x3C ∨ id.toNat = 0x3D then 2 else 0, time := time.toNat,
                                enhanced := s.on (R.LIN_RSP_enhanced m id.toNat),
                                record := s.get (R.LIN_RSP_action m id.toNat) == 1 }
            (s.linSource m id.toNat false = none → exec (.linHeaderReceive m id bit time) s =
              .next (settle (s.setLin m { x with hdr := some h }))) ∧
            (∀ src bs, s.linSource m id.toNat false = some (src, bs) → exec (.linHeaderReceive m id bit time) s =
              .next (settle (s.setLin m { x with hdr := some { h with src := src, bytes := bs, record := false } })))))) ∧
      (x.hdr = none → exec (.linResponseTimeout m) s = .next (settle s) ∧
        exec (.linBitError m) s = .next (settle s) ∧ ∀ p, exec (.linResponseEnd m p) s = .next (settle s)) ∧
      (∀ h, x.hdr = some h →
        (∀ p : LinResp,
          let ends (t : State) : Prop := exec (.linResponseEnd m p) s = .next (settle t)
          (h.src = .bus → s.attached ⟨.lin, m, 1⟩ = false → ends s) ∧
          (h.src ≠ .bus → s.attached ⟨.lin, m, 0⟩ = false ∨ s.attached ⟨.lin, m, 1⟩ = false → ends s) ∧
          (h.src = .bus → s.attached ⟨.lin, m, 1⟩ = true →
            let coll := h.ctable.isSome && (p.checksum || p.framing)
            let u := s.setLin m { x with hdr := none, rx := sat1 x.rx, checksum := if p.checksum then sat1 x.checksum else x.checksum }
            let u := if coll then u.linRaise m 3 else if p.checksum then u.linRaise m 1 else u
            let record (rstat : Nat) := mkRecord p.data.length rstat h.kind h.id h.time h.id 0 p.data
            let u := if h.record then u.store clsLin m 0 (record
              (16 * b2n p.checksum + 32 * b2n p.framing + 64 * b2n p.incomplete + 128 * b2n coll)) else u
            let u := if p.checksum || p.framing || p.incomplete then u else u.gwOffer (gwCode clsLin m) (record 0)
            (coll = false → ends u) ∧ (∀ t, h.ctable = some t → coll = true → ends (u.linCollide m t))) ∧
          (s.attached ⟨.lin, m, 0⟩ = true → s.attached ⟨.lin, m, 1⟩ = true →
            let y := { x with hdr := none, sent := sat1 x.sent, lastData := if s.linResponder m then x.lastData else tset x.lastData h.id h.bytes }
            let u := s.emit (.frame clsLin m h.bytes)
            (h.src = .again → ends (u.setLin m y)) ∧
            (h.src = .gateway → ends (u.setLin m { y with gw := tdel x.gw h.id })) ∧
            (∀ token, h.src = .program token →
              ends (((u.setLin m { y with pend := tdel x.pend h.id }).frameLeft token).linLoad m)) ∧
            (∀ g, h.src = .sleep g →
              let t := (u.setLin m { y with lastData := x.lastData }).linSlept m g
              (x.woken = false → ends t) ∧ (x.woken = true → ends (t.linWake m))))) ∧
        (h.src ≠ .bus → exec (.linResponseTimeout m) s = .next (settle s)) ∧
        (h.src = .bus → h.record = false →
          exec (.linResponseTimeout m) s = .next (settle (s.setLin m { x with hdr := none }))) ∧
        (h.src = .bus → h.record = true → exec (.linResponseTimeout m) s = .next (settle
          ((((s.setLin m { x with hdr := none }).setLin m { x with hdr := none, noResponse := sat1 x.noResponse }).linRaise
            m 2).store clsLin m 0 (mkRecord 0 8 h.kind h.id h.time h.id 0 [])))) ∧
        (let y := { x with hdr := none, bitErr := sat1 x.bitErr }
         let u := s.linRaise m 0
         let errs (t : State) : Prop := exec (.linBitError m) s = .next (settle t)
         (h.src = .bus → s.linResponder m = true → errs s) ∧
         (h.src = .bus → s.linResponder m = false → errs (u.setLin m y)) ∧
         (h.src = .again → errs (u.setLin m y)) ∧
         (h.src = .gateway → errs (u.setLin m { y with gw := tdel x.gw h.id })) ∧
         (∀ token, h.src = .program token →
           errs (((u.setLin m { y with pend := tdel x.pend h.id }).frameFailed token 0x20).linLoad m)) ∧
         (∀ g, h.src = .sleep g →
           errs ((u.setLin m { y with sleep := none, woken := false }).endToken g stDeviceError 0x20)))) ∧
      (let wakes (t : State) : Prop := exec (.linWakeupDetect m) s = .next (settle t)
       (s.portRuns clsLin m = false ∨ s.attached ⟨.lin, m, 1⟩ = false → wakes s) ∧
       (s.portRuns clsLin m = true → s.attached ⟨.lin, m, 1⟩ = true →
         (x.asleep = true → s.linResponder m = true →
           wakes (((s.setLin m { x with asleep := false }).linRaise m 4).portEvent clsLin m 0x03 (fun _ => true))) ∧
         (x.asleep = true → s.linResponder m = false →
           wakes ((s.linRaise m 4).portEvent clsLin m 0x03 (fun _ => true))) ∧
         (x.asleep = false → x.sleep ≠ none → wakes (s.setLin m { x with woken := true })) ∧
         (x.asleep = false → x.sleep = none → wakes s))))

/-- UART, SENT and card ports take characters and frames, send, time out, and carry out their CONTROL functions. SENT
decoding turns on and off; a frame out of tolerance clears sync, a bad pause pulse marks the next record, and an
accepted frame is stored with its errors; a nibble out of range is a free value (log entry 65). A UART character
begins at the first low sample after a high one, or once re-armed at any low one; each bit is the majority of ticks 7,
8 and 9: a start bit of ones is noise, all bits zero with the stop bit a break, else a byte with its errors; a K-line
echo that differs stops the sending. An idle time closes the chunk; a sent character starts the next; CTS_N stops and
lets go; BREAK and FAST_INIT drive a pulse until it ends; FLUSH_RX empties the queue. A card is activated, reset and
deactivated by its state, answers or times out, repeats a refused character, and its presence changes its state. A
detached land takes and sends nothing. While registers answer, PORT_ENABLE sets en, or cfg_refused against the port's
rules, and PORT_DISABLE ends what runs. Completes: SENT_START, SENT_STOP, BREAK, FAST_INIT, FLUSH_RX,
SENT_FRAME_RECEIVE, UART_CHARACTER_RECEIVE, UART_IDLE_TIMEOUT, UART_CHARACTER_SENT, CTS_CHANGE, BREAK_END,
FAST_INIT_END, ACTIVATE, CARD_WARM_RESET, DEACTIVATE, CARD_ATR_RECEIVE, ATR_TIMEOUT, CARD_CHARACTER_RECEIVE,
CARD_CHARACTER_SENT, CARD_WAITING_TIME_EXPIRY, CARD_PRESENCE_CHANGE, and PORT_ENABLE and PORT_DISABLE of these ports.
-/
def Obligations.SerialSentAndCardPortsAct : Prop :=
  ∀ s : State,
    (∀ (a : Fin 2560) (m : Nat),
      (∀ on : Bool, Issued s a clsSent (if on then 0x20 else 0x21) m →
        exec (if on then .sentStart a else .sentStop a) s =
          .next ((s.setSent m { s.sent m with decoding := on, serial := [] }).endOp a stSuccess 0)) ∧
      (Issued s a clsSer 0x30 m →
        let u := s.setBp clsSer m { s.bp clsSer m with breaking := some (s.tokenOf a) }
        (s.attached ⟨.ser, m, 0⟩ = true → exec (.breakTx a) s =
          .next (u.emit (.line clsSer m 0 (s.get (R.SER_RXCHUNK_break_len m))))) ∧
        (s.attached ⟨.ser, m, 0⟩ = false → exec (.breakTx a) s = .next u)) ∧
      (Issued s a clsSer 0x31 m →
        let u := s.setBp clsSer m { s.bp clsSer m with fastInit := some (s.tokenOf a) }
        (s.attached ⟨.ser, m, 0⟩ = true → exec (.fastInit a) s =
          .next (u.emit (.line clsSer m 1 (s.get (R.SER_KLINE_tinil m) + 256 * s.get (R.SER_KLINE_tinih m))))) ∧
        (s.attached ⟨.ser, m, 0⟩ = false → exec (.fastInit a) s = .next u)) ∧
      (Issued s a clsSer 0x32 m →
        let q := rxQueue clsSer m 0
        let u := (s.wq q).pkts.foldl (fun t _ => t.qDropPkt q) s
        exec (.flushRx a) s =
          .next (settle ((u.setBp clsSer m { u.bp clsSer m with rest := none }).endOp a stSuccess 0)))) ∧
    (∀ a : Fin 2560, (s.issuedOn a clsSent 0x20 = none → exec (.sentStart a) s = .next s) ∧
      (s.issuedOn a clsSent 0x21 = none → exec (.sentStop a) s = .next s) ∧
      (s.issuedOn a clsSer 0x30 = none → exec (.breakTx a) s = .next s) ∧
      (s.issuedOn a clsSer 0x31 = none → exec (.fastInit a) s = .next s) ∧
      (s.issuedOn a clsSer 0x32 = none → exec (.flushRx a) s = .next (settle s))) ∧
    (s.answers = true → ∀ (m : Nat) (mid : BitVec 4) (v : W32),
      (∀ k : Fin 4, k.val = m →
        (let u := s.writeOthers mid.toNat (setBit v.toNat 0) (R.SENT_CFG_en m)
         let bad := u.get (R.SENT_CFG_tick m) < 24 ∨ 720 < u.get (R.SENT_CFG_tick m) ∨ u.get (R.SENT_CFG_nibbles m) < 1 ∨
           6 < u.get (R.SENT_CFG_nibbles m)
         let done (t : State) : Prop := exec (.portEnable (.sent k) mid v) s = .next (settle t)
         (u.on (R.SENT_CFG_en m) = true → done u) ∧
         (u.on (R.SENT_CFG_en m) = false → bad → done (u.sentRaise m 5)) ∧
         (u.on (R.SENT_CFG_en m) = false → ¬ bad → done (u.put (R.SENT_CFG_en m) 1))) ∧
        (let u := s.writeOthers mid.toNat (clearBits v.toNat 1) (R.SENT_CFG_en m)
         let w := (u.put (R.SENT_CFG_en m) 0).portOff clsSent m stBadDevice 0x03
         (u.on (R.SENT_CFG_en m) = false → exec (.portDisable (.sent k) mid v) s = .next (settle u)) ∧
         (u.on (R.SENT_CFG_en m) = true → exec (.portDisable (.sent k) mid v) s =
           .next (settle ((w.setSent m { w.sent m with serial := [] }).put (R.SENT_STATUS_sync m) 0)))) ∧
        (let u := s.writeOthers mid.toNat (setBit v.toNat 0) (R.SER_CFG_en m)
         let done (t : State) : Prop := exec (.portEnable (.ser k) mid v) s = .next (settle t)
         (u.on (R.SER_CFG_en m) = true → done u) ∧
         (u.on (R.SER_CFG_en m) = false → u.get (R.SER_BAUD_div m) = 0 → done (u.serRaise m 5)) ∧
         (u.on (R.SER_CFG_en m) = false → u.get (R.SER_BAUD_div m) ≠ 0 → done (u.put (R.SER_CFG_en m) 1))) ∧
        (let u := s.writeOthers mid.toNat (clearBits v.toNat 1) (R.SER_CFG_en m)
         (u.on (R.SER_CFG_en m) = false → exec (.portDisable (.ser k) mid v) s = .next (settle u)) ∧
         (u.on (R.SER_CFG_en m) = true → exec (.portDisable (.ser k) mid v) s =
           .next (settle ((u.put (R.SER_CFG_en m) 0).portOff clsSer m stBadDevice 0x03))))) ∧
      (∀ k : Fin 2, k.val = m →
        (let u := s.writeOthers mid.toNat (setBit v.toNat 0) (R.CARD_CFG_en m)
         let done (t : State) : Prop := exec (.portEnable (.card k) mid v) s = .next (settle t)
         (u.on (R.CARD_CFG_en m) = true → done u) ∧ (u.on (R.CARD_CFG_en m) = false → done (u.put (R.CARD_CFG_en m) 1))) ∧
        (let u := s.writeOthers mid.toNat (clearBits v.toNat 1) (R.CARD_CFG_en m)
         let w := (u.put (R.CARD_CFG_en m) 0).portOff clsCard m stBadDevice 0x03
         let done (t : State) : Prop := exec (.portDisable (.card k) mid v) s = .next (settle t)
         (u.on (R.CARD_CFG_en m) = false → done u) ∧
         (u.on (R.CARD_CFG_en m) = true → 2 ≤ w.get (R.CARD_STATUS_state m) → done (w.cardOff m)) ∧
         (u.on (R.CARD_CFG_en m) = true → w.get (R.CARD_STATUS_state m) < 2 → done w)))) ∧
    (∀ (m : Fin 4) (f : SentFrame) time,
      let takes (t : State) : Prop := exec (.sentFrameReceive m f time) s = .next (settle t)
      let n := s.get (R.SENT_CFG_nibbles m)
      let badPause := s.on (R.SENT_CFG_pause m) = true ∧ (f.pause.toNat < 12 ∨ 768 < f.pause.toNat)
      (s.portRuns clsSent m = false ∨ (s.sent m).decoding = false ∨ s.attached ⟨.sent, m, 0⟩ = false → takes s) ∧
      (s.portRuns clsSent m = true → (s.sent m).decoding = true → s.attached ⟨.sent, m, 0⟩ = true →
        (apart f.tick.toNat (125 * s.get (R.SENT_CFG_tick m)) 4 = true → takes (s.put (R.SENT_STATUS_sync m) 0)) ∧
        (apart f.tick.toNat (125 * s.get (R.SENT_CFG_tick m)) 4 = false →
          (f.nibbles.length ≠ n → takes s) ∧
          (f.nibbles.length = n → badPause → takes ((s.setSent m { s.sent m with pauseErr := true }).sentRaise m 3)) ∧
          (f.nibbles.length = n → ¬ badPause →
            let dev := s.on (R.SENT_STATUS_sync m) && apart f.tick.toNat (s.get (R.SENT_STATUS_tick_ns m)) 64
            let range := !nibbleOk f.status || f.nibbles.any (fun l => !nibbleOk l)
            let g := s.nibble f.status
            let h := g.1.nibbles f.nibbles
            let x := h.1.sent m
            let y := { x with pauseErr := false, lastNibble := g.2, fast := sat1 x.fast, crcErr := if f.crcBad then sat1 x.crcErr else x.crcErr, syncDev := if dev then sat1 x.syncDev else x.syncDev }
            let u := ((h.1.setSent m y).put (R.SENT_STATUS_sync m) 1).put (R.SENT_STATUS_tick_ns m) f.tick.toNat
            let u := if f.crcBad then u.sentRaise m 0 else u
            let u := if range then u.sentRaise m 1 else u
            let u := if dev then u.sentRaise m 2 else u
            takes ((u.store clsSent m 0 (mkRecord h.2.length
              (16 * b2n f.crcBad + 32 * b2n range + 64 * b2n dev + 128 * b2n x.pauseErr) 0 0 time.toNat 0 g.2
              (h.2.map fun v => BitVec.ofNat 8 v))).sentSerial m g.2 f.slowBad time.toNat (128 * b2n x.pauseErr)))))) ∧
    (∀ (m : Fin 4) (c : UartChar) (time : BitVec 48) (x : BytePort), x = s.bp clsSer m →
      let takes (t : State) : Prop := exec (.uartCharacterReceive m c time) s = .next (settle t)
      let run := s.portRuns clsSer m = true ∧ s.attached ⟨.ser, m, 1⟩ = true
      (¬ run → takes s) ∧
      (run → uartTick0 x.rearmed x.line c.ticks = none →
        takes (s.setBp clsSer m { x with line := c.ticks.getLastD x.line })) ∧
      (∀ t, run → uartTick0 x.rearmed x.line c.ticks = some t →
        let d := s.serData m
        let p := s.serParity m
        let last := d + p + s.serStops m
        let data := (List.range d).map fun j => uartBit t (1 + j)
        let par := if p = 1 then [uartBit t (1 + d)] else []
        let framing := (List.range (s.serStops m)).any fun j => !uartBit t (1 + d + p + j)
        let parity := p == 1 && (data ++ par).countP id % 2 != (if s.get (R.SER_CFG_parity m) = 1 then 0 else 1)
        let zero := (data ++ par).all (!·)
        let brk := framing && zero && !t.getD (16 * last + 15) true
        (uartBit t 0 = true →
          takes (((s.setBp clsSer m { x with noise := sat1 x.noise }).serRaise m 3).uartStands m false (t.getD 9 true))) ∧
        (uartBit t 0 = false → brk = true →
          let u := s.setBp clsSer m { x with breaks := sat1 x.breaks }
          let u := if x.chunk.isEmpty then u else u.chunkClose clsSer m 0
          let u := u.setBp clsSer m { u.bp clsSer m with chunkTime := time.toNat }
          takes ((((u.serRaise m 2).chunkClose clsSer m (chunkRstat false false true)).portEvent clsSer m 0x04
            (fun _ => true)).uartStands m false false)) ∧
        (uartBit t 0 = false → brk = false →
          let b : Byte := BitVec.ofNat 8 (lsbVal data)
          let u := s.setBp clsSer m { x with framing := if framing then sat1 x.framing else x.framing, parity := if parity then sat1 x.parity else x.parity }
          let u := if framing then u.serRaise m 0 else u
          let u := if parity then u.serRaise m 1 else u
          let check := u.on (R.SER_CFG_kline m) && u.on (R.SER_CFG_echo_check m)
          let rstat := chunkRstat framing parity false
          let stand (t' : State) := t'.uartStands m (uartBit t last) (t.getD (16 * last + if framing && zero then 15 else 9) true)
          (x.tx = none ∨ check = false → takes (stand (u.chunkByte clsSer m b time.toNat rstat))) ∧
          (∀ w, x.tx = some w → w.started = false → takes (stand (u.chunkByte clsSer m b time.toNat rstat))) ∧
          (∀ w, x.tx = some w → w.started = true → check = true →
            (w.bytes.headD 0 = b → takes (stand u)) ∧
            (w.bytes.headD 0 ≠ b →
              takes (stand (((u.serRaise m 4).byteStop clsSer m 0x33).chunkByte clsSer m b time.toNat rstat))))))) ∧
    (∀ (card : Bool) (m : Fin 4) (n : BitVec 16),
      let cls := if card then clsCard else clsSer
      let due := s.chunkIdle cls m ≤ n.toNat ∧ (s.bp cls m).chunk ≠ []
      let marks (t : State) := (t.agentsWith cls m fun c => c.opcode == ocRead && c.func == 0x01 && c.param % 65536 ≤ n.toNat).foldl
        (fun t a => t.updOp a fun o => { o with event := true }) t
      (card = true ∧ 2 ≤ m.val ∨ s.portRuns cls m = false → exec (.uartIdleTimeout card m n) s = .next (settle s)) ∧
      (card = false ∨ m.val < 2 → s.portRuns cls m = true →
        (due → exec (.uartIdleTimeout card m n) s = .next (settle (marks (s.chunkClose cls m 0)))) ∧
        (¬ due → exec (.uartIdleTimeout card m n) s = .next (settle (marks s))))) ∧
    (∀ (m : Fin 4) (x : BytePort), x = s.bp clsSer m →
      (x.tx = none → exec (.uartCharacterSent m) s = .next (settle s) ∧
        ∀ level, exec (.ctsChange m level) s = .next (s.setBp clsSer m { x with ctsN := level })) ∧
      (∀ t, x.tx = some t →
        (t.started = false → exec (.uartCharacterSent m) s = .next (settle s)) ∧
        (t.started = true →
          let u := s.emitOn ⟨.ser, m, 0⟩ (.frame clsSer m (t.bytes.take 1))
          (t.bytes.drop 1 = [] → exec (.uartCharacterSent m) s = .next (settle
            (((u.setBp clsSer m { x with tx := none, sent := sat1 x.sent }).frameLeft t.token).byteLoad clsSer m))) ∧
          (t.bytes.drop 1 ≠ [] → exec (.uartCharacterSent m) s = .next (settle (u.setBp clsSer m
            { x with sent := sat1 x.sent, tx := some { t with bytes := t.bytes.drop 1, started := u.mayStart clsSer m, tries := 0 } })))) ∧
        (∀ level,
          let u := s.setBp clsSer m { x with ctsN := level }
          (t.started = true ∨ u.mayStart clsSer m = false → exec (.ctsChange m level) s = .next u) ∧
          (t.started = false → u.mayStart clsSer m = true → exec (.ctsChange m level) s =
            .next (u.setBp clsSer m { x with ctsN := level, tx := some { t with started := true } })))) ∧
      (x.breaking = none → exec (.breakEnd m) s = .next s) ∧ (x.fastInit = none → exec (.fastInitEnd m) s = .next s) ∧
      (∀ g, x.breaking = some g → exec (.breakEnd m) s = .next (settle
        (((s.setBp clsSer m { x with breaking := none }).endToken g stSuccess 0).byteLoad clsSer m))) ∧
      (∀ g, x.fastInit = some g → exec (.fastInitEnd m) s = .next (settle
        (((s.setBp clsSer m { x with fastInit := none }).endToken g stSuccess 0).byteLoad clsSer m)))) ∧
    (∀ (a : Fin 2560) (m : Nat),
      let st := s.get (R.CARD_STATUS_state m)
      (Issued s a clsCard 0x40 m →
        (st = 0 → exec (.activate a) s = .next (s.endOp a stDeviceError 0x40)) ∧
        (st = 3 → exec (.activate a) s = .next (s.endOp a stSuccess 0)) ∧
        (st ≠ 0 → st ≠ 3 → exec (.activate a) s = .next (s.cardReset m a 1))) ∧
      (Issued s a clsCard 0x41 m →
        (st = 0 → exec (.cardWarmReset a) s = .next (s.endOp a stDeviceError 0x40)) ∧
        (st = 1 → exec (.cardWarmReset a) s = .next (s.endOp a stDeviceError 0x44)) ∧
        (2 ≤ st → exec (.cardWarmReset a) s = .next (s.cardReset m a 2))) ∧
      (Issued s a clsCard 0x42 m →
        (st = 0 → exec (.deactivate a) s = .next (settle (s.endOp a stDeviceError 0x40))) ∧
        (st ≠ 0 → exec (.deactivate a) s = .next (settle
          (((s.endOps (s.atrWaiters m) stDeviceError 0x44).cardOff m).endOp a stSuccess 0))))) ∧
    (∀ a : Fin 2560, (s.issuedOn a clsCard 0x40 = none → exec (.activate a) s = .next s) ∧
      (s.issuedOn a clsCard 0x41 = none → exec (.cardWarmReset a) s = .next s) ∧
      (s.issuedOn a clsCard 0x42 = none → exec (.deactivate a) s = .next (settle s))) ∧
    (∀ (m : Fin 2) (b : Byte) (time : BitVec 48) (x : BytePort), x = s.bp clsCard m →
      let st := s.get (R.CARD_STATUS_state m)
      let io := s.attached ⟨.card, m, 0⟩
      (∀ inverse, st = 2 → s.portRuns clsCard m = true → io = true →
        let u := (s.put (R.CARD_STATUS_state m) 3).flag (R.CARD_STATUS_inverse m) inverse
        exec (.cardAtrReceive m b inverse time) s = .next (settle
          (((u.endOps (u.atrWaiters m) stSuccess 0).chunkByte clsCard m b time.toNat 0).byteLoad clsCard m))) ∧
      (∀ inverse, st ≠ 2 ∨ s.portRuns clsCard m = false ∨ io = false →
        exec (.cardAtrReceive m b inverse time) s = .next (settle s)) ∧
      (st ≠ 2 → exec (.atrTimeout m) s = .next (settle s)) ∧
      (st = 2 → exec (.atrTimeout m) s = .next (settle
        (((s.endOps (s.atrWaiters m) stDeviceError 0x41).cardOff m).cardRaise m 4))) ∧
      (∀ ok, st ≠ 3 ∨ s.portRuns clsCard m = false ∨ io = false →
        exec (.cardCharacterReceive m b ok time) s = .next (settle s)) ∧
      (st = 3 → s.portRuns clsCard m = true → io = true →
        let u := (s.setBp clsCard m { x with parity := sat1 x.parity }).cardRaise m 2
        let again := u.on (R.CARD_CFG_t1 m) = false ∧ x.repeats < u.get (R.CARD_CFG_retries m)
        exec (.cardCharacterReceive m b true time) s = .next (settle
          ((s.setBp clsCard m { x with repeats := 0 }).chunkByte clsCard m b time.toNat 0)) ∧
        (again → exec (.cardCharacterReceive m b false time) s = .next (settle
          ((u.setBp clsCard m { u.bp clsCard m with repeats := x.repeats + 1 }).emit (.line clsCard m 4 0)))) ∧
        (¬ again → exec (.cardCharacterReceive m b false time) s = .next (settle
          ((u.setBp clsCard m { u.bp clsCard m with repeats := 0 }).chunkByte clsCard m b time.toNat
            (chunkRstat false true false))))) ∧
      (x.tx = none → ∀ refused, exec (.cardCharacterSent m refused) s = .next (settle s)) ∧
      (∀ t refused, x.tx = some t →
        let no := refused = true ∧ io = true ∧ s.on (R.CARD_CFG_t1 m) = false
        let u := s.emitOn ⟨.card, m, 0⟩ (.frame clsCard m (t.bytes.take 1))
        let sends (v : State) : Prop := exec (.cardCharacterSent m refused) s = .next (settle v)
        (no → t.tries < s.get (R.CARD_CFG_retries m) →
          sends (s.setBp clsCard m { x with tx := some { t with tries := t.tries + 1 } })) ∧
        (no → s.get (R.CARD_CFG_retries m) ≤ t.tries →
          sends (((s.setBp clsCard m { x with tx := none }).frameFailed t.token 0x42).byteLoad clsCard m)) ∧
        (¬ no → t.started = false → sends s) ∧
        (¬ no → t.started = true → t.bytes.drop 1 = [] →
          sends (((u.setBp clsCard m { x with tx := none, sent := sat1 x.sent }).frameLeft t.token).byteLoad clsCard m)) ∧
        (¬ no → t.started = true → t.bytes.drop 1 ≠ [] →
          sends (u.setBp clsCard m { x with sent := sat1 x.sent, tx := some { t with bytes := t.bytes.drop 1, started := true, tries := 0 } }))) ∧
      (let as := s.agentsWith clsCard m fun c => c.opcode == ocRead && c.func == 0x00
       (as = [] → exec (.cardWaitingTimeExpiry m) s = .next (settle s)) ∧
       (as ≠ [] → exec (.cardWaitingTimeExpiry m) s = .next (settle
         (((s.setBp clsCard m { x with wtExpired := sat1 x.wtExpired }).cardRaise m 3).endOps as stDeviceError 0x43)))) ∧
      (∀ level,
        let u := { s with presIn := putBit s.presIn m level }
        let present := s.attached ⟨.card, m, 3⟩ && level == s.on (R.CARD_CFG_pres_pol m)
        let event (t : State) := t.portEvent clsCard m 0x05 (fun _ => true)
        let sees (t : State) : Prop := exec (.cardPresenceChange m level) s = .next (settle t)
        (present = true → st = 0 → sees (event ((u.put (R.CARD_STATUS_state m) 1).cardRaise m 0))) ∧
        (present = false → st = 1 → sees (event (u.put (R.CARD_STATUS_state m) 0))) ∧
        (present = false → 2 ≤ st →
          let w := event ((u.cardRaise m 1).endOps (u.atrWaiters m) stDeviceError 0x40)
          sees (((w.failOps (w.agentsOn clsCard m) stDeviceError 0x40).cardOff m).put (R.CARD_STATUS_state m) 0)) ∧
        (present = true → st ≠ 0 → sees u) ∧ (present = false → st = 0 → sees u)))

/-- A land is switched, refused, locked, parked and attached by its rules; nothing is configured while registers do
not answer. While registers answer, a write of PIN_CFGn under the lock only sets locked_write; one of a reserved sel
or of a function that another land has sets its cause; any other parks the land, unless it is busy already, and makes
it busy. A rewritten park level takes effect at once on a land that is parked and not busy. A parked land drives its
level, or its keeper holds the level that the land had. The end of the interval attaches the function if the power
state lets it run: a GPIO pin drives its output level (the model's choice, log entry 91), CTS_N and an LXB interrupt
see the level of the land. The lock is set by its write, and no write clears it. A GPIO edge on an attached pin
changes its level and ends the WAIT_EVENTs for the edge; on a detached pin it has no effect. KATTN_IN follows the
level and the unit's own attention. While registers do not answer, none of these writes, nor an enable or disable of a
port, has an effect. Completes: PIN_SELECT, PIN_CONFIG_WRITE, PARK_INTERVAL_END, PIN_LOCK, GPIO_INPUT_EDGE,
KATTN_OUT_CHANGE. -/
def Obligations.LandsAndPortsAreConfigured : Prop :=
  ∀ s : State,
    (∀ level, exec (.kattnOutChange level) s = .next (s.put R.CHN_KC_ATTN_kattn_out (b2n level)) ∧
      (s.put R.CHN_KC_ATTN_kattn_out (b2n level)).kattnIn = (level || s.ownAttention)) ∧
    (s.answers = true → ∀ (n : Fin 192) (mid : BitVec 4) (v : W32),
      PinWritten s n mid.toNat v.toNat (fun t => exec (.pinSelect n mid v) s = .next (settle t)) ∧
      PinWritten s n mid.toNat (v.toNat / 8 * 8 + s.get (R.PIN_CFG_sel n))
        (fun t => exec (.pinConfigWrite n mid v) s = .next (settle t))) ∧
    (∀ (t : State) (n : Fin 192),
      let park := t.get (R.PIN_CFG_park n)
      let code := if park < 2 then park else if (t.landLevel n).getD (Config.landFloat n) then 3 else 2
      t.parkNow n = { t with pinParked := tput t.pinParked n code (coldPark n) }) ∧
    (s.answers = false → (∀ (n : Fin 192) (mid : BitVec 4) (v : W32), exec (.pinSelect n mid v) s = .next (settle s) ∧
        exec (.pinConfigWrite n mid v) s = .next (settle s) ∧ exec (.pinLock mid v) s = .next s) ∧
      ∀ (p : PortId) (mid : BitVec 4) (v : W32), exec (.portEnable p mid v) s = .next (settle s) ∧
        exec (.portDisable p mid v) s = .next (settle s)) ∧
    (∀ n : Fin 192,
      let sel := s.get (R.PIN_CFG_sel n)
      let u := s.put (R.PIN_CFG_busy n) 0
      let ends (t : State) : Prop := exec (.parkIntervalEnd n) s = .next (settle t)
      (s.on (R.PIN_CFG_busy n) = false → ends s) ∧
      (s.on (R.PIN_CFG_busy n) = true → landFn n sel = none → ends u) ∧
      (∀ f, s.on (R.PIN_CFG_busy n) = true → landFn n sel = some f →
        (u.fnRuns f = false → ends u) ∧
        (u.fnRuns f = true →
          let w := u.put (R.PIN_CFG_attached n) sel
          let g := { w with gpioIn := putBit w.gpioIn (n % 48) (w.gpioOut.testBit (n % 48)) }
          (sel = 3 → ends (g.gpioSeen (n % 48) false)) ∧
          (∀ m, sel ≠ 3 → f = ⟨.ser, m, 3⟩ → ends (w.ctsSeen m)) ∧
          (∀ i sig, sel ≠ 3 → f = ⟨.lxb, i, sig⟩ →
            (26 ≤ sig → s.lxbIrq.testBit (sig - 26) = true → ends (w.lxbIrqHigh (sig - 26))) ∧
            (sig < 26 ∨ s.lxbIrq.testBit (sig - 26) = false → ends w)) ∧
          (sel ≠ 3 → (∀ m, f ≠ ⟨.ser, m, 3⟩) → f.cls ≠ .lxb → ends w)))) ∧
    (∀ (mid : BitVec 4) (v : W32), s.answers = true →
      (s.takes R.PIN_CTL_lock mid.toNat = true →
        exec (.pinLock mid v) s = .next (s.put R.PIN_CTL_lock (v.toNat % 2))) ∧
      (s.takes R.PIN_CTL_lock mid.toNat = false → exec (.pinLock mid v) s = .next s)) ∧
    (∀ mid : BitVec 4, s.get R.PIN_CTL_lock ≠ 0 → s.takes R.PIN_CTL_lock mid.toNat = false) ∧
    (∀ (pin : Fin 48) (level : Bool),
      let u := { s with gpioIn := putBit s.gpioIn pin level }
      (s.attached ⟨.gpio, pin, 0⟩ = false → exec (.gpioInputEdge pin level) s = .next (settle s)) ∧
      (s.attached ⟨.gpio, pin, 0⟩ = true →
        (u.gpioLevel pin = s.gpioLevel pin → exec (.gpioInputEdge pin level) s = .next (settle u)) ∧
        (u.gpioLevel pin ≠ s.gpioLevel pin → exec (.gpioInputEdge pin level) s = .next (settle
          ((u.portEvent clsGpio 0 (if u.gpioLevel pin then 0x07 else 0x08) (· == pin.val)).portEvent clsGpio 0 0x09
            (· == pin.val))))))

/-- Sub-engines, rows, banks and lanes are asked for, migrated, repaired and cleared, and the scrubber walks the
memory. A migration that ends moves its programs, each starting again from its first CCW unless its operation has
begun and is not idempotent, writes its journal entry, and lets the retires that waited take place. While registers
answer: a retire request by MID 0 to 2 retires its sub-engine, or raises no_spare; a row request queues its row, or
its bank where no spare row remains; MID 2 starts a repair point in ACTIVE; MID 0 and 1 clear a lane, with its journal
entry; a request of another MID or place has no effect. A repair point that ends judges the words that it copied,
repairs the queued rows and the queued bank, shows its counts and answers the REPAIR that asked. A scrubber read
judges the word, counts a corrected one and takes away its error, marks an uncorrectable one, and moves on. A failing
self-check or spare self-test is an event of its source. Completes: MIGRATION_COMPLETE, RETIRE_SE, ROW_REQUEST,
REPAIR, REPAIR_POINT_END, CLEAR_LANE, SCRUB_READ, SELF_CHECK_FAILURE, SPARE_SELF_TEST. -/
def Obligations.TalonRepairsAndScrubs : Prop :=
  ∀ s : State,
    (∀ k : Fin 32,
      (s.tln.moves.find? (fun m => m.1 == k.val) = none → exec (.migrationComplete k) s = .next (settle s.reready)) ∧
      (∀ q i j cause, s.tln.moves.find? (fun m => m.1 == k.val) = some (q, i, j, cause) →
        let u := (s.progsOf k).foldl (fun t g => t.migrateProg g i j) s
        let v := { u with sePhys := tput u.sePhys k j k }
        let w := v.jrnlWrite jSubengine 0x02 i (j + k * 2 ^ 8) cause
        let moves := w.tln.moves.filter fun m => m.1 != k
        let x := w.setTln { w.tln with moves := moves, waiting := w.tln.waiting.filter fun x => x.1 != i }
        let y := x.put R.TLN_STATUS_migrating (b2n (!x.tln.moves.isEmpty))
        exec (.migrationComplete k) s = .next (settle ((w.tln.waiting.filter fun x => x.1 == i).foldl
          (fun t x => (t.retireSe x.1 x.2).1) y).reready))) ∧
    (∀ tag i j,
      (s.prog tag = none → s.migrateProg tag i j = s) ∧
      (∀ p, s.prog tag = some p →
        let u := (s.setProg tag { p with migrated := true }).trace .program
          { type := 0x07, mid := 6, tag := some tag, sq := p.sq, arg0 := i, arg1 := j }
        (u.op tag = none → s.migrateProg tag i j = u) ∧
        (∀ o, u.op tag = some o →
          (o.ended ≠ none → s.migrateProg tag i j = u) ∧
          (o.ended = none → (o.deviceBegun && !o.first.idem) = true →
            s.migrateProg tag i j = u.endProg tag stInterrupted 0) ∧
          (o.ended = none → (o.deviceBegun && !o.first.idem) = false →
            s.migrateProg tag i j = u.restartOp tag)))) ∧
    (∀ (mid : BitVec 4) (i : BitVec 6),
      (s.answers = false ∨ 2 < mid.toNat ∨ 36 ≤ i.toNat → exec (.retireSe mid i) s = .next (settle s)) ∧
      (s.answers = true → mid.toNat ≤ 2 → i.toNat < 36 →
        SubengineRetired s i.toNat (fun t => exec (.retireSe mid i) s = .next (settle t)))) ∧
    (∀ (mid : BitVec 4) (v : W32),
      let bank := bits v.toNat 16 5
      let row := rowCode (s.physBank bank) (v.toNat % 65536)
      let asks (t : State) : Prop := exec (.rowRequest mid v) s = .next (settle t)
      (s.answers = false ∨ 2 < mid.toNat ∨ 25 ≤ bank → asks s) ∧
      (s.answers = true → mid.toNat ≤ 2 → bank < 25 →
        (row ∈ s.tln.rowQ → asks s) ∧
        (row ∉ s.tln.rowQ → s.spareRow row ≠ none → s.tln.rowQ.length < 64 →
          asks (((s.setTln { s.tln with rowQ := s.tln.rowQ ++ [row] }).jrnlWrite jRow 0x01 row 0
            causeRequest).tlnRaise 1)) ∧
        (row ∉ s.tln.rowQ → s.spareRow row ≠ none → 64 ≤ s.tln.rowQ.length → asks (s.tlnRaise 4)) ∧
        (row ∉ s.tln.rowQ → s.spareRow row = none → s.tln.bankQ = none → s.bankFree = true →
          asks ((s.setTln { s.tln with bankQ := some bank }).jrnlWrite jBank 0x01 bank 0 causeRequest)) ∧
        (row ∉ s.tln.rowQ → s.spareRow row = none → s.tln.bankQ ≠ none ∨ s.bankFree = false → asks s))) ∧
    (∀ mid : BitVec 4,
      (s.answers = true → mid = 2 → s.power = 0 → s.on R.TLN_STATUS_repairing = false →
        exec (.repair mid) s = .next (s.put R.TLN_STATUS_repairing 1)) ∧
      (s.answers = false ∨ mid ≠ 2 ∨ s.power ≠ 0 ∨ s.on R.TLN_STATUS_repairing = true →
        exec (.repair mid) s = .next s)) ∧
    (∀ words rows bank,
      (s.on R.TLN_STATUS_repairing = false → exec (.repairPointEnd words rows bank) s = .next (settle s)) ∧
      (s.on R.TLN_STATUS_repairing = true →
        let f : RepairFaults := { words := words, rows := rows, bank := bank }
        let u := settle (s.copyWords words)
        let r := State.repairRows f u.tln.rowQ u 0 []
        let v := r.1.setTln { r.1.tln with rowQ := r.2.2 }
        let b := v.repairBank f
        let x := b.1.setTln { b.1.tln with seSince := 0, asked := none }
        let y := (((x.put R.TLN_RP_rows r.2.1).put R.TLN_RP_banks b.2).put R.TLN_RP_subengines b.1.tln.seSince).put R.TLN_STATUS_repairing 0
        let z := y.tlnRaise 2
        (b.1.tln.asked = none → exec (.repairPointEnd words rows bank) s = .next (settle z)) ∧
        (∀ a, b.1.tln.asked = some a → exec (.repairPointEnd words rows bank) s =
          .next (settle (z.fwReply a rsOk [r.2.1, b.2, z.get R.TLN_RP_subengines]))))) ∧
    (∀ (mid : BitVec 4) (p : Fin 2),
      (s.answers = false ∨ 1 < mid.toNat → exec (.clearLane mid p) s = .next (settle s)) ∧
      (s.answers = true → mid.toNat ≤ 1 → exec (.clearLane mid p) s = .next (settle
        ((s.setTln (s.tln.lanesCleared p)).jrnlWrite jLaneClear 0x02 p 0 causeRequest)))) ∧
    (∀ corr uncorr starved : Bool,
      let reads (t : State) : Prop := exec (.scrubRead corr uncorr starved) s = .next (settle t)
      let u := if starved then s.scbRaise 4 else s
      let bank := u.get R.SCB_STATUS_bank
      let pos := u.get R.SCB_STATUS_position
      let c : WordCheck := if uncorr then .uncorrectable else if corr then .corrected else .good
      (s.isUp = false ∨ s.running = false → reads s) ∧
      (s.isUp = true → s.running = true →
        (u.bankRetired bank = true → reads (u.scbNext bank 65791)) ∧
        (u.bankRetired bank = false → reads ((u.scrubAt bank pos c).scbNext bank pos)) ∧
        (∀ a, u.bankRetired bank = false → u.spareBank bank = false → pos / 16 % 514 < 512 → u.scbAddr bank pos = some a →
          let d := u.checkOf a c
          (d = .good → reads (u.scbNext bank pos)) ∧
          (d = .corrected →
            let v := { u with upsets := tdel u.upsets a }
            reads ((((v.count (R.SCB_CNT_count 1)).scbRaise 1).fault { src := 116, res := a }).scbNext bank pos)) ∧
          (d = .uncorrectable → u.poisonAt a = true → reads (u.scbNext bank pos)) ∧
          (d = .uncorrectable → u.poisonAt a = false →
            reads ((((u.count (R.SCB_CNT_count 2)).scbRaise 2).uncorrRead a).scbNext bank pos))))) ∧
    (∀ i : Fin 36, exec (.selfCheckFailure i) s = .next (settle (s.fault { src := 80 + i, res := i })) ∧
      exec (.spareSelfTest i false) s = .next (settle s) ∧
      (s.spareSes.contains i.val = false → exec (.spareSelfTest i true) s = .next (settle s)) ∧
      (s.spareSes.contains i.val = true →
        exec (.spareSelfTest i true) s = .next (settle (s.fault { src := 80 + i, res := i }))))

/-- Thermal limits and duty are set only within their bounds; samples, demands, the grace and the peak act by their
rules. While registers answer: THM_LIM takes three limits from MID 2 that lie within 110, 118 and 125 °C and 2 °C
apart, refuses and counts any above a bound, and ignores the rest; THM_DUTY refuses and counts an enforcement duty
above 8 from MID 2; a demand is kept until a sample; a read of THM_PEAK answers the peak and puts it back to its
lowest value. A sample is taken only when the unit samples: it judges and reports the nine sensors, counts itself,
shows the hottest, the peak and the fast rate, steps the thermal state by the first row of R583 that applies, and
answers a demand. A critical sample after a critical one stops the unit safely, and CRITICAL lasts. A grace that ends
in WARN brings enforcement. Completes: THM_LIM_WRITE, THM_DUTY_WRITE, MEASURE, THERMAL_SAMPLE, THERMAL_GRACE_EXPIRY,
THM_PEAK_READ. -/
def Obligations.ThermalLimitsHold : Prop :=
  ∀ s : State,
    (∀ (mid : BitVec 4) (v : W32),
      let w := v.toNat % 256
      let e := v.toNat / 256 % 256
      let c := v.toNat / 65536 % 256
      (s.answers = false ∨ mid ≠ 2 → exec (.thmLimWrite mid v) s = .next (settle s)) ∧
      (s.answers = true → mid = 2 → 110 < w ∨ 118 < e ∨ 125 < c → exec (.thmLimWrite mid v) s = .next (settle
        (s.fault { src := 4, res := bits R.THM_LIM_warn.off 2 18, mid := some 2 }))) ∧
      (s.answers = true → mid = 2 → w ≤ 110 → e ≤ 118 → c ≤ 125 →
        (w + 2 ≤ e → e + 2 ≤ c → exec (.thmLimWrite mid v) s = .next (settle
          (((s.put R.THM_LIM_warn w).put R.THM_LIM_enforce e).put R.THM_LIM_critical c))) ∧
        (e < w + 2 ∨ c < e + 2 → exec (.thmLimWrite mid v) s = .next (settle s)))) ∧
    (∀ (mid : BitVec 4) (v : W32),
      (s.answers = false → exec (.thmDutyWrite mid v) s = .next (settle s)) ∧
      (s.answers = true → mid = 2 → 8 < v.toNat % 16 → exec (.thmDutyWrite mid v) s = .next (settle
        (s.fault { src := 4, res := bits R.THM_DUTY_enf_duty.off 2 18, mid := some 2 }))) ∧
      (s.answers = true → mid ≠ 2 ∨ v.toNat % 16 ≤ 8 → exec (.thmDutyWrite mid v) s = .next (settle
        (s.writeFlds mid.toNat v.toNat [R.THM_DUTY_enf_duty, R.THM_DUTY_host_duty]))) ∧
      (s.get R.THM_DUTY_enf_duty ≤ 8 → mid ≠ 2 ∨ v.toNat % 16 ≤ 8 →
        (s.writeFlds mid.toNat v.toNat [R.THM_DUTY_enf_duty, R.THM_DUTY_host_duty]).get R.THM_DUTY_enf_duty ≤ 8)) ∧
    (∀ (mid : BitVec 4) (v : W32),
      (s.answers = true → v.toNat % 2 = 1 → mid.toNat ∈ [0, 1, 2, 4] →
        exec (.measure mid v) s = .next { s with thmDemand := true }) ∧
      (s.answers = false ∨ v.toNat % 2 = 0 ∨ mid.toNat ∉ [0, 1, 2, 4] → exec (.measure mid v) s = .next s)) ∧
    (∀ l, s.samples = false → exec (.thermalSample l) s = .next (settle s)) ∧
    (∀ l, s.samples = true →
      let u := (List.range 9).foldl (fun t k => t.judgeSensor l s.suspects k) s
      let v := (List.range 9).foldl (fun t k => t.reportSensor l u.suspects k) u
      let k := hottest v.reports
      let high := v.reports.getD k 0
      let w := ((v.count R.THM_SAMPLE_CNT_count).put R.THM_STATUS_hottest k).put R.THM_STATUS_highest (temp12 high)
      let x := ((w.peak high k).fastRate v.reports high).thermalState v.reports high
      let y := { x with thmHot := ((8 * x.get R.THM_LIM_critical : Nat) : Int) ≤ high }
      (y.thmDemand = false → exec (.thermalSample l) s = .next (settle y)) ∧
      (y.thmDemand = true → exec (.thermalSample l) s =
        .next (settle (State.thmRaise { y with thmDemand := false } 6 0)))) ∧
    (∀ (l : List Int) (high : Int),
      let st := s.get R.THM_STATUS_state
      let at8 (f : Fld) : Int := (8 * s.get f : Nat)
      let hot := at8 R.THM_LIM_critical ≤ high ∧ s.thmHot = true
      (st = 3 → s.thermalState l high = s) ∧
      (st ≠ 3 → hot →
        let u := (s.put R.THM_STATUS_state 3).thmRaise 3 0
        s.thermalState l high = if u.safe then u else u.safeStop 0b010 0) ∧
      (st ≠ 3 → ¬ hot → at8 R.THM_LIM_enforce ≤ high →
        let u := if st = 0 then s.thmRaise 0 0 else s
        let v := if u.on R.THM_STATUS_enforcing then u else u.thmRaise 1 0
        s.thermalState l high = (v.put R.THM_STATUS_state 2).put R.THM_STATUS_enforcing 1) ∧
      (st = 0 → ¬ hot → high < at8 R.THM_LIM_enforce → at8 R.THM_LIM_warn ≤ high →
        s.thermalState l high = ((s.put R.THM_STATUS_state 1).put R.THM_STATUS_grace_running 1).thmRaise 0 0) ∧
      (st ≠ 0 → st ≠ 3 → ¬ hot → high < at8 R.THM_LIM_enforce →
        ((∀ x ∈ l, x < at8 R.THM_LIM_warn - at8 R.THM_CFG_hyst) → s.thermalState l high =
          (((s.put R.THM_STATUS_state 0).put R.THM_STATUS_enforcing 0).put R.THM_STATUS_grace_running 0).thmRaise 2 0) ∧
        ((∃ x ∈ l, at8 R.THM_LIM_warn - at8 R.THM_CFG_hyst ≤ x) → s.thermalState l high = s)) ∧
      (st = 0 → ¬ hot → high < at8 R.THM_LIM_enforce → high < at8 R.THM_LIM_warn → s.thermalState l high = s)) ∧
    (s.on R.THM_STATUS_grace_running = false → exec .thermalGraceExpiry s = .next (settle s)) ∧
    (s.on R.THM_STATUS_grace_running = true → s.get R.THM_STATUS_state ≠ 1 → exec .thermalGraceExpiry s =
      .next (settle (s.put R.THM_STATUS_grace_running 0))) ∧
    (s.on R.THM_STATUS_grace_running = true → s.get R.THM_STATUS_state = 1 → s.on R.THM_STATUS_enforcing = false → ∃ t,
      exec .thermalGraceExpiry s = .next (settle t) ∧
      Only s t [R.THM_STATUS_grace_running, R.THM_STATUS_state, R.THM_STATUS_enforcing, R.THM_EVT_cause,
        R.THM_EVT_CNT_count 1] ∧
      t.get R.THM_STATUS_state = 2 ∧ t.get R.THM_STATUS_enforcing = 1 ∧ t.get R.THM_STATUS_grace_running = 0 ∧
      Raised s t R.THM_EVT_cause 1 (R.THM_EVT_CNT_count 1)) ∧
    (s.on R.THM_STATUS_grace_running = true → s.get R.THM_STATUS_state = 1 → s.on R.THM_STATUS_enforcing = true → ∃ t,
      exec .thermalGraceExpiry s = .next (settle t) ∧
      Only s t [R.THM_STATUS_grace_running, R.THM_STATUS_state, R.THM_STATUS_enforcing] ∧
      t.get R.THM_STATUS_state = 2 ∧ t.get R.THM_STATUS_enforcing = 1 ∧ t.get R.THM_STATUS_grace_running = 0) ∧
    (s.answers = false → exec .thmPeakRead s = .next s) ∧
    (s.answers = true → ∃ t : State, exec .thmPeakRead s = .next t ∧
      Only { s with readData := s.readFlds [R.THM_PEAK_value, R.THM_PEAK_sensor] } t
        [R.THM_PEAK_value, R.THM_PEAK_sensor] ∧
      t.get R.THM_PEAK_value = R.THM_PEAK_value.cold ∧ t.get R.THM_PEAK_sensor = R.THM_PEAK_sensor.cold)

/-- The trace writer, its sink, marks and clear, the test instructions and lifecycle requests have their effects. The
writer takes one item and writes it at the write pointer, or counts it once stopped; nothing happens while recording
is off, from step 5 of the power-fail sequence, or with no item waiting. The pointer wraps after entry 8,191, where
STOP mode stops; an entry that the sink has not copied is counted as skipped. The sink copies its oldest entry to its
ring when it may. While registers answer, a host mark is offered by MID 0 and 1; a clear by MID 0, 1, 2 or 5 puts the
pointer to 0; a keyed lifecycle request of MID 0 or 1 is recorded, and any other is an access refused. A test
instruction is taken where the lifecycle allows it, and is BYPASS otherwise; IDCODE shifts its value out. Completes:
TRACE_WRITE, HOST_MARK, TRACE_CLEAR, SINK_COPY, BYPASS, IDCODE, SAMPLE_PRELOAD, EXTEST, CLAMP, HIGHZ,
LIFECYCLE_REQUEST. -/
def Obligations.TraceAndDebugAct : Prop :=
  ∀ s : State,
    (s.chain2.items = [] ∨ s.on R.TRC_CTL_en = false ∨ 5 ≤ s.sup.pf → exec .traceWrite s = .next s) ∧
    (s.on R.TRC_CTL_en = true → s.sup.pf < 5 → s.chain2.items ≠ [] →
      let i := firstItem s.chain2.items
      let e := trcEntry i.1 i.2
      let u := { s with chain2 := { s.chain2 with items := i.2, lastWord := i.1.getLastD s.chain2.lastWord } }
      (s.on R.TRC_STATUS_stopped = true →
        exec .traceWrite s = .next ((u.count R.TRC_STOP_DROP_CNT_count).markDone e)) ∧
      (s.on R.TRC_STATUS_stopped = false → exec .traceWrite s = .next ((u.trcStore e).markDone e))) ∧
    (∀ e,
      let p := s.get R.TRC_STATUS_wr_ptr
      let u := { s with trcBuf := tset s.trcBuf p e }
      let v := (u.put R.TRC_STATUS_wr_ptr ((p + 1) % 8192)).count R.TRC_ENTRIES_count
      let w := if v.sinkLag < 8192 then { v with sinkLag := v.sinkLag + 1 } else if v.on R.TRC_CTL_sink_en then (v.count R.TRC_SINK_SKIP_CNT_count).trcRaise 1 else v
      let x := w.put R.TRC_STATUS_wrapped 1
      (p + 1 < 8192 → s.trcStore e = w) ∧
      (8192 ≤ p + 1 → x.on R.TRC_CTL_mode = false → s.trcStore e = x) ∧
      (8192 ≤ p + 1 → x.on R.TRC_CTL_mode = true → s.trcStore e = (x.put R.TRC_STATUS_stopped 1).trcRaise 0)) ∧
    (∀ e, s.get R.TRC_STATUS_wr_ptr + 1 < 8192 → s.sinkLag < 8192 → ∃ t : State, s.trcStore e = t ∧
      Only { s with trcBuf := tset s.trcBuf (s.get R.TRC_STATUS_wr_ptr) e, sinkLag := s.sinkLag + 1 } t
        [R.TRC_STATUS_wr_ptr, R.TRC_ENTRIES_count] ∧
      t.get R.TRC_STATUS_wr_ptr = s.get R.TRC_STATUS_wr_ptr + 1 ∧
      t.get R.TRC_ENTRIES_count = s.plus R.TRC_ENTRIES_count 1) ∧
    (∀ (mid : BitVec 4) (v : W32),
      (s.answers = true → mid.toNat ≤ 1 → exec (.hostMark mid v) s =
        .next (settle (s.trace .mark { type := 0x31, mid := mid.toNat, arg0 := v.toNat }))) ∧
      (s.answers = false ∨ 1 < mid.toNat → exec (.hostMark mid v) s = .next (settle s)) ∧
      (s.answers = true → v.toNat % 2 = 1 → mid.toNat ∈ [0, 1, 2, 5] → ∃ t, exec (.traceClear mid v) s = .next t ∧
        Only { s with sinkLag := 0 } t [R.TRC_STATUS_wr_ptr, R.TRC_STATUS_wrapped, R.TRC_STATUS_stopped] ∧
        t.get R.TRC_STATUS_wr_ptr = 0 ∧ t.get R.TRC_STATUS_wrapped = 0 ∧ t.get R.TRC_STATUS_stopped = 0) ∧
      (s.answers = false ∨ v.toNat % 2 = 0 ∨ mid.toNat ∉ [0, 1, 2, 5] → exec (.traceClear mid v) s = .next s)) ∧
    (∀ uncorr, s.on R.TRC_CTL_sink_en = false ∨ s.sinkLag = 0 ∨ s.sinkRoom = false ∨
      s.sinkFree (s.get R.TRC_CTL_sink_pf) = false → exec (.sinkCopy uncorr) s = .next s) ∧
    (∀ uncorr, s.on R.TRC_CTL_sink_en = true → s.sinkLag ≠ 0 → s.sinkRoom = true →
      s.sinkFree (s.get R.TRC_CTL_sink_pf) = true →
      let k := s.get R.TRC_SINK_LOG2_k
      let tail := s.get R.TRC_SINK_TAIL_tail
      let entry := (tget s.trcBuf ((s.get R.TRC_STATUS_wr_ptr + 8192 - s.sinkLag) % 8192)).getD []
      let u := if uncorr then s.trcRaise 2 else s
      exec (.sinkCopy uncorr) s = .next
        ((State.put { u with sinkLag := u.sinkLag - 1 } R.TRC_SINK_TAIL_tail ((tail + 1) % 2 ^ (k + 1))).dataWrite
          (s.get R.TRC_CTL_sink_pf) (u.get R.TRC_SINK_BASE_base + 32 * (tail % 2 ^ k)) (fit 32 (bytesOf entry)))) ∧
    TapLoaded s .bypass (fun t => exec .bypass s = .next t) ∧
    TapLoaded s .idcode (fun t => exec .idcode s = .next (t.emit (.tdo 32 0x207405CB))) ∧
    (∀ cells, TapLoaded s .sample (fun t => exec (.samplePreload cells) s = .next { t with boundary := cells })) ∧
    TapLoaded s .extest (fun t => exec .extest s = .next t) ∧
    TapLoaded s .clamp (fun t => exec .clamp s = .next t) ∧
    TapLoaded s .highz (fun t => exec .highz s = .next t) ∧
    (∀ (mid : BitVec 4) (origin : BitVec 10) (v : W32),
      (s.answers = true → mid.toNat ≤ 1 → v.toNat / 65536 = 0x1C5A → ∃ t : State,
        exec (.lifecycleRequest mid origin v) s = .next (settle t) ∧
        Only { s with nv := { s.nv with lcReq := some (v.toNat % 4) } } t
          [R.GLB_LC_STATUS_pending, R.GLB_LC_STATUS_target] ∧
        t.get R.GLB_LC_STATUS_pending = 1 ∧ t.get R.GLB_LC_STATUS_target = v.toNat % 4) ∧
      (s.answers = true → 1 < mid.toNat ∨ v.toNat / 65536 ≠ 0x1C5A → exec (.lifecycleRequest mid origin v) s =
        .next (settle (s.accessRefused R.GLB_LC_REQ_target.off { mid := mid.toNat, addr := origin.toNat }))) ∧
      (s.answers = false → exec (.lifecycleRequest mid origin v) s = .next (settle s)))

/-- A step runs the command at the front of the queue on the state with the queue's rest, and on an empty queue clocks
one core cycle. For every command c and state s, the step of s with c at the front of its queue is exec of c on s with
the queue's rest. On an empty queue the step is one tick of the core clock, which leaves the queue empty, and memory
as it was where no injection brings a fault event (the tick is the model's choice, log entry 1). -/
def Obligations.StepRunsFrontCommand : Prop :=
  (∀ (c : Instr) (cs : List Instr) (s : State),
    step { s with pending := c :: cs } = exec c { s with pending := cs }) ∧
  (∀ s : State, s.pending = [] → ∃ t, step s = .next t ∧ t = s.tick ∧ t.pending = [] ∧
    (s.injecting = [] → t.sram = s.sram ∧ t.poison = s.poison))

/-- Every command completes in every state and leaves the queue of waiting commands as it was. For every command c and
every state s, exec c s answers a next state, not a fault and not a refusal, and the commands that wait are unchanged
by it. -/
def Obligations.EveryCommandCompletes : Prop :=
  ∀ (c : Instr) (s : State), ∃ t, exec c s = .next t ∧ t.pending = s.pending

/-- Every step keeps the canonical form of registers and memory, leaves no fault event waiting, and undoes no fuse. If
the register store and the buffer memory with its poison map are in canonical form and no fault event waits, they are
so after every step, from any such state and with any command in front; and whatever the step does, the rollback count
and the lifecycle do not go down, a key that was revoked stays revoked, and a killed ledger key stays killed. -/
def Obligations.StepKeepsInvAndFuses : Prop :=
  ∀ s t : State, step s = .next t → (s.Inv → t.Inv) ∧ s.nv.FusesKept t.nv

/-- The state after reset meets the invariant, with every register at its reset value and nothing waiting. State.reset
has its register store and memory in canonical form and no fault event waiting; every register field reads its reset
value, memory lists nothing, no command waits, and reset is asserted. A reset value that the spec does not state is
the model's choice (log entry 3). -/
def Obligations.ResetMeetsInv : Prop :=
  State.reset.Inv ∧ (∀ f : Fld, State.reset.get f = f.cold) ∧ State.reset.sram = [] ∧ State.reset.pending = [] ∧
    State.reset.phase = .asserted
end

