-- ==== Sys2Proof/Decode.lean ====
section
/-!
DEFINITION. The command that a word of the opcode table spells.
-/

namespace Sys2Proof

/-- The command that a word spells by the bits of spec/opcode_table.json. No row of the table has a bit, and commands
reach the unit as accesses, frames, flits and events; so no word spells one. -/
def decodeTableWord (_nbits _w : Nat) : Option Instr := none

end Sys2Proof
end

