-- ==== Sys2Proof/Laws/Tables.lean ====
section
/-!
SUPPORT. What reading and writing a sparse table does: a written key reads as what was written, every other key as before,
and the canonical form stays.
-/

namespace Sys2Proof.Machine

variable {α : Type}

/-- Every key of the table lies above a bound. -/
def Above (b : Nat) (m : NMap α) : Prop := ∀ e ∈ m, b < e.1

theorem sorted_cons {e : Nat × α} {m : NMap α} : Sorted (e :: m) ↔ Above e.1 m ∧ Sorted m := by
  simp [Sorted, Above, List.pairwise_cons]

theorem above_tset {m : NMap α} {b k : Nat} {v : α} (h : Above b m) (hk : b < k) : Above b (tset m k v) := by
  induction m with
  | nil => simpa [tset, Above] using hk
  | cons e r ih =>
    have he : b < e.1 := h e (by simp)
    have hr : Above b r := fun x hx => h x (by simp [hx])
    unfold tset
    split
    · intro x hx
      rcases List.mem_cons.1 hx with rfl | hx
      · exact hk
      · exact h x hx
    · split
      · intro x hx
        rcases List.mem_cons.1 hx with rfl | hx
        · exact hk
        · exact hr x hx
      · intro x hx
        rcases List.mem_cons.1 hx with rfl | hx
        · exact he
        · exact ih hr x hx

theorem sorted_tset {m : NMap α} (k : Nat) (v : α) (h : Sorted m) : Sorted (tset m k v) := by
  induction m with
  | nil => simp [tset, Sorted]
  | cons e r ih =>
    obtain ⟨ha, hr⟩ := sorted_cons.1 h
    unfold tset
    split
    · rename_i hk
      refine sorted_cons.2 ⟨fun x hx => ?_, h⟩
      rcases List.mem_cons.1 hx with rfl | hx
      · exact hk
      · exact Nat.lt_trans hk (ha x hx)
    · split
      · rename_i _ hk
        exact sorted_cons.2 ⟨by simpa [hk] using ha, hr⟩
      · rename_i h1 h2
        exact sorted_cons.2 ⟨above_tset ha (by simp only at *; omega), ih hr⟩

theorem mem_of_mem_tdel {m : NMap α} {k : Nat} {e : Nat × α} (h : e ∈ tdel m k) : e ∈ m := by
  induction m with
  | nil => simp [tdel] at h
  | cons x r ih =>
    unfold tdel at h
    split at h
    · exact List.mem_cons_of_mem _ (ih h)
    · rcases List.mem_cons.1 h with rfl | h
      · simp
      · exact List.mem_cons_of_mem _ (ih h)

theorem sorted_tdel {m : NMap α} (k : Nat) (h : Sorted m) : Sorted (tdel m k) := by
  induction m with
  | nil => simp [tdel, Sorted]
  | cons e r ih =>
    obtain ⟨ha, hr⟩ := sorted_cons.1 h
    unfold tdel
    split
    · exact ih hr
    · exact sorted_cons.2 ⟨fun x hx => ha x (mem_of_mem_tdel hx), ih hr⟩

theorem mem_tset {m : NMap α} {k : Nat} {v : α} {e : Nat × α} (h : e ∈ tset m k v) : e = (k, v) ∨ e ∈ m := by
  induction m with
  | nil => left; simpa [tset] using h
  | cons x r ih =>
    unfold tset at h
    split at h
    · simpa using h
    · split at h
      · rcases List.mem_cons.1 h with h | h
        · exact .inl h
        · exact .inr (List.mem_cons_of_mem _ h)
      · rcases List.mem_cons.1 h with rfl | h
        · right; simp
        · exact (ih h).imp_right (List.mem_cons_of_mem _)

theorem sorted_tput [DecidableEq α] {m : NMap α} (k : Nat) (v d : α) (h : Sorted m) : Sorted (tput m k v d) := by
  unfold tput
  split
  · exact sorted_tdel k h
  · exact sorted_tset k v h

/-- No entry of the table equals what an unlisted key reads as. -/
theorem nodefault_tput [DecidableEq α] {m : NMap α} (k : Nat) (v d : α) (h : ∀ e ∈ m, e.2 ≠ d) :
    ∀ e ∈ tput m k v d, e.2 ≠ d := by
  intro e he
  unfold tput at he
  split at he
  · exact h e (mem_of_mem_tdel he)
  · rename_i hv
    rcases mem_tset he with rfl | he
    · exact hv
    · exact h e he

@[simp] theorem tget_tset_same (m : NMap α) (k : Nat) (v : α) : tget (tset m k v) k = some v := by
  induction m with
  | nil => simp [tset, tget]
  | cons e r ih =>
    unfold tset
    split
    · simp [tget]
    · split
      · simp [tget]
      · rename_i h1 h2
        rw [tget, if_neg (fun h => h2 h.symm)]
        exact ih

theorem tget_tset_other {m : NMap α} {k j : Nat} (v : α) (h : j ≠ k) : tget (tset m k v) j = tget m j := by
  induction m with
  | nil => simp [tset, tget, h.symm]
  | cons e r ih =>
    unfold tset
    split
    · simp [tget, h.symm]
    · split
      · rename_i _ he
        subst he
        simp [tget, h.symm]
      · simp [tget, ih]

theorem tget_tdel_other {m : NMap α} {k j : Nat} (h : j ≠ k) : tget (tdel m k) j = tget m j := by
  induction m with
  | nil => rfl
  | cons e r ih =>
    unfold tdel
    split
    · rename_i he
      simp [tget, ih, he, h.symm]
    · simp [tget, ih]

@[simp] theorem tget_tdel_same (m : NMap α) (k : Nat) : tget (tdel m k) k = none := by
  induction m with
  | nil => rfl
  | cons e r ih =>
    unfold tdel
    split
    · exact ih
    · rename_i he
      simp [tget, he, ih]

/-- A written key reads as what was written. -/
@[simp] theorem tget_tput_same [DecidableEq α] (m : NMap α) (k : Nat) (v d : α) :
    (tget (tput m k v d) k).getD d = v := by
  unfold tput
  split
  · rename_i hv
    simp [hv]
  · simp

/-- Every other key reads as before. -/
theorem tget_tput_other [DecidableEq α] {m : NMap α} {k j : Nat} (v d : α) (h : j ≠ k) :
    tget (tput m k v d) j = tget m j := by
  unfold tput
  split
  · exact tget_tdel_other h
  · exact tget_tset_other v h

end Sys2Proof.Machine
end

