-- ==== Sys2Proof/Laws/Keeps.lean ====
section
/-!
SUPPORT. What every operation of the model keeps: the queue of waiting commands, the canonical form of the register
store and of the memory, and what the fuses show.
-/

namespace Sys2Proof.Machine

set_option linter.unusedTactic false
set_option linter.unreachableTactic false

/-- From `s` to `t` nothing that every operation keeps has changed. -/
structure Keeps (s t : State) : Prop where
  pending : t.pending = s.pending
  regs : s.regsWf → t.regsWf
  mem : s.memWf → t.memWf
  fuses : Nv.FusesKept s.nv t.nv

theorem Nv.FusesKept.refl (n : Nv) : Nv.FusesKept n n :=
  ⟨Nat.le_refl _, Nat.le_refl _, id, fun _ x h => ⟨x, h⟩⟩

theorem Nv.FusesKept.trans {a b c : Nv} (h : Nv.FusesKept a b) (g : Nv.FusesKept b c) : Nv.FusesKept a c :=
  ⟨Nat.le_trans h.rollback g.rollback, Nat.le_trans h.lifecycle g.lifecycle, fun x => g.killed (h.killed x),
   fun k x hx => by
    obtain ⟨y, hy⟩ := h.revoked k x hx
    exact g.revoked k y hy⟩

theorem Keeps.refl (s : State) : Keeps s s := ⟨Eq.refl _, id, id, .refl _⟩

theorem Keeps.trans {s t u : State} (h : Keeps s t) (g : Keeps t u) : Keeps s u :=
  ⟨g.pending.trans h.pending, fun x => g.regs (h.regs x), fun x => g.mem (h.mem x), h.fuses.trans g.fuses⟩

/-- Where the queue, the registers, the memory and the flash are the same, everything is kept. -/
theorem Keeps.same {s t : State} (hp : t.pending = s.pending) (hr : t.regs = s.regs) (hm : t.sram = s.sram)
    (hi : t.poison = s.poison) (hn : t.nv = s.nv) : Keeps s t :=
  ⟨hp, by simp [State.regsWf, hr], by simp [State.memWf, hm, hi], hn ▸ .refl _⟩

theorem Keeps.ite {s0 a b : State} {c : Prop} [Decidable c] (ha : Keeps s0 a) (hb : Keeps s0 b) :
    Keeps s0 (if c then a else b) := by
  split <;> assumption

theorem Keeps.fst_ite {β : Type} {s0 : State} {a b : State × β} {c : Prop} [Decidable c] (ha : Keeps s0 a.1)
    (hb : Keeps s0 b.1) : Keeps s0 (if c then a else b).1 := by
  split <;> assumption

theorem Keeps.foldl {β : Type} {s0 s : State} {f : State → β → State} (h : Keeps s0 s)
    (hf : ∀ t x, Keeps s0 t → Keeps s0 (f t x)) (l : List β) : Keeps s0 (l.foldl f s) := by
  induction l generalizing s with
  | nil => exact h
  | cons x r ih => exact ih (hf s x h)

theorem Keeps.foldl_fst {β γ : Type} {s0 : State} {a : State × γ} {f : State × γ → β → State × γ} (h : Keeps s0 a.1)
    (hf : ∀ t x, Keeps s0 t.1 → Keeps s0 (f t x).1) (l : List β) : Keeps s0 (l.foldl f a).1 := by
  induction l generalizing a with
  | nil => exact h
  | cons x r ih => exact ih (hf a x h)

/-- A record update of other fields keeps everything. -/
theorem Keeps.record {s0 s : State} (h : Keeps s0 s)
    {x0 x1 x2 x3 x4 x5 x6 x7 x8 x9 x10 x11 x12 x13 x14 x15 x16 x17 x18 x19 x20 x21 x22 x23 x24 x25 x26 x27 x28
     x29 x30 x31 x32 x33 x34 x35 x36 x37 x38 x39 x40 x41 x42 x43 x44 x45 x46 x47 x48 x49 x50 x51 x52 x53 x54 x55
     x56 x57 x58 x59 x60 x61 x62 x63 x64 x65 x66 x67 x68 x69 x70 x71 x72 x73 x74 x75 x76 x77 x78 x79 x80 x81 x82
     x83 x84 x85 x86 x87 x88 x89 x90 x91 x92 x93 x94 x95 x96 x97 x98 x99 x100 x101 x102 x103 x104} :
    Keeps s0 (State.mk
      s.pending s.regs x0 x1 x2 x3 x4 x5 x6 x7 x8 x9 x10 x11 x12 x13 x14 x15 x16 x17 x18 x19 x20 x21 x22 x23 x24
      x25 x26 x27 x28 x29 x30 x31 x32 x33 x34 x35 x36 x37 x38 x39 x40 x41 x42 x43 s.sram s.poison x44 x45 x46 x47
      x48 x49 x50 x51 x52 x53 x54 x55 x56 x57 x58 x59 x60 x61 x62 x63 x64 x65 x66 x67 x68 x69 x70 x71 x72 x73 x74
      x75 x76 x77 x78 x79 x80 x81 s.nv x82 x83 x84 x85 x86 x87 x88 x89 x90 x91 x92 x93 x94 x95 x96 x97 x98 x99
      x100 x101 x102 x103 x104) :=
  h.trans (.same rfl rfl rfl rfl rfl)

/-- A poison-map bit written. -/
theorem Keeps.mark {s0 s : State} (h : Keeps s0 s) (a : Nat) (b : Bool) :
    Keeps s0 { s with poison := tput s.poison a b false } :=
  h.trans ⟨rfl, id, fun m => ⟨m.1, m.2.1, sorted_tput _ _ _ m.2.2.1, nodefault_tput _ _ _ m.2.2.2⟩, .refl _⟩

/-- What the flash holds besides fuses written. -/
theorem Keeps.flash {s0 s : State} (h : Keeps s0 s) {n : Nv} (hr : n.rollback = s.nv.rollback)
    (hl : n.lifecycle = s.nv.lifecycle) (hk : n.kLdgKilled = s.nv.kLdgKilled) (hi : n.keys = s.nv.keys) :
    Keeps s0 { s with nv := n } :=
  h.trans ⟨rfl, id, id, ⟨Nat.le_of_eq hr.symm, Nat.le_of_eq hl.symm, fun x => hk.trans x,
    fun k x hx => ⟨x, by rw [hi]; exact hx⟩⟩⟩

end Sys2Proof.Machine
end

