-- ==== Sys2Proof/Laws/KeepsBase.lean ====
section
/-!
SUPPORT. What the operations of buffers, mailboxes, host attachment, records and flits keep.
-/

namespace Sys2Proof.Machine

set_option linter.unusedTactic false
set_option linter.unreachableTactic false

/-! ### Ops -/

theorem State.put_keeps {s0 s : State} (h : Keeps s0 s) (f v) : Keeps s0 (s.put f v) :=
  h.trans ⟨rfl, sorted_tput _ _ _, id, .refl _⟩

theorem State.cold_keeps {s0 s : State} (h : Keeps s0 s) (fs) :
    Keeps s0 (State.cold s fs) := by
  unfold State.cold
  repeat' with_reducible first
    | intro _ | assumption | apply State.put_keeps | apply Keeps.foldl | dsimp only

theorem State.flag_keeps {s0 s : State} (h : Keeps s0 s) (f b) :
    Keeps s0 (State.flag s f b) := by
  unfold State.flag
  repeat' with_reducible first
    | assumption | apply State.put_keeps

theorem State.count_keeps {s0 s : State} (h : Keeps s0 s) (f n) :
    Keeps s0 (State.count s f n) := by
  unfold State.count
  repeat' with_reducible first
    | assumption | apply State.put_keeps

theorem State.raise_keeps {s0 s : State} (h : Keeps s0 s) (evt bit cnt) :
    Keeps s0 (State.raise s evt bit cnt) := by
  unfold State.raise
  repeat' with_reducible first
    | assumption | apply State.count_keeps | apply State.put_keeps

theorem State.drawFree_keeps {s0 s : State} (h : Keeps s0 s) :
    Keeps s0 (State.drawFree s).1 := by
  unfold State.drawFree
  repeat' with_reducible first
    | assumption | dsimp only | apply Keeps.record

theorem State.emit_keeps {s0 s : State} (h : Keeps s0 s) (o) :
    Keeps s0 (State.emit s o) := by
  unfold State.emit
  repeat' with_reducible first
    | assumption | apply Keeps.record

theorem State.fault_keeps {s0 s : State} (h : Keeps s0 s) (e) :
    Keeps s0 (State.fault s e) := by
  unfold State.fault
  repeat' with_reducible first
    | assumption | apply Keeps.record

theorem State.raiseF_keeps {s0 s : State} (h : Keeps s0 s) (evt bit cnt src res) :
    Keeps s0 (State.raiseF s evt bit cnt src res) := by
  unfold State.raiseF
  repeat' with_reducible first
    | assumption | apply State.fault_keeps | apply State.raise_keeps | apply Keeps.record

theorem State.flashOp_keeps {s0 s : State} (h : Keeps s0 s) (addr) :
    Keeps s0 (State.flashOp s addr).1 := by
  unfold State.flashOp
  repeat' with_reducible first
    | assumption | apply State.fault_keeps | split | dsimp only | apply Keeps.record

theorem State.flashRead_keeps {s0 s : State} (h : Keeps s0 s) (addr) :
    Keeps s0 (State.flashRead s addr).1 := by
  unfold State.flashRead
  repeat' with_reducible first
    | assumption | apply State.fault_keeps | split | dsimp only | apply Keeps.record

theorem State.whenUp_keeps {s0 s : State} (h : Keeps s0 s) (f) (hk : ∀ t, Keeps s0 t → Keeps s0 (f t)) :
    Keeps s0 (State.whenUp s f) := by
  unfold State.whenUp
  repeat' with_reducible first
    | intro _ | assumption | apply hk | apply Keeps.ite | split

theorem State.setSup_keeps {s0 s : State} (h : Keeps s0 s) (x) :
    Keeps s0 (State.setSup s x) := by
  unfold State.setSup
  repeat' with_reducible first
    | assumption | apply Keeps.record

/-! ### Words -/

theorem State.sramWrite_keeps {s0 s : State} (h : Keeps s0 s) (a w pois) : Keeps s0 (s.sramWrite a w pois) :=
  h.trans ⟨rfl, id, fun m => ⟨sorted_tput _ _ _ m.1, nodefault_tput _ _ _ m.2.1, sorted_tput _ _ _ m.2.2.1,
    nodefault_tput _ _ _ m.2.2.2⟩, .refl _⟩

theorem State.setWq_keeps {s0 s : State} (h : Keeps s0 s) (q x) :
    Keeps s0 (State.setWq s q x) := by
  unfold State.setWq
  repeat' with_reducible first
    | assumption | apply Keeps.record

theorem State.qPush_keeps {s0 s : State} (h : Keeps s0 s) (q w pois) :
    Keeps s0 (State.qPush s q w pois) := by
  unfold State.qPush
  repeat' with_reducible first
    | assumption | apply State.setWq_keeps | apply State.sramWrite_keeps | dsimp only | apply Keeps.record

theorem State.qPushAll_keeps {s0 s : State} (h : Keeps s0 s) (q ws pois) :
    Keeps s0 (State.qPushAll s q ws pois) := by
  unfold State.qPushAll
  repeat' with_reducible first
    | intro _ | assumption | apply State.qPush_keeps | apply Keeps.foldl | dsimp only

theorem State.qCommit_keeps {s0 s : State} (h : Keeps s0 s) (q token) :
    Keeps s0 (State.qCommit s q token) := by
  unfold State.qCommit
  repeat' with_reducible first
    | assumption | apply State.setWq_keeps | apply State.count_keeps | dsimp only | apply Keeps.record

theorem State.qRollback_keeps {s0 s : State} (h : Keeps s0 s) (q) :
    Keeps s0 (State.qRollback s q) := by
  unfold State.qRollback
  repeat' with_reducible first
    | assumption | apply State.setWq_keeps | dsimp only | apply Keeps.record

theorem State.qRaise_keeps {s0 s : State} (h : Keeps s0 s) (q bit) :
    Keeps s0 (State.qRaise s q bit) := by
  unfold State.qRaise
  repeat' with_reducible first
    | assumption | apply State.raiseF_keeps | apply State.raise_keeps | apply Keeps.ite | split

theorem State.bufIntegrity_keeps {s0 s : State} (h : Keeps s0 s) :
    Keeps s0 (State.bufIntegrity s) := by
  unfold State.bufIntegrity
  repeat' with_reducible first
    | assumption | apply State.raiseF_keeps

theorem State.qEndEpisode_keeps {s0 s : State} (h : Keeps s0 s) (q) :
    Keeps s0 (State.qEndEpisode s q) := by
  unfold State.qEndEpisode
  repeat' with_reducible first
    | assumption | apply State.qPush_keeps | apply State.setWq_keeps | apply State.count_keeps | dsimp only
    | apply Keeps.record

theorem State.qBegin_keeps {s0 s : State} (h : Keeps s0 s) (q) :
    Keeps s0 (State.qBegin s q) := by
  unfold State.qBegin
  repeat' with_reducible first
    | assumption | apply State.qEndEpisode_keeps | apply Keeps.ite | split

theorem State.qDrop_keeps {s0 s : State} (h : Keeps s0 s) (q n) :
    Keeps s0 (State.qDrop s q n) := by
  unfold State.qDrop
  repeat' with_reducible first
    | assumption | apply State.qRaise_keeps | apply State.qRollback_keeps | apply State.setWq_keeps
    | apply State.count_keeps | apply Keeps.ite | split | dsimp only | apply Keeps.record

theorem State.qReceive_keeps {s0 s : State} (h : Keeps s0 s) (q record) :
    Keeps s0 (State.qReceive s q record) := by
  unfold State.qReceive
  repeat' with_reducible first
    | assumption | apply State.qDrop_keeps | apply State.qBegin_keeps | apply State.qRaise_keeps
    | apply State.qCommit_keeps | apply State.qPushAll_keeps | apply State.count_keeps | apply Keeps.ite | split
    | dsimp only

theorem State.qPop_keeps {s0 s : State} (h : Keeps s0 s) (q) :
    Keeps s0 (State.qPop s q).1 := by
  unfold State.qPop
  repeat' with_reducible first
    | assumption | apply State.setWq_keeps | dsimp only | apply Keeps.record

theorem State.qWordErr_keeps {s0 s : State} (h : Keeps s0 s) (q a i errs) : Keeps s0 (s.qWordErr q a i errs).1 := by
  unfold State.qWordErr
  repeat' with_reducible first
    | assumption | apply State.fault_keeps | apply Keeps.mark | apply State.qRaise_keeps | apply State.count_keeps
    | split | dsimp only

theorem State.qUpset_keeps {s0 s : State} (h : Keeps s0 s) (q w errs) :
    Keeps s0 (State.qUpset s q w errs) := by
  unfold State.qUpset
  repeat' with_reducible first
    | intro _ | assumption | apply Keeps.foldl | dsimp only | apply Keeps.record

theorem State.qTakeWords_keeps {s0 s : State} (h : Keeps s0 s) (q errs n i t) :
    Keeps s0 (s.qTakeWords q errs n i t).1 := by
  induction n generalizing s i t with
  | zero => exact h
  | succ n ih =>
    unfold State.qTakeWords
    repeat' with_reducible first
      | assumption | apply ih | apply State.bufIntegrity_keeps | apply State.qRaise_keeps | apply State.qWordErr_keeps
      | apply State.qPop_keeps | apply Keeps.ite | apply Keeps.fst_ite | split | dsimp only

theorem State.qTake_keeps {s0 s : State} (h : Keeps s0 s) (q errs) :
    Keeps s0 (State.qTake s q errs).1 := by
  unfold State.qTake
  repeat' with_reducible first
    | assumption | apply State.qTakeWords_keeps | apply State.qEndEpisode_keeps | apply State.setWq_keeps
    | apply Keeps.ite | apply Keeps.fst_ite | split | dsimp only | apply Keeps.record

theorem State.qUnderrun_keeps {s0 s : State} (h : Keeps s0 s) (q) :
    Keeps s0 (State.qUnderrun s q) := by
  unfold State.qUnderrun
  repeat' with_reducible first
    | assumption | apply State.qRaise_keeps

theorem State.qDropPkt_keeps {s0 s : State} (h : Keeps s0 s) (q) :
    Keeps s0 (State.qDropPkt s q) := by
  unfold State.qDropPkt
  repeat' with_reducible first
    | assumption | apply State.qTake_keeps | apply State.setWq_keeps | apply Keeps.ite | apply Keeps.fst_ite | split
    | dsimp only | apply Keeps.record

theorem State.qClaim_keeps {s0 s : State} (h : Keeps s0 s) (q agent) :
    Keeps s0 (State.qClaim s q agent) := by
  unfold State.qClaim
  repeat' with_reducible first
    | assumption | apply State.setWq_keeps | apply Keeps.ite | split | dsimp only | apply Keeps.record

theorem State.qGrant_keeps {s0 s : State} (h : Keeps s0 s) (q) :
    Keeps s0 (State.qGrant s q) := by
  unfold State.qGrant
  repeat' with_reducible first
    | assumption | apply State.setWq_keeps | split | dsimp only | apply Keeps.record

theorem State.qRelease_keeps {s0 s : State} (h : Keeps s0 s) (q) :
    Keeps s0 (State.qRelease s q) := by
  unfold State.qRelease
  repeat' with_reducible first
    | assumption | apply State.setWq_keeps | apply Keeps.record

theorem State.qWithdraw_keeps {s0 s : State} (h : Keeps s0 s) (q agent) :
    Keeps s0 (State.qWithdraw s q agent) := by
  unfold State.qWithdraw
  repeat' with_reducible first
    | assumption | apply State.qRelease_keeps | apply State.qRaise_keeps | apply State.qRollback_keeps
    | apply State.setWq_keeps | apply Keeps.ite | split | dsimp only | apply Keeps.record

theorem State.qPushCredit_keeps {s0 s : State} (h : Keeps s0 s) (q ws) : Keeps s0 (s.qPushCredit q ws).1 := by
  induction ws generalizing s with
  | nil => exact h
  | cons w r ih =>
    unfold State.qPushCredit
    split
    · exact h
    · exact ih (State.qPush_keeps h _ _ _)

theorem State.qFlush_keeps {s0 s : State} (h : Keeps s0 s) (q) :
    Keeps s0 (State.qFlush s q).1 := by
  unfold State.qFlush
  repeat' with_reducible first
    | assumption | apply State.setWq_keeps | dsimp only | apply Keeps.record

theorem State.qEmptyOut_keeps {s0 s : State} (h : Keeps s0 s) (q) :
    Keeps s0 (State.qEmptyOut s q) := by
  unfold State.qEmptyOut
  repeat' with_reducible first
    | assumption | apply State.setWq_keeps

theorem State.setChain_keeps {s0 s : State} (h : Keeps s0 s) (c x) :
    Keeps s0 (State.setChain s c x) := by
  unfold State.setChain
  repeat' with_reducible first
    | assumption | apply Keeps.ite | split | apply Keeps.record

theorem State.chainLost_keeps {s0 s : State} (h : Keeps s0 s) (c hand) :
    Keeps s0 (State.chainLost s c hand) := by
  unfold State.chainLost
  repeat' with_reducible first
    | assumption | apply State.fault_keeps | apply State.raise_keeps | apply Keeps.ite | split | dsimp only
    | apply Keeps.record

theorem State.chainPush_keeps {s0 s : State} (h : Keeps s0 s) (c item hand) :
    Keeps s0 (State.chainPush s c item hand).1 := by
  unfold State.chainPush
  repeat' with_reducible first
    | assumption | apply State.chainLost_keeps | apply State.setChain_keeps | apply Keeps.ite | apply Keeps.fst_ite
    | split | dsimp only | apply Keeps.record

theorem State.chainPop_keeps {s0 s : State} (h : Keeps s0 s) (c) :
    Keeps s0 (State.chainPop s c).1 := by
  unfold State.chainPop
  repeat' with_reducible first
    | assumption | apply State.setChain_keeps | apply State.fault_keeps | apply State.raise_keeps | split | dsimp only
    | apply Keeps.record

/-! ### Mailbox -/

theorem State.setChan_keeps {s0 s : State} (h : Keeps s0 s) (c x) :
    Keeps s0 (State.setChan s c x) := by
  unfold State.setChan
  repeat' with_reducible first
    | assumption | apply Keeps.record

theorem State.keywayViolation_keeps {s0 s : State} (h : Keeps s0 s) (c w write) :
    Keeps s0 (State.keywayViolation s c w write) := by
  unfold State.keywayViolation
  repeat' with_reducible first
    | assumption | apply State.fault_keeps | apply State.raise_keeps | apply State.flag_keeps | apply State.put_keeps
    | apply Keeps.ite | split | dsimp only | apply Keeps.record

theorem State.mbxRaise_keeps {s0 s : State} (h : Keeps s0 s) (c bit) :
    Keeps s0 (State.mbxRaise s c bit) := by
  unfold State.mbxRaise
  repeat' with_reducible first
    | assumption | apply State.raise_keeps

theorem State.tumblerRead_keeps {s0 s : State} (h : Keeps s0 s) (c w) :
    Keeps s0 (State.tumblerRead s c w).1 := by
  unfold State.tumblerRead
  repeat' with_reducible first
    | assumption | apply State.keywayViolation_keeps | apply State.setChan_keeps | apply Keeps.ite
    | apply Keeps.fst_ite | split | dsimp only | apply Keeps.record

theorem State.tumblerWrite_keeps {s0 s : State} (h : Keeps s0 s) (c w v) :
    Keeps s0 (State.tumblerWrite s c w v) := by
  unfold State.tumblerWrite
  repeat' with_reducible first
    | assumption | apply State.keywayViolation_keeps | apply State.setChan_keeps | apply Keeps.ite | split
    | apply Keeps.record

theorem State.freeTumblers_keeps {s0 s : State} (h : Keeps s0 s) (p) :
    Keeps s0 (State.freeTumblers s p) := by
  unfold State.freeTumblers
  repeat' with_reducible first
    | intro _ | assumption | apply State.setChan_keeps | apply Keeps.ite | apply Keeps.foldl | split | dsimp only
    | apply Keeps.record

theorem State.txWordWrite_keeps {s0 s : State} (h : Keeps s0 s) (c i w v) :
    Keeps s0 (State.txWordWrite s c i w v) := by
  unfold State.txWordWrite
  repeat' with_reducible first
    | assumption | apply State.mbxRaise_keeps | apply State.keywayViolation_keeps | apply State.put_keeps
    | apply Keeps.ite | split

theorem State.mailboxGo_keeps {s0 s : State} (h : Keeps s0 s) (c w release) :
    Keeps s0 (State.mailboxGo s c w release) := by
  unfold State.mailboxGo
  repeat' with_reducible first
    | assumption | apply State.mbxRaise_keeps | apply State.keywayViolation_keeps | apply State.setChan_keeps
    | apply Keeps.ite | split | apply Keeps.record

theorem State.mailboxCopy_keeps {s0 s : State} (h : Keeps s0 s) (c) :
    Keeps s0 (State.mailboxCopy s c) := by
  unfold State.mailboxCopy
  repeat' with_reducible first
    | intro _ | assumption | apply State.setChan_keeps | apply Keeps.ite | apply Keeps.fst_ite | split | dsimp only
    | apply Keeps.record

theorem State.mailboxDeliver_keeps {s0 s : State} (h : Keeps s0 s) (c m) :
    Keeps s0 (State.mailboxDeliver s c m) := by
  unfold State.mailboxDeliver
  repeat' with_reducible first
    | assumption | apply State.mbxRaise_keeps | apply State.setChan_keeps | apply State.count_keeps | apply Keeps.ite
    | split | dsimp only | apply Keeps.record

theorem State.mailboxCheck_keeps {s0 s : State} (h : Keeps s0 s) (c) :
    Keeps s0 (State.mailboxCheck s c) := by
  unfold State.mailboxCheck
  repeat' with_reducible first
    | assumption | apply State.mailboxDeliver_keeps | apply State.mbxRaise_keeps | apply State.setChan_keeps
    | apply State.fault_keeps | apply Keeps.ite | split | dsimp only | apply Keeps.record

theorem State.mailboxDrop_keeps {s0 s : State} (h : Keeps s0 s) (c) :
    Keeps s0 (State.mailboxDrop s c) := by
  unfold State.mailboxDrop
  repeat' with_reducible first
    | assumption | apply State.setChan_keeps | dsimp only | apply Keeps.record

theorem State.mailboxPop_keeps {s0 s : State} (h : Keeps s0 s) (c w) :
    Keeps s0 (State.mailboxPop s c w) := by
  unfold State.mailboxPop
  repeat' with_reducible first
    | assumption | apply State.mailboxDrop_keeps | apply State.mbxRaise_keeps | apply State.keywayViolation_keeps
    | apply Keeps.ite | split

theorem State.mbxCtlWrite_keeps {s0 s : State} (h : Keeps s0 s) (c w v) :
    Keeps s0 (State.mbxCtlWrite s c w v) := by
  unfold State.mbxCtlWrite
  repeat' with_reducible first
    | assumption | apply State.mailboxPop_keeps | apply State.mailboxGo_keeps | apply State.keywayViolation_keeps
    | apply State.put_keeps | apply Keeps.ite | split | dsimp only

theorem State.keywayRefused_keeps {s0 s : State} (h : Keeps s0 s) (c w) :
    Keeps s0 (State.keywayRefused s c w) := by
  unfold State.keywayRefused
  repeat' with_reducible first
    | assumption | apply State.keywayViolation_keeps | apply State.raise_keeps | apply Keeps.ite | split | dsimp only

theorem State.emptyChan_keeps {s0 s : State} (h : Keeps s0 s) (c) :
    Keeps s0 (State.emptyChan s c) := by
  unfold State.emptyChan
  repeat' with_reducible first
    | assumption | apply State.setChan_keeps | apply State.put_keeps

theorem State.keywayBind_keeps {s0 s : State} (h : Keeps s0 s) (c w v) :
    Keeps s0 (State.keywayBind s c w v) := by
  unfold State.keywayBind
  repeat' with_reducible first
    | assumption | apply State.emptyChan_keeps | apply State.keywayRefused_keeps | apply State.put_keeps
    | apply Keeps.ite | split | dsimp only

theorem State.keywayLock_keeps {s0 s : State} (h : Keeps s0 s) (w v) :
    Keeps s0 (State.keywayLock s w v) := by
  unfold State.keywayLock
  repeat' with_reducible first
    | assumption | apply State.keywayRefused_keeps | apply State.put_keeps | apply Keeps.ite | split

theorem tumblerReadEff_keeps {s0 s : State} (h : Keeps s0 s) (c mid origin) :
    Keeps s0 (tumblerReadEff c mid origin s) := by
  unfold tumblerReadEff
  repeat' with_reducible first
    | assumption | apply State.tumblerRead_keeps | dsimp only | apply Keeps.record

theorem tumblerReleaseEff_keeps {s0 s : State} (h : Keeps s0 s) (c mid origin value) :
    Keeps s0 (tumblerReleaseEff c mid origin value s) := by
  unfold tumblerReleaseEff
  repeat' with_reducible first
    | assumption | apply State.tumblerWrite_keeps

theorem mailboxGoEff_keeps {s0 s : State} (h : Keeps s0 s) (c mid origin release) :
    Keeps s0 (mailboxGoEff c mid origin release s) := by
  unfold mailboxGoEff
  repeat' with_reducible first
    | assumption | apply State.mailboxGo_keeps

/-! ### Upstream -/

theorem State.setFn_keeps {s0 s : State} (h : Keeps s0 s) (f x) :
    Keeps s0 (State.setFn s f x) := by
  unfold State.setFn
  repeat' with_reducible first
    | assumption | apply Keeps.ite | split | apply Keeps.record

theorem State.freeTag_keeps {s0 s : State} (h : Keeps s0 s) (tag) :
    Keeps s0 (State.freeTag s tag) := by
  unfold State.freeTag
  repeat' with_reducible first
    | assumption | apply Keeps.record

theorem State.setRing_keeps {s0 s : State} (h : Keeps s0 s) (m x) :
    Keeps s0 (State.setRing s m x) := by
  unfold State.setRing
  repeat' with_reducible first
    | assumption | apply Keeps.record

theorem State.ringRaise_keeps {s0 s : State} (h : Keeps s0 s) (m bit) :
    Keeps s0 (State.ringRaise s m bit) := by
  unfold State.ringRaise
  repeat' with_reducible first
    | assumption | apply State.raise_keeps

theorem State.ringCount_keeps {s0 s : State} (h : Keeps s0 s) (m) :
    Keeps s0 (State.ringCount s m) := by
  unfold State.ringCount
  repeat' with_reducible first
    | assumption | apply State.ringRaise_keeps | apply State.setRing_keeps | apply Keeps.ite | split | dsimp only
    | apply Keeps.record

theorem State.issued_keeps {s0 s : State} (h : Keeps s0 s) (f x2) :
    Keeps s0 (State.issued s f x2) := by
  unfold State.issued
  repeat' with_reducible first
    | intro _ | assumption | apply State.ringCount_keeps | apply State.freeTag_keeps | apply State.count_keeps
    | apply State.put_keeps | apply Keeps.ite | apply Keeps.fst_ite | apply Keeps.foldl | apply Keeps.foldl_fst
    | split | dsimp only | apply Keeps.record

theorem State.cplRelease_keeps {s0 s : State} (h : Keeps s0 s) (n) : Keeps s0 (State.cplRelease n s) := by
  induction n generalizing s with
  | zero => exact h
  | succ n ih =>
    unfold State.cplRelease
    split
    · exact h
    · refine Keeps.ite (ih (State.emit_keeps (Keeps.record h) _)) h

theorem State.complete_keeps {s0 s : State} (h : Keeps s0 s) (o) :
    Keeps s0 (State.complete s o) := by
  unfold State.complete
  repeat' with_reducible first
    | assumption | apply State.cplRelease_keeps | apply Keeps.ite | split | dsimp only | apply Keeps.record

theorem State.drainPosts_keeps {s0 s : State} (h : Keeps s0 s) (f n) : Keeps s0 (State.drainPosts f n s) := by
  induction n generalizing s with
  | zero => exact h
  | succ n ih =>
    unfold State.drainPosts
    repeat' with_reducible first
      | assumption | apply ih | apply State.issued_keeps | apply State.emit_keeps | apply State.setFn_keeps
      | apply Keeps.ite | split | dsimp only | apply Keeps.record

theorem State.drain_keeps {s0 s : State} (h : Keeps s0 s) (f) :
    Keeps s0 (State.drain s f) := by
  unfold State.drain
  repeat' with_reducible first
    | assumption | apply State.drainPosts_keeps | apply State.cplRelease_keeps | dsimp only

theorem State.posts_keeps {s0 s : State} (h : Keeps s0 s) (f ps) :
    Keeps s0 (State.posts s f ps) := by
  unfold State.posts
  repeat' with_reducible first
    | assumption | apply State.drain_keeps | apply State.setFn_keeps | apply Keeps.record

theorem State.dataWrite_keeps {s0 s : State} (h : Keeps s0 s) (f addr data) :
    Keeps s0 (State.dataWrite s f addr data) := by
  unfold State.dataWrite
  repeat' with_reducible first
    | intro _ | assumption | apply State.posts_keeps | dsimp only | apply Keeps.record

theorem State.pumpReads_keeps {s0 s : State} (h : Keeps s0 s) (f n) : Keeps s0 (State.pumpReads f n s) := by
  induction n generalizing s with
  | zero => exact h
  | succ n ih =>
    unfold State.pumpReads
    repeat' with_reducible first
      | assumption | apply ih | apply State.emit_keeps | apply State.setFn_keeps
      | apply Keeps.ite | split | dsimp only | apply Keeps.record

theorem State.issueReads_keeps {s0 s : State} (h : Keeps s0 s) (f) :
    Keeps s0 (State.issueReads s f) := by
  unfold State.issueReads
  repeat' with_reducible first
    | assumption | apply State.pumpReads_keeps

theorem State.hostRead_keeps {s0 s : State} (h : Keeps s0 s) (f addr len purpose) :
    Keeps s0 (State.hostRead s f addr len purpose) := by
  unfold State.hostRead
  repeat' with_reducible first
    | intro _ | assumption | apply State.issueReads_keeps | apply State.setFn_keeps | dsimp only | apply Keeps.record

theorem State.endPart_keeps {s0 s : State} (h : Keeps s0 s) (f id c) :
    Keeps s0 (State.endPart s f id c) := by
  unfold State.endPart
  repeat' with_reducible first
    | intro _ | assumption | apply State.setFn_keeps | apply Keeps.record

theorem State.dropReads_keeps {s0 s : State} (h : Keeps s0 s) (f tag) :
    Keeps s0 (State.dropReads s f tag) := by
  unfold State.dropReads
  repeat' with_reducible first
    | intro _ | assumption | apply State.setFn_keeps

theorem State.dropFw_keeps {s0 s : State} (h : Keeps s0 s) (p) :
    Keeps s0 (State.dropFw s p) := by
  unfold State.dropFw
  repeat' with_reducible first
    | intro _ | assumption | dsimp only | apply Keeps.record

theorem State.errMessage_keeps {s0 s : State} (h : Keeps s0 s) (f kind) :
    Keeps s0 (State.errMessage s f kind) := by
  unfold State.errMessage
  repeat' with_reducible first
    | assumption | apply State.emit_keeps | apply Keeps.ite | split

theorem State.headerLog_keeps {s0 s : State} (h : Keeps s0 s) (f e) :
    Keeps s0 (State.headerLog s f e) := by
  unfold State.headerLog
  repeat' with_reducible first
    | intro _ | assumption | apply State.drawFree_keeps | apply State.put_keeps | apply Keeps.ite
    | apply Keeps.fst_ite | apply Keeps.foldl | apply Keeps.foldl_fst | split | dsimp only

theorem State.legacyError_keeps {s0 s : State} (h : Keeps s0 s) (f x2) :
    Keeps s0 (State.legacyError s f x2) := by
  unfold State.legacyError
  repeat' with_reducible first
    | intro _ | assumption | apply State.put_keeps | apply Keeps.ite | apply Keeps.fst_ite | apply Keeps.foldl
    | apply Keeps.foldl_fst | split | dsimp only | apply Keeps.record

theorem State.aer_keeps {s0 s : State} (h : Keeps s0 s) (f e quiet) :
    Keeps s0 (State.aer s f e quiet) := by
  unfold State.aer
  repeat' with_reducible first
    | intro _ | assumption | apply State.legacyError_keeps | apply State.headerLog_keeps
    | apply State.errMessage_keeps | apply State.put_keeps | apply Keeps.ite | apply Keeps.fst_ite | apply Keeps.foldl
    | apply Keeps.foldl_fst | split | dsimp only | apply Keeps.record

theorem State.aerCor_keeps {s0 s : State} (h : Keeps s0 s) (f e) :
    Keeps s0 (State.aerCor s f e) := by
  unfold State.aerCor
  repeat' with_reducible first
    | assumption | apply State.errMessage_keeps | apply State.put_keeps | apply Keeps.ite | split | dsimp only

theorem State.aerAdvisory_keeps {s0 s : State} (h : Keeps s0 s) (f e) :
    Keeps s0 (State.aerAdvisory s f e) := by
  unfold State.aerAdvisory
  repeat' with_reducible first
    | assumption | apply State.aerCor_keeps | apply State.aer_keeps | apply Keeps.ite | split

theorem State.hifRaise_keeps {s0 s : State} (h : Keeps s0 s) (bit f) :
    Keeps s0 (State.hifRaise s bit f) := by
  unfold State.hifRaise
  repeat' with_reducible first
    | assumption | apply State.raiseF_keeps | apply State.raise_keeps | apply Keeps.ite | split

/-! ### Lands -/

theorem State.emitOn_keeps {s0 s : State} (h : Keeps s0 s) (f o) :
    Keeps s0 (State.emitOn s f o) := by
  unfold State.emitOn
  repeat' with_reducible first
    | assumption | apply State.emit_keeps | apply Keeps.ite | split

/-! ### Interrupts -/

theorem State.msixPost_keeps {s0 s : State} (h : Keeps s0 s) (f x) :
    Keeps s0 (State.msixPost s f x) := by
  unfold State.msixPost
  repeat' with_reducible first
    | assumption | apply State.posts_keeps | apply Keeps.record

theorem State.msixDue_keeps {s0 s : State} (h : Keeps s0 s) (f x) :
    Keeps s0 (State.msixDue s f x) := by
  unfold State.msixDue
  repeat' with_reducible first
    | assumption | apply State.msixPost_keeps | apply State.put_keeps | apply Keeps.ite | split

theorem State.levelFell_keeps {s0 s : State} (h : Keeps s0 s) (f x) :
    Keeps s0 (State.levelFell s f x) := by
  unfold State.levelFell
  repeat' with_reducible first
    | intro _ | assumption | apply State.setFn_keeps | apply State.put_keeps | apply Keeps.ite | split | dsimp only
    | apply Keeps.record

theorem State.levelFalls_keeps {s0 s : State} (h : Keeps s0 s) :
    Keeps s0 (State.levelFalls s) := by
  unfold State.levelFalls
  repeat' with_reducible first
    | intro _ | assumption | apply State.levelFell_keeps | apply Keeps.ite | apply Keeps.fst_ite | apply Keeps.foldl
    | apply Keeps.foldl_fst | split | dsimp only

theorem State.levelHigh_keeps {s0 s : State} (h : Keeps s0 s) (f x) :
    Keeps s0 (State.levelHigh s f x) := by
  unfold State.levelHigh
  repeat' with_reducible first
    | assumption | apply Keeps.record

theorem State.levelSeen_keeps {s0 s : State} (h : Keeps s0 s) (f x) :
    Keeps s0 (State.levelSeen s f x) := by
  unfold State.levelSeen
  repeat' with_reducible first
    | assumption | apply State.levelHigh_keeps | apply State.levelFell_keeps | apply State.msixDue_keeps
    | apply Keeps.ite | split

theorem State.msixPending_keeps {s0 s : State} (h : Keeps s0 s) (f x) :
    Keeps s0 (State.msixPending s f x) := by
  unfold State.msixPending
  repeat' with_reducible first
    | assumption | apply State.msixPost_keeps | apply Keeps.ite | split

theorem State.rearm_keeps {s0 s : State} (h : Keeps s0 s) (f v) :
    Keeps s0 (State.rearm s f v) := by
  unfold State.rearm
  repeat' with_reducible first
    | intro _ | assumption | apply State.levelHigh_keeps | apply State.msixDue_keeps | apply Keeps.ite
    | apply Keeps.foldl | split | dsimp only

/-! ### Trace -/

theorem State.tracePush_keeps {s0 s : State} (h : Keeps s0 s) (c i hand) :
    Keeps s0 (State.tracePush s c i hand).1 := by
  unfold State.tracePush
  repeat' with_reducible first
    | assumption | apply State.chainPush_keeps | apply Keeps.ite | apply Keeps.fst_ite | split | dsimp only
    | apply Keeps.record

theorem State.trace_keeps {s0 s : State} (h : Keeps s0 s) (c i hand) :
    Keeps s0 (State.trace s c i hand) := by
  unfold State.trace
  repeat' with_reducible first
    | assumption | apply State.tracePush_keeps | dsimp only

theorem State.traceStart_keeps {s0 s : State} (h : Keeps s0 s) (kept) :
    Keeps s0 (State.traceStart s kept) := by
  unfold State.traceStart
  repeat' with_reducible first
    | assumption | apply State.trace_keeps | apply Keeps.record

/-! ### Rings -/

theorem State.setSq_keeps {s0 s : State} (h : Keeps s0 s) (n x) :
    Keeps s0 (State.setSq s n x) := by
  unfold State.setSq
  repeat' with_reducible first
    | assumption | apply Keeps.record

theorem State.traceSq_keeps {s0 s : State} (h : Keeps s0 s) (n) :
    Keeps s0 (State.traceSq s n) := by
  unfold State.traceSq
  repeat' with_reducible first
    | assumption | apply State.trace_keeps | dsimp only | apply Keeps.record

theorem State.sqTo_keeps {s0 s : State} (h : Keeps s0 s) (n st) :
    Keeps s0 (State.sqTo s n st) := by
  unfold State.sqTo
  repeat' with_reducible first
    | assumption | apply State.traceSq_keeps | apply State.setSq_keeps | apply Keeps.record

theorem State.dropFetch_keeps {s0 s : State} (h : Keeps s0 s) (n) :
    Keeps s0 (State.dropFetch s n) := by
  unfold State.dropFetch
  repeat' with_reducible first
    | intro _ | assumption | apply State.setFn_keeps | dsimp only

theorem State.sqError_keeps {s0 s : State} (h : Keeps s0 s) (n err val) :
    Keeps s0 (State.sqError s n err val) := by
  unfold State.sqError
  repeat' with_reducible first
    | assumption | apply State.dropFetch_keeps | apply State.traceSq_keeps | apply State.setSq_keeps
    | apply State.fault_keeps | apply Keeps.record

theorem State.postRecord_keeps {s0 s : State} (h : Keeps s0 s) (m tag sq kind index esw echo k) :
    Keeps s0 (State.postRecord s m tag sq kind index esw echo k) := by
  unfold State.postRecord
  repeat' with_reducible first
    | assumption | apply State.posts_keeps | apply State.setRing_keeps | dsimp only | apply Keeps.record

theorem State.unreserve_keeps {s0 s : State} (h : Keeps s0 s) (m) :
    Keeps s0 (State.unreserve s m) := by
  unfold State.unreserve
  repeat' with_reducible first
    | assumption | apply State.setRing_keeps | dsimp only | apply Keeps.record

theorem State.postAdmin_keeps {s0 s : State} (h : Keeps s0 s) (slot status reply entry) :
    Keeps s0 (State.postAdmin s slot status reply entry) := by
  unfold State.postAdmin
  repeat' with_reducible first
    | assumption | apply State.unreserve_keeps | apply State.postRecord_keeps | dsimp only

/-! ### Flags -/

theorem State.writeFld_keeps {s0 s : State} (h : Keeps s0 s) (u mid v f) :
    Keeps s0 (State.writeFld s u mid v f) := by
  unfold State.writeFld
  repeat' with_reducible first
    | assumption | apply State.put_keeps | apply Keeps.ite | split | dsimp only

theorem State.writeFlds_keeps {s0 s : State} (h : Keeps s0 s) (mid v fs) :
    Keeps s0 (State.writeFlds s mid v fs) := by
  unfold State.writeFlds
  repeat' with_reducible first
    | intro _ | assumption | apply State.writeFld_keeps | apply Keeps.foldl | dsimp only

theorem State.writeOthers_keeps {s0 s : State} (h : Keeps s0 s) (mid v f) :
    Keeps s0 (State.writeOthers s mid v f) := by
  unfold State.writeOthers
  repeat' with_reducible first
    | assumption | apply State.writeFlds_keeps | split | dsimp only

/-! ### Ports -/

theorem State.quietSet_keeps {s0 s : State} (h : Keeps s0 s) :
    Keeps s0 (State.quietSet s) := by
  unfold State.quietSet
  repeat' with_reducible first
    | assumption | apply Keeps.record

/-! ### Flits -/

theorem State.setPt_keeps {s0 s : State} (h : Keeps s0 s) (p x) :
    Keeps s0 (State.setPt s p x) := by
  unfold State.setPt
  repeat' with_reducible first
    | assumption | apply Keeps.ite | split | apply Keeps.record

theorem State.ptRaise_keeps {s0 s : State} (h : Keeps s0 s) (p bit res) :
    Keeps s0 (State.ptRaise s p bit res) := by
  unfold State.ptRaise
  repeat' with_reducible first
    | assumption | apply State.raiseF_keeps | apply State.raise_keeps | apply Keeps.ite | split | dsimp only

theorem State.alignAll_keeps {s0 s : State} (h : Keeps s0 s) (p n) :
    Keeps s0 (State.alignAll s p n) := by
  unfold State.alignAll
  repeat' with_reducible first
    | intro _ | assumption | apply State.emit_keeps | apply Keeps.ite | apply Keeps.fst_ite | apply Keeps.foldl
    | apply Keeps.foldl_fst | split | dsimp only

theorem State.txFlit_keeps {s0 s : State} (h : Keeps s0 s) (p f) :
    Keeps s0 (State.txFlit s p f) := by
  unfold State.txFlit
  repeat' with_reducible first
    | assumption | apply State.alignAll_keeps | apply State.setPt_keeps | apply State.emit_keeps | apply Keeps.ite
    | apply Keeps.fst_ite | split | dsimp only | apply Keeps.record

theorem State.freed_keeps {s0 s : State} (h : Keeps s0 s) (f) :
    Keeps s0 (State.freed s f) := by
  unfold State.freed
  repeat' with_reducible first
    | assumption | apply State.setPt_keeps | split | dsimp only

theorem State.pump_keeps {s0 s : State} (h : Keeps s0 s) (p n) : Keeps s0 (State.pump p n s) := by
  induction n generalizing s with
  | zero => exact h
  | succ n ih =>
    unfold State.pump
    dsimp only
    split
    · exact h
    · split
      · exact h
      · exact ih (State.txFlit_keeps (State.freed_keeps (State.put_keeps (State.setPt_keeps h _ _) _ _) _) _ _)

theorem State.pumpAll_keeps {s0 s : State} (h : Keeps s0 s) (p) :
    Keeps s0 (State.pumpAll s p) := by
  unfold State.pumpAll
  repeat' with_reducible first
    | assumption | apply State.pump_keeps

theorem State.sendOn_keeps {s0 s : State} (h : Keeps s0 s) (p f) :
    Keeps s0 (State.sendOn s p f) := by
  unfold State.sendOn
  repeat' with_reducible first
    | assumption | apply State.pumpAll_keeps | apply State.freed_keeps | apply State.setPt_keeps | apply Keeps.ite
    | split | dsimp only | apply Keeps.record

theorem State.sendTo_keeps {s0 s : State} (h : Keeps s0 s) (type dst payload poison) :
    Keeps s0 (State.sendTo s type dst payload poison) := by
  unfold State.sendTo
  repeat' with_reducible first
    | assumption | apply State.sendOn_keeps | split | dsimp only | apply Keeps.record

theorem State.castOn_keeps {s0 s : State} (h : Keeps s0 s) (p type payload) :
    Keeps s0 (State.castOn s p type payload) := by
  unfold State.castOn
  repeat' with_reducible first
    | assumption | apply State.sendOn_keeps | apply Keeps.record

theorem State.cast_keeps {s0 s : State} (h : Keeps s0 s) (type payload) :
    Keeps s0 (State.cast s type payload) := by
  unfold State.cast
  repeat' with_reducible first
    | assumption | apply State.castOn_keeps | apply Keeps.ite | split | dsimp only

theorem State.announce_keeps {s0 s : State} (h : Keeps s0 s) (assigned) :
    Keeps s0 (State.announce s assigned) := by
  unfold State.announce
  repeat' with_reducible first
    | assumption | apply State.cast_keeps

theorem State.rxHeader_keeps {s0 s : State} (h : Keeps s0 s) (p f) :
    Keeps s0 (State.rxHeader s p f) := by
  unfold State.rxHeader
  repeat' with_reducible first
    | assumption | apply State.pumpAll_keeps | apply State.setPt_keeps | dsimp only | apply Keeps.record

theorem State.acceptAs_keeps {s0 s : State} (h : Keeps s0 s) (p c f) :
    Keeps s0 (State.acceptAs s p c f) := by
  unfold State.acceptAs
  repeat' with_reducible first
    | assumption | apply State.rxHeader_keeps | apply State.ptRaise_keeps | apply State.setPt_keeps
    | apply State.count_keeps | apply State.put_keeps | apply Keeps.ite | split | dsimp only | apply Keeps.record

theorem State.accept_keeps {s0 s : State} (h : Keeps s0 s) (p c f) :
    Keeps s0 (State.accept s p c f) := by
  unfold State.accept
  repeat' with_reducible first
    | assumption | apply State.acceptAs_keeps

theorem State.noRoute_keeps {s0 s : State} (h : Keeps s0 s) (dst type reason payload) :
    Keeps s0 (State.noRoute s dst type reason payload) := by
  unfold State.noRoute
  repeat' with_reducible first
    | assumption | apply State.sendTo_keeps

theorem State.relay_keeps {s0 s : State} (h : Keeps s0 s) (p type f) :
    Keeps s0 (State.relay s p type f) := by
  unfold State.relay
  repeat' with_reducible first
    | assumption | apply State.sendOn_keeps | apply Keeps.ite | split | apply Keeps.record

end Sys2Proof.Machine
end

