-- ==== Sys2Proof/Laws/KeepsPorts.lean ====
section
/-!
SUPPORT. What the operations of programs, the fault collector, the ports and the work queues keep.
-/

namespace Sys2Proof.Machine

set_option linter.unusedTactic false
set_option linter.unreachableTactic false

/-! ### Programs -/

theorem State.setProg_keeps {s0 s : State} (h : Keeps s0 s) (tag p) :
    Keeps s0 (State.setProg s tag p) := by
  unfold State.setProg
  repeat' with_reducible first
    | assumption | apply Keeps.record

theorem State.setOp_keeps {s0 s : State} (h : Keeps s0 s) (a o) :
    Keeps s0 (State.setOp s a o) := by
  unfold State.setOp
  repeat' with_reducible first
    | assumption | apply Keeps.record

theorem State.updOp_keeps {s0 s : State} (h : Keeps s0 s) (a f) :
    Keeps s0 (State.updOp s a f) := by
  unfold State.updOp
  repeat' with_reducible first
    | assumption | apply State.setOp_keeps | split | dsimp only

theorem State.updProg_keeps {s0 s : State} (h : Keeps s0 s) (tag f) :
    Keeps s0 (State.updProg s tag f) := by
  unfold State.updProg
  repeat' with_reducible first
    | assumption | apply State.setProg_keeps | split | dsimp only

theorem State.endOp_keeps {s0 s : State} (h : Keeps s0 s) (a status detail) :
    Keeps s0 (State.endOp s a status detail) := by
  unfold State.endOp
  repeat' with_reducible first
    | intro _ | assumption | apply State.updOp_keeps | apply Keeps.ite | split | apply Keeps.record

theorem State.endToken_keeps {s0 s : State} (h : Keeps s0 s) (token status detail) :
    Keeps s0 (State.endToken s token status detail) := by
  unfold State.endToken
  repeat' with_reducible first
    | assumption | apply State.endOp_keeps | split | dsimp only

theorem State.prgReq_keeps {s0 s : State} (h : Keeps s0 s) (unit tag kind rest poison) :
    Keeps s0 (State.prgReq s unit tag kind rest poison) := by
  unfold State.prgReq
  repeat' with_reducible first
    | assumption | apply State.sendTo_keeps

theorem State.prgRsp_keeps {s0 s : State} (h : Keeps s0 s) (unit tag inst kind rest poison) :
    Keeps s0 (State.prgRsp s unit tag inst kind rest poison) := by
  unfold State.prgRsp
  repeat' with_reducible first
    | assumption | apply State.sendTo_keeps

theorem State.pumpOut_keeps {s0 s : State} (h : Keeps s0 s) (slot n) : Keeps s0 (State.pumpOut slot n s) := by
  induction n generalizing s with
  | zero => exact h
  | succ n ih =>
    unfold State.pumpOut
    repeat' with_reducible first
      | assumption | apply ih | apply State.prgRsp_keeps | apply Keeps.ite | split | dsimp only | apply Keeps.record

theorem State.pumpSlot_keeps {s0 s : State} (h : Keeps s0 s) (slot) :
    Keeps s0 (State.pumpSlot s slot) := by
  unfold State.pumpSlot
  repeat' with_reducible first
    | assumption | apply State.pumpOut_keeps | split | dsimp only

theorem State.ccwStarted_keeps {s0 s : State} (h : Keeps s0 s) (tag addr c) :
    Keeps s0 (State.ccwStarted s tag addr c) := by
  unfold State.ccwStarted
  repeat' with_reducible first
    | assumption | apply State.setProg_keeps | apply State.trace_keeps | split | dsimp only | apply Keeps.record

theorem State.useOp_keeps {s0 s : State} (h : Keeps s0 s) (a bs) :
    Keeps s0 (State.useOp s a bs).1 := by
  unfold State.useOp
  repeat' with_reducible first
    | intro _ | assumption | apply State.ccwStarted_keeps | apply State.setOp_keeps | apply Keeps.ite
    | apply Keeps.fst_ite | apply Keeps.foldl | apply Keeps.foldl_fst | split | dsimp only | apply Keeps.record

theorem State.deliver_keeps {s0 s : State} (h : Keeps s0 s) (a bs pois) :
    Keeps s0 (State.deliver s a bs pois) := by
  unfold State.deliver
  repeat' with_reducible first
    | intro _ | assumption | apply State.useOp_keeps | apply State.pumpSlot_keeps | apply State.setOp_keeps
    | apply State.dataWrite_keeps | apply Keeps.ite | apply Keeps.fst_ite | apply Keeps.foldl | apply Keeps.foldl_fst
    | split | dsimp only | apply Keeps.record

theorem State.withdraw_keeps {s0 s : State} (h : Keeps s0 s) (a) :
    Keeps s0 (State.withdraw s a) := by
  unfold State.withdraw
  repeat' with_reducible first
    | intro _ | assumption | apply State.qWithdraw_keeps | apply Keeps.foldl | apply Keeps.foldl_fst | dsimp only

theorem State.cancelFar_keeps {s0 s : State} (h : Keeps s0 s) (fn unit tag) :
    Keeps s0 (State.cancelFar s fn unit tag) := by
  unfold State.cancelFar
  repeat' with_reducible first
    | assumption | apply State.prgReq_keeps | apply Keeps.ite | split | apply Keeps.record

theorem State.sendCancels_keeps {s0 s : State} (h : Keeps s0 s) (fn) :
    Keeps s0 (State.sendCancels s fn) := by
  unfold State.sendCancels
  repeat' with_reducible first
    | intro _ | assumption | apply State.sendTo_keeps | apply Keeps.ite | apply Keeps.fst_ite | apply Keeps.foldl
    | apply Keeps.foldl_fst | split | dsimp only | apply Keeps.record

theorem State.dropRest_keeps {s0 s : State} (h : Keeps s0 s) (o) :
    Keeps s0 (State.dropRest s o) := by
  unfold State.dropRest
  repeat' with_reducible first
    | assumption | apply Keeps.ite | split | dsimp only | apply Keeps.record

theorem State.dropAccess_keeps {s0 s : State} (h : Keeps s0 s) (token) :
    Keeps s0 (State.dropAccess s token) := by
  unfold State.dropAccess
  repeat' with_reducible first
    | intro _ | assumption | apply Keeps.record

theorem State.stopOp_keeps {s0 s : State} (h : Keeps s0 s) (a) :
    Keeps s0 (State.stopOp s a) := by
  unfold State.stopOp
  repeat' with_reducible first
    | assumption | apply State.dropAccess_keeps | apply State.dropRest_keeps | apply State.cancelFar_keeps
    | apply State.withdraw_keeps | apply Keeps.ite | split | dsimp only

theorem State.cheCause_keeps {s0 s : State} (h : Keeps s0 s) (status sq) :
    Keeps s0 (State.cheCause s status sq) := by
  unfold State.cheCause
  repeat' with_reducible first
    | assumption | apply State.raiseF_keeps | apply Keeps.ite | split | dsimp only

theorem State.finalize_keeps {s0 s : State} (h : Keeps s0 s) (tag status p e) :
    Keeps s0 (State.finalize s tag status p e) := by
  unfold State.finalize
  repeat' with_reducible first
    | assumption | apply State.cheCause_keeps | apply State.setProg_keeps | apply State.unreserve_keeps
    | apply State.postRecord_keeps | apply State.trace_keeps | apply State.dropReads_keeps | apply State.count_keeps
    | apply Keeps.ite | apply Keeps.fst_ite | split | dsimp only | apply Keeps.record

theorem State.endProg_keeps {s0 s : State} (h : Keeps s0 s) (tag status detail) :
    Keeps s0 (State.endProg s tag status detail) := by
  unfold State.endProg
  repeat' with_reducible first
    | assumption | apply State.finalize_keeps | apply State.stopOp_keeps | apply Keeps.ite | split | dsimp only

theorem State.endUnstarted_keeps {s0 s : State} (h : Keeps s0 s) (tag status detail residual) :
    Keeps s0 (State.endUnstarted s tag status detail residual) := by
  unfold State.endUnstarted
  repeat' with_reducible first
    | assumption | apply State.finalize_keeps | apply Keeps.ite | split | dsimp only | apply Keeps.record

theorem State.notice_keeps {s0 s : State} (h : Keeps s0 s) (tag p e) :
    Keeps s0 (State.notice s tag p e) := by
  unfold State.notice
  repeat' with_reducible first
    | assumption | apply State.postRecord_keeps | apply State.trace_keeps | apply State.ringRaise_keeps
    | apply Keeps.ite | apply Keeps.fst_ite | split | dsimp only | apply Keeps.record

theorem State.endAll_keeps {s0 s : State} (h : Keeps s0 s) (tags status detail) :
    Keeps s0 (State.endAll s tags status detail) := by
  unfold State.endAll
  repeat' with_reducible first
    | intro _ | assumption | apply State.endProg_keeps | apply Keeps.foldl | dsimp only

theorem State.shutdown_keeps {s0 s : State} (h : Keeps s0 s) (n) :
    Keeps s0 (State.shutdown s n) := by
  unfold State.shutdown
  repeat' with_reducible first
    | intro _ | assumption | apply State.endAll_keeps | apply State.dropFetch_keeps | apply State.sqTo_keeps
    | apply State.setSq_keeps | dsimp only | apply Keeps.record

theorem State.endOps_keeps {s0 s : State} (h : Keeps s0 s) (as status detail) :
    Keeps s0 (State.endOps s as status detail) := by
  unfold State.endOps
  repeat' with_reducible first
    | intro _ | assumption | apply State.endOp_keeps | apply Keeps.foldl | dsimp only

theorem State.failOps_keeps {s0 s : State} (h : Keeps s0 s) (as status detail) :
    Keeps s0 (State.failOps s as status detail) := by
  unfold State.failOps
  repeat' with_reducible first
    | intro _ | assumption | apply State.withdraw_keeps | apply State.endOp_keeps | apply Keeps.foldl | dsimp only

theorem State.portEvent_keeps {s0 s : State} (h : Keeps s0 s) (cls idx func sub) :
    Keeps s0 (State.portEvent s cls idx func sub) := by
  unfold State.portEvent
  repeat' with_reducible first
    | intro _ | assumption | apply State.endOps_keeps

theorem State.ethDrop_keeps {s0 s : State} (h : Keeps s0 s) (idx) :
    Keeps s0 (State.ethDrop s idx) := by
  unfold State.ethDrop
  repeat' with_reducible first
    | assumption | apply State.raise_keeps | apply State.put_keeps | apply Keeps.ite | split | dsimp only
    | apply Keeps.record

theorem State.dropPartial_keeps {s0 s : State} (h : Keeps s0 s) (cls idx) :
    Keeps s0 (State.dropPartial s cls idx) := by
  unfold State.dropPartial
  repeat' with_reducible first
    | assumption | apply State.ethDrop_keeps | apply Keeps.ite | split | dsimp only | apply Keeps.record

theorem State.stopPort_keeps {s0 s : State} (h : Keeps s0 s) (cls idx status detail) :
    Keeps s0 (State.stopPort s cls idx status detail) := by
  unfold State.stopPort
  repeat' with_reducible first
    | intro _ | assumption | apply State.dropPartial_keeps | apply State.failOps_keeps | apply State.qFlush_keeps
    | apply Keeps.foldl | apply Keeps.foldl_fst | dsimp only

theorem State.portOff_keeps {s0 s : State} (h : Keeps s0 s) (cls idx status detail) :
    Keeps s0 (State.portOff s cls idx status detail) := by
  unfold State.portOff
  repeat' with_reducible first
    | intro _ | assumption | apply State.stopPort_keeps | apply State.endOps_keeps | dsimp only

theorem State.updToken_keeps {s0 s : State} (h : Keeps s0 s) (token f) :
    Keeps s0 (State.updToken s token f) := by
  unfold State.updToken
  repeat' with_reducible first
    | assumption | apply State.updOp_keeps | split | dsimp only

theorem State.frameLeft_keeps {s0 s : State} (h : Keeps s0 s) (token) :
    Keeps s0 (State.frameLeft s token) := by
  unfold State.frameLeft
  repeat' with_reducible first
    | intro _ | assumption | apply State.updToken_keeps | apply Keeps.ite | split | dsimp only | apply Keeps.record

theorem State.framePoisoned_keeps {s0 s : State} (h : Keeps s0 s) (token) :
    Keeps s0 (State.framePoisoned s token) := by
  unfold State.framePoisoned
  repeat' with_reducible first
    | intro _ | assumption | apply State.frameLeft_keeps | apply State.updToken_keeps | apply Keeps.record

theorem State.frameFailed_keeps {s0 s : State} (h : Keeps s0 s) (token detail) :
    Keeps s0 (State.frameFailed s token detail) := by
  unfold State.frameFailed
  repeat' with_reducible first
    | assumption | apply State.failOps_keeps | split | dsimp only

/-! ### Talon -/

theorem State.setTln_keeps {s0 s : State} (h : Keeps s0 s) (x) :
    Keeps s0 (State.setTln s x) := by
  unfold State.setTln
  repeat' with_reducible first
    | assumption | apply Keeps.record

theorem State.tlnRaise_keeps {s0 s : State} (h : Keeps s0 s) (bit) :
    Keeps s0 (State.tlnRaise s bit) := by
  unfold State.tlnRaise
  repeat' with_reducible first
    | assumption | apply State.raiseF_keeps | apply State.raise_keeps | apply Keeps.ite | split

theorem State.jrnlTry_keeps {s0 s : State} (h : Keeps s0 s) (e) :
    Keeps s0 (State.jrnlTry s e).1 := by
  unfold State.jrnlTry
  repeat' with_reducible first
    | assumption | apply State.tlnRaise_keeps | apply State.setTln_keeps | apply State.flashOp_keeps | apply Keeps.ite
    | apply Keeps.fst_ite | split | dsimp only | apply Keeps.record

theorem State.jrnlWrite_keeps {s0 s : State} (h : Keeps s0 s) (kind state target spare cause) :
    Keeps s0 (State.jrnlWrite s kind state target spare cause) := by
  unfold State.jrnlWrite
  repeat' with_reducible first
    | assumption | apply State.jrnlTry_keeps | apply State.tlnRaise_keeps | apply Keeps.ite | apply Keeps.fst_ite
    | split | dsimp only

theorem State.markRetired_keeps {s0 s : State} (h : Keeps s0 s) (i taker logical cause) :
    Keeps s0 (State.markRetired s i taker logical cause) := by
  unfold State.markRetired
  repeat' with_reducible first
    | assumption | apply State.jrnlWrite_keeps | apply State.tlnRaise_keeps | apply State.setTln_keeps | dsimp only
    | apply Keeps.record

theorem State.retireSe_keeps {s0 s : State} (h : Keeps s0 s) (i cause) :
    Keeps s0 (State.retireSe s i cause).1 := by
  unfold State.retireSe
  repeat' with_reducible first
    | intro _ | assumption | apply State.markRetired_keeps | apply State.tlnRaise_keeps | apply State.setTln_keeps
    | apply State.put_keeps | apply Keeps.ite | apply Keeps.fst_ite | split | dsimp only | apply Keeps.record

theorem State.queueBank_keeps {s0 s : State} (h : Keeps s0 s) (b cause) :
    Keeps s0 (State.queueBank s b cause) := by
  unfold State.queueBank
  repeat' with_reducible first
    | assumption | apply State.jrnlWrite_keeps | apply State.setTln_keeps | apply Keeps.ite | split
    | apply Keeps.record

theorem State.queueRow_keeps {s0 s : State} (h : Keeps s0 s) (bank word cause) :
    Keeps s0 (State.queueRow s bank word cause).1 := by
  unfold State.queueRow
  repeat' with_reducible first
    | assumption | apply State.queueBank_keeps | apply State.jrnlWrite_keeps | apply State.tlnRaise_keeps
    | apply State.setTln_keeps | apply Keeps.ite | apply Keeps.fst_ite | split | dsimp only | apply Keeps.record

/-! ### Faults -/

theorem State.kcRaise_keeps {s0 s : State} (h : Keeps s0 s) (cause) :
    Keeps s0 (State.kcRaise s cause) := by
  unfold State.kcRaise
  repeat' with_reducible first
    | assumption | apply State.raise_keeps

theorem State.safeStop_keeps {s0 s : State} (h : Keeps s0 s) (cause src) :
    Keeps s0 (State.safeStop s cause src) := by
  unfold State.safeStop
  repeat' with_reducible first
    | intro _ | assumption | apply State.kcRaise_keeps | apply State.endAll_keeps | apply State.sqTo_keeps
    | apply State.aer_keeps | apply State.put_keeps | apply Keeps.ite | apply Keeps.fst_ite | apply Keeps.foldl
    | apply Keeps.foldl_fst | split | dsimp only

theorem State.adminDisable_keeps {s0 s : State} (h : Keeps s0 s) :
    Keeps s0 (State.adminDisable s) := by
  unfold State.adminDisable
  repeat' with_reducible first
    | assumption | apply State.put_keeps | apply Keeps.record

theorem State.quarQueue_keeps {s0 s : State} (h : Keeps s0 s) (n) :
    Keeps s0 (State.quarQueue s n).1 := by
  unfold State.quarQueue
  repeat' with_reducible first
    | assumption | apply State.adminDisable_keeps | apply State.shutdown_keeps | apply Keeps.ite | apply Keeps.fst_ite
    | split | dsimp only

theorem State.quarPort_keeps {s0 s : State} (h : Keeps s0 s) (cls idx) :
    Keeps s0 (State.quarPort s cls idx).1 := by
  unfold State.quarPort
  repeat' with_reducible first
    | assumption | apply State.portOff_keeps | apply State.put_keeps | apply Keeps.ite | apply Keeps.fst_ite | split
    | dsimp only

theorem State.applyAction_keeps {s0 s : State} (h : Keeps s0 s) (e action) :
    Keeps s0 (State.applyAction s e action).1 := by
  unfold State.applyAction
  repeat' with_reducible first
    | assumption | apply State.quarPort_keeps | apply State.quarQueue_keeps | apply State.safeStop_keeps
    | apply State.queueRow_keeps | apply State.retireSe_keeps | apply State.markRetired_keeps | apply Keeps.ite
    | apply Keeps.fst_ite | split | dsimp only

theorem State.faultRecord_keeps {s0 s : State} (h : Keeps s0 s) (e severe action result count) :
    Keeps s0 (State.faultRecord s e severe action result count) := by
  unfold State.faultRecord
  repeat' with_reducible first
    | assumption | apply State.trace_keeps | apply State.chainPush_keeps | dsimp only | apply Keeps.record

theorem State.unownedRow_keeps {s0 s : State} (h : Keeps s0 s) (e) :
    Keeps s0 (State.unownedRow s e) := by
  unfold State.unownedRow
  repeat' with_reducible first
    | assumption | apply State.queueRow_keeps | apply Keeps.ite | apply Keeps.fst_ite | split | dsimp only

theorem State.ownedRow_keeps {s0 s : State} (h : Keeps s0 s) (e) :
    Keeps s0 (State.ownedRow s e) := by
  unfold State.ownedRow
  repeat' with_reducible first
    | assumption | apply State.queueRow_keeps | apply Keeps.ite | apply Keeps.fst_ite | split | dsimp only

theorem State.countEvent_keeps {s0 s : State} (h : Keeps s0 s) (e0) :
    Keeps s0 (State.countEvent s e0).1 := by
  unfold State.countEvent
  repeat' with_reducible first
    | assumption | apply State.ownedRow_keeps | apply State.unownedRow_keeps | apply State.faultRecord_keeps
    | apply State.applyAction_keeps | apply State.raise_keeps | apply State.count_keeps | apply State.put_keeps
    | apply Keeps.ite | apply Keeps.fst_ite | split | dsimp only | apply Keeps.record

theorem State.collect_keeps {s0 s : State} (h : Keeps s0 s) (severe l) : Keeps s0 (s.collect severe l).1 := by
  induction l generalizing s severe with
  | nil => exact h
  | cons e r ih =>
    unfold State.collect
    repeat' with_reducible first
      | assumption | apply ih | apply State.countEvent_keeps | apply State.count_keeps | apply Keeps.fst_ite
      | split | dsimp only

theorem State.settleRounds_keeps {s0 s : State} (h : Keeps s0 s) (n severe) :
    Keeps s0 (State.settleRounds n severe s) := by
  induction n generalizing s severe with
  | zero => exact Keeps.record h
  | succ n ih =>
    unfold State.settleRounds
    repeat' with_reducible first
      | assumption | apply ih | apply State.collect_keeps | apply Keeps.ite | dsimp only | apply Keeps.record

theorem State.collectAll_keeps {s0 s : State} (h : Keeps s0 s) :
    Keeps s0 (State.collectAll s) := by
  unfold State.collectAll
  repeat' with_reducible first
    | assumption | apply State.settleRounds_keeps | apply Keeps.ite | split | apply Keeps.record

theorem settle_keeps {s0 s : State} (h : Keeps s0 s) :
    Keeps s0 (settle s) := by
  unfold settle
  repeat' with_reducible first
    | assumption | apply State.collectAll_keeps | apply State.levelFalls_keeps

/-! ### PortIO -/

theorem State.wakeWaits_keeps {s0 s : State} (h : Keeps s0 s) (cls idx) :
    Keeps s0 (State.wakeWaits s cls idx) := by
  unfold State.wakeWaits
  repeat' with_reducible first
    | intro _ | assumption | apply State.endOps_keeps

theorem State.store_keeps {s0 s : State} (h : Keeps s0 s) (cls idx c record) :
    Keeps s0 (State.store s cls idx c record) := by
  unfold State.store
  repeat' with_reducible first
    | assumption | apply State.wakeWaits_keeps | apply State.qReceive_keeps

theorem State.txTake_keeps {s0 s : State} (h : Keeps s0 s) (q n) : Keeps s0 (State.txTake q n s).1 := by
  induction n generalizing s with
  | zero => exact h
  | succ n ih =>
    unfold State.txTake
    repeat' with_reducible first
      | assumption | apply ih | apply State.framePoisoned_keeps | apply State.qRaise_keeps | apply State.qTake_keeps
      | apply Keeps.fst_ite | split | dsimp only

theorem State.txNext_keeps {s0 s : State} (h : Keeps s0 s) (q) :
    Keeps s0 (State.txNext s q).1 := by
  unfold State.txNext
  repeat' with_reducible first
    | assumption | apply State.txTake_keeps | dsimp only

theorem State.gwRaise_keeps {s0 s : State} (h : Keeps s0 s) (bit port) :
    Keeps s0 (State.gwRaise s bit port) := by
  unfold State.gwRaise
  repeat' with_reducible first
    | assumption | apply State.raiseF_keeps | apply State.raise_keeps | apply Keeps.ite | split

theorem State.gwOffer_keeps {s0 s : State} (h : Keeps s0 s) (code record) :
    Keeps s0 (State.gwOffer s code record) := by
  unfold State.gwOffer
  repeat' with_reducible first
    | assumption | apply State.gwRaise_keeps | apply Keeps.ite | split | dsimp only | apply Keeps.record

theorem State.gwTake_keeps {s0 s : State} (h : Keeps s0 s) (code n) : Keeps s0 (State.gwTake code n s).1 := by
  induction n generalizing s with
  | zero => exact h
  | succ n ih =>
    unfold State.gwTake
    repeat' with_reducible first
      | assumption | apply ih | apply State.gwRaise_keeps | apply State.count_keeps | apply Keeps.fst_ite | split
      | dsimp only | apply Keeps.record

theorem State.gwNext_keeps {s0 s : State} (h : Keeps s0 s) (code) :
    Keeps s0 (State.gwNext s code).1 := by
  unfold State.gwNext
  repeat' with_reducible first
    | assumption | apply State.gwTake_keeps | dsimp only

/-! ### Can -/

theorem State.setCan_keeps {s0 s : State} (h : Keeps s0 s) (m x) :
    Keeps s0 (State.setCan s m x) := by
  unfold State.setCan
  repeat' with_reducible first
    | assumption | apply Keeps.record

theorem State.canRaise_keeps {s0 s : State} (h : Keeps s0 s) (m bit) :
    Keeps s0 (State.canRaise s m bit) := by
  unfold State.canRaise
  repeat' with_reducible first
    | assumption | apply State.raiseF_keeps | apply State.raise_keeps | apply Keeps.ite | split

theorem State.j1939Abort_keeps {s0 s : State} (h : Keeps s0 s) (m sa da) :
    Keeps s0 (State.j1939Abort s m sa da) := by
  unfold State.j1939Abort
  repeat' with_reducible first
    | intro _ | assumption | apply State.canRaise_keeps | apply State.setCan_keeps | dsimp only | apply Keeps.record

theorem State.j1939Open_keeps {s0 s : State} (h : Keeps s0 s) (m j) :
    Keeps s0 (State.j1939Open s m j) := by
  unfold State.j1939Open
  repeat' with_reducible first
    | intro _ | assumption | apply State.canRaise_keeps | apply State.setCan_keeps | apply Keeps.ite | split
    | dsimp only | apply Keeps.record

theorem State.j1939Data_keeps {s0 s : State} (h : Keeps s0 s) (m j data time) :
    Keeps s0 (State.j1939Data s m j data time) := by
  unfold State.j1939Data
  repeat' with_reducible first
    | intro _ | assumption | apply State.j1939Abort_keeps | apply State.setCan_keeps | apply State.store_keeps
    | apply Keeps.ite | split | dsimp only | apply Keeps.record

theorem State.j1939_keeps {s0 s : State} (h : Keeps s0 s) (m filter f time) :
    Keeps s0 (State.j1939 s m filter f time) := by
  unfold State.j1939
  repeat' with_reducible first
    | intro _ | assumption | apply State.j1939Data_keeps | apply State.j1939Open_keeps | apply State.j1939Abort_keeps
    | apply Keeps.ite | split | dsimp only | apply Keeps.record

theorem State.j1939T1_keeps {s0 s : State} (h : Keeps s0 s) (m sa da) :
    Keeps s0 (State.j1939T1 s m sa da) := by
  unfold State.j1939T1
  repeat' with_reducible first
    | intro _ | assumption | apply State.j1939Abort_keeps | apply Keeps.ite | split

theorem State.canBegin_keeps {s0 s : State} (h : Keeps s0 s) (m f) :
    Keeps s0 (State.canBegin s m f) := by
  unfold State.canBegin
  repeat' with_reducible first
    | assumption | apply State.setCan_keeps | apply Keeps.record

theorem State.canLoad_keeps {s0 s : State} (h : Keeps s0 s) (m) :
    Keeps s0 (State.canLoad s m) := by
  unfold State.canLoad
  repeat' with_reducible first
    | assumption | apply State.canBegin_keeps | apply State.setCan_keeps | apply State.gwNext_keeps
    | apply State.txNext_keeps | apply Keeps.ite | apply Keeps.fst_ite | split | dsimp only | apply Keeps.record

theorem State.canReady_keeps {s0 s : State} (h : Keeps s0 s) (m) :
    Keeps s0 (State.canReady s m) := by
  unfold State.canReady
  repeat' with_reducible first
    | assumption | apply State.canLoad_keeps | apply State.setCan_keeps | apply Keeps.record

theorem State.busOnDone_keeps {s0 s : State} (h : Keeps s0 s) (m) :
    Keeps s0 (State.busOnDone s m) := by
  unfold State.busOnDone
  repeat' with_reducible first
    | intro _ | assumption | apply State.endOps_keeps | split | dsimp only

theorem State.canStateSeen_keeps {s0 s : State} (h : Keeps s0 s) (m old) :
    Keeps s0 (State.canStateSeen s m old) := by
  unfold State.canStateSeen
  repeat' with_reducible first
    | intro _ | assumption | apply State.busOnDone_keeps | apply State.portEvent_keeps | apply Keeps.ite | split
    | dsimp only

theorem State.canDiscard_keeps {s0 s : State} (h : Keeps s0 s) (m detail) :
    Keeps s0 (State.canDiscard s m detail) := by
  unfold State.canDiscard
  repeat' with_reducible first
    | intro _ | assumption | apply State.frameFailed_keeps | apply State.qFlush_keeps | apply Keeps.foldl
    | apply Keeps.foldl_fst | dsimp only

theorem State.canBusOff_keeps {s0 s : State} (h : Keeps s0 s) (m) :
    Keeps s0 (State.canBusOff s m) := by
  unfold State.canBusOff
  repeat' with_reducible first
    | assumption | apply State.canDiscard_keeps | apply State.busOnDone_keeps | apply State.canRaise_keeps
    | apply State.setCan_keeps | apply Keeps.ite | split | dsimp only | apply Keeps.record

theorem State.canCount_keeps {s0 s : State} (h : Keeps s0 s) (m tec rec) :
    Keeps s0 (State.canCount s m tec rec) := by
  unfold State.canCount
  repeat' with_reducible first
    | assumption | apply State.canBusOff_keeps | apply State.canStateSeen_keeps | apply State.canRaise_keeps
    | apply State.put_keeps | apply Keeps.ite | split | dsimp only

theorem State.canErrCount_keeps {s0 s : State} (h : Keeps s0 s) (m e) :
    Keeps s0 (State.canErrCount s m e) := by
  unfold State.canErrCount
  repeat' with_reducible first
    | assumption | apply State.canCount_keeps | apply Keeps.ite | split | dsimp only

theorem State.canFailed_keeps {s0 s : State} (h : Keeps s0 s) (m) :
    Keeps s0 (State.canFailed s m) := by
  unfold State.canFailed
  repeat' with_reducible first
    | assumption | apply State.canLoad_keeps | apply State.setCan_keeps | apply State.frameFailed_keeps
    | apply Keeps.ite | split | dsimp only | apply Keeps.record

theorem State.canError_keeps {s0 s : State} (h : Keeps s0 s) (m e lec) :
    Keeps s0 (State.canError s m e lec) := by
  unfold State.canError
  repeat' with_reducible first
    | assumption | apply State.canFailed_keeps | apply State.canErrCount_keeps | apply State.setCan_keeps
    | apply State.put_keeps | apply Keeps.ite | split | dsimp only | apply Keeps.record

theorem State.canRecDown_keeps {s0 s : State} (h : Keeps s0 s) (m) :
    Keeps s0 (State.canRecDown s m) := by
  unfold State.canRecDown
  repeat' with_reducible first
    | assumption | apply State.canCount_keeps | apply State.drawFree_keeps | apply Keeps.ite | apply Keeps.fst_ite
    | split | dsimp only

theorem State.canException_keeps {s0 s : State} (h : Keeps s0 s) (m) :
    Keeps s0 (State.canException s m) := by
  unfold State.canException
  repeat' with_reducible first
    | assumption | apply State.canError_keeps | apply State.canRaise_keeps | apply State.setCan_keeps
    | apply Keeps.ite | split | apply Keeps.record

theorem State.supSeen_keeps {s0 s : State} (h : Keeps s0 s) (m f) :
    Keeps s0 (State.supSeen s m f) := by
  unfold State.supSeen
  repeat' with_reducible first
    | intro _ | assumption | apply State.setCan_keeps | apply Keeps.foldl | dsimp only | apply Keeps.record

theorem State.canStore_keeps {s0 s : State} (h : Keeps s0 s) (m f time) :
    Keeps s0 (State.canStore s m f time) := by
  unfold State.canStore
  repeat' with_reducible first
    | assumption | apply State.j1939_keeps | apply State.canRaise_keeps | apply State.setCan_keeps
    | apply State.store_keeps | apply Keeps.ite | split | dsimp only | apply Keeps.record

theorem State.canReceive_keeps {s0 s : State} (h : Keeps s0 s) (m f time) :
    Keeps s0 (State.canReceive s m f time) := by
  unfold State.canReceive
  repeat' with_reducible first
    | assumption | apply State.canStore_keeps | apply State.supSeen_keeps | apply State.canException_keeps
    | apply State.canRecDown_keeps | apply State.setCan_keeps | apply State.gwOffer_keeps | apply Keeps.ite | split
    | dsimp only | apply Keeps.record

theorem State.canSent_keeps {s0 s : State} (h : Keeps s0 s) (m) :
    Keeps s0 (State.canSent s m) := by
  unfold State.canSent
  repeat' with_reducible first
    | assumption | apply State.canCount_keeps | apply State.canLoad_keeps | apply State.setCan_keeps
    | apply State.frameLeft_keeps | apply State.emit_keeps | apply Keeps.ite | split | dsimp only | apply Keeps.record

theorem State.ptxPeriod_keeps {s0 s : State} (h : Keeps s0 s) (m k) :
    Keeps s0 (State.ptxPeriod s m k) := by
  unfold State.ptxPeriod
  repeat' with_reducible first
    | assumption | apply State.canLoad_keeps | apply State.canRaise_keeps | apply State.setCan_keeps | apply Keeps.ite
    | split | dsimp only | apply Keeps.record

theorem State.supTimeout_keeps {s0 s : State} (h : Keeps s0 s) (m k) :
    Keeps s0 (State.supTimeout s m k) := by
  unfold State.supTimeout
  repeat' with_reducible first
    | assumption | apply State.canRaise_keeps | apply State.setCan_keeps | apply Keeps.ite | split | dsimp only
    | apply Keeps.record

theorem State.canRecover_keeps {s0 s : State} (h : Keeps s0 s) (m) :
    Keeps s0 (State.canRecover s m) := by
  unfold State.canRecover
  repeat' with_reducible first
    | assumption | apply State.busOnDone_keeps | apply State.setCan_keeps | apply Keeps.ite | split | dsimp only
    | apply Keeps.record

theorem State.canRecovered_keeps {s0 s : State} (h : Keeps s0 s) (m) :
    Keeps s0 (State.canRecovered s m) := by
  unfold State.canRecovered
  repeat' with_reducible first
    | assumption | apply State.canStateSeen_keeps | apply State.canLoad_keeps | apply State.canRaise_keeps
    | apply State.setCan_keeps | apply State.put_keeps | apply Keeps.ite | split | dsimp only | apply Keeps.record

theorem State.busOn_keeps {s0 s : State} (h : Keeps s0 s) (m a) :
    Keeps s0 (State.busOn s m a) := by
  unfold State.busOn
  repeat' with_reducible first
    | intro _ | assumption | apply State.canRecover_keeps | apply State.canLoad_keeps | apply State.endOp_keeps
    | apply State.updOp_keeps | apply State.put_keeps | apply Keeps.ite | split | dsimp only | apply Keeps.record

theorem State.busOffCtl_keeps {s0 s : State} (h : Keeps s0 s) (m a) :
    Keeps s0 (State.busOffCtl s m a) := by
  unfold State.busOffCtl
  repeat' with_reducible first
    | assumption | apply State.endOp_keeps | apply State.put_keeps

theorem State.abortTx_keeps {s0 s : State} (h : Keeps s0 s) (m a) :
    Keeps s0 (State.abortTx s m a) := by
  unfold State.abortTx
  repeat' with_reducible first
    | assumption | apply State.canDiscard_keeps | apply State.setCan_keeps | apply State.endOp_keeps | split
    | dsimp only | apply Keeps.record

theorem State.canClear_keeps {s0 s : State} (h : Keeps s0 s) (m) :
    Keeps s0 (State.canClear s m) := by
  unfold State.canClear
  repeat' with_reducible first
    | assumption | apply State.setCan_keeps | apply State.put_keeps | dsimp only | apply Keeps.record

theorem State.canEnable_keeps {s0 s : State} (h : Keeps s0 s) (m) :
    Keeps s0 (State.canEnable s m) := by
  unfold State.canEnable
  repeat' with_reducible first
    | assumption | apply State.canClear_keeps | apply State.setCan_keeps | apply State.put_keeps | dsimp only
    | apply Keeps.record

theorem State.canEn_keeps {s0 s : State} (h : Keeps s0 s) (m en) :
    Keeps s0 (State.canEn s m en) := by
  unfold State.canEn
  repeat' with_reducible first
    | assumption | apply State.canEnable_keeps | apply State.canClear_keeps | apply State.canRaise_keeps
    | apply State.portOff_keeps | apply State.put_keeps | apply Keeps.ite | split

theorem State.autoRecover_keeps {s0 s : State} (h : Keeps s0 s) (m) :
    Keeps s0 (State.autoRecover s m) := by
  unfold State.autoRecover
  repeat' with_reducible first
    | assumption | apply State.canRecover_keeps | apply Keeps.ite | split

theorem State.ptxOff_keeps {s0 s : State} (h : Keeps s0 s) (m) :
    Keeps s0 (State.ptxOff s m) := by
  unfold State.ptxOff
  repeat' with_reducible first
    | intro _ | assumption | apply State.setCan_keeps | apply Keeps.ite | apply Keeps.foldl | split | dsimp only
    | apply Keeps.record

theorem State.canCtlWrite_keeps {s0 s : State} (h : Keeps s0 s) (m mid v) :
    Keeps s0 (State.canCtlWrite s m mid v) := by
  unfold State.canCtlWrite
  repeat' with_reducible first
    | assumption | apply State.ptxOff_keeps | apply State.autoRecover_keeps | apply State.canEn_keeps
    | apply State.writeOthers_keeps

theorem State.portFunc_keeps {s0 s : State} (h : Keeps s0 s) (a cls func f) (hk : ∀ t r, Keeps s0 t → Keeps s0 (f t r)) :
    Keeps s0 (State.portFunc s a cls func f) := by
  unfold State.portFunc
  repeat' with_reducible first
    | intro _ | assumption | apply hk | split | dsimp only

/-! ### Lin -/

theorem State.setLin_keeps {s0 s : State} (h : Keeps s0 s) (m x) :
    Keeps s0 (State.setLin s m x) := by
  unfold State.setLin
  repeat' with_reducible first
    | assumption | apply Keeps.record

theorem State.linRaise_keeps {s0 s : State} (h : Keeps s0 s) (m bit) :
    Keeps s0 (State.linRaise s m bit) := by
  unfold State.linRaise
  repeat' with_reducible first
    | assumption | apply State.raiseF_keeps | apply State.raise_keeps | apply Keeps.ite | split

theorem State.linNextSlot_keeps {s0 s : State} (h : Keeps s0 s) (m) :
    Keeps s0 (State.linNextSlot s m) := by
  unfold State.linNextSlot
  repeat' with_reducible first
    | assumption | apply State.linRaise_keeps | apply State.setLin_keeps | apply Keeps.ite | split | dsimp only
    | apply Keeps.record

theorem State.linRequest_keeps {s0 s : State} (h : Keeps s0 s) (m) :
    Keeps s0 (State.linRequest s m) := by
  unfold State.linRequest
  repeat' with_reducible first
    | intro _ | assumption | apply State.linNextSlot_keeps | apply State.setLin_keeps | apply State.endToken_keeps
    | apply Keeps.foldl | split | dsimp only | apply Keeps.record

theorem State.linIntake_keeps {s0 s : State} (h : Keeps s0 s) (m n) : Keeps s0 (State.linIntake m n s) := by
  induction n generalizing s with
  | zero => exact h
  | succ n ih =>
    unfold State.linIntake
    repeat' with_reducible first
      | assumption | apply ih | apply State.setLin_keeps | apply State.txNext_keeps | apply Keeps.ite | split
      | dsimp only

theorem State.linLoad_keeps {s0 s : State} (h : Keeps s0 s) (m) :
    Keeps s0 (State.linLoad s m) := by
  unfold State.linLoad
  repeat' with_reducible first
    | assumption | apply State.linIntake_keeps | apply Keeps.ite | split

theorem State.linUnder_keeps {s0 s : State} (h : Keeps s0 s) (m hd) :
    Keeps s0 (State.linUnder s m hd) := by
  unfold State.linUnder
  repeat' with_reducible first
    | assumption | apply State.setLin_keeps | apply Keeps.record

theorem State.linHeader_keeps {s0 s : State} (h : Keeps s0 s) (m hd) :
    Keeps s0 (State.linHeader s m hd) := by
  unfold State.linHeader
  repeat' with_reducible first
    | assumption | apply State.linUnder_keeps | apply State.emit_keeps

theorem State.linRunSlot_keeps {s0 s : State} (h : Keeps s0 s) (m r) :
    Keeps s0 (State.linRunSlot s m r) := by
  unfold State.linRunSlot
  repeat' with_reducible first
    | assumption | apply State.linHeader_keeps | apply State.setLin_keeps | apply State.endToken_keeps
    | apply State.put_keeps | split | dsimp only | apply Keeps.record

theorem State.linSlot_keeps {s0 s : State} (h : Keeps s0 s) (m) :
    Keeps s0 (State.linSlot s m) := by
  unfold State.linSlot
  repeat' with_reducible first
    | assumption | apply State.linRunSlot_keeps | apply State.linHeader_keeps | apply State.linRequest_keeps
    | apply State.setLin_keeps | apply Keeps.ite | split | dsimp only | apply Keeps.record

theorem State.linRxHeader_keeps {s0 s : State} (h : Keeps s0 s) (m id bit time) :
    Keeps s0 (State.linRxHeader s m id bit time) := by
  unfold State.linRxHeader
  repeat' with_reducible first
    | assumption | apply State.linUnder_keeps | apply State.linRaise_keeps | apply Keeps.ite | split | dsimp only
    | apply Keeps.record

theorem State.linSlept_keeps {s0 s : State} (h : Keeps s0 s) (m token) :
    Keeps s0 (State.linSlept s m token) := by
  unfold State.linSlept
  repeat' with_reducible first
    | intro _ | assumption | apply State.setLin_keeps | apply State.endToken_keeps | apply Keeps.foldl | split
    | dsimp only | apply Keeps.record

theorem State.linWake_keeps {s0 s : State} (h : Keeps s0 s) (m) :
    Keeps s0 (State.linWake s m) := by
  unfold State.linWake
  repeat' with_reducible first
    | intro _ | assumption | apply State.linRaise_keeps | apply State.setLin_keeps | apply State.portEvent_keeps
    | apply Keeps.ite | split | dsimp only | apply Keeps.record

theorem State.linSentResp_keeps {s0 s : State} (h : Keeps s0 s) (m hd) :
    Keeps s0 (State.linSentResp s m hd) := by
  unfold State.linSentResp
  repeat' with_reducible first
    | assumption | apply State.linWake_keeps | apply State.linSlept_keeps | apply State.linLoad_keeps
    | apply State.setLin_keeps | apply State.frameLeft_keeps | apply State.emit_keeps | apply Keeps.ite | split
    | dsimp only | apply Keeps.record

theorem State.linCollide_keeps {s0 s : State} (h : Keeps s0 s) (m t) :
    Keeps s0 (State.linCollide s m t) := by
  unfold State.linCollide
  repeat' with_reducible first
    | assumption | apply State.setLin_keeps | apply Keeps.ite | split | dsimp only | apply Keeps.record

theorem State.linBusResp_keeps {s0 s : State} (h : Keeps s0 s) (m hd p) :
    Keeps s0 (State.linBusResp s m hd p) := by
  unfold State.linBusResp
  repeat' with_reducible first
    | assumption | apply State.linCollide_keeps | apply State.linRaise_keeps | apply State.setLin_keeps
    | apply State.gwOffer_keeps | apply State.store_keeps | apply Keeps.ite | split | dsimp only | apply Keeps.record

theorem State.linRespEnd_keeps {s0 s : State} (h : Keeps s0 s) (m p) :
    Keeps s0 (State.linRespEnd s m p) := by
  unfold State.linRespEnd
  repeat' with_reducible first
    | assumption | apply State.linBusResp_keeps | apply State.linSentResp_keeps | apply Keeps.ite | split | dsimp only

theorem State.linNoResp_keeps {s0 s : State} (h : Keeps s0 s) (m) :
    Keeps s0 (State.linNoResp s m) := by
  unfold State.linNoResp
  repeat' with_reducible first
    | assumption | apply State.linRaise_keeps | apply State.setLin_keeps | apply State.store_keeps | apply Keeps.ite
    | split | dsimp only | apply Keeps.record

theorem State.linBitError_keeps {s0 s : State} (h : Keeps s0 s) (m) :
    Keeps s0 (State.linBitError s m) := by
  unfold State.linBitError
  repeat' with_reducible first
    | assumption | apply State.linLoad_keeps | apply State.linRaise_keeps | apply State.setLin_keeps
    | apply State.frameFailed_keeps | apply State.endToken_keeps | apply Keeps.ite | split | dsimp only
    | apply Keeps.record

theorem State.runSchedule_keeps {s0 s : State} (h : Keeps s0 s) (m a t passes) :
    Keeps s0 (State.runSchedule s m a t passes) := by
  unfold State.runSchedule
  repeat' with_reducible first
    | assumption | apply State.setLin_keeps | apply State.endOp_keeps | apply Keeps.ite | split | dsimp only
    | apply Keeps.record

theorem State.stopSchedule_keeps {s0 s : State} (h : Keeps s0 s) (m a) :
    Keeps s0 (State.stopSchedule s m a) := by
  unfold State.stopSchedule
  repeat' with_reducible first
    | assumption | apply State.setLin_keeps | apply State.endOp_keeps | apply Keeps.ite | split | dsimp only
    | apply Keeps.record

theorem State.gotoSleep_keeps {s0 s : State} (h : Keeps s0 s) (m a) :
    Keeps s0 (State.gotoSleep s m a) := by
  unfold State.gotoSleep
  repeat' with_reducible first
    | assumption | apply State.setLin_keeps | apply State.endOp_keeps | apply Keeps.ite | split | apply Keeps.record

theorem State.linPulse_keeps {s0 s : State} (h : Keeps s0 s) (m a) :
    Keeps s0 (State.linPulse s m a) := by
  unfold State.linPulse
  repeat' with_reducible first
    | assumption | apply State.setLin_keeps | apply State.emitOn_keeps | apply Keeps.record

theorem State.linPulseEnd_keeps {s0 s : State} (h : Keeps s0 s) (m) :
    Keeps s0 (State.linPulseEnd s m) := by
  unfold State.linPulseEnd
  repeat' with_reducible first
    | assumption | apply State.setLin_keeps | apply State.endToken_keeps | split | dsimp only | apply Keeps.record

theorem State.linEn_keeps {s0 s : State} (h : Keeps s0 s) (m en) :
    Keeps s0 (State.linEn s m en) := by
  unfold State.linEn
  repeat' with_reducible first
    | assumption | apply State.linRaise_keeps | apply State.setLin_keeps | apply State.portOff_keeps
    | apply State.put_keeps | apply Keeps.ite | split | dsimp only | apply Keeps.record

/-! ### Sent -/

theorem State.setSent_keeps {s0 s : State} (h : Keeps s0 s) (m x) :
    Keeps s0 (State.setSent s m x) := by
  unfold State.setSent
  repeat' with_reducible first
    | assumption | apply Keeps.record

theorem State.sentRaise_keeps {s0 s : State} (h : Keeps s0 s) (m bit) :
    Keeps s0 (State.sentRaise s m bit) := by
  unfold State.sentRaise
  repeat' with_reducible first
    | assumption | apply State.raiseF_keeps | apply State.raise_keeps | apply Keeps.ite | split

theorem State.nibble_keeps {s0 s : State} (h : Keeps s0 s) (l) :
    Keeps s0 (State.nibble s l).1 := by
  unfold State.nibble
  repeat' with_reducible first
    | assumption | apply State.drawFree_keeps | apply Keeps.ite | apply Keeps.fst_ite | split | dsimp only

theorem State.nibbles_keeps {s0 s : State} (h : Keeps s0 s) (l) : Keeps s0 (s.nibbles l).1 := by
  induction l generalizing s with
  | nil => exact h
  | cons x r ih => exact ih (State.nibble_keeps h x)

theorem State.sentSerial_keeps {s0 s : State} (h : Keeps s0 s) (m st bad time rstat) :
    Keeps s0 (State.sentSerial s m st bad time rstat) := by
  unfold State.sentSerial
  repeat' with_reducible first
    | assumption | apply State.sentRaise_keeps | apply State.setSent_keeps | apply State.store_keeps | apply Keeps.ite
    | split | dsimp only | apply Keeps.record

theorem State.sentDecode_keeps {s0 s : State} (h : Keeps s0 s) (m f time) :
    Keeps s0 (State.sentDecode s m f time) := by
  unfold State.sentDecode
  repeat' with_reducible first
    | intro _ | assumption | apply State.sentSerial_keeps | apply State.nibbles_keeps | apply State.nibble_keeps
    | apply State.sentRaise_keeps | apply State.setSent_keeps | apply State.store_keeps | apply State.put_keeps
    | apply Keeps.ite | apply Keeps.fst_ite | split | dsimp only | apply Keeps.record

theorem State.sentReceive_keeps {s0 s : State} (h : Keeps s0 s) (m f time) :
    Keeps s0 (State.sentReceive s m f time) := by
  unfold State.sentReceive
  repeat' with_reducible first
    | assumption | apply State.sentDecode_keeps | apply State.sentRaise_keeps | apply State.setSent_keeps
    | apply State.put_keeps | apply Keeps.ite | split | apply Keeps.record

theorem State.sentDecoding_keeps {s0 s : State} (h : Keeps s0 s) (m a on) :
    Keeps s0 (State.sentDecoding s m a on) := by
  unfold State.sentDecoding
  repeat' with_reducible first
    | assumption | apply State.setSent_keeps | apply State.endOp_keeps | apply Keeps.record

theorem State.sentEn_keeps {s0 s : State} (h : Keeps s0 s) (m en) :
    Keeps s0 (State.sentEn s m en) := by
  unfold State.sentEn
  repeat' with_reducible first
    | assumption | apply State.sentRaise_keeps | apply State.setSent_keeps | apply State.portOff_keeps
    | apply State.put_keeps | apply Keeps.ite | split | dsimp only | apply Keeps.record

/-! ### Serial -/

theorem State.setBp_keeps {s0 s : State} (h : Keeps s0 s) (cls m x) :
    Keeps s0 (State.setBp s cls m x) := by
  unfold State.setBp
  repeat' with_reducible first
    | assumption | apply Keeps.ite | split | apply Keeps.record

theorem State.serRaise_keeps {s0 s : State} (h : Keeps s0 s) (m bit) :
    Keeps s0 (State.serRaise s m bit) := by
  unfold State.serRaise
  repeat' with_reducible first
    | assumption | apply State.raiseF_keeps | apply State.raise_keeps | apply Keeps.ite | split

theorem State.cardRaise_keeps {s0 s : State} (h : Keeps s0 s) (m bit) :
    Keeps s0 (State.cardRaise s m bit) := by
  unfold State.cardRaise
  repeat' with_reducible first
    | assumption | apply State.raiseF_keeps | apply State.raise_keeps | apply Keeps.ite | split

theorem State.chunkClose_keeps {s0 s : State} (h : Keeps s0 s) (cls m rstat) :
    Keeps s0 (State.chunkClose s cls m rstat) := by
  unfold State.chunkClose
  repeat' with_reducible first
    | assumption | apply State.setBp_keeps | apply State.store_keeps | dsimp only | apply Keeps.record

theorem State.chunkByte_keeps {s0 s : State} (h : Keeps s0 s) (cls m b time rstat) :
    Keeps s0 (State.chunkByte s cls m b time rstat) := by
  unfold State.chunkByte
  repeat' with_reducible first
    | assumption | apply State.chunkClose_keeps | apply State.setBp_keeps | apply Keeps.ite | split | dsimp only
    | apply Keeps.record

theorem State.byteIdle_keeps {s0 s : State} (h : Keeps s0 s) (cls m n) :
    Keeps s0 (State.byteIdle s cls m n) := by
  unfold State.byteIdle
  repeat' with_reducible first
    | intro _ | assumption | apply State.chunkClose_keeps | apply State.updOp_keeps | apply Keeps.ite
    | apply Keeps.foldl | split | dsimp only | apply Keeps.record

theorem State.byteLoad_keeps {s0 s : State} (h : Keeps s0 s) (cls m) :
    Keeps s0 (State.byteLoad s cls m) := by
  unfold State.byteLoad
  repeat' with_reducible first
    | assumption | apply State.setBp_keeps | apply State.txNext_keeps | apply Keeps.ite | apply Keeps.fst_ite | split
    | dsimp only | apply Keeps.record

theorem State.byteSent_keeps {s0 s : State} (h : Keeps s0 s) (cls m) :
    Keeps s0 (State.byteSent s cls m) := by
  unfold State.byteSent
  repeat' with_reducible first
    | assumption | apply State.byteLoad_keeps | apply State.setBp_keeps | apply State.frameLeft_keeps
    | apply State.emitOn_keeps | apply Keeps.ite | split | dsimp only | apply Keeps.record

theorem State.byteStop_keeps {s0 s : State} (h : Keeps s0 s) (cls m detail) :
    Keeps s0 (State.byteStop s cls m detail) := by
  unfold State.byteStop
  repeat' with_reducible first
    | assumption | apply State.byteLoad_keeps | apply State.setBp_keeps | apply State.frameFailed_keeps | split
    | dsimp only | apply Keeps.record

theorem State.uartByte_keeps {s0 s : State} (h : Keeps s0 s) (m b framing parity time) :
    Keeps s0 (State.uartByte s m b framing parity time) := by
  unfold State.uartByte
  repeat' with_reducible first
    | assumption | apply State.byteStop_keeps | apply State.chunkByte_keeps | apply State.serRaise_keeps
    | apply State.setBp_keeps | apply Keeps.ite | split | dsimp only | apply Keeps.record

theorem State.uartBreak_keeps {s0 s : State} (h : Keeps s0 s) (m time) :
    Keeps s0 (State.uartBreak s m time) := by
  unfold State.uartBreak
  repeat' with_reducible first
    | intro _ | assumption | apply State.chunkClose_keeps | apply State.serRaise_keeps | apply State.setBp_keeps
    | apply State.portEvent_keeps | apply Keeps.ite | split | dsimp only | apply Keeps.record

theorem State.uartStands_keeps {s0 s : State} (h : Keeps s0 s) (m armed line) :
    Keeps s0 (State.uartStands s m armed line) := by
  unfold State.uartStands
  repeat' with_reducible first
    | assumption | apply State.setBp_keeps | apply Keeps.record

theorem State.uartChar_keeps {s0 s : State} (h : Keeps s0 s) (m t time) :
    Keeps s0 (State.uartChar s m t time) := by
  unfold State.uartChar
  repeat' with_reducible first
    | intro _ | assumption | apply State.uartStands_keeps | apply State.uartBreak_keeps | apply State.uartByte_keeps
    | apply State.serRaise_keeps | apply State.setBp_keeps | apply Keeps.ite | split | dsimp only | apply Keeps.record

theorem State.uartReceive_keeps {s0 s : State} (h : Keeps s0 s) (m c time) :
    Keeps s0 (State.uartReceive s m c time) := by
  unfold State.uartReceive
  repeat' with_reducible first
    | assumption | apply State.uartChar_keeps | apply State.uartStands_keeps | apply Keeps.ite | split | dsimp only

theorem State.ctsSeen_keeps {s0 s : State} (h : Keeps s0 s) (m) :
    Keeps s0 (State.ctsSeen s m) := by
  unfold State.ctsSeen
  repeat' with_reducible first
    | assumption | apply State.setBp_keeps | apply Keeps.ite | split | dsimp only | apply Keeps.record

theorem State.ctsChange_keeps {s0 s : State} (h : Keeps s0 s) (m level) :
    Keeps s0 (State.ctsChange s m level) := by
  unfold State.ctsChange
  repeat' with_reducible first
    | assumption | apply State.ctsSeen_keeps | apply State.setBp_keeps | apply Keeps.record

theorem State.flushRx_keeps {s0 s : State} (h : Keeps s0 s) (cls m) :
    Keeps s0 (State.flushRx s cls m) := by
  unfold State.flushRx
  repeat' with_reducible first
    | intro _ | assumption | apply State.setBp_keeps | apply State.qDropPkt_keeps | apply Keeps.foldl | dsimp only
    | apply Keeps.record

theorem State.cardOff_keeps {s0 s : State} (h : Keeps s0 s) (m) :
    Keeps s0 (State.cardOff s m) := by
  unfold State.cardOff
  repeat' with_reducible first
    | assumption | apply State.setBp_keeps | apply State.failOps_keeps | apply State.emitOn_keeps
    | apply State.put_keeps | dsimp only | apply Keeps.record

theorem State.cardReset_keeps {s0 s : State} (h : Keeps s0 s) (m a what) :
    Keeps s0 (State.cardReset s m a what) := by
  unfold State.cardReset
  repeat' with_reducible first
    | intro _ | assumption | apply State.updOp_keeps | apply State.emitOn_keeps | apply State.put_keeps
    | apply Keeps.record

theorem State.cardActivate_keeps {s0 s : State} (h : Keeps s0 s) (m a) :
    Keeps s0 (State.cardActivate s m a) := by
  unfold State.cardActivate
  repeat' with_reducible first
    | assumption | apply State.cardReset_keeps | apply State.endOp_keeps | apply Keeps.ite | split | dsimp only

theorem State.cardWarm_keeps {s0 s : State} (h : Keeps s0 s) (m a) :
    Keeps s0 (State.cardWarm s m a) := by
  unfold State.cardWarm
  repeat' with_reducible first
    | assumption | apply State.cardReset_keeps | apply State.endOp_keeps | apply Keeps.ite | split | dsimp only

theorem State.cardDeactivate_keeps {s0 s : State} (h : Keeps s0 s) (m a) :
    Keeps s0 (State.cardDeactivate s m a) := by
  unfold State.cardDeactivate
  repeat' with_reducible first
    | assumption | apply State.cardOff_keeps | apply State.endOps_keeps | apply State.endOp_keeps | apply Keeps.ite
    | split

theorem State.cardAtr_keeps {s0 s : State} (h : Keeps s0 s) (m b inverse time) :
    Keeps s0 (State.cardAtr s m b inverse time) := by
  unfold State.cardAtr
  repeat' with_reducible first
    | assumption | apply State.byteLoad_keeps | apply State.chunkByte_keeps | apply State.endOps_keeps
    | apply State.flag_keeps | apply State.put_keeps | apply Keeps.ite | split | dsimp only

theorem State.cardNoAtr_keeps {s0 s : State} (h : Keeps s0 s) (m) :
    Keeps s0 (State.cardNoAtr s m) := by
  unfold State.cardNoAtr
  repeat' with_reducible first
    | assumption | apply State.cardOff_keeps | apply State.cardRaise_keeps | apply State.endOps_keeps
    | apply Keeps.ite | split | dsimp only

theorem State.cardReceive_keeps {s0 s : State} (h : Keeps s0 s) (m b parityOk time) :
    Keeps s0 (State.cardReceive s m b parityOk time) := by
  unfold State.cardReceive
  repeat' with_reducible first
    | assumption | apply State.chunkByte_keeps | apply State.cardRaise_keeps | apply State.setBp_keeps
    | apply State.emitOn_keeps | apply Keeps.ite | split | dsimp only | apply Keeps.record

theorem State.cardSent_keeps {s0 s : State} (h : Keeps s0 s) (m refused) :
    Keeps s0 (State.cardSent s m refused) := by
  unfold State.cardSent
  repeat' with_reducible first
    | assumption | apply State.byteStop_keeps | apply State.byteSent_keeps | apply State.setBp_keeps | apply Keeps.ite
    | split | dsimp only | apply Keeps.record

theorem State.cardExpiry_keeps {s0 s : State} (h : Keeps s0 s) (m) :
    Keeps s0 (State.cardExpiry s m) := by
  unfold State.cardExpiry
  repeat' with_reducible first
    | intro _ | assumption | apply State.cardRaise_keeps | apply State.setBp_keeps | apply State.endOps_keeps
    | apply Keeps.ite | split | dsimp only | apply Keeps.record

theorem State.cardPresence_keeps {s0 s : State} (h : Keeps s0 s) (m level) :
    Keeps s0 (State.cardPresence s m level) := by
  unfold State.cardPresence
  repeat' with_reducible first
    | intro _ | assumption | apply State.cardOff_keeps | apply State.cardRaise_keeps | apply State.portEvent_keeps
    | apply State.failOps_keeps | apply State.endOps_keeps | apply State.put_keeps | apply Keeps.ite | split
    | dsimp only | apply Keeps.record

theorem State.serEn_keeps {s0 s : State} (h : Keeps s0 s) (m en) :
    Keeps s0 (State.serEn s m en) := by
  unfold State.serEn
  repeat' with_reducible first
    | assumption | apply State.serRaise_keeps | apply State.portOff_keeps | apply State.put_keeps | apply Keeps.ite
    | split

theorem State.cardEn_keeps {s0 s : State} (h : Keeps s0 s) (m en) :
    Keeps s0 (State.cardEn s m en) := by
  unfold State.cardEn
  repeat' with_reducible first
    | assumption | apply State.cardOff_keeps | apply State.portOff_keeps | apply State.put_keeps | apply Keeps.ite
    | split | dsimp only

/-! ### Eth -/

theorem State.setEth_keeps {s0 s : State} (h : Keeps s0 s) (m x) :
    Keeps s0 (State.setEth s m x) := by
  unfold State.setEth
  repeat' with_reducible first
    | assumption | apply Keeps.record

theorem State.ethRaise_keeps {s0 s : State} (h : Keeps s0 s) (m bit) :
    Keeps s0 (State.ethRaise s m bit) := by
  unfold State.ethRaise
  repeat' with_reducible first
    | assumption | apply State.raiseF_keeps | apply State.raise_keeps | apply Keeps.ite | split

theorem State.timRaise_keeps {s0 s : State} (h : Keeps s0 s) (bit) :
    Keeps s0 (State.timRaise s bit) := by
  unfold State.timRaise
  repeat' with_reducible first
    | assumption | apply State.raise_keeps

theorem State.ptpEdge_keeps {s0 s : State} (h : Keeps s0 s) :
    Keeps s0 (State.ptpEdge s) := by
  unfold State.ptpEdge
  repeat' with_reducible first
    | assumption | apply State.timRaise_keeps | apply Keeps.ite | split | dsimp only | apply Keeps.record

theorem State.ptpTick_keeps {s0 s : State} (h : Keeps s0 s) :
    Keeps s0 (State.ptpTick s) := by
  unfold State.ptpTick
  repeat' with_reducible first
    | assumption | apply State.ptpEdge_keeps | apply Keeps.ite | split | dsimp only | apply Keeps.record

theorem State.timSet_keeps {s0 s : State} (h : Keeps s0 s) (mid v) :
    Keeps s0 (State.timSet s mid v) := by
  unfold State.timSet
  repeat' with_reducible first
    | assumption | apply State.timRaise_keeps | apply Keeps.ite | split | apply Keeps.record

theorem State.timRate_keeps {s0 s : State} (h : Keeps s0 s) (mid v) :
    Keeps s0 (State.timRate s mid v) := by
  unfold State.timRate
  repeat' with_reducible first
    | assumption | apply State.put_keeps | apply Keeps.ite | split | dsimp only

theorem State.timSlew_keeps {s0 s : State} (h : Keeps s0 s) (mid v) :
    Keeps s0 (State.timSlew s mid v) := by
  unfold State.timSlew
  repeat' with_reducible first
    | assumption | apply State.timRaise_keeps | apply Keeps.ite | split | dsimp only | apply Keeps.record

theorem State.slewDone_keeps {s0 s : State} (h : Keeps s0 s) :
    Keeps s0 (State.slewDone s) := by
  unfold State.slewDone
  repeat' with_reducible first
    | assumption | apply State.timRaise_keeps | apply Keeps.ite | split | apply Keeps.record

theorem State.crossStamp_keeps {s0 s : State} (h : Keeps s0 s) :
    Keeps s0 (State.crossStamp s) := by
  unfold State.crossStamp
  repeat' with_reducible first
    | assumption | apply State.put_keeps

theorem State.capEdge_keeps {s0 s : State} (h : Keeps s0 s) (n rising) :
    Keeps s0 (State.capEdge s n rising) := by
  unfold State.capEdge
  repeat' with_reducible first
    | assumption | apply State.timRaise_keeps | apply State.put_keeps | apply Keeps.ite | split | dsimp only
    | apply Keeps.record

theorem State.ppsEdge_keeps {s0 s : State} (h : Keeps s0 s) (n) :
    Keeps s0 (State.ppsEdge s n) := by
  unfold State.ppsEdge
  repeat' with_reducible first
    | assumption | apply State.emitOn_keeps | apply Keeps.ite | split

theorem State.ppsWrite_keeps {s0 s : State} (h : Keeps s0 s) (mid n width v) :
    Keeps s0 (State.ppsWrite s mid n width v) := by
  unfold State.ppsWrite
  repeat' with_reducible first
    | assumption | apply State.put_keeps | apply Keeps.ite | split | dsimp only

theorem State.capCtlWrite_keeps {s0 s : State} (h : Keeps s0 s) (mid n v) :
    Keeps s0 (State.capCtlWrite s mid n v) := by
  unfold State.capCtlWrite
  repeat' with_reducible first
    | assumption | apply State.put_keeps | apply Keeps.ite | split

theorem State.ethStore_keeps {s0 s : State} (h : Keeps s0 s) (m l time) :
    Keeps s0 (State.ethStore s m l time) := by
  unfold State.ethStore
  repeat' with_reducible first
    | assumption | apply State.ethRaise_keeps | apply State.setEth_keeps | apply State.gwOffer_keeps
    | apply State.store_keeps | apply State.count_keeps | apply Keeps.ite | split | dsimp only | apply Keeps.record

theorem State.ethReceive_keeps {s0 s : State} (h : Keeps s0 s) (m l fcsBad time) :
    Keeps s0 (State.ethReceive s m l fcsBad time) := by
  unfold State.ethReceive
  repeat' with_reducible first
    | assumption | apply State.ethStore_keeps | apply State.ethRaise_keeps | apply State.setEth_keeps
    | apply Keeps.ite | split | dsimp only | apply Keeps.record

theorem State.ethProgram_keeps {s0 s : State} (h : Keeps s0 s) (m n) : Keeps s0 (State.ethProgram m n s).1 := by
  induction n generalizing s with
  | zero => exact h
  | succ n ih =>
    unfold State.ethProgram
    split
    · exact h
    · dsimp only
      split
      · exact State.txNext_keeps h _
      · exact ih (State.txNext_keeps h _)

theorem State.ethBegin_keeps {s0 s : State} (h : Keeps s0 s) (m) :
    Keeps s0 (State.ethBegin s m) := by
  unfold State.ethBegin
  repeat' with_reducible first
    | assumption | apply State.ethProgram_keeps | apply State.setEth_keeps | apply State.gwNext_keeps | split
    | dsimp only | apply Keeps.record

theorem State.ethLoad_keeps {s0 s : State} (h : Keeps s0 s) (m) :
    Keeps s0 (State.ethLoad s m) := by
  unfold State.ethLoad
  repeat' with_reducible first
    | assumption | apply State.ethBegin_keeps | apply Keeps.ite | split

theorem State.ethStamp_keeps {s0 s : State} (h : Keeps s0 s) (m k time) :
    Keeps s0 (State.ethStamp s m k time) := by
  unfold State.ethStamp
  repeat' with_reducible first
    | assumption | apply State.ethRaise_keeps | apply State.count_keeps | apply State.flag_keeps
    | apply State.put_keeps | apply Keeps.ite | split | dsimp only

theorem State.ethSent_keeps {s0 s : State} (h : Keeps s0 s) (m time) :
    Keeps s0 (State.ethSent s m time) := by
  unfold State.ethSent
  repeat' with_reducible first
    | assumption | apply State.ethStamp_keeps | apply State.ethLoad_keeps | apply State.setEth_keeps
    | apply State.frameLeft_keeps | apply State.emit_keeps | apply State.count_keeps | apply Keeps.ite | split
    | dsimp only | apply Keeps.record

theorem State.ethCollide_keeps {s0 s : State} (h : Keeps s0 s) (late) :
    Keeps s0 (State.ethCollide s late) := by
  unfold State.ethCollide
  repeat' with_reducible first
    | assumption | apply State.ethLoad_keeps | apply State.ethRaise_keeps | apply State.setEth_keeps
    | apply State.frameFailed_keeps | apply Keeps.ite | split | dsimp only | apply Keeps.record

theorem State.ethDiscard_keeps {s0 s : State} (h : Keeps s0 s) (m) :
    Keeps s0 (State.ethDiscard s m) := by
  unfold State.ethDiscard
  repeat' with_reducible first
    | intro _ | assumption | apply State.frameFailed_keeps | apply State.qFlush_keeps | apply Keeps.foldl
    | apply Keeps.foldl_fst | dsimp only

theorem State.ethCut_keeps {s0 s : State} (h : Keeps s0 s) (m) :
    Keeps s0 (State.ethCut s m) := by
  unfold State.ethCut
  repeat' with_reducible first
    | assumption | apply State.ethDiscard_keeps | apply State.setEth_keeps | apply State.frameFailed_keeps | split
    | dsimp only | apply Keeps.record

theorem State.linkUpDone_keeps {s0 s : State} (h : Keeps s0 s) (m) :
    Keeps s0 (State.linkUpDone s m) := by
  unfold State.linkUpDone
  repeat' with_reducible first
    | intro _ | assumption | apply State.endOps_keeps | split | dsimp only

theorem State.ethLinkTo_keeps {s0 s : State} (h : Keeps s0 s) (m up) :
    Keeps s0 (State.ethLinkTo s m up) := by
  unfold State.ethLinkTo
  repeat' with_reducible first
    | intro _ | assumption | apply State.linkUpDone_keeps | apply State.ethCut_keeps | apply State.ethLoad_keeps
    | apply State.ethRaise_keeps | apply State.portEvent_keeps | apply State.flag_keeps | apply Keeps.ite | split
    | dsimp only

theorem State.plcaSettle_keeps {s0 s : State} (h : Keeps s0 s) :
    Keeps s0 (State.plcaSettle s) := by
  unfold State.plcaSettle
  repeat' with_reducible first
    | assumption | apply State.put_keeps | apply Keeps.ite | split

theorem State.ethSettle_keeps {s0 s : State} (h : Keeps s0 s) (m) :
    Keeps s0 (State.ethSettle s m) := by
  unfold State.ethSettle
  repeat' with_reducible first
    | assumption | apply State.plcaSettle_keeps | apply State.ethLinkTo_keeps | apply Keeps.ite | split | dsimp only

theorem State.ethsSettle_keeps {s0 s : State} (h : Keeps s0 s) :
    Keeps s0 (State.ethsSettle s) := by
  unfold State.ethsSettle
  repeat' with_reducible first
    | intro _ | assumption | apply State.ethSettle_keeps | apply Keeps.foldl | dsimp only

theorem State.ethLinkChange_keeps {s0 s : State} (h : Keeps s0 s) (m up) :
    Keeps s0 (State.ethLinkChange s m up) := by
  unfold State.ethLinkChange
  repeat' with_reducible first
    | assumption | apply State.ethLinkTo_keeps | apply Keeps.ite | split

theorem State.linkUp_keeps {s0 s : State} (h : Keeps s0 s) (m a) :
    Keeps s0 (State.linkUp s m a) := by
  unfold State.linkUp
  repeat' with_reducible first
    | intro _ | assumption | apply State.ethSettle_keeps | apply State.endOp_keeps | apply State.updOp_keeps
    | apply State.put_keeps | apply Keeps.ite | split | dsimp only | apply Keeps.record

theorem State.linkDown_keeps {s0 s : State} (h : Keeps s0 s) (m a) :
    Keeps s0 (State.linkDown s m a) := by
  unfold State.linkDown
  repeat' with_reducible first
    | assumption | apply State.ethSettle_keeps | apply State.endOp_keeps | apply State.put_keeps

theorem State.plcaOpportunity_keeps {s0 s : State} (h : Keeps s0 s) :
    Keeps s0 (State.plcaOpportunity s) := by
  unfold State.plcaOpportunity
  repeat' with_reducible first
    | assumption | apply State.ethLoad_keeps | apply State.setEth_keeps | apply State.emit_keeps | apply Keeps.ite
    | split | dsimp only | apply Keeps.record

theorem State.plcaLoss_keeps {s0 s : State} (h : Keeps s0 s) :
    Keeps s0 (State.plcaLoss s) := by
  unfold State.plcaLoss
  repeat' with_reducible first
    | assumption | apply State.ethLoad_keeps | apply State.ethRaise_keeps | apply State.put_keeps | apply Keeps.ite
    | split

theorem State.plcaBeacon_keeps {s0 s : State} (h : Keeps s0 s) :
    Keeps s0 (State.plcaBeacon s) := by
  unfold State.plcaBeacon
  repeat' with_reducible first
    | assumption | apply State.put_keeps | apply Keeps.ite | split

theorem State.ethEn_keeps {s0 s : State} (h : Keeps s0 s) (m en) :
    Keeps s0 (State.ethEn s m en) := by
  unfold State.ethEn
  repeat' with_reducible first
    | assumption | apply State.ethSettle_keeps | apply State.ethRaise_keeps | apply State.portOff_keeps
    | apply State.put_keeps | apply Keeps.ite | split

theorem State.ethCfgWrite_keeps {s0 s : State} (h : Keeps s0 s) (m mid v) :
    Keeps s0 (State.ethCfgWrite s m mid v) := by
  unfold State.ethCfgWrite
  repeat' with_reducible first
    | assumption | apply State.ethEn_keeps | apply State.writeOthers_keeps

/-! ### Gateway -/

theorem State.portKick_keeps {s0 s : State} (h : Keeps s0 s) (cls idx) :
    Keeps s0 (State.portKick s cls idx) := by
  unfold State.portKick
  repeat' with_reducible first
    | assumption | apply State.ethDiscard_keeps | apply State.ethLoad_keeps | apply State.byteLoad_keeps
    | apply State.linLoad_keeps | apply State.canDiscard_keeps | apply State.canLoad_keeps | apply Keeps.ite | split

theorem State.grtCommit_keeps {s0 s : State} (h : Keeps s0 s) (e w0) :
    Keeps s0 (State.grtCommit s e w0) := by
  unfold State.grtCommit
  repeat' with_reducible first
    | assumption | apply State.put_keeps | dsimp only | apply Keeps.record

theorem State.accessRefused_keeps {s0 s : State} (h : Keeps s0 s) (off w) :
    Keeps s0 (State.accessRefused s off w) := by
  unfold State.accessRefused
  repeat' with_reducible first
    | assumption | apply State.fault_keeps | apply Keeps.ite | split | apply Keeps.record

theorem State.grtWrite_keeps {s0 s : State} (h : Keeps s0 s) (e i w v) :
    Keeps s0 (State.grtWrite s e i w v) := by
  unfold State.grtWrite
  repeat' with_reducible first
    | assumption | apply State.accessRefused_keeps | apply State.grtCommit_keeps | apply Keeps.ite | split
    | apply Keeps.record

theorem State.takeToken_keeps {s0 s : State} (h : Keeps s0 s) (p) :
    Keeps s0 (State.takeToken s p) := by
  unfold State.takeToken
  repeat' with_reducible first
    | assumption | apply Keeps.record

theorem State.gainTokens_keeps {s0 s : State} (h : Keeps s0 s) :
    Keeps s0 (State.gainTokens s) := by
  unfold State.gainTokens
  repeat' with_reducible first
    | intro _ | assumption | apply Keeps.foldl | apply Keeps.foldl_fst | dsimp only | apply Keeps.record

theorem State.egressDrop_keeps {s0 s : State} (h : Keeps s0 s) (p bit) :
    Keeps s0 (State.egressDrop s p bit) := by
  unfold State.egressDrop
  repeat' with_reducible first
    | assumption | apply State.gwRaise_keeps | apply State.count_keeps

theorem State.egressPut_keeps {s0 s : State} (h : Keeps s0 s) (p rec pois) :
    Keeps s0 (State.egressPut s p rec pois) := by
  unfold State.egressPut
  repeat' with_reducible first
    | assumption | apply State.takeToken_keeps | apply State.portKick_keeps | apply State.setLin_keeps
    | apply State.gwRaise_keeps | apply State.count_keeps | apply Keeps.ite | apply Keeps.fst_ite | split | dsimp only
    | apply Keeps.record

theorem State.egress_keeps {s0 s : State} (h : Keeps s0 s) (p rec pois) :
    Keeps s0 (State.egress s p rec pois) := by
  unfold State.egress
  repeat' with_reducible first
    | assumption | apply State.egressPut_keeps | apply State.egressDrop_keeps | apply Keeps.ite | split | dsimp only

theorem State.sendRec_keeps {s0 s : State} (h : Keeps s0 s) (r lin rec seq pois p) :
    Keeps s0 (State.sendRec s r lin rec seq pois p) := by
  unfold State.sendRec
  repeat' with_reducible first
    | assumption | apply State.egress_keeps | apply Keeps.ite | apply Keeps.fst_ite | split | dsimp only

theorem State.routeRec_keeps {s0 s : State} (h : Keeps s0 s) (r lin rec pois) :
    Keeps s0 (State.routeRec s r lin rec pois) := by
  unfold State.routeRec
  repeat' with_reducible first
    | intro _ | assumption | apply State.sendRec_keeps | apply Keeps.ite | apply Keeps.foldl | split | dsimp only
    | apply Keeps.record

theorem State.routeAcf_keeps {s0 s : State} (h : Keeps s0 s) (r pois m) :
    Keeps s0 (State.routeAcf s r pois m) := by
  unfold State.routeAcf
  repeat' with_reducible first
    | intro _ | assumption | apply State.sendRec_keeps | apply State.egress_keeps | apply State.gwRaise_keeps
    | apply Keeps.ite | apply Keeps.foldl | split | dsimp only | apply Keeps.record

theorem State.routeEth_keeps {s0 s : State} (h : Keeps s0 s) (r l pois) :
    Keeps s0 (State.routeEth s r l pois) := by
  unfold State.routeEth
  repeat' with_reducible first
    | intro _ | assumption | apply State.routeAcf_keeps | apply State.egress_keeps | apply State.egressDrop_keeps
    | apply State.gwRaise_keeps | apply Keeps.ite | apply Keeps.foldl | split | dsimp only

theorem State.gwLookup_keeps {s0 s : State} (h : Keeps s0 s) (code pois) :
    Keeps s0 (State.gwLookup s code pois) := by
  unfold State.gwLookup
  repeat' with_reducible first
    | assumption | apply State.routeEth_keeps | apply State.routeRec_keeps | apply State.gwRaise_keeps
    | apply Keeps.ite | split | dsimp only | apply Keeps.record

/-! ### Queues -/

theorem State.qmgRaise_keeps {s0 s : State} (h : Keeps s0 s) (bit) :
    Keeps s0 (State.qmgRaise s bit) := by
  unfold State.qmgRaise
  repeat' with_reducible first
    | assumption | apply State.raise_keeps

theorem State.sqTail_keeps {s0 s : State} (h : Keeps s0 s) (n v) :
    Keeps s0 (State.sqTail s n v) := by
  unfold State.sqTail
  repeat' with_reducible first
    | assumption | apply State.sqError_keeps | apply State.setSq_keeps | apply Keeps.ite | split | dsimp only
    | apply Keeps.record

theorem State.sqDoorbell_keeps {s0 s : State} (h : Keeps s0 s) (n mid v) :
    Keeps s0 (State.sqDoorbell s n mid v) := by
  unfold State.sqDoorbell
  repeat' with_reducible first
    | assumption | apply State.sqTail_keeps | apply State.qmgRaise_keeps | apply Keeps.ite | split

theorem State.resume_keeps {s0 s : State} (h : Keeps s0 s) (tag p) :
    Keeps s0 (State.resume s tag p) := by
  unfold State.resume
  repeat' with_reducible first
    | assumption | apply State.setProg_keeps | apply State.trace_keeps | apply Keeps.ite | split | dsimp only
    | apply Keeps.record

theorem State.resumeDoorbell_keeps {s0 s : State} (h : Keeps s0 s) (n mid tag) :
    Keeps s0 (State.resumeDoorbell s n mid tag) := by
  unfold State.resumeDoorbell
  repeat' with_reducible first
    | assumption | apply State.resume_keeps | apply State.qmgRaise_keeps | apply Keeps.ite | split | dsimp only

theorem State.crHead_keeps {s0 s : State} (h : Keeps s0 s) (m mid v) :
    Keeps s0 (State.crHead s m mid v) := by
  unfold State.crHead
  repeat' with_reducible first
    | assumption | apply State.qmgRaise_keeps | apply State.ringRaise_keeps | apply State.setRing_keeps
    | apply Keeps.ite | split | dsimp only | apply Keeps.record

theorem State.entryFetch_keeps {s0 s : State} (h : Keeps s0 s) (n) :
    Keeps s0 (State.entryFetch s n) := by
  unfold State.entryFetch
  repeat' with_reducible first
    | assumption | apply State.hostRead_keeps | apply Keeps.ite | split | dsimp only | apply Keeps.record

theorem State.entryArrives_keeps {s0 s : State} (h : Keeps s0 s) (n aborted data) :
    Keeps s0 (State.entryArrives s n aborted data).1 := by
  unfold State.entryArrives
  repeat' with_reducible first
    | assumption | apply State.endUnstarted_keeps | apply State.setProg_keeps | apply State.sqError_keeps
    | apply State.setSq_keeps | apply State.trace_keeps | apply State.setRing_keeps | apply Keeps.ite
    | apply Keeps.fst_ite | split | dsimp only | apply Keeps.record

theorem State.entriesArrive_keeps {s0 s : State} (h : Keeps s0 s) (n k data) :
    Keeps s0 (State.entriesArrive s n k data) := by
  unfold State.entriesArrive
  repeat' with_reducible first
    | intro _ | assumption | apply State.entryArrives_keeps | apply Keeps.ite | apply Keeps.fst_ite
    | apply Keeps.foldl | apply Keeps.foldl_fst | split | dsimp only

theorem State.adminFetch_keeps {s0 s : State} (h : Keeps s0 s) :
    Keeps s0 (State.adminFetch s) := by
  unfold State.adminFetch
  repeat' with_reducible first
    | assumption | apply State.hostRead_keeps | apply Keeps.ite | split | dsimp only

theorem State.adminArrives_keeps {s0 s : State} (h : Keeps s0 s) (aborted data) :
    Keeps s0 (State.adminArrives s aborted data).1 := by
  unfold State.adminArrives
  repeat' with_reducible first
    | assumption | apply State.postAdmin_keeps | apply State.sqError_keeps | apply State.setSq_keeps
    | apply State.setRing_keeps | apply Keeps.ite | apply Keeps.fst_ite | split | dsimp only | apply Keeps.record

theorem State.adminArrive_keeps {s0 s : State} (h : Keeps s0 s) (k data) :
    Keeps s0 (State.adminArrive s k data) := by
  unfold State.adminArrive
  repeat' with_reducible first
    | intro _ | assumption | apply State.adminArrives_keeps | apply Keeps.ite | apply Keeps.fst_ite
    | apply Keeps.foldl | apply Keeps.foldl_fst | split | dsimp only

theorem State.adminDone_keeps {s0 s : State} (h : Keeps s0 s) :
    Keeps s0 (State.adminDone s) := by
  unfold State.adminDone
  repeat' with_reducible first
    | assumption | apply State.postAdmin_keeps | split | dsimp only | apply Keeps.record

theorem State.adminAbort_keeps {s0 s : State} (h : Keeps s0 s) :
    Keeps s0 (State.adminAbort s) := by
  unfold State.adminAbort
  repeat' with_reducible first
    | intro _ | assumption | apply State.postAdmin_keeps | apply State.dropFetch_keeps | apply State.dropFw_keeps
    | apply Keeps.foldl | dsimp only | apply Keeps.record

theorem State.adminEnable_keeps {s0 s : State} (h : Keeps s0 s) (f) :
    Keeps s0 (State.adminEnable s f) := by
  unfold State.adminEnable
  repeat' with_reducible first
    | assumption | apply State.setSq_keeps | apply State.setRing_keeps | apply State.put_keeps | apply Keeps.ite
    | split | dsimp only | apply Keeps.record

theorem State.putDepth_keeps {s0 s : State} (h : Keeps s0 s) (f k) :
    Keeps s0 (State.putDepth s f k) := by
  unfold State.putDepth
  repeat' with_reducible first
    | assumption | apply State.put_keeps | apply Keeps.ite | split

theorem State.admCtlWrite_keeps {s0 s : State} (h : Keeps s0 s) (mid v) :
    Keeps s0 (State.admCtlWrite s mid v) := by
  unfold State.admCtlWrite
  repeat' with_reducible first
    | assumption | apply State.putDepth_keeps | apply State.adminEnable_keeps | apply State.adminDisable_keeps
    | apply Keeps.ite | split | dsimp only

theorem State.adminDisableEnd_keeps {s0 s : State} (h : Keeps s0 s) :
    Keeps s0 (State.adminDisableEnd s) := by
  unfold State.adminDisableEnd
  repeat' with_reducible first
    | assumption | apply State.adminAbort_keeps | apply State.setSq_keeps | apply State.setRing_keeps
    | apply State.put_keeps | apply Keeps.ite | split | dsimp only | apply Keeps.record

theorem State.crIntWrite_keeps {s0 s : State} (h : Keeps s0 s) (m mid v) :
    Keeps s0 (State.crIntWrite s m mid v) := by
  unfold State.crIntWrite
  repeat' with_reducible first
    | assumption | apply State.writeFlds_keeps | apply Keeps.ite | split

theorem State.ringDelay_keeps {s0 s : State} (h : Keeps s0 s) (m) :
    Keeps s0 (State.ringDelay s m) := by
  unfold State.ringDelay
  repeat' with_reducible first
    | assumption | apply State.ringRaise_keeps | apply State.setRing_keeps | apply Keeps.ite | split | dsimp only
    | apply Keeps.record

theorem State.shutdownDone_keeps {s0 s : State} (h : Keeps s0 s) (n) :
    Keeps s0 (State.shutdownDone s n) := by
  unfold State.shutdownDone
  repeat' with_reducible first
    | assumption | apply State.setSq_keeps | apply Keeps.ite | split | dsimp only | apply Keeps.record

/-! ### Buffers -/

theorem State.bufRefused_keeps {s0 s : State} (h : Keeps s0 s) (q reason) :
    Keeps s0 (State.bufRefused s q reason) := by
  unfold State.bufRefused
  repeat' with_reducible first
    | assumption | apply State.raise_keeps | apply State.put_keeps

theorem State.qCfgWrite_keeps {s0 s : State} (h : Keeps s0 s) (q v) :
    Keeps s0 (State.qCfgWrite s q v) := by
  unfold State.qCfgWrite
  repeat' with_reducible first
    | assumption | apply State.bufRefused_keeps | apply State.qEmptyOut_keeps | apply State.put_keeps
    | apply Keeps.ite | split | dsimp only

theorem State.qCmdWrite_keeps {s0 s : State} (h : Keeps s0 s) (q v) :
    Keeps s0 (State.qCmdWrite s q v) := by
  unfold State.qCmdWrite
  repeat' with_reducible first
    | assumption | apply State.bufRefused_keeps | apply State.qDropPkt_keeps | apply Keeps.ite | split

theorem State.portCfgWrite_keeps {s0 s : State} (h : Keeps s0 s) (p mid v) :
    Keeps s0 (State.portCfgWrite s p mid v) := by
  unfold State.portCfgWrite
  repeat' with_reducible first
    | assumption | apply State.ethCfgWrite_keeps | apply State.cardEn_keeps | apply State.serEn_keeps
    | apply State.sentEn_keeps | apply State.linEn_keeps | apply State.canCtlWrite_keeps
    | apply State.writeOthers_keeps | split | dsimp only

end Sys2Proof.Machine
end

