-- ==== Sys2Proof/Laws/KeepsChannel.lean ====
section
/-!
SUPPORT. What the operations of the channel engine, the lands, the ledger, the Hinge and the chain keep.
-/

namespace Sys2Proof.Machine

set_option linter.unusedTactic false
set_option linter.unreachableTactic false

/-! ### Channel -/

theorem State.pumpTable_keeps {s0 s : State} (h : Keeps s0 s) (tag) :
    Keeps s0 (State.pumpTable s tag) := by
  unfold State.pumpTable
  repeat' with_reducible first
    | intro _ | assumption | apply State.endOp_keeps | apply State.hostRead_keeps | apply Keeps.ite | split
    | dsimp only

theorem State.tableArrives_keeps {s0 s : State} (h : Keeps s0 s) (tag data) :
    Keeps s0 (State.tableArrives s tag data) := by
  unfold State.tableArrives
  repeat' with_reducible first
    | intro _ | assumption | apply State.pumpTable_keeps | apply State.endOp_keeps | apply State.updOp_keeps | split
    | dsimp only | apply Keeps.record

theorem State.endCcw_keeps {s0 s : State} (h : Keeps s0 s) (tag status detail residual) :
    Keeps s0 (State.endCcw s tag status detail residual) := by
  unfold State.endCcw
  repeat' with_reducible first
    | intro _ | assumption | apply State.endUnstarted_keeps | apply State.stopOp_keeps | apply State.updProg_keeps
    | split | dsimp only

theorem State.readCcw_keeps {s0 s : State} (h : Keeps s0 s) (tag p) :
    Keeps s0 (State.readCcw s tag p) := by
  unfold State.readCcw
  repeat' with_reducible first
    | assumption | apply State.endCcw_keeps | apply State.setProg_keeps | apply State.hostRead_keeps | apply Keeps.ite
    | split | dsimp only | apply Keeps.record

theorem State.ccwArrives_keeps {s0 s : State} (h : Keeps s0 s) (tag data) :
    Keeps s0 (State.ccwArrives s tag data) := by
  unfold State.ccwArrives
  repeat' with_reducible first
    | intro _ | assumption | apply State.updProg_keeps | apply Keeps.ite | split | dsimp only | apply Keeps.record

theorem State.prgTableArrives_keeps {s0 s : State} (h : Keeps s0 s) (tag data) :
    Keeps s0 (State.prgTableArrives s tag data) := by
  unfold State.prgTableArrives
  repeat' with_reducible first
    | assumption | apply State.endCcw_keeps | apply State.setProg_keeps | apply Keeps.ite | split | dsimp only
    | apply Keeps.record

theorem State.farStart_keeps {s0 s : State} (h : Keeps s0 s) (tag) :
    Keeps s0 (State.farStart s tag) := by
  unfold State.farStart
  repeat' with_reducible first
    | intro _ | assumption | apply State.prgReq_keeps | apply State.endOp_keeps | apply State.updOp_keeps
    | apply Keeps.ite | split | dsimp only | apply Keeps.record

theorem State.openOp_keeps {s0 s : State} (h : Keeps s0 s) (a o) :
    Keeps s0 (State.openOp s a o) := by
  unfold State.openOp
  repeat' with_reducible first
    | assumption | apply State.setOp_keeps | apply Keeps.record

theorem State.judgeStart_keeps {s0 s : State} (h : Keeps s0 s) (a c) :
    Keeps s0 (State.judgeStart s a c) := by
  unfold State.judgeStart
  repeat' with_reducible first
    | assumption | apply State.endOp_keeps | split | dsimp only

theorem State.sinceFirst_keeps {s0 s : State} (h : Keeps s0 s) (tag p) :
    Keeps s0 (State.sinceFirst s tag p) := by
  unfold State.sinceFirst
  repeat' with_reducible first
    | intro _ | assumption | apply State.updOp_keeps | split | dsimp only | apply Keeps.record

theorem State.startCcw_keeps {s0 s : State} (h : Keeps s0 s) (tag p c) :
    Keeps s0 (State.startCcw s tag p c) := by
  unfold State.startCcw
  repeat' with_reducible first
    | assumption | apply State.sinceFirst_keeps | apply State.judgeStart_keeps | apply State.openOp_keeps
    | apply State.farStart_keeps | apply State.pumpTable_keeps | apply State.ccwStarted_keeps
    | apply State.endOp_keeps | apply State.setProg_keeps | apply Keeps.ite | split | dsimp only | apply Keeps.record

theorem State.suspend_keeps {s0 s : State} (h : Keeps s0 s) (tag p) :
    Keeps s0 (State.suspend s tag p) := by
  unfold State.suspend
  repeat' with_reducible first
    | assumption | apply State.setProg_keeps | apply State.trace_keeps | apply Keeps.record

theorem State.takeCcw_keeps {s0 s : State} (h : Keeps s0 s) (tag p bs) :
    Keeps s0 (State.takeCcw s tag p bs) := by
  unfold State.takeCcw
  repeat' with_reducible first
    | assumption | apply State.suspend_keeps | apply State.startCcw_keeps | apply State.endCcw_keeps
    | apply State.setProg_keeps | apply Keeps.ite | split | dsimp only | apply Keeps.record

theorem State.takeChained_keeps {s0 s : State} (h : Keeps s0 s) (tag p o bs) :
    Keeps s0 (State.takeChained s tag p o bs) := by
  unfold State.takeChained
  repeat' with_reducible first
    | intro _ | assumption | apply State.farStart_keeps | apply State.endCcw_keeps | apply State.pumpTable_keeps
    | apply State.updOp_keeps | apply State.setProg_keeps | apply Keeps.ite | split | dsimp only | apply Keeps.record

theorem State.reready_keeps {s0 s : State} (h : Keeps s0 s) :
    Keeps s0 (State.reready s) := by
  unfold State.reready
  repeat' with_reducible first
    | assumption | apply Keeps.record

theorem State.ccwTurn_keeps {s0 s : State} (h : Keeps s0 s) (tag) :
    Keeps s0 (State.ccwTurn s tag) := by
  unfold State.ccwTurn
  repeat' with_reducible first
    | assumption | apply State.takeChained_keeps | apply State.takeCcw_keeps | apply State.readCcw_keeps
    | apply State.endCcw_keeps | apply State.setProg_keeps | apply Keeps.ite | split | dsimp only | apply Keeps.record

theorem State.jump_keeps {s0 s : State} (h : Keeps s0 s) (tag) :
    Keeps s0 (State.jump s tag) := by
  unfold State.jump
  repeat' with_reducible first
    | intro _ | assumption | apply State.endCcw_keeps | apply State.ccwStarted_keeps | apply State.updProg_keeps
    | apply State.setProg_keeps | apply Keeps.ite | split | dsimp only | apply Keeps.record

theorem State.chainOn_keeps {s0 s : State} (h : Keeps s0 s) (tag p o) :
    Keeps s0 (State.chainOn s tag p o) := by
  unfold State.chainOn
  repeat' with_reducible first
    | assumption | apply State.notice_keeps | apply State.finalize_keeps | apply State.setProg_keeps
    | apply State.dropReads_keeps | apply Keeps.ite | split | dsimp only | apply Keeps.record

theorem State.localEnd_keeps {s0 s : State} (h : Keeps s0 s) (tag p o status detail) :
    Keeps s0 (State.localEnd s tag p o status detail) := by
  unfold State.localEnd
  repeat' with_reducible first
    | assumption | apply State.chainOn_keeps | apply State.finalize_keeps | apply State.withdraw_keeps
    | apply State.setProg_keeps | apply Keeps.ite | split | dsimp only | apply Keeps.record

theorem State.farEnd_keeps {s0 s : State} (h : Keeps s0 s) (slot o status detail) :
    Keeps s0 (State.farEnd s slot o status detail) := by
  unfold State.farEnd
  repeat' with_reducible first
    | assumption | apply State.withdraw_keeps | apply State.prgRsp_keeps | apply Keeps.ite | split | dsimp only
    | apply Keeps.record

theorem State.opEnd_keeps {s0 s : State} (h : Keeps s0 s) (a) :
    Keeps s0 (State.opEnd s a) := by
  unfold State.opEnd
  repeat' with_reducible first
    | assumption | apply State.farEnd_keeps | apply State.localEnd_keeps | apply Keeps.ite | split | dsimp only

theorem State.opTimeout_keeps {s0 s : State} (h : Keeps s0 s) (tag) :
    Keeps s0 (State.opTimeout s tag) := by
  unfold State.opTimeout
  repeat' with_reducible first
    | assumption | apply State.endProg_keeps | apply Keeps.ite | split | dsimp only

theorem State.wantData_keeps {s0 s : State} (h : Keeps s0 s) (tag) :
    Keeps s0 (State.wantData s tag) := by
  unfold State.wantData
  repeat' with_reducible first
    | assumption | apply State.pumpTable_keeps | apply State.endOp_keeps | apply State.setOp_keeps
    | apply State.hostRead_keeps | apply Keeps.ite | split | dsimp only | apply Keeps.record

theorem State.dataArrives_keeps {s0 s : State} (h : Keeps s0 s) (tag n data pois) :
    Keeps s0 (State.dataArrives s tag n data pois) := by
  unfold State.dataArrives
  repeat' with_reducible first
    | intro _ | assumption | apply State.endOp_keeps | apply State.updOp_keeps | split | dsimp only
    | apply Keeps.record

theorem State.control_keeps {s0 s : State} (h : Keeps s0 s) (a) :
    Keeps s0 (State.control s a) := by
  unfold State.control
  repeat' with_reducible first
    | assumption | apply State.farStart_keeps | apply State.setOp_keeps | apply Keeps.ite | split | dsimp only
    | apply Keeps.record

theorem State.freeBlock_keeps {s0 s : State} (h : Keeps s0 s) :
    Keeps s0 (State.freeBlock s).1 := by
  unfold State.freeBlock
  repeat' with_reducible first
    | intro _ | assumption | apply State.drawFree_keeps | apply Keeps.foldl | apply Keeps.foldl_fst | dsimp only

theorem State.senseBlock_keeps {s0 s : State} (h : Keeps s0 s) (cls idx) :
    Keeps s0 (State.senseBlock s cls idx).1 := by
  unfold State.senseBlock
  repeat' with_reducible first
    | assumption | apply State.freeBlock_keeps | apply Keeps.ite | apply Keeps.fst_ite | split | dsimp only

theorem State.areaShort_keeps {s0 s : State} (h : Keeps s0 s) (a o) :
    Keeps s0 (State.areaShort s a o) := by
  unfold State.areaShort
  repeat' with_reducible first
    | assumption | apply State.pumpTable_keeps | apply State.endOp_keeps | apply Keeps.ite | split

theorem State.sense_keeps {s0 s : State} (h : Keeps s0 s) (a) :
    Keeps s0 (State.sense s a) := by
  unfold State.sense
  repeat' with_reducible first
    | assumption | apply State.areaShort_keeps | apply State.senseBlock_keeps | apply State.farStart_keeps
    | apply State.deliver_keeps | apply State.endOp_keeps | apply Keeps.ite | apply Keeps.fst_ite | split | dsimp only

theorem State.waitEvent_keeps {s0 s : State} (h : Keeps s0 s) (a) :
    Keeps s0 (State.waitEvent s a) := by
  unfold State.waitEvent
  repeat' with_reducible first
    | assumption | apply State.farStart_keeps | apply State.endOp_keeps | apply Keeps.ite | split | dsimp only

theorem State.timerExpiry_keeps {s0 s : State} (h : Keeps s0 s) (a) :
    Keeps s0 (State.timerExpiry s a) := by
  unfold State.timerExpiry
  repeat' with_reducible first
    | assumption | apply State.endOp_keeps | apply Keeps.ite | split | dsimp only

theorem State.mark_keeps {s0 s : State} (h : Keeps s0 s) (tag) :
    Keeps s0 (State.mark s tag) := by
  unfold State.mark
  repeat' with_reducible first
    | assumption | apply State.endOp_keeps | apply State.setOp_keeps | apply State.tracePush_keeps | apply Keeps.ite
    | apply Keeps.fst_ite | split | dsimp only | apply Keeps.record

/-! ### Pins -/

theorem State.pinRaise_keeps {s0 s : State} (h : Keeps s0 s) (n bit) :
    Keeps s0 (State.pinRaise s n bit) := by
  unfold State.pinRaise
  repeat' with_reducible first
    | assumption | apply State.raise_keeps | apply State.put_keeps

theorem State.parkNow_keeps {s0 s : State} (h : Keeps s0 s) (n) :
    Keeps s0 (State.parkNow s n) := by
  unfold State.parkNow
  repeat' with_reducible first
    | assumption | apply Keeps.ite | split | dsimp only | apply Keeps.record

theorem State.gpioSeen_keeps {s0 s : State} (h : Keeps s0 s) (pin old) :
    Keeps s0 (State.gpioSeen s pin old) := by
  unfold State.gpioSeen
  repeat' with_reducible first
    | assumption | apply State.portEvent_keeps | apply Keeps.ite | split | dsimp only

theorem State.pinSwitch_keeps {s0 s : State} (h : Keeps s0 s) (n sel) :
    Keeps s0 (State.pinSwitch s n sel) := by
  unfold State.pinSwitch
  repeat' with_reducible first
    | assumption | apply State.gpioSeen_keeps | apply State.parkNow_keeps | apply State.put_keeps | apply Keeps.ite
    | split | dsimp only

theorem State.pinParkField_keeps {s0 s : State} (h : Keeps s0 s) (n) :
    Keeps s0 (State.pinParkField s n) := by
  unfold State.pinParkField
  repeat' with_reducible first
    | assumption | apply State.parkNow_keeps | apply Keeps.ite | split

theorem State.pinWrite_keeps {s0 s : State} (h : Keeps s0 s) (n mid v) :
    Keeps s0 (State.pinWrite s n mid v) := by
  unfold State.pinWrite
  repeat' with_reducible first
    | assumption | apply State.pinParkField_keeps | apply State.pinSwitch_keeps | apply State.pinRaise_keeps
    | apply State.writeOthers_keeps | apply Keeps.ite | split | dsimp only

theorem State.lxbIrqHigh_keeps {s0 s : State} (h : Keeps s0 s) (n) :
    Keeps s0 (State.lxbIrqHigh s n) := by
  unfold State.lxbIrqHigh
  repeat' with_reducible first
    | intro _ | assumption | apply State.endOps_keeps

theorem State.pinAttach_keeps {s0 s : State} (h : Keeps s0 s) (n sel) :
    Keeps s0 (State.pinAttach s n sel) := by
  unfold State.pinAttach
  repeat' with_reducible first
    | assumption | apply State.lxbIrqHigh_keeps | apply State.gpioSeen_keeps | apply State.ctsSeen_keeps
    | apply State.put_keeps | apply Keeps.ite | split | dsimp only | apply Keeps.record

theorem State.pinSettled_keeps {s0 s : State} (h : Keeps s0 s) (n) :
    Keeps s0 (State.pinSettled s n) := by
  unfold State.pinSettled
  repeat' with_reducible first
    | assumption | apply State.pinAttach_keeps | apply State.put_keeps | apply Keeps.ite | split | dsimp only

theorem State.pinCtlWrite_keeps {s0 s : State} (h : Keeps s0 s) (mid v) :
    Keeps s0 (State.pinCtlWrite s mid v) := by
  unfold State.pinCtlWrite
  repeat' with_reducible first
    | assumption | apply State.writeFlds_keeps

theorem State.pinsStop_keeps {s0 s : State} (h : Keeps s0 s) :
    Keeps s0 (State.pinsStop s) := by
  unfold State.pinsStop
  repeat' with_reducible first
    | intro _ | assumption | apply State.gpioSeen_keeps | apply State.parkNow_keeps | apply State.put_keeps
    | apply Keeps.ite | apply Keeps.foldl | split | dsimp only

theorem State.pinsResume_keeps {s0 s : State} (h : Keeps s0 s) :
    Keeps s0 (State.pinsResume s) := by
  unfold State.pinsResume
  repeat' with_reducible first
    | intro _ | assumption | apply State.put_keeps | apply Keeps.ite | apply Keeps.foldl | split | dsimp only

theorem State.pinsRelease_keeps {s0 s : State} (h : Keeps s0 s) :
    Keeps s0 (State.pinsRelease s) := by
  unfold State.pinsRelease
  repeat' with_reducible first
    | intro _ | assumption | apply State.parkNow_keeps | apply State.put_keeps | apply Keeps.ite | apply Keeps.foldl
    | split | dsimp only

theorem State.gpioEdge_keeps {s0 s : State} (h : Keeps s0 s) (pin level) :
    Keeps s0 (State.gpioEdge s pin level) := by
  unfold State.gpioEdge
  repeat' with_reducible first
    | assumption | apply State.gpioSeen_keeps | apply Keeps.ite | split | apply Keeps.record

theorem State.gpioDrive_keeps {s0 s : State} (h : Keeps s0 s) (pin level) :
    Keeps s0 (State.gpioDrive s pin level) := by
  unfold State.gpioDrive
  repeat' with_reducible first
    | assumption | apply State.gpioEdge_keeps | apply Keeps.record

/-! ### Transfers -/

theorem State.grantWrite_keeps {s0 s : State} (h : Keeps s0 s) (slot) :
    Keeps s0 (State.grantWrite s slot) := by
  unfold State.grantWrite
  repeat' with_reducible first
    | assumption | apply State.prgRsp_keeps | apply State.setOp_keeps | apply Keeps.ite | split | dsimp only
    | apply Keeps.record

theorem State.renewCredit_keeps {s0 s : State} (h : Keeps s0 s) (tag) :
    Keeps s0 (State.renewCredit s tag) := by
  unfold State.renewCredit
  repeat' with_reducible first
    | assumption | apply State.pumpTable_keeps | apply State.cancelFar_keeps | apply State.prgReq_keeps
    | apply State.endOp_keeps | apply State.setOp_keeps | apply Keeps.ite | split | dsimp only | apply Keeps.record

theorem State.readyPacket_keeps {s0 s : State} (h : Keeps s0 s) (a o record size) :
    Keeps s0 (State.readyPacket s a o record size) := by
  unfold State.readyPacket
  repeat' with_reducible first
    | assumption | apply State.setOp_keeps | apply Keeps.record

theorem State.handPacket_keeps {s0 s : State} (h : Keeps s0 s) (a q cls idx) :
    Keeps s0 (State.handPacket s a q cls idx) := by
  unfold State.handPacket
  repeat' with_reducible first
    | intro _ | assumption | apply State.portKick_keeps | apply State.useOp_keeps | apply State.updOp_keeps
    | apply State.qRelease_keeps | apply State.qCommit_keeps | apply Keeps.ite | apply Keeps.fst_ite | split
    | dsimp only | apply Keeps.record

theorem State.pushPacket_keeps {s0 s : State} (h : Keeps s0 s) (a cls idx) :
    Keeps s0 (State.pushPacket s a cls idx) := by
  unfold State.pushPacket
  repeat' with_reducible first
    | intro _ | assumption | apply State.handPacket_keeps | apply State.updOp_keeps | apply State.qPushCredit_keeps
    | apply State.qClaim_keeps | apply State.qUpset_keeps | apply Keeps.ite | apply Keeps.fst_ite | split | dsimp only
    | apply Keeps.record

theorem State.moreData_keeps {s0 s : State} (h : Keeps s0 s) (a) :
    Keeps s0 (State.moreData s a) := by
  unfold State.moreData
  repeat' with_reducible first
    | assumption | apply State.grantWrite_keeps | apply State.wantData_keeps | apply Keeps.ite | split

theorem State.writeRecords_keeps {s0 s : State} (h : Keeps s0 s) (a o cls idx) :
    Keeps s0 (State.writeRecords s a o cls idx) := by
  unfold State.writeRecords
  repeat' with_reducible first
    | assumption | apply State.moreData_keeps | apply State.pushPacket_keeps | apply State.readyPacket_keeps
    | apply State.endOp_keeps | apply State.setOp_keeps | apply Keeps.ite | apply Keeps.fst_ite | split | dsimp only
    | apply Keeps.record

theorem State.writeBytes_keeps {s0 s : State} (h : Keeps s0 s) (a o cls idx) :
    Keeps s0 (State.writeBytes s a o cls idx) := by
  unfold State.writeBytes
  repeat' with_reducible first
    | assumption | apply State.moreData_keeps | apply State.pushPacket_keeps | apply State.readyPacket_keeps
    | apply State.endOp_keeps | apply State.setOp_keeps | apply Keeps.ite | split | dsimp only | apply Keeps.record

theorem State.writeGpio_keeps {s0 s : State} (h : Keeps s0 s) (a o) :
    Keeps s0 (State.writeGpio s a o) := by
  unfold State.writeGpio
  repeat' with_reducible first
    | intro _ | assumption | apply State.moreData_keeps | apply State.gpioDrive_keeps | apply State.useOp_keeps
    | apply State.endOp_keeps | apply State.updOp_keeps | apply Keeps.ite | apply Keeps.fst_ite | split | dsimp only
    | apply Keeps.record

theorem State.writeFar_keeps {s0 s : State} (h : Keeps s0 s) (tag o) :
    Keeps s0 (State.writeFar s tag o) := by
  unfold State.writeFar
  repeat' with_reducible first
    | assumption | apply State.wantData_keeps | apply State.farStart_keeps | apply State.prgReq_keeps
    | apply State.endOp_keeps | apply State.setOp_keeps | apply Keeps.ite | apply Keeps.fst_ite | split | dsimp only
    | apply Keeps.record

theorem State.writePort_keeps {s0 s : State} (h : Keeps s0 s) (a o) :
    Keeps s0 (State.writePort s a o) := by
  unfold State.writePort
  repeat' with_reducible first
    | assumption | apply State.writeFar_keeps | apply State.writeGpio_keeps | apply State.writeBytes_keeps
    | apply State.writeRecords_keeps | apply State.withdraw_keeps | apply State.endOp_keeps | apply Keeps.ite | split
    | dsimp only

theorem State.takeFrame_keeps {s0 s : State} (h : Keeps s0 s) (a o cls t) :
    Keeps s0 (State.takeFrame s a o cls t) := by
  unfold State.takeFrame
  repeat' with_reducible first
    | intro _ | assumption | apply State.deliver_keeps | apply State.endOp_keeps | apply State.updOp_keeps
    | apply Keeps.ite | apply Keeps.fst_ite | split | dsimp only | apply Keeps.record

theorem State.readDry_keeps {s0 s : State} (h : Keeps s0 s) (a o cls idx) :
    Keeps s0 (State.readDry s a o cls idx) := by
  unfold State.readDry
  repeat' with_reducible first
    | assumption | apply State.endOp_keeps | apply Keeps.ite | apply Keeps.fst_ite | split | dsimp only

theorem State.readRecords_keeps {s0 s : State} (h : Keeps s0 s) (a o cls idx errs) :
    Keeps s0 (State.readRecords s a o cls idx errs) := by
  unfold State.readRecords
  repeat' with_reducible first
    | assumption | apply State.readDry_keeps | apply State.takeFrame_keeps | apply State.areaShort_keeps
    | apply State.endOp_keeps | apply State.qTake_keeps | apply Keeps.ite | apply Keeps.fst_ite | split | dsimp only

theorem State.nextChunk_keeps {s0 s : State} (h : Keeps s0 s) (a cls idx errs x)
    (hx : s.nextChunk a cls idx errs = some x) : Keeps s0 x.1 := by
  unfold State.nextChunk at hx
  split at hx
  · cases hx
    exact h
  · dsimp only at hx
    split at hx
    · cases hx
    · cases hx
      exact State.updOp_keeps (State.qTake_keeps h _ _) _ _

theorem State.readBytes_keeps {s0 s : State} (h : Keeps s0 s) (a o cls idx errs) :
    Keeps s0 (s.readBytes a o cls idx errs) := by
  unfold State.readBytes
  split
  · exact State.endOp_keeps h _ _ _
  · split
    · exact State.endOp_keeps h _ _ _
    · split
      · exact h
      · split
        · exact State.areaShort_keeps h _ _
        · split
          · split
            · exact State.endOp_keeps h _ _ _
            · exact State.readDry_keeps h _ _ _ _
          · rename_i t bs rstat pois hn
            have hs := State.nextChunk_keeps h _ _ _ _ _ hn
            repeat' with_reducible first
              | exact State.setBp_keeps hs _ _ _ | apply State.endOp_keeps | apply State.deliver_keeps
              | apply State.updOp_keeps | split | dsimp only

theorem State.readGpio_keeps {s0 s : State} (h : Keeps s0 s) (a o) :
    Keeps s0 (State.readGpio s a o) := by
  unfold State.readGpio
  repeat' with_reducible first
    | intro _ | assumption | apply State.areaShort_keeps | apply State.deliver_keeps | apply State.endOp_keeps
    | apply State.updOp_keeps | apply Keeps.ite | split | dsimp only | apply Keeps.record

theorem State.readPort_keeps {s0 s : State} (h : Keeps s0 s) (a o errs) :
    Keeps s0 (State.readPort s a o errs) := by
  unfold State.readPort
  repeat' with_reducible first
    | assumption | apply State.readGpio_keeps | apply State.readBytes_keeps | apply State.readRecords_keeps
    | apply State.renewCredit_keeps | apply State.farStart_keeps | apply Keeps.ite | split | dsimp only

theorem State.farBegin_keeps {s0 s : State} (h : Keeps s0 s) (src pl) :
    Keeps s0 (State.farBegin s src pl) := by
  unfold State.farBegin
  repeat' with_reducible first
    | intro _ | assumption | apply State.grantWrite_keeps | apply State.judgeStart_keeps | apply State.openOp_keeps
    | apply State.prgRsp_keeps | apply State.noRoute_keeps | apply Keeps.ite | split | dsimp only | apply Keeps.record

theorem State.farCancel_keeps {s0 s : State} (h : Keeps s0 s) (src pl) :
    Keeps s0 (State.farCancel s src pl) := by
  unfold State.farCancel
  repeat' with_reducible first
    | assumption | apply State.stopOp_keeps | split | dsimp only | apply Keeps.record

theorem State.farData_keeps {s0 s : State} (h : Keeps s0 s) (src pl pois) :
    Keeps s0 (State.farData s src pl pois) := by
  unfold State.farData
  repeat' with_reducible first
    | intro _ | assumption | apply State.updOp_keeps | split | dsimp only | apply Keeps.record

theorem State.farCredit_keeps {s0 s : State} (h : Keeps s0 s) (src pl) :
    Keeps s0 (State.farCredit s src pl) := by
  unfold State.farCredit
  repeat' with_reducible first
    | assumption | apply State.pumpSlot_keeps | split | dsimp only | apply Keeps.record

theorem State.originData_keeps {s0 s : State} (h : Keeps s0 s) (pl pois) :
    Keeps s0 (State.originData s pl pois) := by
  unfold State.originData
  repeat' with_reducible first
    | assumption | apply State.renewCredit_keeps | apply State.deliver_keeps | apply State.setOp_keeps | split
    | dsimp only | apply Keeps.record

theorem State.originCredit_keeps {s0 s : State} (h : Keeps s0 s) (pl) :
    Keeps s0 (State.originCredit s pl) := by
  unfold State.originCredit
  repeat' with_reducible first
    | intro _ | assumption | apply State.updOp_keeps | split | dsimp only | apply Keeps.record

theorem State.originEnd_keeps {s0 s : State} (h : Keeps s0 s) (pl) :
    Keeps s0 (State.originEnd s pl) := by
  unfold State.originEnd
  repeat' with_reducible first
    | intro _ | assumption | apply State.useOp_keeps | apply State.endOp_keeps | apply State.updOp_keeps | split
    | dsimp only | apply Keeps.record

theorem State.originRetry_keeps {s0 s : State} (h : Keeps s0 s) (pl) :
    Keeps s0 (State.originRetry s pl) := by
  unfold State.originRetry
  repeat' with_reducible first
    | intro _ | assumption | apply State.updOp_keeps | apply State.raise_keeps | split | dsimp only
    | apply Keeps.record

theorem State.resendStart_keeps {s0 s : State} (h : Keeps s0 s) (tag) :
    Keeps s0 (State.resendStart s tag) := by
  unfold State.resendStart
  repeat' with_reducible first
    | assumption | apply State.farStart_keeps | apply State.setOp_keeps | apply Keeps.ite | split | dsimp only
    | apply Keeps.record

theorem State.prgFlit_keeps {s0 s : State} (h : Keeps s0 s) (p c f g) (hk : ∀ t, Keeps s0 t → Keeps s0 (g t)) :
    Keeps s0 (State.prgFlit s p c f g) := by
  unfold State.prgFlit
  repeat' with_reducible first
    | intro _ | assumption | apply hk | apply State.accept_keeps | apply Keeps.ite | split

/-! ### Replies -/

theorem State.fwReply_keeps {s0 s : State} (h : Keeps s0 s) (a status ws) :
    Keeps s0 (State.fwReply s a status ws) := by
  unfold State.fwReply
  repeat' with_reducible first
    | intro _ | assumption | apply State.dataWrite_keeps | apply State.mailboxDeliver_keeps | apply Keeps.ite | split
    | dsimp only | apply Keeps.record

/-! ### Ledger -/

theorem State.setLdg_keeps {s0 s : State} (h : Keeps s0 s) (l) :
    Keeps s0 (State.setLdg s l) := by
  unfold State.setLdg
  repeat' with_reducible first
    | assumption | apply Keeps.record

theorem State.ldgRaise_keeps {s0 s : State} (h : Keeps s0 s) (bit) :
    Keeps s0 (State.ldgRaise s bit) := by
  unfold State.ldgRaise
  repeat' with_reducible first
    | assumption | apply State.raiseF_keeps | apply State.raise_keeps | apply Keeps.ite | split | dsimp only

theorem State.sealAnswered_keeps {s0 s : State} (h : Keeps s0 s) (seq) :
    Keeps s0 (State.sealAnswered s seq) := by
  unfold State.sealAnswered
  repeat' with_reducible first
    | intro _ | assumption | apply State.setLdg_keeps | apply State.fwReply_keeps | apply Keeps.foldl | dsimp only
    | apply Keeps.record

theorem State.fwaAnswered_keeps {s0 s : State} (h : Keeps s0 s) (status ws) :
    Keeps s0 (State.fwaAnswered s status ws) := by
  unfold State.fwaAnswered
  repeat' with_reducible first
    | assumption | apply State.setLdg_keeps | apply State.fwReply_keeps | split | dsimp only | apply Keeps.record

theorem State.ldgPut_keeps {s0 s : State} (h : Keeps s0 s) (type mid src digest body by_) :
    Keeps s0 (State.ldgPut s type mid src digest body by_) := by
  unfold State.ldgPut
  repeat' with_reducible first
    | assumption | apply State.sealAnswered_keeps | apply State.ldgRaise_keeps | apply State.setLdg_keeps
    | apply Keeps.ite | split | dsimp only | apply Keeps.record

theorem State.putSeal_keeps {s0 s : State} (h : Keeps s0 s) :
    Keeps s0 (State.putSeal s) := by
  unfold State.putSeal
  repeat' with_reducible first
    | intro _ | assumption | apply State.ldgPut_keeps | dsimp only

theorem State.sealNow_keeps {s0 s t : State} (h : Keeps s0 s) (ht : s.sealNow = some t) : Keeps s0 t := by
  unfold State.sealNow at ht
  split at ht
  · cases ht
    exact State.putSeal_keeps h
  · split at ht
    · cases ht
      exact State.putSeal_keeps (State.setLdg_keeps h _)
    · cases ht

theorem State.ldgRoom_keeps {s0 s t : State} (h : Keeps s0 s) (n) (ht : s.ldgRoom n = some t) : Keeps s0 t := by
  unfold State.ldgRoom at ht
  split at ht
  · cases ht
    exact h
  · split at ht
    · cases ht
      exact State.putSeal_keeps (State.setLdg_keeps h _)
    · cases ht

theorem State.hwRoom_keeps {s0 s t : State} (h : Keeps s0 s) (type n) (ht : s.hwRoom type n = some t) : Keeps s0 t := by
  unfold State.hwRoom at ht
  split at ht
  · exact State.ldgRoom_keeps h _ ht
  · split at ht
    · cases ht
      exact h
    · split at ht
      · cases ht
        exact State.setLdg_keeps h _
      · cases ht

theorem State.putHw_keeps {s0 s : State} (h : Keeps s0 s) (type body) :
    Keeps s0 (State.putHw s type body) := by
  unfold State.putHw
  repeat' with_reducible first
    | intro _ | assumption | apply State.ldgPut_keeps

theorem State.appendEnd_keeps {s0 s : State} (h : Keeps s0 s) (origin tag part status seq) :
    Keeps s0 (State.appendEnd s origin tag part status seq) := by
  unfold State.appendEnd
  repeat' with_reducible first
    | assumption | apply State.sendTo_keeps

theorem State.appended_keeps {s0 s : State} (h : Keeps s0 s) (by_ seq) :
    Keeps s0 (State.appended s by_ seq) := by
  unfold State.appended
  repeat' with_reducible first
    | intro _ | assumption | apply State.appendEnd_keeps | apply State.fwaAnswered_keeps | apply State.useOp_keeps
    | apply State.endOp_keeps | apply State.updOp_keeps | apply State.put_keeps | split | dsimp only
    | apply Keeps.record

theorem State.appendBegun_keeps {s0 s : State} (h : Keeps s0 s) (seq x2) :
    Keeps s0 (State.appendBegun s seq x2) := by
  unfold State.appendBegun
  repeat' with_reducible first
    | intro _ | assumption | apply State.updOp_keeps | split | dsimp only | apply Keeps.record

theorem State.putAppend_keeps {s0 s : State} (h : Keeps s0 s) (a) :
    Keeps s0 (State.putAppend s a) := by
  unfold State.putAppend
  repeat' with_reducible first
    | intro _ | assumption | apply State.appendBegun_keeps | apply State.appended_keeps | apply State.ldgPut_keeps
    | apply Keeps.ite | split | dsimp only

theorem State.ldgOne_keeps {s0 s t : State} (h : Keeps s0 s) (ht : s.ldgOne = some t) : Keeps s0 t := by
  have hmap : ∀ l, (s.sealNow.map fun u : State => u.setLdg { u.ldg with due := l }) = some t → Keeps s0 t := by
    intro l hl
    obtain ⟨u, hu, rfl⟩ := Option.map_eq_some_iff.1 hl
    exact State.setLdg_keeps (State.sealNow_keeps h hu) _
  unfold State.ldgOne at ht
  dsimp only at ht
  repeat' split at ht
  all_goals first
    | (cases ht; done)
    | exact State.sealNow_keeps h ht
    | exact State.ldgRoom_keeps h _ ht
    | exact State.hwRoom_keeps h _ _ ht
    | exact hmap _ ht
    | (rw [Option.some.injEq] at ht; subst ht; exact State.setLdg_keeps (State.putHw_keeps h _ _) _)
    | (rw [Option.some.injEq] at ht; subst ht; exact State.setLdg_keeps (State.putAppend_keeps h _) _)

theorem State.ldgPump_keeps {s0 s : State} (h : Keeps s0 s) (n) : Keeps s0 (State.ldgPump n s) := by
  induction n generalizing s with
  | zero => exact h
  | succ n ih =>
    unfold State.ldgPump
    split
    · rename_i ht
      exact ih (State.ldgOne_keeps h ht)
    · exact h

theorem State.sequence_keeps {s0 s : State} (h : Keeps s0 s) :
    Keeps s0 (State.sequence s) := by
  unfold State.sequence
  repeat' with_reducible first
    | assumption | apply State.ldgPump_keeps | apply Keeps.ite | split

theorem State.ldgQueue_keeps {s0 s : State} (h : Keeps s0 s) (i) :
    Keeps s0 (State.ldgQueue s i) := by
  unfold State.ldgQueue
  repeat' with_reducible first
    | assumption | apply State.sequence_keeps | apply State.setLdg_keeps | apply Keeps.record

theorem State.ldgSealReq_keeps {s0 s : State} (h : Keeps s0 s) :
    Keeps s0 (State.ldgSealReq s) := by
  unfold State.ldgSealReq
  repeat' with_reducible first
    | assumption | apply State.ldgQueue_keeps | apply State.sequence_keeps | apply Keeps.ite | split

theorem State.releaseDone_keeps {s0 s : State} (h : Keeps s0 s) (r) :
    Keeps s0 (State.releaseDone s r) := by
  unfold State.releaseDone
  repeat' with_reducible first
    | intro _ | assumption | apply State.ldgRaise_keeps | apply State.setLdg_keeps | apply Keeps.ite
    | apply Keeps.foldl | split | dsimp only | apply Keeps.record

theorem State.durableOne_keeps {s0 s : State} (h : Keeps s0 s) :
    Keeps s0 (State.durableOne s) := by
  unfold State.durableOne
  repeat' with_reducible first
    | assumption | apply State.releaseDone_keeps | apply State.appended_keeps | apply State.setLdg_keeps
    | apply Keeps.ite | split | dsimp only | apply Keeps.record

theorem State.durableN_keeps {s0 s : State} (h : Keeps s0 s) (n) : Keeps s0 (State.durableN n s) := by
  induction n generalizing s with
  | zero => exact h
  | succ n ih => exact ih (State.durableOne_keeps h)

theorem State.ldgFlush_keeps {s0 s : State} (h : Keeps s0 s) :
    Keeps s0 (State.ldgFlush s) := by
  unfold State.ldgFlush
  repeat' with_reducible first
    | assumption | apply State.durableN_keeps

theorem State.appendRefused_keeps {s0 s : State} (h : Keeps s0 s) (a d) :
    Keeps s0 (State.appendRefused s a d) := by
  unfold State.appendRefused
  repeat' with_reducible first
    | assumption | apply State.appendEnd_keeps | apply State.fwaAnswered_keeps | apply State.ldgRaise_keeps
    | apply State.endOp_keeps | apply State.put_keeps | apply Keeps.ite | split | dsimp only

theorem State.refuseDue_keeps {s0 s : State} (h : Keeps s0 s) :
    Keeps s0 (State.refuseDue s) := by
  unfold State.refuseDue
  repeat' with_reducible first
    | intro _ | assumption | apply State.appendRefused_keeps | apply State.setLdg_keeps | apply State.fwReply_keeps
    | apply Keeps.foldl | split | dsimp only | apply Keeps.record

theorem State.ldgAppend_keeps {s0 s : State} (h : Keeps s0 s) (a) :
    Keeps s0 (State.ldgAppend s a) := by
  unfold State.ldgAppend
  repeat' with_reducible first
    | assumption | apply State.appendRefused_keeps | apply State.ldgQueue_keeps | split | dsimp only

theorem State.fwaGo_keeps {s0 s : State} (h : Keeps s0 s) :
    Keeps s0 (State.fwaGo s) := by
  unfold State.fwaGo
  repeat' with_reducible first
    | intro _ | assumption | apply State.ldgAppend_keeps | apply State.put_keeps | apply Keeps.ite | split
    | dsimp only | apply Keeps.record

theorem State.fwRecord_keeps {s0 s : State} (h : Keeps s0 s) (type body) :
    Keeps s0 (State.fwRecord s type body) := by
  unfold State.fwRecord
  repeat' with_reducible first
    | intro _ | assumption | apply State.fwaGo_keeps | apply State.put_keeps | apply Keeps.foldl | dsimp only

theorem State.sendAppend_keeps {s0 s : State} (h : Keeps s0 s) (tag o) :
    Keeps s0 (State.sendAppend s tag o) := by
  unfold State.sendAppend
  repeat' with_reducible first
    | intro _ | assumption | apply State.endOp_keeps | apply State.setOp_keeps | apply State.sendTo_keeps
    | apply Keeps.ite | apply Keeps.fst_ite | apply Keeps.foldl | apply Keeps.foldl_fst | split | dsimp only
    | apply Keeps.record

theorem State.ledgerAppend_keeps {s0 s : State} (h : Keeps s0 s) (tag) :
    Keeps s0 (State.ledgerAppend s tag) := by
  unfold State.ledgerAppend
  repeat' with_reducible first
    | assumption | apply State.sendAppend_keeps | apply State.ldgAppend_keeps | apply State.wantData_keeps
    | apply State.endOp_keeps | apply State.setOp_keeps | apply Keeps.ite | apply Keeps.fst_ite | split | dsimp only
    | apply Keeps.record

theorem State.appendPart_keeps {s0 s : State} (h : Keeps s0 s) (f) :
    Keeps s0 (State.appendPart s f) := by
  unfold State.appendPart
  repeat' with_reducible first
    | assumption | apply State.ldgAppend_keeps | apply State.appendEnd_keeps | apply State.setLdg_keeps
    | apply Keeps.ite | split | dsimp only | apply Keeps.record

theorem State.appendEnded_keeps {s0 s : State} (h : Keeps s0 s) (pl) :
    Keeps s0 (State.appendEnded s pl) := by
  unfold State.appendEnded
  repeat' with_reducible first
    | assumption | apply State.appended_keeps | apply State.endOp_keeps | apply State.setOp_keeps | apply Keeps.ite
    | split | dsimp only | apply Keeps.record

theorem State.ldgShutdown_keeps {s0 s : State} (h : Keeps s0 s) (cause) :
    Keeps s0 (State.ldgShutdown s cause) := by
  unfold State.ldgShutdown
  repeat' with_reducible first
    | intro _ | assumption | apply State.ldgFlush_keeps | apply State.ldgQueue_keeps | apply State.setLdg_keeps
    | apply Keeps.ite | split | dsimp only | apply Keeps.record

theorem State.genesis_keeps {s0 s : State} (h : Keeps s0 s) :
    Keeps s0 (State.genesis s) := by
  unfold State.genesis
  repeat' with_reducible first
    | assumption | apply State.putHw_keeps | apply State.setLdg_keeps | dsimp only | apply Keeps.record

theorem State.restart_keeps {s0 s : State} (h : Keeps s0 s) : Keeps s0 s.restart := by
  unfold State.restart
  extract_lets l x n gap s1 body src s2
  have h1 : Keeps s0 s1 := Keeps.ite (State.setLdg_keeps h _) h
  have h2 : Keeps s0 s2 := by
    show Keeps s0 (match s1.ldgRoom 96 with
      | some t => t.putHw tRestart body
      | none => s1.setLdg { s1.ldg with due := s1.ldg.due ++ [.hw tRestart body] })
    split
    · rename_i ht
      exact State.putHw_keeps (State.ldgRoom_keeps h1 _ ht) _ _
    · exact State.setLdg_keeps h1 _
  exact Keeps.ite h2 (State.ldgRaise_keeps h2 _)

theorem State.readSegs_keeps {s0 s : State} (h : Keeps s0 s) :
    Keeps s0 (State.readSegs s) := by
  unfold State.readSegs
  repeat' with_reducible first
    | intro _ | assumption | apply State.flashRead_keeps | apply Keeps.foldl | apply Keeps.foldl_fst | dsimp only

theorem State.ldgBoot_keeps {s0 s : State} (h : Keeps s0 s) :
    Keeps s0 (State.ldgBoot s) := by
  unfold State.ldgBoot
  repeat' with_reducible first
    | assumption | apply State.readSegs_keeps | apply State.restart_keeps | apply State.genesis_keeps
    | apply State.sequence_keeps | apply State.setLdg_keeps | apply Keeps.ite | split | dsimp only
    | apply Keeps.record

theorem State.exportedWrite_keeps {s0 s : State} (h : Keeps s0 s) (v) :
    Keeps s0 (State.exportedWrite s v) := by
  unfold State.exportedWrite
  repeat' with_reducible first
    | assumption | apply State.setLdg_keeps | apply Keeps.ite | split | apply Keeps.record

theorem State.releaseRefused_keeps {s0 s : State} (h : Keeps s0 s) (reason) :
    Keeps s0 (State.releaseRefused s reason) := by
  unfold State.releaseRefused
  repeat' with_reducible first
    | assumption | apply State.ldgRaise_keeps | apply State.put_keeps

theorem State.ldgRelease_keeps {s0 s : State} (h : Keeps s0 s) :
    Keeps s0 (State.ldgRelease s) := by
  unfold State.ldgRelease
  repeat' with_reducible first
    | assumption | apply State.releaseRefused_keeps | apply State.ldgQueue_keeps | apply State.setLdg_keeps
    | apply Keeps.ite | split | dsimp only | apply Keeps.record

theorem State.ldgCmdWrite_keeps {s0 s : State} (h : Keeps s0 s) (mid v) :
    Keeps s0 (State.ldgCmdWrite s mid v) := by
  unfold State.ldgCmdWrite
  repeat' with_reducible first
    | assumption | apply State.ldgRelease_keeps | apply State.ldgSealReq_keeps | apply Keeps.ite | split | dsimp only

theorem State.ldgFlit_keeps {s0 s : State} (h : Keeps s0 s) (p rsp f g) (hk : ∀ t, Keeps s0 t → Keeps s0 (g t)) :
    Keeps s0 (State.ldgFlit s p rsp f g) := by
  unfold State.ldgFlit
  repeat' with_reducible first
    | intro _ | assumption | apply hk | apply State.prgFlit_keeps | apply State.noRoute_keeps | apply Keeps.ite
    | split

/-! ### Hinge -/

theorem State.hngRaise_keeps {s0 s : State} (h : Keeps s0 s) (bit addr) :
    Keeps s0 (State.hngRaise s bit addr) := by
  unfold State.hngRaise
  repeat' with_reducible first
    | assumption | apply State.raiseF_keeps | apply State.raise_keeps | apply Keeps.ite | split

theorem State.farNoted_keeps {s0 s : State} (h : Keeps s0 s) (addr mid fo) :
    Keeps s0 (State.farNoted s addr mid fo) := by
  unfold State.farNoted
  repeat' with_reducible first
    | assumption | apply State.hngRaise_keeps | apply State.put_keeps | apply Keeps.ite | split | dsimp only

theorem State.slotEnd_keeps {s0 s : State} (h : Keeps s0 s) (f k fo data) :
    Keeps s0 (State.slotEnd s f k fo data) := by
  unfold State.slotEnd
  repeat' with_reducible first
    | assumption | apply State.put_keeps | apply Keeps.ite | split | dsimp only

theorem State.pollSeen_keeps {s0 s : State} (h : Keeps s0 s) (a data) :
    Keeps s0 (State.pollSeen s a data) := by
  unfold State.pollSeen
  repeat' with_reducible first
    | assumption | apply State.endOp_keeps | apply State.setOp_keeps | apply Keeps.ite | split | dsimp only
    | apply Keeps.record

theorem State.accessDone_keeps {s0 s : State} (h : Keeps s0 s) (a n data pois) :
    Keeps s0 (State.accessDone s a n data pois) := by
  unfold State.accessDone
  repeat' with_reducible first
    | intro _ | assumption | apply State.pollSeen_keeps | apply State.deliver_keeps | apply State.useOp_keeps
    | apply State.endOp_keeps | apply State.updOp_keeps | apply State.setOp_keeps | apply Keeps.ite
    | apply Keeps.fst_ite | split | dsimp only | apply Keeps.record

theorem State.agentAccess_keeps {s0 s : State} (h : Keeps s0 s) (a n fo data) :
    Keeps s0 (State.agentAccess s a n fo data) := by
  unfold State.agentAccess
  repeat' with_reducible first
    | assumption | apply State.accessDone_keeps | apply State.endOp_keeps | apply Keeps.ite | split

theorem State.mirrorWrite_keeps {s0 s : State} (h : Keeps s0 s) (a i v r) :
    Keeps s0 (State.mirrorWrite s a i v r) := by
  unfold State.mirrorWrite
  repeat' with_reducible first
    | assumption | apply State.hngRaise_keeps | apply State.put_keeps | apply Keeps.ite | split | dsimp only
    | apply Keeps.record

theorem State.roundEnd_keeps {s0 s : State} (h : Keeps s0 s) (a r) :
    Keeps s0 (State.roundEnd s a r) := by
  unfold State.roundEnd
  repeat' with_reducible first
    | assumption | apply Keeps.ite | split | dsimp only | apply Keeps.record

theorem State.wordRead_keeps {s0 s : State} (h : Keeps s0 s) (a i fo data) :
    Keeps s0 (State.wordRead s a i fo data) := by
  unfold State.wordRead
  repeat' with_reducible first
    | assumption | apply State.mirrorWrite_keeps | apply Keeps.ite | split | dsimp only | apply Keeps.record

theorem State.roundCheck_keeps {s0 s : State} (h : Keeps s0 s) (a) :
    Keeps s0 (State.roundCheck s a) := by
  unfold State.roundCheck
  repeat' with_reducible first
    | assumption | apply State.roundEnd_keeps | apply Keeps.ite | split | dsimp only

theorem State.fabPart_keeps {s0 s : State} (h : Keeps s0 s) (n half fo data) :
    Keeps s0 (State.fabPart s n half fo data) := by
  unfold State.fabPart
  repeat' with_reducible first
    | assumption | split | dsimp only | apply Keeps.record

theorem State.sendReq_keeps {s0 s : State} (h : Keeps s0 s) (k w unit write off data) :
    Keeps s0 (State.sendReq s k w unit write off data) := by
  unfold State.sendReq
  repeat' with_reducible first
    | assumption | apply State.sendTo_keeps | apply Keeps.ite | split | dsimp only | apply Keeps.record

theorem State.pumpRound_keeps {s0 s : State} (h : Keeps s0 s) (a n) : Keeps s0 (State.pumpRound a n s) := by
  induction n generalizing s with
  | zero => exact h
  | succ n ih =>
    unfold State.pumpRound
    repeat' with_reducible first
      | assumption | apply ih | apply State.wordRead_keeps | apply State.farNoted_keeps | apply State.sendReq_keeps
      | apply Keeps.ite | split | dsimp only | apply Keeps.record

theorem State.roundOn_keeps {s0 s : State} (h : Keeps s0 s) (a) :
    Keeps s0 (State.roundOn s a) := by
  unfold State.roundOn
  repeat' with_reducible first
    | assumption | apply State.pumpRound_keeps | apply State.roundCheck_keeps

theorem State.handOutcome_keeps {s0 s : State} (h : Keeps s0 s) (w unit fo data) :
    Keeps s0 (State.handOutcome s w unit fo data) := by
  unfold State.handOutcome
  repeat' with_reducible first
    | assumption | apply State.roundOn_keeps | apply State.fabPart_keeps | apply State.wordRead_keeps
    | apply State.agentAccess_keeps | apply State.slotEnd_keeps | apply State.farNoted_keeps | split | dsimp only

theorem State.reqEnd_keeps {s0 s : State} (h : Keeps s0 s) (k fo data) :
    Keeps s0 (State.reqEnd s k fo data) := by
  unfold State.reqEnd
  repeat' with_reducible first
    | assumption | apply State.handOutcome_keeps | split | dsimp only | apply Keeps.record

theorem State.farResponse_keeps {s0 s : State} (h : Keeps s0 s) (write pl pois) :
    Keeps s0 (State.farResponse s write pl pois) := by
  unfold State.farResponse
  repeat' with_reducible first
    | assumption | apply State.reqEnd_keeps | apply Keeps.ite | split | dsimp only

theorem State.farRefused_keeps {s0 s : State} (h : Keeps s0 s) (pl) :
    Keeps s0 (State.farRefused s pl) := by
  unfold State.farRefused
  repeat' with_reducible first
    | assumption | apply State.reqEnd_keeps | apply State.endOp_keeps | apply Keeps.ite | split | dsimp only

theorem State.farAccess_keeps {s0 s : State} (h : Keeps s0 s) (w unit write off data) :
    Keeps s0 (State.farAccess s w unit write off data).1 := by
  unfold State.farAccess
  repeat' with_reducible first
    | assumption | apply State.handOutcome_keeps | apply State.sendReq_keeps | apply Keeps.ite | apply Keeps.fst_ite
    | split | dsimp only

theorem State.freeSems_keeps {s0 s : State} (h : Keeps s0 s) (p) :
    Keeps s0 (State.freeSems s p) := by
  unfold State.freeSems
  repeat' with_reducible first
    | intro _ | assumption | apply Keeps.record

theorem State.semRead_keeps {s0 s : State} (h : Keeps s0 s) (k w) :
    Keeps s0 (State.semRead s k w).1 := by
  unfold State.semRead
  repeat' with_reducible first
    | assumption | apply Keeps.ite | apply Keeps.fst_ite | split | dsimp only | apply Keeps.record

theorem State.semWrite_keeps {s0 s : State} (h : Keeps s0 s) (k w) :
    Keeps s0 (State.semWrite s k w) := by
  unfold State.semWrite
  repeat' with_reducible first
    | assumption | apply State.hngRaise_keeps | apply Keeps.ite | split | apply Keeps.record

theorem State.semLease_keeps {s0 s : State} (h : Keeps s0 s) (k) :
    Keeps s0 (State.semLease s k) := by
  unfold State.semLease
  repeat' with_reducible first
    | assumption | apply State.hngRaise_keeps | apply Keeps.ite | split | apply Keeps.record

theorem State.lxbLockRead_keeps {s0 s : State} (h : Keeps s0 s) (mid) :
    Keeps s0 (State.lxbLockRead s mid).1 := by
  unfold State.lxbLockRead
  repeat' with_reducible first
    | assumption | apply Keeps.ite | apply Keeps.fst_ite | split | dsimp only | apply Keeps.record

theorem State.lxbLockWrite_keeps {s0 s : State} (h : Keeps s0 s) (mid) :
    Keeps s0 (State.lxbLockWrite s mid) := by
  unfold State.lxbLockWrite
  repeat' with_reducible first
    | assumption | apply State.hngRaise_keeps | apply Keeps.ite | split | apply Keeps.record

theorem State.lxbBreak_keeps {s0 s : State} (h : Keeps s0 s) :
    Keeps s0 (State.lxbBreak s) := by
  unfold State.lxbBreak
  repeat' with_reducible first
    | assumption | apply State.hngRaise_keeps | split | dsimp only | apply Keeps.record

theorem State.lxbFree_keeps {s0 s : State} (h : Keeps s0 s) (mid) :
    Keeps s0 (State.lxbFree s mid) := by
  unfold State.lxbFree
  repeat' with_reducible first
    | assumption | apply Keeps.ite | split | apply Keeps.record

theorem State.lxbDrop_keeps {s0 s : State} (h : Keeps s0 s) (w) :
    Keeps s0 (State.lxbDrop s w) := by
  unfold State.lxbDrop
  repeat' with_reducible first
    | intro _ | assumption | split | dsimp only | apply Keeps.record

theorem State.lxbFail_keeps {s0 s : State} (h : Keeps s0 s) (w fo) :
    Keeps s0 (State.lxbFail s w fo) := by
  unfold State.lxbFail
  repeat' with_reducible first
    | intro _ | assumption | apply State.lxbDrop_keeps | apply State.fabPart_keeps | apply State.agentAccess_keeps
    | apply State.slotEnd_keeps | apply State.farNoted_keeps | apply Keeps.ite | apply Keeps.foldl | split
    | dsimp only | apply Keeps.record

theorem State.lxbPart_keeps {s0 s : State} (h : Keeps s0 s) (r data) :
    Keeps s0 (State.lxbPart s r data) := by
  unfold State.lxbPart
  repeat' with_reducible first
    | assumption | apply State.fabPart_keeps | apply State.agentAccess_keeps | apply State.slotEnd_keeps
    | apply Keeps.ite | split | dsimp only | apply Keeps.record

theorem State.lxbAsk_keeps {s0 s : State} (h : Keeps s0 s) (w mid cs addr write data parts) :
    Keeps s0 (State.lxbAsk s w mid cs addr write data parts) := by
  unfold State.lxbAsk
  repeat' with_reducible first
    | intro _ | assumption | apply State.lxbFail_keeps | apply Keeps.ite | split | apply Keeps.record

theorem State.lxbTake_keeps {s0 s : State} (h : Keeps s0 s) (r) :
    Keeps s0 (State.lxbTake s r) := by
  unfold State.lxbTake
  repeat' with_reducible first
    | assumption | apply Keeps.record

theorem State.lxbGone_keeps {s0 s : State} (h : Keeps s0 s) (r) :
    Keeps s0 (State.lxbGone s r) := by
  unfold State.lxbGone
  repeat' with_reducible first
    | assumption | apply State.lxbFail_keeps | apply State.endToken_keeps | split | dsimp only

theorem State.lxbAccess_keeps {s0 s : State} (h : Keeps s0 s) (data) :
    Keeps s0 (State.lxbAccess s data) := by
  unfold State.lxbAccess
  repeat' with_reducible first
    | assumption | apply State.lxbGone_keeps | apply State.lxbTake_keeps | apply State.lxbPart_keeps
    | apply State.lxbFail_keeps | apply State.emitOn_keeps | apply Keeps.ite | split | dsimp only | apply Keeps.record

theorem State.lxbWait_keeps {s0 s : State} (h : Keeps s0 s) :
    Keeps s0 (State.lxbWait s) := by
  unfold State.lxbWait
  repeat' with_reducible first
    | assumption | apply State.lxbTake_keeps | apply State.lxbFail_keeps | apply Keeps.ite | split | dsimp only
    | apply Keeps.record

theorem State.lxbIrqSet_keeps {s0 s : State} (h : Keeps s0 s) (n level) :
    Keeps s0 (State.lxbIrqSet s n level) := by
  unfold State.lxbIrqSet
  repeat' with_reducible first
    | assumption | apply State.lxbIrqHigh_keeps | apply Keeps.ite | split | dsimp only | apply Keeps.record

theorem State.unitGone_keeps {s0 s : State} (h : Keeps s0 s) (a) :
    Keeps s0 (State.unitGone s a) := by
  unfold State.unitGone
  repeat' with_reducible first
    | intro _ | assumption | apply State.freeSems_keeps | apply State.reqEnd_keeps | apply State.endOps_keeps
    | apply State.freeTumblers_keeps | apply Keeps.foldl | apply Keeps.foldl_fst | split | dsimp only
    | apply Keeps.record

/-! ### Pintle -/

theorem State.mapSelf_keeps {s0 s : State} (h : Keeps s0 s) :
    Keeps s0 (State.mapSelf s) := by
  unfold State.mapSelf
  repeat' with_reducible first
    | assumption | apply State.put_keeps | dsimp only

theorem State.setPosition_keeps {s0 s : State} (h : Keeps s0 s) :
    Keeps s0 (State.setPosition s).1 := by
  unfold State.setPosition
  repeat' with_reducible first
    | assumption | apply State.mapSelf_keeps | apply State.flag_keeps | apply State.put_keeps | apply Keeps.ite
    | apply Keeps.fst_ite | split | dsimp only

theorem State.announceIf_keeps {s0 s : State} (h : Keeps s0 s) (b) :
    Keeps s0 (State.announceIf s b) := by
  unfold State.announceIf
  repeat' with_reducible first
    | assumption | apply State.announce_keeps | apply Keeps.ite | split

theorem State.reposition_keeps {s0 s : State} (h : Keeps s0 s) :
    Keeps s0 (State.reposition s) := by
  unfold State.reposition
  repeat' with_reducible first
    | assumption | apply State.announceIf_keeps | apply State.setPosition_keeps | dsimp only

theorem State.mapClear_keeps {s0 s : State} (h : Keeps s0 s) (a) :
    Keeps s0 (State.mapClear s a) := by
  unfold State.mapClear
  repeat' with_reducible first
    | assumption | apply State.unitGone_keeps | apply State.cold_keeps | apply Keeps.ite | split

theorem State.mapErase_keeps {s0 s : State} (h : Keeps s0 s) (a) :
    Keeps s0 (State.mapErase s a) := by
  unfold State.mapErase
  repeat' with_reducible first
    | assumption | apply State.mapClear_keeps | apply State.cold_keeps

theorem State.mapLoss_keeps {s0 s : State} (h : Keeps s0 s) (pos port) :
    Keeps s0 (State.mapLoss s pos port) := by
  unfold State.mapLoss
  repeat' with_reducible first
    | intro _ | assumption | apply State.mapClear_keeps | apply Keeps.foldl | dsimp only

theorem State.leave_keeps {s0 s : State} (h : Keeps s0 s) (p reason) :
    Keeps s0 (State.leave s p reason) := by
  unfold State.leave
  repeat' with_reducible first
    | assumption | apply State.txFlit_keeps | apply State.put_keeps | apply Keeps.ite | split | dsimp only
    | apply Keeps.record

theorem State.unhold_keeps {s0 s : State} (h : Keeps s0 s) (p) :
    Keeps s0 (State.unhold s p) := by
  unfold State.unhold
  repeat' with_reducible first
    | intro _ | assumption | apply State.setPt_keeps | apply Keeps.ite | split | dsimp only | apply Keeps.record

theorem State.portLost_keeps {s0 s : State} (h : Keeps s0 s) (p st) :
    Keeps s0 (State.portLost s p st) := by
  unfold State.portLost
  repeat' with_reducible first
    | intro _ | assumption | apply State.unhold_keeps | apply State.mapLoss_keeps | apply State.kcRaise_keeps
    | apply State.freed_keeps | apply State.ptRaise_keeps | apply State.setPt_keeps | apply State.put_keeps
    | apply Keeps.ite | apply Keeps.foldl | split | dsimp only

theorem State.portDown_keeps {s0 s : State} (h : Keeps s0 s) (p st) :
    Keeps s0 (State.portDown s p st) := by
  unfold State.portDown
  repeat' with_reducible first
    | assumption | apply State.portLost_keeps | apply State.reposition_keeps | apply State.castOn_keeps
    | apply Keeps.ite | split | dsimp only

theorem State.portsIdle_keeps {s0 s : State} (h : Keeps s0 s) (reason) :
    Keeps s0 (State.portsIdle s reason) := by
  unfold State.portsIdle
  repeat' with_reducible first
    | assumption | apply State.portLost_keeps | apply State.leave_keeps | apply State.setPosition_keeps | dsimp only

theorem State.linkFormed_keeps {s0 s : State} (h : Keeps s0 s) (p t) :
    Keeps s0 (State.linkFormed s p t) := by
  unfold State.linkFormed
  repeat' with_reducible first
    | assumption | apply State.flag_keeps | apply State.put_keeps | dsimp only

theorem State.sendTs1_keeps {s0 s : State} (h : Keeps s0 s) (p rxSel recovery) :
    Keeps s0 (State.sendTs1 s p rxSel recovery) := by
  unfold State.sendTs1
  repeat' with_reducible first
    | intro _ | assumption | apply State.emit_keeps | apply Keeps.foldl | dsimp only

theorem State.sendTs2_keeps {s0 s : State} (h : Keeps s0 s) (p t recovery) :
    Keeps s0 (State.sendTs2 s p t recovery) := by
  unfold State.sendTs2
  repeat' with_reducible first
    | intro _ | assumption | apply State.sendTs1_keeps | apply State.alignAll_keeps | apply State.emit_keeps
    | apply Keeps.ite | apply Keeps.foldl | split | dsimp only

theorem State.portActive_keeps {s0 s : State} (h : Keeps s0 s) (p t first) (hk : ∀ t, Keeps s0 t → Keeps s0 (first t)) :
    Keeps s0 (State.portActive s p t first) := by
  unfold State.portActive
  repeat' with_reducible first
    | intro _ | assumption | apply hk | apply State.sendTs2_keeps | apply State.linkFormed_keeps
    | apply State.announceIf_keeps | apply State.setPosition_keeps | apply State.ptRaise_keeps | apply State.put_keeps
    | dsimp only

theorem State.portTrain_keeps {s0 s : State} (h : Keeps s0 s) (p) :
    Keeps s0 (State.portTrain s p) := by
  unfold State.portTrain
  repeat' with_reducible first
    | assumption | apply State.sendTs1_keeps | apply State.setPt_keeps | apply State.put_keeps | apply Keeps.ite
    | split

theorem State.portUp_keeps {s0 s : State} (h : Keeps s0 s) (p t) : Keeps s0 (s.portUp p t) := by
  unfold State.portUp
  split
  · exact State.portActive_keeps (State.put_keeps (State.put_keeps (State.setPt_keeps h _ _) _ _) _ _) _ _ _
      (fun _ x => x)
  · exact h

theorem State.recover_keeps {s0 s : State} (h : Keeps s0 s) (p) :
    Keeps s0 (State.recover s p) := by
  unfold State.recover
  repeat' with_reducible first
    | assumption | apply State.sendTs1_keeps | apply State.reposition_keeps | apply State.ptRaise_keeps
    | apply State.setPt_keeps | apply State.put_keeps | apply Keeps.ite | split | dsimp only | apply Keeps.record

theorem State.resend_keeps {s0 s : State} (h : Keeps s0 s) (p l) :
    Keeps s0 (State.resend s p l) := by
  unfold State.resend
  repeat' with_reducible first
    | intro _ | assumption | apply State.txFlit_keeps | apply State.ptRaise_keeps | apply Keeps.ite
    | apply Keeps.foldl | split | dsimp only | apply Keeps.record

theorem State.recovered_keeps {s0 s : State} (h : Keeps s0 s) (p t) :
    Keeps s0 (State.recovered s p t) := by
  unfold State.recovered
  repeat' with_reducible first
    | intro _ | assumption | apply State.resend_keeps | apply State.portTrain_keeps | apply State.portActive_keeps
    | apply State.portDown_keeps | apply State.pumpAll_keeps | apply Keeps.ite | split

theorem State.ptCtlWrite_keeps {s0 s : State} (h : Keeps s0 s) (p mid v) :
    Keeps s0 (State.ptCtlWrite s p mid v) := by
  unfold State.ptCtlWrite
  repeat' with_reducible first
    | assumption | apply State.recover_keeps | apply State.portTrain_keeps | apply State.portDown_keeps
    | apply State.leave_keeps | apply State.writeFlds_keeps | apply Keeps.ite | split | dsimp only

theorem State.sendNak_keeps {s0 s : State} (h : Keeps s0 s) (p) :
    Keeps s0 (State.sendNak s p) := by
  unfold State.sendNak
  repeat' with_reducible first
    | assumption | apply State.txFlit_keeps | apply State.ptRaise_keeps | apply Keeps.record

theorem State.reject_keeps {s0 s : State} (h : Keeps s0 s) (p why f nak) :
    Keeps s0 (State.reject s p why f nak) := by
  unfold State.reject
  repeat' with_reducible first
    | assumption | apply State.sendNak_keeps | apply State.recover_keeps | apply State.rxHeader_keeps
    | apply State.setPt_keeps | apply State.count_keeps | apply Keeps.ite | split | dsimp only | apply Keeps.record

theorem State.unsequenced_keeps {s0 s : State} (h : Keeps s0 s) (p f k) (hk : ∀ t, Keeps s0 t → Keeps s0 (k t)) :
    Keeps s0 (State.unsequenced s p f k) := by
  unfold State.unsequenced
  repeat' with_reducible first
    | intro _ | assumption | apply hk | apply State.rxHeader_keeps | apply Keeps.ite | split

theorem State.undeliverable_keeps {s0 s : State} (h : Keeps s0 s) (p type f) :
    Keeps s0 (State.undeliverable s p type f) := by
  unfold State.undeliverable
  repeat' with_reducible first
    | assumption | apply State.noRoute_keeps | apply State.ptRaise_keeps | apply Keeps.ite | split

theorem State.forward_keeps {s0 s : State} (h : Keeps s0 s) (p type f) :
    Keeps s0 (State.forward s p type f) := by
  unfold State.forward
  repeat' with_reducible first
    | assumption | apply State.undeliverable_keeps | apply State.acceptAs_keeps | apply State.sendOn_keeps
    | apply Keeps.ite | split | dsimp only | apply Keeps.record

theorem State.announced_keeps {s0 s : State} (h : Keeps s0 s) (p f) :
    Keeps s0 (State.announced s p f) := by
  unfold State.announced
  repeat' with_reducible first
    | assumption | apply State.mapErase_keeps | apply State.reposition_keeps | apply State.flag_keeps
    | apply State.put_keeps | apply Keeps.ite | split | dsimp only

theorem State.lossSeen_keeps {s0 s : State} (h : Keeps s0 s) (f) :
    Keeps s0 (State.lossSeen s f) := by
  unfold State.lossSeen
  repeat' with_reducible first
    | assumption | apply State.mapLoss_keeps

theorem State.broadcast_keeps {s0 s : State} (h : Keeps s0 s) (p type c f k) (hk : ∀ t, Keeps s0 t → Keeps s0 (k t)) :
    Keeps s0 (State.broadcast s p type c f k) := by
  unfold State.broadcast
  repeat' with_reducible first
    | intro _ | assumption | apply hk | apply State.relay_keeps | apply State.accept_keeps | apply Keeps.ite | split

theorem State.linkFlit_keeps {s0 s : State} (h : Keeps s0 s) (p f k) (hk : ∀ t, Keeps s0 t → Keeps s0 (k t)) :
    Keeps s0 (State.linkFlit s p f k) := by
  unfold State.linkFlit
  repeat' with_reducible first
    | intro _ | assumption | apply hk | apply State.accept_keeps | apply Keeps.ite | split

theorem State.laneFails_keeps {s0 s : State} (h : Keeps s0 s) (p k n lock) :
    Keeps s0 (State.laneFails s p k n lock) := by
  unfold State.laneFails
  repeat' with_reducible first
    | assumption | apply State.recover_keeps | apply State.sendOn_keeps | apply State.ptRaise_keeps
    | apply State.setPt_keeps | apply State.count_keeps | apply Keeps.ite | split | dsimp only | apply Keeps.record

theorem State.swapAsked_keeps {s0 s : State} (h : Keeps s0 s) (p f) :
    Keeps s0 (State.swapAsked s p f) := by
  unfold State.swapAsked
  repeat' with_reducible first
    | assumption | apply State.setPt_keeps | apply Keeps.record

theorem State.laneRetired_keeps {s0 s : State} (h : Keeps s0 s) (p k kind) :
    Keeps s0 (State.laneRetired s p k kind) := by
  unfold State.laneRetired
  repeat' with_reducible first
    | assumption | apply State.jrnlWrite_keeps | apply State.setTln_keeps | apply State.put_keeps | dsimp only
    | apply Keeps.record

theorem State.relane_keeps {s0 s : State} (h : Keeps s0 s) (f k j) :
    Keeps s0 (State.relane s f k j) := by
  unfold State.relane
  repeat' with_reducible first
    | assumption | apply State.put_keeps | apply Keeps.ite | split

theorem State.swapDone_keeps {s0 s : State} (h : Keeps s0 s) (p tx) :
    Keeps s0 (State.swapDone s p tx) := by
  unfold State.swapDone
  repeat' with_reducible first
    | assumption | apply State.relane_keeps | apply State.laneRetired_keeps | apply State.setPt_keeps
    | apply State.put_keeps | apply Keeps.ite | split | dsimp only | apply Keeps.record

end Sys2Proof.Machine
end

