-- ==== Sys2Proof/Laws/KeepsLedger.lean ====
section
/-!
SUPPORT. What the operations of pairs, the host interface, resets, supply, thermal management, faults, the clock and the Keychain keep.
-/

namespace Sys2Proof.Machine

set_option linter.unusedTactic false
set_option linter.unreachableTactic false

/-! ### Pair -/

theorem State.savePair_keeps {s0 s : State} (h : Keeps s0 s) :
    Keeps s0 (State.savePair s) := by
  unfold State.savePair
  repeat' with_reducible first
    | assumption | apply State.setLdg_keeps | apply Keeps.record

theorem State.setPair_keeps {s0 s : State} (h : Keeps s0 s) (p) :
    Keeps s0 (State.setPair s p) := by
  unfold State.setPair
  repeat' with_reducible first
    | assumption | apply State.setLdg_keeps | apply Keeps.record

theorem State.mismatch_keeps {s0 s : State} (h : Keeps s0 s) :
    Keeps s0 (State.mismatch s) := by
  unfold State.mismatch
  repeat' with_reducible first
    | assumption | apply State.ldgRaise_keeps | apply Keeps.ite | split | dsimp only

theorem State.pairSend_keeps {s0 s : State} (h : Keeps s0 s) (unit op role answer) :
    Keeps s0 (State.pairSend s unit op role answer) := by
  unfold State.pairSend
  repeat' with_reducible first
    | assumption | apply State.sendTo_keeps | apply Keeps.ite | split

theorem State.sendState_keeps {s0 s : State} (h : Keeps s0 s) (answer) :
    Keeps s0 (State.sendState s answer) := by
  unfold State.sendState
  repeat' with_reducible first
    | assumption | apply State.pairSend_keeps

theorem State.sendEpoch_keeps {s0 s : State} (h : Keeps s0 s) (e) :
    Keeps s0 (State.sendEpoch s e) := by
  unfold State.sendEpoch
  repeat' with_reducible first
    | intro _ | assumption | apply State.sendTo_keeps | apply Keeps.foldl | apply Keeps.foldl_fst | dsimp only

theorem State.closeEpoch_keeps {s0 s : State} (h : Keeps s0 s) :
    Keeps s0 (State.closeEpoch s) := by
  unfold State.closeEpoch
  repeat' with_reducible first
    | intro _ | assumption | apply State.sendEpoch_keeps | apply State.setLdg_keeps | apply State.put_keeps
    | apply Keeps.ite | apply Keeps.foldl | split | dsimp only | apply Keeps.record

theorem State.resynchronise_keeps {s0 s : State} (h : Keeps s0 s) (mirror) :
    Keeps s0 (State.resynchronise s mirror) := by
  unfold State.resynchronise
  repeat' with_reducible first
    | intro _ | assumption | apply State.setLdg_keeps | dsimp only | apply Keeps.record

theorem State.setMirror_keeps {s0 s : State} (h : Keeps s0 s) (n) :
    Keeps s0 (State.setMirror s n) := by
  unfold State.setMirror
  repeat' with_reducible first
    | assumption | apply State.setLdg_keeps | apply Keeps.record

theorem State.handAnswered_keeps {s0 s : State} (h : Keeps s0 s) :
    Keeps s0 (State.handAnswered s) := by
  unfold State.handAnswered
  repeat' with_reducible first
    | assumption | apply State.setLdg_keeps | apply State.fwReply_keeps | apply Keeps.ite | split | dsimp only
    | apply Keeps.record

theorem State.epochAcked_keeps {s0 s : State} (h : Keeps s0 s) (pl) :
    Keeps s0 (State.epochAcked s pl) := by
  unfold State.epochAcked
  repeat' with_reducible first
    | intro _ | assumption | apply State.handAnswered_keeps | apply State.sendEpoch_keeps | apply State.ldgRaise_keeps
    | apply State.setLdg_keeps | apply Keeps.ite | split | dsimp only | apply Keeps.record

theorem State.dropStage_keeps {s0 s : State} (h : Keeps s0 s) :
    Keeps s0 (State.dropStage s) := by
  unfold State.dropStage
  repeat' with_reducible first
    | assumption | apply State.ldgRaise_keeps | apply State.setLdg_keeps | apply Keeps.ite | split
    | apply Keeps.record

theorem State.epochBegin_keeps {s0 s : State} (h : Keeps s0 s) (f) :
    Keeps s0 (State.epochBegin s f) := by
  unfold State.epochBegin
  repeat' with_reducible first
    | assumption | apply State.dropStage_keeps | apply State.setLdg_keeps | dsimp only | apply Keeps.record

theorem State.epochData_keeps {s0 s : State} (h : Keeps s0 s) (f) :
    Keeps s0 (State.epochData s f) := by
  unfold State.epochData
  repeat' with_reducible first
    | assumption | apply State.setLdg_keeps | split | dsimp only | apply Keeps.record

theorem State.sendAck_keeps {s0 s : State} (h : Keeps s0 s) (num reason) :
    Keeps s0 (State.sendAck s num reason) := by
  unfold State.sendAck
  repeat' with_reducible first
    | assumption | apply State.sendTo_keeps

theorem State.epochEnd_keeps {s0 s : State} (h : Keeps s0 s) (f) :
    Keeps s0 (State.epochEnd s f) := by
  unfold State.epochEnd
  repeat' with_reducible first
    | assumption | apply State.sendAck_keeps | apply State.ldgRaise_keeps | apply State.setLdg_keeps
    | apply State.put_keeps | apply Keeps.ite | split | dsimp only | apply Keeps.record

theorem State.handedOver_keeps {s0 s : State} (h : Keeps s0 s) :
    Keeps s0 (State.handedOver s) := by
  unfold State.handedOver
  repeat' with_reducible first
    | assumption | apply State.savePair_keeps | apply State.ldgSealReq_keeps | apply State.setLdg_keeps | split
    | dsimp only | apply Keeps.record

theorem State.epochCommit_keeps {s0 s : State} (h : Keeps s0 s) :
    Keeps s0 (State.epochCommit s) := by
  unfold State.epochCommit
  repeat' with_reducible first
    | intro _ | assumption | apply State.handedOver_keeps | apply State.sendAck_keeps | apply State.ldgFlush_keeps
    | apply State.setLdg_keeps | apply Keeps.ite | apply Keeps.foldl | split | dsimp only | apply Keeps.record

theorem State.heartbeat_keeps {s0 s : State} (h : Keeps s0 s) :
    Keeps s0 (State.heartbeat s) := by
  unfold State.heartbeat
  repeat' with_reducible first
    | assumption | apply State.sendState_keeps | apply State.ldgRaise_keeps | apply State.setLdg_keeps
    | apply Keeps.ite | split | dsimp only | apply Keeps.record

theorem State.sendHeartbeat_keeps {s0 s : State} (h : Keeps s0 s) :
    Keeps s0 (State.sendHeartbeat s) := by
  unfold State.sendHeartbeat
  repeat' with_reducible first
    | assumption | apply State.setLdg_keeps | apply State.sendTo_keeps | apply Keeps.ite | split | dsimp only
    | apply Keeps.record

theorem State.heartbeatLost_keeps {s0 s : State} (h : Keeps s0 s) :
    Keeps s0 (State.heartbeatLost s) := by
  unfold State.heartbeatLost
  repeat' with_reducible first
    | assumption | apply State.ldgRaise_keeps | apply State.setLdg_keeps | apply Keeps.ite | split
    | apply Keeps.record

theorem State.freeChain_keeps {s0 s : State} (h : Keeps s0 s) :
    Keeps s0 (State.freeChain s).1 := by
  unfold State.freeChain
  repeat' with_reducible first
    | intro _ | assumption | apply State.drawFree_keeps | apply Keeps.foldl | apply Keeps.foldl_fst | dsimp only

theorem State.takeFrom_keeps {s0 s : State} (h : Keeps s0 s) :
    Keeps s0 (State.takeFrom s) := by
  unfold State.takeFrom
  repeat' with_reducible first
    | assumption | apply State.freeChain_keeps | apply State.setLdg_keeps | apply Keeps.ite | apply Keeps.fst_ite
    | split | dsimp only | apply Keeps.record

theorem State.takeover_keeps {s0 s : State} (h : Keeps s0 s) (cause) : Keeps s0 (s.takeover cause) := by
  unfold State.takeover
  have hd := State.setLdg_keeps (State.ldgFlush_keeps (State.dropStage_keeps (State.takeFrom_keeps h)))
  dsimp only
  split
  · rename_i hu
    exact State.ldgRaise_keeps (State.ldgSealReq_keeps (State.putHw_keeps (State.hwRoom_keeps (hd _) _ _ hu) _ _)) _
  · exact State.ldgRaise_keeps (State.ldgSealReq_keeps (State.setLdg_keeps (hd _) _)) _

theorem State.graceEnd_keeps {s0 s : State} (h : Keeps s0 s) :
    Keeps s0 (State.graceEnd s) := by
  unfold State.graceEnd
  repeat' with_reducible first
    | assumption | apply State.takeover_keeps | apply State.setLdg_keeps | apply Keeps.ite | split
    | apply Keeps.record

theorem State.yieldTo_keeps {s0 s : State} (h : Keeps s0 s) (term mirror) :
    Keeps s0 (State.yieldTo s term mirror) := by
  unfold State.yieldTo
  repeat' with_reducible first
    | assumption | apply State.savePair_keeps | apply State.refuseDue_keeps | apply State.ldgFlush_keeps
    | apply State.ldgSealReq_keeps | apply State.ldgRaise_keeps | apply State.setLdg_keeps | apply Keeps.ite | split
    | dsimp only | apply Keeps.record

theorem State.stateSeen_keeps {s0 s : State} (h : Keeps s0 s) (role term mirror) :
    Keeps s0 (State.stateSeen s role term mirror) := by
  unfold State.stateSeen
  repeat' with_reducible first
    | assumption | apply State.yieldTo_keeps | apply State.resynchronise_keeps | apply State.ldgRaise_keeps
    | apply State.setLdg_keeps | apply Keeps.ite | split | dsimp only | apply Keeps.record

theorem State.pairState_keeps {s0 s : State} (h : Keeps s0 s) (f answer) :
    Keeps s0 (State.pairState s f answer) := by
  unfold State.pairState
  repeat' with_reducible first
    | assumption | apply State.stateSeen_keeps | apply State.sendState_keeps | apply State.mismatch_keeps
    | apply Keeps.ite | split | dsimp only

theorem State.formPair_keeps {s0 s : State} (h : Keeps s0 s) (role partner sn term id newest) :
    Keeps s0 (State.formPair s role partner sn term id newest) := by
  unfold State.formPair
  repeat' with_reducible first
    | assumption | apply State.savePair_keeps | apply State.refuseDue_keeps | apply State.ldgFlush_keeps
    | apply State.ldgQueue_keeps | apply State.setLdg_keeps | apply Keeps.ite | split | dsimp only
    | apply Keeps.record

theorem State.pairBind_keeps {s0 s : State} (h : Keeps s0 s) (f answer) :
    Keeps s0 (State.pairBind s f answer) := by
  unfold State.pairBind
  repeat' with_reducible first
    | assumption | apply State.formPair_keeps | apply State.pairSend_keeps | apply State.fwReply_keeps
    | apply Keeps.ite | split | dsimp only

theorem State.unbind_keeps {s0 s : State} (h : Keeps s0 s) :
    Keeps s0 (State.unbind s) := by
  unfold State.unbind
  repeat' with_reducible first
    | assumption | apply State.dropStage_keeps | apply State.savePair_keeps | apply State.ldgFlush_keeps
    | apply State.ldgQueue_keeps | apply State.setLdg_keeps | apply Keeps.ite | split | dsimp only
    | apply Keeps.record

theorem State.pairUnbind_keeps {s0 s : State} (h : Keeps s0 s) (f) :
    Keeps s0 (State.pairUnbind s f) := by
  unfold State.pairUnbind
  repeat' with_reducible first
    | assumption | apply State.unbind_keeps | apply State.mismatch_keeps | apply Keeps.ite | split | dsimp only

theorem State.mirrorAtPowerFail_keeps {s0 s : State} (h : Keeps s0 s) (acked) :
    Keeps s0 (State.mirrorAtPowerFail s acked) := by
  unfold State.mirrorAtPowerFail
  repeat' with_reducible first
    | assumption | apply State.closeEpoch_keeps | apply State.setLdg_keeps | apply Keeps.ite | split | dsimp only
    | apply Keeps.record

theorem State.mirrorFlit_keeps {s0 s : State} (h : Keeps s0 s) (p rsp f g) (hk : ∀ t, Keeps s0 t → Keeps s0 (g t)) :
    Keeps s0 (State.mirrorFlit s p rsp f g) := by
  unfold State.mirrorFlit
  repeat' with_reducible first
    | intro _ | assumption | apply hk | apply State.mismatch_keeps | apply State.ldgFlit_keeps | apply Keeps.ite
    | split | dsimp only

theorem State.asStandby_keeps {s0 s : State} (h : Keeps s0 s) (g) (hk : ∀ t, Keeps s0 t → Keeps s0 (g t)) :
    Keeps s0 (State.asStandby s g) := by
  unfold State.asStandby
  repeat' with_reducible first
    | intro _ | assumption | apply hk | apply Keeps.ite | split

/-! ### HostIf -/

theorem State.readDone_keeps {s0 s : State} (h : Keeps s0 s) (r c) :
    Keeps s0 (State.readDone s r c) := by
  unfold State.readDone
  repeat' with_reducible first
    | assumption | apply State.dataArrives_keeps | apply State.prgTableArrives_keeps | apply State.ccwArrives_keeps
    | apply State.tableArrives_keeps | apply State.adminArrive_keeps | apply State.entriesArrive_keeps | split
    | dsimp only | apply Keeps.record

theorem State.poisonedRx_keeps {s0 s : State} (h : Keeps s0 s) (f) :
    Keeps s0 (State.poisonedRx s f) := by
  unfold State.poisonedRx
  repeat' with_reducible first
    | assumption | apply State.hifRaise_keeps | apply State.aer_keeps

theorem State.cplErrors_keeps {s0 s : State} (h : Keeps s0 s) (f p x3) :
    Keeps s0 (State.cplErrors s f p x3) := by
  unfold State.cplErrors
  repeat' with_reducible first
    | assumption | apply State.poisonedRx_keeps | apply State.hifRaise_keeps | apply State.aerAdvisory_keeps
    | apply State.put_keeps | apply Keeps.ite | split | dsimp only

theorem State.takeRead_keeps {s0 s t : State} {r : HostRead} (h : Keeps s0 s) (f) (ht : s.takeRead f = some (r, t)) :
    Keeps s0 t := by
  unfold State.takeRead at ht
  obtain ⟨u, -, hu⟩ := Option.map_eq_some_iff.1 ht
  cases hu
  exact State.setFn_keeps h _ _

theorem State.readsDone_keeps {s0 s : State} (h : Keeps s0 s) (f n) : Keeps s0 (State.readsDone f n s) := by
  induction n generalizing s with
  | zero => exact h
  | succ n ih =>
    unfold State.readsDone
    split
    · rename_i ht
      exact ih (State.readDone_keeps (State.takeRead_keeps h _ ht) _ _)
    · exact h

theorem State.partDone_keeps {s0 s : State} (h : Keeps s0 s) (f id c) :
    Keeps s0 (State.partDone s f id c) := by
  unfold State.partDone
  repeat' with_reducible first
    | assumption | apply State.readsDone_keeps | apply State.endPart_keeps | apply State.issueReads_keeps

theorem State.completion_keeps {s0 s : State} (h : Keeps s0 s) (f id c) :
    Keeps s0 (State.completion s f id c) := by
  unfold State.completion
  repeat' with_reducible first
    | intro _ | assumption | apply State.partDone_keeps | apply State.cplErrors_keeps | apply State.aer_keeps
    | apply State.setFn_keeps | apply Keeps.ite | split | dsimp only | apply Keeps.record

theorem State.cplTimeout_keeps {s0 s : State} (h : Keeps s0 s) (f id) :
    Keeps s0 (State.cplTimeout s f id) := by
  unfold State.cplTimeout
  repeat' with_reducible first
    | intro _ | assumption | apply State.partDone_keeps | apply State.hifRaise_keeps | apply State.aer_keeps
    | apply Keeps.ite | split | dsimp only

theorem State.unstageMsix_keeps {s0 s : State} (h : Keeps s0 s) (f) :
    Keeps s0 (State.unstageMsix s f) := by
  unfold State.unstageMsix
  repeat' with_reducible first
    | intro _ | assumption | apply State.setFn_keeps | apply State.put_keeps | apply Keeps.foldl | split | dsimp only
    | apply Keeps.record

theorem State.release_keeps {s0 s : State} (h : Keeps s0 s) (f) :
    Keeps s0 (State.release s f) := by
  unfold State.release
  repeat' with_reducible first
    | assumption | apply State.sendCancels_keeps | apply State.issueReads_keeps | apply State.drain_keeps

theorem State.busMasterSet_keeps {s0 s : State} (h : Keeps s0 s) (f bme d3) :
    Keeps s0 (State.busMasterSet s f bme d3) := by
  unfold State.busMasterSet
  repeat' with_reducible first
    | assumption | apply State.release_keeps | apply State.unstageMsix_keeps | apply State.cplRelease_keeps
    | apply State.flag_keeps | apply Keeps.ite | split | dsimp only

theorem State.flrPrograms_keeps {s0 s : State} (h : Keeps s0 s) (f) :
    Keeps s0 (State.flrPrograms s f) := by
  unfold State.flrPrograms
  repeat' with_reducible first
    | intro _ | assumption | apply State.stopOp_keeps | apply Keeps.foldl | apply Keeps.foldl_fst | dsimp only
    | apply Keeps.record

theorem State.flrQueueFields_keeps {s0 s : State} (h : Keeps s0 s) (f) :
    Keeps s0 (State.flrQueueFields s f) := by
  unfold State.flrQueueFields
  repeat' with_reducible first
    | intro _ | assumption | apply State.cold_keeps | apply Keeps.foldl | apply Keeps.foldl_fst | dsimp only

theorem State.flrQueues_keeps {s0 s : State} (h : Keeps s0 s) (f) :
    Keeps s0 (State.flrQueues s f) := by
  unfold State.flrQueues
  repeat' with_reducible first
    | intro _ | assumption | apply State.flrQueueFields_keeps | apply State.put_keeps | apply Keeps.ite | split
    | dsimp only | apply Keeps.record

theorem State.flrSlots_keeps {s0 s : State} (h : Keeps s0 s) (f) :
    Keeps s0 (State.flrSlots s f) := by
  unfold State.flrSlots
  repeat' with_reducible first
    | intro _ | assumption | apply State.cold_keeps | split | dsimp only | apply Keeps.record

theorem State.flrMail_keeps {s0 s : State} (h : Keeps s0 s) (f) :
    Keeps s0 (State.flrMail s f) := by
  unfold State.flrMail
  repeat' with_reducible first
    | intro _ | assumption | apply State.setChan_keeps | apply Keeps.ite | apply Keeps.foldl | split | dsimp only
    | apply Keeps.record

theorem State.flrGo_keeps {s0 s : State} (h : Keeps s0 s) (f) :
    Keeps s0 (State.flrGo s f) := by
  unfold State.flrGo
  repeat' with_reducible first
    | intro _ | assumption | apply State.setChan_keeps | apply Keeps.ite | apply Keeps.fst_ite | apply Keeps.foldl
    | apply Keeps.foldl_fst | split | dsimp only | apply Keeps.record

theorem State.flrFw_keeps {s0 s : State} (h : Keeps s0 s) (f) :
    Keeps s0 (State.flrFw s f) := by
  unfold State.flrFw
  repeat' with_reducible first
    | intro _ | assumption | apply State.fwReply_keeps | apply State.dropFw_keeps | apply Keeps.foldl | dsimp only

theorem State.flrEffect_keeps {s0 s : State} (h : Keeps s0 s) (f) :
    Keeps s0 (State.flrEffect s f) := by
  unfold State.flrEffect
  repeat' with_reducible first
    | intro _ | assumption | apply State.flrFw_keeps | apply State.flrGo_keeps | apply State.flrMail_keeps
    | apply State.flrSlots_keeps | apply State.flrQueues_keeps | apply State.flrPrograms_keeps
    | apply State.lxbFree_keeps | apply State.freeSems_keeps | apply State.setFn_keeps
    | apply State.freeTumblers_keeps | apply State.cold_keeps | dsimp only | apply Keeps.record

theorem State.flr_keeps {s0 s : State} (h : Keeps s0 s) (f) :
    Keeps s0 (State.flr s f) := by
  unfold State.flr
  repeat' with_reducible first
    | assumption | apply State.flrEffect_keeps | apply State.hifRaise_keeps | apply Keeps.ite | split

theorem State.linkFields_keeps {s0 s : State} (h : Keeps s0 s) (up width speed) :
    Keeps s0 (State.linkFields s up width speed) := by
  unfold State.linkFields
  repeat' with_reducible first
    | assumption | apply State.put_keeps

theorem State.pcieDown_keeps {s0 s : State} (h : Keeps s0 s) :
    Keeps s0 (State.pcieDown s) := by
  unfold State.pcieDown
  repeat' with_reducible first
    | assumption | apply State.linkFields_keeps | apply State.flrEffect_keeps | apply State.hifRaise_keeps
    | apply Keeps.ite | split | dsimp only | apply Keeps.record

theorem State.pcieUp_keeps {s0 s : State} (h : Keeps s0 s) (x2 speed) :
    Keeps s0 (State.pcieUp s x2 speed) := by
  unfold State.pcieUp
  repeat' with_reducible first
    | assumption | apply State.linkFields_keeps | apply Keeps.ite | split

theorem State.perstLow_keeps {s0 s : State} (h : Keeps s0 s) :
    Keeps s0 (State.perstLow s) := by
  unfold State.perstLow
  repeat' with_reducible first
    | assumption | apply State.pcieDown_keeps | apply State.put_keeps

theorem State.barRefused_keeps {s0 s : State} (h : Keeps s0 s) (f off) :
    Keeps s0 (State.barRefused s f off) := by
  unfold State.barRefused
  repeat' with_reducible first
    | assumption | apply State.accessRefused_keeps | apply Keeps.record

theorem State.linkError_keeps {s0 s : State} (h : Keeps s0 s) (x1) :
    Keeps s0 (State.linkError s x1) := by
  unfold State.linkError
  repeat' with_reducible first
    | intro _ | assumption | apply State.aerCor_keeps | apply State.aer_keeps | apply Keeps.ite | apply Keeps.fst_ite
    | apply Keeps.foldl | apply Keeps.foldl_fst | split | dsimp only | apply Keeps.record

theorem State.inboundBad_keeps {s0 s : State} (h : Keeps s0 s) (f x2) :
    Keeps s0 (State.inboundBad s f x2) := by
  unfold State.inboundBad
  repeat' with_reducible first
    | intro _ | assumption | apply State.linkError_keeps | apply State.barRefused_keeps | apply State.hifRaise_keeps
    | apply State.aerCor_keeps | apply State.aer_keeps | apply State.complete_keeps | apply Keeps.ite
    | apply Keeps.fst_ite | apply Keeps.foldl | apply Keeps.foldl_fst | split | dsimp only | apply Keeps.record

/-! ### Reset -/

theorem State.coldReset_keeps {s0 s : State} (h : Keeps s0 s) : Keeps s0 s.coldReset :=
  h.trans ⟨rfl, fun _ => List.Pairwise.nil, fun _ => ⟨.nil, nofun, .nil, nofun⟩, .refl _⟩

theorem State.warmReset_keeps {s0 s : State} (h : Keeps s0 s) (a) : Keeps s0 (s.warmReset a) := by
  unfold State.warmReset
  extract_lets s1 kept src t src' t'
  have h1 : Keeps s0 s1 := State.pinsRelease_keeps h
  clear_value s1
  have ht : Keeps s0 t :=
    h1.trans ⟨rfl, fun r => (List.Pairwise.filter (fun e => keepsWarm e.1) r :), fun _ => ⟨.nil, nofun, .nil, nofun⟩, .refl _⟩
  clear_value t
  have hc := State.cold_keeps ht (trcFields ++ fltCounters)
  have ht' : Keeps s0 t' := by
    show Keeps s0 (if 2 ≤ s1.power then { t.cold (trcFields ++ fltCounters) with trcBuf := [], sinkLag := 0 } else t)
    generalize t.cold (trcFields ++ fltCounters) = u at hc
    exact Keeps.ite (Keeps.record hc) ht
  clear_value t'
  exact State.put_keeps (State.put_keeps (State.flag_keeps (State.put_keeps ht' _ _) _ _) _ _) _ _

theorem State.askReset_keeps {s0 s : State} (h : Keeps s0 s) (a) :
    Keeps s0 (State.askReset s a) := by
  unfold State.askReset
  repeat' with_reducible first
    | assumption | apply Keeps.ite | split | dsimp only | apply Keeps.record

theorem State.resetEffect_keeps {s0 s : State} (h : Keeps s0 s) :
    Keeps s0 (State.resetEffect s) := by
  unfold State.resetEffect
  repeat' with_reducible first
    | assumption | apply State.warmReset_keeps | apply State.ldgShutdown_keeps | split | dsimp only

theorem State.glbResetWrite_keeps {s0 s : State} (h : Keeps s0 s) (mid v) :
    Keeps s0 (State.glbResetWrite s mid v) := by
  unfold State.glbResetWrite
  repeat' with_reducible first
    | assumption | apply State.askReset_keeps | apply Keeps.ite | split | apply Keeps.record

theorem State.wdogKick_keeps {s0 s : State} (h : Keeps s0 s) (mid v) :
    Keeps s0 (State.wdogKick s mid v) := by
  unfold State.wdogKick
  repeat' with_reducible first
    | assumption | apply Keeps.ite | split | apply Keeps.record

/-! ### Supply -/

theorem State.pwrRaise_keeps {s0 s : State} (h : Keeps s0 s) (bit) :
    Keeps s0 (State.pwrRaise s bit) := by
  unfold State.pwrRaise
  repeat' with_reducible first
    | assumption | apply State.raiseF_keeps | apply State.raise_keeps | apply Keeps.ite | split

theorem State.hupRaise_keeps {s0 s : State} (h : Keeps s0 s) (bit) :
    Keeps s0 (State.hupRaise s bit) := by
  unfold State.hupRaise
  repeat' with_reducible first
    | assumption | apply State.fault_keeps | apply State.raise_keeps | apply Keeps.ite | split | dsimp only
    | apply Keeps.record

theorem State.holdCold_keeps {s0 s : State} (h : Keeps s0 s) (feed) :
    Keeps s0 (State.holdCold s feed) := by
  unfold State.holdCold
  repeat' with_reducible first
    | assumption | apply State.coldReset_keeps | apply State.setSup_keeps | dsimp only | apply Keeps.record

theorem State.supplySample_keeps {s0 s : State} (h : Keeps s0 s) (vin) :
    Keeps s0 (State.supplySample s vin) := by
  unfold State.supplySample
  repeat' with_reducible first
    | assumption | apply State.pwrRaise_keeps | apply State.setSup_keeps | apply State.flag_keeps
    | apply State.put_keeps | apply Keeps.ite | split | dsimp only | apply Keeps.record

theorem State.judgeStore_keeps {s0 s : State} (h : Keeps s0 s) :
    Keeps s0 (State.judgeStore s) := by
  unfold State.judgeStore
  repeat' with_reducible first
    | assumption | apply State.hupRaise_keeps | apply State.fault_keeps | apply State.flag_keeps
    | apply State.put_keeps | apply Keeps.ite | split | dsimp only | apply Keeps.record

theorem State.showGauge_keeps {s0 s : State} (h : Keeps s0 s) :
    Keeps s0 (State.showGauge s) := by
  unfold State.showGauge
  repeat' with_reducible first
    | assumption | apply State.put_keeps | dsimp only

theorem State.recalibrate_keeps {s0 s : State} (h : Keeps s0 s) :
    Keeps s0 (State.recalibrate s) := by
  unfold State.recalibrate
  repeat' with_reducible first
    | assumption | apply State.setSup_keeps | apply Keeps.ite | split | apply Keeps.record

theorem State.disagrees_keeps {s0 s : State} (h : Keeps s0 s) :
    Keeps s0 (State.disagrees s) := by
  unfold State.disagrees
  repeat' with_reducible first
    | assumption | apply State.recalibrate_keeps | apply State.hupRaise_keeps | apply State.setSup_keeps
    | apply Keeps.record

theorem State.gauge_keeps {s0 s : State} (h : Keeps s0 s) (v flow) :
    Keeps s0 (State.gauge s v flow) := by
  unfold State.gauge
  repeat' with_reducible first
    | assumption | apply State.disagrees_keeps | apply State.showGauge_keeps | apply State.judgeStore_keeps
    | apply State.setSup_keeps | apply State.put_keeps | apply Keeps.ite | split | dsimp only | apply Keeps.record

theorem State.calEnd_keeps {s0 s : State} (h : Keeps s0 s) (counted step v leak) :
    Keeps s0 (State.calEnd s counted step v leak) := by
  unfold State.calEnd
  repeat' with_reducible first
    | assumption | apply State.showGauge_keeps | apply State.judgeStore_keeps | apply State.hupRaise_keeps
    | apply State.setSup_keeps | apply State.put_keeps | apply Keeps.ite | split | dsimp only | apply Keeps.record

theorem State.storeFails_keeps {s0 s : State} (h : Keeps s0 s) (reason) :
    Keeps s0 (State.storeFails s reason) := by
  unfold State.storeFails
  repeat' with_reducible first
    | assumption | apply State.judgeStore_keeps | apply State.setSup_keeps | apply Keeps.record

theorem State.chargerFault_keeps {s0 s : State} (h : Keeps s0 s) :
    Keeps s0 (State.chargerFault s) := by
  unfold State.chargerFault
  repeat' with_reducible first
    | assumption | apply State.storeFails_keeps | apply State.hupRaise_keeps | apply Keeps.ite | split

theorem State.pwrResult_keeps {s0 s : State} (h : Keeps s0 s) (r) :
    Keeps s0 (State.pwrResult s r) := by
  unfold State.pwrResult
  repeat' with_reducible first
    | assumption | apply State.pwrRaise_keeps | apply State.put_keeps | apply Keeps.ite | split | dsimp only

theorem State.portsStop_keeps {s0 s : State} (h : Keeps s0 s) :
    Keeps s0 (State.portsStop s) := by
  unfold State.portsStop
  repeat' with_reducible first
    | intro _ | assumption | apply State.portOff_keeps | apply Keeps.foldl | apply Keeps.foldl_fst | dsimp only

theorem State.quietIdle_keeps {s0 s : State} (h : Keeps s0 s) :
    Keeps s0 (State.quietIdle s) := by
  unfold State.quietIdle
  repeat' with_reducible first
    | assumption | apply State.portDown_keeps | apply State.portLost_keeps | apply State.leave_keeps
    | apply State.setPosition_keeps | apply Keeps.ite | apply Keeps.fst_ite | split | dsimp only

theorem State.quietTrain_keeps {s0 s : State} (h : Keeps s0 s) (p) :
    Keeps s0 (State.quietTrain s p) := by
  unfold State.quietTrain
  repeat' with_reducible first
    | assumption | apply State.portTrain_keeps | apply Keeps.ite | split

theorem State.enterQuiet_keeps {s0 s : State} (h : Keeps s0 s) (who) :
    Keeps s0 (State.enterQuiet s who) := by
  unfold State.enterQuiet
  repeat' with_reducible first
    | assumption | apply State.quietIdle_keeps | apply State.portsStop_keeps | apply State.pinsStop_keeps
    | apply State.quietSet_keeps | apply State.trace_keeps | apply State.put_keeps | dsimp only | apply Keeps.record

theorem State.exitQuiet_keeps {s0 s : State} (h : Keeps s0 s) :
    Keeps s0 (State.exitQuiet s) := by
  unfold State.exitQuiet
  repeat' with_reducible first
    | assumption | apply State.quietTrain_keeps | apply State.pinsResume_keeps | apply State.ethsSettle_keeps
    | apply State.trace_keeps | apply State.put_keeps | dsimp only | apply Keeps.record

theorem State.enterLow_keeps {s0 s : State} (h : Keeps s0 s) :
    Keeps s0 (State.enterLow s) := by
  unfold State.enterLow
  repeat' with_reducible first
    | assumption | apply State.setLdg_keeps | apply State.put_keeps | apply Keeps.record

theorem State.wake_keeps {s0 s : State} (h : Keeps s0 s) :
    Keeps s0 (State.wake s) := by
  unfold State.wake
  repeat' with_reducible first
    | assumption | apply State.askReset_keeps | apply State.put_keeps | apply Keeps.record

theorem State.pwrGo_keeps {s0 s : State} (h : Keeps s0 s) (who t) :
    Keeps s0 (State.pwrGo s who t) := by
  unfold State.pwrGo
  repeat' with_reducible first
    | assumption | apply State.wake_keeps | apply State.enterLow_keeps | apply State.exitQuiet_keeps
    | apply State.enterQuiet_keeps | apply State.put_keeps | apply Keeps.ite | split | dsimp only

theorem State.pwrTick_keeps {s0 s : State} (h : Keeps s0 s) :
    Keeps s0 (State.pwrTick s) := by
  unfold State.pwrTick
  repeat' with_reducible first
    | assumption | apply State.pwrRaise_keeps | apply State.put_keeps | apply Keeps.ite | split

theorem State.pwrRequest_keeps {s0 s : State} (h : Keeps s0 s) (who t) :
    Keeps s0 (State.pwrRequest s who t) := by
  unfold State.pwrRequest
  repeat' with_reducible first
    | assumption | apply State.pwrGo_keeps | apply State.pwrResult_keeps | apply State.put_keeps | apply Keeps.ite
    | split | dsimp only

theorem State.pwrStateWrite_keeps {s0 s : State} (h : Keeps s0 s) (mid v) :
    Keeps s0 (State.pwrStateWrite s mid v) := by
  unfold State.pwrStateWrite
  repeat' with_reducible first
    | assumption | apply State.pwrRequest_keeps | apply Keeps.ite | split

theorem State.drainEnd_keeps {s0 s : State} (h : Keeps s0 s) :
    Keeps s0 (State.drainEnd s) := by
  unfold State.drainEnd
  repeat' with_reducible first
    | intro _ | assumption | apply State.pwrRaise_keeps | apply State.pcieDown_keeps | apply State.portsIdle_keeps
    | apply State.ldgShutdown_keeps | apply State.pinsRelease_keeps | apply State.adminAbort_keeps
    | apply settle_keeps | apply State.fault_keeps | apply State.put_keeps | apply Keeps.ite | apply Keeps.foldl
    | split | dsimp only | apply Keeps.record

theorem State.perstHigh_keeps {s0 s : State} (h : Keeps s0 s) :
    Keeps s0 (State.perstHigh s) := by
  unfold State.perstHigh
  repeat' with_reducible first
    | assumption | apply State.wake_keeps | apply State.put_keeps | apply Keeps.ite | split | dsimp only

theorem State.pfStep1_keeps {s0 s : State} (h : Keeps s0 s) :
    Keeps s0 (State.pfStep1 s) := by
  unfold State.pfStep1
  repeat' with_reducible first
    | intro _ | assumption | apply State.setLdg_keeps | apply State.kcRaise_keeps | split | dsimp only
    | apply Keeps.record

theorem State.pfStep3_keeps {s0 s : State} (h : Keeps s0 s) (acked) :
    Keeps s0 (State.pfStep3 s acked) := by
  unfold State.pfStep3
  repeat' with_reducible first
    | assumption | apply State.mirrorAtPowerFail_keeps | apply State.portsIdle_keeps | dsimp only | apply Keeps.record

theorem State.pfStep4_keeps {s0 s : State} (h : Keeps s0 s) (step4 energy) : Keeps s0 (s.pfStep4 step4 energy) := by
  unfold State.pfStep4
  extract_lets ready full s' log
  have h' : Keeps s0 s' := Keeps.ite (State.ldgShutdown_keeps h _) h
  clear_value s' log
  exact Keeps.flash h' rfl rfl rfl rfl

theorem State.pfStep5_keeps {s0 s : State} (h : Keeps s0 s) :
    Keeps s0 (State.pfStep5 s) := by
  unfold State.pfStep5
  repeat' with_reducible first
    | intro _ | assumption | apply State.pcieDown_keeps | apply State.pinsRelease_keeps | apply State.ethLinkTo_keeps
    | apply Keeps.foldl | dsimp only

theorem State.pfStep6_keeps {s0 s : State} (h : Keeps s0 s) :
    Keeps s0 (State.pfStep6 s) := by
  unfold State.pfStep6
  repeat' with_reducible first
    | assumption | apply State.holdCold_keeps | apply Keeps.record

theorem State.pfStep_keeps {s0 s : State} (h : Keeps s0 s) (acked step4 energy) :
    Keeps s0 (s.pfStep acked step4 energy) := by
  unfold State.pfStep
  extract_lets k src src2 s1 src3 s2
  have h1 : Keeps s0 s1 := Keeps.ite (Keeps.record (State.setSup_keeps (State.put_keeps h _ _) _)) h
  clear_value s1
  have h2 : Keeps s0 s2 := State.setSup_keeps h1 _
  clear_value s2 k
  exact Keeps.ite (State.pfStep1_keeps h2) (Keeps.ite (State.ldgFlush_keeps h2) (Keeps.ite (State.pfStep3_keeps h2 _)
    (Keeps.ite (State.pfStep4_keeps h2 _ _) (Keeps.ite (State.pfStep5_keeps h2) (State.pfStep6_keeps h2)))))

theorem State.powerFail_keeps {s0 s : State} (h : Keeps s0 s) (acked step4 energy n) :
    Keeps s0 (State.powerFail acked step4 energy n s) := by
  induction n generalizing s with
  | zero => exact h
  | succ n ih =>
    unfold State.powerFail
    split
    · exact h
    · exact ih (State.pfStep_keeps h _ _ _)

/-! ### Thermal -/

theorem State.thmRaise_keeps {s0 s : State} (h : Keeps s0 s) (bit k) :
    Keeps s0 (State.thmRaise s bit k) := by
  unfold State.thmRaise
  repeat' with_reducible first
    | assumption | apply State.raiseF_keeps | apply State.raise_keeps | apply Keeps.ite | split

theorem State.judgeSensor_keeps {s0 s : State} (h : Keeps s0 s) (l sus k) :
    Keeps s0 (State.judgeSensor s l sus k) := by
  unfold State.judgeSensor
  repeat' with_reducible first
    | assumption | apply State.thmRaise_keeps | apply State.put_keeps | apply Keeps.ite | split | dsimp only

theorem State.reportSensor_keeps {s0 s : State} (h : Keeps s0 s) (l sus k) :
    Keeps s0 (State.reportSensor s l sus k) := by
  unfold State.reportSensor
  repeat' with_reducible first
    | assumption | apply State.thmRaise_keeps | apply State.flag_keeps | apply State.put_keeps | apply Keeps.ite
    | apply Keeps.fst_ite | split | dsimp only

theorem State.enforce_keeps {s0 s : State} (h : Keeps s0 s) :
    Keeps s0 (State.enforce s) := by
  unfold State.enforce
  repeat' with_reducible first
    | assumption | apply State.thmRaise_keeps | apply State.put_keeps | apply Keeps.ite | split | dsimp only

theorem State.thermalState_keeps {s0 s : State} (h : Keeps s0 s) (l high) :
    Keeps s0 (State.thermalState s l high) := by
  unfold State.thermalState
  repeat' with_reducible first
    | intro _ | assumption | apply State.enforce_keeps | apply State.thmRaise_keeps | apply State.safeStop_keeps
    | apply State.put_keeps | apply Keeps.ite | split | dsimp only

theorem State.fastRate_keeps {s0 s : State} (h : Keeps s0 s) (l high) :
    Keeps s0 (State.fastRate s l high) := by
  unfold State.fastRate
  repeat' with_reducible first
    | intro _ | assumption | apply State.put_keeps | apply Keeps.ite | split | dsimp only

theorem State.peak_keeps {s0 s : State} (h : Keeps s0 s) (high k) :
    Keeps s0 (State.peak s high k) := by
  unfold State.peak
  repeat' with_reducible first
    | assumption | apply State.put_keeps | apply Keeps.ite | split

theorem State.thmSample_keeps {s0 s : State} (h : Keeps s0 s) (l) :
    Keeps s0 (State.thmSample s l) := by
  unfold State.thmSample
  repeat' with_reducible first
    | intro _ | assumption | apply State.peak_keeps | apply State.fastRate_keeps | apply State.thermalState_keeps
    | apply State.reportSensor_keeps | apply State.judgeSensor_keeps | apply State.thmRaise_keeps
    | apply State.count_keeps | apply State.put_keeps | apply Keeps.ite | apply Keeps.foldl | split | dsimp only
    | apply Keeps.record

theorem State.thmCmdWrite_keeps {s0 s : State} (h : Keeps s0 s) (mid v) :
    Keeps s0 (State.thmCmdWrite s mid v) := by
  unfold State.thmCmdWrite
  repeat' with_reducible first
    | assumption | apply Keeps.ite | split | apply Keeps.record

theorem State.boundRefused_keeps {s0 s : State} (h : Keeps s0 s) (off mid) :
    Keeps s0 (State.boundRefused s off mid) := by
  unfold State.boundRefused
  repeat' with_reducible first
    | assumption | apply State.fault_keeps | apply Keeps.record

theorem State.thmLimWrite_keeps {s0 s : State} (h : Keeps s0 s) (mid v) :
    Keeps s0 (State.thmLimWrite s mid v) := by
  unfold State.thmLimWrite
  repeat' with_reducible first
    | assumption | apply State.boundRefused_keeps | apply State.put_keeps | apply Keeps.ite | split | dsimp only

theorem State.thmDutyWrite_keeps {s0 s : State} (h : Keeps s0 s) (mid v) :
    Keeps s0 (State.thmDutyWrite s mid v) := by
  unfold State.thmDutyWrite
  repeat' with_reducible first
    | assumption | apply State.boundRefused_keeps | apply State.writeFlds_keeps | apply Keeps.ite | split

theorem State.thmPeakRead_keeps {s0 s : State} (h : Keeps s0 s) :
    Keeps s0 (State.thmPeakRead s).1 := by
  unfold State.thmPeakRead
  repeat' with_reducible first
    | assumption | apply State.cold_keeps | dsimp only

/-! ### Latch -/

theorem State.keepHalf_keeps {s0 s : State} (h : Keeps s0 s) (w off write v) :
    Keeps s0 (State.keepHalf s w off write v) := by
  unfold State.keepHalf
  repeat' with_reducible first
    | intro _ | assumption | apply State.hngRaise_keeps | apply Keeps.ite | split | dsimp only | apply Keeps.record

theorem State.dropHalf_keeps {s0 s : State} (h : Keeps s0 s) (w off write) :
    Keeps s0 (State.dropHalf s w off write) := by
  unfold State.dropHalf
  repeat' with_reducible first
    | intro _ | assumption | apply Keeps.ite | split | apply Keeps.record

theorem State.halfDiscard_keeps {s0 s : State} (h : Keeps s0 s) (w off) :
    Keeps s0 (State.halfDiscard s w off) := by
  unfold State.halfDiscard
  repeat' with_reducible first
    | assumption | apply State.dropHalf_keeps | apply State.accessRefused_keeps | split | dsimp only

theorem State.farLatchExpire_keeps {s0 s : State} (h : Keeps s0 s) (origin) :
    Keeps s0 (State.farLatchExpire s origin) := by
  unfold State.farLatchExpire
  repeat' with_reducible first
    | intro _ | assumption | apply State.accessRefused_keeps | apply Keeps.ite | split | dsimp only
    | apply Keeps.record

/-! ### FaultCmds -/

theorem State.putIf_keeps {s0 s : State} (h : Keeps s0 s) (f ok v) :
    Keeps s0 (State.putIf s f ok v) := by
  unfold State.putIf
  repeat' with_reducible first
    | assumption | apply State.put_keeps | apply Keeps.ite | split

theorem State.srcCfgWrite_keeps {s0 s : State} (h : Keeps s0 s) (n w v) :
    Keeps s0 (State.srcCfgWrite s n w v) := by
  unfold State.srcCfgWrite
  repeat' with_reducible first
    | assumption | apply State.putIf_keeps | apply State.boundRefused_keeps | apply State.accessRefused_keeps
    | apply State.put_keeps | apply Keeps.ite | split | dsimp only

theorem State.tighten_keeps {s0 s : State} (h : Keeps s0 s) (f v reserved tighter) :
    Keeps s0 (State.tighten s f v reserved tighter).1 := by
  unfold State.tighten
  repeat' with_reducible first
    | assumption | apply State.put_keeps | apply Keeps.ite | apply Keeps.fst_ite | split | dsimp only

theorem State.applyBound_keeps {s0 s : State} (h : Keeps s0 s) (n) :
    Keeps s0 (State.applyBound s n) := by
  unfold State.applyBound
  repeat' with_reducible first
    | assumption | apply State.put_keeps | apply Keeps.ite | split | dsimp only

theorem State.dbtRefused_keeps {s0 s : State} (h : Keeps s0 s) (off mid) :
    Keeps s0 (State.dbtRefused s off mid) := by
  unfold State.dbtRefused
  repeat' with_reducible first
    | assumption | apply State.boundRefused_keeps | apply State.put_keeps

theorem State.boundStored_keeps {s0 s : State} (h : Keeps s0 s) (off old fs) : Keeps s0 (s.boundStored off old fs) := by
  unfold State.boundStored
  split
  · exact h
  · exact Keeps.flash h rfl rfl rfl rfl

theorem State.dbtFltWrite_keeps {s0 s : State} (h : Keeps s0 s) (n w v) :
    Keeps s0 (State.dbtFltWrite s n w v) := by
  unfold State.dbtFltWrite
  repeat' with_reducible first
    | assumption | apply State.boundStored_keeps | apply State.dbtRefused_keeps | apply State.applyBound_keeps
    | apply State.tighten_keeps | apply State.accessRefused_keeps | apply Keeps.ite | apply Keeps.fst_ite | split
    | dsimp only

theorem State.dbtGwWrite_keeps {s0 s : State} (h : Keeps s0 s) (p w v) :
    Keeps s0 (State.dbtGwWrite s p w v) := by
  unfold State.dbtGwWrite
  repeat' with_reducible first
    | assumption | apply State.boundStored_keeps | apply State.dbtRefused_keeps | apply State.tighten_keeps
    | apply State.accessRefused_keeps | apply Keeps.ite | apply Keeps.fst_ite | split | dsimp only

theorem State.pendWrite_keeps {s0 s : State} (h : Keeps s0 s) (j w v) :
    Keeps s0 (State.pendWrite s j w v) := by
  unfold State.pendWrite
  repeat' with_reducible first
    | assumption | apply State.accessRefused_keeps | apply State.put_keeps | apply Keeps.ite | split

theorem State.evqPop_keeps {s0 s : State} (h : Keeps s0 s) (mid uncorr) :
    Keeps s0 (State.evqPop s mid uncorr).1 := by
  unfold State.evqPop
  repeat' with_reducible first
    | assumption | apply State.chainPop_keeps | apply State.drawFree_keeps | apply Keeps.ite | apply Keeps.fst_ite
    | split | dsimp only | apply Keeps.record

theorem State.portReleased_keeps {s0 s : State} (h : Keeps s0 s) (cls idx) :
    Keeps s0 (State.portReleased s cls idx) := by
  unfold State.portReleased
  repeat' with_reducible first
    | assumption | apply State.ethSettle_keeps | apply State.canEnable_keeps | apply Keeps.ite | split

theorem State.quarWrite_keeps {s0 s : State} (h : Keeps s0 s) (hi w v) :
    Keeps s0 (State.quarWrite s hi w v) := by
  unfold State.quarWrite
  repeat' with_reducible first
    | intro _ | assumption | apply State.portReleased_keeps | apply State.accessRefused_keeps | apply State.put_keeps
    | apply Keeps.ite | apply Keeps.fst_ite | apply Keeps.foldl | apply Keeps.foldl_fst | split | dsimp only

theorem State.injectNext_keeps {s0 s : State} (h : Keeps s0 s) :
    Keeps s0 (State.injectNext s) := by
  unfold State.injectNext
  repeat' with_reducible first
    | assumption | split | dsimp only | apply Keeps.record

theorem State.faultInject_keeps {s0 s : State} (h : Keeps s0 s) (mid v) :
    Keeps s0 (State.faultInject s mid v) := by
  unfold State.faultInject
  repeat' with_reducible first
    | assumption | apply State.injectNext_keeps | apply Keeps.ite | split | dsimp only | apply Keeps.record

theorem State.injectTick_keeps {s0 s : State} (h : Keeps s0 s) :
    Keeps s0 (State.injectTick s) := by
  unfold State.injectTick
  repeat' with_reducible first
    | assumption | apply State.injectNext_keeps | apply settle_keeps | apply Keeps.ite | split

/-! ### Clock -/

theorem State.monoTick_keeps {s0 s : State} (h : Keeps s0 s) :
    Keeps s0 (State.monoTick s) := by
  unfold State.monoTick
  repeat' with_reducible first
    | assumption | apply State.gainTokens_keeps | apply State.count_keeps | apply Keeps.ite | split | dsimp only
    | apply Keeps.record

theorem State.dutyTick_keeps {s0 s : State} (h : Keeps s0 s) :
    Keeps s0 (State.dutyTick s) := by
  unfold State.dutyTick
  repeat' with_reducible first
    | assumption | apply Keeps.record

theorem State.tick_keeps {s0 s : State} (h : Keeps s0 s) : Keeps s0 s.tick := by
  unfold State.tick
  have ht := State.pwrTick_keeps (State.monoTick_keeps h)
  exact Keeps.ite (State.injectTick_keeps (State.dutyTick_keeps (State.ptpTick_keeps ht))) ht

/-! ### Keychain -/

theorem State.kcPass_keeps {s0 s : State} (h : Keeps s0 s) (l) :
    Keeps s0 (State.kcPass s l) := by
  unfold State.kcPass
  repeat' with_reducible first
    | assumption | apply State.emit_keeps | apply Keeps.ite | split

theorem State.kcRelay_keeps {s0 s : State} (h : Keeps s0 s) (gate w) :
    Keeps s0 (State.kcRelay s gate w) := by
  unfold State.kcRelay
  repeat' with_reducible first
    | assumption | apply State.emit_keeps | apply Keeps.ite | split

theorem State.kcAnswer_keeps {s0 s : State} (h : Keeps s0 s) (w addr data status) :
    Keeps s0 (State.kcAnswer s w addr data status) := by
  unfold State.kcAnswer
  repeat' with_reducible first
    | assumption | apply State.emit_keeps

theorem State.kcDiscard_keeps {s0 s : State} (h : Keeps s0 s) :
    Keeps s0 (State.kcDiscard s) := by
  unfold State.kcDiscard
  repeat' with_reducible first
    | assumption | apply State.fault_keeps | apply State.count_keeps | apply Keeps.record

theorem KcAct.close_keeps {s0 : State} {a : KcAct} (h : Keeps s0 a.s) (gate addr w) :
    Keeps s0 (a.close gate addr w) := by
  unfold KcAct.close
  extract_lets f s'
  have h' : Keeps s0 s' := Keeps.ite (State.put_keeps (State.count_keeps h _ _) _ _) h
  clear_value s'
  exact Keeps.ite (State.kcRelay_keeps h' _ _) (State.kcAnswer_keeps h' _ _ _ _)

theorem State.kcBadFrame_keeps {s0 s : State} (h : Keeps s0 s) : Keeps s0 s.kcBadFrame := by
  unfold State.kcBadFrame
  exact State.kcRelay_keeps (State.kcDiscard_keeps (State.kcPass_keeps (Keeps.record h) _)) _ _

theorem State.kcFrame_keeps {s0 s : State} (h : Keeps s0 s) (w cmd mine) {go : State → KcFrame → KcAct}
    (hk : ∀ t f, Keeps s0 t → Keeps s0 (go t f).s) : Keeps s0 (s.kcFrame w cmd mine go) := by
  unfold State.kcFrame
  extract_lets f gate s'
  have h' : Keeps s0 s' := State.kcPass_keeps h _
  clear_value s' gate
  exact Keeps.ite h (Keeps.ite h (Keeps.ite (State.kcRelay_keeps (State.kcDiscard_keeps h') _ _)
    (Keeps.ite (State.kcRelay_keeps h' _ _) (Keeps.ite (Keeps.ite (State.kcRelay_keeps h' _ _)
      (State.kcAnswer_keeps h' _ _ _ _)) (KcAct.close_keeps (hk _ _ h') _ _ _)))))

theorem State.assign_keeps {s0 s : State} (h : Keeps s0 s) (a) :
    Keeps s0 (State.assign s a) := by
  unfold State.assign
  repeat' with_reducible first
    | assumption | apply State.mapSelf_keeps | apply State.announce_keeps | apply State.put_keeps | dsimp only

theorem State.unassign_keeps {s0 s : State} (h : Keeps s0 s) :
    Keeps s0 (State.unassign s) := by
  unfold State.unassign
  repeat' with_reducible first
    | assumption | apply State.announce_keeps | apply State.cold_keeps | dsimp only

theorem State.attnCtl_keeps {s0 s : State} (h : Keeps s0 s) (arg) :
    Keeps s0 (State.attnCtl s arg) := by
  unfold State.attnCtl
  repeat' with_reducible first
    | assumption | apply State.put_keeps | apply Keeps.ite | split | dsimp only

theorem State.setWindow_keeps {s0 s : State} (h : Keeps s0 s) (w) :
    Keeps s0 (State.setWindow s w) := by
  unfold State.setWindow
  repeat' with_reducible first
    | assumption | apply Keeps.record

theorem State.winData_keeps {s0 s : State} (h : Keeps s0 s) (arg) :
    Keeps s0 (State.winData s arg) := by
  unfold State.winData
  repeat' with_reducible first
    | assumption | apply State.setWindow_keeps | apply Keeps.ite | split | apply Keeps.record

end Sys2Proof.Machine
end

