-- ==== Sys2Proof/Laws/KeepsUnit.lean ====
section
/-!
SUPPORT. What the operations of repair, trace, firmware, boot, the register map and host reads keep.
-/

namespace Sys2Proof.Machine

set_option linter.unusedTactic false
set_option linter.unreachableTactic false

/-! ### TalonCmds -/

theorem State.restartOp_keeps {s0 s : State} (h : Keeps s0 s) (tag) :
    Keeps s0 (State.restartOp s tag) := by
  unfold State.restartOp
  repeat' with_reducible first
    | assumption | apply State.stopOp_keeps | apply State.setProg_keeps | apply State.dropReads_keeps | split
    | dsimp only | apply Keeps.record

theorem State.migrateProg_keeps {s0 s : State} (h : Keeps s0 s) (tag i j) :
    Keeps s0 (State.migrateProg s tag i j) := by
  unfold State.migrateProg
  repeat' with_reducible first
    | assumption | apply State.restartOp_keeps | apply State.endProg_keeps | apply State.setProg_keeps
    | apply State.trace_keeps | apply Keeps.ite | split | dsimp only | apply Keeps.record

theorem State.migrationEnd_keeps {s0 s : State} (h : Keeps s0 s) (k) :
    Keeps s0 (State.migrationEnd s k) := by
  unfold State.migrationEnd
  repeat' with_reducible first
    | intro _ | assumption | apply State.migrateProg_keeps | apply State.retireSe_keeps | apply State.jrnlWrite_keeps
    | apply State.setTln_keeps | apply State.flag_keeps | apply Keeps.foldl | apply Keeps.foldl_fst | split
    | dsimp only | apply Keeps.record

theorem State.uncorrRead_keeps {s0 s : State} (h : Keeps s0 s) (a) : Keeps s0 (s.uncorrRead a) := by
  unfold State.uncorrRead
  repeat' with_reducible first
    | assumption | apply State.fault_keeps | apply Keeps.mark | split

theorem State.copyRead_keeps {s0 s : State} (h : Keeps s0 s) (a) :
    Keeps s0 (State.copyRead s a) := by
  unfold State.copyRead
  repeat' with_reducible first
    | assumption | apply State.uncorrRead_keeps | apply Keeps.ite | split | dsimp only | apply Keeps.record

theorem State.copyWords_keeps {s0 s : State} (h : Keeps s0 s) (words) :
    Keeps s0 (State.copyWords s words) := by
  unfold State.copyWords
  repeat' with_reducible first
    | intro _ | assumption | apply State.copyRead_keeps | apply State.uncorrRead_keeps | apply Keeps.foldl
    | apply Keeps.foldl_fst | dsimp only

theorem State.spareFails_keeps {s0 s : State} (h : Keeps s0 s) (key) :
    Keeps s0 (State.spareFails s key) := by
  unfold State.spareFails
  repeat' with_reducible first
    | assumption | apply State.tlnRaise_keeps | apply State.setTln_keeps | apply Keeps.record

theorem State.rowToBank_keeps {s0 s : State} (h : Keeps s0 s) (row) :
    Keeps s0 (State.rowToBank s row).1 := by
  unfold State.rowToBank
  repeat' with_reducible first
    | assumption | apply State.queueBank_keeps | apply Keeps.ite | apply Keeps.fst_ite | split | dsimp only

theorem State.repairRow_keeps {s0 s : State} (h : Keeps s0 s) (f row fuel n l) :
    Keeps s0 (State.repairRow f row fuel s n l).1 := by
  induction fuel generalizing s with
  | zero => exact h
  | succ fuel ih =>
    unfold State.repairRow
    repeat' with_reducible first
      | assumption | apply ih | apply State.jrnlWrite_keeps | apply State.setTln_keeps | apply State.spareFails_keeps
      | apply State.rowToBank_keeps | apply Keeps.fst_ite | split | dsimp only

theorem State.repairRows_keeps {s0 s : State} (h : Keeps s0 s) (f rows n l) :
    Keeps s0 (State.repairRows f rows s n l).1 := by
  induction rows generalizing s n l with
  | nil => exact h
  | cons x r ih => exact ih (State.repairRow_keeps h _ _ _ _ _) _ _

theorem State.repairBank_keeps {s0 s : State} (h : Keeps s0 s) (f) :
    Keeps s0 (State.repairBank s f).1 := by
  unfold State.repairBank
  repeat' with_reducible first
    | assumption | apply State.jrnlWrite_keeps | apply State.tlnRaise_keeps | apply State.setTln_keeps
    | apply Keeps.ite | apply Keeps.fst_ite | split | dsimp only | apply Keeps.record

theorem State.repairStart_keeps {s0 s : State} (h : Keeps s0 s) (mid) :
    Keeps s0 (State.repairStart s mid) := by
  unfold State.repairStart
  repeat' with_reducible first
    | assumption | apply State.put_keeps | apply Keeps.ite | split

theorem State.repairEnd_keeps {s0 s : State} (h : Keeps s0 s) (f) :
    Keeps s0 (State.repairEnd s f) := by
  unfold State.repairEnd
  repeat' with_reducible first
    | assumption | apply State.repairBank_keeps | apply State.repairRows_keeps | apply State.copyWords_keeps
    | apply State.fwReply_keeps | apply settle_keeps | apply State.tlnRaise_keeps | apply State.setTln_keeps
    | apply State.put_keeps | apply Keeps.ite | apply Keeps.fst_ite | split | dsimp only | apply Keeps.record

theorem State.retireRequest_keeps {s0 s : State} (h : Keeps s0 s) (mid i) :
    Keeps s0 (State.retireRequest s mid i) := by
  unfold State.retireRequest
  repeat' with_reducible first
    | assumption | apply State.retireSe_keeps | apply Keeps.ite | apply Keeps.fst_ite | split | dsimp only

theorem State.clearLane_keeps {s0 s : State} (h : Keeps s0 s) (mid p) :
    Keeps s0 (State.clearLane s mid p) := by
  unfold State.clearLane
  repeat' with_reducible first
    | assumption | apply State.jrnlWrite_keeps | apply State.setTln_keeps | apply Keeps.ite | split

theorem State.tlnCmdWrite_keeps {s0 s : State} (h : Keeps s0 s) (mid v) :
    Keeps s0 (State.tlnCmdWrite s mid v) := by
  unfold State.tlnCmdWrite
  repeat' with_reducible first
    | assumption | apply State.clearLane_keeps | apply State.retireRequest_keeps | apply State.repairStart_keeps
    | apply Keeps.ite | split | dsimp only

theorem State.rowRequest_keeps {s0 s : State} (h : Keeps s0 s) (mid v) :
    Keeps s0 (State.rowRequest s mid v) := by
  unfold State.rowRequest
  repeat' with_reducible first
    | assumption | apply State.queueRow_keeps | apply Keeps.ite | apply Keeps.fst_ite | split | dsimp only

theorem State.scbRaise_keeps {s0 s : State} (h : Keeps s0 s) (bit) :
    Keeps s0 (State.scbRaise s bit) := by
  unfold State.scbRaise
  repeat' with_reducible first
    | assumption | apply State.raise_keeps

theorem State.scrubUsed_keeps {s0 s : State} (h : Keeps s0 s) (a x2) :
    Keeps s0 (State.scrubUsed s a x2) := by
  unfold State.scrubUsed
  repeat' with_reducible first
    | assumption | apply State.scbRaise_keeps | apply State.uncorrRead_keeps | apply State.fault_keeps
    | apply State.count_keeps | apply Keeps.ite | split | dsimp only | apply Keeps.record

theorem State.scrubFree_keeps {s0 s : State} (h : Keeps s0 s) (key x2) :
    Keeps s0 (State.scrubFree s key x2).1 := by
  unfold State.scrubFree
  repeat' with_reducible first
    | assumption | apply State.setTln_keeps | split | dsimp only | apply Keeps.record

theorem State.scrubAt_keeps {s0 s : State} (h : Keeps s0 s) (bank pos c) :
    Keeps s0 (State.scrubAt s bank pos c) := by
  unfold State.scrubAt
  repeat' with_reducible first
    | assumption | apply State.scrubFree_keeps | apply State.scrubUsed_keeps | apply State.scbRaise_keeps
    | apply State.setTln_keeps | apply Keeps.ite | apply Keeps.fst_ite | split | dsimp only | apply Keeps.record

theorem State.scbNext_keeps {s0 s : State} (h : Keeps s0 s) (bank pos) :
    Keeps s0 (State.scbNext s bank pos) := by
  unfold State.scbNext
  repeat' with_reducible first
    | intro _ | assumption | apply State.scbRaise_keeps | apply State.count_keeps | apply State.put_keeps
    | apply Keeps.ite | split | dsimp only

theorem State.scrub_keeps {s0 s : State} (h : Keeps s0 s) (c starved) :
    Keeps s0 (State.scrub s c starved) := by
  unfold State.scrub
  repeat' with_reducible first
    | assumption | apply State.scbNext_keeps | apply State.scrubAt_keeps | apply State.scbRaise_keeps
    | apply Keeps.ite | split | dsimp only

theorem State.spareTest_keeps {s0 s : State} (h : Keeps s0 s) (i failed) :
    Keeps s0 (State.spareTest s i failed) := by
  unfold State.spareTest
  repeat' with_reducible first
    | assumption | apply State.fault_keeps | apply Keeps.ite | split | apply Keeps.record

/-! ### TraceCmds -/

theorem State.trcRaise_keeps {s0 s : State} (h : Keeps s0 s) (bit) :
    Keeps s0 (State.trcRaise s bit) := by
  unfold State.trcRaise
  repeat' with_reducible first
    | assumption | apply State.raise_keeps

theorem State.markDone_keeps {s0 s : State} (h : Keeps s0 s) (entry) :
    Keeps s0 (State.markDone s entry) := by
  unfold State.markDone
  repeat' with_reducible first
    | assumption | apply State.endOp_keeps | apply Keeps.ite | split | dsimp only

theorem State.sinkLost_keeps {s0 s : State} (h : Keeps s0 s) :
    Keeps s0 (State.sinkLost s) := by
  unfold State.sinkLost
  repeat' with_reducible first
    | assumption | apply State.trcRaise_keeps | apply State.count_keeps | apply Keeps.ite | split | apply Keeps.record

theorem State.trcStore_keeps {s0 s : State} (h : Keeps s0 s) (entry) :
    Keeps s0 (State.trcStore s entry) := by
  unfold State.trcStore
  repeat' with_reducible first
    | assumption | apply State.sinkLost_keeps | apply State.trcRaise_keeps | apply State.count_keeps
    | apply State.put_keeps | apply Keeps.ite | split | dsimp only | apply Keeps.record

theorem State.traceWrite_keeps {s0 s : State} (h : Keeps s0 s) :
    Keeps s0 (State.traceWrite s) := by
  unfold State.traceWrite
  repeat' with_reducible first
    | assumption | apply State.trcStore_keeps | apply State.markDone_keeps | apply State.count_keeps | apply Keeps.ite
    | apply Keeps.fst_ite | split | dsimp only | apply Keeps.record

theorem State.trcClearWrite_keeps {s0 s : State} (h : Keeps s0 s) (mid v) :
    Keeps s0 (State.trcClearWrite s mid v) := by
  unfold State.trcClearWrite
  repeat' with_reducible first
    | assumption | apply State.put_keeps | apply Keeps.ite | split | apply Keeps.record

theorem State.hostMark_keeps {s0 s : State} (h : Keeps s0 s) (mid v) :
    Keeps s0 (State.hostMark s mid v) := by
  unfold State.hostMark
  repeat' with_reducible first
    | assumption | apply State.trace_keeps | apply Keeps.ite | split | apply Keeps.record

theorem State.sinkCopy_keeps {s0 s : State} (h : Keeps s0 s) (uncorr) :
    Keeps s0 (State.sinkCopy s uncorr) := by
  unfold State.sinkCopy
  repeat' with_reducible first
    | assumption | apply State.trcRaise_keeps | apply State.dataWrite_keeps | apply State.put_keeps | apply Keeps.ite
    | split | dsimp only | apply Keeps.record

theorem State.tapLoad_keeps {s0 s : State} (h : Keeps s0 s) (i) :
    Keeps s0 (State.tapLoad s i) := by
  unfold State.tapLoad
  repeat' with_reducible first
    | intro _ | assumption | apply State.parkNow_keeps | apply State.put_keeps | apply Keeps.ite | apply Keeps.foldl
    | split | dsimp only | apply Keeps.record

theorem State.lcReqWrite_keeps {s0 s : State} (h : Keeps s0 s) (w v) : Keeps s0 (s.lcReqWrite w v) := by
  unfold State.lcReqWrite
  split
  · exact State.accessRefused_keeps h _ _
  · exact Keeps.flash (State.put_keeps (State.put_keeps h _ _) _ _) rfl rfl rfl rfl

/-! ### Firmware -/

theorem State.fwTake_keeps {s0 s : State} (h : Keeps s0 s) (r) :
    Keeps s0 (State.fwTake s r) := by
  unfold State.fwTake
  repeat' with_reducible first
    | intro _ | assumption | apply State.mailboxDrop_keeps | apply Keeps.ite | split | dsimp only | apply Keeps.record

theorem State.answer_keeps {s0 s : State} (h : Keeps s0 s) (r status ws) :
    Keeps s0 (State.answer s r status ws) := by
  unfold State.answer
  repeat' with_reducible first
    | assumption | apply State.fwReply_keeps

theorem State.fwServe_keeps {s0 s : State} (h : Keeps s0 s) (via code f) (hk : ∀ r t, Keeps s0 t → Keeps s0 (f r t)) :
    Keeps s0 (State.fwServe s via code f) := by
  unfold State.fwServe
  repeat' with_reducible first
    | intro _ | assumption | apply hk | apply State.answer_keeps | apply State.fwTake_keeps | apply Keeps.ite | split
    | dsimp only

theorem State.fwUnknown_keeps {s0 s : State} (h : Keeps s0 s) (via) :
    Keeps s0 (State.fwUnknown s via) := by
  unfold State.fwUnknown
  repeat' with_reducible first
    | assumption | apply State.answer_keeps | apply State.fwTake_keeps | apply Keeps.ite | split | dsimp only

theorem State.fwIgnores_keeps {s0 s : State} (h : Keeps s0 s) (c) :
    Keeps s0 (State.fwIgnores s c) := by
  unfold State.fwIgnores
  repeat' with_reducible first
    | assumption | apply State.mailboxDrop_keeps | apply Keeps.ite | split | dsimp only

theorem State.fwRead_keeps {s0 s : State} (h : Keeps s0 s) (x addr len) :
    Keeps s0 (State.fwRead s x addr len) := by
  unfold State.fwRead
  repeat' with_reducible first
    | assumption | apply State.hostRead_keeps | dsimp only | apply Keeps.record

theorem State.fwTables_keeps {s0 s : State} (h : Keeps s0 s) (r need addr) :
    Keeps s0 (State.fwTables s r need addr) := by
  unfold State.fwTables
  repeat' with_reducible first
    | assumption | apply State.fwRead_keeps | apply Keeps.record

theorem State.paramPut_keeps {s0 s : State} (h : Keeps s0 s) (id v) : Keeps s0 (s.paramPut id v) := by
  unfold State.paramPut
  iterate 7 refine Keeps.ite (State.put_keeps h _ _) ?_
  exact Keeps.ite (Keeps.record h) (Keeps.ite (State.srcCfgWrite_keeps h _ _ _) (Keeps.ite h
    (State.writeFlds_keeps h _ _ _)))

theorem State.cpFlash_keeps {s0 s : State} (h : Keeps s0 s) (addr) :
    Keeps s0 (State.cpFlash s addr).1 := by
  unfold State.cpFlash
  repeat' with_reducible first
    | assumption | apply State.flashOp_keeps | apply State.fault_keeps | apply Keeps.ite | apply Keeps.fst_ite | split
    | dsimp only | apply Keeps.record

theorem State.freeBody_keeps {s0 s : State} (h : Keeps s0 s) :
    Keeps s0 (State.freeBody s).1 := by
  unfold State.freeBody
  repeat' with_reducible first
    | assumption | apply State.drawFree_keeps | dsimp only

theorem State.fwNote_keeps {s0 s : State} (h : Keeps s0 s) (type) :
    Keeps s0 (State.fwNote s type) := by
  unfold State.fwNote
  repeat' with_reducible first
    | assumption | apply State.freeBody_keeps | apply State.fwRecord_keeps | dsimp only

theorem FwReq.paramGet_keeps {s0 s : State} (h : Keeps s0 s) (r) :
    Keeps s0 (FwReq.paramGet r s) := by
  unfold FwReq.paramGet
  repeat' with_reducible first
    | assumption | apply State.answer_keeps | split | dsimp only

theorem FwReq.paramApply_keeps {s0 s : State} (h : Keeps s0 s) (r) : Keeps s0 (FwReq.paramApply r s) := by
  have hn : Keeps s0 (if r.w 4 = 1 then
      { s with nv := { s.nv with params := tset s.nv.params (r.w 1) (r.w64 2) } } else s) := by
    split
    · exact Keeps.flash h rfl rfl rfl rfl
    · exact h
  have hp := State.paramPut_keeps hn (r.w 1) (r.w64 2)
  unfold FwReq.paramApply
  exact State.answer_keeps (Keeps.ite (State.fwNote_keeps hp _) hp) _ _ _

theorem FwReq.paramSet_keeps {s0 s : State} (h : Keeps s0 s) (r) :
    Keeps s0 (FwReq.paramSet r s) := by
  unfold FwReq.paramSet
  repeat' with_reducible first
    | assumption | apply FwReq.paramApply_keeps | apply State.cpFlash_keeps | apply State.answer_keeps
    | apply Keeps.ite | apply Keeps.fst_ite | split | dsimp only

theorem FwReq.unitInfo_keeps {s0 s : State} (h : Keeps s0 s) (r) :
    Keeps s0 (FwReq.unitInfo r s) := by
  unfold FwReq.unitInfo
  repeat' with_reducible first
    | assumption | apply State.answer_keeps

theorem FwReq.pwrSet_keeps {s0 s : State} (h : Keeps s0 s) (r) :
    Keeps s0 (FwReq.pwrSet r s) := by
  unfold FwReq.pwrSet
  repeat' with_reducible first
    | assumption | apply State.answer_keeps | apply State.pwrRequest_keeps | dsimp only

theorem FwReq.faultCfg_keeps {s0 s : State} (h : Keeps s0 s) (r) : Keeps s0 (FwReq.faultCfg r s) := by
  unfold FwReq.faultCfg
  exact Keeps.ite (State.answer_keeps h _ _ _) (State.answer_keeps (State.srcCfgWrite_keeps h _ _ _) _ _ _)

/-! ### FwCmds -/

theorem FwReq.sqCreate_keeps {s0 s : State} (h : Keeps s0 s) (r) :
    Keeps s0 (FwReq.sqCreate r s) := by
  unfold FwReq.sqCreate
  repeat' with_reducible first
    | assumption | apply State.answer_keeps | apply State.traceSq_keeps | apply State.setSq_keeps
    | apply State.put_keeps | apply Keeps.ite | split | dsimp only | apply Keeps.record

theorem FwReq.sqShutdown_keeps {s0 s : State} (h : Keeps s0 s) (r) :
    Keeps s0 (FwReq.sqShutdown r s) := by
  unfold FwReq.sqShutdown
  repeat' with_reducible first
    | intro _ | assumption | apply State.answer_keeps | apply State.shutdown_keeps | apply Keeps.ite | split
    | dsimp only

theorem FwReq.sqRestart_keeps {s0 s : State} (h : Keeps s0 s) (r) :
    Keeps s0 (FwReq.sqRestart r s) := by
  unfold FwReq.sqRestart
  repeat' with_reducible first
    | assumption | apply State.answer_keeps | apply State.sqTo_keeps | apply State.setSq_keeps | apply Keeps.ite
    | split | dsimp only | apply Keeps.record

theorem FwReq.sqDestroy_keeps {s0 s : State} (h : Keeps s0 s) (r) :
    Keeps s0 (FwReq.sqDestroy r s) := by
  unfold FwReq.sqDestroy
  repeat' with_reducible first
    | assumption | apply State.answer_keeps | apply State.shutdownDone_keeps | apply State.shutdown_keeps
    | apply State.setSq_keeps | apply Keeps.ite | split | dsimp only | apply Keeps.record

theorem FwReq.crCreate_keeps {s0 s : State} (h : Keeps s0 s) (r) :
    Keeps s0 (FwReq.crCreate r s) := by
  unfold FwReq.crCreate
  repeat' with_reducible first
    | assumption | apply State.answer_keeps | apply State.setRing_keeps | apply State.cold_keeps | apply Keeps.ite
    | split | dsimp only | apply Keeps.record

theorem FwReq.crDestroy_keeps {s0 s : State} (h : Keeps s0 s) (r) :
    Keeps s0 (FwReq.crDestroy r s) := by
  unfold FwReq.crDestroy
  repeat' with_reducible first
    | intro _ | assumption | apply State.answer_keeps | apply State.setRing_keeps | apply State.setFn_keeps
    | apply Keeps.ite | apply Keeps.fst_ite | split | dsimp only

theorem FwReq.prgResume_keeps {s0 s : State} (h : Keeps s0 s) (r) :
    Keeps s0 (FwReq.prgResume r s) := by
  unfold FwReq.prgResume
  repeat' with_reducible first
    | assumption | apply State.answer_keeps | apply State.reready_keeps | apply State.resume_keeps | apply Keeps.ite
    | split | dsimp only

theorem State.grtStore_keeps {s0 s : State} (h : Keeps s0 s) (e data k) :
    Keeps s0 (State.grtStore s e data k) := by
  unfold State.grtStore
  repeat' with_reducible first
    | assumption | apply State.grtWrite_keeps | dsimp only | apply Keeps.record

theorem FwReq.grtLoad_keeps {s0 s : State} (h : Keeps s0 s) (r) :
    Keeps s0 (FwReq.grtLoad r s) := by
  unfold FwReq.grtLoad
  repeat' with_reducible first
    | assumption | apply State.fwTables_keeps | apply State.answer_keeps | apply Keeps.ite | split | dsimp only

theorem FwReq.grtLoaded_keeps {s0 s : State} (h : Keeps s0 s) (r d) :
    Keeps s0 (FwReq.grtLoaded r d s) := by
  unfold FwReq.grtLoaded
  repeat' with_reducible first
    | intro _ | assumption | apply State.grtStore_keeps | apply State.answer_keeps | apply Keeps.foldl | split
    | dsimp only

theorem FwReq.grtEnable_keeps {s0 s : State} (h : Keeps s0 s) (r) :
    Keeps s0 (FwReq.grtEnable r s) := by
  unfold FwReq.grtEnable
  repeat' with_reducible first
    | intro _ | assumption | apply State.answer_keeps | apply State.grtWrite_keeps | apply Keeps.ite
    | apply Keeps.foldl | split | dsimp only | apply Keeps.record

theorem FwReq.timeSet_keeps {s0 s : State} (h : Keeps s0 s) (r) :
    Keeps s0 (FwReq.timeSet r s) := by
  unfold FwReq.timeSet
  repeat' with_reducible first
    | assumption | apply State.answer_keeps | apply State.fwRecord_keeps | apply State.setLdg_keeps | apply Keeps.ite
    | split | dsimp only | apply Keeps.record

theorem FwReq.ldgSeal_keeps {s0 s : State} (h : Keeps s0 s) (r) :
    Keeps s0 (FwReq.ldgSeal r s) := by
  unfold FwReq.ldgSeal
  repeat' with_reducible first
    | assumption | apply State.answer_keeps | apply State.ldgSealReq_keeps | apply State.setLdg_keeps
    | apply Keeps.ite | split | apply Keeps.record

theorem FwReq.ldgStatus_keeps {s0 s : State} (h : Keeps s0 s) (r) :
    Keeps s0 (FwReq.ldgStatus r s) := by
  unfold FwReq.ldgStatus
  repeat' with_reducible first
    | assumption | apply State.answer_keeps

theorem FwReq.ldgExport_keeps {s0 s : State} (h : Keeps s0 s) (r) :
    Keeps s0 (FwReq.ldgExport r s) := by
  unfold FwReq.ldgExport
  repeat' with_reducible first
    | assumption | apply State.fwTables_keeps | apply State.answer_keeps | apply Keeps.ite | split | dsimp only

theorem FwReq.ldgExported_keeps {s0 s : State} (h : Keeps s0 s) (r area) :
    Keeps s0 (FwReq.ldgExported r area s) := by
  unfold FwReq.ldgExported
  repeat' with_reducible first
    | intro _ | assumption | apply State.answer_keeps | apply State.exportedWrite_keeps | apply State.dataWrite_keeps
    | apply State.flashRead_keeps | apply State.drawFree_keeps | apply Keeps.ite | apply Keeps.fst_ite
    | apply Keeps.foldl | apply Keeps.foldl_fst | split | dsimp only

theorem FwReq.pairBind_keeps {s0 s : State} (h : Keeps s0 s) (r) :
    Keeps s0 (FwReq.pairBind r s) := by
  unfold FwReq.pairBind
  repeat' with_reducible first
    | assumption | apply State.answer_keeps | apply State.pairSend_keeps | apply State.setLdg_keeps | split
    | dsimp only | apply Keeps.record

theorem State.bindExpired_keeps {s0 s : State} (h : Keeps s0 s) :
    Keeps s0 (State.bindExpired s) := by
  unfold State.bindExpired
  repeat' with_reducible first
    | assumption | apply State.setLdg_keeps | apply State.fwReply_keeps | split | dsimp only | apply Keeps.record

theorem FwReq.pairUnbind_keeps {s0 s : State} (h : Keeps s0 s) (r) :
    Keeps s0 (FwReq.pairUnbind r s) := by
  unfold FwReq.pairUnbind
  repeat' with_reducible first
    | assumption | apply State.answer_keeps | apply State.unbind_keeps | apply State.pairSend_keeps | apply Keeps.ite
    | split | dsimp only

theorem FwReq.takeover_keeps {s0 s : State} (h : Keeps s0 s) (r) :
    Keeps s0 (FwReq.takeover r s) := by
  unfold FwReq.takeover
  repeat' with_reducible first
    | assumption | apply State.answer_keeps | apply State.takeover_keeps | apply Keeps.ite | split

theorem State.handOver_keeps {s0 s : State} (h : Keeps s0 s) (a) :
    Keeps s0 (State.handOver s a) := by
  unfold State.handOver
  repeat' with_reducible first
    | assumption | apply State.closeEpoch_keeps | apply State.refuseDue_keeps | apply State.putHw_keeps
    | apply State.setLdg_keeps | dsimp only | apply Keeps.record

theorem FwReq.handover_keeps {s0 s : State} (h : Keeps s0 s) (r) : Keeps s0 (FwReq.handover r s) := by
  unfold FwReq.handover
  split
  · exact State.answer_keeps h _ _ _
  · split
    · exact State.answer_keeps h _ _ _
    · rename_i hu
      exact State.handOver_keeps (State.ldgRoom_keeps (State.closeEpoch_keeps h) _ hu) _

theorem State.handoverExpired_keeps {s0 s : State} (h : Keeps s0 s) :
    Keeps s0 (State.handoverExpired s) := by
  unfold State.handoverExpired
  repeat' with_reducible first
    | assumption | apply State.setLdg_keeps | apply State.fwReply_keeps | split | dsimp only | apply Keeps.record

theorem FwReq.repairPoint_keeps {s0 s : State} (h : Keeps s0 s) (r) :
    Keeps s0 (FwReq.repairPoint r s) := by
  unfold FwReq.repairPoint
  repeat' with_reducible first
    | assumption | apply State.answer_keeps | apply State.repairStart_keeps | apply State.setTln_keeps
    | apply Keeps.ite | split | dsimp only | apply Keeps.record

/-! ### Images -/

theorem State.recWrite_keeps {s0 s : State} (h : Keeps s0 s) (r) : Keeps s0 (s.recWrite r).1 := by
  unfold State.recWrite
  refine Keeps.flash (State.cpFlash_keeps h _) ?_ ?_ ?_ ?_ <;> (repeat' split) <;> rfl

theorem State.bankPut_keeps {s0 s : State} (h : Keeps s0 s) (b k) : Keeps s0 { s with nv := s.nv.setBank b k } :=
  Keeps.flash h (by unfold Nv.setBank; split <;> rfl) (by unfold Nv.setBank; split <;> rfl)
    (by unfold Nv.setBank; split <;> rfl) (by unfold Nv.setBank; split <;> rfl)

theorem FwReq.imgQuery_keeps {s0 s : State} (h : Keeps s0 s) (r) :
    Keeps s0 (FwReq.imgQuery r s) := by
  unfold FwReq.imgQuery
  repeat' with_reducible first
    | assumption | apply State.answer_keeps | apply Keeps.ite | split | dsimp only

theorem FwReq.imgOpen_keeps {s0 s : State} (h : Keeps s0 s) (r b hd) : Keeps s0 (FwReq.imgOpen r b hd s) := by
  unfold FwReq.imgOpen
  extract_lets q w e src t
  have hw : Keeps s0 w.1 := State.recWrite_keeps h _
  have he : Keeps s0 e.1 := State.cpFlash_keeps hw _
  have ht : Keeps s0 t := State.bankPut_keeps he b {}
  clear_value t e w
  exact Keeps.ite (State.answer_keeps hw _ _ _) (Keeps.ite (State.answer_keeps ht _ _ _)
    (State.answer_keeps (Keeps.record ht) _ _ _))

theorem FwReq.imgBegin_keeps {s0 s : State} (h : Keeps s0 s) (r) :
    Keeps s0 (FwReq.imgBegin r s) := by
  unfold FwReq.imgBegin
  repeat' with_reducible first
    | assumption | apply State.fwRead_keeps | apply State.answer_keeps | apply Keeps.ite | split | apply Keeps.record

theorem FwReq.imgBegun_keeps {s0 s : State} (h : Keeps s0 s) (r hd) :
    Keeps s0 (FwReq.imgBegun r hd s) := by
  unfold FwReq.imgBegun
  repeat' with_reducible first
    | assumption | apply FwReq.imgOpen_keeps | apply State.answer_keeps | apply Keeps.ite | split | dsimp only

theorem FwReq.imgChunk_keeps {s0 s : State} (h : Keeps s0 s) (r) : Keeps s0 (FwReq.imgChunk r s) := by
  unfold FwReq.imgChunk
  exact Keeps.ite (State.answer_keeps h _ _ _) (State.fwTables_keeps h _ _ _)

theorem FwReq.imgChunked_keeps {s0 s : State} (h : Keeps s0 s) (r d) : Keeps s0 (FwReq.imgChunked r d s) := by
  unfold FwReq.imgChunked
  extract_lets b off
  split
  · exact State.answer_keeps h _ _ _
  · have hf := State.cpFlash_keeps h (bankAddr b + 0x1000 + off)
    exact Keeps.ite (State.answer_keeps h _ _ _) (Keeps.ite (State.answer_keeps hf _ _ _)
      (State.answer_keeps (Keeps.record (State.bankPut_keeps hf _ _)) _ _ _))

theorem FwReq.imgStage_keeps {s0 s : State} (h : Keeps s0 s) (r x) : Keeps s0 (FwReq.imgStage r x s) := by
  unfold FwReq.imgStage
  extract_lets f src src2 t w
  have hf : Keeps s0 f.1 := State.cpFlash_keeps h _
  have ht : Keeps s0 t := State.bankPut_keeps hf _ _
  have hw : Keeps s0 w.1 := State.recWrite_keeps ht _
  clear_value w t f
  exact Keeps.ite (State.answer_keeps hf _ _ _) (Keeps.ite (State.answer_keeps hw _ _ _)
    (State.answer_keeps (Keeps.record hw) _ _ _))

theorem FwReq.imgEnd_keeps {s0 s : State} (h : Keeps s0 s) (r) : Keeps s0 (FwReq.imgEnd r s) := by
  unfold FwReq.imgEnd
  repeat' with_reducible first
    | exact State.answer_keeps h _ _ _ | exact FwReq.imgStage_keeps h _ _ | apply Keeps.ite | split | dsimp only

theorem FwReq.imgRecord_keeps {s0 s : State} (h : Keeps s0 s) (r b) :
    Keeps s0 (FwReq.imgRecord r b s) := by
  unfold FwReq.imgRecord
  repeat' with_reducible first
    | assumption | apply State.recWrite_keeps | apply State.answer_keeps | apply Keeps.ite | apply Keeps.fst_ite
    | split | dsimp only

theorem FwReq.imgActivate_keeps {s0 s : State} (h : Keeps s0 s) (r) :
    Keeps s0 (FwReq.imgActivate r s) := by
  unfold FwReq.imgActivate
  repeat' with_reducible first
    | assumption | apply FwReq.imgRecord_keeps | apply State.answer_keeps | apply Keeps.ite | split | dsimp only
    | apply Keeps.record

theorem FwReq.imgRestart_keeps {s0 s : State} (h : Keeps s0 s) (r) : Keeps s0 (FwReq.imgRestart r s) := by
  unfold FwReq.imgRestart
  have ha := fun c l => State.answer_keeps h r c l
  exact Keeps.ite (ha _ _) (Keeps.ite (ha _ _)
    (State.askReset_keeps (Keeps.ite (State.ldgSealReq_keeps (ha _ _)) (ha _ _)) _))

theorem FwReq.imgConfirm_keeps {s0 s : State} (h : Keeps s0 s) (r) :
    Keeps s0 (FwReq.imgConfirm r s) := by
  unfold FwReq.imgConfirm
  repeat' with_reducible first
    | assumption | apply State.recWrite_keeps | apply State.answer_keeps | apply State.put_keeps | apply Keeps.ite
    | apply Keeps.fst_ite | split | dsimp only | apply Keeps.record

theorem FwReq.imgRevert_keeps {s0 s : State} (h : Keeps s0 s) (r) : Keeps s0 (FwReq.imgRevert r s) := by
  unfold FwReq.imgRevert
  have ha := fun c l => State.answer_keeps h r c l
  extract_lets b src w
  have hw : Keeps s0 w.1 := State.recWrite_keeps h _
  clear_value w
  exact Keeps.ite (ha _ _) (Keeps.ite (ha _ _) (Keeps.ite (ha _ _) (Keeps.ite (State.answer_keeps hw _ _ _)
    (State.askReset_keeps (State.answer_keeps (State.put_keeps hw _ _) _ _ _) _))))

/-! ### Boot -/

theorem State.releaseMark_keeps {s0 s : State} (h : Keeps s0 s) :
    Keeps s0 (State.releaseMark s) := by
  unfold State.releaseMark
  repeat' with_reducible first
    | assumption | apply State.pwrRaise_keeps | apply State.traceStart_keeps | apply State.trace_keeps
    | apply Keeps.ite | split | apply Keeps.record

theorem State.lcPerform_keeps {s0 s : State} (h : Keeps s0 s) : Keeps s0 s.lcPerform := by
  have hkill : ∀ t : State, Keeps s0 t → Keeps s0 (if t.nv.lifecycle = 3 then
      { t with nv := { t.nv with kLdgKilled := true } } else t) := by
    intro t ht
    split
    · exact ht.trans ⟨rfl, id, id, ⟨Nat.le_refl _, Nat.le_refl _, fun _ => rfl, fun _ x hx => ⟨x, hx⟩⟩⟩
    · exact ht
  unfold State.lcPerform
  apply hkill
  split
  · exact h
  · rename_i q hq
    have hu := State.put_keeps (State.put_keeps h R.GLB_LC_STATUS_pending 0) R.GLB_LC_STATUS_result (s.nv.lcResult q)
    refine hu.trans ⟨rfl, id, id, ⟨Nat.le_refl _, ?_, id, fun _ x hx => ⟨x, hx⟩⟩⟩
    have hn : ((s.put R.GLB_LC_STATUS_pending 0).put R.GLB_LC_STATUS_result (s.nv.lcResult q)).nv = s.nv := rfl
    dsimp only
    rw [hn]
    split
    · rename_i hr
      unfold Nv.lcResult at hr
      split at hr
      · rename_i hc
        simp only [Bool.and_eq_true, decide_eq_true_eq] at hc
        omega
      · split at hr
        · rename_i hc
          simp only [Bool.or_eq_true, Bool.and_eq_true, decide_eq_true_eq] at hc
          omega
        · omega
    · exact Nat.le_refl _

theorem State.replayOne_keeps {s0 s : State} (h : Keeps s0 s) (b later) :
    Keeps s0 (State.replayOne s b later) := by
  unfold State.replayOne
  repeat' with_reducible first
    | assumption | apply State.setTln_keeps | apply Keeps.ite | split | dsimp only | apply Keeps.record

theorem State.jrnlRead_keeps {s0 s : State} (h : Keeps s0 s) (e) :
    Keeps s0 (State.jrnlRead s e).1 := by
  unfold State.jrnlRead
  repeat' with_reducible first
    | assumption | apply State.flashRead_keeps | apply Keeps.ite | apply Keeps.fst_ite | split | dsimp only

theorem State.replay_keeps {s0 s : State} (h : Keeps s0 s) (l) : Keeps s0 (State.replay l s) := by
  induction l generalizing s with
  | nil => exact h
  | cons e r ih =>
    unfold State.replay
    dsimp only
    split
    · exact ih (State.replayOne_keeps (State.jrnlRead_keeps h _) _ _)
    · exact ih (State.tlnRaise_keeps (State.jrnlRead_keeps h _) _)

theorem State.assignSes_keeps {s0 s : State} (h : Keeps s0 s) :
    Keeps s0 (State.assignSes s) := by
  unfold State.assignSes
  repeat' with_reducible first
    | intro _ | assumption | apply Keeps.foldl | dsimp only | apply Keeps.record

theorem State.restore_keeps {s0 s : State} (h : Keeps s0 s) : Keeps s0 s.restore := by
  unfold State.restore
  split
  · exact h
  · dsimp only
    split
    · exact State.put_keeps h _ _
    · refine Keeps.flash ?_ rfl rfl rfl rfl
      repeat' with_reducible first
        | assumption | apply State.put_keeps | apply State.flag_keeps

theorem State.bootRaise_keeps {s0 s : State} (h : Keeps s0 s) (bit) :
    Keeps s0 (State.bootRaise s bit) := by
  unfold State.bootRaise
  repeat' with_reducible first
    | assumption | apply State.raiseF_keeps | apply State.raise_keeps | apply Keeps.ite | split

theorem State.rejected_keeps {s0 s : State} (h : Keeps s0 s) (b reason) :
    Keeps s0 (State.rejected s b reason) := by
  unfold State.rejected
  repeat' with_reducible first
    | assumption | apply State.put_keeps | apply Keeps.ite | split

theorem State.candidates_keeps {s0 s : State} (h : Keeps s0 s) (r) :
    Keeps s0 (State.candidates s r).1 := by
  unfold State.candidates
  repeat' with_reducible first
    | assumption | apply State.rejected_keeps | apply State.recWrite_keeps | apply Keeps.ite | apply Keeps.fst_ite
    | split | dsimp only | apply Keeps.record

theorem State.bankRead_keeps {s0 s : State} (h : Keeps s0 s) (b reason) :
    Keeps s0 (State.bankRead s b reason) := by
  unfold State.bankRead
  repeat' with_reducible first
    | assumption | apply State.fault_keeps | apply Keeps.ite | split | apply Keeps.record

theorem State.readRecs_keeps {s0 s : State} (h : Keeps s0 s) : Keeps s0 s.readRecs := by
  unfold State.readRecs
  exact Keeps.flash (State.flashRead_keeps (State.flashRead_keeps h _) _) rfl rfl rfl rfl

theorem State.tryBanks_keeps {s0 s : State} (h : Keeps s0 s) (badA badB l r) :
    Keeps s0 (State.tryBanks badA badB l s r).1 := by
  induction l generalizing s r with
  | nil => exact h
  | cons b l ih =>
    unfold State.tryBanks
    split
    · exact ih (State.rejected_keeps h _ _) _
    · split
      · exact h
      · exact ih (State.recWrite_keeps (State.rejected_keeps (State.bankRead_keeps h _ _) _ _) _) _

theorem State.tryBlank_keeps {s0 s : State} (h : Keeps s0 s) (badA badB l) :
    Keeps s0 (State.tryBlank badA badB l s).1 := by
  induction l generalizing s with
  | nil => exact h
  | cons b l ih =>
    unfold State.tryBlank
    split
    · exact State.recWrite_keeps h _
    · exact ih (State.rejected_keeps (State.bankRead_keeps h _ _) _ _)

theorem State.selectBank_keeps {s0 s : State} (h : Keeps s0 s) (badA badB) :
    Keeps s0 (State.selectBank s badA badB).1 := by
  unfold State.selectBank
  repeat' with_reducible first
    | assumption | apply State.tryBlank_keeps | apply State.tryBanks_keeps | apply State.readRecs_keeps
    | apply State.candidates_keeps | apply State.bootRaise_keeps | apply Keeps.ite | apply Keeps.fst_ite | split
    | dsimp only

theorem State.advance_keeps {s0 s : State} (h : Keeps s0 s) (b r) : Keeps s0 (s.advance b r) := by
  unfold State.advance
  extract_lets i
  split
  · rename_i hc
    simp only [Bool.and_eq_true, decide_eq_true_eq] at hc
    have hn : Keeps s0 { s with nv := { s.nv with rollback := i } } :=
      h.trans ⟨rfl, id, id, ⟨Nat.le_of_lt hc.2, Nat.le_refl _, id, fun _ x hx => ⟨x, hx⟩⟩⟩
    exact State.bootRaise_keeps hn _
  · exact h

theorem State.runningImage_keeps {s0 s : State} (h : Keeps s0 s) (b r) :
    Keeps s0 (State.runningImage s b r) := by
  unfold State.runningImage
  repeat' with_reducible first
    | assumption | apply State.flag_keeps | apply State.put_keeps | dsimp only

theorem State.writeKeyway_keeps {s0 s : State} (h : Keeps s0 s) :
    Keeps s0 (State.writeKeyway s) := by
  unfold State.writeKeyway
  repeat' with_reducible first
    | intro _ | assumption | apply State.keywayLock_keeps | apply State.keywayBind_keeps | apply Keeps.foldl
    | dsimp only | apply Keeps.record

theorem State.writeBounds_keeps {s0 s : State} (h : Keeps s0 s) : Keeps s0 s.writeBounds := by
  unfold State.writeBounds
  exact Keeps.foldl h (fun t _ ht => Keeps.ite (State.dbtFltWrite_keeps ht _ _ _)
    (Keeps.ite (State.dbtGwWrite_keeps ht _ _ _) ht)) _

theorem State.writeParams_keeps {s0 s : State} (h : Keeps s0 s) : Keeps s0 s.writeParams := by
  unfold State.writeParams
  exact Keeps.foldl (State.thmLimWrite_keeps h _ _) (fun t _ ht => Keeps.ite (State.paramPut_keeps ht _ _) ht) _

theorem State.sendReport_keeps {s0 s : State} (h : Keeps s0 s) :
    Keeps s0 (State.sendReport s) := by
  unfold State.sendReport
  repeat' with_reducible first
    | intro _ | assumption | apply State.mailboxDeliver_keeps | apply Keeps.ite | apply Keeps.foldl | split
    | dsimp only | apply Keeps.record

theorem State.fwStart_keeps {s0 s : State} (h : Keeps s0 s) : Keeps s0 s.fwStart := by
  unfold State.fwStart
  extract_lets s1 s2 s3 s4
  have h1 : Keeps s0 s1 := State.writeParams_keeps (State.writeBounds_keeps (State.writeKeyway_keeps
    (State.wdogKick_keeps h _ _)))
  clear_value s1
  have h2 : Keeps s0 s2 := Keeps.foldl h1 (fun t _ ht => State.pinWrite_keeps ht _ _ _) _
  clear_value s2
  exact State.sendReport_keeps (State.kcRaise_keeps (State.put_keeps (State.put_keeps (State.fwNote_keeps h2 _) _ _) _ _) _)

theorem State.startBank_keeps {s0 s : State} (h : Keeps s0 s) (b first r) :
    Keeps s0 (State.startBank s b first r) := by
  unfold State.startBank
  repeat' with_reducible first
    | assumption | apply State.fwStart_keeps | apply State.runningImage_keeps | apply State.advance_keeps
    | apply State.bootRaise_keeps | apply State.ldgBoot_keeps | apply State.put_keeps | apply Keeps.ite | split
    | dsimp only | apply Keeps.record

theorem State.fuseRepairs_keeps {s0 s : State} (h : Keeps s0 s) :
    Keeps s0 (State.fuseRepairs s) := by
  unfold State.fuseRepairs
  repeat' with_reducible first
    | intro _ | assumption | apply State.setTln_keeps | dsimp only | apply Keeps.record

theorem State.bootBegin_keeps {s0 s : State} (h : Keeps s0 s) :
    Keeps s0 (State.bootBegin s) := by
  unfold State.bootBegin
  repeat' with_reducible first
    | assumption | apply State.fuseRepairs_keeps | apply State.lcPerform_keeps | apply State.releaseMark_keeps

theorem State.clocksUp_keeps {s0 s : State} (h : Keeps s0 s) (xt32 pcieRef) :
    Keeps s0 (State.clocksUp s xt32 pcieRef) := by
  unfold State.clocksUp
  repeat' with_reducible first
    | assumption | apply State.flag_keeps | apply State.put_keeps | dsimp only

theorem State.bootRest_keeps {s0 s : State} (h : Keeps s0 s) (xt32 pcieRef badA badB) :
    Keeps s0 (State.bootRest s xt32 pcieRef badA badB) := by
  unfold State.bootRest
  repeat' with_reducible first
    | assumption | apply State.clocksUp_keeps | apply State.startBank_keeps | apply State.selectBank_keeps
    | apply State.bootRaise_keeps | apply State.restore_keeps | apply State.assignSes_keeps | apply State.replay_keeps
    | apply State.ldgBoot_keeps | apply State.put_keeps | split | dsimp only | apply Keeps.record

theorem State.halt_keeps {s0 s : State} (h : Keeps s0 s) :
    Keeps s0 (State.halt s) := by
  unfold State.halt
  repeat' with_reducible first
    | assumption | apply State.put_keeps | apply Keeps.record

theorem State.releaseReset_keeps {s0 s : State} (h : Keeps s0 s) (go) (hk : ∀ t, Keeps s0 t → Keeps s0 (go t)) :
    Keeps s0 (State.releaseReset s go) := by
  unfold State.releaseReset
  repeat' with_reducible first
    | intro _ | assumption | apply hk | apply State.halt_keeps | apply State.bootBegin_keeps | apply Keeps.ite | split

theorem State.clkRaise_keeps {s0 s : State} (h : Keeps s0 s) (bit) :
    Keeps s0 (State.clkRaise s bit) := by
  unfold State.clkRaise
  repeat' with_reducible first
    | assumption | apply State.raiseF_keeps

theorem State.clockLost_keeps {s0 s : State} (h : Keeps s0 s) (pll) :
    Keeps s0 (State.clockLost s pll) := by
  unfold State.clockLost
  repeat' with_reducible first
    | assumption | apply State.clkRaise_keeps | apply State.safeStop_keeps | apply State.put_keeps | apply Keeps.ite
    | split | dsimp only

/-! ### Bus -/

theorem State.mbxRead_keeps {s0 s : State} (h : Keeps s0 s) (w off) :
    Keeps s0 (State.mbxRead s w off).1 := by
  unfold State.mbxRead
  repeat' with_reducible first
    | assumption | apply State.tumblerRead_keeps | apply State.keywayViolation_keeps | apply Keeps.ite
    | apply Keeps.fst_ite | split | dsimp only

theorem State.loadReg_keeps {s0 s : State} (h : Keeps s0 s) (w r uncorr) : Keeps s0 (s.loadReg w r uncorr).1 := by
  unfold State.loadReg
  refine Keeps.fst_ite (State.mbxRead_keeps h _ _) (Keeps.fst_ite (State.evqPop_keeps h _ _)
    (Keeps.fst_ite (State.thmPeakRead_keeps h) ?_))
  split
  · exact State.semRead_keeps h _ _
  · exact Keeps.fst_ite (State.lxbLockRead_keeps h _) (Keeps.fst_ite (State.trcRaise_keeps h _) h)

theorem State.plainWrite_keeps {s0 s : State} (h : Keeps s0 s) (mid off v) :
    Keeps s0 (State.plainWrite s mid off v) := by
  unfold State.plainWrite
  repeat' with_reducible first
    | assumption | apply State.writeFlds_keeps | split | dsimp only

theorem State.bootStatusWrite_keeps {s0 s : State} (h : Keeps s0 s) (mid v) :
    Keeps s0 (State.bootStatusWrite s mid v) := by
  unfold State.bootStatusWrite
  repeat' with_reducible first
    | assumption | apply State.plainWrite_keeps | apply State.kcRaise_keeps | apply State.put_keeps | apply Keeps.ite
    | split | dsimp only

theorem State.attnWrite_keeps {s0 s : State} (h : Keeps s0 s) (mid v) :
    Keeps s0 (State.attnWrite s mid v) := by
  unfold State.attnWrite
  repeat' with_reducible first
    | assumption | apply State.plainWrite_keeps | apply State.put_keeps | dsimp only

theorem State.fltCtlWrite_keeps {s0 s : State} (h : Keeps s0 s) (w v) :
    Keeps s0 (State.fltCtlWrite s w v) := by
  unfold State.fltCtlWrite
  repeat' with_reducible first
    | assumption | apply State.plainWrite_keeps | apply State.accessRefused_keeps | apply Keeps.ite | split

theorem State.fwaCtlWrite_keeps {s0 s : State} (h : Keeps s0 s) (mid v) :
    Keeps s0 (State.fwaCtlWrite s mid v) := by
  unfold State.fwaCtlWrite
  repeat' with_reducible first
    | assumption | apply State.fwaGo_keeps | apply State.put_keeps | apply Keeps.ite | split | dsimp only

theorem State.ereqWrite_keeps {s0 s : State} (h : Keeps s0 s) (mid v) :
    Keeps s0 (State.ereqWrite s mid v) := by
  unfold State.ereqWrite
  repeat' with_reducible first
    | assumption | apply State.plainWrite_keeps | apply State.judgeStore_keeps

theorem State.mbxWrite_keeps {s0 s : State} (h : Keeps s0 s) (w off v) :
    Keeps s0 (State.mbxWrite s w off v) := by
  unfold State.mbxWrite
  repeat' with_reducible first
    | assumption | apply State.mbxCtlWrite_keeps | apply State.txWordWrite_keeps | apply State.tumblerWrite_keeps
    | apply State.keywayViolation_keeps | apply State.put_keeps | apply Keeps.ite | split | dsimp only

theorem actsA_keeps {s0 s : State} (h : Keeps s0 s) (w is v) : ∀ a ∈ actsA, Keeps s0 (a.act s w is v) := by
  unfold actsA
  repeat' refine List.forall_mem_cons.2 ⟨?_, ?_⟩
  exacts [State.glbResetWrite_keeps h _ _, State.bootStatusWrite_keeps h _ _, State.wdogKick_keeps h _ _,
    State.lcReqWrite_keeps h _ _, State.pwrStateWrite_keeps h _ _, State.ereqWrite_keeps h _ _,
    State.thmCmdWrite_keeps h _ _, State.thmLimWrite_keeps h _ _, State.thmDutyWrite_keeps h _ _,
    State.srcCfgWrite_keeps h _ _ _, State.pendWrite_keeps h _ _ _, State.fltCtlWrite_keeps h _ _,
    State.quarWrite_keeps h _ _ _, State.quarWrite_keeps h _ _ _, State.dbtFltWrite_keeps h _ _ _,
    State.dbtGwWrite_keeps h _ _ _, State.pinWrite_keeps h _ _ _, State.pinCtlWrite_keeps h _ _,
    State.keywayBind_keeps h _ _ _, State.keywayLock_keeps h _ _, State.rearm_keeps h _ _,
    State.faultInject_keeps h _ _, List.forall_mem_nil _]

theorem actsB_keeps {s0 s : State} (h : Keeps s0 s) (w is v) : ∀ a ∈ actsB, Keeps s0 (a.act s w is v) := by
  unfold actsB
  repeat' refine List.forall_mem_cons.2 ⟨?_, ?_⟩
  exacts [State.sqDoorbell_keeps h _ _ _, State.resumeDoorbell_keeps h _ _ _, State.crHead_keeps h _ _ _,
    State.crIntWrite_keeps h _ _ _, State.admCtlWrite_keeps h _ _, State.tlnCmdWrite_keeps h _ _,
    State.rowRequest_keeps h _ _, State.qCfgWrite_keeps h _ _, State.qCmdWrite_keeps h _ _,
    State.ldgCmdWrite_keeps h _ _, Keeps.ite (State.exportedWrite_keeps h _) h, State.fwaCtlWrite_keeps h _ _,
    State.attnWrite_keeps h _ _, State.ptCtlWrite_keeps h _ _ _, State.hostMark_keeps h _ _,
    State.trcClearWrite_keeps h _ _, State.put_keeps h _ _, List.forall_mem_nil _]

theorem actsC_keeps {s0 s : State} (h : Keeps s0 s) (w is v) : ∀ a ∈ actsC, Keeps s0 (a.act s w is v) := by
  unfold actsC
  repeat' refine List.forall_mem_cons.2 ⟨?_, ?_⟩
  exacts [State.canCtlWrite_keeps h _ _ _, State.ptxOff_keeps (State.plainWrite_keeps h _ _ _) _,
    State.linEn_keeps (State.writeOthers_keeps h _ _ _) _ _,
    State.sentEn_keeps (State.writeOthers_keeps h _ _ _) _ _,
    State.serEn_keeps (State.writeOthers_keeps h _ _ _) _ _,
    State.cardEn_keeps (State.writeOthers_keeps h _ _ _) _ _, State.ethCfgWrite_keeps h _ _ _,
    State.ethSettle_keeps (State.plainWrite_keeps h _ _ _) _,
    State.plcaSettle_keeps (State.plainWrite_keeps h _ _ _), State.timSet_keeps h _ _, State.timRate_keeps h _ _,
    State.timSlew_keeps h _ _, Keeps.ite (State.crossStamp_keeps h) h, State.capCtlWrite_keeps h _ _ _,
    State.ppsWrite_keeps h _ _ _ _, State.ppsWrite_keeps h _ _ _ _, State.grtWrite_keeps h _ _ _ _,
    State.semWrite_keeps h _ _, State.lxbLockWrite_keeps h _, List.forall_mem_nil _]

theorem State.storeReg_keeps {s0 s : State} (h : Keeps s0 s) (w r v) : Keeps s0 (s.storeReg w r v) := by
  unfold State.storeReg
  split
  · exact State.mbxWrite_keeps h _ _ _
  · split
    · rename_i t ht
      obtain ⟨a, ha, hx⟩ := List.exists_of_findSome?_eq_some ht
      obtain ⟨is, -, rfl⟩ := Option.map_eq_some_iff.1 hx
      rcases List.mem_append.1 ha with ha | ha
      · rcases List.mem_append.1 ha with ha | ha
        · exact actsA_keeps h _ _ _ _ ha
        · exact actsB_keeps h _ _ _ _ ha
      · exact actsC_keeps h _ _ _ _ ha
    · exact State.writeFlds_keeps h _ _ _

theorem State.msixSet_keeps {s0 s : State} (h : Keeps s0 s) (f off v) :
    Keeps s0 (State.msixSet s f off v) := by
  unfold State.msixSet
  repeat' with_reducible first
    | assumption | apply State.put_keeps | apply Keeps.ite | split | dsimp only

theorem State.msixRead_keeps {s0 s : State} (h : Keeps s0 s) (w off) :
    Keeps s0 (State.msixRead s w off).1 := by
  unfold State.msixRead
  repeat' with_reducible first
    | assumption | apply State.accessRefused_keeps | apply Keeps.ite | apply Keeps.fst_ite | split | dsimp only

theorem State.msixWrite_keeps {s0 s : State} (h : Keeps s0 s) (w off v) :
    Keeps s0 (State.msixWrite s w off v) := by
  unfold State.msixWrite
  repeat' with_reducible first
    | assumption | apply State.msixSet_keeps | apply State.accessRefused_keeps | apply Keeps.ite | split

theorem State.loadWord_keeps {s0 s : State} (h : Keeps s0 s) (w off uncorr) :
    Keeps s0 (s.loadWord w off uncorr).1 := by
  unfold State.loadWord
  refine Keeps.fst_ite (State.msixRead_keeps h _ _) (Keeps.fst_ite h
    (Keeps.fst_ite (State.accessRefused_keeps h _ _) ?_))
  split
  · exact Keeps.fst_ite (State.keepHalf_keeps (State.loadReg_keeps h _ _ _) _ _ _ _) (State.loadReg_keeps h _ _ _)
  · split
    · split
      · exact State.dropHalf_keeps h _ _ _
      · exact Keeps.record h
    · exact State.accessRefused_keeps h _ _

theorem State.loadLong_keeps {s0 s : State} (h : Keeps s0 s) (w off uncorr) :
    Keeps s0 (State.loadLong s w off uncorr).1 := by
  unfold State.loadLong
  repeat' with_reducible first
    | assumption | apply State.msixRead_keeps | apply State.loadReg_keeps | apply State.accessRefused_keeps
    | apply Keeps.ite | apply Keeps.fst_ite | split | dsimp only

theorem State.load_keeps {s0 s : State} (h : Keeps s0 s) (w off width uncorr) :
    Keeps s0 (State.load s w off width uncorr).1 := by
  unfold State.load
  repeat' with_reducible first
    | assumption | apply State.loadLong_keeps | apply State.loadWord_keeps | apply State.accessRefused_keeps
    | apply Keeps.ite | apply Keeps.fst_ite | split | dsimp only

theorem State.fasStart_keeps {s0 s : State} (h : Keeps s0 s) (f k v go) (hk : ∀ t r, Keeps s0 t → Keeps s0 (go t r).1) :
    Keeps s0 (State.fasStart s f k v go) := by
  unfold State.fasStart
  repeat' with_reducible first
    | intro _ | assumption | apply hk | apply State.plainWrite_keeps | apply State.lxbAsk_keeps
    | apply State.farAccess_keeps | apply State.slotEnd_keeps | apply State.cast_keeps | apply State.put_keeps
    | apply Keeps.ite | apply Keeps.fst_ite | split | dsimp only | apply Keeps.record

theorem State.storeWord_keeps {s0 s : State} (h : Keeps s0 s) (n w off v) :
    Keeps s0 (State.storeWord n s w off v) := by
  induction n generalizing s w off v with
  | zero => exact h
  | succ n ih =>
    have hr := fun w o => State.accessRefused_keeps h o w
    unfold State.storeWord
    refine Keeps.ite (State.msixWrite_keeps h _ _ _) (Keeps.ite h (Keeps.ite (hr _ _) ?_))
    split
    · exact Keeps.ite (State.fasStart_keeps h _ _ _ _ (fun t o ht => Keeps.fst_ite (ih ht _ _ _)
        (State.loadWord_keeps ht _ _ _))) (State.hngRaise_keeps h _ _)
    · split
      · exact Keeps.ite (State.keepHalf_keeps h _ _ _ _) (State.storeReg_keeps h _ _ _)
      · split
        · split
          · exact State.storeReg_keeps (State.dropHalf_keeps h _ _ _) _ _ _
          · exact hr _ _
        · exact hr _ _

theorem State.storeLong_keeps {s0 s : State} (h : Keeps s0 s) (w off v) : Keeps s0 (s.storeLong w off v) := by
  have hr := State.accessRefused_keeps h off w
  unfold State.storeLong
  refine Keeps.ite hr (Keeps.ite (Keeps.ite (State.msixWrite_keeps (State.msixWrite_keeps h _ _ _) _ _ _)
    (State.msixWrite_keeps h _ _ _)) (Keeps.ite h ?_))
  split
  · exact Keeps.ite (State.storeReg_keeps h _ _ _) hr
  · exact hr

theorem State.save_keeps {s0 s : State} (h : Keeps s0 s) (w off width v) :
    Keeps s0 (State.save s w off width v) := by
  unfold State.save
  repeat' with_reducible first
    | assumption | apply State.storeLong_keeps | apply State.storeWord_keeps | apply State.accessRefused_keeps
    | apply Keeps.ite | split | dsimp only

/-! ### Access -/

theorem State.barWrite_keeps {s0 s : State} (h : Keeps s0 s) (f k v) :
    Keeps s0 (State.barWrite s f k v) := by
  unfold State.barWrite
  repeat' with_reducible first
    | assumption | apply State.put_keeps | apply Keeps.ite | split | dsimp only

theorem State.cfgWrite_keeps {s0 s : State} (h : Keeps s0 s) (f v r) : Keeps s0 (s.cfgWrite f v r) := by
  unfold State.cfgWrite
  have ht := State.writeFlds_keeps h f v (cfgFlds f r)
  dsimp only
  split
  · exact State.barWrite_keeps h _ _ _
  · exact State.busMasterSet_keeps ht _ _ _
  · exact Keeps.ite (State.busMasterSet_keeps h _ _ _) h
  · exact Keeps.ite (State.flr_keeps ht _) ht
  · exact ht

theorem State.pageCompletions_keeps {s0 s : State} (h : Keeps s0 s) (fuel o n) :
    Keeps s0 (s.pageCompletions fuel o n) := by
  induction fuel generalizing s o n with
  | zero => exact h
  | succ fuel ih =>
    unfold State.pageCompletions
    exact Keeps.ite h (ih (State.complete_keeps h _) _ _)

theorem State.pageRead_keeps {s0 s : State} (h : Keeps s0 s) (f off n) : Keeps s0 (s.pageRead f off n) := by
  unfold State.pageRead
  exact Keeps.ite (State.inboundBad_keeps h _ _) (Keeps.record (State.pageCompletions_keeps h _ _ _))

theorem State.targetRead_keeps {s0 s : State} (h : Keeps s0 s) (w t width uncorr) :
    Keeps s0 (State.targetRead s w t width uncorr).1 := by
  unfold State.targetRead
  repeat' with_reducible first
    | assumption | apply State.load_keeps | split | dsimp only

theorem State.targetWrite_keeps {s0 s : State} (h : Keeps s0 s) (w t width v) :
    Keeps s0 (s.targetWrite w t width v) := by
  unfold State.targetWrite
  split
  · exact State.save_keeps h _ _ _ _
  · exact State.inboundBad_keeps h _ _
  · split
    · exact State.save_keeps h _ _ _ _
    · exact h
  · exact State.cfgWrite_keeps h _ _ _
  · exact h

theorem State.readAt_keeps {s0 s : State} (h : Keeps s0 s) (w t width uncorr) :
    Keeps s0 (s.readAt w t width uncorr) := by
  have hx := State.targetRead_keeps h w t width uncorr
  unfold State.readAt
  refine Keeps.ite h (Keeps.ite (State.inboundBad_keeps h _ _) ?_)
  split
  · exact State.pageRead_keeps h _ _ _
  · exact Keeps.ite (State.inboundBad_keeps h _ _) h
  · exact Keeps.ite (State.complete_keeps (Keeps.record hx) _) (Keeps.record hx)

theorem State.writeAt_keeps {s0 s : State} (h : Keeps s0 s) (w t width v) : Keeps s0 (s.writeAt w t width v) := by
  unfold State.writeAt
  refine Keeps.ite h (Keeps.ite (State.inboundBad_keeps h _ _) ?_)
  split
  · exact Keeps.ite (State.inboundBad_keeps h _ _) h
  · exact State.targetWrite_keeps h _ _ _ _

theorem State.unmatched_keeps {s0 s : State} (h : Keeps s0 s) (read) : Keeps s0 (s.unmatched read) := by
  unfold State.unmatched
  exact Keeps.ite h (Keeps.ite (State.inboundBad_keeps (State.aer_keeps h _ _ _) _ _)
    (State.inboundBad_keeps (State.aer_keeps h _ _ _) _ _))

theorem State.registerRead_keeps {s0 s : State} (h : Keeps s0 s) (w t width uncorr) :
    Keeps s0 (State.registerRead s w t width uncorr) := by
  unfold State.registerRead
  repeat' with_reducible first
    | assumption | apply State.unmatched_keeps | apply State.readAt_keeps | split | dsimp only | apply Keeps.record

theorem State.registerWrite_keeps {s0 s : State} (h : Keeps s0 s) (w t width v) :
    Keeps s0 (State.registerWrite s w t width v) := by
  unfold State.registerWrite
  repeat' with_reducible first
    | assumption | apply State.unmatched_keeps | apply State.writeAt_keeps | split | dsimp only | apply Keeps.record

theorem State.windowDone_keeps {s0 s : State} (h : Keeps s0 s) :
    Keeps s0 (State.windowDone s) := by
  unfold State.windowDone
  repeat' with_reducible first
    | assumption | apply State.save_keeps | apply State.load_keeps | apply State.setWindow_keeps | apply Keeps.ite
    | apply Keeps.fst_ite | split | dsimp only | apply Keeps.record

theorem State.farAnswer_keeps {s0 s : State} (h : Keeps s0 s) (type src pl status data) :
    Keeps s0 (State.farAnswer s type src pl status data) := by
  unfold State.farAnswer
  repeat' with_reducible first
    | assumption | apply State.sendTo_keeps | apply Keeps.ite | split

theorem State.serveRead_keeps {s0 s : State} (h : Keeps s0 s) (src pl uncorr) :
    Keeps s0 (State.serveRead s src pl uncorr) := by
  unfold State.serveRead
  repeat' with_reducible first
    | assumption | apply State.farAnswer_keeps | apply State.load_keeps | apply State.noRoute_keeps | apply Keeps.ite
    | apply Keeps.fst_ite | split | dsimp only | apply Keeps.record

theorem State.serveWrite_keeps {s0 s : State} (h : Keeps s0 s) (src pl bcast) :
    Keeps s0 (State.serveWrite s src pl bcast) := by
  unfold State.serveWrite
  repeat' with_reducible first
    | assumption | apply State.farAnswer_keeps | apply State.save_keeps | apply State.noRoute_keeps | apply Keeps.ite
    | split | dsimp only | apply Keeps.record

theorem State.fabStart_keeps {s0 s : State} (h : Keeps s0 s) (mid lxb unit off write data wide) :
    Keeps s0 (State.fabStart s mid lxb unit off write data wide) := by
  unfold State.fabStart
  repeat' with_reducible first
    | intro _ | assumption | apply State.lxbAsk_keeps | apply State.farAccess_keeps | apply Keeps.ite
    | apply Keeps.fst_ite | apply Keeps.foldl | apply Keeps.foldl_fst | split | dsimp only | apply Keeps.record

theorem State.fabTry_keeps {s0 s : State} (h : Keeps s0 s) (mid lxb unit off write data wide) :
    Keeps s0 (State.fabTry s mid lxb unit off write data wide).1 := by
  unfold State.fabTry
  repeat' with_reducible first
    | assumption | apply State.fabStart_keeps | apply State.save_keeps | apply State.load_keeps
    | apply State.accessRefused_keeps | apply Keeps.ite | apply Keeps.fst_ite | split | dsimp only
    | apply Keeps.record

theorem State.dapCapture_keeps {s0 s : State} (h : Keeps s0 s) :
    Keeps s0 (State.dapCapture s) := by
  unfold State.dapCapture
  repeat' with_reducible first
    | assumption | apply State.fabTry_keeps | split | dsimp only | apply Keeps.record

theorem State.dapUpdate_keeps {s0 s : State} (h : Keeps s0 s) (v) :
    Keeps s0 (State.dapUpdate s v) := by
  unfold State.dapUpdate
  repeat' with_reducible first
    | assumption | apply State.fabTry_keeps | apply State.save_keeps | apply State.load_keeps
    | apply State.accessRefused_keeps | apply Keeps.ite | apply Keeps.fst_ite | split | dsimp only
    | apply Keeps.record

theorem State.dapScan_keeps {s0 s : State} (h : Keeps s0 s) (v) :
    Keeps s0 (State.dapScan s v) := by
  unfold State.dapScan
  repeat' with_reducible first
    | assumption | apply State.dapUpdate_keeps | apply State.dapCapture_keeps | apply State.emit_keeps
    | apply Keeps.ite | split | dsimp only

theorem State.pollOwn_keeps {s0 s : State} (h : Keeps s0 s) (a i) :
    Keeps s0 (State.pollOwn s a i) := by
  unfold State.pollOwn
  repeat' with_reducible first
    | assumption | apply State.load_keeps | apply State.wordRead_keeps | dsimp only | apply Keeps.record

theorem State.pollRound_keeps {s0 s : State} (h : Keeps s0 s) (a) :
    Keeps s0 (State.pollRound s a) := by
  unfold State.pollRound
  repeat' with_reducible first
    | intro _ | assumption | apply State.pollOwn_keeps | apply State.roundOn_keeps | apply State.roundCheck_keeps
    | apply State.hngRaise_keeps | apply Keeps.ite | apply Keeps.foldl | split | dsimp only | apply Keeps.record

theorem State.engineAccess_keeps {s0 s : State} (h : Keeps s0 s) (a o off write data) :
    Keeps s0 (State.engineAccess s a o off write data) := by
  unfold State.engineAccess
  repeat' with_reducible first
    | intro _ | assumption | apply State.save_keeps | apply State.load_keeps | apply State.farAccess_keeps
    | apply State.accessDone_keeps | apply State.updOp_keeps | apply Keeps.ite | apply Keeps.fst_ite | split
    | dsimp only | apply Keeps.record

theorem State.skipAccess_keeps {s0 s : State} (h : Keeps s0 s) (a n) :
    Keeps s0 (State.skipAccess s a n) := by
  unfold State.skipAccess
  repeat' with_reducible first
    | intro _ | assumption | apply State.accessDone_keeps | apply State.updOp_keeps | apply Keeps.record

theorem State.regTurn_keeps {s0 s : State} (h : Keeps s0 s) (a o) :
    Keeps s0 (State.regTurn s a o) := by
  unfold State.regTurn
  repeat' with_reducible first
    | assumption | apply State.skipAccess_keeps | apply State.engineAccess_keeps | apply State.moreData_keeps
    | apply State.areaShort_keeps | apply Keeps.ite | apply Keeps.fst_ite | split | dsimp only

theorem State.lxbTurn_keeps {s0 s : State} (h : Keeps s0 s) (a o) :
    Keeps s0 (State.lxbTurn s a o) := by
  unfold State.lxbTurn
  repeat' with_reducible first
    | intro _ | assumption | apply State.skipAccess_keeps | apply State.lxbAsk_keeps | apply State.moreData_keeps
    | apply State.areaShort_keeps | apply State.endOp_keeps | apply State.updOp_keeps | apply Keeps.ite
    | apply Keeps.fst_ite | split | dsimp only | apply Keeps.record

theorem State.write_keeps {s0 s : State} (h : Keeps s0 s) (a errs) :
    Keeps s0 (State.write s a errs) := by
  unfold State.write
  repeat' with_reducible first
    | assumption | apply State.lxbTurn_keeps | apply State.regTurn_keeps | apply State.writePort_keeps
    | apply State.setOp_keeps | apply Keeps.ite | split | dsimp only | apply Keeps.record

theorem State.read_keeps {s0 s : State} (h : Keeps s0 s) (a errs) :
    Keeps s0 (State.read s a errs) := by
  unfold State.read
  repeat' with_reducible first
    | assumption | apply State.lxbTurn_keeps | apply State.regTurn_keeps | apply State.readPort_keeps
    | apply Keeps.ite | split | dsimp only

theorem State.pollRead_keeps {s0 s : State} (h : Keeps s0 s) (a o) :
    Keeps s0 (State.pollRead s a o) := by
  unfold State.pollRead
  repeat' with_reducible first
    | assumption | apply State.engineAccess_keeps | apply Keeps.ite | split

theorem State.pollStart_keeps {s0 s : State} (h : Keeps s0 s) (a) :
    Keeps s0 (State.pollStart s a) := by
  unfold State.pollStart
  repeat' with_reducible first
    | intro _ | assumption | apply State.pollRead_keeps | apply State.wantData_keeps | apply State.useOp_keeps
    | apply State.updOp_keeps | apply Keeps.ite | apply Keeps.fst_ite | split | dsimp only | apply Keeps.record

theorem State.pollAgain_keeps {s0 s : State} (h : Keeps s0 s) (a) :
    Keeps s0 (State.pollAgain s a) := by
  unfold State.pollAgain
  repeat' with_reducible first
    | assumption | apply State.pollRead_keeps | apply Keeps.ite | split | dsimp only

/-! ### HostReads -/

theorem FwReq.readEnds_keeps {s0 s : State} (h : Keeps s0 s) (r status) :
    Keeps s0 (FwReq.readEnds r s status) := by
  unfold FwReq.readEnds
  repeat' with_reducible first
    | assumption | apply State.answer_keeps | apply Keeps.ite | split

theorem FwReq.loaded_keeps {s0 s : State} (h : Keeps s0 s) (r d) : Keeps s0 (FwReq.loaded r d s) := by
  unfold FwReq.loaded
  exact Keeps.ite (FwReq.grtLoaded_keeps h _ _) (FwReq.imgChunked_keeps h _ _)

theorem FwRead.onArea_keeps {s0 s : State} (h : Keeps s0 s) (x) :
    Keeps s0 (FwRead.onArea x s) := by
  unfold FwRead.onArea
  repeat' with_reducible first
    | assumption | apply FwReq.loaded_keeps | apply FwReq.readEnds_keeps | apply FwReq.ldgExported_keeps
    | apply State.fwRead_keeps | apply Keeps.ite | split | dsimp only | apply Keeps.record

theorem FwRead.onTable_keeps {s0 s : State} (h : Keeps s0 s) (x d) :
    Keeps s0 (FwRead.onTable x d s) := by
  unfold FwRead.onTable
  repeat' with_reducible first
    | assumption | apply FwRead.onArea_keeps | apply FwReq.readEnds_keeps | apply State.fwRead_keeps | apply Keeps.ite
    | split | dsimp only | apply Keeps.record

theorem FwRead.goesOn_keeps {s0 s : State} (h : Keeps s0 s) (x c) : Keeps s0 (FwRead.goesOn x c s) := by
  unfold FwRead.goesOn
  split
  · exact FwReq.readEnds_keeps h _ _
  · split
    · exact FwReq.imgBegun_keeps h _ _
    · exact FwRead.onTable_keeps h _ _
    · exact FwRead.onArea_keeps h _

theorem State.fwGoOn_keeps {s0 s : State} (h : Keeps s0 s) :
    Keeps s0 (State.fwGoOn s) := by
  unfold State.fwGoOn
  repeat' with_reducible first
    | intro _ | assumption | apply FwRead.goesOn_keeps | apply Keeps.foldl | apply Keeps.foldl_fst | split
    | dsimp only | apply Keeps.record

/-! ### Step -/

theorem State.withFetchWord_keeps {s0 s : State} (h : Keeps s0 s) (_nbits _w) :
    Keeps s0 (State.withFetchWord s _nbits _w) := by
  unfold State.withFetchWord
  repeat' with_reducible first
    | assumption

end Sys2Proof.Machine
end

