-- ==== Sys2Proof/Laws/Quiet.lean ====
section
/-!
SUPPORT. Operations that hand the fault collector nothing.
-/

namespace Sys2Proof.Machine

set_option linter.unusedTactic false
set_option linter.unreachableTactic false

/-- From `s` to `t` the fault collector has been handed nothing: if nothing was due, nothing is. -/
structure Quiet (s t : State) : Prop where
  due : s.dueFaults = [] → t.dueFaults = []

theorem Quiet.refl (s : State) : Quiet s s := ⟨id⟩

theorem Quiet.trans {s t u : State} (h : Quiet s t) (g : Quiet t u) : Quiet s u := ⟨fun x => g.due (h.due x)⟩

theorem Quiet.ite {s0 a b : State} {c : Prop} [Decidable c] (ha : Quiet s0 a) (hb : Quiet s0 b) :
    Quiet s0 (if c then a else b) := by
  split <;> assumption

theorem Quiet.fst_ite {β : Type} {s0 : State} {a b : State × β} {c : Prop} [Decidable c] (ha : Quiet s0 a.1)
    (hb : Quiet s0 b.1) : Quiet s0 (if c then a else b).1 := by
  split <;> assumption

theorem Quiet.foldl {β : Type} {s0 s : State} {f : State → β → State} (h : Quiet s0 s)
    (hf : ∀ t x, Quiet s0 t → Quiet s0 (f t x)) (l : List β) : Quiet s0 (l.foldl f s) := by
  induction l generalizing s with
  | nil => exact h
  | cons x r ih => exact ih (hf s x h)

theorem Quiet.foldl_fst {β γ : Type} {s0 : State} {a : State × γ} {f : State × γ → β → State × γ} (h : Quiet s0 a.1)
    (hf : ∀ t x, Quiet s0 t.1 → Quiet s0 (f t x).1) (l : List β) : Quiet s0 (l.foldl f a).1 := by
  induction l generalizing a with
  | nil => exact h
  | cons x r ih => exact ih (hf a x h)

/-- A record update of other fields. -/
theorem Quiet.record {s0 s : State} (h : Quiet s0 s)
    {x0 x1 x2 x3 x4 x5 x6 x7 x8 x9 x10 x11 x12 x13 x14 x15 x16 x17 x18 x19 x20 x21 x22 x23 x24 x25 x26 x27 x28
     x29 x30 x31 x32 x33 x34 x35 x36 x37 x38 x39 x40 x41 x42 x43 x44 x45 x46 x47 x48 x49 x50 x51 x52 x53 x54 x55
     x56 x57 x58 x59 x60 x61 x62 x63 x64 x65 x66 x67 x68 x69 x70 x71 x72 x73 x74 x75 x76 x77 x78 x79 x80 x81 x82
     x83 x84 x85 x86 x87 x88 x89 x90 x91 x92 x93 x94 x95 x96 x97 x98 x99 x100 x101 x102 x103 x104 x105 x106 x107
     x108} :
    Quiet s0 (State.mk
      x0 x1 x2 x3 x4 x5 x6 x7 x8 x9 x10 x11 x12 s.dueFaults x13 x14 x15 x16 x17 x18 x19 x20 x21 x22 x23 x24 x25
      x26 x27 x28 x29 x30 x31 x32 x33 x34 x35 x36 x37 x38 x39 x40 x41 x42 x43 x44 x45 x46 x47 x48 x49 x50 x51 x52
      x53 x54 x55 x56 x57 x58 x59 x60 x61 x62 x63 x64 x65 x66 x67 x68 x69 x70 x71 x72 x73 x74 x75 x76 x77 x78 x79
      x80 x81 x82 x83 x84 x85 x86 x87 x88 x89 x90 x91 x92 x93 x94 x95 x96 x97 x98 x99 x100 x101 x102 x103 x104
      x105 x106 x107 x108) :=
  ⟨h.due⟩

/-- The collector leaves nothing due. -/
theorem settleRounds_due (n : Nat) (severe : List Nat) (s : State) : (State.settleRounds n severe s).dueFaults = [] := by
  induction n generalizing severe s with
  | zero => rfl
  | succ n ih =>
    unfold State.settleRounds
    split
    · rename_i h
      exact List.isEmpty_iff.1 h
    · exact ih _ _

/-- The collector's part of a step leaves nothing due (R597). -/
@[simp] theorem collectAll_due (s : State) : s.collectAll.dueFaults = [] := by
  unfold State.collectAll
  split
  · rename_i h
    exact List.isEmpty_iff.1 h
  · split
    · exact settleRounds_due _ _ _
    · rfl

end Sys2Proof.Machine
end

