-- ==== Sys2Proof/Laws/QuietOps.lean ====
section
/-!
SUPPORT. The operations that hand the fault collector nothing: those of the meanings that do not end with its part.
-/

namespace Sys2Proof.Machine

set_option linter.unusedTactic false
set_option linter.unreachableTactic false

/-! ### Ops -/

theorem State.put_quiet {s0 s : State} (h : Quiet s0 s) (f v) :
    Quiet s0 (State.put s f v) := by
  unfold State.put
  repeat' with_reducible first
    | assumption | apply Quiet.record

theorem State.cold_quiet {s0 s : State} (h : Quiet s0 s) (fs) :
    Quiet s0 (State.cold s fs) := by
  unfold State.cold
  repeat' with_reducible first
    | intro _ | assumption | apply State.put_quiet | apply Quiet.foldl | dsimp only

theorem State.flag_quiet {s0 s : State} (h : Quiet s0 s) (f b) :
    Quiet s0 (State.flag s f b) := by
  unfold State.flag
  repeat' with_reducible first
    | assumption | apply State.put_quiet

theorem State.count_quiet {s0 s : State} (h : Quiet s0 s) (f n) :
    Quiet s0 (State.count s f n) := by
  unfold State.count
  repeat' with_reducible first
    | assumption | apply State.put_quiet

theorem State.raise_quiet {s0 s : State} (h : Quiet s0 s) (evt bit cnt) :
    Quiet s0 (State.raise s evt bit cnt) := by
  unfold State.raise
  repeat' with_reducible first
    | assumption | apply State.count_quiet | apply State.put_quiet

theorem State.emit_quiet {s0 s : State} (h : Quiet s0 s) (o) :
    Quiet s0 (State.emit s o) := by
  unfold State.emit
  repeat' with_reducible first
    | assumption | apply Quiet.record

theorem State.setSup_quiet {s0 s : State} (h : Quiet s0 s) (x) :
    Quiet s0 (State.setSup s x) := by
  unfold State.setSup
  repeat' with_reducible first
    | assumption | apply Quiet.record

/-! ### Words -/

theorem State.setWq_quiet {s0 s : State} (h : Quiet s0 s) (q x) :
    Quiet s0 (State.setWq s q x) := by
  unfold State.setWq
  repeat' with_reducible first
    | assumption | apply Quiet.record

theorem State.qGrant_quiet {s0 s : State} (h : Quiet s0 s) (q) :
    Quiet s0 (State.qGrant s q) := by
  unfold State.qGrant
  repeat' with_reducible first
    | assumption | apply State.setWq_quiet | split | dsimp only | apply Quiet.record

theorem State.qEmptyOut_quiet {s0 s : State} (h : Quiet s0 s) (q) :
    Quiet s0 (State.qEmptyOut s q) := by
  unfold State.qEmptyOut
  repeat' with_reducible first
    | assumption | apply State.setWq_quiet

/-! ### Mailbox -/

theorem State.setChan_quiet {s0 s : State} (h : Quiet s0 s) (c x) :
    Quiet s0 (State.setChan s c x) := by
  unfold State.setChan
  repeat' with_reducible first
    | assumption | apply Quiet.record

theorem State.mailboxCopy_quiet {s0 s : State} (h : Quiet s0 s) (c) :
    Quiet s0 (State.mailboxCopy s c) := by
  unfold State.mailboxCopy
  repeat' with_reducible first
    | intro _ | assumption | apply State.setChan_quiet | apply Quiet.ite | apply Quiet.fst_ite | split | dsimp only
    | apply Quiet.record

theorem State.mailboxDrop_quiet {s0 s : State} (h : Quiet s0 s) (c) :
    Quiet s0 (State.mailboxDrop s c) := by
  unfold State.mailboxDrop
  repeat' with_reducible first
    | assumption | apply State.setChan_quiet | dsimp only | apply Quiet.record

/-! ### Upstream -/

theorem State.setFn_quiet {s0 s : State} (h : Quiet s0 s) (f x) :
    Quiet s0 (State.setFn s f x) := by
  unfold State.setFn
  repeat' with_reducible first
    | assumption | apply Quiet.ite | split | apply Quiet.record

theorem State.freeTag_quiet {s0 s : State} (h : Quiet s0 s) (tag) :
    Quiet s0 (State.freeTag s tag) := by
  unfold State.freeTag
  repeat' with_reducible first
    | assumption | apply Quiet.record

theorem State.setRing_quiet {s0 s : State} (h : Quiet s0 s) (m x) :
    Quiet s0 (State.setRing s m x) := by
  unfold State.setRing
  repeat' with_reducible first
    | assumption | apply Quiet.record

theorem State.ringRaise_quiet {s0 s : State} (h : Quiet s0 s) (m bit) :
    Quiet s0 (State.ringRaise s m bit) := by
  unfold State.ringRaise
  repeat' with_reducible first
    | assumption | apply State.raise_quiet

theorem State.ringCount_quiet {s0 s : State} (h : Quiet s0 s) (m) :
    Quiet s0 (State.ringCount s m) := by
  unfold State.ringCount
  repeat' with_reducible first
    | assumption | apply State.ringRaise_quiet | apply State.setRing_quiet | apply Quiet.ite | split | dsimp only
    | apply Quiet.record

theorem State.issued_quiet {s0 s : State} (h : Quiet s0 s) (f x2) :
    Quiet s0 (State.issued s f x2) := by
  unfold State.issued
  repeat' with_reducible first
    | intro _ | assumption | apply State.ringCount_quiet | apply State.freeTag_quiet | apply State.count_quiet
    | apply State.put_quiet | apply Quiet.ite | apply Quiet.fst_ite | apply Quiet.foldl | apply Quiet.foldl_fst
    | split | dsimp only | apply Quiet.record

theorem State.cplRelease_quiet {s0 s : State} (h : Quiet s0 s) (n) : Quiet s0 (State.cplRelease n s) := by
  induction n generalizing s with
  | zero => exact h
  | succ n ih =>
    unfold State.cplRelease
    split
    · exact h
    · refine Quiet.ite (ih (State.emit_quiet (Quiet.record h) _)) h

theorem State.drainPosts_quiet {s0 s : State} (h : Quiet s0 s) (f n) : Quiet s0 (State.drainPosts f n s) := by
  induction n generalizing s with
  | zero => exact h
  | succ n ih =>
    unfold State.drainPosts
    repeat' with_reducible first
      | assumption | apply ih | apply State.issued_quiet | apply State.emit_quiet | apply State.setFn_quiet
      | apply Quiet.ite | split | dsimp only | apply Quiet.record

theorem State.drain_quiet {s0 s : State} (h : Quiet s0 s) (f) :
    Quiet s0 (State.drain s f) := by
  unfold State.drain
  repeat' with_reducible first
    | assumption | apply State.drainPosts_quiet | apply State.cplRelease_quiet | dsimp only

theorem State.posts_quiet {s0 s : State} (h : Quiet s0 s) (f ps) :
    Quiet s0 (State.posts s f ps) := by
  unfold State.posts
  repeat' with_reducible first
    | assumption | apply State.drain_quiet | apply State.setFn_quiet | apply Quiet.record

theorem State.dataWrite_quiet {s0 s : State} (h : Quiet s0 s) (f addr data) :
    Quiet s0 (State.dataWrite s f addr data) := by
  unfold State.dataWrite
  repeat' with_reducible first
    | intro _ | assumption | apply State.posts_quiet | dsimp only | apply Quiet.record

theorem State.pumpReads_quiet {s0 s : State} (h : Quiet s0 s) (f n) : Quiet s0 (State.pumpReads f n s) := by
  induction n generalizing s with
  | zero => exact h
  | succ n ih =>
    unfold State.pumpReads
    repeat' with_reducible first
      | assumption | apply ih | apply State.emit_quiet | apply State.setFn_quiet
      | apply Quiet.ite | split | dsimp only | apply Quiet.record

theorem State.issueReads_quiet {s0 s : State} (h : Quiet s0 s) (f) :
    Quiet s0 (State.issueReads s f) := by
  unfold State.issueReads
  repeat' with_reducible first
    | assumption | apply State.pumpReads_quiet

theorem State.hostRead_quiet {s0 s : State} (h : Quiet s0 s) (f addr len purpose) :
    Quiet s0 (State.hostRead s f addr len purpose) := by
  unfold State.hostRead
  repeat' with_reducible first
    | intro _ | assumption | apply State.issueReads_quiet | apply State.setFn_quiet | dsimp only | apply Quiet.record

theorem State.dropFw_quiet {s0 s : State} (h : Quiet s0 s) (p) :
    Quiet s0 (State.dropFw s p) := by
  unfold State.dropFw
  repeat' with_reducible first
    | intro _ | assumption | dsimp only | apply Quiet.record

/-! ### Lands -/

theorem State.emitOn_quiet {s0 s : State} (h : Quiet s0 s) (f o) :
    Quiet s0 (State.emitOn s f o) := by
  unfold State.emitOn
  repeat' with_reducible first
    | assumption | apply State.emit_quiet | apply Quiet.ite | split

/-! ### Interrupts -/

theorem State.msixPost_quiet {s0 s : State} (h : Quiet s0 s) (f x) :
    Quiet s0 (State.msixPost s f x) := by
  unfold State.msixPost
  repeat' with_reducible first
    | assumption | apply State.posts_quiet | apply Quiet.record

theorem State.msixDue_quiet {s0 s : State} (h : Quiet s0 s) (f x) :
    Quiet s0 (State.msixDue s f x) := by
  unfold State.msixDue
  repeat' with_reducible first
    | assumption | apply State.msixPost_quiet | apply State.put_quiet | apply Quiet.ite | split

theorem State.levelFell_quiet {s0 s : State} (h : Quiet s0 s) (f x) :
    Quiet s0 (State.levelFell s f x) := by
  unfold State.levelFell
  repeat' with_reducible first
    | intro _ | assumption | apply State.setFn_quiet | apply State.put_quiet | apply Quiet.ite | split | dsimp only
    | apply Quiet.record

theorem State.levelFalls_quiet {s0 s : State} (h : Quiet s0 s) :
    Quiet s0 (State.levelFalls s) := by
  unfold State.levelFalls
  repeat' with_reducible first
    | intro _ | assumption | apply State.levelFell_quiet | apply Quiet.ite | apply Quiet.fst_ite | apply Quiet.foldl
    | apply Quiet.foldl_fst | split | dsimp only

theorem State.levelHigh_quiet {s0 s : State} (h : Quiet s0 s) (f x) :
    Quiet s0 (State.levelHigh s f x) := by
  unfold State.levelHigh
  repeat' with_reducible first
    | assumption | apply Quiet.record

theorem State.levelSeen_quiet {s0 s : State} (h : Quiet s0 s) (f x) :
    Quiet s0 (State.levelSeen s f x) := by
  unfold State.levelSeen
  repeat' with_reducible first
    | assumption | apply State.levelHigh_quiet | apply State.levelFell_quiet | apply State.msixDue_quiet
    | apply Quiet.ite | split

theorem State.msixPending_quiet {s0 s : State} (h : Quiet s0 s) (f x) :
    Quiet s0 (State.msixPending s f x) := by
  unfold State.msixPending
  repeat' with_reducible first
    | assumption | apply State.msixPost_quiet | apply Quiet.ite | split

theorem State.rearm_quiet {s0 s : State} (h : Quiet s0 s) (f v) :
    Quiet s0 (State.rearm s f v) := by
  unfold State.rearm
  repeat' with_reducible first
    | intro _ | assumption | apply State.levelHigh_quiet | apply State.msixDue_quiet | apply Quiet.ite
    | apply Quiet.foldl | split | dsimp only

/-! ### Rings -/

theorem State.setSq_quiet {s0 s : State} (h : Quiet s0 s) (n x) :
    Quiet s0 (State.setSq s n x) := by
  unfold State.setSq
  repeat' with_reducible first
    | assumption | apply Quiet.record

theorem State.dropFetch_quiet {s0 s : State} (h : Quiet s0 s) (n) :
    Quiet s0 (State.dropFetch s n) := by
  unfold State.dropFetch
  repeat' with_reducible first
    | intro _ | assumption | apply State.setFn_quiet | dsimp only

theorem State.postRecord_quiet {s0 s : State} (h : Quiet s0 s) (m tag sq kind index esw echo k) :
    Quiet s0 (State.postRecord s m tag sq kind index esw echo k) := by
  unfold State.postRecord
  repeat' with_reducible first
    | assumption | apply State.posts_quiet | apply State.setRing_quiet | dsimp only | apply Quiet.record

theorem State.unreserve_quiet {s0 s : State} (h : Quiet s0 s) (m) :
    Quiet s0 (State.unreserve s m) := by
  unfold State.unreserve
  repeat' with_reducible first
    | assumption | apply State.setRing_quiet | dsimp only | apply Quiet.record

theorem State.postAdmin_quiet {s0 s : State} (h : Quiet s0 s) (slot status reply entry) :
    Quiet s0 (State.postAdmin s slot status reply entry) := by
  unfold State.postAdmin
  repeat' with_reducible first
    | assumption | apply State.unreserve_quiet | apply State.postRecord_quiet | dsimp only

/-! ### Flags -/

theorem State.writeFld_quiet {s0 s : State} (h : Quiet s0 s) (u mid v f) :
    Quiet s0 (State.writeFld s u mid v f) := by
  unfold State.writeFld
  repeat' with_reducible first
    | assumption | apply State.put_quiet | apply Quiet.ite | split | dsimp only

theorem State.writeFlds_quiet {s0 s : State} (h : Quiet s0 s) (mid v fs) :
    Quiet s0 (State.writeFlds s mid v fs) := by
  unfold State.writeFlds
  repeat' with_reducible first
    | intro _ | assumption | apply State.writeFld_quiet | apply Quiet.foldl | dsimp only

/-! ### Flits -/

theorem State.setPt_quiet {s0 s : State} (h : Quiet s0 s) (p x) :
    Quiet s0 (State.setPt s p x) := by
  unfold State.setPt
  repeat' with_reducible first
    | assumption | apply Quiet.ite | split | apply Quiet.record

theorem State.alignAll_quiet {s0 s : State} (h : Quiet s0 s) (p n) :
    Quiet s0 (State.alignAll s p n) := by
  unfold State.alignAll
  repeat' with_reducible first
    | intro _ | assumption | apply State.emit_quiet | apply Quiet.ite | apply Quiet.fst_ite | apply Quiet.foldl
    | apply Quiet.foldl_fst | split | dsimp only

theorem State.txFlit_quiet {s0 s : State} (h : Quiet s0 s) (p f) :
    Quiet s0 (State.txFlit s p f) := by
  unfold State.txFlit
  repeat' with_reducible first
    | assumption | apply State.alignAll_quiet | apply State.setPt_quiet | apply State.emit_quiet | apply Quiet.ite
    | apply Quiet.fst_ite | split | dsimp only | apply Quiet.record

theorem State.freed_quiet {s0 s : State} (h : Quiet s0 s) (f) :
    Quiet s0 (State.freed s f) := by
  unfold State.freed
  repeat' with_reducible first
    | assumption | apply State.setPt_quiet | split | dsimp only

theorem State.pump_quiet {s0 s : State} (h : Quiet s0 s) (p n) : Quiet s0 (State.pump p n s) := by
  induction n generalizing s with
  | zero => exact h
  | succ n ih =>
    unfold State.pump
    dsimp only
    split
    · exact h
    · split
      · exact h
      · exact ih (State.txFlit_quiet (State.freed_quiet (State.put_quiet (State.setPt_quiet h _ _) _ _) _) _ _)

theorem State.pumpAll_quiet {s0 s : State} (h : Quiet s0 s) (p) :
    Quiet s0 (State.pumpAll s p) := by
  unfold State.pumpAll
  repeat' with_reducible first
    | assumption | apply State.pump_quiet

theorem State.sendOn_quiet {s0 s : State} (h : Quiet s0 s) (p f) :
    Quiet s0 (State.sendOn s p f) := by
  unfold State.sendOn
  repeat' with_reducible first
    | assumption | apply State.pumpAll_quiet | apply State.freed_quiet | apply State.setPt_quiet | apply Quiet.ite
    | split | dsimp only | apply Quiet.record

theorem State.sendTo_quiet {s0 s : State} (h : Quiet s0 s) (type dst payload poison) :
    Quiet s0 (State.sendTo s type dst payload poison) := by
  unfold State.sendTo
  repeat' with_reducible first
    | assumption | apply State.sendOn_quiet | split | dsimp only | apply Quiet.record

theorem State.rxHeader_quiet {s0 s : State} (h : Quiet s0 s) (p f) :
    Quiet s0 (State.rxHeader s p f) := by
  unfold State.rxHeader
  repeat' with_reducible first
    | assumption | apply State.pumpAll_quiet | apply State.setPt_quiet | dsimp only | apply Quiet.record

/-! ### Programs -/

theorem State.setOp_quiet {s0 s : State} (h : Quiet s0 s) (a o) :
    Quiet s0 (State.setOp s a o) := by
  unfold State.setOp
  repeat' with_reducible first
    | assumption | apply Quiet.record

theorem State.updOp_quiet {s0 s : State} (h : Quiet s0 s) (a f) :
    Quiet s0 (State.updOp s a f) := by
  unfold State.updOp
  repeat' with_reducible first
    | assumption | apply State.setOp_quiet | split | dsimp only

theorem State.endOp_quiet {s0 s : State} (h : Quiet s0 s) (a status detail) :
    Quiet s0 (State.endOp s a status detail) := by
  unfold State.endOp
  repeat' with_reducible first
    | intro _ | assumption | apply State.updOp_quiet | apply Quiet.ite | split | apply Quiet.record

theorem State.endToken_quiet {s0 s : State} (h : Quiet s0 s) (token status detail) :
    Quiet s0 (State.endToken s token status detail) := by
  unfold State.endToken
  repeat' with_reducible first
    | assumption | apply State.endOp_quiet | split | dsimp only

theorem State.sendCancels_quiet {s0 s : State} (h : Quiet s0 s) (fn) :
    Quiet s0 (State.sendCancels s fn) := by
  unfold State.sendCancels
  repeat' with_reducible first
    | intro _ | assumption | apply State.sendTo_quiet | apply Quiet.ite | apply Quiet.fst_ite | apply Quiet.foldl
    | apply Quiet.foldl_fst | split | dsimp only | apply Quiet.record

/-! ### Faults -/

theorem State.adminDisable_quiet {s0 s : State} (h : Quiet s0 s) :
    Quiet s0 (State.adminDisable s) := by
  unfold State.adminDisable
  repeat' with_reducible first
    | assumption | apply State.put_quiet | apply Quiet.record

/-! ### Can -/

theorem State.portFunc_quiet {s0 s : State} (h : Quiet s0 s) (a cls func f) (hk : ∀ t r, Quiet s0 t → Quiet s0 (f t r)) :
    Quiet s0 (State.portFunc s a cls func f) := by
  unfold State.portFunc
  repeat' with_reducible first
    | intro _ | assumption | apply hk | split | dsimp only

/-! ### Lin -/

theorem State.setLin_quiet {s0 s : State} (h : Quiet s0 s) (m x) :
    Quiet s0 (State.setLin s m x) := by
  unfold State.setLin
  repeat' with_reducible first
    | assumption | apply Quiet.record

theorem State.runSchedule_quiet {s0 s : State} (h : Quiet s0 s) (m a t passes) :
    Quiet s0 (State.runSchedule s m a t passes) := by
  unfold State.runSchedule
  repeat' with_reducible first
    | assumption | apply State.setLin_quiet | apply State.endOp_quiet | apply Quiet.ite | split | dsimp only
    | apply Quiet.record

theorem State.stopSchedule_quiet {s0 s : State} (h : Quiet s0 s) (m a) :
    Quiet s0 (State.stopSchedule s m a) := by
  unfold State.stopSchedule
  repeat' with_reducible first
    | assumption | apply State.setLin_quiet | apply State.endOp_quiet | apply Quiet.ite | split | dsimp only
    | apply Quiet.record

theorem State.gotoSleep_quiet {s0 s : State} (h : Quiet s0 s) (m a) :
    Quiet s0 (State.gotoSleep s m a) := by
  unfold State.gotoSleep
  repeat' with_reducible first
    | assumption | apply State.setLin_quiet | apply State.endOp_quiet | apply Quiet.ite | split | apply Quiet.record

theorem State.linPulse_quiet {s0 s : State} (h : Quiet s0 s) (m a) :
    Quiet s0 (State.linPulse s m a) := by
  unfold State.linPulse
  repeat' with_reducible first
    | assumption | apply State.setLin_quiet | apply State.emitOn_quiet | apply Quiet.record

theorem State.linPulseEnd_quiet {s0 s : State} (h : Quiet s0 s) (m) :
    Quiet s0 (State.linPulseEnd s m) := by
  unfold State.linPulseEnd
  repeat' with_reducible first
    | assumption | apply State.setLin_quiet | apply State.endToken_quiet | split | dsimp only | apply Quiet.record

/-! ### Sent -/

theorem State.setSent_quiet {s0 s : State} (h : Quiet s0 s) (m x) :
    Quiet s0 (State.setSent s m x) := by
  unfold State.setSent
  repeat' with_reducible first
    | assumption | apply Quiet.record

theorem State.sentDecoding_quiet {s0 s : State} (h : Quiet s0 s) (m a on) :
    Quiet s0 (State.sentDecoding s m a on) := by
  unfold State.sentDecoding
  repeat' with_reducible first
    | assumption | apply State.setSent_quiet | apply State.endOp_quiet | apply Quiet.record

/-! ### Serial -/

theorem State.setBp_quiet {s0 s : State} (h : Quiet s0 s) (cls m x) :
    Quiet s0 (State.setBp s cls m x) := by
  unfold State.setBp
  repeat' with_reducible first
    | assumption | apply Quiet.ite | split | apply Quiet.record

theorem State.ctsSeen_quiet {s0 s : State} (h : Quiet s0 s) (m) :
    Quiet s0 (State.ctsSeen s m) := by
  unfold State.ctsSeen
  repeat' with_reducible first
    | assumption | apply State.setBp_quiet | apply Quiet.ite | split | dsimp only | apply Quiet.record

theorem State.ctsChange_quiet {s0 s : State} (h : Quiet s0 s) (m level) :
    Quiet s0 (State.ctsChange s m level) := by
  unfold State.ctsChange
  repeat' with_reducible first
    | assumption | apply State.ctsSeen_quiet | apply State.setBp_quiet | apply Quiet.record

theorem State.cardReset_quiet {s0 s : State} (h : Quiet s0 s) (m a what) :
    Quiet s0 (State.cardReset s m a what) := by
  unfold State.cardReset
  repeat' with_reducible first
    | intro _ | assumption | apply State.updOp_quiet | apply State.emitOn_quiet | apply State.put_quiet
    | apply Quiet.record

theorem State.cardActivate_quiet {s0 s : State} (h : Quiet s0 s) (m a) :
    Quiet s0 (State.cardActivate s m a) := by
  unfold State.cardActivate
  repeat' with_reducible first
    | assumption | apply State.cardReset_quiet | apply State.endOp_quiet | apply Quiet.ite | split | dsimp only

theorem State.cardWarm_quiet {s0 s : State} (h : Quiet s0 s) (m a) :
    Quiet s0 (State.cardWarm s m a) := by
  unfold State.cardWarm
  repeat' with_reducible first
    | assumption | apply State.cardReset_quiet | apply State.endOp_quiet | apply Quiet.ite | split | dsimp only

/-! ### Eth -/

theorem State.timRaise_quiet {s0 s : State} (h : Quiet s0 s) (bit) :
    Quiet s0 (State.timRaise s bit) := by
  unfold State.timRaise
  repeat' with_reducible first
    | assumption | apply State.raise_quiet

theorem State.ptpEdge_quiet {s0 s : State} (h : Quiet s0 s) :
    Quiet s0 (State.ptpEdge s) := by
  unfold State.ptpEdge
  repeat' with_reducible first
    | assumption | apply State.timRaise_quiet | apply Quiet.ite | split | dsimp only | apply Quiet.record

theorem State.ptpTick_quiet {s0 s : State} (h : Quiet s0 s) :
    Quiet s0 (State.ptpTick s) := by
  unfold State.ptpTick
  repeat' with_reducible first
    | assumption | apply State.ptpEdge_quiet | apply Quiet.ite | split | dsimp only | apply Quiet.record

theorem State.timSet_quiet {s0 s : State} (h : Quiet s0 s) (mid v) :
    Quiet s0 (State.timSet s mid v) := by
  unfold State.timSet
  repeat' with_reducible first
    | assumption | apply State.timRaise_quiet | apply Quiet.ite | split | apply Quiet.record

theorem State.timRate_quiet {s0 s : State} (h : Quiet s0 s) (mid v) :
    Quiet s0 (State.timRate s mid v) := by
  unfold State.timRate
  repeat' with_reducible first
    | assumption | apply State.put_quiet | apply Quiet.ite | split | dsimp only

theorem State.timSlew_quiet {s0 s : State} (h : Quiet s0 s) (mid v) :
    Quiet s0 (State.timSlew s mid v) := by
  unfold State.timSlew
  repeat' with_reducible first
    | assumption | apply State.timRaise_quiet | apply Quiet.ite | split | dsimp only | apply Quiet.record

theorem State.slewDone_quiet {s0 s : State} (h : Quiet s0 s) :
    Quiet s0 (State.slewDone s) := by
  unfold State.slewDone
  repeat' with_reducible first
    | assumption | apply State.timRaise_quiet | apply Quiet.ite | split | apply Quiet.record

theorem State.crossStamp_quiet {s0 s : State} (h : Quiet s0 s) :
    Quiet s0 (State.crossStamp s) := by
  unfold State.crossStamp
  repeat' with_reducible first
    | assumption | apply State.put_quiet

theorem State.capEdge_quiet {s0 s : State} (h : Quiet s0 s) (n rising) :
    Quiet s0 (State.capEdge s n rising) := by
  unfold State.capEdge
  repeat' with_reducible first
    | assumption | apply State.timRaise_quiet | apply State.put_quiet | apply Quiet.ite | split | dsimp only
    | apply Quiet.record

theorem State.ppsEdge_quiet {s0 s : State} (h : Quiet s0 s) (n) :
    Quiet s0 (State.ppsEdge s n) := by
  unfold State.ppsEdge
  repeat' with_reducible first
    | assumption | apply State.emitOn_quiet | apply Quiet.ite | split

theorem State.plcaBeacon_quiet {s0 s : State} (h : Quiet s0 s) :
    Quiet s0 (State.plcaBeacon s) := by
  unfold State.plcaBeacon
  repeat' with_reducible first
    | assumption | apply State.put_quiet | apply Quiet.ite | split

/-! ### Gateway -/

theorem State.gainTokens_quiet {s0 s : State} (h : Quiet s0 s) :
    Quiet s0 (State.gainTokens s) := by
  unfold State.gainTokens
  repeat' with_reducible first
    | intro _ | assumption | apply Quiet.foldl | apply Quiet.foldl_fst | dsimp only | apply Quiet.record

/-! ### Queues -/

theorem State.qmgRaise_quiet {s0 s : State} (h : Quiet s0 s) (bit) :
    Quiet s0 (State.qmgRaise s bit) := by
  unfold State.qmgRaise
  repeat' with_reducible first
    | assumption | apply State.raise_quiet

theorem State.crHead_quiet {s0 s : State} (h : Quiet s0 s) (m mid v) :
    Quiet s0 (State.crHead s m mid v) := by
  unfold State.crHead
  repeat' with_reducible first
    | assumption | apply State.qmgRaise_quiet | apply State.ringRaise_quiet | apply State.setRing_quiet
    | apply Quiet.ite | split | dsimp only | apply Quiet.record

theorem State.entryFetch_quiet {s0 s : State} (h : Quiet s0 s) (n) :
    Quiet s0 (State.entryFetch s n) := by
  unfold State.entryFetch
  repeat' with_reducible first
    | assumption | apply State.hostRead_quiet | apply Quiet.ite | split | dsimp only | apply Quiet.record

theorem State.adminFetch_quiet {s0 s : State} (h : Quiet s0 s) :
    Quiet s0 (State.adminFetch s) := by
  unfold State.adminFetch
  repeat' with_reducible first
    | assumption | apply State.hostRead_quiet | apply Quiet.ite | split | dsimp only

theorem State.adminDone_quiet {s0 s : State} (h : Quiet s0 s) :
    Quiet s0 (State.adminDone s) := by
  unfold State.adminDone
  repeat' with_reducible first
    | assumption | apply State.postAdmin_quiet | split | dsimp only | apply Quiet.record

theorem State.adminAbort_quiet {s0 s : State} (h : Quiet s0 s) :
    Quiet s0 (State.adminAbort s) := by
  unfold State.adminAbort
  repeat' with_reducible first
    | intro _ | assumption | apply State.postAdmin_quiet | apply State.dropFetch_quiet | apply State.dropFw_quiet
    | apply Quiet.foldl | dsimp only | apply Quiet.record

theorem State.adminEnable_quiet {s0 s : State} (h : Quiet s0 s) (f) :
    Quiet s0 (State.adminEnable s f) := by
  unfold State.adminEnable
  repeat' with_reducible first
    | assumption | apply State.setSq_quiet | apply State.setRing_quiet | apply State.put_quiet | apply Quiet.ite
    | split | dsimp only | apply Quiet.record

theorem State.putDepth_quiet {s0 s : State} (h : Quiet s0 s) (f k) :
    Quiet s0 (State.putDepth s f k) := by
  unfold State.putDepth
  repeat' with_reducible first
    | assumption | apply State.put_quiet | apply Quiet.ite | split

theorem State.admCtlWrite_quiet {s0 s : State} (h : Quiet s0 s) (mid v) :
    Quiet s0 (State.admCtlWrite s mid v) := by
  unfold State.admCtlWrite
  repeat' with_reducible first
    | assumption | apply State.putDepth_quiet | apply State.adminEnable_quiet | apply State.adminDisable_quiet
    | apply Quiet.ite | split | dsimp only

theorem State.adminDisableEnd_quiet {s0 s : State} (h : Quiet s0 s) :
    Quiet s0 (State.adminDisableEnd s) := by
  unfold State.adminDisableEnd
  repeat' with_reducible first
    | assumption | apply State.adminAbort_quiet | apply State.setSq_quiet | apply State.setRing_quiet
    | apply State.put_quiet | apply Quiet.ite | split | dsimp only | apply Quiet.record

theorem State.ringDelay_quiet {s0 s : State} (h : Quiet s0 s) (m) :
    Quiet s0 (State.ringDelay s m) := by
  unfold State.ringDelay
  repeat' with_reducible first
    | assumption | apply State.ringRaise_quiet | apply State.setRing_quiet | apply Quiet.ite | split | dsimp only
    | apply Quiet.record

theorem State.shutdownDone_quiet {s0 s : State} (h : Quiet s0 s) (n) :
    Quiet s0 (State.shutdownDone s n) := by
  unfold State.shutdownDone
  repeat' with_reducible first
    | assumption | apply State.setSq_quiet | apply Quiet.ite | split | dsimp only | apply Quiet.record

/-! ### Buffers -/

theorem State.bufRefused_quiet {s0 s : State} (h : Quiet s0 s) (q reason) :
    Quiet s0 (State.bufRefused s q reason) := by
  unfold State.bufRefused
  repeat' with_reducible first
    | assumption | apply State.raise_quiet | apply State.put_quiet

theorem State.qCfgWrite_quiet {s0 s : State} (h : Quiet s0 s) (q v) :
    Quiet s0 (State.qCfgWrite s q v) := by
  unfold State.qCfgWrite
  repeat' with_reducible first
    | assumption | apply State.bufRefused_quiet | apply State.qEmptyOut_quiet | apply State.put_quiet
    | apply Quiet.ite | split | dsimp only

/-! ### Pins -/

theorem State.parkNow_quiet {s0 s : State} (h : Quiet s0 s) (n) :
    Quiet s0 (State.parkNow s n) := by
  unfold State.parkNow
  repeat' with_reducible first
    | assumption | apply Quiet.ite | split | dsimp only | apply Quiet.record

theorem State.pinCtlWrite_quiet {s0 s : State} (h : Quiet s0 s) (mid v) :
    Quiet s0 (State.pinCtlWrite s mid v) := by
  unfold State.pinCtlWrite
  repeat' with_reducible first
    | assumption | apply State.writeFlds_quiet

theorem State.pinsRelease_quiet {s0 s : State} (h : Quiet s0 s) :
    Quiet s0 (State.pinsRelease s) := by
  unfold State.pinsRelease
  repeat' with_reducible first
    | intro _ | assumption | apply State.parkNow_quiet | apply State.put_quiet | apply Quiet.ite | apply Quiet.foldl
    | split | dsimp only

/-! ### Ledger -/

theorem State.setLdg_quiet {s0 s : State} (h : Quiet s0 s) (l) :
    Quiet s0 (State.setLdg s l) := by
  unfold State.setLdg
  repeat' with_reducible first
    | assumption | apply Quiet.record

theorem State.exportedWrite_quiet {s0 s : State} (h : Quiet s0 s) (v) :
    Quiet s0 (State.exportedWrite s v) := by
  unfold State.exportedWrite
  repeat' with_reducible first
    | assumption | apply State.setLdg_quiet | apply Quiet.ite | split | apply Quiet.record

/-! ### Hinge -/

theorem State.semRead_quiet {s0 s : State} (h : Quiet s0 s) (k w) :
    Quiet s0 (State.semRead s k w).1 := by
  unfold State.semRead
  repeat' with_reducible first
    | assumption | apply Quiet.ite | apply Quiet.fst_ite | split | dsimp only | apply Quiet.record

theorem State.lxbLockRead_quiet {s0 s : State} (h : Quiet s0 s) (mid) :
    Quiet s0 (State.lxbLockRead s mid).1 := by
  unfold State.lxbLockRead
  repeat' with_reducible first
    | assumption | apply Quiet.ite | apply Quiet.fst_ite | split | dsimp only | apply Quiet.record

/-! ### Pintle -/

theorem State.sendTs1_quiet {s0 s : State} (h : Quiet s0 s) (p rxSel recovery) :
    Quiet s0 (State.sendTs1 s p rxSel recovery) := by
  unfold State.sendTs1
  repeat' with_reducible first
    | intro _ | assumption | apply State.emit_quiet | apply Quiet.foldl | dsimp only

theorem State.portTrain_quiet {s0 s : State} (h : Quiet s0 s) (p) :
    Quiet s0 (State.portTrain s p) := by
  unfold State.portTrain
  repeat' with_reducible first
    | assumption | apply State.sendTs1_quiet | apply State.setPt_quiet | apply State.put_quiet | apply Quiet.ite
    | split

theorem State.unsequenced_quiet {s0 s : State} (h : Quiet s0 s) (p f k) (hk : ∀ t, Quiet s0 t → Quiet s0 (k t)) :
    Quiet s0 (State.unsequenced s p f k) := by
  unfold State.unsequenced
  repeat' with_reducible first
    | intro _ | assumption | apply hk | apply State.rxHeader_quiet | apply Quiet.ite | split

/-! ### Pair -/

theorem State.sendEpoch_quiet {s0 s : State} (h : Quiet s0 s) (e) :
    Quiet s0 (State.sendEpoch s e) := by
  unfold State.sendEpoch
  repeat' with_reducible first
    | intro _ | assumption | apply State.sendTo_quiet | apply Quiet.foldl | apply Quiet.foldl_fst | dsimp only

theorem State.closeEpoch_quiet {s0 s : State} (h : Quiet s0 s) :
    Quiet s0 (State.closeEpoch s) := by
  unfold State.closeEpoch
  repeat' with_reducible first
    | intro _ | assumption | apply State.sendEpoch_quiet | apply State.setLdg_quiet | apply State.put_quiet
    | apply Quiet.ite | apply Quiet.foldl | split | dsimp only | apply Quiet.record

theorem State.sendHeartbeat_quiet {s0 s : State} (h : Quiet s0 s) :
    Quiet s0 (State.sendHeartbeat s) := by
  unfold State.sendHeartbeat
  repeat' with_reducible first
    | assumption | apply State.setLdg_quiet | apply State.sendTo_quiet | apply Quiet.ite | split | dsimp only
    | apply Quiet.record

/-! ### HostIf -/

theorem State.unstageMsix_quiet {s0 s : State} (h : Quiet s0 s) (f) :
    Quiet s0 (State.unstageMsix s f) := by
  unfold State.unstageMsix
  repeat' with_reducible first
    | intro _ | assumption | apply State.setFn_quiet | apply State.put_quiet | apply Quiet.foldl | split | dsimp only
    | apply Quiet.record

theorem State.release_quiet {s0 s : State} (h : Quiet s0 s) (f) :
    Quiet s0 (State.release s f) := by
  unfold State.release
  repeat' with_reducible first
    | assumption | apply State.sendCancels_quiet | apply State.issueReads_quiet | apply State.drain_quiet

theorem State.busMasterSet_quiet {s0 s : State} (h : Quiet s0 s) (f bme d3) :
    Quiet s0 (State.busMasterSet s f bme d3) := by
  unfold State.busMasterSet
  repeat' with_reducible first
    | assumption | apply State.release_quiet | apply State.unstageMsix_quiet | apply State.cplRelease_quiet
    | apply State.flag_quiet | apply Quiet.ite | split | dsimp only

theorem State.linkFields_quiet {s0 s : State} (h : Quiet s0 s) (up width speed) :
    Quiet s0 (State.linkFields s up width speed) := by
  unfold State.linkFields
  repeat' with_reducible first
    | assumption | apply State.put_quiet

theorem State.pcieUp_quiet {s0 s : State} (h : Quiet s0 s) (x2 speed) :
    Quiet s0 (State.pcieUp s x2 speed) := by
  unfold State.pcieUp
  repeat' with_reducible first
    | assumption | apply State.linkFields_quiet | apply Quiet.ite | split

/-! ### Reset -/

theorem State.coldReset_quiet {s0 s : State} (h : Quiet s0 s) : Quiet s0 s.coldReset := h.trans ⟨fun _ => rfl⟩

theorem State.warmReset_quiet {s0 s : State} (h : Quiet s0 s) (a) : Quiet s0 (s.warmReset a) := by
  unfold State.warmReset
  extract_lets s1 kept src t src' t'
  have h1 : Quiet s0 s1 := State.pinsRelease_quiet h
  clear_value s1
  have ht : Quiet s0 t :=
    h1.trans ⟨fun _ => rfl⟩
  clear_value t
  have hc := State.cold_quiet ht (trcFields ++ fltCounters)
  have ht' : Quiet s0 t' := by
    show Quiet s0 (if 2 ≤ s1.power then { t.cold (trcFields ++ fltCounters) with trcBuf := [], sinkLag := 0 } else t)
    generalize t.cold (trcFields ++ fltCounters) = u at hc
    exact Quiet.ite (Quiet.record hc) ht
  clear_value t'
  exact State.put_quiet (State.put_quiet (State.flag_quiet (State.put_quiet ht' _ _) _ _) _ _) _ _

theorem State.askReset_quiet {s0 s : State} (h : Quiet s0 s) (a) :
    Quiet s0 (State.askReset s a) := by
  unfold State.askReset
  repeat' with_reducible first
    | assumption | apply Quiet.ite | split | dsimp only | apply Quiet.record

theorem State.glbResetWrite_quiet {s0 s : State} (h : Quiet s0 s) (mid v) :
    Quiet s0 (State.glbResetWrite s mid v) := by
  unfold State.glbResetWrite
  repeat' with_reducible first
    | assumption | apply State.askReset_quiet | apply Quiet.ite | split | apply Quiet.record

theorem State.wdogKick_quiet {s0 s : State} (h : Quiet s0 s) (mid v) :
    Quiet s0 (State.wdogKick s mid v) := by
  unfold State.wdogKick
  repeat' with_reducible first
    | assumption | apply Quiet.ite | split | apply Quiet.record

/-! ### Supply -/

theorem State.holdCold_quiet {s0 s : State} (h : Quiet s0 s) (feed) :
    Quiet s0 (State.holdCold s feed) := by
  unfold State.holdCold
  repeat' with_reducible first
    | assumption | apply State.coldReset_quiet | apply State.setSup_quiet | dsimp only | apply Quiet.record

theorem State.wake_quiet {s0 s : State} (h : Quiet s0 s) :
    Quiet s0 (State.wake s) := by
  unfold State.wake
  repeat' with_reducible first
    | assumption | apply State.askReset_quiet | apply State.put_quiet | apply Quiet.record

theorem State.pwrTick_quiet {s0 s : State} (h : Quiet s0 s) : Quiet s0 s.pwrTick :=
  Quiet.ite (State.raise_quiet (State.put_quiet h _ _) _ _ _) h

theorem State.perstHigh_quiet {s0 s : State} (h : Quiet s0 s) :
    Quiet s0 (State.perstHigh s) := by
  unfold State.perstHigh
  repeat' with_reducible first
    | assumption | apply State.wake_quiet | apply State.put_quiet | apply Quiet.ite | split | dsimp only

/-! ### Thermal -/

theorem State.thmCmdWrite_quiet {s0 s : State} (h : Quiet s0 s) (mid v) :
    Quiet s0 (State.thmCmdWrite s mid v) := by
  unfold State.thmCmdWrite
  repeat' with_reducible first
    | assumption | apply Quiet.ite | split | apply Quiet.record

theorem State.thmPeakRead_quiet {s0 s : State} (h : Quiet s0 s) :
    Quiet s0 (State.thmPeakRead s).1 := by
  unfold State.thmPeakRead
  repeat' with_reducible first
    | assumption | apply State.cold_quiet | dsimp only

/-! ### Clock -/

theorem State.monoTick_quiet {s0 s : State} (h : Quiet s0 s) :
    Quiet s0 (State.monoTick s) := by
  unfold State.monoTick
  repeat' with_reducible first
    | assumption | apply State.gainTokens_quiet | apply State.count_quiet | apply Quiet.ite | split | dsimp only
    | apply Quiet.record

theorem State.dutyTick_quiet {s0 s : State} (h : Quiet s0 s) :
    Quiet s0 (State.dutyTick s) := by
  unfold State.dutyTick
  repeat' with_reducible first
    | assumption | apply Quiet.record

/-! ### TalonCmds -/

theorem State.repairStart_quiet {s0 s : State} (h : Quiet s0 s) (mid) :
    Quiet s0 (State.repairStart s mid) := by
  unfold State.repairStart
  repeat' with_reducible first
    | assumption | apply State.put_quiet | apply Quiet.ite | split

/-! ### TraceCmds -/

theorem State.trcRaise_quiet {s0 s : State} (h : Quiet s0 s) (bit) :
    Quiet s0 (State.trcRaise s bit) := by
  unfold State.trcRaise
  repeat' with_reducible first
    | assumption | apply State.raise_quiet

theorem State.markDone_quiet {s0 s : State} (h : Quiet s0 s) (entry) :
    Quiet s0 (State.markDone s entry) := by
  unfold State.markDone
  repeat' with_reducible first
    | assumption | apply State.endOp_quiet | apply Quiet.ite | split | dsimp only

theorem State.sinkLost_quiet {s0 s : State} (h : Quiet s0 s) :
    Quiet s0 (State.sinkLost s) := by
  unfold State.sinkLost
  repeat' with_reducible first
    | assumption | apply State.trcRaise_quiet | apply State.count_quiet | apply Quiet.ite | split | apply Quiet.record

theorem State.trcStore_quiet {s0 s : State} (h : Quiet s0 s) (entry) :
    Quiet s0 (State.trcStore s entry) := by
  unfold State.trcStore
  repeat' with_reducible first
    | assumption | apply State.sinkLost_quiet | apply State.trcRaise_quiet | apply State.count_quiet
    | apply State.put_quiet | apply Quiet.ite | split | dsimp only | apply Quiet.record

theorem State.traceWrite_quiet {s0 s : State} (h : Quiet s0 s) :
    Quiet s0 (State.traceWrite s) := by
  unfold State.traceWrite
  repeat' with_reducible first
    | assumption | apply State.trcStore_quiet | apply State.markDone_quiet | apply State.count_quiet | apply Quiet.ite
    | apply Quiet.fst_ite | split | dsimp only | apply Quiet.record

theorem State.trcClearWrite_quiet {s0 s : State} (h : Quiet s0 s) (mid v) :
    Quiet s0 (State.trcClearWrite s mid v) := by
  unfold State.trcClearWrite
  repeat' with_reducible first
    | assumption | apply State.put_quiet | apply Quiet.ite | split | apply Quiet.record

theorem State.sinkCopy_quiet {s0 s : State} (h : Quiet s0 s) (uncorr) :
    Quiet s0 (State.sinkCopy s uncorr) := by
  unfold State.sinkCopy
  repeat' with_reducible first
    | assumption | apply State.trcRaise_quiet | apply State.dataWrite_quiet | apply State.put_quiet | apply Quiet.ite
    | split | dsimp only | apply Quiet.record

theorem State.tapLoad_quiet {s0 s : State} (h : Quiet s0 s) (i) :
    Quiet s0 (State.tapLoad s i) := by
  unfold State.tapLoad
  repeat' with_reducible first
    | intro _ | assumption | apply State.parkNow_quiet | apply State.put_quiet | apply Quiet.ite | apply Quiet.foldl
    | split | dsimp only | apply Quiet.record

/-! ### Firmware -/

theorem State.fwIgnores_quiet {s0 s : State} (h : Quiet s0 s) (c) :
    Quiet s0 (State.fwIgnores s c) := by
  unfold State.fwIgnores
  repeat' with_reducible first
    | assumption | apply State.mailboxDrop_quiet | apply Quiet.ite | split | dsimp only

/-- After the collector's part no fault event waits. -/
theorem settle_due (s : State) : (settle s).dueFaults = [] :=
  (State.levelFalls_quiet (Quiet.refl _)).due (collectAll_due s)

end Sys2Proof.Machine
end

