-- ==== Sys2Proof/Laws/State.lean ====
section
/-!
SUPPORT. The state after each named update, field by field: a register written reads as what was written, cut to its
width, every other register and every other part of the state as before.
-/

namespace Sys2Proof.Machine

/-! ### Registers -/

/-- A register field written reads as the value, cut to its width. -/
@[simp] theorem State.get_put_same (s : State) (f : Fld) (v : Nat) : (s.put f v).get f = v % 2 ^ f.w :=
  tget_tput_same _ _ _ _

/-- Every other field reads as before. -/
theorem State.get_put_other (s : State) {f g : Fld} (v : Nat) (h : g.key ≠ f.key) : (s.put f v).get g = s.get g := by
  simp only [State.get, State.put, tget_tput_other _ _ h]

@[simp] theorem State.get_flag_same (s : State) (f : Fld) (b : Bool) : (s.flag f b).get f = b2n b % 2 ^ f.w :=
  State.get_put_same _ _ _

theorem State.get_flag_other (s : State) {f g : Fld} (b : Bool) (h : g.key ≠ f.key) : (s.flag f b).get g = s.get g :=
  State.get_put_other _ _ h

@[simp] theorem State.get_count_same (s : State) (f : Fld) (n : Nat) :
    (s.count f n).get f = (s.get f + n) % 2 ^ f.w :=
  State.get_put_same _ _ _

theorem State.get_count_other (s : State) {f g : Fld} (n : Nat) (h : g.key ≠ f.key) :
    (s.count f n).get g = s.get g :=
  State.get_put_other _ _ h

/-- A cause raised: its bit is set, its counter advanced, and no other field changes (R11). -/
theorem State.get_raise_cause (s : State) {evt cnt : Fld} (bit : Nat) (h : evt.key ≠ cnt.key) :
    (s.raise evt bit cnt).get evt = setBit (s.get evt) bit % 2 ^ evt.w := by
  rw [State.raise, State.get_count_other _ _ h, State.get_put_same]

theorem State.get_raise_count (s : State) {evt cnt : Fld} (bit : Nat) (h : cnt.key ≠ evt.key) :
    (s.raise evt bit cnt).get cnt = (s.get cnt + 1) % 2 ^ cnt.w := by
  rw [State.raise, State.get_count_same, State.get_put_other _ _ h]

theorem State.get_raise_other (s : State) {evt cnt g : Fld} (bit : Nat) (h : g.key ≠ evt.key) (h' : g.key ≠ cnt.key) :
    (s.raise evt bit cnt).get g = s.get g := by
  rw [State.raise, State.get_count_other _ _ h', State.get_put_other _ _ h]

@[simp] theorem State.get_emit (s : State) (o : Out) (f : Fld) : (s.emit o).get f = s.get f := rfl
@[simp] theorem State.get_fault (s : State) (e : FaultEv) (f : Fld) : (s.fault e).get f = s.get f := rfl

/-! ### Every other part of the state -/

@[simp] theorem State.put_pending (s : State) (g : Fld) (v : Nat) : (s.put g v).pending = s.pending := rfl
@[simp] theorem State.put_cycle (s : State) (g : Fld) (v : Nat) : (s.put g v).cycle = s.cycle := rfl
@[simp] theorem State.put_dutyCycle (s : State) (g : Fld) (v : Nat) : (s.put g v).dutyCycle = s.dutyCycle := rfl
@[simp] theorem State.put_free (s : State) (g : Fld) (v : Nat) : (s.put g v).free = s.free := rfl
@[simp] theorem State.put_flashFails (s : State) (g : Fld) (v : Nat) : (s.put g v).flashFails = s.flashFails := rfl
@[simp] theorem State.put_flashReads (s : State) (g : Fld) (v : Nat) : (s.put g v).flashReads = s.flashReads := rfl
@[simp] theorem State.put_kcLines (s : State) (g : Fld) (v : Nat) : (s.put g v).kcLines = s.kcLines := rfl
@[simp] theorem State.put_out (s : State) (g : Fld) (v : Nat) : (s.put g v).out = s.out := rfl
@[simp] theorem State.put_readData (s : State) (g : Fld) (v : Nat) : (s.put g v).readData = s.readData := rfl
@[simp] theorem State.put_readLatch (s : State) (g : Fld) (v : Nat) : (s.put g v).readLatch = s.readLatch := rfl
@[simp] theorem State.put_writeHold (s : State) (g : Fld) (v : Nat) : (s.put g v).writeHold = s.writeHold := rfl
@[simp] theorem State.put_farLatches (s : State) (g : Fld) (v : Nat) : (s.put g v).farLatches = s.farLatches := rfl
@[simp] theorem State.put_dueFaults (s : State) (g : Fld) (v : Nat) : (s.put g v).dueFaults = s.dueFaults := rfl
@[simp] theorem State.put_faultEnd (s : State) (g : Fld) (v : Nat) : (s.put g v).faultEnd = s.faultEnd := rfl
@[simp] theorem State.put_up (s : State) (g : Fld) (v : Nat) : (s.put g v).up = s.up := rfl
@[simp] theorem State.put_dn (s : State) (g : Fld) (v : Nat) : (s.put g v).dn = s.dn := rfl
@[simp] theorem State.put_window (s : State) (g : Fld) (v : Nat) : (s.put g v).window = s.window := rfl
@[simp] theorem State.put_pf0 (s : State) (g : Fld) (v : Nat) : (s.put g v).pf0 = s.pf0 := rfl
@[simp] theorem State.put_pf1 (s : State) (g : Fld) (v : Nat) : (s.put g v).pf1 = s.pf1 := rfl
@[simp] theorem State.put_postCredit (s : State) (g : Fld) (v : Nat) : (s.put g v).postCredit = s.postCredit := rfl
@[simp] theorem State.put_readCredit (s : State) (g : Fld) (v : Nat) : (s.put g v).readCredit = s.readCredit := rfl
@[simp] theorem State.put_nextRead (s : State) (g : Fld) (v : Nat) : (s.put g v).nextRead = s.nextRead := rfl
@[simp] theorem State.put_cplWait (s : State) (g : Fld) (v : Nat) : (s.put g v).cplWait = s.cplWait := rfl
@[simp] theorem State.put_lastLevel (s : State) (g : Fld) (v : Nat) : (s.put g v).lastLevel = s.lastLevel := rfl
@[simp] theorem State.put_chans (s : State) (g : Fld) (v : Nat) : (s.put g v).chans = s.chans := rfl
@[simp] theorem State.put_sqs (s : State) (g : Fld) (v : Nat) : (s.put g v).sqs = s.sqs := rfl
@[simp] theorem State.put_rings (s : State) (g : Fld) (v : Nat) : (s.put g v).rings = s.rings := rfl
@[simp] theorem State.put_admin (s : State) (g : Fld) (v : Nat) : (s.put g v).admin = s.admin := rfl
@[simp] theorem State.put_cpHalted (s : State) (g : Fld) (v : Nat) : (s.put g v).cpHalted = s.cpHalted := rfl
@[simp] theorem State.put_fwReads (s : State) (g : Fld) (v : Nat) : (s.put g v).fwReads = s.fwReads := rfl
@[simp] theorem State.put_fwNext (s : State) (g : Fld) (v : Nat) : (s.put g v).fwNext = s.fwNext := rfl
@[simp] theorem State.put_fwTurn (s : State) (g : Fld) (v : Nat) : (s.put g v).fwTurn = s.fwTurn := rfl
@[simp] theorem State.put_sq0Stop (s : State) (g : Fld) (v : Nat) : (s.put g v).sq0Stop = s.sq0Stop := rfl
@[simp] theorem State.put_admStop (s : State) (g : Fld) (v : Nat) : (s.put g v).admStop = s.admStop := rfl
@[simp] theorem State.put_progs (s : State) (g : Fld) (v : Nat) : (s.put g v).progs = s.progs := rfl
@[simp] theorem State.put_readyQ (s : State) (g : Fld) (v : Nat) : (s.put g v).readyQ = s.readyQ := rfl
@[simp] theorem State.put_fetchLast (s : State) (g : Fld) (v : Nat) : (s.put g v).fetchLast = s.fetchLast := rfl
@[simp] theorem State.put_cancels (s : State) (g : Fld) (v : Nat) : (s.put g v).cancels = s.cancels := rfl
@[simp] theorem State.put_ops (s : State) (g : Fld) (v : Nat) : (s.put g v).ops = s.ops := rfl
@[simp] theorem State.put_fetchSeq (s : State) (g : Fld) (v : Nat) : (s.put g v).fetchSeq = s.fetchSeq := rfl
@[simp] theorem State.put_commitSeq (s : State) (g : Fld) (v : Nat) : (s.put g v).commitSeq = s.commitSeq := rfl
@[simp] theorem State.put_sePhys (s : State) (g : Fld) (v : Nat) : (s.put g v).sePhys = s.sePhys := rfl
@[simp] theorem State.put_insts (s : State) (g : Fld) (v : Nat) : (s.put g v).insts = s.insts := rfl
@[simp] theorem State.put_farSlots (s : State) (g : Fld) (v : Nat) : (s.put g v).farSlots = s.farSlots := rfl
@[simp] theorem State.put_wqs (s : State) (g : Fld) (v : Nat) : (s.put g v).wqs = s.wqs := rfl
@[simp] theorem State.put_sram (s : State) (g : Fld) (v : Nat) : (s.put g v).sram = s.sram := rfl
@[simp] theorem State.put_poison (s : State) (g : Fld) (v : Nat) : (s.put g v).poison = s.poison := rfl
@[simp] theorem State.put_upsets (s : State) (g : Fld) (v : Nat) : (s.put g v).upsets = s.upsets := rfl
@[simp] theorem State.put_cans (s : State) (g : Fld) (v : Nat) : (s.put g v).cans = s.cans := rfl
@[simp] theorem State.put_lins (s : State) (g : Fld) (v : Nat) : (s.put g v).lins = s.lins := rfl
@[simp] theorem State.put_sents (s : State) (g : Fld) (v : Nat) : (s.put g v).sents = s.sents := rfl
@[simp] theorem State.put_sers (s : State) (g : Fld) (v : Nat) : (s.put g v).sers = s.sers := rfl
@[simp] theorem State.put_cards (s : State) (g : Fld) (v : Nat) : (s.put g v).cards = s.cards := rfl
@[simp] theorem State.put_eths (s : State) (g : Fld) (v : Nat) : (s.put g v).eths = s.eths := rfl
@[simp] theorem State.put_ptp (s : State) (g : Fld) (v : Nat) : (s.put g v).ptp = s.ptp := rfl
@[simp] theorem State.put_gwIn (s : State) (g : Fld) (v : Nat) : (s.put g v).gwIn = s.gwIn := rfl
@[simp] theorem State.put_gwOut (s : State) (g : Fld) (v : Nat) : (s.put g v).gwOut = s.gwOut := rfl
@[simp] theorem State.put_gwSpent (s : State) (g : Fld) (v : Nat) : (s.put g v).gwSpent = s.gwSpent := rfl
@[simp] theorem State.put_gwSeq (s : State) (g : Fld) (v : Nat) : (s.put g v).gwSeq = s.gwSeq := rfl
@[simp] theorem State.put_grtShadow (s : State) (g : Fld) (v : Nat) : (s.put g v).grtShadow = s.grtShadow := rfl
@[simp] theorem State.put_pinParked (s : State) (g : Fld) (v : Nat) : (s.put g v).pinParked = s.pinParked := rfl
@[simp] theorem State.put_gpioIn (s : State) (g : Fld) (v : Nat) : (s.put g v).gpioIn = s.gpioIn := rfl
@[simp] theorem State.put_gpioOut (s : State) (g : Fld) (v : Nat) : (s.put g v).gpioOut = s.gpioOut := rfl
@[simp] theorem State.put_presIn (s : State) (g : Fld) (v : Nat) : (s.put g v).presIn = s.presIn := rfl
@[simp] theorem State.put_capIn (s : State) (g : Fld) (v : Nat) : (s.put g v).capIn = s.capIn := rfl
@[simp] theorem State.put_tln (s : State) (g : Fld) (v : Nat) : (s.put g v).tln = s.tln := rfl
@[simp] theorem State.put_chain0 (s : State) (g : Fld) (v : Nat) : (s.put g v).chain0 = s.chain0 := rfl
@[simp] theorem State.put_chain1 (s : State) (g : Fld) (v : Nat) : (s.put g v).chain1 = s.chain1 := rfl
@[simp] theorem State.put_injecting (s : State) (g : Fld) (v : Nat) : (s.put g v).injecting = s.injecting := rfl
@[simp] theorem State.put_chain2 (s : State) (g : Fld) (v : Nat) : (s.put g v).chain2 = s.chain2 := rfl
@[simp] theorem State.put_fltOwner (s : State) (g : Fld) (v : Nat) : (s.put g v).fltOwner = s.fltOwner := rfl
@[simp] theorem State.put_reqs (s : State) (g : Fld) (v : Nat) : (s.put g v).reqs = s.reqs := rfl
@[simp] theorem State.put_reqGen (s : State) (g : Fld) (v : Nat) : (s.put g v).reqGen = s.reqGen := rfl
@[simp] theorem State.put_fabric (s : State) (g : Fld) (v : Nat) : (s.put g v).fabric = s.fabric := rfl
@[simp] theorem State.put_fabNext (s : State) (g : Fld) (v : Nat) : (s.put g v).fabNext = s.fabNext := rfl
@[simp] theorem State.put_slotParts (s : State) (g : Fld) (v : Nat) : (s.put g v).slotParts = s.slotParts := rfl
@[simp] theorem State.put_lxbQ (s : State) (g : Fld) (v : Nat) : (s.put g v).lxbQ = s.lxbQ := rfl
@[simp] theorem State.put_lxbLast (s : State) (g : Fld) (v : Nat) : (s.put g v).lxbLast = s.lxbLast := rfl
@[simp] theorem State.put_lxbLock (s : State) (g : Fld) (v : Nat) : (s.put g v).lxbLock = s.lxbLock := rfl
@[simp] theorem State.put_lxbBroken (s : State) (g : Fld) (v : Nat) : (s.put g v).lxbBroken = s.lxbBroken := rfl
@[simp] theorem State.put_lxbOut (s : State) (g : Fld) (v : Nat) : (s.put g v).lxbOut = s.lxbOut := rfl
@[simp] theorem State.put_sems (s : State) (g : Fld) (v : Nat) : (s.put g v).sems = s.sems := rfl
@[simp] theorem State.put_mirrors (s : State) (g : Fld) (v : Nat) : (s.put g v).mirrors = s.mirrors := rfl
@[simp] theorem State.put_rounds (s : State) (g : Fld) (v : Nat) : (s.put g v).rounds = s.rounds := rfl
@[simp] theorem State.put_lxbIrq (s : State) (g : Fld) (v : Nat) : (s.put g v).lxbIrq = s.lxbIrq := rfl
@[simp] theorem State.put_nv (s : State) (g : Fld) (v : Nat) : (s.put g v).nv = s.nv := rfl
@[simp] theorem State.put_ldg (s : State) (g : Fld) (v : Nat) : (s.put g v).ldg = s.ldg := rfl
@[simp] theorem State.put_sup (s : State) (g : Fld) (v : Nat) : (s.put g v).sup = s.sup := rfl
@[simp] theorem State.put_pfAcked (s : State) (g : Fld) (v : Nat) : (s.put g v).pfAcked = s.pfAcked := rfl
@[simp] theorem State.put_phase (s : State) (g : Fld) (v : Nat) : (s.put g v).phase = s.phase := rfl
@[simp] theorem State.put_coldBoot (s : State) (g : Fld) (v : Nat) : (s.put g v).coldBoot = s.coldBoot := rfl
@[simp] theorem State.put_resetDue (s : State) (g : Fld) (v : Nat) : (s.put g v).resetDue = s.resetDue := rfl
@[simp] theorem State.put_romRun (s : State) (g : Fld) (v : Nat) : (s.put g v).romRun = s.romRun := rfl
@[simp] theorem State.put_slept (s : State) (g : Fld) (v : Nat) : (s.put g v).slept = s.slept := rfl
@[simp] theorem State.put_sleptAt (s : State) (g : Fld) (v : Nat) : (s.put g v).sleptAt = s.sleptAt := rfl
@[simp] theorem State.put_wokeAt (s : State) (g : Fld) (v : Nat) : (s.put g v).wokeAt = s.wokeAt := rfl
@[simp] theorem State.put_img (s : State) (g : Fld) (v : Nat) : (s.put g v).img = s.img := rfl
@[simp] theorem State.put_wdogAt (s : State) (g : Fld) (v : Nat) : (s.put g v).wdogAt = s.wdogAt := rfl
@[simp] theorem State.put_trcBuf (s : State) (g : Fld) (v : Nat) : (s.put g v).trcBuf = s.trcBuf := rfl
@[simp] theorem State.put_sinkLag (s : State) (g : Fld) (v : Nat) : (s.put g v).sinkLag = s.sinkLag := rfl
@[simp] theorem State.put_boundary (s : State) (g : Fld) (v : Nat) : (s.put g v).boundary = s.boundary := rfl
@[simp] theorem State.put_tap (s : State) (g : Fld) (v : Nat) : (s.put g v).tap = s.tap := rfl
@[simp] theorem State.put_dap (s : State) (g : Fld) (v : Nat) : (s.put g v).dap = s.dap := rfl
@[simp] theorem State.put_params (s : State) (g : Fld) (v : Nat) : (s.put g v).params = s.params := rfl
@[simp] theorem State.put_trcPaused (s : State) (g : Fld) (v : Nat) : (s.put g v).trcPaused = s.trcPaused := rfl
@[simp] theorem State.put_wakeCount (s : State) (g : Fld) (v : Nat) : (s.put g v).wakeCount = s.wakeCount := rfl
@[simp] theorem State.put_thmDemand (s : State) (g : Fld) (v : Nat) : (s.put g v).thmDemand = s.thmDemand := rfl
@[simp] theorem State.put_thmHot (s : State) (g : Fld) (v : Nat) : (s.put g v).thmHot = s.thmHot := rfl
@[simp] theorem State.put_evqSeen (s : State) (g : Fld) (v : Nat) : (s.put g v).evqSeen = s.evqSeen := rfl

@[simp] theorem State.flag_pending (s : State) (g : Fld) (b : Bool) : (s.flag g b).pending = s.pending := rfl
@[simp] theorem State.flag_cycle (s : State) (g : Fld) (b : Bool) : (s.flag g b).cycle = s.cycle := rfl
@[simp] theorem State.flag_dutyCycle (s : State) (g : Fld) (b : Bool) : (s.flag g b).dutyCycle = s.dutyCycle := rfl
@[simp] theorem State.flag_free (s : State) (g : Fld) (b : Bool) : (s.flag g b).free = s.free := rfl
@[simp] theorem State.flag_flashFails (s : State) (g : Fld) (b : Bool) : (s.flag g b).flashFails = s.flashFails := rfl
@[simp] theorem State.flag_flashReads (s : State) (g : Fld) (b : Bool) : (s.flag g b).flashReads = s.flashReads := rfl
@[simp] theorem State.flag_kcLines (s : State) (g : Fld) (b : Bool) : (s.flag g b).kcLines = s.kcLines := rfl
@[simp] theorem State.flag_out (s : State) (g : Fld) (b : Bool) : (s.flag g b).out = s.out := rfl
@[simp] theorem State.flag_readData (s : State) (g : Fld) (b : Bool) : (s.flag g b).readData = s.readData := rfl
@[simp] theorem State.flag_readLatch (s : State) (g : Fld) (b : Bool) : (s.flag g b).readLatch = s.readLatch := rfl
@[simp] theorem State.flag_writeHold (s : State) (g : Fld) (b : Bool) : (s.flag g b).writeHold = s.writeHold := rfl
@[simp] theorem State.flag_farLatches (s : State) (g : Fld) (b : Bool) : (s.flag g b).farLatches = s.farLatches := rfl
@[simp] theorem State.flag_dueFaults (s : State) (g : Fld) (b : Bool) : (s.flag g b).dueFaults = s.dueFaults := rfl
@[simp] theorem State.flag_faultEnd (s : State) (g : Fld) (b : Bool) : (s.flag g b).faultEnd = s.faultEnd := rfl
@[simp] theorem State.flag_up (s : State) (g : Fld) (b : Bool) : (s.flag g b).up = s.up := rfl
@[simp] theorem State.flag_dn (s : State) (g : Fld) (b : Bool) : (s.flag g b).dn = s.dn := rfl
@[simp] theorem State.flag_window (s : State) (g : Fld) (b : Bool) : (s.flag g b).window = s.window := rfl
@[simp] theorem State.flag_pf0 (s : State) (g : Fld) (b : Bool) : (s.flag g b).pf0 = s.pf0 := rfl
@[simp] theorem State.flag_pf1 (s : State) (g : Fld) (b : Bool) : (s.flag g b).pf1 = s.pf1 := rfl
@[simp] theorem State.flag_postCredit (s : State) (g : Fld) (b : Bool) : (s.flag g b).postCredit = s.postCredit := rfl
@[simp] theorem State.flag_readCredit (s : State) (g : Fld) (b : Bool) : (s.flag g b).readCredit = s.readCredit := rfl
@[simp] theorem State.flag_nextRead (s : State) (g : Fld) (b : Bool) : (s.flag g b).nextRead = s.nextRead := rfl
@[simp] theorem State.flag_cplWait (s : State) (g : Fld) (b : Bool) : (s.flag g b).cplWait = s.cplWait := rfl
@[simp] theorem State.flag_lastLevel (s : State) (g : Fld) (b : Bool) : (s.flag g b).lastLevel = s.lastLevel := rfl
@[simp] theorem State.flag_chans (s : State) (g : Fld) (b : Bool) : (s.flag g b).chans = s.chans := rfl
@[simp] theorem State.flag_sqs (s : State) (g : Fld) (b : Bool) : (s.flag g b).sqs = s.sqs := rfl
@[simp] theorem State.flag_rings (s : State) (g : Fld) (b : Bool) : (s.flag g b).rings = s.rings := rfl
@[simp] theorem State.flag_admin (s : State) (g : Fld) (b : Bool) : (s.flag g b).admin = s.admin := rfl
@[simp] theorem State.flag_cpHalted (s : State) (g : Fld) (b : Bool) : (s.flag g b).cpHalted = s.cpHalted := rfl
@[simp] theorem State.flag_fwReads (s : State) (g : Fld) (b : Bool) : (s.flag g b).fwReads = s.fwReads := rfl
@[simp] theorem State.flag_fwNext (s : State) (g : Fld) (b : Bool) : (s.flag g b).fwNext = s.fwNext := rfl
@[simp] theorem State.flag_fwTurn (s : State) (g : Fld) (b : Bool) : (s.flag g b).fwTurn = s.fwTurn := rfl
@[simp] theorem State.flag_sq0Stop (s : State) (g : Fld) (b : Bool) : (s.flag g b).sq0Stop = s.sq0Stop := rfl
@[simp] theorem State.flag_admStop (s : State) (g : Fld) (b : Bool) : (s.flag g b).admStop = s.admStop := rfl
@[simp] theorem State.flag_progs (s : State) (g : Fld) (b : Bool) : (s.flag g b).progs = s.progs := rfl
@[simp] theorem State.flag_readyQ (s : State) (g : Fld) (b : Bool) : (s.flag g b).readyQ = s.readyQ := rfl
@[simp] theorem State.flag_fetchLast (s : State) (g : Fld) (b : Bool) : (s.flag g b).fetchLast = s.fetchLast := rfl
@[simp] theorem State.flag_cancels (s : State) (g : Fld) (b : Bool) : (s.flag g b).cancels = s.cancels := rfl
@[simp] theorem State.flag_ops (s : State) (g : Fld) (b : Bool) : (s.flag g b).ops = s.ops := rfl
@[simp] theorem State.flag_fetchSeq (s : State) (g : Fld) (b : Bool) : (s.flag g b).fetchSeq = s.fetchSeq := rfl
@[simp] theorem State.flag_commitSeq (s : State) (g : Fld) (b : Bool) : (s.flag g b).commitSeq = s.commitSeq := rfl
@[simp] theorem State.flag_sePhys (s : State) (g : Fld) (b : Bool) : (s.flag g b).sePhys = s.sePhys := rfl
@[simp] theorem State.flag_insts (s : State) (g : Fld) (b : Bool) : (s.flag g b).insts = s.insts := rfl
@[simp] theorem State.flag_farSlots (s : State) (g : Fld) (b : Bool) : (s.flag g b).farSlots = s.farSlots := rfl
@[simp] theorem State.flag_wqs (s : State) (g : Fld) (b : Bool) : (s.flag g b).wqs = s.wqs := rfl
@[simp] theorem State.flag_sram (s : State) (g : Fld) (b : Bool) : (s.flag g b).sram = s.sram := rfl
@[simp] theorem State.flag_poison (s : State) (g : Fld) (b : Bool) : (s.flag g b).poison = s.poison := rfl
@[simp] theorem State.flag_upsets (s : State) (g : Fld) (b : Bool) : (s.flag g b).upsets = s.upsets := rfl
@[simp] theorem State.flag_cans (s : State) (g : Fld) (b : Bool) : (s.flag g b).cans = s.cans := rfl
@[simp] theorem State.flag_lins (s : State) (g : Fld) (b : Bool) : (s.flag g b).lins = s.lins := rfl
@[simp] theorem State.flag_sents (s : State) (g : Fld) (b : Bool) : (s.flag g b).sents = s.sents := rfl
@[simp] theorem State.flag_sers (s : State) (g : Fld) (b : Bool) : (s.flag g b).sers = s.sers := rfl
@[simp] theorem State.flag_cards (s : State) (g : Fld) (b : Bool) : (s.flag g b).cards = s.cards := rfl
@[simp] theorem State.flag_eths (s : State) (g : Fld) (b : Bool) : (s.flag g b).eths = s.eths := rfl
@[simp] theorem State.flag_ptp (s : State) (g : Fld) (b : Bool) : (s.flag g b).ptp = s.ptp := rfl
@[simp] theorem State.flag_gwIn (s : State) (g : Fld) (b : Bool) : (s.flag g b).gwIn = s.gwIn := rfl
@[simp] theorem State.flag_gwOut (s : State) (g : Fld) (b : Bool) : (s.flag g b).gwOut = s.gwOut := rfl
@[simp] theorem State.flag_gwSpent (s : State) (g : Fld) (b : Bool) : (s.flag g b).gwSpent = s.gwSpent := rfl
@[simp] theorem State.flag_gwSeq (s : State) (g : Fld) (b : Bool) : (s.flag g b).gwSeq = s.gwSeq := rfl
@[simp] theorem State.flag_grtShadow (s : State) (g : Fld) (b : Bool) : (s.flag g b).grtShadow = s.grtShadow := rfl
@[simp] theorem State.flag_pinParked (s : State) (g : Fld) (b : Bool) : (s.flag g b).pinParked = s.pinParked := rfl
@[simp] theorem State.flag_gpioIn (s : State) (g : Fld) (b : Bool) : (s.flag g b).gpioIn = s.gpioIn := rfl
@[simp] theorem State.flag_gpioOut (s : State) (g : Fld) (b : Bool) : (s.flag g b).gpioOut = s.gpioOut := rfl
@[simp] theorem State.flag_presIn (s : State) (g : Fld) (b : Bool) : (s.flag g b).presIn = s.presIn := rfl
@[simp] theorem State.flag_capIn (s : State) (g : Fld) (b : Bool) : (s.flag g b).capIn = s.capIn := rfl
@[simp] theorem State.flag_tln (s : State) (g : Fld) (b : Bool) : (s.flag g b).tln = s.tln := rfl
@[simp] theorem State.flag_chain0 (s : State) (g : Fld) (b : Bool) : (s.flag g b).chain0 = s.chain0 := rfl
@[simp] theorem State.flag_chain1 (s : State) (g : Fld) (b : Bool) : (s.flag g b).chain1 = s.chain1 := rfl
@[simp] theorem State.flag_injecting (s : State) (g : Fld) (b : Bool) : (s.flag g b).injecting = s.injecting := rfl
@[simp] theorem State.flag_chain2 (s : State) (g : Fld) (b : Bool) : (s.flag g b).chain2 = s.chain2 := rfl
@[simp] theorem State.flag_fltOwner (s : State) (g : Fld) (b : Bool) : (s.flag g b).fltOwner = s.fltOwner := rfl
@[simp] theorem State.flag_reqs (s : State) (g : Fld) (b : Bool) : (s.flag g b).reqs = s.reqs := rfl
@[simp] theorem State.flag_reqGen (s : State) (g : Fld) (b : Bool) : (s.flag g b).reqGen = s.reqGen := rfl
@[simp] theorem State.flag_fabric (s : State) (g : Fld) (b : Bool) : (s.flag g b).fabric = s.fabric := rfl
@[simp] theorem State.flag_fabNext (s : State) (g : Fld) (b : Bool) : (s.flag g b).fabNext = s.fabNext := rfl
@[simp] theorem State.flag_slotParts (s : State) (g : Fld) (b : Bool) : (s.flag g b).slotParts = s.slotParts := rfl
@[simp] theorem State.flag_lxbQ (s : State) (g : Fld) (b : Bool) : (s.flag g b).lxbQ = s.lxbQ := rfl
@[simp] theorem State.flag_lxbLast (s : State) (g : Fld) (b : Bool) : (s.flag g b).lxbLast = s.lxbLast := rfl
@[simp] theorem State.flag_lxbLock (s : State) (g : Fld) (b : Bool) : (s.flag g b).lxbLock = s.lxbLock := rfl
@[simp] theorem State.flag_lxbBroken (s : State) (g : Fld) (b : Bool) : (s.flag g b).lxbBroken = s.lxbBroken := rfl
@[simp] theorem State.flag_lxbOut (s : State) (g : Fld) (b : Bool) : (s.flag g b).lxbOut = s.lxbOut := rfl
@[simp] theorem State.flag_sems (s : State) (g : Fld) (b : Bool) : (s.flag g b).sems = s.sems := rfl
@[simp] theorem State.flag_mirrors (s : State) (g : Fld) (b : Bool) : (s.flag g b).mirrors = s.mirrors := rfl
@[simp] theorem State.flag_rounds (s : State) (g : Fld) (b : Bool) : (s.flag g b).rounds = s.rounds := rfl
@[simp] theorem State.flag_lxbIrq (s : State) (g : Fld) (b : Bool) : (s.flag g b).lxbIrq = s.lxbIrq := rfl
@[simp] theorem State.flag_nv (s : State) (g : Fld) (b : Bool) : (s.flag g b).nv = s.nv := rfl
@[simp] theorem State.flag_ldg (s : State) (g : Fld) (b : Bool) : (s.flag g b).ldg = s.ldg := rfl
@[simp] theorem State.flag_sup (s : State) (g : Fld) (b : Bool) : (s.flag g b).sup = s.sup := rfl
@[simp] theorem State.flag_pfAcked (s : State) (g : Fld) (b : Bool) : (s.flag g b).pfAcked = s.pfAcked := rfl
@[simp] theorem State.flag_phase (s : State) (g : Fld) (b : Bool) : (s.flag g b).phase = s.phase := rfl
@[simp] theorem State.flag_coldBoot (s : State) (g : Fld) (b : Bool) : (s.flag g b).coldBoot = s.coldBoot := rfl
@[simp] theorem State.flag_resetDue (s : State) (g : Fld) (b : Bool) : (s.flag g b).resetDue = s.resetDue := rfl
@[simp] theorem State.flag_romRun (s : State) (g : Fld) (b : Bool) : (s.flag g b).romRun = s.romRun := rfl
@[simp] theorem State.flag_slept (s : State) (g : Fld) (b : Bool) : (s.flag g b).slept = s.slept := rfl
@[simp] theorem State.flag_sleptAt (s : State) (g : Fld) (b : Bool) : (s.flag g b).sleptAt = s.sleptAt := rfl
@[simp] theorem State.flag_wokeAt (s : State) (g : Fld) (b : Bool) : (s.flag g b).wokeAt = s.wokeAt := rfl
@[simp] theorem State.flag_img (s : State) (g : Fld) (b : Bool) : (s.flag g b).img = s.img := rfl
@[simp] theorem State.flag_wdogAt (s : State) (g : Fld) (b : Bool) : (s.flag g b).wdogAt = s.wdogAt := rfl
@[simp] theorem State.flag_trcBuf (s : State) (g : Fld) (b : Bool) : (s.flag g b).trcBuf = s.trcBuf := rfl
@[simp] theorem State.flag_sinkLag (s : State) (g : Fld) (b : Bool) : (s.flag g b).sinkLag = s.sinkLag := rfl
@[simp] theorem State.flag_boundary (s : State) (g : Fld) (b : Bool) : (s.flag g b).boundary = s.boundary := rfl
@[simp] theorem State.flag_tap (s : State) (g : Fld) (b : Bool) : (s.flag g b).tap = s.tap := rfl
@[simp] theorem State.flag_dap (s : State) (g : Fld) (b : Bool) : (s.flag g b).dap = s.dap := rfl
@[simp] theorem State.flag_params (s : State) (g : Fld) (b : Bool) : (s.flag g b).params = s.params := rfl
@[simp] theorem State.flag_trcPaused (s : State) (g : Fld) (b : Bool) : (s.flag g b).trcPaused = s.trcPaused := rfl
@[simp] theorem State.flag_wakeCount (s : State) (g : Fld) (b : Bool) : (s.flag g b).wakeCount = s.wakeCount := rfl
@[simp] theorem State.flag_thmDemand (s : State) (g : Fld) (b : Bool) : (s.flag g b).thmDemand = s.thmDemand := rfl
@[simp] theorem State.flag_thmHot (s : State) (g : Fld) (b : Bool) : (s.flag g b).thmHot = s.thmHot := rfl
@[simp] theorem State.flag_evqSeen (s : State) (g : Fld) (b : Bool) : (s.flag g b).evqSeen = s.evqSeen := rfl

@[simp] theorem State.count_pending (s : State) (g : Fld) (n : Nat) : (s.count g n).pending = s.pending := rfl
@[simp] theorem State.count_cycle (s : State) (g : Fld) (n : Nat) : (s.count g n).cycle = s.cycle := rfl
@[simp] theorem State.count_dutyCycle (s : State) (g : Fld) (n : Nat) : (s.count g n).dutyCycle = s.dutyCycle := rfl
@[simp] theorem State.count_free (s : State) (g : Fld) (n : Nat) : (s.count g n).free = s.free := rfl
@[simp] theorem State.count_flashFails (s : State) (g : Fld) (n : Nat) : (s.count g n).flashFails = s.flashFails := rfl
@[simp] theorem State.count_flashReads (s : State) (g : Fld) (n : Nat) : (s.count g n).flashReads = s.flashReads := rfl
@[simp] theorem State.count_kcLines (s : State) (g : Fld) (n : Nat) : (s.count g n).kcLines = s.kcLines := rfl
@[simp] theorem State.count_out (s : State) (g : Fld) (n : Nat) : (s.count g n).out = s.out := rfl
@[simp] theorem State.count_readData (s : State) (g : Fld) (n : Nat) : (s.count g n).readData = s.readData := rfl
@[simp] theorem State.count_readLatch (s : State) (g : Fld) (n : Nat) : (s.count g n).readLatch = s.readLatch := rfl
@[simp] theorem State.count_writeHold (s : State) (g : Fld) (n : Nat) : (s.count g n).writeHold = s.writeHold := rfl
@[simp] theorem State.count_farLatches (s : State) (g : Fld) (n : Nat) : (s.count g n).farLatches = s.farLatches := rfl
@[simp] theorem State.count_dueFaults (s : State) (g : Fld) (n : Nat) : (s.count g n).dueFaults = s.dueFaults := rfl
@[simp] theorem State.count_faultEnd (s : State) (g : Fld) (n : Nat) : (s.count g n).faultEnd = s.faultEnd := rfl
@[simp] theorem State.count_up (s : State) (g : Fld) (n : Nat) : (s.count g n).up = s.up := rfl
@[simp] theorem State.count_dn (s : State) (g : Fld) (n : Nat) : (s.count g n).dn = s.dn := rfl
@[simp] theorem State.count_window (s : State) (g : Fld) (n : Nat) : (s.count g n).window = s.window := rfl
@[simp] theorem State.count_pf0 (s : State) (g : Fld) (n : Nat) : (s.count g n).pf0 = s.pf0 := rfl
@[simp] theorem State.count_pf1 (s : State) (g : Fld) (n : Nat) : (s.count g n).pf1 = s.pf1 := rfl
@[simp] theorem State.count_postCredit (s : State) (g : Fld) (n : Nat) : (s.count g n).postCredit = s.postCredit := rfl
@[simp] theorem State.count_readCredit (s : State) (g : Fld) (n : Nat) : (s.count g n).readCredit = s.readCredit := rfl
@[simp] theorem State.count_nextRead (s : State) (g : Fld) (n : Nat) : (s.count g n).nextRead = s.nextRead := rfl
@[simp] theorem State.count_cplWait (s : State) (g : Fld) (n : Nat) : (s.count g n).cplWait = s.cplWait := rfl
@[simp] theorem State.count_lastLevel (s : State) (g : Fld) (n : Nat) : (s.count g n).lastLevel = s.lastLevel := rfl
@[simp] theorem State.count_chans (s : State) (g : Fld) (n : Nat) : (s.count g n).chans = s.chans := rfl
@[simp] theorem State.count_sqs (s : State) (g : Fld) (n : Nat) : (s.count g n).sqs = s.sqs := rfl
@[simp] theorem State.count_rings (s : State) (g : Fld) (n : Nat) : (s.count g n).rings = s.rings := rfl
@[simp] theorem State.count_admin (s : State) (g : Fld) (n : Nat) : (s.count g n).admin = s.admin := rfl
@[simp] theorem State.count_cpHalted (s : State) (g : Fld) (n : Nat) : (s.count g n).cpHalted = s.cpHalted := rfl
@[simp] theorem State.count_fwReads (s : State) (g : Fld) (n : Nat) : (s.count g n).fwReads = s.fwReads := rfl
@[simp] theorem State.count_fwNext (s : State) (g : Fld) (n : Nat) : (s.count g n).fwNext = s.fwNext := rfl
@[simp] theorem State.count_fwTurn (s : State) (g : Fld) (n : Nat) : (s.count g n).fwTurn = s.fwTurn := rfl
@[simp] theorem State.count_sq0Stop (s : State) (g : Fld) (n : Nat) : (s.count g n).sq0Stop = s.sq0Stop := rfl
@[simp] theorem State.count_admStop (s : State) (g : Fld) (n : Nat) : (s.count g n).admStop = s.admStop := rfl
@[simp] theorem State.count_progs (s : State) (g : Fld) (n : Nat) : (s.count g n).progs = s.progs := rfl
@[simp] theorem State.count_readyQ (s : State) (g : Fld) (n : Nat) : (s.count g n).readyQ = s.readyQ := rfl
@[simp] theorem State.count_fetchLast (s : State) (g : Fld) (n : Nat) : (s.count g n).fetchLast = s.fetchLast := rfl
@[simp] theorem State.count_cancels (s : State) (g : Fld) (n : Nat) : (s.count g n).cancels = s.cancels := rfl
@[simp] theorem State.count_ops (s : State) (g : Fld) (n : Nat) : (s.count g n).ops = s.ops := rfl
@[simp] theorem State.count_fetchSeq (s : State) (g : Fld) (n : Nat) : (s.count g n).fetchSeq = s.fetchSeq := rfl
@[simp] theorem State.count_commitSeq (s : State) (g : Fld) (n : Nat) : (s.count g n).commitSeq = s.commitSeq := rfl
@[simp] theorem State.count_sePhys (s : State) (g : Fld) (n : Nat) : (s.count g n).sePhys = s.sePhys := rfl
@[simp] theorem State.count_insts (s : State) (g : Fld) (n : Nat) : (s.count g n).insts = s.insts := rfl
@[simp] theorem State.count_farSlots (s : State) (g : Fld) (n : Nat) : (s.count g n).farSlots = s.farSlots := rfl
@[simp] theorem State.count_wqs (s : State) (g : Fld) (n : Nat) : (s.count g n).wqs = s.wqs := rfl
@[simp] theorem State.count_sram (s : State) (g : Fld) (n : Nat) : (s.count g n).sram = s.sram := rfl
@[simp] theorem State.count_poison (s : State) (g : Fld) (n : Nat) : (s.count g n).poison = s.poison := rfl
@[simp] theorem State.count_upsets (s : State) (g : Fld) (n : Nat) : (s.count g n).upsets = s.upsets := rfl
@[simp] theorem State.count_cans (s : State) (g : Fld) (n : Nat) : (s.count g n).cans = s.cans := rfl
@[simp] theorem State.count_lins (s : State) (g : Fld) (n : Nat) : (s.count g n).lins = s.lins := rfl
@[simp] theorem State.count_sents (s : State) (g : Fld) (n : Nat) : (s.count g n).sents = s.sents := rfl
@[simp] theorem State.count_sers (s : State) (g : Fld) (n : Nat) : (s.count g n).sers = s.sers := rfl
@[simp] theorem State.count_cards (s : State) (g : Fld) (n : Nat) : (s.count g n).cards = s.cards := rfl
@[simp] theorem State.count_eths (s : State) (g : Fld) (n : Nat) : (s.count g n).eths = s.eths := rfl
@[simp] theorem State.count_ptp (s : State) (g : Fld) (n : Nat) : (s.count g n).ptp = s.ptp := rfl
@[simp] theorem State.count_gwIn (s : State) (g : Fld) (n : Nat) : (s.count g n).gwIn = s.gwIn := rfl
@[simp] theorem State.count_gwOut (s : State) (g : Fld) (n : Nat) : (s.count g n).gwOut = s.gwOut := rfl
@[simp] theorem State.count_gwSpent (s : State) (g : Fld) (n : Nat) : (s.count g n).gwSpent = s.gwSpent := rfl
@[simp] theorem State.count_gwSeq (s : State) (g : Fld) (n : Nat) : (s.count g n).gwSeq = s.gwSeq := rfl
@[simp] theorem State.count_grtShadow (s : State) (g : Fld) (n : Nat) : (s.count g n).grtShadow = s.grtShadow := rfl
@[simp] theorem State.count_pinParked (s : State) (g : Fld) (n : Nat) : (s.count g n).pinParked = s.pinParked := rfl
@[simp] theorem State.count_gpioIn (s : State) (g : Fld) (n : Nat) : (s.count g n).gpioIn = s.gpioIn := rfl
@[simp] theorem State.count_gpioOut (s : State) (g : Fld) (n : Nat) : (s.count g n).gpioOut = s.gpioOut := rfl
@[simp] theorem State.count_presIn (s : State) (g : Fld) (n : Nat) : (s.count g n).presIn = s.presIn := rfl
@[simp] theorem State.count_capIn (s : State) (g : Fld) (n : Nat) : (s.count g n).capIn = s.capIn := rfl
@[simp] theorem State.count_tln (s : State) (g : Fld) (n : Nat) : (s.count g n).tln = s.tln := rfl
@[simp] theorem State.count_chain0 (s : State) (g : Fld) (n : Nat) : (s.count g n).chain0 = s.chain0 := rfl
@[simp] theorem State.count_chain1 (s : State) (g : Fld) (n : Nat) : (s.count g n).chain1 = s.chain1 := rfl
@[simp] theorem State.count_injecting (s : State) (g : Fld) (n : Nat) : (s.count g n).injecting = s.injecting := rfl
@[simp] theorem State.count_chain2 (s : State) (g : Fld) (n : Nat) : (s.count g n).chain2 = s.chain2 := rfl
@[simp] theorem State.count_fltOwner (s : State) (g : Fld) (n : Nat) : (s.count g n).fltOwner = s.fltOwner := rfl
@[simp] theorem State.count_reqs (s : State) (g : Fld) (n : Nat) : (s.count g n).reqs = s.reqs := rfl
@[simp] theorem State.count_reqGen (s : State) (g : Fld) (n : Nat) : (s.count g n).reqGen = s.reqGen := rfl
@[simp] theorem State.count_fabric (s : State) (g : Fld) (n : Nat) : (s.count g n).fabric = s.fabric := rfl
@[simp] theorem State.count_fabNext (s : State) (g : Fld) (n : Nat) : (s.count g n).fabNext = s.fabNext := rfl
@[simp] theorem State.count_slotParts (s : State) (g : Fld) (n : Nat) : (s.count g n).slotParts = s.slotParts := rfl
@[simp] theorem State.count_lxbQ (s : State) (g : Fld) (n : Nat) : (s.count g n).lxbQ = s.lxbQ := rfl
@[simp] theorem State.count_lxbLast (s : State) (g : Fld) (n : Nat) : (s.count g n).lxbLast = s.lxbLast := rfl
@[simp] theorem State.count_lxbLock (s : State) (g : Fld) (n : Nat) : (s.count g n).lxbLock = s.lxbLock := rfl
@[simp] theorem State.count_lxbBroken (s : State) (g : Fld) (n : Nat) : (s.count g n).lxbBroken = s.lxbBroken := rfl
@[simp] theorem State.count_lxbOut (s : State) (g : Fld) (n : Nat) : (s.count g n).lxbOut = s.lxbOut := rfl
@[simp] theorem State.count_sems (s : State) (g : Fld) (n : Nat) : (s.count g n).sems = s.sems := rfl
@[simp] theorem State.count_mirrors (s : State) (g : Fld) (n : Nat) : (s.count g n).mirrors = s.mirrors := rfl
@[simp] theorem State.count_rounds (s : State) (g : Fld) (n : Nat) : (s.count g n).rounds = s.rounds := rfl
@[simp] theorem State.count_lxbIrq (s : State) (g : Fld) (n : Nat) : (s.count g n).lxbIrq = s.lxbIrq := rfl
@[simp] theorem State.count_nv (s : State) (g : Fld) (n : Nat) : (s.count g n).nv = s.nv := rfl
@[simp] theorem State.count_ldg (s : State) (g : Fld) (n : Nat) : (s.count g n).ldg = s.ldg := rfl
@[simp] theorem State.count_sup (s : State) (g : Fld) (n : Nat) : (s.count g n).sup = s.sup := rfl
@[simp] theorem State.count_pfAcked (s : State) (g : Fld) (n : Nat) : (s.count g n).pfAcked = s.pfAcked := rfl
@[simp] theorem State.count_phase (s : State) (g : Fld) (n : Nat) : (s.count g n).phase = s.phase := rfl
@[simp] theorem State.count_coldBoot (s : State) (g : Fld) (n : Nat) : (s.count g n).coldBoot = s.coldBoot := rfl
@[simp] theorem State.count_resetDue (s : State) (g : Fld) (n : Nat) : (s.count g n).resetDue = s.resetDue := rfl
@[simp] theorem State.count_romRun (s : State) (g : Fld) (n : Nat) : (s.count g n).romRun = s.romRun := rfl
@[simp] theorem State.count_slept (s : State) (g : Fld) (n : Nat) : (s.count g n).slept = s.slept := rfl
@[simp] theorem State.count_sleptAt (s : State) (g : Fld) (n : Nat) : (s.count g n).sleptAt = s.sleptAt := rfl
@[simp] theorem State.count_wokeAt (s : State) (g : Fld) (n : Nat) : (s.count g n).wokeAt = s.wokeAt := rfl
@[simp] theorem State.count_img (s : State) (g : Fld) (n : Nat) : (s.count g n).img = s.img := rfl
@[simp] theorem State.count_wdogAt (s : State) (g : Fld) (n : Nat) : (s.count g n).wdogAt = s.wdogAt := rfl
@[simp] theorem State.count_trcBuf (s : State) (g : Fld) (n : Nat) : (s.count g n).trcBuf = s.trcBuf := rfl
@[simp] theorem State.count_sinkLag (s : State) (g : Fld) (n : Nat) : (s.count g n).sinkLag = s.sinkLag := rfl
@[simp] theorem State.count_boundary (s : State) (g : Fld) (n : Nat) : (s.count g n).boundary = s.boundary := rfl
@[simp] theorem State.count_tap (s : State) (g : Fld) (n : Nat) : (s.count g n).tap = s.tap := rfl
@[simp] theorem State.count_dap (s : State) (g : Fld) (n : Nat) : (s.count g n).dap = s.dap := rfl
@[simp] theorem State.count_params (s : State) (g : Fld) (n : Nat) : (s.count g n).params = s.params := rfl
@[simp] theorem State.count_trcPaused (s : State) (g : Fld) (n : Nat) : (s.count g n).trcPaused = s.trcPaused := rfl
@[simp] theorem State.count_wakeCount (s : State) (g : Fld) (n : Nat) : (s.count g n).wakeCount = s.wakeCount := rfl
@[simp] theorem State.count_thmDemand (s : State) (g : Fld) (n : Nat) : (s.count g n).thmDemand = s.thmDemand := rfl
@[simp] theorem State.count_thmHot (s : State) (g : Fld) (n : Nat) : (s.count g n).thmHot = s.thmHot := rfl
@[simp] theorem State.count_evqSeen (s : State) (g : Fld) (n : Nat) : (s.count g n).evqSeen = s.evqSeen := rfl

@[simp] theorem State.raise_pending (s : State) (e : Fld) (b : Nat) (c : Fld) : (s.raise e b c).pending = s.pending := rfl
@[simp] theorem State.raise_cycle (s : State) (e : Fld) (b : Nat) (c : Fld) : (s.raise e b c).cycle = s.cycle := rfl
@[simp] theorem State.raise_dutyCycle (s : State) (e : Fld) (b : Nat) (c : Fld) : (s.raise e b c).dutyCycle = s.dutyCycle := rfl
@[simp] theorem State.raise_free (s : State) (e : Fld) (b : Nat) (c : Fld) : (s.raise e b c).free = s.free := rfl
@[simp] theorem State.raise_flashFails (s : State) (e : Fld) (b : Nat) (c : Fld) : (s.raise e b c).flashFails = s.flashFails := rfl
@[simp] theorem State.raise_flashReads (s : State) (e : Fld) (b : Nat) (c : Fld) : (s.raise e b c).flashReads = s.flashReads := rfl
@[simp] theorem State.raise_kcLines (s : State) (e : Fld) (b : Nat) (c : Fld) : (s.raise e b c).kcLines = s.kcLines := rfl
@[simp] theorem State.raise_out (s : State) (e : Fld) (b : Nat) (c : Fld) : (s.raise e b c).out = s.out := rfl
@[simp] theorem State.raise_readData (s : State) (e : Fld) (b : Nat) (c : Fld) : (s.raise e b c).readData = s.readData := rfl
@[simp] theorem State.raise_readLatch (s : State) (e : Fld) (b : Nat) (c : Fld) : (s.raise e b c).readLatch = s.readLatch := rfl
@[simp] theorem State.raise_writeHold (s : State) (e : Fld) (b : Nat) (c : Fld) : (s.raise e b c).writeHold = s.writeHold := rfl
@[simp] theorem State.raise_farLatches (s : State) (e : Fld) (b : Nat) (c : Fld) : (s.raise e b c).farLatches = s.farLatches := rfl
@[simp] theorem State.raise_dueFaults (s : State) (e : Fld) (b : Nat) (c : Fld) : (s.raise e b c).dueFaults = s.dueFaults := rfl
@[simp] theorem State.raise_faultEnd (s : State) (e : Fld) (b : Nat) (c : Fld) : (s.raise e b c).faultEnd = s.faultEnd := rfl
@[simp] theorem State.raise_up (s : State) (e : Fld) (b : Nat) (c : Fld) : (s.raise e b c).up = s.up := rfl
@[simp] theorem State.raise_dn (s : State) (e : Fld) (b : Nat) (c : Fld) : (s.raise e b c).dn = s.dn := rfl
@[simp] theorem State.raise_window (s : State) (e : Fld) (b : Nat) (c : Fld) : (s.raise e b c).window = s.window := rfl
@[simp] theorem State.raise_pf0 (s : State) (e : Fld) (b : Nat) (c : Fld) : (s.raise e b c).pf0 = s.pf0 := rfl
@[simp] theorem State.raise_pf1 (s : State) (e : Fld) (b : Nat) (c : Fld) : (s.raise e b c).pf1 = s.pf1 := rfl
@[simp] theorem State.raise_postCredit (s : State) (e : Fld) (b : Nat) (c : Fld) : (s.raise e b c).postCredit = s.postCredit := rfl
@[simp] theorem State.raise_readCredit (s : State) (e : Fld) (b : Nat) (c : Fld) : (s.raise e b c).readCredit = s.readCredit := rfl
@[simp] theorem State.raise_nextRead (s : State) (e : Fld) (b : Nat) (c : Fld) : (s.raise e b c).nextRead = s.nextRead := rfl
@[simp] theorem State.raise_cplWait (s : State) (e : Fld) (b : Nat) (c : Fld) : (s.raise e b c).cplWait = s.cplWait := rfl
@[simp] theorem State.raise_lastLevel (s : State) (e : Fld) (b : Nat) (c : Fld) : (s.raise e b c).lastLevel = s.lastLevel := rfl
@[simp] theorem State.raise_chans (s : State) (e : Fld) (b : Nat) (c : Fld) : (s.raise e b c).chans = s.chans := rfl
@[simp] theorem State.raise_sqs (s : State) (e : Fld) (b : Nat) (c : Fld) : (s.raise e b c).sqs = s.sqs := rfl
@[simp] theorem State.raise_rings (s : State) (e : Fld) (b : Nat) (c : Fld) : (s.raise e b c).rings = s.rings := rfl
@[simp] theorem State.raise_admin (s : State) (e : Fld) (b : Nat) (c : Fld) : (s.raise e b c).admin = s.admin := rfl
@[simp] theorem State.raise_cpHalted (s : State) (e : Fld) (b : Nat) (c : Fld) : (s.raise e b c).cpHalted = s.cpHalted := rfl
@[simp] theorem State.raise_fwReads (s : State) (e : Fld) (b : Nat) (c : Fld) : (s.raise e b c).fwReads = s.fwReads := rfl
@[simp] theorem State.raise_fwNext (s : State) (e : Fld) (b : Nat) (c : Fld) : (s.raise e b c).fwNext = s.fwNext := rfl
@[simp] theorem State.raise_fwTurn (s : State) (e : Fld) (b : Nat) (c : Fld) : (s.raise e b c).fwTurn = s.fwTurn := rfl
@[simp] theorem State.raise_sq0Stop (s : State) (e : Fld) (b : Nat) (c : Fld) : (s.raise e b c).sq0Stop = s.sq0Stop := rfl
@[simp] theorem State.raise_admStop (s : State) (e : Fld) (b : Nat) (c : Fld) : (s.raise e b c).admStop = s.admStop := rfl
@[simp] theorem State.raise_progs (s : State) (e : Fld) (b : Nat) (c : Fld) : (s.raise e b c).progs = s.progs := rfl
@[simp] theorem State.raise_readyQ (s : State) (e : Fld) (b : Nat) (c : Fld) : (s.raise e b c).readyQ = s.readyQ := rfl
@[simp] theorem State.raise_fetchLast (s : State) (e : Fld) (b : Nat) (c : Fld) : (s.raise e b c).fetchLast = s.fetchLast := rfl
@[simp] theorem State.raise_cancels (s : State) (e : Fld) (b : Nat) (c : Fld) : (s.raise e b c).cancels = s.cancels := rfl
@[simp] theorem State.raise_ops (s : State) (e : Fld) (b : Nat) (c : Fld) : (s.raise e b c).ops = s.ops := rfl
@[simp] theorem State.raise_fetchSeq (s : State) (e : Fld) (b : Nat) (c : Fld) : (s.raise e b c).fetchSeq = s.fetchSeq := rfl
@[simp] theorem State.raise_commitSeq (s : State) (e : Fld) (b : Nat) (c : Fld) : (s.raise e b c).commitSeq = s.commitSeq := rfl
@[simp] theorem State.raise_sePhys (s : State) (e : Fld) (b : Nat) (c : Fld) : (s.raise e b c).sePhys = s.sePhys := rfl
@[simp] theorem State.raise_insts (s : State) (e : Fld) (b : Nat) (c : Fld) : (s.raise e b c).insts = s.insts := rfl
@[simp] theorem State.raise_farSlots (s : State) (e : Fld) (b : Nat) (c : Fld) : (s.raise e b c).farSlots = s.farSlots := rfl
@[simp] theorem State.raise_wqs (s : State) (e : Fld) (b : Nat) (c : Fld) : (s.raise e b c).wqs = s.wqs := rfl
@[simp] theorem State.raise_sram (s : State) (e : Fld) (b : Nat) (c : Fld) : (s.raise e b c).sram = s.sram := rfl
@[simp] theorem State.raise_poison (s : State) (e : Fld) (b : Nat) (c : Fld) : (s.raise e b c).poison = s.poison := rfl
@[simp] theorem State.raise_upsets (s : State) (e : Fld) (b : Nat) (c : Fld) : (s.raise e b c).upsets = s.upsets := rfl
@[simp] theorem State.raise_cans (s : State) (e : Fld) (b : Nat) (c : Fld) : (s.raise e b c).cans = s.cans := rfl
@[simp] theorem State.raise_lins (s : State) (e : Fld) (b : Nat) (c : Fld) : (s.raise e b c).lins = s.lins := rfl
@[simp] theorem State.raise_sents (s : State) (e : Fld) (b : Nat) (c : Fld) : (s.raise e b c).sents = s.sents := rfl
@[simp] theorem State.raise_sers (s : State) (e : Fld) (b : Nat) (c : Fld) : (s.raise e b c).sers = s.sers := rfl
@[simp] theorem State.raise_cards (s : State) (e : Fld) (b : Nat) (c : Fld) : (s.raise e b c).cards = s.cards := rfl
@[simp] theorem State.raise_eths (s : State) (e : Fld) (b : Nat) (c : Fld) : (s.raise e b c).eths = s.eths := rfl
@[simp] theorem State.raise_ptp (s : State) (e : Fld) (b : Nat) (c : Fld) : (s.raise e b c).ptp = s.ptp := rfl
@[simp] theorem State.raise_gwIn (s : State) (e : Fld) (b : Nat) (c : Fld) : (s.raise e b c).gwIn = s.gwIn := rfl
@[simp] theorem State.raise_gwOut (s : State) (e : Fld) (b : Nat) (c : Fld) : (s.raise e b c).gwOut = s.gwOut := rfl
@[simp] theorem State.raise_gwSpent (s : State) (e : Fld) (b : Nat) (c : Fld) : (s.raise e b c).gwSpent = s.gwSpent := rfl
@[simp] theorem State.raise_gwSeq (s : State) (e : Fld) (b : Nat) (c : Fld) : (s.raise e b c).gwSeq = s.gwSeq := rfl
@[simp] theorem State.raise_grtShadow (s : State) (e : Fld) (b : Nat) (c : Fld) : (s.raise e b c).grtShadow = s.grtShadow := rfl
@[simp] theorem State.raise_pinParked (s : State) (e : Fld) (b : Nat) (c : Fld) : (s.raise e b c).pinParked = s.pinParked := rfl
@[simp] theorem State.raise_gpioIn (s : State) (e : Fld) (b : Nat) (c : Fld) : (s.raise e b c).gpioIn = s.gpioIn := rfl
@[simp] theorem State.raise_gpioOut (s : State) (e : Fld) (b : Nat) (c : Fld) : (s.raise e b c).gpioOut = s.gpioOut := rfl
@[simp] theorem State.raise_presIn (s : State) (e : Fld) (b : Nat) (c : Fld) : (s.raise e b c).presIn = s.presIn := rfl
@[simp] theorem State.raise_capIn (s : State) (e : Fld) (b : Nat) (c : Fld) : (s.raise e b c).capIn = s.capIn := rfl
@[simp] theorem State.raise_tln (s : State) (e : Fld) (b : Nat) (c : Fld) : (s.raise e b c).tln = s.tln := rfl
@[simp] theorem State.raise_chain0 (s : State) (e : Fld) (b : Nat) (c : Fld) : (s.raise e b c).chain0 = s.chain0 := rfl
@[simp] theorem State.raise_chain1 (s : State) (e : Fld) (b : Nat) (c : Fld) : (s.raise e b c).chain1 = s.chain1 := rfl
@[simp] theorem State.raise_injecting (s : State) (e : Fld) (b : Nat) (c : Fld) : (s.raise e b c).injecting = s.injecting := rfl
@[simp] theorem State.raise_chain2 (s : State) (e : Fld) (b : Nat) (c : Fld) : (s.raise e b c).chain2 = s.chain2 := rfl
@[simp] theorem State.raise_fltOwner (s : State) (e : Fld) (b : Nat) (c : Fld) : (s.raise e b c).fltOwner = s.fltOwner := rfl
@[simp] theorem State.raise_reqs (s : State) (e : Fld) (b : Nat) (c : Fld) : (s.raise e b c).reqs = s.reqs := rfl
@[simp] theorem State.raise_reqGen (s : State) (e : Fld) (b : Nat) (c : Fld) : (s.raise e b c).reqGen = s.reqGen := rfl
@[simp] theorem State.raise_fabric (s : State) (e : Fld) (b : Nat) (c : Fld) : (s.raise e b c).fabric = s.fabric := rfl
@[simp] theorem State.raise_fabNext (s : State) (e : Fld) (b : Nat) (c : Fld) : (s.raise e b c).fabNext = s.fabNext := rfl
@[simp] theorem State.raise_slotParts (s : State) (e : Fld) (b : Nat) (c : Fld) : (s.raise e b c).slotParts = s.slotParts := rfl
@[simp] theorem State.raise_lxbQ (s : State) (e : Fld) (b : Nat) (c : Fld) : (s.raise e b c).lxbQ = s.lxbQ := rfl
@[simp] theorem State.raise_lxbLast (s : State) (e : Fld) (b : Nat) (c : Fld) : (s.raise e b c).lxbLast = s.lxbLast := rfl
@[simp] theorem State.raise_lxbLock (s : State) (e : Fld) (b : Nat) (c : Fld) : (s.raise e b c).lxbLock = s.lxbLock := rfl
@[simp] theorem State.raise_lxbBroken (s : State) (e : Fld) (b : Nat) (c : Fld) : (s.raise e b c).lxbBroken = s.lxbBroken := rfl
@[simp] theorem State.raise_lxbOut (s : State) (e : Fld) (b : Nat) (c : Fld) : (s.raise e b c).lxbOut = s.lxbOut := rfl
@[simp] theorem State.raise_sems (s : State) (e : Fld) (b : Nat) (c : Fld) : (s.raise e b c).sems = s.sems := rfl
@[simp] theorem State.raise_mirrors (s : State) (e : Fld) (b : Nat) (c : Fld) : (s.raise e b c).mirrors = s.mirrors := rfl
@[simp] theorem State.raise_rounds (s : State) (e : Fld) (b : Nat) (c : Fld) : (s.raise e b c).rounds = s.rounds := rfl
@[simp] theorem State.raise_lxbIrq (s : State) (e : Fld) (b : Nat) (c : Fld) : (s.raise e b c).lxbIrq = s.lxbIrq := rfl
@[simp] theorem State.raise_nv (s : State) (e : Fld) (b : Nat) (c : Fld) : (s.raise e b c).nv = s.nv := rfl
@[simp] theorem State.raise_ldg (s : State) (e : Fld) (b : Nat) (c : Fld) : (s.raise e b c).ldg = s.ldg := rfl
@[simp] theorem State.raise_sup (s : State) (e : Fld) (b : Nat) (c : Fld) : (s.raise e b c).sup = s.sup := rfl
@[simp] theorem State.raise_pfAcked (s : State) (e : Fld) (b : Nat) (c : Fld) : (s.raise e b c).pfAcked = s.pfAcked := rfl
@[simp] theorem State.raise_phase (s : State) (e : Fld) (b : Nat) (c : Fld) : (s.raise e b c).phase = s.phase := rfl
@[simp] theorem State.raise_coldBoot (s : State) (e : Fld) (b : Nat) (c : Fld) : (s.raise e b c).coldBoot = s.coldBoot := rfl
@[simp] theorem State.raise_resetDue (s : State) (e : Fld) (b : Nat) (c : Fld) : (s.raise e b c).resetDue = s.resetDue := rfl
@[simp] theorem State.raise_romRun (s : State) (e : Fld) (b : Nat) (c : Fld) : (s.raise e b c).romRun = s.romRun := rfl
@[simp] theorem State.raise_slept (s : State) (e : Fld) (b : Nat) (c : Fld) : (s.raise e b c).slept = s.slept := rfl
@[simp] theorem State.raise_sleptAt (s : State) (e : Fld) (b : Nat) (c : Fld) : (s.raise e b c).sleptAt = s.sleptAt := rfl
@[simp] theorem State.raise_wokeAt (s : State) (e : Fld) (b : Nat) (c : Fld) : (s.raise e b c).wokeAt = s.wokeAt := rfl
@[simp] theorem State.raise_img (s : State) (e : Fld) (b : Nat) (c : Fld) : (s.raise e b c).img = s.img := rfl
@[simp] theorem State.raise_wdogAt (s : State) (e : Fld) (b : Nat) (c : Fld) : (s.raise e b c).wdogAt = s.wdogAt := rfl
@[simp] theorem State.raise_trcBuf (s : State) (e : Fld) (b : Nat) (c : Fld) : (s.raise e b c).trcBuf = s.trcBuf := rfl
@[simp] theorem State.raise_sinkLag (s : State) (e : Fld) (b : Nat) (c : Fld) : (s.raise e b c).sinkLag = s.sinkLag := rfl
@[simp] theorem State.raise_boundary (s : State) (e : Fld) (b : Nat) (c : Fld) : (s.raise e b c).boundary = s.boundary := rfl
@[simp] theorem State.raise_tap (s : State) (e : Fld) (b : Nat) (c : Fld) : (s.raise e b c).tap = s.tap := rfl
@[simp] theorem State.raise_dap (s : State) (e : Fld) (b : Nat) (c : Fld) : (s.raise e b c).dap = s.dap := rfl
@[simp] theorem State.raise_params (s : State) (e : Fld) (b : Nat) (c : Fld) : (s.raise e b c).params = s.params := rfl
@[simp] theorem State.raise_trcPaused (s : State) (e : Fld) (b : Nat) (c : Fld) : (s.raise e b c).trcPaused = s.trcPaused := rfl
@[simp] theorem State.raise_wakeCount (s : State) (e : Fld) (b : Nat) (c : Fld) : (s.raise e b c).wakeCount = s.wakeCount := rfl
@[simp] theorem State.raise_thmDemand (s : State) (e : Fld) (b : Nat) (c : Fld) : (s.raise e b c).thmDemand = s.thmDemand := rfl
@[simp] theorem State.raise_thmHot (s : State) (e : Fld) (b : Nat) (c : Fld) : (s.raise e b c).thmHot = s.thmHot := rfl
@[simp] theorem State.raise_evqSeen (s : State) (e : Fld) (b : Nat) (c : Fld) : (s.raise e b c).evqSeen = s.evqSeen := rfl

@[simp] theorem State.emit_pending (s : State) (o : Out) : (s.emit o).pending = s.pending := rfl
@[simp] theorem State.emit_regs (s : State) (o : Out) : (s.emit o).regs = s.regs := rfl
@[simp] theorem State.emit_cycle (s : State) (o : Out) : (s.emit o).cycle = s.cycle := rfl
@[simp] theorem State.emit_dutyCycle (s : State) (o : Out) : (s.emit o).dutyCycle = s.dutyCycle := rfl
@[simp] theorem State.emit_free (s : State) (o : Out) : (s.emit o).free = s.free := rfl
@[simp] theorem State.emit_flashFails (s : State) (o : Out) : (s.emit o).flashFails = s.flashFails := rfl
@[simp] theorem State.emit_flashReads (s : State) (o : Out) : (s.emit o).flashReads = s.flashReads := rfl
@[simp] theorem State.emit_kcLines (s : State) (o : Out) : (s.emit o).kcLines = s.kcLines := rfl
@[simp] theorem State.emit_readData (s : State) (o : Out) : (s.emit o).readData = s.readData := rfl
@[simp] theorem State.emit_readLatch (s : State) (o : Out) : (s.emit o).readLatch = s.readLatch := rfl
@[simp] theorem State.emit_writeHold (s : State) (o : Out) : (s.emit o).writeHold = s.writeHold := rfl
@[simp] theorem State.emit_farLatches (s : State) (o : Out) : (s.emit o).farLatches = s.farLatches := rfl
@[simp] theorem State.emit_dueFaults (s : State) (o : Out) : (s.emit o).dueFaults = s.dueFaults := rfl
@[simp] theorem State.emit_faultEnd (s : State) (o : Out) : (s.emit o).faultEnd = s.faultEnd := rfl
@[simp] theorem State.emit_up (s : State) (o : Out) : (s.emit o).up = s.up := rfl
@[simp] theorem State.emit_dn (s : State) (o : Out) : (s.emit o).dn = s.dn := rfl
@[simp] theorem State.emit_window (s : State) (o : Out) : (s.emit o).window = s.window := rfl
@[simp] theorem State.emit_pf0 (s : State) (o : Out) : (s.emit o).pf0 = s.pf0 := rfl
@[simp] theorem State.emit_pf1 (s : State) (o : Out) : (s.emit o).pf1 = s.pf1 := rfl
@[simp] theorem State.emit_postCredit (s : State) (o : Out) : (s.emit o).postCredit = s.postCredit := rfl
@[simp] theorem State.emit_readCredit (s : State) (o : Out) : (s.emit o).readCredit = s.readCredit := rfl
@[simp] theorem State.emit_nextRead (s : State) (o : Out) : (s.emit o).nextRead = s.nextRead := rfl
@[simp] theorem State.emit_cplWait (s : State) (o : Out) : (s.emit o).cplWait = s.cplWait := rfl
@[simp] theorem State.emit_lastLevel (s : State) (o : Out) : (s.emit o).lastLevel = s.lastLevel := rfl
@[simp] theorem State.emit_chans (s : State) (o : Out) : (s.emit o).chans = s.chans := rfl
@[simp] theorem State.emit_sqs (s : State) (o : Out) : (s.emit o).sqs = s.sqs := rfl
@[simp] theorem State.emit_rings (s : State) (o : Out) : (s.emit o).rings = s.rings := rfl
@[simp] theorem State.emit_admin (s : State) (o : Out) : (s.emit o).admin = s.admin := rfl
@[simp] theorem State.emit_cpHalted (s : State) (o : Out) : (s.emit o).cpHalted = s.cpHalted := rfl
@[simp] theorem State.emit_fwReads (s : State) (o : Out) : (s.emit o).fwReads = s.fwReads := rfl
@[simp] theorem State.emit_fwNext (s : State) (o : Out) : (s.emit o).fwNext = s.fwNext := rfl
@[simp] theorem State.emit_fwTurn (s : State) (o : Out) : (s.emit o).fwTurn = s.fwTurn := rfl
@[simp] theorem State.emit_sq0Stop (s : State) (o : Out) : (s.emit o).sq0Stop = s.sq0Stop := rfl
@[simp] theorem State.emit_admStop (s : State) (o : Out) : (s.emit o).admStop = s.admStop := rfl
@[simp] theorem State.emit_progs (s : State) (o : Out) : (s.emit o).progs = s.progs := rfl
@[simp] theorem State.emit_readyQ (s : State) (o : Out) : (s.emit o).readyQ = s.readyQ := rfl
@[simp] theorem State.emit_fetchLast (s : State) (o : Out) : (s.emit o).fetchLast = s.fetchLast := rfl
@[simp] theorem State.emit_cancels (s : State) (o : Out) : (s.emit o).cancels = s.cancels := rfl
@[simp] theorem State.emit_ops (s : State) (o : Out) : (s.emit o).ops = s.ops := rfl
@[simp] theorem State.emit_fetchSeq (s : State) (o : Out) : (s.emit o).fetchSeq = s.fetchSeq := rfl
@[simp] theorem State.emit_commitSeq (s : State) (o : Out) : (s.emit o).commitSeq = s.commitSeq := rfl
@[simp] theorem State.emit_sePhys (s : State) (o : Out) : (s.emit o).sePhys = s.sePhys := rfl
@[simp] theorem State.emit_insts (s : State) (o : Out) : (s.emit o).insts = s.insts := rfl
@[simp] theorem State.emit_farSlots (s : State) (o : Out) : (s.emit o).farSlots = s.farSlots := rfl
@[simp] theorem State.emit_wqs (s : State) (o : Out) : (s.emit o).wqs = s.wqs := rfl
@[simp] theorem State.emit_sram (s : State) (o : Out) : (s.emit o).sram = s.sram := rfl
@[simp] theorem State.emit_poison (s : State) (o : Out) : (s.emit o).poison = s.poison := rfl
@[simp] theorem State.emit_upsets (s : State) (o : Out) : (s.emit o).upsets = s.upsets := rfl
@[simp] theorem State.emit_cans (s : State) (o : Out) : (s.emit o).cans = s.cans := rfl
@[simp] theorem State.emit_lins (s : State) (o : Out) : (s.emit o).lins = s.lins := rfl
@[simp] theorem State.emit_sents (s : State) (o : Out) : (s.emit o).sents = s.sents := rfl
@[simp] theorem State.emit_sers (s : State) (o : Out) : (s.emit o).sers = s.sers := rfl
@[simp] theorem State.emit_cards (s : State) (o : Out) : (s.emit o).cards = s.cards := rfl
@[simp] theorem State.emit_eths (s : State) (o : Out) : (s.emit o).eths = s.eths := rfl
@[simp] theorem State.emit_ptp (s : State) (o : Out) : (s.emit o).ptp = s.ptp := rfl
@[simp] theorem State.emit_gwIn (s : State) (o : Out) : (s.emit o).gwIn = s.gwIn := rfl
@[simp] theorem State.emit_gwOut (s : State) (o : Out) : (s.emit o).gwOut = s.gwOut := rfl
@[simp] theorem State.emit_gwSpent (s : State) (o : Out) : (s.emit o).gwSpent = s.gwSpent := rfl
@[simp] theorem State.emit_gwSeq (s : State) (o : Out) : (s.emit o).gwSeq = s.gwSeq := rfl
@[simp] theorem State.emit_grtShadow (s : State) (o : Out) : (s.emit o).grtShadow = s.grtShadow := rfl
@[simp] theorem State.emit_pinParked (s : State) (o : Out) : (s.emit o).pinParked = s.pinParked := rfl
@[simp] theorem State.emit_gpioIn (s : State) (o : Out) : (s.emit o).gpioIn = s.gpioIn := rfl
@[simp] theorem State.emit_gpioOut (s : State) (o : Out) : (s.emit o).gpioOut = s.gpioOut := rfl
@[simp] theorem State.emit_presIn (s : State) (o : Out) : (s.emit o).presIn = s.presIn := rfl
@[simp] theorem State.emit_capIn (s : State) (o : Out) : (s.emit o).capIn = s.capIn := rfl
@[simp] theorem State.emit_tln (s : State) (o : Out) : (s.emit o).tln = s.tln := rfl
@[simp] theorem State.emit_chain0 (s : State) (o : Out) : (s.emit o).chain0 = s.chain0 := rfl
@[simp] theorem State.emit_chain1 (s : State) (o : Out) : (s.emit o).chain1 = s.chain1 := rfl
@[simp] theorem State.emit_injecting (s : State) (o : Out) : (s.emit o).injecting = s.injecting := rfl
@[simp] theorem State.emit_chain2 (s : State) (o : Out) : (s.emit o).chain2 = s.chain2 := rfl
@[simp] theorem State.emit_fltOwner (s : State) (o : Out) : (s.emit o).fltOwner = s.fltOwner := rfl
@[simp] theorem State.emit_reqs (s : State) (o : Out) : (s.emit o).reqs = s.reqs := rfl
@[simp] theorem State.emit_reqGen (s : State) (o : Out) : (s.emit o).reqGen = s.reqGen := rfl
@[simp] theorem State.emit_fabric (s : State) (o : Out) : (s.emit o).fabric = s.fabric := rfl
@[simp] theorem State.emit_fabNext (s : State) (o : Out) : (s.emit o).fabNext = s.fabNext := rfl
@[simp] theorem State.emit_slotParts (s : State) (o : Out) : (s.emit o).slotParts = s.slotParts := rfl
@[simp] theorem State.emit_lxbQ (s : State) (o : Out) : (s.emit o).lxbQ = s.lxbQ := rfl
@[simp] theorem State.emit_lxbLast (s : State) (o : Out) : (s.emit o).lxbLast = s.lxbLast := rfl
@[simp] theorem State.emit_lxbLock (s : State) (o : Out) : (s.emit o).lxbLock = s.lxbLock := rfl
@[simp] theorem State.emit_lxbBroken (s : State) (o : Out) : (s.emit o).lxbBroken = s.lxbBroken := rfl
@[simp] theorem State.emit_lxbOut (s : State) (o : Out) : (s.emit o).lxbOut = s.lxbOut := rfl
@[simp] theorem State.emit_sems (s : State) (o : Out) : (s.emit o).sems = s.sems := rfl
@[simp] theorem State.emit_mirrors (s : State) (o : Out) : (s.emit o).mirrors = s.mirrors := rfl
@[simp] theorem State.emit_rounds (s : State) (o : Out) : (s.emit o).rounds = s.rounds := rfl
@[simp] theorem State.emit_lxbIrq (s : State) (o : Out) : (s.emit o).lxbIrq = s.lxbIrq := rfl
@[simp] theorem State.emit_nv (s : State) (o : Out) : (s.emit o).nv = s.nv := rfl
@[simp] theorem State.emit_ldg (s : State) (o : Out) : (s.emit o).ldg = s.ldg := rfl
@[simp] theorem State.emit_sup (s : State) (o : Out) : (s.emit o).sup = s.sup := rfl
@[simp] theorem State.emit_pfAcked (s : State) (o : Out) : (s.emit o).pfAcked = s.pfAcked := rfl
@[simp] theorem State.emit_phase (s : State) (o : Out) : (s.emit o).phase = s.phase := rfl
@[simp] theorem State.emit_coldBoot (s : State) (o : Out) : (s.emit o).coldBoot = s.coldBoot := rfl
@[simp] theorem State.emit_resetDue (s : State) (o : Out) : (s.emit o).resetDue = s.resetDue := rfl
@[simp] theorem State.emit_romRun (s : State) (o : Out) : (s.emit o).romRun = s.romRun := rfl
@[simp] theorem State.emit_slept (s : State) (o : Out) : (s.emit o).slept = s.slept := rfl
@[simp] theorem State.emit_sleptAt (s : State) (o : Out) : (s.emit o).sleptAt = s.sleptAt := rfl
@[simp] theorem State.emit_wokeAt (s : State) (o : Out) : (s.emit o).wokeAt = s.wokeAt := rfl
@[simp] theorem State.emit_img (s : State) (o : Out) : (s.emit o).img = s.img := rfl
@[simp] theorem State.emit_wdogAt (s : State) (o : Out) : (s.emit o).wdogAt = s.wdogAt := rfl
@[simp] theorem State.emit_trcBuf (s : State) (o : Out) : (s.emit o).trcBuf = s.trcBuf := rfl
@[simp] theorem State.emit_sinkLag (s : State) (o : Out) : (s.emit o).sinkLag = s.sinkLag := rfl
@[simp] theorem State.emit_boundary (s : State) (o : Out) : (s.emit o).boundary = s.boundary := rfl
@[simp] theorem State.emit_tap (s : State) (o : Out) : (s.emit o).tap = s.tap := rfl
@[simp] theorem State.emit_dap (s : State) (o : Out) : (s.emit o).dap = s.dap := rfl
@[simp] theorem State.emit_params (s : State) (o : Out) : (s.emit o).params = s.params := rfl
@[simp] theorem State.emit_trcPaused (s : State) (o : Out) : (s.emit o).trcPaused = s.trcPaused := rfl
@[simp] theorem State.emit_wakeCount (s : State) (o : Out) : (s.emit o).wakeCount = s.wakeCount := rfl
@[simp] theorem State.emit_thmDemand (s : State) (o : Out) : (s.emit o).thmDemand = s.thmDemand := rfl
@[simp] theorem State.emit_thmHot (s : State) (o : Out) : (s.emit o).thmHot = s.thmHot := rfl
@[simp] theorem State.emit_evqSeen (s : State) (o : Out) : (s.emit o).evqSeen = s.evqSeen := rfl

@[simp] theorem State.fault_pending (s : State) (e : FaultEv) : (s.fault e).pending = s.pending := rfl
@[simp] theorem State.fault_regs (s : State) (e : FaultEv) : (s.fault e).regs = s.regs := rfl
@[simp] theorem State.fault_cycle (s : State) (e : FaultEv) : (s.fault e).cycle = s.cycle := rfl
@[simp] theorem State.fault_dutyCycle (s : State) (e : FaultEv) : (s.fault e).dutyCycle = s.dutyCycle := rfl
@[simp] theorem State.fault_free (s : State) (e : FaultEv) : (s.fault e).free = s.free := rfl
@[simp] theorem State.fault_flashFails (s : State) (e : FaultEv) : (s.fault e).flashFails = s.flashFails := rfl
@[simp] theorem State.fault_flashReads (s : State) (e : FaultEv) : (s.fault e).flashReads = s.flashReads := rfl
@[simp] theorem State.fault_kcLines (s : State) (e : FaultEv) : (s.fault e).kcLines = s.kcLines := rfl
@[simp] theorem State.fault_out (s : State) (e : FaultEv) : (s.fault e).out = s.out := rfl
@[simp] theorem State.fault_readData (s : State) (e : FaultEv) : (s.fault e).readData = s.readData := rfl
@[simp] theorem State.fault_readLatch (s : State) (e : FaultEv) : (s.fault e).readLatch = s.readLatch := rfl
@[simp] theorem State.fault_writeHold (s : State) (e : FaultEv) : (s.fault e).writeHold = s.writeHold := rfl
@[simp] theorem State.fault_farLatches (s : State) (e : FaultEv) : (s.fault e).farLatches = s.farLatches := rfl
@[simp] theorem State.fault_faultEnd (s : State) (e : FaultEv) : (s.fault e).faultEnd = s.faultEnd := rfl
@[simp] theorem State.fault_up (s : State) (e : FaultEv) : (s.fault e).up = s.up := rfl
@[simp] theorem State.fault_dn (s : State) (e : FaultEv) : (s.fault e).dn = s.dn := rfl
@[simp] theorem State.fault_window (s : State) (e : FaultEv) : (s.fault e).window = s.window := rfl
@[simp] theorem State.fault_pf0 (s : State) (e : FaultEv) : (s.fault e).pf0 = s.pf0 := rfl
@[simp] theorem State.fault_pf1 (s : State) (e : FaultEv) : (s.fault e).pf1 = s.pf1 := rfl
@[simp] theorem State.fault_postCredit (s : State) (e : FaultEv) : (s.fault e).postCredit = s.postCredit := rfl
@[simp] theorem State.fault_readCredit (s : State) (e : FaultEv) : (s.fault e).readCredit = s.readCredit := rfl
@[simp] theorem State.fault_nextRead (s : State) (e : FaultEv) : (s.fault e).nextRead = s.nextRead := rfl
@[simp] theorem State.fault_cplWait (s : State) (e : FaultEv) : (s.fault e).cplWait = s.cplWait := rfl
@[simp] theorem State.fault_lastLevel (s : State) (e : FaultEv) : (s.fault e).lastLevel = s.lastLevel := rfl
@[simp] theorem State.fault_chans (s : State) (e : FaultEv) : (s.fault e).chans = s.chans := rfl
@[simp] theorem State.fault_sqs (s : State) (e : FaultEv) : (s.fault e).sqs = s.sqs := rfl
@[simp] theorem State.fault_rings (s : State) (e : FaultEv) : (s.fault e).rings = s.rings := rfl
@[simp] theorem State.fault_admin (s : State) (e : FaultEv) : (s.fault e).admin = s.admin := rfl
@[simp] theorem State.fault_cpHalted (s : State) (e : FaultEv) : (s.fault e).cpHalted = s.cpHalted := rfl
@[simp] theorem State.fault_fwReads (s : State) (e : FaultEv) : (s.fault e).fwReads = s.fwReads := rfl
@[simp] theorem State.fault_fwNext (s : State) (e : FaultEv) : (s.fault e).fwNext = s.fwNext := rfl
@[simp] theorem State.fault_fwTurn (s : State) (e : FaultEv) : (s.fault e).fwTurn = s.fwTurn := rfl
@[simp] theorem State.fault_sq0Stop (s : State) (e : FaultEv) : (s.fault e).sq0Stop = s.sq0Stop := rfl
@[simp] theorem State.fault_admStop (s : State) (e : FaultEv) : (s.fault e).admStop = s.admStop := rfl
@[simp] theorem State.fault_progs (s : State) (e : FaultEv) : (s.fault e).progs = s.progs := rfl
@[simp] theorem State.fault_readyQ (s : State) (e : FaultEv) : (s.fault e).readyQ = s.readyQ := rfl
@[simp] theorem State.fault_fetchLast (s : State) (e : FaultEv) : (s.fault e).fetchLast = s.fetchLast := rfl
@[simp] theorem State.fault_cancels (s : State) (e : FaultEv) : (s.fault e).cancels = s.cancels := rfl
@[simp] theorem State.fault_ops (s : State) (e : FaultEv) : (s.fault e).ops = s.ops := rfl
@[simp] theorem State.fault_fetchSeq (s : State) (e : FaultEv) : (s.fault e).fetchSeq = s.fetchSeq := rfl
@[simp] theorem State.fault_commitSeq (s : State) (e : FaultEv) : (s.fault e).commitSeq = s.commitSeq := rfl
@[simp] theorem State.fault_sePhys (s : State) (e : FaultEv) : (s.fault e).sePhys = s.sePhys := rfl
@[simp] theorem State.fault_insts (s : State) (e : FaultEv) : (s.fault e).insts = s.insts := rfl
@[simp] theorem State.fault_farSlots (s : State) (e : FaultEv) : (s.fault e).farSlots = s.farSlots := rfl
@[simp] theorem State.fault_wqs (s : State) (e : FaultEv) : (s.fault e).wqs = s.wqs := rfl
@[simp] theorem State.fault_sram (s : State) (e : FaultEv) : (s.fault e).sram = s.sram := rfl
@[simp] theorem State.fault_poison (s : State) (e : FaultEv) : (s.fault e).poison = s.poison := rfl
@[simp] theorem State.fault_upsets (s : State) (e : FaultEv) : (s.fault e).upsets = s.upsets := rfl
@[simp] theorem State.fault_cans (s : State) (e : FaultEv) : (s.fault e).cans = s.cans := rfl
@[simp] theorem State.fault_lins (s : State) (e : FaultEv) : (s.fault e).lins = s.lins := rfl
@[simp] theorem State.fault_sents (s : State) (e : FaultEv) : (s.fault e).sents = s.sents := rfl
@[simp] theorem State.fault_sers (s : State) (e : FaultEv) : (s.fault e).sers = s.sers := rfl
@[simp] theorem State.fault_cards (s : State) (e : FaultEv) : (s.fault e).cards = s.cards := rfl
@[simp] theorem State.fault_eths (s : State) (e : FaultEv) : (s.fault e).eths = s.eths := rfl
@[simp] theorem State.fault_ptp (s : State) (e : FaultEv) : (s.fault e).ptp = s.ptp := rfl
@[simp] theorem State.fault_gwIn (s : State) (e : FaultEv) : (s.fault e).gwIn = s.gwIn := rfl
@[simp] theorem State.fault_gwOut (s : State) (e : FaultEv) : (s.fault e).gwOut = s.gwOut := rfl
@[simp] theorem State.fault_gwSpent (s : State) (e : FaultEv) : (s.fault e).gwSpent = s.gwSpent := rfl
@[simp] theorem State.fault_gwSeq (s : State) (e : FaultEv) : (s.fault e).gwSeq = s.gwSeq := rfl
@[simp] theorem State.fault_grtShadow (s : State) (e : FaultEv) : (s.fault e).grtShadow = s.grtShadow := rfl
@[simp] theorem State.fault_pinParked (s : State) (e : FaultEv) : (s.fault e).pinParked = s.pinParked := rfl
@[simp] theorem State.fault_gpioIn (s : State) (e : FaultEv) : (s.fault e).gpioIn = s.gpioIn := rfl
@[simp] theorem State.fault_gpioOut (s : State) (e : FaultEv) : (s.fault e).gpioOut = s.gpioOut := rfl
@[simp] theorem State.fault_presIn (s : State) (e : FaultEv) : (s.fault e).presIn = s.presIn := rfl
@[simp] theorem State.fault_capIn (s : State) (e : FaultEv) : (s.fault e).capIn = s.capIn := rfl
@[simp] theorem State.fault_tln (s : State) (e : FaultEv) : (s.fault e).tln = s.tln := rfl
@[simp] theorem State.fault_chain0 (s : State) (e : FaultEv) : (s.fault e).chain0 = s.chain0 := rfl
@[simp] theorem State.fault_chain1 (s : State) (e : FaultEv) : (s.fault e).chain1 = s.chain1 := rfl
@[simp] theorem State.fault_injecting (s : State) (e : FaultEv) : (s.fault e).injecting = s.injecting := rfl
@[simp] theorem State.fault_chain2 (s : State) (e : FaultEv) : (s.fault e).chain2 = s.chain2 := rfl
@[simp] theorem State.fault_fltOwner (s : State) (e : FaultEv) : (s.fault e).fltOwner = s.fltOwner := rfl
@[simp] theorem State.fault_reqs (s : State) (e : FaultEv) : (s.fault e).reqs = s.reqs := rfl
@[simp] theorem State.fault_reqGen (s : State) (e : FaultEv) : (s.fault e).reqGen = s.reqGen := rfl
@[simp] theorem State.fault_fabric (s : State) (e : FaultEv) : (s.fault e).fabric = s.fabric := rfl
@[simp] theorem State.fault_fabNext (s : State) (e : FaultEv) : (s.fault e).fabNext = s.fabNext := rfl
@[simp] theorem State.fault_slotParts (s : State) (e : FaultEv) : (s.fault e).slotParts = s.slotParts := rfl
@[simp] theorem State.fault_lxbQ (s : State) (e : FaultEv) : (s.fault e).lxbQ = s.lxbQ := rfl
@[simp] theorem State.fault_lxbLast (s : State) (e : FaultEv) : (s.fault e).lxbLast = s.lxbLast := rfl
@[simp] theorem State.fault_lxbLock (s : State) (e : FaultEv) : (s.fault e).lxbLock = s.lxbLock := rfl
@[simp] theorem State.fault_lxbBroken (s : State) (e : FaultEv) : (s.fault e).lxbBroken = s.lxbBroken := rfl
@[simp] theorem State.fault_lxbOut (s : State) (e : FaultEv) : (s.fault e).lxbOut = s.lxbOut := rfl
@[simp] theorem State.fault_sems (s : State) (e : FaultEv) : (s.fault e).sems = s.sems := rfl
@[simp] theorem State.fault_mirrors (s : State) (e : FaultEv) : (s.fault e).mirrors = s.mirrors := rfl
@[simp] theorem State.fault_rounds (s : State) (e : FaultEv) : (s.fault e).rounds = s.rounds := rfl
@[simp] theorem State.fault_lxbIrq (s : State) (e : FaultEv) : (s.fault e).lxbIrq = s.lxbIrq := rfl
@[simp] theorem State.fault_nv (s : State) (e : FaultEv) : (s.fault e).nv = s.nv := rfl
@[simp] theorem State.fault_ldg (s : State) (e : FaultEv) : (s.fault e).ldg = s.ldg := rfl
@[simp] theorem State.fault_sup (s : State) (e : FaultEv) : (s.fault e).sup = s.sup := rfl
@[simp] theorem State.fault_pfAcked (s : State) (e : FaultEv) : (s.fault e).pfAcked = s.pfAcked := rfl
@[simp] theorem State.fault_phase (s : State) (e : FaultEv) : (s.fault e).phase = s.phase := rfl
@[simp] theorem State.fault_coldBoot (s : State) (e : FaultEv) : (s.fault e).coldBoot = s.coldBoot := rfl
@[simp] theorem State.fault_resetDue (s : State) (e : FaultEv) : (s.fault e).resetDue = s.resetDue := rfl
@[simp] theorem State.fault_romRun (s : State) (e : FaultEv) : (s.fault e).romRun = s.romRun := rfl
@[simp] theorem State.fault_slept (s : State) (e : FaultEv) : (s.fault e).slept = s.slept := rfl
@[simp] theorem State.fault_sleptAt (s : State) (e : FaultEv) : (s.fault e).sleptAt = s.sleptAt := rfl
@[simp] theorem State.fault_wokeAt (s : State) (e : FaultEv) : (s.fault e).wokeAt = s.wokeAt := rfl
@[simp] theorem State.fault_img (s : State) (e : FaultEv) : (s.fault e).img = s.img := rfl
@[simp] theorem State.fault_wdogAt (s : State) (e : FaultEv) : (s.fault e).wdogAt = s.wdogAt := rfl
@[simp] theorem State.fault_trcBuf (s : State) (e : FaultEv) : (s.fault e).trcBuf = s.trcBuf := rfl
@[simp] theorem State.fault_sinkLag (s : State) (e : FaultEv) : (s.fault e).sinkLag = s.sinkLag := rfl
@[simp] theorem State.fault_boundary (s : State) (e : FaultEv) : (s.fault e).boundary = s.boundary := rfl
@[simp] theorem State.fault_tap (s : State) (e : FaultEv) : (s.fault e).tap = s.tap := rfl
@[simp] theorem State.fault_dap (s : State) (e : FaultEv) : (s.fault e).dap = s.dap := rfl
@[simp] theorem State.fault_params (s : State) (e : FaultEv) : (s.fault e).params = s.params := rfl
@[simp] theorem State.fault_trcPaused (s : State) (e : FaultEv) : (s.fault e).trcPaused = s.trcPaused := rfl
@[simp] theorem State.fault_wakeCount (s : State) (e : FaultEv) : (s.fault e).wakeCount = s.wakeCount := rfl
@[simp] theorem State.fault_thmDemand (s : State) (e : FaultEv) : (s.fault e).thmDemand = s.thmDemand := rfl
@[simp] theorem State.fault_thmHot (s : State) (e : FaultEv) : (s.fault e).thmHot = s.thmHot := rfl
@[simp] theorem State.fault_evqSeen (s : State) (e : FaultEv) : (s.fault e).evqSeen = s.evqSeen := rfl

@[simp] theorem State.emit_out (s : State) (o : Out) : (s.emit o).out = s.out ++ [o] := rfl
@[simp] theorem State.fault_dueFaults (s : State) (e : FaultEv) : (s.fault e).dueFaults = s.dueFaults ++ [e] := rfl

end Sys2Proof.Machine
end

