-- ==== Sys2Proof/Tests/Slice0.lean ====
section
/-!
SUPPORT. Tests: the checks of WellFormed refuse what they are for, single steps give what the worked cases of the spec
give, and for each statement that has hypotheses a state and operands that meet them (`witness_<statement>`).
-/

namespace Sys2Proof.Tests

open Sys2Proof.Machine

set_option Elab.async false

/-! ### States -/

/-- A state with register fields written. -/
def mk (fs : List (Fld × Nat)) (s : State := {}) : State := fs.foldl (fun t f => t.put f.1 f.2) s

/-- A unit that has booted, in ACTIVE. -/
def ready (fs : List (Fld × Nat) := []) : State := mk ((R.GLB_BOOT_STATUS_stage, stageReady) :: fs) { phase := .up }

/-- The same with chain address 5, port UP active, and unit 7 behind it. -/
def chained (fs : List (Fld × Nat) := []) : State :=
  ready ([(R.CHN_KC_STATUS_assigned, 1), (R.CHN_KC_STATUS_addr, 5), (R.CHN_PT_STATUS_state 0, 2),
    (R.CHN_MAP_valid 7, 1), (R.CHN_MAP_port 7, 0), (R.CHN_PT_SEQ_rx_expected 0, 0)] ++ fs)

/-- A flit from unit 7 to unit 5. -/
def flit (payload : List Byte) : FlitIn := { dst := 5, src := 7, payload := payload }

/-- A broadcast of unit 7. -/
def cast (payload : List Byte) : FlitIn := { src := 7, bcast := true, payload := payload }

/-- A Keychain frame to unit 5 with its check byte (R168, R172). -/
def kc (cmd arg : Nat) (bcast : Bool := false) : BitVec 48 :=
  let f := cmd + b2n bcast * 2 ^ 4 + 5 * 2 ^ 6 + arg * 2 ^ 16
  BitVec.ofNat 48 (f + crc8 (leBytes 5 f) * 2 ^ 40)

/-- A device address of the unit itself: class, instance and sub-address (R329). -/
def dev (cls idx : Nat) (sub : Nat := 0) : Nat := 2 ^ 10 + cls * 2 ^ 12 + idx * 2 ^ 16 + sub * 2 ^ 20

/-- An operation of one CCW with its whole count known. -/
def opOf (c : Ccw) (o : Op := {}) : Op := { o with first := c, segs := [{ ccw := c, room := c.count }] }

/-- A booted unit with one operation, of tag 0. -/
def withOp (o : Op) (s : State := ready) : State := s.setOp 0 o

/-- A CONTROL function issued to a port by tag 0. -/
def issued (cls func idx : Nat) (s : State := ready) : State :=
  withOp (opOf { opcode := ocControl, func := func, dev := dev cls idx } { begun := true }) s

/-- A program of SQ 1 of function 0. -/
def prog : Prog := { sq := 1, slot := 0, seq := 0, fn := 0, echo := 0, st := .running }

/-- A booted unit with a program, of tag 0. -/
def withProg (p : Prog) (s : State := ready) : State := s.setProg 0 p

/-- A CCW of 32 bytes (R298). -/
def ccw (opcode func flags device count : Nat) (param data : Nat := 0) : List Byte :=
  withCheck (leBytes 1 opcode ++ leBytes 1 func ++ leBytes 2 flags ++ leBytes 4 device ++ leBytes 4 count ++ leBytes 4 param
    ++ leBytes 8 data ++ leBytes 8 0) 0x1C

/-- What holds of an outcome's next state. -/
def after (o : Host.Outcome State Fault Refusal) (p : State → Bool) : Bool :=
  match o with
  | .next t => p t
  | _ => false

/-! ### WellFormed -/

theorem test_wf_flit : wellFormed (.idle 0 { payload := zeros 49 }) = false ∧
    wellFormed (.idle 0 { payload := zeros 48 }) = true := by decide +kernel

theorem test_wf_completion (l : List Byte) (h : 4096 < l.length) : wellFormed (.readCompletion 0 0 (.ok l)) = false ∧
    wellFormed (.readCompletion 0 0 (.poisoned l)) = false := by simp [wellFormed, Cpl.wf, h]

theorem test_wf_can_data : wellFormed (.canFrameReceive 0 { fmt := 0, ident := 0, data := zeros 9 } 0) = false ∧
    wellFormed (.canFrameReceive 0 { fmt := 1, ident := 0, data := zeros 13 } 0) = false ∧
    wellFormed (.canFrameReceive 0 { fmt := 2, ident := 0 } 0) = false := by decide

theorem test_wf_can_ident : wellFormed (.canFrameReceive 0 { fmt := 0, ident := 2048 } 0) = false ∧
    wellFormed (.canFrameReceive 0 { fmt := 0, ide := true, ident := 2048 } 0) = true := by decide +kernel

theorem test_wf_lin : wellFormed (.linResponseEnd 0 { data := zeros 9 }) = false := by decide

theorem test_wf_uart : wellFormed (.uartCharacterReceive 0 { ticks := [] } 0) = false := by decide

theorem test_wf_thermal : wellFormed (.thermalSample []) = false := by decide

theorem test_wf_codeword : wellFormed (.flitReject 0 (zeros 63) (zeros 4) true) = false ∧
    wellFormed (.flitMalformed 0 (zeros 64) (zeros 3)) = false ∧
    wellFormed (.flitMalformed 0 (zeros 64) (zeros 4)) = true := by decide +kernel

/-! ### Reset, the step and decoding -/

theorem test_reset_inv : State.reset.Inv := by decide

/-- Reset values that the register tables give: THM_LIM 0x007D_766E, PIN and CLK fields. -/
theorem test_reset_values : State.reset.readFlds [R.THM_LIM_warn, R.THM_LIM_enforce, R.THM_LIM_critical] = 0x007D766E ∧
    State.reset.get R.THM_DUTY_host_duty = 16 ∧ State.reset.get R.THM_PEAK_value = 0x800 ∧
    State.reset.get (R.CHN_PT_CTL_en 0) = 1 := by decide

theorem test_step_front : step { State.reset with pending := [.rstNAssert, .watchdogExpiry] } =
    exec .rstNAssert { State.reset with pending := [.watchdogExpiry] } := rfl

theorem test_step_idle : after (step ready) (fun t => t.cycle == 1 && t.now == 0) = true := by decide +kernel

theorem test_decode_none : decodeTableWord 32 0 = none ∧ State.reset.withFetchWord 32 0 = State.reset := by decide

/-! ### Single steps, against the spec's worked cases -/

/-- R3 and R172: the check values over "123456789". -/
theorem test_check_values : crc32c [0x31, 0x32, 0x33, 0x34, 0x35, 0x36, 0x37, 0x38, 0x39] = 0xE3069283 ∧
    crc8 [0x31, 0x32, 0x33, 0x34, 0x35, 0x36, 0x37, 0x38, 0x39] = 0xDF := by decide +kernel

/-- FIPS 180-4: the digest of "abc". -/
theorem test_sha256 : (sha256 [0x61, 0x62, 0x63]).take 8 = [0xBA, 0x78, 0x16, 0xBF, 0x8F, 0x01, 0xCF, 0xEA] := by
  decide +kernel

/-- R224: PF1's IDs, and the size of BAR0 as a write of all ones shows it. -/
theorem test_config : State.reset.cfgRead 1 .ident = 0x0741A3D1 ∧
    (State.reset.cfgWrite 0 0xFFFFFFFF (.bar 0)).cfgRead 0 (.bar 0) = 0xFFF00004 := by decide +kernel

/-- Chapter 8, doorbells across a wrap: H = T = 13 on depth 8; tail 2 is taken, and tail 1 after it is DB_ORDER. -/
def sq17 (h t : Nat) : State :=
  (ready).setSq 17 { state := 1, owner := 0, prio := 2, cr := 3, log2 := 3, h := h, t := t }

theorem test_tail_wrap : after (exec (.sqDoorbell 17 0 2) (sq17 13 13)) (fun t => (t.sq 17).t == 2) = true := by
  decide +kernel

theorem test_tail_backward : after (exec (.sqDoorbell 17 0 1) (sq17 2 2))
    (fun t => (t.sq 17).state == 3 && (t.sq 17).err == 2 && (t.sq 17).errVal == 1) = true := by decide +kernel

/-- Chapter 2: land 152 is refused CAN5_TX while land 10 has it, and last_land is 152. -/
theorem test_pin_conflict : after (exec (.pinSelect 152 0 2) (ready [(R.PIN_CFG_sel 10, 1), (R.PIN_CFG_attached 10, 1)]))
    (fun t => t.get R.PIN_STATUS_last_land == 152 && t.bitOf R.PIN_STATUS_cause 0 &&
      t.get (R.PIN_CFG_sel 152) == 0) = true := by decide +kernel

/-- Chapter 2: land 10 goes from CAN5_TX to GPIO10 through a busy interval. -/
theorem test_pin_switch : after (exec (.pinSelect 10 0 0x0B) (ready [(R.PIN_CFG_sel 10, 1), (R.PIN_CFG_attached 10, 1)]))
    (fun t => t.get (R.PIN_CFG_sel 10) == 3 && t.get (R.PIN_CFG_attached 10) == 0 && t.on (R.PIN_CFG_busy 10)) = true ∧
    after (exec (.parkIntervalEnd 10) (ready [(R.PIN_CFG_sel 10, 3), (R.PIN_CFG_busy 10, 1)]))
      (fun t => t.get (R.PIN_CFG_attached 10) == 3 && !t.on (R.PIN_CFG_busy 10)) = true := by decide +kernel

/-- Chapter 15: TS1 at 110.0 °C (raw 0x370) with the others at 100 °C brings WARNING and starts the grace. -/
theorem test_thermal_warning : after (exec (.thermalSample ((0x370, false) :: List.replicate 8 (0x368, false))) (ready))
    (fun t => t.get R.THM_STATUS_state == 1 && t.on R.THM_STATUS_grace_running && t.bitOf R.THM_EVT_cause 0 &&
      t.get R.THM_STATUS_highest == 0x370) = true := by decide +kernel

/-- Chapter 15: the median of 80.0 and 78.0 °C is 79.0 °C. -/
theorem test_thermal_median : median [640, 624] = 632 := by decide

/-- Chapter 15: a limit above its fused value leaves THM_LIM and counts in the Deadbolt source. -/
theorem test_thermal_bound : after (exec (.thmLimWrite 2 0x007D766F) (ready))
    (fun t => t.get R.THM_LIM_warn == 110 && t.get (R.FLT_SRC_TOTAL_count 4) == 1) = true := by decide +kernel

/-- R501: a far holder is shown with its MID and origin. -/
theorem test_semaphore : after (exec (.semaphoreRead 3 1 0) { ready with sems := [(3, (4, 9))] })
    (fun t => t.readData == 2 ^ 31 + 4 + 9 * 16) = true := by decide +kernel

/-- R464: a time set reads back, and one with 10⁹ ns is refused. -/
theorem test_tim_set : after (exec (.timSet 2 0x1_0000_0005) (ready)) (fun t => t.ptpNow == 0x1_0000_0005) = true ∧
    after (exec (.timSet 2 1000000000) (ready)) (fun t => t.ptpNow == 0 && t.bitOf R.TIM_EVT_cause 4) = true := by
  decide +kernel


/-! ### Witnesses: states and operands that meet the hypotheses of the statements, clause by clause -/

/-- A Keychain transaction of one frame. -/
def kcIn (k arg : Nat) (bcast : Bool := false) : KcIn := { frame := kc k arg bcast }

theorem witness_KeychainBadFrameDiscarded : (chained).phase ≠ .held ∧ kcCheckOk (kcIn 0 0) = true ∧
    kcCheckOk { frame := 1 } = false := by decide +kernel

/-- A Keychain command that an assigned unit takes. -/
def taken (k arg : Nat) (bcast : Bool := false) (s : State := chained) : Prop := KcTakes s (kcIn k arg bcast) k

/-- A unit at a step of the power-fail sequence. -/
def failing (n : Nat := 1) : State := { (chained) with sup := { pf := n } }

theorem witness_KeychainReadsAnswered : taken 0 0 ∧ taken 2 0 ∧ taken 3 5 ∧ taken 12 0 ∧ taken 15 (2 ^ 24 - 1) ∧
    ((kcParse (kcIn 2 0)).cmd = 2 ∧ (kcParse (kcIn 2 0)).bcast = false ∧ (ready).kcMine (kcParse (kcIn 2 0)) = false) ∧
    ((chained).kcMine (kcParse (kcIn 8 0xFFFFFF)) = true ∧ (kcParse (kcIn 8 0xFFFFFF)).argOk = false) := by
  unfold taken KcTakes; (constructorm* _ ∧ _) <;> decide +kernel

/-- A unit without a host, with its PLL locked. -/
def windowed : State := chained [(R.CLK_STATUS_pll_lock, 1)]

theorem witness_KeychainCommandsAct : taken 4 0x13E3E ∧ taken 4 0 true ∧ taken 5 0xD740 ∧ taken 6 3 true ∧
    (taken 5 0xD740 false failing ∧ taken 6 3 false failing ∧ (failing).failing = true ∧ (chained).failing = false) ∧
    taken 7 0 ∧ taken 8 0x3FFFF false windowed ∧ taken 9 0x1FFFF false windowed ∧ taken 9 0xFFFF false windowed ∧
    taken 10 0 false windowed ∧ taken 11 1 false windowed ∧ windowed.winBlocked false = none ∧
    windowed.winBlocked true = none ∧ taken 10 0 ∧ taken 8 0 ∧ taken 9 0 ∧ taken 11 0 ∧
    (chained).winBlocked false = some ksNotReady ∧ (chained).winBlocked true = some ksNotReady ∧
    ((kcParse (kcIn 1 0)).cmd = 1 ∧ (kcParse (kcIn 1 0)).argOk = true ∧ (kcParse (kcIn 1 0)).bcast = false ∧
      (ready).assigned = false ∧ (chained).assigned = true) := by
  unfold taken KcTakes; (constructorm* _ ∧ _) <;> decide +kernel

/-- A unit in OFF. -/
def asleep : State := ready [(R.PWR_STATE_current, 3)]

theorem witness_SupplyResetsAndBands : ({ phase := .held } : State).phase = .held ∧ (ready).phase ≠ .held ∧
    ((ready).sup.pf = 0 ∧ (ready).sup.below = false) ∧
    ({ (ready) with sup := { below := true } }.sup.below = true ∧ (ready).pfFull = true) ∧
    ({ asleep with sup := { below := true } }.pfFull = false) ∧
    ((failing 1).sup.pf = 1 ∧ (failing 2).sup.pf = 2 ∧ (failing 3).sup.pf = 3 ∧ (failing 4).sup.pf = 4 ∧ (failing 5).sup.pf = 5 ∧
      (failing 4).pfFull = true) := by decide +kernel

theorem witness_StoreJudgedAfterEveryEvent :
    ((ready).chargerRuns = true ∧ (ready).sup.cal = .selfTest ∧ (ready).on R.PWR_STATUS_in_low = false) ∧
    ({ sup := { cal := .recharge } } : State).sup.cal = .recharge ∧
    ({ sup := { overVolt := true } } : State).chargerRuns = false ∧
    ({ sup := { cal := .discharge } } : State).sup.cal = .discharge ∧
    (ready [(R.PWR_STATUS_in_low, 1)]).on R.PWR_STATUS_in_low = true ∧ (ready).sup.failed ≠ some 7 ∧
    ({ sup := { failed := some 7 } } : State).sup.failed = some 7 := by decide +kernel

theorem witness_PowerRequestsJudged :
    ([0, 1, 2, 4].contains (4#4).toNat = true ∧ (ready).phase ≠ .held ∧ (ready).failing = false ∧
      (ready [(R.PWR_STATE_busy, 1)]).pwrJudge 0 ≠ prOk) ∧
    ((ready).pwrJudge 0 = prOk ∧ (ready).power = 0 ∧ (ready).running = true ∧ (ready).pwrJudge 1 = prOk ∧
      (ready).pwrJudge 2 = prOk ∧ (ready).pwrJudge 3 = prOk) ∧
    ((ready [(R.PWR_STATE_current, 1)]).pwrJudge 0 = prOk ∧ (ready [(R.PWR_STATE_current, 1)]).running = true) ∧
    (asleep.running = false ∧ asleep.pwrJudge 0 = prOk ∧ asleep.pwrJudge 2 = prOk ∧ asleep.power = 3) ∧
    ([0, 1, 2, 4].contains (3#4).toNat = false ∧ (failing).failing = true) ∧
    ((ready [(R.PWR_STATE_busy, 1)]).on R.PWR_STATE_busy = true ∧
      { ready [(R.PWR_STATE_busy, 1)] with sq0Stop := true }.sq0Stop = true ∧ (ready).on R.PWR_STATE_busy = false) ∧
    (2 ≤ asleep.power ∧ (mk [(R.PWR_STATE_target, 3)] asleep).get R.PWR_STATE_target ≠ 0 ∧ asleep.phase = .up ∧
      asleep.failing = false) ∧
    (asleep.running = false ∧ asleep.chargerRuns = true ∧ (ready).sup.cal ≠ .discharge) ∧
    ({ sup := { cal := .discharge } } : State).sup.cal = .discharge := by decide +kernel

theorem witness_ResetsAskedAndTaken : ((ready).phase ≠ .held ∧ (ready).failing = false ∧ (ready).resetDue = none) ∧
    { (ready) with resetDue := some { cause := 2 } }.resetDue = some { cause := 2 } ∧ (failing).failing = true ∧
    ((ready).answers = true ∧ bits (0xD7400003#32).toNat 16 16 = 55104 ∧ (0xD7400003#32).toNat.testBit 0 = true ∧
      [0, 1, 2, 4].contains (0#4).toNat = true) ∧
    bits (0xD73F0001#32).toNat 16 16 ≠ 55104 ∧
    (ready [(R.GLB_WDOG_CTL_running, 1), (R.CLK_MONO_time, 2 ^ 40)]).wdogDue = true ∧ (ready).wdogDue = false ∧
    State.reset.phase = .asserted ∧ (ready [(R.GLB_BOOT_STATUS_stage, stageRecovery)]).romServes = true ∧
    ((ready).cpHalted = false ∧ (ready).isUp = true ∧ (ready).romServes = false) ∧ State.reset.isUp = false := by decide +kernel

theorem witness_BootAndClocks : (State.reset.phase = .asserted ∧ State.reset.romRun < 3) ∧
    3 ≤ ({ romRun := 3 } : State).romRun ∧ (ready).phase ≠ .asserted ∧ ({ phase := .noClock } : State).phase = .noClock ∧
    ((ready).isUp = true ∧ (ready).running = true ∧ (ready).safe = false) ∧
    (ready [(R.FLT_SAFE_active, 1)]).safe = true ∧ asleep.running = false := by decide +kernel

/-- GLB_BOOT_EVT: W1C bits without behaviour of their own. -/
def bootEvt : RegAt := { off := 0x40, wide := false, flds := [R.GLB_BOOT_EVT_cause] }

theorem plain_bootEvt (s : State) (h : s.ftmClosed 0x40 = false) : PlainAt s 0 0x40 bootEvt :=
  ⟨by decide, ⟨by decide, by decide +kernel, h, by decide⟩, by decide +kernel, rfl, by decide +kernel, by decide +kernel,
    by decide +kernel, by decide +kernel⟩

/-- A unit that its host reaches: the link up and memory accesses enabled. -/
def hosted (fs : List (Fld × Nat) := []) : State :=
  ready ([(R.INT_LINK_up, 1), (R.INT_LINK_perst_n, 1), (R.CFG_CMD_mse 0, 1), (R.CFG_CMD_bme 0, 1)] ++ fs)

theorem witness_RegisterAccessByCode :
    ((hosted).accepts (who 0 0) (.bar0 0x40) = true ∧ (hosted).unsupported 0 (.bar0 0x40) = false) ∧
    PlainAt (hosted) 0 (0x40#20).toNat bootEvt ∧ (0x42#20).toNat % 4 ≠ 0 ∧ (0x44#20).toNat % 8 ≠ 0 ∧ (1#4).toNat < 2 ∧
    ((hosted).accepts (who 0 0) (.bar2 0) = true ∧ (hosted).unsupported 0 (.bar2 0) = false) ∧
    ((hosted).accepts (who 0 0) (.bar4 0xFF) = true ∧ (hosted).unsupported 0 (.bar4 0xFF) = false ∧
      (0xFF#16).toNat % 4096 < 256 ∧ 256 ≤ (0x100#16).toNat % 4096) ∧
    ((hosted).accepts (who 0 0) (.config .ident) = true ∧ (hosted).unsupported 1 (.bar0 0x40) = true ∧
      (hosted).accepts (who 1 0) (.bar0 0x40) = true ∧ State.reset.accepts (who 0 0) (.bar0 0x40) = false) ∧
    ((hosted [(R.CFG_BAR0_addr 0, 1)]).barMatch 0x100040 = some (0, .bar0 0x40) ∧ State.reset.barMatch 0 = none) ∧
    (registerCommand (.repair 0) = true ∧ State.reset.answers = false) :=
  ⟨by decide +kernel, plain_bootEvt _ (by decide +kernel), by decide, by decide, by decide, by decide +kernel,
    by decide +kernel, by decide +kernel, by decide +kernel, by decide +kernel⟩

theorem witness_HalvesOfWideRegisters :
    ((3 : BitVec 4) ≠ 4 ∧ tget { (ready) with writeHold := [(0x48 * 16 + 3, 7)] }.writeHold ((0x48#20).toNat * 16 + (3#4).toNat)
      = some 7) ∧
    tget (ready).writeHold 0 = none ∧
    { (ready) with farLatches := [{ origin := 9, off := 0x48, write := true, value := 1 }] }.farLatches.find?
      (fun l : FarLatch => l.origin == (9#10).toNat) = some { origin := 9, off := 0x48, write := true, value := 1 } ∧
    (ready).farLatches.find? (fun l : FarLatch => l.origin == (9#10).toNat) = none := by decide +kernel

/-- A unit closed to far accesses, and one before boot step 3. -/
def shut : State := chained [(R.HNG_CTL_far_in_en, 0)]
def early : State := chained [(R.GLB_BOOT_STATUS_stage, 1)]

theorem witness_FarRequestsServed :
    ((chained).arrives 0 (flit (zeros 16)) = true ∧ ((chained).accept 0 .req (flit (zeros 16))).inReset = false ∧
      ((chained).accept 0 .req (flit (zeros 16))).farStatus (reqOff (flit (zeros 16)).payload) = none) ∧
    ((shut).arrives 0 (flit (zeros 16)) = true ∧
      (shut.accept 0 .req (flit (zeros 16))).farStatus (reqOff (zeros 16)) = some 2) ∧
    (early.arrives 0 (flit (zeros 16)) = true ∧ (early.accept 0 .req (flit (zeros 16))).inReset = true) ∧
    ((chained).arrives 1 (flit (zeros 16)) = false ∧ (flit (zeros 16)).bcast = false) ∧
    ((chained).expects 0 (cast (zeros 16)) = true ∧ (cast (zeros 16)).bcast = true ∧
      (((chained).accept 0 .req (cast (zeros 16))).relay 0 0x11 (cast (zeros 16))).assigned = true ∧
      (((chained).accept 0 .req (cast (zeros 16))).relay 0 0x11 (cast (zeros 16))).inReset = false ∧
      (((chained).accept 0 .req (cast (zeros 16))).relay 0 0x11 (cast (zeros 16))).farStatus (reqOff (zeros 16)) = none) ∧
    (early.expects 0 (cast (zeros 16)) = true ∧
      ((early.accept 0 .req (cast (zeros 16))).relay 0 0x11 (cast (zeros 16))).inReset = true) := by
  decide +kernel

/-- A window access of GLB_BOOT_EVT. -/
def windowAt (write : Bool) : State := { (ready) with window := { addr := 0x40, write := write, st := .pending } }

theorem witness_FarRequestsServed_window : ((windowAt false).window.st = .pending ∧ (windowAt false).answers = true) ∧
    (ready).window.st ≠ .pending ∧ PlainAt (windowAt false) 0 0x40 bootEvt ∧ PlainAt (windowAt true) 0 0x40 bootEvt :=
  ⟨by decide +kernel, by decide +kernel, plain_bootEvt _ (by decide +kernel), plain_bootEvt _ (by decide +kernel)⟩

/-- A booted unit whose function 0 may issue requests, the link up. -/
def linked (fs : List (Fld × Nat) := []) : State := ready ([(R.CFG_CMD_bme 0, 1), (R.INT_LINK_up, 1)] ++ fs)

/-- A linked unit with a running program and its operation, both of tag 0. -/
def running (o : Op) (p : Prog := prog) (s : State := linked) : State := (s.setProg 0 p).setOp 0 o

/-- A REG operation of one access. -/
def regOp (opcode : Nat) (o : Op := {}) : Op := opOf { opcode := opcode, dev := dev clsReg 0, count := 4, param := 0x40 } o

/-- The same with its host memory known. -/
def areaOp (opcode cls count : Nat) (o : Op := {}) : Op :=
  { o with first := { opcode := opcode, dev := dev cls 0, count := count }
           segs := [{ ccw := { opcode := opcode, dev := dev cls 0, count := count }, area := [(0x1000, count)], room := count }] }

/-- The same on another unit. -/
def farOp (opcode cls count : Nat) (o : Op := {}) : Op :=
  let c : Ccw := { opcode := opcode, dev := cls * 2 ^ 12 + 7, count := count }
  { o with first := c, segs := [{ ccw := c, area := [(0x1000, count)], room := count }] }

/-- Data of an operation, without poison or poisoned. -/
def plainBytes (n : Nat) (p : Bool := false) : List (Byte × Bool) := (zeros n).map fun b => (b, p)

/-- What holds of a REG or LXB operation on its turn. -/
def turns (o : Op) (opcode n : Nat) (far : Bool := false) : Prop :=
  (running o).liveWith 0 opcode = some o ∧ o.busy = false ∧ (running o).writesHeld 0 = false ∧ o.room ≠ 0 ∧
    (n ≠ 0 → if opcode = ocRead then o.areaReady 0 n = true else n ≤ o.buf.length) ∧ (running o).devLocal o.first.dev = !far

theorem witness_OperationsTurn :
    (turns (regOp ocWrite) ocWrite 0 ∧ (regOp ocWrite).first.cls = clsReg ∧ (regOp ocWrite).buf.length < 4) ∧
    (turns (regOp ocWrite { buf := plainBytes 4 }) ocWrite 4 ∧ ((plainBytes 4).take 4).any (·.2) = false ∧
      ((plainBytes 4 true).take 4).any (·.2) = true) ∧
    turns (farOp ocWrite clsReg 4 { buf := plainBytes 4 }) ocWrite 4 true ∧
    (turns (regOp ocRead) ocRead 0 ∧ (regOp ocRead).areaReady 0 4 = false) ∧ turns (areaOp ocRead clsReg 4) ocRead 4 ∧
    turns (farOp ocRead clsReg 4) ocRead 4 true ∧
    (turns (areaOp ocWrite clsCan 8) ocWrite 0 ∧ clsCan ≠ clsReg ∧ clsCan ≠ clsLxb) ∧ turns (areaOp ocRead clsCan 8) ocRead 0 ∧
    (turns (areaOp ocRead clsLxb 2) ocRead 2 ∧ (running (areaOp ocRead clsLxb 2)).opFar 0 (areaOp ocRead clsLxb 2) = false ∧
      (mk [(R.HNG_LXB_CS_CFG_en 0, 1)] (running (areaOp ocRead clsLxb 2))).portFault clsLxb 0 = none) ∧
    turns (areaOp ocWrite clsLxb 2 { buf := plainBytes 2 }) ocWrite 2 ∧
    (let o := areaOp ocWrite clsReg 4 { busy := true }
     (running o).liveWith 0 ocWrite = some o ∧ o.busy = true) ∧
    ((ready).liveWith 0 ocWrite = none ∧ (ready).liveWith 0 ocRead = none ∧
      (linked).liveWith (2047 : Fin 2048) ocPoll = none) ∧
    (let o := opOf { opcode := ocPoll, dev := dev clsReg 0, param := 0x40 }
     (running o).liveWith 0 ocPoll = some o ∧ o.room = 0 ∧ o.busy = false ∧ (running o).writesHeld 0 = false ∧
      (running o).devLocal o.first.dev = true) ∧
    (let o := areaOp ocPoll clsReg 8 { buf := plainBytes 8 }
     (running o).liveWith 0 ocPoll = some o ∧ o.room ≠ 0 ∧ 8 ≤ o.buf.length ∧
      (((running o).useOp 0 (zeros 8)).1.updOp 0 fun x =>
        { x with buf := [], got := 0, pollValue := 0, pollMask := 0 }).op 0 ≠ none ∧
      (areaOp ocPoll clsReg 8).buf.length < 8) := by
  unfold turns; (constructorm* _ ∧ _) <;> decide +kernel

/-- A JTAG unit with the debug register selected. -/
def debugging (fs : List (Fld × Nat) := []) (d : Dap := {}) : State := { ready fs with tap := .dapAccess, dap := d }

/-- A unit of address 5 with an access of the fabric held, and with four of them. -/
def fabricked (n : Nat := 1) : State :=
  { (chained) with fabric := (List.range n).map fun i =>
      (i, { mid := 2, lxb := false, unit := 7, off := 0x40 + 4 * i, write := false, parts := 1 }) }

theorem witness_FarAccessesStart :
    ((ready).answers = true ∧ (ready).get (R.HNG_FAS_DATA_state 1 7) ≠ foPending ∧ fasOk (0x1F00001#32).toNat = true) ∧
    ¬ ((3#4).toNat = (1 : Fin 2).val ∧ (ready).get (R.HNG_FAS_DATA_state 1 7) ≠ foPending ∧ fasOk 0 = true) ∧
    ((3 : BitVec 4) ≠ 2 ∧ (3 : BitVec 4) ≠ 5) ∧
    ((fabricked).answers = true ∧ (fabricked).fabFind 2 false 7 0x40 ≠ none ∧ (fabricked).fabFind 2 false 7 0x80 = none ∧
      fabAligned 2 0x41 false = false ∧ fabAligned 2 0x80 false = true ∧ (fabricked).assigned = true ∧
      (5#10).toNat = (fabricked).addr ∧ (7#10).toNat ≠ (fabricked).addr ∧ (fabricked).fabCount 2 < 4 ∧
      4 ≤ (fabricked 4).fabCount 2 ∧ (fabricked 4).fabFind 2 false 7 0x80 = none) ∧
    (let s := chained [(R.CHN_MAP_valid 5, 1)]
     s.polled 7 = true ∧ s.polled 5 = true ∧ s.running = true ∧ tget s.rounds 7 = none ∧ (5#10).toNat = s.addr ∧
      s.polled 9 = false) ∧
    tget { (chained) with rounds := [(7, { stamp := 0, todo := [] })] }.rounds 7 = some { stamp := 0, todo := [] } ∧
    ((debugging).tap = .dapAccess ∧ (ready).tap ≠ .dapAccess ∧ (debugging).dap.far = none ∧ (debugging).dap.status ≠ 1 ∧
      ¬ (bits (0x40#64).toNat 0 2 = 1 ∨ bits (0x40#64).toNat 0 2 = 2) ∧
      (0x41#64).toNat.testBit 20 = false ∧ bits (0x41#64).toNat 0 2 = 1 ∧ bits (0x42#64).toNat 0 2 = 2 ∧
      (0xF00001#64).toNat.testBit 20 = true ∧ bits (0xF00001#64).toNat 21 10 = 7) ∧
    ((debugging).dapOpen false = true ∧ (debugging).answers = true ∧
      { debugging with nv := { lifecycle := 2 } }.dapOpen true = false ∧ { debugging with phase := .asserted }.answers = false) ∧
    (let d := debugging [] { status := 1, far := some { unit := 7, off := 0x40, write := false, data := 0 } }
     d.dap.far ≠ none ∧ (d.fabTry 5 false 7 0x40 false 0 false).2 = none ∧
      ((debugging).fabTry 5 false 7 0x41 false 0 false).2 ≠ none) := by decide +kernel

/-- The lands of functions, each selecting its primary function or GPIO. -/
def wired (fs : List PinFn) : List (Fld × Nat) :=
  fs.map fun f => (R.PIN_CFG_attached ((fnLands f).headD 0), if f.cls = .gpio then 3 else 1)

/-- The lands of a serial port: what it sends on and what it receives on. -/
def wires (c : PinClass) (m : Nat) : List (Fld × Nat) := wired [⟨c, m, 0⟩, ⟨c, m, 1⟩]

theorem witness_QueuePlacement : (queueExists 0 = true ∧ queueExists 215 = true ∧ queueExists 94 = false) ∧
    (ready).answers = true ∧
    (let s := ready [(R.BUF_Q_CFG_en 0, 0)]
     (0xB8000A1#32).toNat % 2 = 1 ∧ s.qOn 0 = false ∧
      s.placeFault 0 (bits (0xB8000A1#32).toNat 16 14) (bits (0xB8000A1#32).toNat 4 4) false = none) ∧
    (let s := ready
     let v := s.get (R.BUF_Q_CFG_base 0) * 2 ^ 16 + s.get (R.BUF_Q_CFG_log2 0) * 16 + 1
     s.qOn 0 = true ∧ bits v 16 14 = s.get (R.BUF_Q_CFG_base 0) ∧ bits v 4 4 = s.get (R.BUF_Q_CFG_log2 0) ∧ v % 2 = 1 ∧
      s.placeFault 0 (bits (v - 1) 16 14) (bits (v - 1) 4 4) true = none) ∧
    (ready).placeFault 0 0 5 false = some 6 ∧
    ((ready).setWq 0 { claimWait := [3, 9] }).wq 0 = { claimWait := [3, 9] } ∧
    (isTxQueue 127 = false ∧ isTxQueue 128 = true ∧ ((ready).setWq 0 { pkts := [(0, 0)] }).wq 0 = { pkts := [(0, 0)] } ∧
      ((ready).wq 0).pkts = []) := by
  decide +kernel

/-- A CAN port 3 that runs with the defaults, its transmit and receive lands attached, with its protocol state `x`. -/
def canRuns (x : CanPort := {}) (fs : List (Fld × Nat) := []) : State :=
  (ready ([(R.CAN_CTL_en 3, 1)] ++ wires .can 3 ++ fs)).setCan 3 x

/-- A timing of 160 core cycles a bit. -/
def canTimed (fs : List (Fld × Nat) := []) : State :=
  ready ([(R.CAN_NBT_brp 3, 10), (R.CAN_NBT_tseg1 3, 11), (R.CAN_NBT_tseg2 3, 4), (R.CAN_NBT_sjw 3, 4)] ++ fs)

/-- A frame that CAN 3 has in transmission. -/
def canSends (src : TxSrc) : CanPort := { tx := some { src := src, bytes := [0] } }

theorem witness_CanStartsAndRecovers :
    (let u := (canWritten canTimed 3 2 (setBit 0 0)).autoRecover 3
     u.on (R.CAN_CTL_en 3) = false ∧ u.canCfgOk 3 = true ∧ (canTimed).answers = true) ∧
    (let u := (canWritten (canTimed [(R.CAN_NBT_brp 3, 0)]) 3 2 (setBit 0 0)).autoRecover 3
     u.on (R.CAN_CTL_en 3) = false ∧ u.canCfgOk 3 = false) ∧
    ((canWritten canRuns 3 2 (setBit 0 0)).autoRecover 3).on (R.CAN_CTL_en 3) = true ∧
    ((canWritten canRuns 3 2 (clearBits 1 1)).autoRecover 3).on (R.CAN_CTL_en 3) = true ∧
    ((canWritten canTimed 3 2 (clearBits 1 1)).autoRecover 3).on (R.CAN_CTL_en 3) = false ∧
    (((canRuns { integrating := true }).can 3).integrating = true ∧
      (canRuns { integrating := true }).portRuns clsCan 3 = true ∧ (ready).portRuns clsCan 3 = false) ∧
    (((canRuns { busOff := true, recovering := true }).can 3).busOff = true ∧
      ((canRuns { busOff := true, recovering := true }).can 3).recovering = true ∧ ((canRuns).can 3).busOff = false) ∧
    (Issued (issued clsCan 2 3) 0 clsCan 2 3 ∧ Issued (issued clsCan 1 3) 0 clsCan 1 3 ∧
      ((issued clsCan 1 3).can 3).busOff = false ∧ ((issued clsCan 1 3 (canRuns { busOff := true })).can 3).busOff = true ∧
      (((issued clsCan 1 3).put (R.CAN_STATUS_host_off 3) 0).updOp 0 fun o => { o with event := true }).canErrState 3 = 0 ∧
      (((issued clsCan 1 3 (canRuns {} [(R.CAN_STATUS_tec 3, 200)])).put (R.CAN_STATUS_host_off 3) 0).updOp 0
        fun o => { o with event := true }).canErrState 3 ≠ 0 ∧
      Issued (issued clsCan 3 3) 0 clsCan 3 3 ∧ (((issued clsCan 3 3).canDiscard 3 0x12).can 3).tx = none ∧
      (((issued clsCan 3 3 (canRuns (canSends .gateway))).canDiscard 3 0x12).can 3).tx = (canSends .gateway).tx ∧
      (ready).issuedOn 0 clsCan 1 = none ∧ (ready).issuedOn 0 clsCan 2 = none ∧ (ready).issuedOn 0 clsCan 3 = none) := by
  unfold Issued
  decide +kernel

/-- A classical data frame of identifier 0x123. -/
def canFrame : CanFrame := { fmt := 0, ident := 0x123, dlc := 1, data := [0x55] }

theorem witness_CanFramesAndErrors :
    ((canRuns).canOnBus 3 = true ∧ (canRuns).attached ⟨.can, 3, 1⟩ = true ∧ (canRuns).canAccepts 3 canFrame = true ∧
      (canRuns).canAccepts 3 { canFrame with fmt := 1 } = false ∧ (canRuns).canFilter 3 canFrame = none ∧
      (ready).canOnBus 3 = false) ∧
    (let s := canRuns {} [(R.CAN_FLT_ID_fmt 3 5, 1)]
     s.canFilter 3 canFrame = some 5 ∧ s.on (R.CAN_CTL_j1939 3) = false) ∧
    (let s := canRuns (canSends .gateway)
     (s.can 3).tx = some { src := .gateway, bytes := [0] } ∧ (s.can 3).busOff = false ∧ (s.can 3).integrating = false ∧
      s.on (R.CAN_STATUS_host_off 3) = false ∧ s.attached ⟨.can, 3, 0⟩ = true ∧ s.attached ⟨.can, 3, 1⟩ = true ∧
      TxSrc.gateway ≠ .program 5 ∧ ((canRuns (canSends (.program 5))).can 3).tx = some { src := .program 5, bytes := [0] } ∧
      ((canRuns).can 3).tx = none) ∧
    (let s := canRuns {} [(R.CAN_STATUS_tec 3, 95), (R.CAN_STATUS_rec 3, 94)]
     s.canCounts 3 = true ∧ s.get (R.CAN_STATUS_tec 3) < 96 ∧ s.get (R.CAN_STATUS_rec 3) < 95 ∧
      (s.can 3).integrating = false ∧ (s.can 3).busOff = false) ∧
    (CanErr.transmit ≠ .arbitration ∧ CanErr.transmit ≠ .receive ∧ CanErr.transmit ≠ .receiveMore) ∧
    ((canRuns { integrating := true }).can 3).integrating = true ∧
    (let s := canRuns {} [(R.CAN_CTL_iso11992 3, 1), (R.CAN_PTX_CTL_en 3 7, 1)]
     s.ptxOn 3 7 = true ∧ s.portRuns clsCan 3 = true ∧ (s.can 3).ptxDue.testBit 7 = false ∧ s.ptxOn 3 6 = false) ∧
    ((canRuns { ptxDue := 128 }).can 3).ptxDue.testBit 7 = true ∧
    (let s := canRuns {} [(R.CAN_CTL_iso11992 3, 1), (R.CAN_SUP_ID_en 3 7, 1)]
     s.on (R.CAN_CTL_iso11992 3) = true ∧ s.on (R.CAN_SUP_ID_en 3 7) = true ∧ s.portRuns clsCan 3 = true ∧
      (s.can 3).supFired.testBit 7 = false ∧ s.on (R.CAN_SUP_ID_en 3 6) = false) ∧
    (let x : CanPort := { sessions := [{ sa := 1, da := 255, pgn := 0xFECA, prio := 6, rts := false, size := 9, total := 2 }] }
     ((canRuns x).can 3).sessions.any (fun j => j.sa == (1#8).toNat && j.da == (255#8).toNat) = true ∧
      ((canRuns x).can 3).sessions.any (fun j => j.sa == (2#8).toNat && j.da == (255#8).toNat) = false) := by
  decide +kernel

/-- A program that has read a CCW. -/
def hasRead (bs : List Byte) (p : Prog := prog) : Prog := { p with started := true, ccwRead := some bs }

/-- A NOP of GPIO with flags, and a JUMP. -/
def nopCcw (flags : Nat := 0) : List Byte := ccw ocNop 0 flags 0 0
def jumpCcw : List Byte := ccw ocJump 0 0 0 0 0 0x1000

/-- A linked unit that turns to its program of tag 0, which has an operation where one is given. -/
def engine (p : Prog) (o : Option Op := none) : State :=
  match o with
  | some x => running x p
  | none => withProg p linked

theorem witness_ProgramsTakeCcws :
    (linked).prog 0 = none ∧
    (let p := { prog with inline := nopCcw }
     (engine p).prog 0 = some p ∧ TurnOf (engine p) 0 p ∧ p.ccwWait = false ∧ p.ccwFailed = false ∧ (engine p).op 0 = none ∧
      p.ccwRead = none ∧ p.started = false ∧ p.inline ≠ []) ∧
    (let p := { prog with ccwFailed := true }
     TurnOf (engine p) 0 p ∧ p.ccwFailed = true ∧ { prog with ccwWait := true }.ccwWait = true) ∧
    (TurnOf (engine prog) 0 prog ∧ prog.inline = [] ∧ prog.src.viaTable = false ∧ prog.ccwRead = none) ∧
    (let o := opOf { opcode := ocNop }
     (engine prog (some o)).op 0 = some o ∧ o.chainRead = true ∧ TurnOf (engine prog (some o)) 0 prog) ∧
    (TurnOf (engine (hasRead [])) 0 (hasRead []) ∧ (engine (hasRead [])).op 0 = none ∧ ccwFault [] none = some 1) ∧
    (TurnOf (engine (hasRead jumpCcw)) 0 (hasRead jumpCcw) ∧ ccwFault jumpCcw none = none ∧
      (Ccw.parse jumpCcw).opcode = ocJump ∧ (engine (hasRead jumpCcw)).behind (hasRead jumpCcw) = false) ∧
    (let p := hasRead (nopCcw 8)
     TurnOf (engine p) 0 p ∧ ccwFault (nopCcw 8) none = none ∧ (Ccw.parse (nopCcw 8)).opcode ≠ ocJump ∧
      (engine p).behind p = false ∧ ((Ccw.parse (nopCcw 8)).sus && !p.resumed && !p.resume && !p.restarted) = true) ∧
    (let p := hasRead (nopCcw 64) { prog with seq := 1 }
     let s := (withProg p linked).setProg 1 { prog with started := true }
     TurnOf s 0 p ∧ ccwFault (nopCcw 64) none = none ∧ (Ccw.parse (nopCcw 64)).sus = false ∧ s.behind p = false ∧
      s.heldBy p (Ccw.parse (nopCcw 64)) = some .ordHold) ∧
    (let p := hasRead nopCcw
     TurnOf (engine p) 0 p ∧ ccwFault nopCcw none = none ∧ (Ccw.parse nopCcw).sus = false ∧ (engine p).behind p = false ∧
      (engine p).heldBy p (Ccw.parse nopCcw) = none) ∧
    (let c : Ccw := { opcode := ocWrite, dev := dev clsCan 0, count := 16 }
     let o := { opOf c with chainRead := false }
     let m : ChainOf := { first := o.first, ccws := o.chained, bytes := (o.segs.map fun g => g.ccw.bytes).sum }
     let cont := ccw ocWrite 0 0 (dev clsCan 0) 16 0 0x2000
     (engine prog (some o)).op 0 = some o ∧ o.chainRead = false ∧ TurnOf (engine (hasRead nopCcw) (some o)) 0 (hasRead nopCcw) ∧
      (ccwFault nopCcw (some m)).isSome = true ∧ ccwFault jumpCcw (some m) = none ∧ (Ccw.parse jumpCcw).opcode = ocJump ∧
      TurnOf (engine (hasRead jumpCcw) (some o)) 0 (hasRead jumpCcw) ∧
      ccwFault cont (some m) = none ∧ (Ccw.parse cont).opcode ≠ ocJump ∧
      TurnOf (engine (hasRead cont) (some o)) 0 (hasRead cont)) ∧
    ({ prog with jumps := 255 }.jumps < 256 ∧ 256 ≤ { prog with jumps := 256 }.jumps) := by
  unfold TurnOf
  (constructorm* _ ∧ _) <;> decide +kernel

/-- An operation of a far agent that has ended, with read data that waits for credit where one is given. -/
def farEnded (out : List (Byte × Bool) := []) : State :=
  { (ready).setOp 2559 (opOf { opcode := ocRead } { ended := some (stSuccess, 0) }) with
    farSlots := [(511, { origin := 7, tag := 0, inst := 0, out := out })] }

theorem witness_OperationsEnd :
    (ready).op 0 = none ∧
    (let o := opOf { opcode := ocNop } { ended := some (stSuccess, 0) }
     (running o).op 0 = some o ∧ (running o).prog 0 = some prog ∧ (running o).moving 0 = false ∧ o.chainRead = true ∧
      o.mismatch = false) ∧
    (let o := opOf { opcode := ocNop } { ended := some (stDeviceError, 1), chainRead := false }
     o.chainRead = false ∧ { o with chainRead := true }.chainRead = true ∧ stDeviceError ≠ stSuccess) ∧
    (let o := areaOp ocRead clsReg 4 { ended := some (stSuccess, 0) }
     o.mismatch = true ∧ o.lastFlags.testBit 8 = false ∧ { o with lastFlags := 256 }.lastFlags.testBit 8 = true) ∧
    (opOf { opcode := ocNop }).ended = none ∧ (withOp (opOf { opcode := ocNop })).prog 0 = none ∧
    ((farEnded).op 2559 = some (opOf { opcode := ocRead } { ended := some (stSuccess, 0) }) ∧
      tget (farEnded).farSlots 511 = some { origin := 7, tag := 0, inst := 0 } ∧ tget (farEnded).farSlots 510 = none ∧
      (tget (farEnded [(0, false)]).farSlots 511).map (·.out) = some [(0, false)]) ∧
    ([ocNop, ocMark, ocAppend].contains ocRead = false ∧ [ocNop, ocMark, ocAppend].contains ocMark = true) ∧
    (let o := regOp ocRead
     let s := mk [(R.CLK_MONO_time, 2 ^ 40)] (running o)
     s.op 0 = some o ∧ o.ended = none ∧ s.expired o.since o.first = true ∧ (running o).expired o.since o.first = false) ∧
    (let p := { prog with again := some (0, (regOp ocRead).first) }
     (withProg p).op 0 = none ∧ ((withProg p).prog 0).bind (·.again) = some (0, (regOp ocRead).first) ∧
      ((withProg prog).prog 0).bind (·.again) = none) := by
  decide +kernel

/-- A CONTROL, a SENSE or a WAIT of an agent on another unit. -/
def far (opcode : Nat) : Op := opOf { opcode := opcode, dev := clsCan * 2 ^ 12 + 7 }

/-- An operation that is live, on a port of this unit. -/
def onTurn (s : State) (opcode : Nat) (o : Op) : Prop := s.liveWith 0 opcode = some o ∧ s.opFar 0 o = false

theorem witness_ControlSenseWaitMark :
    ((ready).liveWith 0 ocControl = none ∧ (ready).liveWith 0 ocSense = none ∧ (ready).liveWith 0 ocWait = none ∧
      (ready).liveWith 0 ocMark = none) ∧
    ((running (far ocControl)).liveWith 0 ocControl = some (far ocControl) ∧
      (running (far ocControl)).opFar 0 (far ocControl) = true ∧ (running (far ocSense)).opFar 0 (far ocSense) = true ∧
      (running (far ocWait)).opFar 0 (far ocWait) = true) ∧
    (let o := opOf { opcode := ocControl, func := 1, dev := dev clsCan 3 }
     onTurn (running o) ocControl o) ∧
    (let o := areaOp ocSense clsCan 32
     onTurn (running o) ocSense o ∧ o.chainRead = true ∧ (running o).writesHeld 0 = false ∧ o.areaReady 0 32 = true ∧
      (areaOp ocSense clsCan 32 { chainRead := false }).chainRead = false ∧
      (opOf { opcode := ocSense, dev := dev clsCan 0, count := 32 }).areaReady 0 32 = false) ∧
    (let o := opOf { opcode := ocWait, func := 0x0A, dev := dev clsLxb 0, param := 3 }
     let s := mk (wired [⟨.lxb, 0, 29⟩]) { running o with lxbIrq := 8 }
     onTurn s ocWait o ∧ s.lxbIrqs.testBit (o.first.param % 4) = true ∧ o.first.func ≠ 1 ∧
      onTurn (running o) ocWait o ∧ (running o).lxbIrqs.testBit (o.first.param % 4) = false) ∧
    (let o := opOf { opcode := ocWait, func := 0x0F }
     (running o).liveWith 0 ocWait = some o ∧ o.first.func = 0x0F ∧ (opOf { opcode := ocWait }).first.func ≠ 0x0F) ∧
    (let o := opOf { opcode := ocMark, param := 7 }
     (running o).liveWith 0 ocMark = some o ∧ (running o).prog 0 = some prog ∧ o.begun = false ∧
      { o with begun := true }.begun = true) := by
  unfold onTurn
  decide +kernel

/-- Channel 3 bound from MID 0 to MID 2, with state `x`. -/
def bound (x : Chan := {}) : State :=
  (ready [(R.KWY_BIND_sender 3, 0), (R.KWY_BIND_receiver 3, 2), (R.KWY_BIND_valid 3, 1)]).setChan 3 x

theorem witness_TumblerLocks : ((bound).answers = true ∧ (bound).isSender 3 0 = true ∧ ((bound).chan 3).owner = none) ∧
    ((bound { owner := some (1, 0) }).chan 3).owner = some (1, 0) ∧
    ((bound { owner := some (0, 0) }).chan 3).owner = some (who 0 0).key ∧ (1#5).toNat = (0#4).toNat + 1 ∧
    ((bound).chan 3).owner ≠ some (who 0 0).key ∧ (bound).isSender 3 1 = false ∧ State.reset.answers = false := by
  decide +kernel

/-- A message of eight words with its check word. -/
def message (code : Nat := 0) : List Nat :=
  let ws := (8 + code * 2 ^ 8) :: List.replicate 6 0
  ws ++ [crc32c (wordBytes ws)]

theorem witness_MessagesMove :
    ((bound { owner := some (0, 0) }).answers = true ∧ (bound { owner := some (0, 0) }).isSender 3 0 = true ∧
      (bound { owner := some (0, 0) }).mayTransmit 3 (who 0 0) = true ∧ (bound).mayTransmit 3 (who 0 0) = false ∧
      (bound).isSender 3 1 = false) ∧
    (let x : Chan := { owner := some (0, 0), going := true }
     ((bound x).chan 3).going = true ∧ ((bound x).chan 3).staging = none ∧ ((bound x).chan 3).owner = some (0, 0)) ∧
    ((bound).chan 3).going = false ∧
    (let m : Msg := { mid := 0, addr := 0, words := message }
     ((bound { staging := some m }).chan 3).staging = some m ∧ msgOk m.words = true ∧ msgOk [] = false ∧
      ((bound { staging := some m }).chan 3).queue.length < 4 ∧
      4 ≤ ((bound { staging := some m, queue := [m, m, m, m] }).chan 3).queue.length ∧
      ((bound { queue := [m] }).chan 3).queue ≠ [] ∧ ((bound).chan 3).queue = [] ∧ ((bound).chan 3).staging = none) ∧
    ((bound).isReceiver 3 2 = true ∧ (bound).isReceiver 3 0 = false) := by
  decide +kernel

theorem witness_KeywayBindsAndLocks :
    ((ready).answers = true ∧ (ready).on R.KWY_CTL_lock = false ∧
      (ready [(R.KWY_BIND_sender 3, 0)]).get (R.KWY_BIND_sender 3) ≠ bits (1#32).toNat 0 4) ∧
    (ready [(R.KWY_CTL_lock, 1)]).on R.KWY_CTL_lock = true ∧ (1#4) ≠ 2 := by
  decide +kernel

/-- A linked unit with queue 17 of function 0, its ring 3, and entries waiting. -/
def fetching : State :=
  ((linked).setSq 17 { state := 1, owner := 0, prio := 2, cr := 3, log2 := 3, h := 0, t := 2 }).setRing 3
    { exist := true, owner := 0, log2 := 3 }

theorem witness_DoorbellsJudged :
    ((ready).answers = true ∧ (sq17 2 2).answers = true) ∧
    ((ready).sqAbsent 255 = true ∧ (sq17 13 13).sqAbsent 17 = false ∧ ((sq17 13 13).sq 17).owner = (0#4).toNat ∧
      ((sq17 13 13).sq 17).state = 1 ∧ (1#4).toNat ≠ ((sq17 13 13).sq 17).owner ∧
      (((ready).setSq 17 { state := 2 }).sq 17).state ≠ 1) ∧
    ((5#13).toNat < 2 ^ 4 ∧ ptrDiff 3 13 13 ≤ ptrDiff 3 5 13 ∧ ptrDiff 3 5 13 ≤ 2 ^ 3 ∧ 2 ^ 3 < ptrDiff 3 6 13 ∧
      ptrDiff 3 1 2 = 15 ∧ 2 ^ 4 ≤ (16#13).toNat) ∧
    (let s := (sq17 2 2).setProg 2047 { prog with sq := 17 }
     s.prog (2047#11).toNat = some { prog with sq := 17 } ∧ PState.running ≠ .ended ∧ PState.running ≠ .suspended ∧
      s.prog 0 = none) ∧
    (let p : Prog := { prog with sq := 17, st := .suspended }
     ((sq17 2 2).setProg 2047 p).prog (2047#11).toNat = some p) ∧
    (let s := (ready).setRing 64 { exist := true, owner := 1, log2 := 3, head := 2, tail := 4 }
     (s.ring 64).exist = true ∧ (s.ring 63).exist = false ∧ (0#4).toNat ≠ (s.ring 64).owner ∧
      (1#4).toNat = (s.ring 64).owner ∧ (4#13).toNat < 2 ^ 4 ∧ ptrDiff 3 4 2 ≤ ptrDiff 3 4 2 ∧
      ¬ ptrDiff 3 5 2 ≤ ptrDiff 3 4 2) := by
  decide +kernel

/-- The admin pair of function 1, with entries waiting. -/
def adminUp (fs : List (Fld × Nat) := []) : State :=
  ((linked ([(R.CFG_CMD_bme 1, 1), (R.QMG_ADM_CTL_enable, 1), (R.QMG_ADM_CTL_owner, 1)] ++ fs)).setSq 0
    { state := 1, owner := 1, log2 := 3, t := 2 }).setRing 64 { exist := true, owner := 1, log2 := 3 }

/-- Two queues of one priority with entries waiting, of which 17 was fetched last. -/
def fetchingTwo : State :=
  { fetching.setSq 18 { state := 1, owner := 0, prio := 2, cr := 3, log2 := 3, h := 0, t := 2 } with fetchLast := [(2, 17)] }

theorem witness_QueuesFetchAndClose :
    (fetching.canFetch 17 = true ∧ fetching.fetchTurn 17 = true ∧ fetching.canFetch 18 = false ∧
      fetchingTwo.fetchTurn 17 = false ∧ fetchingTwo.fetchTurn 18 = true) ∧
    ((adminUp).canAdminFetch = true ∧ (ready).canAdminFetch = false) ∧
    (let e : AdmEntry := { slot := 0, bytes := [], reply := some 0 }
     { (ready) with admin := [e] }.admin = [e] ∧ { e with reply := none }.reply = none ∧ (ready).admin = []) ∧
    ((ready).answers = true ∧ (1#4).toNat < 2 ∧ (ready).on R.QMG_ADM_CTL_enable = false ∧ (ready).admStop = false ∧
      (0xC11#32).toNat.testBit 0 = true ∧ bits (0xC11#32).toNat 4 4 = 1 ∧ bits (0xC11#32).toNat 8 4 = 12) ∧
    ((adminUp).on R.QMG_ADM_CTL_enable = true ∧ (1#4).toNat = (adminUp).get R.QMG_ADM_CTL_owner ∧ 2 ≤ (2#4).toNat) ∧
    ({ (ready) with admStop := true }.admStop = true ∧ (ready).admStop = false) ∧
    (let s := (ready [(R.QMG_CR_INT_delay 64, 5)]).setRing 64 { exist := true, count := 1 }
     (s.ring 64).count ≠ 0 ∧ s.get (R.QMG_CR_INT_delay 64) ≠ 0 ∧ ((ready).ring 64).count = 0) ∧
    (let s := (ready).setSq 17 { state := 2, shutting := true }
     (s.sq 17).shutting = true ∧ s.held 17 = 0 ∧ (s.setProg 0 { prog with sq := 17 }).held 17 ≠ 0) := by
  decide +kernel

/-- A request of a host read. -/
def part (issued : Bool := true) : HostPart := { id := 4, addr := 0x1000, len := 64, issued := issued }

/-- A host read of one request. -/
def oneRead (issued : Bool := true) : HostRead := { purpose := .entries 17 1, len := 64, parts := [part issued] }

/-- A linked unit with that read of function 0 under way. -/
def reading (issued : Bool := true) (fs : List (Fld × Nat) := []) : State :=
  { (linked fs) with pf0 := { reads := [oneRead issued], late := [5] } }

theorem witness_HostReadsAndCredits :
    ((ready).on R.INT_LINK_up = false ∧ (reading).on R.INT_LINK_up = true ∧
      ((reading).fn 0).reads.find? (fun r => r.parts.any fun q => q.id == 4 && q.out) = some (oneRead) ∧
      ((reading).fn 0).reads.find? (fun r => r.parts.any fun q => q.id == 5 && q.out) = none ∧
      ((reading).fn 0).late.contains 5 = true ∧ ((reading).fn 0).late.contains 6 = false ∧
      (oneRead).parts = [part] ∧ (part).got = none) ∧
    ((reading).entryRead 0 = some (part) ∧ (linked).entryRead 0 = none) ∧
    (((reading).fn 0).parts.find? (fun q => q.id == 4 && q.got.isNone) = some (part) ∧
      ((reading).fn 0).parts.find? (fun q => q.id == 5 && q.got.isNone) = none ∧
      (reading).on (R.CFG_DEVCTL2_cto_disable 0) = false ∧ (part).issued = true ∧
      (reading true [(R.CFG_DEVCTL2_cto_disable 0, 1)]).on (R.CFG_DEVCTL2_cto_disable 0) = true ∧
      (reading false [(R.CFG_CMD_bme 0, 0)]).busMaster 0 = false) ∧
    ((ready).pf0.posts = [] ∧ (ready).pf1.posts = [] ∧ (ready).cplWait = []) ∧
    (let p : Post := { addr := 0, data := [1], kind := .data }
     let s := { (linked) with pf0 := { posts := [p] } }
     s.pf0.posts = [p] ∧ p.kind = .data ∧ s.pf1.posts = [] ∧ s.cplWait = [] ∧ s.canIssue 0 = true) ∧
    ((ready).pf0.reads = [] ∧ (ready).pf1.reads = []) ∧
    ((reading false).pf0.reads = [oneRead false] ∧ (oneRead false).parts = [part false] ∧ (part false).issued = false ∧
      (reading false).pf1.reads = [] ∧ (reading false).canIssue 0 = true ∧ (1#12) ≠ 0) ∧
    ((ready).hostUp = false ∧ (linked).hostUp = true ∧
      (((linked).flag (R.CFG_CMD_bme 0) true).flag (R.CFG_PM_d3 0) false).busMaster 0 = true ∧
      (((linked).flag (R.CFG_CMD_bme 0) false).flag (R.CFG_PM_d3 0) false).busMaster 0 = false ∧
      ((linked).fn 1).posts = [] ∧ ((linked).fn 1).reads = [] ∧ (linked).cancels = [] ∧ (linked).cplWait = []) := by
  decide +kernel

theorem witness_HostResetsAndLink :
    ((linked).hostUp = true ∧ (linked).resetDue = none ∧ (ready).hostUp = false) ∧
    ((ready [(R.INT_LINK_perst_n, 1)]).linkMayTrain = true ∧ (ready [(R.INT_LINK_perst_n, 1)]).on R.INT_LINK_up = false) ∧
    (ready).linkMayTrain = false ∧ (linked).on R.INT_LINK_up = true ∧ (ready).on R.INT_LINK_up = false ∧
    Instr.perstAssert ∈ [Instr.hotReset, .pcieLinkDown, .perstAssert] := by
  decide +kernel

/-- A unit whose LXB_IRQ0 drives source 2 of function 1, with MSI-X registers set. -/
def raised (fs : List (Fld × Nat) := []) : State :=
  { linked ([(R.CFG_CMD_bme 1, 1), (R.INT_PF_EN_en 1, 15), (R.INT_LXB_EN_en, 1)] ++ wired [⟨.lxb, 0, 26⟩] ++ fs) with
    lxbIrq := 1 }

/-- The same with MSI-X on and vector 2 not masked. -/
def messaging (fs : List (Fld × Nat) := []) : State := raised ([(R.CFG_MSIX_enable 1, 1), (R.MSIX_VCTL_mask 1 2, 0)] ++ fs)

theorem witness_InterruptMessages :
    ((raised).level 1 2 = true ∧ (tget (raised).lastLevel 6).getD false = false ∧
      (raised).on (R.CFG_MSIX_enable 1) = false) ∧
    ({ (raised) with lastLevel := [(6, true)] }.level 1 2 = true ∧
      (tget { (raised) with lastLevel := [(6, true)] }.lastLevel 6).getD false = true) ∧
    ((messaging).msixOpen 1 2 = true ∧ (messaging).level 1 2 = true ∧ (tget (messaging).lastLevel 6).getD false = false) ∧
    ((messaging [(R.CFG_MSIX_mask 1, 1)]).on (R.CFG_MSIX_enable 1) = true ∧
      (messaging [(R.CFG_MSIX_mask 1, 1)]).msixOpen 1 2 = false) ∧
    ((ready).level 1 2 = false ∧ (ready).bitOf (R.MSIX_PBA_pending 1) 2 = false ∧
      (ready [(R.MSIX_PBA_pending 1, 4)]).level 1 2 = false ∧
      (ready [(R.MSIX_PBA_pending 1, 4)]).bitOf (R.MSIX_PBA_pending 1) 2 = true) ∧
    (let s := messaging [(R.MSIX_PBA_pending 1, 4)]
     s.bitOf (R.MSIX_PBA_pending 1) 2 = true ∧ s.msixOpen 1 2 = true ∧ s.level 1 2 = true ∧ s.msixStaged 1 2 = false ∧
      s.answers = true) ∧
    ((linked).hostUp = true ∧ (ready).hostUp = false) ∧
    ((ready [(R.CFG_AER_MASK_poisoned 0, 1)]).on (Aer.mask 0 .poisoned) = true ∧
      (linked [(R.CFG_CMD_serr 0, 1)]).on (Aer.mask 0 .poisoned) = false ∧
      (linked [(R.CFG_CMD_serr 0, 1)]).on R.INT_LINK_up = true ∧
      (linked [(R.CFG_CMD_serr 0, 1)]).on (R.CFG_CMD_serr 0) = true) ∧
    ((linked).cplWait = [] ∧ ∀ g < 2, (linked).canIssue g = true → ((linked).fn g).posts = []) := by
  decide +kernel

/-- A port that runs and has its link, with what it holds. -/
def ethUp (m : Nat) (x : EthPort := {}) (fs : List (Fld × Nat) := []) : State :=
  (ready ([(R.ETH_CFG_en m, 1), (R.ETH_STATUS_link m, 1)] ++ fs)).setEth m x

/-- A frame of 60 bytes with a destination and a type. -/
def ethFrame (dst type : Nat) : List Byte := beBytes 6 dst ++ zeros 6 ++ beBytes 2 type ++ zeros 46

/-- A frame of a source in transmission. -/
def txFrame (src : TxSrc) (bs : List Byte := []) : TxFrame := { src := src, bytes := bs, tries := 14 }

theorem witness_EthernetFramesMove : (ready).ethCarries 2 = false ∧
    ((ethUp 2).ethCarries 2 = true ∧ 64 ≤ (ethFrame 0 0x800).length + 4 ∧
      (ethFrame 0 0x800).length + 4 ≤ (ethUp 2).get (R.ETH_CFG_max_len 2) ∧ (zeros 59).length + 4 < 64) ∧
    (etherType (ethFrame 0 0x8808) = 0x8808 ∧ etherType (ethFrame 0 0x800) ≠ 0x8808) ∧
    (let s := ethUp 2 {} [(R.ETH_FLT_W3_en 2 63, 1)]
     (List.range 64).find? (s.ethFilterTakes 2 (ethFrame 0 0x800)) = some 63 ∧
      linkLocal (ethFrame 0x0180C200000F 0x800) = true ∧ linkLocal (ethFrame 0x0180C2000010 0x800) = false) ∧
    (List.range 64).find? ((ethUp 2).ethFilterTakes 2 (ethFrame 0x0180C2000000 0x800)) = none ∧
    (((ethUp 2 { tx := some (txFrame .gateway) }).eth 2).tx = some (txFrame .gateway) ∧ TxSrc.gateway ≠ .program 5 ∧
      ((ethUp 2 { tx := some (txFrame (.program 5)) }).eth 2).tx = some (txFrame (.program 5)) ∧
      (recKind (txFrame (.program 5)).bytes).testBit 0 = false ∧ (recKind (leBytes 16 (2 ^ 128 - 1))).testBit 0 = true ∧
      ((ethUp 2).eth 2).tx = none) ∧
    (((ethUp 6 { tx := some (txFrame .gateway) }).eth 6).tx = some (txFrame .gateway) ∧
      (ethUp 6 { tx := some (txFrame .gateway) }).on (R.ETH_STATUS_plca_active 6) = false ∧ (txFrame .gateway).tries < 15 ∧
      15 ≤ { txFrame .gateway with tries := 15 }.tries) ∧
    ((ethUp 6).eth 6).tx = none := by
  decide +kernel

/-- ETH6 as a coordinator or a node of PLCA. -/
def plcaNode (n : Nat) (x : EthPort := {}) (active : Nat := 1) : State :=
  ethUp 6 x [(R.ETH_PLCA_en, 1), (R.ETH_PLCA_node_id, n), (R.ETH_STATUS_plca_active 6, active)]

/-- The configuration of ETHm as an enable with a maximum length leaves it, before en takes effect. -/
def ethAsked (m len : Nat) (s : State := ready) : State :=
  s.writeOthers 2 (setBit (len * 2 ^ (R.ETH_CFG_max_len m).lo) 0) (R.ETH_CFG_en m)

theorem witness_EthernetLinks :
    ((ready).answers = true ∧ (ethAsked 2 0).on (R.ETH_CFG_en 2) = false ∧ (ethAsked 2 0).get (R.ETH_CFG_max_len 2) < 64 ∧
      2000 < (ethAsked 2 2001).get (R.ETH_CFG_max_len 2) ∧ (ethAsked 2 0 (ethUp 2)).on (R.ETH_CFG_en 2) = true) ∧
    (let u := ethAsked 6 2000 (ready [(R.ETH_PLCA_en, 1), (R.ETH_PLCA_node_id, 0)])
     u.on (R.ETH_CFG_en 6) = false ∧ u.get (R.ETH_CFG_max_len 6) = 2000 ∧ (u.put (R.ETH_CFG_en 6) 1).plcaOn = true ∧
      (u.put (R.ETH_CFG_en 6) 1).portRuns clsEth 6 = true ∧ (u.put (R.ETH_CFG_en 6) 1).get R.ETH_PLCA_node_id = 0) ∧
    (((ethUp 2).writeOthers 2 (clearBits 1 1) (R.ETH_CFG_en 2)).on (R.ETH_CFG_en 2) = true ∧
      ((ready).writeOthers 2 (clearBits 1 1) (R.ETH_CFG_en 2)).on (R.ETH_CFG_en 2) = false) ∧
    ((ready [(R.ETH_CFG_en 2, 1)]).ethLink 2 = false ∧ (ready [(R.ETH_CFG_en 2, 1)]).ethMayLink 2 = true) ∧
    ((ethUp 2).ethLink 2 = true ∧ (ready).ethLink 2 = false ∧ (ready).ethMayLink 2 = false) ∧
    ((plcaNode 254).plcaOn = true ∧ (plcaNode 254).portRuns clsEth 6 = true ∧ (plcaNode 255).plcaOn = false) ∧
    ((plcaNode 1).on (R.ETH_STATUS_plca_active 6) = true ∧ (plcaNode 1).get R.ETH_PLCA_node_id ≠ 0 ∧
      ((plcaNode 1).eth 6).tx = none ∧ ((plcaNode 1 { tx := some (txFrame .gateway) }).eth 6).tx ≠ none ∧
      (plcaNode 0).get R.ETH_PLCA_node_id = 0 ∧ (ready).on (R.ETH_STATUS_plca_active 6) = false) ∧
    (Issued (issued clsEth 0x51 2) 0 clsEth 0x51 2 ∧ Issued (issued clsEth 0x50 2) 0 clsEth 0x50 2 ∧
      (ready).issuedOn 0 clsEth 0x51 = none ∧ (ready).issuedOn 0 clsEth 0x50 = none) := by
  unfold Issued
  decide +kernel

theorem witness_PtpClockAndPulses : ((ready).answers = true ∧ timWriter 4 = true ∧ timWriter 3 = false) ∧
    ((999999999#64).toNat % 2 ^ 30 < 1000000000 ∧ 1000000000 ≤ (1000000000#64).toNat % 2 ^ 30) ∧
    (signed 32 500000000 ≤ 500000000 ∧ -500000000 ≤ signed 32 (2 ^ 32 - 500000000) ∧ 500000000 < signed 32 500000001) ∧
    (signed 21 1000000 ≤ 1000000 ∧ -1000000 ≤ signed 21 (2 ^ 21 - 1000000) ∧ 1000000 < signed 21 1000001) ∧
    ({ ptp := { slew := -1 } } : State).ptp.slew ≠ 0 ∧ (ready).ptp.slew = 0 ∧
    (let s := ready ([(R.TIM_CAP_CTL_edge 0, 1), (R.TIM_CAP_CTL_edge 1, 2)] ++ wired [⟨.tim, 0, 2⟩, ⟨.tim, 0, 3⟩])
     let u := { s with capIn := putBit s.capIn 0 true }
     let v := { s with capIn := putBit s.capIn 1 false }
     u.attached ⟨.tim, 0, 2⟩ = true ∧ u.bitOf (R.TIM_CAP_CTL_edge 0) 0 = true ∧ v.attached ⟨.tim, 0, 3⟩ = true ∧
      v.bitOf (R.TIM_CAP_CTL_edge 1) 1 = true) ∧
    (ready).attached ⟨.tim, 0, 2⟩ = false ∧
    (let s := ready ([(R.TIM_PPS_PER_period 1, 1)] ++ wired [⟨.tim, 0, 1⟩])
     s.get (R.TIM_PPS_PER_period 1) ≠ 0 ∧ s.attached ⟨.tim, 0, 1⟩ = true ∧ (ready).get (R.TIM_PPS_PER_period 1) = 0) := by
  decide +kernel
theorem witness_FaultSourcesConfigured : (ready).answers = true ∧ srcAssigned 22 = true ∧ srcAssigned 127 = false ∧
    (0#4) ≠ 2 := by
  decide +kernel

theorem witness_DeadboltOnlyTightens :
    ((ready).answers = true ∧ srcAssigned 22 = true ∧ srcAssigned 127 = false ∧ (0#4) ≠ 2 ∧
      (ready).get (R.DBT_FLT_n_max 22) < 2 ^ 8 ∧ (ready).get (R.DBT_FLT_k_min 22) < 2 ^ 5 ∧
      (ready).get (R.DBT_FLT_action_min 22) < 2 ^ 3) ∧
    (let v := 7999 + 64 * 2 ^ 20
     bits v 0 20 < (ready).get (R.DBT_GW_rate 0) ∧ bits v 20 8 = (ready).get (R.DBT_GW_burst 0)) ∧
    (let v := 8001 + 64 * 2 ^ 20
     (ready).get (R.DBT_GW_rate 0) < bits v 0 20 ∧ bits v 20 8 = (ready).get (R.DBT_GW_burst 0)) := by
  decide +kernel

/-- A unit with one event due, of a source that counts. -/
def eventDue (n : Nat) (fs : List (Fld × Nat) := []) : State :=
  { ready ([(R.FLT_SRC_CFG_action n, 0), (R.FLT_SRC_CFG_rec_all n, 0)] ++ fs) with dueFaults := [{ src := n }] }

theorem witness_CollectorCountsEvents :
    (let s := eventDue 115
     s.dueFaults = [{ src := 115 }] ∧ s.running = true ∧ srcAssigned 115 = true ∧ s.get (R.FLT_SRC_CFG_action 115) = 0 ∧
      s.get (R.FLT_SRC_CFG_rec_all 115) = 0 ∧ s.get (R.FLT_SRC_STATE_count 115) = 0 ∧
      R.GLB_BOOT_EVT_cause.key ∉ List.map Fld.key [R.FLT_SRC_STATE_count 115, R.FLT_SRC_TOTAL_count 115]) ∧
    (let s := { eventDue 22 [(R.FLT_SRC_STATE_count 22, 255), (R.CLK_MONO_time, 9)] with faultEnd := [(22, 10)] }
     s.get (R.FLT_SRC_STATE_count 22) ≠ 0 ∧ s.now < (tget s.faultEnd 22).getD 0) ∧
    ((ready).dueFaults = [] ∧ ∀ e ∈ (ready).lastLevel, (ready).level (e.1 / 4) (e.1 % 4) = true) ∧
    asleep.running = false := by
  decide +kernel

theorem witness_FaultCommandsAct :
    ((ready).answers = true ∧ (0#4).toNat < 3 ∧
      (∀ p ∈ allPorts, (∃ b, quarBit p.1 p.2 = some (R.FLT_QUAR_PORT1_port, b) ∧
        ((ready).get R.FLT_QUAR_PORT1_port &&& (3#32).toNat).testBit b = true) → (ready).portEn p.1 p.2 = false) ∧
      2 < (3#4).toNat) ∧
    ((ready).nv.lifecycle = 0 ∧ (5#4).toNat = 5 ∧ srcAssigned (bits (0x116#32).toNat 0 7) = true ∧
      (ready).injecting = [] ∧ bits (0x116#32).toNat 8 8 = 1 ∧ { (ready) with nv := { lifecycle := 3 } }.nv.lifecycle ≠ 0) ∧
    ({ (ready) with chain1 := { items := [7, 8] } }.chain1.items = 7 :: [8] ∧ (ready).chain1.items = [] ∧
      R.GLB_BOOT_EVT_cause.key ∉ List.map Fld.key [R.BUF_CHAIN_EVT_cause 1, R.BUF_CHAIN_CNT_count 1 1]) := by
  refine ⟨⟨by decide +kernel, by decide, ?_, by decide⟩, by decide +kernel, by decide +kernel⟩
  rintro p - ⟨b, -, h⟩
  exact absurd h (by simp [show (ready).get R.FLT_QUAR_PORT1_port = 0 by decide +kernel])

/-- A routing table whose entry 4,095 takes every classical frame of CAN0 to CAN1. -/
def routed : State :=
  ready [(R.GRT_W_word 4095 0, 2 ^ 5), (R.GRT_W_word 4095 3, 1 + 31 * 2 ^ 5 + 31 * 2 ^ 10 + 31 * 2 ^ 15)]

/-- CAN 3 with tokens of the gateway spent, in millionths. -/
def spent (n : Nat) : State := { (canRuns) with gwSpent := [(3, n)] }

theorem witness_GatewayRoutes :
    (let s := { (ready) with gwIn := [(0, [(zeros 16, false)])] }
     s.gwStaged 0 = [(zeros 16, false)] ∧ s.safe = false ∧ s.failing = false ∧
      { s with gwIn := tput s.gwIn 0 [] [] }.routeFor 0 (zeros 16) = none ∧ (ready).gwStaged 0 = []) ∧
    (routed.routeMatches 0 (zeros 16) (routed.route 4095) = true ∧ (routed.routeFor 0 (zeros 16)).isSome = true) ∧
    ((ready).answers = true ∧ (0#4) ≠ 2) ∧
    ((ready).egressUp 3 = false ∧ (canRuns).egressUp 3 = true ∧ (canRuns).hasToken 3 = true ∧
      gwWords ((canRuns).gwQueued 3) + ((zeros 16).length + 7) / 8 ≤ 8192 ∧ (spent (2 ^ 40)).egressUp 3 = true ∧
      (spent (2 ^ 40)).hasToken 3 = false) := by
  decide +kernel

/-! Firmware commands -/

/-- The request that a message on channel 3 from MID 0 carries. -/
def asks (code : Nat) (ws : List Nat) : FwReq :=
  { asked := { via := .mailbox 3 0 0, code := code, token := 0 }, mid := 0, ws := ws ++ List.replicate (14 - ws.length) 0 }

/-- A state with that message at the head of channel 3. -/
def told (code : Nat) (ws : List Nat := []) (s : State := ready) : State :=
  (mk [(R.KWY_BIND_sender 3, 0), (R.KWY_BIND_receiver 3, 2), (R.KWY_BIND_valid 3, 1)] s).setChan 3
    { queue := [{ mid := 0, addr := 0, words := code * 2 ^ 8 :: (asks code ws).ws ++ [0] }] }

/-- A state with the request as an entry of SQ 0. -/
def queued (code : Nat) (ws : List Nat := []) (s : State := ready) : State :=
  let body : List Byte := ws.flatMap (leBytes 4)
  { s with admin := [{ slot := 0, bytes := leBytes 2 (code * 2 ^ 8) ++ zeros 6 ++ fit 56 body }] }

/-- The same request from SQ 0. -/
def asksQ (code : Nat) (ws : List Nat) : FwReq := { asks code ws with asked := { via := .queue 0 0, code := code, token := 0 } }

/-- The conditions of a command at its turn, as they are evaluated. -/
def atHead (s : State) (via : Option (Fin 16)) (code : Nat) (r : FwReq) : Bool :=
  s.fwHead via == some r && r.asked.code == code && ((s.served code).map r.judge) == some rsOk

theorem turn {s : State} {via : Option (Fin 16)} {code : Nat} {r : FwReq} (h : atHead s via code r = true) :
    FwTurn s (s.fwTake r) via code r := by
  simp only [atHead, Bool.and_eq_true, beq_iff_eq, Option.map_eq_some_iff] at h
  exact ⟨h.1.1, h.1.2, h.2, rfl⟩

/-- The witness of a command's turn on channel 3, with more of the states about it. -/
theorem at_turn {code : Nat} {ws : List Nat} {s : State} {p : State → State → Prop}
    (h : atHead (told code ws s) (some 3) code (asks code ws) = true)
    (hp : p (told code ws s) ((told code ws s).fwTake (asks code ws))) :
    ∃ t u, FwTurn t u (some 3) code (asks code ws) ∧ p t u := ⟨_, _, turn h, hp⟩

/-- A command of channel 3 with request words, at its turn in states that meet `p`: before and with the command taken. -/
def Turn (code : Nat) (ws : List Nat) (p : State → State → Prop) : Prop :=
  ∃ s u, FwTurn s u (some 3) code (asks code ws) ∧ p s u

theorem witness_FirmwareChecksCommands :
    ((Instr.unitInfo (some 3), 0x01) ∈ fwCommands (some 3) 0 ∧ (Instr.timeSet (some 3), 0x30) ∈ fwAppending (some 3) ∧
      (ready).fwaFree = true ∧ (ready [(R.LDG_FWA_CTL_go, 1)]).fwaFree = false ∧ (ready).fwHead (some 3) = none) ∧
    (let s := told 0x11 [2 ^ 8]
     s.fwHead (some 3) = some (asks 0x11 [2 ^ 8]) ∧ ((s.served 0x11).map (asks 0x11 [2 ^ 8]).judge) = some rsBadArg ∧
      (asks 0x11 [2 ^ 8]).asked.code ≠ 0x01) ∧
    (let s := told 0x20
     s.fwHead (some 3) = some (asks 0x20 []) ∧ ((s.served 0x20).map (asks 0x20 []).judge) = some rsCarrier) ∧
    (let s := told 0x5F
     s.fwHead (some 3) = some (asks 0x5F []) ∧ s.served 0x5F = none) ∧
    (let s := told 0
     s.fwServes false = true ∧ s.isReceiver 3 2 = true ∧ (s.chan 3).queue ≠ [] ∧ msgKind 0 = 0 ∧ msgKind 0x20 ≠ 0 ∧
      ((ready).chan 3).queue = [] ∧ (ready).isReceiver 3 2 = false) := by
  decide +kernel

/-- PARAM_SET of the interval of the horizon, kept in flash or not. -/
def setInterval (keep : Nat) : List Nat := [0x0301, 10000, 0, keep]

theorem witness_FirmwareReadsAndSets :
    Turn 0x01 [] (fun _ _ => True) ∧ Turn 0x02 [0x0200] (fun _ _ => paramDefault 0x0200 = some 512) ∧
    Turn 0x02 [0xFFFF] (fun _ _ => paramDefault 0xFFFF = none) ∧
    Turn 0x03 (setInterval 0) (fun s u => s.fwaFree = true ∧ paramDefault 0x0301 = some 50 ∧
      u.paramOk 0x0301 10000 = true ∧ (asks 0x03 (setInterval 0)).w64 2 = 10000 ∧ (asks 0x03 (setInterval 0)).w 4 ≠ 1) ∧
    Turn 0x03 (setInterval 1) (fun s u => s.fwaFree = true ∧ u.paramOk 0x0301 10000 = true ∧
      (asks 0x03 (setInterval 1)).w 4 = 1 ∧ (u.cpFlash paramStore).2 = true) ∧
    Turn 0x03 (setInterval 1) (fun s u => s.fwaFree = true ∧ (u.cpFlash paramStore).2 = false) ∧
    Turn 0x03 [0x0301, 10001] (fun s u => s.fwaFree = true ∧ u.paramOk 0x0301 10001 = false) ∧
    (ready [(R.LDG_FWA_CTL_go, 1)]).fwaFree = false ∧ Turn 0x04 [3] (fun _ _ => True) ∧ Turn 0x32 [] (fun _ _ => True) ∧
    Turn 0x41 [22, 0x10404] (fun _ u => srcAssigned 22 = true ∧ u.fltOk 22 0x10404 = true) ∧
    Turn 0x41 [127, 0] (fun _ _ => srcAssigned 127 = false) :=
  ⟨at_turn (s := ready) (by decide +kernel) trivial, at_turn (s := ready) (by decide +kernel) (by decide),
   at_turn (s := ready) (by decide +kernel) (by decide), at_turn (s := ready) (by decide +kernel) (by decide +kernel),
   at_turn (s := ready) (by decide +kernel) (by decide +kernel),
   at_turn (s := { (ready) with flashFails := [true] }) (by decide +kernel) (by decide +kernel),
   at_turn (s := ready) (by decide +kernel) (by decide +kernel), by decide +kernel,
   at_turn (s := ready) (by decide +kernel) trivial, at_turn (s := ready) (by decide +kernel) trivial,
   at_turn (s := ready) (by decide +kernel) (by decide +kernel), at_turn (s := ready) (by decide +kernel) (by decide)⟩

/-- A unit with a host, ring 63 and queue 255 of MID 0. -/
def owned (state : Nat) (fs : List (Fld × Nat) := []) : State :=
  ((hosted fs).setRing 63 { exist := true, owner := 0, log2 := 3 }).setSq 255
    { state := state, owner := 0, cr := 3, log2 := 3 }

/-- The same with a program of queue 255. -/
def ownedProg (p : Prog := { prog with sq := 255 }) : State := (owned 2).setProg 0 p

/-- SQ_CREATE of a queue on ring 63. -/
def newSq (n log2 : Nat) : List Nat := [n + 7 * 2 ^ 8 + 63 * 2 ^ 16, log2]

theorem witness_FirmwareQueues :
    Turn 0x10 (newSq 1 12) (fun _ u => u.hostless = false ∧ bits (1 + 7 * 2 ^ 8 + 63 * 2 ^ 16) 0 8 ≠ 0 ∧
      bits (1 + 7 * 2 ^ 8 + 63 * 2 ^ 16) 16 6 = 63 ∧ depthOk 12 = true ∧ (asks 0x10 (newSq 1 12)).w64 3 % 64 = 0 ∧
      u.ownsRing 63 0 = true ∧ (u.sq 1).state = 0) ∧
    Turn 0x10 (newSq 255 12) (fun _ u => u.hostless = false ∧ (u.sq 255).state ≠ 0) ∧
    Turn 0x10 [1, 13] (fun _ u => u.hostless = true) ∧
    Turn 0x10 [1, 13] (fun _ u => u.hostless = false ∧ u.ownsRing 0 0 = false ∧ depthOk 13 = false) ∧
    Turn 0x11 [255] (fun _ u => u.ownsSq 255 0 = true ∧ (u.sq 255).state = 2 ∧ u.held 255 = 0) ∧
    Turn 0x12 [255] (fun _ u => u.ownsSq 255 0 = true) ∧ Turn 0x12 [254] (fun _ u => u.ownsSq 254 0 = false) ∧
    Turn 0x13 [255, 7] (fun _ u => u.ownsSq 255 0 = true ∧ (u.sq 255).state ≠ 1 ∧ 7 < 2 ^ (u.sq 255).log2 ∧ u.held 255 = 0) ∧
    Turn 0x13 [255, 7] (fun _ u => u.ownsSq 255 0 = true ∧ (u.sq 255).state ≠ 1 ∧ u.held 255 ≠ 0) ∧
    Turn 0x13 [255, 8] (fun _ u => u.ownsSq 255 0 = true ∧ 2 ^ (u.sq 255).log2 ≤ 8) ∧
    Turn 0x14 [62 + 12 * 2 ^ 8, 0x20] (fun _ u => u.hostless = false ∧ depthOk 12 = true ∧ (u.ring 62).exist = false) ∧
    Turn 0x14 [63 + 12 * 2 ^ 8, 0x20] (fun _ u => u.hostless = false ∧ (u.ring 63).exist = true) ∧
    Turn 0x14 [63 + 13 * 2 ^ 8] (fun _ u => u.hostless = false ∧ depthOk 13 = false) ∧ Turn 0x14 [] (fun _ u => u.hostless = true) ∧
    Turn 0x15 [63] (fun _ u => u.ownsRing 63 0 = true ∧ ∀ e ∈ u.sqs, e.1 = 0 ∨ e.2.state = 0 ∨ e.2.cr ≠ 63) ∧
    Turn 0x15 [63] (fun _ u => u.ownsRing 63 0 = true ∧ ∃ e ∈ u.sqs, e.1 ≠ 0 ∧ e.2.state ≠ 0 ∧ e.2.cr = 63) ∧
    Turn 0x15 [62] (fun _ u => u.ownsRing 62 0 = false) ∧
    Turn 0x16 [0] (fun _ u => u.prog 0 = some { prog with sq := 255 } ∧ u.ownsSq 255 0 = true) ∧
    Turn 0x16 [0] (fun _ u => u.prog 0 = some { prog with sq := 255, st := .ended }) ∧
    Turn 0x16 [1] (fun _ u => u.prog 1 = none) ∧
    Turn 0x21 [4095, 1, 1] (fun _ _ => True) ∧ Turn 0x21 [4095, 2, 1] (fun _ _ => 4096 < 4095 + 2) :=
  ⟨at_turn (s := owned 2) (by decide +kernel) (by decide +kernel), at_turn (s := owned 2) (by decide +kernel) (by decide +kernel),
   at_turn (s := ready) (by decide +kernel) (by decide +kernel), at_turn (s := hosted) (by decide +kernel) (by decide +kernel),
   at_turn (s := owned 2) (by decide +kernel) (by decide +kernel), at_turn (s := owned 1) (by decide +kernel) (by decide +kernel),
   at_turn (s := owned 1) (by decide +kernel) (by decide +kernel), at_turn (s := owned 2) (by decide +kernel) (by decide +kernel),
   at_turn (s := ownedProg) (by decide +kernel) (by decide +kernel), at_turn (s := owned 2) (by decide +kernel) (by decide +kernel),
   at_turn (s := owned 2) (by decide +kernel) (by decide +kernel), at_turn (s := owned 2) (by decide +kernel) (by decide +kernel),
   at_turn (s := owned 2) (by decide +kernel) (by decide +kernel), at_turn (s := ready) (by decide +kernel) (by decide +kernel),
   at_turn (s := owned 2) (by decide +kernel) (by decide +kernel),
   at_turn (s := (owned 1).setSq 255 { state := 1, owner := 0, cr := 63 }) (by decide +kernel) (by decide +kernel),
   at_turn (s := owned 2) (by decide +kernel) (by decide +kernel), at_turn (s := ownedProg) (by decide +kernel) (by decide +kernel),
   at_turn (s := ownedProg { prog with sq := 255, st := .ended }) (by decide +kernel) (by decide +kernel),
   at_turn (s := ownedProg) (by decide +kernel) (by decide +kernel),
   at_turn (s := ready) (by decide +kernel) trivial, at_turn (s := ready) (by decide +kernel) (by decide)⟩

/-- The data of a GRT_LOAD of one entry: words 0 to 3. -/
def grtWords (w0 w3 : Nat) : List Byte := leBytes 4 w0 ++ zeros 8 ++ leBytes 4 w3

theorem witness_FirmwareQueues_load :
    (∃ u, FwTurn (queued 0x20 [4095, 1, 16]) u none 0x20 (asksQ 0x20 [4095, 1, 16])) ∧
    (let d := grtWords (2 ^ 5) (1 + 31 * 2 ^ 5 + 31 * 2 ^ 10 + 31 * 2 ^ 15)
     (ready).grtOk (loadWord d 0 0) (loadWord d 0 1) (loadWord d 0 2) (loadWord d 0 3) = true) ∧
    (let d := grtWords (2 ^ 19) 0
     (ready).grtOk (loadWord d 0 0) (loadWord d 0 1) (loadWord d 0 2) (loadWord d 0 3) = false) ∧
    ((asksQ 0x20 [4095, 1, 16]).w64 3 % 16 = 0 ∧ (asksQ 0x20 [4095, 1, 16]).w 2 = 1 ∧
      4096 < (asksQ 0x20 [4095, 2, 16]).w 1 + (asksQ 0x20 [4095, 2, 16]).w 2) :=
  ⟨⟨_, turn (by decide +kernel)⟩, by decide +kernel, by decide +kernel, by decide +kernel⟩

/-- A unit of a lifecycle that keeps a ledger, with ledger state `l`. -/
def ledgered (l : Ledger := {}) (fs : List (Fld × Nat) := []) : State := { chained fs with ldg := l, nv := { lifecycle := 2 } }

/-- Commands of firmware that wait for their end. -/
def waits : Asked := { via := .mailbox 3 0 0, code := 0x34, token := 0 }

/-- A unit whose cross-timestamp has an age, in microseconds. -/
def stamped (age : Nat) : State := ready [(R.TIM_XTS_MONO_time, 1), (R.CLK_MONO_time, 1 + age)]

theorem witness_FirmwareLedgerCommands :
    Turn 0x30 [0, 0, 4] (fun s u => s.fwaFree = true ∧ u.xtsFresh = true) ∧
    Turn 0x30 [0, 0, 0] (fun s u => s.fwaFree = true ∧ u.xtsFresh = false) ∧
    Turn 0x30 [0, 0, 5] (fun s _ => s.fwaFree = true ∧ 4 < (asks 0x30 [0, 0, 5]).w 3) ∧
    Turn 0x31 [] (fun _ u => u.sequences = true ∧ u.ldgRuns = true) ∧ Turn 0x31 [] (fun _ u => u.ldgRuns = false) ∧
    Turn 0x34 [7] (fun _ u => u.bindRefusal 7 0 = none) ∧
    Turn 0x34 [5 + 2 ^ 16] (fun _ u => u.bindRefusal 5 1 = some rsBadArg) ∧
    (ledgered { binding := some (waits, 7, 0) }).ldg.binding = some (waits, 7, 0) ∧
    (ledgered { handing := some (waits, 9) }).ldg.handing = some (waits, 9) ∧
    ((ready).ldg.binding = none ∧ (ready).ldg.handing = none) ∧
    Turn 0x35 [] (fun _ u => u.ldg.pair.role ≠ 0) ∧ Turn 0x36 [] (fun _ u => u.ldg.pair.role = 2) ∧
    Turn 0x35 [] (fun _ u => u.ldg.pair.role = 0) ∧ Turn 0x36 [] (fun _ u => u.ldg.pair.role ≠ 2) ∧
    Turn 0x37 [] (fun _ u => u.ldg.pair.role = 1 ∧ u.hbOk = true ∧ (u.closeEpoch.ldgRoom 80).isSome = true) ∧
    Turn 0x37 [] (fun _ u => u.ldg.pair.role ≠ 1) ∧
    Turn 0x40 [] (fun _ u => u.power = 0 ∧ u.on R.TLN_STATUS_repairing = false) ∧
    Turn 0x40 [] (fun _ u => u.power = 0 ∧ u.on R.TLN_STATUS_repairing = true) ∧ Turn 0x40 [] (fun _ u => u.power ≠ 0) :=
  ⟨at_turn (s := stamped 1000000) (by decide +kernel) (by decide +kernel),
   at_turn (s := stamped 1000001) (by decide +kernel) (by decide +kernel),
   at_turn (s := ready) (by decide +kernel) (by decide +kernel),
   at_turn (s := ledgered) (by decide +kernel) (by decide +kernel), at_turn (s := ready) (by decide +kernel) (by decide +kernel),
   at_turn (s := ledgered) (by decide +kernel) (by decide +kernel),
   at_turn (s := ledgered) (by decide +kernel) (by decide +kernel), rfl, rfl, ⟨rfl, rfl⟩,
   at_turn (s := ledgered { pair := { role := 3 } }) (by decide +kernel) (by decide +kernel),
   at_turn (s := ledgered { pair := { role := 2 } }) (by decide +kernel) (by decide +kernel),
   at_turn (s := ledgered) (by decide +kernel) (by decide +kernel),
   at_turn (s := ledgered { pair := { role := 1 } }) (by decide +kernel) (by decide +kernel),
   at_turn (s := ledgered { pair := { role := 1, bound := true, partner := 7, term := 1 }, hbSeen := true, openSeg := some 0 })
     (by decide +kernel) (by decide +kernel),
   at_turn (s := ledgered { pair := { role := 2 } }) (by decide +kernel) (by decide +kernel),
   at_turn (s := ready) (by decide +kernel) (by decide +kernel),
   at_turn (s := ready [(R.TLN_STATUS_repairing, 1)]) (by decide +kernel) (by decide +kernel),
   at_turn (s := ready [(R.PWR_STATE_current, 1)]) (by decide +kernel) (by decide +kernel)⟩

/-- A record of the ledger with a number, and no body. -/
def ledgerRec (seq : Nat) : List Byte := mkLedgerRec seq 0 0 0x40 3 5 0 (fun _ => zeros 32) []

/-- A segment of two records. -/
def sealedSeg : Segment := { hdr := { id := 0, opened := 0, first := 3, mirror := false }, recs := [ledgerRec 3, ledgerRec 4] }

theorem witness_FirmwareLedgerCommands_export :
    let s := ledgered { pair := { cur := [0] }, segs := [(0, sealedSeg)] }
    let r := asksQ 0x33 [3, 0, 4, 0, 0, 0]
    (∃ u, FwTurn (queued 0x33 [3, 0, 4, 0, 0, 0] s) u none 0x33 r) ∧
    s.ldg.chainRecs s.ldg.pair.cur = [ledgerRec 3, ledgerRec 4] ∧
    s.exportWanted r = some [ledgerRec 3, ledgerRec 4] ∧ r.w64 5 % 16 = 0 ∧ s.flashReads = [] ∧
    fitRecs [128].sum [ledgerRec 3, ledgerRec 4] = [ledgerRec 3, ledgerRec 4] ∧
    (ledgered).ldg.chainRecs (ledgered).ldg.pair.cur = [] ∧ (ledgered).exportWanted r = none ∧
    s.ldg.exported + 1 < ldgSeq (ledgerRec 3) :=
  ⟨⟨_, turn (by decide +kernel)⟩, by decide +kernel, by decide +kernel, by decide +kernel, by decide +kernel, by decide +kernel,
    by decide +kernel, by decide +kernel, by decide +kernel⟩

theorem witness_SemaphoresExclude : (ready).answers = true ∧ tget (ready).sems 63 = none ∧
    (let s := { (ready) with sems := [(63, (4, 1023))] }
     tget s.sems 63 = some ((4#4).toNat, if (4#4) = 4 then (1023#10).toNat else 0) ∧
      ((4, 1023) : Nat × Nat) ≠ ((4#4).toNat, if (4#4) = 4 then (9#10).toNat else 0)) := by
  decide +kernel

/-- A unit with an LXB access of MID 2 that waits its turn, of chip select 1. -/
def lxbWaits (fs : List (Fld × Nat) := []) (broken : Option Nat := none) : State :=
  { ready ((R.HNG_LXB_CS_CFG_en 1, 1) :: fs) with
    lxbQ := [{ owner := .slot 0 0, mid := 2, cs := 1, addr := 4, write := false, data := 0, part := 0 }], lxbBroken := broken }

/-- The LXB: chip select 1 and WAIT attached, and its accesses watched. -/
def lxbWatched : List (Fld × Nat) := (R.HNG_LXB_CS_CFG_wait_en 1, 1) :: wired [⟨.lxb, 0, 17⟩, ⟨.lxb, 0, 24⟩]

theorem witness_ExpansionBusTurns :
    ((ready).answers = true ∧ lockMid 5 = true ∧ lockMid 4 = false ∧ (ready).lxbLock = none ∧
      { (ready) with lxbLock := some 5 }.lxbLock = some 5) ∧
    ((ready [(R.HNG_SEM_LEASE_ms, 1)]).get R.HNG_SEM_LEASE_ms ≠ 0 ∧
      tget { (ready) with sems := [(0, (0, 0))] }.sems 0 ≠ none ∧ tget (ready).sems 0 = none) ∧
    ((lxbWaits).lxbNext.map (·.mid) = some 2 ∧ (lxbWaits).lxbBroken ≠ some 2 ∧ (lxbWaits [] (some 2)).lxbBroken = some 2 ∧
      (lxbWaits [] (some 2)).lxbNext.isSome = true ∧ (lxbWaits).lxbUp 1 = true ∧
      (lxbWaits [(R.HNG_LXB_CS_CFG_en 1, 0)]).lxbUp 1 = false ∧ (lxbWaits [(R.HNG_LXB_CS_CFG_en 1, 0)]).lxbNext.isSome = true ∧
      (ready).lxbNext = none) ∧
    ((lxbWaits lxbWatched).attached ⟨.lxb, 0, 17⟩ = true ∧ (lxbWaits).attached ⟨.lxb, 0, 17⟩ = false) ∧
    ((lxbWaits lxbWatched).on (R.HNG_LXB_CS_CFG_wait_en 1) = true ∧ (lxbWaits lxbWatched).attached ⟨.lxb, 0, 24⟩ = true ∧
      (lxbWaits lxbWatched).lxbNext.isSome = true ∧ (lxbWaits).on (R.HNG_LXB_CS_CFG_wait_en 1) = false) ∧
    ((ready (wired [⟨.lxb, 0, 28⟩])).attached ⟨.lxb, 0, 28⟩ = true ∧ (ready).attached ⟨.lxb, 0, 28⟩ = false) := by
  decide +kernel

/-- A unit with request 255 under way for slot 7 of function 1. -/
def asking (write : Bool) : State :=
  { (chained) with reqs := [(255, { gen := 15, unit := 7, write := write, owner := .slot 1 7 })] }

/-- A response to it, and a NO_ROUTE. -/
def response (status : Nat) : FlitIn := flit (leBytes 2 0xFFF ++ leBytes 1 status ++ zeros 13)
def gone (type : Nat := 0x10) (w : Nat := 0xFFF) : FlitIn := flit (leBytes 2 type ++ leBytes 2 w)

/-- A unit that awaits the answers of an operation on unit 7. -/
def awaiting : State := (chained).setOp 0 { farOp ocRead clsReg 4 with sent := true }

theorem witness_FarAccessesEnd :
    ((asking false).arrives 0 (response 0) = true ∧
      ((asking false).accept 0 .rsp (response 0)).reqMatch (fieldAt (response 0).payload 0 2) false = some 255 ∧
      tget ((asking false).accept 0 .rsp (response 0)).reqs 255 =
        some { gen := 15, unit := 7, write := false, owner := .slot 1 7 } ∧
      fieldAt (response 0).payload 2 1 = 0 ∧ (response 0).poisoned = false ∧
      ((asking false).accept 0 .rsp (response 0)).reqMatch (fieldAt (response 0).payload 0 2) true = none ∧
      ((asking true).accept 0 .rsp (response 0)).reqMatch (fieldAt (response 0).payload 0 2) false = none) ∧
    (((asking true).accept 0 .rsp (response 0)).reqMatch (fieldAt (response 0).payload 0 2) true = some 255 ∧
      tget ((asking true).accept 0 .rsp (response 0)).reqs 255 =
        some { gen := 15, unit := 7, write := true, owner := .slot 1 7 }) ∧
    (fieldAt (gone).payload 0 1 = 0x10 ∧
      ((asking false).accept 0 .rsp (gone)).reqMatch (fieldAt (gone).payload 2 2) false = some 255 ∧
      ((asking false).accept 0 .rsp (gone 0x10 0)).reqMatch (fieldAt (gone 0x10 0).payload 2 2) false = none ∧
      fieldAt (gone 0x20 0).payload 0 1 = 0x20 ∧ fieldAt (gone 0x05).payload 0 1 ∉ [0x10, 0x11, 0x20, 0x30]) ∧
    (let a := (awaiting).accept 0 .rsp (gone 0x20 0)
     a.op (fieldAt (gone 0x20 0).payload 2 2 % 2048) = some { farOp ocRead clsReg 4 with sent := true } ∧
      a.opFar 0 { farOp ocRead clsReg 4 with sent := true } = true ∧
      ((asking false).accept 0 .rsp (gone 0x20 0)).op (fieldAt (gone 0x20 0).payload 2 2 % 2048) = none) ∧
    (ready).arrives 0 (gone) = false ∧
    (tget (asking false).reqs 255).map (·.owner) = some (.slot 1 7) ∧
    (tget { (ready) with reqs := [(9, { gen := 0, unit := 7, write := false, owner := .agent 4 })] }.reqs 9).map (·.owner)
      = some (.agent 4) ∧
    ReqOwner.slot 0 0 ≠ .agent 4 ∧ tget (asking false).reqs 0 = none ∧
    (let x : FabAcc := { mid := 5, lxb := false, unit := 7, off := 0x40, write := false, parts := 1, done := [(0, (foDone, 1))] }
     let s := { (ready) with fabric := [(3, x)] }
     s.fabFind 5 false 7 0x40 = some (3, x) ∧ x.ended = true ∧ { x with done := [] }.ended = false ∧
      s.fabFind 5 false 7 0x80 = none) := by
  decide +kernel

/-- A member of a pair with unit 7. -/
def paired (role : Nat) (l : Ledger := {}) : State :=
  ledgered { l with pair := { role := role, term := 4, bound := true, partner := 7, sn := 9, cur := [0] } }

/-- A header of production firmware of 4,096 bytes for key slot 0, signed by the key whose public point is the curve's
base point (computed apart from the model, from FIPS 186-5). -/
def signedHeader : List Byte :=
  leBytes 4 0x4E594C57 ++ leBytes 2 1 ++ leBytes 2 0x100 ++ leBytes 1 1 ++ zeros 11 ++ leBytes 4 4096 ++ zeros 168 ++
    leBytes 32 0x7cf27b188d034f7e8a52380304b51ac3c08969e277f21b35a60b48fc47669978 ++
    leBytes 32 0x3ec38329fecd25bd5c9fd13d71ff6a58deb5596b8500f3ccd388f252805d773c

/-- A unit in FIELD with that key in slot 0. -/
def keyed (fs : List (Fld × Nat) := []) : State :=
  { ready fs with nv := { lifecycle := 2, keys := [(0, (leBytes 32 ecGx ++ leBytes 32 ecGy, false))] } }

/-- R131, R146: the signature verifies, and a header with one bit changed does not. -/
theorem test_signature : (keyed).nv.headerStatus signedHeader = rsOk ∧
    (keyed).nv.headerStatus (signedHeader.set 0x20 1) = rsSig := by decide +kernel

/-- A governing boot record. -/
def booted (b : BootRec) (fs : List (Fld × Nat) := []) : State := { ready fs with nv := { rec0 := b.bytes } }

/-- A session on bank B, of MID 0 unless another is named. -/
def session (next : Nat) (header : List Byte) (mid : Nat := 0) (bank : Nat := 1) : State :=
  { (ready) with img := some { mid := mid, bank := bank, header := header, next := next } }

/-- A unit on trial with bank B, and with a flash operation that fails. -/
def onTrialB : State := booted { trial := some 1 } [(R.GLB_BOOT_STATUS_bank, 1)]
def failingB : State := { onTrialB with flashFails := [true] }

/-- A header of an empty body. -/
def emptyImage : List Byte := zeros 32 ++ sha256 []

theorem witness_ImagesReplaced :
    Turn 0x50 [] (fun _ _ => True) ∧
    Turn 0x51 [1] (fun _ u => u.img = none ∧ u.runsBank 1 = false ∧ u.nv.headerStatus (fit 256 signedHeader) = rsOk ∧
      u.nv.headerStatus (fit 256 []) ≠ rsOk) ∧
    Turn 0x51 [0] (fun _ u => u.img = none ∧ u.runsBank 0 = true) ∧
    Turn 0x51 [0] (fun _ u => u.img = some { mid := 1, bank := 1, header := [] }) :=
  ⟨at_turn (s := ready) (by decide +kernel) trivial, at_turn (s := keyed) (by decide +kernel) (by decide +kernel),
   at_turn (s := ready) (by decide +kernel) (by decide +kernel),
   at_turn (s := session 0 [] 1) (by decide +kernel) (by decide +kernel)⟩

theorem witness_ImagesReplaced_end :
    Turn 0x53 [1] (fun _ u => u.img = some { mid := 0, bank := 1, header := emptyImage } ∧ 0 = hdrBody emptyImage ∧
      sha256 ((u.nv.bank 1).body.take 0) = (emptyImage.drop 0x20).take 32) ∧
    Turn 0x53 [1] (fun _ u => u.img = some { mid := 0, bank := 1, header := zeros 64 } ∧ 0 = hdrBody (zeros 64) ∧
      ¬ sha256 ((u.nv.bank 1).body.take 0) = ((zeros 64).drop 32).take 32) ∧
    Turn 0x53 [1] (fun _ u => u.img = some { mid := 0, bank := 1, header := signedHeader } ∧ 0 ≠ hdrBody signedHeader) ∧
    Turn 0x53 [1] (fun _ u => u.img = none) ∧ Turn 0x53 [1] (fun _ u => u.img = some { mid := 1, bank := 1, header := [] }) ∧
    Turn 0x53 [1] (fun _ u => u.img = some { mid := 0, bank := 0, header := [] }) :=
  ⟨at_turn (s := session 0 emptyImage) (by decide +kernel) (by decide +kernel),
   at_turn (s := session 0 (zeros 64)) (by decide +kernel) (by decide +kernel),
   at_turn (s := session 0 signedHeader) (by decide +kernel) (by decide +kernel),
   at_turn (s := ready) (by decide +kernel) (by decide +kernel),
   at_turn (s := session 0 [] 1) (by decide +kernel) (by decide +kernel),
   at_turn (s := session 0 [] 0 0) (by decide +kernel) (by decide +kernel)⟩

theorem witness_ImagesReplaced_switch :
    Turn 0x54 [1] (fun _ u => u.img = none ∧ u.runsBank 1 = false ∧ u.nv.boot.status 1 = bsStaged) ∧
    Turn 0x54 [0] (fun _ u => u.img = none ∧ u.runsBank 0 = true) ∧
    Turn 0x54 [1] (fun _ u => u.img = none ∧ u.nv.boot.status 1 ≠ bsStaged) ∧
    Turn 0x55 [] (fun _ u => u.img = none ∧ u.member = false) ∧ Turn 0x55 [] (fun _ u => u.img = none ∧ u.member = true) ∧
    Turn 0x54 [1] (fun _ u => u.img ≠ none) ∧ Turn 0x55 [] (fun _ u => u.img ≠ none) ∧ Turn 0x56 [1] (fun _ u => u.img ≠ none) ∧
    Turn 0x57 [] (fun _ u => u.img ≠ none) ∧
    Turn 0x56 [1] (fun _ u => u.img = none ∧ u.onTrial = true ∧ u.runsBank 1 = true ∧
      (u.recWrite { (u.nv.boot.setStatus 1 bsConfirmed) with preferred := 1, trial := none }).2 = true) ∧
    Turn 0x56 [1] (fun _ u => u.img = none ∧ u.onTrial = true ∧ u.runsBank 1 = true ∧
      (u.recWrite { (u.nv.boot.setStatus 1 bsConfirmed) with preferred := 1, trial := none }).2 = false) ∧
    Turn 0x57 [] (fun _ u => u.img = none ∧ u.member = false ∧ u.onTrial = true ∧
      (u.recWrite { (u.nv.boot.setStatus (u.get R.GLB_BOOT_STATUS_bank) bsBad) with trial := none }).2 = true) ∧
    Turn 0x57 [] (fun _ u => u.img = none ∧ u.member = false ∧ u.onTrial = true ∧
      (u.recWrite { (u.nv.boot.setStatus (u.get R.GLB_BOOT_STATUS_bank) bsBad) with trial := none }).2 = false) ∧
    Turn 0x57 [] (fun _ u => u.img = none ∧ u.member = false ∧ u.onTrial = false) ∧
    Turn 0x57 [] (fun _ u => u.img = none ∧ u.member = true) :=
  ⟨at_turn (s := booted { statusB := bsStaged }) (by decide +kernel) (by decide +kernel),
   at_turn (s := ready) (by decide +kernel) (by decide +kernel), at_turn (s := ready) (by decide +kernel) (by decide +kernel),
   at_turn (s := ready) (by decide +kernel) (by decide +kernel), at_turn (s := paired 1) (by decide +kernel) (by decide +kernel),
   at_turn (s := session 0 []) (by decide +kernel) (by decide +kernel),
   at_turn (s := session 0 []) (by decide +kernel) (by decide +kernel),
   at_turn (s := session 0 []) (by decide +kernel) (by decide +kernel),
   at_turn (s := session 0 []) (by decide +kernel) (by decide +kernel),
   at_turn (s := onTrialB) (by decide +kernel) (by decide +kernel), at_turn (s := failingB) (by decide +kernel) (by decide +kernel),
   at_turn (s := onTrialB) (by decide +kernel) (by decide +kernel), at_turn (s := failingB) (by decide +kernel) (by decide +kernel),
   at_turn (s := ready) (by decide +kernel) (by decide +kernel), at_turn (s := paired 1) (by decide +kernel) (by decide +kernel)⟩

/-- IMG_CHUNK of 4,096 bytes, whose fragment table stands at an address. -/
def chunk (bank table : Nat := 1) : List Nat := [bank, 0, 4096, table]

/-- IMG_CHUNK at its turn on SQ 0. -/
def ChunkTurn (s : State) (ws : List Nat) : Prop := ∃ u, FwTurn (queued 0x52 ws s) u none 0x52 (asksQ 0x52 ws)

theorem witness_ImagesReplaced_chunk :
    let s := session 0 signedHeader
    let x : ImgSession := { mid := 0, bank := 1, header := signedHeader }
    (ChunkTurn s (chunk 1 0x20) ∧ ChunkTurn s (chunk 1 0x21) ∧ ChunkTurn s (chunk 0 0x20) ∧ ChunkTurn (ready) (chunk 1 0x20) ∧
      ChunkTurn (session 0 [] 1) (chunk 1 0x20)) ∧
    s.img = some x ∧ (ready).img = none ∧ ((session 0 [] 1).img.map (·.mid)) = some 1 ∧ x.mid = (asksQ 0x52 []).mid ∧
    x.bank ≠ (asksQ 0x52 (chunk 0 0x20)).w 1 ∧ (asksQ 0x52 (chunk 1 0x20)).w64 4 % 16 = 0 ∧
    (asksQ 0x52 (chunk 1 0x21)).w64 4 % 16 ≠ 0 ∧ x.chunkOk 0 4096 = true ∧ x.chunkOk 4096 4096 = false ∧
    (s.cpFlash (bankAddr 1 + 4096)).2 = true ∧ ({ s with flashFails := [true] }.cpFlash (bankAddr 1 + 4096)).2 = false :=
  ⟨⟨⟨_, turn (by decide +kernel)⟩, ⟨_, turn (by decide +kernel)⟩, ⟨_, turn (by decide +kernel)⟩,
    ⟨_, turn (by decide +kernel)⟩, ⟨_, turn (by decide +kernel)⟩⟩, by decide +kernel⟩

/-- An append block of no body. -/
def block : List Byte := leBytes 1 0x80 ++ zeros 39

/-- A LEDGER_APPEND whose block has been read, for the unit itself or for unit 7. -/
def appendOp (unit : Nat) (o : Op := {}) : Op :=
  let c : Ccw := { opcode := ocAppend, dev := if unit = 5 then dev 0 0 else unit, count := 40 }
  { o with first := c, segs := [{ ccw := c, room := 40 }], got := 40, buf := block.map fun b => (b, false) }

/-- A unit of a pair or none, its chain working, with a LEDGER_APPEND under way. -/
def appending (o : Op) (l : Ledger := {}) : State := running o prog (ledgered l)

/-- Two sealed segments and an open one. -/
def segments : NMap Segment :=
  [(0, { hdr := { id := 0, opened := 0, first := 0, mirror := false }, recs := [ledgerRec 1] })]

/-- A LEDGER_APPEND part from unit 7: its tag, part and number of parts. -/
def partFlit (tag part parts : Nat) (bs : List Byte := zeros 40) : FlitIn :=
  flit (leBytes 2 tag ++ leBytes 1 part ++ [0] ++ leBytes 1 parts ++ zeros 3 ++ bs)

/-- A unit that takes far appends, its chain ready, with one under way of unit 7 and tag 0x17. -/
def gathering (l : Ledger := {}) : State :=
  ledgered { l with
    ready := true
    farIn := [(7 * 2 ^ 16 + 0x17, { parts := 2, next := 1, bytes := [], poisoned := false })] }

/-- A record staged for flash. -/
def staged (by_ : Option AppendBy := none) : Staged := { seg := 0, hdr := none, bytes := ledgerRec 1, by_ := by_, pair := {} }

theorem witness_AppendsEnterTheLedger :
    (let o := appendOp 5
     let s := appending o
     s.liveWith 0 ocAppend = some o ∧ o.busy = false ∧ o.sent = false ∧ o.allRead = true ∧ o.room ≤ o.buf.length ∧
      s.opFar 0 o = false ∧ { o with got := 0, buf := [] }.allRead = false ∧ { o with buf := [] }.allRead = true ∧
      { o with buf := [] }.buf.length < { o with buf := [] }.room) ∧
    (let o := appendOp 7
     (appending o).opFar 0 o = true ∧ o.poisoned = false ∧ (appending { o with sent := true }).liveWith 0 ocAppend =
      some { o with sent := true } ∧ (appending { o with sent := true, busy := true }).liveWith 0 ocAppend =
      some { o with sent := true, busy := true } ∧ (ready).routeTo (devUnit o.first.dev) = none) ∧
    (ready).liveWith 0 ocAppend = none := by
  decide +kernel

/-- An error of the ledger's append path ends the program, and its writes are held while the host may not be reached. -/
theorem witness_AppendsEnterTheLedger_held :
    ((appending (appendOp 5)).writesHeld 0 = true ∧
      (mk [(R.CFG_CMD_bme 0, 1), (R.INT_LINK_up, 1)] (appending (appendOp 5))).writesHeld 0 = false) ∧
    (let u := (appending (appendOp 5)).setOp 0 { appendOp 5 with busy := true }
     u.appendRefusal { bytes := block, mid := 3, src := 5, poisoned := false, by_ := .program 0 } = none ∧
      u.appendRefusal { bytes := [], mid := 3, src := 5, poisoned := false, by_ := .program 0 } = some 0x70) := by
  decide +kernel

theorem witness_AppendsEnterTheLedger_far :
    ((chained [(R.GLB_BOOT_STATUS_stage, 1)]).arrives 0 (partFlit 0x17 0 1) = true ∧
      ((chained [(R.GLB_BOOT_STATUS_stage, 1)]).accept 0 .req (partFlit 0x17 0 1)).inReset = true) ∧
    ((ledgered).arrives 0 (partFlit 0x17 0 2) = true ∧ ((ledgered).accept 0 .req (partFlit 0x17 0 2)).inReset = false ∧
      fieldAt (partFlit 0x17 0 2).payload 2 1 = 0 ∧ fieldAt (partFlit 0x17 0 2).payload 4 1 = 2 ∧
      ((ledgered).accept 0 .req (partFlit 0x17 0 2)).ldg.farIn.length < 64) ∧
    (let f := partFlit 0x17 1 2
     tget ((ledgered).accept 0 .req f).ldg.farIn (7 * 2 ^ 16 + 0x17) = none ∧ fieldAt f.payload 2 1 + 1 = fieldAt f.payload 4 1 ∧
      tget ((gathering).accept 0 .req f).ldg.farIn (7 * 2 ^ 16 + 0x17) =
        some { parts := 2, next := 1, bytes := [], poisoned := false } ∧
      fieldAt (partFlit 0x17 1 3).payload 2 1 + 1 ≠ fieldAt (partFlit 0x17 1 3).payload 4 1 ∧
      ((gathering).accept 0 .req f).ldg.ready = true) ∧
    ((({ (gathering) with ldg := { (gathering).ldg with ready := false } }).accept 0 .req (partFlit 0x17 1 2)).ldg.ready =
      false) ∧
    ((gathering).appendRefusal { bytes := block, mid := 3, src := 7 + 2 ^ 15, poisoned := false, by_ := .far 7 0x17 1 } = none ∧
      (gathering).appendRefusal { bytes := [], mid := 3, src := 7 + 2 ^ 15, poisoned := false, by_ := .far 7 0x17 1 } =
        some 0x70) ∧
    (let f := flit (zeros 48)
     let s := appending (appendOp 7 { sent := true })
     s.arrives 0 f = true ∧ ((s.accept 0 .rsp f).appendOf f.payload).isSome = true ∧ fieldAt f.payload 4 1 = 0 ∧
      fieldAt (flit (zeros 4 ++ [1])).payload 4 1 = 1 ∧ fieldAt (flit (zeros 4 ++ [5])).payload 4 1 = 5 ∧
      ((ledgered).accept 0 .rsp f).appendOf f.payload = none ∧ (ready).arrives 0 f = false) := by
  decide +kernel

theorem witness_AppendsEnterTheLedger_records :
    ((ready).answers = true ∧ (ready [(R.LDG_FWA_CTL_go, 1)]).on R.LDG_FWA_CTL_go = true ∧
      (ready).on R.LDG_FWA_CTL_go = false) ∧
    (let s := (ledgered {} [(R.LDG_FWA_CTL_count, 40), (R.LDG_FWA_DATA_word 0, 0x20)]).put R.LDG_FWA_CTL_go 1
     let a : Append :=
       { bytes := ((List.range 58).flatMap fun w => leBytes 4 (s.get (R.LDG_FWA_DATA_word w))).take (s.get R.LDG_FWA_CTL_count),
         mid := 2, src := s.ownSrc, poisoned := false, by_ := .firmware }
     s.appendRefusal a = none ∧ s.appendRefusal { a with bytes := [] } = some 0x70) ∧
    ((ready).ldg.staged = [] ∧ (ledgered { staged := [staged] }).ldg.staged = [staged] ∧ (staged).by_ = none ∧
      (staged (some .firmware)).by_ = some .firmware) ∧
    ((ledgered).sequences = true ∧ LdgItem.seal ∉ (ledgered).ldg.due ∧
      LdgItem.seal ∈ (ledgered { due := [.seal] }).ldg.due ∧ (ledgered { pair := { role := 2 } }).sequences = false ∧
      (2#4).toNat < 3) ∧
    (let s := ledgered { segs := segments, openSeg := some 0 }
     s.ldgRuns = true ∧ s.ldg.erase = none ∧ (s.ldg.oldestSeg.map (·.1)) = some 0 ∧
      (s.ldg.oldestSeg.bind fun x => s.releaseReason x.1 x.2) = some 1 ∧ (ledgered).ldg.oldestSeg = none ∧
      (ready).ldgRuns = false) ∧
    (let s := ledgered { segs := segments, openSeg := some 1 }
     (s.ldg.oldestSeg.map fun x => s.releaseReason x.1 x.2) = some none) ∧
    (let s := ledgered { exported := 3, durable := 9 }
     s.ldg.exported ≤ (9#64).toNat ∧ (9#64).toNat ≤ s.ldg.durable ∧ ¬ (10#64).toNat ≤ s.ldg.durable) ∧
    R.GLB_BOOT_EVT_cause.key ∉ List.map Fld.key [R.LDG_LAST_release_reason, R.LDG_EVT_cause, R.LDG_EVT_CNT_count 10] := by
  decide +kernel

/-- A pair message: role, term, serial, with its check word. -/
def pairMsg (op role term sn : Nat) : FlitIn :=
  let b := leBytes 1 op ++ leBytes 1 role ++ leBytes 2 term ++ zeros 16 ++ leBytes 8 sn ++ zeros 8
  flit (zeros 3 ++ leBytes 1 0x91 ++ b ++ leBytes 4 (crc32c b))

/-- An epoch of one record under assembly. -/
def staging : Stage := { num := 2, first := 1, count := 1, term := 4, size := 64, ok := true, data := ledgerRec 1 }

/-- EPOCH_END of epoch 2. -/
def epochEnd (chain : List Byte) : FlitIn :=
  let b := leBytes 4 2 ++ leBytes 2 1 ++ leBytes 2 4
  flit (zeros 4 ++ b ++ leBytes 4 (crc32c (b ++ chain)) ++ chain)

/-- A message of an epoch that names epoch 2, with the byte after its number. -/
def epochMsg (b : Byte := 0) : FlitIn := flit (zeros 4 ++ leBytes 4 2 ++ [b] ++ zeros 39)

/-- An epoch sent and not yet acknowledged. -/
def sentEpoch : Epoch := { num := 2, term := 4, recs := [ledgerRec 1], chain := zeros 32 }

theorem witness_PairsMirrorInEpochs :
    ((paired 2).member = true ∧ (paired 2).ldg.hbLost = false ∧ (ready).member = false ∧
      (paired 2 { hbLost := true }).ldg.hbLost = true) ∧
    (let l : Ledger := { feeding := true, unsent := [ledgerRec 1] }
     (paired 1 l).ldg.feeding = true ∧ (paired 1 l).ldg.unsent ≠ [] ∧ (paired 1 l).ldg.epochs.length < 2 ∧
      (paired 1).ldg.feeding = false) ∧
    ((paired 1 { epochs := [sentEpoch] }).ldg.epochs[b2n false]? = some sentEpoch ∧
      (paired 1 { epochs := [sentEpoch] }).ldg.epochs[b2n true]? = none) ∧
    (let s := paired 1 { epochs := [sentEpoch] }
     let a (f : FlitIn) := s.accept 0 .rsp f
     s.arrives 0 (epochMsg) = true ∧ (a (epochMsg)).member = true ∧ (epochMsg).src.toNat = (a (epochMsg)).ldg.pair.partner ∧
      (a (epochMsg)).ldg.epochs.find? (fun e => e.num == fieldAt (epochMsg).payload 4 4) = some sentEpoch ∧
      fieldAt (epochMsg).payload 8 1 = 0 ∧ fieldAt (epochMsg 1).payload 8 1 ≠ 0 ∧
      ((paired 1).accept 0 .rsp (epochMsg)).ldg.epochs.find? (fun e => e.num == fieldAt (epochMsg).payload 4 4) = none) ∧
    (ready).arrives 0 (flit []) = false ∧
    ((paired 2).arrives 0 (flit (zeros 12)) = true ∧ ((paired 2).accept 0 .lc (flit (zeros 12))).member = true ∧
      (flit []).src.toNat = ((paired 2).accept 0 .lc (flit (zeros 12))).ldg.pair.partner ∧
      { flit [] with src := 9 }.src.toNat ≠ ((paired 2).accept 0 .lc { flit [] with src := 9 }).ldg.pair.partner ∧
      ((ledgered).accept 0 .rsp (flit [])).member = false ∧ ((ledgered).accept 0 .lc (flit [])).member = false) ∧
    ((early.accept 0 .req (epochMsg)).inReset = true ∧ early.arrives 0 (epochMsg) = true ∧
      ((ledgered).accept 0 .req (epochMsg)).inReset = false ∧ ((ledgered).accept 0 .req (epochMsg)).member = false) ∧
    ((ready).ldg.commits = [] ∧ (paired 2 { commits := [2] }).ldg.commits ≠ []) := by
  decide +kernel

theorem witness_PairsMirrorInEpochs_judged :
    ((paired 1).accept 0 .req (epochMsg)).ldg.pair.role ≠ 2 ∧
    (let b := (paired 2 { stage := some staging }).accept 0 .req (epochEnd (zeros 32))
     (paired 2 { stage := some staging }).arrives 0 (epochEnd (zeros 32)) = true ∧ b.inReset = false ∧ b.member = true ∧
      (epochEnd (zeros 32)).src.toNat = b.ldg.pair.partner ∧ b.ldg.pair.role = 2 ∧ b.ldg.stage = some staging ∧
      b.ldg.hasEpoch (fieldAt (epochEnd (zeros 32)).payload 4 4) = false ∧
      (b.setLdg { b.ldg with stage := none }).judgeEpoch staging (flit (zeros 48)) = .inl 1) ∧
    ((paired 2).accept 0 .req (epochMsg)).ldg.stage = none ∧
    (let b := (paired 2 { lastEpoch := 2, commits := [2] }).accept 0 .req (epochMsg)
     b.ldg.hasEpoch (fieldAt (epochMsg).payload 4 4) = true ∧ fieldAt (epochMsg).payload 4 4 ∈ b.ldg.commits ∧
      fieldAt (epochMsg).payload 4 4 ∉ ((paired 2 { lastEpoch := 2 }).accept 0 .req (epochMsg)).ldg.commits) := by
  decide +kernel

/-- An epoch that is committed: its one record continues the chain of the standby. -/
theorem witness_PairsMirrorInEpochs_committed :
    let c := chainAfter (zeros 32) (ledgerRec 1)
    let b := paired 2 { next := 1, chain := zeros 32, openSeg := some 0, anchored := true, segs := segments }
    (b.judgeEpoch staging (epochEnd c)).isRight = true := by
  decide +kernel

/-- A unit that waits for the BIND of unit 7, which it makes its standby. -/
def binds : State := ledgered { binding := some (waits, 7, 1) }

theorem witness_PairsFormAndTakeTurns :
    ((ready).answers = true ∧
      ((ready).takes R.LDG_PAIR_CTL_hold (0#4).toNat = true ∨ (ready).takes R.LDG_PAIR_CTL_hold (2#4).toNat = true) ∧
      (ready).takes R.LDG_PAIR_CTL_hold (5#4).toNat = false) ∧
    ((paired 2 { grace := true }).ldg.grace = true ∧ (paired 2 { grace := true }).on R.LDG_PAIR_CTL_hold = false ∧
      (ready).ldg.grace = false ∧ (ready).on R.LDG_PAIR_CTL_auto = true ∧
      (ready [(R.LDG_PAIR_CTL_auto, 0)]).on R.LDG_PAIR_CTL_auto = false) ∧
    ((ready).arrives 0 (pairMsg opState 1 4 9) = false ∧ early.arrives 0 (pairMsg opState 1 4 9) = true ∧
      (early.accept 0 .req (pairMsg opState 1 4 9)).inReset = true) ∧
    (let f := pairMsg opState 1 4 9
     let a := (paired 1).accept 0 .req f
     (paired 1).arrives 0 f = true ∧ a.inReset = false ∧ a.fromPartner f = true ∧ a.ldg.pair.role = 1 ∧
      pmRole f.payload = 1 ∧ a.ldg.pair.term = pmTerm f.payload ∧ ¬ a.ldg.pair.partner < a.addr) ∧
    (let f := pairMsg opState 2 4 9
     ((paired 1).accept 0 .req f).fromPartner f = true ∧ pmRole f.payload = 2 ∧
      pmTerm f.payload = ((paired 1).accept 0 .req f).ldg.pair.term ∧
      pmTerm (pairMsg opState 2 5 9).payload ≠ ((paired 1).accept 0 .req f).ldg.pair.term) ∧
    (let f := pairMsg opState 1 4 9
     ((paired 2).accept 0 .req f).fromPartner f = true ∧ ((paired 2).accept 0 .req f).ldg.pair.role = 2 ∧
      ((paired 0).accept 0 .req f).fromPartner f = true ∧ ((paired 0).accept 0 .req f).ldg.pair.role = 0) ∧
    (let f := pairMsg opState 1 4 8
     ((paired 1).accept 0 .req f).fromPartner f = false ∧ ((paired 1).accept 0 .req f).member = true ∧
      ((ledgered).accept 0 .req f).fromPartner f = false ∧ ((ledgered).accept 0 .req f).member = false) ∧
    (let f := pairMsg opBind 1 4 9
     let a := binds.accept 0 .rsp f
     binds.arrives 0 f = true ∧ a.ldg.binding = some (waits, 7, 1) ∧ 7 = f.src.toNat ∧ pmRole f.payload = 1 ∧
      pmOk f.payload = true ∧ f.poisoned = false ∧ pmRole (pairMsg opBind 0 4 9).payload ≠ 1 ∧
      ((ledgered).accept 0 .rsp f).ldg.binding = none) ∧
    (pmTerm (pairMsg opUnbind 1 5 9).payload ≠ (paired 1).ldg.pair.term ∧
      pmTerm (pairMsg opUnbind 1 4 9).payload = (paired 1).ldg.pair.term) := by
  decide +kernel

/-- A unit whose port UP is in a state: 0 DOWN, 1 TRAIN, 2 ACTIVE, 3 RECOVERY, 4 IDLE. -/
def portIn (st : Nat) (x : PtPort := {}) (fs : List (Fld × Nat) := []) : State :=
  (chained ((R.CHN_PT_STATUS_state 0, st) :: fs)).setPt 0 x

/-- A training with lanes 0 and 2 both ways. -/
def trained : Training := { qualified := 5, rxSel := 5 }

/-- A port that QUIET idles. -/
def quieted : State := portIn 0 {} [(R.PWR_STATE_current, 1), (R.CHN_PT_CTL_quiet_idle 0, 1)]

theorem witness_PintleTrains :
    ((portIn 0).answers = true ∧ (portIn 0).on (R.CHN_PT_CTL_en 0) = true ∧ (portIn 0).running = true ∧
      (portIn 0).sup.pf < 3 ∧ ¬ ((portIn 0).power = 1 ∧ (portIn 0).quietIdles 0 = true) ∧ (portIn 0).ptState 0 = 0 ∧
      (portIn 4).ptState 0 = 4 ∧ (portIn 3).ptState 0 ∉ [0, 4] ∧ quieted.power = 1 ∧ quieted.quietIdles 0 = true) ∧
    ((portIn 1).ptState 0 = 1 ∧ ((portIn 1).pt 0).paused = false ∧ ((portIn 1 { paused := true }).pt 0).paused = true ∧
      (portIn 1).trains 0 trained = true ∧ trained.recovery = false ∧
      (portIn 1).trains 0 { trained with qualified := 1 } = false ∧ (portIn 2).ptState 0 ≠ 1) ∧
    ((portIn 2).ptActive 0 = true ∧ (portIn 1).ptActive 0 = false ∧ (portIn 2).ptState 0 = 2 ∧ (portIn 1).ptState 0 ≠ 3) ∧
    ((portIn 3).ptState 0 = 3 ∧ (portIn 3).trains 0 { trained with recovery := true } = true) ∧
    (((portIn 2).takes (R.CHN_PT_CTL_en 0) (2#4).toNat = true ∨ (portIn 2).takes (R.CHN_PT_CTL_en 0) (0#4).toNat = true) ∧
      ((portIn 2).takes (R.CHN_PT_CTL_retrain 0) (2#4).toNat = true ∨
        (portIn 2).takes (R.CHN_PT_CTL_retrain 0) (0#4).toNat = true)) ∧
    ((portIn 2).get (R.CHN_PT_CTL_en 0) = 1 ∧ (portIn 2).get (R.CHN_PT_CTL_quiet_idle 0) < 2 ∧
      (portIn 2 {} [(R.CHN_PT_CTL_en 0, 0)]).get (R.CHN_PT_CTL_en 0) = 0) ∧
    ((portIn 2).expects 0 (flit []) = true ∧ (flit []).bcast = false ∧ (portIn 0).expects 0 (flit []) = false ∧
      (cast []).bcast = true) := by
  decide +kernel

/-- The codeword of an RD_REQ of unit 7 to unit 5 with a sequence number. -/
def codeword (lseq : Nat) (type : Nat := 0x10) : List Byte :=
  Flit.codeword { type := type, dst := 5, src := 7, lseq := lseq, payload := zeros 8 }

/-- The same, its check word not that of its header, and one that cannot be corrected. -/
def badHeader : List Byte := let b := (codeword 0).set 12 0 ++ []; b.take 64 ++ rsParity (b.take 64)
def uncorrectable (lseq : Nat := 0) : List Byte := (codeword lseq).take 16 ++ zeros 48 ++ [1, 2, 3, 4]

theorem witness_FlitsAreAcceptedOnceInOrder :
    ((portIn 0).ptActive 0 = false ∧ (portIn 2).ptActive 0 = true) ∧
    ((rxFlit (codeword 0)).header = true ∧ (portIn 2).expects 0 (rxFlit (codeword 0)).fields = true ∧
      (rxFlit (codeword 0)).uncorr = false ∧ 2 ≤ (rxFlit (codeword 0)).type ∧ (rxFlit (codeword 0 0)).type < 2) ∧
    ((rxFlit badHeader).header = false ∧ (rxFlit badHeader).uncorr = false) ∧
    ((rxFlit (codeword 3)).header = true ∧ (portIn 2).expects 0 (rxFlit (codeword 3)).fields = false) ∧
    ((rxFlit (uncorrectable)).uncorr = true ∧ (rxFlit (uncorrectable)).header = true ∧ 2 ≤ (rxFlit (uncorrectable)).type ∧
      (portIn 2).expects 0 (rxFlit (uncorrectable)).fields = false ∧ (rxFlit (zeros 64 ++ [1, 2, 3, 4])).uncorr = true ∧
      (rxFlit (zeros 64 ++ [1, 2, 3, 4])).header = false) ∧
    (4 ≤ ((portIn 2 { badCopies := 4 }).pt 0).badCopies ∧ ((portIn 2 { badCopies := 3 }).pt 0).badCopies < 4 ∧
      ((portIn 2).pt 0).failed = none ∧ ((portIn 2 { failed := some 1 }).pt 0).failed ≠ none) := by
  decide +kernel

theorem witness_FlitsAreAcceptedOnceInOrder_forward :
    (flitClass (rxFlit (codeword 0 0x7F)).type = none ∧ (rxFlit (codeword 0 0x7F)).header = true ∧
      2 ≤ (rxFlit (codeword 0 0x7F)).type ∧ (portIn 2).expects 0 (rxFlit (codeword 0 0x7F)).fields = true ∧
      flitClass (rxFlit (codeword 0)).type ≠ none ∧ (rxFlit (codeword 0)).shape = true ∧
      (rxFlit (codeword 0)).fields.bcast = false ∧ (rxFlit (codeword 0)).type ∉ [0x02, 0x03]) ∧
    ((portIn 2).expects 0 (flit []) = true ∧ flitLocal (0x10#8).toNat = false ∧ flitClass (0x10#8).toNat ≠ none ∧
      (flit []).bcast = false ∧ (portIn 2).assigned = true ∧ (flit []).dst.toNat = (portIn 2).addr) ∧
    (let s := portIn 2 {} [(R.CHN_MAP_valid 9, 1), (R.CHN_MAP_port 9, 1)]
     let f := { flit [] with dst := 9, hops := 1022 }
     s.expects 0 f = true ∧ f.dst.toNat ≠ s.addr ∧ s.routeTo f.dst.toNat = some 1 ∧ f.hops.toNat < 1023 ∧
      1023 ≤ { f with hops := 1023 }.hops.toNat) ∧
    (let f := { flit [] with dst := 7 }
     (portIn 2).expects 0 f = true ∧ f.dst.toNat ≠ (portIn 2).addr ∧ (portIn 2).routeTo f.dst.toNat = some 0 ∧
      (portIn 2).routeTo 9 = none) := by
  decide +kernel

/-- A port that receives on lanes 0 and 1 and may swap either for lane 2. -/
def sparing (x : PtPort := {}) (spare : Nat := 1) : State :=
  portIn 2 x [(R.CHN_PT_STATUS_rx0 0, 0), (R.CHN_PT_STATUS_rx1 0, 1), (R.CHN_PT_STATUS_spare_ok 0, spare),
    (R.CHN_PT_SPARE_THR_thr, 9), (R.CHN_PT_STATUS_tx0 0, 0), (R.CHN_PT_STATUS_tx1 0, 1)]

theorem witness_MapsAndLanesFollow :
    (let f := { cast (leBytes 2 (2 ^ 15 + 1023)) with hops := 1 }
     (portIn 2).expects 0 f = true ∧ f.bcast = true ∧ fieldAt f.payload 0 2 / 2 ^ 15 = 1 ∧ f.hops ≠ 0 ∧
      { f with hops := 0 }.hops = 0) ∧
    (fieldAt (cast (leBytes 2 1023)).payload 0 2 / 2 ^ 15 = 0 ∧ (portIn 0).expects 0 (cast []) = false) ∧
    ((portIn 2).expects 0 (flit [0, 2]) = true ∧ (flit [0, 2]).bcast = false) ∧
    ((sparing).ptActive 0 = true ∧ (sparing).get (R.CHN_PT_STATUS_rx1 0) = 1 ∧ (sparing).get (R.CHN_PT_STATUS_rx0 0) ≠ 2 ∧
      (sparing).get (R.CHN_PT_STATUS_rx1 0) ≠ 2 ∧ (sparing).get R.CHN_PT_SPARE_THR_thr ≠ 0 ∧
      (sparing).get R.CHN_PT_SPARE_THR_thr ≤ (9#24).toNat ∧ (8#24).toNat < (sparing).get R.CHN_PT_SPARE_THR_thr ∧
      (sparing).on (R.CHN_PT_STATUS_spare_ok 0) = true ∧ ((sparing).pt 0).swap = none ∧
      (sparing {} 0).on (R.CHN_PT_STATUS_spare_ok 0) = false) ∧
    (((sparing { swap := some (0, 2) }).pt 0).swap = some (0, 2) ∧ ((sparing { swap := some (0, 2) }).pt 0).swap ≠ none ∧
      ((sparing).pt 0).txSwap = none ∧ ((sparing { txSwap := some (0, 2) }).pt 0).txSwap = some (0, 2)) ∧
    ((sparing).get (R.CHN_PT_STATUS_tx0 0) = 0 ∧ (sparing).get (R.CHN_PT_STATUS_tx1 0) ≠ 0 ∧ (portIn 0).ptActive 0 = false) := by
  decide +kernel

/-- A far slot that serves tag 0x17 of unit 7, and an operation of tag 0 whose agent is unit 7. -/
def serving : State :=
  ({ (chained) with farSlots := [(0, { origin := 7, tag := 0x17, inst := 1 })] }).setOp 2048 { credit := 8 }
def sentTo7 (o : Op := { sent := true }) : State := (chained).setOp 0 o

/-- A PRG payload with tag and instance. -/
def prgFlit (tag inst : Nat) (rest : List Byte := []) : FlitIn := flit (leBytes 2 tag ++ leBytes 1 inst ++ fit 45 rest)

/-- A START of a CONTROL of CAN 3, and of a WRITE. -/
def starts (opcode : Nat) : Ccw := { opcode := opcode, func := if opcode = ocControl then 1 else 0, dev := dev clsCan 3 }

/-- A far slot 0 that takes a START of unit 7. -/
def slotOpened (opcode : Nat) (s : State) : State :=
  let x : FarSlot := { origin := 7, tag := 0x17, inst := 1, credit := 0 }
  State.openOp { s with farSlots := tset s.farSlots 0 x } (farAgent 0)
    { first := starts opcode, segs := [{ ccw := starts opcode, room := 0 }] }

theorem witness_FarOperationsExchange :
    ((chained).arrives 0 (prgFlit 0x17 1) = true ∧ (ready).arrives 0 (prgFlit 0x17 1) = false) ∧
    ((early.accept 0 .req (prgFlit 0x17 1)).inReset = true ∧ ((chained).accept 0 .req (prgFlit 0x17 1)).inReset = false) ∧
    (let a := (chained).accept 0 .req (prgFlit 0x17 1)
     tget a.farSlots 0 = none ∧ ∀ j < 0, tget a.farSlots j ≠ none) ∧
    (let a := serving.accept 0 .req (prgFlit 0x17 1)
     a.slotOf 7 0x17 1 = some 0 ∧ a.op (farAgent 0) = some { credit := 8 } ∧
      tget a.farSlots 0 = some { origin := 7, tag := 0x17, inst := 1 } ∧ a.slotOf 7 0x17 2 = none ∧
      ({ (chained) with farSlots := serving.farSlots }.accept 0 .req (prgFlit 0x17 1)).op (farAgent 0) = none) ∧
    (let a := (chained [(R.CAN_CTL_en 3, 1)]).accept 0 .req (prgFlit 0x17 1)
     (slotOpened ocControl a).startFault (starts ocControl) = none ∧
      (slotOpened ocControl ((chained).accept 0 .req (prgFlit 0x17 1))).startFault (starts ocControl) = some (stBadDevice, 3) ∧
      (starts ocControl).opcode ≠ ocWrite ∧ (starts ocWrite).opcode = ocWrite) ∧
    (let a := (sentTo7).accept 0 .rsp (prgFlit 0 0)
     a.originOf (prgFlit 0 0).payload = some 0 ∧ a.op 0 = some { sent := true } ∧ a.originOf (prgFlit 0 1).payload = none ∧
      (a.useOp 0 (zeros 0)).1.op 0 = some { sent := true }) ∧
    ((sentTo7 { busy := true }).op 0 = some { busy := true } ∧ (chained).op 0 = none) := by
  constructorm* _ ∧ _
  case right.right.left.right => exact fun j hj => absurd hj (by omega)
  all_goals decide +kernel

/-- Every far slot is taken. -/
theorem witness_FarOperationsExchange_full :
    let s := { (chained) with farSlots := (List.range 512).map fun k => (k, { origin := 7, tag := k, inst := 0 }) }
    ∀ k < 512, tget (s.accept 0 .req (prgFlit 0x17 1)).farSlots k ≠ none := by
  intro s
  have h : (List.range 512).all (fun k => (tget (s.accept 0 .req (prgFlit 0x17 1)).farSlots k).isSome) = true := by
    decide +kernel
  intro k hk hn
  simpa [hn] using List.all_eq_true.mp h k (List.mem_range.mpr hk)

/-- LIN 3 that runs, its lands attached, with what it holds. -/
def linRuns (x : LinPort := {}) (fs : List (Fld × Nat) := []) : State :=
  (ready ([(R.LIN_CFG_en 3, 1)] ++ wires .lin 3 ++ fs)).setLin 3 x

/-- The same as a responder. -/
def linResponds (x : LinPort := {}) (fs : List (Fld × Nat) := []) : State := linRuns x ((R.LIN_CFG_role 3, 1) :: fs)

/-- A RUN_SCHEDULE of table 0 that has one slot. -/
def scheduled (x : LinPort := {}) (fs : List (Fld × Nat) := []) : State :=
  issued clsLin 0x10 3 (linRuns x ([(R.LIN_TBL_count 3 0, 1), (R.LIN_SLOT_W0_length 3 0, 8), (R.LIN_SLOT_W1_time 3 0, 1)] ++ fs))

/-- A schedule that runs. -/
def linRun (fresh : Bool := true) : LinRun := { table := 0, slot := 0, fresh := fresh }

theorem witness_LinFollowsItsSchedule :
    (Issued (scheduled) 0 clsLin 0x10 3 ∧ ((scheduled).op 0).isSome = true ∧ (scheduled).linResponder 3 = false ∧
      (scheduled).linTableOk 3 0 = true ∧ ((scheduled).lin 3).run = none ∧
      ((scheduled { run := some (linRun) }).lin 3).run ≠ none ∧ (issued clsLin 0x10 3 (linRuns)).linTableOk 3 0 = false ∧
      (scheduled {} [(R.LIN_CFG_role 3, 1)]).linResponder 3 = true) ∧
    (Issued (issued clsLin 0x11 3 (linRuns)) 0 clsLin 0x11 3 ∧ Issued (issued clsLin 0x12 3 (linRuns)) 0 clsLin 0x12 3 ∧
      Issued (issued clsLin 0x13 3 (linRuns)) 0 clsLin 0x13 3 ∧ Issued (issued clsLin 0x13 3 (linResponds)) 0 clsLin 0x13 3 ∧
      Issued (issued clsLin 0x11 3 (linResponds)) 0 clsLin 0x11 3 ∧
      Issued (issued clsLin 0x11 3 (linRuns { run := some (linRun) })) 0 clsLin 0x11 3 ∧
      (linRuns).attached ⟨.lin, 3, 0⟩ = true ∧ (ready).attached ⟨.lin, 3, 0⟩ = false) ∧
    ((ready).issuedOn 0 clsLin 0x10 = none ∧ (ready).issuedOn 0 clsLin 0x11 = none ∧ (ready).issuedOn 0 clsLin 0x12 = none ∧
      (ready).issuedOn 0 clsLin 0x13 = none) ∧
    ((ready).answers = true ∧ ((linRuns).writeOthers 2 (setBit 0 0) (R.LIN_CFG_en 3)).on (R.LIN_CFG_en 3) = true ∧
      ((ready).writeOthers 2 (setBit 0 0) (R.LIN_CFG_en 3)).on (R.LIN_CFG_en 3) = false ∧
      ((ready [(R.LIN_BAUD_rate 3, 999)]).writeOthers 2 (setBit 0 0) (R.LIN_CFG_en 3)).get (R.LIN_BAUD_rate 3) < 1000 ∧
      ((ready [(R.LIN_BAUD_rate 3, 20000)]).writeOthers 2 (setBit 0 0) (R.LIN_CFG_en 3)).get (R.LIN_BAUD_rate 3) = 20000 ∧
      ((linRuns).writeOthers 2 (clearBits 1 1) (R.LIN_CFG_en 3)).on (R.LIN_CFG_en 3) = true ∧
      ((ready).writeOthers 2 (clearBits 1 1) (R.LIN_CFG_en 3)).on (R.LIN_CFG_en 3) = false) ∧
    (((linRuns { waking := some 4 }).lin 3).waking = some 4 ∧ ((linRuns).lin 3).waking = none) ∧
    ((linRuns).portRuns clsLin 3 = true ∧ (ready).portRuns clsLin 3 = false ∧ (linRuns).linResponder 3 = false ∧
      (linResponds).linResponder 3 = true) := by
  unfold Issued
  decide +kernel

theorem witness_LinFollowsItsSchedule_slots :
    (((linRuns { next := some (none, [4]) }).lin 3).next = some (none, [4]) ∧ ((linRuns).lin 3).next = none ∧
      ((linRuns).lin 3).run = none ∧ ((linRuns { run := some (linRun) }).lin 3).run = some (linRun) ∧
      (linRun).fresh = true ∧ (linRun false).fresh = false) ∧
    ((linRuns {} [(R.LIN_TBL_count 3 0, 2)]).linStep 3 (linRun false) = some { linRun false with slot := 1 } ∧
      (linRuns {} [(R.LIN_TBL_count 3 0, 1)]).linStep 3 { linRun false with passes := some 1 } = none ∧
      ((linRuns { back := [linRun] }).lin 3).back = linRun :: [] ∧ ((linRuns).lin 3).back = []) ∧
    (((linRuns { asleep := true }).lin 3).asleep = true ∧ ((linRuns).lin 3).asleep = false ∧
      ((linRuns { sleep := some 4 }).lin 3).sleep = some 4 ∧ ((linRuns).lin 3).sleep = none) ∧
    ((linRuns { pend := [(5, 9, [1])] }).linOwn 3 = some (5, 9, [1]) ∧ (linRuns).linOwn 3 = none ∧
      (linRuns { run := some (linRun) }).linOwn 3 = none ∧ (linRun).token = none ∧
      { linRun with token := some 4 }.token = some 4) := by
  decide +kernel

/-- A header under way whose response comes from a source, recorded or not. -/
def linHdr (src : LinFrom) (record : Bool := false) (ctable : Option Nat := none) : LinPort :=
  { hdr := some { id := 1, src := src, record := record, ctable := ctable } }

theorem witness_LinFollowsItsSchedule_bus :
    ((linResponds).attached ⟨.lin, 3, 1⟩ = true ∧ (ready).attached ⟨.lin, 3, 1⟩ = false ∧ (linResponds).portRuns clsLin 3 = true ∧
      (linResponds).linInRange 3 0 = false ∧
      (linResponds).linInRange 3 (1000000000 / (linResponds).get (R.LIN_BAUD_rate 3)) = true ∧
      (linResponds).linSource 3 0x3C false = none ∧
      ((linResponds { pend := [(1, 0, [5])] }).linSource 3 1 false).isSome = true) ∧
    (((linRuns).lin 3).hdr = none ∧ ((linRuns (linHdr .again)).lin 3).hdr = some { id := 1, src := .again } ∧
      ((linRuns (linHdr .bus)).lin 3).hdr = some { id := 1 } ∧
      ((linRuns (linHdr .bus true)).lin 3).hdr = some { id := 1, record := true } ∧
      ((linRuns (linHdr .bus false (some 2))).lin 3).hdr = some { id := 1, ctable := some 2 } ∧
      ((linRuns (linHdr .gateway)).lin 3).hdr = some { id := 1, src := .gateway } ∧
      ((linRuns (linHdr (.program 4))).lin 3).hdr = some { id := 1, src := .program 4 } ∧
      ((linRuns (linHdr (.sleep 4))).lin 3).hdr = some { id := 1, src := .sleep 4 }) ∧
    (LinFrom.again ≠ .bus ∧ (linRuns).attached ⟨.lin, 3, 0⟩ = true ∧ (linRuns).attached ⟨.lin, 3, 1⟩ = true ∧
      (ready).attached ⟨.lin, 3, 0⟩ = false) ∧
    (((linRuns { linHdr (.sleep 4) with woken := true }).lin 3).woken = true ∧ ((linRuns (linHdr (.sleep 4))).lin 3).woken = false) ∧
    (((linResponds { asleep := true }).lin 3).asleep = true ∧ (linResponds { asleep := true }).linResponder 3 = true ∧
      ((linRuns { sleep := some 4 }).lin 3).sleep ≠ none ∧ ((linRuns).lin 3).sleep = none) := by
  decide +kernel

/-- Serial 2, SENT 2 and card 1 that run, their lands attached, with what serial 2 holds. -/
def serRuns (x : BytePort := {}) (fs : List (Fld × Nat) := []) : State :=
  (ready ([(R.SER_CFG_en 2, 1), (R.SENT_CFG_en 2, 1), (R.CARD_CFG_en 1, 1)] ++ wires .ser 2 ++
    wired [⟨.sent, 2, 0⟩, ⟨.card, 1, 0⟩, ⟨.card, 1, 3⟩] ++ fs)).setBp clsSer 2 x

/-- The same with a SENT receiver that decodes, and a frame of its nibbles. -/
def decoding : State := (serRuns).setSent 2 { decoding := true }
def sentFrame (s : State) (pause : BitVec 12 := 12) : SentFrame :=
  { tick := BitVec.ofNat 24 (125 * s.get (R.SENT_CFG_tick 2)), status := 12,
    nibbles := List.replicate (s.get (R.SENT_CFG_nibbles 2)) 12, pause := pause }

/-- The samples of a character frame: a start bit, eight data bits and a stop bit. -/
def uartTicks (start stop : Bool) : List Bool :=
  List.replicate 7 false ++ List.replicate 9 start ++ List.replicate 128 true ++ List.replicate 16 stop

theorem witness_SerialSentAndCardPortsAct :
    (Issued (issued clsSent 0x20 2) 0 clsSent 0x20 2 ∧ Issued (issued clsSent 0x21 2) 0 clsSent 0x21 2 ∧
      Issued (issued clsSer 0x30 2) 0 clsSer 0x30 2 ∧ Issued (issued clsSer 0x31 2) 0 clsSer 0x31 2 ∧
      Issued (issued clsSer 0x32 2) 0 clsSer 0x32 2 ∧ Issued (issued clsCard 0x40 1) 0 clsCard 0x40 1 ∧
      Issued (issued clsCard 0x41 1) 0 clsCard 0x41 1 ∧ Issued (issued clsCard 0x42 1) 0 clsCard 0x42 1 ∧
      (serRuns).attached ⟨.ser, 2, 0⟩ = true ∧ (ready).attached ⟨.ser, 2, 0⟩ = false) ∧
    ((ready).issuedOn 0 clsSent 0x20 = none ∧ (ready).issuedOn 0 clsSent 0x21 = none ∧ (ready).issuedOn 0 clsSer 0x30 = none ∧
      (ready).issuedOn 0 clsSer 0x31 = none ∧ (ready).issuedOn 0 clsSer 0x32 = none ∧ (ready).issuedOn 0 clsCard 0x40 = none ∧
      (ready).issuedOn 0 clsCard 0x41 = none ∧ (ready).issuedOn 0 clsCard 0x42 = none) ∧
    (decoding.portRuns clsSent 2 = true ∧ (decoding.sent 2).decoding = true ∧ decoding.attached ⟨.sent, 2, 0⟩ = true ∧
      ((serRuns).sent 2).decoding = false ∧ apart 12501 10000 4 = true ∧
      apart (sentFrame decoding).tick.toNat (125 * decoding.get (R.SENT_CFG_tick 2)) 4 = false ∧
      apart 0 (125 * decoding.get (R.SENT_CFG_tick 2)) 4 = true ∧
      (sentFrame decoding).nibbles.length = decoding.get (R.SENT_CFG_nibbles 2) ∧
      ([] : List (BitVec 8)).length ≠ decoding.get (R.SENT_CFG_nibbles 2) ∧ 768 < (769#12).toNat ∧ (11#12).toNat < 12 ∧
      (serRuns {} [(R.SENT_CFG_pause 2, 1)]).on (R.SENT_CFG_pause 2) = true) := by
  unfold Issued
  decide +kernel

/-- A byte in transmission. -/
def byteTx (started : Bool := true) (bs : List Byte := [1, 2]) (tries : Nat := 0) : ByteTx :=
  { token := 0, bytes := bs, started := started, tries := tries }

theorem witness_SerialSentAndCardPortsAct_serial :
    (let s := serRuns {} [(R.SER_CFG_data8 2, 1)]
     s.portRuns clsSer 2 = true ∧ s.attached ⟨.ser, 2, 1⟩ = true ∧ s.serData 2 = 8 ∧ s.serParity 2 = 0 ∧ s.serStops 2 = 1 ∧
      uartTick0 (s.bp clsSer 2).rearmed (s.bp clsSer 2).line [true] = none ∧
      uartTick0 (s.bp clsSer 2).rearmed (s.bp clsSer 2).line (uartTicks false true) = some (uartTicks false true) ∧
      uartBit (uartTicks false true) 0 = false ∧ uartBit (uartTicks true true) 0 = true ∧
      uartBit (uartTicks false true) 9 = true ∧ uartBit (List.replicate 160 false) 9 = false) ∧
    (ready).portRuns clsSer 2 = false ∧
    (let s := serRuns { tx := some (byteTx) } [(R.SER_CFG_kline 2, 1), (R.SER_CFG_echo_check 2, 1)]
     (s.bp clsSer 2).tx = some (byteTx) ∧ (byteTx).started = true ∧ s.on (R.SER_CFG_kline 2) = true ∧
      s.on (R.SER_CFG_echo_check 2) = true ∧ (byteTx).bytes.headD 0 = 1 ∧ (byteTx).bytes.headD 0 ≠ 255) ∧
    ((serRuns { chunk := [1] }).chunkIdle clsSer 2 ≤ (65535#16).toNat ∧ ((serRuns { chunk := [1] }).bp clsSer 2).chunk ≠ [] ∧
      ((serRuns).bp clsSer 2).chunk = [] ∧ (serRuns).portRuns clsCard 1 = true) ∧
    ((byteTx).bytes.drop 1 ≠ [] ∧ (byteTx true [1]).bytes.drop 1 = [] ∧ (byteTx false).started = false ∧
      ((serRuns { tx := some (byteTx false) }).bp clsSer 2).tx = some (byteTx false) ∧
      (serRuns { tx := some (byteTx false), ctsN := false }).mayStart clsSer 2 = true ∧
      (serRuns { tx := some (byteTx false), ctsN := true } ((R.SER_CFG_rtscts 2, 1) :: wired [⟨.ser, 2, 3⟩])).mayStart clsSer 2 =
        false ∧ ((serRuns).bp clsSer 2).tx = none) ∧
    (((serRuns { breaking := some 4 }).bp clsSer 2).breaking = some 4 ∧
      ((serRuns { fastInit := some 4 }).bp clsSer 2).fastInit = some 4 ∧ ((serRuns).bp clsSer 2).breaking = none ∧
      ((serRuns).bp clsSer 2).fastInit = none) := by
  decide +kernel

/-- Card 1 in a state, with what it holds. -/
def cardIn (st : Nat) (x : BytePort := {}) (fs : List (Fld × Nat) := []) : State :=
  (serRuns {} ((R.CARD_STATUS_state 1, st) :: fs)).setBp clsCard 1 x

theorem witness_SerialSentAndCardPortsAct_card :
    ((cardIn 2).get (R.CARD_STATUS_state 1) = 2 ∧ (cardIn 2).portRuns clsCard 1 = true ∧
      (cardIn 2).attached ⟨.card, 1, 0⟩ = true ∧ (cardIn 3).get (R.CARD_STATUS_state 1) = 3 ∧
      (cardIn 1).get (R.CARD_STATUS_state 1) = 1 ∧ (cardIn 0).get (R.CARD_STATUS_state 1) = 0) ∧
    ((cardIn 3 {} [(R.CARD_CFG_t1 1, 0), (R.CARD_CFG_retries 1, 3)]).on (R.CARD_CFG_t1 1) = false ∧
      ((cardIn 3 {} [(R.CARD_CFG_t1 1, 0), (R.CARD_CFG_retries 1, 3)]).bp clsCard 1).repeats < 3 ∧
      (cardIn 3 {} [(R.CARD_CFG_t1 1, 0), (R.CARD_CFG_retries 1, 3)]).get (R.CARD_CFG_retries 1) = 3 ∧
      (cardIn 3 {} [(R.CARD_CFG_t1 1, 1)]).on (R.CARD_CFG_t1 1) = true) ∧
    (((cardIn 3 { tx := some (byteTx) }).bp clsCard 1).tx = some (byteTx) ∧ ((cardIn 3).bp clsCard 1).tx = none ∧
      (byteTx true [1] 2).tries < 3 ∧ 3 ≤ (byteTx true [1] 3).tries) ∧
    ((cardIn 3).agentsWith clsCard 1 (fun c => c.opcode == ocRead && c.func == 0x00) = [] ∧
      ((cardIn 3).setOp 0 (opOf { opcode := ocRead, dev := dev clsCard 1 })).agentsWith clsCard 1
        (fun c => c.opcode == ocRead && c.func == 0x00) ≠ []) ∧
    (((cardIn 1).attached ⟨.card, 1, 3⟩ && true == (cardIn 1 {} [(R.CARD_CFG_pres_pol 1, 1)]).on (R.CARD_CFG_pres_pol 1)) = true ∧
      ((cardIn 1).attached ⟨.card, 1, 3⟩ && false == (cardIn 1 {} [(R.CARD_CFG_pres_pol 1, 1)]).on (R.CARD_CFG_pres_pol 1))
        = false) := by
  decide +kernel

/-- Enables and disables of the SENT, serial and card ports. -/
theorem witness_SerialSentAndCardPortsAct_enable :
    ((ready).answers = true ∧ ((serRuns).writeOthers 2 (setBit 0 0) (R.SENT_CFG_en 2)).on (R.SENT_CFG_en 2) = true ∧
      ((ready).writeOthers 2 (setBit 0 0) (R.SENT_CFG_en 2)).on (R.SENT_CFG_en 2) = false ∧
      ((ready).writeOthers 2 (setBit 0 0) (R.SENT_CFG_en 2)).get (R.SENT_CFG_tick 2) < 24 ∧
      (let v := 24 * 2 ^ (R.SENT_CFG_tick 2).lo + 6 * 2 ^ (R.SENT_CFG_nibbles 2).lo
       let u := (ready).writeOthers 2 (setBit v 0) (R.SENT_CFG_en 2)
       u.get (R.SENT_CFG_tick 2) = 24 ∧ u.get (R.SENT_CFG_nibbles 2) = 6) ∧
      ((serRuns).writeOthers 2 (clearBits 1 1) (R.SENT_CFG_en 2)).on (R.SENT_CFG_en 2) = true ∧
      ((ready).writeOthers 2 (clearBits 1 1) (R.SENT_CFG_en 2)).on (R.SENT_CFG_en 2) = false) ∧
    (((serRuns).writeOthers 2 (setBit 0 0) (R.SER_CFG_en 2)).on (R.SER_CFG_en 2) = true ∧
      ((ready).writeOthers 2 (setBit 0 0) (R.SER_CFG_en 2)).on (R.SER_CFG_en 2) = false ∧
      ((ready [(R.SER_BAUD_div 2, 0)]).writeOthers 2 (setBit 0 0) (R.SER_CFG_en 2)).get (R.SER_BAUD_div 2) = 0 ∧
      ((ready [(R.SER_BAUD_div 2, 1)]).writeOthers 2 (setBit 0 0) (R.SER_CFG_en 2)).get (R.SER_BAUD_div 2) ≠ 0 ∧
      ((serRuns).writeOthers 2 (clearBits 1 1) (R.SER_CFG_en 2)).on (R.SER_CFG_en 2) = true ∧
      ((ready).writeOthers 2 (clearBits 1 1) (R.SER_CFG_en 2)).on (R.SER_CFG_en 2) = false) ∧
    (((serRuns).writeOthers 2 (setBit 0 0) (R.CARD_CFG_en 1)).on (R.CARD_CFG_en 1) = true ∧
      ((ready).writeOthers 2 (setBit 0 0) (R.CARD_CFG_en 1)).on (R.CARD_CFG_en 1) = false ∧
      ((ready).writeOthers 2 (clearBits 1 1) (R.CARD_CFG_en 1)).on (R.CARD_CFG_en 1) = false ∧
      (let u := (cardIn 3).writeOthers 2 (clearBits 1 1) (R.CARD_CFG_en 1)
       u.on (R.CARD_CFG_en 1) = true ∧
        2 ≤ ((u.put (R.CARD_CFG_en 1) 0).portOff clsCard 1 stBadDevice 0x03).get (R.CARD_STATUS_state 1)) ∧
      (let u := (cardIn 1).writeOthers 2 (clearBits 1 1) (R.CARD_CFG_en 1)
       ((u.put (R.CARD_CFG_en 1) 0).portOff clsCard 1 stBadDevice 0x03).get (R.CARD_STATUS_state 1) < 2)) := by
  decide +kernel

/-! ### Lands, Talon, the limits of chapter 16 and 19, and the queue (obligations of the last pieces) -/

/-- Land n while it switches to encoding sel, in a power state. -/
def switching (n sel : Nat) (power : Nat := 0) : State :=
  ready [(R.PIN_CFG_busy n, 1), (R.PIN_CFG_sel n, sel), (R.PWR_STATE_current, power)]

/-- The interval of land n, at its end. -/
def settledOf (s : State) (n : Nat) : State := s.put (R.PIN_CFG_busy n) 0

theorem witness_LandsAndPortsAreConfigured :
    ((ready).answers = true ∧ asleep.answers = false ∧
      (ready [(R.PIN_CTL_lock, 1)]).on R.PIN_CTL_lock = true ∧ (ready).on R.PIN_CTL_lock = false) ∧
    (selOk 10 ((7#32).toNat % 8) = false ∧ selOk 10 ((0#32).toNat % 8) = true ∧ selOk 10 ((3#32).toNat % 8) = true ∧
      (0#32).toNat % 8 = (ready).get (R.PIN_CFG_sel 10) ∧ (3#32).toNat % 8 ≠ (ready).get (R.PIN_CFG_sel 10)) ∧
    (landFn 152 2 = landFn 10 1 ∧ landFn 10 1 = some ⟨.can, 5, 0⟩ ∧
      ((ready [(R.PIN_CFG_sel 10, 1)]).writeOthers 2 2 (R.PIN_CFG_sel 152)).fnTaken 152 ⟨.can, 5, 0⟩ = true ∧
      ((ready).writeOthers 2 1 (R.PIN_CFG_sel 10)).fnTaken 10 ⟨.can, 5, 0⟩ = false) ∧
    ((ready).takes R.PIN_CTL_lock 2 = true ∧ (ready [(R.PIN_CTL_lock, 1)]).takes R.PIN_CTL_lock 2 = false ∧
      (ready [(R.PIN_CTL_lock, 1)]).get R.PIN_CTL_lock ≠ 0) ∧
    ((ready).on (R.PIN_CFG_busy 10) = false ∧ (switching 10 0).on (R.PIN_CFG_busy 10) = true ∧
      landFn 10 ((switching 10 0).get (R.PIN_CFG_sel 10)) = none) ∧
    (landFn 10 ((switching 10 1 2).get (R.PIN_CFG_sel 10)) = some ⟨.can, 5, 0⟩ ∧
      (settledOf (switching 10 1 2) 10).fnRuns ⟨.can, 5, 0⟩ = false ∧
      (settledOf (switching 10 1) 10).fnRuns ⟨.can, 5, 0⟩ = true ∧ (switching 10 1).get (R.PIN_CFG_sel 10) ≠ 3) ∧
    (landFn 10 ((switching 10 3).get (R.PIN_CFG_sel 10)) = some ⟨.gpio, 10, 0⟩ ∧
      (settledOf (switching 10 3) 10).fnRuns ⟨.gpio, 10, 0⟩ = true) ∧
    (landFn 79 ((switching 79 1).get (R.PIN_CFG_sel 79)) = some ⟨.ser, 0, 3⟩ ∧
      (settledOf (switching 79 1) 79).fnRuns ⟨.ser, 0, 3⟩ = true) ∧
    (landFn 138 ((switching 138 1).get (R.PIN_CFG_sel 138)) = some ⟨.lxb, 0, 26⟩ ∧
      (settledOf (switching 138 1) 138).fnRuns ⟨.lxb, 0, 26⟩ = true ∧
      (switching 138 1).lxbIrq.testBit 0 = false ∧ { switching 138 1 with lxbIrq := 1 }.lxbIrq.testBit 0 = true) ∧
    ((ready (wired [⟨.gpio, 10, 0⟩])).attached ⟨.gpio, 10, 0⟩ = true ∧ (ready).attached ⟨.gpio, 10, 0⟩ = false) := by
  decide +kernel

/-- Sub-engine 31 moving to the spare 32, and one that has moved. -/
def movingSe (l : Talon := { moves := [(31, 31, 32, 1)] }) : State := (ready).setTln l

/-- A read of the scrubber at a bank's position. -/
def scrubbing (position bank : Nat) : State := ready [(R.SCB_STATUS_position, position), (R.SCB_STATUS_bank, bank)]

theorem witness_TalonRepairsAndScrubs :
    ((ready).tln.moves.find? (fun m => m.1 == 31) = none ∧
      (movingSe).tln.moves.find? (fun m => m.1 == 31) = some (31, 31, 32, 1)) ∧
    ((ready).prog 0 = none ∧ (linked).prog 0 = none ∧ (running {}).prog 0 = some prog ∧
      (ready).op 0 = none ∧ (opOf { opcode := 3 } { ended := some (0, 0) }).ended ≠ none ∧
      ((opOf { opcode := 1, dev := dev clsReg 0 } { begun := true }).deviceBegun &&
        !(opOf { opcode := 1, dev := dev clsReg 0 } { begun := true }).first.idem) = true ∧
      ((opOf { opcode := 1, dev := dev clsReg 0 }).deviceBegun &&
        !(opOf { opcode := 1, dev := dev clsReg 0 }).first.idem) = false) ∧
    (2 < (3#4).toNat ∧ (35#6).toNat < 36 ∧ (31#6).toNat < 36 ∧
      (movingSe).tln.moves.any (fun m => m.2.1 == 31) = true ∧ (ready).tln.moves.any (fun m => m.2.1 == 31) = false ∧
      (movingSe { retired := [31] }).tln.retired.contains 31 = true ∧ (ready).tln.retired.contains 31 = false ∧
      (movingSe).tln.moves.find? (fun m => m.2.2.1 == 32) = some (31, 31, 32, 1) ∧
      (ready).tln.moves.find? (fun m => m.2.2.1 == 31) = none ∧ (movingSe { retired := [32, 33, 34, 35] }).spareSes = [] ∧
      (ready).spareSes ≠ [] ∧ (ready).logicalOf 35 = none ∧ (ready).logicalOf 31 = some 31) ∧
    (bits (24 * 2 ^ 16) 16 5 < 25 ∧ 25 ≤ bits (25 * 2 ^ 16) 16 5) ∧
    (let row := rowCode ((ready).physBank 24) 65535
     row ∉ (ready).tln.rowQ ∧ (ready).spareRow row ≠ none ∧ (ready).tln.rowQ.length < 64 ∧
      row ∈ ((ready).setTln { rowQ := [row] }).tln.rowQ ∧
      64 ≤ ((ready).setTln { rowQ := List.replicate 64 (row + 1) }).tln.rowQ.length) ∧
    ((ready).tln.bankQ = none ∧ (ready).bankFree = true ∧ ((ready).setTln { bankQ := some 3 }).tln.bankQ ≠ none) ∧
    ((ready).power = 0 ∧ (ready).on R.TLN_STATUS_repairing = false ∧
      (ready [(R.TLN_STATUS_repairing, 1)]).on R.TLN_STATUS_repairing = true) ∧
    (1 < (2#4).toNat ∧ (1#4).toNat ≤ 1) ∧
    ((scrubbing 65790 0).isUp = true ∧ (scrubbing 65790 0).running = true ∧ asleep.running = false ∧
      (scrubbing 65790 0).bankRetired 0 = false ∧ ((ready).setTln { bankMap := some 0 }).bankRetired 0 = true) ∧
    ((scrubbing 0 0).get R.SCB_STATUS_position / 16 % 514 < 512 ∧ (scrubbing 0 0).scbAddr 0 0 = some 0 ∧
      (scrubbing 0 0).spareBank 0 = false ∧ (scrubbing 0 0).checkOf 0 .good = .good ∧
      (scrubbing 0 0).checkOf 0 .corrected = .corrected ∧ (scrubbing 0 0).checkOf 0 .uncorrectable = .uncorrectable ∧
      (scrubbing 0 0).poisonAt 0 = false ∧ { scrubbing 0 0 with poison := [(0, true)] }.poisonAt 0 = true) ∧
    ((ready).spareSes.contains 35 = true ∧ (ready).spareSes.contains 0 = false) := by
  (constructorm* _ ∧ _) <;> decide +kernel

/-- THM_STATUS in a state, sampling. -/
def thermal (st : Nat) (fs : List (Fld × Nat) := []) : State := ready ((R.THM_STATUS_state, st) :: fs)

theorem witness_ThermalLimitsHold :
    (let v := 110 + 118 * 256 + 125 * 65536
     v % 256 ≤ 110 ∧ v / 256 % 256 ≤ 118 ∧ v / 65536 % 256 ≤ 125 ∧ v % 256 + 2 ≤ v / 256 % 256 ∧
      v / 256 % 256 + 2 ≤ v / 65536 % 256) ∧
    (let v := 109 + 110 * 256 + 125 * 65536
     v / 256 % 256 < v % 256 + 2) ∧
    110 < (111 + 118 * 256 + 125 * 65536) % 256 ∧ (ready).answers = true ∧ asleep.answers = false ∧
    8 < (9#32).toNat % 16 ∧ (8#32).toNat % 16 ≤ 8 ∧ (ready).get R.THM_DUTY_enf_duty ≤ 8 ∧
    ((4#4).toNat ∈ [0, 1, 2, 4] ∧ (3#4).toNat ∉ [0, 1, 2, 4] ∧ (1#32).toNat % 2 = 1 ∧ (2#32).toNat % 2 = 0) ∧
    ((ready).samples = true ∧ asleep.samples = false) ∧
    ((thermal 0).get R.THM_STATUS_state = 0 ∧ (thermal 3).get R.THM_STATUS_state = 3) ∧
    (8 * (ready).get R.THM_LIM_critical ≤ 1016 ∧ { (ready) with thmHot := true }.thmHot = true ∧ (ready).thmHot = false ∧
      8 * (ready).get R.THM_LIM_enforce ≤ 8 * (ready).get R.THM_LIM_critical ∧
      8 * (ready).get R.THM_LIM_warn < 8 * (ready).get R.THM_LIM_enforce ∧
      0 < 8 * (ready).get R.THM_LIM_warn - (ready).get R.THM_CFG_hyst) ∧
    ((thermal 1 [(R.THM_STATUS_grace_running, 1)]).on R.THM_STATUS_grace_running = true ∧
      (thermal 1 [(R.THM_STATUS_grace_running, 1)]).get R.THM_STATUS_state = 1 ∧
      (thermal 2 [(R.THM_STATUS_grace_running, 1)]).get R.THM_STATUS_state ≠ 1 ∧ (ready).on R.THM_STATUS_enforcing = false ∧
      (thermal 1 [(R.THM_STATUS_enforcing, 1)]).on R.THM_STATUS_enforcing = true ∧
      (ready).on R.THM_STATUS_grace_running = false) := by
  decide +kernel

/-- Tracing, with an entry waiting. -/
def traced (fs : List (Fld × Nat) := []) : State :=
  { ready ((R.TRC_CTL_en, 1) :: fs) with chain2 := { items := [mkWord 7 sbLast] } }

theorem witness_TraceAndDebugAct :
    ((traced).on R.TRC_CTL_en = true ∧ (traced).chain2.items ≠ [] ∧ (traced).sup.pf < 5 ∧
      (traced).on R.TRC_STATUS_stopped = false ∧ (traced [(R.TRC_STATUS_stopped, 1)]).on R.TRC_STATUS_stopped = true ∧
      (ready).chain2.items = []) ∧
    ((ready [(R.TRC_STATUS_wr_ptr, 8190)]).get R.TRC_STATUS_wr_ptr + 1 < 8192 ∧
      8192 ≤ (ready [(R.TRC_STATUS_wr_ptr, 8191)]).get R.TRC_STATUS_wr_ptr + 1 ∧ (ready).sinkLag < 8192) ∧
    (let s := { linked [(R.TRC_CTL_sink_en, 1), (R.TRC_SINK_LOG2_k, 6)] with sinkLag := 1, postCredit := 1 }
     s.on R.TRC_CTL_sink_en = true ∧ s.sinkLag ≠ 0 ∧ s.sinkRoom = true ∧ s.sinkFree (s.get R.TRC_CTL_sink_pf) = true ∧
      (ready).sinkLag = 0) ∧
    ((ready).tapDrives = false ∧ { (ready) with tap := .extest }.tapDrives = true) ∧
    ((1#4).toNat ≤ 1 ∧ 1 < (2#4).toNat ∧ (5#4).toNat ∈ [0, 1, 2, 5] ∧ (4#4).toNat ∉ [0, 1, 2, 5] ∧
      (ready).answers = true ∧ asleep.answers = false) ∧
    ((0x1C5A0003#32).toNat / 65536 = 7258 ∧ (0x1C5B0003#32).toNat / 65536 ≠ 7258) := by
  decide +kernel

theorem witness_StepRunsFrontCommand :
    (ready).pending = [] ∧ { (ready) with pending := [.rstNAssert] }.pending = .rstNAssert :: [] := ⟨rfl, rfl⟩

theorem witness_StepKeepsInvAndFuses :
    (ready).Inv ∧ after (step { (ready) with pending := [.rstNAssert] }) (fun t => t.resetDue.isSome) = true := by
  decide +kernel

end Sys2Proof.Tests
end

section

namespace Sys2Proof.Machine

/-! ### Every command completes (O59)

What a command makes of a state is said once, in `exec_completes`: the laws of the operations that it calls, put
together. A meaning that ends with the collector's part leaves no fault event waiting; the others hand the collector
nothing. -/

/-- A command has a next state, to which the canonical forms and the fuses are kept, and at which no fault event waits if
none did before. -/
def Completes (s : State) (o : Host.Outcome State Fault Refusal) : Prop := ∃ t, o = .next t ∧ Keeps s t ∧ Quiet s t

theorem Completes.settle {s t : State} (h : Keeps s t) : Completes s (.next (settle t)) :=
  ⟨_, rfl, settle_keeps h, ⟨fun _ => settle_due t⟩⟩

theorem Completes.next {s t : State} (h : Keeps s t) (q : Quiet s t) : Completes s (.next t) := ⟨t, rfl, h, q⟩

theorem State.whenUp_quiet {s0 s : State} (h : Quiet s0 s) (f) (hk : ∀ t, Quiet s0 t → Quiet s0 (f t)) :
    Quiet s0 (s.whenUp f) :=
  .ite (hk s h) h

/-! A Keychain command that a unit may be unable to act on. -/

theorem State.kcUnlessFailing_keeps {s0 s : State} (h : Keeps s0 s) (go) (hg : Keeps s0 (go s)) :
    Keeps s0 (s.kcUnlessFailing go).s := by
  unfold State.kcUnlessFailing
  split
  · exact h
  · exact hg

theorem State.winDo_keeps {s0 s : State} (h : Keeps s0 s) (result go) (hg : Keeps s0 (go s).s) :
    Keeps s0 (s.winDo result go).s := by
  unfold State.winDo
  split
  · exact h
  · exact hg

theorem State.winResult_keeps {s0 s : State} (h : Keeps s0 s) (half) : Keeps s0 (s.winResult half).s := by
  unfold State.winResult
  dsimp only
  split
  · exact h
  · split
    · exact h
    · exact h

/-! The meanings with cases of their own. -/

theorem execCpLockstepHalt_completes (s) : Completes s (execCpLockstepHalt s) :=
  have h : Keeps s { s.put R.GLB_WDOG_CTL_running 0 with cpHalted := true } := .record (State.put_keeps (.refl s) ..)
  .settle (.ite (.refl s) (State.fault_keeps
    (State.freeTumblers_keeps (State.dropFw_keeps (State.adminAbort_keeps h) _) _) _))

theorem execXt32Loss_completes (error s) : Completes s (execXt32Loss error s) := by
  refine .settle (State.clkRaise_keeps (State.put_keeps (State.put_keeps ?_ ..) ..) _)
  split
  · exact State.put_keeps (.refl s) ..
  · exact .refl s

theorem execAssign_completes (f s) : Completes s (execAssign f s) := by
  refine .settle (State.kcFrame_keeps (.refl s) _ _ _ fun t x h => ?_)
  dsimp only
  exact State.assign_keeps h _

theorem execFlitReject_completes (p data parity nak s) : Completes s (execFlitReject p data parity nak s) := by
  refine .settle ?_
  split
  · exact State.reject_keeps (.refl s) ..
  · exact .refl s

theorem execPostedCreditReturn_completes (n s) : Completes s (execPostedCreditReturn n s) :=
  have h : Keeps s { s with postCredit := s.postCredit + n.toNat } := .record (.refl s)
  have q : Quiet s { s with postCredit := s.postCredit + n.toNat } := .record (.refl s)
  .next (State.drain_keeps (State.drain_keeps h _) _) (State.drain_quiet (State.drain_quiet q _) _)

theorem execEntryFetched_completes (fn c s) : Completes s (execEntryFetched fn c s) := by
  refine .settle ?_
  split
  · exact State.reready_keeps (State.completion_keeps (.refl s) ..)
  · exact .refl s

theorem execRunSchedule_completes (a s) : Completes s (execRunSchedule a s) := by
  refine .next (State.portFunc_keeps (.refl s) _ _ _ _ fun t _ h => ?_)
    (State.portFunc_quiet (.refl s) _ _ _ _ fun t _ q => ?_)
  · split
    · exact State.runSchedule_keeps h ..
    · exact h
  · split
    · exact State.runSchedule_quiet q ..
    · exact q

theorem execFarAccessTimeout_completes (k s) : Completes s (execFarAccessTimeout k s) := by
  refine .settle ?_
  split
  · split
    · exact .refl s
    · exact State.reqEnd_keeps (.refl s) ..
  · exact .refl s

theorem execHeldResultExpiry_completes (mid lxb unit off s) :
    Completes s (execHeldResultExpiry mid lxb unit off s) := by
  refine .settle ?_
  split
  · exact .ite (State.hngRaise_keeps (.record (.refl s)) ..) (.refl s)
  · exact .refl s

theorem execFarAppendResend_completes (tag s) : Completes s (execFarAppendResend tag s) := by
  refine .settle ?_
  split
  · exact .ite (State.sendAppend_keeps (.refl s) ..) (.refl s)
  · exact .refl s

theorem execFarAppendTimeout_completes (tag s) : Completes s (execFarAppendTimeout tag s) := by
  refine .settle ?_
  split
  · exact .ite (State.endOp_keeps (.refl s) ..) (.refl s)
  · exact .refl s

theorem execEpochResendTimeout_completes (newer s) : Completes s (execEpochResendTimeout newer s) := by
  refine .settle ?_
  split
  · exact State.ldgRaise_keeps (State.sendEpoch_keeps (.refl s) _) _
  · exact .refl s

theorem execPairUnbindMessage_completes (p rsp f s) : Completes s (execPairUnbindMessage p rsp f s) :=
  .settle (State.ldgFlit_keeps (.refl s) _ _ _ _ fun _ h =>
    have hu := State.pairUnbind_keeps h f
    .ite hu (State.pairSend_keeps hu ..))

theorem execThermalGraceExpiry_completes (s) : Completes s (execThermalGraceExpiry s) :=
  have h := State.put_keeps (.refl s) R.THM_STATUS_grace_running 0
  .settle (.ite (.ite (State.enforce_keeps h) h) (.refl s))

theorem execDeadboltWrite_completes (target mid origin value s) :
    Completes s (execDeadboltWrite target mid origin value s) := by
  refine .settle (State.whenUp_keeps (.refl s) _ fun t h => ?_)
  cases target with
  | inl n => exact State.dbtFltWrite_keeps h ..
  | inr p => exact State.dbtGwWrite_keeps h ..

theorem execFaultEventPop_completes (mid origin wide uncorr s) :
    Completes s (execFaultEventPop mid origin wide uncorr s) :=
  .settle (State.whenUp_keeps (.refl s) _ fun _ h =>
    have hp := State.evqPop_keeps h mid.toNat uncorr
    .ite (.record hp) (.record (State.keepHalf_keeps hp ..)))

theorem execNonpostedCreditReturn_completes (n s) : Completes s (execNonpostedCreditReturn n s) :=
  have h : Keeps s { s with readCredit := s.readCredit + n.toNat } := .record (.refl s)
  have q : Quiet s { s with readCredit := s.readCredit + n.toNat } := .record (.refl s)
  .next (State.issueReads_keeps (State.issueReads_keeps h _) _) (State.issueReads_quiet (State.issueReads_quiet q _) _)

theorem execBreakEnd_completes (m s) : Completes s (execBreakEnd m s) := by
  unfold execBreakEnd
  dsimp only
  split
  · exact .settle (State.byteLoad_keeps (State.endToken_keeps (State.setBp_keeps (.refl s) ..) ..) ..)
  · exact .next (.refl s) (.refl s)

theorem execFastInitEnd_completes (m s) : Completes s (execFastInitEnd m s) := by
  unfold execFastInitEnd
  dsimp only
  split
  · exact .settle (State.byteLoad_keeps (State.endToken_keeps (State.setBp_keeps (.refl s) ..) ..) ..)
  · exact .next (.refl s) (.refl s)

/-- Every command has a next state, keeps the canonical forms and the fuses, and leaves no fault event waiting where none
waited: by the laws of the operations of its meaning. -/
theorem exec_completes (c : Instr) (s : State) : Completes s (exec c s) := by
  have h := Keeps.refl s
  have q := Quiet.refl s
  cases c with
  | registerWrite => exact .settle (State.reready_keeps (State.registerWrite_keeps h ..))
  | halfWriteDiscard => exact .settle (.ite h (State.halfDiscard_keeps h ..))
  | supplyApplied => exact .next (State.holdCold_keeps h ..) (State.holdCold_quiet q ..)
  | startUpQualified => exact .next (.ite (.record h) h) (.ite (.record q) q)
  | cutoff => exact .next (State.holdCold_keeps h ..) (State.holdCold_quiet q ..)
  | supplySample => exact .settle (State.supplySample_keeps h ..)
  | powerFailSequence => exact .settle (State.powerFail_keeps h ..)
  | gaugeUpdate => exact .settle (State.gauge_keeps h ..)
  | recalibrationDischargeEnd => exact .next (.ite (State.setSup_keeps h ..) h) (.ite (State.setSup_quiet q ..) q)
  | calibrationEnd => exact .settle (State.calEnd_keeps h ..)
  | selfTestTimeout => exact .settle (.ite (State.storeFails_keeps h ..) h)
  | absentDetect => exact .settle (.ite (State.judgeStore_keeps (State.setSup_keeps h ..)) h)
  | topUp => exact .next (.ite h (State.setSup_keeps h ..)) (.ite q (State.setSup_quiet q ..))
  | chargerFault => exact .settle (State.chargerFault_keeps h)
  | hupOvervolt => exact .settle (State.judgeStore_keeps (State.setSup_keeps h ..))
  | hupOvervoltEnd => exact .settle (State.judgeStore_keeps (State.setSup_keeps h ..))
  | auxFoldBack => exact .settle (State.pwrRaise_keeps (State.setSup_keeps h ..) ..)
  | auxRetry => exact .next (State.setSup_keeps h ..) (State.setSup_quiet q ..)
  | pwrStateWrite => exact .settle (State.pwrStateWrite_keeps h ..)
  | entryDrainEnd => exact .settle (State.drainEnd_keeps h)
  | perstDeassert => exact .next (State.perstHigh_keeps h) (State.perstHigh_quiet q)
  | perstAssert => exact .settle (State.perstLow_keeps h)
  | rstNAssert => exact .next (.ite h (State.askReset_keeps h ..)) (.ite q (State.askReset_quiet q ..))
  | warmResetEffect => exact .settle (State.resetEffect_keeps h)
  | glbResetWarm =>
    exact .next (State.whenUp_keeps h _ fun _ h => State.glbResetWrite_keeps h ..)
      (State.whenUp_quiet q _ fun _ q => State.glbResetWrite_quiet q ..)
  | resetRelease => exact .settle (State.releaseReset_keeps h _ fun _ h => State.bootRest_keeps h ..)
  | noClock => exact .settle (State.releaseReset_keeps h _ fun _ h => .record (State.put_keeps h ..))
  | noClockRetry => exact .settle (.ite (State.bootRest_keeps h ..) h)
  | romLockstep =>
    exact .next (.ite (State.warmReset_keeps h ..) (.ite (State.askReset_keeps h ..) h))
      (.ite (State.warmReset_quiet q ..) (.ite (State.askReset_quiet q ..) q))
  | cpLockstepHalt => exact execCpLockstepHalt_completes ..
  | watchdogExpiry => exact .next (.ite (State.askReset_keeps h ..) h) (.ite (State.askReset_quiet q ..) q)
  | watchdogKick =>
    exact .next (State.whenUp_keeps h _ fun _ h => State.wdogKick_keeps h ..)
      (State.whenUp_quiet q _ fun _ q => State.wdogKick_quiet q ..)
  | ref25Loss => exact .settle (State.clockLost_keeps h ..)
  | xt32Loss => exact execXt32Loss_completes ..
  | imgQuery => exact .settle (State.fwServe_keeps h _ _ _ fun _ _ h => FwReq.imgQuery_keeps h _)
  | imgBegin => exact .settle (State.fwServe_keeps h _ _ _ fun _ _ h => FwReq.imgBegin_keeps h _)
  | imgChunk => exact .settle (State.fwServe_keeps h _ _ _ fun _ _ h => FwReq.imgChunk_keeps h _)
  | imgEnd => exact .settle (State.fwServe_keeps h _ _ _ fun _ _ h => FwReq.imgEnd_keeps h _)
  | imgActivate => exact .settle (State.fwServe_keeps h _ _ _ fun _ _ h => FwReq.imgActivate_keeps h _)
  | imgRestart => exact .settle (State.fwServe_keeps h _ _ _ fun _ _ h => FwReq.imgRestart_keeps h _)
  | imgConfirm => exact .settle (State.fwServe_keeps h _ _ _ fun _ _ h => FwReq.imgConfirm_keeps h _)
  | imgRevert => exact .settle (State.fwServe_keeps h _ _ _ fun _ _ h => FwReq.imgRevert_keeps h _)
  | imgSessionTimeout => exact .next (.record h) (.record q)
  | keychainFrameBad => exact .settle (.ite h (State.kcBadFrame_keeps h))
  | kcNop => exact .settle (State.kcFrame_keeps h _ _ _ fun _ _ h => h)
  | assign => exact execAssign_completes ..
  | rollCall => exact .settle (State.kcFrame_keeps h _ _ _ fun _ _ h => h)
  | kread => exact .settle (State.kcFrame_keeps h _ _ _ fun _ _ h => h)
  | attnCtl => exact .settle (State.kcFrame_keeps h _ _ _ fun _ _ h => State.attnCtl_keeps h _)
  | unitReset =>
    exact .settle (State.kcFrame_keeps h _ _ _ fun _ _ h => State.kcUnlessFailing_keeps h _
      (State.askReset_keeps h _))
  | keychainPwrSet =>
    exact .settle (State.kcFrame_keeps h _ _ _ fun _ _ h => State.kcUnlessFailing_keeps h _
      (State.pwrRequest_keeps h ..))
  | unassign => exact .settle (State.kcFrame_keeps h _ _ _ fun _ _ h => State.unassign_keeps h)
  | winAddr =>
    exact .settle (State.kcFrame_keeps h _ _ _ fun _ _ h => State.winDo_keeps h _ _ (State.setWindow_keeps h _))
  | winWdata =>
    exact .settle (State.kcFrame_keeps h _ _ _ fun _ _ h => State.winDo_keeps h _ _ (State.winData_keeps h _))
  | winRead =>
    exact .settle (State.kcFrame_keeps h _ _ _ fun _ _ h => State.winDo_keeps h _ _ (State.setWindow_keeps h _))
  | winResult =>
    exact .settle (State.kcFrame_keeps h _ _ _ fun _ _ h => State.winDo_keeps h _ _ (State.winResult_keeps h _))
  | windowAccessDone => exact .settle (State.windowDone_keeps h)
  | keychainReservedCmd => exact .settle (State.kcFrame_keeps h _ _ _ fun _ _ h => h)
  | pintlePortEnable =>
    exact .next (State.whenUp_keeps h _ fun _ h => State.portTrain_keeps h ..)
      (State.whenUp_quiet q _ fun _ q => State.portTrain_quiet q ..)
  | pintleLinkActive => exact .settle (State.portUp_keeps h ..)
  | trainingTimeout => exact .next (.ite (State.setPt_keeps h ..) h) (.ite (State.setPt_quiet q ..) q)
  | retrainingPauseEnd =>
    exact .next (.ite (State.sendTs1_keeps (State.setPt_keeps h ..) ..) h)
      (.ite (State.sendTs1_quiet (State.setPt_quiet q ..) ..) q)
  | retrain => exact .settle (State.whenUp_keeps h _ fun _ h => State.ptCtlWrite_keeps h ..)
  | recoveryTraining => exact .settle (State.recovered_keeps h ..)
  | linkSilence => exact .settle (State.recover_keeps h ..)
  | electricalIdleDetect => exact .settle (.ite (State.portDown_keeps h ..) h)
  | recoveryTimeout => exact .settle (.ite (State.portDown_keeps h ..) h)
  | pintlePortDisable => exact .settle (State.whenUp_keeps h _ fun _ h => State.ptCtlWrite_keeps h ..)
  | flitReject => exact execFlitReject_completes ..
  | flitMalformed => exact .settle (.ite (State.ptRaise_keeps (State.acceptAs_keeps h ..) ..) h)
  | flitForward => exact .settle (.ite (State.forward_keeps h ..) h)
  | idle => exact .next (State.unsequenced_keeps h _ _ _ fun _ h => h) (State.unsequenced_quiet q _ _ _ fun _ q => q)
  | idleSend => exact .next (.ite (State.txFlit_keeps h ..) h) (.ite (State.txFlit_quiet q ..) q)
  | nak => exact .settle (State.unsequenced_keeps h _ _ _ fun _ h => State.resend_keeps h ..)
  | replayTimeout => exact .settle (.ite (State.resend_keeps h ..) h)
  | announce => exact .settle (State.broadcast_keeps h _ _ _ _ _ fun _ h => State.announced_keeps h ..)
  | linkLoss => exact .settle (State.broadcast_keeps h _ _ _ _ _ fun _ h => State.lossSeen_keeps h ..)
  | leaving => exact .settle (State.linkFlit_keeps h _ _ _ fun _ h => State.portDown_keeps h ..)
  | laneSwap => exact .settle (State.linkFlit_keeps h _ _ _ fun _ h => State.swapAsked_keeps h ..)
  | laneSwapTrigger => exact .settle (State.laneFails_keeps h ..)
  | laneSwapComplete => exact .settle (State.swapDone_keeps h ..)
  | heartbeat =>
    exact .settle (State.prgFlit_keeps h _ _ _ _ fun _ h => .ite (State.heartbeat_keeps h) (State.mismatch_keeps h))
  | heartbeatSend => exact .next (State.sendHeartbeat_keeps h) (State.sendHeartbeat_quiet q)
  | heartbeatLoss => exact .settle (State.heartbeatLost_keeps h)
  | rdReq => exact .settle (State.prgFlit_keeps h _ _ _ _ fun _ h => State.serveRead_keeps h ..)
  | wrReq =>
    exact .settle (.ite (State.broadcast_keeps h _ _ _ _ _ fun _ h => .ite (State.serveWrite_keeps h ..) h)
      (State.prgFlit_keeps h _ _ _ _ fun _ h => State.serveWrite_keeps h ..))
  | rdRsp => exact .settle (State.prgFlit_keeps h _ _ _ _ fun _ h => State.farResponse_keeps h ..)
  | wrRsp => exact .settle (State.prgFlit_keeps h _ _ _ _ fun _ h => State.farResponse_keeps h ..)
  | noRoute => exact .settle (State.prgFlit_keeps h _ _ _ _ fun _ h => State.farRefused_keeps h ..)
  | start => exact .settle (State.prgFlit_keeps h _ _ _ _ fun _ h => State.farBegin_keeps h ..)
  | prgData =>
    exact .settle (State.prgFlit_keeps h _ _ _ _ fun _ h => .ite (State.originData_keeps h ..)
      (State.farData_keeps h ..))
  | cancel => exact .settle (State.prgFlit_keeps h _ _ _ _ fun _ h => State.farCancel_keeps h ..)
  | credit =>
    exact .settle (State.prgFlit_keeps h _ _ _ _ fun _ h => .ite (State.originCredit_keeps h ..)
      (State.farCredit_keeps h ..))
  | prgEnd => exact .settle (State.prgFlit_keeps h _ _ _ _ fun _ h => State.originEnd_keeps h ..)
  | retry => exact .settle (State.prgFlit_keeps h _ _ _ _ fun _ h => State.originRetry_keeps h ..)
  | farStartResend => exact .settle (State.resendStart_keeps h ..)
  | inboundUnsupportedRequest => exact .settle (.ite (State.inboundBad_keeps h ..) h)
  | poisonedWriteRx => exact .settle (.ite (State.poisonedRx_keeps h ..) h)
  | readCompletion => exact .settle (State.reready_keeps (State.fwGoOn_keeps (State.completion_keeps h ..)))
  | completionTimeout => exact .settle (State.reready_keeps (State.fwGoOn_keeps (State.cplTimeout_keeps h ..)))
  | functionLevelReset => exact .settle (.ite (State.flr_keeps h ..) h)
  | hotReset => exact .settle (State.pcieDown_keeps h)
  | pcieLinkDown => exact .settle (State.pcieDown_keeps h)
  | pcieLinkUp => exact .next (State.pcieUp_keeps h ..) (State.pcieUp_quiet q ..)
  | linkWidthDegrade => exact .next (.ite (State.put_keeps h ..) h) (.ite (State.put_quiet q ..) q)
  | busMasterChange => exact .next (.ite (State.busMasterSet_keeps h ..) h) (.ite (State.busMasterSet_quiet q ..) q)
  | postedCreditReturn => exact execPostedCreditReturn_completes ..
  | msixMessage => exact .next (State.levelSeen_keeps h ..) (State.levelSeen_quiet q ..)
  | interruptRearm => exact .next (.ite (State.rearm_keeps h ..) h) (.ite (State.rearm_quiet q ..) q)
  | msixPendingSend => exact .next (State.msixPending_keeps h ..) (State.msixPending_quiet q ..)
  | tumblerRead => exact .settle (State.whenUp_keeps h _ fun _ h => tumblerReadEff_keeps h ..)
  | tumblerRelease => exact .settle (State.whenUp_keeps h _ fun _ h => tumblerReleaseEff_keeps h ..)
  | mailboxGo => exact .settle (State.whenUp_keeps h _ fun _ h => mailboxGoEff_keeps h ..)
  | mailboxCopy =>
    exact .next (State.whenUp_keeps h _ fun _ h => State.mailboxCopy_keeps h ..)
      (State.whenUp_quiet q _ fun _ q => State.mailboxCopy_quiet q ..)
  | mailboxCheck => exact .settle (State.whenUp_keeps h _ fun _ h => State.mailboxCheck_keeps h ..)
  | mailboxPop => exact .settle (State.whenUp_keeps h _ fun _ h => State.mailboxPop_keeps h ..)
  | keywayBind => exact .settle (State.whenUp_keeps h _ fun _ h => State.keywayBind_keeps h ..)
  | keywayLock => exact .settle (State.whenUp_keeps h _ fun _ h => State.keywayLock_keeps h ..)
  | unitInfo => exact .settle (State.fwServe_keeps h _ _ _ fun _ _ h => FwReq.unitInfo_keeps h _)
  | paramGet => exact .settle (State.fwServe_keeps h _ _ _ fun _ _ h => FwReq.paramGet_keeps h _)
  | paramSet => exact .settle (.ite (State.fwServe_keeps h _ _ _ fun _ _ h => FwReq.paramSet_keeps h _) h)
  | pwrSet => exact .settle (State.fwServe_keeps h _ _ _ fun _ _ h => FwReq.pwrSet_keeps h _)
  | sqCreate => exact .settle (State.fwServe_keeps h _ _ _ fun _ _ h => FwReq.sqCreate_keeps h _)
  | sqDestroy => exact .settle (State.fwServe_keeps h _ _ _ fun _ _ h => FwReq.sqDestroy_keeps h _)
  | sqShutdown => exact .settle (State.fwServe_keeps h _ _ _ fun _ _ h => FwReq.sqShutdown_keeps h _)
  | shutdownComplete => exact .next (State.shutdownDone_keeps h ..) (State.shutdownDone_quiet q ..)
  | sqRestart => exact .settle (State.fwServe_keeps h _ _ _ fun _ _ h => FwReq.sqRestart_keeps h _)
  | crCreate => exact .settle (State.fwServe_keeps h _ _ _ fun _ _ h => FwReq.crCreate_keeps h _)
  | crDestroy => exact .settle (State.fwServe_keeps h _ _ _ fun _ _ h => FwReq.crDestroy_keeps h _)
  | prgResume => exact .settle (State.fwServe_keeps h _ _ _ fun _ _ h => FwReq.prgResume_keeps h _)
  | grtLoad => exact .settle (State.fwServe_keeps h _ _ _ fun _ _ h => FwReq.grtLoad_keeps h _)
  | grtEnable => exact .settle (State.fwServe_keeps h _ _ _ fun _ _ h => FwReq.grtEnable_keeps h _)
  | timeSet => exact .settle (.ite (State.fwServe_keeps h _ _ _ fun _ _ h => FwReq.timeSet_keeps h _) h)
  | ldgSeal => exact .settle (State.fwServe_keeps h _ _ _ fun _ _ h => FwReq.ldgSeal_keeps h _)
  | ldgStatus => exact .settle (State.fwServe_keeps h _ _ _ fun _ _ h => FwReq.ldgStatus_keeps h _)
  | ldgExport => exact .settle (State.fwServe_keeps h _ _ _ fun _ _ h => FwReq.ldgExport_keeps h _)
  | pairBind => exact .settle (State.fwServe_keeps h _ _ _ fun _ _ h => FwReq.pairBind_keeps h _)
  | pairBindWindowExpiry => exact .settle (State.bindExpired_keeps h)
  | pairUnbind => exact .settle (State.fwServe_keeps h _ _ _ fun _ _ h => FwReq.pairUnbind_keeps h _)
  | takeover => exact .settle (State.fwServe_keeps h _ _ _ fun _ _ h => FwReq.takeover_keeps h _)
  | handover => exact .settle (State.fwServe_keeps h _ _ _ fun _ _ h => FwReq.handover_keeps h _)
  | handoverTimeout => exact .settle (State.handoverExpired_keeps h)
  | repairPoint => exact .settle (State.fwServe_keeps h _ _ _ fun _ _ h => FwReq.repairPoint_keeps h _)
  | faultCfg => exact .settle (State.fwServe_keeps h _ _ _ fun _ _ h => FwReq.faultCfg_keeps h _)
  | unknownCommand => exact .settle (State.fwUnknown_keeps h ..)
  | firmwareIgnoresReply => exact .next (State.fwIgnores_keeps h ..) (State.fwIgnores_quiet q ..)
  | adminEnable =>
    exact .next (State.whenUp_keeps h _ fun _ h => State.admCtlWrite_keeps h ..)
      (State.whenUp_quiet q _ fun _ q => State.admCtlWrite_quiet q ..)
  | adminDisable =>
    exact .next (State.whenUp_keeps h _ fun _ h => State.admCtlWrite_keeps h ..)
      (State.whenUp_quiet q _ fun _ q => State.admCtlWrite_quiet q ..)
  | adminDisableEnd => exact .next (State.adminDisableEnd_keeps h) (State.adminDisableEnd_quiet q)
  | sqDoorbell => exact .settle (State.whenUp_keeps h _ fun _ h => State.sqDoorbell_keeps h ..)
  | resumeDoorbell =>
    exact .settle (State.whenUp_keeps h _ fun _ h => State.reready_keeps (State.resumeDoorbell_keeps h ..))
  | crHeadDoorbell =>
    exact .next (State.whenUp_keeps h _ fun _ h => State.crHead_keeps h ..)
      (State.whenUp_quiet q _ fun _ q => State.crHead_quiet q ..)
  | entryFetch => exact .next (State.entryFetch_keeps h ..) (State.entryFetch_quiet q ..)
  | entryFetched => exact execEntryFetched_completes ..
  | adminFetch => exact .next (State.adminFetch_keeps h) (State.adminFetch_quiet q)
  | adminEntryDone => exact .next (State.adminDone_keeps h) (State.adminDone_quiet q)
  | ringDelayExpiry => exact .next (State.ringDelay_keeps h ..) (State.ringDelay_quiet q ..)
  | ccwStart => exact .settle (State.reready_keeps (State.ccwTurn_keeps h ..))
  | deviceOperationEnd => exact .settle (State.reready_keeps (State.opEnd_keeps h ..))
  | ccwTimeout => exact .settle (State.opTimeout_keeps h ..)
  | write => exact .settle (State.write_keeps h ..)
  | read => exact .settle (State.read_keeps h ..)
  | control => exact .settle (State.control_keeps h ..)
  | sense => exact .settle (State.sense_keeps h ..)
  | jump => exact .settle (State.reready_keeps (State.jump_keeps h ..))
  | waitEvent => exact .settle (State.waitEvent_keeps h ..)
  | engineTimerExpiry => exact .settle (State.timerExpiry_keeps h ..)
  | ledgerAppend => exact .settle (State.ledgerAppend_keeps h ..)
  | mark => exact .settle (State.mark_keeps h ..)
  | pollFar => exact .settle (State.pollStart_keeps h ..)
  | pollFarInterval => exact .settle (State.pollAgain_keeps h ..)
  | busOn => exact .settle (State.portFunc_keeps h _ _ _ _ fun _ _ h => State.busOn_keeps h ..)
  | busOff => exact .settle (State.portFunc_keeps h _ _ _ _ fun _ _ h => State.busOffCtl_keeps h ..)
  | abortTx => exact .settle (State.portFunc_keeps h _ _ _ _ fun _ _ h => State.abortTx_keeps h ..)
  | runSchedule => exact execRunSchedule_completes ..
  | stopSchedule =>
    exact .next (State.portFunc_keeps h _ _ _ _ fun _ _ h => State.stopSchedule_keeps h ..)
      (State.portFunc_quiet q _ _ _ _ fun _ _ q => State.stopSchedule_quiet q ..)
  | wakeup =>
    exact .next (State.portFunc_keeps h _ _ _ _ fun _ _ h => State.linPulse_keeps h ..)
      (State.portFunc_quiet q _ _ _ _ fun _ _ q => State.linPulse_quiet q ..)
  | gotoSleep =>
    exact .next (State.portFunc_keeps h _ _ _ _ fun _ _ h => State.gotoSleep_keeps h ..)
      (State.portFunc_quiet q _ _ _ _ fun _ _ q => State.gotoSleep_quiet q ..)
  | sentStart =>
    exact .next (State.portFunc_keeps h _ _ _ _ fun _ _ h => State.sentDecoding_keeps h ..)
      (State.portFunc_quiet q _ _ _ _ fun _ _ q => State.sentDecoding_quiet q ..)
  | sentStop =>
    exact .next (State.portFunc_keeps h _ _ _ _ fun _ _ h => State.sentDecoding_keeps h ..)
      (State.portFunc_quiet q _ _ _ _ fun _ _ q => State.sentDecoding_quiet q ..)
  | breakTx =>
    exact .next (State.portFunc_keeps h _ _ _ _ fun _ _ h => State.emitOn_keeps (State.setBp_keeps h ..) ..)
      (State.portFunc_quiet q _ _ _ _ fun _ _ q => State.emitOn_quiet (State.setBp_quiet q ..) ..)
  | fastInit =>
    exact .next (State.portFunc_keeps h _ _ _ _ fun _ _ h => State.emitOn_keeps (State.setBp_keeps h ..) ..)
      (State.portFunc_quiet q _ _ _ _ fun _ _ q => State.emitOn_quiet (State.setBp_quiet q ..) ..)
  | flushRx =>
    exact .settle (State.portFunc_keeps h _ _ _ _ fun _ _ h => State.endOp_keeps (State.flushRx_keeps h ..) ..)
  | activate =>
    exact .next (State.portFunc_keeps h _ _ _ _ fun _ _ h => State.cardActivate_keeps h ..)
      (State.portFunc_quiet q _ _ _ _ fun _ _ q => State.cardActivate_quiet q ..)
  | cardWarmReset =>
    exact .next (State.portFunc_keeps h _ _ _ _ fun _ _ h => State.cardWarm_keeps h ..)
      (State.portFunc_quiet q _ _ _ _ fun _ _ q => State.cardWarm_quiet q ..)
  | deactivate => exact .settle (State.portFunc_keeps h _ _ _ _ fun _ _ h => State.cardDeactivate_keeps h ..)
  | linkUp => exact .settle (State.portFunc_keeps h _ _ _ _ fun _ _ h => State.linkUp_keeps h ..)
  | linkDown => exact .settle (State.portFunc_keeps h _ _ _ _ fun _ _ h => State.linkDown_keeps h ..)
  | queueConfig =>
    exact .next (State.whenUp_keeps h _ fun _ h => State.qCfgWrite_keeps h ..)
      (State.whenUp_quiet q _ fun _ q => State.qCfgWrite_quiet q ..)
  | dropPkt => exact .settle (State.whenUp_keeps h _ fun _ h => State.qCmdWrite_keeps h ..)
  | claimGrant => exact .next (State.qGrant_keeps h ..) (State.qGrant_quiet q ..)
  | canEnable => exact .settle (State.whenUp_keeps h _ fun _ h => State.canCtlWrite_keeps h ..)
  | portEnable => exact .settle (State.whenUp_keeps h _ fun _ h => State.portCfgWrite_keeps h ..)
  | portDisable => exact .settle (State.whenUp_keeps h _ fun _ h => State.portCfgWrite_keeps h ..)
  | canIntegrationEnd => exact .settle (.ite (State.canReady_keeps h ..) h)
  | canFrameReceive => exact .settle (State.canReceive_keeps h ..)
  | canFrameSent => exact .settle (State.canSent_keeps h ..)
  | canBusError => exact .settle (State.canError_keeps h ..)
  | canRecoveryEnd => exact .settle (State.canRecovered_keeps h ..)
  | autoRecoverWrite => exact .settle (State.whenUp_keeps h _ fun _ h => State.canCtlWrite_keeps h ..)
  | periodicFrameDue => exact .settle (State.ptxPeriod_keeps h ..)
  | supervisionTimeout => exact .settle (State.supTimeout_keeps h ..)
  | j1939T1Expiry => exact .settle (State.j1939T1_keeps h ..)
  | linSlotStart => exact .settle (State.linSlot_keeps h ..)
  | linHeaderReceive => exact .settle (State.linRxHeader_keeps h ..)
  | linResponseEnd => exact .settle (State.linRespEnd_keeps h ..)
  | linResponseTimeout => exact .settle (State.linNoResp_keeps h ..)
  | linBitError => exact .settle (State.linBitError_keeps h ..)
  | linWakeupDetect => exact .settle (State.linWake_keeps h ..)
  | sentFrameReceive => exact .settle (State.sentReceive_keeps h ..)
  | uartCharacterReceive => exact .settle (State.uartReceive_keeps h ..)
  | uartIdleTimeout => exact .settle (.ite h (State.byteIdle_keeps h ..))
  | ctsChange => exact .next (State.ctsChange_keeps h ..) (State.ctsChange_quiet q ..)
  | cardCharacterReceive => exact .settle (State.cardReceive_keeps h ..)
  | cardAtrReceive => exact .settle (State.cardAtr_keeps h ..)
  | atrTimeout => exact .settle (State.cardNoAtr_keeps h ..)
  | cardWaitingTimeExpiry => exact .settle (State.cardExpiry_keeps h ..)
  | cardPresenceChange => exact .settle (State.cardPresence_keeps h ..)
  | ethEnable => exact .settle (State.whenUp_keeps h _ fun _ h => State.ethCfgWrite_keeps h ..)
  | ethLinkChange => exact .settle (State.ethLinkChange_keeps h ..)
  | ethFrameReceive => exact .settle (State.ethReceive_keeps h ..)
  | ethFrameSent => exact .settle (State.ethSent_keeps h ..)
  | ethCollision => exact .settle (State.ethCollide_keeps h ..)
  | plcaBeaconLoss => exact .settle (State.plcaLoss_keeps h)
  | plcaOpportunity => exact .settle (State.plcaOpportunity_keeps h)
  | timSet =>
    exact .next (State.whenUp_keeps h _ fun _ h => State.timSet_keeps h ..)
      (State.whenUp_quiet q _ fun _ q => State.timSet_quiet q ..)
  | timRate =>
    exact .next (State.whenUp_keeps h _ fun _ h => State.timRate_keeps h ..)
      (State.whenUp_quiet q _ fun _ q => State.timRate_quiet q ..)
  | timSlew =>
    exact .next (State.whenUp_keeps h _ fun _ h => State.timSlew_keeps h ..)
      (State.whenUp_quiet q _ fun _ q => State.timSlew_quiet q ..)
  | slewDone => exact .next (State.slewDone_keeps h) (State.slewDone_quiet q)
  | crossTimestamp =>
    exact .next (State.whenUp_keeps h _ fun _ h => State.crossStamp_keeps h)
      (State.whenUp_quiet q _ fun _ q => State.crossStamp_quiet q)
  | timCaptureEdge => exact .next (State.capEdge_keeps h ..) (State.capEdge_quiet q ..)
  | ppsEdge => exact .next (State.ppsEdge_keeps h ..) (State.ppsEdge_quiet q ..)
  | farSlotCmd => exact .settle (State.whenUp_keeps h _ fun _ h => State.storeWord_keeps h ..)
  | farAccessTimeout => exact execFarAccessTimeout_completes ..
  | fabricFarAccess =>
    exact .settle (State.whenUp_keeps h _ fun _ h => .ite (State.emit_keeps (State.fabTry_keeps h ..) _) h)
  | heldResultExpiry => exact execHeldResultExpiry_completes ..
  | farLatchExpiry => exact .settle (State.farLatchExpire_keeps h ..)
  | semaphoreRead =>
    exact .next (State.whenUp_keeps h _ fun _ h => .record (State.semRead_keeps h ..))
      (State.whenUp_quiet q _ fun _ q => .record (State.semRead_quiet q ..))
  | semaphoreRelease => exact .settle (State.whenUp_keeps h _ fun _ h => State.semWrite_keeps h ..)
  | semaphoreLeaseExpiry => exact .settle (State.semLease_keeps h ..)
  | lxbAccess => exact .settle (State.lxbAccess_keeps h ..)
  | lxbWaitTimeout => exact .settle (State.lxbWait_keeps h)
  | lxbLockRead =>
    exact .next (State.whenUp_keeps h _ fun _ h => .record (State.lxbLockRead_keeps h _))
      (State.whenUp_quiet q _ fun _ q => .record (State.lxbLockRead_quiet q _))
  | lxbLockRelease => exact .settle (State.whenUp_keeps h _ fun _ h => State.lxbLockWrite_keeps h ..)
  | lxbLockBroken => exact .settle (State.lxbBreak_keeps h)
  | pollRound => exact .settle (State.pollRound_keeps h ..)
  | gatewayLookup => exact .settle (State.gwLookup_keeps h ..)
  | routingEntryCommit => exact .settle (State.whenUp_keeps h _ fun _ h => State.grtWrite_keeps h ..)
  | ldgAppendPart => exact .settle (State.ldgFlit_keeps h _ _ _ _ fun _ h => State.appendPart_keeps h ..)
  | appendEnd => exact .settle (State.ldgFlit_keeps h _ _ _ _ fun _ h => State.appendEnded_keeps h ..)
  | farAppendResend => exact execFarAppendResend_completes ..
  | farAppendTimeout => exact execFarAppendTimeout_completes ..
  | firmwareAppend => exact .settle (State.whenUp_keeps h _ fun _ h => .ite (State.fwaGo_keeps h) h)
  | recordDurable => exact .settle (State.sequence_keeps (State.durableOne_keeps h))
  | sealRequest => exact .settle (State.whenUp_keeps h _ fun _ h => State.ldgCmdWrite_keeps h ..)
  | segmentRelease => exact .settle (State.whenUp_keeps h _ fun _ h => State.ldgCmdWrite_keeps h ..)
  | exportedWrite =>
    exact .next (State.whenUp_keeps h _ fun _ h => .ite (State.exportedWrite_keeps h ..) h)
      (State.whenUp_quiet q _ fun _ q => .ite (State.exportedWrite_quiet q ..) q)
  | epochClose => exact .next (State.closeEpoch_keeps h) (State.closeEpoch_quiet q)
  | epochBegin =>
    exact .settle (State.mirrorFlit_keeps h _ _ _ _ fun _ h => State.asStandby_keeps h _ fun _ h =>
      (State.epochBegin_keeps h ..))
  | epochData =>
    exact .settle (State.mirrorFlit_keeps h _ _ _ _ fun _ h => State.asStandby_keeps h _ fun _ h =>
      (State.epochData_keeps h ..))
  | epochEnd =>
    exact .settle (State.mirrorFlit_keeps h _ _ _ _ fun _ h => State.asStandby_keeps h _ fun _ h =>
      (State.epochEnd_keeps h ..))
  | epochCommit => exact .settle (State.epochCommit_keeps h)
  | epochAck => exact .settle (State.mirrorFlit_keeps h _ _ _ _ fun _ h => State.epochAcked_keeps h ..)
  | epochResendTimeout => exact execEpochResendTimeout_completes ..
  | pairState => exact .settle (State.ldgFlit_keeps h _ _ _ _ fun _ h => State.pairState_keeps h ..)
  | pairBindMessage => exact .settle (State.ldgFlit_keeps h _ _ _ _ fun _ h => State.pairBind_keeps h ..)
  | pairUnbindMessage => exact execPairUnbindMessage_completes ..
  | pairHold =>
    exact .next (State.whenUp_keeps h _ fun _ h => State.writeFlds_keeps h ..)
      (State.whenUp_quiet q _ fun _ q => State.writeFlds_quiet q ..)
  | takeoverGraceExpiry => exact .settle (State.graceEnd_keeps h)
  | thermalSample => exact .settle (.ite (State.thmSample_keeps h ..) h)
  | measure =>
    exact .next (State.whenUp_keeps h _ fun _ h => State.thmCmdWrite_keeps h ..)
      (State.whenUp_quiet q _ fun _ q => State.thmCmdWrite_quiet q ..)
  | thermalGraceExpiry => exact execThermalGraceExpiry_completes ..
  | thmLimWrite => exact .settle (State.whenUp_keeps h _ fun _ h => State.thmLimWrite_keeps h ..)
  | thmDutyWrite => exact .settle (State.whenUp_keeps h _ fun _ h => State.thmDutyWrite_keeps h ..)
  | thmPeakRead =>
    exact .next (State.whenUp_keeps h _ fun _ h => .record (State.thmPeakRead_keeps h))
      (State.whenUp_quiet q _ fun _ q => .record (State.thmPeakRead_quiet q))
  | faultSourceConfig => exact .settle (State.whenUp_keeps h _ fun _ h => State.srcCfgWrite_keeps h ..)
  | deadboltWrite => exact execDeadboltWrite_completes ..
  | faultEventPop => exact execFaultEventPop_completes ..
  | quarantineClear => exact .settle (State.whenUp_keeps h _ fun _ h => State.quarWrite_keeps h ..)
  | faultInjection => exact .settle (State.whenUp_keeps h _ fun _ h => State.faultInject_keeps h ..)
  | selfCheckFailure => exact .settle (State.fault_keeps h ..)
  | spareSelfTest => exact .settle (State.spareTest_keeps h ..)
  | migrationComplete => exact .settle (State.reready_keeps (State.migrationEnd_keeps h ..))
  | retireSe => exact .settle (State.whenUp_keeps h _ fun _ h => State.retireRequest_keeps h ..)
  | rowRequest => exact .settle (State.whenUp_keeps h _ fun _ h => State.rowRequest_keeps h ..)
  | repair =>
    exact .next (State.whenUp_keeps h _ fun _ h => State.repairStart_keeps h ..)
      (State.whenUp_quiet q _ fun _ q => State.repairStart_quiet q ..)
  | repairPointEnd => exact .settle (State.repairEnd_keeps h ..)
  | clearLane => exact .settle (State.whenUp_keeps h _ fun _ h => State.clearLane_keeps h ..)
  | scrubRead => exact .settle (State.scrub_keeps h ..)
  | traceWrite => exact .next (State.traceWrite_keeps h) (State.traceWrite_quiet q)
  | hostMark => exact .settle (State.whenUp_keeps h _ fun _ h => State.hostMark_keeps h ..)
  | traceClear =>
    exact .next (State.whenUp_keeps h _ fun _ h => State.trcClearWrite_keeps h ..)
      (State.whenUp_quiet q _ fun _ q => State.trcClearWrite_quiet q ..)
  | sinkCopy => exact .next (State.sinkCopy_keeps h ..) (State.sinkCopy_quiet q ..)
  | bypass => exact .next (State.tapLoad_keeps h ..) (State.tapLoad_quiet q ..)
  | idcode =>
    exact .next (State.emit_keeps (State.tapLoad_keeps h ..) ..) (State.emit_quiet (State.tapLoad_quiet q ..) ..)
  | samplePreload => exact .next (.record (State.tapLoad_keeps h ..)) (.record (State.tapLoad_quiet q ..))
  | extest => exact .next (State.tapLoad_keeps h ..) (State.tapLoad_quiet q ..)
  | clamp => exact .next (State.tapLoad_keeps h ..) (State.tapLoad_quiet q ..)
  | highz => exact .next (State.tapLoad_keeps h ..) (State.tapLoad_quiet q ..)
  | dapAccess => exact .settle (State.dapScan_keeps h ..)
  | lifecycleRequest => exact .settle (State.whenUp_keeps h _ fun _ h => State.lcReqWrite_keeps h ..)
  | pinSelect => exact .settle (State.whenUp_keeps h _ fun _ h => State.pinWrite_keeps h ..)
  | pinConfigWrite => exact .settle (State.whenUp_keeps h _ fun _ h => State.pinWrite_keeps h ..)
  | parkIntervalEnd => exact .settle (State.pinSettled_keeps h ..)
  | pinLock =>
    exact .next (State.whenUp_keeps h _ fun _ h => State.pinCtlWrite_keeps h ..)
      (State.whenUp_quiet q _ fun _ q => State.pinCtlWrite_quiet q ..)
  | registerRead => exact .settle (State.registerRead_keeps h ..)
  | nonpostedCreditReturn => exact execNonpostedCreditReturn_completes ..
  | blockLockLoss => exact .settle (State.recover_keeps h ..)
  | kattnOutChange => exact .next (State.flag_keeps h ..) (State.flag_quiet q ..)
  | gpioInputEdge => exact .settle (State.gpioEdge_keeps h ..)
  | lxbIrqChange => exact .settle (State.lxbIrqSet_keeps h ..)
  | plcaBeaconReceive => exact .next (State.plcaBeacon_keeps h) (State.plcaBeacon_quiet q)
  | uartCharacterSent => exact .settle (State.byteSent_keeps h ..)
  | cardCharacterSent => exact .settle (State.cardSent_keeps h ..)
  | breakEnd => exact execBreakEnd_completes ..
  | fastInitEnd => exact execFastInitEnd_completes ..
  | wakeupPulseEnd => exact .next (State.linPulseEnd_keeps h ..) (State.linPulseEnd_quiet q ..)
  | xt32Restored =>
    exact .next (State.put_keeps (State.put_keeps (State.put_keeps h ..) ..) ..)
      (State.put_quiet (State.put_quiet (State.put_quiet q ..) ..) ..)

/-- A core cycle leaves no fault event waiting where none waited. -/
theorem State.tick_quiet {s0 s : State} (h : Quiet s0 s) : Quiet s0 s.tick := by
  have ht := State.pwrTick_quiet (State.monoTick_quiet h)
  have hd := State.dutyTick_quiet (State.ptpTick_quiet ht)
  exact .ite (.ite hd ⟨fun _ => settle_due _⟩) ht

theorem inv_of_keeps {s t : State} (k : Keeps s t) (q : Quiet s t) (h : s.Inv) : t.Inv :=
  ⟨k.regs h.1, k.mem h.2.1, q.due h.2.2⟩

/-- A step keeps the invariant and undoes no fuse. -/
theorem step_keeps {s t : State} (h : step s = .next t) : (s.Inv → t.Inv) ∧ s.nv.FusesKept t.nv := by
  unfold step at h
  split at h
  · obtain rfl := Host.Outcome.next.inj h
    have hk := State.tick_keeps (.refl s)
    exact ⟨inv_of_keeps hk (State.tick_quiet (.refl s)), hk.fuses⟩
  · next c rest _ =>
    obtain ⟨u, hu, hk, hq⟩ := exec_completes c { s with pending := rest }
    obtain rfl := Host.Outcome.next.inj (hu.symm.trans h)
    exact ⟨fun hi => inv_of_keeps hk hq hi, hk.fuses⟩

/-- Settles O59: a step is a core cycle or the command in front, and each of them keeps the invariant and the fuses. -/
theorem stepKeepsInvAndFuses : Obligations.StepKeepsInvAndFuses := fun _ _ h => step_keeps h

/-- Settles O60: at reset the register store, the memory and the list of fault events are empty. -/
theorem resetMeetsInv : Obligations.ResetMeetsInv :=
  ⟨by decide, fun _ => rfl, rfl, rfl, rfl⟩

end Sys2Proof.Machine

end

section

namespace Sys2Proof.Machine

/-! ### What writing registers changes -/

theorem Only.refl (u : State) (fs : List Fld) : Only u u fs := ⟨rfl, fun _ _ => rfl⟩

/-- One of the listed fields written. -/
theorem Only.put {u t : State} {fs : List Fld} (h : Only u t fs) {f : Fld} (hf : f ∈ fs) (v : Nat) :
    Only u (t.put f v) fs := by
  obtain ⟨hrec, hget⟩ := h
  refine ⟨?_, fun g hg => ?_⟩
  · rw [hrec]
    rfl
  · have hne : g.key ≠ f.key := fun e => hg (e ▸ List.mem_map_of_mem hf)
    rw [State.get_put_other _ _ hne, hget g hg]

theorem Only.flag {u t : State} {fs : List Fld} (h : Only u t fs) {f : Fld} (hf : f ∈ fs) (b : Bool) :
    Only u (t.flag f b) fs :=
  h.put hf _

theorem Only.raise {u t : State} {fs : List Fld} (h : Only u t fs) {evt cnt : Fld} (he : evt ∈ fs) (hc : cnt ∈ fs)
    (bit : Nat) : Only u (t.raise evt bit cnt) fs :=
  (h.put he _).put hc _

theorem raised_raise (s : State) {evt cnt : Fld} (bit : Nat) (h : evt.key ≠ cnt.key) :
    Raised s (s.raise evt bit cnt) evt bit cnt :=
  ⟨State.get_raise_cause s bit h, State.get_raise_count s bit h.symm⟩

@[simp] theorem b2n_mod_two (b : Bool) : b2n b % 2 = b2n b := by cases b <;> rfl

/-- While registers answer an access acts. -/
theorem State.whenUp_of_answers {s : State} (h : s.answers = true) (f : State → State) : s.whenUp f = f s := if_pos h

/-- While registers do not answer no access has an effect. -/
theorem State.whenUp_of_not_answers {s : State} (h : s.answers = false) (f : State → State) : s.whenUp f = s := by
  simp [State.whenUp, h]

/-- Equal states end a command alike. -/
theorem next_settle_congr {s t : State} (h : s = t) :
    (.next (settle s) : Host.Outcome State Fault Refusal) = .next (settle t) :=
  congrArg (fun u => Host.Outcome.next (settle u)) h

/-! ### Held halves (O10) -/

theorem State.halfDiscard_of_held {s : State} {w : Who} {off v : Nat} (hw : w.mid ≠ 4)
    (h : tget s.writeHold (latchKey off w.mid) = some v) :
    s.halfDiscard w off = { s with
      writeHold := tdel s.writeHold (latchKey off w.mid)
      dueFaults := s.dueFaults ++ [{ src := 3, res := bits off 2 18, mid := some w.mid }] } := by
  simp [State.halfDiscard, State.heldHalf, State.dropHalf, State.accessRefused, State.fault, hw, h]

theorem State.halfDiscard_of_none {s : State} {w : Who} {off : Nat} (hw : w.mid ≠ 4)
    (h : tget s.writeHold (latchKey off w.mid) = none) : s.halfDiscard w off = s := by
  simp [State.halfDiscard, State.heldHalf, hw, h]

theorem State.farLatchExpire_of_held {s : State} {a : Nat} {x : FarLatch}
    (h : s.farLatches.find? (fun l => l.origin == a) = some x) :
    s.farLatchExpire a = { s with
      farLatches := s.farLatches.filter fun l => l.origin != a
      dueFaults := s.dueFaults ++ if x.write then
          [{ src := 3, res := bits x.off 2 18, mid := some 4, addr := some a }] else [] } := by
  unfold State.farLatchExpire
  rw [h]
  cases hw : x.write <;> simp [State.accessRefused, State.fault, hw]

theorem State.farLatchExpire_of_none {s : State} {a : Nat} (h : s.farLatches.find? (fun l => l.origin == a) = none) :
    s.farLatchExpire a = s := by
  simp only [State.farLatchExpire, h]

/-- Settles O10: each case of a held and of no half, of a MID other than 4 and of an origin. -/
theorem halvesOfWideRegisters : Obligations.HalvesOfWideRegisters := by
  have toNat_ne {mid : BitVec 4} (h : mid ≠ 4) : mid.toNat ≠ 4 := fun e => h (BitVec.eq_of_toNat_eq e)
  intro s
  refine ⟨fun mid off v hm hv => ?_, fun mid off h => ?_, fun a x hx => ?_, fun a h => ?_⟩
  · simp only [exec, execHalfWriteDiscard, if_neg hm]
    rw [State.halfDiscard_of_held (toNat_ne hm) hv]
    rfl
  · simp only [exec, execHalfWriteDiscard]
    split
    · rfl
    · next hm => rw [State.halfDiscard_of_none (toNat_ne hm) (h.resolve_left hm)]
  · simp only [exec, execFarLatchExpiry]
    rw [State.farLatchExpire_of_held hx]
  · simp only [exec, execFarLatchExpiry]
    rw [State.farLatchExpire_of_none h]

end Sys2Proof.Machine

end

section

namespace Sys2Proof.Machine

/-! ### The Keyway (O22) -/

/-- The fields of KWY_VIOL, filled by a violation (R262). -/
def violationShown (s : State) (c : Nat) (w : Who) (write : Bool) : State :=
  (((s.flag R.KWY_VIOL_write write).put R.KWY_VIOL_mid w.mid).put R.KWY_VIOL_channel c).put R.KWY_VIOL_addr w.key.2

theorem violationShown_get (s : State) (c : Nat) (w : Who) (write : Bool) :
    (violationShown s c w write).get R.KWY_VIOL_mid = w.mid % 16 ∧
      (violationShown s c w write).get R.KWY_VIOL_channel = c % 16 ∧
      (violationShown s c w write).get R.KWY_VIOL_write = b2n write := by
  have hmc : R.KWY_VIOL_mid.key ≠ R.KWY_VIOL_channel.key := by decide
  have hma : R.KWY_VIOL_mid.key ≠ R.KWY_VIOL_addr.key := by decide
  have hca : R.KWY_VIOL_channel.key ≠ R.KWY_VIOL_addr.key := by decide
  have hwm : R.KWY_VIOL_write.key ≠ R.KWY_VIOL_mid.key := by decide
  have hwc : R.KWY_VIOL_write.key ≠ R.KWY_VIOL_channel.key := by decide
  have hwa : R.KWY_VIOL_write.key ≠ R.KWY_VIOL_addr.key := by decide
  unfold violationShown
  refine ⟨?_, ?_, ?_⟩
  · rw [State.get_put_other _ _ hma, State.get_put_other _ _ hmc, State.get_put_same]
    rfl
  · rw [State.get_put_other _ _ hca, State.get_put_same]
    rfl
  · rw [State.get_put_other _ _ hwa, State.get_put_other _ _ hwc, State.get_put_other _ _ hwm, State.get_flag_same]
    exact b2n_mod_two write

theorem violationShown_only (s : State) (c : Nat) (w : Who) (write : Bool) :
    Only s (violationShown s c w write)
      [R.KWY_VIOL_write, R.KWY_VIOL_mid, R.KWY_VIOL_channel, R.KWY_VIOL_addr] :=
  ((((Only.refl s _).flag (by simp) write).put (by simp) _).put (by simp) _).put (by simp) _

/-- A change of some fields after a change of others. -/
theorem Only.trans {s u t : State} {fs gs : List Fld} (h : Only s u fs) (h' : Only u t gs) : Only s t (fs ++ gs) := by
  obtain ⟨hu, hgetu⟩ := h
  obtain ⟨ht, hgett⟩ := h'
  refine ⟨by rw [ht, hu], fun f hf => ?_⟩
  rw [List.map_append, List.mem_append, not_or] at hf
  exact (hgett f hf.2).trans (hgetu f hf.1)

theorem keywayViolation_eq (s : State) (c : Nat) (w : Who) (write : Bool) :
    s.keywayViolation c w write =
      (violationShown (s.raise R.KWY_VIOL_cause 0 (R.KWY_CNT_count 0)) c w write).fault
        { src := 5, res := c, mid := some w.mid, addr := if w.mid = 4 then some w.addr else none } := rfl

/-- What a Keyway violation records (R262). -/
theorem keywayViolation_violated (s : State) (c : Nat) (w : Who) (write : Bool) :
    Violated s (s.keywayViolation c w write) c w write := by
  have hkey : R.KWY_VIOL_cause.key ≠ (R.KWY_CNT_count 0).key := by decide
  obtain ⟨hevt, hcnt⟩ := raised_raise s 0 hkey
  have hraise : Only s (s.raise R.KWY_VIOL_cause 0 (R.KWY_CNT_count 0)) [R.KWY_VIOL_cause, R.KWY_CNT_count 0] :=
    (Only.refl s _).raise (by simp) (by simp) 0
  obtain ⟨hmid, hchan, hwrite⟩ := violationShown_get (s.raise R.KWY_VIOL_cause 0 (R.KWY_CNT_count 0)) c w write
  have hshown := violationShown_only (s.raise R.KWY_VIOL_cause 0 (R.KWY_CNT_count 0)) c w write
  rw [keywayViolation_eq]
  generalize s.raise R.KWY_VIOL_cause 0 (R.KWY_CNT_count 0) = u at *
  generalize violationShown u c w write = t at *
  have hout {f : Fld} (h : f.key ∉ [R.KWY_VIOL_write, R.KWY_VIOL_mid, R.KWY_VIOL_channel, R.KWY_VIOL_addr].map Fld.key) :
      (t.fault { src := 5, res := c, mid := some w.mid, addr := if w.mid = 4 then some w.addr else none }).get f =
        u.get f := hshown.2 f h
  obtain ⟨hrec, hget⟩ := hraise.trans hshown
  refine ⟨⟨?_, hget⟩, ⟨(hout (by decide)).trans hevt, (hout (by decide)).trans hcnt⟩, hmid, hchan, hwrite⟩
  rw [hrec]
  rfl

/-- A refused write of the Keyway with the lock set is a locked write, and a violation where another MID than 2 makes
it. -/
theorem keywayRefused_of_locked {s : State} (c : Nat) (w : Who) (h : s.on R.KWY_CTL_lock = true) :
    s.keywayRefused c w =
      let u := s.raise R.KWY_VIOL_cause 1 (R.KWY_CNT_count 1)
      if w.mid = 2 then u else u.keywayViolation c w true := by
  simp [State.keywayRefused, h]

theorem keywayRefused_of_unlocked {s : State} (c : Nat) {w : Who} (h : s.on R.KWY_CTL_lock = false) (hw : w.mid ≠ 2) :
    s.keywayRefused c w = s.keywayViolation c w true := by
  simp [State.keywayRefused, h, hw]

theorem keywayBind_refused {s : State} (c : Nat) {w : Who} (v : Nat)
    (h : w.mid ≠ 2 ∨ s.on R.KWY_CTL_lock = true) : s.keywayBind c w v = s.keywayRefused c w :=
  if_pos (by simpa using h)

theorem keywayLock_refused {s : State} {w : Who} (v : Nat) (h : w.mid ≠ 2 ∨ s.on R.KWY_CTL_lock = true) :
    s.keywayLock w v = s.keywayRefused 0 w :=
  if_pos (by simpa using h)

/-- KWY_BINDc with the three fields of a written value. -/
def bound (s : State) (c v : Nat) : State :=
  ((s.put (R.KWY_BIND_sender c) (bits v 0 4)).put (R.KWY_BIND_receiver c) (bits v 4 4)).put
    (R.KWY_BIND_valid c) (bits v 8 1)

theorem keywayBind_own {s : State} (c : Nat) {w : Who} (v : Nat) (hw : w.mid = 2)
    (h : s.on R.KWY_CTL_lock = false) :
    s.keywayBind c w v = if (bound s c v).regs = s.regs then s else (bound s c v).emptyChan c :=
  if_neg (by simp [hw, h])

theorem keywayLock_own {s : State} {w : Who} (v : Nat) (hw : w.mid = 2) (h : s.on R.KWY_CTL_lock = false) :
    s.keywayLock w v = s.put R.KWY_CTL_lock (bits v 0 1) :=
  if_neg (by simp [hw, h])

theorem bits_lt (x lo w : Nat) : bits x lo w < 2 ^ w := Nat.mod_lt _ (by positivity)

@[simp] theorem bits_mod (x lo w : Nat) : bits x lo w % 2 ^ w = bits x lo w := Nat.mod_eq_of_lt (bits_lt x lo w)

theorem bound_get (s : State) (c v : Nat) :
    (bound s c v).get (R.KWY_BIND_sender c) = bits v 0 4 ∧ (bound s c v).get (R.KWY_BIND_receiver c) = bits v 4 4 ∧
      (bound s c v).get (R.KWY_BIND_valid c) = bits v 8 1 := by
  have hrv : (R.KWY_BIND_receiver c).key ≠ (R.KWY_BIND_valid c).key := by
    simp [Fld.key, R.KWY_BIND_receiver, R.KWY_BIND_valid]
  have hsv : (R.KWY_BIND_sender c).key ≠ (R.KWY_BIND_valid c).key := by
    simp [Fld.key, R.KWY_BIND_sender, R.KWY_BIND_valid]
  have hsr : (R.KWY_BIND_sender c).key ≠ (R.KWY_BIND_receiver c).key := by
    simp [Fld.key, R.KWY_BIND_sender, R.KWY_BIND_receiver]
  unfold bound
  refine ⟨?_, ?_, ?_⟩
  · rw [State.get_put_other _ _ hsv, State.get_put_other _ _ hsr, State.get_put_same]
    exact bits_mod v 0 4
  · rw [State.get_put_other _ _ hrv, State.get_put_same]
    exact bits_mod v 4 4
  · rw [State.get_put_same]
    exact bits_mod v 8 1

theorem bound_only (s : State) (c v : Nat) :
    Only s (bound s c v) [R.KWY_BIND_sender c, R.KWY_BIND_receiver c, R.KWY_BIND_valid c, R.MBX_EVT_cause c] :=
  (((Only.refl s _).put (by simp) _).put (by simp) _).put (by simp) _

theorem emptyChan_eq (s : State) (c : Nat) : s.emptyChan c = (s.setChan c {}).put (R.MBX_EVT_cause c) 0 := rfl

/-- Emptying a channel: the channel, its Tumbler with it, and its causes (R276). -/
theorem emptyChan_empties (s : State) (c : Nat) :
    (s.emptyChan c).chan c = {} ∧ (∀ d, d ≠ c → (s.emptyChan c).chan d = s.chan d) ∧
      (s.emptyChan c).get (R.MBX_EVT_cause c) = 0 := by
  rw [emptyChan_eq]
  refine ⟨tget_tput_same s.chans c {} {}, fun d hd => ?_, State.get_put_same _ _ _⟩
  exact congrArg (fun x : Option Chan => x.getD {}) (tget_tput_other (m := s.chans) (k := c) {} {} hd)

theorem emptyChan_get (s : State) (c : Nat) {f : Fld} (h : f.key ≠ (R.MBX_EVT_cause c).key) :
    (s.emptyChan c).get f = s.get f :=
  State.get_put_other _ _ h

/-- The causes of a channel are at another address than the bindings. -/
theorem key_ne_mbxCause (c : Fin 16) {f : Fld} (h : 0x9000 ≤ f.off) : f.key ≠ (R.MBX_EVT_cause c).key := by
  have hoff : (R.MBX_EVT_cause c).off < 0x9000 := by
    have := c.isLt
    simp only [R.MBX_EVT_cause]
    omega
  have hlo : (R.MBX_EVT_cause c).lo = 0 := rfl
  simp only [Fld.key]
  omega

/-- A binding that changes the register sets it and leaves the other registers. -/
theorem bound_emptyChan_only (s : State) (c : Fin 16) (v : Nat) :
    Only { s with chans := ((bound s c v).emptyChan c).chans } ((bound s c v).emptyChan c)
      [R.KWY_BIND_sender c, R.KWY_BIND_receiver c, R.KWY_BIND_valid c, R.MBX_EVT_cause c] := by
  obtain ⟨hrec, hget⟩ := bound_only s c v
  rw [emptyChan_eq]
  have hset : Only { s with chans := ((bound s c v).setChan c {}).chans } ((bound s c v).setChan c {})
      [R.KWY_BIND_sender c, R.KWY_BIND_receiver c, R.KWY_BIND_valid c, R.MBX_EVT_cause c] := by
    refine ⟨?_, hget⟩
    rw [hrec]
    rfl
  exact hset.put (by simp) 0

theorem bound_emptyChan_get (s : State) (c : Fin 16) (v : Nat) :
    ((bound s c v).emptyChan c).get (R.KWY_BIND_sender c) = bits v 0 4 ∧
      ((bound s c v).emptyChan c).get (R.KWY_BIND_receiver c) = bits v 4 4 ∧
      ((bound s c v).emptyChan c).get (R.KWY_BIND_valid c) = bits v 8 1 := by
  obtain ⟨hs, hr, hv⟩ := bound_get s c v
  rw [emptyChan_get _ _ (key_ne_mbxCause c (Nat.le_add_right _ _)),
    emptyChan_get _ _ (key_ne_mbxCause c (Nat.le_add_right _ _)),
    emptyChan_get _ _ (key_ne_mbxCause c (Nat.le_add_right _ _))]
  exact ⟨hs, hr, hv⟩

theorem exec_keywayBind {s : State} (h : s.answers = true) (c mid origin v) :
    exec (.keywayBind c mid origin v) s = .next (settle (s.keywayBind c (who mid origin) v.toNat)) :=
  next_settle_congr (State.whenUp_of_answers h _)

theorem exec_keywayLock {s : State} (h : s.answers = true) (mid origin v) :
    exec (.keywayLock mid origin v) s = .next (settle (s.keywayLock (who mid origin) v.toNat)) :=
  next_settle_congr (State.whenUp_of_answers h _)

/-- Settles O22: MID 2 before the lock, MID 2 and another MID under it, and another MID before it. -/
theorem keywayBindsAndLocks : Obligations.KeywayBindsAndLocks := by
  intro s c origin v hup
  have hother {mid : BitVec 4} (h : mid ≠ 2) : (who mid origin).mid ≠ 2 := fun e => h (BitVec.eq_of_toNat_eq e)
  refine ⟨fun hl => ⟨fun hsame => ?_, fun hchange => ?_, ?_⟩, fun hl => ?_, fun mid hm hl => ⟨?_, ?_⟩⟩
  · rw [exec_keywayBind hup, keywayBind_own _ _ rfl hl, if_pos (show (bound s c v.toNat).regs = s.regs from hsame)]
  · have hdiff : (bound s c v.toNat).regs ≠ s.regs := fun e => by
      obtain ⟨hs, hr, hv⟩ := bound_get s c v.toNat
      have hget (f : Fld) : (bound s c v.toNat).get f = s.get f := by rw [State.get, e, State.get]
      rw [hget] at hs hr hv
      simp [hs, hr, hv] at hchange
    obtain ⟨hs, hr, hv⟩ := bound_emptyChan_get s c v.toNat
    obtain ⟨hempty, hothers, hcause⟩ := emptyChan_empties (bound s c v.toNat) c
    refine ⟨(bound s c v.toNat).emptyChan c, ?_, bound_emptyChan_only s c v.toNat, hempty, hothers, hs, hr, hv, hcause⟩
    rw [exec_keywayBind hup, keywayBind_own _ _ rfl hl, if_neg hdiff]
  · refine ⟨s.put R.KWY_CTL_lock (bits v.toNat 0 1), ?_, (Only.refl s _).put (by simp) _, ?_⟩
    · rw [exec_keywayLock hup, keywayLock_own _ rfl hl]
    · exact (State.get_put_same _ _ _).trans (bits_mod v.toNat 0 1)
  · refine ⟨s.raise R.KWY_VIOL_cause 1 (R.KWY_CNT_count 1), (Only.refl s _).raise (by simp) (by simp) 1,
      raised_raise s 1 (by decide), ?_, ?_, fun mid hm => ⟨⟨_, ?_, keywayViolation_violated _ c (who mid origin) true⟩,
        _, ?_, keywayViolation_violated _ 0 (who mid origin) true⟩⟩
    · rw [exec_keywayBind hup, keywayBind_refused _ _ (.inr hl), keywayRefused_of_locked _ _ hl]
      rfl
    · rw [exec_keywayLock hup, keywayLock_refused _ (.inr hl), keywayRefused_of_locked _ _ hl]
      rfl
    · rw [exec_keywayBind hup, keywayBind_refused _ _ (.inr hl), keywayRefused_of_locked _ _ hl]
      exact next_settle_congr (if_neg (hother hm))
    · rw [exec_keywayLock hup, keywayLock_refused _ (.inr hl), keywayRefused_of_locked _ _ hl]
      exact next_settle_congr (if_neg (hother hm))
  · refine ⟨_, ?_, keywayViolation_violated s c (who mid origin) true⟩
    rw [exec_keywayBind hup, keywayBind_refused _ _ (.inl (hother hm)), keywayRefused_of_unlocked _ hl (hother hm)]
  · refine ⟨_, ?_, keywayViolation_violated s 0 (who mid origin) true⟩
    rw [exec_keywayLock hup, keywayLock_refused _ (.inl (hother hm)), keywayRefused_of_unlocked _ hl (hother hm)]

end Sys2Proof.Machine

end

section

namespace Sys2Proof.Machine

/-! ### Resets asked for and taken (O7) -/

/-- A request joined to a pending one leaves the switch of the first. -/
@[simp] theorem ResetAsk.join_switch (a b : ResetAsk) : (a.join b).switch = a.switch := rfl

/-- RST_N gives the cause whatever it joins (R22, R151). -/
theorem ResetAsk.join_pin_cause (a : ResetAsk) : (a.join { cause := 1 }).cause = 1 := by
  unfold ResetAsk.join
  by_cases h : a.cause = 1
  · simp [causeRank, h]
  · have hrank : causeRank 1 < causeRank a.cause := by
      simp only [causeRank, if_neg h]
      split_ifs <;> decide
    simp [hrank]

/-- The first request of a reset; in KEEP and OFF it is what wakes the unit (R107, R664). -/
theorem State.askReset_first {s : State} (a : ResetAsk) (hf : s.failing = false) (h : s.resetDue = none) :
    s.askReset a = { s with resetDue := some a, wokeAt := if 2 ≤ s.power then s.now else s.wokeAt } := by
  by_cases hp : 2 ≤ s.power
  · simp [State.askReset, hf, h, hp]
  · simp [State.askReset, hf, h, hp]

theorem State.askReset_joins {s : State} (a : ResetAsk) {b : ResetAsk} (hf : s.failing = false)
    (h : s.resetDue = some b) : s.askReset a = { s with resetDue := some (b.join a) } := by
  simp [State.askReset, hf, h]

theorem State.askReset_failing {s : State} (a : ResetAsk) (h : s.failing = true) : s.askReset a = s := if_pos h

theorem exec_rstNAssert_released {s : State} (h : s.phase ≠ .held) :
    exec .rstNAssert s = .next (s.askReset { cause := 1 }) :=
  congrArg Host.Outcome.next (if_neg h)

theorem exec_rstNAssert_held {s : State} (h : s.phase = .held) : exec .rstNAssert s = .next s :=
  congrArg Host.Outcome.next (if_pos h)

/-- While registers answer the unit is up, and so neither stopped nor in reset. -/
theorem State.phase_of_isUp {s : State} (h : s.isUp = true) : s.phase = .up := by simpa [State.isUp] using h

theorem State.isUp_of_answers {s : State} (h : s.answers = true) : s.isUp = true := by
  simp only [State.answers, Bool.and_eq_true] at h
  exact h.2

theorem State.isUp_of_romServes {s : State} (h : s.romServes = true) : s.isUp = true := by
  simp only [State.romServes, Bool.and_eq_true] at h
  exact h.1

/-! What a warm reset keeps of the registers -/

theorem tget_filter_none {α : Type} (keep : Nat → Bool) {k : Nat} (h : keep k = false) (m : NMap α) :
    tget (m.filter fun e => keep e.1) k = none := by
  induction m with
  | nil => rfl
  | cons e r ih =>
    cases he : keep e.1 with
    | false => rwa [List.filter_cons_of_neg (by simp [he])]
    | true =>
      have hne : e.1 ≠ k := fun hk => by simp [← hk, he] at h
      rw [List.filter_cons_of_pos (by simp [he])]
      simp [tget, hne, ih]

/-- A field that is not listed is not listed after fields are put back to cold values that fit. -/
theorem tget_cold_none {s : State} {k : Nat} (h : tget s.regs k = none) {fs : List Fld}
    (hfs : ∀ f ∈ fs, f.cold < 2 ^ f.w) : tget (s.cold fs).regs k = none := by
  induction fs generalizing s with
  | nil => exact h
  | cons f r ih =>
    refine ih ?_ fun g hg => hfs g (List.mem_cons_of_mem _ hg)
    have hcold : f.cold % 2 ^ f.w = f.cold := Nat.mod_eq_of_lt (hfs f List.mem_cons_self)
    show tget (tput s.regs f.key (f.cold % 2 ^ f.w) f.cold) k = none
    rw [hcold, tput, if_pos rfl]
    by_cases hk : k = f.key
    · rw [hk, tget_tdel_same]
    · rw [tget_tdel_other hk, h]

theorem traceAndCounters_cold_fit : ∀ f ∈ trcFields ++ fltCounters, f.cold < 2 ^ f.w := by
  intro f hf
  rcases List.mem_append.1 hf with h | h
  · clear hf
    revert f
    simp [trcFields, List.range_succ, R.TRC_CTL_en, R.TRC_CTL_mode, R.TRC_CTL_class, R.TRC_STATUS_wr_ptr,
      R.TRC_STATUS_wrapped, R.TRC_STATUS_stopped, R.TRC_ENTRIES_count, R.TRC_EVT_cause, R.TRC_STOP_DROP_CNT_count,
      R.TRC_EVT_CNT_count]
  · obtain ⟨n, -, hn⟩ := List.mem_flatMap.1 h
    rcases List.mem_pair.1 hn with rfl | rfl
    · exact Nat.two_pow_pos _
    · exact Nat.two_pow_pos _

/-- GLB_RESET_CAUSE and the level of PERST_N, shown after a warm reset. -/
def causeShown (s : State) (a : ResetAsk) (perst : Nat) : State :=
  (((s.put R.GLB_RESET_CAUSE_cause a.cause).flag R.GLB_RESET_CAUSE_switch_req a.switch).put R.GLB_RESET_CAUSE_mid
    (if a.cause = 2 then a.mid else 0)).put R.INT_LINK_perst_n perst

theorem causeShown_cause (s : State) (a : ResetAsk) (perst : Nat) :
    (causeShown s a perst).get R.GLB_RESET_CAUSE_cause = a.cause % 2 ^ R.GLB_RESET_CAUSE_cause.w := by
  have hs : R.GLB_RESET_CAUSE_cause.key ≠ R.GLB_RESET_CAUSE_switch_req.key := by decide
  have hm : R.GLB_RESET_CAUSE_cause.key ≠ R.GLB_RESET_CAUSE_mid.key := by decide
  have hp : R.GLB_RESET_CAUSE_cause.key ≠ R.INT_LINK_perst_n.key := by decide
  rw [causeShown, State.get_put_other _ _ hp, State.get_put_other _ _ hm, State.get_flag_other _ _ hs,
    State.get_put_same]

theorem causeShown_only (s : State) (a : ResetAsk) (perst : Nat) :
    Only s (causeShown s a perst) [R.GLB_RESET_CAUSE_cause, R.GLB_RESET_CAUSE_switch_req, R.GLB_RESET_CAUSE_mid,
      R.INT_LINK_perst_n] :=
  ((((Only.refl s _).put (by simp) _).flag (by simp) _).put (by simp) _).put (by simp) _

/-- What a warm or unit reset leaves, before its cause is shown: registers that it does not keep are cold, and work is
gone. -/
structure WarmCleared (t : State) : Prop where
  resetDue : t.resetDue = none
  phase : t.phase = .asserted
  coldBoot : t.coldBoot = false
  progs : t.progs = []
  ops : t.ops = []
  sqs : t.sqs = []
  wqs : t.wqs = []
  sram : t.sram = []
  regs : ∀ k, keepsWarm k = false → tget t.regs k = none

/-- At the exit from KEEP and OFF the trace and the collector's counters are lost too (R610, R684). -/
theorem WarmCleared.loseTrace {t : State} (h : WarmCleared t) {fs : List Fld} (hfit : ∀ f ∈ fs, f.cold < 2 ^ f.w) :
    WarmCleared { t.cold fs with trcBuf := [], sinkLag := 0 } := by
  obtain ⟨hreset, hphase, hcold, hprogs, hops, hsqs, hwqs, hsram, hregs⟩ := h
  have hrec : t.cold fs = { t with regs := (t.cold fs).regs } := by
    clear hfit hregs hreset hphase hcold hprogs hops hsqs hwqs hsram
    induction fs generalizing t with
    | nil => rfl
    | cons f r ih =>
      show (t.put f f.cold).cold r = _
      rw [ih]
      rfl
  have hlost (k : Nat) (hk : keepsWarm k = false) : tget (t.cold fs).regs k = none := tget_cold_none (hregs k hk) hfit
  generalize (t.cold fs).regs = m at hlost hrec
  rw [hrec]
  exact ⟨hreset, hphase, hcold, hprogs, hops, hsqs, hwqs, hsram, hlost⟩

theorem WarmCleared.ite {a b : State} {c : Prop} [Decidable c] (ha : WarmCleared a) (hb : WarmCleared b) :
    WarmCleared (if c then a else b) := by
  split <;> assumption

theorem warmReset_cleared (s : State) (a : ResetAsk) :
    ∃ t perst, s.warmReset a = causeShown t a perst ∧ WarmCleared t := by
  have hkept (m : NMap Nat) (k : Nat) (h : keepsWarm k = false) : tget (m.filter fun e => keepsWarm e.1) k = none :=
    tget_filter_none keepsWarm h m
  have hfit := traceAndCounters_cold_fit
  unfold State.warmReset
  generalize trcFields ++ fltCounters = fs at hfit ⊢
  extract_lets u kept cold t0 lost t
  clear_value u
  have ht0 : WarmCleared t0 := ⟨rfl, rfl, rfl, rfl, rfl, rfl, rfl, rfl, hkept u.regs⟩
  exact ⟨t, u.get R.INT_LINK_perst_n, rfl, (ht0.loseTrace hfit).ite ht0⟩

/-- What a warm or unit reset leaves (R19–R21): the cause shown, registers that it does not keep cold, work gone. -/
theorem warmReset_leaves (s : State) (a : ResetAsk) :
    (s.warmReset a).resetDue = none ∧ (s.warmReset a).phase = .asserted ∧ (s.warmReset a).coldBoot = false ∧
      (s.warmReset a).get R.GLB_RESET_CAUSE_cause = a.cause % 2 ^ R.GLB_RESET_CAUSE_cause.w ∧
      (s.warmReset a).progs = [] ∧ (s.warmReset a).ops = [] ∧ (s.warmReset a).sqs = [] ∧ (s.warmReset a).wqs = [] ∧
      (s.warmReset a).sram = [] ∧
      ∀ f : Fld, keepsWarm f.key = false →
        f.key ∉ [R.GLB_RESET_CAUSE_cause.key, R.GLB_RESET_CAUSE_switch_req.key, R.GLB_RESET_CAUSE_mid.key,
          R.INT_LINK_perst_n.key] → (s.warmReset a).get f = f.cold := by
  obtain ⟨t, perst, heq, hreset, hphase, hcold, hprogs, hops, hsqs, hwqs, hsram, hregs⟩ := warmReset_cleared s a
  rw [heq]
  refine ⟨hreset, hphase, hcold, causeShown_cause t a perst, hprogs, hops, hsqs, hwqs, hsram, fun f hk hf => ?_⟩
  rw [(causeShown_only t a perst).2 f hf, State.get, hregs f.key hk]
  rfl

theorem State.resetEffect_of_due {s : State} {a : ResetAsk} (h : s.resetDue = some a) :
    s.resetEffect = (s.ldgShutdown 3).warmReset a := by
  simp only [State.resetEffect, h]

theorem State.resetEffect_of_none {s : State} (h : s.resetDue = none) : s.resetEffect = s := by
  simp only [State.resetEffect, h]

theorem State.glbResetWrite_key {s : State} {mid v : Nat} (hup : s.isUp = true) (hk : bits v 16 16 = 0xD740)
    (hb : v.testBit 0 = true) (hm : [0, 1, 2, 4].contains mid = true) :
    s.glbResetWrite mid v = s.askReset { cause := 2, switch := v.testBit 1 && mid == 2, mid := mid } := by
  have hp : s.phase ≠ .halted := by simp [State.phase_of_isUp hup]
  rw [State.glbResetWrite, if_neg hp, if_pos (by rw [hk, hb, hm]; rfl)]
  rfl

theorem State.glbResetWrite_other {s : State} {mid v : Nat} (hk : bits v 16 16 ≠ 0xD740) :
    s.glbResetWrite mid v = s := by
  simp [State.glbResetWrite, hk]

theorem exec_watchdogKick (s : State) (mid value) : exec (.watchdogKick mid value) s =
    .next (if s.answers = true ∧ mid.toNat = 2 ∧ value.toNat = 0x4B1C then { s with wdogAt := s.now } else s) := by
  have hv : value.toNat % 65536 = value.toNat := Nat.mod_eq_of_lt value.isLt
  refine congrArg Host.Outcome.next ?_
  cases h : s.answers with
  | false => simp [State.whenUp_of_not_answers h]
  | true => simp [State.whenUp_of_answers h, State.wdogKick, hv]

theorem exec_romLockstep_early {s : State} (h : s.phase = .asserted ∨ s.phase = .noClock) :
    exec .romLockstep s = .next (s.warmReset { cause := 6 }) :=
  congrArg Host.Outcome.next (if_pos (by simpa using h))

theorem exec_romLockstep_serving {s : State} (h : s.romServes = true) :
    exec .romLockstep s = .next (s.askReset { cause := 6 }) := by
  have hp := State.phase_of_isUp (State.isUp_of_romServes h)
  exact congrArg Host.Outcome.next ((if_neg (by simp [hp])).trans (if_pos h))

/-- Settles O7: each event by its condition; a reset that takes effect by what a warm reset leaves. -/
theorem resetsAskedAndTaken : Obligations.ResetsAskedAndTaken := by
  intro s
  refine ⟨fun hp hf => ⟨fun hn => ?_, fun a ha => ?_⟩, fun h => ?_, fun mid value hup hk hb hm => ?_,
    fun mid value hk => ?_, fun a ha => ?_, fun hn => ?_, fun hd => ?_, fun hd => ?_, exec_watchdogKick s,
    exec_romLockstep_early, exec_romLockstep_serving, fun hc hup hr => ?_, fun h => ?_⟩
  · rw [exec_rstNAssert_released hp, State.askReset_first _ hf hn]
  · refine ⟨a.join { cause := 1 }, ?_, a.join_pin_cause, a.join_switch _⟩
    rw [exec_rstNAssert_released hp, State.askReset_joins _ hf ha]
  · by_cases hp : s.phase = .held
    · exact exec_rstNAssert_held hp
    · rw [exec_rstNAssert_released hp, State.askReset_failing _ (h.resolve_left hp)]
  · refine congrArg Host.Outcome.next ((State.whenUp_of_answers hup _).trans ?_)
    exact State.glbResetWrite_key (State.isUp_of_answers hup) hk hb hm
  · refine congrArg Host.Outcome.next ?_
    simp only [State.whenUp, State.glbResetWrite_other hk, ite_self]
  · refine ⟨_, ?_, warmReset_leaves (s.ldgShutdown 3) a⟩
    exact next_settle_congr (State.resetEffect_of_due ha)
  · exact next_settle_congr (State.resetEffect_of_none hn)
  · exact congrArg Host.Outcome.next (if_pos hd)
  · exact congrArg Host.Outcome.next (if_neg (by simp [hd]))
  · refine ⟨_, next_settle_congr (if_neg ?_), rfl⟩
    simp [hc, hup, hr]
  · refine next_settle_congr (if_pos ?_)
    rcases h with h | h | h <;> simp [h]

end Sys2Proof.Machine

end

section

namespace Sys2Proof.Machine

/-! ### Lands and ports configured (O53) -/

theorem bits_low (v w : Nat) : bits v 0 w = v % 2 ^ w := by simp [bits]

theorem selOk_of_landFn {n sel : Nat} {f : PinFn} (h : landFn n sel = some f) : selOk n sel = true := by
  simp [selOk, h]

section PinWrite

variable {s : State} {n mid v : Nat}

theorem pinWrite_locked (h : s.on R.PIN_CTL_lock = true) : s.pinWrite n mid v = s.pinRaise n 2 := if_pos h

theorem pinWrite_reserved (hl : s.on R.PIN_CTL_lock = false) (hs : selOk n (v % 8) = false) :
    s.pinWrite n mid v = ((s.writeOthers mid v (R.PIN_CFG_sel n)).pinRaise n 1).pinParkField n := by
  have hb : bits v 0 3 = v % 8 := bits_low v 3
  simp [State.pinWrite, hl, hb, hs]

theorem pinWrite_same (hl : s.on R.PIN_CTL_lock = false) (hs : selOk n (v % 8) = true)
    (ho : v % 8 = s.get (R.PIN_CFG_sel n)) :
    s.pinWrite n mid v = (s.writeOthers mid v (R.PIN_CFG_sel n)).pinParkField n := by
  have hb : bits v 0 3 = v % 8 := bits_low v 3
  rw [ho] at hs hb
  simp [State.pinWrite, hl, hb, hs]

theorem pinWrite_taken (hl : s.on R.PIN_CTL_lock = false) {f : PinFn} (hf : landFn n (v % 8) = some f)
    (ho : v % 8 ≠ s.get (R.PIN_CFG_sel n)) (ht : (s.writeOthers mid v (R.PIN_CFG_sel n)).fnTaken n f = true) :
    s.pinWrite n mid v = ((s.writeOthers mid v (R.PIN_CFG_sel n)).pinRaise n 0).pinParkField n := by
  have hb : bits v 0 3 = v % 8 := bits_low v 3
  simp [State.pinWrite, hl, hb, selOk_of_landFn hf, ho, hf, ht]

theorem pinWrite_switch (hl : s.on R.PIN_CTL_lock = false) (hs : selOk n (v % 8) = true)
    (ho : v % 8 ≠ s.get (R.PIN_CFG_sel n))
    (ht : ∀ f, landFn n (v % 8) = some f → (s.writeOthers mid v (R.PIN_CFG_sel n)).fnTaken n f = false) :
    s.pinWrite n mid v = (s.writeOthers mid v (R.PIN_CFG_sel n)).pinSwitch n (v % 8) := by
  have hb : bits v 0 3 = v % 8 := bits_low v 3
  cases hf : landFn n (v % 8) with
  | none => simp [State.pinWrite, hl, hb, hs, ho, hf]
  | some f => simp [State.pinWrite, hl, hb, hs, ho, hf, ht f hf]

/-- What a write of PIN_CFGn does is what the rules of the pin multiplexer say (R71, R74, R86–R89). -/
theorem pinWrite_written {done : State → Prop} (h : done (s.pinWrite n mid v)) : PinWritten s n mid v done := by
  refine ⟨fun hl => ?_, fun hl => ⟨fun hs => ?_, fun hs ho => ?_, fun f hf ho ht => ?_, fun hs ho ht => ?_⟩⟩
  · rwa [pinWrite_locked hl] at h
  · rwa [pinWrite_reserved hl hs] at h
  · rwa [pinWrite_same hl hs ho] at h
  · rwa [pinWrite_taken hl hf ho ht] at h
  · rwa [pinWrite_switch hl hs ho ht] at h

end PinWrite

theorem exec_pinSelect {s : State} (h : s.answers = true) (n mid v) :
    exec (.pinSelect n mid v) s = .next (settle (s.pinWrite n mid.toNat v.toNat)) :=
  next_settle_congr (State.whenUp_of_answers h _)

theorem exec_pinConfigWrite {s : State} (h : s.answers = true) (n mid v) : exec (.pinConfigWrite n mid v) s =
    .next (settle (s.pinWrite n mid.toNat (v.toNat / 8 * 8 + s.get (R.PIN_CFG_sel n)))) :=
  next_settle_congr (State.whenUp_of_answers h _)

/-! The end of a park interval -/

section Settled

variable {s : State} {n : Nat}

theorem pinSettled_idle (h : s.on (R.PIN_CFG_busy n) = false) : s.pinSettled n = s := if_pos (by simp [h])

theorem pinSettled_unattached (h : s.on (R.PIN_CFG_busy n) = true) (hf : landFn n (s.get (R.PIN_CFG_sel n)) = none) :
    s.pinSettled n = s.put (R.PIN_CFG_busy n) 0 := by
  simp [State.pinSettled, h, hf]

theorem pinSettled_stopped (h : s.on (R.PIN_CFG_busy n) = true) {f : PinFn}
    (hf : landFn n (s.get (R.PIN_CFG_sel n)) = some f) (hr : (s.put (R.PIN_CFG_busy n) 0).fnRuns f = false) :
    s.pinSettled n = s.put (R.PIN_CFG_busy n) 0 := by
  simp [State.pinSettled, h, hf, hr]

theorem pinSettled_attached (h : s.on (R.PIN_CFG_busy n) = true) {f : PinFn}
    (hf : landFn n (s.get (R.PIN_CFG_sel n)) = some f) (hr : (s.put (R.PIN_CFG_busy n) 0).fnRuns f = true) :
    s.pinSettled n = (s.put (R.PIN_CFG_busy n) 0).pinAttach n (s.get (R.PIN_CFG_sel n)) := by
  simp [State.pinSettled, h, hf, hr]

variable {sel : Nat}

theorem pinAttach_gpio : s.pinAttach n 3 =
    { s.put (R.PIN_CFG_attached n) 3 with
      gpioIn := putBit s.gpioIn (n % 48) (s.gpioOut.testBit (n % 48)) }.gpioSeen (n % 48) false := rfl

theorem pinAttach_cts (h : sel ≠ 3) {m : Nat} (hf : landFn n sel = some ⟨.ser, m, 3⟩) :
    s.pinAttach n sel = (s.put (R.PIN_CFG_attached n) sel).ctsSeen m := by
  simp [State.pinAttach, h, hf]

theorem pinAttach_lxb (h : sel ≠ 3) {i sig : Nat} (hf : landFn n sel = some ⟨.lxb, i, sig⟩) :
    s.pinAttach n sel = if 26 ≤ sig ∧ s.lxbIrq.testBit (sig - 26) = true
      then (s.put (R.PIN_CFG_attached n) sel).lxbIrqHigh (sig - 26) else s.put (R.PIN_CFG_attached n) sel := by
  simp [State.pinAttach, h, hf]

theorem pinAttach_other (h : sel ≠ 3) {f : PinFn} (hf : landFn n sel = some f) (hcts : ∀ m, f ≠ ⟨.ser, m, 3⟩)
    (hlxb : f.cls ≠ .lxb) : s.pinAttach n sel = s.put (R.PIN_CFG_attached n) sel := by
  simp only [State.pinAttach, if_neg h, hf]
  split
  · next m hm => exact absurd (Option.some.inj hm) (hcts m)
  · next i sig hi => exact absurd (congrArg PinFn.cls (Option.some.inj hi)) hlxb
  · rfl

end Settled

/-! The lock and GPIO edges -/

theorem pinLock_closed {s : State} (mid : Nat) (h : s.get R.PIN_CTL_lock ≠ 0) :
    s.takes R.PIN_CTL_lock mid = false := by
  have hself : R.PIN_CTL_lock.selfLock = true := rfl
  simp [State.takes, State.unlocked, hself, h]

theorem pinCtlWrite_taken {s : State} {mid : Nat} (v : Nat) (h : s.takes R.PIN_CTL_lock mid = true) :
    s.pinCtlWrite mid v = s.put R.PIN_CTL_lock (v % 2) := by
  have hpart : R.PIN_CTL_lock.fitted (R.PIN_CTL_lock.part v) = v % 2 := by
    simp [Fld.fitted, Fld.part, R.PIN_CTL_lock, bits_low]
  simp only [State.pinCtlWrite, State.writeFlds, List.foldl_cons, List.foldl_nil, State.writeFld, h]
  exact congrArg (s.put R.PIN_CTL_lock) hpart

theorem pinCtlWrite_refused {s : State} {mid : Nat} (v : Nat) (h : s.takes R.PIN_CTL_lock mid = false) :
    s.pinCtlWrite mid v = s := by
  simp [State.pinCtlWrite, State.writeFlds, State.writeFld, h]

theorem exec_pinLock {s : State} (h : s.answers = true) (mid v) :
    exec (.pinLock mid v) s = .next (s.pinCtlWrite mid.toNat v.toNat) :=
  congrArg Host.Outcome.next (State.whenUp_of_answers h _)

theorem gpioSeen_same {s : State} {pin : Nat} {old : Bool} (h : s.gpioLevel pin = old) : s.gpioSeen pin old = s :=
  if_pos h

theorem gpioSeen_changed {s : State} {pin : Nat} {old : Bool} (h : s.gpioLevel pin ≠ old) : s.gpioSeen pin old =
    (s.portEvent clsGpio 0 (if s.gpioLevel pin then 0x07 else 0x08) (· == pin)).portEvent clsGpio 0 0x09 (· == pin) :=
  if_neg h

theorem gpioEdge_attached {s : State} {pin : Nat} (level : Bool) (h : s.attached ⟨.gpio, pin, 0⟩ = true) :
    s.gpioEdge pin level =
      { s with gpioIn := putBit s.gpioIn pin level }.gpioSeen pin (s.gpioLevel pin) := if_pos h

theorem gpioEdge_detached {s : State} {pin : Nat} (level : Bool) (h : s.attached ⟨.gpio, pin, 0⟩ = false) :
    s.gpioEdge pin level = s := if_neg (by simp [h])

/-- KATTN_IN is driven by the level at KATTN_OUT and by the unit's own attention (R165), which the level does not
change. -/
theorem kattnIn_put_kattnOut (s : State) (level : Bool) :
    (s.put R.CHN_KC_ATTN_kattn_out (b2n level)).kattnIn = (level || s.ownAttention) := by
  have hown : (s.put R.CHN_KC_ATTN_kattn_out (b2n level)).ownAttention = s.ownAttention := by
    have hu : R.CHN_KC_ATTN_unassigned.key ≠ R.CHN_KC_ATTN_kattn_out.key := by decide
    have hc : R.CHN_KC_ATTN_cause.key ≠ R.CHN_KC_ATTN_kattn_out.key := by decide
    have he : R.CHN_KC_ATTN_en.key ≠ R.CHN_KC_ATTN_kattn_out.key := by decide
    simp only [State.ownAttention, State.kcCauses, State.kcEnables, State.get_put_other _ _ hu,
      State.get_put_other _ _ hc, State.get_put_other _ _ he]
  have hlevel : (s.put R.CHN_KC_ATTN_kattn_out (b2n level)).on R.CHN_KC_ATTN_kattn_out = level := by
    rw [State.on, State.get_put_same]
    cases level <;> rfl
  rw [State.kattnIn, hown, hlevel]

/-- Settles O53: the writes of PIN_CFGn, the park interval, the lock and the edges by their rules. -/
theorem landsAndPortsAreConfigured : Obligations.LandsAndPortsAreConfigured := by
  intro s
  refine ⟨fun level => ⟨rfl, kattnIn_put_kattnOut s level⟩, fun hup n mid v => ⟨?_, ?_⟩, fun t n => rfl,
    fun hdown => ⟨fun n mid v => ⟨?_, ?_, ?_⟩, fun p mid v => ⟨?_, ?_⟩⟩, fun n => ⟨fun hb => ?_, fun hb hf => ?_,
      fun f hb hf => ⟨fun hr => ?_, fun hr => ?_⟩⟩, fun mid v hup => ⟨fun ht => ?_, fun ht => ?_⟩,
    fun mid h => pinLock_closed mid.toNat h, fun pin level => ⟨fun h => ?_, fun h => ⟨fun he => ?_, fun he => ?_⟩⟩⟩
  · exact pinWrite_written (exec_pinSelect hup n mid v)
  · exact pinWrite_written (exec_pinConfigWrite hup n mid v)
  · exact next_settle_congr (State.whenUp_of_not_answers hdown _)
  · exact next_settle_congr (State.whenUp_of_not_answers hdown _)
  · exact congrArg Host.Outcome.next (State.whenUp_of_not_answers hdown _)
  · exact next_settle_congr (State.whenUp_of_not_answers hdown _)
  · exact next_settle_congr (State.whenUp_of_not_answers hdown _)
  · exact next_settle_congr (pinSettled_idle hb)
  · exact next_settle_congr (pinSettled_unattached hb hf)
  · exact next_settle_congr (pinSettled_stopped hb hf hr)
  · have hends {t : State}
        (h : (s.put (R.PIN_CFG_busy n) 0).pinAttach n (s.get (R.PIN_CFG_sel n)) = t) :
        exec (.parkIntervalEnd n) s = .next (settle t) :=
      next_settle_congr ((pinSettled_attached hb hf hr).trans h)
    refine ⟨fun h3 => ?_, fun m h3 hm => ?_, fun i sig h3 hi => ⟨fun h26 hirq => ?_, fun h => ?_⟩,
      fun h3 hcts hlxb => ?_⟩
    · exact hends (by rw [h3, pinAttach_gpio]; rfl)
    · exact hends (pinAttach_cts h3 (hm ▸ hf))
    · exact hends ((pinAttach_lxb h3 (hi ▸ hf)).trans (if_pos ⟨h26, hirq⟩))
    · refine hends ((pinAttach_lxb h3 (hi ▸ hf)).trans (if_neg fun ⟨h26, hirq⟩ => ?_))
      have hlow : s.lxbIrq.testBit (sig - 26) = false := h.resolve_left (by omega)
      exact Bool.false_ne_true (hlow.symm.trans hirq)
    · exact hends (pinAttach_other h3 hf hcts hlxb)
  · rw [exec_pinLock hup, pinCtlWrite_taken _ ht]
  · rw [exec_pinLock hup, pinCtlWrite_refused _ ht]
  · exact next_settle_congr (gpioEdge_detached level h)
  · exact next_settle_congr ((gpioEdge_attached level h).trans (gpioSeen_same he))
  · exact next_settle_congr ((gpioEdge_attached level h).trans (gpioSeen_changed he))

end Sys2Proof.Machine

end

section

namespace Sys2Proof.Machine

/-! ### Register accesses (O9) -/

/-! One field, and the fields of one register, written -/

theorem State.writeFld_other (t s : State) (mid v : Nat) {f g : Fld} (h : g.key ≠ f.key) :
    (t.writeFld s mid v f).get g = t.get g := by
  have hput (x : Nat) : (t.put f x).get g = t.get g := State.get_put_other _ _ h
  unfold State.writeFld
  split
  · rfl
  · split
    · split
      · exact hput _
      · rfl
    · split
      · exact hput _
      · rfl
    · exact hput _
    · exact hput _
    · rfl

theorem Only.writeFld {s t : State} {fs : List Fld} (h : Only s t fs) {f : Fld} (hf : f ∈ fs) (mid v : Nat) :
    Only s (t.writeFld s mid v f) fs := by
  unfold State.writeFld
  split
  · exact h
  · split
    · split
      · exact h.put hf _
      · exact h
    · split
      · exact h.put hf _
      · exact h
    · exact h.put hf _
    · exact h.put hf _
    · exact h

/-- A field that still reads as in `s` is written by its access code (R8, R12, R13). -/
theorem State.writeFld_written {s t : State} (mid v : Nat) {f : Fld} (h : t.get f = s.get f) :
    Written s (t.writeFld s mid v f) mid v f := by
  unfold Written State.writeFld
  cases ht : s.takes f mid with
  | false => simpa using h
  | true =>
    cases f.acc with
    | rw =>
      cases ha : f.allows (f.part v) with
      | false => simpa using h
      | true => simp
    | rwl =>
      cases ha : f.allows (f.part v) with
      | false => simpa using h
      | true => simp
    | w1c => simp [h]
    | w1s => simp [h]
    | ro | wo | rc | derived => simpa using h

theorem writeFlds_fold_other (s : State) (mid v : Nat) {fs : List Fld} {g : Fld} (h : g.key ∉ fs.map Fld.key)
    (t : State) : (fs.foldl (fun t f => t.writeFld s mid v f) t).get g = t.get g := by
  induction fs generalizing t with
  | nil => rfl
  | cons f r ih =>
    rw [List.map_cons, List.mem_cons, not_or] at h
    rw [List.foldl_cons, ih h.2, State.writeFld_other _ _ _ _ h.1]

theorem writeFlds_fold_written {s : State} (mid v : Nat) {fs : List Fld} (hd : (fs.map Fld.key).Nodup) {t : State}
    (h : ∀ f ∈ fs, t.get f = s.get f) :
    ∀ f ∈ fs, Written s (fs.foldl (fun t f => t.writeFld s mid v f) t) mid v f := by
  induction fs generalizing t with
  | nil => simp
  | cons g r ih =>
    rw [List.map_cons, List.nodup_cons] at hd
    obtain ⟨hg, hr⟩ := hd
    intro f hf
    rcases List.mem_cons.1 hf with rfl | hf
    · rw [List.foldl_cons, Written, writeFlds_fold_other s mid v hg]
      exact State.writeFld_written mid v (h f List.mem_cons_self)
    · refine ih hr (fun e he => ?_) f hf
      have hne : e.key ≠ g.key := fun hk => hg (hk ▸ List.mem_map_of_mem he)
      rw [State.writeFld_other _ _ _ _ hne]
      exact h e (List.mem_cons_of_mem _ he)

/-- A write of fields with keys of their own writes each of them by its access code. -/
theorem State.writeFlds_written (s : State) (mid v : Nat) {fs : List Fld} (hd : (fs.map Fld.key).Nodup) :
    ∀ f ∈ fs, Written s (s.writeFlds mid v fs) mid v f :=
  writeFlds_fold_written mid v hd fun _ _ => rfl

theorem Only.writeFlds_fold {s t : State} {gs : List Fld} (h : Only s t gs) (mid v : Nat) {fs : List Fld}
    (hfs : ∀ f ∈ fs, f ∈ gs) : Only s (fs.foldl (fun t f => t.writeFld s mid v f) t) gs := by
  induction fs generalizing t with
  | nil => exact h
  | cons f r ih => exact ih (h.writeFld (hfs f List.mem_cons_self) mid v) fun g hg => hfs g (List.mem_cons_of_mem _ hg)

theorem State.writeFlds_only (s : State) (mid v : Nat) (fs : List Fld) : Only s (s.writeFlds mid v fs) fs :=
  (Only.refl s fs).writeFlds_fold mid v fun _ h => h

/-! A register without behaviour of its own -/

theorem regAt_off {mid off : Nat} {r : RegAt} (h : regAt mid off = some r) : r.off = off := by
  obtain ⟨b, -, hb⟩ := List.exists_of_findSome?_eq_some h
  obtain ⟨fs, -, rfl⟩ := Option.map_eq_some_iff.1 hb
  rfl

/-- The offset of a register without behaviour of its own is outside the mailboxes. -/
theorem PlainAt.not_mailbox {s : State} {mid off : Nat} {r : RegAt} (h : PlainAt s mid off r) :
    (0x8000 ≤ r.off && decide (r.off < 0x9000)) = false := by
  obtain ⟨-, -, -, hmap⟩ := h.map
  rw [regAt_off h.reg]
  simp only [Bool.and_eq_false_iff, decide_eq_false_iff_not]
  omega

theorem PlainAt.storeReg {s : State} {w : Who} {off : Nat} {r : RegAt} (h : PlainAt s w.mid off r) (v : Nat) :
    s.storeReg w r v = s.writeFlds w.mid v r.flds := by
  have hact : ((actsA ++ actsB ++ actsC).findSome? fun a =>
      (placeAt a.base a.dims r.off).map fun is => a.act s w is v) = none := by
    rw [regAt_off h.reg]
    have hno := h.noAct
    rw [List.findSome?_eq_none_iff] at hno ⊢
    exact fun a ha => by rw [hno a ha, Option.map_none]
  rw [State.storeReg, if_neg (by simp [h.not_mailbox]), hact]

theorem PlainAt.save {s : State} {w : Who} {off : Nat} {r : RegAt} (h : PlainAt s w.mid off r) (v : Nat) :
    s.save w off .word v = s.writeFlds w.mid (v % 2 ^ 32) r.flds := by
  obtain ⟨hlt, hmsix, hftm, -⟩ := h.map
  have hstore : State.storeWord (16 + 1) s w off (v % 2 ^ 32) = s.storeReg w r (v % 2 ^ 32) := by
    simp only [State.storeWord, hmsix, hftm, h.noSlot, h.reg, h.narrow, if_neg (Nat.not_le.2 hlt)]
    simp
  rw [State.save, if_pos h.aligned]
  exact hstore.trans (h.storeReg _)

theorem PlainAt.loadReg {s : State} {w : Who} {off : Nat} {r : RegAt} (h : PlainAt s w.mid off r) (uncorr : Bool) :
    s.loadReg w r uncorr = (s, s.value w.mid r) := by
  obtain ⟨hevq, hpeak, hlock, hsem, htrc⟩ := h.noRead
  rw [← regAt_off h.reg] at hevq hpeak hlock hsem htrc
  rw [State.loadReg, if_neg (by simp [h.not_mailbox]), if_neg hevq, if_neg hpeak, hsem]
  simp [hlock, htrc]

theorem PlainAt.load {s : State} {w : Who} {off : Nat} {r : RegAt} (h : PlainAt s w.mid off r) (uncorr : Bool) :
    s.load w off .word uncorr = (s, s.value w.mid r) := by
  obtain ⟨hlt, hmsix, hftm, -⟩ := h.map
  rw [State.load, if_pos h.aligned]
  simp [State.loadWord, hmsix, hftm, h.reg, h.narrow, Nat.not_le.2 hlt, h.loadReg]

/-! Accesses refused, aliased and turned away -/

/-- An access that is narrow or not aligned to its width (R15, R16). -/
def Misplaced (width : Width) (off : Nat) : Prop :=
  width = .narrow ∨ width = .word ∧ off % 4 ≠ 0 ∨ width = .long ∧ off % 8 ≠ 0

theorem Misplaced.save {s : State} {w : Who} {off : Nat} {width : Width} (h : Misplaced width off) (v : Nat) :
    s.save w off width v = s.accessRefused off w := by
  rcases h with rfl | ⟨rfl, ha⟩ | ⟨rfl, ha⟩
  · rfl
  · exact if_neg ha
  · exact if_pos ha

theorem Misplaced.load {s : State} {w : Who} {off : Nat} {width : Width} (h : Misplaced width off) (uncorr : Bool) :
    s.load w off width uncorr = (s.accessRefused off w, 0) := by
  rcases h with rfl | ⟨rfl, ha⟩ | ⟨rfl, ha⟩
  · rfl
  · exact if_neg ha
  · exact if_pos ha

theorem Misplaced.not_burst {width : Width} {off : Nat} (h : Misplaced width off) : ∀ n, width ≠ .burst n := by
  rcases h with rfl | ⟨rfl, -⟩ | ⟨rfl, -⟩ <;> exact nofun

theorem not_burst_of_word_or_long {width : Width} (h : width = .word ∨ width = .long) : ∀ n, width ≠ .burst n := by
  rcases h with rfl | rfl <;> exact nofun

theorem longRequest_none {target : Target} {width : Width} (h : ∀ n, width ≠ .burst n) :
    longRequest target width = none := by
  cases width with
  | burst n => exact absurd rfl (h n)
  | narrow | word | long => rfl

theorem longRequest_bar2 (off : BitVec 26) (width : Width) : longRequest (.bar2 off) width = none := by
  cases width <;> rfl

theorem longRequest_config (r : CfgReg) (width : Width) : longRequest (.config r) width = none := by
  cases width <;> rfl

/-- What a master is given by a read: the value, and a function its completion (R230). -/
def State.given (s : State) (mid x : Nat) : State :=
  if mid < 2 then { s with readData := x }.complete (.completion 0 x) else { s with readData := x }

section Access

variable {s : State} {w : Who} {target : Target} {width : Width}

theorem State.writeAt_not_accepted (h : s.accepts w target = false) (v : Nat) : s.writeAt w target width v = s :=
  if_pos (by simp [h])

theorem State.readAt_not_accepted (h : s.accepts w target = false) (u : Bool) : s.readAt w target width u = s :=
  if_pos (by simp [h])

theorem State.writeAt_unsupported (ha : s.accepts w target = true) (hu : s.unsupported w.mid target = true) (v : Nat) :
    s.writeAt w target width v = s.inboundBad w.mid .unsupportedPosted := by
  simp [State.writeAt, ha, hu]

theorem State.readAt_unsupported (ha : s.accepts w target = true) (hu : s.unsupported w.mid target = true) (u : Bool) :
    s.readAt w target width u = s.inboundBad w.mid .unsupportedRead := by
  simp [State.readAt, ha, hu]

/-- An access that is performed and not too long (R230). -/
theorem State.writeAt_performed (ha : s.accepts w target = true) (hu : s.unsupported w.mid target = false)
    (hl : longRequest target width = none) (v : Nat) : s.writeAt w target width v = s.targetWrite w target width v := by
  simp [State.writeAt, ha, hu, hl]

theorem State.readAt_performed (ha : s.accepts w target = true) (hu : s.unsupported w.mid target = false)
    (hb : ∀ n, width ≠ .burst n) (u : Bool) : s.readAt w target width u =
      (s.targetRead w target width u).1.given w.mid (s.targetRead w target width u).2 := by
  have hl : longRequest target width = none := longRequest_none hb
  cases width with
  | burst n => exact absurd rfl (hb n)
  | narrow | word | long => simp [State.readAt, ha, hu, hl, State.given]

theorem State.readAt_config {r : CfgReg} (ha : s.accepts w (.config r) = true) (u : Bool) :
    s.readAt w (.config r) width u = s.given w.mid (s.cfgRead w.mid r) := by
  simp [State.readAt, ha, State.unsupported, longRequest_config, State.targetRead, State.given]

theorem State.writeAt_long {off : BitVec 20} {n} (ha : s.accepts w (.bar0 off) = true)
    (hu : s.unsupported w.mid (.bar0 off) = false) (hm : w.mid < 2) (v : Nat) :
    s.writeAt w (.bar0 off) (.burst n) v = s.inboundBad w.mid (.longWrite off) := by
  simp [State.writeAt, ha, hu, hm, longRequest]

theorem State.readAt_long {off : BitVec 20} {n} (ha : s.accepts w (.bar0 off) = true)
    (hu : s.unsupported w.mid (.bar0 off) = false) (hm : w.mid < 2) (u : Bool) :
    s.readAt w (.bar0 off) (.burst n) u = s.inboundBad w.mid (.longRead off) := by
  simp [State.readAt, ha, hu, hm, longRequest]

theorem State.readAt_page {off : BitVec 26} {n} (ha : s.accepts w (.bar2 off) = true)
    (hu : s.unsupported w.mid (.bar2 off) = false) (u : Bool) :
    s.readAt w (.bar2 off) (.burst n) u = s.pageRead w.mid off.toNat n.toNat := by
  simp [State.readAt, ha, hu]

end Access

theorem bar4Alias_page {off : Nat} (h : off % 4096 < 0x100) :
    bar4Alias off = some (0x8000 + off / 4096 * 0x100 + off % 4096) := if_pos h

theorem bar4Alias_outside {off : Nat} (h : 0x100 ≤ off % 4096) : bar4Alias off = none := if_neg (Nat.not_lt.2 h)

/-! The commands -/

theorem exec_registerWrite (s : State) (mid origin) (target : Target) (width v) (h : ∀ a, target ≠ .mem a) :
    exec (.registerWrite mid origin target width v) s =
      .next (settle (s.writeAt (who mid origin) target width v.toNat).reready) := by
  cases target with
  | mem a => exact absurd rfl (h a)
  | bar0 | bar2 | bar4 | config => rfl

theorem exec_registerRead (s : State) (mid origin) (target : Target) (width u) (h : ∀ a, target ≠ .mem a) :
    exec (.registerRead mid origin target width u) s =
      .next (settle (s.readAt (who mid origin) target width u)) := by
  cases target with
  | mem a => exact absurd rfl (h a)
  | bar0 | bar2 | bar4 | config => rfl

theorem exec_windowAccessDone_not_answers {s : State} (h : s.answers = false) :
    exec .windowAccessDone s = .next (settle s) :=
  next_settle_congr (if_pos (by simp [h]))

/-- Every other command that is an access of one register acts only while registers answer (R98, R138). -/
theorem exec_registerCommand (c : Instr) (s : State) (hc : registerCommand c = true) (hw : c ≠ .windowAccessDone) :
    ∃ f, exec c s = .next (s.whenUp f) ∨ exec c s = .next (settle (s.whenUp f)) := by
  cases c with
  | windowAccessDone => exact absurd rfl hw
  | interruptRearm fn value => exact ⟨fun t => t.rearm fn value.toNat, .inl rfl⟩
  | glbResetWarm | watchdogKick | pintlePortEnable | adminEnable | adminDisable | crHeadDoorbell
  | queueConfig | timSet | timRate | timSlew | crossTimestamp | semaphoreRead | lxbLockRead | exportedWrite | pairHold
  | measure | thmPeakRead | repair | traceClear | pinLock => exact ⟨_, .inl rfl⟩
  | retrain | pintlePortDisable | tumblerRead | tumblerRelease | mailboxGo | mailboxPop | keywayBind | keywayLock
  | sqDoorbell | resumeDoorbell | dropPkt | canEnable | portEnable | portDisable | autoRecoverWrite | ethEnable
  | farSlotCmd | fabricFarAccess | semaphoreRelease | lxbLockRelease | routingEntryCommit | firmwareAppend
  | sealRequest | segmentRelease | thmLimWrite | thmDutyWrite | faultSourceConfig | deadboltWrite | faultEventPop
  | quarantineClear | faultInjection | retireSe | rowRequest | clearLane | hostMark | lifecycleRequest | pinSelect
  | pinConfigWrite => exact ⟨_, .inr rfl⟩
  | _ => exact absurd hc Bool.false_ne_true

theorem registerCommand_without_effect (c : Instr) {s : State} (hc : registerCommand c = true)
    (h : s.answers = false) : exec c s = .next s ∨ exec c s = .next (settle s) := by
  by_cases hw : c = .windowAccessDone
  · exact .inr (hw ▸ exec_windowAccessDone_not_answers h)
  · obtain ⟨f, hf⟩ := exec_registerCommand c s hc hw
    rwa [State.whenUp_of_not_answers h] at hf

/-- Settles O9: the accesses by target and width, and the other register commands by `whenUp`. -/
theorem registerAccessByCode : Obligations.RegisterAccessByCode := by
  intro s mid origin v u width w wrote gave
  have hwrote {target : Target} (hmem : ∀ a, target ≠ .mem a) {t : State}
      (h : s.writeAt w target width v.toNat = t) : wrote target t :=
    h ▸ exec_registerWrite s mid origin target width v hmem
  have hread {target : Target} (hmem : ∀ a, target ≠ .mem a) {t : State} (h : s.readAt w target width u = t) :
      exec (.registerRead mid origin target width u) s = .next (settle t) :=
    h ▸ exec_registerRead s mid origin target width u hmem
  have hgave {target : Target} (hmem : ∀ a, target ≠ .mem a) {t : State} {x : Nat}
      (h : s.readAt w target width u = t.given mid.toNat x) : gave target t x := hread hmem h
  have hbar0 {off : BitVec 20} (a) : Target.bar0 off ≠ .mem a := nofun
  have hbar2 {off : BitVec 26} (a) : Target.bar2 off ≠ .mem a := nofun
  have hbar4 {off : BitVec 16} (a) : Target.bar4 off ≠ .mem a := nofun
  have hconfig {r : CfgReg} (a) : Target.config r ≠ .mem a := nofun
  refine ⟨fun off r ha hu => ?_, fun off ha hu => ?_, fun off ha hu hw => ?_, fun r ha => ?_,
    fun target hm ha hu => ⟨hwrote hm (State.writeAt_unsupported ha hu _), hread hm (State.readAt_unsupported ha hu u)⟩,
    fun target hm ha => ⟨hwrote hm (State.writeAt_not_accepted ha _), hread hm (State.readAt_not_accepted ha u)⟩,
    fun a f t h => ?_, fun a h => ?_, fun c hc hup => registerCommand_without_effect c hc hup⟩
  · have hsave (hb : ∀ n, width ≠ .burst n) : s.writeAt w (.bar0 off) width v.toNat = s.save w off.toNat width v.toNat :=
      State.writeAt_performed ha hu (longRequest_none hb) _
    have hload (hb : ∀ n, width ≠ .burst n) : s.readAt w (.bar0 off) width u =
        (s.load w off.toNat width u).1.given mid.toNat (s.load w off.toNat width u).2 :=
      State.readAt_performed ha hu hb u
    refine ⟨fun hp hw => ?_, fun hp hw => ?_, fun hm => ?_, fun hw => ?_, fun n hw hmid => ?_⟩
    · subst hw
      exact ⟨_, hwrote hbar0 ((hsave nofun).trans (hp.save v.toNat)), State.writeFlds_only s _ _ _,
        State.writeFlds_written s _ _ hp.apart⟩
    · subst hw
      exact hgave hbar0 ((hload nofun).trans (congrArg (fun x => x.1.given mid.toNat x.2) (PlainAt.load (w := w) hp u)))
    · have hb : ∀ n, width ≠ .burst n := Misplaced.not_burst hm
      exact ⟨hwrote hbar0 ((hsave hb).trans (Misplaced.save hm _)),
        hgave hbar0 ((hload hb).trans (congrArg (fun x => x.1.given mid.toNat x.2) (Misplaced.load hm u)))⟩
    · have hb : ∀ n, width ≠ .burst n := not_burst_of_word_or_long hw
      exact ⟨hwrote hbar0 (hsave hb), hgave hbar0 (hload hb)⟩
    · subst hw
      exact ⟨hwrote hbar0 (State.writeAt_long ha hu hmid _), hread hbar0 (State.readAt_long ha hu hmid u)⟩
  · refine ⟨hwrote hbar2 (State.writeAt_performed ha hu (longRequest_bar2 off width) _), fun hw => ?_, fun n hw => ?_⟩
    · have hreads := State.readAt_performed ha hu (not_burst_of_word_or_long (.inl hw)) u
      subst hw
      exact hgave hbar2 hreads
    · subst hw
      exact hread hbar2 (State.readAt_page ha hu u)
  · have hb : ∀ n, width ≠ .burst n := not_burst_of_word_or_long hw
    have hwrites := State.writeAt_performed ha hu (longRequest_none hb) v.toNat
    have hreads := State.readAt_performed ha hu hb u
    refine ⟨fun ho => ⟨hwrote hbar4 (hwrites.trans ?_), hgave hbar4 (hreads.trans ?_)⟩,
      fun ho => ⟨hwrote hbar4 (hwrites.trans ?_), hgave hbar4 (hreads.trans ?_)⟩⟩
    · simp only [State.targetWrite, bar4Alias_outside ho]
    · simp only [State.targetRead, bar4Alias_outside ho]
      rfl
    · simp only [State.targetWrite, bar4Alias_page ho]
    · simp only [State.targetRead, bar4Alias_page ho]
      rfl
  · have hwrites := State.writeAt_performed (width := width) ha (w := w) rfl (longRequest_config r width) v.toNat
    exact ⟨hwrote hconfig hwrites, hgave hconfig (State.readAt_config ha u)⟩
  · have hw : s.registerWrite w (.mem a) width v.toNat = s.writeAt { mid := f } t width v.toNat := by
      simp only [State.registerWrite, h]
    have hr : s.registerRead w (.mem a) width u = s.readAt { mid := f } t width u := by
      simp only [State.registerRead, h]
    exact ⟨congrArg (fun x : State => Host.Outcome.next (settle x.reready)) hw,
      next_settle_congr hr⟩
  · have hw : s.registerWrite w (.mem a) width v.toNat = s.unmatched false := by simp only [State.registerWrite, h]
    have hr : s.registerRead w (.mem a) width u = s.unmatched true := by simp only [State.registerRead, h]
    exact ⟨congrArg (fun x : State => Host.Outcome.next (settle x.reready)) hw,
      next_settle_congr hr⟩

end Sys2Proof.Machine

end

section

namespace Sys2Proof.Machine

/-! ### What the end of a step leaves of the mailboxes (for O26)

`settle` neither writes a channel nor a binding of one: the collector and its actions write other registers. -/

/-- A field outside KWY_BIND. -/
def OutsideBind (f : Fld) : Prop := f.key < 0x9000 * 64 ∨ 0x9040 * 64 ≤ f.key

theorem outsideBind_above {f : Fld} (h : 0x9040 ≤ f.off) : OutsideBind f := by
  refine .inr ?_
  simp only [Fld.key]
  omega

theorem outsideBind_below {f : Fld} (h : f.off < 0x9000) (hl : f.lo < 64) : OutsideBind f := by
  refine .inl ?_
  simp only [Fld.key]
  omega

theorem outsideBind_msixPending (f : Nat) : OutsideBind (R.MSIX_PBA_pending f) :=
  outsideBind_above (by simp only [R.MSIX_PBA_pending]; omega)

/-- The error registers of configuration space lie above the map of BAR0. -/
theorem outsideBind_aerStatus (f : Nat) (e : Aer) : OutsideBind (e.status f) := by
  have hoff : (e.status f).off = 0x1000014 + 0x100 * f := by cases e <;> rfl
  exact outsideBind_above (by rw [hoff]; omega)

theorem outsideBind_devStatus (f : Nat) (fatal : Bool) :
    OutsideBind (if fatal then R.CFG_DEVSTA_fatal f else R.CFG_DEVSTA_nonfatal f) := by
  split
  · exact outsideBind_above (by simp only [R.CFG_DEVSTA_fatal]; omega)
  · exact outsideBind_above (by simp only [R.CFG_DEVSTA_nonfatal]; omega)

theorem outsideBind_quarBit {cls idx b : Nat} {f : Fld} (h : quarBit cls idx = some (f, b)) : OutsideBind f := by
  have hport : f = R.FLT_QUAR_PORT0_port ∨ f = R.FLT_QUAR_PORT1_port := by
    unfold quarBit at h
    split_ifs at h <;> simp_all
  rcases hport with rfl | rfl
  · exact outsideBind_below (by decide) (by decide)
  · exact outsideBind_below (by decide) (by decide)

/-- From `s` to `t` no channel and no binding of one has changed. -/
structure MailKept (s t : State) : Prop where
  chans : t.chans = s.chans
  binds : ∀ k, 0x9000 * 64 ≤ k → k < 0x9040 * 64 → tget t.regs k = tget s.regs k

theorem MailKept.refl (s : State) : MailKept s s := ⟨rfl, fun _ _ _ => rfl⟩

theorem MailKept.ite {s0 a b : State} {c : Prop} [Decidable c] (ha : MailKept s0 a) (hb : MailKept s0 b) :
    MailKept s0 (if c then a else b) := by
  split <;> assumption

theorem MailKept.fst_ite {β : Type} {s0 : State} {a b : State × β} {c : Prop} [Decidable c] (ha : MailKept s0 a.1)
    (hb : MailKept s0 b.1) : MailKept s0 (if c then a else b).1 := by
  split <;> assumption

theorem MailKept.foldl {β : Type} {s0 s : State} {f : State → β → State} (h : MailKept s0 s)
    (hf : ∀ t x, MailKept s0 t → MailKept s0 (f t x)) (l : List β) : MailKept s0 (l.foldl f s) := by
  induction l generalizing s with
  | nil => exact h
  | cons x r ih => exact ih (hf s x h)

theorem MailKept.foldl_fst {β γ : Type} {s0 : State} {a : State × γ} {f : State × γ → β → State × γ}
    (h : MailKept s0 a.1) (hf : ∀ t x, MailKept s0 t.1 → MailKept s0 (f t x).1) (l : List β) :
    MailKept s0 (l.foldl f a).1 := by
  induction l generalizing a with
  | nil => exact h
  | cons x r ih => exact ih (hf a x h)

section MailKept

variable {s0 s : State} (h : MailKept s0 s)
include h

/-- Other fields of the record written. -/
theorem MailKept.same {t : State} (hc : t.chans = s.chans) (hr : t.regs = s.regs) : MailKept s0 t :=
  ⟨hc.trans h.chans, fun k hlo hhi => (congrArg (tget · k) hr).trans (h.binds k hlo hhi)⟩

theorem MailKept.put {f : Fld} (hf : OutsideBind f) (v : Nat) : MailKept s0 (s.put f v) := by
  refine ⟨h.chans, fun k hlo hhi => ?_⟩
  have hne : k ≠ f.key := fun e => by
    rcases hf with hf | hf <;> omega
  exact (tget_tput_other _ _ hne).trans (h.binds k hlo hhi)

theorem MailKept.count {f : Fld} (hf : OutsideBind f) (n : Nat) : MailKept s0 (s.count f n) := h.put hf _

theorem MailKept.raise {evt cnt : Fld} (he : OutsideBind evt) (hc : OutsideBind cnt) (bit : Nat) :
    MailKept s0 (s.raise evt bit cnt) := (h.put he _).count hc _

theorem MailKept.raiseF {evt cnt : Fld} (he : OutsideBind evt) (hc : OutsideBind cnt) (bit src res : Nat) :
    MailKept s0 (s.raiseF evt bit cnt src res) := (h.raise he hc bit).same rfl rfl

/-! Buffers, chains and flash -/

theorem MailKept.flashOp (addr : Nat) : MailKept s0 (s.flashOp addr).1 := by
  unfold State.flashOp
  split
  · exact h
  · exact h.same rfl rfl
  · exact h.same rfl rfl

theorem MailKept.qRaise (q bit : Nat) : MailKept s0 (s.qRaise q bit) := by
  have he : OutsideBind (R.BUF_Q_EVT_cause q) := outsideBind_above (by simp only [R.BUF_Q_EVT_cause]; omega)
  have hc : OutsideBind (R.BUF_Q_EVT_CNT_count q bit) :=
    outsideBind_above (by simp only [R.BUF_Q_EVT_CNT_count]; omega)
  exact (h.raiseF he hc _ _ _).ite (h.raise he hc _)

theorem MailKept.qWithdraw (q agent : Nat) : MailKept s0 (s.qWithdraw q agent) :=
  have hback : MailKept s0 ((s.qRollback q).qRelease q) := h.same rfl rfl
  (hback.qRaise q 3).ite (h.same rfl rfl)

theorem MailKept.setChain (c : Nat) (x : FChain) : MailKept s0 (s.setChain c x) :=
  MailKept.ite (h.same rfl rfl) (MailKept.ite (h.same rfl rfl) (h.same rfl rfl))

theorem MailKept.chainLost (c : Nat) (hand : Bool) : MailKept s0 (s.chainLost c hand) := by
  have ht : MailKept s0 (s.raise (R.BUF_CHAIN_EVT_cause c) 0 (R.BUF_CHAIN_CNT_count c 0)) :=
    h.raise (outsideBind_above (by simp only [R.BUF_CHAIN_EVT_cause]; omega))
      (outsideBind_above (by simp only [R.BUF_CHAIN_CNT_count]; omega)) 0
  exact MailKept.ite (ht.same rfl rfl) ht

theorem MailKept.chainPush (c : Nat) (item : List Nat) (hand : Bool) : MailKept s0 (s.chainPush c item hand).1 := by
  unfold State.chainPush
  refine MailKept.fst_ite ?_ (MailKept.fst_ite ?_ ?_)
  · exact h.setChain c _
  · exact h.chainLost c hand
  · exact (h.setChain c _).chainLost c hand

theorem MailKept.trace (c : TrcClass) (i : TrcItem) (hand : Bool) : MailKept s0 (s.trace c i hand) := by
  unfold State.trace State.tracePush
  split
  · exact h
  · split
    · exact h.same rfl rfl
    · exact h.chainPush 2 _ hand

/-! Host attachment -/

theorem MailKept.setFn (f : Nat) (x : Upstream) : MailKept s0 (s.setFn f x) :=
  MailKept.ite (h.same rfl rfl) (h.same rfl rfl)

theorem MailKept.ringRaise (m bit : Nat) : MailKept s0 (s.ringRaise m bit) :=
  h.raise (outsideBind_above (by simp only [R.QMG_CR_EVT_cause]; omega))
    (outsideBind_above (by simp only [R.QMG_CR_CNT_count]; omega)) bit

theorem MailKept.ringCount (m : Nat) : MailKept s0 (s.ringCount m) :=
  have hset : MailKept s0 (s.setRing m { s.ring m with count := 0 }) := h.same rfl rfl
  (hset.ringRaise m 0).ite (h.same rfl rfl)

theorem MailKept.issued (f : Nat) (k : PostKind) : MailKept s0 (s.issued f k) := by
  cases k with
  | final tag m =>
    have hfree : MailKept s0 (s.freeTag tag) := h.same rfl rfl
    exact hfree.ringCount m
  | record m => exact h.ringCount m
  | msix x =>
    exact (h.count (outsideBind_above (by simp only [R.INT_PF_MSG_CNT_count]; omega)) 1).put
      (outsideBind_msixPending f) _
  | _ => exact h

theorem MailKept.cplRelease (n : Nat) : MailKept s0 (State.cplRelease n s) := by
  induction n generalizing s with
  | zero => exact h
  | succ n ih =>
    unfold State.cplRelease
    split
    · exact h
    · exact MailKept.ite (ih (h.same rfl rfl)) h

theorem MailKept.drainPosts (f n : Nat) : MailKept s0 (State.drainPosts f n s) := by
  induction n generalizing s with
  | zero => exact h
  | succ n ih =>
    unfold State.drainPosts
    split
    · exact h
    · next p rest _ =>
      have hset : MailKept s0 (s.setFn f { s.fn f with posts := rest }) := h.setFn f _
      refine MailKept.ite h (ih (MailKept.issued ?_ f p.kind))
      exact hset.same rfl rfl

theorem MailKept.posts (f : Nat) (ps : List Post) : MailKept s0 (s.posts f ps) :=
  ((h.setFn f _).drainPosts f _).cplRelease _

theorem MailKept.postRecord (m tag sq kind index : Nat) (esw echo : List Byte) (k : PostKind) :
    MailKept s0 (s.postRecord m tag sq kind index esw echo k) :=
  have hset (x : Ring) : MailKept s0 (s.setRing m x) := h.same rfl rfl
  (hset _).posts _ _

theorem MailKept.errMessage (f kind : Nat) : MailKept s0 (s.errMessage f kind) := MailKept.ite (h.same rfl rfl) h

theorem MailKept.headerLog (f : Nat) (e : Aer) : MailKept s0 (s.headerLog f e) := by
  have hfirst : MailKept s0 (s.put (R.CFG_AER_CAP_first f) e.bit) :=
    h.put (outsideBind_above (by simp only [R.CFG_AER_CAP_first]; omega)) _
  have hdraw {t : State} (ht : MailKept s0 t) : MailKept s0 t.drawFree.1 := ht.same rfl rfl
  refine MailKept.ite h (MailKept.ite (hfirst.foldl (fun t i ht => ?_) _) hfirst)
  exact (hdraw ht).put (outsideBind_above (by simp only [R.CFG_HDRLOG_dword]; omega)) _

theorem MailKept.legacyError (f : Nat) (e : Aer) : MailKept s0 (s.legacyError f e) := by
  unfold State.legacyError
  split
  · exact h.put (outsideBind_above (by simp only [R.CFG_STATUS_sig_abort]; omega)) 1
  · exact h.put (outsideBind_above (by simp only [R.CFG_STATUS_parity]; omega)) 1
  · exact h

theorem MailKept.aer (f : Nat) (e : Aer) (quiet : Bool) : MailKept s0 (s.aer f e quiet) := by
  unfold State.aer
  extract_lets s1 s2 s3 fatal s4 enabled s5
  have h1 : MailKept s0 s1 := (h.headerLog f e).put (outsideBind_aerStatus f e) 1
  have h2 : MailKept s0 s2 := h1.legacyError f e
  have h3 : MailKept s0 s3 := (h2.put (outsideBind_above (by simp only [R.CFG_DEVSTA_ur]; omega)) 1).ite h2
  have h4 : MailKept s0 s4 := h3.put (outsideBind_devStatus f fatal) 1
  have h5 : MailKept s0 s5 := h4.errMessage f _
  have h6 : MailKept s0 (s5.put (R.CFG_STATUS_sig_error f) 1) :=
    h5.put (outsideBind_above (by simp only [R.CFG_STATUS_sig_error]; omega)) 1
  exact h3.ite (h4.ite (h6.ite h5))

theorem MailKept.levelFell (f x : Nat) : MailKept s0 (s.levelFell f x) := by
  have hdel : MailKept s0 { s with lastLevel := tdel s.lastLevel (4 * f + x) } := h.same rfl rfl
  exact MailKept.ite ((hdel.put (outsideBind_msixPending f) _).setFn f _) hdel

theorem MailKept.levelFalls : MailKept s0 s.levelFalls :=
  h.foldl (fun _ _ ht => MailKept.ite ht (ht.levelFell _ _)) _

end MailKept

end Sys2Proof.Machine

end

section

namespace Sys2Proof.Machine

theorem State.withOwner_src (s : State) (e : FaultEv) : (s.withOwner e).src = e.src := by
  unfold State.withOwner
  split <;> rfl

/-! Flits -/

section MailKept

variable {s0 s : State} (h : MailKept s0 s)
include h

theorem MailKept.setPt (p : Nat) (x : PtPort) : MailKept s0 (s.setPt p x) :=
  MailKept.ite (h.same rfl rfl) (h.same rfl rfl)

theorem MailKept.alignAll (p n : Nat) : MailKept s0 (s.alignAll p n) := by
  refine MailKept.foldl h (fun t k ht => ?_) _
  exact ht.same rfl rfl

theorem MailKept.txFlit (p : Nat) (f : Flit) : MailKept s0 (s.txFlit p f) := by
  have hset (x : PtPort) (o : Out) : MailKept s0 ((s.setPt p x).emit o) := (h.setPt p x).same rfl rfl
  exact MailKept.ite ((hset _ _).alignAll p _) (hset _ _)

theorem MailKept.freed (f : Flit) : MailKept s0 (s.freed f) := by
  unfold State.freed
  split
  · exact h.setPt _ _
  · exact h

theorem MailKept.pump (p n : Nat) : MailKept s0 (State.pump p n s) := by
  induction n generalizing s with
  | zero => exact h
  | succ n ih =>
    have hnext : OutsideBind (R.CHN_PT_SEQ_tx_next p) := outsideBind_above (by simp only [R.CHN_PT_SEQ_tx_next]; omega)
    unfold State.pump
    dsimp only
    split
    · exact h
    · split
      · exact h
      · exact ih ((((h.setPt p _).put hnext _).freed _).txFlit p _)

theorem MailKept.sendOn (p : Nat) (f : Flit) : MailKept s0 (s.sendOn p f) :=
  MailKept.ite ((h.setPt p _).pump p _) (h.freed f)

theorem MailKept.sendTo (type dst : Nat) (payload : List Byte) (poison : Bool) :
    MailKept s0 (s.sendTo type dst payload poison) := by
  unfold State.sendTo
  split
  · exact h
  · exact h.sendOn _ _

/-! Operations and programs -/

theorem MailKept.endOp (a status detail : Nat) : MailKept s0 (s.endOp a status detail) := by
  unfold State.endOp State.updOp
  split
  · exact h.same rfl rfl
  · exact h

theorem MailKept.withdraw (a : Nat) : MailKept s0 (s.withdraw a) := h.foldl (fun _ _ ht => ht.qWithdraw _ a) _

theorem MailKept.cancelFar (fn unit tag : Nat) : MailKept s0 (s.cancelFar fn unit tag) :=
  MailKept.ite (h.sendTo _ _ _ _) (h.same rfl rfl)

theorem MailKept.dropRest (o : Op) : MailKept s0 (s.dropRest o) := by
  unfold State.dropRest
  refine MailKept.ite h (MailKept.ite ?_ (MailKept.ite ?_ h))
  · split
    · exact h.same rfl rfl
    · exact h
  · split
    · exact h.same rfl rfl
    · exact h

theorem MailKept.stopOp (a : Nat) : MailKept s0 (s.stopOp a) := by
  unfold State.stopOp
  split
  · exact h
  · next o _ =>
    have hdrop : MailKept s0 (((s.withdraw a).dropRest o).dropAccess (o.token a)) :=
      ((h.withdraw a).dropRest o).same rfl rfl
    refine MailKept.ite (h.withdraw a) ?_
    dsimp only
    split
    · exact MailKept.ite (hdrop.cancelFar _ _ _) hdrop
    · exact hdrop

theorem MailKept.cheCause (status sq : Nat) : MailKept s0 (s.cheCause status sq) := by
  have hr (b : Nat) : MailKept s0 (s.raiseF R.CHE_EVT_cause b (R.CHE_EVT_CNT_count b) 11 sq) :=
    h.raiseF (outsideBind_above (by decide)) (outsideBind_above (by simp only [R.CHE_EVT_CNT_count]; omega)) b 11 sq
  exact MailKept.ite (hr 0) (MailKept.ite (hr 1) (MailKept.ite (hr 2) (MailKept.ite (hr 3) h)))

theorem MailKept.unreserve (m : Nat) : MailKept s0 (s.unreserve m) := h.same rfl rfl

theorem MailKept.finalize (tag status : Nat) (p : Prog) (e : EswOf) : MailKept s0 (s.finalize tag status p e) := by
  unfold State.finalize
  extract_lets st esw s1 s2 s3 s4 m
  have h1 : MailKept s0 (s1.setProg tag { p with st := .ended }) := h.same rfl rfl
  have h2 : MailKept s0 s2 := h1.setFn _ _
  have h3 : MailKept s0 s3 :=
    (h2.cheCause _ _).count (outsideBind_above (by simp only [R.CHE_END_CNT_count]; omega)) 1
  have h4 : MailKept s0 s4 := h3.trace _ _ _
  exact (h4.unreserve m).postRecord _ _ _ _ _ _ _ _

theorem MailKept.endProg (tag status detail : Nat) : MailKept s0 (s.endProg tag status detail) := by
  unfold State.endProg
  split
  · exact h
  · exact MailKept.ite h ((h.stopOp tag).finalize _ _ _ _)

theorem MailKept.endAll (tags : List Nat) (status detail : Nat) : MailKept s0 (s.endAll tags status detail) :=
  h.foldl (fun _ _ ht => ht.endProg _ status detail) _

theorem MailKept.sqTo (n st : Nat) : MailKept s0 (s.sqTo n st) :=
  have hset : MailKept s0 (s.setSq n { s.sq n with state := st }) := h.same rfl rfl
  hset.trace _ _ _

theorem MailKept.shutdown (n : Nat) : MailKept s0 (s.shutdown n) := by
  have hset (x : Sq) : MailKept s0 ((s.dropFetch n).setSq n x) := (h.setFn _ _).same rfl rfl
  exact ((hset _).sqTo n 2).endAll _ _ _

theorem MailKept.failOps (as : List Nat) (status detail : Nat) : MailKept s0 (s.failOps as status detail) :=
  h.foldl (fun _ a ht => (ht.withdraw a).endOp a status detail) _

/-! Ports -/

theorem MailKept.ethDrop (idx : Nat) : MailKept s0 (s.ethDrop idx) := by
  unfold State.ethDrop
  extract_lets t u
  have ht : MailKept s0 t := by
    unfold t
    split
    · exact h.same rfl rfl
    · exact h
  have hu : MailKept s0 u := (ht.put (outsideBind_above (by decide)) 0).ite ht
  have hdown := hu.put (f := R.ETH_STATUS_link idx) (outsideBind_above (by simp only [R.ETH_STATUS_link]; omega)) 0
  exact (hdown.raise (outsideBind_above (by simp only [R.ETH_EVT_cause]; omega))
    (outsideBind_above (by simp only [R.ETH_EVT_CNT_count]; omega)) 1).ite hu

theorem MailKept.dropPartial (cls idx : Nat) : MailKept s0 (s.dropPartial cls idx) := by
  unfold State.dropPartial
  refine MailKept.ite ?_ (MailKept.ite ?_ (MailKept.ite ?_ (MailKept.ite (h.ethDrop idx) h)))
  · split
    · exact h.same rfl rfl
    · exact h
  · split
    · exact h.same rfl rfl
    · exact h
  · split
    · exact h.same rfl rfl
    · exact h

theorem MailKept.stopPort (cls idx status detail : Nat) : MailKept s0 (s.stopPort cls idx status detail) := by
  unfold State.stopPort
  extract_lets t r under
  have hr : MailKept s0 r.1 := by
    refine MailKept.foldl_fst (a := (t, [])) (h.dropPartial cls idx) (fun u q hu => ?_) _
    exact hu.same rfl rfl
  exact hr.failOps _ _ _

theorem MailKept.portOff (cls idx status detail : Nat) : MailKept s0 (s.portOff cls idx status detail) :=
  (h.stopPort cls idx status detail).foldl (fun _ a ht => ht.endOp a status detail) _

/-! Talon -/

theorem MailKept.tlnRaise (bit : Nat) : MailKept s0 (s.tlnRaise bit) := by
  have he : OutsideBind R.TLN_EVT_cause := outsideBind_above (by decide)
  have hc : OutsideBind (R.TLN_EVT_CNT_count bit) := outsideBind_above (by simp only [R.TLN_EVT_CNT_count]; omega)
  exact MailKept.ite (h.raiseF he hc _ _ _) (h.raise he hc _)

theorem MailKept.jrnlTry (e : List Byte) : MailKept s0 (s.jrnlTry e).1 := by
  unfold State.jrnlTry
  extract_lets n a b x
  have hb : MailKept s0 b.1 := MailKept.fst_ite ((h.flashOp _).flashOp _) (h.flashOp _)
  exact MailKept.fst_ite (h.tlnRaise 7) (hb.same rfl rfl)

theorem MailKept.jrnlWrite (kind state target spare cause : Nat) :
    MailKept s0 (s.jrnlWrite kind state target spare cause) :=
  MailKept.ite (h.jrnlTry _) (MailKept.ite ((h.jrnlTry _).jrnlTry _) (((h.jrnlTry _).jrnlTry _).tlnRaise 6))

theorem MailKept.setTln (x : Talon) : MailKept s0 (s.setTln x) := h.same rfl rfl

theorem MailKept.markRetired (i taker logical cause : Nat) : MailKept s0 (s.markRetired i taker logical cause) :=
  ((h.setTln _).jrnlWrite _ _ _ _ _).tlnRaise 0

theorem MailKept.retireSe (i cause : Nat) : MailKept s0 (s.retireSe i cause).1 := by
  unfold State.retireSe
  refine MailKept.fst_ite (h.setTln _) (MailKept.fst_ite h ?_)
  split
  · split
    · exact h.tlnRaise 3
    · exact (h.markRetired _ _ _ _).setTln _
  · split
    · exact h.markRetired _ _ _ _
    · split
      · exact h.tlnRaise 3
      · have hmoved (x : Talon) (ps : NMap Prog) : MailKept s0 { s.setTln x with progs := ps } := h.same rfl rfl
        exact ((hmoved _ _).put (outsideBind_above (by decide)) 1).tlnRaise 0

theorem MailKept.queueBank (b cause : Nat) : MailKept s0 (s.queueBank b cause) :=
  MailKept.ite h ((h.setTln _).jrnlWrite _ _ _ _ _)

theorem MailKept.queueRow (bank word cause : Nat) : MailKept s0 (s.queueRow bank word cause).1 := by
  unfold State.queueRow
  refine MailKept.fst_ite h (MailKept.fst_ite (MailKept.fst_ite h (MailKept.fst_ite ?_ h)) (MailKept.fst_ite ?_ ?_))
  · exact h.queueBank bank cause
  · exact h.tlnRaise 4
  · exact ((h.setTln _).jrnlWrite _ _ _ _ _).tlnRaise 1

/-! The fault collector -/

theorem MailKept.safeStop (cause src : Nat) : MailKept s0 (s.safeStop cause src) := by
  have hsafe {t : State} (ht : MailKept s0 t) {f : Fld} (hf : f.off = 0x4848) (hl : f.lo < 64) (v : Nat) :
      MailKept s0 (t.put f v) := ht.put (outsideBind_below (by omega) hl) v
  have hattn : OutsideBind R.CHN_KC_ATTN_cause := outsideBind_above (by decide)
  have hcnt : OutsideBind (R.CHN_KC_CNT_count (4 - 1)) := outsideBind_above (by decide)
  have hrep : OutsideBind R.TLN_STATUS_repairing := outsideBind_above (by decide)
  have hshown := hsafe (hsafe (hsafe h (f := R.FLT_SAFE_active) rfl (by decide) 1)
    (f := R.FLT_SAFE_cause) rfl (by decide) cause) (f := R.FLT_SAFE_source) rfl (by decide) src
  have hstopped (tags : List Nat) (l : List (Nat × Sq)) :=
    (hshown.endAll tags stAborted 0).foldl (fun t e ht => ht.sqTo e.1 2) l
  exact MailKept.ite h (((((hstopped _ _).put hrep 0).raise hattn hcnt _).aer 0 .uncorInt false).aer 1 .uncorInt false)

theorem MailKept.quarQueue (n : Nat) : MailKept s0 (s.quarQueue n).1 := by
  have hoff : MailKept s0 s.adminDisable := (h.put (f := R.QMG_ADM_CTL_enable) (outsideBind_above (by decide)) 0).same rfl rfl
  unfold State.quarQueue
  exact MailKept.fst_ite (MailKept.fst_ite hoff h) (MailKept.fst_ite (h.shutdown n) h)

theorem MailKept.quarPort (cls idx : Nat) : MailKept s0 (s.quarPort cls idx).1 := by
  unfold State.quarPort
  split
  · exact h
  · next f b hf => exact MailKept.fst_ite h ((h.put (outsideBind_quarBit hf) _).portOff _ _ _ _)

theorem MailKept.applyAction (e : FaultEv) (action : Nat) : MailKept s0 (s.applyAction e action).1 := by
  unfold State.applyAction
  have hretire := h.retireSe (e.src - 80) (causeSource e.src)
  have hmarked (l : Nat) := hretire.markRetired (e.src - 80) 0x3F l (causeSource e.src)
  refine MailKept.fst_ite h (MailKept.fst_ite (MailKept.fst_ite (h.quarQueue _) (h.quarPort _ _)) (MailKept.fst_ite
    (MailKept.fst_ite (MailKept.fst_ite ?_ hretire) (h.queueRow _ _ _)) (MailKept.fst_ite (MailKept.fst_ite h ?_) h)))
  · exact MailKept.ite (hmarked _) ((hmarked _).safeStop _ _)
  · exact h.safeStop _ _

theorem MailKept.faultRecord (e : FaultEv) (severe : Bool) (action result count : Nat) :
    MailKept s0 (s.faultRecord e severe action result count) :=
  (h.chainPush 1 _ _).trace _ _ _

theorem MailKept.unownedRow (e : FaultEv) : MailKept s0 (s.unownedRow e) := MailKept.ite (h.queueRow _ _ _) h

theorem MailKept.ownedRow (e : FaultEv) : MailKept s0 (s.ownedRow e) := MailKept.ite (h.queueRow _ _ _) h

/-- An event of an assigned source: its registers lie below KWY_BIND. -/
theorem MailKept.countEvent (e0 : FaultEv) (he : e0.src < 119) : MailKept s0 (s.countEvent e0).1 := by
  have hsrc : (s.withOwner e0).src < 119 := (State.withOwner_src s e0).symm ▸ he
  unfold State.countEvent
  extract_lets e n s1 r s2 action a s3 s4 s5 s6
  have hn : n < 119 := hsrc
  have htotal : OutsideBind (R.FLT_SRC_TOTAL_count n) :=
    outsideBind_below (by simp only [R.FLT_SRC_TOTAL_count]; omega) (Nat.zero_lt_succ 63)
  have hstate : OutsideBind (R.FLT_SRC_STATE_count n) :=
    outsideBind_below (by simp only [R.FLT_SRC_STATE_count]; omega) (Nat.zero_lt_succ 63)
  have hpend : OutsideBind (R.FLT_PEND_pend (n / 32)) :=
    outsideBind_below (by simp only [R.FLT_PEND_pend]; omega) (Nat.zero_lt_succ 63)
  have hsev : OutsideBind (R.FLT_SRC_SEV_CNT_count n) :=
    outsideBind_below (by simp only [R.FLT_SRC_SEV_CNT_count]; omega) (Nat.zero_lt_succ 63)
  have h1 : MailKept s0 s1 := (h.unownedRow e).count htotal 1
  have h2 : MailKept s0 s2 := MailKept.ite (h1.same rfl rfl) h1
  have h3 : MailKept s0 s3 := (h2.applyAction e action).put hstate 0
  have h4 : MailKept s0 s4 := MailKept.ite (h3.faultRecord _ _ _ _ _) h3
  have h5 : MailKept s0 s5 := MailKept.ite (h4.same rfl rfl) h4
  have h6 : MailKept s0 s6 := h2.put hstate _
  refine MailKept.fst_ite (MailKept.fst_ite ?_ ?_) ?_
  · exact (h5.raise hpend hsev _).ownedRow e
  · exact h4.ownedRow e
  · exact (MailKept.ite (h6.faultRecord _ _ _ _ _) h6).ownedRow e

theorem MailKept.collect (severe : List Nat) (l : List FaultEv) : MailKept s0 (s.collect severe l).1 := by
  induction l generalizing s severe with
  | nil => exact h
  | cons e r ih =>
    unfold State.collect
    split
    · exact ih h _
    · next ha =>
      have he : e.src < 119 := by
        simp [srcAssigned] at ha
        exact ha.1
      split
      · exact ih (h.count (outsideBind_below (by simp only [R.FLT_SRC_TOTAL_count]; omega) (Nat.zero_lt_succ 63)) 1) _
      · exact ih (h.countEvent e he) _

theorem MailKept.settleRounds (n : Nat) (severe : List Nat) : MailKept s0 (State.settleRounds n severe s) := by
  induction n generalizing s severe with
  | zero => exact h.same rfl rfl
  | succ n ih =>
    have hclear : MailKept s0 { s with dueFaults := [] } := h.same rfl rfl
    exact MailKept.ite h (ih (hclear.collect severe _) _)

end MailKept

/-- The end of a step leaves the mailboxes. -/
theorem settle_mailKept (s : State) : MailKept s (settle s) := by
  have h := MailKept.refl s
  have hall : MailKept s s.collectAll := MailKept.ite h (MailKept.ite (h.settleRounds 16 []) (h.same rfl rfl))
  exact hall.levelFalls

end Sys2Proof.Machine

end

section

namespace Sys2Proof.Machine

/-! ### Host resets (O26) -/

theorem MailKept.chan {s t : State} (h : MailKept s t) (c : Nat) : t.chan c = s.chan c :=
  congrArg (fun m : NMap Chan => (tget m c).getD {}) h.chans

theorem MailKept.isReceiver {s t : State} (h : MailKept s t) (c : Fin 16) (mid : Nat) :
    t.isReceiver c mid = s.isReceiver c mid := by
  have hget {f : Fld} (ho : f.off = 0x9000 + 4 * c) (hl : f.lo < 64) : t.get f = s.get f := by
    have hc := c.isLt
    have hkey : f.key = f.off * 64 + f.lo := rfl
    exact congrArg (fun x : Option Nat => x.getD f.cold) (h.binds f.key (by omega) (by omega))
  have hvalid : t.get (R.KWY_BIND_valid c) = s.get (R.KWY_BIND_valid c) := hget rfl (by decide : 8 < 64)
  have hreceiver : t.get (R.KWY_BIND_receiver c) = s.get (R.KWY_BIND_receiver c) := hget rfl (by decide : 4 < 64)
  simp only [State.isReceiver, State.on, hvalid, hreceiver]

/-- States whose steps end alike agree on the mailboxes. -/
theorem chan_and_isReceiver_of_settle_eq {s t : State} (h : settle t = settle s) (c : Fin 16) (mid : Nat) :
    t.chan c = s.chan c ∧ t.isReceiver c mid = s.isReceiver c mid := by
  have ht := settle_mailKept t
  have hs := settle_mailKept s
  rw [h] at ht
  exact ⟨(ht.chan c).symm.trans (hs.chan c), (ht.isReceiver c mid).symm.trans (hs.isReceiver c mid)⟩

/-- A unit whose firmware reads data for a command of MID 1 that came by the mailbox of MID 0; channel 0 takes MID 2's
messages to MID 0. -/
def crossedCommand : State :=
  { State.reset with
    regs := [((R.KWY_BIND_sender 0).key, 2), ((R.KWY_BIND_valid 0).key, 1)]
    fwReads := [(0, { req := { asked := { via := .mailbox 1 0 0, code := 0x20, token := 0 }, mid := 1, ws := [] }
                      part := .table })] }

/-- The link goes down: the reset of function 1 answers the command into the queue of MID 0, which the reset of function
0 has emptied. -/
theorem crossedCommand_pcieDown : crossedCommand.pcieDown.isReceiver 0 0 = true ∧
    (crossedCommand.pcieDown.chan 0).queue ≠ [] := by
  decide +kernel

/-- Refutes O26: after a hot reset a message waits for MID 0 where firmware was reading for a command whose carrier is
MID 0's mailbox and whose sender is MID 1. -/
theorem not_hostResetsAndLink : ¬ Obligations.HostResetsAndLink := by
  intro h
  obtain ⟨-, -, hdown, -⟩ := h crossedCommand
  obtain ⟨t, hexec, hreset, -⟩ := hdown .hotReset (by simp)
  obtain ⟨-, -, -, -, -, -, -, -, -, -, hqueue⟩ := hreset
  have hsettle : settle t = settle crossedCommand.pcieDown := (Host.Outcome.next.inj hexec).symm
  obtain ⟨hchan, hreceiver⟩ := chan_and_isReceiver_of_settle_eq hsettle (0 : Fin 16) 0
  obtain ⟨hmine, hwaits⟩ := crossedCommand_pcieDown
  have hnone : ∀ e ∈ crossedCommand.fwReads, e.2.req.mid = 0 → e.2.req.queued = true := by decide
  have hempty := hqueue hnone 0 (by decide) (hreceiver.trans hmine)
  exact hwaits ((congrArg Chan.queue hchan).symm.trans hempty)

end Sys2Proof.Machine

end

section

namespace Sys2Proof.Machine

/-! ### Deadbolt (O32) -/

theorem BoundField.le {s t : State} {f : Fld} {v : Nat} {reserved tighter : Bool}
    (h : BoundField s t f v reserved tighter) (hv : tighter = true → v ≤ s.get f) : t.get f ≤ s.get f := by
  rw [h]
  split
  · next hc => exact hv (Bool.and_eq_true_iff.1 hc).2
  · exact Nat.le_refl _

theorem BoundField.ge {s t : State} {f : Fld} {v : Nat} {reserved tighter : Bool}
    (h : BoundField s t f v reserved tighter) (hv : tighter = true → s.get f ≤ v) : s.get f ≤ t.get f := by
  rw [h]
  split
  · next hc => exact hv (Bool.and_eq_true_iff.1 hc).2
  · exact Nat.le_refl _

theorem BoundField.congr {s s' t t' : State} {f : Fld} {v : Nat} {reserved tighter : Bool}
    (h : BoundField s t f v reserved tighter) (hs : s'.get f = s.get f) (ht : t'.get f = t.get f) :
    BoundField s' t' f v reserved tighter := by
  rw [BoundField, hs, ht, h]

/-! One field of a bound, and the fields of one register -/

theorem State.tighten_only (s : State) (f : Fld) (v : Nat) (reserved tighter : Bool) :
    Only s (s.tighten f v reserved tighter).1 [f] := by
  unfold State.tighten
  split_ifs
  · exact .refl s _
  · exact (Only.refl s _).put (by simp) v
  · exact .refl s _

theorem State.tighten_field (s : State) {f : Fld} {v : Nat} (hv : v < 2 ^ f.w) (reserved tighter : Bool) :
    BoundField s (s.tighten f v reserved tighter).1 f v reserved tighter := by
  unfold BoundField State.tighten
  by_cases hsame : v = s.get f
  · simp [← hsame]
  · cases reserved <;> cases tighter <;> simp [hsame, Nat.mod_eq_of_lt hv]

/-- What a write asks of one field of a bound. -/
structure BoundAsk where
  f : Fld
  v : Nat
  reserved : Bool
  tighter : Bool

/-- The ask is refused: its value is looser. -/
def BoundAsk.refused (s : State) (b : BoundAsk) : Bool := !b.reserved && !decide (b.v = s.get b.f) && !b.tighter

/-- The fields of a register of bounds tightened in turn, and whether one of them was refused. -/
def State.tightenAll (s : State) : List BoundAsk → State × Bool
  | [] => (s, false)
  | b :: r =>
    let x := s.tighten b.f b.v b.reserved b.tighter
    let y := x.1.tightenAll r
    (y.1, x.2 || y.2)

theorem State.tightenAll_pair (s : State) (a b : BoundAsk) :
    s.tightenAll [a, b] =
      let x := s.tighten a.f a.v a.reserved a.tighter
      let y := x.1.tighten b.f b.v b.reserved b.tighter
      (y.1, x.2 || y.2) := by
  simp only [State.tightenAll, Bool.or_false]

theorem State.tightenAll_triple (s : State) (a b c : BoundAsk) :
    s.tightenAll [a, b, c] =
      let x := s.tighten a.f a.v a.reserved a.tighter
      let y := x.1.tighten b.f b.v b.reserved b.tighter
      let z := y.1.tighten c.f c.v c.reserved c.tighter
      (z.1, x.2 || y.2 || z.2) := by
  simp only [State.tightenAll, Bool.or_false, Bool.or_assoc]

theorem State.tighten_refused (s : State) (b : BoundAsk) :
    (s.tighten b.f b.v b.reserved b.tighter).2 = b.refused s := by
  unfold State.tighten BoundAsk.refused
  split_ifs with h ht
  · rcases Bool.or_eq_true_iff.1 h with hr | hr <;> simp [hr]
  · simp [ht]
  · simp only [Bool.or_eq_true, not_or, Bool.not_eq_true] at h
    simp [h, ht]

theorem Only.mono {s t : State} {fs gs : List Fld} (h : Only s t fs) (hsub : fs ⊆ gs) : Only s t gs :=
  ⟨h.1, fun g hg => h.2 g fun hf => hg (List.map_subset _ hsub hf)⟩

theorem State.tightenAll_only (s : State) (bs : List BoundAsk) : Only s (s.tightenAll bs).1 (bs.map (·.f)) := by
  induction bs generalizing s with
  | nil => exact .refl s _
  | cons b r ih => exact (s.tighten_only b.f b.v b.reserved b.tighter).trans (ih _)

/-- Each field of the register is tightened by its own rule, whatever becomes of the others (R608). -/
theorem State.tightenAll_fields (s : State) {bs : List BoundAsk} (hd : (bs.map (·.f.key)).Nodup)
    (hv : ∀ b ∈ bs, b.v < 2 ^ b.f.w) :
    ∀ b ∈ bs, BoundField s (s.tightenAll bs).1 b.f b.v b.reserved b.tighter := by
  induction bs generalizing s with
  | nil => simp
  | cons a r ih =>
    rw [List.map_cons, List.nodup_cons] at hd
    obtain ⟨ha, hr⟩ := hd
    have hone := s.tighten_only a.f a.v a.reserved a.tighter
    intro b hb
    rcases List.mem_cons.1 hb with rfl | hb
    · refine (s.tighten_field (hv b List.mem_cons_self) b.reserved b.tighter).congr rfl ?_
      exact (State.tightenAll_only _ r).2 _ (by simpa using ha)
    · have hne : b.f.key ≠ a.f.key := fun e => ha (e ▸ List.mem_map_of_mem hb)
      exact (ih _ hr (fun c hc => hv c (List.mem_cons_of_mem _ hc)) b hb).congr (hone.2 _ (by simpa using hne)).symm rfl

theorem State.tightenAll_refused (s : State) {bs : List BoundAsk} (hd : (bs.map (·.f.key)).Nodup) :
    (s.tightenAll bs).2 = bs.any (BoundAsk.refused s) := by
  induction bs generalizing s with
  | nil => rfl
  | cons a r ih =>
    rw [List.map_cons, List.nodup_cons] at hd
    obtain ⟨ha, hr⟩ := hd
    have hsame : ∀ b ∈ r, b.refused (s.tighten a.f a.v a.reserved a.tighter).1 = b.refused s := fun b hb => by
      have hne : b.f.key ≠ a.f.key := fun e => ha (e ▸ List.mem_map_of_mem hb)
      rw [BoundAsk.refused, (s.tighten_only a.f a.v a.reserved a.tighter).2 b.f (by simpa using hne), BoundAsk.refused]
    have hrest : r.any (BoundAsk.refused (s.tighten a.f a.v a.reserved a.tighter).1) = r.any (BoundAsk.refused s) := by
      rw [Bool.eq_iff_iff, List.any_eq_true, List.any_eq_true]
      exact exists_congr fun b => and_congr_right fun hb => by rw [hsame b hb]
    rw [State.tightenAll, State.tighten_refused, ih _ hr, List.any_cons, hrest]

/-! A write of a register of bounds -/

/-- `t` is `s` but for the listed fields, the bounds that firmware has stored, and events for the collector. -/
def BoundsWritten (s t : State) (fs : List Fld) : Prop :=
  Only { s with dueFaults := t.dueFaults, nv := { s.nv with bounds := t.nv.bounds } } t fs

theorem Only.boundsWritten {s t : State} {fs : List Fld} (h : Only s t fs) : BoundsWritten s t fs := by
  obtain ⟨hrec, hget⟩ := h
  refine ⟨?_, hget⟩
  rw [hrec]

theorem BoundsWritten.get {s t : State} {fs : List Fld} (h : BoundsWritten s t fs) {f : Fld}
    (hf : f.key ∉ fs.map Fld.key) : t.get f = s.get f := h.2 f hf

theorem BoundsWritten.mono {s t : State} {fs gs : List Fld} (h : BoundsWritten s t fs) (hsub : fs ⊆ gs) :
    BoundsWritten s t gs := Only.mono h hsub

theorem BoundsWritten.trans {s u t : State} {fs gs : List Fld} (h : BoundsWritten s u fs) (h' : BoundsWritten u t gs) :
    BoundsWritten s t (fs ++ gs) := by
  obtain ⟨hu, hgetu⟩ := h
  obtain ⟨ht, hgett⟩ := h'
  refine ⟨?_, fun f hf => ?_⟩
  · rw [ht, hu]
  · rw [List.map_append, List.mem_append, not_or] at hf
    exact (hgett f hf.2).trans (hgetu f hf.1)

theorem boundStored_eq (s : State) (off old : Nat) (fs : List Fld) :
    s.boundStored off old fs = { s with nv := { s.nv with bounds := (s.boundStored off old fs).nv.bounds } } := by
  unfold State.boundStored
  split_ifs <;> rfl

theorem boundStored_get (s : State) (off old : Nat) (fs : List Fld) (f : Fld) :
    (s.boundStored off old fs).get f = s.get f := by
  rw [boundStored_eq]
  rfl

theorem boundStored_dueFaults (s : State) (off old : Nat) (fs : List Fld) :
    (s.boundStored off old fs).dueFaults = s.dueFaults := by
  rw [boundStored_eq]

theorem Only.boundStored {s u : State} {fs : List Fld} (h : Only s u fs) (off old : Nat) (gs : List Fld) :
    Only { s with nv := (u.boundStored off old gs).nv } (u.boundStored off old gs) fs := by
  obtain ⟨hrec, hget⟩ := h
  refine ⟨?_, fun f hf => (boundStored_get ..).trans (hget f hf)⟩
  rw [boundStored_eq, hrec]

theorem boundStored_boundsWritten (s : State) (off old : Nat) (fs : List Fld) :
    BoundsWritten s (s.boundStored off old fs) [] := by
  rw [boundStored_eq]
  exact ⟨rfl, fun _ _ => rfl⟩

/-- The fields of DBT_LAST, which show the last refused write (R608). -/
def lastFlds : List Fld := [R.DBT_LAST_offset, R.DBT_LAST_mid]

theorem dbtRefused_only (s : State) (off : Nat) :
    Only { s with dueFaults := s.dueFaults ++ [{ src := 4, res := bits off 2 18, mid := some 2 }] }
      (s.dbtRefused off 2) lastFlds :=
  ((Only.refl (s.boundRefused off 2) _).put (by simp [lastFlds]) _).put (by simp [lastFlds]) _

theorem dbtRefused_boundsWritten (s : State) (off : Nat) : BoundsWritten s (s.dbtRefused off 2) lastFlds := by
  obtain ⟨hrec, hget⟩ := dbtRefused_only s off
  refine ⟨?_, hget⟩
  rw [hrec]

theorem Only.dbtRefused {s u : State} {fs : List Fld} (h : Only { s with nv := u.nv } u fs) (off : Nat) :
    Only { s with
      nv := (u.dbtRefused off 2).nv
      dueFaults := s.dueFaults ++ [{ src := 4, res := bits off 2 18, mid := some 2 }] } (u.dbtRefused off 2)
      (fs ++ lastFlds) := by
  obtain ⟨hrec, hget⟩ := h
  obtain ⟨hrefused, hlast⟩ := (Only.refl (u.boundRefused off 2) fs).trans (dbtRefused_only u off)
  refine ⟨hrefused.trans ?_, fun f hf => (hlast f hf).trans (hget f fun hm => hf ?_)⟩
  · rw [hrec]
    rfl
  · rw [List.map_append]
    exact List.mem_append_left _ hm

theorem dbtRefused_last (s : State) (off : Nat) :
    (s.dbtRefused off 2).get R.DBT_LAST_offset = bits off 2 18 ∧ (s.dbtRefused off 2).get R.DBT_LAST_mid = 2 := by
  have hkey : R.DBT_LAST_offset.key ≠ R.DBT_LAST_mid.key := by decide
  refine ⟨?_, State.get_put_same _ _ _⟩
  rw [State.dbtRefused, State.get_put_other _ _ hkey, State.get_put_same]
  exact bits_mod off 2 18

/-- A write of a register of bounds taken in state `u`, and refused where it asks for a looser field. -/
def State.boundEnd (u : State) (off : Nat) (refused : Bool) : State := if refused then u.dbtRefused off 2 else u

theorem boundEnd_taken (u : State) (off : Nat) : u.boundEnd off false = u := if_neg Bool.false_ne_true

theorem boundEnd_refused (u : State) (off : Nat) : u.boundEnd off true = u.dbtRefused off 2 := if_pos rfl

theorem boundEnd_boundsWritten (u : State) (off : Nat) (refused : Bool) :
    BoundsWritten u (u.boundEnd off refused) lastFlds := by
  unfold State.boundEnd
  split_ifs
  · exact dbtRefused_boundsWritten u off
  · exact (Only.refl u _).boundsWritten

/-! DBT_FLTn -/

/-- The fields of DBT_FLTn. -/
def fltFlds (n : Nat) : List Fld := [R.DBT_FLT_n_max n, R.DBT_FLT_k_min n, R.DBT_FLT_action_min n]

/-- What a written value asks of the fields of DBT_FLTn. -/
def fltAsks (s : State) (n v : Nat) : List BoundAsk :=
  [{ f := R.DBT_FLT_n_max n, v := bits v 0 8, reserved := nReserved (bits v 0 8)
     tighter := bits v 0 8 < s.get (R.DBT_FLT_n_max n) },
   { f := R.DBT_FLT_k_min n, v := bits v 8 5, reserved := kReserved (bits v 8 5)
     tighter := s.get (R.DBT_FLT_k_min n) < bits v 8 5 },
   { f := R.DBT_FLT_action_min n, v := bits v 16 3, reserved := actCodeReserved (bits v 16 3)
     tighter := s.get (R.DBT_FLT_action_min n) < bits v 16 3 }]

theorem fltAsks_distinct (s : State) (n v : Nat) : ((fltAsks s n v).map (·.f.key)).Nodup := by
  simp [fltAsks, Fld.key, R.DBT_FLT_n_max, R.DBT_FLT_k_min, R.DBT_FLT_action_min]

theorem fltAsks_fit (s : State) (n v : Nat) : ∀ b ∈ fltAsks s n v, b.v < 2 ^ b.f.w := by
  simpa [fltAsks] using ⟨bits_lt v 0 8, bits_lt v 8 5, bits_lt v 16 3⟩

/-! FLT_SRCn_CFG taken back to its bounds -/

theorem State.get_putIf_same (s : State) (f : Fld) (ok : Bool) (v : Nat) :
    (s.putIf f ok v).get f = if ok then v % 2 ^ f.w else s.get f := by
  unfold State.putIf
  split_ifs
  · exact State.get_put_same ..
  · rfl

theorem Only.putIf {s t : State} {fs : List Fld} (h : Only s t fs) {f : Fld} (hf : f ∈ fs) (ok : Bool) (v : Nat) :
    Only s (t.putIf f ok v) fs := by
  unfold State.putIf
  split_ifs
  · exact h.put hf v
  · exact h

theorem State.get_putIf_other (s : State) {f g : Fld} (ok : Bool) (v : Nat) (h : g.key ≠ f.key) :
    (s.putIf f ok v).get g = s.get g :=
  ((Only.refl s [f]).putIf (by simp) ok v).2 g (by simpa using h)

/-- The fields of FLT_SRCn_CFG that have bounds. -/
def sourceFlds (n : Nat) : List Fld := [R.FLT_SRC_CFG_n n, R.FLT_SRC_CFG_k n, R.FLT_SRC_CFG_action n]

theorem source_keys (n : Nat) : (R.FLT_SRC_CFG_n n).key ≠ (R.FLT_SRC_CFG_k n).key ∧
    (R.FLT_SRC_CFG_n n).key ≠ (R.FLT_SRC_CFG_action n).key ∧
    (R.FLT_SRC_CFG_k n).key ≠ (R.FLT_SRC_CFG_action n).key := by
  simp [Fld.key, R.FLT_SRC_CFG_n, R.FLT_SRC_CFG_k, R.FLT_SRC_CFG_action]

/-- Fields of FLT_SRCn_CFG lie below every register of bounds. -/
theorem key_ne_source {n : Nat} (hn : n < 128) {f : Fld} (h : 0x5000 ≤ f.off) : f.key ∉ (sourceFlds n).map Fld.key := by
  simp [sourceFlds, Fld.key, R.FLT_SRC_CFG_n, R.FLT_SRC_CFG_k, R.FLT_SRC_CFG_action]
  omega

/-- The fields of FLT_SRCn_CFG are judged by the state at hand: none of them changes another or a bound. -/
theorem applyBound_eq (s : State) {n : Nat} (hn : n < 128) : s.applyBound n =
    ((s.putIf (R.FLT_SRC_CFG_n n) (s.nLooser n (s.get (R.FLT_SRC_CFG_n n))) (s.get (R.DBT_FLT_n_max n))).putIf
      (R.FLT_SRC_CFG_k n) (s.kLooser n (s.get (R.FLT_SRC_CFG_k n))) (s.get (R.DBT_FLT_k_min n))).putIf
      (R.FLT_SRC_CFG_action n) (s.actLooser n (s.get (R.FLT_SRC_CFG_action n))) (s.get (R.DBT_FLT_action_min n)) := by
  obtain ⟨hnk, hna, hka⟩ := source_keys n
  have hbound {f : Fld} (h : 0x5000 ≤ f.off) {g : Fld} (hg : g ∈ sourceFlds n) : f.key ≠ g.key := fun e =>
    key_ne_source hn h (e ▸ List.mem_map_of_mem hg)
  have hk : (R.DBT_FLT_k_min n).key ≠ (R.FLT_SRC_CFG_n n).key := hbound (Nat.le_add_right _ _) (by simp [sourceFlds])
  have ha : (R.DBT_FLT_action_min n).key ≠ (R.FLT_SRC_CFG_n n).key :=
    hbound (Nat.le_add_right _ _) (by simp [sourceFlds])
  have ha' : (R.DBT_FLT_action_min n).key ≠ (R.FLT_SRC_CFG_k n).key :=
    hbound (Nat.le_add_right _ _) (by simp [sourceFlds])
  have hstep (t : State) (f : Fld) (ok : Bool) (v : Nat) : (if ok = true then t.put f v else t) = t.putIf f ok v := rfl
  simp only [State.applyBound, hstep, State.kLooser, State.actLooser, State.get_putIf_other _ _ _ hk,
    State.get_putIf_other _ _ _ hnk.symm, State.get_putIf_other _ _ _ ha, State.get_putIf_other _ _ _ ha',
    State.get_putIf_other _ _ _ hna.symm, State.get_putIf_other _ _ _ hka.symm]

theorem applyBound_only (s : State) {n : Nat} (hn : n < 128) : Only s (s.applyBound n) (sourceFlds n) := by
  rw [applyBound_eq s hn]
  exact (((Only.refl s _).putIf (by simp [sourceFlds]) ..).putIf (by simp [sourceFlds]) ..).putIf
    (by simp [sourceFlds]) ..

theorem applyBound_get (s : State) {n : Nat} (hn : n < 128) :
    (s.applyBound n).get (R.FLT_SRC_CFG_n n) = (if s.nLooser n (s.get (R.FLT_SRC_CFG_n n))
      then s.get (R.DBT_FLT_n_max n) % 2 ^ 8 else s.get (R.FLT_SRC_CFG_n n)) ∧
    (s.applyBound n).get (R.FLT_SRC_CFG_k n) = (if s.kLooser n (s.get (R.FLT_SRC_CFG_k n))
      then s.get (R.DBT_FLT_k_min n) % 2 ^ 5 else s.get (R.FLT_SRC_CFG_k n)) ∧
    (s.applyBound n).get (R.FLT_SRC_CFG_action n) = (if s.actLooser n (s.get (R.FLT_SRC_CFG_action n))
      then s.get (R.DBT_FLT_action_min n) % 2 ^ 3 else s.get (R.FLT_SRC_CFG_action n)) := by
  obtain ⟨hnk, hna, hka⟩ := source_keys n
  rw [applyBound_eq s hn]
  refine ⟨?_, ?_, ?_⟩
  · rw [State.get_putIf_other _ _ _ hna, State.get_putIf_other _ _ _ hnk, State.get_putIf_same]
    rfl
  · rw [State.get_putIf_other _ _ _ hka, State.get_putIf_same, State.get_putIf_other _ _ _ hnk.symm]
    rfl
  · rw [State.get_putIf_same, State.get_putIf_other _ _ _ hka.symm, State.get_putIf_other _ _ _ hna.symm]
    rfl

/-- No field of FLT_SRCn_CFG is looser than its bound. -/
def CfgWithin (t : State) (n : Nat) : Prop :=
  t.nLooser n (t.get (R.FLT_SRC_CFG_n n)) = false ∧ t.kLooser n (t.get (R.FLT_SRC_CFG_k n)) = false ∧
    t.actLooser n (t.get (R.FLT_SRC_CFG_action n)) = false

theorem applyBound_within {s : State} {n : Nat} (hn : n < 128) (hmax : s.get (R.DBT_FLT_n_max n) < 2 ^ 8)
    (hmin : s.get (R.DBT_FLT_k_min n) < 2 ^ 5) (hact : s.get (R.DBT_FLT_action_min n) < 2 ^ 3) :
    CfgWithin (s.applyBound n) n := by
  have hkept {f : Fld} (h : 0x5000 ≤ f.off) : (s.applyBound n).get f = s.get f :=
    (applyBound_only s hn).2 f (key_ne_source hn h)
  obtain ⟨hcn, hck, hca⟩ := applyBound_get s hn
  simp only [CfgWithin, State.nLooser, State.kLooser, State.actLooser, decide_eq_false_iff_not, decide_eq_true_eq] at *
  rw [hcn, hck, hca, hkept (Nat.le_add_right _ _), hkept (Nat.le_add_right _ _), hkept (Nat.le_add_right _ _),
    Nat.mod_eq_of_lt hmax, Nat.mod_eq_of_lt hmin, Nat.mod_eq_of_lt hact]
  refine ⟨?_, ?_, ?_⟩ <;> split <;> omega

theorem CfgWithin.congr {s t : State} {n : Nat} (h : CfgWithin s n)
    (hget : ∀ f ∈ fltFlds n ++ sourceFlds n, t.get f = s.get f) : CfgWithin t n := by
  simp only [fltFlds, sourceFlds, List.cons_append, List.nil_append, List.forall_mem_cons] at hget
  simpa only [CfgWithin, State.nLooser, State.kLooser, State.actLooser, hget] using h

/-! What is written by MID 2 -/

theorem boundEnd_get (u : State) {off : Nat} (refused : Bool) {f : Fld} (hf : f.off < 0x5300) (hl : f.lo < 64) :
    (u.boundEnd off refused).get f = u.get f := by
  refine (boundEnd_boundsWritten u off refused).get ?_
  simp [lastFlds, Fld.key, R.DBT_LAST_offset, R.DBT_LAST_mid]
  omega

/-- DBT_FLTn with its tighter fields taken, its source within its bounds, and the bounds stored. -/
def fltTaken (s : State) (n v : Nat) : State :=
  ((s.tightenAll (fltAsks s n v)).1.applyBound n).boundStored (R.DBT_FLT_n_max n).off (s.readFlds (fltFlds n))
    (fltFlds n)

/-- A write of DBT_FLTn by MID 2 (R608). -/
theorem dbtFltWrite_own {s : State} {n : Nat} {w : Who} (v : Nat) (hw : w.mid = 2) (hn : srcAssigned n = true) :
    s.dbtFltWrite n w v =
      (fltTaken s n v).boundEnd (R.DBT_FLT_n_max n).off (s.tightenAll (fltAsks s n v)).2 := by
  rw [State.dbtFltWrite, if_neg (not_not_intro hw), if_neg (by simp [hn]), fltTaken, State.boundEnd, fltAsks,
    State.tightenAll_triple]
  rfl

theorem fltTaken_get (s : State) {n : Nat} (hn : n < 128) (v : Nat) {f : Fld} (hf : 0x5000 ≤ f.off) :
    (fltTaken s n v).get f = (s.tightenAll (fltAsks s n v)).1.get f :=
  (boundStored_get ..).trans ((applyBound_only _ hn).2 f (key_ne_source hn hf))

theorem fltTaken_boundsWritten (s : State) {n : Nat} (hn : n < 128) (v : Nat) :
    BoundsWritten s (fltTaken s n v) (fltFlds n ++ sourceFlds n) := by
  have htight : Only s (s.tightenAll (fltAsks s n v)).1 (fltFlds n) := s.tightenAll_only (fltAsks s n v)
  have happly := (htight.trans (applyBound_only _ hn)).boundsWritten
  exact (happly.trans (boundStored_boundsWritten ..)).mono (by simp)

theorem fltTaken_dueFaults (s : State) {n : Nat} (hn : n < 128) (v : Nat) :
    (fltTaken s n v).dueFaults = s.dueFaults := by
  rw [fltTaken, boundStored_dueFaults, (applyBound_only _ hn).1, (s.tightenAll_only _).1]

theorem fltTaken_fields (s : State) {n : Nat} (hn : n < 128) (v : Nat) :
    ∀ b ∈ fltAsks s n v, BoundField s (fltTaken s n v) b.f b.v b.reserved b.tighter := by
  intro b hb
  have hoff : 0x5000 ≤ b.f.off := by
    simp only [fltAsks, List.mem_cons, List.not_mem_nil, or_false] at hb
    rcases hb with rfl | rfl | rfl <;> exact Nat.le_add_right _ _
  exact (s.tightenAll_fields (fltAsks_distinct s n v) (fltAsks_fit s n v) b hb).congr rfl (fltTaken_get s hn v hoff)

theorem fltTaken_within {s : State} {n : Nat} (hn : n < 128) (v : Nat) (hmax : s.get (R.DBT_FLT_n_max n) < 2 ^ 8)
    (hmin : s.get (R.DBT_FLT_k_min n) < 2 ^ 5) (hact : s.get (R.DBT_FLT_action_min n) < 2 ^ 3) :
    CfgWithin (fltTaken s n v) n := by
  have hfit : ∀ b ∈ fltAsks s n v, s.get b.f < 2 ^ b.f.w → (s.tightenAll (fltAsks s n v)).1.get b.f < 2 ^ b.f.w := by
    intro b hb hs
    rw [s.tightenAll_fields (fltAsks_distinct s n v) (fltAsks_fit s n v) b hb]
    split
    · exact fltAsks_fit s n v b hb
    · exact hs
  simp only [fltAsks, List.forall_mem_cons] at hfit
  obtain ⟨hn', hk', ha', -⟩ := hfit
  exact (applyBound_within hn (hn' hmax) (hk' hmin) (ha' hact)).congr fun f _ => boundStored_get ..

theorem fltAsks_refused (s : State) (n v : Nat) : (s.tightenAll (fltAsks s n v)).2 = true ↔
    (bits v 0 8 ≠ 0 ∧ s.get (R.DBT_FLT_n_max n) < bits v 0 8) ∨
      (bits v 8 5 ≤ 22 ∧ bits v 8 5 < s.get (R.DBT_FLT_k_min n)) ∨
      (bits v 16 3 ≤ 4 ∧ bits v 16 3 < s.get (R.DBT_FLT_action_min n)) := by
  rw [s.tightenAll_refused (fltAsks_distinct s n v)]
  simp only [fltAsks, List.any_cons, List.any_nil, BoundAsk.refused, nReserved, kReserved, actCodeReserved,
    Bool.or_eq_true, Bool.and_eq_true, Bool.not_eq_true', decide_eq_false_iff_not, beq_eq_false_iff_ne, ne_eq,
    Bool.false_eq_true, or_false]
  omega

/-! DBT_GWp -/

/-- The fields of DBT_GWp. -/
def gwFlds (p : Nat) : List Fld := [R.DBT_GW_rate p, R.DBT_GW_burst p]

/-- What a written value asks of the fields of DBT_GWp. -/
def gwAsks (s : State) (p v : Nat) : List BoundAsk :=
  [{ f := R.DBT_GW_rate p, v := bits v 0 20, reserved := false, tighter := bits v 0 20 < s.get (R.DBT_GW_rate p) },
   { f := R.DBT_GW_burst p, v := bits v 20 8, reserved := bits v 20 8 == 0
     tighter := bits v 20 8 < s.get (R.DBT_GW_burst p) }]

theorem gwAsks_distinct (s : State) (p v : Nat) : ((gwAsks s p v).map (·.f.key)).Nodup := by
  simp [gwAsks, Fld.key, R.DBT_GW_rate, R.DBT_GW_burst]

theorem gwAsks_fit (s : State) (p v : Nat) : ∀ b ∈ gwAsks s p v, b.v < 2 ^ b.f.w := by
  simp only [gwAsks, List.forall_mem_cons]
  exact ⟨bits_lt v 0 (R.DBT_GW_rate p).w, bits_lt v 20 (R.DBT_GW_burst p).w, nofun⟩

/-- DBT_GWp with its tighter fields taken and the bounds stored. -/
def gwTaken (s : State) (p v : Nat) : State :=
  (s.tightenAll (gwAsks s p v)).1.boundStored (R.DBT_GW_rate p).off (s.readFlds (gwFlds p)) (gwFlds p)

/-- A write of DBT_GWp by MID 2 (R608). -/
theorem dbtGwWrite_own {s : State} {w : Who} (p v : Nat) (hw : w.mid = 2) : s.dbtGwWrite p w v =
    (gwTaken s p v).boundEnd (R.DBT_GW_rate p).off (s.tightenAll (gwAsks s p v)).2 := by
  rw [State.dbtGwWrite, if_neg (not_not_intro hw), gwTaken, State.boundEnd, gwAsks, State.tightenAll_pair]
  rfl

theorem gwTaken_only (s : State) (p v : Nat) :
    Only { s with nv := (gwTaken s p v).nv } (gwTaken s p v) (gwFlds p) :=
  Only.boundStored (fs := gwFlds p) (s.tightenAll_only (gwAsks s p v)) ..

theorem gwTaken_fields (s : State) (p v : Nat) :
    ∀ b ∈ gwAsks s p v, BoundField s (gwTaken s p v) b.f b.v b.reserved b.tighter := fun b hb =>
  (s.tightenAll_fields (gwAsks_distinct s p v) (gwAsks_fit s p v) b hb).congr rfl (boundStored_get ..)

theorem gwTaken_boundsWritten (s : State) (p v : Nat) : BoundsWritten s (gwTaken s p v) (gwFlds p) :=
  ((s.tightenAll_only (gwAsks s p v)).boundsWritten.trans (boundStored_boundsWritten ..)).mono
    (by simp [gwAsks, gwFlds])

theorem gwAsks_refused (s : State) (p v : Nat) : (s.tightenAll (gwAsks s p v)).2 = true ↔
    s.get (R.DBT_GW_rate p) < bits v 0 20 ∨ (bits v 20 8 ≠ 0 ∧ s.get (R.DBT_GW_burst p) < bits v 20 8) := by
  rw [s.tightenAll_refused (gwAsks_distinct s p v)]
  simp only [gwAsks, List.any_cons, List.any_nil, BoundAsk.refused, Bool.or_eq_true, Bool.and_eq_true,
    Bool.not_eq_true', decide_eq_false_iff_not, beq_eq_false_iff_ne, ne_eq, Bool.false_eq_true, or_false, true_and,
    Bool.not_false]
  omega

/-! No bound is loosened -/

/-- In `t` no bound is looser than in `s`. -/
def NoLooser (s t : State) : Prop :=
  (∀ n < 128, t.get (R.DBT_FLT_n_max n) ≤ s.get (R.DBT_FLT_n_max n) ∧
    s.get (R.DBT_FLT_k_min n) ≤ t.get (R.DBT_FLT_k_min n) ∧
    s.get (R.DBT_FLT_action_min n) ≤ t.get (R.DBT_FLT_action_min n)) ∧
  ∀ p < 31, t.get (R.DBT_GW_rate p) ≤ s.get (R.DBT_GW_rate p) ∧ t.get (R.DBT_GW_burst p) ≤ s.get (R.DBT_GW_burst p)

/-- A write that changes one register of bounds, and loosens no field of it. -/
theorem noLooser_of_register {s t : State} {off : Nat}
    (hother : ∀ {f : Fld}, f.lo < 64 → 0x5000 ≤ f.off → f.off < 0x5300 → f.off ≠ off → t.get f = s.get f)
    (hflt : ∀ n < 128, off = 0x5000 + 4 * n → t.get (R.DBT_FLT_n_max n) ≤ s.get (R.DBT_FLT_n_max n) ∧
      s.get (R.DBT_FLT_k_min n) ≤ t.get (R.DBT_FLT_k_min n) ∧
      s.get (R.DBT_FLT_action_min n) ≤ t.get (R.DBT_FLT_action_min n))
    (hgw : ∀ p < 31, off = 0x5200 + 4 * p → t.get (R.DBT_GW_rate p) ≤ s.get (R.DBT_GW_rate p) ∧
      t.get (R.DBT_GW_burst p) ≤ s.get (R.DBT_GW_burst p)) : NoLooser s t := by
  refine ⟨fun n hn => ?_, fun p hp => ?_⟩
  · by_cases h : off = 0x5000 + 4 * n
    · exact hflt n hn h
    · have hsame {f : Fld} (hl : f.lo < 64) (hoff : f.off = 0x5000 + 4 * n) : t.get f = s.get f :=
        hother hl (by omega) (by omega) (by omega)
      exact ⟨(hsame (by decide : 0 < 64) rfl).le, (hsame (by decide : 8 < 64) rfl).ge,
        (hsame (by decide : 16 < 64) rfl).ge⟩
  · by_cases h : off = 0x5200 + 4 * p
    · exact hgw p hp h
    · have hsame {f : Fld} (hl : f.lo < 64) (hoff : f.off = 0x5200 + 4 * p) : t.get f = s.get f :=
        hother hl (by omega) (by omega) (by omega)
      exact ⟨(hsame (by decide : 0 < 64) rfl).le, (hsame (by decide : 20 < 64) rfl).le⟩

theorem noLooser_of_same {s t : State} (h : ∀ f, t.get f = s.get f) : NoLooser s t :=
  ⟨fun _ _ => ⟨(h _).le, (h _).ge, (h _).ge⟩, fun _ _ => ⟨(h _).le, (h _).le⟩⟩

/-- A field of another register than those of the listed fields is not listed. -/
theorem key_not_mem_of_off {fs : List Fld} {f : Fld} (hl : f.lo < 64) (h : ∀ g ∈ fs, g.lo < 64 ∧ g.off ≠ f.off) :
    f.key ∉ fs.map Fld.key := by
  intro hm
  obtain ⟨g, hg, hk⟩ := List.mem_map.1 hm
  obtain ⟨hgl, hne⟩ := h g hg
  simp only [Fld.key] at hk
  omega

/-- Where the fields lie that a write of DBT_FLTn changes. -/
theorem flt_places {n : Nat} (hn : n < 128) : ∀ f ∈ fltFlds n ++ sourceFlds n,
    f.off < 0x5300 ∧ f.lo < 64 ∧ (f.off = 0x5000 + 4 * n ∨ f.off < 0x5000) := by
  simp [fltFlds, sourceFlds, R.DBT_FLT_n_max, R.DBT_FLT_k_min, R.DBT_FLT_action_min, R.FLT_SRC_CFG_n,
    R.FLT_SRC_CFG_k, R.FLT_SRC_CFG_action]
  omega

theorem gw_places (p : Nat) : ∀ f ∈ gwFlds p, f.off = 0x5200 + 4 * p ∧ f.lo < 64 := by
  simp [gwFlds, R.DBT_GW_rate, R.DBT_GW_burst]

theorem last_places : ∀ f ∈ lastFlds, f.off = 0x5300 ∧ f.lo < 64 := by decide

section Deadbolt

variable {s : State} {w : Who}

theorem dbtFltWrite_other (n v : Nat) (hw : w.mid ≠ 2) :
    s.dbtFltWrite n w v = s.accessRefused (R.DBT_FLT_n_max n).off w := if_pos hw

theorem dbtFltWrite_unassigned {n : Nat} (v : Nat) (hw : w.mid = 2) (ha : srcAssigned n = false) :
    s.dbtFltWrite n w v = s := by
  rw [State.dbtFltWrite, if_neg (not_not_intro hw), if_pos (by simp [ha])]

theorem dbtGwWrite_other (p v : Nat) (hw : w.mid ≠ 2) :
    s.dbtGwWrite p w v = s.accessRefused (R.DBT_GW_rate p).off w := if_pos hw

theorem dbtFltWrite_fields {n : Nat} (hn : n < 128) (v : Nat) (hw : w.mid = 2) (ha : srcAssigned n = true) :
    ∀ b ∈ fltAsks s n v, BoundField s (s.dbtFltWrite n w v) b.f b.v b.reserved b.tighter := by
  intro b hb
  have hf : b.f ∈ fltFlds n := List.mem_map_of_mem (f := BoundAsk.f) hb
  obtain ⟨hoff, hlo, -⟩ := flt_places hn b.f (List.mem_append_left _ hf)
  rw [dbtFltWrite_own v hw ha]
  exact (fltTaken_fields s hn v b hb).congr rfl (boundEnd_get _ _ hoff hlo)

theorem dbtFltWrite_boundsWritten {n : Nat} (hn : n < 128) (v : Nat) (hw : w.mid = 2) (ha : srcAssigned n = true) :
    BoundsWritten s (s.dbtFltWrite n w v) (fltFlds n ++ sourceFlds n ++ lastFlds) := by
  rw [dbtFltWrite_own v hw ha]
  exact (fltTaken_boundsWritten s hn v).trans (boundEnd_boundsWritten ..)

theorem dbtFltWrite_within {n : Nat} (hn : n < 128) (v : Nat) (hw : w.mid = 2) (ha : srcAssigned n = true)
    (hmax : s.get (R.DBT_FLT_n_max n) < 2 ^ 8) (hmin : s.get (R.DBT_FLT_k_min n) < 2 ^ 5)
    (hact : s.get (R.DBT_FLT_action_min n) < 2 ^ 3) : CfgWithin (s.dbtFltWrite n w v) n := by
  rw [dbtFltWrite_own v hw ha]
  refine (fltTaken_within hn v hmax hmin hact).congr fun f hf => ?_
  obtain ⟨hoff, hlo, -⟩ := flt_places hn f hf
  exact boundEnd_get _ _ hoff hlo

theorem dbtGwWrite_fields {p : Nat} (hp : p < 31) (v : Nat) (hw : w.mid = 2) :
    ∀ b ∈ gwAsks s p v, BoundField s (s.dbtGwWrite p w v) b.f b.v b.reserved b.tighter := by
  intro b hb
  have hf : b.f ∈ gwFlds p := List.mem_map_of_mem (f := BoundAsk.f) hb
  obtain ⟨hoff, hlo⟩ := gw_places p b.f hf
  rw [dbtGwWrite_own p v hw]
  exact (gwTaken_fields s p v b hb).congr rfl (boundEnd_get _ _ (by omega) hlo)

theorem dbtGwWrite_boundsWritten (p v : Nat) (hw : w.mid = 2) :
    BoundsWritten s (s.dbtGwWrite p w v) (gwFlds p ++ lastFlds) := by
  rw [dbtGwWrite_own p v hw]
  exact (gwTaken_boundsWritten s p v).trans (boundEnd_boundsWritten ..)

theorem dbtFltWrite_noLooser {n : Nat} (hn : n < 128) (v : Nat) (hw : w.mid = 2) (ha : srcAssigned n = true) :
    NoLooser s (s.dbtFltWrite n w v) := by
  have hfields := dbtFltWrite_fields (s := s) hn v hw ha
  simp only [fltAsks, List.forall_mem_cons] at hfields
  obtain ⟨hmax, hmin, hact, -⟩ := hfields
  refine noLooser_of_register (off := 0x5000 + 4 * n) (fun {f} hl hlo hhi hne => ?_) (fun m hm hoff => ?_)
    fun p _ hoff => by omega
  · refine (dbtFltWrite_boundsWritten hn v hw ha).get (key_not_mem_of_off hl fun g hg => ?_)
    rcases List.mem_append.1 hg with hg | hg
    · obtain ⟨-, hlo', hoff⟩ := flt_places hn g hg
      omega
    · obtain ⟨hoff, hlo'⟩ := last_places g hg
      omega
  · obtain rfl : m = n := by omega
    exact ⟨hmax.le fun h => (of_decide_eq_true h).le, hmin.ge fun h => (of_decide_eq_true h).le,
      hact.ge fun h => (of_decide_eq_true h).le⟩

theorem dbtGwWrite_noLooser {p : Nat} (hp : p < 31) (v : Nat) (hw : w.mid = 2) : NoLooser s (s.dbtGwWrite p w v) := by
  have hfields := dbtGwWrite_fields (s := s) hp v hw
  simp only [gwAsks, List.forall_mem_cons] at hfields
  obtain ⟨hrate, hburst, -⟩ := hfields
  refine noLooser_of_register (off := 0x5200 + 4 * p) (fun {f} hl hlo hhi hne => ?_) (fun n _ hoff => by omega)
    fun q hq hoff => ?_
  · refine (dbtGwWrite_boundsWritten p v hw).get (key_not_mem_of_off hl fun g hg => ?_)
    rcases List.mem_append.1 hg with hg | hg
    · obtain ⟨hoff, hlo'⟩ := gw_places p g hg
      omega
    · obtain ⟨hoff, hlo'⟩ := last_places g hg
      omega
  · obtain rfl : q = p := by omega
    exact ⟨hrate.le fun h => (of_decide_eq_true h).le, hburst.le fun h => (of_decide_eq_true h).le⟩

end Deadbolt

/-! The command -/

theorem exec_deadboltFlt {s : State} (h : s.answers = true) (n mid origin v) :
    exec (.deadboltWrite (.inl n) mid origin v) s = .next (settle (s.dbtFltWrite n (who mid origin) v.toNat)) :=
  next_settle_congr (State.whenUp_of_answers h _)

theorem exec_deadboltGw {s : State} (h : s.answers = true) (p mid origin v) :
    exec (.deadboltWrite (.inr p) mid origin v) s = .next (settle (s.dbtGwWrite p (who mid origin) v.toNat)) :=
  next_settle_congr (State.whenUp_of_answers h _)

/-- What holds of every write of a register of bounds: it loosens none and writes registers, events and stored bounds
only. -/
def BoundsSafe (s t : State) : Prop :=
  NoLooser s t ∧ t = { s with regs := t.regs, dueFaults := t.dueFaults, nv := { s.nv with bounds := t.nv.bounds } }

theorem boundsSafe_refl (s : State) : BoundsSafe s s := ⟨noLooser_of_same fun _ => rfl, rfl⟩

theorem accessRefused_boundsSafe (s : State) (off : Nat) (w : Who) : BoundsSafe s (s.accessRefused off w) :=
  ⟨noLooser_of_same fun _ => rfl, rfl⟩

theorem dbtFltWrite_boundsSafe (s : State) (n : Fin 128) (w : Who) (v : Nat) : BoundsSafe s (s.dbtFltWrite n w v) := by
  by_cases hw : w.mid = 2
  · cases ha : srcAssigned n with
    | false => rw [dbtFltWrite_unassigned v hw ha]; exact boundsSafe_refl s
    | true => exact ⟨dbtFltWrite_noLooser n.isLt v hw ha, (dbtFltWrite_boundsWritten n.isLt v hw ha).1⟩
  · rw [dbtFltWrite_other _ _ hw]
    exact accessRefused_boundsSafe ..

theorem dbtGwWrite_boundsSafe (s : State) (p : Fin 31) (w : Who) (v : Nat) : BoundsSafe s (s.dbtGwWrite p w v) := by
  by_cases hw : w.mid = 2
  · exact ⟨dbtGwWrite_noLooser p.isLt v hw, (dbtGwWrite_boundsWritten p v hw).1⟩
  · rw [dbtGwWrite_other _ _ hw]
    exact accessRefused_boundsSafe ..

/-- What a write of DBT_FLTn leaves where no field is looser: DBT_LAST and the events as they were. -/
theorem dbtFltWrite_taken {s : State} {n : Nat} {w : Who} {v : Nat} (hn : n < 128) (hw : w.mid = 2)
    (ha : srcAssigned n = true) (hr : (s.tightenAll (fltAsks s n v)).2 = false) :
    (s.dbtFltWrite n w v).dueFaults = s.dueFaults ∧
      (s.dbtFltWrite n w v).get R.DBT_LAST_offset = s.get R.DBT_LAST_offset ∧
      (s.dbtFltWrite n w v).get R.DBT_LAST_mid = s.get R.DBT_LAST_mid := by
  have heq : s.dbtFltWrite n w v = fltTaken s n v := by
    rw [dbtFltWrite_own v hw ha, hr, boundEnd_taken]
  have hsame {f : Fld} (hl : f.lo < 64) (hoff : f.off = 0x5300) : (fltTaken s n v).get f = s.get f := by
    refine (fltTaken_boundsWritten s hn v).get (key_not_mem_of_off hl fun g hg => ?_)
    obtain ⟨hlow, hlo, -⟩ := flt_places hn g hg
    omega
  rw [heq]
  exact ⟨fltTaken_dueFaults s hn v, hsame (by decide) rfl, hsame (by decide) rfl⟩

/-- What a refusal of DBT_FLTn records. -/
theorem dbtFltWrite_refused {s : State} {n : Nat} {w : Who} {v : Nat} (hn : n < 128) (hw : w.mid = 2)
    (ha : srcAssigned n = true) (hr : (s.tightenAll (fltAsks s n v)).2 = true) :
    (s.dbtFltWrite n w v).dueFaults =
        s.dueFaults ++ [{ src := 4, res := bits (R.DBT_FLT_n_max n).off 2 18, mid := some 2 }] ∧
      (s.dbtFltWrite n w v).get R.DBT_LAST_offset = bits (R.DBT_FLT_n_max n).off 2 18 ∧
      (s.dbtFltWrite n w v).get R.DBT_LAST_mid = 2 := by
  have heq : s.dbtFltWrite n w v = (fltTaken s n v).dbtRefused (R.DBT_FLT_n_max n).off 2 := by
    rw [dbtFltWrite_own v hw ha, hr, boundEnd_refused]
  rw [heq]
  refine ⟨?_, dbtRefused_last ..⟩
  rw [(dbtRefused_only ..).1, fltTaken_dueFaults s hn v]

/-- What a write of DBT_GWp changes where no field is looser. -/
theorem dbtGwWrite_taken {s : State} {p : Nat} {w : Who} {v : Nat} (hw : w.mid = 2)
    (hr : (s.tightenAll (gwAsks s p v)).2 = false) :
    Only { s with nv := (s.dbtGwWrite p w v).nv } (s.dbtGwWrite p w v) (gwFlds p) := by
  have heq : s.dbtGwWrite p w v = gwTaken s p v := by
    rw [dbtGwWrite_own p v hw, hr, boundEnd_taken]
  rw [heq]
  exact gwTaken_only s p v

/-- What a refusal of DBT_GWp records. -/
theorem dbtGwWrite_refused {s : State} {p : Nat} {w : Who} {v : Nat} (hw : w.mid = 2)
    (hr : (s.tightenAll (gwAsks s p v)).2 = true) :
    Only { s with nv := (s.dbtGwWrite p w v).nv, dueFaults := s.dueFaults ++
        [{ src := 4, res := bits (R.DBT_GW_rate p).off 2 18, mid := some 2 }] } (s.dbtGwWrite p w v)
        (gwFlds p ++ lastFlds) ∧
      (s.dbtGwWrite p w v).get R.DBT_LAST_offset = bits (R.DBT_GW_rate p).off 2 18 ∧
      (s.dbtGwWrite p w v).get R.DBT_LAST_mid = 2 := by
  have heq : s.dbtGwWrite p w v = (gwTaken s p v).dbtRefused (R.DBT_GW_rate p).off 2 := by
    rw [dbtGwWrite_own p v hw, hr, boundEnd_refused]
  rw [heq]
  exact ⟨(gwTaken_only s p v).dbtRefused (R.DBT_GW_rate p).off, dbtRefused_last ..⟩

/-- Settles O32: no write of a register of bounds loosens one; one by MID 2 tightens field by field and is refused where
a field is looser; an unassigned source's and another MID's change no bound. -/
theorem deadboltOnlyTightens : Obligations.DeadboltOnlyTightens := by
  intro s origin v
  have hother {mid : BitVec 4} (h : mid ≠ 2) : (who mid origin).mid ≠ 2 := fun e => h (BitVec.eq_of_toNat_eq e)
  refine ⟨fun target mid => ?_, fun hup n ha => ?_, fun hup p => ?_, fun hup => ⟨fun n ha => ?_, fun n mid hm => ?_,
    fun p mid hm => ?_⟩⟩
  · cases hup : s.answers with
    | false => exact ⟨s, next_settle_congr (State.whenUp_of_not_answers hup _), (boundsSafe_refl s).1.1,
        (boundsSafe_refl s).1.2, rfl, nofun⟩
    | true =>
      cases target with
      | inl n =>
        obtain ⟨⟨hflt, hgw⟩, hrec⟩ := dbtFltWrite_boundsSafe s n (who mid origin) v.toNat
        refine ⟨_, exec_deadboltFlt hup n mid origin v, hflt, hgw, hrec, ?_⟩
        rintro m ⟨⟩ rfl - ha hmax hmin hact
        exact dbtFltWrite_within n.isLt v.toNat rfl ha hmax hmin hact
      | inr p =>
        obtain ⟨⟨hflt, hgw⟩, hrec⟩ := dbtGwWrite_boundsSafe s p (who mid origin) v.toNat
        exact ⟨_, exec_deadboltGw hup p mid origin v, hflt, hgw, hrec, nofun⟩
  · have hfields := dbtFltWrite_fields (s := s) (w := who 2 origin) n.isLt v.toNat rfl ha
    simp only [fltAsks, List.forall_mem_cons] at hfields
    obtain ⟨hmax, hmin, hact, -⟩ := hfields
    have hloose := fltAsks_refused s n v.toNat
    refine ⟨_, exec_deadboltFlt hup n 2 origin v, hmax, hmin, hact, fun h => ?_, fun h => ?_⟩
    · exact dbtFltWrite_taken n.isLt rfl ha (Bool.eq_false_iff.2 fun hr => h (hloose.1 hr))
    · exact dbtFltWrite_refused n.isLt rfl ha (hloose.2 h)
  · have hfields := dbtGwWrite_fields (s := s) (w := who 2 origin) p.isLt v.toNat rfl
    simp only [gwAsks, List.forall_mem_cons] at hfields
    obtain ⟨hrate, hburst, -⟩ := hfields
    have hloose := gwAsks_refused s p v.toNat
    refine ⟨_, exec_deadboltGw hup p 2 origin v, hrate, hburst, fun h => ?_, fun h => ?_⟩
    · exact dbtGwWrite_taken rfl (Bool.eq_false_iff.2 fun hr => h (hloose.1 hr))
    · exact dbtGwWrite_refused rfl (hloose.2 h)
  · rw [exec_deadboltFlt hup, dbtFltWrite_unassigned _ rfl ha]
  · rw [exec_deadboltFlt hup, dbtFltWrite_other _ _ (hother hm)]
  · rw [exec_deadboltGw hup, dbtGwWrite_other _ _ (hother hm)]

end Sys2Proof.Machine

end

section

namespace Sys2Proof.Machine

/-! ### Thermal management (O55) -/

/-! The limits and the duty -/

section Limits

variable {s : State} {v : Nat}

theorem thmLimWrite_other {mid : Nat} (h : mid ≠ 2) : s.thmLimWrite mid v = s := if_pos h

/-- The three limits that a value written to THM_LIM holds. -/
theorem thmLim_bytes (v : Nat) : bits v 0 8 = v % 256 ∧ bits v 8 8 = v / 256 % 256 ∧ bits v 16 8 = v / 65536 % 256 := by
  simp [bits]

theorem thmLimWrite_above (h : 110 < v % 256 ∨ 118 < v / 256 % 256 ∨ 125 < v / 65536 % 256) :
    s.thmLimWrite 2 v = s.fault { src := 4, res := bits R.THM_LIM_warn.off 2 18, mid := some 2 } := by
  obtain ⟨hw, he, hc⟩ := thmLim_bytes v
  rw [State.thmLimWrite, if_neg (by decide), if_pos (by simpa [hw, he, hc, or_assoc] using h)]
  rfl

theorem thmLimWrite_within (hw : v % 256 ≤ 110) (he : v / 256 % 256 ≤ 118) (hc : v / 65536 % 256 ≤ 125) :
    s.thmLimWrite 2 v =
      if v % 256 + 2 ≤ v / 256 % 256 ∧ v / 256 % 256 + 2 ≤ v / 65536 % 256 then
        ((s.put R.THM_LIM_warn (v % 256)).put R.THM_LIM_enforce (v / 256 % 256)).put R.THM_LIM_critical
          (v / 65536 % 256)
      else s := by
  obtain ⟨hbw, hbe, hbc⟩ := thmLim_bytes v
  simp only [State.thmLimWrite, hbw, hbe, hbc]
  rw [if_neg (by decide), if_neg (by simp; omega)]
  simp

theorem thmDutyWrite_above (h : 8 < v % 16) :
    s.thmDutyWrite 2 v = s.fault { src := 4, res := bits R.THM_DUTY_enf_duty.off 2 18, mid := some 2 } := by
  have hb : bits v 0 4 = v % 16 := bits_low v 4
  exact if_pos (by simpa [hb] using h)

theorem thmDutyWrite_within {mid : Nat} (h : mid ≠ 2 ∨ v % 16 ≤ 8) :
    s.thmDutyWrite mid v = s.writeFlds mid v [R.THM_DUTY_enf_duty, R.THM_DUTY_host_duty] := by
  have hb : bits v 0 4 = v % 16 := bits_low v 4
  refine if_neg ?_
  simp only [hb, Bool.and_eq_true, decide_eq_true_eq, not_and, Nat.not_lt]
  exact h.resolve_left ∘ not_not_intro

/-- A write of THM_DUTY takes no enforcement duty above 8: every such encoding is reserved (R577). -/
theorem enfDuty_writeFlds_le (mid : Nat) (h : s.get R.THM_DUTY_enf_duty ≤ 8) :
    (s.writeFlds mid v [R.THM_DUTY_enf_duty, R.THM_DUTY_host_duty]).get R.THM_DUTY_enf_duty ≤ 8 := by
  have hdistinct : ([R.THM_DUTY_enf_duty, R.THM_DUTY_host_duty].map Fld.key).Nodup := by decide
  have hwritten := s.writeFlds_written mid v hdistinct _ List.mem_cons_self
  rw [hwritten]
  split
  · exact h
  · have hfit (x : Nat) : R.THM_DUTY_enf_duty.fitted x % 2 ^ R.THM_DUTY_enf_duty.w ≤ x := by
      refine (Nat.mod_le _ _).trans ?_
      simp [Fld.fitted, R.THM_DUTY_enf_duty]
    have hallows {x : Nat} (hx : R.THM_DUTY_enf_duty.allows x = true) : x ≤ 8 := by
      simp [Fld.allows, R.THM_DUTY_enf_duty] at hx
      exact hx.2
    show (if R.THM_DUTY_enf_duty.allows (R.THM_DUTY_enf_duty.part v) = true then _ else _) ≤ 8
    split
    · next hx => exact (hfit _).trans (hallows hx)
    · exact h

end Limits

/-! Demands and samples -/

theorem thmCmdWrite_demand {s : State} {mid v : Nat} (hv : v % 2 = 1) (hm : mid ∈ [0, 1, 2, 4]) :
    s.thmCmdWrite mid v = { s with thmDemand := true } := by
  refine if_pos ?_
  rw [Bool.and_eq_true, List.contains_iff_mem]
  exact ⟨by simp [Nat.testBit_zero, hv], hm⟩

theorem thmCmdWrite_ignored {s : State} {mid v : Nat} (h : v % 2 = 0 ∨ mid ∉ [0, 1, 2, 4]) :
    s.thmCmdWrite mid v = s := by
  refine if_neg ?_
  rw [Bool.and_eq_true, List.contains_iff_mem, Nat.testBit_zero, decide_eq_true_eq]
  rintro ⟨hv, hm⟩
  rcases h with h | h
  · omega
  · exact h hm

theorem exec_thermalSample {s : State} (h : s.samples = true) (l) :
    exec (.thermalSample l) s = .next (settle (s.thmSample l)) := next_settle_congr (if_pos h)

/-- A sample before it answers a demand: the sensors judged and reported, the registers shown, the state stepped. -/
def State.sampled (s : State) (l : List Reading) : State :=
  let u := (List.range 9).foldl (fun t k => t.judgeSensor l s.suspects k) s
  let v := (List.range 9).foldl (fun t k => t.reportSensor l u.suspects k) u
  let k := hottest v.reports
  let high := v.reports.getD k 0
  let w := ((v.count R.THM_SAMPLE_CNT_count).put R.THM_STATUS_hottest k).put R.THM_STATUS_highest (temp12 high)
  let x := ((w.peak high k).fastRate v.reports high).thermalState v.reports high
  { x with thmHot := ((8 * x.get R.THM_LIM_critical : Nat) : Int) ≤ high }

theorem thmSample_eq (s : State) (l : List Reading) : s.thmSample l =
    if (s.sampled l).thmDemand then State.thmRaise { s.sampled l with thmDemand := false } 6 0 else s.sampled l := rfl

/-! The rows of R583 -/

section Rows

variable {s : State} {l : List Int} {high : Int}

/-- A temperature in a limit's register, in steps of 0.125 °C. -/
def State.at8 (s : State) (f : Fld) : Int := (8 * s.get f : Nat)

theorem thermalState_lasts (h : s.get R.THM_STATUS_state = 3) : s.thermalState l high = s := if_pos h

theorem thermalState_critical (h : s.get R.THM_STATUS_state ≠ 3) (hc : s.at8 R.THM_LIM_critical ≤ high)
    (hh : s.thmHot = true) : s.thermalState l high =
      if ((s.put R.THM_STATUS_state 3).thmRaise 3 0).safe then (s.put R.THM_STATUS_state 3).thmRaise 3 0
      else ((s.put R.THM_STATUS_state 3).thmRaise 3 0).safeStop 0b010 0 :=
  (if_neg h).trans (if_pos (by rw [hh, Bool.and_true]; exact decide_eq_true hc))

/-- Below the first two rows of R583 the later rows decide. -/
theorem thermalState_cooler (h : s.get R.THM_STATUS_state ≠ 3)
    (hc : ¬ (s.at8 R.THM_LIM_critical ≤ high ∧ s.thmHot = true)) : s.thermalState l high =
      if s.at8 R.THM_LIM_enforce ≤ high then
        (if s.get R.THM_STATUS_state = 0 then s.thmRaise 0 0 else s).enforce
      else if s.at8 R.THM_LIM_warn ≤ high && s.get R.THM_STATUS_state = 0 then
        ((s.put R.THM_STATUS_state 1).put R.THM_STATUS_grace_running 1).thmRaise 0 0
      else if l.all (fun x => x < s.at8 R.THM_LIM_warn - s.at8 R.THM_CFG_hyst) && s.get R.THM_STATUS_state ≠ 0 then
        (((s.put R.THM_STATUS_state 0).put R.THM_STATUS_enforcing 0).put R.THM_STATUS_grace_running 0).thmRaise 2 0
      else s :=
  (if_neg h).trans (if_neg (by rw [Bool.and_eq_true, decide_eq_true_eq]; exact hc))

section Cooler

variable (h3 : s.get R.THM_STATUS_state ≠ 3) (hot : ¬ (s.at8 R.THM_LIM_critical ≤ high ∧ s.thmHot = true))
include h3 hot

theorem thermalState_enforces (he : s.at8 R.THM_LIM_enforce ≤ high) :
    s.thermalState l high = (if s.get R.THM_STATUS_state = 0 then s.thmRaise 0 0 else s).enforce := by
  rw [thermalState_cooler h3 hot, if_pos he]

variable (he : high < s.at8 R.THM_LIM_enforce)
include he

theorem thermalState_warns (h0 : s.get R.THM_STATUS_state = 0) (hw : s.at8 R.THM_LIM_warn ≤ high) :
    s.thermalState l high = ((s.put R.THM_STATUS_state 1).put R.THM_STATUS_grace_running 1).thmRaise 0 0 := by
  rw [thermalState_cooler h3 hot, if_neg (not_le.2 he), if_pos]
  simp [h0, hw]

theorem thermalState_clears (h0 : s.get R.THM_STATUS_state ≠ 0)
    (hl : ∀ x ∈ l, x < s.at8 R.THM_LIM_warn - s.at8 R.THM_CFG_hyst) : s.thermalState l high =
      (((s.put R.THM_STATUS_state 0).put R.THM_STATUS_enforcing 0).put R.THM_STATUS_grace_running 0).thmRaise 2 0 := by
  rw [thermalState_cooler h3 hot, if_neg (not_le.2 he), if_neg (by simp [h0]), if_pos]
  simpa [h0] using hl

theorem thermalState_stays (h0 : s.get R.THM_STATUS_state ≠ 0)
    (hl : ∃ x ∈ l, s.at8 R.THM_LIM_warn - s.at8 R.THM_CFG_hyst ≤ x) : s.thermalState l high = s := by
  rw [thermalState_cooler h3 hot, if_neg (not_le.2 he), if_neg (by simp [h0]), if_neg]
  simpa [h0] using hl

theorem thermalState_normal (h0 : s.get R.THM_STATUS_state = 0) (hw : high < s.at8 R.THM_LIM_warn) :
    s.thermalState l high = s := by
  rw [thermalState_cooler h3 hot, if_neg (not_le.2 he), if_neg (by simp [not_le.2 hw]), if_neg (by simp [h0])]

end Cooler

end Rows

/-! Enforcement -/

/-- Enforcement in force, and shown (R583, R584). -/
def State.enforced (u : State) : State := (u.put R.THM_STATUS_state 2).put R.THM_STATUS_enforcing 1

theorem enforced_only (u : State) : Only u u.enforced [R.THM_STATUS_state, R.THM_STATUS_enforcing] :=
  ((Only.refl u _).put (by simp) _).put (by simp) _

theorem enforced_get (u : State) :
    u.enforced.get R.THM_STATUS_state = 2 ∧ u.enforced.get R.THM_STATUS_enforcing = 1 := by
  have hkey : R.THM_STATUS_state.key ≠ R.THM_STATUS_enforcing.key := by decide
  refine ⟨?_, State.get_put_same _ _ _⟩
  rw [State.enforced, State.get_put_other _ _ hkey, State.get_put_same]
  rfl

theorem enforce_fresh {s : State} (h : s.on R.THM_STATUS_enforcing = false) :
    s.enforce = (s.raise R.THM_EVT_cause 1 (R.THM_EVT_CNT_count 1)).enforced := by
  rw [State.enforce, if_neg (by simp [h])]
  rfl

theorem enforce_again {s : State} (h : s.on R.THM_STATUS_enforcing = true) : s.enforce = s.enforced := by
  rw [State.enforce, if_pos h]
  rfl

/-! The grace timer -/

/-- The grace timer ended. -/
def graceEnded (s : State) : State := s.put R.THM_STATUS_grace_running 0

theorem graceEnded_get (s : State) {f : Fld} (h : f.key ≠ R.THM_STATUS_grace_running.key) :
    (graceEnded s).get f = s.get f := State.get_put_other _ _ h

theorem graceEnded_on (s : State) {f : Fld} (h : f.key ≠ R.THM_STATUS_grace_running.key) :
    (graceEnded s).on f = s.on f := by rw [State.on, graceEnded_get s h, State.on]

theorem exec_graceExpiry_idle {s : State} (h : s.on R.THM_STATUS_grace_running = false) :
    exec .thermalGraceExpiry s = .next (settle s) :=
  next_settle_congr (if_neg (by simp [h]))

theorem exec_graceExpiry_elsewhere {s : State} (h : s.on R.THM_STATUS_grace_running = true)
    (hs : s.get R.THM_STATUS_state ≠ 1) : exec .thermalGraceExpiry s = .next (settle (graceEnded s)) := by
  have hstate : (graceEnded s).get R.THM_STATUS_state ≠ 1 := by rwa [graceEnded_get s (by decide)]
  exact next_settle_congr ((if_pos h).trans (if_neg hstate))

theorem exec_graceExpiry_warn {s : State} (h : s.on R.THM_STATUS_grace_running = true)
    (hs : s.get R.THM_STATUS_state = 1) : exec .thermalGraceExpiry s = .next (settle (graceEnded s).enforce) := by
  have hstate : (graceEnded s).get R.THM_STATUS_state = 1 := by rwa [graceEnded_get s (by decide)]
  exact next_settle_congr ((if_pos h).trans (if_pos hstate))

/-- A grace that ends in WARN while enforcement is not in force brings it and its cause (R584). -/
theorem graceEnded_enforce_fresh {s : State} (h : s.on R.THM_STATUS_enforcing = false) :
    Only s (graceEnded s).enforce [R.THM_STATUS_grace_running, R.THM_STATUS_state, R.THM_STATUS_enforcing,
        R.THM_EVT_cause, R.THM_EVT_CNT_count 1] ∧
      (graceEnded s).enforce.get R.THM_STATUS_state = 2 ∧ (graceEnded s).enforce.get R.THM_STATUS_enforcing = 1 ∧
      (graceEnded s).enforce.get R.THM_STATUS_grace_running = 0 ∧
      Raised s (graceEnded s).enforce R.THM_EVT_cause 1 (R.THM_EVT_CNT_count 1) := by
  have hon : (graceEnded s).on R.THM_STATUS_enforcing = false := by rwa [graceEnded_on s (by decide)]
  rw [enforce_fresh hon]
  obtain ⟨hstate, henf⟩ := enforced_get ((graceEnded s).raise R.THM_EVT_cause 1 (R.THM_EVT_CNT_count 1))
  obtain ⟨hcause, hcount⟩ := raised_raise (graceEnded s) (evt := R.THM_EVT_cause) (cnt := R.THM_EVT_CNT_count 1) 1
    (by decide)
  have hshown {f : Fld} (hf : f.key ∉ [R.THM_STATUS_state, R.THM_STATUS_enforcing].map Fld.key) :=
    (enforced_only ((graceEnded s).raise R.THM_EVT_cause 1 (R.THM_EVT_CNT_count 1))).2 f hf
  refine ⟨?_, hstate, henf, ?_, ?_, ?_⟩
  · exact ((((Only.refl s _).put (by simp) 0).raise (by simp) (by simp) 1).put (by simp) 2).put (by simp) 1
  · rw [hshown (by decide), State.get_raise_other _ _ (by decide) (by decide)]
    exact State.get_put_same ..
  · rw [hshown (by decide), hcause, graceEnded_get s (by decide)]
  · rw [hshown (by decide), hcount, State.plus, State.plus, graceEnded_get s (by decide)]

theorem graceEnded_enforce_again {s : State} (h : s.on R.THM_STATUS_enforcing = true) :
    Only s (graceEnded s).enforce [R.THM_STATUS_grace_running, R.THM_STATUS_state, R.THM_STATUS_enforcing] ∧
      (graceEnded s).enforce.get R.THM_STATUS_state = 2 ∧ (graceEnded s).enforce.get R.THM_STATUS_enforcing = 1 ∧
      (graceEnded s).enforce.get R.THM_STATUS_grace_running = 0 := by
  have hon : (graceEnded s).on R.THM_STATUS_enforcing = true := by rwa [graceEnded_on s (by decide)]
  rw [enforce_again hon]
  obtain ⟨hstate, henf⟩ := enforced_get (graceEnded s)
  refine ⟨(((Only.refl s _).put (by simp) 0).put (by simp) 2).put (by simp) 1, hstate, henf, ?_⟩
  rw [(enforced_only _).2 _ (by decide)]
  exact State.get_put_same ..

/-! The peak -/

theorem thmPeakRead_clears (s : State) :
    Only s s.thmPeakRead.1 [R.THM_PEAK_value, R.THM_PEAK_sensor] ∧
      s.thmPeakRead.1.get R.THM_PEAK_value = R.THM_PEAK_value.cold ∧
      s.thmPeakRead.1.get R.THM_PEAK_sensor = R.THM_PEAK_sensor.cold := by
  have hkey : R.THM_PEAK_value.key ≠ R.THM_PEAK_sensor.key := by decide
  refine ⟨((Only.refl s _).put (by simp) _).put (by simp) _, ?_, State.get_put_same _ _ _⟩
  exact (State.get_put_other _ _ hkey).trans (State.get_put_same _ _ _)

/-- Settles O55: the writes by their conditions, the sample as its parts, the thermal state by the rows of R583, the
grace by the state it ends in, the peak by its read. -/
theorem thermalLimitsHold : Obligations.ThermalLimitsHold := by
  intro s
  have hother {mid : BitVec 4} (h : mid ≠ 2) : mid.toNat ≠ 2 := fun e => h (BitVec.eq_of_toNat_eq e)
  have hlim (hup : s.answers = true) (mid : BitVec 4) (v : W32) :
      exec (.thmLimWrite mid v) s = .next (settle (s.thmLimWrite mid.toNat v.toNat)) :=
    next_settle_congr (State.whenUp_of_answers hup _)
  have hduty (hup : s.answers = true) (mid : BitVec 4) (v : W32) :
      exec (.thmDutyWrite mid v) s = .next (settle (s.thmDutyWrite mid.toNat v.toNat)) :=
    next_settle_congr (State.whenUp_of_answers hup _)
  refine ⟨fun mid v => ⟨fun h => ?_, fun hup hm h => ?_, fun hup hm hw he hc => ⟨fun h h' => ?_, fun h => ?_⟩⟩,
    fun mid v => ⟨fun h => ?_, fun hup hm h => ?_, fun hup h => ?_, fun h _ => enfDuty_writeFlds_le mid.toNat h⟩,
    fun mid v => ⟨fun hup hv hm => ?_, fun h => ?_⟩, fun l h => ?_, fun l h => ?_,
    fun l high => ⟨thermalState_lasts, fun h hot => ?_, fun h hot he => ?_, fun h hot he hw => ?_,
      fun h0 h3 hot he => ⟨fun hl => ?_, fun hl => ?_⟩, fun h hot he hw => ?_⟩,
    exec_graceExpiry_idle, exec_graceExpiry_elsewhere,
    fun h hs he => ⟨_, exec_graceExpiry_warn h hs, graceEnded_enforce_fresh he⟩,
    fun h hs he => ⟨_, exec_graceExpiry_warn h hs, graceEnded_enforce_again he⟩, fun h => ?_, fun h => ?_⟩
  · rcases h with hup | hm
    · exact next_settle_congr (State.whenUp_of_not_answers hup _)
    · cases hup : s.answers with
      | false => exact next_settle_congr (State.whenUp_of_not_answers hup _)
      | true => rw [hlim hup, thmLimWrite_other (hother hm)]
  · subst hm
    exact (hlim hup 2 v).trans (next_settle_congr (thmLimWrite_above h))
  · subst hm
    exact (hlim hup 2 v).trans (next_settle_congr ((thmLimWrite_within hw he hc).trans (if_pos ⟨h, h'⟩)))
  · subst hm
    exact (hlim hup 2 v).trans (next_settle_congr ((thmLimWrite_within hw he hc).trans (if_neg (by omega))))
  · exact next_settle_congr (State.whenUp_of_not_answers h _)
  · subst hm
    exact (hduty hup 2 v).trans (next_settle_congr (thmDutyWrite_above h))
  · exact (hduty hup mid v).trans (next_settle_congr (thmDutyWrite_within (h.imp_left hother)))
  · exact congrArg Host.Outcome.next ((State.whenUp_of_answers hup _).trans (thmCmdWrite_demand hv hm))
  · refine congrArg Host.Outcome.next ?_
    cases hup : s.answers with
    | false => exact State.whenUp_of_not_answers hup _
    | true =>
      exact (State.whenUp_of_answers hup _).trans (thmCmdWrite_ignored (h.resolve_left (by simp [hup])))
  · exact next_settle_congr (if_neg (by simp [h]))
  · have hsample := (exec_thermalSample h l).trans (next_settle_congr (thmSample_eq s l))
    intro u v k high w x y
    have hy : s.sampled l = y := rfl
    rw [hsample, hy]
    clear_value y
    exact ⟨fun hd => by rw [if_neg (by simp [hd])], fun hd => by rw [if_pos hd]⟩
  · exact thermalState_critical h hot.1 hot.2
  · exact thermalState_enforces h hot he
  · exact thermalState_warns (by omega) hot he h hw
  · exact thermalState_clears h3 hot he h0 hl
  · exact thermalState_stays h3 hot he h0 hl
  · exact thermalState_normal (by omega) hot he h hw
  · exact congrArg Host.Outcome.next (State.whenUp_of_not_answers h _)
  · obtain ⟨hrec, hget⟩ := (thmPeakRead_clears s).1
    refine ⟨_, congrArg Host.Outcome.next (State.whenUp_of_answers h _), ⟨?_, hget⟩, (thmPeakRead_clears s).2⟩
    rw [hrec]
    rfl

end Sys2Proof.Machine

end

section

namespace Sys2Proof.Machine

/-! ### Queues fetched and closed (O24) -/

/-! One queue, one ring -/

theorem setSq_becomes (s : State) (n : Nat) (x : Sq) : SqBecomes s (s.setSq n x) n x :=
  ⟨rfl, tget_tput_same .., fun _ hk => congrArg (fun y : Option Sq => y.getD {}) (tget_tput_other _ _ hk)⟩

@[simp] theorem sq_setSq_same (s : State) (n : Nat) (x : Sq) : (s.setSq n x).sq n = x := tget_tput_same ..

@[simp] theorem ring_setRing_same (s : State) (m : Nat) (x : Ring) : (s.setRing m x).ring m = x := tget_tput_same ..

theorem sq_setRing (s : State) (m : Nat) (x : Ring) (n : Nat) : (s.setRing m x).sq n = s.sq n := rfl

/-! What an admin record leaves of the staged entries -/

section Staged

@[simp] theorem setFn_admin (s : State) (f : Nat) (x : Upstream) : (s.setFn f x).admin = s.admin := by
  unfold State.setFn
  split_ifs <;> rfl

theorem ringCount_admin (s : State) (m : Nat) : (s.ringCount m).admin = s.admin := by
  unfold State.ringCount
  dsimp only
  split_ifs <;> rfl

theorem issued_admin (s : State) (f : Nat) (k : PostKind) : (s.issued f k).admin = s.admin := by
  cases k with
  | final tag m => exact ringCount_admin (s.freeTag tag) m
  | record m => exact ringCount_admin s m
  | _ => rfl

theorem cplRelease_admin (n : Nat) (s : State) : (State.cplRelease n s).admin = s.admin := by
  induction n generalizing s with
  | zero => rfl
  | succ n ih =>
    unfold State.cplRelease
    split
    · rfl
    · split_ifs
      · exact ih _
      · rfl

theorem drainPosts_admin (f n : Nat) (s : State) : (State.drainPosts f n s).admin = s.admin := by
  induction n generalizing s with
  | zero => rfl
  | succ n ih =>
    unfold State.drainPosts
    split
    · rfl
    · split_ifs
      · rfl
      · exact (ih _).trans ((issued_admin ..).trans (setFn_admin ..))

theorem posts_admin (s : State) (f : Nat) (ps : List Post) : (s.posts f ps).admin = s.admin :=
  (cplRelease_admin _ _).trans ((drainPosts_admin _ _ _).trans (setFn_admin ..))

theorem postAdmin_admin (s : State) (slot status reply : Nat) (entry : List Byte) :
    (s.postAdmin slot status reply entry).admin = s.admin := posts_admin _ _ _

theorem adminAbort_admin (s : State) : s.adminAbort.admin = [] := by
  have hfold (l : List AdmEntry) (u : State) :
      (l.foldl (fun t e => t.postAdmin e.slot stAborted 0 e.bytes) u).admin = u.admin := by
    induction l generalizing u with
    | nil => rfl
    | cons e r ih => exact (ih _).trans (postAdmin_admin ..)
  exact hfold _ _

end Staged

/-! Fetching -/

theorem entryFetch_ready {s : State} {n : Nat} (hc : s.canFetch n = true) (ht : s.fetchTurn n = true) :
    s.entryFetch n = { s with fetchLast := tset s.fetchLast (s.sq n).prio n }.hostRead (s.sq n).owner
      ((s.sq n).base + 64 * ptrSlot (s.sq n).log2 (s.fetchFrom n)) (64 * s.fetchSize n)
      (.entries n (s.fetchSize n)) := if_pos (by rw [hc, ht]; rfl)

theorem entryFetch_waits {s : State} {n : Nat} (h : s.canFetch n = false ∨ s.fetchTurn n = false) :
    s.entryFetch n = s := if_neg (by rcases h with h | h <;> simp [h])

/-- The turn: no queue that can fetch has a higher priority, or the same and lies further behind (R37, R313). -/
theorem fetchTurn_iff (s : State) (n : Nat) : s.fetchTurn n = true ↔ ∀ e ∈ s.sqs, s.canFetch e.1 = true →
    (s.sq n).prio < e.2.prio ∨ (s.sq n).prio = e.2.prio ∧ s.fetchAge n ≤ s.fetchAge e.1 := by
  simp only [State.fetchTurn, List.all_eq_true, Bool.or_eq_true, Bool.not_eq_true', decide_eq_true_eq,
    Bool.and_eq_true, beq_iff_eq]
  refine forall₂_congr fun e _ => ?_
  rw [or_assoc, ← Bool.not_eq_true, ← imp_iff_not_or]

theorem adminFetch_ready {s : State} (h : s.canAdminFetch = true) : s.adminFetch = s.hostRead (s.sq 0).owner
    ((s.sq 0).base + 64 * ptrSlot (s.sq 0).log2 (s.sq 0).h) (64 * s.adminSize) (.admin s.adminSize) := if_pos h

theorem adminFetch_waits {s : State} (h : s.canAdminFetch = false) : s.adminFetch = s := if_neg (by simp [h])

theorem adminDone_served {s : State} {e : AdmEntry} {rest : List AdmEntry} (h : s.admin = e :: rest) {st : Nat}
    (hr : e.reply = some st) : s.adminDone = { s with admin := rest }.postAdmin e.slot stSuccess st e.bytes := by
  simp only [State.adminDone, h, hr]

theorem adminDone_unserved {s : State} {e : AdmEntry} {rest : List AdmEntry} (h : s.admin = e :: rest)
    (hr : e.reply = none) : s.adminDone = s := by
  simp only [State.adminDone, h, hr]

theorem adminDone_empty {s : State} (h : s.admin = []) : s.adminDone = s := by
  simp only [State.adminDone, h]

/-! The admin pair enabled and disabled -/

theorem putDepth_taken {s : State} {f : Fld} {k : Nat} (h1 : 1 ≤ k) (h12 : k ≤ 12) : s.putDepth f k = s.put f k :=
  if_pos (by simp [h1, h12])

/-- The depth fields of a value written to QMG_ADM_CTL taken, where they are permitted (R325). -/
def State.depthsTaken (s : State) (v : Nat) : State :=
  (s.putDepth R.QMG_ADM_CTL_sq_log2 (bits v 4 4)).putDepth R.QMG_ADM_CTL_acr_log2 (bits v 8 4)

theorem depthsTaken_admStop (s : State) (v : Nat) : (s.depthsTaken v).admStop = s.admStop := by
  unfold State.depthsTaken State.putDepth
  split_ifs <;> rfl

section Ctl

variable {s : State} {mid v : Nat}

/-- A write while the pair is not enabled (R304, R305). -/
theorem admCtlWrite_disabled (h : s.on R.QMG_ADM_CTL_enable = false) : s.admCtlWrite mid v =
    if v.testBit 0 && mid < 2 && !s.admStop then (s.depthsTaken v).adminEnable mid else s.depthsTaken v := by
  rw [State.admCtlWrite, if_neg (by simp [h])]
  show (if (v.testBit 0 && decide (mid < 2) && !(s.depthsTaken v).admStop) = true then _ else _) = _
  rw [depthsTaken_admStop]
  rfl

theorem admCtlWrite_enables (h : s.on R.QMG_ADM_CTL_enable = false) (hm : mid < 2) (ha : s.admStop = false)
    (hv : v.testBit 0 = true) : s.admCtlWrite mid v = (s.depthsTaken v).adminEnable mid :=
  (admCtlWrite_disabled h).trans (if_pos (by simp [hv, hm, ha]))

theorem admCtlWrite_configures (h : s.on R.QMG_ADM_CTL_enable = false)
    (hv : 2 ≤ mid ∨ s.admStop = true ∨ v.testBit 0 = false) : s.admCtlWrite mid v = s.depthsTaken v := by
  refine (admCtlWrite_disabled h).trans (if_neg ?_)
  rcases hv with hm | ha | hv
  · simp [Nat.not_lt.2 hm]
  · simp [ha]
  · simp [hv]

theorem admCtlWrite_disables (h : s.on R.QMG_ADM_CTL_enable = true) (hm : mid = s.get R.QMG_ADM_CTL_owner)
    (hv : v.testBit 0 = false) : s.admCtlWrite mid v = s.adminDisable := by
  rw [State.admCtlWrite, if_pos h, if_pos (by simp [hm, hv])]

theorem admCtlWrite_enabled (h : s.on R.QMG_ADM_CTL_enable = true)
    (hv : mid ≠ s.get R.QMG_ADM_CTL_owner ∨ v.testBit 0 = true) : s.admCtlWrite mid v = s := by
  rw [State.admCtlWrite, if_pos h, if_neg]
  rcases hv with hm | hv
  · simp [hm]
  · simp [hv]

end Ctl

/-- The fields that enabling the pair writes. -/
def admFlds : List Fld :=
  [R.QMG_ADM_CTL_enable, R.QMG_ADM_CTL_owner, R.QMG_ADM_CTL_sq_log2, R.QMG_ADM_CTL_acr_log2]

/-- QMG_ADM_CTL with permitted depths, enabled for a function. -/
def State.admShown (s : State) (f kq kr : Nat) : State :=
  (((s.put R.QMG_ADM_CTL_sq_log2 kq).put R.QMG_ADM_CTL_acr_log2 kr).put R.QMG_ADM_CTL_enable 1).put
    R.QMG_ADM_CTL_owner f

theorem admShown_only (s : State) (f kq kr : Nat) : Only s (s.admShown f kq kr) admFlds :=
  ((((Only.refl s _).put (by simp [admFlds]) kq).put (by simp [admFlds]) kr).put (by simp [admFlds]) 1).put
    (by simp [admFlds]) f

theorem admShown_get (s : State) {f : Nat} (kq kr : Nat) (hf : f < 2) :
    (s.admShown f kq kr).get R.QMG_ADM_CTL_enable = 1 ∧ (s.admShown f kq kr).get R.QMG_ADM_CTL_owner = f := by
  have hkey : R.QMG_ADM_CTL_enable.key ≠ R.QMG_ADM_CTL_owner.key := by decide
  refine ⟨(State.get_put_other _ _ hkey).trans (State.get_put_same ..), ?_⟩
  exact (State.get_put_same ..).trans (Nat.mod_eq_of_lt hf)

/-- Enabling the pair with permitted depths: pointers at 0, the ACR in being (R304). -/
theorem adminEnable_depthsTaken (s : State) (f : Nat) {v : Nat} (hq1 : 1 ≤ bits v 4 4) (hq : bits v 4 4 ≤ 12)
    (hr1 : 1 ≤ bits v 8 4) (hr : bits v 8 4 ≤ 12) : (s.depthsTaken v).adminEnable f =
      ((s.admShown f (bits v 4 4) (bits v 8 4)).setSq 0
        { state := 1, owner := f, log2 := bits v 4 4, base := s.get R.QMG_ADM_SQ_BASE_base }).setRing 64
        { exist := true, owner := f, log2 := bits v 8 4, base := s.get R.QMG_ADM_CR_BASE_base } := by
  have hkey : R.QMG_ADM_CTL_sq_log2.key ≠ R.QMG_ADM_CTL_acr_log2.key := by decide
  have hdepths : s.depthsTaken v =
      (s.put R.QMG_ADM_CTL_sq_log2 (bits v 4 4)).put R.QMG_ADM_CTL_acr_log2 (bits v 8 4) := by
    rw [State.depthsTaken, putDepth_taken hq1 hq, putDepth_taken hr1 hr]
  have hkq : (s.depthsTaken v).get R.QMG_ADM_CTL_sq_log2 = bits v 4 4 := by
    rw [hdepths, State.get_put_other _ _ hkey, State.get_put_same]
    exact bits_mod v 4 4
  have hkr : (s.depthsTaken v).get R.QMG_ADM_CTL_acr_log2 = bits v 8 4 := by
    rw [hdepths, State.get_put_same]
    exact bits_mod v 8 4
  have hbase {g : Fld} (hg : g.key ∉ admFlds.map Fld.key) :
      (((s.depthsTaken v).put R.QMG_ADM_CTL_enable 1).put R.QMG_ADM_CTL_owner f).get g = s.get g := by
    rw [hdepths]
    exact (admShown_only s f (bits v 4 4) (bits v 8 4)).2 g hg
  have hsq : ((((s.depthsTaken v).put R.QMG_ADM_CTL_enable 1).put R.QMG_ADM_CTL_owner f).get
      R.QMG_ADM_SQ_BASE_base) = s.get R.QMG_ADM_SQ_BASE_base := hbase (by decide)
  have hcr (x : Sq) : (((((s.depthsTaken v).put R.QMG_ADM_CTL_enable 1).put R.QMG_ADM_CTL_owner f).setSq 0 x).get
      R.QMG_ADM_CR_BASE_base) = s.get R.QMG_ADM_CR_BASE_base := hbase (by decide)
  have hnone : ¬ ((bits v 4 4 = 0 || bits v 8 4 = 0) = true) := by simp; omega
  simp only [State.adminEnable, hkq, hkr, hsq, hcr, if_neg hnone]
  rw [hdepths]
  rfl

theorem exec_adminEnable {s : State} (h : s.answers = true) (mid : BitVec 4) (v : W32) :
    exec (.adminEnable mid v) s = .next (s.admCtlWrite mid.toNat v.toNat) :=
  congrArg Host.Outcome.next (State.whenUp_of_answers h _)

theorem exec_adminDisable {s : State} (h : s.answers = true) (mid : BitVec 4) :
    exec (.adminDisable mid) s = .next (s.admCtlWrite mid.toNat 0) :=
  congrArg Host.Outcome.next (State.whenUp_of_answers h _)

/-- A write of 0 while the pair is not enabled leaves the depths, since 0 is a reserved one. -/
theorem admCtlWrite_zero {s : State} {mid : Nat} (h : s.on R.QMG_ADM_CTL_enable = false) : s.admCtlWrite mid 0 = s :=
  (admCtlWrite_configures h (.inr (.inr rfl))).trans rfl

theorem adminDisable_only (s : State) :
    Only { s with admStop := true } s.adminDisable [R.QMG_ADM_CTL_enable] ∧
      s.adminDisable.get R.QMG_ADM_CTL_enable = 0 :=
  ⟨(Only.refl { s with admStop := true } [R.QMG_ADM_CTL_enable]).put (f := R.QMG_ADM_CTL_enable) (by simp) 0,
    State.get_put_same s R.QMG_ADM_CTL_enable 0⟩

/-- SQ 0 and the ACR away once the wait of R305 has ended. -/
def State.admGone (u : State) : State :=
  ({ u.setSq 0 {} with admStop := false }.setRing 64 { u.ring 64 with exist := false }).put R.QMG_ADM_CTL_owner 0

theorem adminDisableEnd_waited {s : State} (h : s.admStop = true) : s.adminDisableEnd = s.adminAbort.admGone := if_pos h

theorem admGone_only (u : State) :
    Only { u with admStop := false, sqs := u.admGone.sqs, rings := u.admGone.rings } u.admGone [R.QMG_ADM_CTL_owner] :=
  (Only.refl ({ u.setSq 0 {} with admStop := false }.setRing 64 { u.ring 64 with exist := false }) _).put (by simp) 0

theorem admGone_closed (u : State) : u.admGone.sq 0 = {} ∧ (u.admGone.ring 64).exist = false ∧
    u.admGone.get R.QMG_ADM_CTL_owner = 0 := by
  refine ⟨sq_setSq_same u 0 {}, ?_, State.get_put_same _ _ _⟩
  exact congrArg Ring.exist (ring_setRing_same { u.setSq 0 {} with admStop := false } 64 _)

/-! A ring's delay, a shutdown -/

section Ends

variable {s : State}

theorem ringDelay_expired {m : Nat} (hc : (s.ring m).count ≠ 0) (hd : s.get (R.QMG_CR_INT_delay m) ≠ 0) :
    s.ringDelay m = (s.setRing m { s.ring m with count := 0 }).ringRaise m 0 :=
  if_pos (by simp [hc, hd])

theorem ringDelay_idle {m : Nat} (h : (s.ring m).count = 0 ∨ s.get (R.QMG_CR_INT_delay m) = 0) : s.ringDelay m = s :=
  if_neg (by rcases h with h | h <;> simp [h])

theorem shutdownDone_drained {n : Nat} (hq : (s.sq n).shutting = true) (hh : s.held n = 0) :
    s.shutdownDone n = s.setSq n (if (s.sq n).destroy then {} else { s.sq n with shutting := false }) := by
  rw [State.shutdownDone, if_pos (by simp [hq, hh])]
  split_ifs <;> rfl

theorem shutdownDone_waits {n : Nat} (h : (s.sq n).shutting = false ∨ s.held n ≠ 0) : s.shutdownDone n = s :=
  if_neg (by rcases h with h | h <;> simp [h])

end Ends

theorem ringDelay_posts (s : State) (m : Nat) :
    Only { s with rings := (s.setRing m { s.ring m with count := 0 }).rings }
      ((s.setRing m { s.ring m with count := 0 }).ringRaise m 0) [R.QMG_CR_EVT_cause m, R.QMG_CR_CNT_count m 0] ∧
      ((s.setRing m { s.ring m with count := 0 }).ringRaise m 0).ring m = { s.ring m with count := 0 } ∧
      Raised s ((s.setRing m { s.ring m with count := 0 }).ringRaise m 0) (R.QMG_CR_EVT_cause m) 0
        (R.QMG_CR_CNT_count m 0) := by
  have hkey : (R.QMG_CR_EVT_cause m).key ≠ (R.QMG_CR_CNT_count m 0).key := by
    simp [Fld.key, R.QMG_CR_EVT_cause, R.QMG_CR_CNT_count]
  exact ⟨(Only.refl (s.setRing m { s.ring m with count := 0 }) _).raise (by simp) (by simp) 0,
    ring_setRing_same s m _, raised_raise (s.setRing m { s.ring m with count := 0 }) 0 hkey⟩

/-- Settles O24: fetches by their turn, the admin pair by each write of its register, a ring's delay and a shutdown by
their conditions. -/
theorem queuesFetchAndClose : Obligations.QueuesFetchAndClose := by
  intro s
  have hnext {c : Instr} {t u : State} (hc : exec c s = .next t) (h : t = u) : exec c s = .next u := h ▸ hc
  refine ⟨fun n => ⟨fun hc ht => hnext rfl (entryFetch_ready hc ht), fun h => hnext rfl (entryFetch_waits h),
      fetchTurn_iff s n⟩,
    fun h => hnext rfl (adminFetch_ready h), fun h => hnext rfl (adminFetch_waits h),
    fun e rest h => ⟨fun st hr => hnext rfl (adminDone_served h hr), fun hr => hnext rfl (adminDone_unserved h hr)⟩,
    fun h => hnext rfl (adminDone_empty h), fun hup mid v => ⟨fun he => ?_, fun he ho => ?_, fun he ho => ?_⟩,
    fun h => ?_, fun h => hnext rfl (if_neg (by simp [h])), fun m hc hd => ?_,
    fun m h => hnext rfl (ringDelay_idle h), fun n hq hh => ?_, fun n h => hnext rfl (shutdownDone_waits h)⟩
  · refine ⟨fun hm ha hv hq1 hq hr1 hr => ?_, fun hm ha hv => ?_, fun hv => ?_, ?_⟩
    · have hshown := admShown_only s mid.toNat (bits v.toNat 4 4) (bits v.toNat 8 4)
      obtain ⟨henable, howner⟩ := admShown_get s (bits v.toNat 4 4) (bits v.toNat 8 4) hm
      refine ⟨_, (exec_adminEnable hup mid v).trans (congrArg _ ((admCtlWrite_enables he hm ha hv).trans
        (adminEnable_depthsTaken s mid.toNat hq1 hq hr1 hr))), ⟨?_, hshown.2⟩, henable, howner,
        (sq_setRing ..).trans (sq_setSq_same ..), ring_setRing_same _ 64 _⟩
      rw [hshown.1]
      rfl
    · rw [exec_adminEnable hup, admCtlWrite_enables he hm ha hv]
      rfl
    · rw [exec_adminEnable hup, admCtlWrite_configures he hv]
      rfl
    · rw [exec_adminDisable hup, admCtlWrite_zero he]
  · obtain ⟨honly, hzero⟩ := adminDisable_only s
    refine ⟨s.adminDisable, ?_, honly, hzero, fun hv => ?_, fun hv => ?_⟩
    · rw [exec_adminDisable hup, admCtlWrite_disables he ho rfl]
    · rw [exec_adminEnable hup, admCtlWrite_disables he ho hv]
    · rw [exec_adminEnable hup, admCtlWrite_enabled he (.inr hv)]
  · rw [exec_adminDisable hup, exec_adminEnable hup, admCtlWrite_enabled he (.inl ho), admCtlWrite_enabled he (.inl ho)]
    exact ⟨rfl, rfl⟩
  · obtain ⟨hsq, hring, howner⟩ := admGone_closed s.adminAbort
    exact ⟨_, hnext rfl (adminDisableEnd_waited h), rfl, adminAbort_admin s, hsq, hring, howner, s.adminAbort, rfl,
      admGone_only s.adminAbort⟩
  · exact ⟨_, hnext rfl (ringDelay_expired hc hd), ringDelay_posts s m⟩
  · exact ⟨_, hnext rfl (shutdownDone_drained hq hh), setSq_becomes s n _⟩

end Sys2Proof.Machine

end

section

namespace Sys2Proof.Machine

/-! ### Far accesses that end (O42) -/

/-! The value of a few bytes -/

theorem leVal_lt (bs : List Byte) : leVal bs < 256 ^ bs.length := by
  induction bs with
  | nil => exact Nat.one_pos
  | cons b r ih =>
    have hb : b.toNat < 256 := b.isLt
    simp only [leVal, List.length_cons, pow_succ] at *
    omega

theorem fieldAt_lt (bs : List Byte) (off n : Nat) : fieldAt bs off n < 256 ^ n :=
  (leVal_lt _).trans_le (Nat.pow_le_pow_right (by decide) (List.length_take_le ..))

/-! A far access slot -/

/-- The two fields of a far access slot's result. -/
def slotFlds (f k : Nat) : List Fld := [R.HNG_FAS_DATA_state f k, R.HNG_FAS_DATA_data f k]

theorem slot_keys (f k : Nat) : (R.HNG_FAS_DATA_state f k).key ≠ (R.HNG_FAS_DATA_data f k).key := by
  simp [Fld.key, R.HNG_FAS_DATA_state, R.HNG_FAS_DATA_data]

theorem slotEnd_only (s : State) (f k fo data : Nat) : Only s (s.slotEnd f k fo data) (slotFlds f k) :=
  ((Only.refl s _).put (by simp [slotFlds]) _).put (by simp [slotFlds]) _

theorem slotEnd_state (s : State) (f k data : Nat) {fo : Nat} (h : fo < 16) :
    (s.slotEnd f k fo data).get (R.HNG_FAS_DATA_state f k) = fo :=
  (State.get_put_other _ _ (slot_keys f k)).trans ((State.get_put_same ..).trans (Nat.mod_eq_of_lt h))

theorem slotEnd_done_data (s : State) (f k : Nat) {data : Nat} (h : data < 2 ^ 32) :
    (s.slotEnd f k foDone data).get (R.HNG_FAS_DATA_data f k) =
      if s.on (R.HNG_FAS_CMD_write f k) then 0 else data := by
  refine (State.get_put_same ..).trans ?_
  cases s.on (R.HNG_FAS_CMD_write f k) with
  | true => rfl
  | false => exact Nat.mod_eq_of_lt h

/-! The end of a request -/

theorem farNoted_done (s : State) (addr mid : Nat) : s.farNoted addr mid foDone = s := if_pos rfl

/-- A request of a far access slot that ends DONE frees it and fills the slot (R493, R498). -/
theorem reqEnd_slot_done {s : State} {k : Nat} {r : Req} {g j : Nat} (h : tget s.reqs k = some r)
    (ho : r.owner = .slot g j) (data : Nat) :
    s.reqEnd k foDone data = State.slotEnd { s with reqs := tdel s.reqs k } g j foDone data := by
  simp only [State.reqEnd, h, State.handOutcome, farNoted_done, ho]

/-- What a slot that ended DONE shows. -/
theorem reqEnd_slot_done_shown {s : State} {k : Nat} {r : Req} {g j : Nat} (h : tget s.reqs k = some r)
    (ho : r.owner = .slot g j) {data : Nat} (hd : data < 2 ^ 32) :
    Only { s with reqs := tdel s.reqs k } (s.reqEnd k foDone data) (slotFlds g j) ∧
      (s.reqEnd k foDone data).get (R.HNG_FAS_DATA_state g j) = 2 ∧
      (s.reqEnd k foDone data).get (R.HNG_FAS_DATA_data g j) =
        if s.on (R.HNG_FAS_CMD_write g j) then 0 else data := by
  rw [reqEnd_slot_done h ho]
  exact ⟨slotEnd_only .., slotEnd_state _ _ _ _ (by decide), slotEnd_done_data { s with reqs := tdel s.reqs k } g j hd⟩

/-- The fields that a time-out shows besides the slot's (R493). -/
def timeoutFlds : List Fld :=
  [R.HNG_EVT_cause, R.HNG_EVT_CNT_count 1, R.HNG_LAST_addr, R.HNG_LAST_mid, R.HNG_LAST_outcome]

/-- HNG_LAST filled after a time-out. -/
def timeoutShown (u : State) (addr mid : Nat) : State :=
  ((u.put R.HNG_LAST_addr addr).put R.HNG_LAST_mid mid).put R.HNG_LAST_outcome foTimeout

theorem timeoutShown_only (u : State) (addr mid : Nat) :
    Only u (timeoutShown u addr mid) [R.HNG_LAST_addr, R.HNG_LAST_mid, R.HNG_LAST_outcome] :=
  (((Only.refl u _).put (by simp) addr).put (by simp) mid).put (by simp) foTimeout

theorem farNoted_timeout (s : State) (addr mid : Nat) : s.farNoted addr mid foTimeout =
    timeoutShown ((s.fault { src := 22, detail := 1, res := addr }).raise R.HNG_EVT_cause 1 (R.HNG_EVT_CNT_count 1))
      addr mid := rfl

theorem farNoted_timeout_shown (s : State) (addr mid : Nat) :
    Only { s with dueFaults := s.dueFaults ++ [{ src := 22, detail := 1, res := addr }] }
        (s.farNoted addr mid foTimeout) timeoutFlds ∧
      (s.farNoted addr mid foTimeout).get R.HNG_LAST_outcome = 7 ∧
      Raised s (s.farNoted addr mid foTimeout) R.HNG_EVT_cause 1 (R.HNG_EVT_CNT_count 1) := by
  rw [farNoted_timeout]
  have hraised := raised_raise (s.fault { src := 22, detail := 1, res := addr }) (evt := R.HNG_EVT_cause)
    (cnt := R.HNG_EVT_CNT_count 1) 1 (by decide)
  have honly : Only (s.fault { src := 22, detail := 1, res := addr })
      ((s.fault { src := 22, detail := 1, res := addr }).raise R.HNG_EVT_cause 1 (R.HNG_EVT_CNT_count 1))
      [R.HNG_EVT_cause, R.HNG_EVT_CNT_count 1] := (Only.refl _ _).raise (by simp) (by simp) 1
  have hshown := timeoutShown_only
    ((s.fault { src := 22, detail := 1, res := addr }).raise R.HNG_EVT_cause 1 (R.HNG_EVT_CNT_count 1)) addr mid
  refine ⟨honly.trans hshown, State.get_put_same _ _ _, ?_, ?_⟩
  · exact (hshown.2 _ (by decide)).trans hraised.1
  · exact (hshown.2 _ (by decide)).trans hraised.2

/-- The fields of a far access slot lie below HNG_EVT and what follows it. -/
theorem key_not_mem_slot {g j : Nat} (hg : g < 2) (hj : j < 8) {f : Fld} (h : 0x80400 ≤ f.off) :
    f.key ∉ (slotFlds g j).map Fld.key := by
  simp only [slotFlds, List.map_cons, List.map_nil, List.mem_cons, List.not_mem_nil, or_false, not_or, Fld.key,
    R.HNG_FAS_DATA_state, R.HNG_FAS_DATA_data]
  omega

/-- A far access slot's request that times out (R493, R498). -/
theorem reqEnd_slot_timeout {s : State} {k : Nat} {r : Req} {g j : Nat} (h : tget s.reqs k = some r)
    (ho : r.owner = .slot g j) (hg : g < 2) (hj : j < 8) :
    Only { s with
        reqs := tdel s.reqs k, dueFaults := s.dueFaults ++ [{ src := 22, detail := 1, res := r.unit }] }
        (s.reqEnd k foTimeout 0) (timeoutFlds ++ slotFlds g j) ∧
      (s.reqEnd k foTimeout 0).get (R.HNG_FAS_DATA_state g j) = 7 ∧
      (s.reqEnd k foTimeout 0).get R.HNG_LAST_outcome = 7 ∧
      Raised s (s.reqEnd k foTimeout 0) R.HNG_EVT_cause 1 (R.HNG_EVT_CNT_count 1) := by
  have heq : s.reqEnd k foTimeout 0 =
      (State.farNoted { s with reqs := tdel s.reqs k } r.unit g foTimeout).slotEnd g j foTimeout 0 := by
    simp only [State.reqEnd, h, State.handOutcome, ho, State.ownerMid]
  rw [heq]
  obtain ⟨honly, hlast, hcause, hcount⟩ := farNoted_timeout_shown { s with reqs := tdel s.reqs k } r.unit g
  generalize State.farNoted { s with reqs := tdel s.reqs k } r.unit g foTimeout = u at *
  have hslot := slotEnd_only u g j foTimeout 0
  have hkept {f : Fld} (hf : 0x80400 ≤ f.off) : (u.slotEnd g j foTimeout 0).get f = u.get f :=
    hslot.2 f (key_not_mem_slot hg hj hf)
  exact ⟨honly.trans hslot, slotEnd_state u g j 0 (by decide), (hkept (by decide)).trans hlast,
    (hkept (by decide)).trans hcause, (hkept (by decide)).trans hcount⟩

/-! Responses and refusals -/

theorem farResponse_read {a : State} {pl : List Byte} {k : Nat} (h : a.reqMatch (fieldAt pl 0 2) false = some k)
    (pois : Bool) : a.farResponse false pl pois =
      a.reqEnd k (if pois && decide (statusOutcome (fieldAt pl 2 1) = foDone) then foPoison
        else statusOutcome (fieldAt pl 2 1)) (fieldAt pl 8 4) := by
  simp [State.farResponse, h]

theorem farResponse_write {a : State} {pl : List Byte} {k : Nat} (h : a.reqMatch (fieldAt pl 0 2) true = some k)
    (pois : Bool) : a.farResponse true pl pois = a.reqEnd k (statusOutcome (fieldAt pl 2 1)) 0 := by
  simp [State.farResponse, h]

theorem farResponse_unmatched {a : State} {write : Bool} {pl : List Byte}
    (h : a.reqMatch (fieldAt pl 0 2) write = none) (pois : Bool) : a.farResponse write pl pois = a := by
  simp only [State.farResponse, h]

section Refused

variable {a : State} {pl : List Byte}

theorem farRefused_access (ht : fieldAt pl 0 1 = 0x10 ∨ fieldAt pl 0 1 = 0x11) {k : Nat}
    (h : a.reqMatch (fieldAt pl 2 2) (fieldAt pl 0 1 == 0x11) = some k) :
    a.farRefused pl = a.reqEnd k (if fieldAt pl 1 1 = 1 then foInReset else foFarGone) 0 := by
  rw [State.farRefused, if_pos (by simpa using ht), h]

theorem farRefused_access_unmatched (ht : fieldAt pl 0 1 = 0x10 ∨ fieldAt pl 0 1 = 0x11)
    (h : a.reqMatch (fieldAt pl 2 2) (fieldAt pl 0 1 == 0x11) = none) : a.farRefused pl = a := by
  rw [State.farRefused, if_pos (by simpa using ht), h]

section Program

variable (ht : fieldAt pl 0 1 = 0x20 ∨ fieldAt pl 0 1 = 0x30)
include ht

theorem farRefused_program {o : Op} (ho : a.op (fieldAt pl 2 2 % 2048) = some o)
    (hf : a.opFar (fieldAt pl 2 2 % 2048) o = true) (hs : o.sent = true) :
    a.farRefused pl = a.endOp (fieldAt pl 2 2 % 2048) stFarGone 0 := by
  have hno : ¬ ((fieldAt pl 0 1 = 0x10 || fieldAt pl 0 1 = 0x11) = true) := by rcases ht with ht | ht <;> simp [ht]
  simp only [State.farRefused, if_neg hno, ho, hf, hs]
  exact if_pos (by simpa using ht)

theorem farRefused_program_unsent
    (h : ∀ o, a.op (fieldAt pl 2 2 % 2048) = some o → a.opFar (fieldAt pl 2 2 % 2048) o = false ∨ o.sent = false) :
    a.farRefused pl = a := by
  have hno : ¬ ((fieldAt pl 0 1 = 0x10 || fieldAt pl 0 1 = 0x11) = true) := by rcases ht with ht | ht <;> simp [ht]
  rw [State.farRefused, if_neg hno]
  cases ho : a.op (fieldAt pl 2 2 % 2048) with
  | none => exact ite_self _
  | some o =>
    have hunsent : ¬ ((a.opFar (fieldAt pl 2 2 % 2048) o && o.sent) = true) := by
      rcases h o ho with h | h <;> simp [h]
    simp only [if_neg hunsent, ite_self]

end Program

theorem farRefused_other (ht : fieldAt pl 0 1 ∉ [0x10, 0x11, 0x20, 0x30]) : a.farRefused pl = a := by
  simp only [List.mem_cons, List.not_mem_nil, or_false, not_or] at ht
  obtain ⟨h10, h11, h20, h30⟩ := ht
  rw [State.farRefused, if_neg (by simp [h10, h11]), if_neg (by simp [h20, h30])]

end Refused

/-! The commands -/

theorem prgFlit_arrives {s : State} {p : Nat} {f : FlitIn} (h : s.arrives p f = true) (c : FClass) (g : State → State) :
    s.prgFlit p c f g = g (s.accept p c f) := if_pos h

theorem prgFlit_not_arrives {s : State} {p : Nat} {f : FlitIn} (h : s.arrives p f = false) (c : FClass)
    (g : State → State) : s.prgFlit p c f g = s := if_neg (by simp [h])

theorem exec_farAccessTimeout_agent {s : State} {k : Fin 256} {r : Req} (h : tget s.reqs k = some r) {token : Nat}
    (ho : r.owner = .agent token) : exec (.farAccessTimeout k) s = .next (settle s) :=
  next_settle_congr (by simp only [h, ho])

theorem exec_farAccessTimeout_other {s : State} {k : Fin 256} {r : Req} (h : tget s.reqs k = some r)
    (ho : ∀ token, r.owner ≠ .agent token) :
    exec (.farAccessTimeout k) s = .next (settle (s.reqEnd k foTimeout 0)) := by
  refine next_settle_congr ?_
  cases hr : r.owner with
  | agent token => exact absurd hr (ho token)
  | slot g j => simp only [h, hr]
  | fabric n half => simp only [h, hr]
  | poll i => simp only [h, hr]

theorem exec_farAccessTimeout_none {s : State} {k : Fin 256} (h : tget s.reqs k = none) :
    exec (.farAccessTimeout k) s = .next (settle s) :=
  next_settle_congr (by simp only [h])

/-- A cause that is no event of source 22 (R495). -/
theorem hngRaise_held (s : State) : HngCause s (s.hngRaise 4 0) 4 :=
  ⟨(Only.refl s _).raise (by simp) (by simp) 4, raised_raise s 4 (by decide)⟩

/-- Settles O42: responses and refusals by what they match, a time-out by the owner of the request, a held result by its
expiry. -/
theorem farAccessesEnd : Obligations.FarAccessesEnd := by
  intro s
  refine ⟨fun p f hp => ?_, fun p f hp => ?_, fun k r g j hr ho hg hj => ?_, fun k r hr => ⟨fun token ho => ?_,
    fun ho => ?_⟩, fun k hk => exec_farAccessTimeout_none hk,
    fun mid lxb unit off n x hf => ⟨fun he => ?_, fun he => ?_⟩,
    fun mid lxb unit off hf => next_settle_congr (by simp only [hf])⟩
  · intro a tag st fo
    have hrd {t : State} (h : a.farResponse false f.payload f.poisoned = t) : exec (.rdRsp p f) s = .next (settle t) :=
      next_settle_congr ((prgFlit_arrives hp .rsp _).trans h)
    have hwr {t : State} (h : a.farResponse true f.payload f.poisoned = t) : exec (.wrRsp p f) s = .next (settle t) :=
      next_settle_congr ((prgFlit_arrives hp .rsp _).trans h)
    have hno {t : State} (h : a.farRefused f.payload = t) : exec (.noRoute p f) s = .next (settle t) :=
      next_settle_congr ((prgFlit_arrives hp .rsp _).trans h)
    have hdone (h0 : st = 0) : statusOutcome (fieldAt f.payload 2 1) = foDone := if_pos h0
    refine ⟨fun k hk => hrd (farResponse_read hk _), fun k hk => hwr (farResponse_write hk _),
      fun k r g j hk hr ho hg hj h0 hpois => ?_, fun hk => hrd (farResponse_unmatched hk _),
      fun k r g j hk hr ho hg hj h0 => ?_, fun hk => hwr (farResponse_unmatched hk _), ?_⟩
    · have hdata : fieldAt f.payload 8 4 < 2 ^ 32 := fieldAt_lt f.payload 8 4
      refine ⟨_, hrd ?_, reqEnd_slot_done_shown hr ho hdata⟩
      rw [farResponse_read hk, hdone h0, hpois]
      rfl
    · obtain ⟨honly, hstate, hdata⟩ := reqEnd_slot_done_shown hr ho (data := 0) (by decide)
      refine ⟨_, hwr ?_, honly, hstate, hdata.trans (ite_self 0)⟩
      rw [farResponse_write hk, hdone h0]
    · intro type gone req
      exact ⟨fun ht => ⟨fun k hk => hno (farRefused_access ht hk), fun hk => hno (farRefused_access_unmatched ht hk)⟩,
        fun ht => ⟨fun o hop hfar hsent => hno (farRefused_program ht hop hfar hsent),
          fun hall => hno (farRefused_program_unsent ht hall)⟩, fun ht => hno (farRefused_other ht)⟩
  · exact ⟨next_settle_congr (prgFlit_not_arrives hp .rsp _), next_settle_congr (prgFlit_not_arrives hp .rsp _),
      next_settle_congr (prgFlit_not_arrives hp .rsp _)⟩
  · exact ⟨_, exec_farAccessTimeout_other hr (fun token h => by simp [ho] at h), reqEnd_slot_timeout hr ho hg hj⟩
  · exact exec_farAccessTimeout_agent hr ho
  · exact exec_farAccessTimeout_other hr ho
  · refine ⟨State.hngRaise { s with fabric := tdel s.fabric n } 4 0, next_settle_congr ?_, hngRaise_held _⟩
    simp only [hf, he]
    rfl
  · refine next_settle_congr ?_
    simp only [hf, he]
    rfl

end Sys2Proof.Machine

end

section

namespace Sys2Proof.Machine

/-! ### What the port classes share -/

@[simp] theorem can_setCan_same (s : State) (m : Nat) (x : CanPort) : (s.setCan m x).can m = x := tget_tput_same ..

theorem can_setCan_other (s : State) {m n : Nat} (x : CanPort) (h : n ≠ m) : (s.setCan m x).can n = s.can n :=
  congrArg (fun y : Option CanPort => y.getD {}) (tget_tput_other _ _ h)

@[simp] theorem lin_setLin_same (s : State) (m : Nat) (x : LinPort) : (s.setLin m x).lin m = x := tget_tput_same ..

@[simp] theorem bp_setBp_same (s : State) (cls m : Nat) (x : BytePort) : (s.setBp cls m x).bp cls m = x := by
  unfold State.setBp State.bp
  split_ifs
  · exact tget_tput_same ..
  · exact tget_tput_same ..

/-- Equal states end a command without the collector's part alike. -/
theorem next_congr {s t : State} (h : s = t) : (.next s : Host.Outcome State Fault Refusal) = .next t :=
  congrArg Host.Outcome.next h

/-- A cause raised with its event for the fault collector (R593). -/
theorem raiseF_shown (s : State) {evt cnt : Fld} (bit src res : Nat) (h : evt.key ≠ cnt.key) :
    Only { s with dueFaults := s.dueFaults ++ [{ src := src, detail := bit, res := res }] }
        (s.raiseF evt bit cnt src res) [evt, cnt] ∧
      Raised s (s.raiseF evt bit cnt src res) evt bit cnt :=
  ⟨(Only.refl (s.fault { src := src, detail := bit, res := res }) _).raise (by simp) (by simp) bit,
    raised_raise s bit h⟩

/-- A CONTROL that is issued to a port is carried out there (R331). -/
theorem portFunc_issued {s : State} {a cls func i : Nat} (h : Issued s a cls func i) (f : State → Nat → State) :
    s.portFunc a cls func f = f s i := by
  rw [State.portFunc, show s.issuedOn a cls func = some i from h]

theorem portFunc_not_issued {s : State} {a cls func : Nat} (h : s.issuedOn a cls func = none)
    (f : State → Nat → State) : s.portFunc a cls func f = s := by
  rw [State.portFunc, h]

/-! The en bit of a configuration written -/

theorem testBit_setBit_zero (v : Nat) : (setBit v 0).testBit 0 = true := by
  unfold setBit
  split
  · assumption
  · next h =>
    simp only [Nat.testBit_zero, decide_eq_true_eq] at *
    omega

theorem testBit_clearBits_one (v : Nat) : (clearBits v 1).testBit 0 = false := by
  simp only [clearBits, Nat.and_one_is_mod, Nat.testBit_zero, decide_eq_false_iff_not]
  omega

section Configured

variable {s : State} (h : s.answers = true) (mid : BitVec 4) (v : W32)
include h

theorem exec_portEnable (p : PortId) : exec (.portEnable p mid v) s =
    .next (settle (s.portCfgWrite p mid.toNat (setBit v.toNat 0))) :=
  next_settle_congr (State.whenUp_of_answers h _)

theorem exec_portDisable (p : PortId) : exec (.portDisable p mid v) s =
    .next (settle (s.portCfgWrite p mid.toNat (clearBits v.toNat 1))) :=
  next_settle_congr (State.whenUp_of_answers h _)

theorem exec_portEnable_lin (m : Fin 8) : exec (.portEnable (.lin m) mid v) s =
    .next (settle ((s.writeOthers mid.toNat (setBit v.toNat 0) (R.LIN_CFG_en m)).linEn m true)) := by
  rw [exec_portEnable h, State.portCfgWrite, testBit_setBit_zero]

theorem exec_portDisable_lin (m : Fin 8) : exec (.portDisable (.lin m) mid v) s =
    .next (settle ((s.writeOthers mid.toNat (clearBits v.toNat 1) (R.LIN_CFG_en m)).linEn m false)) := by
  rw [exec_portDisable h, State.portCfgWrite, testBit_clearBits_one]

theorem exec_portEnable_sent (m : Fin 4) : exec (.portEnable (.sent m) mid v) s =
    .next (settle ((s.writeOthers mid.toNat (setBit v.toNat 0) (R.SENT_CFG_en m)).sentEn m true)) := by
  rw [exec_portEnable h, State.portCfgWrite, testBit_setBit_zero]

theorem exec_portDisable_sent (m : Fin 4) : exec (.portDisable (.sent m) mid v) s =
    .next (settle ((s.writeOthers mid.toNat (clearBits v.toNat 1) (R.SENT_CFG_en m)).sentEn m false)) := by
  rw [exec_portDisable h, State.portCfgWrite, testBit_clearBits_one]

theorem exec_portEnable_ser (m : Fin 4) : exec (.portEnable (.ser m) mid v) s =
    .next (settle ((s.writeOthers mid.toNat (setBit v.toNat 0) (R.SER_CFG_en m)).serEn m true)) := by
  rw [exec_portEnable h, State.portCfgWrite, testBit_setBit_zero]

theorem exec_portDisable_ser (m : Fin 4) : exec (.portDisable (.ser m) mid v) s =
    .next (settle ((s.writeOthers mid.toNat (clearBits v.toNat 1) (R.SER_CFG_en m)).serEn m false)) := by
  rw [exec_portDisable h, State.portCfgWrite, testBit_clearBits_one]

theorem exec_portEnable_card (m : Fin 2) : exec (.portEnable (.card m) mid v) s =
    .next (settle ((s.writeOthers mid.toNat (setBit v.toNat 0) (R.CARD_CFG_en m)).cardEn m true)) := by
  rw [exec_portEnable h, State.portCfgWrite, testBit_setBit_zero]

theorem exec_portDisable_card (m : Fin 2) : exec (.portDisable (.card m) mid v) s =
    .next (settle ((s.writeOthers mid.toNat (clearBits v.toNat 1) (R.CARD_CFG_en m)).cardEn m false)) := by
  rw [exec_portDisable h, State.portCfgWrite, testBit_clearBits_one]

end Configured

end Sys2Proof.Machine

end

section

namespace Sys2Proof.Machine

/-! ### CAN frames and errors (O16) -/

section Reception

variable {s : State} {m : Nat} {f : CanFrame}

/-- The port once an accepted frame has lowered REC, been counted and rearmed its supervision slots (R415, R420). -/
def State.canTaken (s : State) (m : Nat) (f : CanFrame) : State :=
  ((s.canRecDown m).setCan m
    { (s.canRecDown m).can m with rx := sat1 ((s.canRecDown m).can m).rx }).supSeen m f

theorem canReceive_unseen (h : s.canOnBus m = false ∨ s.attached ⟨.can, m, 1⟩ = false) (time : Nat) :
    s.canReceive m f time = s := if_pos (by simpa using h)

theorem canReceive_exception (hb : s.canOnBus m = true) (ha : s.attached ⟨.can, m, 1⟩ = true)
    (hf : s.canAccepts m f = false) (time : Nat) : s.canReceive m f time = s.canException m := by
  simp [State.canReceive, hb, ha, hf]

theorem canReceive_accepted (hb : s.canOnBus m = true) (ha : s.attached ⟨.can, m, 1⟩ = true)
    (hf : s.canAccepts m f = true) (time : Nat) : s.canReceive m f time =
      ((s.canTaken m f).canStore m f time).gwOffer (gwCode clsCan m)
        (((s.canTaken m f).canStore m f time).canRecord m f 0 time) :=
  (if_neg (by simp [hb, ha])).trans (if_neg (by simp [hf]))

theorem canStore_filtered {k : Nat} (hk : s.canFilter m f = some k) (hj : s.on (R.CAN_CTL_j1939 m) = false)
    (time : Nat) : s.canStore m f time =
      s.store clsCan m (s.get (R.CAN_FLT_MASK_class m k)) (s.canRecord m f k time) := by
  simp [State.canStore, hk, hj]

theorem canStore_unfiltered (h : s.canFilter m f = none) (time : Nat) : s.canStore m f time =
    (s.setCan m { s.can m with noFilter := sat1 (s.can m).noFilter }).canRaise m 5 := by
  simp only [State.canStore, h]

end Reception

/-! A frame that leaves -/

section Sending

variable {s : State} {m : Nat}

/-- The port once the frame that it sends has left and lowered TEC (R416, R417). -/
def State.canLeft (s : State) (m : Nat) (f : TxFrame) : State :=
  (((s.setCan m { s.can m with tx := none, sent := sat1 (s.can m).sent }).emit
    (.frame clsCan m (s.canWire m f.bytes))).canCount m (s.get (R.CAN_STATUS_tec m) - 1) (s.get (R.CAN_STATUS_rec m)))

theorem canSent_none (h : (s.can m).tx = none) : s.canSent m = s := by
  simp only [State.canSent, h]

theorem canSent_held (h : (s.can m).busOff = true ∨ (s.can m).integrating = true ∨
    s.on (R.CAN_STATUS_host_off m) = true ∨ s.attached ⟨.can, m, 0⟩ = false ∨ s.attached ⟨.can, m, 1⟩ = false) :
    s.canSent m = s := by
  cases hx : (s.can m).tx with
  | none => exact canSent_none hx
  | some f =>
    simp only [State.canSent, hx]
    exact if_pos (by simpa [or_assoc] using h)

section Leaves

variable {f : TxFrame} (hf : (s.can m).tx = some f) (hb : (s.can m).busOff = false)
  (hi : (s.can m).integrating = false) (ho : s.on (R.CAN_STATUS_host_off m) = false)
  (htx : s.attached ⟨.can, m, 0⟩ = true) (hrx : s.attached ⟨.can, m, 1⟩ = true)
include hf hb hi ho htx hrx

theorem canSent_program {token : Nat} (hsrc : f.src = .program token) :
    s.canSent m = ((s.canLeft m f).frameLeft token).canLoad m := by
  simp only [State.canSent, State.canLeft, hf, hb, hi, ho, htx, hrx, hsrc]
  rfl

theorem canSent_other (hsrc : ∀ token, f.src ≠ .program token) : s.canSent m = (s.canLeft m f).canLoad m := by
  cases h : f.src with
  | program token => exact absurd h (hsrc token)
  | _ =>
    simp only [State.canSent, State.canLeft, hf, hb, hi, ho, htx, hrx, h]
    rfl

end Leaves

end Sending

/-! Error counters -/

/-- A detected error counted and shown in lec, before the error counters move (R417, R449). -/
def State.canErrorSeen (s : State) (m lec : Nat) : State :=
  (s.setCan m { s.can m with errors := sat1 (s.can m).errors }).put (R.CAN_STATUS_lec m) lec

theorem canStatus_keys (m : Nat) : (R.CAN_STATUS_lec m).key ≠ (R.CAN_STATUS_tec m).key ∧
    (R.CAN_STATUS_lec m).key ≠ (R.CAN_STATUS_rec m).key ∧ (R.CAN_STATUS_tec m).key ≠ (R.CAN_STATUS_rec m).key ∧
    (R.CAN_STATUS_host_off m).key ≠ (R.CAN_STATUS_lec m).key ∧ (R.CAN_CTL_mode m).key ≠ (R.CAN_STATUS_lec m).key := by
  simp only [Fld.key, R.CAN_STATUS_lec, R.CAN_STATUS_tec, R.CAN_STATUS_rec, R.CAN_STATUS_host_off, R.CAN_CTL_mode]
  omega

section Errors

variable {s : State} {m : Nat} {e : CanErr}

theorem canError_off (h : (s.can m).integrating = true ∨ (s.can m).busOff = true) (e : CanErr) (lec : Nat) :
    s.canError m e lec = s := if_pos (by simpa using h)

section OnBus

variable (hi : (s.can m).integrating = false) (hb : (s.can m).busOff = false)
include hi hb

theorem canError_arbitration (lec : Nat) :
    s.canError m .arbitration lec = (s.canErrCount m .arbitration).canFailed m := by
  simp [State.canError, hi, hb]

theorem canError_receiver (he : e = .receive ∨ e = .receiveMore) (lec : Nat) :
    s.canError m e lec = (s.canErrorSeen m lec).canErrCount m e := by
  rcases he with rfl | rfl <;> simp [State.canError, State.canErrorSeen, hi, hb]

theorem canError_transmitter (ha : e ≠ .arbitration) (hr : e ≠ .receive) (hm : e ≠ .receiveMore) (lec : Nat) :
    s.canError m e lec = ((s.canErrorSeen m lec).canErrCount m e).canFailed m := by
  simp [State.canError, State.canErrorSeen, hi, hb, ha, hr, hm]

end OnBus

theorem canErrState_active (hb : (s.can m).busOff = false) (ht : s.get (R.CAN_STATUS_tec m) ≤ 127)
    (hr : s.get (R.CAN_STATUS_rec m) ≤ 127) : s.canErrState m = 0 := by
  simp [State.canErrState, hb, Nat.not_lt.2 ht, Nat.not_lt.2 hr]

theorem canErrCount_receive (h : s.canCounts m = true) : s.canErrCount m .receive =
    s.canCount m (s.get (R.CAN_STATUS_tec m)) (s.get (R.CAN_STATUS_rec m) + 1) := if_neg (by simp [h])

theorem canCounts_errorSeen (s : State) (m lec : Nat) : (s.canErrorSeen m lec).canCounts m = s.canCounts m := by
  obtain ⟨-, -, -, hoff, hmode⟩ := canStatus_keys m
  simp only [State.canCounts, State.canQuiet, State.on, State.canErrorSeen, State.get_put_other _ _ hoff,
    State.get_put_other _ _ hmode]
  rfl

/-- TEC and REC given new values. -/
def State.canCountersPut (s : State) (m tec rec : Nat) : State :=
  (s.put (R.CAN_STATUS_tec m) tec).put (R.CAN_STATUS_rec m) rec

theorem canCountersPut_get (s : State) (m : Nat) {tec rec : Nat} (ht : tec < 256) (hr : rec < 256) :
    (s.canCountersPut m tec rec).get (R.CAN_STATUS_tec m) = tec ∧
      (s.canCountersPut m tec rec).get (R.CAN_STATUS_rec m) = rec := by
  obtain ⟨-, -, hkey, -⟩ := canStatus_keys m
  unfold State.canCountersPut
  exact ⟨by rw [State.get_put_other _ _ hkey, State.get_put_same]; exact Nat.mod_eq_of_lt ht,
    by rw [State.get_put_same]; exact Nat.mod_eq_of_lt hr⟩

theorem canCountersPut_only (s : State) (m tec rec : Nat) :
    Only s (s.canCountersPut m tec rec) [R.CAN_STATUS_tec m, R.CAN_STATUS_rec m] :=
  ((Only.refl s _).put (by simp) tec).put (by simp) rec

/-- Counters that stay below 96 give no warning and leave a port error active (R417). -/
theorem canCount_below_warning {tec rec : Nat} (hb : (s.can m).busOff = false)
    (hst : s.get (R.CAN_STATUS_tec m) < 96) (hsr : s.get (R.CAN_STATUS_rec m) < 96) (ht : tec < 96) (hr : rec < 96) :
    s.canCount m tec rec = s.canCountersPut m tec rec := by
  have hold : s.canErrState m = 0 := canErrState_active hb (by omega) (by omega)
  obtain ⟨htec, hrec⟩ := canCountersPut_get s m (tec := tec) (rec := rec) (by omega) (by omega)
  have hnew : (s.canCountersPut m tec rec).canErrState m = 0 := canErrState_active hb (by omega) (by omega)
  have hmt : min 255 tec = tec := by omega
  have hmr : min 255 rec = rec := by omega
  have hwarn : ¬ ((decide (s.get (R.CAN_STATUS_tec m) < 96) && decide (96 ≤ tec) ||
      decide (s.get (R.CAN_STATUS_rec m) < 96) && decide (96 ≤ rec)) = true) := by simp; omega
  have hpassive : ¬ ((decide (s.canErrState m = 0) && decide (127 < max tec rec)) = true) := by simp; omega
  have hoff : ¬ ((decide (255 < tec) && s.canErrState m != 2) = true) := by simp; omega
  simp only [State.canCount, hmt, hmr, if_neg hwarn, if_neg hpassive, if_neg hoff]
  exact if_pos (hnew.trans hold.symm)

/-- A receive error below the warning level: counted, shown in lec, and one more in REC (R417). -/
theorem canError_receive_below_warning (hi : (s.can m).integrating = false) (hb : (s.can m).busOff = false)
    (hc : s.canCounts m = true) (ht : s.get (R.CAN_STATUS_tec m) < 96) (hr : s.get (R.CAN_STATUS_rec m) < 95)
    (lec : Nat) : s.canError m .receive lec = (s.canErrorSeen m lec).canCountersPut m
      (s.get (R.CAN_STATUS_tec m)) (s.get (R.CAN_STATUS_rec m) + 1) := by
  obtain ⟨htec, hrec, -⟩ := canStatus_keys m
  have hget {g : Fld} (h : (R.CAN_STATUS_lec m).key ≠ g.key) : (s.canErrorSeen m lec).get g = s.get g :=
    State.get_put_other _ _ h.symm
  have hoff : ((s.canErrorSeen m lec).can m).busOff = false :=
    (congrArg CanPort.busOff (can_setCan_same s m _)).trans hb
  rw [canError_receiver hi hb (.inl rfl), canErrCount_receive ((canCounts_errorSeen s m lec).trans hc), hget htec,
    hget hrec]
  exact canCount_below_warning hoff (by rw [hget htec]; omega) (by rw [hget hrec]; omega) ht (by omega)

end Errors

/-- What a receive error below the warning level leaves of the port. -/
theorem canErrorSeen_counted {s t : State} {m lec tec rec : Nat}
    (h : (s.canErrorSeen m lec).canCountersPut m tec rec = t) (hl : lec < 8) (ht : tec < 256) (hr : rec < 256) :
    Only { s with cans := t.cans } t [R.CAN_STATUS_lec m, R.CAN_STATUS_tec m, R.CAN_STATUS_rec m] ∧
      t.can m = { s.can m with errors := sat1 (s.can m).errors } ∧ (∀ n, n ≠ m → t.can n = s.can n) ∧
      t.get (R.CAN_STATUS_rec m) = rec ∧ t.get (R.CAN_STATUS_tec m) = tec ∧ t.get (R.CAN_STATUS_lec m) = lec := by
  subst h
  obtain ⟨hkt, hkr, -⟩ := canStatus_keys m
  obtain ⟨htec, hrec⟩ := canCountersPut_get (s.canErrorSeen m lec) m ht hr
  have hseen : Only (s.setCan m { s.can m with errors := sat1 (s.can m).errors }) (s.canErrorSeen m lec)
      [R.CAN_STATUS_lec m] := (Only.refl _ _).put (by simp) lec
  have hlec : (s.canErrorSeen m lec).get (R.CAN_STATUS_lec m) = lec :=
    (State.get_put_same ..).trans (Nat.mod_eq_of_lt hl)
  refine ⟨hseen.trans (canCountersPut_only _ m tec rec), can_setCan_same s m _, fun n hn => can_setCan_other s _ hn,
    hrec, htec, ?_⟩
  rw [State.canCountersPut, State.get_put_other _ _ hkr, State.get_put_other _ _ hkt, hlec]

/-! Periodic and supervised frames, J1939 sessions -/

theorem canRaise_cans (s : State) (m bit : Nat) : (s.canRaise m bit).cans = s.cans := by
  unfold State.canRaise
  split_ifs
  · rfl
  · rfl

/-- A cause of a CAN port that is an event of its fault source (R448, R593). -/
theorem canRaise_shown (s : State) (m : Nat) {bit : Nat} (h3 : bit ≠ 3) (h5 : bit ≠ 5) (h9 : bit ≠ 9) :
    Only { s with dueFaults := s.dueFaults ++ [{ src := 32 + m, detail := bit, res := m }] } (s.canRaise m bit)
        [R.CAN_EVT_cause m, R.CAN_EVT_CNT_count m bit] ∧
      Raised s (s.canRaise m bit) (R.CAN_EVT_cause m) bit (R.CAN_EVT_CNT_count m bit) := by
  have hkey : (R.CAN_EVT_cause m).key ≠ (R.CAN_EVT_CNT_count m bit).key := by
    simp only [Fld.key, R.CAN_EVT_cause, R.CAN_EVT_CNT_count]
    omega
  rw [State.canRaise, if_neg (by simp [h3, h5, h9])]
  exact raiseF_shown s bit (32 + m) m hkey

section Timers

variable {s : State} {m k : Nat}

theorem ptxPeriod_off (h : s.ptxOn m k = false ∨ s.portRuns clsCan m = false) : s.ptxPeriod m k = s :=
  if_pos (by simpa using h)

theorem ptxPeriod_due (ho : s.ptxOn m k = true) (hr : s.portRuns clsCan m = true)
    (hd : (s.can m).ptxDue.testBit k = false) : s.ptxPeriod m k =
      (s.setCan m { s.can m with ptxDue := (s.can m).ptxDue + 2 ^ k }).canLoad m := by
  simp [State.ptxPeriod, ho, hr, hd, setBit]

theorem ptxPeriod_late (ho : s.ptxOn m k = true) (hr : s.portRuns clsCan m = true)
    (hd : (s.can m).ptxDue.testBit k = true) : s.ptxPeriod m k = s.canRaise m 7 := by
  simp [State.ptxPeriod, ho, hr, hd]

theorem supTimeout_fires (ht : s.on (R.CAN_CTL_iso11992 m) = true) (he : s.on (R.CAN_SUP_ID_en m k) = true)
    (hr : s.portRuns clsCan m = true) (hf : (s.can m).supFired.testBit k = false) : s.supTimeout m k =
      (s.setCan m { s.can m with supFired := (s.can m).supFired + 2 ^ k }).canRaise m 8 := by
  simp [State.supTimeout, ht, he, hr, hf, setBit]

theorem supTimeout_off (h : s.on (R.CAN_CTL_iso11992 m) = false ∨ s.on (R.CAN_SUP_ID_en m k) = false ∨
    s.portRuns clsCan m = false ∨ (s.can m).supFired.testBit k = true) : s.supTimeout m k = s :=
  if_neg (by rcases h with h | h | h | h <;> simp [h])

variable {sa da : Nat}

theorem j1939T1_session (h : (s.can m).sessions.any (fun j => j.sa == sa && j.da == da) = true) :
    s.j1939T1 m sa da = (s.setCan m { s.can m with
      sessions := (s.can m).sessions.filter fun j => !(j.sa == sa && j.da == da)
      aborted := sat1 (s.can m).aborted }).canRaise m 6 := if_pos h

theorem j1939T1_none (h : (s.can m).sessions.any (fun j => j.sa == sa && j.da == da) = false) :
    s.j1939T1 m sa da = s := if_neg (by simp [h])

end Timers

/-- The same of a port whose part has changed with the cause. -/
theorem canRaise_setCan_shown {s t : State} {m : Nat} {x : CanPort} {bit : Nat}
    (h : (s.setCan m x).canRaise m bit = t) (h3 : bit ≠ 3) (h5 : bit ≠ 5) (h9 : bit ≠ 9) :
    Only { s with cans := t.cans, dueFaults := s.dueFaults ++ [{ src := 32 + m, detail := bit, res := m }] } t
        [R.CAN_EVT_cause m, R.CAN_EVT_CNT_count m bit] ∧
      t.can m = x ∧ Raised s t (R.CAN_EVT_cause m) bit (R.CAN_EVT_CNT_count m bit) := by
  obtain ⟨⟨hrec, hget⟩, hraised⟩ := canRaise_shown (s.setCan m x) m h3 h5 h9
  have hcans : t.cans = (s.setCan m x).cans := h ▸ canRaise_cans ..
  rw [h] at hrec hget hraised
  refine ⟨⟨?_, hget⟩, ?_, hraised⟩
  · rw [hcans]
    exact hrec
  · rw [State.can, hcans]
    exact can_setCan_same s m x

/-- Settles O16: reception by the port and the filter, sending by the frame's source, errors by who sees them, timers by
their slots. -/
theorem canFramesAndErrors : Obligations.CanFramesAndErrors := by
  intro s m
  refine ⟨fun f time => ⟨fun h => ?_, fun hb ha hf => ?_, fun hb ha hf => ⟨?_, fun k hk hj => ?_, fun hn => ?_⟩⟩,
    fun f hf hb hi ho htx hrx => ⟨fun token h => ?_, fun h => ?_⟩, fun h => ?_, fun lec hi hb hc ht hr => ?_,
    fun e lec hi hb => ⟨fun h => ?_, fun h => ?_, fun ha hr hm => ?_⟩, fun e lec h => ?_,
    fun k ho hr => ⟨fun hd => ?_, fun hd => ?_⟩, fun k h => ?_, fun k ht he hr hf => ?_, fun k h => ?_,
    fun sa da h => ?_, fun sa da h => ?_⟩
  · exact next_settle_congr (canReceive_unseen h _)
  · exact next_settle_congr (canReceive_exception hb ha hf _)
  · exact next_settle_congr (canReceive_accepted hb ha hf _)
  · exact canStore_filtered hk hj _
  · exact canStore_unfiltered hn _
  · exact next_settle_congr (canSent_program hf hb hi ho htx hrx h)
  · exact next_settle_congr (canSent_other hf hb hi ho htx hrx h)
  · exact next_settle_congr (h.elim canSent_none canSent_held)
  · exact ⟨_, next_settle_congr (canError_receive_below_warning hi hb hc ht hr _),
      canErrorSeen_counted rfl lec.isLt (by omega) (by omega)⟩
  · exact next_settle_congr (h ▸ canError_arbitration hi hb _)
  · exact next_settle_congr (canError_receiver hi hb h _)
  · exact next_settle_congr (canError_transmitter hi hb ha hr hm _)
  · exact next_settle_congr (canError_off h e _)
  · exact next_settle_congr (ptxPeriod_due ho hr hd)
  · exact ⟨_, next_settle_congr (ptxPeriod_late ho hr hd), canRaise_shown s m (by decide) (by decide) (by decide)⟩
  · exact next_settle_congr (ptxPeriod_off h)
  · exact ⟨_, next_settle_congr (supTimeout_fires ht he hr hf),
      canRaise_setCan_shown rfl (by decide) (by decide) (by decide)⟩
  · exact next_settle_congr (supTimeout_off h)
  · exact ⟨_, next_settle_congr (j1939T1_session h),
      canRaise_setCan_shown rfl (by decide) (by decide) (by decide)⟩
  · exact next_settle_congr (j1939T1_none h)

end Sys2Proof.Machine

end

section

namespace Sys2Proof.Machine

/-! ### The expansion bus (O41) -/

theorem hngCause_keys (bit : Nat) : R.HNG_EVT_cause.key ≠ (R.HNG_EVT_CNT_count bit).key := by
  simp only [Fld.key, R.HNG_EVT_cause, R.HNG_EVT_CNT_count]
  omega

/-- sem_foreign and sem_lease are causes without an event for the fault collector (R501, R502, R593). -/
theorem hngRaise_cause (s : State) (addr : Nat) {bit : Nat} (h : 10 ≤ bit) :
    HngCause s (s.hngRaise bit addr) bit := by
  rw [State.hngRaise, if_neg (by simp; omega)]
  exact ⟨(Only.refl s _).raise (by simp) (by simp) bit, raised_raise s bit (hngCause_keys bit)⟩

/-- lock_broken is an event of source 22 (R507, R593). -/
theorem hngRaise_lockBroken (s : State) (addr : Nat) : HngFault s (s.hngRaise 9 addr) 9 addr :=
  raiseF_shown s 9 22 addr (hngCause_keys 9)

section Lock

variable {s : State} {mid : Nat}

theorem lxbLockRead_free (hm : lockMid mid = true) (h : s.lxbLock = none) :
    s.lxbLockRead mid = ({ s with lxbLock := some mid, lxbOut := false }, 0) := by
  simp [State.lxbLockRead, hm, h]

theorem lxbLockRead_held (hm : lockMid mid = true) {h : Nat} (hh : s.lxbLock = some h) :
    s.lxbLockRead mid = (s, if h = mid then 0 else 2 ^ 31 + h) := by
  simp [State.lxbLockRead, hm, hh]

theorem lxbLockRead_other (hm : lockMid mid = false) : s.lxbLockRead mid = (s, 0) := if_pos (by simp [hm])

theorem lxbLockWrite_holder (hm : lockMid mid = true) (h : s.lxbLock = some mid) :
    s.lxbLockWrite mid = { s with lxbLock := none } := by
  simp [State.lxbLockWrite, hm, h]

theorem lxbLockWrite_foreign (hm : lockMid mid = true) (h : s.lxbLock ≠ some mid) :
    s.lxbLockWrite mid = s.hngRaise 10 0 := by
  simp [State.lxbLockWrite, hm, h]

theorem lxbLockWrite_other (hm : lockMid mid = false) : s.lxbLockWrite mid = s := if_pos (by simp [hm])

theorem lxbBreak_held {h : Nat} (hh : s.lxbLock = some h) :
    s.lxbBreak = ({ s with lxbLock := none, lxbBroken := some h }).hngRaise 9 s.addr := by
  simp only [State.lxbBreak, hh]

theorem lxbBreak_free (h : s.lxbLock = none) : s.lxbBreak = s := by
  simp only [State.lxbBreak, h]

theorem semLease_expires {k : Nat} (hl : s.get R.HNG_SEM_LEASE_ms ≠ 0) (hk : tget s.sems k ≠ none) :
    s.semLease k = ({ s with sems := tdel s.sems k }).hngRaise 11 0 :=
  if_pos (by simp [hl, Option.isSome_iff_ne_none, hk])

theorem semLease_idle {k : Nat} (h : s.get R.HNG_SEM_LEASE_ms = 0 ∨ tget s.sems k = none) : s.semLease k = s :=
  if_neg (by rcases h with h | h <;> simp [h])

end Lock

theorem exec_lxbLockRead {s : State} (h : s.answers = true) (mid : BitVec 4) {t : State} {x : Nat}
    (hr : s.lxbLockRead mid.toNat = (t, x)) : exec (.lxbLockRead mid) s = .next { t with readData := x } := by
  refine congrArg Host.Outcome.next ((State.whenUp_of_answers h _).trans ?_)
  rw [hr]

theorem exec_lxbLockRelease {s : State} (h : s.answers = true) (mid : BitVec 4) :
    exec (.lxbLockRelease mid) s = .next (settle (s.lxbLockWrite mid.toNat)) :=
  next_settle_congr (State.whenUp_of_answers h _)

/-! The access that has its turn -/

section Turn

variable {s : State} {r : LxbReq}

/-- The bus once access r has left the queue for its turn; LXB_LOCK rises with one of the lock's holder (R505, R506). -/
def State.lxbInTurn (s : State) (r : LxbReq) : State :=
  { s.lxbTake r with lxbOut := s.lxbOut || s.lxbLock == some r.mid }

/-- What the phases of access r put on the bus (R503). -/
def lxbPhases (r : LxbReq) (got : Nat) : Out :=
  .line clsLxb r.cs (b2n r.write + 1) (r.addr + 2 ^ 24 * (if r.write then r.data else got))

theorem lxbAccess_none (h : s.lxbNext = none) (d : Nat) : s.lxbAccess d = s := by
  simp only [State.lxbAccess, h]

section Next

variable (h : s.lxbNext = some r)
include h

theorem lxbAccess_broken (hb : s.lxbBroken = some r.mid) (d : Nat) :
    s.lxbAccess d = State.lxbFail { s.lxbInTurn r with lxbBroken := none } r.owner foLockBroken := by
  simp only [State.lxbAccess, h]
  exact if_pos hb

theorem lxbAccess_gone (hb : s.lxbBroken ≠ some r.mid) (hu : (s.lxbInTurn r).lxbUp r.cs = false) (d : Nat) :
    s.lxbAccess d = (s.lxbInTurn r).lxbGone r := by
  simp only [State.lxbAccess, h]
  exact (if_neg hb).trans (if_pos (congrArg (!·) hu))

theorem lxbAccess_runs (hb : s.lxbBroken ≠ some r.mid) (hu : (s.lxbInTurn r).lxbUp r.cs = true) (d : Nat) :
    s.lxbAccess d = ((s.lxbInTurn r).emitOn ⟨.lxb, 0, 16 + r.cs⟩ (lxbPhases r (d &&& (s.lxbInTurn r).lxbAd))).lxbPart r
      (if r.write then 0 else d &&& (s.lxbInTurn r).lxbAd) := by
  simp only [State.lxbAccess, h]
  exact (if_neg hb).trans (if_neg (ne_true_of_eq_false (congrArg (!·) hu)))

theorem lxbWait_unwatched
    (hw : ¬ (s.on (R.HNG_LXB_CS_CFG_wait_en r.cs) = true ∧ s.attached ⟨.lxb, 0, 24⟩ = true)) : s.lxbWait = s := by
  simp only [State.lxbWait, h]
  exact if_pos (by simpa [imp_iff_not_or] using hw)

theorem lxbWait_broken (hw : s.on (R.HNG_LXB_CS_CFG_wait_en r.cs) = true ∧ s.attached ⟨.lxb, 0, 24⟩ = true)
    (hb : s.lxbBroken = some r.mid) :
    s.lxbWait = State.lxbFail { s.lxbTake r with lxbBroken := none } r.owner foLockBroken := by
  simp [State.lxbWait, h, hw, hb]

theorem lxbWait_fails (hw : s.on (R.HNG_LXB_CS_CFG_wait_en r.cs) = true ∧ s.attached ⟨.lxb, 0, 24⟩ = true)
    (hb : s.lxbBroken ≠ some r.mid) : s.lxbWait = (s.lxbTake r).lxbFail r.owner foLxbError := by
  simp [State.lxbWait, h, hw, hb]

end Next

theorem lxbWait_none (h : s.lxbNext = none) : s.lxbWait = s := by
  simp only [State.lxbWait, h]

end Turn

theorem emitOn_attached {s : State} {f : PinFn} (h : s.attached f = true) (o : Out) : s.emitOn f o = s.emit o :=
  if_pos h

theorem emitOn_detached {s : State} {f : PinFn} (h : s.attached f = false) (o : Out) : s.emitOn f o = s :=
  if_neg (by simp [h])

/-! Interrupt lines -/

/-- The state with the level of an interrupt line followed (R246). -/
def State.lxbIrqPut (s : State) (n : Nat) (level : Bool) : State := { s with lxbIrq := putBit s.lxbIrq n level }

theorem lxbIrqSet_high {s : State} {n : Nat} (h : (s.lxbIrqPut n true).attached ⟨.lxb, 0, 26 + n⟩ = true) :
    s.lxbIrqSet n true = (s.lxbIrqPut n true).lxbIrqHigh n := if_pos h

theorem lxbIrqSet_quiet {s : State} {n : Nat} {level : Bool}
    (h : level = false ∨ (s.lxbIrqPut n level).attached ⟨.lxb, 0, 26 + n⟩ = false) :
    s.lxbIrqSet n level = s.lxbIrqPut n level := by
  have hlow : (level && (s.lxbIrqPut n level).attached ⟨.lxb, 0, 26 + n⟩) = false := by
    rcases h with h | h <;> simp [h]
  exact if_neg (ne_true_of_eq_false hlow)

/-- Settles O41: the lock by who reads or writes it, an access and its wait by what its turn meets, leases and interrupt
lines by their conditions. -/
theorem expansionBusTurns : Obligations.ExpansionBusTurns := by
  intro s
  refine ⟨fun hup mid hm => ⟨fun h => ?_, fun h hh => ?_, fun h => ?_, fun h => ?_⟩, fun hup mid hm => ⟨?_, ?_⟩,
    fun h hh => ?_, fun h => ?_, fun k hl hk => ?_, fun k h => ?_, fun d r h => ⟨fun hb => ?_, fun hb => ⟨fun hu => ?_,
      fun hu => ⟨fun ha => ?_, fun ha => ?_⟩⟩⟩, fun d h => ?_, fun r h => ⟨fun hw => ?_, fun hw hb => ?_,
      fun hw hb => ?_⟩, fun h => ?_, fun n level => ⟨fun hl ha => ?_, fun h => ?_⟩⟩
  · exact exec_lxbLockRead hup mid (lxbLockRead_free hm h)
  · exact exec_lxbLockRead hup mid (lxbLockRead_held hm hh)
  · rw [exec_lxbLockRelease hup, lxbLockWrite_holder hm h]
  · exact ⟨_, (exec_lxbLockRelease hup mid).trans (next_settle_congr (lxbLockWrite_foreign hm h)),
      hngRaise_cause s 0 (by decide)⟩
  · exact exec_lxbLockRead hup mid (lxbLockRead_other hm)
  · rw [exec_lxbLockRelease hup, lxbLockWrite_other hm]
  · exact ⟨_, next_settle_congr (lxbBreak_held hh), hngRaise_lockBroken _ _⟩
  · exact next_settle_congr (lxbBreak_free h)
  · exact ⟨_, next_settle_congr (semLease_expires hl hk), hngRaise_cause _ 0 (by decide)⟩
  · exact next_settle_congr (semLease_idle h)
  · exact next_settle_congr (lxbAccess_broken h hb _)
  · exact next_settle_congr (lxbAccess_gone h hb hu _)
  · exact next_settle_congr ((lxbAccess_runs h hb hu _).trans (congrArg (State.lxbPart · r _) (emitOn_attached ha _)))
  · exact next_settle_congr ((lxbAccess_runs h hb hu _).trans (congrArg (State.lxbPart · r _) (emitOn_detached ha _)))
  · exact next_settle_congr (lxbAccess_none h _)
  · exact next_settle_congr (lxbWait_unwatched h hw)
  · exact next_settle_congr (lxbWait_fails h hw hb)
  · exact next_settle_congr (lxbWait_broken h hw hb)
  · exact next_settle_congr (lxbWait_none h)
  · subst hl
    exact next_settle_congr (lxbIrqSet_high ha)
  · exact next_settle_congr (lxbIrqSet_quiet h)

end Sys2Proof.Machine

end

section

namespace Sys2Proof.Machine

/-! ### LIN schedules, responses and wake-up (O51) -/

theorem tokenOf_of_op {s : State} {a : Nat} {o : Op} (h : s.op a = some o) : s.tokenOf a = o.token a := by
  rw [State.tokenOf, h]

/-! CONTROL functions -/

section Control

variable {s : State} {m a : Nat}

theorem runSchedule_responder (h : s.linResponder m = true) (t n : Nat) :
    s.runSchedule m a t n = s.endOp a stDeviceError 0x21 := if_pos h

theorem runSchedule_invalid (h : s.linResponder m = false) {t : Nat} (ht : s.linTableOk m t = false) (n : Nat) :
    s.runSchedule m a t n = s.endOp a stDeviceError 0x22 :=
  (if_neg (by simp [h])).trans (if_pos (by simp [ht]))

section Valid

variable (h : s.linResponder m = false) {t : Nat} (ht : s.linTableOk m t = true)
include h ht

theorem runSchedule_starts (hr : (s.lin m).run = none) (n : Nat) : s.runSchedule m a t n =
    s.setLin m { s.lin m with
      run := some (s.linStart m t (if n = 0 then none else some n) (some (s.tokenOf a))), asleep := false } := by
  simp [State.runSchedule, h, ht, hr]

theorem runSchedule_waits (hr : (s.lin m).run ≠ none) (n : Nat) : s.runSchedule m a t n =
    s.setLin m { s.lin m with
      next := some (some (s.linStart m t (if n = 0 then none else some n) (some (s.tokenOf a))), (s.lin m).replaced)
      asleep := false } := by
  simp [State.runSchedule, h, ht, Option.isSome_iff_ne_none, hr]

end Valid

theorem stopSchedule_responder (h : s.linResponder m = true) :
    s.stopSchedule m a = s.endOp a stDeviceError 0x21 := if_pos h

theorem stopSchedule_idle (h : s.linResponder m = false) (hr : (s.lin m).run = none) :
    s.stopSchedule m a = s.endOp a stSuccess 0 := by
  simp [State.stopSchedule, h, hr]

theorem stopSchedule_waits (h : s.linResponder m = false) (hr : (s.lin m).run ≠ none) : s.stopSchedule m a =
    s.setLin m { s.lin m with next := some (none, (s.lin m).replaced ++ [s.tokenOf a]) } := by
  simp [State.stopSchedule, h, Option.isSome_iff_ne_none, hr]

theorem gotoSleep_responder (h : s.linResponder m = true) : s.gotoSleep m a = s.endOp a stDeviceError 0x21 := if_pos h

theorem gotoSleep_waits (h : s.linResponder m = false) :
    s.gotoSleep m a = s.setLin m { s.lin m with sleep := some (s.tokenOf a) } := if_neg (by simp [h])

theorem linPulse_attached (ha : s.attached ⟨.lin, m, 0⟩ = true) : s.linPulse m a =
    (s.setLin m { s.lin m with waking := some (s.tokenOf a) }).emit
      (.line clsLin m 1 (s.get (R.LIN_CFG_wake_len m) + 1)) := if_pos ha

theorem linPulse_detached (ha : s.attached ⟨.lin, m, 0⟩ = false) :
    s.linPulse m a = s.setLin m { s.lin m with waking := some (s.tokenOf a) } := if_neg (ne_true_of_eq_false ha)

theorem linPulseEnd_none (h : (s.lin m).waking = none) : s.linPulseEnd m = s := by
  simp only [State.linPulseEnd, h]

theorem linPulseEnd_ends {g : Nat} (h : (s.lin m).waking = some g) :
    s.linPulseEnd m = (s.setLin m { s.lin m with waking := none }).endToken g stSuccess 0 := by
  simp only [State.linPulseEnd, h]

end Control

theorem exec_runSchedule {s : State} {a : Fin 2560} {m : Nat} (h : Issued s a clsLin 0x10 m) {o : Op}
    (ho : s.op a = some o) : exec (.runSchedule a) s =
      .next (s.runSchedule m a (devSub o.first.dev) (o.first.param % 256)) := by
  refine congrArg Host.Outcome.next ((portFunc_issued h _).trans ?_)
  simp only [ho]

/-! The en bit of LINm_CFG -/

section Enable

variable {s : State} {m : Nat}

theorem linEn_same {en : Bool} (h : s.on (R.LIN_CFG_en m) = en) : s.linEn m en = s := by
  cases en <;> simp [State.linEn, h]

theorem linEn_refused (h : s.on (R.LIN_CFG_en m) = false)
    (hr : s.get (R.LIN_BAUD_rate m) < 1000 ∨ 20000 < s.get (R.LIN_BAUD_rate m)) : s.linEn m true = s.linRaise m 7 :=
  (if_pos (by simp [h])).trans (if_pos (by simpa using hr))

theorem linEn_enables (h : s.on (R.LIN_CFG_en m) = false) (hlo : 1000 ≤ s.get (R.LIN_BAUD_rate m))
    (hhi : s.get (R.LIN_BAUD_rate m) ≤ 20000) : s.linEn m true = s.put (R.LIN_CFG_en m) 1 :=
  (if_pos (by simp [h])).trans (if_neg (by simp; omega))

theorem linEn_disables (h : s.on (R.LIN_CFG_en m) = true) : s.linEn m false =
    ((s.put (R.LIN_CFG_en m) 0).portOff clsLin m stBadDevice 0x03).setLin m
      { ((s.put (R.LIN_CFG_en m) 0).portOff clsLin m stBadDevice 0x03).lin m with asleep := false } := by
  simp [State.linEn, h]

end Enable

/-! What waits for the end of a slot -/

section Request

variable {s : State} {m : Nat} {x : LinPort} (hx : s.lin m = x)
include hx

theorem linRequest_waiting {r : Option LinRun} {ends : List Nat} (h : x.next = some (r, ends)) : s.linRequest m =
    ends.foldl (fun t g => t.endToken g stSuccess 0) (s.setLin m { x with run := r, back := [], next := none }) := by
  simp only [State.linRequest, hx, h]

theorem linRequest_idle (hn : x.next = none) (h : x.run = none) : s.linRequest m = s := by
  simp only [State.linRequest, State.linNextSlot, hx, hn, h]

section Running

variable (hn : x.next = none) {r : LinRun} (h : x.run = some r)
include hn h

theorem linRequest_fresh (hf : r.fresh = true) : s.linRequest m = s := by
  simp [State.linRequest, State.linNextSlot, hx, hn, h, hf]

theorem linRequest_moves (hf : r.fresh = false) {q : LinRun} (hq : s.linStep m r = some q) :
    s.linRequest m = s.setLin m { x with run := some { q with fresh := true } } := by
  simp [State.linRequest, State.linNextSlot, hx, hn, h, hf, hq]

theorem linRequest_done (hf : r.fresh = false) (hq : s.linStep m r = none) (hb : x.back = []) :
    s.linRequest m = (s.setLin m { x with run := none }).linRaise m 6 := by
  simp [State.linRequest, State.linNextSlot, hx, hn, h, hf, hq, hb]

theorem linRequest_resumes (hf : r.fresh = false) (hq : s.linStep m r = none) {b : LinRun} {rest : List LinRun}
    (hb : x.back = b :: rest) :
    s.linRequest m = s.setLin m { x with run := some { b with fresh := true }, back := rest } := by
  simp [State.linRequest, State.linNextSlot, hx, hn, h, hf, hq, hb]

end Running

end Request

/-! The slot that begins -/

theorem linSlot_stopped {s : State} {m : Nat} (h : s.portRuns clsLin m = false ∨ s.linResponder m = true) :
    s.linSlot m = s := if_pos (by simpa using h)

section Slot

variable {s u : State} {m : Nat} (hp : s.portRuns clsLin m = true) (hc : s.linResponder m = false)
  (hu : (s.setLin m { s.lin m with hdr := none }).linRequest m = u)
include hp hc hu

theorem linSlot_asleep (ha : (u.lin m).asleep = true) (hr : (u.lin m).run = none) : s.linSlot m = u := by
  simp [State.linSlot, hp, hc, hu, ha, hr]

section Awake

variable (hs : (u.lin m).sleep = none)
include hs

theorem linSlot_idle (ho : u.linOwn m = none) (hr : (u.lin m).run = none) : s.linSlot m = u := by
  simp [State.linSlot, hp, hc, hu, hs, ho, hr]

theorem linSlot_runs (ho : u.linOwn m = none) {r : LinRun} (hr : (u.lin m).run = some r) :
    s.linSlot m = u.linRunSlot m r := by
  simp [State.linSlot, hp, hc, hu, hs, ho, hr]

end Awake

section Sends

variable (ha : (u.lin m).asleep = false ∨ (u.lin m).run ≠ none)
include ha

theorem linSlot_sleepCommand {g : Nat} (hs : (u.lin m).sleep = some g) : s.linSlot m =
    u.linHeader m { id := 0x3C, type := 2, src := .sleep g, bytes := sleepRecord, time := u.now } := by
  have hawake : ((u.lin m).asleep && (u.lin m).run.isNone) = false := by
    rcases ha with h | h <;> simp [h, Option.isSome_iff_ne_none]
  simp [State.linSlot, hp, hc, hu, hawake, hs]

theorem linSlot_own (hs : (u.lin m).sleep = none) {id token : Nat} {bs : List Byte}
    (ho : u.linOwn m = some (id, token, bs)) : s.linSlot m =
      u.linHeader m { id := id, src := .program token, bytes := bs, time := u.now } := by
  have hawake : ((u.lin m).asleep && (u.lin m).run.isNone) = false := by
    rcases ha with h | h <;> simp [h, Option.isSome_iff_ne_none]
  simp [State.linSlot, hp, hc, hu, hawake, hs, ho]

end Sends

end Slot

/-- The port at slot r of its schedule: the slot has begun, and LINm_STATUS shows it (R422, R449). -/
def State.linAtSlot (s : State) (m : Nat) (r : LinRun) : State :=
  ((s.setLin m { s.lin m with run := some { r with fresh := false, token := none } }).put
    (R.LIN_STATUS_table m) r.table).put (R.LIN_STATUS_slot m) r.slot

theorem linRunSlot_plain (s : State) (m : Nat) {r : LinRun} (h : r.token = none) :
    s.linRunSlot m r = (s.linAtSlot m r).linHeader m ((s.linAtSlot m r).linSlotHdr m r.slot) := by
  simp only [State.linRunSlot, h]
  rfl

theorem linRunSlot_ends (s : State) (m : Nat) {r : LinRun} {g : Nat} (h : r.token = some g) :
    s.linRunSlot m r = ((s.linAtSlot m r).endToken g stSuccess 0).linHeader m
      (((s.linAtSlot m r).endToken g stSuccess 0).linSlotHdr m r.slot) := by
  simp only [State.linRunSlot, h]
  rfl

/-- A slot of a commander goes on from the state in which what waited has taken effect. -/
theorem linSlotFrom_request {s u : State} {m : Fin 8} (hp : s.portRuns clsLin m = true)
    (hc : s.linResponder m = false) (hu : (s.setLin m { s.lin m with hdr := none }).linRequest m = u) :
    LinSlotFrom s u m := by
  refine ⟨fun ha hr => ?_, fun ha => ⟨fun g hs => ?_, fun hs => ⟨fun id token bs ho => ?_, fun ho hr => ?_,
    fun r ho hr => ⟨fun ht => ?_, fun g ht => ?_⟩⟩⟩⟩
  · exact next_settle_congr (linSlot_asleep hp hc hu ha hr)
  · exact next_settle_congr (linSlot_sleepCommand hp hc hu ha hs)
  · exact next_settle_congr (linSlot_own hp hc hu ha hs ho)
  · exact next_settle_congr (linSlot_idle hp hc hu hs ho hr)
  · exact next_settle_congr ((linSlot_runs hp hc hu hs ho hr).trans (linRunSlot_plain u m ht))
  · exact next_settle_congr ((linSlot_runs hp hc hu hs ho hr).trans (linRunSlot_ends u m ht))

/-! Headers received -/

section Header

variable {s : State} {m : Nat}

theorem linRxHeader_unseen (h : s.attached ⟨.lin, m, 1⟩ = false ∨ s.portRuns clsLin m = false ∨
    s.linResponder m = false) (id bit time : Nat) : s.linRxHeader m id bit time = s :=
  if_pos (by simpa [or_assoc] using h)

/-- The header that a responder takes (R421). -/
def State.linTaken (s : State) (m id time : Nat) : LinHdr :=
  { id := id, type := if id = 0x3C ∨ id = 0x3D then 2 else 0, time := time, enhanced := s.on (R.LIN_RSP_enhanced m id)
    record := s.get (R.LIN_RSP_action m id) == 1 }

variable (ha : s.attached ⟨.lin, m, 1⟩ = true) (hp : s.portRuns clsLin m = true) (hr : s.linResponder m = true)
  {id bit : Nat}
include ha hp hr

theorem linRxHeader_outside (hb : s.linInRange m bit = false) (time : Nat) :
    s.linRxHeader m id bit time = s.linRaise m 5 := by
  simp [State.linRxHeader, ha, hp, hr, hb]

variable (hb : s.linInRange m bit = true)
include hb

theorem linRxHeader_listens (hs : s.linSource m id false = none) (time : Nat) :
    s.linRxHeader m id bit time = s.linUnder m (s.linTaken m id time) := by
  simp [State.linRxHeader, State.linTaken, ha, hp, hr, hb, hs]

theorem linRxHeader_answers {src : LinFrom} {bs : List Byte} (hs : s.linSource m id false = some (src, bs))
    (time : Nat) : s.linRxHeader m id bit time =
      s.linUnder m { s.linTaken m id time with src := src, bytes := bs, record := false } := by
  simp [State.linRxHeader, State.linTaken, ha, hp, hr, hb, hs]

end Header

/-! Responses -/

section Response

variable {s : State} {m : Nat}

theorem linRespEnd_none (h : (s.lin m).hdr = none) (p : LinResp) : s.linRespEnd m p = s := by
  simp only [State.linRespEnd, h]

theorem linNoResp_none (h : (s.lin m).hdr = none) : s.linNoResp m = s := by
  simp only [State.linNoResp, h]

theorem linBitError_none (h : (s.lin m).hdr = none) : s.linBitError m = s := by
  simp only [State.linBitError, h]

/-- The port once a response of another node has been counted, stored and offered to the gateway; a collision table has
not run yet (R424, R425). -/
def State.linBusTaken (s : State) (m : Nat) (h : LinHdr) (p : LinResp) : State :=
  let coll := h.ctable.isSome && (p.checksum || p.framing)
  let u := s.setLin m { s.lin m with
    hdr := none, rx := sat1 (s.lin m).rx
    checksum := if p.checksum then sat1 (s.lin m).checksum else (s.lin m).checksum }
  let u := if coll then u.linRaise m 3 else if p.checksum then u.linRaise m 1 else u
  let record (rstat : Nat) := mkRecord p.data.length rstat h.kind h.id h.time h.id 0 p.data
  let rstat := 16 * b2n p.checksum + 32 * b2n p.framing + 64 * b2n p.incomplete + 128 * b2n coll
  let u := if h.record then u.store clsLin m 0 (record rstat) else u
  if p.checksum || p.framing || p.incomplete then u else u.gwOffer (gwCode clsLin m) (record 0)

theorem linBusResp_plain {h : LinHdr} {p : LinResp} (hc : (h.ctable.isSome && (p.checksum || p.framing)) = false) :
    s.linBusResp m h p = s.linBusTaken m h p := by
  cases ht : h.ctable with
  | none =>
    simp only [State.linBusResp, State.linBusTaken, ht]
  | some t =>
    rw [ht] at hc
    simp only [State.linBusResp, State.linBusTaken, ht, hc]
    rfl

theorem linBusResp_collision {h : LinHdr} {p : LinResp} {t : Nat} (ht : h.ctable = some t)
    (hc : (h.ctable.isSome && (p.checksum || p.framing)) = true) :
    s.linBusResp m h p = (s.linBusTaken m h p).linCollide m t := by
  rw [ht] at hc
  simp only [State.linBusResp, State.linBusTaken, ht, hc]
  rfl

section Under

variable {h : LinHdr} (hh : (s.lin m).hdr = some h)
include hh

theorem linRespEnd_bus (hs : h.src = .bus) (ha : s.attached ⟨.lin, m, 1⟩ = true) (p : LinResp) :
    s.linRespEnd m p = s.linBusResp m h p := by
  simp [State.linRespEnd, hh, hs, ha]

theorem linRespEnd_bus_detached (hs : h.src = .bus) (ha : s.attached ⟨.lin, m, 1⟩ = false) (p : LinResp) :
    s.linRespEnd m p = s := by
  simp [State.linRespEnd, hh, hs, ha]

theorem linRespEnd_detached (hs : h.src ≠ .bus)
    (ha : s.attached ⟨.lin, m, 0⟩ = false ∨ s.attached ⟨.lin, m, 1⟩ = false) (p : LinResp) :
    s.linRespEnd m p = s := by
  rcases ha with ha | ha <;> simp [State.linRespEnd, hh, hs, ha]

theorem linRespEnd_sent (hs : h.src ≠ .bus) (h0 : s.attached ⟨.lin, m, 0⟩ = true)
    (h1 : s.attached ⟨.lin, m, 1⟩ = true) (p : LinResp) : s.linRespEnd m p = s.linSentResp m h := by
  simp [State.linRespEnd, hh, hs, h0, h1]

theorem linNoResp_own (hs : h.src ≠ .bus) : s.linNoResp m = s := by
  simp [State.linNoResp, hh, hs]

theorem linNoResp_unrecorded (hs : h.src = .bus) (hr : h.record = false) :
    s.linNoResp m = s.setLin m { s.lin m with hdr := none } := by
  simp [State.linNoResp, hh, hs, hr]

theorem linNoResp_recorded (hs : h.src = .bus) (hr : h.record = true) : s.linNoResp m =
    (((s.setLin m { s.lin m with hdr := none }).setLin m
      { s.lin m with hdr := none, noResponse := sat1 (s.lin m).noResponse }).linRaise m 2).store clsLin m 0
        (mkRecord 0 8 h.kind h.id h.time h.id 0 []) := by
  simp [State.linNoResp, hh, hs, hr]

theorem linBitError_heard (hs : h.src = .bus) (hr : s.linResponder m = true) : s.linBitError m = s := by
  simp [State.linBitError, hh, hs, hr]

theorem linBitError_header (hs : h.src = .bus) (hr : s.linResponder m = false) : s.linBitError m =
    (s.linRaise m 0).setLin m { s.lin m with hdr := none, bitErr := sat1 (s.lin m).bitErr } := by
  simp [State.linBitError, hh, hs, hr]

theorem linBitError_again (hs : h.src = .again) : s.linBitError m =
    (s.linRaise m 0).setLin m { s.lin m with hdr := none, bitErr := sat1 (s.lin m).bitErr } := by
  simp [State.linBitError, hh, hs]

theorem linBitError_gateway (hs : h.src = .gateway) : s.linBitError m =
    (s.linRaise m 0).setLin m { s.lin m with
      hdr := none, bitErr := sat1 (s.lin m).bitErr, gw := tdel (s.lin m).gw h.id } := by
  simp [State.linBitError, hh, hs]

theorem linBitError_program {token : Nat} (hs : h.src = .program token) : s.linBitError m =
    ((((s.linRaise m 0).setLin m { s.lin m with
      hdr := none, bitErr := sat1 (s.lin m).bitErr, pend := tdel (s.lin m).pend h.id }).frameFailed
        token 0x20).linLoad m) := by
  simp [State.linBitError, hh, hs]

theorem linBitError_sleep {g : Nat} (hs : h.src = .sleep g) : s.linBitError m =
    ((s.linRaise m 0).setLin m { s.lin m with
      hdr := none, bitErr := sat1 (s.lin m).bitErr, sleep := none, woken := false }).endToken g stDeviceError 0x20 := by
  simp [State.linBitError, hh, hs]

end Under

/-- The port's part once a response that it sent has left, with the data last sent (R423, R424). -/
def State.linSentPort (s : State) (m : Nat) (h : LinHdr) : LinPort :=
  { s.lin m with
    hdr := none, sent := sat1 (s.lin m).sent
    lastData := if s.linResponder m then (s.lin m).lastData else tset (s.lin m).lastData h.id h.bytes }

theorem linSentResp_again {h : LinHdr} (hs : h.src = .again) :
    s.linSentResp m h = (s.emit (.frame clsLin m h.bytes)).setLin m (s.linSentPort m h) := by
  simp only [State.linSentResp, hs]
  rfl

theorem linSentResp_gateway {h : LinHdr} (hs : h.src = .gateway) : s.linSentResp m h =
    (s.emit (.frame clsLin m h.bytes)).setLin m { s.linSentPort m h with gw := tdel (s.lin m).gw h.id } := by
  simp only [State.linSentResp, hs]
  rfl

theorem linSentResp_program {h : LinHdr} {token : Nat} (hs : h.src = .program token) : s.linSentResp m h =
    (((s.emit (.frame clsLin m h.bytes)).setLin m
      { s.linSentPort m h with pend := tdel (s.lin m).pend h.id }).frameLeft token).linLoad m := by
  simp only [State.linSentResp, hs]
  rfl

/-- A sleep command that has left puts the port to sleep; a pulse that came meanwhile wakes it (R426, R444). -/
theorem linSentResp_sleep {h : LinHdr} {g : Nat} (hs : h.src = .sleep g) {t : State}
    (ht : ((s.emit (.frame clsLin m h.bytes)).setLin m
      { s.linSentPort m h with lastData := (s.lin m).lastData }).linSlept m g = t) :
    s.linSentResp m h = if (s.lin m).woken then t.linWake m else t := by
  subst ht
  simp only [State.linSentResp, hs]
  rfl

end Response

/-! Wake-up -/

section Wake

variable {s : State} {m : Nat}

theorem linWake_unseen (h : s.portRuns clsLin m = false ∨ s.attached ⟨.lin, m, 1⟩ = false) : s.linWake m = s :=
  if_pos (by simpa using h)

variable (hp : s.portRuns clsLin m = true) (ha : s.attached ⟨.lin, m, 1⟩ = true)
include hp ha

theorem linWake_responder (hs : (s.lin m).asleep = true) (hr : s.linResponder m = true) : s.linWake m =
    ((s.setLin m { s.lin m with asleep := false }).linRaise m 4).portEvent clsLin m 0x03 (fun _ => true) := by
  simp [State.linWake, hp, ha, hs, hr]

theorem linWake_commander (hs : (s.lin m).asleep = true) (hr : s.linResponder m = false) :
    s.linWake m = (s.linRaise m 4).portEvent clsLin m 0x03 (fun _ => true) := by
  simp [State.linWake, hp, ha, hs, hr]

theorem linWake_falling_asleep (hs : (s.lin m).asleep = false) (hc : (s.lin m).sleep ≠ none) :
    s.linWake m = s.setLin m { s.lin m with woken := true } := by
  simp [State.linWake, hp, ha, hs, Option.isSome_iff_ne_none, hc]

theorem linWake_awake (hs : (s.lin m).asleep = false) (hc : (s.lin m).sleep = none) : s.linWake m = s := by
  simp [State.linWake, hp, ha, hs, hc]

end Wake

/-- Settles O51: the CONTROL functions by what their port is, the slot by what waits for it, a response by its source,
and wake-up by the port's sleep. -/
theorem linFollowsItsSchedule : Obligations.LinFollowsItsSchedule := by
  intro s
  refine ⟨?control, ?unissued, ?enable, ?port⟩
  case unissued =>
    refine fun a => ⟨fun h => ?_, fun h => ?_, fun h => ?_, fun h => ?_⟩
    · exact next_congr (portFunc_not_issued h _)
    · exact next_congr (portFunc_not_issued h _)
    · exact next_congr (portFunc_not_issued h _)
    · exact next_congr (portFunc_not_issued h _)
  case control =>
    rintro a m _ rfl
    refine ⟨fun hi o ho => ?run, fun hi => ⟨fun h => ?_, fun h hr => ?_, fun h hr => ?_⟩,
      fun hi => ⟨fun ha => ?_, fun ha => ?_⟩, fun hi => ⟨fun h => ?_, fun h => ?_⟩⟩
    case run =>
      have hrun {t : State} (h : s.runSchedule m a (devSub o.first.dev) (o.first.param % 256) = t) :
          exec (.runSchedule a) s = .next t := (exec_runSchedule hi ho).trans (next_congr h)
      intro t n r
      have hr : s.linStart m t (if n = 0 then none else some n) (some (s.tokenOf a)) = r := by
        rw [tokenOf_of_op ho]
        rfl
      refine ⟨fun h => hrun (runSchedule_responder h _ _), fun h ht => hrun (runSchedule_invalid h ht _),
        fun h ht => ⟨fun hx => ?_, fun hx => ?_⟩⟩
      · rw [← hr]
        exact hrun (runSchedule_starts h ht hx _)
      · rw [← hr]
        exact hrun (runSchedule_waits h ht hx _)
    · exact next_congr ((portFunc_issued hi _).trans (stopSchedule_responder h))
    · exact next_congr ((portFunc_issued hi _).trans (stopSchedule_idle h hr))
    · exact next_congr ((portFunc_issued hi _).trans (stopSchedule_waits h hr))
    · exact next_congr ((portFunc_issued hi _).trans (linPulse_attached ha))
    · exact next_congr ((portFunc_issued hi _).trans (linPulse_detached ha))
    · exact next_congr ((portFunc_issued hi _).trans (gotoSleep_responder h))
    · exact next_congr ((portFunc_issued hi _).trans (gotoSleep_waits h))
  case enable =>
    refine fun hup m mid v => ⟨⟨fun h => ?_, fun h hr => ?_, fun h hlo hhi => ?_⟩, ⟨fun h => ?_, fun h => ?_⟩⟩
    · rw [exec_portEnable_lin hup, linEn_same h]
    · rw [exec_portEnable_lin hup, linEn_refused h hr]
    · rw [exec_portEnable_lin hup, linEn_enables h hlo hhi]
    · rw [exec_portDisable_lin hup, linEn_same h]
    · rw [exec_portDisable_lin hup, linEn_disables h]
  case port =>
    rintro m _ rfl
    refine ⟨fun h => next_congr (linPulseEnd_none h), fun g h => next_congr (linPulseEnd_ends h),
      fun h => next_settle_congr (linSlot_stopped h), ?slot, ?header,
      fun h => ⟨next_settle_congr (linNoResp_none h), next_settle_congr (linBitError_none h),
        fun p => next_settle_congr (linRespEnd_none h p)⟩,
      fun h hh => ⟨?response, fun hs => next_settle_congr (linNoResp_own hh hs),
        fun hs hr => next_settle_congr (linNoResp_unrecorded hh hs hr),
        fun hs hr => next_settle_congr (linNoResp_recorded hh hs hr), ?bitError⟩, ?wake⟩
    case slot =>
      have hx : (s.setLin m { s.lin m with hdr := none }).lin m = { s.lin m with hdr := none } := lin_setLin_same ..
      refine fun hp hc => ⟨fun r ends hn => ?_, fun hn hr => ?_, fun r hn hr => ⟨fun hf => ?_,
        fun hf => ⟨fun q hq => ?_, fun hq hb => ?_, fun b rest hq hb => ?_⟩⟩⟩
      · exact linSlotFrom_request hp hc (linRequest_waiting hx hn :)
      · exact linSlotFrom_request hp hc (linRequest_idle hx hn hr :)
      · exact linSlotFrom_request hp hc (linRequest_fresh hx hn hr hf :)
      · exact linSlotFrom_request hp hc (linRequest_moves hx hn hr hf hq :)
      · exact linSlotFrom_request hp hc (linRequest_done hx hn hr hf hq hb :)
      · exact linSlotFrom_request hp hc (linRequest_resumes hx hn hr hf hq hb :)
    case header =>
      refine fun id bit time => ⟨fun h => ?_, fun ha hp hr => ⟨fun hb => ?_, fun hb => ⟨fun hs => ?_,
        fun src bs hs => ?_⟩⟩⟩
      · exact next_settle_congr (linRxHeader_unseen h _ _ _)
      · exact next_settle_congr (linRxHeader_outside ha hp hr hb _)
      · exact next_settle_congr (linRxHeader_listens ha hp hr hb hs _)
      · exact next_settle_congr (linRxHeader_answers ha hp hr hb hs _)
    case response =>
      refine fun p => ⟨fun hs ha => ?_, fun hs ha => ?_, fun hs ha => ⟨fun hc => ?_, fun t ht hc => ?_⟩,
        fun h0 h1 => ?sent⟩
      · exact next_settle_congr (linRespEnd_bus_detached hh hs ha p)
      · exact next_settle_congr (linRespEnd_detached hh hs ha p)
      · exact next_settle_congr ((linRespEnd_bus hh hs ha p).trans (linBusResp_plain hc))
      · exact next_settle_congr ((linRespEnd_bus hh hs ha p).trans (linBusResp_collision ht hc))
      case sent =>
        have hsent {t : State} (hs : h.src ≠ .bus) (ht : s.linSentResp m h = t) :
            exec (.linResponseEnd m p) s = .next (settle t) :=
          next_settle_congr ((linRespEnd_sent hh hs h0 h1 p).trans ht)
        refine ⟨fun hs => ?_, fun hs => ?_, fun token hs => ?_, fun g hs => ⟨fun hw => ?_, fun hw => ?_⟩⟩
        · exact hsent (by simp [hs]) (linSentResp_again hs)
        · exact hsent (by simp [hs]) (linSentResp_gateway hs)
        · exact hsent (by simp [hs]) (linSentResp_program hs)
        · exact hsent (by simp [hs]) ((linSentResp_sleep hs rfl).trans (if_neg (ne_true_of_eq_false hw)))
        · exact hsent (by simp [hs]) ((linSentResp_sleep hs rfl).trans (if_pos hw))
    case bitError =>
      refine ⟨fun hs hr => ?_, fun hs hr => ?_, fun hs => ?_, fun hs => ?_, fun token hs => ?_, fun g hs => ?_⟩
      · exact next_settle_congr (linBitError_heard hh hs hr)
      · exact next_settle_congr (linBitError_header hh hs hr)
      · exact next_settle_congr (linBitError_again hh hs)
      · exact next_settle_congr (linBitError_gateway hh hs)
      · exact next_settle_congr (linBitError_program hh hs)
      · exact next_settle_congr (linBitError_sleep hh hs)
    case wake =>
      refine ⟨fun h => ?_, fun hp ha => ⟨fun hs hr => ?_, fun hs hr => ?_, fun hs hc => ?_, fun hs hc => ?_⟩⟩
      · exact next_settle_congr (linWake_unseen h)
      · exact next_settle_congr (linWake_responder hp ha hs hr)
      · exact next_settle_congr (linWake_commander hp ha hs hr)
      · exact next_settle_congr (linWake_falling_asleep hp ha hs hc)
      · exact next_settle_congr (linWake_awake hp ha hs hc)

end Sys2Proof.Machine

end

section

namespace Sys2Proof.Machine

/-! ### SENT, UART and card ports (O52) -/

/-! SENT -/

section Sent

variable {s : State} {m : Nat}

theorem sentEn_same {en : Bool} (h : s.on (R.SENT_CFG_en m) = en) : s.sentEn m en = s := by
  cases en <;> simp [State.sentEn, h]

/-- The configuration breaks a rule of SENTm_CFG (R407, R449). -/
def State.sentBad (s : State) (m : Nat) : Prop :=
  s.get (R.SENT_CFG_tick m) < 24 ∨ 720 < s.get (R.SENT_CFG_tick m) ∨ s.get (R.SENT_CFG_nibbles m) < 1 ∨
    6 < s.get (R.SENT_CFG_nibbles m)

theorem sentEn_refused (h : s.on (R.SENT_CFG_en m) = false) (hb : s.sentBad m) : s.sentEn m true = s.sentRaise m 5 :=
  (if_pos (by simp [h])).trans (if_pos (by simpa [State.sentBad, or_assoc] using hb))

theorem sentEn_enables (h : s.on (R.SENT_CFG_en m) = false) (hb : ¬ s.sentBad m) :
    s.sentEn m true = s.put (R.SENT_CFG_en m) 1 :=
  (if_pos (by simp [h])).trans (if_neg (by simpa [State.sentBad, or_assoc] using hb))

theorem sentEn_disables (h : s.on (R.SENT_CFG_en m) = true) : s.sentEn m false =
    (((s.put (R.SENT_CFG_en m) 0).portOff clsSent m stBadDevice 0x03).setSent m
      { ((s.put (R.SENT_CFG_en m) 0).portOff clsSent m stBadDevice 0x03).sent m with serial := [] }).put
        (R.SENT_STATUS_sync m) 0 := by
  simp [State.sentEn, h]

variable {f : SentFrame}

theorem sentReceive_unheard (h : s.portRuns clsSent m = false ∨ (s.sent m).decoding = false ∨
    s.attached ⟨.sent, m, 0⟩ = false) (time : Nat) : s.sentReceive m f time = s :=
  if_pos (by simpa [or_assoc] using h)

section Heard

variable (hp : s.portRuns clsSent m = true) (hd : (s.sent m).decoding = true)
  (ha : s.attached ⟨.sent, m, 0⟩ = true)
include hp hd ha

theorem sentReceive_outOfTolerance (ht : apart f.tick.toNat (125 * s.get (R.SENT_CFG_tick m)) 4 = true) (time : Nat) :
    s.sentReceive m f time = s.put (R.SENT_STATUS_sync m) 0 := by
  simp [State.sentReceive, hp, hd, ha, ht]

variable (ht : apart f.tick.toNat (125 * s.get (R.SENT_CFG_tick m)) 4 = false)
include ht

theorem sentReceive_inTolerance (time : Nat) : s.sentReceive m f time =
    if f.nibbles.length ≠ s.get (R.SENT_CFG_nibbles m) then s
    else if s.on (R.SENT_CFG_pause m) && !(12 ≤ f.pause.toNat && f.pause.toNat ≤ 768) then
      (s.setSent m { s.sent m with pauseErr := true }).sentRaise m 3
    else s.sentDecode m f time :=
  (if_neg (by simp [hp, hd, ha])).trans (if_neg (by simp [ht]))

theorem sentReceive_miscounted (hn : f.nibbles.length ≠ s.get (R.SENT_CFG_nibbles m)) (time : Nat) :
    s.sentReceive m f time = s :=
  (sentReceive_inTolerance hp hd ha ht time).trans (if_pos hn)

variable (hn : f.nibbles.length = s.get (R.SENT_CFG_nibbles m))
include hn

theorem sentReceive_badPause (hb : s.on (R.SENT_CFG_pause m) = true ∧ (f.pause.toNat < 12 ∨ 768 < f.pause.toNat))
    (time : Nat) : s.sentReceive m f time = (s.setSent m { s.sent m with pauseErr := true }).sentRaise m 3 := by
  rw [sentReceive_inTolerance hp hd ha ht, if_neg (not_not_intro hn), if_pos]
  simpa [or_iff_not_imp_left] using hb

theorem sentReceive_accepted (hb : ¬ (s.on (R.SENT_CFG_pause m) = true ∧ (f.pause.toNat < 12 ∨ 768 < f.pause.toNat)))
    (time : Nat) : s.sentReceive m f time = s.sentDecode m f time := by
  rw [sentReceive_inTolerance hp hd ha ht, if_neg (not_not_intro hn), if_neg]
  simpa [or_iff_not_imp_left] using hb

end Heard

end Sent

/-! The en bits of SERm_CFG and CARDm_CFG -/

section Enable

variable {s : State} {m : Nat}

theorem serEn_same {en : Bool} (h : s.on (R.SER_CFG_en m) = en) : s.serEn m en = s := by
  cases en <;> simp [State.serEn, h]

theorem serEn_refused (h : s.on (R.SER_CFG_en m) = false) (hd : s.get (R.SER_BAUD_div m) = 0) :
    s.serEn m true = s.serRaise m 5 := by
  simp [State.serEn, h, hd]

theorem serEn_enables (h : s.on (R.SER_CFG_en m) = false) (hd : s.get (R.SER_BAUD_div m) ≠ 0) :
    s.serEn m true = s.put (R.SER_CFG_en m) 1 := by
  simp [State.serEn, h, hd]

theorem serEn_disables (h : s.on (R.SER_CFG_en m) = true) :
    s.serEn m false = (s.put (R.SER_CFG_en m) 0).portOff clsSer m stBadDevice 0x03 := by
  simp [State.serEn, h]

theorem cardEn_same {en : Bool} (h : s.on (R.CARD_CFG_en m) = en) : s.cardEn m en = s := by
  cases en <;> simp [State.cardEn, h]

theorem cardEn_enables (h : s.on (R.CARD_CFG_en m) = false) : s.cardEn m true = s.put (R.CARD_CFG_en m) 1 := by
  simp [State.cardEn, h]

/-- A disable deactivates a card that is not inactive (R406). -/
theorem cardEn_disables (h : s.on (R.CARD_CFG_en m) = true) {w : State}
    (hw : (s.put (R.CARD_CFG_en m) 0).portOff clsCard m stBadDevice 0x03 = w) :
    s.cardEn m false = if 2 ≤ w.get (R.CARD_STATUS_state m) then w.cardOff m else w := by
  subst hw
  simp [State.cardEn, h]

end Enable

/-! UART characters -/

section Character

/-- The data bits of a character (R430). -/
def State.uartData (s : State) (m : Nat) (t : List Bool) : List Bool :=
  (List.range (s.serData m)).map fun j => uartBit t (1 + j)

/-- Its parity bit, where the format has one. -/
def State.uartPar (s : State) (m : Nat) (t : List Bool) : List Bool :=
  if s.serParity m = 1 then [uartBit t (1 + s.serData m)] else []

/-- A stop bit is 0. -/
def State.uartFraming (s : State) (m : Nat) (t : List Bool) : Bool :=
  (List.range (s.serStops m)).any fun j => !uartBit t (1 + s.serData m + s.serParity m + j)

/-- The parity is wrong. -/
def State.uartParity (s : State) (m : Nat) (t : List Bool) : Bool :=
  s.serParity m == 1 &&
    (s.uartData m t ++ s.uartPar m t).countP id % 2 != (if s.get (R.SER_CFG_parity m) = 1 then 0 else 1)

/-- Every data and parity bit is 0. -/
def State.uartZero (s : State) (m : Nat) (t : List Bool) : Bool := (s.uartData m t ++ s.uartPar m t).all (!·)

/-- The number of the last stop bit. -/
def State.uartLast (s : State) (m : Nat) : Nat := s.serData m + s.serParity m + s.serStops m

/-- The line is low through the last stop bit of a character of zeros (R431). -/
def State.uartBreaks (s : State) (m : Nat) (t : List Bool) : Bool :=
  s.uartFraming m t && s.uartZero m t && !t.getD (16 * s.uartLast m + 15) true

variable {s : State} {m : Nat} {t : List Bool}

theorem uartReceive_unheard (h : ¬ (s.portRuns clsSer m = true ∧ s.attached ⟨.ser, m, 1⟩ = true)) (c : UartChar)
    (time : Nat) : s.uartReceive m c time = s :=
  if_pos (by simpa [imp_iff_not_or] using h)

section Heard

variable (h : s.portRuns clsSer m = true ∧ s.attached ⟨.ser, m, 1⟩ = true) {c : UartChar}
include h

theorem uartReceive_quiet (ht : uartTick0 (s.bp clsSer m).rearmed (s.bp clsSer m).line c.ticks = none) (time : Nat) :
    s.uartReceive m c time =
      s.setBp clsSer m { s.bp clsSer m with line := c.ticks.getLastD (s.bp clsSer m).line } := by
  simp only [State.uartReceive, h, ht]
  rfl

theorem uartReceive_begins (ht : uartTick0 (s.bp clsSer m).rearmed (s.bp clsSer m).line c.ticks = some t)
    (time : Nat) : s.uartReceive m c time = s.uartChar m t time := by
  simp only [State.uartReceive, h, ht]
  rfl

end Heard

theorem uartChar_noise (h : uartBit t 0 = true) (time : Nat) : s.uartChar m t time =
    ((s.setBp clsSer m { s.bp clsSer m with noise := sat1 (s.bp clsSer m).noise }).serRaise m 3).uartStands m false
      (t.getD 9 true) := if_pos h

theorem uartChar_break (h : uartBit t 0 = false) (hb : s.uartBreaks m t = true) (time : Nat) :
    s.uartChar m t time = (s.uartBreak m time).uartStands m false false :=
  (if_neg (ne_true_of_eq_false h)).trans (if_pos hb)

theorem uartChar_byte (h : uartBit t 0 = false) (hb : s.uartBreaks m t = false) (time : Nat) : s.uartChar m t time =
    (s.uartByte m (BitVec.ofNat 8 (lsbVal (s.uartData m t))) (s.uartFraming m t) (s.uartParity m t) time).uartStands
      m (uartBit t (s.uartLast m))
      (t.getD (16 * s.uartLast m + if s.uartFraming m t && s.uartZero m t then 15 else 9) true) :=
  (if_neg (ne_true_of_eq_false h)).trans (if_neg (ne_true_of_eq_false hb))

/-- The port once the errors of a byte have been counted and raised (R431). -/
def State.uartCounted (s : State) (m : Nat) (framing parity : Bool) : State :=
  let u := s.setBp clsSer m { s.bp clsSer m with
    framing := if framing then sat1 (s.bp clsSer m).framing else (s.bp clsSer m).framing
    parity := if parity then sat1 (s.bp clsSer m).parity else (s.bp clsSer m).parity }
  let u := if framing then u.serRaise m 0 else u
  if parity then u.serRaise m 1 else u

/-- The echo of what the port sends is checked (R438). -/
def State.echoChecked (s : State) (m : Nat) : Bool := s.on (R.SER_CFG_kline m) && s.on (R.SER_CFG_echo_check m)

section Byte

variable {framing parity : Bool} {b : Byte} {time : Nat}

theorem uartByte_receiving (h : (s.bp clsSer m).tx = none) : s.uartByte m b framing parity time =
    (s.uartCounted m framing parity).chunkByte clsSer m b time (chunkRstat framing parity false) := by
  simp only [State.uartByte, State.uartCounted, h]

section Sending

variable {w : ByteTx} (hx : (s.bp clsSer m).tx = some w)
include hx

theorem uartByte_sending : s.uartByte m b framing parity time =
    if (s.uartCounted m framing parity).echoChecked m && w.started then
      if w.bytes.headD 0 == b then s.uartCounted m framing parity
      else (((s.uartCounted m framing parity).serRaise m 4).byteStop clsSer m 0x33).chunkByte clsSer m b time
        (chunkRstat framing parity false)
    else (s.uartCounted m framing parity).chunkByte clsSer m b time (chunkRstat framing parity false) := by
  simp only [State.uartByte, State.uartCounted, State.echoChecked, hx]

theorem uartByte_unstarted (hw : w.started = false) : s.uartByte m b framing parity time =
    (s.uartCounted m framing parity).chunkByte clsSer m b time (chunkRstat framing parity false) :=
  (uartByte_sending hx).trans (if_neg (by simp [hw]))

theorem uartByte_echo (hw : w.started = true) (hc : (s.uartCounted m framing parity).echoChecked m = true)
    (he : w.bytes.headD 0 = b) : s.uartByte m b framing parity time = s.uartCounted m framing parity :=
  (uartByte_sending hx).trans ((if_pos (by simp [hc, hw])).trans (if_pos (beq_iff_eq.2 he)))

theorem uartByte_differs (hw : w.started = true) (hc : (s.uartCounted m framing parity).echoChecked m = true)
    (he : w.bytes.headD 0 ≠ b) : s.uartByte m b framing parity time =
      (((s.uartCounted m framing parity).serRaise m 4).byteStop clsSer m 0x33).chunkByte clsSer m b time
        (chunkRstat framing parity false) :=
  (uartByte_sending hx).trans ((if_pos (by simp [hc, hw])).trans (if_neg fun h => he (beq_iff_eq.1 h)))

end Sending

/-- A byte is stored where no echo is checked (R438). -/
theorem uartByte_stored
    (h : (s.bp clsSer m).tx = none ∨ (s.uartCounted m framing parity).echoChecked m = false) :
    s.uartByte m b framing parity time =
      (s.uartCounted m framing parity).chunkByte clsSer m b time (chunkRstat framing parity false) := by
  cases hx : (s.bp clsSer m).tx with
  | none => exact uartByte_receiving hx
  | some w =>
    have hc : (s.uartCounted m framing parity).echoChecked m = false := h.resolve_left (by simp [hx])
    exact (uartByte_sending hx).trans (if_neg (by simp [hc]))

end Byte

end Character

/-! Idle time, characters sent and CTS_N -/

section Bytes

variable {s : State} {cls m : Nat}

/-- READs with func 0x01 whose idle time it is are to end (R332, R434). -/
def State.idleMarked (s : State) (cls m n : Nat) : State :=
  (s.agentsWith cls m fun c => c.opcode == ocRead && c.func == 0x01 && c.param % 65536 ≤ n).foldl
    (fun t a => t.updOp a fun o => { o with event := true }) s

theorem byteIdle_stopped (h : s.portRuns cls m = false) (n : Nat) : s.byteIdle cls m n = s := if_pos (by simp [h])

theorem byteIdle_closes (h : s.portRuns cls m = true) {n : Nat}
    (hd : s.chunkIdle cls m ≤ n ∧ (s.bp cls m).chunk ≠ []) :
    s.byteIdle cls m n = (s.chunkClose cls m 0).idleMarked cls m n := by
  simp [State.byteIdle, State.idleMarked, h, hd]

theorem byteIdle_open (h : s.portRuns cls m = true) {n : Nat}
    (hd : ¬ (s.chunkIdle cls m ≤ n ∧ (s.bp cls m).chunk ≠ [])) : s.byteIdle cls m n = s.idleMarked cls m n := by
  have hno : ¬ ((decide (s.chunkIdle cls m ≤ n) && !(s.bp cls m).chunk.isEmpty) = true) := by simpa using hd
  simp [State.byteIdle, State.idleMarked, h, hno]

theorem byteSent_none (h : (s.bp cls m).tx = none) : s.byteSent cls m = s := by
  simp only [State.byteSent, h]

theorem mayStart_card (s : State) (m : Nat) : s.mayStart clsCard m = true := rfl

section Sending

variable {t : ByteTx} (h : (s.bp cls m).tx = some t)
include h

theorem byteSent_held (ht : t.started = false) : s.byteSent cls m = s := by
  simp [State.byteSent, h, ht]

theorem byteSent_last (ht : t.started = true) (hb : t.bytes.drop 1 = []) : s.byteSent cls m =
    (((s.emitOn (txLine cls m) (.frame cls m (t.bytes.take 1))).setBp cls m
      { s.bp cls m with tx := none, sent := sat1 (s.bp cls m).sent }).frameLeft t.token).byteLoad cls m := by
  simp only [State.byteSent, h, ht, hb]
  rfl

theorem byteSent_next (ht : t.started = true) (hb : t.bytes.drop 1 ≠ []) : s.byteSent cls m =
    (s.emitOn (txLine cls m) (.frame cls m (t.bytes.take 1))).setBp cls m { s.bp cls m with
      sent := sat1 (s.bp cls m).sent
      tx := some { t with
        bytes := t.bytes.drop 1
        started := (s.emitOn (txLine cls m) (.frame cls m (t.bytes.take 1))).mayStart cls m, tries := 0 } } := by
  have hrest : (t.bytes.drop 1).isEmpty = false := by simpa using hb
  simp only [State.byteSent, h, ht, hrest]
  rfl

theorem byteStop_sending (detail : Nat) : s.byteStop cls m detail =
    ((s.setBp cls m { s.bp cls m with tx := none }).frameFailed t.token detail).byteLoad cls m := by
  simp only [State.byteStop, h]

end Sending

/-! CTS_N -/

/-- The port with SERm_CTS_N at a level (R436). -/
def State.ctsPut (s : State) (m : Nat) (level : Bool) : State :=
  s.setBp clsSer m { s.bp clsSer m with ctsN := level }

theorem ctsPut_bp (s : State) (m : Nat) (level : Bool) :
    (s.ctsPut m level).bp clsSer m = { s.bp clsSer m with ctsN := level } := bp_setBp_same ..

theorem ctsPut_tx (s : State) (m : Nat) (level : Bool) :
    ((s.ctsPut m level).bp clsSer m).tx = (s.bp clsSer m).tx := by
  rw [ctsPut_bp]

theorem ctsChange_idle (h : (s.bp clsSer m).tx = none) (level : Bool) : s.ctsChange m level = s.ctsPut m level := by
  have htx : ((s.ctsPut m level).bp clsSer m).tx = none := (ctsPut_tx ..).trans h
  show (s.ctsPut m level).ctsSeen m = _
  simp only [State.ctsSeen, htx]

section Cts

variable {t : ByteTx} (h : (s.bp clsSer m).tx = some t) {level : Bool}
include h

theorem ctsChange_held (ht : t.started = true ∨ (s.ctsPut m level).mayStart clsSer m = false) :
    s.ctsChange m level = s.ctsPut m level := by
  have htx : ((s.ctsPut m level).bp clsSer m).tx = some t := (ctsPut_tx ..).trans h
  show (s.ctsPut m level).ctsSeen m = _
  simp only [State.ctsSeen, htx]
  exact if_pos (by simpa using ht)

theorem ctsChange_starts (ht : t.started = false) (hm : (s.ctsPut m level).mayStart clsSer m = true) :
    s.ctsChange m level = (s.ctsPut m level).setBp clsSer m
      { s.bp clsSer m with ctsN := level, tx := some { t with started := true } } := by
  show (s.ctsPut m level).ctsSeen m = _
  simp [State.ctsSeen, ctsPut_bp, h, ht, hm]

end Cts

end Bytes

/-- A card port beyond the two that there are has no line to be idle. -/
theorem exec_uartIdleTimeout_noPort (s : State) {card : Bool} {m : Fin 4} (h : card = true ∧ 2 ≤ m.val)
    (n : BitVec 16) : exec (.uartIdleTimeout card m n) s = .next (settle s) :=
  next_settle_congr (if_pos (by simpa using h))

theorem exec_uartIdleTimeout_port (s : State) {card : Bool} {m : Fin 4} (h : card = false ∨ m.val < 2)
    (n : BitVec 16) : exec (.uartIdleTimeout card m n) s =
      .next (settle (s.byteIdle (if card then clsCard else clsSer) m n.toNat)) :=
  next_settle_congr (if_neg (by rcases h with h | h <;> simp [h]))

theorem exec_breakEnd_none {s : State} {m : Fin 4} (h : (s.bp clsSer m).breaking = none) :
    exec (.breakEnd m) s = .next s :=
  congrArg Host.Outcome.next (by simp only [h])

theorem exec_breakEnd_ends {s : State} {m : Fin 4} {g : Nat} (h : (s.bp clsSer m).breaking = some g) :
    exec (.breakEnd m) s = .next (settle (((s.setBp clsSer m
      { s.bp clsSer m with breaking := none }).endToken g stSuccess 0).byteLoad clsSer m)) :=
  congrArg Host.Outcome.next (by simp only [h])

theorem exec_fastInitEnd_none {s : State} {m : Fin 4} (h : (s.bp clsSer m).fastInit = none) :
    exec (.fastInitEnd m) s = .next s :=
  congrArg Host.Outcome.next (by simp only [h])

theorem exec_fastInitEnd_ends {s : State} {m : Fin 4} {g : Nat} (h : (s.bp clsSer m).fastInit = some g) :
    exec (.fastInitEnd m) s = .next (settle (((s.setBp clsSer m
      { s.bp clsSer m with fastInit := none }).endToken g stSuccess 0).byteLoad clsSer m)) :=
  congrArg Host.Outcome.next (by simp only [h])

end Sys2Proof.Machine

end

section

namespace Sys2Proof.Machine

/-! ### The card (O52) -/

/-- Whether a function is attached is read from PIN_CFGn of its lands, and from the test instruction (R68, R672). -/
theorem attached_congr {s t : State} {f : PinFn} (ht : t.tap = s.tap)
    (hg : ∀ n ∈ fnLands f, t.get (R.PIN_CFG_attached n) = s.get (R.PIN_CFG_attached n)) :
    t.attached f = s.attached f := by
  have hdrives : t.tapDrives = s.tapDrives := by rw [State.tapDrives, ht, State.tapDrives]
  have hfind : ((fnLands f).find? fun n => landFn n (t.get (R.PIN_CFG_attached n)) == some f) =
      (fnLands f).find? fun n => landFn n (s.get (R.PIN_CFG_attached n)) == some f :=
    List.find?_congr fun n hn => by rw [hg n hn]
  rw [State.attached, State.landOf, hdrives, hfind, State.attached, State.landOf]

theorem cardRaise_tap (s : State) (m bit : Nat) : (s.cardRaise m bit).tap = s.tap := by
  unfold State.cardRaise
  split_ifs
  · rfl
  · rfl

theorem get_cardRaise_other (s : State) {m bit : Nat} {f : Fld} (he : f.key ≠ (R.CARD_EVT_cause m).key)
    (hc : f.key ≠ (R.CARD_EVT_CNT_count m bit).key) : (s.cardRaise m bit).get f = s.get f := by
  unfold State.cardRaise
  split_ifs
  · exact State.get_raise_other s bit he hc
  · exact State.get_raise_other s bit he hc

/-- A cause of a card port leaves every function attached as it was. -/
theorem cardRaise_attached (s : State) (m bit : Nat) (f : PinFn) : (s.cardRaise m bit).attached f = s.attached f := by
  refine attached_congr (cardRaise_tap s m bit) fun n _ => get_cardRaise_other s ?_ ?_
  · simp only [Fld.key, R.PIN_CFG_attached, R.CARD_EVT_cause]
    omega
  · simp only [Fld.key, R.PIN_CFG_attached, R.CARD_EVT_CNT_count]
    omega

section Card

variable {s : State} {m : Nat}

section Control

variable {a : Nat}

theorem cardActivate_absent (h : s.get (R.CARD_STATUS_state m) = 0) :
    s.cardActivate m a = s.endOp a stDeviceError 0x40 := if_pos h

theorem cardActivate_active (h : s.get (R.CARD_STATUS_state m) = 3) :
    s.cardActivate m a = s.endOp a stSuccess 0 := by
  simp [State.cardActivate, h]

theorem cardActivate_resets (h0 : s.get (R.CARD_STATUS_state m) ≠ 0) (h3 : s.get (R.CARD_STATUS_state m) ≠ 3) :
    s.cardActivate m a = s.cardReset m a 1 := (if_neg h0).trans (if_neg h3)

theorem cardWarm_absent (h : s.get (R.CARD_STATUS_state m) = 0) : s.cardWarm m a = s.endOp a stDeviceError 0x40 :=
  if_pos h

theorem cardWarm_inactive (h : s.get (R.CARD_STATUS_state m) = 1) : s.cardWarm m a = s.endOp a stDeviceError 0x44 := by
  simp [State.cardWarm, h]

theorem cardWarm_resets (h : 2 ≤ s.get (R.CARD_STATUS_state m)) : s.cardWarm m a = s.cardReset m a 2 :=
  (if_neg (by omega)).trans (if_neg (by omega))

theorem cardDeactivate_absent (h : s.get (R.CARD_STATUS_state m) = 0) :
    s.cardDeactivate m a = s.endOp a stDeviceError 0x40 := if_pos h

theorem cardDeactivate_present (h : s.get (R.CARD_STATUS_state m) ≠ 0) : s.cardDeactivate m a =
    ((s.endOps (s.atrWaiters m) stDeviceError 0x44).cardOff m).endOp a stSuccess 0 := if_neg h

end Control

/-! Answers to reset -/

theorem cardAtr_answers (h : s.get (R.CARD_STATUS_state m) = 2) (hp : s.portRuns clsCard m = true)
    (ha : s.attached ⟨.card, m, 0⟩ = true) (b : Byte) (inverse : Bool) (time : Nat) {u : State}
    (hu : (s.put (R.CARD_STATUS_state m) 3).flag (R.CARD_STATUS_inverse m) inverse = u) : s.cardAtr m b inverse time =
      ((u.endOps (u.atrWaiters m) stSuccess 0).chunkByte clsCard m b time 0).byteLoad clsCard m := by
  subst hu
  exact if_pos (by simp [h, hp, ha])

theorem cardAtr_unheard (h : s.get (R.CARD_STATUS_state m) ≠ 2 ∨ s.portRuns clsCard m = false ∨
    s.attached ⟨.card, m, 0⟩ = false) (b : Byte) (inverse : Bool) (time : Nat) : s.cardAtr m b inverse time = s :=
  if_neg (by rcases h with h | h | h <;> simp [h])

theorem cardNoAtr_waiting (h : s.get (R.CARD_STATUS_state m) = 2) : s.cardNoAtr m =
    ((s.endOps (s.atrWaiters m) stDeviceError 0x41).cardOff m).cardRaise m 4 := if_pos h

theorem cardNoAtr_idle (h : s.get (R.CARD_STATUS_state m) ≠ 2) : s.cardNoAtr m = s := if_neg h

/-! Characters received -/

theorem cardReceive_unheard (h : s.get (R.CARD_STATUS_state m) ≠ 3 ∨ s.portRuns clsCard m = false ∨
    s.attached ⟨.card, m, 0⟩ = false) (b : Byte) (ok : Bool) (time : Nat) : s.cardReceive m b ok time = s :=
  if_pos (by simpa [or_assoc] using h)

/-- The port once a parity error has been counted and raised (R441). -/
def State.cardMisread (s : State) (m : Nat) : State :=
  (s.setBp clsCard m { s.bp clsCard m with parity := sat1 (s.bp clsCard m).parity }).cardRaise m 2

/-- The character is refused once more: in T=0, until the retries are used up (R441). -/
def State.cardRefuses (s : State) (m : Nat) : Prop :=
  (s.cardMisread m).on (R.CARD_CFG_t1 m) = false ∧
    (s.bp clsCard m).repeats < (s.cardMisread m).get (R.CARD_CFG_retries m)

theorem cardMisread_attached (s : State) (m : Nat) :
    (s.cardMisread m).attached ⟨.card, m, 0⟩ = s.attached ⟨.card, m, 0⟩ :=
  cardRaise_attached _ m 2 _

section Active

variable (h : s.get (R.CARD_STATUS_state m) = 3) (hp : s.portRuns clsCard m = true)
  (ha : s.attached ⟨.card, m, 0⟩ = true) (b : Byte) (time : Nat)
include h hp ha

theorem cardReceive_good : s.cardReceive m b true time =
    (s.setBp clsCard m { s.bp clsCard m with repeats := 0 }).chunkByte clsCard m b time 0 :=
  if_neg (by simp [h, hp, ha])

theorem cardReceive_misread : s.cardReceive m b false time =
    if !(s.cardMisread m).on (R.CARD_CFG_t1 m) &&
        (s.bp clsCard m).repeats < (s.cardMisread m).get (R.CARD_CFG_retries m) then
      ((s.cardMisread m).setBp clsCard m
        { (s.cardMisread m).bp clsCard m with repeats := (s.bp clsCard m).repeats + 1 }).emitOn ⟨.card, m, 0⟩
          (.line clsCard m 4 0)
    else
      ((s.cardMisread m).setBp clsCard m { (s.cardMisread m).bp clsCard m with repeats := 0 }).chunkByte clsCard m b
        time (chunkRstat false true false) :=
  if_neg (by simp [h, hp, ha])

theorem cardReceive_refused (hr : s.cardRefuses m) : s.cardReceive m b false time =
    ((s.cardMisread m).setBp clsCard m
      { (s.cardMisread m).bp clsCard m with repeats := (s.bp clsCard m).repeats + 1 }).emit (.line clsCard m 4 0) :=
  (cardReceive_misread h hp ha b time).trans ((if_pos (by simpa [State.cardRefuses] using hr)).trans
    (if_pos ((cardMisread_attached s m).trans ha)))

theorem cardReceive_stored (hr : ¬ s.cardRefuses m) : s.cardReceive m b false time =
    ((s.cardMisread m).setBp clsCard m { (s.cardMisread m).bp clsCard m with repeats := 0 }).chunkByte clsCard m b
      time (chunkRstat false true false) :=
  (cardReceive_misread h hp ha b time).trans (if_neg (by simpa [State.cardRefuses] using hr))

end Active

/-! Characters sent -/

/-- The card's error signal counts (R441). -/
def State.cardSignals (s : State) (m : Nat) (refused : Bool) : Prop :=
  refused = true ∧ s.attached ⟨.card, m, 0⟩ = true ∧ s.on (R.CARD_CFG_t1 m) = false

theorem cardSent_none (h : (s.bp clsCard m).tx = none) (refused : Bool) : s.cardSent m refused = s := by
  simp only [State.cardSent, h]

section Sending

variable {t : ByteTx} (h : (s.bp clsCard m).tx = some t) {refused : Bool}
include h

theorem cardSent_retries (hn : s.cardSignals m refused) (ht : t.tries < s.get (R.CARD_CFG_retries m)) :
    s.cardSent m refused = s.setBp clsCard m { s.bp clsCard m with tx := some { t with tries := t.tries + 1 } } := by
  obtain ⟨hr, ha, h1⟩ := hn
  simp [State.cardSent, h, hr, ha, h1, ht]

theorem cardSent_fails (hn : s.cardSignals m refused) (ht : s.get (R.CARD_CFG_retries m) ≤ t.tries) :
    s.cardSent m refused =
      ((s.setBp clsCard m { s.bp clsCard m with tx := none }).frameFailed t.token 0x42).byteLoad clsCard m := by
  obtain ⟨hr, ha, h1⟩ := hn
  refine Eq.trans ?_ (byteStop_sending h 0x42)
  simp [State.cardSent, h, hr, ha, h1, Nat.not_lt.2 ht]

theorem cardSent_taken (hn : ¬ s.cardSignals m refused) : s.cardSent m refused = s.byteSent clsCard m := by
  simp only [State.cardSent, h]
  exact if_neg (by simpa [State.cardSignals, and_assoc] using hn)

end Sending

/-! Waiting time and presence -/

theorem cardExpiry_none (h : (s.agentsWith clsCard m fun c => c.opcode == ocRead && c.func == 0x00) = []) :
    s.cardExpiry m = s := if_pos (by simp [h])

theorem cardExpiry_ends {as : List Nat}
    (has : (s.agentsWith clsCard m fun c => c.opcode == ocRead && c.func == 0x00) = as) (h : as ≠ []) :
    s.cardExpiry m = ((s.setBp clsCard m { s.bp clsCard m with
      wtExpired := sat1 (s.bp clsCard m).wtExpired }).cardRaise m 3).endOps as stDeviceError 0x43 := by
  subst has
  exact if_neg (by simpa using h)

section Presence

/-- CARDm_PRES at a level (R443). -/
def State.presPut (s : State) (m : Nat) (level : Bool) : State := { s with presIn := putBit s.presIn m level }

/-- A card is present at that level. -/
def State.cardPresent (s : State) (m : Nat) (level : Bool) : Bool :=
  s.attached ⟨.card, m, 3⟩ && level == s.on (R.CARD_CFG_pres_pol m)

/-- WAIT_EVENTs for a change of presence end (R332). -/
def State.presEvent (s : State) (m : Nat) : State := s.portEvent clsCard m 0x05 (fun _ => true)

theorem cardPresence_eq (s : State) (m : Nat) (level : Bool) : s.cardPresence m level =
    if s.cardPresent m level && s.get (R.CARD_STATUS_state m) = 0 then
      (((s.presPut m level).put (R.CARD_STATUS_state m) 1).cardRaise m 0).presEvent m
    else if !s.cardPresent m level && s.get (R.CARD_STATUS_state m) = 1 then
      ((s.presPut m level).put (R.CARD_STATUS_state m) 0).presEvent m
    else if !s.cardPresent m level && 2 ≤ s.get (R.CARD_STATUS_state m) then
      let w := ((((s.presPut m level).cardRaise m 1).endOps ((s.presPut m level).atrWaiters m) stDeviceError
        0x40)).presEvent m
      ((w.failOps (w.agentsOn clsCard m) stDeviceError 0x40).cardOff m).put (R.CARD_STATUS_state m) 0
    else s.presPut m level := rfl

variable {level : Bool}

theorem cardPresence_inserted (hp : s.cardPresent m level = true) (h : s.get (R.CARD_STATUS_state m) = 0) :
    s.cardPresence m level = (((s.presPut m level).put (R.CARD_STATUS_state m) 1).cardRaise m 0).presEvent m := by
  simp only [cardPresence_eq, hp, h]
  rfl

theorem cardPresence_stays (hp : s.cardPresent m level = true) (h : s.get (R.CARD_STATUS_state m) ≠ 0) :
    s.cardPresence m level = s.presPut m level := by
  simp [cardPresence_eq, hp, h]

theorem cardPresence_removed_inactive (hp : s.cardPresent m level = false) (h : s.get (R.CARD_STATUS_state m) = 1) :
    s.cardPresence m level = ((s.presPut m level).put (R.CARD_STATUS_state m) 0).presEvent m := by
  simp [cardPresence_eq, hp, h]

theorem cardPresence_removed (hp : s.cardPresent m level = false) (h : 2 ≤ s.get (R.CARD_STATUS_state m)) {w : State}
    (hw : (((s.presPut m level).cardRaise m 1).endOps ((s.presPut m level).atrWaiters m) stDeviceError
      0x40).presEvent m = w) : s.cardPresence m level =
      ((w.failOps (w.agentsOn clsCard m) stDeviceError 0x40).cardOff m).put (R.CARD_STATUS_state m) 0 := by
  subst hw
  rw [cardPresence_eq, if_neg (by simp [hp]), if_neg (by simp; omega), if_pos (by simp [hp, h])]

theorem cardPresence_absent (hp : s.cardPresent m level = false) (h : s.get (R.CARD_STATUS_state m) = 0) :
    s.cardPresence m level = s.presPut m level := by
  simp [cardPresence_eq, hp, h]

end Presence

end Card

end Sys2Proof.Machine

end

section

namespace Sys2Proof.Machine

/-! ### SENT, UART and card ports (O52): the statement -/

/-- Settles O52: the CONTROL functions by what is issued, the en bits by the rules of each port, a frame or character by
what the port makes of it, the card by its state. -/
theorem serialSentAndCardPortsAct : Obligations.SerialSentAndCardPortsAct := by
  intro s
  refine ⟨?control, ?unissued, ?enable, ?sentFrame, ?uartCharacter, ?idle, ?sending, ?cardControl, ?cardUnissued, ?card⟩
  case unissued =>
    refine fun a => ⟨fun h => ?_, fun h => ?_, fun h => ?_, fun h => ?_, fun h => ?_⟩
    · exact next_congr (portFunc_not_issued h _)
    · exact next_congr (portFunc_not_issued h _)
    · exact next_congr (portFunc_not_issued h _)
    · exact next_congr (portFunc_not_issued h _)
    · exact next_settle_congr (portFunc_not_issued h _)
  case cardUnissued =>
    refine fun a => ⟨fun h => ?_, fun h => ?_, fun h => ?_⟩
    · exact next_congr (portFunc_not_issued h _)
    · exact next_congr (portFunc_not_issued h _)
    · exact next_settle_congr (portFunc_not_issued h _)
  case control =>
    refine fun a m => ⟨fun on hi => ?_, fun hi => ⟨fun ha => ?_, fun ha => ?_⟩, fun hi => ⟨fun ha => ?_, fun ha => ?_⟩,
      fun hi => ?_⟩
    · cases on with
      | true => exact next_congr (portFunc_issued hi _)
      | false => exact next_congr (portFunc_issued hi _)
    · exact next_congr ((portFunc_issued hi _).trans (if_pos ha))
    · exact next_congr ((portFunc_issued hi _).trans (if_neg (ne_true_of_eq_false ha)))
    · exact next_congr ((portFunc_issued hi _).trans (if_pos ha))
    · exact next_congr ((portFunc_issued hi _).trans (if_neg (ne_true_of_eq_false ha)))
    · exact next_settle_congr (portFunc_issued hi _)
  case enable =>
    intro hup m mid v
    refine ⟨?_, ?_⟩
    · rintro k rfl
      refine ⟨⟨fun h => ?_, fun h hb => ?_, fun h hb => ?_⟩, ⟨fun h => ?_, fun h => ?_⟩,
        ⟨fun h => ?_, fun h hd => ?_, fun h hd => ?_⟩, fun h => ?_, fun h => ?_⟩
      · rw [exec_portEnable_sent hup, sentEn_same h]
      · rw [exec_portEnable_sent hup, sentEn_refused h hb]
      · rw [exec_portEnable_sent hup, sentEn_enables h hb]
      · rw [exec_portDisable_sent hup, sentEn_same h]
      · rw [exec_portDisable_sent hup, sentEn_disables h]
      · rw [exec_portEnable_ser hup, serEn_same h]
      · rw [exec_portEnable_ser hup, serEn_refused h hd]
      · rw [exec_portEnable_ser hup, serEn_enables h hd]
      · rw [exec_portDisable_ser hup, serEn_same h]
      · rw [exec_portDisable_ser hup, serEn_disables h]
    · rintro k rfl
      refine ⟨⟨fun h => ?_, fun h => ?_⟩, fun h => ?_, fun h hst => ?_, fun h hst => ?_⟩
      · rw [exec_portEnable_card hup, cardEn_same h]
      · rw [exec_portEnable_card hup, cardEn_enables h]
      · rw [exec_portDisable_card hup, cardEn_same h]
      · rw [exec_portDisable_card hup, cardEn_disables h rfl, if_pos hst]
      · rw [exec_portDisable_card hup, cardEn_disables h rfl, if_neg (Nat.not_le.2 hst)]
  case sentFrame =>
    refine fun m f time => ⟨fun h => ?_, fun hp hd ha => ⟨fun ht => ?_, fun ht => ⟨fun hn => ?_, fun hn hb => ?_,
      fun hn hb => ?_⟩⟩⟩
    · exact next_settle_congr (sentReceive_unheard h _)
    · exact next_settle_congr (sentReceive_outOfTolerance hp hd ha ht _)
    · exact next_settle_congr (sentReceive_miscounted hp hd ha ht hn _)
    · exact next_settle_congr (sentReceive_badPause hp hd ha ht hn hb _)
    · exact next_settle_congr (sentReceive_accepted hp hd ha ht hn hb _)
  case uartCharacter =>
    rintro m c time _ rfl
    refine ⟨fun h => ?_, fun h ht => ?_, fun t h ht => ⟨fun h0 => ?_, fun h0 hb => ?_, fun h0 hb => ?byte⟩⟩
    · exact next_settle_congr (uartReceive_unheard h c _)
    · exact next_settle_congr (uartReceive_quiet h ht _)
    · exact next_settle_congr ((uartReceive_begins h ht _).trans (uartChar_noise h0 _))
    · exact next_settle_congr ((uartReceive_begins h ht _).trans (uartChar_break h0 hb _))
    case byte =>
      have hbyte {u : State}
          (hu : s.uartByte m (BitVec.ofNat 8 (lsbVal (s.uartData m t))) (s.uartFraming m t) (s.uartParity m t)
            time.toNat = u) : exec (.uartCharacterReceive m c time) s = .next (settle (u.uartStands m
              (uartBit t (s.uartLast m))
              (t.getD (16 * s.uartLast m + if s.uartFraming m t && s.uartZero m t then 15 else 9) true))) :=
        next_settle_congr ((uartReceive_begins h ht _).trans (hu ▸ uartChar_byte h0 hb _))
      refine ⟨fun hs => ?_, fun w hw hn => ?_, fun w hw hy hc => ⟨fun he => ?_, fun he => ?_⟩⟩
      · exact hbyte (uartByte_stored hs)
      · exact hbyte (uartByte_unstarted hw hn)
      · exact hbyte (uartByte_echo hw hy hc he)
      · exact hbyte (uartByte_differs hw hy hc he)
  case idle =>
    refine fun card m n => ⟨fun h => ?_, fun hm hp => ⟨fun hd => ?_, fun hd => ?_⟩⟩
    · rcases h with h | h
      · exact exec_uartIdleTimeout_noPort s h n
      · exact next_settle_congr ((congrArg (ite _ s) (byteIdle_stopped h _)).trans (ite_self s))
    · exact (exec_uartIdleTimeout_port s hm n).trans (next_settle_congr (byteIdle_closes hp hd))
    · exact (exec_uartIdleTimeout_port s hm n).trans (next_settle_congr (byteIdle_open hp hd))
  case sending =>
    rintro m _ rfl
    refine ⟨fun h => ⟨?_, fun level => ?_⟩, fun t h => ⟨fun ht => ?_, fun ht => ⟨fun hb => ?_, fun hb => ?_⟩,
      fun level => ⟨fun hs => ?_, fun ht hm => ?_⟩⟩, exec_breakEnd_none, exec_fastInitEnd_none,
      fun g h => exec_breakEnd_ends h, fun g h => exec_fastInitEnd_ends h⟩
    · exact next_settle_congr (byteSent_none h)
    · exact next_congr (ctsChange_idle h level)
    · exact next_settle_congr (byteSent_held h ht)
    · exact next_settle_congr (byteSent_last h ht hb)
    · exact next_settle_congr (byteSent_next h ht hb)
    · exact next_congr (ctsChange_held h hs)
    · exact next_congr (ctsChange_starts h ht hm)
  case cardControl =>
    refine fun a m => ⟨fun hi => ⟨fun h => ?_, fun h => ?_, fun h0 h3 => ?_⟩,
      fun hi => ⟨fun h => ?_, fun h => ?_, fun h => ?_⟩, fun hi => ⟨fun h => ?_, fun h => ?_⟩⟩
    · exact next_congr ((portFunc_issued hi _).trans (cardActivate_absent h))
    · exact next_congr ((portFunc_issued hi _).trans (cardActivate_active h))
    · exact next_congr ((portFunc_issued hi _).trans (cardActivate_resets h0 h3))
    · exact next_congr ((portFunc_issued hi _).trans (cardWarm_absent h))
    · exact next_congr ((portFunc_issued hi _).trans (cardWarm_inactive h))
    · exact next_congr ((portFunc_issued hi _).trans (cardWarm_resets h))
    · exact next_settle_congr ((portFunc_issued hi _).trans (cardDeactivate_absent h))
    · exact next_settle_congr ((portFunc_issued hi _).trans (cardDeactivate_present h))
  case card =>
    rintro m b time _ rfl
    refine ⟨fun inverse h hp ha => ?_, fun inverse h => ?_, fun h => ?_, fun h => ?_, fun ok h => ?_,
      fun h hp ha => ⟨?_, fun hr => ?_, fun hr => ?_⟩, fun h refused => ?_,
      fun t refused h => ⟨fun hn ht => ?_, fun hn ht => ?_, fun hn ht => ?_, fun hn ht hb => ?_, fun hn ht hb => ?_⟩,
      ⟨fun h => ?_, fun h => ?_⟩, fun level => ⟨fun hp h => ?_, fun hp h => ?_, fun hp h => ?_, fun hp h => ?_,
        fun hp h => ?_⟩⟩
    · exact next_settle_congr (cardAtr_answers h hp ha b inverse _ rfl)
    · exact next_settle_congr (cardAtr_unheard h b inverse _)
    · exact next_settle_congr (cardNoAtr_idle h)
    · exact next_settle_congr (cardNoAtr_waiting h)
    · exact next_settle_congr (cardReceive_unheard h b ok _)
    · exact next_settle_congr (cardReceive_good h hp ha b _)
    · exact next_settle_congr (cardReceive_refused h hp ha b _ hr)
    · exact next_settle_congr (cardReceive_stored h hp ha b _ hr)
    · exact next_settle_congr (cardSent_none h refused)
    · exact next_settle_congr (cardSent_retries h hn ht)
    · exact next_settle_congr (cardSent_fails h hn ht)
    · exact next_settle_congr ((cardSent_taken h hn).trans (byteSent_held h ht))
    · exact next_settle_congr ((cardSent_taken h hn).trans (byteSent_last h ht hb))
    · exact next_settle_congr ((cardSent_taken h hn).trans (byteSent_next h ht hb))
    · exact next_settle_congr (cardExpiry_none h)
    · exact next_settle_congr (cardExpiry_ends rfl h)
    · exact next_settle_congr (cardPresence_inserted hp h)
    · exact next_settle_congr (cardPresence_removed_inactive hp h)
    · exact next_settle_congr (cardPresence_removed hp h rfl)
    · exact next_settle_congr (cardPresence_stays hp h)
    · exact next_settle_congr (cardPresence_absent hp h)

end Sys2Proof.Machine

end

section

namespace Sys2Proof.Machine

/-! ### The hold-up store (O5) -/

/-! Cause bits -/

theorem testBit_setBit_same (x i : Nat) : (setBit x i).testBit i = true := by
  unfold setBit
  split
  · assumption
  · next h => simpa [Nat.add_comm x, Nat.testBit_two_pow_add_eq] using h

/-- Adding a bit that was clear carries into no other bit. -/
theorem testBit_setBit_other (x : Nat) {i j : Nat} (h : j ≠ i) : (setBit x i).testBit j = x.testBit j := by
  unfold setBit
  split
  · rfl
  · next hi =>
    rcases Nat.lt_or_gt_of_ne h with hlt | hgt
    · rw [Nat.add_comm, Nat.testBit_two_pow_add_gt hlt]
    · obtain ⟨d, rfl⟩ := Nat.exists_eq_add_of_lt hgt
      have heven : x / 2 ^ i % 2 = 0 := by
        simpa [Nat.testBit_eq_decide_div_mod_eq] using hi
      have hpow : 2 ^ (i + d + 1) = 2 ^ i * (2 * 2 ^ d) := by ring
      have hsum : (x + 2 ^ i) / 2 ^ i / 2 = x / 2 ^ i / 2 := by
        rw [Nat.add_div_right _ (by positivity)]
        omega
      simp only [Nat.testBit_eq_decide_div_mod_eq, hpow, ← Nat.div_div_eq_div_mul, hsum]

theorem testBit_setBit_of_set {x j : Nat} (i : Nat) (h : x.testBit j = true) : (setBit x i).testBit j = true := by
  by_cases hj : j = i
  · rw [hj]
    exact testBit_setBit_same x i
  · rw [testBit_setBit_other x hj, h]

/-- A cause raised is set, where the register has its bit. -/
theorem State.bitOf_raise_same (s : State) {evt cnt : Fld} {bit : Nat} (hk : evt.key ≠ cnt.key) (hw : bit < evt.w) :
    (s.raise evt bit cnt).bitOf evt bit = true := by
  simp [State.bitOf, State.get_raise_cause s bit hk, Nat.testBit_mod_two_pow, hw, testBit_setBit_same]

/-- A cause set before another is raised is still set. -/
theorem State.bitOf_raise_of_set {s : State} {evt cnt : Fld} {b : Nat} (bit : Nat) (hk : evt.key ≠ cnt.key)
    (hw : b < evt.w) (h : s.bitOf evt b = true) : (s.raise evt bit cnt).bitOf evt b = true := by
  simpa [State.bitOf, State.get_raise_cause s bit hk, Nat.testBit_mod_two_pow, hw] using testBit_setBit_of_set bit h

/-! What an event leaves of the unit -/

/-- The fields of the reports about the store. -/
def hupReportFlds : List Fld :=
  [R.HUP_STATUS_cause, R.HUP_CNT_count 0, R.HUP_CNT_count 1, R.HUP_CNT_count 2, R.HUP_CNT_count 3]

/-- From `s` to `t` only the store's state, the listed fields and the events handed to the collector change; no cause of
HUP_STATUS is cleared and no event is lost. -/
structure StoreMoves (fs : List Fld) (s t : State) : Prop where
  only : Only { s with sup := t.sup, dueFaults := t.dueFaults } t fs
  causes : ∀ b < 4, s.bitOf R.HUP_STATUS_cause b = true → t.bitOf R.HUP_STATUS_cause b = true
  faults : ∀ e ∈ s.dueFaults, e ∈ t.dueFaults

theorem StoreMoves.refl (fs : List Fld) (s : State) : StoreMoves fs s s := ⟨Only.refl s fs, fun _ _ => id, fun _ => id⟩

theorem StoreMoves.trans {fs : List Fld} {s u t : State} (h : StoreMoves fs s u) (h' : StoreMoves fs u t) :
    StoreMoves fs s t := by
  obtain ⟨⟨hrec, hget⟩, hcauses, hfaults⟩ := h
  obtain ⟨⟨hrec', hget'⟩, hcauses', hfaults'⟩ := h'
  refine ⟨⟨?_, fun f hf => (hget' f hf).trans (hget f hf)⟩, fun b hb hs => hcauses' b hb (hcauses b hb hs),
    fun e he => hfaults' e (hfaults e he)⟩
  rw [hrec', hrec]

theorem StoreMoves.mono {fs gs : List Fld} {s t : State} (h : StoreMoves fs s t) (hsub : fs ⊆ gs) : StoreMoves gs s t :=
  ⟨h.only.mono hsub, h.causes, h.faults⟩

theorem StoreMoves.get {fs : List Fld} {s t : State} (h : StoreMoves fs s t) {f : Fld} (hf : f.key ∉ fs.map Fld.key) :
    t.get f = s.get f := h.only.2 f hf

theorem StoreMoves.ite {fs : List Fld} {s a b : State} {c : Prop} [Decidable c] (ha : StoreMoves fs s a)
    (hb : StoreMoves fs s b) : StoreMoves fs s (if c then a else b) := by
  split <;> assumption

theorem StoreMoves.setSup (fs : List Fld) (s : State) (x : Supply) : StoreMoves fs s (s.setSup x) :=
  ⟨⟨rfl, fun _ _ => rfl⟩, fun _ _ => id, fun _ => id⟩

theorem StoreMoves.put (s : State) {fs : List Fld} {f : Fld} (hf : f ∈ fs) (hk : R.HUP_STATUS_cause.key ≠ f.key)
    (v : Nat) : StoreMoves fs s (s.put f v) :=
  ⟨(Only.refl s fs).put hf v, fun b _ h => by rwa [State.bitOf, State.get_put_other _ _ hk], fun _ => id⟩

theorem StoreMoves.fault (fs : List Fld) (s : State) (e : FaultEv) : StoreMoves fs s (s.fault e) :=
  ⟨⟨rfl, fun _ _ => rfl⟩, fun _ _ => id, fun _ he => List.mem_append_left _ he⟩

theorem hupCause_keys (bit : Nat) : R.HUP_STATUS_cause.key ≠ (R.HUP_CNT_count bit).key := by
  simp only [Fld.key, R.HUP_STATUS_cause, R.HUP_CNT_count]
  omega

theorem hupCount_mem {bit : Nat} (h : bit < 4) : R.HUP_CNT_count bit ∈ hupReportFlds := by
  interval_cases bit <;> simp [hupReportFlds]

theorem hupRaised_moves (s : State) {bit : Nat} (h : bit < 4) :
    StoreMoves hupReportFlds s (s.raise R.HUP_STATUS_cause bit (R.HUP_CNT_count bit)) :=
  ⟨(Only.refl s _).raise (by simp [hupReportFlds]) (hupCount_mem h) bit,
    fun _ hb => State.bitOf_raise_of_set bit (hupCause_keys bit) hb, fun _ => id⟩

theorem hupRaise_moves (s : State) {bit : Nat} (h : bit < 4) : StoreMoves hupReportFlds s (s.hupRaise bit) := by
  have hr := hupRaised_moves s h
  exact .ite (hr.trans (.fault ..)) (.ite (hr.trans (.fault ..)) hr)

theorem hupRaise_sup (s : State) (bit : Nat) : (s.hupRaise bit).sup = s.sup := by
  unfold State.hupRaise
  dsimp only
  split_ifs <;> rfl

theorem hupRaise_sets (s : State) {bit : Nat} (h : bit < 4) : (s.hupRaise bit).bitOf R.HUP_STATUS_cause bit = true := by
  have hset := s.bitOf_raise_same (hupCause_keys bit) h
  unfold State.hupRaise
  dsimp only
  split_ifs <;> exact hset

/-! The judgement -/

/-- What the judgement reads of the unit. -/
structure SameStore (s t : State) : Prop where
  sup : t.sup = s.sup
  usable : t.get R.HUP_E_USABLE_value = s.get R.HUP_E_USABLE_value
  required : t.get R.HUP_EREQ_ereq = s.get R.HUP_EREQ_ereq

theorem SameStore.storeReason {s t : State} (h : SameStore s t) : t.storeReason = s.storeReason := by
  simp only [State.storeReason, h.sup, h.usable, h.required]

theorem SameStore.storeState {s t : State} (h : SameStore s t) : t.storeState = s.storeState := by
  simp only [State.storeState, h.sup, h.storeReason]

theorem StoreMoves.sameStore {s t : State} (h : StoreMoves storeFlds s t) (hsup : t.sup = s.sup) : SameStore s t :=
  ⟨hsup, h.get (by decide), h.get (by decide)⟩

theorem hupReportFlds_subset : hupReportFlds ⊆ storeFlds := by decide

/-- Reports leave a judgement that has been shown as it is. -/
theorem StoreJudged.of_reports {s t : State} (hj : StoreJudged s) (h : StoreMoves hupReportFlds s t)
    (hsup : t.sup = s.sup) : StoreJudged t := by
  have hsame := (h.mono hupReportFlds_subset).sameStore hsup
  obtain ⟨hstate, hreason, hthrough⟩ := hj
  refine ⟨?_, ?_, ?_⟩
  · rw [h.get (by decide), hstate, hsame.storeState]
  · rw [h.get (by decide), hreason, hsame.storeReason]
  · rw [h.get (by decide), hthrough, hsame.storeState]

theorem storeState_le (s : State) : s.storeState ≤ 4 := by
  unfold State.storeState
  split_ifs <;> omega

/-- The store's state, reason and write-through shown. -/
def storeShown (s : State) (state reason : Nat) : State :=
  ((s.put R.HUP_STATUS_state state).put R.HUP_STATUS_reason reason).flag R.HUP_STATUS_write_through (state != 2)

theorem storeShown_moves (s : State) (state reason : Nat) : StoreMoves storeFlds s (storeShown s state reason) :=
  ((StoreMoves.put s (by simp [storeFlds]) (by decide) _).trans (.put _ (by simp [storeFlds]) (by decide) _)).trans
    (.put _ (by simp [storeFlds]) (by decide) _)

theorem storeShown_get (s : State) {state : Nat} (reason : Nat) (h : state ≤ 4) :
    (storeShown s state reason).get R.HUP_STATUS_state = state ∧
      (storeShown s state reason).get R.HUP_STATUS_reason = reason % 2 ^ R.HUP_STATUS_reason.w ∧
      (storeShown s state reason).get R.HUP_STATUS_write_through = b2n (state != 2) := by
  have hsr : R.HUP_STATUS_state.key ≠ R.HUP_STATUS_reason.key := by decide
  have hsw : R.HUP_STATUS_state.key ≠ R.HUP_STATUS_write_through.key := by decide
  have hrw : R.HUP_STATUS_reason.key ≠ R.HUP_STATUS_write_through.key := by decide
  unfold storeShown
  refine ⟨?_, ?_, ?_⟩
  · rw [State.get_flag_other _ _ hsw, State.get_put_other _ _ hsr, State.get_put_same]
    exact Nat.mod_eq_of_lt (Nat.lt_of_le_of_lt h (by decide))
  · rw [State.get_flag_other _ _ hrw, State.get_put_same]
  · rw [State.get_flag_same]
    exact b2n_mod_two _

/-- The reports of a judgement: the end of READY, the entry to OVERVOLT and the entry to FAILED. -/
def State.storeReported (s : State) : State :=
  let old := s.get R.HUP_STATUS_state
  let oldReason := s.get R.HUP_STATUS_reason
  let a := if old = 2 && s.storeState ≠ 2 then s.hupRaise 0 else s
  let b := if s.storeState = 3 && s.storeReason = 5 && !(old = 3 && oldReason = 5) then
    a.fault { src := 29, detail := 8 } else a
  if s.storeState = 4 && old ≠ 4 then b.hupRaise 2 else b

theorem judgeStore_eq (s : State) : s.judgeStore = storeShown s.storeReported s.storeState s.storeReason := rfl

theorem storeReported_moves (s : State) : StoreMoves hupReportFlds s s.storeReported := by
  have step (u : State) {bit : Nat} (h : bit < 4) (c : Prop) [Decidable c] :
      StoreMoves hupReportFlds u (if c then u.hupRaise bit else u) := .ite (hupRaise_moves u h) (.refl ..)
  exact ((step s (by decide) _).trans (.ite (.fault ..) (.refl ..))).trans (step _ (by decide) _)

theorem storeReported_sup (s : State) : s.storeReported.sup = s.sup := by
  unfold State.storeReported
  dsimp only
  split_ifs <;> simp only [hupRaise_sup, State.fault_sup]

/-- Entering FAILED is reported. -/
theorem storeReported_fails {s : State} (h : s.storeState = 4) (hold : s.get R.HUP_STATUS_state ≠ 4) :
    s.storeReported.bitOf R.HUP_STATUS_cause 2 = true := by
  unfold State.storeReported
  dsimp only
  rw [if_pos (show (decide (s.storeState = 4) && decide (s.get R.HUP_STATUS_state ≠ 4)) = true by simp [h, hold])]
  exact hupRaise_sets _ (by decide)

theorem judgeStore_moves (s : State) : StoreMoves storeFlds s s.judgeStore :=
  ((storeReported_moves s).mono hupReportFlds_subset).trans (storeShown_moves ..)

theorem judgeStore_sup (s : State) : s.judgeStore.sup = s.sup := storeReported_sup s

theorem judgeStore_shows (s : State) : s.judgeStore.get R.HUP_STATUS_state = s.storeState ∧
    s.judgeStore.get R.HUP_STATUS_reason = s.storeReason % 2 ^ R.HUP_STATUS_reason.w ∧
    s.judgeStore.get R.HUP_STATUS_write_through = b2n (s.storeState != 2) :=
  storeShown_get s.storeReported s.storeReason (storeState_le s)

/-- The judgement reads nothing that it writes, so what it shows is the state it leaves. -/
theorem judgeStore_judged (s : State) : StoreJudged s.judgeStore := by
  have hsame := (judgeStore_moves s).sameStore (judgeStore_sup s)
  rw [StoreJudged, hsame.storeState, hsame.storeReason]
  exact judgeStore_shows s

/-- Entering FAILED sets selftest_fail. -/
theorem judgeStore_fails {s : State} (h : s.storeState = 4) (hold : s.get R.HUP_STATUS_state ≠ 4) :
    s.judgeStore.bitOf R.HUP_STATUS_cause 2 = true :=
  (storeShown_moves ..).causes 2 (by decide) (storeReported_fails h hold)

theorem StoreMoves.becomes {fs : List Fld} {s t : State} {x : Supply} (h : StoreMoves (fs ++ storeFlds) s t)
    (hx : t.sup = x) (hj : StoreJudged t) : StoreBecomes s t x fs := ⟨hx ▸ h.only, hj⟩

theorem setSup_becomes (s : State) (x : Supply) : StoreBecomes s (s.setSup x).judgeStore x [] :=
  ((StoreMoves.setSup storeFlds s x).trans (judgeStore_moves _)).becomes (fs := []) (judgeStore_sup _)
    (judgeStore_judged _)

/-! The store that fails (R110, R123) -/

/-- The supply of a store that has FAILED with a reason. -/
def failedSupply (s : State) (reason : Nat) : Supply :=
  { s.sup with failed := some reason, cal := .none, absent := false, topUp := false }

theorem storeFails_eq (s : State) (reason : Nat) :
    s.storeFails reason = (s.setSup (failedSupply s reason)).judgeStore := rfl

theorem storeState_failed {s : State} {reason : Nat} (h : s.sup.failed = some reason) :
    s.storeState = 4 ∧ s.storeReason = reason := by
  simp [State.storeState, State.storeReason, h]

theorem storeFails_shows (s : State) {reason : Nat} (h : reason < 16) :
    (s.storeFails reason).get R.HUP_STATUS_state = 4 ∧ (s.storeFails reason).get R.HUP_STATUS_reason = reason := by
  obtain ⟨hstate, hreason⟩ := storeState_failed (s := s.setSup (failedSupply s reason)) rfl
  obtain ⟨hst, hre, -⟩ := judgeStore_shows (s.setSup (failedSupply s reason))
  rw [storeFails_eq, hst, hre, hstate, hreason]
  exact ⟨rfl, Nat.mod_eq_of_lt h⟩

theorem storeFails_reports (s : State) (reason : Nat) (h : s.get R.HUP_STATUS_state ≠ 4) :
    (s.storeFails reason).bitOf R.HUP_STATUS_cause 2 = true :=
  judgeStore_fails (s := s.setSup (failedSupply s reason)) (storeState_failed rfl).1 h

/-- A charger fault of a store that has not FAILED for it. -/
theorem chargerFault_becomes {s : State} (h : s.sup.failed ≠ some 7) :
    StoreBecomes s s.chargerFault (failedSupply s 7) [] ∧ s.chargerFault.get R.HUP_STATUS_state = 4 ∧
      s.chargerFault.get R.HUP_STATUS_reason = 7 ∧
      (s.get R.HUP_STATUS_state ≠ 4 ∨ s.sup.failed.isSome = true →
        s.chargerFault.bitOf R.HUP_STATUS_cause 2 = true) := by
  have hbecomes : StoreBecomes s (s.storeFails 7) (failedSupply s 7) [] := setSup_becomes s (failedSupply s 7)
  obtain ⟨hstate, hreason⟩ := storeFails_shows s (reason := 7) (by decide)
  by_cases hf : s.sup.failed.isSome = true
  · have heq : s.chargerFault = (s.storeFails 7).hupRaise 2 := by rw [State.chargerFault, if_neg h, if_pos hf]
    have hm := hupRaise_moves (s.storeFails 7) (bit := 2) (by decide)
    have hsup : ((s.storeFails 7).hupRaise 2).sup = failedSupply s 7 := (hupRaise_sup _ _).trans (judgeStore_sup _)
    have hall : StoreMoves storeFlds s ((s.storeFails 7).hupRaise 2) :=
      ((StoreMoves.setSup storeFlds s _).trans (judgeStore_moves _)).trans (hm.mono hupReportFlds_subset)
    rw [heq, hm.get (by decide), hm.get (by decide)]
    exact ⟨hall.becomes (fs := []) hsup (hbecomes.2.of_reports hm (hupRaise_sup _ _)), hstate, hreason,
      fun _ => hupRaise_sets _ (by decide)⟩
  · have heq : s.chargerFault = s.storeFails 7 := by rw [State.chargerFault, if_neg h, if_neg hf]
    rw [heq]
    exact ⟨hbecomes, hstate, hreason, fun hor => storeFails_reports s 7 (hor.resolve_right hf)⟩

/-! The gauge -/

/-- From `s` to `t` nothing changes of what the estimates are made of. -/
theorem StoreMoves.estimates {s t : State} (h : StoreMoves storeFlds s t) (hq : t.sup.charge = s.sup.charge) :
    t.eCharge = s.eCharge ∧ t.eVolt = s.eVolt := by
  have hcap : t.get R.HUP_CAP_value = s.get R.HUP_CAP_value := h.get (by decide)
  have hfloor : t.get R.HUP_CFG_v_floor = s.get R.HUP_CFG_v_floor := h.get (by decide)
  have hstore : t.get R.HUP_VSTORE_value = s.get R.HUP_VSTORE_value := h.get (by decide)
  constructor
  · simp only [State.eCharge, State.vFloor, hcap, hfloor, hq]
  · simp only [State.eVolt, State.vFloor, hcap, hfloor, hstore]

theorem StoreMoves.apart {s t : State} (h : StoreMoves storeFlds s t) (hq : t.sup.charge = s.sup.charge) :
    t.apart = s.apart := by
  obtain ⟨hcharge, hvolt⟩ := h.estimates hq
  simp only [State.apart, hcharge, hvolt]

theorem StoreMoves.gaugeShown {s t : State} (h : StoreMoves storeFlds s t) (hq : t.sup.charge = s.sup.charge)
    (hs : GaugeShown s) : GaugeShown t := by
  obtain ⟨hcharge, hvolt⟩ := h.estimates hq
  rw [GaugeShown, hcharge, hvolt, h.get (by decide), h.get (by decide), h.get (by decide)]
  exact hs

/-- The fields that show the estimates. -/
def estimateFlds : List Fld := [R.HUP_E_CHARGE_value, R.HUP_E_VOLT_value, R.HUP_E_USABLE_value]

theorem showGauge_moves (s : State) : StoreMoves estimateFlds s s.showGauge :=
  ((StoreMoves.put s (by simp [estimateFlds]) (by decide) _).trans
    (.put _ (by simp [estimateFlds]) (by decide) _)).trans (.put _ (by simp [estimateFlds]) (by decide) _)

/-- The smaller of the largest value of 20 bits and another fits 20 bits. -/
theorem estimate_fits (e : Nat) : min (2 ^ 20 - 1) e % 2 ^ 20 = min (2 ^ 20 - 1) e := Nat.mod_eq_of_lt (by omega)

theorem showGauge_shown (s : State) : GaugeShown s.showGauge := by
  have hm := showGauge_moves s
  have hcap : s.showGauge.get R.HUP_CAP_value = s.get R.HUP_CAP_value := hm.get (by decide)
  have hfloor : s.showGauge.get R.HUP_CFG_v_floor = s.get R.HUP_CFG_v_floor := hm.get (by decide)
  have hstore : s.showGauge.get R.HUP_VSTORE_value = s.get R.HUP_VSTORE_value := hm.get (by decide)
  have hq : s.showGauge.eCharge = s.eCharge := by
    simp only [State.eCharge, State.vFloor, hcap, hfloor]
    rfl
  have hv : s.showGauge.eVolt = s.eVolt := by simp only [State.eVolt, State.vFloor, hcap, hfloor, hstore]
  have hcv : R.HUP_E_CHARGE_value.key ≠ R.HUP_E_VOLT_value.key := by decide
  have hcu : R.HUP_E_CHARGE_value.key ≠ R.HUP_E_USABLE_value.key := by decide
  have hvu : R.HUP_E_VOLT_value.key ≠ R.HUP_E_USABLE_value.key := by decide
  rw [GaugeShown, hq, hv]
  unfold State.showGauge
  refine ⟨?_, ?_, ?_⟩
  · rw [State.get_put_other _ _ hcu, State.get_put_other _ _ hcv, State.get_put_same]
    exact estimate_fits _
  · rw [State.get_put_other _ _ hvu, State.get_put_same]
    exact estimate_fits _
  · rw [State.get_put_same]
    exact estimate_fits _

theorem estimateFlds_subset : estimateFlds ⊆ gaugeFlds ++ storeFlds := by decide

/-! A gauge update (R113, R114) -/

/-- The supply at a gauge update: the charge moved by the flow less the leakage, and what the store voltage ends. -/
def gaugeSupply (s : State) (v : Nat) (flow : Int) : Supply :=
  { s.sup with charge := ((s.sup.charge : Int) + flow - s.sup.leak).toNat, absent := s.sup.absent && v < 1000,
               topUp := s.sup.topUp && v < 15000 }

/-- The unit with an update's estimates shown. -/
def State.gaugeRead (s : State) (v : Nat) (flow : Int) : State :=
  ((s.put R.HUP_VSTORE_value v).setSup (gaugeSupply s v flow)).showGauge

/-- The unit with the agreement of the two estimates judged (R114). -/
def State.gaugeAgreed (u : State) : State :=
  if u.sup.cal ≠ .none then u
  else if !u.apart then u.setSup { u.sup with count := 0 }
  else if u.sup.count + 1 < 16 then u.setSup { u.sup with count := u.sup.count + 1 }
  else u.disagrees

theorem gauge_eq (s : State) (v : Nat) (flow : Int) :
    s.gauge v flow = (s.gaugeRead v flow).gaugeAgreed.judgeStore := rfl

theorem gaugeRead_moves (s : State) (v : Nat) (flow : Int) :
    StoreMoves (gaugeFlds ++ storeFlds) s (s.gaugeRead v flow) :=
  ((StoreMoves.put s (by simp [gaugeFlds]) (by decide) v).trans (.setSup ..)).trans
    ((showGauge_moves _).mono estimateFlds_subset)

theorem gaugeRead_get_store (s : State) (v : Nat) (flow : Int) :
    (s.gaugeRead v flow).get R.HUP_VSTORE_value = v % 2 ^ R.HUP_VSTORE_value.w :=
  ((showGauge_moves _).get (by decide)).trans (State.get_put_same s _ v)

/-- The calibration that a disagreement starts (R115). -/
def recalibration (u : State) : Cal :=
  if u.sup.pf ≠ 0 ∨ u.sup.failed = some 7 then .none
  else if 12000 < u.get R.HUP_VSTORE_value then .discharge else .recharge

theorem recalibrate_moves (u : State) : StoreMoves hupReportFlds u u.recalibrate := .ite (.refl ..) (.setSup ..)

theorem recalibrate_sup {u : State} (h : u.sup.cal = .none) :
    u.recalibrate.sup = { u.sup with cal := recalibration u } := by
  unfold State.recalibrate recalibration
  by_cases hp : u.sup.pf ≠ 0 ∨ u.sup.failed = some 7
  · rw [if_pos hp, if_pos (by simpa using hp), ← h]
  · rw [if_neg hp, if_neg (by simpa using hp)]
    rfl

/-- The supply at the sixteenth disagreement in a row. -/
def disagreedSupply (u : State) : Supply := { u.sup with disagree := true, latest := 1, count := 0 }

theorem disagrees_eq (u : State) : u.disagrees = ((u.setSup (disagreedSupply u)).hupRaise 1).recalibrate := rfl

theorem disagrees_moves (u : State) : StoreMoves hupReportFlds u u.disagrees :=
  ((StoreMoves.setSup _ u _).trans (hupRaise_moves _ (by decide))).trans (recalibrate_moves _)

theorem disagrees_sup {u : State} (h : u.sup.cal = .none) : u.disagrees.sup =
    { disagreedSupply u with cal := recalibration u } := by
  have hraise := hupRaise_moves (u.setSup (disagreedSupply u)) (bit := 1) (by decide)
  have hsup := hupRaise_sup (u.setSup (disagreedSupply u)) 1
  rw [disagrees_eq, recalibrate_sup (by rw [hsup]; exact h), recalibration, hsup, hraise.get (by decide)]
  rfl

theorem disagrees_reports (u : State) :
    u.disagrees.bitOf R.HUP_STATUS_cause 1 = true ∧ { src := 8 } ∈ u.disagrees.dueFaults := by
  have hre := recalibrate_moves ((u.setSup (disagreedSupply u)).hupRaise 1)
  exact ⟨hre.causes 1 (by decide) (hupRaise_sets _ (by decide)), hre.faults _ (List.mem_append_right _ (by simp))⟩

theorem gaugeAgreed_moves (u : State) : StoreMoves hupReportFlds u u.gaugeAgreed :=
  .ite (.refl ..) (.ite (.setSup ..) (.ite (.setSup ..) (disagrees_moves u)))

theorem gaugeAgreed_calibrating {u : State} (h : u.sup.cal ≠ .none) : u.gaugeAgreed = u := if_pos h

theorem gaugeAgreed_agrees {u : State} (h : u.sup.cal = .none) (ha : u.apart = false) :
    u.gaugeAgreed = u.setSup { u.sup with count := 0 } := by
  rw [State.gaugeAgreed, if_neg (not_not.2 h), if_pos (by simp [ha])]

theorem gaugeAgreed_counts {u : State} (h : u.sup.cal = .none) (ha : u.apart = true) (hc : u.sup.count + 1 < 16) :
    u.gaugeAgreed = u.setSup { u.sup with count := u.sup.count + 1 } := by
  rw [State.gaugeAgreed, if_neg (not_not.2 h), if_neg (by simp [ha]), if_pos hc]

theorem gaugeAgreed_disagrees {u : State} (h : u.sup.cal = .none) (ha : u.apart = true) (hc : 16 ≤ u.sup.count + 1) :
    u.gaugeAgreed = u.disagrees := by
  rw [State.gaugeAgreed, if_neg (not_not.2 h), if_neg (by simp [ha]), if_neg (Nat.not_lt.2 hc)]

/-- The judgement of the agreement leaves the charge. -/
theorem gaugeAgreed_charge (u : State) : u.gaugeAgreed.sup.charge = u.sup.charge := by
  by_cases hc : u.sup.cal = .none
  · cases ha : u.apart with
    | false =>
      rw [gaugeAgreed_agrees hc ha]
      rfl
    | true =>
      by_cases hn : u.sup.count + 1 < 16
      · rw [gaugeAgreed_counts hc ha hn]
        rfl
      · rw [gaugeAgreed_disagrees hc ha (Nat.not_lt.1 hn), disagrees_sup hc]
        rfl
  · rw [gaugeAgreed_calibrating hc]

/-- What follows an update's reading changes the fields of the judgement only, and no charge. -/
theorem gauge_moves (s : State) (v : Nat) (flow : Int) : StoreMoves storeFlds (s.gaugeRead v flow) (s.gauge v flow) :=
  ((gaugeAgreed_moves _).mono hupReportFlds_subset).trans (judgeStore_moves _)

theorem gauge_sup (s : State) (v : Nat) (flow : Int) : (s.gauge v flow).sup = (s.gaugeRead v flow).gaugeAgreed.sup :=
  judgeStore_sup _

theorem gauge_charge (s : State) (v : Nat) (flow : Int) :
    (s.gauge v flow).sup.charge = (s.gaugeRead v flow).sup.charge := by
  rw [gauge_sup, gaugeAgreed_charge]

theorem gauge_apart (s : State) (v : Nat) (flow : Int) : (s.gauge v flow).apart = (s.gaugeRead v flow).apart :=
  (gauge_moves s v flow).apart (gauge_charge s v flow)

theorem gauge_becomes (s : State) (v : Nat) (flow : Int) :
    StoreBecomes s (s.gauge v flow) (s.gauge v flow).sup gaugeFlds ∧ GaugeShown (s.gauge v flow) ∧
      (s.gauge v flow).get R.HUP_VSTORE_value = v % 2 ^ R.HUP_VSTORE_value.w := by
  have hm := gauge_moves s v flow
  have hall := (gaugeRead_moves s v flow).trans (hm.mono (List.subset_append_right gaugeFlds _))
  exact ⟨hall.becomes rfl (judgeStore_judged _), hm.gaugeShown (gauge_charge s v flow) (showGauge_shown _),
    (hm.get (by decide)).trans (gaugeRead_get_store s v flow)⟩

/-- The sixteenth disagreement in a row starts a recalibration. -/
theorem gauge_disagrees {s : State} {v : Nat} {flow : Int} (h : s.sup.cal = .none)
    (ha : (s.gauge v flow).apart = true) (hc : 16 ≤ s.sup.count + 1) :
    (s.gauge v flow).sup = { gaugeSupply s v flow with
      disagree := true, latest := 1, count := 0
      cal := if s.sup.pf ≠ 0 ∨ s.sup.failed = some 7 then .none
        else if 12000 < (s.gauge v flow).get R.HUP_VSTORE_value then .discharge else .recharge } ∧
    (s.gauge v flow).bitOf R.HUP_STATUS_cause 1 = true ∧ { src := 8 } ∈ (s.gauge v flow).dueFaults := by
  have hcal : (s.gaugeRead v flow).sup.cal = .none := h
  have hdis := gaugeAgreed_disagrees hcal ((gauge_apart s v flow).symm.trans ha) hc
  obtain ⟨hbit, hfault⟩ := disagrees_reports (s.gaugeRead v flow)
  have hjudge := judgeStore_moves (s.gaugeRead v flow).disagrees
  rw [gauge_sup, (gauge_moves s v flow).get (by decide), hdis, disagrees_sup hcal, gauge_eq, hdis]
  exact ⟨rfl, hjudge.causes 1 (by decide) hbit, hjudge.faults _ hfault⟩

/-! The end of a calibration (R110, R111, R115) -/

/-- The supply after a calibration, before it is judged. -/
def calibratedSupply (s : State) (counted leak : Nat) : Supply :=
  { s.sup with cal := .none, charge := counted / 300 * 1500, leak := leak, count := 0, absent := false }

/-- The fields that a calibration writes besides those of the judgement. -/
def calFlds : List Fld := R.HUP_CAP_value :: R.HUP_ESR_value :: gaugeFlds

/-- The unit with what a calibration has measured, and recal_done set. -/
def State.calMeasured (s : State) (counted step v leak : Nat) : State :=
  let esr := step / (5 * s.get R.HUP_CFG_charge_current)
  let a := ((s.put R.HUP_CAP_value (counted / 300)).put R.HUP_ESR_value esr).put R.HUP_VSTORE_value v
  ((a.setSup (calibratedSupply s counted leak)).hupRaise 3).showGauge

/-- The supply with the verdict on a calibration, 0 or a reason. -/
def verdictSupply (u : State) (kind : Cal) (bad : Nat) : Supply :=
  if kind = .selfTest then
    if bad = 0 then { u.sup with passed := true, calReason := 0 } else { u.sup with failed := some bad }
  else { u.sup with calReason := bad, latest := if bad = 0 then u.sup.latest else bad,
                    disagree := u.sup.disagree && !(bad == 0 && !u.apart) }

theorem calEnd_idle {s : State} (h : s.chargerRuns = false ∨ s.sup.cal = .none ∨ s.sup.cal = .discharge)
    (counted step v leak : Nat) : s.calEnd counted step v leak = s := by
  refine if_pos ?_
  rcases h with h | h | h <;> simp [h]

theorem calEnd_runs {s : State} (hr : s.chargerRuns = true) (hc : s.sup.cal = .selfTest ∨ s.sup.cal = .recharge)
    (counted step v leak : Nat) : s.calEnd counted step v leak =
      ((s.calMeasured counted step v leak).setSup (verdictSupply (s.calMeasured counted step v leak)
        s.sup.cal (s.calFault (counted / 300) (step / (5 * s.get R.HUP_CFG_charge_current))))).judgeStore := by
  have hn : ¬ (decide (s.sup.cal = .none) || decide (s.sup.cal = .discharge) || !s.chargerRuns) = true := by
    rcases hc with hc | hc <;> simp [hc, hr]
  unfold State.calEnd
  dsimp only
  rw [if_neg hn]
  refine congrArg State.judgeStore ?_
  rcases hc with hc | hc
  · simp only [hc, verdictSupply, if_true]
    split <;> rfl
  · simp only [hc, verdictSupply, reduceCtorEq, if_false]
    rfl

theorem calMeasured_sup (s : State) (counted step v leak : Nat) :
    (s.calMeasured counted step v leak).sup = calibratedSupply s counted leak :=
  hupRaise_sup _ 3

theorem calMeasured_moves (s : State) (counted step v leak : Nat) :
    StoreMoves (calFlds ++ storeFlds) s (s.calMeasured counted step v leak) := by
  have hreport : hupReportFlds ⊆ calFlds ++ storeFlds := by decide
  have hestimate : estimateFlds ⊆ calFlds ++ storeFlds := by decide
  refine .trans ?_ ((showGauge_moves _).mono hestimate)
  refine .trans ?_ ((hupRaise_moves _ (by decide)).mono hreport)
  refine .trans ?_ (.setSup ..)
  exact ((StoreMoves.put s (by simp [calFlds]) (by decide) _).trans (.put _ (by simp [calFlds]) (by decide) _)).trans
    (.put _ (by simp [calFlds, gaugeFlds]) (by decide) _)

/-- The measured values stand in their registers. -/
theorem calMeasured_get (s : State) (counted step v leak : Nat) :
    (s.calMeasured counted step v leak).get R.HUP_CAP_value = counted / 300 % 2 ^ R.HUP_CAP_value.w ∧
      (s.calMeasured counted step v leak).get R.HUP_ESR_value =
        step / (5 * s.get R.HUP_CFG_charge_current) % 2 ^ R.HUP_ESR_value.w ∧
      (s.calMeasured counted step v leak).get R.HUP_VSTORE_value = v % 2 ^ R.HUP_VSTORE_value.w := by
  have hce : R.HUP_CAP_value.key ≠ R.HUP_ESR_value.key := by decide
  have hcv : R.HUP_CAP_value.key ≠ R.HUP_VSTORE_value.key := by decide
  have hev : R.HUP_ESR_value.key ≠ R.HUP_VSTORE_value.key := by decide
  have hlater {u : State} {f : Fld} (he : f.key ∉ estimateFlds.map Fld.key) (hr : f.key ∉ hupReportFlds.map Fld.key) :
      (u.hupRaise 3).showGauge.get f = u.get f :=
    ((showGauge_moves _).get he).trans ((hupRaise_moves u (by decide)).get hr)
  unfold State.calMeasured
  refine ⟨(hlater (by decide) (by decide)).trans ?_, (hlater (by decide) (by decide)).trans ?_,
    (hlater (by decide) (by decide)).trans (State.get_put_same ..)⟩
  · exact (State.get_put_other _ _ hcv).trans ((State.get_put_other _ _ hce).trans (State.get_put_same ..))
  · exact (State.get_put_other _ _ hev).trans (State.get_put_same ..)

theorem calMeasured_done (s : State) (counted step v leak : Nat) :
    (s.calMeasured counted step v leak).bitOf R.HUP_STATUS_cause 3 = true :=
  (showGauge_moves _).causes 3 (by decide) (hupRaise_sets _ (by decide))

theorem verdictSupply_charge (u : State) (kind : Cal) (bad : Nat) :
    (verdictSupply u kind bad).charge = u.sup.charge := by
  unfold verdictSupply
  split_ifs <;> rfl

section Calibrated

variable {s : State} (hr : s.chargerRuns = true) (hc : s.sup.cal = .selfTest ∨ s.sup.cal = .recharge)
  (counted step v leak : Nat)
include hr hc

theorem calEnd_sup : (s.calEnd counted step v leak).sup = verdictSupply (s.calMeasured counted step v leak)
    s.sup.cal (s.calFault (counted / 300) (step / (5 * s.get R.HUP_CFG_charge_current))) :=
  (congrArg State.sup (calEnd_runs hr hc counted step v leak)).trans (judgeStore_sup _)

/-- What follows the measurement changes the fields of the judgement only, and no charge. -/
theorem calEnd_moves : StoreMoves storeFlds (s.calMeasured counted step v leak) (s.calEnd counted step v leak) := by
  rw [calEnd_runs hr hc]
  exact (StoreMoves.setSup ..).trans (judgeStore_moves _)

theorem calEnd_charge :
    (s.calEnd counted step v leak).sup.charge = (s.calMeasured counted step v leak).sup.charge := by
  rw [calEnd_sup hr hc, verdictSupply_charge]

theorem calEnd_apart : (s.calEnd counted step v leak).apart = (s.calMeasured counted step v leak).apart :=
  (calEnd_moves hr hc ..).apart (calEnd_charge hr hc ..)

theorem calEnd_becomes :
    StoreBecomes s (s.calEnd counted step v leak) (s.calEnd counted step v leak).sup calFlds ∧
      GaugeShown (s.calEnd counted step v leak) ∧
      (s.calEnd counted step v leak).get R.HUP_CAP_value = counted / 300 % 2 ^ R.HUP_CAP_value.w ∧
      (s.calEnd counted step v leak).get R.HUP_ESR_value =
        step / (5 * s.get R.HUP_CFG_charge_current) % 2 ^ R.HUP_ESR_value.w ∧
      (s.calEnd counted step v leak).get R.HUP_VSTORE_value = v % 2 ^ R.HUP_VSTORE_value.w ∧
      (s.calEnd counted step v leak).bitOf R.HUP_STATUS_cause 3 = true := by
  have hm := calEnd_moves hr hc counted step v leak
  have hall := (calMeasured_moves s counted step v leak).trans (hm.mono (List.subset_append_right calFlds _))
  have hjudged : StoreJudged (s.calEnd counted step v leak) :=
    calEnd_runs hr hc counted step v leak ▸ judgeStore_judged _
  obtain ⟨hcap, hesr, hstore⟩ := calMeasured_get s counted step v leak
  exact ⟨hall.becomes rfl hjudged, hm.gaugeShown (calEnd_charge hr hc ..) (showGauge_shown _),
    (hm.get (by decide)).trans hcap, (hm.get (by decide)).trans hesr, (hm.get (by decide)).trans hstore,
    hm.causes 3 (by decide) (calMeasured_done s counted step v leak)⟩

end Calibrated

theorem verdictSupply_passed (u : State) :
    verdictSupply u .selfTest 0 = { u.sup with passed := true, calReason := 0 } := rfl

theorem verdictSupply_failed (u : State) {bad : Nat} (h : bad ≠ 0) :
    verdictSupply u .selfTest bad = { u.sup with failed := some bad } := if_neg h

theorem verdictSupply_recalibrated (u : State) :
    verdictSupply u .recharge 0 = { u.sup with calReason := 0, disagree := u.sup.disagree && u.apart } := by
  simp [verdictSupply]

theorem verdictSupply_notReady (u : State) {bad : Nat} (h : bad ≠ 0) :
    verdictSupply u .recharge bad = { u.sup with calReason := bad, latest := bad } := by
  simp [verdictSupply, h]

/-! The commands -/

theorem exec_calibrationEnd_idle {s : State}
    (h : s.chargerRuns = false ∨ s.sup.cal = .none ∨ s.sup.cal = .discharge) (counted step v leak) :
    exec (.calibrationEnd counted step v leak) s = .next (settle s) :=
  next_settle_congr (calEnd_idle h ..)

theorem exec_selfTestTimeout_running {s : State} (hc : s.sup.cal = .selfTest) (hl : s.on R.PWR_STATUS_in_low = false) :
    exec .selfTestTimeout s = .next (settle (s.storeFails 6)) :=
  next_settle_congr (if_pos (by simp [hc, hl]))

theorem exec_selfTestTimeout_none {s : State} (h : s.sup.cal ≠ .selfTest ∨ s.on R.PWR_STATUS_in_low = true) :
    exec .selfTestTimeout s = .next (settle s) :=
  next_settle_congr (if_neg (by rcases h with h | h <;> simp [h]))

theorem exec_absentDetect_searching {s : State} (hc : s.sup.cal = .selfTest) (hr : s.chargerRuns = true) :
    exec .absentDetect s = .next (settle (s.setSup { s.sup with absent := true }).judgeStore) :=
  next_settle_congr (if_pos (by simp [hc, hr]))

theorem exec_absentDetect_none {s : State} (h : s.sup.cal ≠ .selfTest ∨ s.chargerRuns = false) :
    exec .absentDetect s = .next (settle s) :=
  next_settle_congr (if_neg (by rcases h with h | h <;> simp [h]))

/-- Settles O5: each event is a change of the supply or of the gauge, followed by the judgement, which shows the state
it leaves. -/
theorem storeJudgedAfterEveryEvent : Obligations.StoreJudgedAfterEveryEvent := by
  intro s
  refine ⟨fun v flow => ?_, fun counted step v leak => ?_, fun _ _ _ _ h => exec_calibrationEnd_idle h ..,
    fun hc hl => ?_, exec_selfTestTimeout_none, fun hc hr => ?_, exec_absentDetect_none, fun h => ?_,
    fun h => ?_, ?_, ?_⟩
  · obtain ⟨hbecomes, hshown, hstore⟩ := gauge_becomes s v.toNat flow
    have hapart := gauge_apart s v.toNat flow
    have hagreed {u : State} (h : (s.gaugeRead v.toNat flow).gaugeAgreed = u) : (s.gauge v.toNat flow).sup = u.sup :=
      (gauge_sup ..).trans (congrArg State.sup h)
    refine ⟨s.gauge v.toNat flow, rfl, hbecomes, hshown, hstore, fun hc => ?_, fun hc ha => ?_, fun hc ha hn => ?_,
      fun hc ha hn => gauge_disagrees hc ha hn⟩
    · exact hagreed (gaugeAgreed_calibrating hc)
    · exact hagreed (gaugeAgreed_agrees hc (hapart.symm.trans ha))
    · exact hagreed (gaugeAgreed_counts hc (hapart.symm.trans ha) hn)
  · intro cap esr x hr hc
    obtain ⟨hbecomes, hshown, hcap, hesr, hstore, hdone⟩ :=
      calEnd_becomes hr hc counted.toNat step.toNat v.toNat leak.toNat
    have hsup := calEnd_sup hr hc counted.toNat step.toNat v.toNat leak.toNat
    have hm := calMeasured_sup s counted.toNat step.toNat v.toNat leak.toNat
    refine ⟨s.calEnd counted.toNat step.toNat v.toNat leak.toNat, rfl, hbecomes, hshown, hcap, hesr, hstore, hdone,
      fun hk hb => ?_, fun hk hb => ?_, fun hk hb => ?_, fun hk hb => ?_⟩
    · rw [hsup, hk, hb, verdictSupply_passed, hm]
      rfl
    · rw [hsup, hk, verdictSupply_failed _ hb, hm]
      rfl
    · rw [calEnd_apart hr hc, hsup, hk, hb, verdictSupply_recalibrated, hm]
      rfl
    · rw [hsup, hk, verdictSupply_notReady _ hb, hm]
      rfl
  · obtain ⟨hstate, hreason⟩ := storeFails_shows s (reason := 6) (by decide)
    exact ⟨s.storeFails 6, exec_selfTestTimeout_running hc hl, setSup_becomes s _, hstate, hreason⟩
  · exact ⟨_, exec_absentDetect_searching hc hr, setSup_becomes s _⟩
  · exact ⟨s.chargerFault, rfl, chargerFault_becomes h⟩
  · exact next_settle_congr (if_pos h)
  · exact ⟨_, rfl, setSup_becomes s _⟩
  · exact ⟨_, rfl, setSup_becomes s _⟩

end Sys2Proof.Machine

end

section

namespace Sys2Proof.Machine

/-! ### Doorbells (O23) -/

theorem setRing_becomes (s : State) (m : Nat) (x : Ring) : RingBecomes s (s.setRing m x) m x :=
  ⟨rfl, tget_tput_same .., fun _ hk => congrArg (fun y : Option Ring => y.getD {}) (tget_tput_other _ _ hk)⟩

theorem qmgCause_keys (bit : Nat) : R.QMG_EVT_cause.key ≠ (R.QMG_EVT_CNT_count bit).key := by
  simp only [Fld.key, R.QMG_EVT_cause, R.QMG_EVT_CNT_count]
  omega

theorem qmgRaise_cause (s : State) (bit : Nat) : QmgCause s (s.qmgRaise bit) bit :=
  ⟨(Only.refl s _).raise (by simp) (by simp) bit, raised_raise s bit (qmgCause_keys bit)⟩

theorem ringCause_keys (m bit : Nat) : (R.QMG_CR_EVT_cause m).key ≠ (R.QMG_CR_CNT_count m bit).key := by
  simp only [Fld.key, R.QMG_CR_EVT_cause, R.QMG_CR_CNT_count]
  omega

/-! Tails (R310, R321) -/

section Tail

variable {s : State} {n mid v : Nat}

theorem sqDoorbell_absent (h : s.sqAbsent n = true) : s.sqDoorbell n mid v = s.qmgRaise 1 := if_pos h

theorem sqDoorbell_foreign (h : s.sqAbsent n = false) (hm : mid ≠ (s.sq n).owner) :
    s.sqDoorbell n mid v = s.qmgRaise 0 := by
  rw [State.sqDoorbell, if_neg (by simp [h]), if_pos hm]

theorem sqDoorbell_inactive (h : s.sqAbsent n = false) (hm : mid = (s.sq n).owner) (ha : (s.sq n).state ≠ 1) :
    s.sqDoorbell n mid v = s.qmgRaise 1 := by
  rw [State.sqDoorbell, if_neg (by simp [h]), if_neg (not_not.2 hm), if_pos ha]

theorem sqDoorbell_active (h : s.sqAbsent n = false) (hm : mid = (s.sq n).owner) (ha : (s.sq n).state = 1) :
    s.sqDoorbell n mid v = s.sqTail n v := by
  rw [State.sqDoorbell, if_neg (by simp [h]), if_neg (not_not.2 hm), if_neg (not_not.2 ha)]

theorem sqTail_wide (hv : 2 ^ ((s.sq n).log2 + 1) ≤ v) : s.sqTail n v = s.sqError n 3 v := if_pos hv

theorem sqTail_outside (hv : v < 2 ^ ((s.sq n).log2 + 1))
    (hd : ptrDiff (s.sq n).log2 v (s.sq n).h < ptrDiff (s.sq n).log2 (s.sq n).t (s.sq n).h ∨
      2 ^ (s.sq n).log2 < ptrDiff (s.sq n).log2 v (s.sq n).h) : s.sqTail n v = s.sqError n 2 v := by
  unfold State.sqTail
  dsimp only
  rw [if_neg (Nat.not_le.2 hv), if_pos (by simpa using hd)]

theorem sqTail_taken (hv : v < 2 ^ ((s.sq n).log2 + 1))
    (hlo : ptrDiff (s.sq n).log2 (s.sq n).t (s.sq n).h ≤ ptrDiff (s.sq n).log2 v (s.sq n).h)
    (hhi : ptrDiff (s.sq n).log2 v (s.sq n).h ≤ 2 ^ (s.sq n).log2) :
    s.sqTail n v = s.setSq n { s.sq n with t := v } := by
  unfold State.sqTail
  dsimp only
  rw [if_neg (Nat.not_le.2 hv), if_neg (by simp [hlo, hhi])]

end Tail

/-! Resumes (R312, R343) -/

section Resume

variable {s : State} {n mid tag : Nat}

theorem resumeDoorbell_absent (h : s.sqAbsent n = true) : s.resumeDoorbell n mid tag = s.qmgRaise 1 := if_pos h

theorem resumeDoorbell_foreign (h : s.sqAbsent n = false) (hm : mid ≠ (s.sq n).owner) :
    s.resumeDoorbell n mid tag = s.qmgRaise 0 := by
  rw [State.resumeDoorbell, if_neg (by simp [h]), if_pos hm]

theorem resumeDoorbell_own (h : s.sqAbsent n = false) (hm : mid = (s.sq n).owner) {p : Prog}
    (hp : s.prog tag = some p) (hq : p.sq = n) (he : p.st ≠ .ended) :
    s.resumeDoorbell n mid tag = s.resume tag p := by
  unfold State.resumeDoorbell
  rw [if_neg (by simp [h]), if_neg (not_not.2 hm), hp]
  exact if_pos (by simp [hq, he])

/-- A tag that no running program of the queue holds. -/
theorem resumeDoorbell_ignored (h : s.sqAbsent n = false) (hm : mid = (s.sq n).owner)
    (hp : ∀ p, s.prog tag = some p → p.sq ≠ n ∨ p.st = .ended) : s.resumeDoorbell n mid tag = s.qmgRaise 2 := by
  unfold State.resumeDoorbell
  rw [if_neg (by simp [h]), if_neg (not_not.2 hm)]
  cases ht : s.prog tag with
  | none => rfl
  | some p =>
    refine if_neg ?_
    rcases hp p ht with hq | he <;> simp [*]

theorem resume_suspended {p : Prog} (h : p.st = .suspended) : s.resume tag p =
    (s.trace .program { type := 0x04, mid := 3, tag := some tag, sq := p.sq, arg0 := p.ccwAddr }).setProg tag
      { p with st := .running, resumed := true, ccwRead := none, ccwWait := false } := if_pos h

theorem resume_remembered {p : Prog} (h : p.st ≠ .suspended) :
    s.resume tag p = s.setProg tag { p with resume := true } := if_neg h

theorem setProg_prog (s : State) (tag : Nat) (p : Prog) :
    s.setProg tag p = { s with progs := (s.setProg tag p).progs } ∧
    (s.setProg tag p).prog tag = some p ∧ ∀ k, k ≠ tag → (s.setProg tag p).prog k = s.prog k :=
  ⟨rfl, tget_tset_same .., fun _ hk => tget_tset_other _ hk⟩

end Resume

/-! Heads (R317, R321) -/

section Head

variable {s : State} {m mid v : Nat}

theorem crHead_absent (h : (s.ring m).exist = false) : s.crHead m mid v = s.qmgRaise 1 := if_pos (by simp [h])

theorem crHead_foreign (h : (s.ring m).exist = true) (hm : mid ≠ (s.ring m).owner) :
    s.crHead m mid v = s.qmgRaise 0 := by
  unfold State.crHead
  dsimp only
  rw [if_neg (by simp [h]), if_pos hm]

/-- The value lies between the head and the tail. -/
def headOk (r : Ring) (v : Nat) : Prop :=
  v < 2 ^ (r.log2 + 1) ∧ ptrDiff r.log2 v r.head ≤ ptrDiff r.log2 r.tail r.head

theorem crHead_taken (h : (s.ring m).exist = true) (hm : mid = (s.ring m).owner) (hv : headOk (s.ring m) v) :
    s.crHead m mid v = s.setRing m { s.ring m with head := v } := by
  unfold State.crHead
  dsimp only
  rw [if_neg (by simp [h]), if_neg (not_not.2 hm), if_pos (by simpa [headOk] using hv)]

theorem crHead_refused (h : (s.ring m).exist = true) (hm : mid = (s.ring m).owner) (hv : ¬ headOk (s.ring m) v) :
    s.crHead m mid v = s.ringRaise m 2 := by
  unfold State.crHead
  dsimp only
  rw [if_neg (by simp [h]), if_neg (not_not.2 hm), if_neg (by simpa [headOk] using hv)]

end Head

/-! The commands -/

theorem exec_sqDoorbell {s t : State} (hup : s.answers = true) {n : Fin 256} {mid : BitVec 4} {v : BitVec 13}
    (h : s.sqDoorbell n mid.toNat v.toNat = t) : exec (.sqDoorbell n mid v) s = .next (settle t) :=
  next_settle_congr ((State.whenUp_of_answers hup _).trans h)

theorem exec_resumeDoorbell {s t : State} (hup : s.answers = true) {n : Fin 256} {mid : BitVec 4} {tag : BitVec 11}
    (h : s.resumeDoorbell n mid.toNat tag.toNat = t) :
    exec (.resumeDoorbell n mid tag) s = .next (settle t.reready) :=
  next_settle_congr ((State.whenUp_of_answers hup _).trans (congrArg State.reready h))

theorem exec_crHeadDoorbell {s t : State} (hup : s.answers = true) {m : Fin 65} {mid : BitVec 4} {v : BitVec 13}
    (h : s.crHead m mid.toNat v.toNat = t) : exec (.crHeadDoorbell m mid v) s = .next t :=
  next_congr ((State.whenUp_of_answers hup _).trans h)

/-- Settles O23: tails, resumes and heads, each by its queue or ring, its writer and its value. -/
theorem doorbellsJudged : Obligations.DoorbellsJudged := by
  intro s hup
  refine ⟨fun n mid v => ?_, fun n mid tag => ?_, fun m mid v => ?_⟩
  · refine ⟨fun h => ?_, fun h hm => ?_, fun h hm ha => ⟨fun hv hlo hhi => ?_, fun hv hd => ?_, fun hv => ?_⟩⟩
    · refine ⟨_, exec_sqDoorbell hup ?_, qmgRaise_cause s 1⟩
      cases habs : s.sqAbsent n with
      | true => exact sqDoorbell_absent habs
      | false =>
        obtain ⟨hm, ha⟩ := h.resolve_left (by simp [habs])
        exact sqDoorbell_inactive habs hm ha
    · exact ⟨_, exec_sqDoorbell hup (sqDoorbell_foreign h hm), qmgRaise_cause s 0⟩
    · exact ⟨_, exec_sqDoorbell hup ((sqDoorbell_active h hm ha).trans (sqTail_taken hv hlo hhi)), setSq_becomes ..⟩
    · exact exec_sqDoorbell hup ((sqDoorbell_active h hm ha).trans (sqTail_outside hv hd))
    · exact exec_sqDoorbell hup ((sqDoorbell_active h hm ha).trans (sqTail_wide hv))
  · refine ⟨fun h => ?_, fun h hm => ?_, fun h hm => ⟨fun p hp hq he hs => ?_, fun p hp hq hs => ?_, fun hp => ?_⟩⟩
    · exact ⟨_, exec_resumeDoorbell hup (resumeDoorbell_absent h), qmgRaise_cause s 1⟩
    · exact ⟨_, exec_resumeDoorbell hup (resumeDoorbell_foreign h hm), qmgRaise_cause s 0⟩
    · exact ⟨_, exec_resumeDoorbell hup ((resumeDoorbell_own h hm hp hq he).trans (resume_remembered hs)),
        setProg_prog ..⟩
    · have he : p.st ≠ .ended := by simp [hs]
      exact exec_resumeDoorbell hup ((resumeDoorbell_own h hm hp hq he).trans (resume_suspended hs))
    · exact ⟨_, exec_resumeDoorbell hup (resumeDoorbell_ignored h hm hp), qmgRaise_cause s 2⟩
  · refine ⟨fun h => ?_, fun h hm => ?_, fun h hm => ⟨fun hv => ?_, fun hv => ?_⟩⟩
    · exact ⟨_, exec_crHeadDoorbell hup (crHead_absent h), qmgRaise_cause s 1⟩
    · exact ⟨_, exec_crHeadDoorbell hup (crHead_foreign h hm), qmgRaise_cause s 0⟩
    · exact ⟨_, exec_crHeadDoorbell hup (crHead_taken h hm hv), setRing_becomes ..⟩
    · exact ⟨_, exec_crHeadDoorbell hup (crHead_refused h hm hv), (Only.refl s _).raise (by simp) (by simp) 2,
        raised_raise s 2 (ringCause_keys m 2)⟩

end Sys2Proof.Machine

end

section

namespace Sys2Proof.Machine

/-! ### Power requests (O6) -/

/-! A request (R101, R103) -/

theorem power_put (s : State) {f : Fld} (v : Nat) (h : R.PWR_STATE_current.key ≠ f.key) : (s.put f v).power = s.power :=
  State.get_put_other s v h

theorem running_put (s : State) {f : Fld} (v : Nat) (h : R.PWR_STATE_current.key ≠ f.key) :
    (s.put f v).running = s.running := by
  simp only [State.running, power_put s v h]

section Request

variable {s : State} {who goal : Nat}

/-- An accepted request, with its result and target shown. -/
def State.pwrAccepted (s : State) (goal : Nat) : State :=
  (s.put R.PWR_STATE_last_result 0).put R.PWR_STATE_target goal

theorem pwrAccepted_power (s : State) (goal : Nat) : (s.pwrAccepted goal).power = s.power :=
  (power_put _ _ (by decide)).trans (power_put _ _ (by decide))

theorem pwrAccepted_running (s : State) (goal : Nat) : (s.pwrAccepted goal).running = s.running := by
  simp only [State.running, pwrAccepted_power]

theorem pwrRequest_ignored (h : s.phase = .held ∨ s.failing = true) : s.pwrRequest who goal = s :=
  if_pos (by simpa using h)

variable (hp : s.phase ≠ .held) (hf : s.failing = false)
include hp hf

theorem pwrRequest_refused (hj : s.pwrJudge goal ≠ prOk) : s.pwrRequest who goal =
    (s.put R.PWR_STATE_last_result (s.pwrJudge goal)).raise R.PWR_STATUS_cause 4 (R.PWR_CNT_count 4) := by
  unfold State.pwrRequest
  dsimp only
  rw [if_neg (by simp [hp, hf]), if_pos hj]
  exact if_neg hj

theorem pwrRequest_accepted (hj : s.pwrJudge goal = prOk) : s.pwrRequest who goal =
    if goal = s.power then s.pwrAccepted goal else (s.pwrAccepted goal).pwrGo who goal := by
  have hresult : s.pwrResult prOk = s.put R.PWR_STATE_last_result 0 := rfl
  have hpower : ((s.put R.PWR_STATE_last_result 0).put R.PWR_STATE_target goal).power = s.power :=
    pwrAccepted_power s goal
  unfold State.pwrRequest
  dsimp only
  rw [if_neg (by simp [hp, hf]), hj, if_neg (not_not.2 rfl), hresult, hpower]
  rfl

end Request

/-! The transitions (R104, R105, R107) -/

section Go

variable {s : State} (who : Nat) {goal : Nat}

theorem pwrGo_running (h : s.running = true) : s.pwrGo who goal =
    if goal = 1 then (s.put R.PWR_STATE_busy 1).enterQuiet who
    else if goal = 0 then (s.put R.PWR_STATE_busy 1).exitQuiet else (s.put R.PWR_STATE_busy 1).enterLow :=
  if_pos ((running_put s 1 (by decide)).trans h)

theorem pwrGo_asleep (h : s.running = false) : s.pwrGo who goal =
    if goal = 0 then (s.put R.PWR_STATE_busy 1).wake
    else (s.put R.PWR_STATE_busy 1).put R.PWR_STATE_current goal :=
  if_neg (by simp [running_put s 1 (show R.PWR_STATE_current.key ≠ R.PWR_STATE_busy.key by decide), h])

theorem pwrGo_quiet (h : s.running = true) : s.pwrGo who 1 = (s.put R.PWR_STATE_busy 1).enterQuiet who := by
  rw [pwrGo_running who h, if_pos rfl]

theorem pwrGo_active (h : s.running = true) : s.pwrGo who 0 = (s.put R.PWR_STATE_busy 1).exitQuiet := by
  rw [pwrGo_running who h, if_neg (by decide), if_pos rfl]

theorem pwrGo_low (h : s.running = true) (hg : 2 ≤ goal) : s.pwrGo who goal = (s.put R.PWR_STATE_busy 1).enterLow := by
  rw [pwrGo_running who h, if_neg (by omega), if_neg (by omega)]

theorem pwrGo_wakes (h : s.running = false) : s.pwrGo who 0 = (s.put R.PWR_STATE_busy 1).wake := by
  rw [pwrGo_asleep who h, if_pos rfl]

theorem pwrGo_swaps (h : s.running = false) (hg : 2 ≤ goal) :
    s.pwrGo who goal = (s.put R.PWR_STATE_busy 1).put R.PWR_STATE_current goal := by
  rw [pwrGo_asleep who h, if_neg (by omega)]

end Go

/-! A write of PWR_STATE -/

section Write

variable {s : State} {mid : BitVec 4} {value : W32}

theorem exec_pwrStateWrite_named (h : [0, 1, 2, 4].contains mid.toNat = true) :
    exec (.pwrStateWrite mid value) s = .next (settle (s.pwrRequest mid.toNat (bits value.toNat 0 2))) :=
  next_settle_congr (if_pos h)

theorem exec_pwrStateWrite_ignored
    (h : [0, 1, 2, 4].contains mid.toNat = false ∨ s.phase = .held ∨ s.failing = true) :
    exec (.pwrStateWrite mid value) s = .next (settle s) := by
  by_cases hm : [0, 1, 2, 4].contains mid.toNat = true
  · have hrest := h.resolve_left (by rw [hm]; decide)
    rw [exec_pwrStateWrite_named hm, pwrRequest_ignored hrest]
  · exact next_settle_congr (if_neg hm)

/-- An accepted transition to another state by a MID that R101 names. -/
theorem exec_pwrStateWrite_goes (hm : [0, 1, 2, 4].contains mid.toNat = true) (hp : s.phase ≠ .held)
    (hf : s.failing = false) (hj : s.pwrJudge (bits value.toNat 0 2) = prOk) (hne : bits value.toNat 0 2 ≠ s.power)
    {t : State} (ht : (s.pwrAccepted (bits value.toNat 0 2)).pwrGo mid.toNat (bits value.toNat 0 2) = t) :
    exec (.pwrStateWrite mid value) s = .next (settle t) := by
  rw [exec_pwrStateWrite_named hm, pwrRequest_accepted hp hf hj, if_neg hne, ht]

end Write

/-! The end of the drain (R105) -/

/-- The unit after a drain, with its ledger, its ports and its link ended, before it stops. -/
def State.drained (s : State) : State :=
  let a := s.admin.foldl (fun u _ => u.fault { src := 7 }) s
  let b := settle (a.adminAbort.ldgShutdown (s.get R.PWR_STATE_target - 2))
  let c := (b.pinsRelease.portsIdle 0).pcieDown
  { settle c with sleptAt := c.now, sq0Stop := false }

/-- The unit stopped in its target state. -/
def State.stoppedIn (u : State) (goal : Nat) : State :=
  (((u.put R.PWR_STATE_current goal).put R.PWR_STATE_busy 0).put R.GLB_WDOG_CTL_running 0).put R.CLK_STATUS_pll_lock 0

theorem drainEnd_waits {s : State}
    (h : s.on R.PWR_STATE_busy = false ∨ s.running = false ∨ s.sq0Stop = false ∨ s.failing = true) :
    s.drainEnd = s := if_pos (by rcases h with h | h | h | h <;> simp [h])

theorem drainEnd_ends {s : State} (hb : s.on R.PWR_STATE_busy = true) (hr : s.running = true) (hq : s.sq0Stop = true)
    (hf : s.failing = false) : s.drainEnd =
      (s.drained.stoppedIn (s.get R.PWR_STATE_target)).raise R.PWR_STATUS_cause 3 (R.PWR_CNT_count 3) :=
  if_neg (by simp [hb, hr, hq, hf])

theorem stoppedIn_get (u : State) (goal : Nat) :
    (u.stoppedIn goal).get R.PWR_STATE_current = goal % 4 ∧ (u.stoppedIn goal).get R.PWR_STATE_busy = 0 ∧
      (u.stoppedIn goal).get R.GLB_WDOG_CTL_running = 0 ∧ (u.stoppedIn goal).get R.CLK_STATUS_pll_lock = 0 := by
  have hcb : R.PWR_STATE_current.key ≠ R.PWR_STATE_busy.key := by decide
  have hcw : R.PWR_STATE_current.key ≠ R.GLB_WDOG_CTL_running.key := by decide
  have hcp : R.PWR_STATE_current.key ≠ R.CLK_STATUS_pll_lock.key := by decide
  have hbw : R.PWR_STATE_busy.key ≠ R.GLB_WDOG_CTL_running.key := by decide
  have hbp : R.PWR_STATE_busy.key ≠ R.CLK_STATUS_pll_lock.key := by decide
  have hwp : R.GLB_WDOG_CTL_running.key ≠ R.CLK_STATUS_pll_lock.key := by decide
  unfold State.stoppedIn
  refine ⟨?_, ?_, ?_, ?_⟩
  · rw [State.get_put_other _ _ hcp, State.get_put_other _ _ hcw, State.get_put_other _ _ hcb, State.get_put_same]
    rfl
  · rw [State.get_put_other _ _ hbp, State.get_put_other _ _ hbw, State.get_put_same]
    rfl
  · rw [State.get_put_other _ _ hwp, State.get_put_same]
    rfl
  · rw [State.get_put_same]
    rfl

/-- The done cause of an entry leaves what the unit shows of its state. -/
theorem stoppedIn_done (u : State) (goal : Nat) {t : State}
    (ht : t = (u.stoppedIn goal).raise R.PWR_STATUS_cause 3 (R.PWR_CNT_count 3)) :
    t.power = goal % 4 ∧ t.on R.PWR_STATE_busy = false ∧ t.on R.GLB_WDOG_CTL_running = false ∧
      t.on R.CLK_STATUS_pll_lock = false ∧ t.bitOf R.PWR_STATUS_cause 3 = true ∧ t.sq0Stop = u.sq0Stop := by
  obtain ⟨hcurrent, hbusy, hwdog, hlock⟩ := stoppedIn_get u goal
  subst ht
  simp only [State.power, State.on]
  rw [State.get_raise_other _ 3 (by decide) (by decide), State.get_raise_other _ 3 (by decide) (by decide),
    State.get_raise_other _ 3 (by decide) (by decide), State.get_raise_other _ 3 (by decide) (by decide),
    hcurrent, hbusy, hwdog, hlock]
  exact ⟨rfl, rfl, rfl, rfl, State.bitOf_raise_same _ (by decide) (by decide), rfl⟩

/-! PERST_N (R252, R255) -/

theorem perstHigh_running {s : State} (h : s.running = true) : s.perstHigh = s.put R.INT_LINK_perst_n 1 := by
  have hpower : (s.put R.INT_LINK_perst_n 1).power = s.power := power_put s 1 (by decide)
  have hlow : s.power < 2 := by simpa [State.running] using h
  refine if_neg ?_
  rw [hpower]
  simp [Nat.not_le.2 hlow]

theorem perstHigh_wakes {s : State} (h : 2 ≤ s.power) (ht : s.get R.PWR_STATE_target ≠ 0) (hp : s.phase = .up)
    (hf : s.failing = false) : s.perstHigh = (s.put R.INT_LINK_perst_n 1).wake := by
  have hpower : (s.put R.INT_LINK_perst_n 1).power = s.power := power_put s 1 (by decide)
  have htarget : (s.put R.INT_LINK_perst_n 1).get R.PWR_STATE_target = s.get R.PWR_STATE_target :=
    State.get_put_other s 1 (by decide)
  have hfailing : (s.put R.INT_LINK_perst_n 1).failing = false := hf
  refine if_pos ?_
  rw [hpower, htarget, hfailing]
  simp [h, ht, hp]

/-! Top-up and recalibration (R100, R115) -/

theorem exec_topUp_starts {s : State} (hr : s.running = false) (hc : s.chargerRuns = true) :
    exec .topUp s = .next { s with sup := { s.sup with topUp := true } } :=
  next_congr (if_neg (by simp [hr, hc]))

theorem exec_topUp_none {s : State} (h : s.running = true ∨ s.chargerRuns = false) : exec .topUp s = .next s :=
  next_congr (if_pos (by simpa using h))

/-- Settles O6: a request refused, one for the present state, each transition, and the other events of the power
states. -/
theorem powerRequestsJudged : Obligations.PowerRequestsJudged := by
  intro s
  refine ⟨fun mid value hm hp hf => ?_, fun _ _ => exec_pwrStateWrite_ignored, fun hb hr hq hf => ?_,
    fun h => next_settle_congr (drainEnd_waits h), fun h => next_congr (perstHigh_running h),
    fun h ht hp hf => next_congr (perstHigh_wakes h ht hp hf), fun _ => rfl, fun _ => rfl, exec_topUp_starts,
    exec_topUp_none, fun h => next_congr (if_pos h), fun h => next_congr (if_neg h)⟩
  · intro goal a b
    have hrun : (s.pwrAccepted goal).running = s.running := pwrAccepted_running s goal
    refine ⟨fun hj => ?_, fun hj hg => ?_, fun hj hg => ⟨fun hr h1 => ?_, fun hr h0 => ?_, fun hr h2 => ?_,
      fun hr h0 => ?_, fun hr h2 => ?_⟩⟩
    · rw [exec_pwrStateWrite_named hm, pwrRequest_refused hp hf hj]
    · rw [exec_pwrStateWrite_named hm, pwrRequest_accepted hp hf hj, if_pos hg]
      rfl
    · exact exec_pwrStateWrite_goes hm hp hf hj hg
        ((congrArg _ h1).trans (pwrGo_quiet mid.toNat (hrun.trans hr)))
    · exact exec_pwrStateWrite_goes hm hp hf hj hg
        ((congrArg _ h0).trans (pwrGo_active mid.toNat (hrun.trans hr)))
    · exact exec_pwrStateWrite_goes hm hp hf hj hg (pwrGo_low mid.toNat (hrun.trans hr) h2)
    · exact exec_pwrStateWrite_goes hm hp hf hj hg
        ((congrArg _ h0).trans (pwrGo_wakes mid.toNat (hrun.trans hr)))
    · exact exec_pwrStateWrite_goes hm hp hf hj hg (pwrGo_swaps mid.toNat (hrun.trans hr) h2)
  · exact ⟨s.drainEnd, rfl, stoppedIn_done _ _ (drainEnd_ends hb hr hq hf)⟩

end Sys2Proof.Machine

end

section

namespace Sys2Proof.Machine

/-! ### Firmware's readings and settings (O37) -/

/-- At its turn a command that passes the checks of every command is carried out (R282–R285). -/
theorem fwServe_turn {s u : State} {via : Option (Fin 16)} {code : Nat} {r : FwReq} (h : FwTurn s u via code r)
    (f : FwReq → State → State) : s.fwServe via code f = f r u := by
  obtain ⟨hhead, hcode, ⟨c, hserved, hjudge⟩, hu⟩ := h
  unfold State.fwServe
  rw [hhead]
  dsimp only
  rw [if_neg (not_not.2 hcode), hserved]
  dsimp only
  rw [if_pos hjudge, hu]

/-! PARAM_GET and PARAM_SET -/

section Params

variable {u : State} {r : FwReq}

theorem paramGet_known {d : Nat} (h : paramDefault (r.w 1) = some d) : r.paramGet u =
    u.answer r rsOk [r.w 1, u.paramNow (r.w 1), 0, 1 + 2 * b2n (u.paramNow (r.w 1) == d)] := by
  rw [FwReq.paramGet, h]

theorem paramGet_unknown (h : paramDefault (r.w 1) = none) : r.paramGet u = u.answer r rsBadArg := by
  rw [FwReq.paramGet, h]

theorem paramSet_refused (h : paramDefault (r.w 1) = none ∨ u.paramOk (r.w 1) (r.w64 2) = false) :
    r.paramSet u = u.answer r rsBadArg :=
  if_pos (by rcases h with h | h <;> simp [h])

/-- A parameter in the store. -/
def State.paramSaved (s : State) (id v : Nat) : State := { s with nv := { s.nv with params := tset s.nv.params id v } }

theorem paramApply_volatile (h : r.w 4 ≠ 1) {t : State} (ht : t = u.paramPut (r.w 1) (r.w64 2)) :
    r.paramApply u = t.answer r rsOk (words2 (t.paramNow (r.w 1))) := by
  rw [FwReq.paramApply, if_neg h, if_neg h, ht]

theorem paramApply_stored (h : r.w 4 = 1) {t : State}
    (ht : t = (u.paramSaved (r.w 1) (r.w64 2)).paramPut (r.w 1) (r.w64 2)) :
    r.paramApply u = (t.fwNote tParamChange).answer r rsOk (words2 (t.paramNow (r.w 1))) := by
  rw [FwReq.paramApply, if_pos h, if_pos h, ht]
  rfl

section Allowed

variable {d : Nat} (hd : paramDefault (r.w 1) = some d) (hok : u.paramOk (r.w 1) (r.w64 2) = true)
include hd hok

theorem paramSet_allowed : r.paramSet u =
    if r.w 4 = 1 then
      if (u.cpFlash paramStore).2 then r.paramApply (u.cpFlash paramStore).1
      else (u.cpFlash paramStore).1.answer r rsFlash
    else r.paramApply u :=
  if_neg (by simp [hd, hok])

theorem paramSet_volatile (h : r.w 4 ≠ 1) : r.paramSet u = r.paramApply u := by
  rw [paramSet_allowed hd hok, if_neg h]

theorem paramSet_stored (h : r.w 4 = 1) (hf : (u.cpFlash paramStore).2 = true) :
    r.paramSet u = r.paramApply (u.cpFlash paramStore).1 := by
  rw [paramSet_allowed hd hok, if_pos h, if_pos hf]

theorem paramSet_unstored (h : r.w 4 = 1) (hf : (u.cpFlash paramStore).2 = false) :
    r.paramSet u = (u.cpFlash paramStore).1.answer r rsFlash := by
  rw [paramSet_allowed hd hok, if_pos h, if_neg (by simp [hf])]

end Allowed

end Params

/-! FAULT_CFG (R607) -/

theorem faultCfg_refused {u : State} {r : FwReq} (h : srcAssigned (r.w 1) = false ∨ u.fltOk (r.w 1) (r.w 2) = false) :
    r.faultCfg u = u.answer r rsBadArg :=
  if_pos (by rcases h with h | h <;> simp [h])

theorem faultCfg_taken {u : State} {r : FwReq} (ha : srcAssigned (r.w 1) = true) (hok : u.fltOk (r.w 1) (r.w 2) = true)
    {t : State} (ht : t = u.srcCfgWrite (r.w 1) { mid := 2 } (u.readFlds [R.FLT_SRC_CFG_to_pf (r.w 1),
      R.FLT_SRC_CFG_to_cp (r.w 1), R.FLT_SRC_CFG_rec_all (r.w 1)] + r.w 2)) :
    r.faultCfg u = t.answer r rsOk
      [t.readFlds [R.FLT_SRC_CFG_n (r.w 1), R.FLT_SRC_CFG_k (r.w 1), R.FLT_SRC_CFG_action (r.w 1)]] := by
  subst ht
  exact if_neg (by simp [ha, hok])

/-! The commands -/

theorem exec_paramSet_free {s : State} {via : Option (Fin 16)} (h : s.fwaFree = true) :
    exec (.paramSet via) s = .next (settle (s.fwServe via 0x03 FwReq.paramSet)) :=
  next_settle_congr (if_pos h)

theorem exec_paramSet_waits {s : State} {via : Option (Fin 16)} (h : s.fwaFree = false) :
    exec (.paramSet via) s = .next (settle s) :=
  next_settle_congr (if_neg (by simp [h]))

/-- Settles O37: a command at its turn does what its own definition says; PARAM_SET and FAULT_CFG by their operands,
and PARAM_SET by the outcome of the flash. -/
theorem firmwareReadsAndSets : Obligations.FirmwareReadsAndSets := by
  intro s u via r
  have served {code : Nat} (h : FwTurn s u via code r) {f : FwReq → State → State} {t : State} (ht : f r u = t) :
      s.fwServe via code f = t := (fwServe_turn h f).trans ht
  have sets (h : FwTurn s u via 0x03 r) (hfree : s.fwaFree = true) {t : State} (ht : r.paramSet u = t) :
      exec (.paramSet via) s = .next (settle t) := (exec_paramSet_free hfree).trans (next_settle_congr (served h ht))
  refine ⟨fun h => next_settle_congr (fwServe_turn h _), fun h d hd => next_settle_congr (served h (paramGet_known hd)),
    fun h hd => next_settle_congr (served h (paramGet_unknown hd)), fun h hfree => ⟨fun hbad => ?_, fun d hd hok => ?_⟩,
    exec_paramSet_waits, fun h => next_settle_congr (fwServe_turn h _), fun h => next_settle_congr (fwServe_turn h _),
    fun h => ⟨fun hbad => next_settle_congr (served h (faultCfg_refused hbad)),
      fun ha hok => next_settle_congr (served h (faultCfg_taken ha hok rfl))⟩⟩
  · exact sets h hfree (paramSet_refused hbad)
  · refine ⟨fun hv => ?_, fun hv => ⟨fun hf => ?_, fun hf => ?_⟩⟩
    · exact sets h hfree ((paramSet_volatile hd hok hv).trans (paramApply_volatile hv rfl))
    · exact sets h hfree ((paramSet_stored hd hok hv hf).trans (paramApply_stored hv rfl))
    · exact sets h hfree (paramSet_unstored hd hok hv hf)

end Sys2Proof.Machine

end

section

namespace Sys2Proof.Machine

/-! ### The checks that every firmware command has (O36) -/

section Serving

variable {s : State} {via : Option (Fin 16)} {r : FwReq} {code : Nat} (f : FwReq → State → State)

theorem fwServe_no_head (h : s.fwHead via = none) : s.fwServe via code f = s := by
  unfold State.fwServe
  rw [h]

/-- A command serves the request at the head only where the request asks for it and the catalogue lists it at this
stage (R153, R281). -/
theorem fwServe_not_asked (hhead : s.fwHead via = some r) (h : r.asked.code ≠ code ∨ s.served code = none) :
    s.fwServe via code f = s := by
  unfold State.fwServe
  rw [hhead]
  by_cases hcode : r.asked.code = code
  · dsimp only
    rw [if_neg (not_not.2 hcode), h.resolve_left (not_not.2 hcode)]
  · exact if_pos hcode

theorem fwServe_fails_check {c : FwCmd} (hhead : s.fwHead via = some r) (hcode : r.asked.code = code)
    (hserved : s.served code = some c) (hbad : r.judge c ≠ rsOk) :
    s.fwServe via code f = (s.fwTake r).answer r (r.judge c) := by
  unfold State.fwServe
  rw [hhead]
  dsimp only
  rw [if_neg (not_not.2 hcode), hserved]
  exact if_neg hbad

end Serving

/-! Which command serves which code (R282) -/

/-- The carrier is what the operands `mail` and `chan` of a command with two operands name. -/
theorem carriedBy_isSome_getD (via : Option (Fin 16)) (chan : Fin 16) :
    carriedBy via.isSome (via.getD chan) = via := by
  cases via <;> rfl

/-- A command is the service of a code from a carrier, by one of the definitions of the catalogue. -/
def Serves (s : State) (via : Option (Fin 16)) (x : Instr × Nat) : Prop :=
  ∃ f, exec x.1 s = .next (settle (s.fwServe via x.2 f))

/-- The same of a command whose operands name the carrier apart. -/
theorem Serves.carried {s : State} {via : Option (Fin 16)} {chan : Fin 16} {x : Instr × Nat}
    (h : Serves s (carriedBy via.isSome (via.getD chan)) x) : Serves s via x := by
  rwa [carriedBy_isSome_getD] at h

theorem fwCommands_serve (s : State) (via : Option (Fin 16)) (chan : Fin 16) :
    ∀ x ∈ fwCommands via chan, Serves s via x := by
  simp only [fwCommands, List.forall_mem_cons]
  exact ⟨⟨FwReq.unitInfo, rfl⟩, ⟨FwReq.paramGet, rfl⟩, ⟨FwReq.pwrSet, rfl⟩, ⟨FwReq.sqCreate, rfl⟩,
    ⟨FwReq.sqDestroy, rfl⟩, ⟨FwReq.sqShutdown, rfl⟩, ⟨FwReq.sqRestart, rfl⟩, ⟨FwReq.crCreate, rfl⟩,
    ⟨FwReq.crDestroy, rfl⟩, ⟨FwReq.prgResume, rfl⟩, Serves.carried ⟨FwReq.grtLoad, rfl⟩, ⟨FwReq.grtEnable, rfl⟩,
    ⟨FwReq.ldgSeal, rfl⟩, ⟨FwReq.ldgStatus, rfl⟩, Serves.carried ⟨FwReq.ldgExport, rfl⟩, ⟨FwReq.pairBind, rfl⟩,
    ⟨FwReq.pairUnbind, rfl⟩, ⟨FwReq.takeover, rfl⟩, ⟨FwReq.handover, rfl⟩, ⟨FwReq.repairPoint, rfl⟩,
    ⟨FwReq.faultCfg, rfl⟩, ⟨FwReq.imgQuery, rfl⟩, Serves.carried ⟨FwReq.imgBegin, rfl⟩,
    Serves.carried ⟨FwReq.imgChunk, rfl⟩, ⟨FwReq.imgEnd, rfl⟩, ⟨FwReq.imgActivate, rfl⟩, ⟨FwReq.imgRestart, rfl⟩,
    ⟨FwReq.imgConfirm, rfl⟩, ⟨FwReq.imgRevert, rfl⟩, List.forall_mem_nil _⟩

theorem exec_timeSet_free {s : State} {via : Option (Fin 16)} (h : s.fwaFree = true) :
    exec (.timeSet via) s = .next (settle (s.fwServe via 0x30 FwReq.timeSet)) :=
  next_settle_congr (if_pos h)

theorem exec_timeSet_waits {s : State} {via : Option (Fin 16)} (h : s.fwaFree = false) :
    exec (.timeSet via) s = .next (settle s) :=
  next_settle_congr (if_neg (by simp [h]))

theorem fwAppending_serve {s : State} (via : Option (Fin 16)) (h : s.fwaFree = true) :
    ∀ x ∈ fwAppending via, Serves s via x := by
  simp only [fwAppending, List.forall_mem_cons]
  exact ⟨⟨_, exec_paramSet_free h⟩, ⟨_, exec_timeSet_free h⟩, List.forall_mem_nil _⟩

theorem fwAppending_waits {s : State} (via : Option (Fin 16)) (h : s.fwaFree = false) :
    ∀ x ∈ fwAppending via, exec x.1 s = .next (settle s) := by
  simp only [fwAppending, List.forall_mem_cons]
  exact ⟨exec_paramSet_waits h, exec_timeSet_waits h, List.forall_mem_nil _⟩

/-- What a command that serves a code does to a request that it does not carry out. -/
theorem Serves.checks {s : State} {via : Option (Fin 16)} {x : Instr × Nat} (h : Serves s via x) :
    (s.fwHead via = none → exec x.1 s = .next (settle s)) ∧
    ∀ r, s.fwHead via = some r →
      (r.asked.code ≠ x.2 ∨ s.served x.2 = none → exec x.1 s = .next (settle s)) ∧
      (∀ c, r.asked.code = x.2 → s.served x.2 = some c → r.judge c ≠ rsOk →
        exec x.1 s = .next (settle ((s.fwTake r).answer r (r.judge c)))) := by
  obtain ⟨f, hf⟩ := h
  have ends {t : State} (ht : s.fwServe via x.2 f = t) : exec x.1 s = .next (settle t) :=
    hf.trans (next_settle_congr ht)
  exact ⟨fun hnone => ends (fwServe_no_head f hnone), fun r hhead =>
    ⟨fun hother => ends (fwServe_not_asked f hhead hother), fun c hcode hserved hbad =>
      ends (fwServe_fails_check f hhead hcode hserved hbad)⟩⟩

/-! UNKNOWN_COMMAND (R153, R285) -/

section Unknown

variable {s : State} {via : Option (Fin 16)} {r : FwReq}

theorem fwUnknown_no_head (h : s.fwHead via = none) : s.fwUnknown via = s := by
  unfold State.fwUnknown
  rw [h]

theorem fwUnknown_unserved (hhead : s.fwHead via = some r) (h : s.served r.asked.code = none) :
    s.fwUnknown via = (s.fwTake r).answer r rsUnsupported := by
  unfold State.fwUnknown
  rw [hhead]
  exact if_neg (by simp [h])

theorem fwUnknown_served {c : FwCmd} (hhead : s.fwHead via = some r) (h : s.served r.asked.code = some c) :
    s.fwUnknown via = s := by
  unfold State.fwUnknown
  rw [hhead]
  exact if_pos (by simp [h])

end Unknown

/-! FIRMWARE_IGNORES_REPLY (R286) -/

theorem setChan_becomes (s : State) (c : Nat) (x : Chan) : ChanBecomes s (s.setChan c x) c x :=
  ⟨rfl, tget_tput_same .., fun _ h => congrArg (fun y : Option Chan => y.getD {}) (tget_tput_other _ _ h)⟩

section Ignoring

variable {s : State} {c : Nat}

theorem fwIgnores_not_receiving (h : s.fwServes false = false ∨ s.isReceiver c 2 = false) : s.fwIgnores c = s :=
  if_pos (by rcases h with h | h <;> simp [h])

theorem fwIgnores_no_message (h : (s.chan c).queue = []) : s.fwIgnores c = s := by
  unfold State.fwIgnores
  rw [h]
  exact ite_self _

variable {m : Msg} {rest : List Msg}

theorem fwIgnores_message (hserves : s.fwServes false = true) (hrecv : s.isReceiver c 2 = true)
    (hq : (s.chan c).queue = m :: rest) :
    s.fwIgnores c = if msgKind (m.words.headD 0) = 0 then s else s.mailboxDrop c := by
  have hgoes : ¬(!s.fwServes false || !s.isReceiver c 2) = true := by simp [hserves, hrecv]
  unfold State.fwIgnores
  rw [if_neg hgoes, hq]

theorem mailboxDrop_becomes (hq : (s.chan c).queue = m :: rest) :
    ChanBecomes s (s.mailboxDrop c) c { s.chan c with queue := rest } := by
  have hrest : rest = (s.chan c).queue.drop 1 := by rw [hq, List.drop_one, List.tail_cons]
  rw [hrest]
  exact setChan_becomes ..

end Ignoring

/-- The channels' turn and request need firmware that serves, receives on the channel and is not serving it already
(R281). -/
theorem fwHead_channel_none {s : State} {c : Fin 16}
    (h : s.fwServes false = false ∨ s.isReceiver c 2 = false ∨ s.chanBusy c = true) : s.fwHead (some c) = none := by
  have hno : s.mailRequest c = none := if_pos (by rcases h with h | h | h <;> simp [h])
  exact ite_eq_right_iff.2 fun _ => hno

/-- Settles O36: each command serves its own code by `fwServe`, whose cases are these; the other commands by the kind of
what stands at the head. -/
theorem firmwareChecksCommands : Obligations.FirmwareChecksCommands := by
  intro s via chan
  refine ⟨fun x hx => ?_, fun x hx hbusy => fwAppending_waits via hbusy x hx,
    fun r hhead h => next_settle_congr (fwUnknown_unserved hhead h),
    fun r c hhead h => next_settle_congr (fwUnknown_served hhead h),
    fun hnone => next_settle_congr (fwUnknown_no_head hnone), fun c m rest hserves hrecv hq => ?_, fun c h => ?_,
    fun c => fwHead_channel_none⟩
  · rcases hx with hx | ⟨hx, hfree⟩
    · exact (fwCommands_serve s via chan x hx).checks
    · exact (fwAppending_serve via hfree x hx).checks
  · have hmsg := fwIgnores_message hserves hrecv hq
    exact ⟨fun hkind => ⟨_, next_congr (hmsg.trans (if_neg hkind)), mailboxDrop_becomes hq⟩,
      fun hkind => next_congr (hmsg.trans (if_pos hkind))⟩
  · rcases h with h | h | h
    · exact next_congr (fwIgnores_not_receiving (.inl h))
    · exact next_congr (fwIgnores_not_receiving (.inr h))
    · exact next_congr (fwIgnores_no_message h)

end Sys2Proof.Machine

end

section

namespace Sys2Proof.Machine

/-! ### Boot and clocks (O8) -/

section Release

variable {s : State} (go : State → State)

theorem releaseReset_boots (h : s.phase = .asserted) (hrom : s.romRun < 3) : s.releaseReset go = go s.bootBegin := by
  unfold State.releaseReset
  rw [if_neg (not_not.2 h), if_neg (not_le.2 hrom)]

/-- Three ROM lock-step resets in a row end in HALT (R155). -/
theorem releaseReset_halts (h : s.phase = .asserted) (hrom : 3 ≤ s.romRun) : s.releaseReset go = s.halt := by
  unfold State.releaseReset
  rw [if_neg (not_not.2 h), if_pos hrom]

theorem releaseReset_idle (h : s.phase ≠ .asserted) : s.releaseReset go = s := if_pos h

end Release

section Clocks

variable {s : State}

/-- What a lost reference or lock shows, before the safe stop (R157). -/
def clockLossShown (s : State) (pll : Bool) : State :=
  let u := (s.put R.CLK_STATUS_pll_lock 0).put R.CLK_STATUS_disciplined 0
  if pll then u.clkRaise 2 else (u.put R.CLK_STATUS_ref25_ok 0).clkRaise 0

theorem clkRaise_safe (t : State) {bit : Nat} (h : R.FLT_SAFE_active.key ≠ (R.CLK_CNT_count bit).key) :
    (t.clkRaise bit).safe = t.safe :=
  congrArg (· != 0) (State.get_raise_other t bit (by decide) h)

theorem put_safe (t : State) {f : Fld} (v : Nat) (h : R.FLT_SAFE_active.key ≠ f.key) : (t.put f v).safe = t.safe :=
  congrArg (· != 0) (State.get_put_other t v h)

theorem clockLossShown_safe (s : State) (pll : Bool) : (clockLossShown s pll).safe = s.safe := by
  have hlock : ((s.put R.CLK_STATUS_pll_lock 0).put R.CLK_STATUS_disciplined 0).safe = s.safe :=
    (put_safe _ _ (by decide)).trans (put_safe _ _ (by decide))
  cases pll with
  | false => exact (clkRaise_safe _ (by decide)).trans ((put_safe _ _ (by decide)).trans hlock)
  | true => exact (clkRaise_safe _ (by decide)).trans hlock

/-- A loss while the unit runs stops it safely unless it is stopped already (R157). -/
theorem clockLost_running (pll : Bool) (hup : s.isUp = true) (hrun : s.running = true) :
    s.clockLost pll =
      if s.safe then clockLossShown s pll else (clockLossShown s pll).safeStop 3 0 := by
  have hgoes : ¬(!s.isUp || !s.running) = true := by simp [hup, hrun]
  rw [← clockLossShown_safe s pll]
  exact if_neg hgoes

theorem clockLost_stopped (pll : Bool) (h : s.isUp = false ∨ s.running = false) : s.clockLost pll = s :=
  if_pos (by rcases h with h | h <;> simp [h])

end Clocks

/-- Settles O8: a release by the phase and the count of ROM lock-step resets, a retry by the phase and the lock, a loss
by what runs and by whether the safe stop stands. -/
theorem bootAndClocks : Obligations.BootAndClocks := by
  intro s
  refine ⟨fun _ _ _ _ h hrom => next_settle_congr (releaseReset_boots _ h hrom),
    fun _ _ _ _ h hrom => next_settle_congr (releaseReset_halts _ h hrom),
    fun _ _ _ _ h => ⟨next_settle_congr (releaseReset_idle _ h), next_settle_congr (releaseReset_idle _ h)⟩,
    fun h hrom => next_settle_congr (releaseReset_boots _ h hrom),
    fun _ _ _ _ h => next_settle_congr (if_pos (by simp [h])), fun _ _ _ _ => next_settle_congr (if_neg (by simp)),
    fun pll hup hrun => ?_, fun pll h => next_settle_congr (clockLost_stopped pll h), fun error => ?_, fun _ => rfl⟩
  · have hlost := clockLost_running pll hup hrun
    exact ⟨fun h => next_settle_congr (hlost.trans (if_pos h)),
      fun h => next_settle_congr (hlost.trans (if_neg (by simp [h])))⟩
  · cases error with
    | none => rfl
    | some e => rfl

end Sys2Proof.Machine

end

section

namespace Sys2Proof.Machine

/-! ### Firmware images (O43) -/

/-- A command that serves a code ends, at its turn, as its definition says. -/
theorem exec_at_turn {s u t : State} {via : Option (Fin 16)} {code : Nat} {r : FwReq} {i : Instr}
    {f : FwReq → State → State} (h : FwTurn s u via code r) (hexec : exec i s = .next (settle (s.fwServe via code f)))
    (ht : f r u = t) : exec i s = .next (settle t) :=
  hexec.trans (next_settle_congr ((fwServe_turn h f).trans ht))

theorem exec_imgBegin (s : State) (via : Option (Fin 16)) (chan : Fin 16) :
    exec (.imgBegin via.isSome (via.getD chan)) s = .next (settle (s.fwServe via 0x51 FwReq.imgBegin)) :=
  next_settle_congr (by rw [carriedBy_isSome_getD])

theorem exec_imgChunk (s : State) (via : Option (Fin 16)) (chan : Fin 16) :
    exec (.imgChunk via.isSome (via.getD chan)) s = .next (settle (s.fwServe via 0x52 FwReq.imgChunk)) :=
  next_settle_congr (by rw [carriedBy_isSome_getD])

section Images

variable {u : State} {r : FwReq} {x : ImgSession}

theorem imgQuery_eq : r.imgQuery u = u.answer r rsOk
    [(if u.recovery then 0 else u.get R.GLB_BOOT_STATUS_bank + 2 * b2n u.onTrial) + u.nv.bankState % 2 ^ 30 * 4,
     u.nv.rollback % 128 + ((u.img).map fun x => (x.bank + 1) * 2 ^ 8 + x.mid * 2 ^ 12).getD 0,
     hdrRelease u.nv.bankA.header, hdrRelease u.nv.bankB.header, ((u.img).map (·.next)).getD 0] := by
  unfold FwReq.imgQuery
  cases u.img <;> rfl

/-! IMG_BEGIN (R145, R146, R151) -/

theorem imgBars_other_session (himg : u.img = some x) (hm : x.mid ≠ r.mid) : r.imgBars u = rsBusy :=
  if_pos (by simp [himg, hm])

theorem imgBars_no_other_session (h : ∀ x, u.img = some x → x.mid = r.mid) :
    r.imgBars u = if u.runsBank (r.w 1) then rsBankActive else rsOk := by
  have hown : ¬(u.img.any fun x => x.mid != r.mid) = true := by simpa [Option.any_eq_true] using h
  exact if_neg hown

theorem imgBars_running_bank (h : ∀ x, u.img = some x → x.mid = r.mid) (hruns : u.runsBank (r.w 1) = true) :
    r.imgBars u = rsBankActive :=
  (imgBars_no_other_session h).trans (if_pos hruns)

theorem imgBars_ok (h : ∀ x, u.img = some x → x.mid = r.mid) (hruns : u.runsBank (r.w 1) = false) :
    r.imgBars u = rsOk :=
  (imgBars_no_other_session h).trans (if_neg (by simp [hruns]))

theorem imgBegin_barred {st : Nat} (h : r.imgBars u = st) (hst : st ≠ rsOk) : r.imgBegin u = u.answer r st := by
  subst h
  exact if_pos hst

theorem imgBegin_reads (h : r.imgBars u = rsOk) :
    r.imgBegin u = u.fwRead { req := r, part := .header } (r.w64 2) 256 :=
  if_neg (not_not.2 h)

/-- With no bar left an IMG_BEGIN is judged by its header (R146). -/
theorem imgBegun_unbarred (h : r.imgBars u = rsOk) (hdr : List Byte) :
    r.imgBegun hdr u =
      if u.nv.headerStatus hdr ≠ rsOk then u.answer r (u.nv.headerStatus hdr) else r.imgOpen (r.w 1) hdr u := by
  unfold FwReq.imgBegun
  rw [if_neg (not_not.2 h)]

/-! The session of a command (R145) -/

theorem sessionStatus_none (mid b : Nat) (h : u.img = none) : u.sessionStatus mid b = rsNoSession := by
  unfold State.sessionStatus
  rw [h]

theorem sessionStatus_other_mid {mid : Nat} (b : Nat) (himg : u.img = some x) (hm : x.mid ≠ mid) :
    u.sessionStatus mid b = rsBusy := by
  unfold State.sessionStatus
  rw [himg]
  exact if_pos hm

theorem sessionStatus_other_bank {mid b : Nat} (himg : u.img = some x) (hm : x.mid = mid) (hb : x.bank ≠ b) :
    u.sessionStatus mid b = rsNoSession := by
  unfold State.sessionStatus
  rw [himg]
  exact (if_neg (not_not.2 hm)).trans (if_pos hb)

theorem sessionStatus_own {mid b : Nat} (himg : u.img = some x) (hm : x.mid = mid) (hb : x.bank = b) :
    u.sessionStatus mid b = rsOk := by
  unfold State.sessionStatus
  rw [himg]
  exact (if_neg (not_not.2 hm)).trans (if_neg (not_not.2 hb))

/-! IMG_CHUNK (R147) -/

theorem chunkBars_session {st : Nat} (h : u.sessionStatus r.mid (r.w 1) = st) (hst : st ≠ rsOk) :
    r.chunkBars u = st := by
  subst h
  exact if_pos hst

/-- In its own session a chunk is judged by its table's address, then by the rules of R147. -/
theorem chunkBars_own (himg : u.img = some x) (h : u.sessionStatus r.mid (r.w 1) = rsOk) :
    r.chunkBars u =
      if r.w64 4 % 16 ≠ 0 then rsBadArg else if !x.chunkOk (r.w 2) (r.w 3) then rsOffset else rsOk := by
  unfold FwReq.chunkBars
  rw [if_neg (not_not.2 h), himg, Option.any_some]

section Own

variable (himg : u.img = some x) (h : u.sessionStatus r.mid (r.w 1) = rsOk)
include himg h

theorem chunkBars_misaligned_table (ha : r.w64 4 % 16 ≠ 0) : r.chunkBars u = rsBadArg :=
  (chunkBars_own himg h).trans (if_pos ha)

theorem chunkBars_wrong_chunk (ha : r.w64 4 % 16 = 0) (hbad : x.chunkOk (r.w 2) (r.w 3) = false) :
    r.chunkBars u = rsOffset := by
  rw [chunkBars_own himg h, if_neg (not_not.2 ha), if_pos (by simp [hbad])]

theorem chunkBars_ok (ha : r.w64 4 % 16 = 0) (hok : x.chunkOk (r.w 2) (r.w 3) = true) : r.chunkBars u = rsOk := by
  rw [chunkBars_own himg h, if_neg (not_not.2 ha), if_neg (by simp [hok])]

end Own

theorem imgChunk_barred {st : Nat} (h : r.chunkBars u = st) (hst : st ≠ rsOk) : r.imgChunk u = u.answer r st := by
  subst h
  exact if_pos hst

theorem imgChunk_reads (h : r.chunkBars u = rsOk) : r.imgChunk u = u.fwTables r (r.w 3) (r.w64 4) :=
  if_neg (not_not.2 h)

theorem bank_setBank_same (n : Nv) (b : Nat) (k : FlashBank) : (n.setBank b k).bank b = k := by
  unfold Nv.setBank Nv.bank
  split_ifs <;> rfl

/-- The state with a chunk of the session `x` written, after the flash has taken it. -/
def chunkWritten (v : State) (r : FwReq) (x : ImgSession) (d : List Byte) : State :=
  let k := v.nv.bank (r.w 1)
  { v with nv := v.nv.setBank (r.w 1) { k with body := fit (r.w 2) k.body ++ d }
           img := some { x with next := r.w 2 + r.w 3 } }

theorem chunkWritten_body (v : State) (d : List Byte) :
    ((chunkWritten v r x d).nv.bank (r.w 1)).body = fit (r.w 2) (v.nv.bank (r.w 1)).body ++ d :=
  congrArg FlashBank.body (bank_setBank_same ..)

/-- A chunk that nothing bars goes to the flash, and is answered by the flash's outcome. -/
theorem imgChunked_unbarred (himg : u.img = some x) (h : r.chunkBars u = rsOk) (d : List Byte) :
    let f := u.cpFlash (bankAddr (r.w 1) + 0x1000 + r.w 2)
    r.imgChunked d u =
      if !f.2 then f.1.answer r rsFlash else (chunkWritten f.1 r x d).answer r rsOk [r.w 2 + r.w 3] := by
  unfold FwReq.imgChunked
  rw [himg]
  exact if_neg (not_not.2 h)

/-! IMG_END (R147) -/

theorem imgEnd_no_session (h : u.img = none) : r.imgEnd u = u.answer r rsNoSession := by
  unfold FwReq.imgEnd
  rw [h]

theorem imgEnd_session {st : Nat} (himg : u.img = some x) (h : u.sessionStatus r.mid (r.w 1) = st) (hst : st ≠ rsOk) :
    r.imgEnd u = u.answer r st := by
  subst h
  unfold FwReq.imgEnd
  rw [himg]
  exact if_pos hst

section Own

variable (himg : u.img = some x) (h : u.sessionStatus r.mid (r.w 1) = rsOk)
include himg h

/-- In its own session an IMG_END is judged by what has come, then by its digest. -/
theorem imgEnd_own :
    r.imgEnd u =
      if x.next ≠ hdrBody x.header then u.answer r rsOffset
      else if sha256 ((u.nv.bank (r.w 1)).body.take x.next) ≠ (x.header.drop 0x20).take 32 then u.answer r rsDigest
      else r.imgStage x u := by
  unfold FwReq.imgEnd
  rw [himg]
  exact if_neg (not_not.2 h)

theorem imgEnd_early (hn : x.next ≠ hdrBody x.header) : r.imgEnd u = u.answer r rsOffset :=
  (imgEnd_own himg h).trans (if_pos hn)

variable (hn : x.next = hdrBody x.header)
include hn

theorem imgEnd_wrong_digest
    (hd : sha256 ((u.nv.bank (r.w 1)).body.take x.next) ≠ (x.header.drop 0x20).take 32) :
    r.imgEnd u = u.answer r rsDigest := by
  rw [imgEnd_own himg h, if_neg (not_not.2 hn), if_pos hd]

theorem imgEnd_right_digest
    (hd : sha256 ((u.nv.bank (r.w 1)).body.take x.next) = (x.header.drop 0x20).take 32) :
    r.imgEnd u = r.imgStage x u := by
  rw [imgEnd_own himg h, if_neg (not_not.2 hn), if_neg (not_not.2 hd)]

end Own

/-! IMG_ACTIVATE, IMG_RESTART, IMG_CONFIRM and IMG_REVERT (R144, R151, R153) -/

theorem img_isSome (h : u.img ≠ none) : u.img.isSome = true := Option.isSome_iff_ne_none.2 h

theorem imgActivate_in_session (h : u.img ≠ none) : r.imgActivate u = u.answer r rsState := if_pos (img_isSome h)

section NoSession

variable (himg : u.img = none)
include himg

theorem imgActivate_running_bank (hruns : u.runsBank (r.w 1) = true) : r.imgActivate u = u.answer r rsBankActive := by
  rw [FwReq.imgActivate, if_neg (by simp [himg]), if_pos hruns]

variable (hruns : u.runsBank (r.w 1) = false)
include hruns

theorem imgActivate_not_staged (hst : u.nv.boot.status (r.w 1) ≠ bsStaged) :
    r.imgActivate u = u.answer r rsState := by
  rw [FwReq.imgActivate, if_neg (by simp [himg]), if_neg (by simp [hruns]), if_pos hst]

/-- A staged bank becomes pending, and in recovery preferred too (R153). -/
theorem imgActivate_staged (hst : u.nv.boot.status (r.w 1) = bsStaged) :
    r.imgActivate u = r.imgRecord
      { u.nv.boot with pending := some (r.w 1), preferred := if u.recovery then r.w 1 else u.nv.boot.preferred } u := by
  rw [FwReq.imgActivate, if_neg (by simp [himg]), if_neg (by simp [hruns]), if_neg (not_not.2 hst)]
  cases u.recovery <;> rfl

end NoSession

theorem imgRestart_in_session (h : u.img ≠ none) : r.imgRestart u = u.answer r rsState := if_pos (img_isSome h)

theorem imgRestart_member (himg : u.img = none) (h : u.member = true) : r.imgRestart u = u.answer r rsPaired := by
  rw [FwReq.imgRestart, if_neg (by simp [himg]), if_pos h]

theorem imgRestart_resets (himg : u.img = none) (h : u.member = false) :
    let t := u.answer r rsOk
    r.imgRestart u =
      (if t.sequences then t.ldgSealReq else t).askReset { cause := 2, switch := true, mid := 2 } := by
  rw [FwReq.imgRestart, if_neg (by simp [himg]), if_neg (by simp [h])]
  rfl

theorem imgConfirm_refused (h : u.img ≠ none ∨ u.onTrial = false ∨ u.runsBank (r.w 1) = false) :
    r.imgConfirm u = u.answer r rsState :=
  if_pos (by rcases h with h | h | h <;> simp [h, Option.isSome_iff_ne_none])

theorem imgConfirm_judged (himg : u.img = none) (htrial : u.onTrial = true) (hruns : u.runsBank (r.w 1) = true) :
    let w := u.recWrite { (u.nv.boot.setStatus (r.w 1) bsConfirmed) with preferred := r.w 1, trial := none }
    r.imgConfirm u = if w.2 then (w.1.put R.GLB_BOOT_STATUS_trial 0).answer r rsOk else w.1.answer r rsFlash :=
  if_neg (by simp [himg, htrial, hruns])

theorem imgRevert_in_session (h : u.img ≠ none) : r.imgRevert u = u.answer r rsState := if_pos (img_isSome h)

theorem imgRevert_member (himg : u.img = none) (h : u.member = true) : r.imgRevert u = u.answer r rsPaired := by
  rw [FwReq.imgRevert, if_neg (by simp [himg]), if_pos h]

theorem imgRevert_no_trial (himg : u.img = none) (hm : u.member = false) (htrial : u.onTrial = false) :
    r.imgRevert u = u.answer r rsState := by
  rw [FwReq.imgRevert, if_neg (by simp [himg]), if_neg (by simp [hm]), if_pos (by simp [htrial])]

theorem imgRevert_judged (himg : u.img = none) (hm : u.member = false) (htrial : u.onTrial = true) :
    let w := u.recWrite { (u.nv.boot.setStatus (u.get R.GLB_BOOT_STATUS_bank) bsBad) with trial := none }
    r.imgRevert u =
      if !w.2 then w.1.answer r rsFlash
      else ((w.1.put R.GLB_BOOT_STATUS_trial 0).answer r rsOk).askReset { cause := 2, mid := 2 } := by
  rw [FwReq.imgRevert, if_neg (by simp [himg]), if_neg (by simp [hm]), if_neg (by simp [htrial])]
  rfl

end Images

/-- Settles O43: at its turn each command does what its own definition says, by the session, the bank, its operands and
the outcome of the flash. -/
theorem imagesReplaced : Obligations.ImagesReplaced := by
  intro s u via chan r mail c
  refine ⟨fun h => exec_at_turn h rfl imgQuery_eq, ?imgBegin, ?imgBegun, ?imgChunk, ?imgChunked, ?imgEnd, ?imgActivate,
    ?imgRestart, ?imgConfirm, ?imgRevert, rfl⟩
  case imgBegin =>
    intro h
    have barred {st : Nat} (hst : r.imgBars u = st) (hne : st ≠ rsOk) :=
      exec_at_turn h (exec_imgBegin s via chan) (imgBegin_barred hst hne)
    exact ⟨fun _ himg hm => barred (imgBars_other_session himg hm) (by decide), fun hown =>
      ⟨fun hruns => barred (imgBars_running_bank hown hruns) (by decide),
        fun hruns => exec_at_turn h (exec_imgBegin s via chan) (imgBegin_reads (imgBars_ok hown hruns))⟩⟩
  case imgBegun =>
    intro hown hruns hdr
    have hbegun := imgBegun_unbarred (imgBars_ok hown hruns) hdr
    exact ⟨fun hbad => hbegun.trans (if_pos hbad), fun hgood => hbegun.trans (if_neg (not_not.2 hgood))⟩
  case imgChunk =>
    intro h
    have barred {st : Nat} (hst : r.chunkBars u = st) (hne : st ≠ rsOk) :=
      exec_at_turn h (exec_imgChunk s via chan) (imgChunk_barred hst hne)
    have noSession {st : Nat} (hst : u.sessionStatus r.mid (r.w 1) = st) (hne : st ≠ rsOk) :=
      barred (chunkBars_session hst hne) hne
    refine ⟨fun hnone => noSession (sessionStatus_none _ _ hnone) (by decide), fun x himg =>
      ⟨fun hm => noSession (sessionStatus_other_mid _ himg hm) (by decide),
        fun hm hb => noSession (sessionStatus_other_bank himg hm hb) (by decide), fun hm hb => ?_⟩⟩
    have hown := sessionStatus_own himg hm hb
    exact ⟨fun ha => barred (chunkBars_misaligned_table himg hown ha) (by decide),
      fun ha hbad => barred (chunkBars_wrong_chunk himg hown ha hbad) (by decide),
      fun ha hok => exec_at_turn h (exec_imgChunk s via chan) (imgChunk_reads (chunkBars_ok himg hown ha hok))⟩
  case imgChunked =>
    intro x d himg hm hb ha hok
    have hchunked := imgChunked_unbarred himg (chunkBars_ok himg (sessionStatus_own himg hm hb) ha hok) d
    refine ⟨fun hf => hchunked.trans (if_pos (by simp [hf])),
      fun hf => ⟨_, hchunked.trans (if_neg (by simp [hf])), rfl, ?_⟩⟩
    rw [hb]
    exact chunkWritten_body _ d
  case imgEnd =>
    intro h
    have ends {t : State} (ht : r.imgEnd u = t) : exec (.imgEnd via) s = .next (settle t) := exec_at_turn h rfl ht
    refine ⟨fun hnone => ends (imgEnd_no_session hnone), fun x himg =>
      ⟨fun hm => ends (imgEnd_session himg (sessionStatus_other_mid _ himg hm) (by decide)),
        fun hm hb => ends (imgEnd_session himg (sessionStatus_other_bank himg hm hb) (by decide)), fun hm hb => ?_⟩⟩
    have hown := sessionStatus_own himg hm hb
    exact ⟨fun hn => ends (imgEnd_early himg hown hn), fun hn hd => ends (imgEnd_wrong_digest himg hown hn hd),
      fun hn hd => ends (imgEnd_right_digest himg hown hn hd)⟩
  case imgActivate =>
    intro h
    have ends {t : State} (ht : r.imgActivate u = t) : exec (.imgActivate via) s = .next (settle t) :=
      exec_at_turn h rfl ht
    exact ⟨fun himg => ends (imgActivate_in_session himg),
      fun himg hruns => ends (imgActivate_running_bank himg hruns),
      fun himg hruns => ⟨fun hst => ends (imgActivate_staged himg hruns hst),
        fun hst => ends (imgActivate_not_staged himg hruns hst)⟩⟩
  case imgRestart =>
    intro h
    have ends {t : State} (ht : r.imgRestart u = t) : exec (.imgRestart via) s = .next (settle t) :=
      exec_at_turn h rfl ht
    exact ⟨fun himg => ends (imgRestart_in_session himg), fun himg hm => ends (imgRestart_member himg hm),
      fun himg hm => ends (imgRestart_resets himg hm)⟩
  case imgConfirm =>
    intro h
    have ends {t : State} (ht : r.imgConfirm u = t) : exec (.imgConfirm via) s = .next (settle t) :=
      exec_at_turn h rfl ht
    refine ⟨fun hbad => ends (imgConfirm_refused hbad), fun himg htrial hruns => ?_⟩
    have hjudged := imgConfirm_judged himg htrial hruns
    exact ⟨fun hf => ends (hjudged.trans (if_pos hf)), fun hf => ends (hjudged.trans (if_neg (by simp [hf])))⟩
  case imgRevert =>
    intro h
    have ends {t : State} (ht : r.imgRevert u = t) : exec (.imgRevert via) s = .next (settle t) :=
      exec_at_turn h rfl ht
    refine ⟨fun himg => ends (imgRevert_in_session himg), fun himg hm => ends (imgRevert_member himg hm),
      fun himg hm htrial => ends (imgRevert_no_trial himg hm htrial), fun himg hm htrial => ?_⟩
    have hjudged : r.imgRevert u = _ := imgRevert_judged himg hm htrial
    exact ⟨fun hf => ends (hjudged.trans (if_neg (by simp [hf]))),
      fun hf => ends (hjudged.trans (if_pos (by simp [hf])))⟩

end Sys2Proof.Machine

end

section

namespace Sys2Proof.Machine

/-! ### Keychain frames (O1, O2, O3) -/

/-! What a frame that passes the unit leaves unchanged -/

/-- A frame that passes the unit changes nothing but what has left. -/
theorem kcHeard_congr {α : Type} (g : State → α) (hg : ∀ (t : State) (l : List Out), g { t with out := l } = g t)
    (s : State) (w : KcIn) : g (kcHeard s w) = g s := by
  unfold kcHeard
  split
  · exact hg _ _
  · rfl

@[simp] theorem kcHeard_get (s : State) (w : KcIn) (f : Fld) : (kcHeard s w).get f = s.get f :=
  kcHeard_congr (·.get f) (fun _ _ => rfl) s w

@[simp] theorem kcHeard_window (s : State) (w : KcIn) : (kcHeard s w).window = s.window :=
  kcHeard_congr (·.window) (fun _ _ => rfl) s w

@[simp] theorem kcHeard_failing (s : State) (w : KcIn) : (kcHeard s w).failing = s.failing :=
  kcHeard_congr (·.failing) (fun _ _ => rfl) s w

@[simp] theorem kcHeard_rollCall (s : State) (w : KcIn) : (kcHeard s w).rollCall = s.rollCall :=
  kcHeard_congr (·.rollCall) (fun _ _ => rfl) s w

@[simp] theorem kcHeard_kread (s : State) (w : KcIn) (i : Nat) : (kcHeard s w).kread i = s.kread i :=
  kcHeard_congr (·.kread i) (fun _ _ => rfl) s w

@[simp] theorem kcHeard_kid (s : State) (w : KcIn) : (kcHeard s w).kid = s.kid :=
  kcHeard_congr (·.kid) (fun _ _ => rfl) s w

@[simp] theorem kcHeard_winBlocked (s : State) (w : KcIn) (result : Bool) :
    (kcHeard s w).winBlocked result = s.winBlocked result :=
  kcHeard_congr (·.winBlocked result) (fun _ _ => rfl) s w

theorem kcPass_eq (s : State) (w : KcIn) : s.kcPass (lsbBits 48 w.frame.toNat) = kcHeard s w := rfl

theorem kcRelay_eq (u : State) (gate : Bool) (w : KcIn) : u.kcRelay gate w = kcRelayed u w gate := by
  unfold State.kcRelay kcRelayed
  cases gate <;> cases w.below <;> rfl

/-! Which of its ways a frame takes (R167–R175) -/

section Frame

variable {s : State} {w : KcIn} {cmd : Nat → Bool} {mine : KcFrame → Bool} {go : State → KcFrame → KcAct}

theorem kcFrame_bad_check (hp : s.phase ≠ .held) (hok : kcCheckOk w = false) :
    s.kcFrame w cmd mine go = (kcHeard s w).kcDiscard.kcRelay (s.on R.CHN_KC_STATUS_gate_open) w := by
  simp [State.kcFrame, hp, hok, kcPass_eq]

variable (hp : s.phase ≠ .held) (hok : kcCheckOk w = true) (hcmd : cmd (kcParse w).cmd = true)
  (hcast : (kcParse w).bcast = true → kcMayCast (kcParse w).cmd = true)

include hp hok hcmd hcast

/-- A frame that is checked, of the command and allowed as a broadcast is heard, and goes on by whose it is. -/
theorem kcFrame_heard : s.kcFrame w cmd mine go =
    if mine (kcParse w) = false then kcRelayed (kcHeard s w) w (s.on R.CHN_KC_STATUS_gate_open)
    else if (kcParse w).cmd < 12 ∧ (kcParse w).argOk = false then
      if (kcParse w).bcast then kcRelayed (kcHeard s w) w (s.on R.CHN_KC_STATUS_gate_open)
      else kcAnswered (kcHeard s w) w (if (kcParse w).cmd = 1 then 0 else s.addr) 0 ksBadArg
    else (go (kcHeard s w) (kcParse w)).close (s.on R.CHN_KC_STATUS_gate_open) s.addr w := by
  have hcast' : ((kcParse w).bcast && !kcMayCast (kcParse w).cmd) = false := by
    cases hb : (kcParse w).bcast with
    | false => rfl
    | true => simp [hcast hb]
  have haddr : (kcHeard s w).addr = s.addr := kcHeard_get s w _
  simp [State.kcFrame, hp, hok, hcmd, hcast', kcPass_eq, kcRelay_eq, haddr]
  rfl

theorem kcFrame_not_mine (hmine : mine (kcParse w) = false) :
    s.kcFrame w cmd mine go = kcRelayed (kcHeard s w) w (s.on R.CHN_KC_STATUS_gate_open) := by
  rw [kcFrame_heard hp hok hcmd hcast, if_pos hmine]

theorem kcFrame_bad_arg (hmine : mine (kcParse w) = true) (hk : (kcParse w).cmd < 12) (h1 : (kcParse w).cmd ≠ 1)
    (harg : (kcParse w).argOk = false) (hb : (kcParse w).bcast = false) :
    s.kcFrame w cmd mine go = kcAnswered (kcHeard s w) w s.addr 0 ksBadArg := by
  rw [kcFrame_heard hp hok hcmd hcast, if_neg (by simp [hmine]), if_pos ⟨hk, harg⟩, if_neg h1]
  simp [hb]

theorem kcFrame_acts (hmine : mine (kcParse w) = true) (harg : (kcParse w).cmd < 12 → (kcParse w).argOk = true) :
    s.kcFrame w cmd mine go =
      (go (kcHeard s w) (kcParse w)).close (s.on R.CHN_KC_STATUS_gate_open) s.addr w := by
  have hno : ¬ ((kcParse w).cmd < 12 ∧ (kcParse w).argOk = false) := fun ⟨hk, hbad⟩ => by simp [harg hk] at hbad
  rw [kcFrame_heard hp hok hcmd hcast, if_neg (by simp [hmine]), if_neg hno]

end Frame

/-- A frame acted on is counted and answered (R171, R174). -/
theorem close_acted (s t : State) (w : KcIn) (addr status data : Nat) :
    KcAct.close { s := t, status, data } (s.on R.CHN_KC_STATUS_gate_open) addr w =
      kcDone s t w (if (kcParse w).cmd = 1 then 0 else addr) data status := by
  simp only [KcAct.close, kcDone, kcRelay_eq, if_true]
  rfl

theorem close_refused {w : KcIn} (hb : (kcParse w).bcast = false) (t : State) (gate : Bool) (addr status : Nat) :
    KcAct.close { s := t, acted := false, status } gate addr w =
      kcAnswered t w (if (kcParse w).cmd = 1 then 0 else addr) 0 status := by
  simp only [KcAct.close, hb, Bool.false_eq_true, if_false]
  rfl

section Takes

variable {s : State} {w : KcIn} {k : Nat} (h : KcTakes s w k) {cmd : Nat → Bool} (hcmd : cmd k = true)
  {go : State → KcFrame → KcAct}

include h

theorem KcTakes.not_cast (hk : kcMayCast k = false) : (kcParse w).bcast = false := by
  obtain ⟨-, -, -, -, -, hcast⟩ := h
  cases hb : (kcParse w).bcast with
  | false => rfl
  | true => simp [hk] at hcast; simp [hcast] at hb

include hcmd

theorem KcTakes.close : s.kcFrame w cmd s.kcMine go =
    (go (kcHeard s w) (kcParse w)).close (s.on R.CHN_KC_STATUS_gate_open) s.addr w := by
  obtain ⟨hp, hok, rfl, hmine, harg, hcast⟩ := h
  exact kcFrame_acts hp hok hcmd hcast hmine harg

/-- A frame that the unit takes and acts on. -/
theorem KcTakes.acts (h1 : k ≠ 1) {t : State} {status data : Nat}
    (hgo : go (kcHeard s w) (kcParse w) = { s := t, status, data }) :
    s.kcFrame w cmd s.kcMine go = kcDone s t w s.addr data status := by
  have hk : (kcParse w).cmd ≠ 1 := by
    obtain ⟨-, -, rfl, -⟩ := h
    exact h1
  rw [h.close hcmd, hgo, close_acted, if_neg hk]

/-- A frame that the unit takes and does not carry out. -/
theorem KcTakes.refuses (h1 : k ≠ 1) (hb : (kcParse w).bcast = false) {t : State} {status : Nat}
    (hgo : go (kcHeard s w) (kcParse w) = { s := t, acted := false, status }) :
    s.kcFrame w cmd s.kcMine go = kcAnswered t w s.addr 0 status := by
  have hk : (kcParse w).cmd ≠ 1 := by
    obtain ⟨-, -, rfl, -⟩ := h
    exact h1
  rw [h.close hcmd, hgo, close_refused hb, if_neg hk]

end Takes

/-! Frames discarded (O1) -/

/-- The commands that a frame can carry. -/
def keychainCommands (w : KcIn) : List Instr :=
  [.kcNop w, .assign w, .rollCall w, .kread w, .attnCtl w, .unitReset w, .keychainPwrSet w, .unassign w, .winAddr w,
    .winWdata w, .winRead w, .winResult w, .keychainReservedCmd w]

theorem exec_keychainCommand (s : State) {w : KcIn} {c : Instr} (hc : c ∈ keychainCommands w) :
    ∃ cmd mine go, exec c s = .next (settle (s.kcFrame w cmd mine go)) := by
  simp only [keychainCommands, List.mem_cons, List.not_mem_nil, or_false] at hc
  rcases hc with rfl | rfl | rfl | rfl | rfl | rfl | rfl | rfl | rfl | rfl | rfl | rfl | rfl <;> exact ⟨_, _, _, rfl⟩

theorem exec_keychainFrameBad {s : State} (hp : s.phase ≠ .held) :
    exec .keychainFrameBad s = .next (settle s.kcBadFrame) := next_settle_congr (if_neg hp)

theorem kcUpstream_eq (w : KcIn) (l : List Bool) : kcUpstream w l = (w.cut.map fun n => l.take n).getD l := by
  unfold kcUpstream
  cases w.cut <;> rfl

/-- What the lands bring passes the unit and is discarded, by the gate (R164, R166, R169). -/
theorem kcDiscard_passed (u : State) (x : KcLine) :
    (u.kcPass x.bits).kcDiscard.kcRelay (u.on R.CHN_KC_STATUS_gate_open)
        { frame := 0, below := x.below, cut := x.cut } =
      (let v := (u.count R.CHN_KC_FRAMES_discarded).fault { src := 6 }
       if u.on R.CHN_KC_STATUS_gate_open then
         { v with
           out := u.out ++ .keychainOn x.bits ::
             if x.below = [] then [] else [.keychain ((x.cut.map fun n => x.below.take n).getD x.below)] }
       else v) := by
  obtain ⟨bs, below, cut⟩ := x
  cases hg : u.on R.CHN_KC_STATUS_gate_open with
  | false => simp [State.kcPass, kcRelay_eq, kcRelayed, State.kcDiscard, hg]
  | true =>
    cases below with
    | nil =>
      simp only [State.kcPass, kcRelay_eq, kcRelayed, State.kcDiscard, hg]
      rfl
    | cons b r =>
      simp [State.kcPass, kcRelay_eq, kcRelayed, State.kcDiscard, hg, kcUpstream_eq]
      rfl

/-- A frame with a wrong check byte takes the way of a bad frame with its bits. -/
theorem kcFrame_eq_kcBadFrame {s : State} {w : KcIn} {cmd : Nat → Bool} {mine : KcFrame → Bool}
    {go : State → KcFrame → KcAct} (hp : s.phase ≠ .held) (hok : kcCheckOk w = false) :
    s.kcFrame w cmd mine go = State.kcBadFrame
      { s with kcLines := { bits := lsbBits 48 w.frame.toNat, below := w.below, cut := w.cut } :: s.kcLines } :=
  kcFrame_bad_check hp hok

/-- Settles O1: a frame of any command with a wrong check byte takes the way of KEYCHAIN_FRAME_BAD. -/
theorem keychainBadFrameDiscarded : Obligations.KeychainBadFrameDiscarded := by
  intro s hp
  have hbad (l : List KcLine) : exec .keychainFrameBad { s with kcLines := l } =
      .next (settle (State.kcBadFrame { s with kcLines := l })) := exec_keychainFrameBad hp
  refine ⟨(hbad s.kcLines).trans
    (next_settle_congr (kcDiscard_passed { s with kcLines := s.kcLines.tail } _)), fun w hok c hc => ?_⟩
  obtain ⟨cmd, mine, go, hexec⟩ := exec_keychainCommand s hc
  exact hexec.trans ((next_settle_congr (kcFrame_eq_kcBadFrame hp hok)).trans (hbad _).symm)

/-! Reads, and frames not acted on (O2) -/

/-- The commands that an assigned unit carries out when they address it, each with its code (R173). -/
def addressedCommands (w : KcIn) : List (Instr × Nat) :=
  [(.rollCall w, 2), (.kread w, 3), (.attnCtl w, 4), (.unitReset w, 5), (.keychainPwrSet w, 6), (.unassign w, 7),
    (.winAddr w, 8), (.winWdata w, 9), (.winRead w, 10), (.winResult w, 11)]

theorem exec_addressedCommand (s : State) {w : KcIn} {x : Instr × Nat} (hx : x ∈ addressedCommands w) :
    ∃ cmd go, exec x.1 s = .next (settle (s.kcFrame w cmd s.kcMine go)) ∧ cmd x.2 = true ∧ x.2 ≠ 1 ∧ x.2 < 12 := by
  simp only [addressedCommands, List.mem_cons, List.not_mem_nil, or_false] at hx
  rcases hx with rfl | rfl | rfl | rfl | rfl | rfl | rfl | rfl | rfl | rfl <;>
    exact ⟨_, _, rfl, rfl, by simp, by simp⟩

/-- A NOP is not answered, whoever it addresses, where its argument is 0 (R173). -/
theorem KcTakes.nop {s : State} {w : KcIn} (h : KcTakes s w 0) :
    exec (.kcNop w) s = .next (settle (kcRelayed (kcHeard s w) w (s.on R.CHN_KC_STATUS_gate_open))) := by
  obtain ⟨hp, hok, hk, -, harg, hcast⟩ := h
  exact next_settle_congr (kcFrame_not_mine hp hok (by simp [hk]) (by simpa [hk] using hcast) (by simp [harg]))

/-- Settles O2: a command that the unit takes by what it carries out, and one that it does not by the reason. -/
theorem keychainReadsAnswered : Obligations.KeychainReadsAnswered := by
  intro s w gate hgate
  subst hgate
  refine ⟨KcTakes.nop, fun h => next_settle_congr (h.acts rfl (by decide) ?_),
    fun h => next_settle_congr (h.acts rfl (by decide) ?_), fun k hk h => ?_, fun hp hok hb x hx hcmd => ?_⟩
  · simp
  · simp
  · have hnocast : kcMayCast k = false := by simp [kcMayCast]; omega
    exact next_settle_congr (h.refuses (by simpa using hk) (by omega) (h.not_cast hnocast) rfl)
  · obtain ⟨cmd, go, hexec, hx2, h1, h12⟩ := exec_addressedCommand s hx
    have hcmd' : cmd (kcParse w).cmd = true := hcmd ▸ hx2
    have hcast : (kcParse w).bcast = true → kcMayCast (kcParse w).cmd = true := by simp [hb]
    exact ⟨fun hmine => hexec.trans (next_settle_congr (kcFrame_not_mine hp hok hcmd' hcast hmine)),
      fun hmine harg => hexec.trans
        (next_settle_congr (kcFrame_bad_arg hp hok hcmd' hcast hmine (hcmd ▸ h12) (hcmd ▸ h1) harg hb))⟩

/-! Commands that act (O3) -/

theorem kcUnlessFailing_acts {s : State} (h : s.failing = false) (go : State → State) :
    s.kcUnlessFailing go = { s := go s } := if_neg (by simp [h])

theorem kcUnlessFailing_refuses {s : State} (h : s.failing = true) (go : State → State) :
    s.kcUnlessFailing go = { s := s, acted := false, status := ksNotReady } := if_pos h

theorem winDo_acts {s : State} {result : Bool} (h : s.winBlocked result = none) (go : State → KcAct) :
    s.winDo result go = go s := by
  rw [State.winDo, h]

theorem winDo_refuses {s : State} {result : Bool} {st : Nat} (h : s.winBlocked result = some st)
    (go : State → KcAct) : s.winDo result go = { s := s, acted := false, status := st } := by
  rw [State.winDo, h]

/-- WIN_RESULT leaves the state, and answers by the window's state (R194). -/
theorem winResult_eq (s : State) (half : Nat) : s.winResult half =
    { s := s
      status := if s.window.st = .pending then ksPending else if s.window.st = .error then ksError else 0
      data := if s.window.st = .pending ∨ s.window.st = .error ∨ s.window.write = true then 0
        else bits s.window.result (16 * half) 16 } := by
  cases hst : s.window.st <;> simp [State.winResult, hst]

theorem unassign_assigned (s : State) : s.unassign.assigned = false := by
  have hcold : s.unassign.get R.CHN_KC_STATUS_assigned = 0 := by
    simp only [State.unassign, State.cold, List.foldl_cons, List.foldl_nil]
    rw [State.get_put_other _ _ (by decide), State.get_put_other _ _ (by decide), State.get_put_same]
    rfl
  simp [State.assigned, State.on, hcold]

/-- ASSIGN is taken by a unit that has no address, and answered with address 0 (R171, R187). -/
theorem exec_assign_taken {s : State} {w : KcIn} (hp : s.phase ≠ .held) (hok : kcCheckOk w = true)
    (hk : (kcParse w).cmd = 1) (hb : (kcParse w).bcast = false) (ha : s.assigned = false)
    (harg : (kcParse w).argOk = true) : exec (.assign w) s =
      .next (settle (kcDone s ((kcHeard s w).assign (kcParse w).addr) w 0 s.kid 0)) := by
  refine next_settle_congr ?_
  rw [kcFrame_acts hp hok (by simp [hk]) (by simp [hb]) (by simp [ha]) fun _ => harg, close_acted, if_pos hk,
    kcHeard_kid]

theorem exec_assign_passed {s : State} {w : KcIn} (hp : s.phase ≠ .held) (hok : kcCheckOk w = true)
    (hk : (kcParse w).cmd = 1) (hb : (kcParse w).bcast = false) (ha : s.assigned = true) : exec (.assign w) s =
      .next (settle (kcRelayed (kcHeard s w) w (s.on R.CHN_KC_STATUS_gate_open))) :=
  next_settle_congr (kcFrame_not_mine hp hok (by simp [hk]) (by simp [hb]) (by simp [ha]))

section TakesWindow

variable {s : State} {w : KcIn} {k : Nat} (h : KcTakes s w k) {cmd : Nat → Bool} (hcmd : cmd k = true) (h1 : k ≠ 1)
  {result : Bool} {go : KcFrame → State → KcAct}

include h hcmd h1

theorem KcTakes.window_acts (hn : s.winBlocked result = none) {t : State} {status data : Nat}
    (hgo : go (kcParse w) (kcHeard s w) = { s := t, status, data }) :
    s.kcFrame w cmd s.kcMine (fun t x => t.winDo result (go x)) = kcDone s t w s.addr data status :=
  h.acts hcmd h1 ((winDo_acts ((kcHeard_winBlocked s w result).trans hn) _).trans hgo)

theorem KcTakes.window_refuses (hk : kcMayCast k = false) {st : Nat} (hst : s.winBlocked result = some st) :
    s.kcFrame w cmd s.kcMine (fun t x => t.winDo result (go x)) = kcAnswered (kcHeard s w) w s.addr 0 st :=
  h.refuses hcmd h1 (h.not_cast hk) (winDo_refuses ((kcHeard_winBlocked s w result).trans hst) _)

end TakesWindow

/-- Settles O3: each command by what it carries out, or by the reason that it is not. -/
theorem keychainCommandsAct : Obligations.KeychainCommandsAct := by
  intro s w a ha
  subst ha
  have hfail {b : Bool} (h : s.failing = b) : (kcHeard s w).failing = b := (kcHeard_failing s w).trans h
  refine ⟨fun h => next_settle_congr (h.acts rfl (by decide) ?_),
    fun h => ⟨fun hf => next_settle_congr (h.acts rfl (by decide) (kcUnlessFailing_acts (hfail hf) _)),
      fun hf hb => next_settle_congr (h.refuses rfl (by decide) hb (kcUnlessFailing_refuses (hfail hf) _))⟩,
    fun h => ⟨fun hf => next_settle_congr (h.acts rfl (by decide) (kcUnlessFailing_acts (hfail hf) _)),
      fun hf hb => next_settle_congr (h.refuses rfl (by decide) hb (kcUnlessFailing_refuses (hfail hf) _))⟩,
    fun h => ⟨next_settle_congr (h.acts rfl (by decide) rfl), unassign_assigned _⟩,
    fun hp hok hk hb => ⟨exec_assign_taken hp hok hk hb, exec_assign_passed hp hok hk hb⟩,
    fun h hn => next_settle_congr (h.window_acts rfl (by decide) hn ?_),
    fun h hn => ⟨fun hl => next_settle_congr (h.window_acts rfl (by decide) hn ?_),
      fun hh => next_settle_congr (h.window_acts rfl (by decide) hn ?_)⟩,
    fun h hn => next_settle_congr (h.window_acts rfl (by decide) hn ?_),
    fun h hn => next_settle_congr (h.window_acts rfl (by decide) hn ?_),
    fun st => ⟨fun h hb => next_settle_congr (h.window_refuses rfl (by decide) rfl hb),
      fun h hb => next_settle_congr (h.window_refuses rfl (by decide) rfl hb),
      fun h hb => next_settle_congr (h.window_refuses rfl (by decide) rfl hb),
      fun h hb => next_settle_congr (h.window_refuses rfl (by decide) rfl hb)⟩⟩
  · simp [State.attnCtl]
  · simp [State.setWindow]
  · simp [State.winData, State.setWindow, hl]
  · simp [State.winData, State.setWindow, hh]
  · simp [State.setWindow]
  · rw [winResult_eq, kcHeard_window]

end Sys2Proof.Machine

end

section

namespace Sys2Proof.Machine

/-! ### Far requests and the Keychain window (O11) -/

/-! Broadcasts and link-local flits accepted or left alone (R199) -/

section Received

variable {s : State} {p : Nat} {f : FlitIn}

theorem broadcast_expected (h : s.expects p f = true) (hb : f.bcast = true) (type : Nat) (c : FClass)
    (k : State → State) : s.broadcast p type c f k = k ((s.accept p c f).relay p type f) := if_pos (by simp [h, hb])

theorem broadcast_ignored (h : s.expects p f = false ∨ f.bcast = false) (type : Nat) (c : FClass)
    (k : State → State) : s.broadcast p type c f k = s := if_neg (by rcases h with h | h <;> simp [h])

theorem linkFlit_expected (h : s.expects p f = true) (hb : f.bcast = false) (k : State → State) :
    s.linkFlit p f k = k (s.accept p .lc f) := if_pos (by simp [h, hb])

theorem linkFlit_ignored (h : s.expects p f = false ∨ f.bcast = true) (k : State → State) : s.linkFlit p f k = s :=
  if_neg (by rcases h with h | h <;> simp [h])

theorem bcast_of_arrives (h : s.arrives p f = true) : f.bcast = false := by
  simp only [State.arrives, Bool.and_eq_true, Bool.not_eq_true'] at h
  obtain ⟨-, hb⟩ := h
  exact hb

end Received

/-! Requests served (R494, R500) -/

section Served

variable {a : State} {src : Nat} {pl : List Byte}

theorem serveRead_in_reset (h : a.inReset = true) (u : Bool) : a.serveRead src pl u = a.noRoute src 0x10 1 pl :=
  if_pos h

theorem serveRead_turned_away (h : a.inReset = false) {st : Nat} (hst : a.farStatus (reqOff pl) = some st) (u : Bool) :
    a.serveRead src pl u = a.farAnswer 0x18 src pl st (zeros 4) := by
  simp [State.serveRead, h, hst]

theorem serveRead_performed (h : a.inReset = false) (hst : a.farStatus (reqOff pl) = none) (u : Bool) :
    a.serveRead src pl u = (a.load { mid := 4, addr := src } (reqOff pl) .word u).1.farAnswer 0x18 src pl
      (if u then 3 else 0) (leBytes 4 (a.load { mid := 4, addr := src } (reqOff pl) .word u).2) := by
  simp [State.serveRead, h, hst]

theorem serveWrite_in_reset (h : a.inReset = true) : a.serveWrite src pl false = a.noRoute src 0x11 1 pl := if_pos h

theorem serveWrite_turned_away (h : a.inReset = false) {st : Nat} (hst : a.farStatus (reqOff pl) = some st) :
    a.serveWrite src pl false = a.farAnswer 0x19 src pl st [] := by
  simp [State.serveWrite, h, hst]

theorem serveWrite_performed (h : a.inReset = false) (hst : a.farStatus (reqOff pl) = none) :
    a.serveWrite src pl false =
      (a.save { mid := 4, addr := src } (reqOff pl) .word (fieldAt pl 8 4)).farAnswer 0x19 src pl 0 [] := by
  simp [State.serveWrite, h, hst]

theorem serveWrite_broadcast (h : a.inReset = false) (hst : a.farStatus (reqOff pl) = none) :
    a.serveWrite src pl true = a.save { mid := 4, addr := src } (reqOff pl) .word (fieldAt pl 8 4) := by
  simp [State.serveWrite, h, hst]

theorem serveWrite_broadcast_refused (h : a.inReset = true ∨ a.farStatus (reqOff pl) ≠ none) :
    a.serveWrite src pl true = a := by
  cases hr : a.inReset with
  | true => simp [State.serveWrite, hr]
  | false =>
    obtain ⟨st, hst⟩ := Option.ne_none_iff_exists'.1 (h.resolve_left (by simp [hr]))
    simp [State.serveWrite, hr, hst]

end Served

theorem exec_rdReq_arrives {s : State} {p : Fin 2} {f : FlitIn} (h : s.arrives p f = true) (u : Bool) {t : State}
    (ht : (s.accept p .req f).serveRead f.src.toNat f.payload u = t) : exec (.rdReq p f u) s = .next (settle t) :=
  next_settle_congr ((prgFlit_arrives h .req _).trans ht)

theorem exec_wrReq_addressed {s : State} {p : Fin 2} {f : FlitIn} (hb : f.bcast = false) : exec (.wrReq p f) s =
    .next (settle (s.prgFlit p .req f fun t => t.serveWrite f.src.toNat f.payload false)) :=
  next_settle_congr (if_neg (by simp [hb]))

theorem exec_wrReq_arrives {s : State} {p : Fin 2} {f : FlitIn} (h : s.arrives p f = true) {t : State}
    (ht : (s.accept p .req f).serveWrite f.src.toNat f.payload false = t) : exec (.wrReq p f) s = .next (settle t) :=
  (exec_wrReq_addressed (bcast_of_arrives h)).trans (next_settle_congr ((prgFlit_arrives h .req _).trans ht))

theorem exec_wrReq_broadcast {s : State} {p : Fin 2} {f : FlitIn} (hb : f.bcast = true) : exec (.wrReq p f) s =
    .next (settle (s.broadcast p 0x11 .req f fun t => if t.assigned then t.serveWrite f.src.toNat f.payload true
      else t)) :=
  next_settle_congr (if_pos hb)

theorem exec_wrReq_ignored {s : State} {p : Fin 2} {f : FlitIn} (h : s.arrives p f = false)
    (hb : f.bcast = false ∨ s.expects p f = false) : exec (.wrReq p f) s = .next (settle s) := by
  cases hc : f.bcast with
  | false => exact (exec_wrReq_addressed hc).trans (next_settle_congr (prgFlit_not_arrives h .req _))
  | true =>
    have he : s.expects p f = false := hb.resolve_left (by simp [hc])
    exact (exec_wrReq_broadcast hc).trans (next_settle_congr (broadcast_ignored (.inl he) _ _ _))

/-! The window (R194) -/

section Window

variable {s : State}

theorem windowDone_none (h : s.window.st ≠ .pending ∨ s.answers = false) : s.windowDone = s :=
  if_pos (by rcases h with h | h <;> simp [h])

/-- What a pending window access leaves and reads, as MID 0. -/
def State.windowAccess (s : State) : State × Nat :=
  if s.window.write then (s.save { mid := 0 } s.window.addr .word s.window.wdata, 0)
  else s.load { mid := 0 } s.window.addr .word false

variable (hp : s.window.st = .pending) (ha : s.answers = true)

include hp ha

theorem windowDone_pending : s.windowDone = { s.windowAccess.1 with
    window := { s.window with
      st := if s.refusedSince s.windowAccess.1 then .error else .done, result := s.windowAccess.2 } } :=
  if_neg (by simp [hp, ha])

/-- An access that hands nothing to the fault collector is not refused. -/
theorem windowDone_accepted (h : s.windowAccess.1.dueFaults = s.dueFaults) : s.windowDone =
    { s.windowAccess.1 with window := { s.window with st := .done, result := s.windowAccess.2 } } := by
  have hno : s.refusedSince s.windowAccess.1 = false := by simp [State.refusedSince, h]
  rw [windowDone_pending hp ha, hno]
  rfl

theorem windowDone_plain_read {r : RegAt} (hw : s.window.write = false) (hr : PlainAt s 0 s.window.addr r) :
    s.windowDone = { s with window := { s.window with st := .done, result := s.value 0 r } } := by
  have hacc : s.windowAccess = (s, s.value 0 r) :=
    (if_neg (by simp [hw])).trans (PlainAt.load (w := { mid := 0 }) hr false)
  rw [windowDone_accepted hp ha (by rw [hacc]), hacc]

theorem windowDone_plain_write {r : RegAt} (hw : s.window.write = true) (hr : PlainAt s 0 s.window.addr r) :
    s.windowDone = { s.writeFlds 0 (s.window.wdata % 2 ^ 32) r.flds with
      window := { s.window with st := .done, result := 0 } } := by
  have hacc : s.windowAccess = (s.writeFlds 0 (s.window.wdata % 2 ^ 32) r.flds, 0) :=
    (if_pos hw).trans (congrArg (·, 0) (PlainAt.save (w := { mid := 0 }) hr _))
  obtain ⟨hrec, -⟩ := s.writeFlds_only 0 (s.window.wdata % 2 ^ 32) r.flds
  rw [windowDone_accepted hp ha (by rw [hacc, hrec]), hacc]

end Window

/-- Settles O11: requests by whether they reach the unit, the window by whether an access is pending. -/
theorem farRequestsServed : Obligations.FarRequestsServed := by
  intro s
  refine ⟨fun p f u hf => ?_, fun p f u hf => ⟨next_settle_congr (prgFlit_not_arrives hf .req _),
      exec_wrReq_ignored hf⟩, fun p f he hb => ?_, fun h => next_settle_congr (windowDone_none h),
    fun hp ha => next_settle_congr (windowDone_pending hp ha),
    fun r hp ha hw hr => next_settle_congr (windowDone_plain_read hp ha hw hr), fun r hp ha hw hr => ?_⟩
  · exact ⟨fun hr hst => exec_rdReq_arrives hf u (serveRead_performed hr hst u),
      fun hr st hst => ⟨exec_rdReq_arrives hf u (serveRead_turned_away hr hst u),
        exec_wrReq_arrives hf (serveWrite_turned_away hr hst)⟩,
      fun hr hst => exec_wrReq_arrives hf (serveWrite_performed hr hst),
      fun hr => ⟨exec_rdReq_arrives hf u (serveRead_in_reset hr u), exec_wrReq_arrives hf (serveWrite_in_reset hr)⟩⟩
  · have hcast {t : State} (ht : (if ((s.accept p .req f).relay p 0x11 f).assigned then
        ((s.accept p .req f).relay p 0x11 f).serveWrite f.src.toNat f.payload true
        else (s.accept p .req f).relay p 0x11 f) = t) : exec (.wrReq p f) s = .next (settle t) :=
      (exec_wrReq_broadcast hb).trans (next_settle_congr ((broadcast_expected he hb _ _ _).trans ht))
    refine ⟨fun has hr hst => hcast ((if_pos has).trans (serveWrite_broadcast hr hst)), fun h => hcast ?_⟩
    rcases h with h | h
    · exact if_neg (by simp [h])
    · rw [serveWrite_broadcast_refused h, ite_self]
  · obtain ⟨hrec, hother⟩ := s.writeFlds_only 0 (s.window.wdata % 2 ^ 32) r.flds
    refine ⟨_, next_settle_congr (windowDone_plain_write hp ha hw hr), ⟨?_, hother⟩,
      s.writeFlds_written 0 (s.window.wdata % 2 ^ 32) hr.apart⟩
    rw [hrec]

end Sys2Proof.Machine

end

section

namespace Sys2Proof.Machine

/-! ### Flits received on a Pintle port (O48) -/

section Rejected

variable {s : State} {p : Nat} {r : RxFlit}

theorem expects_inactive (h : s.ptActive p = false) (f : FlitIn) : s.expects p f = false := by
  simp [State.expects, h]

theorem unsequenced_active (h : s.ptActive p = true) (f : FlitIn) (k : State → State) :
    s.unsequenced p f k = k (s.rxHeader p f) := if_pos h

theorem unsequenced_inactive (h : s.ptActive p = false) (f : FlitIn) (k : State → State) : s.unsequenced p f k = s :=
  if_neg (by simp [h])

/-! The reason for which a flit is not accepted (R203, R204, R206) -/

theorem rejects_none (hh : r.header = true) (h : r.type < 2 ∨ s.expects p r.fields = true) :
    s.rejects p r = none := by
  rcases h with h | h <;> simp [State.rejects, hh, h]

theorem rejects_bad_header (hh : r.header = false) :
    s.rejects p r = some (if r.uncorr then .codeword false else .header) := by
  simp [State.rejects, hh]

theorem rejects_unexpected (hh : r.header = true) (ht : 2 ≤ r.type) (he : s.expects p r.fields = false) :
    s.rejects p r = some (if r.uncorr then .codeword true else .sequence) := by
  cases hu : r.uncorr <;> simp [State.rejects, hh, he, hu] <;> omega

theorem rejects_uncorrectable (hu : r.uncorr = true)
    (h : r.header = false ∨ 2 ≤ r.type ∧ s.expects p r.fields = false) :
    s.rejects p r = some (.codeword r.header) := by
  cases hh : r.header with
  | false => rw [rejects_bad_header hh, if_pos hu]
  | true =>
    obtain ⟨ht, he⟩ := h.resolve_left (by simp [hh])
    rw [rejects_unexpected hh ht he, if_pos hu]

/-! What a discarded flit leaves (R204, R206, R208) -/

theorem reject_inactive (h : s.ptActive p = false) (why : Reject) (f : FlitIn) (nak : Bool) :
    s.reject p why f nak = s := if_pos (by simp [h])

variable (ha : s.ptActive p = true) (f : FlitIn) (nak : Bool)

include ha

theorem reject_header : s.reject p .header f nak =
    if 4 ≤ (s.pt p).badCopies then (s.count (R.CHN_PT_HDRERR_CNT_count p)).recover p
    else if nak then (s.count (R.CHN_PT_HDRERR_CNT_count p)).sendNak p else s.count (R.CHN_PT_HDRERR_CNT_count p) :=
  if_neg (by simp [ha])

theorem reject_sequence : s.reject p .sequence f nak =
    if (s.rxHeader p f).ahead p f = true ∧ nak = true then (s.rxHeader p f).sendNak p else s.rxHeader p f := by
  simp [State.reject, ha]

/-- An uncorrectable flit counted, with what its header carries where that is good (R206; log entry 104). -/
def State.uncorrCounted (s : State) (p : Nat) (header : Bool) (f : FlitIn) : State :=
  let t := s.count (R.CHN_PT_UNCORR_CNT_count p)
  if header then t.rxHeader p f else t.count (R.CHN_PT_HDRERR_CNT_count p)

/-- Whether an uncorrectable flit counts as a copy of the expected one (R206). -/
def State.copyOfExpected (s : State) (p : Nat) (header : Bool) (f : FlitIn) : Bool :=
  !header || f.lseq.toNat == (s.uncorrCounted p header f).get (R.CHN_PT_SEQ_rx_expected p)

theorem reject_codeword_recovers {header : Bool}
    (h : (s.pt p).failed ≠ none ∨ 4 ≤ (s.pt p).badCopies ∧ header = false) :
    s.reject p (.codeword header) f nak = (s.uncorrCounted p header f).recover p := by
  have hif : ((s.pt p).failed.isSome || (4 ≤ (s.pt p).badCopies && !header)) = true := by
    simpa [Option.isSome_iff_ne_none] using h
  exact (if_neg (by simp [ha])).trans (if_pos hif)

theorem reject_codeword_counts {header : Bool} (hf : (s.pt p).failed = none)
    (h : (s.pt p).badCopies < 4 ∨ header = true) :
    s.reject p (.codeword header) f nak =
      (let u := s.uncorrCounted p header f
       let w := u.setPt p
         { u.pt p with badCopies := (s.pt p).badCopies + b2n (s.copyOfExpected p header f) }
       if nak then w.sendNak p else w) := by
  have hif : ¬ (((s.pt p).failed.isSome || (4 ≤ (s.pt p).badCopies && !header)) = true) := by
    rcases h with h | h <;> simp [hf, h]
  exact (if_neg (by simp [ha])).trans (if_neg hif)

end Rejected

theorem exec_flitReject {s : State} {p : Fin 2} {data parity : List Byte} {why : Reject} (nak : Bool)
    (h : s.rejects p (rxFlit (data ++ parity)) = some why) : exec (.flitReject p data parity nak) s =
      .next (settle (s.reject p why (rxFlit (data ++ parity)).fields nak)) :=
  next_settle_congr (by simp only [h])

theorem exec_flitReject_none {s : State} {p : Fin 2} {data parity : List Byte} (nak : Bool)
    (h : s.rejects p (rxFlit (data ++ parity)) = none) : exec (.flitReject p data parity nak) s = .next (settle s) :=
  next_settle_congr (by simp only [h])

theorem exec_flitReject_inactive {s : State} {p : Fin 2} (h : s.ptActive p = false) (data parity : List Byte)
    (nak : Bool) : exec (.flitReject p data parity nak) s = .next (settle s) := by
  cases hr : s.rejects p (rxFlit (data ++ parity)) with
  | none => exact exec_flitReject_none nak hr
  | some why => exact (exec_flitReject nak hr).trans (next_settle_congr (reject_inactive h why _ nak))

/-! Malformed flits (R183) -/

/-- The bcast flag is wrong where it is not what the type asks for: only WR_REQ leaves it open. -/
theorem malformed_iff (r : RxFlit) : r.malformed = true ↔
    2 ≤ r.type ∧ (flitClass r.type = none ∨ r.shape = false ∨
      r.fields.bcast = true ∧ r.type ∉ [0x02, 0x03, 0x11] ∨ r.fields.bcast = false ∧ r.type ∈ [0x02, 0x03]) := by
  cases hb : r.fields.bcast <;> simp [RxFlit.malformed, hb, or_assoc, not_or, and_assoc]

theorem exec_flitMalformed {s : State} {p : Fin 2} {data parity : List Byte}
    (hh : (rxFlit (data ++ parity)).header = true) (hm : (rxFlit (data ++ parity)).malformed = true)
    (he : s.expects p (rxFlit (data ++ parity)).fields = true) : exec (.flitMalformed p data parity) s =
      .next (settle ((s.acceptAs p (flitClass (rxFlit (data ++ parity)).type) (rxFlit (data ++ parity)).fields).ptRaise
        p 6)) :=
  next_settle_congr (if_pos (by simp [hh, hm, he]))

theorem exec_flitMalformed_ignored {s : State} {p : Fin 2} {data parity : List Byte}
    (h : ¬ ((rxFlit (data ++ parity)).header = true ∧ (rxFlit (data ++ parity)).malformed = true) ∨
      s.expects p (rxFlit (data ++ parity)).fields = false) :
    exec (.flitMalformed p data parity) s = .next (settle s) := by
  refine next_settle_congr (if_neg fun hall => ?_)
  simp only [Bool.and_eq_true] at hall
  obtain ⟨hgood, he⟩ := hall
  exact h.elim (· hgood) (by simp [he])

/-! Flits for other units (R199, R200) -/

section Forwarded

variable {s : State} {p type : Nat} {f : FlitIn}

theorem passes_iff : s.passes p type f = true ↔
    s.expects p f = true ∧ f.bcast = false ∧ ¬ (s.assigned = true ∧ f.dst.toNat = s.addr) ∧ flitLocal type = false ∧
      flitClass type ≠ none := by
  cases hb : f.bcast <;> cases hm : s.assigned <;>
    simp [State.passes, State.consumes, hb, hm, Option.isSome_iff_ne_none, and_assoc]

theorem forward_routed {q : Nat} (hq : s.routeTo f.dst.toNat = some q) (hne : q ≠ p) (hh : f.hops.toNat < 1023) :
    s.forward p type f = (s.acceptAs p none f).sendOn q
      { type := type, dst := f.dst.toNat, src := f.src.toNat, hops := f.hops.toNat + 1, poison := f.poisoned,
        payload := f.payload, holds := some p } := by
  simp [State.forward, hq, hne, hh]

theorem forward_undeliverable
    (h : s.routeTo f.dst.toNat = none ∨ s.routeTo f.dst.toNat = some p ∨ 1023 ≤ f.hops.toNat) :
    s.forward p type f = (s.acceptAs p (flitClass type) f).undeliverable p type f := by
  cases hq : s.routeTo f.dst.toNat with
  | none => simp only [State.forward, hq]
  | some q =>
    have hif : ¬ ((q != p && decide (f.hops.toNat < 1023)) = true) := by
      rcases h with h | h | h
      · simp [h] at hq
      · simp [hq] at h; simp [h]
      · simp [Nat.not_lt.2 h]
    simp only [State.forward, hq]
    exact if_neg hif

theorem undeliverable_eq (s : State) (p type : Nat) (f : FlitIn) : s.undeliverable p type f =
    (if flitClass type = some .req then s.noRoute f.src.toNat type 0 f.payload else s).ptRaise p 8 := by
  simp [State.undeliverable]

end Forwarded

theorem exec_flitForward_passes {s : State} {p : Fin 2} {type : Byte} {f : FlitIn}
    (h : s.passes p type.toNat f = true) : exec (.flitForward p type f) s =
      .next (settle (s.forward p type.toNat f)) := next_settle_congr (if_pos h)

theorem exec_flitForward_ignored {s : State} {p : Fin 2} {type : Byte} {f : FlitIn}
    (h : ¬ s.passes p type.toNat f = true) : exec (.flitForward p type f) s = .next (settle s) :=
  next_settle_congr (if_neg h)

/-- Settles O48: a flit that is not accepted by its reason, a malformed one, one for another unit by its route, and what
is sent again. -/
theorem flitsAreAcceptedOnceInOrder : Obligations.FlitsAreAcceptedOnceInOrder := by
  intro s p f
  refine ⟨fun h => ⟨exec_flitReject_inactive h,
      fun data parity => exec_flitMalformed_ignored (.inr (expects_inactive h _)),
      fun ty => exec_flitForward_ignored fun hp => by simp [passes_iff, expects_inactive h] at hp,
      congrArg Host.Outcome.next (unsequenced_inactive h f id), congrArg Host.Outcome.next (if_neg (by simp [h])),
      fun timeout => next_settle_congr (unsequenced_inactive h f _), next_settle_congr (if_neg (by simp [h]))⟩,
    fun data parity nak => ?_, fun h => ?_, fun data parity => ?_, fun ty => ?_⟩
  · intro r refuses
    have discards {why : Reject} {t : State} (hr : s.rejects p r = some why) (ht : s.reject p why r.fields nak = t) :
        refuses t := (exec_flitReject nak hr).trans (next_settle_congr ht)
    refine ⟨fun hh h => exec_flitReject_none nak (rejects_none hh h), fun ha => ⟨fun hh hu => ?_,
      fun hh ht he hu => ?_, fun hu h => ?_⟩⟩
    · exact discards ((rejects_bad_header hh).trans (by simp [hu])) (reject_header ha _ nak)
    · exact discards ((rejects_unexpected hh ht he).trans (by simp [hu])) (reject_sequence ha _ nak)
    · have hr := rejects_uncorrectable (s := s) (p := p) hu h
      exact ⟨fun hrec => discards hr (reject_codeword_recovers ha _ nak hrec),
        fun hf hc => discards hr (reject_codeword_counts ha _ nak hf hc)⟩
  · exact ⟨congrArg Host.Outcome.next (unsequenced_active h f id), congrArg Host.Outcome.next (if_pos h),
      next_settle_congr (unsequenced_active h f _), next_settle_congr (unsequenced_active h f _),
      next_settle_congr (if_pos h)⟩
  · intro r bad
    have hbad : bad ↔ r.header = true ∧ r.malformed = true := and_congr_right fun _ => (malformed_iff r).symm
    rw [hbad]
    exact ⟨fun ⟨hh, hm⟩ he => exec_flitMalformed hh hm he, exec_flitMalformed_ignored⟩
  · refine ⟨fun h => exec_flitForward_ignored fun hp => ?_, fun he hl hc hb hm => ?_⟩
    · obtain ⟨he, hb, hm, hl, hc⟩ := passes_iff.1 hp
      rcases h with h | h | h | h | h
      · simp [he] at h
      · simp [hb] at h
      · simp [hl] at h
      · exact hc h
      · exact hm h
    · have hpass : s.passes p ty.toNat f = true := passes_iff.2 ⟨he, hb, hm, hl, hc⟩
      exact ⟨fun q hq hne hh => (exec_flitForward_passes hpass).trans (next_settle_congr (forward_routed hq hne hh)),
        fun h => (exec_flitForward_passes hpass).trans
          (next_settle_congr ((forward_undeliverable h).trans (undeliverable_eq _ _ _ _)))⟩

end Sys2Proof.Machine

end

section

namespace Sys2Proof.Machine

/-! ### The address map and lane sparing (O49) -/

/-! The state of a port beside the registers -/

@[simp] theorem pt_setPt_same (s : State) (p : Nat) (x : PtPort) : (s.setPt p x).pt p = x := by
  unfold State.setPt State.pt
  split <;> rfl

@[simp] theorem get_setPt (s : State) (p : Nat) (x : PtPort) (f : Fld) : (s.setPt p x).get f = s.get f := by
  unfold State.setPt
  split <;> rfl

/-- Fields written leave the ports' own state. -/
theorem Only.pt {s t : State} {fs : List Fld} (h : Only s t fs) (p : Nat) : t.pt p = s.pt p := by
  obtain ⟨hrec, -⟩ := h
  rw [hrec]
  rfl

@[simp] theorem pt_count (s : State) (f : Fld) (n p : Nat) : (s.count f n).pt p = s.pt p := rfl

@[simp] theorem pt_ptRaise (s : State) (p bit res q : Nat) : (s.ptRaise p bit res).pt q = s.pt q := by
  unfold State.ptRaise
  dsimp only
  split_ifs <;> rfl

theorem get_ptRaise_other (s : State) {p bit : Nat} {f : Fld} (he : f.key ≠ (R.CHN_PT_EVT_cause p).key)
    (hc : f.key ≠ (R.CHN_PT_EVT_CNT_count p bit).key) (res : Nat) : (s.ptRaise p bit res).get f = s.get f := by
  have hraise : (s.raise (R.CHN_PT_EVT_cause p) bit (R.CHN_PT_EVT_CNT_count p bit)).get f = s.get f :=
    State.get_raise_other s bit he hc
  unfold State.ptRaise
  dsimp only
  split_ifs <;> exact hraise

/-! ANNOUNCE (R184–R186) -/

/-- The map once an ANNOUNCE has been heard on port p: its entry set, or cleared where assigned = 0 (R186). -/
def State.mapHeard (s : State) (p : Nat) (f : FlitIn) : State :=
  let w := fieldAt f.payload 0 2
  let k := w % 1024
  if w.testBit 15 then
    ((s.put (R.CHN_MAP_position k) (fieldAt f.payload 2 2 % 1024)).put (R.CHN_MAP_valid k) 1).put (R.CHN_MAP_port k) p
  else s.mapErase k

theorem announced_far {f : FlitIn} (h : f.hops ≠ 0) (s : State) (p : Nat) : s.announced p f = s.mapHeard p f :=
  if_neg h

/-- A port that is a number below two is port UP by either test. -/
theorem ite_val_zero {α : Type} (p : Fin 2) (a b : α) : (if p.val = 0 then a else b) = if p = 0 then a else b := by
  simp only [Fin.val_eq_zero_iff]

/-- The map and the neighbour of port p once the neighbour's own ANNOUNCE has been heard (R184). -/
def State.peerHeard (s : State) (p : Nat) (f : FlitIn) : State :=
  let w := fieldAt f.payload 0 2
  ((((s.mapHeard p f).put (R.CHN_PT_PEER_addr p) (w % 1024)).flag (R.CHN_PT_PEER_assigned p) (w.testBit 15)).put
    (R.CHN_PT_PEER_position p) (fieldAt f.payload 2 2 % 1024)).put (R.CHN_PT_PEER_valid p) 1

theorem announced_near {f : FlitIn} (h : f.hops = 0) (s : State) (p : Fin 2) :
    s.announced p f = if p = 0 then (s.peerHeard p f).reposition else s.peerHeard p f :=
  (if_pos h).trans (ite_val_zero p _ _)

theorem testBit_fifteen {w : Nat} (h : w / 2 ^ 15 = 1) : w.testBit 15 = true := by
  rw [Nat.testBit_eq_decide_div_mod_eq, h]
  rfl

theorem mapEntry_apart (k : Nat) : (R.CHN_MAP_position k).key ≠ (R.CHN_MAP_valid k).key ∧
    (R.CHN_MAP_position k).key ≠ (R.CHN_MAP_port k).key ∧ (R.CHN_MAP_valid k).key ≠ (R.CHN_MAP_port k).key := by
  simp [Fld.key, R.CHN_MAP_position, R.CHN_MAP_valid, R.CHN_MAP_port]

/-- The entry of an assigned unit shows its position and the port that it was heard on. -/
theorem mapHeard_assigned {f : FlitIn} (h : (fieldAt f.payload 0 2).testBit 15 = true) (s : State) (p : Fin 2) :
    let k := fieldAt f.payload 0 2 % 1024
    let t := s.mapHeard p f
    Only s t [R.CHN_MAP_position k, R.CHN_MAP_valid k, R.CHN_MAP_port k] ∧ t.get (R.CHN_MAP_valid k) = 1 ∧
      t.get (R.CHN_MAP_position k) = fieldAt f.payload 2 2 % 1024 ∧ t.get (R.CHN_MAP_port k) = p := by
  intro k t
  obtain ⟨hv, hp, hvp⟩ := mapEntry_apart k
  have ht : t = ((s.put (R.CHN_MAP_position k) (fieldAt f.payload 2 2 % 1024)).put (R.CHN_MAP_valid k) 1).put
    (R.CHN_MAP_port k) p := if_pos h
  rw [ht]
  refine ⟨(((Only.refl s _).put (by simp) _).put (by simp) _).put (by simp) _, ?_, ?_, ?_⟩
  · rw [State.get_put_other _ _ hvp, State.get_put_same]
    rfl
  · rw [State.get_put_other _ _ hp, State.get_put_other _ _ hv, State.get_put_same]
    exact Nat.mod_mod _ _
  · rw [State.get_put_same]
    exact Nat.mod_eq_of_lt p.isLt

/-! A receive lane that fails (R207, R208) -/

section LaneFails

variable {s : State} {p : Fin 2} {k : Fin 3} {n : Nat} {lock : Bool}

/-- The lane's counter, which shows the corrections of the second that has passed. -/
def State.laneCounted (s : State) (p k n : Nat) : State := s.count (R.CHN_PT_LANE_CORR_count p k) n

/-- What follows once lane_swap is set, in t: the peer is asked for the spare, unless it has been; without a spare the
port recovers, or remembers the failed lane (R207, R208). -/
def State.laneFailing (s t : State) (p k : Nat) (lock : Bool) : State :=
  if s.on (R.CHN_PT_STATUS_spare_ok p) = true then
    if (s.pt p).swap ≠ none then t
    else (t.setPt p { s.pt p with swap := some (k, t.spareLane p) }).sendOn p
      { type := 0x05, src := t.addr, payload := leBytes 1 k ++ leBytes 1 (t.spareLane p) }
  else if lock = true then t.recover p
  else t.setPt p { s.pt p with failed := some k }

theorem laneCounter_apart (p : Fin 2) (k : Fin 3) :
    R.CHN_PT_SPARE_THR_thr.key ≠ (R.CHN_PT_LANE_CORR_count p k).key ∧
      (R.CHN_PT_STATUS_spare_ok p).key ≠ (R.CHN_PT_LANE_CORR_count p k).key ∧
      (R.CHN_PT_STATUS_spare_ok p).key ≠ (R.CHN_PT_EVT_cause p).key ∧
      (R.CHN_PT_STATUS_spare_ok p).key ≠ (R.CHN_PT_EVT_CNT_count p 2).key := by
  decide +revert

theorem laneFails_ignored (h : s.ptActive p = false ∨
    ¬ (s.get (R.CHN_PT_STATUS_rx0 p) = k ∨ s.get (R.CHN_PT_STATUS_rx1 p) = k)) : s.laneFails p k n lock = s := by
  refine if_pos ?_
  rcases h with h | h
  · simp [h]
  · simp only [not_or] at h
    simp [h]

variable (ha : s.ptActive p = true)
  (hm : s.get (R.CHN_PT_STATUS_rx0 p) = k ∨ s.get (R.CHN_PT_STATUS_rx1 p) = k)

include ha hm

/-- A selected lane of an ACTIVE port: the threshold and the spare are read as they were. -/
theorem laneFails_counted : s.laneFails p k n lock =
    if (s.get R.CHN_PT_SPARE_THR_thr ≠ 0 ∧ s.get R.CHN_PT_SPARE_THR_thr ≤ n) ∨ lock = true then
      s.laneFailing ((s.laneCounted p k n).ptRaise p 2 k) p k lock
    else s.laneCounted p k n := by
  obtain ⟨hthr, hok, hcause, hcnt⟩ := laneCounter_apart p k
  have hon : ((s.count (R.CHN_PT_LANE_CORR_count p k) n).ptRaise p 2 k).on (R.CHN_PT_STATUS_spare_ok p) =
      s.on (R.CHN_PT_STATUS_spare_ok p) := by
    simp [State.on, get_ptRaise_other _ hcause hcnt, State.get_count_other _ _ hok]
  have hif : ¬ ((!s.ptActive p || !(decide (s.get (R.CHN_PT_STATUS_rx0 p) = k) ||
      decide (s.get (R.CHN_PT_STATUS_rx1 p) = k))) = true) := by
    rcases hm with hm | hm <;> simp [ha, hm]
  refine (if_neg hif).trans ?_
  simp [State.laneCounted, State.laneFailing, State.get_count_other _ _ hthr, hon, Option.isSome_iff_ne_none]

theorem laneFails_below (hl : lock = false) (h : s.get R.CHN_PT_SPARE_THR_thr = 0 ∨ n < s.get R.CHN_PT_SPARE_THR_thr) :
    s.laneFails p k n lock = s.laneCounted p k n := by
  rw [laneFails_counted ha hm]
  exact if_neg (by simp [hl]; omega)

theorem laneFails_at (h : lock = true ∨ s.get R.CHN_PT_SPARE_THR_thr ≠ 0 ∧ s.get R.CHN_PT_SPARE_THR_thr ≤ n) :
    s.laneFails p k n lock = s.laneFailing ((s.laneCounted p k n).ptRaise p 2 k) p k lock :=
  (laneFails_counted ha hm).trans (if_pos h.symm)

end LaneFails

/-! A lane swap that ends (R207) -/

section SwapDone

variable {s : State} {p : Nat}

theorem swapDone_inactive (h : s.ptActive p = false) (tx : Bool) : s.swapDone p tx = s := if_pos (by simp [h])

variable (ha : s.ptActive p = true)

include ha

theorem swapDone_tx_none (h : (s.pt p).txSwap = none) : s.swapDone p true = s := by
  simp [State.swapDone, ha, h]

theorem swapDone_rx_none (h : (s.pt p).swap = none) : s.swapDone p false = s := by
  simp [State.swapDone, ha, h]

theorem swapDone_tx {k j : Nat} (h : (s.pt p).txSwap = some (k, j)) : s.swapDone p true =
    (((s.setPt p { s.pt p with txSwap := none }).relane (R.CHN_PT_STATUS_tx0 p) k j).relane
      (R.CHN_PT_STATUS_tx1 p) k j).laneRetired p k jLaneTx := by
  simp [State.swapDone, ha, h]

theorem swapDone_rx {k j : Nat} (h : (s.pt p).swap = some (k, j)) : s.swapDone p false =
    (let u := (((s.setPt p { s.pt p with swap := none }).relane (R.CHN_PT_STATUS_rx0 p) k j).relane
       (R.CHN_PT_STATUS_rx1 p) k j).put (R.CHN_PT_STATUS_spare_ok p) 0
     (u.put (R.CHN_PT_STATUS_qualified p) (clearBits (u.get (R.CHN_PT_STATUS_qualified p)) (2 ^ k))).laneRetired p k
       jLaneRx) := by
  simp [State.swapDone, ha, h]

end SwapDone

/-- Settles O49: broadcasts and LANE_SWAP by whether they are accepted, a failing lane by its threshold and the spare,
and the end of a swap by its side. -/
theorem mapsAndLanesFollow : Obligations.MapsAndLanesFollow := by
  intro s p f
  refine ⟨fun he hb => ?_,
    fun h => ⟨next_settle_congr (broadcast_ignored h _ _ _), next_settle_congr (broadcast_ignored h _ _ _)⟩,
    fun he hb a ha => ?_, fun h => next_settle_congr (linkFlit_ignored h _), fun k n lock => ?_,
    fun ha h => next_settle_congr (swapDone_tx_none ha h), fun ha h => next_settle_congr (swapDone_rx_none ha h),
    fun k j ha h => next_settle_congr (swapDone_tx ha h), fun k j ha h => next_settle_congr (swapDone_rx ha h),
    fun fld k j => ⟨fun h => if_pos h, fun h => if_neg h⟩, fun h tx => next_settle_congr (swapDone_inactive h tx)⟩
  · intro a w k pos u
    have hannounce {t : State} (ht : a.announced p f = t) : exec (.announce p f) s = .next (settle t) :=
      next_settle_congr ((broadcast_expected he hb _ _ _).trans ht)
    refine ⟨fun hh => hannounce (announced_far hh a p), fun hh hw => ?_, fun hh => hannounce (announced_near hh a p),
      next_settle_congr (broadcast_expected he hb _ _ _)⟩
    obtain ⟨honly, hvalid, hpos, hport⟩ := mapHeard_assigned (testBit_fifteen hw) a p
    exact ⟨_, hannounce (announced_far hh a p), honly, hvalid, hpos, hport⟩
  · subst ha
    exact next_settle_congr (linkFlit_expected he hb _)
  · intro mine thr
    refine ⟨fun h => next_settle_congr (laneFails_ignored h), fun ha hm => ⟨fun hl h => ?_, fun h t ht => ?_⟩⟩
    · exact ⟨_, next_settle_congr (laneFails_below ha hm hl h), (Only.refl s _).put (by simp) _,
        State.get_count_same s _ _⟩
    · subst ht
      have fails {u : State} (hu : _ = u) : exec (.laneSwapTrigger p k n lock) s = .next (settle u) :=
        next_settle_congr ((laneFails_at ha hm h).trans hu)
      exact ⟨fun hok hs => fails ((if_pos hok).trans (if_neg (by simp [hs]))),
        fun hok hs => fails ((if_pos hok).trans (if_pos hs)), fun hok => fails (if_neg (by simp [hok]))⟩

end Sys2Proof.Machine

end

section

namespace Sys2Proof.Machine

/-! ### Training, recovery and departure of a Pintle port (O47) -/

/-! What leaves in a training -/

theorem foldl_emit {α : Type} (g : α → Out) (l : List α) (s : State) :
    ∃ out, l.foldl (fun t k => t.emit (g k)) s = { s with out := out } := by
  induction l generalizing s with
  | nil => exact ⟨s.out, rfl⟩
  | cons k r ih => exact ih (s.emit (g k))

theorem sendTs1_eq (s : State) (p rxSel : Nat) (recovery : Bool) :
    s.sendTs1 p rxSel recovery = { s with out := (s.sendTs1 p rxSel recovery).out } := by
  obtain ⟨out, h⟩ := foldl_emit (fun k => Out.block p k (tsBlock 0x1E k (s.tsInfo rxSel recovery false)))
    ((List.range 3).filter fun k => !(s.lanesOut p jLaneTx).contains k) s
  have hout : s.sendTs1 p rxSel recovery = { s with out := out } := h
  rw [hout]

/-! Training begins (R190, R196, R215) -/

section Train

variable {s : State} {p : Nat}

/-- Where training begins: an enabled port that is DOWN or IDLE, of a unit that runs and does not idle it in QUIET. -/
def State.mayTrain (s : State) (p : Nat) : Prop :=
  s.on (R.CHN_PT_CTL_en p) = true ∧ s.running = true ∧ s.sup.pf < 3 ∧ ¬ (s.power = 1 ∧ s.quietIdles p = true) ∧
    (s.ptState p = 0 ∨ s.ptState p = 4)

theorem mayTrain_iff : s.mayTrain p ↔ (s.on (R.CHN_PT_CTL_en p) && s.running && decide (s.sup.pf < 3) &&
    !(s.power == 1 && s.quietIdles p) && (s.ptState p == 0 || s.ptState p == 4)) = true := by
  simp [State.mayTrain, and_assoc, imp_iff_not_or]

theorem portTrain_begins (h : s.mayTrain p) :
    s.portTrain p = ((s.put (R.CHN_PT_STATUS_state p) 1).setPt p {}).sendTs1 p 0 false := if_pos (mayTrain_iff.1 h)

theorem portTrain_stays (h : ¬ s.mayTrain p) : s.portTrain p = s := if_neg (mt mayTrain_iff.2 h)

theorem portTrain_disabled (h : s.get (R.CHN_PT_CTL_en p) = 0) : s.portTrain p = s :=
  portTrain_stays fun ⟨hen, _⟩ => by simp [State.on, h] at hen

end Train

/-! Training ends (R196, R202) -/

theorem lanesOf_lt (m : BitVec 3) : ∀ k ∈ lanesOf m, k < 3 := by
  simp +contextual [lanesOf]

theorem qualifiedLanes_lt (s : State) (p : Nat) (t : Training) : ∀ k ∈ s.qualifiedLanes p t, k < 3 :=
  fun k hk => lanesOf_lt _ k (List.mem_of_mem_filter hk)

/-- A lane of a list, or 0, fits the two bits of a field of CHN_PTp_STATUS. -/
theorem getD_lane_mod {l : List Nat} (h : ∀ k ∈ l, k < 3) (i : Nat) : l.getD i 0 % 2 ^ 2 = l.getD i 0 := by
  refine Nat.mod_eq_of_lt ?_
  rw [List.getD_eq_getElem?_getD]
  cases hi : l[i]? with
  | none => decide
  | some k => exact Nat.lt_of_lt_of_le (h k (List.mem_of_getElem? hi)) (by decide)

/-- The fields that a port shows of its link. -/
def linkFlds (p : Nat) : List Fld :=
  [R.CHN_PT_STATUS_rx0 p, R.CHN_PT_STATUS_rx1 p, R.CHN_PT_STATUS_tx0 p, R.CHN_PT_STATUS_tx1 p,
    R.CHN_PT_STATUS_qualified p, R.CHN_PT_STATUS_spare_ok p, R.CHN_PT_STATUS_retired p, R.CHN_PT_PEER_addr p,
    R.CHN_PT_PEER_assigned p, R.CHN_PT_PEER_position p, R.CHN_PT_PEER_valid p]

theorem linkFormed_only (s : State) (p : Nat) (t : Training) : Only s (s.linkFormed p t) (linkFlds p) := by
  have hlanes : Only s ((((s.put (R.CHN_PT_STATUS_rx0 p) ((s.qualifiedLanes p t).getD 0 0)).put
      (R.CHN_PT_STATUS_rx1 p) ((s.qualifiedLanes p t).getD 1 0)).put (R.CHN_PT_STATUS_tx0 p)
      ((lanesOf t.rxSel).getD 0 0)).put (R.CHN_PT_STATUS_tx1 p) ((lanesOf t.rxSel).getD 1 0)) (linkFlds p) :=
    ((((Only.refl s _).put (by simp [linkFlds]) _).put (by simp [linkFlds]) _).put (by simp [linkFlds]) _).put
      (by simp [linkFlds]) _
  exact ((((((hlanes.put (by simp [linkFlds]) _).flag (by simp [linkFlds]) _).put (by simp [linkFlds]) _).put
    (by simp [linkFlds]) _).flag (by simp [linkFlds]) _).put (by simp [linkFlds]) _).flag (by simp [linkFlds]) _

theorem linkFormed_shown (s : State) (p : Fin 2) (t : Training) :
    (s.linkFormed p t).get (R.CHN_PT_STATUS_rx0 p) = (s.qualifiedLanes p t).getD 0 0 ∧
    (s.linkFormed p t).get (R.CHN_PT_STATUS_rx1 p) = (s.qualifiedLanes p t).getD 1 0 ∧
    (s.linkFormed p t).get (R.CHN_PT_STATUS_tx0 p) = (lanesOf t.rxSel).getD 0 0 ∧
    (s.linkFormed p t).get (R.CHN_PT_STATUS_tx1 p) = (lanesOf t.rxSel).getD 1 0 ∧
    (s.linkFormed p t).get (R.CHN_PT_PEER_addr p) = t.addr.toNat ∧
    (s.linkFormed p t).get (R.CHN_PT_PEER_position p) = t.position.toNat := by
  have hrx := getD_lane_mod (qualifiedLanes_lt s p t)
  have htx := getD_lane_mod (lanesOf_lt t.rxSel)
  unfold State.linkFormed
  fin_cases p <;>
    simp (disch := decide) only [State.get_put_other, State.get_flag_other, State.get_put_same] <;>
    exact ⟨hrx 0, hrx 1, htx 0, htx 1, Nat.mod_eq_of_lt t.addr.isLt, Nat.mod_eq_of_lt t.position.isLt⟩

/-- The sequence numbers of a port. -/
def seqFlds (p : Nat) : List Fld := [R.CHN_PT_SEQ_tx_next p, R.CHN_PT_SEQ_rx_expected p]

/-- The state of a port, and a cause of its with its counter. -/
def eventFlds (p i : Nat) : List Fld := [R.CHN_PT_STATUS_state p, R.CHN_PT_EVT_cause p, R.CHN_PT_EVT_CNT_count p i]

theorem seqFlds_apart : ∀ p : Fin 2, ∀ f ∈ seqFlds p,
    f.key ∉ (linkFlds p).map Fld.key ∧ f.key ∉ (eventFlds p 0).map Fld.key := by
  decide

theorem linkFlds_apart : ∀ p : Fin 2, ∀ f ∈ linkFlds p, f.key ∉ (eventFlds p 0).map Fld.key := by
  decide

theorem eventFlds_apart : ∀ p : Fin 2, ∀ f ∈ eventFlds p 0,
    f.key ∉ (linkFlds p).map Fld.key ∧ f.key ∉ (seqFlds p).map Fld.key := by
  decide

theorem eventFlds_distinct : ∀ (p : Fin 2) (i : Fin 9),
    (R.CHN_PT_STATUS_state p).key ≠ (R.CHN_PT_EVT_cause p).key ∧
      (R.CHN_PT_STATUS_state p).key ≠ (R.CHN_PT_EVT_CNT_count p i).key ∧
      (R.CHN_PT_EVT_cause p).key ≠ (R.CHN_PT_EVT_CNT_count p i).key := by
  decide

theorem txNext_ne_rxExpected (p : Fin 2) :
    (R.CHN_PT_SEQ_tx_next p).key ≠ (R.CHN_PT_SEQ_rx_expected p).key := by
  decide +revert

theorem laneForbid_not_seq (p : Fin 2) : (R.CHN_PT_CTL_lane_forbid p).key ∉ (seqFlds p).map Fld.key := by
  decide +revert

/-- A port's state shown and one of its causes raised: against the state before. -/
theorem raised_after_state (s : State) (p : Fin 2) (i : Fin 9) (st : Nat) :
    Raised s ((s.put (R.CHN_PT_STATUS_state p) st).raise (R.CHN_PT_EVT_cause p) i (R.CHN_PT_EVT_CNT_count p i))
      (R.CHN_PT_EVT_cause p) i (R.CHN_PT_EVT_CNT_count p i) := by
  obtain ⟨hcause, hcnt, hdistinct⟩ := eventFlds_distinct p i
  have hraised := raised_raise (s.put (R.CHN_PT_STATUS_state p) st) i hdistinct
  rwa [Raised, State.plus, State.get_put_other _ _ hcause.symm, State.get_put_other _ _ hcnt.symm] at hraised

theorem ptState_after_raise (s : State) (p : Fin 2) (i : Fin 9) (st : Nat) :
    ((s.put (R.CHN_PT_STATUS_state p) st).raise (R.CHN_PT_EVT_cause p) i (R.CHN_PT_EVT_CNT_count p i)).ptState p =
      st % 8 := by
  obtain ⟨hcause, hcnt, -⟩ := eventFlds_distinct p i
  exact (State.get_raise_other _ i hcause hcnt).trans (State.get_put_same s _ st)

/-- Forming a link and starting a recovery are no events of the fault collector (R593). -/
theorem ptRaise_unreported (s : State) (p : Nat) {bit : Nat} (h : bit = 0 ∨ bit = 3) :
    s.ptRaise p bit = s.raise (R.CHN_PT_EVT_cause p) bit (R.CHN_PT_EVT_CNT_count p bit) := by
  rcases h with rfl | rfl <;> rfl

/-- Port p with sequence numbers 0, an empty replay buffer and full credits (R196, R202). -/
def State.linkReset (s : State) (p : Nat) : State :=
  ((s.setPt p { credLc := 8, credRsp := 64, credReq := 64 }).put (R.CHN_PT_SEQ_tx_next p) 0).put
    (R.CHN_PT_SEQ_rx_expected p) 0

theorem linkReset_only (s : State) (p : Nat) :
    Only (s.setPt p { credLc := 8, credRsp := 64, credReq := 64 }) (s.linkReset p) (seqFlds p) :=
  ((Only.refl _ _).put (by simp [seqFlds]) _).put (by simp [seqFlds]) _

theorem linkReset_get {p : Nat} {f : Fld} (h : f.key ∉ (seqFlds p).map Fld.key) (s : State) :
    (s.linkReset p).get f = s.get f := by
  obtain ⟨-, hother⟩ := linkReset_only s p
  exact (hother f h).trans (get_setPt s p _ f)

theorem linkReset_seq (s : State) (p : Fin 2) : (s.linkReset p).get (R.CHN_PT_SEQ_tx_next p) = 0 ∧
    (s.linkReset p).get (R.CHN_PT_SEQ_rx_expected p) = 0 := by
  unfold State.linkReset
  rw [State.get_put_other _ _ (txNext_ne_rxExpected p), State.get_put_same, State.get_put_same]
  exact ⟨rfl, rfl⟩

@[simp] theorem setPt_tln (s : State) (p : Nat) (x : PtPort) : (s.setPt p x).tln = s.tln := by
  unfold State.setPt
  split <;> rfl

theorem linkReset_qualifiedLanes (s : State) (p : Fin 2) (t : Training) :
    (s.linkReset p).qualifiedLanes p t = s.qualifiedLanes p t := by
  have hforbid : (s.linkReset p).get (R.CHN_PT_CTL_lane_forbid p) = s.get (R.CHN_PT_CTL_lane_forbid p) :=
    linkReset_get (laneForbid_not_seq p) s
  have htln : (s.linkReset p).tln = s.tln := setPt_tln s p _
  simp only [State.qualifiedLanes, State.mayQualify, State.bitOf, State.lanesOut, hforbid, htln]

/-- Port p once a full training has ended, before it says so on its lanes. -/
def State.portFormed (s : State) (p : Nat) (t : Training) : State :=
  (((s.linkReset p).linkFormed p t).put (R.CHN_PT_STATUS_state p) 2).raise (R.CHN_PT_EVT_cause p) 0
    (R.CHN_PT_EVT_CNT_count p 0)

theorem portUp_forms {s : State} {p : Nat} {t : Training} (hs : s.ptState p = 1) (hp : (s.pt p).paused = false)
    (ht : s.trains p t = true) (hr : t.recovery = false) :
    s.portUp p t = ((s.portFormed p t).sendTs2 p t false).setPosition.1.announceIf true := by
  have hup : s.portUp p t = (s.linkReset p).portActive p t id := by simp [State.portUp, hs, hp, ht, hr, State.linkReset]
  rw [hup, State.portActive, hr]
  simp only [ptRaise_unreported _ _ (.inl rfl), id, State.portFormed]

theorem portUp_waits {s : State} {p : Nat} {t : Training}
    (h : s.ptState p ≠ 1 ∨ (s.pt p).paused = true ∨ s.trains p t = false ∨ t.recovery = true) : s.portUp p t = s :=
  if_neg (by rcases h with h | h | h | h <;> simp [h])

theorem portFormed_only (s : State) (p : Nat) (t : Training) :
    Only ((s.linkReset p).linkFormed p t) (s.portFormed p t) (eventFlds p 0) :=
  ((Only.refl _ _).put (by simp [eventFlds]) _).raise (by simp [eventFlds]) (by simp [eventFlds]) 0

theorem portFormed_pt (s : State) (p : Nat) (t : Training) :
    (s.portFormed p t).pt p = { credLc := 8, credRsp := 64, credReq := 64 } := by
  rw [(portFormed_only s p t).pt, (linkFormed_only _ p t).pt, (linkReset_only s p).pt, pt_setPt_same]

theorem portFormed_lanes (s : State) (p : Fin 2) (t : Training) :
    (s.portFormed p t).get (R.CHN_PT_STATUS_rx0 p) = (s.qualifiedLanes p t).getD 0 0 ∧
    (s.portFormed p t).get (R.CHN_PT_STATUS_rx1 p) = (s.qualifiedLanes p t).getD 1 0 ∧
    (s.portFormed p t).get (R.CHN_PT_STATUS_tx0 p) = (lanesOf t.rxSel).getD 0 0 ∧
    (s.portFormed p t).get (R.CHN_PT_STATUS_tx1 p) = (lanesOf t.rxSel).getD 1 0 ∧
    (s.portFormed p t).get (R.CHN_PT_PEER_addr p) = t.addr.toNat ∧
    (s.portFormed p t).get (R.CHN_PT_PEER_position p) = t.position.toNat := by
  obtain ⟨-, hother⟩ := portFormed_only s p t
  have hlink {f : Fld} (hf : f ∈ linkFlds p) : (s.portFormed p t).get f = ((s.linkReset p).linkFormed p t).get f :=
    hother f (linkFlds_apart p f hf)
  rw [hlink (by simp [linkFlds]), hlink (by simp [linkFlds]), hlink (by simp [linkFlds]), hlink (by simp [linkFlds]),
    hlink (by simp [linkFlds]), hlink (by simp [linkFlds]), ← linkReset_qualifiedLanes]
  exact linkFormed_shown (s.linkReset p) p t

theorem portFormed_seq (s : State) (p : Fin 2) (t : Training) :
    (s.portFormed p t).get (R.CHN_PT_SEQ_tx_next p) = 0 ∧ (s.portFormed p t).get (R.CHN_PT_SEQ_rx_expected p) = 0 := by
  obtain ⟨-, hformed⟩ := portFormed_only s p t
  obtain ⟨-, hlink⟩ := linkFormed_only (s.linkReset p) p t
  have hseq {f : Fld} (hf : f ∈ seqFlds p) : (s.portFormed p t).get f = (s.linkReset p).get f := by
    obtain ⟨hl, he⟩ := seqFlds_apart p f hf
    exact (hformed f he).trans (hlink f hl)
  rw [hseq (by simp [seqFlds]), hseq (by simp [seqFlds])]
  exact linkReset_seq s p

theorem portFormed_raised (s : State) (p : Fin 2) (t : Training) :
    Raised s (s.portFormed p t) (R.CHN_PT_EVT_cause p) 0 (R.CHN_PT_EVT_CNT_count p 0) := by
  obtain ⟨-, hlink⟩ := linkFormed_only (s.linkReset p) p t
  have hkept {f : Fld} (hf : f ∈ eventFlds p 0) : ((s.linkReset p).linkFormed p t).get f = s.get f := by
    obtain ⟨hl, hs⟩ := eventFlds_apart p f hf
    exact (hlink f hl).trans (linkReset_get hs s)
  have hraised : Raised ((s.linkReset p).linkFormed p t) (s.portFormed p t) (R.CHN_PT_EVT_cause p) 0
      (R.CHN_PT_EVT_CNT_count p 0) := raised_after_state _ p 0 2
  rwa [Raised, State.plus, hkept (by simp [eventFlds]), hkept (by simp [eventFlds])] at hraised

/-! Recovery (R198, R209) -/

theorem setPt_put (s : State) (f : Fld) (v p : Nat) (x : PtPort) : (s.put f v).setPt p x = (s.setPt p x).put f v := by
  unfold State.setPt
  split <;> rfl

/-- Port p in recovery, with its lane swap abandoned (R198). -/
def State.recovering (s : State) (p : Nat) : State :=
  ((s.setPt p { s.pt p with swap := none, txSwap := none, badCopies := 0, failed := none }).put
    (R.CHN_PT_STATUS_state p) 3).raise (R.CHN_PT_EVT_cause p) 3 (R.CHN_PT_EVT_CNT_count p 3)

theorem recovering_only (s : State) (p : Nat) :
    Only (s.setPt p { s.pt p with swap := none, txSwap := none, badCopies := 0, failed := none }) (s.recovering p)
      (eventFlds p 3) :=
  ((Only.refl _ _).put (by simp [eventFlds]) _).raise (by simp [eventFlds]) (by simp [eventFlds]) 3

theorem recovering_raised (s : State) (p : Fin 2) :
    Raised s (s.recovering p) (R.CHN_PT_EVT_cause p) 3 (R.CHN_PT_EVT_CNT_count p 3) := by
  have hraised : Raised (s.setPt p { s.pt p with swap := none, txSwap := none, badCopies := 0, failed := none })
      (s.recovering p) (R.CHN_PT_EVT_cause p) 3 (R.CHN_PT_EVT_CNT_count p 3) := raised_after_state _ p 3 3
  rwa [Raised, State.plus, get_setPt, get_setPt] at hraised

theorem recover_inactive {s : State} {p : Nat} (h : s.ptActive p = false) : s.recover p = s := if_neg (by simp [h])

theorem recover_active {s : State} {p : Fin 2} (h : s.ptActive p = true) : s.recover p =
    if p = 0 then ((s.recovering p).sendTs1 p 0 true).reposition else (s.recovering p).sendTs1 p 0 true := by
  have hrec : s.recover p = if p.val = 0 then ((s.recovering p).sendTs1 p 0 true).reposition
      else (s.recovering p).sendTs1 p 0 true := by
    rw [State.recovering, ← setPt_put, ← ptRaise_unreported _ _ (.inr rfl)]
    exact if_pos h
  rw [hrec, ite_val_zero]

theorem recovered_with_peer {s : State} {p : Nat} {t : Training} (hs : s.ptState p = 3) (ht : s.trains p t = true)
    (hr : t.recovery = true) :
    s.recovered p t = (s.portActive p t fun u => u.resend p (u.pt p).unacked).pumpAll p := by
  simp [State.recovered, hs, ht, hr]

theorem recovered_anew {s : State} {p : Nat} {t : Training} (hs : s.ptState p = 3) (ht : s.trains p t = true)
    (hr : t.recovery = false) : s.recovered p t = (s.portDown p 0).portTrain p := by
  simp [State.recovered, hs, ht, hr]

theorem recovered_waits {s : State} {p : Nat} {t : Training} (h : s.ptState p ≠ 3 ∨ s.trains p t = false) :
    s.recovered p t = s := if_neg (by rcases h with h | h <;> simp [h])

/-! Departure (R209–R211) -/

theorem linked_iff {s : State} {p : Nat} : s.linked p = true ↔ s.ptState p = 2 ∨ s.ptState p = 3 := by
  simp [State.linked]

theorem pt_unhold (s : State) (p : Fin 2) : (s.unhold p).pt p = s.pt p := by
  fin_cases p <;> rfl

theorem portLost_shown (s : State) (p : Fin 2) (st : Nat) :
    (s.portLost p st).ptState p = st % 8 ∧ (s.portLost p st).pt p = {} := by
  unfold State.portLost
  exact ⟨by simp [State.unhold, State.ptState, R.CHN_PT_STATUS_state], by rw [pt_unhold, pt_setPt_same]⟩

/-! A write of CHN_PTp_CTL (R198, R211, R220) -/

/-- The fields of CHN_PTp_CTL that hold what is written. -/
def ctlFlds (p : Nat) : List Fld := [R.CHN_PT_CTL_en p, R.CHN_PT_CTL_quiet_idle p, R.CHN_PT_CTL_lane_forbid p]

theorem ctlFlds_en (s : State) (p : Fin 2) (mid v : Nat) : (s.writeFlds mid v (ctlFlds p)).get (R.CHN_PT_CTL_en p) =
    if s.takes (R.CHN_PT_CTL_en p) mid = false then s.get (R.CHN_PT_CTL_en p) else v % 2 := by
  have hw : Written s (s.writeFlds mid v (ctlFlds p)) mid v (R.CHN_PT_CTL_en p) :=
    s.writeFlds_written mid v (by decide +revert) _ List.mem_cons_self
  cases ht : s.takes (R.CHN_PT_CTL_en p) mid with
  | false => exact hw.trans (if_pos ht)
  | true =>
    refine (hw.trans (if_neg (by simp [ht]))).trans ?_
    simp [R.CHN_PT_CTL_en, Fld.allows, Fld.fitted, Fld.part, bits]

/-- Nothing locks the retrain bit. -/
theorem takes_retrain (s t : State) (p mid : Nat) :
    s.takes (R.CHN_PT_CTL_retrain p) mid = t.takes (R.CHN_PT_CTL_retrain p) mid := rfl

section CtlWrite

variable {s : State} {p : Fin 2} {mid v : Nat}

theorem ptCtlWrite_stays_disabled (hs : s.get (R.CHN_PT_CTL_en p) = 0)
    (hu : (s.writeFlds mid v (ctlFlds p)).get (R.CHN_PT_CTL_en p) = 0) (hv : bits v 2 1 = 0) :
    s.ptCtlWrite p mid v = s.writeFlds mid v (ctlFlds p) := by
  have htrain := portTrain_disabled hu
  simp only [ctlFlds] at hu htrain ⊢
  simp [State.ptCtlWrite, State.on, hs, hu, hv, htrain]

theorem ptCtlWrite_stays_enabled (hs : s.get (R.CHN_PT_CTL_en p) = 1)
    (hu : (s.writeFlds mid v (ctlFlds p)).get (R.CHN_PT_CTL_en p) = 1) (hv : bits v 2 1 = 0) :
    s.ptCtlWrite p mid v = s.writeFlds mid v (ctlFlds p) := by
  simp only [ctlFlds] at hu ⊢
  simp [State.ptCtlWrite, State.on, hs, hu, hv]

theorem ptCtlWrite_retrains (hs : s.get (R.CHN_PT_CTL_en p) = 1)
    (hu : (s.writeFlds mid v (ctlFlds p)).get (R.CHN_PT_CTL_en p) = 1) (hv : bits v 2 1 = 1)
    (ht : s.takes (R.CHN_PT_CTL_retrain p) mid = true) :
    s.ptCtlWrite p mid v = (s.writeFlds mid v (ctlFlds p)).recover p := by
  rw [takes_retrain s (s.writeFlds mid v (ctlFlds p))] at ht
  simp only [ctlFlds] at hu ht ⊢
  simp [State.ptCtlWrite, State.on, hs, hu, hv, ht]

theorem ptCtlWrite_disables (hs : s.get (R.CHN_PT_CTL_en p) = 1)
    (hu : (s.writeFlds mid v (ctlFlds p)).get (R.CHN_PT_CTL_en p) = 0) (hv : bits v 2 1 = 0) :
    s.ptCtlWrite p mid v = ((s.writeFlds mid v (ctlFlds p)).leave p 2).portDown p 4 := by
  simp only [ctlFlds] at hu ⊢
  simp [State.ptCtlWrite, State.on, hs, hu, hv]

end CtlWrite

/-! The values that RETRAIN and PINTLE_PORT_DISABLE write -/

theorem ptCtl_eq (s : State) (p : Nat) : s.ptCtl p = s.get (R.CHN_PT_CTL_en p) +
    2 * s.get (R.CHN_PT_CTL_quiet_idle p) + 8 * s.get (R.CHN_PT_CTL_lane_forbid p) := by
  simp [State.ptCtl, State.readFlds, R.CHN_PT_CTL_en, R.CHN_PT_CTL_quiet_idle, R.CHN_PT_CTL_lane_forbid]
  omega

theorem setBit_two_odd {x : Nat} (h : x % 2 = 1) : setBit x 2 % 2 = 1 := by
  unfold setBit
  split <;> omega

theorem bits_setBit_two (x : Nat) : bits (setBit x 2) 2 1 = 1 := by
  unfold setBit bits
  rw [Nat.testBit_eq_decide_div_mod_eq]
  split
  · simp_all
  · simp_all
    omega

theorem clearBits_one (x : Nat) : clearBits x 1 = x - x % 2 := by
  rw [clearBits, Nat.and_one_is_mod]

/-- The value that RETRAIN writes leaves an enabled port enabled. -/
theorem retrain_en {s : State} {p : Fin 2} (h : s.get (R.CHN_PT_CTL_en p) = 1) (mid : Nat) :
    (s.writeFlds mid (setBit (s.ptCtl p) 2) (ctlFlds p)).get (R.CHN_PT_CTL_en p) = 1 := by
  have hodd : setBit (s.ptCtl p) 2 % 2 = 1 := setBit_two_odd (by rw [ptCtl_eq]; omega)
  rw [ctlFlds_en, h, hodd, ite_self]

/-- The value that PINTLE_PORT_DISABLE writes clears the en bit where the write is taken. -/
theorem disable_en (s : State) (p : Fin 2) (mid : Nat) :
    (s.writeFlds mid (clearBits (s.ptCtl p) 1) (ctlFlds p)).get (R.CHN_PT_CTL_en p) =
      if s.takes (R.CHN_PT_CTL_en p) mid = false then s.get (R.CHN_PT_CTL_en p) else 0 := by
  have heven : clearBits (s.ptCtl p) 1 % 2 = 0 := by rw [clearBits_one]; omega
  rw [ctlFlds_en, heven]

theorem disable_no_retrain {s : State} {p : Nat} (he : s.get (R.CHN_PT_CTL_en p) < 2)
    (hq : s.get (R.CHN_PT_CTL_quiet_idle p) < 2) : bits (clearBits (s.ptCtl p) 1) 2 1 = 0 := by
  rw [clearBits_one, ptCtl_eq, bits]
  omega

/-! The commands -/

theorem exec_retrain {s : State} (h : s.answers = true) (p : Fin 2) (mid : BitVec 4) : exec (.retrain p mid) s =
    .next (settle (s.ptCtlWrite p mid.toNat (setBit (s.ptCtl p) 2))) :=
  next_settle_congr (State.whenUp_of_answers h _)

theorem exec_pintlePortDisable {s : State} (h : s.answers = true) (p : Fin 2) (mid : BitVec 4) :
    exec (.pintlePortDisable p mid) s = .next (settle (s.ptCtlWrite p mid.toNat (clearBits (s.ptCtl p) 1))) :=
  next_settle_congr (State.whenUp_of_answers h _)

theorem exec_pintlePortEnable {s : State} (h : s.answers = true) (p : Fin 2) :
    exec (.pintlePortEnable p) s = .next (s.portTrain p) :=
  congrArg Host.Outcome.next (State.whenUp_of_answers h _)

/-- PINTLE_PORT_DISABLE by what it leaves of the en bit (R211; the state left is log entry 102). -/
theorem pintlePortDisable_leaves {s : State} (h : s.answers = true) (p : Fin 2) (mid : BitVec 4)
    (hq : s.get (R.CHN_PT_CTL_quiet_idle p) < 2) :
    let others := [R.CHN_PT_CTL_en p, R.CHN_PT_CTL_quiet_idle p, R.CHN_PT_CTL_lane_forbid p]
    (s.get (R.CHN_PT_CTL_en p) = 0 ∨ s.takes (R.CHN_PT_CTL_en p) mid.toNat = false ∧ s.get (R.CHN_PT_CTL_en p) = 1 →
      ∃ u : State, Only s u others ∧ u.get (R.CHN_PT_CTL_en p) = s.get (R.CHN_PT_CTL_en p) ∧
        exec (.pintlePortDisable p mid) s = .next (settle u)) ∧
    (s.takes (R.CHN_PT_CTL_en p) mid.toNat = true → s.get (R.CHN_PT_CTL_en p) = 1 → ∃ u : State,
      Only s u others ∧ u.get (R.CHN_PT_CTL_en p) = 0 ∧
      exec (.pintlePortDisable p mid) s = .next (settle ((u.leave p 2).portDown p 4))) := by
  have hwrote : Only s (s.writeFlds mid.toNat (clearBits (s.ptCtl p) 1) (ctlFlds p)) (ctlFlds p) :=
    s.writeFlds_only _ _ _
  have hen := disable_en s p mid.toNat
  have ends {t : State} (ht : s.ptCtlWrite p mid.toNat (clearBits (s.ptCtl p) 1) = t) :
      exec (.pintlePortDisable p mid) s = .next (settle t) :=
    (exec_pintlePortDisable h p mid).trans (next_settle_congr ht)
  refine ⟨fun hno => ⟨_, hwrote, ?_⟩, fun ht h1 => ⟨_, hwrote, ?_⟩⟩
  · rcases hno with h0 | ⟨ht, h1⟩
    · rw [h0, ite_self] at hen
      exact ⟨hen.trans h0.symm, ends (ptCtlWrite_stays_disabled h0 hen (disable_no_retrain (by omega) hq))⟩
    · rw [if_pos ht] at hen
      exact ⟨hen, ends (ptCtlWrite_stays_enabled h1 (hen.trans h1) (disable_no_retrain (by omega) hq))⟩
  · rw [if_neg (by simp [ht])] at hen
    exact ⟨hen, ends (ptCtlWrite_disables h1 hen (disable_no_retrain (by omega) hq))⟩

/-- Settles O47: training begun and ended, recovery by whether the port is ACTIVE, departure by its cause, and a write
of CHN_PTp_CTL by what it leaves of the en bit. -/
theorem pintleTrains : Obligations.PintleTrains := by
  intro s p
  have hlost : (s.portLost p 0).ptState p = 0 ∧ (s.portLost p 0).pt p = {} := portLost_shown s p 0
  refine ⟨fun h => ⟨fun hs => (exec_pintlePortEnable h p).trans (congrArg _ (portTrain_begins hs)),
      fun hs => (exec_pintlePortEnable h p).trans (congrArg _ (portTrain_stays hs))⟩,
    sendTs1_eq s p, fun hs => ⟨congrArg _ (if_pos (by simp [hs])), fun hp => congrArg _ (if_pos (by simp [hs, hp]))⟩,
    fun hs => congrArg _ (if_neg (by simp [hs])),
    fun hs => congrArg _ (if_neg (by rcases hs with hs | hs <;> simp [hs])),
    fun tr hs hp ht hr => ⟨s.portFormed p tr, next_settle_congr (portUp_forms hs hp ht hr), ?_⟩,
    fun tr h => next_settle_congr (portUp_waits h), fun h => ⟨s.recovering p, recovering_only s p, ?_⟩,
    fun h => ⟨next_settle_congr (recover_inactive h), next_settle_congr (recover_inactive h), recover_inactive h⟩,
    fun h mid => ⟨exec_retrain h p mid, fun ht h1 => ?_⟩,
    fun tr hs ht => ⟨fun hr => next_settle_congr (recovered_with_peer hs ht hr),
      fun hr => next_settle_congr (recovered_anew hs ht hr)⟩,
    fun tr h => next_settle_congr (recovered_waits h),
    fun h => ⟨next_settle_congr (if_pos (linked_iff.2 h)), hlost⟩,
    fun h2 h3 => next_settle_congr (if_neg fun h => (linked_iff.1 h).elim h2 h3),
    fun h => next_settle_congr (if_pos (by simp [h])), fun h => next_settle_congr (if_neg (by simp [h])),
    fun h mid hq => pintlePortDisable_leaves h p mid hq,
    fun f he hb => next_settle_congr (linkFlit_expected he hb _), fun f h => next_settle_congr (linkFlit_ignored h _)⟩
  · obtain ⟨hrx0, hrx1, htx0, htx1, haddr, hpos⟩ := portFormed_lanes s p tr
    obtain ⟨htx, hrx⟩ := portFormed_seq s p tr
    exact ⟨ptState_after_raise _ p 0 2, htx, hrx, hrx0, hrx1, htx0, htx1, haddr, hpos, portFormed_pt s p tr,
      portFormed_raised s p tr⟩
  · exact ⟨ptState_after_raise _ p 3 3, recovering_raised s p, next_settle_congr (recover_active h),
      next_settle_congr (recover_active h), recover_active h⟩
  · exact ⟨_, s.writeFlds_only _ _ _, retrain_en h1 mid.toNat, (exec_retrain h p mid).trans
      (next_settle_congr (ptCtlWrite_retrains h1 (retrain_en h1 _) (bits_setBit_two _) ht))⟩

end Sys2Proof.Machine

end

section

namespace Sys2Proof.Machine

/-! ### Logged errors (R243)

What an uncorrectable error that is not advisory leaves: first the capability's own registers, then the status registers
beside it, then a message where the error is not masked. -/

theorem mem_allAer (e : Aer) : e ∈ allAer := by cases e <;> decide

/-- First Error Pointer and Header Log. -/
def headerFlds (f : Nat) : List Fld :=
  [R.CFG_AER_CAP_first f, R.CFG_HDRLOG_dword f 0, R.CFG_HDRLOG_dword f 1, R.CFG_HDRLOG_dword f 2,
   R.CFG_HDRLOG_dword f 3]

/-- The status registers, besides those of the capability, that may show an uncorrectable error. -/
def shownFlds (f : Nat) : List Fld :=
  [R.CFG_STATUS_sig_abort f, R.CFG_STATUS_parity f, R.CFG_DEVSTA_ur f, R.CFG_DEVSTA_fatal f, R.CFG_DEVSTA_nonfatal f,
   R.CFG_STATUS_sig_error f]

/-- A free value drawn is no register. -/
theorem Only.drawFree {s t : State} {fs : List Fld} (h : Only { s with free := t.free } t fs) :
    Only { s with free := t.drawFree.1.free } t.drawFree.1 fs := by
  obtain ⟨hrec, hget⟩ := h
  exact ⟨congrArg (fun u : State => u.drawFree.1) hrec, hget⟩

theorem headerLog_only (s : State) (f : Nat) (e : Aer) :
    Only { s with free := (s.headerLog f e).free } (s.headerLog f e) (headerFlds f) := by
  have hfirst : Only s (s.put (R.CFG_AER_CAP_first f) e.bit) (headerFlds f) :=
    (Only.refl s _).put (by simp [headerFlds]) _
  have hword {t : State} (h : Only { s with free := t.free } t (headerFlds f)) (i : Nat)
      (hi : R.CFG_HDRLOG_dword f i ∈ headerFlds f) :
      Only { s with free := (t.drawFree.1.put (R.CFG_HDRLOG_dword f i) t.drawFree.2).free }
        (t.drawFree.1.put (R.CFG_HDRLOG_dword f i) t.drawFree.2) (headerFlds f) := h.drawFree.put hi _
  unfold State.headerLog
  split_ifs
  · exact Only.refl s _
  · exact hword (hword (hword (hword hfirst 0 (by simp [headerFlds])) 1 (by simp [headerFlds])) 2
      (by simp [headerFlds])) 3 (by simp [headerFlds])
  · exact hfirst

/-- The error in the registers of its capability. -/
def State.aerEntered (s : State) (f : Nat) (e : Aer) : State := (s.headerLog f e).put (e.status f) 1

/-- The error in the status registers that do not tell its severity too. -/
def State.aerCaused (s : State) (f : Nat) (e : Aer) : State :=
  let t := (s.aerEntered f e).legacyError f e
  if e = .unsupReq then t.put (R.CFG_DEVSTA_ur f) 1 else t

/-- The error in every status register. -/
def State.aerShown (s : State) (f : Nat) (e : Aer) : State :=
  let t := s.aerCaused f e
  t.put (if t.on (e.severity f) then R.CFG_DEVSTA_fatal f else R.CFG_DEVSTA_nonfatal f) 1

section Logged

variable (s : State) (f : Fin 2) (e : Aer)

/-- Logging writes none of the registers that decide about the message. -/
theorem aer_conditions_apart : ∀ g ∈ [e.mask f, e.severity f, R.CFG_CMD_serr f, R.INT_LINK_up],
    g.key ∉ (headerFlds f ++ e.status f :: shownFlds f).map Fld.key := by
  have h : ∀ f : Fin 2, ∀ e ∈ allAer, ∀ g ∈ [e.mask f, e.severity f, R.CFG_CMD_serr f, R.INT_LINK_up],
      g.key ∉ (headerFlds f ++ e.status f :: shownFlds f).map Fld.key := by decide
  exact h f e (mem_allAer e)

theorem aerStatus_apart : (e.status f).key ∉ (shownFlds f).map Fld.key := by
  have h : ∀ f : Fin 2, ∀ e ∈ allAer, (e.status f).key ∉ (shownFlds f).map Fld.key := by decide
  exact h f e (mem_allAer e)

theorem legacyError_only : Only s (s.legacyError f e) (shownFlds f) := by
  unfold State.legacyError
  split
  · exact (Only.refl s _).put (by simp [shownFlds]) 1
  · exact (Only.refl s _).put (by simp [shownFlds]) 1
  · exact Only.refl s _

theorem aerCaused_after : Only (s.aerEntered f e) (s.aerCaused f e) (shownFlds f) := by
  have hlegacy := legacyError_only (s.aerEntered f e) f e
  unfold State.aerCaused
  dsimp only
  split_ifs
  · exact hlegacy.put (by simp [shownFlds]) 1
  · exact hlegacy

/-- The field of Device Status that tells the severity. -/
theorem severityShown_mem (fatal : Bool) :
    (if fatal then R.CFG_DEVSTA_fatal f else R.CFG_DEVSTA_nonfatal f) ∈ shownFlds f := by
  cases fatal <;> simp [shownFlds]

theorem aerShown_after : Only (s.aerEntered f e) (s.aerShown f e) (shownFlds f) :=
  (aerCaused_after s f e).put (severityShown_mem f _) 1

theorem aerEntered_only : Only { s with free := (s.aerEntered f e).free } (s.aerEntered f e)
    (headerFlds f ++ e.status f :: shownFlds f) :=
  ((headerLog_only s f e).mono (List.subset_append_left ..)).put (by simp) 1

theorem aerShown_only : Only { s with free := (s.aerShown f e).free } (s.aerShown f e)
    (headerFlds f ++ e.status f :: shownFlds f) := by
  obtain ⟨hrec, hget⟩ := (aerShown_after s f e).mono (gs := headerFlds f ++ e.status f :: shownFlds f)
    fun _ h => List.mem_append_right _ (List.mem_cons_of_mem _ h)
  obtain ⟨hrec', hget'⟩ := aerEntered_only s f e
  refine ⟨?_, fun g hg => (hget g hg).trans (hget' g hg)⟩
  rw [hrec, hrec']

theorem aerShown_out : (s.aerShown f e).out = s.out := by
  obtain ⟨hrec, -⟩ := aerShown_only s f e
  rw [hrec]

/-- What decides about the message reads as before the error. -/
theorem aerShown_on {g : Fld} (hg : g ∈ [e.mask f, e.severity f, R.CFG_CMD_serr f, R.INT_LINK_up]) :
    (s.aerShown f e).on g = s.on g := by
  obtain ⟨-, hget⟩ := aerShown_only s f e
  exact congrArg (fun v => v != 0) (hget g (aer_conditions_apart f e g hg))

theorem aerCaused_severity : (s.aerCaused f e).on (e.severity f) = s.on (e.severity f) := by
  have hkey : (e.severity f).key ∉ (headerFlds f ++ e.status f :: shownFlds f).map Fld.key :=
    aer_conditions_apart f e _ (by simp)
  have hkind : (e.severity f).key ≠
      (if (s.aerCaused f e).on (e.severity f) then R.CFG_DEVSTA_fatal f else R.CFG_DEVSTA_nonfatal f).key :=
    fun h => hkey (h ▸ List.mem_map_of_mem
      (List.mem_append_right _ (List.mem_cons_of_mem _ (severityShown_mem f _))))
  rw [← aerShown_on s f e (g := e.severity f) (by simp)]
  exact congrArg (fun v => v != 0) (State.get_put_other _ _ hkind).symm

theorem aerShown_status : (s.aerShown f e).get (e.status f) = 1 := by
  obtain ⟨-, hget⟩ := aerShown_after s f e
  have hwidth : 1 % 2 ^ (e.status f).w = 1 := by cases e <;> rfl
  rw [hget _ (aerStatus_apart f e), State.aerEntered, State.get_put_same, hwidth]

/-- The message of an error, which also sets Signaled System Error where SERR# is enabled. -/
def State.aerTold (t : State) (f : Nat) (fatal : Bool) : State :=
  let u := t.errMessage f (if fatal then 2 else 1)
  if t.on (R.CFG_CMD_serr f) then u.put (R.CFG_STATUS_sig_error f) 1 else u

/-- A logged error has a message where it is not masked and messages of its severity are enabled. -/
theorem aer_eq : s.aer f e =
    let t := s.aerShown f e
    let fatal := s.on (e.severity f)
    let enable := if fatal then R.CFG_DEVCTL_fatal_en f else R.CFG_DEVCTL_nonfatal_en f
    if t.on (e.mask f) || !(t.on (R.CFG_CMD_serr f) || t.on enable) then t else t.aerTold f fatal := by
  rw [← aerCaused_severity s f e]
  rfl

theorem errMessage_get (t : State) (f kind : Nat) (g : Fld) : (t.errMessage f kind).get g = t.get g := by
  unfold State.errMessage
  split_ifs <;> rfl

theorem get_ite {c : Prop} [Decidable c] {a b : State} {g : Fld} {v : Nat} (ha : a.get g = v) (hb : b.get g = v) :
    (if c then a else b).get g = v := by
  split_ifs <;> assumption

theorem aerTold_status (t : State) (fatal : Bool) : (t.aerTold f fatal).get (e.status f) = t.get (e.status f) := by
  have hkey : (e.status f).key ≠ (R.CFG_STATUS_sig_error f).key :=
    fun h => aerStatus_apart f e (h ▸ List.mem_map_of_mem (by simp [shownFlds]))
  have hmessage := errMessage_get t f (if fatal then 2 else 1) (e.status f)
  exact get_ite ((State.get_put_other _ _ hkey).trans hmessage) hmessage

theorem aer_status : (s.aer f e).get (e.status f) = 1 := by
  have hshown := aerShown_status s f e
  rw [aer_eq]
  exact get_ite hshown ((aerTold_status ..).trans hshown)

theorem aer_masked (h : s.on (e.mask f) = true) : (s.aer f e).out = s.out := by
  have hmask : (s.aerShown f e).on (e.mask f) = true := (aerShown_on s f e (by simp)).trans h
  rw [aer_eq]
  exact (congrArg State.out (if_pos (by simp [hmask]))).trans (aerShown_out s f e)

theorem aer_reported (hm : s.on (e.mask f) = false) (hup : s.on R.INT_LINK_up = true)
    (hs : s.on (R.CFG_CMD_serr f) = true) :
    (s.aer f e).out = s.out ++ [.errMessage f (if s.on (e.severity f) then 2 else 1)] := by
  have hon {g : Fld} (hg : g ∈ [e.mask f, e.severity f, R.CFG_CMD_serr f, R.INT_LINK_up]) {b : Bool} (h : s.on g = b) :
      (s.aerShown f e).on g = b := (aerShown_on s f e hg).trans h
  have hmask := hon (by simp) hm
  have hlink := hon (by simp) hup
  have hserr := hon (by simp) hs
  have htold : (s.aerShown f e).aerTold f (s.on (e.severity f)) = State.put ((s.aerShown f e).emit
      (.errMessage f (if s.on (e.severity f) then 2 else 1))) (R.CFG_STATUS_sig_error f) 1 := by
    rw [State.aerTold, State.errMessage, if_pos hlink]
    exact if_pos hserr
  rw [aer_eq, if_neg (by simp [hmask, hserr]), htold, State.put_out, State.emit_out, aerShown_out]
end Logged
end Sys2Proof.Machine
end

section

namespace Sys2Proof.Machine

/-! ### Host reads and credits (O25) -/

/-! The staging of one function -/

section Staging

variable (s : State) (f : Nat)

@[simp] theorem setFn_fn : s.setFn f (s.fn f) = s := by
  unfold State.setFn State.fn
  split_ifs <;> rfl

@[simp] theorem fn_setFn (x : Upstream) : (s.setFn f x).fn f = x := by
  unfold State.setFn State.fn
  split_ifs <;> rfl

@[simp] theorem setFn_setFn (x y : Upstream) : (s.setFn f x).setFn f y = s.setFn f y := by
  unfold State.setFn
  split_ifs <;> rfl

@[simp] theorem setFn_cplWait (x : Upstream) : (s.setFn f x).cplWait = s.cplWait := by
  unfold State.setFn
  split_ifs <;> rfl

end Staging

/-! What has nothing to let go -/

section Idle

variable {s : State} {f : Nat}

theorem cplRelease_none (n : Nat) (h : s.cplWait = []) : State.cplRelease n s = s := by
  cases n with
  | zero => rfl
  | succ n => rw [State.cplRelease, h]

theorem drain_none (h : (s.fn f).posts = []) (hw : s.cplWait = []) : s.drain f = s := by
  have hposts : s.drainPosts f (s.fn f).posts.length = s := by rw [h]; rfl
  rw [State.drain, hposts]
  exact cplRelease_none _ hw

theorem issueReads_none (h : (s.fn f).reads = []) : s.issueReads f = s := by
  have hparts : (s.fn f).parts = [] := congrArg (List.flatMap HostRead.parts) h
  rw [State.issueReads, hparts]
  rfl

theorem sendCancels_none (h : s.cancels = []) : s.sendCancels f = s := by
  unfold State.sendCancels
  split_ifs
  · rfl
  · rw [h]
    exact congrArg (fun l => { s with cancels := l }) h.symm

theorem unstageMsix_none (h : (s.fn f).posts = []) : s.unstageMsix f = s := by
  have hsame : { s.fn f with posts := [] } = s.fn f := congrArg (fun l => { s.fn f with posts := l }) h.symm
  rw [State.unstageMsix, h]
  exact (congrArg (s.setFn f) hsame).trans (setFn_fn s f)

end Idle

/-! Posted writes and requests that may leave (R234, R235, R237) -/

/-- The first posted write of a function taken out of its staging, with a posted credit. -/
def State.postTaken (s : State) (f : Nat) (rest : List Post) : State :=
  { s.setFn f { s.fn f with posts := rest } with postCredit := s.postCredit - 1, cplWait := cplStep f s.cplWait }

/-- A request of a function marked as issued, with a non-posted credit. -/
def State.readTaken (s : State) (f id : Nat) : State :=
  { s.setFn f { s.fn f with reads := (s.fn f).reads.map (·.setPart id fun p => { p with issued := true }) } with
    readCredit := s.readCredit - 1 }

section Leaving

variable {s : State} {f : Nat}

theorem postTaken_unwaited (rest : List Post) (hw : s.cplWait = []) : s.postTaken f rest =
    { s.setFn f { s.fn f with posts := rest } with postCredit := s.postCredit - 1 } := by
  have hstep : cplStep f s.cplWait = (s.setFn f { s.fn f with posts := rest }).cplWait := by
    rw [setFn_cplWait, hw]
    rfl
  rw [State.postTaken, hstep]

theorem drainPosts_leaves {p : Post} {rest : List Post} (h : (s.fn f).posts = p :: rest) (hi : s.canIssue f = true)
    (hc : s.postCredit ≠ 0) (n : Nat) : s.drainPosts f (n + 1) =
      (((s.postTaken f rest).emit (.write f p.addr p.data requestAttrs)).issued f p.kind).drainPosts f n := by
  rw [State.drainPosts, h]
  exact if_neg (by simp [hi, hc])

theorem pumpReads_issues {q : HostPart} (h : (s.fn f).parts.find? (fun q => !q.issued && q.got.isNone) = some q)
    (hi : s.canIssue f = true) (hc : s.readCredit ≠ 0)
    (hl : ((s.fn f).parts.filter (·.out)).length < s.readLimit f) (n : Nat) : s.pumpReads f (n + 1) =
      ((s.readTaken f q.id).emit (.read f q.id q.addr q.len requestAttrs)).pumpReads f n := by
  rw [State.pumpReads, h]
  exact if_neg (by simp [hi, hc, hl])

theorem readLimit_pos : 0 < s.readLimit f := by
  unfold State.readLimit
  split_ifs <;> decide

/-- A data write alone leaves. -/
theorem drain_one {p : Post} (h : (s.fn f).posts = [p]) (hk : p.kind = .data) (hw : s.cplWait = [])
    (hi : s.canIssue f = true) (hc : s.postCredit ≠ 0) :
    s.drain f = (s.postTaken f []).emit (.write f p.addr p.data requestAttrs) := by
  have hposts : s.drainPosts f (s.fn f).posts.length =
      (s.postTaken f []).emit (.write f p.addr p.data requestAttrs) := by
    rw [h, List.length_singleton, drainPosts_leaves h hi hc, hk]
    rfl
  have hwait : (s.postTaken f []).cplWait = [] := congrArg (cplStep f) hw
  rw [State.drain, hposts]
  exact cplRelease_none _ hwait

variable {r : HostRead} {q : HostPart}

theorem parts_one (h : (s.fn f).reads = [r]) (hp : r.parts = [q]) : (s.fn f).parts = [q] := by
  simp [Upstream.parts, h, hp]

theorem setPart_one (hp : r.parts = [q]) (g : HostPart → HostPart) :
    r.setPart q.id g = { r with parts := [g q] } := by simp [HostRead.setPart, hp]

theorem readTaken_one (h : (s.fn f).reads = [r]) (hp : r.parts = [q]) : s.readTaken f q.id =
    { s.setFn f { s.fn f with reads := [{ r with parts := [{ q with issued := true }] }] } with
      readCredit := s.readCredit - 1 } := by
  rw [State.readTaken, h, List.map_singleton, setPart_one hp]

/-- A request alone is issued. -/
theorem issueReads_one (h : (s.fn f).reads = [r]) (hp : r.parts = [q]) (hi : q.issued = false) (hg : q.got = none)
    (hcan : s.canIssue f = true) (hc : s.readCredit ≠ 0) :
    s.issueReads f = (s.readTaken f q.id).emit (.read f q.id q.addr q.len requestAttrs) := by
  have hparts := parts_one h hp
  have hnext : (s.fn f).parts.find? (fun q => !q.issued && q.got.isNone) = some q := by simp [hparts, hi, hg]
  have hout : ((s.fn f).parts.filter (·.out)).length = 0 := by simp [hparts, HostPart.out, hi]
  rw [State.issueReads, hparts, List.length_singleton, pumpReads_issues hnext hcan hc (hout ▸ readLimit_pos)]
  rfl

/-- The one request of a function's only read ends: the read is handed on, and others may be issued (R238). -/
theorem partDone_one {r : HostRead} {q : HostPart} (h : (s.fn f).reads = [r]) (hp : r.parts = [q]) (d : List Byte) :
    s.partDone f q.id (.ok d) = (((s.setFn f { s.fn f with reads := [] }).readDone
      { r with parts := [{ q with got := some (.ok d) }] } (.ok (fit q.len d))).issueReads f) := by
  have hend : s.endPart f q.id (.ok d) =
      s.setFn f { s.fn f with reads := [{ r with parts := [{ q with got := some (.ok d) }] }] } := by
    rw [State.endPart, h, List.map_singleton, setPart_one hp]
  have htake : (s.endPart f q.id (.ok d)).takeRead f =
      some ({ r with parts := [{ q with got := some (.ok d) }] }, s.setFn f { s.fn f with reads := [] }) := by
    rw [hend, State.takeRead]
    simp [firstDone, HostRead.ended]
  rw [State.partDone, h, List.length_singleton, State.readsDone, htake]
  rfl

end Leaving

/-! Bus mastering (R241) -/

/-- Bus Master Enable and the D-state of a function at new values. -/
def State.masterSet (s : State) (f : Nat) (bme d3 : Bool) : State :=
  (s.flag (R.CFG_CMD_bme f) bme).flag (R.CFG_PM_d3 f) d3

section Master

variable (s : State) (f : Nat) (bme d3 : Bool)

theorem masterSet_bme : (s.masterSet f bme d3).get (R.CFG_CMD_bme f) = b2n bme := by
  have hkey : (R.CFG_CMD_bme f).key ≠ (R.CFG_PM_d3 f).key := by
    simp only [Fld.key, R.CFG_CMD_bme, R.CFG_PM_d3]
    omega
  exact (State.get_flag_other _ _ hkey).trans ((State.get_flag_same ..).trans (b2n_mod_two bme))

theorem masterSet_d3 : (s.masterSet f bme d3).get (R.CFG_PM_d3 f) = b2n d3 :=
  (State.get_flag_same ..).trans (b2n_mod_two d3)

theorem masterSet_only : Only s (s.masterSet f bme d3) [R.CFG_CMD_bme f, R.CFG_PM_d3 f] :=
  ((Only.refl s _).flag (by simp) bme).flag (by simp) d3

theorem masterSet_busMaster : (s.masterSet f bme d3).busMaster f = (bme && !d3) := by
  have hon (b : Bool) : (b2n b != 0) = b := by cases b <;> rfl
  simp only [State.busMaster, State.on, masterSet_bme, masterSet_d3, hon]

end Master

section NothingHeld

variable {s : State} {f : Nat} (hp : (s.fn f).posts = []) (hw : s.cplWait = [])
include hp hw

theorem release_none (hr : (s.fn f).reads = []) (hc : s.cancels = []) : s.release f = s := by
  rw [State.release, drain_none hp hw, issueReads_none hr, sendCancels_none hc]

theorem hold_none : (s.unstageMsix f).cplRelease (s.unstageMsix f).cplWait.length = s := by
  rw [unstageMsix_none hp, cplRelease_none _ hw]

/-- A function that holds nothing back only takes the new values. -/
theorem busMasterSet_none (bme d3 : Bool) (hr : (s.fn f).reads = []) (hc : s.cancels = []) :
    s.busMasterSet f bme d3 = s.masterSet f bme d3 := by
  have hleaves : (s.masterSet f bme d3).release f = s.masterSet f bme d3 :=
    release_none (s := s.masterSet f bme d3) hp hw hr hc
  have hstays := hold_none (s := s.masterSet f bme d3) (f := f) hp hw
  exact (ite_congr rfl (fun _ => hleaves) (fun _ => hstays)).trans (ite_self _)

end NothingHeld

/-! Completions and time-outs (R238–R240) -/

section Completion

variable {s : State} {f id : Nat}

theorem completion_down (c : Cpl) (h : s.on R.INT_LINK_up = false) : s.completion f id c = s :=
  if_pos (by simp [h])

section Up

variable (c : Cpl) (h : s.on R.INT_LINK_up = true)
include h

theorem completion_named {r : HostRead}
    (hr : ((s.fn f).reads.find? fun r => r.parts.any fun q => q.id == id && q.out) = some r) :
    s.completion f id c = (s.cplErrors f r.purpose c).partDone f id c := by
  rw [State.completion, if_neg (by simp [h])]
  dsimp only
  rw [hr]

variable (hr : ((s.fn f).reads.find? fun r => r.parts.any fun q => q.id == id && q.out) = none)
include hr

theorem completion_late (hl : (s.fn f).late.contains id = true) :
    s.completion f id c = s.setFn f { s.fn f with late := (s.fn f).late.erase id } := by
  rw [State.completion, if_neg (by simp [h])]
  dsimp only
  rw [hr]
  exact if_pos hl

theorem completion_unexpected (hl : (s.fn f).late.contains id = false) : s.completion f id c = s.aer f .unexpCpl := by
  rw [State.completion, if_neg (by simp [h])]
  dsimp only
  rw [hr]
  exact if_neg (by simp only [hl, Bool.false_eq_true, not_false_eq_true])

end Up

theorem cplTimeout_unnamed (h : ((s.fn f).parts.find? fun q => q.id == id && q.got.isNone) = none) :
    s.cplTimeout f id = s := by
  rw [State.cplTimeout, h]

section Named

variable {q : HostPart} (h : ((s.fn f).parts.find? fun q => q.id == id && q.got.isNone) = some q)
include h

theorem cplTimeout_held (hno : s.on (R.CFG_DEVCTL2_cto_disable f) = true ∨ q.issued = false ∧ s.busMaster f = false) :
    s.cplTimeout f id = s := by
  rw [State.cplTimeout, h]
  exact if_pos (by simpa using hno)

theorem cplTimeout_fails (hon : s.on (R.CFG_DEVCTL2_cto_disable f) = false)
    (hout : q.issued = true ∨ s.busMaster f = true) :
    s.cplTimeout f id = ((s.aer f .cplTimeout).hifRaise 4 f).partDone f id .failed := by
  rw [State.cplTimeout, h]
  exact if_neg (by rcases hout with hout | hout <;> simp [hon, hout])

end Named

theorem exec_entryFetched_some {f : Fin 2} (c : Cpl) {r : HostPart} (h : s.entryRead f = some r) :
    exec (.entryFetched f c) s = .next (settle (s.completion f r.id c).reready) := by
  have hfetched : exec (.entryFetched f c) s = execEntryFetched f c s := rfl
  rw [hfetched, execEntryFetched, h]

theorem exec_entryFetched_none {f : Fin 2} (c : Cpl) (h : s.entryRead f = none) :
    exec (.entryFetched f c) s = .next (settle s) := by
  have hfetched : exec (.entryFetched f c) s = execEntryFetched f c s := rfl
  rw [hfetched, execEntryFetched, h]

end Completion

/-! Credits (R235) -/

section Credits

variable {s : State} {n : Nat}

/-- Posted credits that come. -/
def State.postCredited (s : State) (n : Nat) : State := { s with postCredit := s.postCredit + n }

/-- Non-posted credits that come. -/
def State.readCredited (s : State) (n : Nat) : State := { s with readCredit := s.readCredit + n }

theorem postCredited_none (h0 : s.pf0.posts = []) (h1 : s.pf1.posts = []) (hw : s.cplWait = []) :
    ((s.postCredited n).drain 0).drain 1 = s.postCredited n := by
  have hdrain0 : (s.postCredited n).drain 0 = s.postCredited n := drain_none h0 hw
  rw [hdrain0]
  exact drain_none h1 hw

theorem postCredited_one {p : Post} (h0 : s.pf0.posts = [p]) (hk : p.kind = .data) (h1 : s.pf1.posts = [])
    (hw : s.cplWait = []) (hi : s.canIssue 0 = true) (hn : n ≠ 0) : ((s.postCredited n).drain 0).drain 1 =
      { s with
        pf0 := { s.pf0 with posts := [] }, postCredit := s.postCredit + n - 1
        out := s.out ++ [.write 0 p.addr p.data requestAttrs] } := by
  have hcredit : (s.postCredited n).postCredit ≠ 0 := (Nat.add_pos_right _ (Nat.pos_of_ne_zero hn)).ne'
  have hdrain0 : (s.postCredited n).drain 0 =
      ((s.postCredited n).postTaken 0 []).emit (.write 0 p.addr p.data requestAttrs) := drain_one h0 hk hw hi hcredit
  rw [hdrain0, postTaken_unwaited (s := s.postCredited n) [] hw]
  exact drain_none h1 hw

theorem readCredited_none (h0 : s.pf0.reads = []) (h1 : s.pf1.reads = []) :
    ((s.readCredited n).issueReads 0).issueReads 1 = s.readCredited n := by
  have hissue0 : (s.readCredited n).issueReads 0 = s.readCredited n := issueReads_none h0
  rw [hissue0]
  exact issueReads_none h1

theorem readCredited_one {r : HostRead} {q : HostPart} (h0 : s.pf0.reads = [r]) (hp : r.parts = [q])
    (hi : q.issued = false) (hg : q.got = none) (h1 : s.pf1.reads = []) (hcan : s.canIssue 0 = true) (hn : n ≠ 0) :
    ((s.readCredited n).issueReads 0).issueReads 1 =
      { s with
        pf0 := { s.pf0 with reads := [{ r with parts := [{ q with issued := true }] }] }
        readCredit := s.readCredit + n - 1
        out := s.out ++ [.read 0 q.id q.addr q.len requestAttrs] } := by
  have hcredit : (s.readCredited n).readCredit ≠ 0 := (Nat.add_pos_right _ (Nat.pos_of_ne_zero hn)).ne'
  have hissue0 : (s.readCredited n).issueReads 0 =
      ((s.readCredited n).readTaken 0 q.id).emit (.read 0 q.id q.addr q.len requestAttrs) :=
    issueReads_one h0 hp hi hg hcan hcredit
  rw [hissue0, readTaken_one (s := s.readCredited n) (f := 0) h0 hp]
  exact issueReads_none h1

end Credits

/-- Settles O25: completions by what they match, time-outs by their request, credits by what waits, and Bus Master
Enable by the link and what is held. -/
theorem hostReadsAndCredits : Obligations.HostReadsAndCredits := by
  intro s
  have reads {f : Fin 2} {id : Nat} {c : Cpl} {t : State} (h : s.completion f id c = t) :
      exec (.readCompletion f id c) s = .next (settle t.fwGoOn.reready) :=
    next_settle_congr (congrArg (fun u : State => u.fwGoOn.reready) h)
  have times {f : Fin 2} {id : Nat} {t : State} (h : s.cplTimeout f id = t) :
      exec (.completionTimeout f id) s = .next (settle t.fwGoOn.reready) :=
    next_settle_congr (congrArg (fun u : State => u.fwGoOn.reready) h)
  have credits {n : BitVec 12} (h : n ≠ 0) : n.toNat ≠ 0 := fun hz => h (BitVec.eq_of_toNat_eq hz)
  refine ⟨fun f id c => ⟨fun h => reads (completion_down c h), fun h => ⟨fun r hr => reads (completion_named c h hr),
      fun hr hl => reads (completion_late c h hr hl),
      fun hr hl => ⟨reads (completion_unexpected c h hr hl), aer_status s f .unexpCpl⟩⟩,
      fun r q d hr hp hid _ => hid ▸ partDone_one hr hp d⟩,
    fun f c => ⟨fun r hr => exec_entryFetched_some c hr, exec_entryFetched_none c⟩,
    fun f id => ⟨fun hn => times (cplTimeout_unnamed hn), fun q hq hno => times (cplTimeout_held hq hno),
      fun q hq hon hout => times (cplTimeout_fails hq hon hout)⟩, fun n => rfl,
    fun n h0 h1 hw => next_congr (postCredited_none h0 h1 hw),
    fun n p h0 hk h1 hw hi hn => next_congr (postCredited_one h0 hk h1 hw hi (credits hn)), fun n => rfl,
    fun n h0 h1 => next_congr (readCredited_none h0 h1),
    fun n r q h0 hp hi hg h1 hcan hn => next_congr (readCredited_one h0 hp hi hg h1 hcan (credits hn)),
    fun f bme d3 h => next_congr (if_neg (by simp [h])), fun f bme d3 h => ⟨masterSet_busMaster s f bme d3,
      fun hb => next_congr ((if_pos h).trans (if_pos hb)),
      fun hb => next_congr ((if_pos h).trans (if_neg (Bool.eq_false_iff.1 hb)))⟩,
    fun f bme d3 h hp hr hc hw => ⟨_, next_congr ((if_pos h).trans (busMasterSet_none hp hw bme d3 hr hc)),
      masterSet_only .., masterSet_bme .., masterSet_d3 ..⟩⟩

end Sys2Proof.Machine

end

section

namespace Sys2Proof.Machine

/-! ### Interrupt messages (O27) -/

/-! Bits cleared -/

/-- Subtracting a bit that was set leaves it clear. -/
theorem testBit_clearBits_two_pow (x i : Nat) : (clearBits x (2 ^ i)).testBit i = false := by
  unfold clearBits
  rw [Nat.and_two_pow]
  cases h : x.testBit i with
  | false => simpa using h
  | true =>
    have hodd : x / 2 ^ i % 2 = 1 := by simpa [Nat.testBit_eq_decide_div_mod_eq] using h
    have hless : (x - 2 ^ i) / 2 ^ i = x / 2 ^ i - 1 := by simpa using Nat.sub_mul_div x (2 ^ i) 1
    simp only [Bool.toNat_true, one_mul, Nat.testBit_eq_decide_div_mod_eq, hless, decide_eq_false_iff_not]
    omega

/-! The pending bit of a vector -/

section Pending

variable {s : State} {f x : Nat}

theorem pending_marked (hx : x < 4) : (s.put (R.MSIX_PBA_pending f) (setBit (s.get (R.MSIX_PBA_pending f)) x)).bitOf
    (R.MSIX_PBA_pending f) x = true := by
  rw [State.bitOf, State.get_put_same, Nat.testBit_mod_two_pow, testBit_setBit_same, Bool.and_true]
  exact decide_eq_true hx

theorem pending_cleared : (s.put (R.MSIX_PBA_pending f) (clearBits (s.get (R.MSIX_PBA_pending f)) (2 ^ x))).bitOf
    (R.MSIX_PBA_pending f) x = false := by
  rw [State.bitOf, State.get_put_same, Nat.testBit_mod_two_pow, testBit_clearBits_two_pow, Bool.and_false]

/-! Messages that become due (R248) -/

theorem msixDue_sent (h : s.msixOpen f x = true) : s.msixDue f x = s.msixPost f x := if_pos h

theorem msixOpen_off (h : s.on (R.CFG_MSIX_enable f) = false) : s.msixOpen f x = false := by
  simp [State.msixOpen, h]

theorem msixDue_dropped (h : s.on (R.CFG_MSIX_enable f) = false) : s.msixDue f x = s := by
  rw [State.msixDue, if_neg (by simp [msixOpen_off h]), if_pos (by simp [h])]

theorem msixDue_marked (h : s.on (R.CFG_MSIX_enable f) = true) (ho : s.msixOpen f x = false) : s.msixDue f x =
    s.put (R.MSIX_PBA_pending f) (setBit (s.get (R.MSIX_PBA_pending f)) x) := by
  rw [State.msixDue, if_neg (by simp [ho]), if_neg (by simp [h])]

/-! Gated levels seen (R247, R248) -/

theorem levelSeen_stays (h : s.level f x = true) (hold : (tget s.lastLevel (4 * f + x)).getD false = true) :
    s.levelSeen f x = s := by
  rw [State.levelSeen, if_neg (by simp [h]), if_pos hold]

theorem levelSeen_rises (h : s.level f x = true) (hold : (tget s.lastLevel (4 * f + x)).getD false = false) :
    s.levelSeen f x = (s.levelHigh f x).msixDue f x := by
  rw [State.levelSeen, if_neg (by simp [h]), if_neg (by simp [hold])]

theorem levelSeen_falls (h : s.level f x = false) : s.levelSeen f x = s.levelFell f x := if_pos (by simp [h])

/-- A gated level no longer seen to be 1. -/
def State.levelLow (s : State) (f x : Nat) : State := { s with lastLevel := tdel s.lastLevel (4 * f + x) }

theorem levelFell_unmarked (h : s.bitOf (R.MSIX_PBA_pending f) x = false) : s.levelFell f x = s.levelLow f x :=
  if_neg (by rw [Bool.not_eq_true]; exact h)

theorem levelFell_marked (h : s.bitOf (R.MSIX_PBA_pending f) x = true) : s.levelFell f x =
    ((s.levelLow f x).put (R.MSIX_PBA_pending f) (clearBits (s.get (R.MSIX_PBA_pending f)) (2 ^ x))).setFn f
      { s.fn f with posts := (s.fn f).posts.filter fun p => p.kind != .msix x } := if_pos h

theorem msixPending_sent (hp : s.bitOf (R.MSIX_PBA_pending f) x = true) (ho : s.msixOpen f x = true)
    (hl : s.level f x = true) (hs : s.msixStaged f x = false) : s.msixPending f x = s.msixPost f x :=
  if_pos (by simp [hp, ho, hl, hs])

theorem msixPending_waits (h : s.bitOf (R.MSIX_PBA_pending f) x = false ∨ s.msixOpen f x = false ∨
    s.level f x = false ∨ s.msixStaged f x = true) : s.msixPending f x = s :=
  if_neg (by rcases h with h | h | h | h <;> simp [h])

end Pending

/-! INT_PFf_REARM (R247) -/

/-- The named bit x of a write of INT_PFf_REARM. -/
def State.rearmBit (s : State) (f v x : Nat) : State :=
  if v.testBit x && s.level f x then (s.levelHigh f x).msixDue f x else s

theorem rearmBit_unnamed (s : State) (f : Nat) {v x : Nat} (h : v.testBit x = false) : s.rearmBit f v x = s :=
  if_neg (by simp [h])

theorem rearm_eq (s : State) (f v : Nat) :
    s.rearm f v = (((s.rearmBit f v 0).rearmBit f v 1).rearmBit f v 2).rearmBit f v 3 := rfl

theorem rearmBit_named {s : State} {f v x : Nat} (h : v.testBit x = true) (hl : s.level f x = true) :
    s.rearmBit f v x = (s.levelHigh f x).msixDue f x := if_pos (by simp [h, hl])

theorem testBit_oneNamed (x : Fin 4) : ∀ k < 4, (BitVec.ofNat 4 (2 ^ x.val)).toNat.testBit k = decide (k = x.val) := by
  revert x
  decide

/-- A write that names one level that is 1. -/
theorem rearm_one {s : State} {f : Nat} (x : Fin 4) (h : s.level f x = true) :
    s.rearm f (BitVec.ofNat 4 (2 ^ x.val)).toNat = (s.levelHigh f x).msixDue f x := by
  have hbit := testBit_oneNamed x
  generalize (BitVec.ofNat 4 (2 ^ x.val)).toNat = v at hbit ⊢
  have hnamed : s.rearmBit f v x = (s.levelHigh f x).msixDue f x :=
    rearmBit_named ((hbit x x.isLt).trans (decide_eq_true rfl)) h
  have hother (t : State) (k : Nat) (hk : k < 4) (hne : k ≠ x.val) : t.rearmBit f v k = t :=
    rearmBit_unnamed t f ((hbit k hk).trans (decide_eq_false hne))
  rw [rearm_eq, ← hnamed]
  obtain ⟨x, hx⟩ := x
  dsimp only at hother ⊢
  interval_cases x
  · rw [hother _ 1, hother _ 2, hother _ 3] <;> decide
  · rw [hother _ 0, hother _ 2, hother _ 3] <;> decide
  · rw [hother _ 0, hother _ 1, hother _ 3] <;> decide
  · rw [hother _ 0, hother _ 1, hother _ 2] <;> decide

/-! Errors of inbound requests (R230, R231) -/

theorem cplRelease_leaves {s : State} {o : Out} {rest : List (Out × Nat × Nat)} (h : s.cplWait = (o, 0, 0) :: rest)
    (n : Nat) : State.cplRelease (n + 1) s = State.cplRelease n ({ s with cplWait := rest }.emit o) := by
  rw [State.cplRelease, h]
  rfl

/-- A completion behind which nothing waits leaves at once. -/
theorem complete_alone {s : State} (o : Out) (hw : s.cplWait = [])
    (hp : ∀ g < 2, s.canIssue g = true → (s.fn g).posts = []) :
    s.complete o = { s with out := s.out ++ [o] } := by
  have hahead (g : Nat) (hg : g < 2) : (if s.canIssue g then (s.fn g).posts.length else 0) = 0 := by
    split_ifs with hi
    · rw [hp g hg hi, List.length_nil]
    · rfl
  have hwait : s.complete o = State.cplRelease (s.cplWait.length + 1) { s with cplWait := s.cplWait ++ [(o,
      (if s.canIssue 0 then (s.fn 0).posts.length else 0), if s.canIssue 1 then (s.fn 1).posts.length else 0)] } := rfl
  rw [hwait, hahead 0 (by decide), hahead 1 (by decide), hw, cplRelease_leaves (rest := []) rfl]
  rfl

/-- Settles O27: a level by its change, a pending message by its conditions, a re-arming write bit by bit, requests by
their kind, an error by what masks it. -/
theorem interruptMessages : Obligations.InterruptMessages := by
  intro s f
  have seen {x : Fin 4} {t : State} (h : s.levelSeen f x = t) : exec (.msixMessage f x) s = .next t := next_congr h
  refine ⟨fun x => ⟨fun h hold => seen (levelSeen_stays h hold),
      fun h hold ho => seen ((levelSeen_rises h hold).trans (msixDue_sent ho)),
      fun h hold hoff => seen ((levelSeen_rises h hold).trans (msixDue_dropped hoff)),
      fun h hold hon ho => ⟨_, seen ((levelSeen_rises h hold).trans (msixDue_marked hon ho)),
        (Only.refl _ _).put (by simp) _, pending_marked x.isLt⟩,
      fun h hp => seen ((levelSeen_falls h).trans (levelFell_unmarked hp)),
      fun h hp => ⟨_, seen ((levelSeen_falls h).trans (levelFell_marked hp)), (Only.refl _ _).put (by simp) _,
        pending_cleared (s := s.levelLow f x)⟩,
      fun hp ho hl hs => next_congr (msixPending_sent hp ho hl hs), fun h => next_congr (msixPending_waits h),
      fun hup hl => next_congr ((if_pos hup).trans (rearm_one x hl))⟩,
    fun hup v => next_congr (if_pos hup), fun hup => next_settle_congr (if_pos hup), fun hup k => ?_,
    fun hdown => ⟨next_settle_congr (if_neg (by simp [hdown])), fun k => next_settle_congr (if_neg (by simp [hdown]))⟩,
    fun e => ⟨aer_status s f e, aer_masked s f e, aer_reported s f e⟩, fun o hw hp => complete_alone o hw hp⟩
  have refused {b : BadReq} (hk : k = b) :
      exec (.inboundUnsupportedRequest f k) s = .next (settle (s.inboundBad f b)) :=
    next_settle_congr ((if_pos hup).trans (congrArg (s.inboundBad f) hk))
  exact ⟨refused, refused, fun _ => refused, fun _ => refused, refused, fun _ => refused, refused, fun _ => refused,
    refused, refused⟩

end Sys2Proof.Machine

end

section

namespace Sys2Proof.Machine

/-! ### Queues, rings and routes of firmware (O38) -/

/-! Submission queues (R307, R309, R319) -/

section Queues

variable {u : State} {r : FwReq}

/-- SQ_CREATE names no queue that may be made, or no ring of its sender. -/
def FwReq.sqBad (r : FwReq) (u : State) : Prop :=
  bits (r.w 1) 0 8 = 0 ∨ depthOk (r.w 2) = false ∨ r.w64 3 % 64 ≠ 0 ∨ u.ownsRing (bits (r.w 1) 16 6) r.mid = false

/-- The queue that SQ_CREATE makes. -/
def FwReq.newQueue (r : FwReq) : Sq :=
  { state := 1, prio := bits (r.w 1) 8 3, unordered := (r.w 1).testBit 11, owner := r.mid, cr := bits (r.w 1) 16 6,
    log2 := r.w 2, base := r.w64 3 }

/-- The unit with that queue, and with the tag limit that queues start with (R309). -/
def FwReq.queueMade (r : FwReq) (u : State) : State :=
  (u.setSq (bits (r.w 1) 0 8) r.newQueue).put (R.QMG_SQ_TAGS_tag_max (bits (r.w 1) 0 8)) (u.paramNow 0x0200)

theorem sqCreate_hostless (h : u.hostless = true) : r.sqCreate u = u.answer r rsState := if_pos h

section Hosted

variable (hh : u.hostless = false)
include hh

theorem sqCreate_bad (h : r.sqBad u) : r.sqCreate u = u.answer r rsBadArg := by
  rw [FwReq.sqCreate, if_neg (by simp [hh])]
  exact if_pos (by simpa [FwReq.sqBad, or_assoc] using h)

theorem sqCreate_good (h : ¬ r.sqBad u) : r.sqCreate u =
    if (u.sq (bits (r.w 1) 0 8)).state ≠ 0 then u.answer r rsNoResource
    else ((r.queueMade u).traceSq (bits (r.w 1) 0 8)).answer r rsOk
      [(R.DBL_SQ_TAIL_value (bits (r.w 1) 0 8)).off] := by
  rw [FwReq.sqCreate, if_neg (by simp [hh])]
  exact if_neg (by simpa [FwReq.sqBad, or_assoc] using h)

theorem sqCreate_taken (h : ¬ r.sqBad u) (hq : (u.sq (bits (r.w 1) 0 8)).state ≠ 0) :
    r.sqCreate u = u.answer r rsNoResource := (sqCreate_good hh h).trans (if_pos hq)

theorem sqCreate_makes (h : ¬ r.sqBad u) (hq : (u.sq (bits (r.w 1) 0 8)).state = 0) :
    r.sqCreate u = ((r.queueMade u).traceSq (bits (r.w 1) 0 8)).answer r rsOk
      [(R.DBL_SQ_TAIL_value (bits (r.w 1) 0 8)).off] := (sqCreate_good hh h).trans (if_neg (not_not.2 hq))

end Hosted

theorem queueMade_only : Only { u with sqs := (r.queueMade u).sqs } (r.queueMade u)
    [R.QMG_SQ_TAGS_tag_max (bits (r.w 1) 0 8)] :=
  (Only.refl (u.setSq (bits (r.w 1) 0 8) r.newQueue) _).put (by simp) _

theorem queueMade_becomes : (∀ k, k ≠ bits (r.w 1) 0 8 → (r.queueMade u).sq k = u.sq k) ∧
    (r.queueMade u).sq (bits (r.w 1) 0 8) = r.newQueue := by
  obtain ⟨-, hsame, hother⟩ := setSq_becomes u (bits (r.w 1) 0 8) r.newQueue
  exact ⟨hother, hsame⟩

/-! A queue that exists -/

theorem sqDestroy_foreign (h : u.ownsSq (r.w 1) r.mid = false) : r.sqDestroy u = u.answer r rsBadArg :=
  if_pos (by simp [h])

theorem sqShutdown_foreign (h : u.ownsSq (r.w 1) r.mid = false) : r.sqShutdown u = u.answer r rsBadArg :=
  if_pos (by simp [h])

theorem sqRestart_foreign (h : u.ownsSq (r.w 1) r.mid = false) : r.sqRestart u = u.answer r rsBadArg :=
  if_pos (by simp [h])

theorem sqRestart_bad (hb : (u.sq (r.w 1)).state = 1 ∨ 2 ^ (u.sq (r.w 1)).log2 ≤ r.w 2) :
    r.sqRestart u = u.answer r rsBadArg := if_pos (by rcases hb with hb | hb <;> simp [hb])

/-- The queue at its new index (R307). -/
def FwReq.restarted (r : FwReq) (u : State) : Sq :=
  { u.sq (r.w 1) with h := r.w 2, t := r.w 2, err := 0, shutting := false }

section Owned

variable (h : u.ownsSq (r.w 1) r.mid = true)
include h

theorem sqDestroy_own : r.sqDestroy u =
    let t := if (u.sq (r.w 1)).state = 2 then u else u.shutdown (r.w 1)
    ((t.setSq (r.w 1) { t.sq (r.w 1) with shutting := true, destroy := true }).shutdownDone (r.w 1)).answer r rsOk :=
  if_neg (by simp [h])

theorem sqShutdown_own : r.sqShutdown u =
    (u.shutdown (r.w 1)).answer r rsOk [(u.tagsWhere fun p => p.sq == r.w 1).length] := if_neg (by simp [h])

theorem sqRestart_good (ha : (u.sq (r.w 1)).state ≠ 1) (hd : r.w 2 < 2 ^ (u.sq (r.w 1)).log2) : r.sqRestart u =
    if u.held (r.w 1) ≠ 0 then u.answer r rsNoResource
    else ((u.setSq (r.w 1) (r.restarted u)).sqTo (r.w 1) 1).answer r rsOk := if_neg (by simp [h, ha, hd])

end Owned

theorem shutdownDone_destroys {t : State} {n : Nat} (hs : (t.sq n).shutting = true) (hd : (t.sq n).destroy = true)
    (hh : t.held n = 0) : t.shutdownDone n = t.setSq n {} := by
  rw [shutdownDone_drained hs hh, if_pos hd]

/-- A stopped queue without programs is gone at once. -/
theorem sqDestroy_becomes (n : Nat) (hh : u.held n = 0) :
    SqBecomes u ((u.setSq n { u.sq n with shutting := true, destroy := true }).shutdownDone n) n {} := by
  obtain ⟨-, hsame, hother⟩ := setSq_becomes u n { u.sq n with shutting := true, destroy := true }
  rw [shutdownDone_destroys (congrArg Sq.shutting hsame) (congrArg Sq.destroy hsame) hh]
  obtain ⟨-, hgone, hrest⟩ := setSq_becomes (u.setSq n { u.sq n with shutting := true, destroy := true }) n {}
  exact ⟨rfl, hgone, fun k hk => (hrest k hk).trans (hother k hk)⟩

end Queues

/-! Completion rings (R307) -/

section Rings

variable {u : State} {r : FwReq}

/-- CR_CREATE has a bad depth or base. -/
def FwReq.ringBad (r : FwReq) : Prop := depthOk (bits (r.w 1) 8 4) = false ∨ r.w64 2 % 32 ≠ 0

/-- The ring that CR_CREATE makes. -/
def FwReq.newRing (r : FwReq) : Ring := { exist := true, owner := r.mid, log2 := bits (r.w 1) 8 4, base := r.w64 2 }

/-- The registers of ring m that its creation puts to their cold values. -/
def ringIntFlds (m : Nat) : List Fld := [R.QMG_CR_INT_threshold m, R.QMG_CR_INT_delay m, R.QMG_CR_INT_en m]

/-- The unit with that ring. -/
def FwReq.ringMade (r : FwReq) (u : State) : State :=
  (u.setRing (bits (r.w 1) 0 6) r.newRing).cold (ringIntFlds (bits (r.w 1) 0 6))

theorem crCreate_hostless (h : u.hostless = true) : r.crCreate u = u.answer r rsState := if_pos h

section Hosted

variable (hh : u.hostless = false)
include hh

theorem crCreate_bad (h : r.ringBad) : r.crCreate u = u.answer r rsBadArg := by
  rw [FwReq.crCreate, if_neg (by simp [hh])]
  exact if_pos (by simpa [FwReq.ringBad] using h)

theorem crCreate_good (h : ¬ r.ringBad) : r.crCreate u =
    if (u.ring (bits (r.w 1) 0 6)).exist then u.answer r rsNoResource
    else (r.ringMade u).answer r rsOk [(R.DBL_CR_HEAD_head (bits (r.w 1) 0 6)).off] := by
  rw [FwReq.crCreate, if_neg (by simp [hh])]
  exact if_neg (by simpa [FwReq.ringBad] using h)

theorem crCreate_taken (h : ¬ r.ringBad) (he : (u.ring (bits (r.w 1) 0 6)).exist = true) :
    r.crCreate u = u.answer r rsNoResource := (crCreate_good hh h).trans (if_pos he)

theorem crCreate_makes (h : ¬ r.ringBad) (he : (u.ring (bits (r.w 1) 0 6)).exist = false) :
    r.crCreate u = (r.ringMade u).answer r rsOk [(R.DBL_CR_HEAD_head (bits (r.w 1) 0 6)).off] :=
  (crCreate_good hh h).trans (if_neg (by simp [he]))

end Hosted

theorem ringMade_only : Only { u with rings := (r.ringMade u).rings } (r.ringMade u) (ringIntFlds (bits (r.w 1) 0 6)) :=
  (((Only.refl (u.setRing (bits (r.w 1) 0 6) r.newRing) _).put (by simp [ringIntFlds]) _).put
    (by simp [ringIntFlds]) _).put (by simp [ringIntFlds]) _

theorem ringMade_becomes : (r.ringMade u).ring (bits (r.w 1) 0 6) = r.newRing ∧
    ∀ j, j ≠ bits (r.w 1) 0 6 → (r.ringMade u).ring j = u.ring j := by
  obtain ⟨-, hsame, hother⟩ := setRing_becomes u (bits (r.w 1) 0 6) r.newRing
  exact ⟨hsame, hother⟩

/-- A queue uses the ring that CR_DESTROY names. -/
def FwReq.ringUsed (r : FwReq) (u : State) : Prop := ∃ e ∈ u.sqs, e.1 ≠ 0 ∧ e.2.state ≠ 0 ∧ e.2.cr = r.w 1

theorem crDestroy_foreign (h : u.ownsRing (r.w 1) r.mid = false) : r.crDestroy u = u.answer r rsBadArg :=
  if_pos (by simp [h])

theorem ringUsed_iff : (u.sqs.any fun e => e.1 != 0 && e.2.state != 0 && e.2.cr == r.w 1) = true ↔ r.ringUsed u := by
  simp [FwReq.ringUsed, List.any_eq_true, and_assoc]

section Owned

variable (h : u.ownsRing (r.w 1) r.mid = true)
include h

theorem crDestroy_used (hu : r.ringUsed u) : r.crDestroy u = u.answer r rsNoResource := by
  rw [FwReq.crDestroy, if_neg (by simp [h])]
  exact if_pos (ringUsed_iff.2 hu)

theorem crDestroy_unused (hu : ¬ r.ringUsed u) : r.crDestroy u =
    ((u.setRing (r.w 1) {}).setFn r.mid ((u.fn r.mid).dropRing (r.w 1))).answer r rsOk := by
  rw [FwReq.crDestroy, if_neg (by simp [h])]
  exact if_neg (mt ringUsed_iff.1 hu)

end Owned

end Rings

/-! PRG_RESUME (R343) -/

section Resume

variable {u : State} {r : FwReq}

theorem prgResume_absent (h : u.prog (r.w 1) = none) : r.prgResume u = u.answer r rsBadArg := by
  rw [FwReq.prgResume, h]

variable {p : Prog} (h : u.prog (r.w 1) = some p)
include h

theorem prgResume_own (he : p.st ≠ .ended) (ho : u.ownsSq p.sq r.mid = true) :
    r.prgResume u = (u.resume (r.w 1) p).reready.answer r rsOk := by
  rw [FwReq.prgResume, h]
  exact if_neg (by simp [he, ho])

theorem prgResume_foreign (hno : p.st = .ended ∨ u.ownsSq p.sq r.mid = false) :
    r.prgResume u = u.answer r rsBadArg := by
  rw [FwReq.prgResume, h]
  exact if_pos (by rcases hno with hno | hno <;> simp [hno])

end Resume

/-! The routing table (R517, R525) -/

section Routes

/-- Words of different entries, or different words of an entry, are different registers. -/
theorem grtWord_key {e e' i j : Nat} (hi : i < 4) (hj : j < 4) (h : e ≠ e' ∨ i ≠ j) :
    (R.GRT_W_word e i).key ≠ (R.GRT_W_word e' j).key := by
  simp only [Fld.key, R.GRT_W_word]
  omega

/-- What a step on an entry leaves: the words of every other entry. -/
def EntryOnly (e : Nat) (s t : State) : Prop :=
  ∀ e' i, e' ≠ e → i < 4 → t.get (R.GRT_W_word e' i) = s.get (R.GRT_W_word e' i)

theorem EntryOnly.putWord {s t : State} {e : Nat} (h : EntryOnly e s t) {j : Nat} (hj : j < 4) (v : Nat) :
    EntryOnly e s (t.put (R.GRT_W_word e j) v) := fun e' i he hi =>
  (State.get_put_other _ _ (grtWord_key hi hj (.inl he))).trans (h e' i he hi)

section Commit

variable (s : State) (e w0 : Nat)

theorem grtCommit_entryOnly : EntryOnly e s (s.grtCommit e w0) := by
  have h0 : EntryOnly e s s := fun _ _ _ _ => rfl
  exact (((h0.putWord (j := 1) (by decide) _).putWord (j := 2) (by decide) _).putWord (j := 3) (by decide) _).putWord
    (j := 0) (by decide) _

theorem grtCommit_word_zero : (s.grtCommit e w0).get (R.GRT_W_word e 0) = w0 % 2 ^ 32 := State.get_put_same ..

/-- The words held for an entry, once word 0 is written (R517). -/
theorem grtCommit_word_held : ∀ i ∈ [1, 2, 3], (s.grtCommit e w0).get (R.GRT_W_word e i) = s.grtHeld e i % 2 ^ 32 := by
  have hput (t : State) {i j : Nat} (hi : i < 4) (hj : j < 4) (h : i ≠ j) (v : Nat) :
      (t.put (R.GRT_W_word e j) v).get (R.GRT_W_word e i) = t.get (R.GRT_W_word e i) :=
    State.get_put_other _ _ (grtWord_key hi hj (.inr h))
  have hsame (t : State) (i v : Nat) : (t.put (R.GRT_W_word e i) v).get (R.GRT_W_word e i) = v % 2 ^ 32 :=
    State.get_put_same ..
  have hcommit (g : Fld) : (s.grtCommit e w0).get g =
      ((((s.put (R.GRT_W_word e 1) (s.grtHeld e 1)).put (R.GRT_W_word e 2) (s.grtHeld e 2)).put
        (R.GRT_W_word e 3) (s.grtHeld e 3)).put (R.GRT_W_word e 0) w0).get g := rfl
  simp only [List.forall_mem_cons, List.not_mem_nil, false_implies, implies_true, and_true, hcommit]
  refine ⟨?_, ?_, ?_⟩
  · rw [hput _ (j := 0) (by decide) (by decide) (by decide), hput _ (j := 3) (by decide) (by decide) (by decide),
      hput _ (j := 2) (by decide) (by decide) (by decide), hsame]
  · rw [hput _ (j := 0) (by decide) (by decide) (by decide), hput _ (j := 3) (by decide) (by decide) (by decide),
      hsame]
  · rw [hput _ (j := 0) (by decide) (by decide) (by decide), hsame]

end Commit

/-- Words 1 to 3 of an entry held for its commit. -/
def State.grtHold (s : State) (e : Nat) (w1 w2 w3 : Nat) : State :=
  { s with grtShadow := tset (tset (tset s.grtShadow (4 * e + 1) w1) (4 * e + 2) w2) (4 * e + 3) w3 }

theorem grtHold_held (s : State) (e w1 w2 w3 : Nat) : (s.grtHold e w1 w2 w3).grtHeld e 1 = w1 ∧
    (s.grtHold e w1 w2 w3).grtHeld e 2 = w2 ∧ (s.grtHold e w1 w2 w3).grtHeld e 3 = w3 := by
  simp [State.grtHeld, State.grtHold, tget_tset_other]

theorem grtStore_eq (s : State) (e : Nat) (d : List Byte) (k : Nat) : s.grtStore e d k =
    (s.grtHold e (loadWord d k 1) (loadWord d k 2) (loadWord d k 3)).grtCommit e (loadWord d k 0) := rfl

theorem loadWord_mod (d : List Byte) (k i : Nat) : loadWord d k i % 2 ^ 32 = loadWord d k i :=
  Nat.mod_eq_of_lt (fieldAt_lt ..)

theorem grtStore_entryOnly (s : State) (e : Nat) (d : List Byte) (k : Nat) : EntryOnly e s (s.grtStore e d k) :=
  grtCommit_entryOnly (s.grtHold e (loadWord d k 1) (loadWord d k 2) (loadWord d k 3)) e (loadWord d k 0)

theorem grtStore_words (s : State) (e : Nat) (d : List Byte) (k : Nat) :
    ∀ i < 4, (s.grtStore e d k).get (R.GRT_W_word e i) = loadWord d k i := by
  obtain ⟨h1, h2, h3⟩ := grtHold_held s e (loadWord d k 1) (loadWord d k 2) (loadWord d k 3)
  have hzero := grtCommit_word_zero (s.grtHold e (loadWord d k 1) (loadWord d k 2) (loadWord d k 3)) e (loadWord d k 0)
  have hheld := grtCommit_word_held (s.grtHold e (loadWord d k 1) (loadWord d k 2) (loadWord d k 3)) e (loadWord d k 0)
  rw [← grtStore_eq] at hzero hheld
  intro i hi
  interval_cases i
  · rw [hzero, loadWord_mod]
  · rw [hheld 1 (by simp), h1, loadWord_mod]
  · rw [hheld 2 (by simp), h2, loadWord_mod]
  · rw [hheld 3 (by simp), h3, loadWord_mod]

/-! A range of entries, one after the other -/

section Range

variable {f : State → Nat → State} {first : Nat} (hf : ∀ t k, EntryOnly (first + k) t (f t k))
include hf

theorem entries_outside (s : State) (n : Nat) : ∀ e i, e < first ∨ first + n ≤ e → i < 4 →
    ((List.range n).foldl f s).get (R.GRT_W_word e i) = s.get (R.GRT_W_word e i) := by
  induction n with
  | zero => exact fun _ _ _ _ => rfl
  | succ n ih =>
    intro e i he hi
    rw [List.range_succ, List.foldl_append]
    exact (hf _ n e i (by omega) hi).trans (ih e i (by omega) hi)

/-- The words of an entry of the range are those that its own step leaves. -/
theorem entries_inside (s : State) (n : Nat) : ∀ k < n, ∃ t, ∀ i < 4,
    ((List.range n).foldl f s).get (R.GRT_W_word (first + k) i) = (f t k).get (R.GRT_W_word (first + k) i) := by
  induction n with
  | zero => exact fun _ h => absurd h (Nat.not_lt_zero _)
  | succ n ih =>
    intro k hk
    rw [List.range_succ, List.foldl_append]
    rcases Nat.lt_succ_iff_lt_or_eq.1 hk with hlt | rfl
    · obtain ⟨t, ht⟩ := ih k hlt
      exact ⟨t, fun i hi => (hf _ n _ i (by omega) hi).trans (ht i hi)⟩
    · exact ⟨_, fun _ _ => rfl⟩

end Range

variable {u : State} {r : FwReq}

/-- GRT_LOAD names no range of the table, or no address of a fragment table. -/
def FwReq.loadBad (r : FwReq) : Prop := r.w 2 = 0 ∨ 4096 < r.w 2 ∨ 4096 < r.w 1 + r.w 2 ∨ r.w64 3 % 16 ≠ 0

theorem grtLoad_bad (h : r.loadBad) : r.grtLoad u = u.answer r rsBadArg [2 ^ 32 - 1] :=
  if_pos (by simpa [FwReq.loadBad, or_assoc] using h)

theorem grtLoad_reads (h : ¬ r.loadBad) : r.grtLoad u = u.fwTables r (16 * r.w 2) (r.w64 3) :=
  if_neg (by simpa [FwReq.loadBad, or_assoc] using h)

/-- The entries of a GRT_LOAD, committed. -/
def FwReq.routesLoaded (r : FwReq) (d : List Byte) (u : State) : State :=
  (List.range (r.w 2)).foldl (fun t k => t.grtStore (r.w 1 + k) d k) u

theorem routesLoaded_inside (d : List Byte) : ∀ k < r.w 2, ∀ i < 4,
    (r.routesLoaded d u).get (R.GRT_W_word (r.w 1 + k) i) = loadWord d k i := by
  intro k hk i hi
  obtain ⟨t, ht⟩ := entries_inside (fun t k => grtStore_entryOnly t (r.w 1 + k) d k) u (r.w 2) k hk
  exact (ht i hi).trans (grtStore_words t (r.w 1 + k) d k i hi)

theorem routesLoaded_outside (d : List Byte) : ∀ e i, e < r.w 1 ∨ r.w 1 + r.w 2 ≤ e → i < 4 →
    (r.routesLoaded d u).get (R.GRT_W_word e i) = u.get (R.GRT_W_word e i) :=
  entries_outside (fun t k => grtStore_entryOnly t (r.w 1 + k) d k) u (r.w 2)

theorem grtLoaded_good {d : List Byte} (h : ∀ k < r.w 2,
    u.grtOk (loadWord d k 0) (loadWord d k 1) (loadWord d k 2) (loadWord d k 3) = true) :
    r.grtLoaded d u = (r.routesLoaded d u).answer r rsOk [2 ^ 32 - 1] := by
  have hnone : (List.range (r.w 2)).find? (fun k =>
      !u.grtOk (loadWord d k 0) (loadWord d k 1) (loadWord d k 2) (loadWord d k 3)) = none := by
    simpa using h
  rw [FwReq.grtLoaded, hnone]
  rfl

theorem grtLoaded_bad {d : List Byte} {k : Nat} (h : (List.range (r.w 2)).find? (fun k =>
    !u.grtOk (loadWord d k 0) (loadWord d k 1) (loadWord d k 2) (loadWord d k 3)) = some k) :
    r.grtLoaded d u = u.answer r rsBadArg [r.w 1 + k] := by
  rw [FwReq.grtLoaded, h]

/-! GRT_ENABLE -/

/-- Bit 5 of word 0 of an entry set or cleared, by what GRT_ENABLE asks for. -/
def FwReq.enableWord (r : FwReq) (w : Nat) : Nat := if r.w 3 = 1 then setBit w 5 else clearBits w (2 ^ 5)

/-- The entries of a GRT_ENABLE, committed. -/
def FwReq.routesEnabled (r : FwReq) (u : State) : State :=
  (List.range (r.w 2)).foldl (fun t k => t.grtCommit (r.w 1 + k) (r.enableWord (t.get (R.GRT_W_word (r.w 1 + k) 0)))) u

theorem enableWord_en (w : Nat) : (r.enableWord w % 2 ^ 32).testBit 5 = decide (r.w 3 = 1) := by
  have hbit : (r.enableWord w).testBit 5 = decide (r.w 3 = 1) := by
    unfold FwReq.enableWord
    split_ifs with h
    · rw [testBit_setBit_same, decide_eq_true h]
    · rw [testBit_clearBits_two_pow, decide_eq_false h]
  rw [Nat.testBit_mod_two_pow, hbit]
  rfl

theorem routesEnabled_en : ∀ e, r.w 1 ≤ e → e < r.w 1 + r.w 2 →
    ((r.routesEnabled u).get (R.GRT_W_word e 0)).testBit 5 = decide (r.w 3 = 1) := by
  intro e hlo hhi
  obtain ⟨k, rfl⟩ := Nat.exists_eq_add_of_le hlo
  obtain ⟨t, ht⟩ := entries_inside (fun t k => grtCommit_entryOnly t (r.w 1 + k)
    (r.enableWord (t.get (R.GRT_W_word (r.w 1 + k) 0)))) u (r.w 2) k (by omega)
  have hword : (r.routesEnabled u).get (R.GRT_W_word (r.w 1 + k) 0) = _ :=
    (ht 0 (by decide)).trans (grtCommit_word_zero ..)
  rw [hword, enableWord_en]

theorem grtEnable_bad (h : r.w 2 = 0 ∨ 4096 < r.w 2 ∨ 4096 < r.w 1 + r.w 2) : r.grtEnable u = u.answer r rsBadArg :=
  if_pos (by simpa [or_assoc] using h)

theorem grtEnable_good (h0 : r.w 2 ≠ 0) (h : r.w 1 + r.w 2 ≤ 4096) :
    r.grtEnable u = (r.routesEnabled u).answer r rsOk := if_neg (by simp [h0]; omega)

end Routes

/-- Settles O38: at its turn each command does what its own definition says, by its sender, its operands and what it
names. -/
theorem firmwareQueues : Obligations.FirmwareQueues := by
  intro s u via chan r
  have served {code : Nat} (h : FwTurn s u via code r) {f : FwReq → State → State} {t : State} (ht : f r u = t) :
      (.next (settle (s.fwServe via code f)) : Host.Outcome State Fault Refusal) = .next (settle t) :=
    next_settle_congr ((fwServe_turn h f).trans ht)
  have loads (h : FwTurn s u via 0x20 r) {t : State} (ht : r.grtLoad u = t) :
      exec (.grtLoad via.isSome (via.getD chan)) s = .next (settle t) := by
    have hcarried := carriedBy_isSome_getD via chan
    exact (next_settle_congr (congrArg (fun c => s.fwServe c 0x20 FwReq.grtLoad) hcarried)).trans (served h ht)
  refine ⟨fun h => ⟨fun hh => served h (sqCreate_hostless hh), fun hh hb => served h (sqCreate_bad hh hb),
      fun hh hg hq => served h (sqCreate_taken hh hg hq), fun hh hg hq => ⟨r.queueMade u,
        served h (sqCreate_makes hh hg hq), queueMade_only, queueMade_becomes⟩⟩,
    fun h ho => ⟨served h (sqDestroy_own ho), fun hs hh => ⟨_, served h ?_, sqDestroy_becomes (r.w 1) hh⟩⟩,
    fun h ho => served h (sqShutdown_own ho),
    fun h ho => ⟨fun hb => served h (sqRestart_bad hb), fun ha hd => ⟨fun hh => served h ?_, fun hh => ⟨_, served h ?_,
      setSq_becomes u (r.w 1) (r.restarted u)⟩⟩⟩,
    fun h => ⟨fun hh => served h (crCreate_hostless hh), fun hh hb => served h (crCreate_bad hh hb),
      fun hh hg he => served h (crCreate_taken hh hg he), fun hh hg he => ⟨r.ringMade u,
        served h (crCreate_makes hh hg he), ringMade_only, ringMade_becomes⟩⟩,
    fun h => ⟨fun hf => served h (crDestroy_foreign hf), fun ho hu => served h (crDestroy_used ho hu),
      fun ho hu => served h (crDestroy_unused ho hu)⟩, ?_,
    fun h => ⟨fun hn => served h (prgResume_absent hn), fun p hp => ⟨fun he ho => served h (prgResume_own hp he ho),
      fun hno => served h (prgResume_foreign hp hno)⟩⟩,
    fun h => ⟨fun hb => loads h (grtLoad_bad hb), fun hg => loads h (grtLoad_reads hg)⟩,
    fun d => ⟨fun hok => ⟨_, grtLoaded_good hok, routesLoaded_inside d, routesLoaded_outside d⟩,
      fun k hk => grtLoaded_bad hk⟩,
    fun h => ⟨fun hb => served h (grtEnable_bad hb), fun h0 hn => ⟨_, served h (grtEnable_good h0 hn),
      routesEnabled_en⟩⟩⟩
  · exact (sqDestroy_own ho).trans (by rw [if_pos hs])
  · exact (sqRestart_good ho ha hd).trans (if_pos hh)
  · exact (sqRestart_good ho ha hd).trans (if_neg (not_not.2 hh))
  · simp only [List.forall_mem_cons, List.not_mem_nil, false_implies, implies_true, and_true]
    exact ⟨fun h hf => served h (sqDestroy_foreign hf), fun h hf => served h (sqShutdown_foreign hf),
      fun h hf => served h (sqRestart_foreign hf)⟩

end Sys2Proof.Machine

end

section

namespace Sys2Proof.Machine

/-! ### The Tumbler (O20) -/

section Tumbler

variable {s t : State} {c : Nat} {w : Who}

theorem tumblerRead_foreign (h : s.isSender c w.mid = false) :
    s.tumblerRead c w = (s.keywayViolation c w false, 0) := if_pos (by simp [h])

theorem tumblerRead_free (h : s.isSender c w.mid = true) (ho : (s.chan c).owner = none) :
    s.tumblerRead c w = (s.setChan c { s.chan c with owner := some w.key }, 0) := by
  unfold State.tumblerRead
  rw [if_neg (by simp [h]), ho]

theorem tumblerRead_held {o : Nat × Nat} (h : s.isSender c w.mid = true) (ho : (s.chan c).owner = some o) :
    s.tumblerRead c w = (s, if o = w.key then 0 else o.1 + 1) := by
  unfold State.tumblerRead
  rw [if_neg (by simp [h]), ho]

theorem tumblerWrite_foreign (v : Nat) (h : s.isSender c w.mid = false) :
    s.tumblerWrite c w v = s.keywayViolation c w true := if_pos (by simp [h])

theorem tumblerWrite_frees {v : Nat} (h : s.isSender c w.mid = true) (ho : (s.chan c).owner = some w.key)
    (hv : v = w.mid + 1) : s.tumblerWrite c w v = s.setChan c { s.chan c with owner := none } := by
  unfold State.tumblerWrite
  rw [if_neg (by simp [h]), if_pos (by simp [State.ownsTumbler, ho, hv])]

theorem tumblerWrite_ignored {v : Nat} (h : s.isSender c w.mid = true)
    (hno : (s.chan c).owner ≠ some w.key ∨ v ≠ w.mid + 1) : s.tumblerWrite c w v = s := by
  unfold State.tumblerWrite
  rw [if_neg (by simp [h]), if_neg (by simpa [State.ownsTumbler, ← not_and_or] using hno)]

theorem exec_tumblerRead {c : Fin 16} {mid origin} {v : Nat} (hup : s.answers = true)
    (h : s.tumblerRead c (who mid origin) = (t, v)) :
    exec (.tumblerRead c mid origin) s = .next (settle { t with readData := v }) :=
  next_settle_congr ((State.whenUp_of_answers hup _).trans
    (congrArg (fun r : State × Nat => { r.1 with readData := r.2 }) h))

theorem exec_tumblerRelease {c : Fin 16} {mid origin} {v : BitVec 5} (hup : s.answers = true)
    (h : s.tumblerWrite c (who mid origin) v.toNat = t) :
    exec (.tumblerRelease c mid origin v) s = .next (settle t) :=
  next_settle_congr ((State.whenUp_of_answers hup _).trans h)

end Tumbler

/-- Settles O20: the reads by who owns the lock, the writes by their value, and both by whether the MID is the bound
sender. -/
theorem tumblerLocks : Obligations.TumblerLocks := by
  intro s c mid origin w
  refine ⟨fun hup hs => ⟨fun ho => ?_, fun o ho => ?_, fun v ho hv => ?_, fun v hno => ?_⟩,
    fun hup hs => ⟨?_, fun v => ?_⟩, fun hdown => ⟨?_, fun v => ?_⟩⟩
  · exact ⟨_, exec_tumblerRead hup (tumblerRead_free hs ho), setChan_becomes ..⟩
  · exact exec_tumblerRead hup (tumblerRead_held hs ho)
  · exact ⟨_, exec_tumblerRelease hup (tumblerWrite_frees hs ho hv), setChan_becomes ..⟩
  · exact exec_tumblerRelease hup (tumblerWrite_ignored hs hno)
  · exact ⟨_, exec_tumblerRead hup (tumblerRead_foreign hs), keywayViolation_violated ..⟩
  · exact ⟨_, exec_tumblerRelease hup (tumblerWrite_foreign v.toNat hs), keywayViolation_violated ..⟩
  · exact next_settle_congr (State.whenUp_of_not_answers hdown _)
  · exact next_settle_congr (State.whenUp_of_not_answers hdown _)

end Sys2Proof.Machine

end

section

namespace Sys2Proof.Machine

/-! ### Mailbox messages (O21) -/

/-! What a cause of a channel, and a channel written, leave unchanged -/

theorem mbxCause_ne_count (c bit : Nat) : (R.MBX_EVT_cause c).key ≠ (R.MBX_CNT_count c bit).key := by
  simp only [Fld.key, R.MBX_EVT_cause, R.MBX_CNT_count]
  omega

theorem mbxCount_ne_count (c : Nat) {i j : Nat} (h : i ≠ j) :
    (R.MBX_CNT_count c i).key ≠ (R.MBX_CNT_count c j).key := by
  simp only [Fld.key, R.MBX_CNT_count]
  omega

theorem mbxRaise_only (s : State) (c bit : Nat) :
    Only s (s.mbxRaise c bit) [R.MBX_EVT_cause c, R.MBX_CNT_count c bit] :=
  (Only.refl s _).raise (by simp) (by simp) bit

theorem mbxRaise_raised (s : State) (c bit : Nat) :
    Raised s (s.mbxRaise c bit) (R.MBX_EVT_cause c) bit (R.MBX_CNT_count c bit) :=
  raised_raise s bit (mbxCause_ne_count c bit)

theorem chan_setChan_same (s : State) (c : Nat) (x : Chan) : (s.setChan c x).chan c = x := tget_tput_same ..

theorem chan_setChan_other (s : State) {c d : Nat} (x : Chan) (h : d ≠ c) : (s.setChan c x).chan d = s.chan d :=
  (setChan_becomes s c x).2.2 d h

/-- A channel written changes no register. -/
theorem Only.setChan {s t : State} {fs : List Fld} (h : Only { s with chans := t.chans } t fs) (c : Nat) (x : Chan) :
    Only { s with chans := (t.setChan c x).chans } (t.setChan c x) fs :=
  ⟨congrArg (fun u : State => { u with chans := (t.setChan c x).chans }) h.1, h.2⟩

section Messages

variable {s t : State} {c : Nat} {w : Who}

/-! go (R269, R270) -/

theorem mailboxGo_foreign (release : Bool) (h : s.isSender c w.mid = false) :
    s.mailboxGo c w release = s.keywayViolation c w true := if_pos (by simp [h])

theorem mailboxGo_marks (release : Bool) (h : s.isSender c w.mid = true) (hm : s.mayTransmit c w = true) :
    s.mailboxGo c w release =
      s.setChan c { s.chan c with going := true, goRelease := release, goBy := w.key } := by
  unfold State.mailboxGo
  rw [if_neg (by simp [h]), if_pos hm]

theorem mailboxGo_denied (release : Bool) (h : s.isSender c w.mid = true) (hm : s.mayTransmit c w = false) :
    s.mailboxGo c w release = s.mbxRaise c 2 := by
  unfold State.mailboxGo
  rw [if_neg (by simp [h]), if_neg (by simp [hm])]

/-! The copy into the staging stage (R270, R272) -/

/-- The message that the transmit words of a channel hold, with the identity that wrote go. -/
def transmitMsg (s : State) (c : Nat) : Msg :=
  { mid := (s.chan c).goBy.1, addr := (s.chan c).goBy.2,
    words := (List.range (msgLen (s.get (R.MBX_TX_word c 0)))).map fun i => s.get (R.MBX_TX_word c i) }

theorem mailboxCopy_idle (h : (s.chan c).going = false ∨ (s.chan c).staging ≠ none) : s.mailboxCopy c = s :=
  if_neg (by rcases h with h | h <;> simp [h])

theorem mailboxCopy_stages (hgo : (s.chan c).going = true) (hfree : (s.chan c).staging = none) :
    s.mailboxCopy c = s.setChan c { s.chan c with
      going := false, goRelease := false, goBy := (0, 0), staging := some (transmitMsg s c)
      owner := if (s.chan c).goRelease = true ∧ (s.chan c).owner = some (s.chan c).goBy then none
        else (s.chan c).owner } := by
  unfold State.mailboxCopy
  simp only [hgo, hfree, Option.isNone_none, Bool.and_self, if_true, Bool.and_eq_true, beq_iff_eq, transmitMsg]

/-! The check and delivery (R265, R271) -/

/-- The staging stage emptied. -/
def unstaged (s : State) (c : Nat) : State := s.setChan c { s.chan c with staging := none }

theorem mailboxCheck_idle (h : (s.chan c).staging = none) : s.mailboxCheck c = s := by
  simp only [State.mailboxCheck, h]

theorem mailboxCheck_sound {m : Msg} (h : (s.chan c).staging = some m) (hok : msgOk m.words = true) :
    s.mailboxCheck c = (unstaged s c).mailboxDeliver c m := by
  simp only [State.mailboxCheck, h, hok, if_true, unstaged]

/-- What the fault collector is told of a malformed message (R271). -/
def malformedEvent (c : Nat) (m : Msg) : FaultEv :=
  { src := 5, detail := 1, res := c, mid := some m.mid, addr := if m.mid = 4 then some m.addr else none }

theorem mailboxCheck_malformed {m : Msg} (h : (s.chan c).staging = some m) (hbad : msgOk m.words = false) :
    s.mailboxCheck c = ((unstaged s c).mbxRaise c 1).fault (malformedEvent c m) := by
  simp only [State.mailboxCheck, h, hbad, Bool.false_eq_true, if_false, unstaged, malformedEvent]

/-- A message at the end of the queue, and counted. -/
def queued (s : State) (c : Nat) (m : Msg) : State :=
  (s.count (R.MBX_CNT_count c 4)).setChan c { s.chan c with queue := (s.chan c).queue ++ [m] }

theorem mailboxDeliver_queues (m : Msg) (h : (s.chan c).queue.length < 4) : s.mailboxDeliver c m = queued s c m :=
  if_pos h

theorem mailboxDeliver_full (m : Msg) (h : 4 ≤ (s.chan c).queue.length) :
    s.mailboxDeliver c m = (s.count (R.MBX_CNT_count c 4)).mbxRaise c 0 :=
  if_neg (Nat.not_lt.2 h)

theorem unstaged_chan (s : State) (c : Nat) : (unstaged s c).chan c = { s.chan c with staging := none } :=
  chan_setChan_same ..

theorem unstaged_count_only (s : State) (c : Nat) {fs : List Fld} (h : R.MBX_CNT_count c 4 ∈ fs) :
    Only { s with chans := ((unstaged s c).count (R.MBX_CNT_count c 4)).chans }
      ((unstaged s c).count (R.MBX_CNT_count c 4)) fs :=
  (Only.refl (unstaged s c) fs).put h _

/-- What the delivery of a staged message to a queue of fewer than four changes. -/
theorem unstaged_queued (s : State) (c : Nat) (m : Msg) :
    Only { s with chans := (queued (unstaged s c) c m).chans } (queued (unstaged s c) c m) [R.MBX_CNT_count c 4] ∧
      (queued (unstaged s c) c m).get (R.MBX_CNT_count c 4) = s.plus (R.MBX_CNT_count c 4) 1 ∧
      (queued (unstaged s c) c m).chan c = { s.chan c with staging := none, queue := (s.chan c).queue ++ [m] } ∧
      ∀ d, d ≠ c → (queued (unstaged s c) c m).chan d = s.chan d := by
  refine ⟨(unstaged_count_only s c (by simp)).setChan .., State.get_count_same .., ?_, fun d hd => ?_⟩
  · rw [queued, chan_setChan_same, unstaged_chan]
  · exact (chan_setChan_other _ _ hd).trans (chan_setChan_other s _ hd)

/-- What a staged message dropped on a full queue changes. -/
theorem unstaged_full (s : State) (c : Nat) :
    let t := ((unstaged s c).count (R.MBX_CNT_count c 4)).mbxRaise c 0
    Only { s with chans := t.chans } t [R.MBX_CNT_count c 4, R.MBX_EVT_cause c, R.MBX_CNT_count c 0] ∧
      t.chan c = { s.chan c with staging := none } ∧
      Raised s t (R.MBX_EVT_cause c) 0 (R.MBX_CNT_count c 0) := by
  refine ⟨(unstaged_count_only s c (by simp)).raise (by simp) (by simp) 0, unstaged_chan s c, ?_⟩
  obtain ⟨hcause, hcount⟩ := mbxRaise_raised ((unstaged s c).count (R.MBX_CNT_count c 4)) c 0
  rw [State.get_count_other _ _ (mbxCause_ne_count c 4)] at hcause
  rw [State.plus, State.get_count_other _ _ (mbxCount_ne_count c (by decide))] at hcount
  exact ⟨hcause, hcount⟩

/-- What a malformed message changes. -/
theorem unstaged_malformed (s : State) (c : Nat) (m : Msg) :
    let t := ((unstaged s c).mbxRaise c 1).fault (malformedEvent c m)
    Only { s with chans := t.chans, dueFaults := t.dueFaults } t [R.MBX_EVT_cause c, R.MBX_CNT_count c 1] ∧
      t.chan c = { s.chan c with staging := none } ∧
      Raised s t (R.MBX_EVT_cause c) 1 (R.MBX_CNT_count c 1) ∧
      ∃ e, t.dueFaults = s.dueFaults ++ [e] ∧ e.src = 5 ∧ e.detail = 1 ∧ e.res = c :=
  ⟨mbxRaise_only ((unstaged s c).fault (malformedEvent c m)) c 1, unstaged_chan s c,
    mbxRaise_raised (unstaged s c) c 1, malformedEvent c m, rfl, rfl, rfl, rfl⟩

/-! pop (R273) -/

theorem mailboxPop_foreign (h : s.isReceiver c w.mid = false) : s.mailboxPop c w = s.keywayViolation c w true :=
  if_pos (by simp [h])

theorem mailboxPop_empty (h : s.isReceiver c w.mid = true) (hq : (s.chan c).queue = []) :
    s.mailboxPop c w = s.mbxRaise c 3 := by
  unfold State.mailboxPop
  rw [if_neg (by simp [h]), if_pos (by simp [hq])]

theorem mailboxPop_drops (h : s.isReceiver c w.mid = true) (hq : (s.chan c).queue ≠ []) :
    s.mailboxPop c w = s.setChan c { s.chan c with queue := (s.chan c).queue.drop 1 } := by
  unfold State.mailboxPop
  rw [if_neg (by simp [h]), if_neg (by simpa using hq), State.mailboxDrop]

end Messages

/-! The commands -/

section Commands

variable {s t : State} {c : Fin 16} (hup : s.answers = true)
include hup

theorem exec_mailboxGo {mid origin release} (h : s.mailboxGo c (who mid origin) release = t) :
    exec (.mailboxGo c mid origin release) s = .next (settle t) :=
  next_settle_congr ((State.whenUp_of_answers hup _).trans h)

theorem exec_mailboxCopy (h : s.mailboxCopy c = t) : exec (.mailboxCopy c) s = .next t :=
  next_congr ((State.whenUp_of_answers hup _).trans h)

theorem exec_mailboxCheck (h : s.mailboxCheck c = t) : exec (.mailboxCheck c) s = .next (settle t) :=
  next_settle_congr ((State.whenUp_of_answers hup _).trans h)

theorem exec_mailboxPop {mid origin} (h : s.mailboxPop c (who mid origin) = t) :
    exec (.mailboxPop c mid origin) s = .next (settle t) :=
  next_settle_congr ((State.whenUp_of_answers hup _).trans h)

end Commands

/-- A step that acts only while registers answer, and then changes nothing, changes nothing. -/
theorem State.whenUp_of_idle {s : State} {f : State → State} (h : f s = s) : s.whenUp f = s :=
  (congrArg (ite _ · s) h).trans (ite_self s)

/-- Settles O21: go and pop by their party and by the state of the channel, the copy and the check by what they find,
the check by the message and the room in the queue. -/
theorem messagesMove : Obligations.MessagesMove := by
  intro s c
  refine ⟨fun h => ?_, fun h => ?_, fun hup => ⟨fun mid origin rel hs => ⟨fun hm => ?_, fun hm => ?_⟩,
    fun mid origin rel hs => ?_, fun hgo hfree => ?_,
    fun m hm => ⟨fun hok hroom => ?_, fun hok hfull => ?_, fun hbad => ?_⟩,
    fun mid origin hr => ⟨fun hq => ?_, fun hq => ?_⟩, fun mid origin hr => ?_⟩⟩
  · rcases h with h | h | h
    · exact next_congr (State.whenUp_of_idle (mailboxCopy_idle (.inl h)))
    · exact next_congr (State.whenUp_of_idle (mailboxCopy_idle (.inr h)))
    · exact next_congr (State.whenUp_of_not_answers h _)
  · rcases h with h | h
    · exact next_settle_congr (State.whenUp_of_idle (mailboxCheck_idle h))
    · exact next_settle_congr (State.whenUp_of_not_answers h _)
  · exact ⟨_, exec_mailboxGo hup (mailboxGo_marks rel hs hm), setChan_becomes ..⟩
  · exact ⟨_, exec_mailboxGo hup (mailboxGo_denied rel hs hm), mbxRaise_only s c 2, mbxRaise_raised s c 2⟩
  · exact ⟨_, exec_mailboxGo hup (mailboxGo_foreign rel hs), keywayViolation_violated ..⟩
  · exact ⟨_, _, exec_mailboxCopy hup (mailboxCopy_stages hgo hfree), setChan_becomes .., rfl, rfl, rfl⟩
  · have hroom' : ((unstaged s c).chan c).queue.length < 4 := by rwa [unstaged_chan]
    exact ⟨_, exec_mailboxCheck hup ((mailboxCheck_sound hm hok).trans (mailboxDeliver_queues m hroom')),
      unstaged_queued s c m⟩
  · have hfull' : 4 ≤ ((unstaged s c).chan c).queue.length := by rwa [unstaged_chan]
    exact ⟨_, exec_mailboxCheck hup ((mailboxCheck_sound hm hok).trans (mailboxDeliver_full m hfull')),
      unstaged_full s c⟩
  · exact ⟨_, exec_mailboxCheck hup (mailboxCheck_malformed hm hbad), unstaged_malformed s c m⟩
  · exact ⟨_, exec_mailboxPop hup (mailboxPop_drops hr hq), setChan_becomes ..⟩
  · exact ⟨_, exec_mailboxPop hup (mailboxPop_empty hr hq), mbxRaise_only s c 3, mbxRaise_raised s c 3⟩
  · exact ⟨_, exec_mailboxPop hup (mailboxPop_foreign hr), keywayViolation_violated ..⟩

end Sys2Proof.Machine

end

section

namespace Sys2Proof.Machine

/-! ### CONTROL, SENSE, WAIT_EVENT and MARK (O19) -/

theorem setOp_op (s : State) (a : Nat) (o : Op) :
    s.setOp a o = { s with ops := (s.setOp a o).ops } ∧
    (s.setOp a o).op a = some o ∧ ∀ b, b ≠ a → (s.setOp a o).op b = s.op b :=
  ⟨rfl, tget_tset_same .., fun _ hb => tget_tset_other _ hb⟩

theorem endOp_opEnded (s : State) (a status detail : Nat) : OpEnded s (s.endOp a status detail) a status detail := by
  unfold OpEnded State.endOp State.updOp
  cases h : s.op a with
  | none => exact ⟨rfl, fun _ _ => rfl, h⟩
  | some o =>
    obtain ⟨hrec, hsame, hother⟩ :=
      setOp_op s a (if o.ended.isSome then o else { o with ended := some (status, detail) })
    exact ⟨hrec, hother, hsame⟩

/-- The event of a WAIT_EVENT on this unit already stands: a packet is pending, or a line of the expansion bus is active
(R332, R373). -/
def State.waitStands (s : State) (o : Op) : Bool :=
  (o.first.func == 0x01 && s.pendingFor o.first.cls (devIndex o.first.dev) o.first.sub) ||
    (o.first.func == 0x0A && s.lxbIrqs.testBit (o.first.param % 4))

section PortOps

variable {s : State} {a : Nat} {o : Op}

/-! CONTROL (R331) -/

theorem control_none (h : s.liveWith a ocControl = none) : s.control a = s := by
  simp only [State.control, h]

theorem control_far (h : s.liveWith a ocControl = some o) (hfar : s.opFar a o = true) : s.control a = s.farStart a := by
  simp only [State.control, h, if_pos hfar]

theorem control_issues (h : s.liveWith a ocControl = some o) (hnear : s.opFar a o = false) :
    s.control a = s.setOp a { o with begun := true, handedLast := true } := by
  simp only [State.control, h, hnear, Bool.false_eq_true, if_false]

/-! SENSE (R408) -/

theorem sense_none (h : s.liveWith a ocSense = none) : s.sense a = s := by
  simp only [State.sense, h]

theorem sense_far (h : s.liveWith a ocSense = some o) (hfar : s.opFar a o = true) : s.sense a = s.farStart a := by
  simp only [State.sense, h, if_pos hfar]

theorem sense_waits (h : s.liveWith a ocSense = some o) (hnear : s.opFar a o = false)
    (hw : o.chainRead = false ∨ s.writesHeld a = true) : s.sense a = s := by
  simp only [State.sense, h, hnear, Bool.false_eq_true, if_false]
  exact if_pos (by simpa using hw)

theorem sense_short (h : s.liveWith a ocSense = some o) (hnear : s.opFar a o = false) (hread : o.chainRead = true)
    (hfree : s.writesHeld a = false) (hshort : o.areaReady a 32 = false) : s.sense a = s.areaShort a o := by
  simp [State.sense, h, hnear, hread, hfree, hshort]

theorem sense_delivers (h : s.liveWith a ocSense = some o) (hnear : s.opFar a o = false) (hread : o.chainRead = true)
    (hfree : s.writesHeld a = false) (hready : o.areaReady a 32 = true) : s.sense a =
      ((s.senseBlock o.first.cls (devIndex o.first.dev)).1.deliver a
        ((s.senseBlock o.first.cls (devIndex o.first.dev)).2.take o.room) false).endOp a stSuccess 0 := by
  simp [State.sense, h, hnear, hread, hfree, hready]

/-! WAIT_EVENT (R332) -/

theorem waitEvent_none (h : s.liveWith a ocWait = none) : s.waitEvent a = s := by
  simp only [State.waitEvent, h]

theorem waitEvent_far (h : s.liveWith a ocWait = some o) (hfar : s.opFar a o = true) :
    s.waitEvent a = s.farStart a := by
  simp only [State.waitEvent, h, if_pos hfar]

theorem waitEvent_stands (h : s.liveWith a ocWait = some o) (hnear : s.opFar a o = false)
    (hs : s.waitStands o = true) : s.waitEvent a = s.endOp a stSuccess 0 := by
  simp only [State.waitEvent, h, hnear, Bool.false_eq_true, if_false]
  simp only [State.waitStands, Bool.or_eq_true, Bool.and_eq_true, beq_iff_eq] at hs
  rcases hs with hpending | hline
  · exact if_pos (by simpa using hpending)
  · exact (congrArg _ (if_pos (by simpa using hline))).trans (ite_self _)

theorem waitEvent_waits (h : s.liveWith a ocWait = some o) (hnear : s.opFar a o = false)
    (hs : s.waitStands o = false) : s.waitEvent a = s := by
  simp only [State.waitEvent, h, hnear, Bool.false_eq_true, if_false]
  simp only [State.waitStands, Bool.or_eq_false_iff] at hs
  obtain ⟨hpending, hline⟩ := hs
  rw [if_neg (by simpa using hpending), if_neg (by simpa using hline)]

/-! ENGINE_TIMER_EXPIRY (R332) -/

theorem timerExpiry_none (h : s.liveWith a ocWait = none) : s.timerExpiry a = s := by
  simp only [State.timerExpiry, h]

theorem timerExpiry_ends (h : s.liveWith a ocWait = some o) (hf : o.first.func = 0x0F) :
    s.timerExpiry a = s.endOp a stSuccess 0 := by
  simp only [State.timerExpiry, h, if_pos hf]

theorem timerExpiry_other (h : s.liveWith a ocWait = some o) (hf : o.first.func ≠ 0x0F) : s.timerExpiry a = s := by
  simp only [State.timerExpiry, h, if_neg hf]

end PortOps

/-! MARK (R358) -/

section Mark

variable {s : State} {tag : Nat} {o : Op} {p : Prog}

theorem mark_none (h : s.liveWith tag ocMark = none ∨ s.prog tag = none) : s.mark tag = s := by
  unfold State.mark
  rcases h with h | h
  · rw [h]
  · rw [h]
    cases s.liveWith tag ocMark <;> rfl

theorem mark_begun (h : s.liveWith tag ocMark = some o) (hp : s.prog tag = some p) (hb : o.begun = true) :
    s.mark tag = s := by
  simp only [State.mark, h, hp, if_pos hb]

theorem mark_pushes (h : s.liveWith tag ocMark = some o) (hp : s.prog tag = some p) (hb : o.begun = false) :
    s.mark tag =
      let r := (s.setOp tag { o with begun := true }).tracePush .mark
        { type := 0x30, mid := 3, tag := some tag, sq := p.sq, arg0 := o.first.param, arg1 := o.firstAddr }
      if r.2 then r.1 else r.1.endOp tag stSuccess 0 := by
  simp only [State.mark, h, hp, hb, Bool.false_eq_true, if_false]

end Mark

/-- Settles O19: each command by whether its operation is live and on this unit, a SENSE by what its area holds, a WAIT
by its event, a MARK by whether it has begun. -/
theorem controlSenseWaitMark : Obligations.ControlSenseWaitMark := by
  intro s a
  refine ⟨?_, fun o h hnear => ?_,
    fun o h hnear => ⟨fun hw => ?_, fun hread hfree => ⟨fun hshort => ?_, fun hready => ?_⟩⟩,
    fun o h hnear => ⟨fun hs => ?_, fun hs => ?_⟩, fun tag => ⟨fun o h => ⟨fun hf => ?_, fun hf => ?_⟩, fun h => ?_,
      fun o p h hp => ⟨fun hb => ?_, fun hb => ?_⟩, fun h => ?_⟩⟩
  · simp only [List.forall_mem_cons, List.not_mem_nil, false_implies, implies_true, and_true]
    exact ⟨⟨fun h => next_settle_congr (control_none h), fun _ h hfar => next_settle_congr (control_far h hfar)⟩,
      ⟨fun h => next_settle_congr (sense_none h), fun _ h hfar => next_settle_congr (sense_far h hfar)⟩,
      fun h => next_settle_congr (waitEvent_none h), fun _ h hfar => next_settle_congr (waitEvent_far h hfar)⟩
  · exact ⟨_, next_settle_congr (control_issues h hnear), setOp_op ..⟩
  · exact next_settle_congr (sense_waits h hnear hw)
  · exact next_settle_congr (sense_short h hnear hread hfree hshort)
  · exact next_settle_congr (sense_delivers h hnear hread hfree hready)
  · exact ⟨_, next_settle_congr (waitEvent_stands h hnear hs), endOp_opEnded ..⟩
  · exact next_settle_congr (waitEvent_waits h hnear hs)
  · exact ⟨_, next_settle_congr (timerExpiry_ends h hf), endOp_opEnded ..⟩
  · exact next_settle_congr (timerExpiry_other h hf)
  · exact next_settle_congr (timerExpiry_none h)
  · exact next_settle_congr (mark_begun h hp hb)
  · exact next_settle_congr (mark_pushes h hp hb)
  · exact next_settle_congr (mark_none h)

end Sys2Proof.Machine

end

section

namespace Sys2Proof.Machine

/-! ### Programs take their CCWs (O17) -/

/-- The program before a CCW that would suspend it, with the RESUME it remembers used up (R342). -/
def Prog.usesResume (p : Prog) (c : Ccw) : Prog :=
  if c.sus && !p.resumed && p.resume then { p with resume := false, resumed := true } else p

/-- The program suspends before a CCW (R342). -/
def Prog.suspendsAt (p : Prog) (c : Ccw) : Bool := c.sus && !p.resumed && !p.resume && !p.restarted

/-- What the operation of a continuation CCW has taken so far (R339). -/
def Op.chainOf (o : Op) : ChainOf := { first := o.first, ccws := o.chained, bytes := (o.segs.map (·.ccw.bytes)).sum }

/-- The end of a program at a CCW that breaks rule d (R360): of rule 1 nothing of the CCW is kept. -/
def State.ccwRefused (s : State) (tag : Nat) (p : Prog) (c : Ccw) (d : Nat) : State :=
  (s.setProg tag { p with cur := if d = 1 then {} else c }).endCcw tag stMalformedCcw d (if d = 1 then 0 else c.bytes)

/-- The area of a continuation CCW added to its program's operation (R339). -/
def State.chainAdd (s : State) (tag : Nat) (p : Prog) (c : Ccw) : State :=
  (((s.setProg tag { p with cur := c, src := p.nextSrc, ccwRead := none }).updOp tag fun x =>
    { x with segs := x.segs ++ [mkSeg x.first.skp c p.ccwAddr], chained := x.chained + 1,
             lastFlags := c.flags, chainRead := !c.dc }).pumpTable tag).farStart tag

/-- The program has read a JUMP that is carried out now (R345). -/
def JumpsAt (s : State) (tag : Nat) (p : Prog) (bs : List Byte) : Prop :=
  TurnOf s tag p ∧ s.behind p = false ∧ (Ccw.parse bs).opcode = ocJump ∧ ccwFault bs none = none ∧
    ∀ o, s.op tag = some o → o.chainRead = false

/-- A JUMP started: counted and traced (R335, R345). -/
def State.jumpStarted (s : State) (tag : Nat) (p : Prog) (c : Ccw) : State :=
  (s.setProg tag { p with cur := c, started := true }).ccwStarted tag p.ccwAddr c

section Reading

variable {s : State} {tag : Nat} {p : Prog}

theorem readCcw_inline (hs : p.started = false) (hi : p.inline ≠ []) :
    s.readCcw tag p = s.setProg tag { p with ccwRead := some p.inline, ccwAddr := 0 } :=
  if_pos (by simp [hs, hi])

theorem readCcw_plain (hi : p.started = true ∨ p.inline = []) (ht : p.src.viaTable = false) : s.readCcw tag p =
    (s.setProg tag { p with ccwWait := true, ccwAddr := p.src.addr }).hostRead p.fn p.src.addr 32 (.ccw tag) := by
  unfold State.readCcw
  rw [if_neg (by rcases hi with h | h <;> simp [h]), if_pos (by simp [ht])]

end Reading

/-! A CCW that begins an operation (R342, R360) -/

section Taking

variable {s : State} {tag : Nat} {p : Prog} {bs : List Byte}

theorem takeCcw_refused {d : Nat} (h : ccwFault bs none = some d) :
    s.takeCcw tag p bs = s.ccwRefused tag p (Ccw.parse bs) d := by
  simp only [State.takeCcw, h, State.ccwRefused]

section Sound

variable (hok : ccwFault bs none = none)
include hok

theorem takeCcw_waits (h : (Ccw.parse bs).opcode = ocJump ∨ s.behind p = true) : s.takeCcw tag p bs = s := by
  simp only [State.takeCcw, hok]
  exact if_pos (by simpa using h)

variable (hop : (Ccw.parse bs).opcode ≠ ocJump) (hb : s.behind p = false)
include hop hb

theorem takeCcw_suspends (h : p.suspendsAt (Ccw.parse bs) = true) :
    s.takeCcw tag p bs = s.suspend tag { p with cur := Ccw.parse bs } := by
  simp only [State.takeCcw, hok]
  rw [if_neg (by simp [hop, hb])]
  exact if_pos h

variable (hs : p.suspendsAt (Ccw.parse bs) = false)
include hs

theorem takeCcw_held {st : PState} (h : s.heldBy (p.usesResume (Ccw.parse bs)) (Ccw.parse bs) = some st) :
    s.takeCcw tag p bs = s.setProg tag { p.usesResume (Ccw.parse bs) with cur := Ccw.parse bs, st := st } := by
  simp only [State.takeCcw, hok]
  rw [if_neg (by simp [hop, hb])]
  refine (if_neg (ne_true_of_eq_false hs)).trans ?_
  unfold Prog.usesResume at h ⊢
  simp only [h]

theorem takeCcw_starts (h : s.heldBy (p.usesResume (Ccw.parse bs)) (Ccw.parse bs) = none) :
    s.takeCcw tag p bs = s.startCcw tag (p.usesResume (Ccw.parse bs)) (Ccw.parse bs) := by
  simp only [State.takeCcw, hok]
  rw [if_neg (by simp [hop, hb])]
  refine (if_neg (ne_true_of_eq_false hs)).trans ?_
  unfold Prog.usesResume at h ⊢
  simp only [h]

end Sound

/-! A CCW that continues an operation (R339) -/

variable {o : Op}

theorem takeChained_refused {d : Nat} (h : ccwFault bs (some o.chainOf) = some d) :
    s.takeChained tag p o bs = s.ccwRefused tag p (Ccw.parse bs) d := by
  unfold Op.chainOf at h
  simp only [State.takeChained, h, State.ccwRefused]

theorem takeChained_jump (h : ccwFault bs (some o.chainOf) = none) (hop : (Ccw.parse bs).opcode = ocJump) :
    s.takeChained tag p o bs = s := by
  unfold Op.chainOf at h
  simp only [State.takeChained, h, if_pos hop]

theorem takeChained_adds (h : ccwFault bs (some o.chainOf) = none) (hop : (Ccw.parse bs).opcode ≠ ocJump) :
    s.takeChained tag p o bs = s.chainAdd tag p (Ccw.parse bs) := by
  unfold Op.chainOf at h
  simp only [State.takeChained, h, if_neg hop, State.chainAdd]

end Taking

/-! The turn (R337, R340) -/

section Turn

variable {s : State} {tag : Nat} {p : Prog}

/-- What keeps the engine from a program, as CCW_START tests it. -/
theorem turn_refused_iff (s : State) (tag : Nat) (p : Prog) :
    (!s.dutyOpen || !s.mayTake tag p || p.ccwWait || !s.hasTurn tag p) = true ↔
      ¬ TurnOf s tag p ∨ p.ccwWait = true := by
  simp only [TurnOf, not_and_or, Bool.or_eq_true, Bool.not_eq_eq_eq_not, Bool.not_true, Bool.not_eq_true]
  tauto

theorem turn_taken (ht : TurnOf s tag p) (hw : p.ccwWait = false) :
    (!s.dutyOpen || !s.mayTake tag p || p.ccwWait || !s.hasTurn tag p) = false := by
  simpa [ht, hw] using mt (turn_refused_iff s tag p).1

theorem ccwTurn_none (h : s.prog tag = none) : s.ccwTurn tag = s := by
  simp only [State.ccwTurn, h]

variable (hp : s.prog tag = some p)
include hp

theorem ccwTurn_idle (h : ¬ TurnOf s tag p ∨ p.ccwWait = true) : s.ccwTurn tag = s := by
  simp only [State.ccwTurn, hp]
  exact if_pos ((turn_refused_iff s tag p).2 h)

variable (ht : TurnOf s tag p) (hw : p.ccwWait = false)
include ht hw

theorem ccwTurn_failed (hf : p.ccwFailed = true) :
    s.ccwTurn tag = (s.setProg tag { p with cur := {} }).endCcw tag stMalformedCcw 0x01 0 := by
  simp [State.ccwTurn, hp, turn_taken ht hw, hf]

variable (hf : p.ccwFailed = false)
include hf

theorem ccwTurn_reads (hr : p.ccwRead = none) (ho : s.op tag = none ∨ ∃ o, s.op tag = some o ∧ o.chainRead = false) :
    s.ccwTurn tag = s.readCcw tag p := by
  rcases ho with ho | ⟨o, ho, hc⟩
  · simp [State.ccwTurn, hp, turn_taken ht hw, hf, hr, ho]
  · simp [State.ccwTurn, hp, turn_taken ht hw, hf, hr, ho, hc]

theorem ccwTurn_chainRead {o : Op} (ho : s.op tag = some o) (hc : o.chainRead = true) : s.ccwTurn tag = s := by
  cases hr : p.ccwRead <;> simp [State.ccwTurn, hp, turn_taken ht hw, hf, hr, ho, hc]

variable {bs : List Byte} (hr : p.ccwRead = some bs)
include hr

theorem ccwTurn_takes (ho : s.op tag = none) : s.ccwTurn tag = s.takeCcw tag p bs := by
  simp [State.ccwTurn, hp, turn_taken ht hw, hf, hr, ho]

theorem ccwTurn_continues {o : Op} (ho : s.op tag = some o) (hc : o.chainRead = false) :
    s.ccwTurn tag = s.takeChained tag p o bs := by
  simp [State.ccwTurn, hp, turn_taken ht hw, hf, hr, ho, hc]

end Turn

/-! JUMP (R345) -/

section Jump

variable {s : State} {tag : Nat} {p : Prog} {bs : List Byte}

theorem jump_none (h : s.prog tag = none) : s.jump tag = s := by
  simp only [State.jump, h]

variable (hp : s.prog tag = some p)
include hp

theorem jump_unread (hr : p.ccwRead = none) : s.jump tag = s := by
  simp only [State.jump, hp, hr]

variable (hr : p.ccwRead = some bs)
include hr

theorem jump_idle (h : ¬ JumpsAt s tag p bs) : s.jump tag = s := by
  simp only [State.jump, hp, hr]
  refine if_pos ?_
  simp only [JumpsAt, TurnOf, not_and_or, Bool.not_eq_true] at h
  rcases h with (hopen | hmay | hturn) | hb | hop | hok | hc
  · simp [hopen]
  · simp [hmay]
  · simp [hturn]
  · simp [hb]
  · simp [hop]
  · simp [Option.isSome_iff_ne_none.2 hok]
  · obtain ⟨o, ho, hc⟩ : ∃ o, s.op tag = some o ∧ o.chainRead = true := by simpa using hc
    simp [ho, hc]

/-- A JUMP carried out ends the program at the 257th, and otherwise sets where the next CCW is read. -/
theorem jump_done (h : JumpsAt s tag p bs) : s.jump tag =
    if 256 ≤ p.jumps then (s.jumpStarted tag p (Ccw.parse bs)).endCcw tag stLoopLimit 0 0
    else (s.jumpStarted tag p (Ccw.parse bs)).updProg tag fun q => { q with
      jumps := q.jumps + 1, ccwRead := none, resumed := false, st := if (s.op tag).isSome then q.st else .running
      src := if (Ccw.parse bs).idx then { viaTable := true, tableNext := (Ccw.parse bs).data }
        else { addr := (Ccw.parse bs).data } } := by
  obtain ⟨⟨hopen, hmay, hturn⟩, hb, hop, hok, hc⟩ := h
  simp only [State.jump, hp, hr, State.jumpStarted]
  cases ho : s.op tag with
  | none => exact if_neg (by simp [hopen, hmay, hturn, hb, hop, hok])
  | some o => exact if_neg (by simp [hopen, hmay, hturn, hb, hop, hok, hc o ho])

end Jump

/-! The commands -/

theorem exec_ccwStart {s t : State} {tag : Fin 2048} (h : s.ccwTurn tag = t) :
    exec (.ccwStart tag) s = .next (settle t.reready) :=
  next_settle_congr (congrArg State.reready h)

theorem exec_jump {s t : State} {tag : Fin 2048} (h : s.jump tag = t) :
    exec (.jump tag) s = .next (settle t.reready) :=
  next_settle_congr (congrArg State.reready h)

/-- Settles O17: a turn by what the program has read and whether it has an operation, a CCW by its fault, its opcode and
what holds it, a JUMP by whether it is carried out and by the count. -/
theorem programsTakeCcws : Obligations.ProgramsTakeCcws := by
  intro s tag
  refine ⟨fun hp => ⟨exec_ccwStart (ccwTurn_none hp), exec_jump (jump_none hp)⟩, fun p hp =>
    ⟨fun h => exec_ccwStart (ccwTurn_idle hp h),
      fun ht hw => ⟨fun hf => exec_ccwStart (ccwTurn_failed hp ht hw hf), fun hf => ?_⟩,
      fun hr => exec_jump (jump_unread hp hr), fun bs hr => ⟨fun h hn => ?_, fun h hn => ?_, fun h => ?_⟩⟩⟩
  · refine ⟨fun ho hr hs hi => ?_, fun hr ho => ⟨?_, readCcw_plain⟩, fun o ho hc => ?_, fun bs ho hr => ?_,
      fun o bs ho hc hr => ?_⟩
    · exact ⟨_, exec_ccwStart ((ccwTurn_reads hp ht hw hf hr (.inl ho)).trans (readCcw_inline hs hi)),
        setProg_prog ..⟩
    · exact exec_ccwStart (ccwTurn_reads hp ht hw hf hr ho)
    · exact exec_ccwStart (ccwTurn_chainRead hp ht hw hf ho hc)
    · have takes := ccwTurn_takes hp ht hw hf hr ho
      refine ⟨fun d hd => exec_ccwStart (takes.trans (takeCcw_refused hd)),
        fun hok hwait => exec_ccwStart (takes.trans (takeCcw_waits hok hwait)),
        fun hok hop hb => ⟨fun hs => exec_ccwStart (takes.trans (takeCcw_suspends hok hop hb hs)),
          fun hs st hst => ?_, fun hs hst => exec_ccwStart (takes.trans (takeCcw_starts hok hop hb hs hst))⟩⟩
      exact ⟨_, exec_ccwStart (takes.trans (takeCcw_held hok hop hb hs hst)), setProg_prog ..⟩
    · have continues := ccwTurn_continues hp ht hw hf hr ho hc
      exact ⟨fun d hd => exec_ccwStart (continues.trans (takeChained_refused hd)),
        fun hok hop => exec_ccwStart (continues.trans (takeChained_jump hok hop)),
        fun hok hop => exec_ccwStart (continues.trans (takeChained_adds hok hop))⟩
  · exact exec_jump ((jump_done hp hr h).trans (if_neg (Nat.not_le.2 hn)))
  · exact exec_jump ((jump_done hp hr h).trans (if_pos hn))
  · exact exec_jump (jump_idle hp hr h)

end Sys2Proof.Machine

end

section

namespace Sys2Proof.Machine

/-! ### A turn of an operation (O12) -/

theorem liveWith_opcode {s : State} {a opcode : Nat} {o : Op} (h : s.liveWith a opcode = some o) :
    o.first.opcode = opcode := by
  unfold State.liveWith at h
  cases hl : s.liveOp a with
  | none => simp [hl] at h
  | some x =>
    obtain ⟨hop, rfl⟩ : x.first.opcode = opcode ∧ x = o := by simpa [hl] using h
    exact hop

/-- The register that the next access of a REG operation names (R332). -/
def Op.regOff (o : Op) : Nat := bits o.first.param 2 18 * 4 + 4 * o.accesses

/-- The next 16-bit access of an LXB operation asked of the bus (R332). -/
def State.lxbAskNext (s : State) (a : Nat) (o : Op) (write : Bool) (d : Nat) : State :=
  (s.updOp a fun x => { x with busy := true, begun := true }).lxbAsk (fun _ => .agent (o.token a)) 3
    (devIndex o.first.dev) (bits o.first.param 0 24 + 2 * o.accesses) write d 1

/-! One access of the channel engine (R331) -/

section Access

variable {s : State} {a : Nat} {o : Op} (off : Nat)

theorem begins_of_not_poll (hop : o.first.opcode ≠ ocPoll) : (o.begun || o.first.opcode != ocPoll) = true := by
  rw [bne_iff_ne.2 hop, Bool.or_true]

theorem engineAccess_write (h : s.devLocal o.first.dev = true) (hop : o.first.opcode ≠ ocPoll) (d : Nat) :
    s.engineAccess a o off true d =
      ((s.updOp a fun x => { x with begun := true }).save { mid := 3 } off .word d).accessDone a 4 0 false := by
  simp [State.engineAccess, h, begins_of_not_poll hop]

theorem engineAccess_read (h : s.devLocal o.first.dev = true) (hop : o.first.opcode ≠ ocPoll) :
    s.engineAccess a o off false 0 =
      let x := (s.updOp a fun x => { x with begun := true }).load { mid := 3 } off .word false
      x.1.accessDone a 4 x.2 false := by
  simp [State.engineAccess, h, begins_of_not_poll hop]

/-- The read of a POLL_FAR does not begin its device I/O. -/
theorem engineAccess_poll (h : s.devLocal o.first.dev = true) (hop : o.first.opcode = ocPoll) :
    s.engineAccess a o off false 0 =
      let x := (s.updOp a fun x => { x with begun := o.begun }).load { mid := 3 } off .word false
      x.1.accessDone a 4 x.2 false := by
  simp [State.engineAccess, h, hop]

theorem engineAccess_far (h : s.devLocal o.first.dev = false) (hop : o.first.opcode ≠ ocPoll) (write : Bool) (d : Nat) :
    s.engineAccess a o off write d =
      let x := (s.updOp a fun x => { x with busy := true, begun := true }).farAccess (.agent (o.token a))
        (devUnit o.first.dev) write off d
      if x.2 then x.1 else s := by
  simp [State.engineAccess, h, begins_of_not_poll hop]

end Access

/-! A turn of a REG or LXB operation (R331, R332, R351) -/

section Turn

variable {s : State} {a : Nat} {o : Op}

theorem regTurn_waits (h : o.busy = true ∨ s.writesHeld a = true ∨ o.room = 0) : s.regTurn a o = s :=
  if_pos (by simpa [or_assoc] using h)

theorem lxbTurn_waits (h : o.busy = true ∨ s.writesHeld a = true ∨ o.room = 0) : s.lxbTurn a o = s :=
  if_pos (by simpa [or_assoc] using h)

variable (hb : o.busy = false) (hh : s.writesHeld a = false) (hroom : o.room ≠ 0)
include hb hh hroom

theorem regTurn_read (hop : o.first.opcode = ocRead) : s.regTurn a o =
    if !o.areaReady a 4 then s.areaShort a o else s.engineAccess a o o.regOff false 0 :=
  (if_neg (by simp [hb, hh, hroom])).trans (if_pos hop)

theorem regTurn_write (hop : o.first.opcode = ocWrite) : s.regTurn a o =
    if o.buf.length < 4 then s.moreData a
    else if (o.buf.take 4).any (·.2) then s.skipAccess a 4
    else s.engineAccess a o o.regOff true (leVal ((o.buf.take 4).map (·.1))) :=
  (if_neg (by simp [hb, hh, hroom])).trans (if_neg (by rw [hop]; decide))

variable (hf : s.portFault clsLxb (devIndex o.first.dev) = none)
include hf

theorem lxbTurn_read (hop : o.first.opcode = ocRead) (hready : o.areaReady a 2 = true) :
    s.lxbTurn a o = s.lxbAskNext a o false 0 := by
  simp [State.lxbTurn, State.lxbAskNext, hb, hh, hroom, hf, hop, hready]

theorem lxbTurn_write (hop : o.first.opcode = ocWrite) (hlen : 2 ≤ o.buf.length)
    (hclean : (o.buf.take 2).any (·.2) = false) :
    s.lxbTurn a o = s.lxbAskNext a o true (leVal ((o.buf.take 2).map (·.1))) := by
  have hread : ocWrite ≠ ocRead := by decide
  simp only [State.lxbTurn, State.lxbAskNext, hb, hh, hroom, hf, hop, hread, hclean, Nat.not_lt.2 hlen, Bool.or_self,
    decide_false, Bool.false_eq_true, if_false]

end Turn

/-! WRITE and READ -/

section WriteRead

variable {s : State} {a : Nat} {o : Op} (errs : List WordErr)

theorem write_none (h : s.liveWith a ocWrite = none) : s.write a errs = s := by
  simp only [State.write, h]

theorem read_none (h : s.liveWith a ocRead = none) : s.read a errs = s := by
  simp only [State.read, h]

theorem write_reg (h : s.liveWith a ocWrite = some o) (hc : o.first.cls = clsReg) : s.write a errs = s.regTurn a o := by
  simp only [State.write, h, if_pos hc]

theorem read_reg (h : s.liveWith a ocRead = some o) (hc : o.first.cls = clsReg) : s.read a errs = s.regTurn a o := by
  simp only [State.read, h, if_pos hc]

theorem write_lxb (h : s.liveWith a ocWrite = some o) (hc : o.first.cls = clsLxb) (hnear : s.opFar a o = false) :
    s.write a errs = s.lxbTurn a o := by
  have hreg : clsLxb ≠ clsReg := by decide
  simp [State.write, h, hc, hnear, hreg]

theorem read_lxb (h : s.liveWith a ocRead = some o) (hc : o.first.cls = clsLxb) (hnear : s.opFar a o = false) :
    s.read a errs = s.lxbTurn a o := by
  have hreg : clsLxb ≠ clsReg := by decide
  simp [State.read, h, hc, hnear, hreg]

variable (hreg : o.first.cls ≠ clsReg) (hport : o.first.cls ≠ clsLxb ∨ s.opFar a o = true)
include hreg hport

theorem write_port (h : s.liveWith a ocWrite = some o) :
    s.write a errs = (s.setOp a { o with errs := errs }).writePort a { o with errs := errs } := by
  simp only [State.write, h, if_neg hreg]
  exact if_neg (by rcases hport with hc | hc <;> simp [hc])

theorem read_port (h : s.liveWith a ocRead = some o) : s.read a errs = s.readPort a o errs := by
  simp only [State.read, h, if_neg hreg]
  exact if_neg (by rcases hport with hc | hc <;> simp [hc])

end WriteRead

/-! POLL_FAR (R332, R351) -/

section Poll

variable {s : State} {a : Nat} {o : Op}

theorem pollRead_reads (hb : o.busy = false) (hh : s.writesHeld a = false) :
    s.pollRead a o = s.engineAccess a o (bits o.first.param 2 18 * 4) false 0 :=
  if_neg (by simp [hb, hh])

theorem pollRead_waits (h : o.busy = true ∨ s.writesHeld a = true) : s.pollRead a o = s :=
  if_pos (by simpa using h)

theorem pollAgain_none (h : s.liveWith a ocPoll = none) : s.pollAgain a = s := by
  simp only [State.pollAgain, h]

theorem pollStart_none (h : s.liveWith a ocPoll = none) : s.pollStart a = s := by
  simp only [State.pollStart, h]

/-- An operation as it polls: its value and mask have been read, and its next read stands in no buffer (R332). -/
def Op.polling (o : Op) (d : List Byte) : Op :=
  { o with buf := [], got := 0, pollValue := fieldAt d 0 4, pollMask := fieldAt d 4 4 }

variable (h : s.liveWith a ocPoll = some o)
include h

theorem pollAgain_reads (hroom : o.room = 0) (hb : o.busy = false) (hh : s.writesHeld a = false) :
    s.pollAgain a = s.engineAccess a o (bits o.first.param 2 18 * 4) false 0 := by
  simp only [State.pollAgain, h, if_pos hroom, pollRead_reads hb hh]

theorem pollAgain_waits (hw : o.room ≠ 0 ∨ o.busy = true ∨ s.writesHeld a = true) : s.pollAgain a = s := by
  simp only [State.pollAgain, h]
  rcases hw with hroom | hw
  · exact if_neg hroom
  · rw [pollRead_waits hw, ite_self]

theorem pollStart_begun (hroom : o.room = 0) : s.pollStart a = s := by
  simp only [State.pollStart, h, if_pos hroom]

variable (hroom : o.room ≠ 0)
include hroom

theorem pollStart_short (hlen : o.buf.length < 8) : s.pollStart a = s.wantData a := by
  simp only [State.pollStart, h, if_neg hroom, if_pos hlen]

theorem pollStart_reads (hlen : 8 ≤ o.buf.length) {q : Op}
    (hq : ((s.useOp a (zeros 8)).1.updOp a fun x => x.polling ((o.buf.take 8).map (·.1))).op a = some q) :
    s.pollStart a =
      ((s.useOp a (zeros 8)).1.updOp a fun x => x.polling ((o.buf.take 8).map (·.1))).pollRead a q := by
  unfold Op.polling at hq ⊢
  simp only [State.pollStart, h, if_neg hroom, if_neg (Nat.not_lt.2 hlen), hq]

end Poll

/-- Settles O12: a turn by the class of the operation and the place of its device, a REG write by its word, a POLL_FAR by
what it has read. -/
theorem operationsTurn : Obligations.OperationsTurn := by
  intro s a o errs
  refine ⟨fun h hc hb hh hroom => ?_, fun h hc hb hh hroom => ?_,
    fun h hreg hport => next_settle_congr (write_port errs hreg hport h),
    fun h hreg hport => next_settle_congr (read_port errs hreg hport h),
    fun hc hnear hb hh hroom hf => ⟨fun h hready => ?_, fun h hlen hclean => ?_⟩, fun hc hw => ⟨fun h => ?_, fun h => ?_⟩,
    fun h => next_settle_congr (write_none errs h), fun h => next_settle_congr (read_none errs h),
    fun tag q h hroom hb hh => next_settle_congr (pollAgain_reads h hroom hb hh),
    fun tag q h hroom hb hh hl hop =>
      next_settle_congr ((pollAgain_reads h hroom hb hh).trans (engineAccess_poll _ hl hop)),
    fun tag q h hw => next_settle_congr (pollAgain_waits h hw),
    fun tag h => ⟨next_settle_congr (pollAgain_none h), next_settle_congr (pollStart_none h)⟩,
    fun tag q q' h hroom hlen hq => next_settle_congr (pollStart_reads h hroom hlen hq),
    fun tag q h => ⟨fun hroom => next_settle_congr (pollStart_begun h hroom),
      fun hroom hlen => next_settle_congr (pollStart_short h hroom hlen)⟩⟩
  · have hop := liveWith_opcode h
    have hpoll : o.first.opcode ≠ ocPoll := by rw [hop]; decide
    have turn := (write_reg errs h hc).trans (regTurn_write hb hh hroom hop)
    refine ⟨fun hlen => next_settle_congr (turn.trans (if_pos hlen)), fun hlen hbad => ?_, fun hlen hclean hl => ?_,
      fun hlen hclean hl => ?_⟩
    · exact next_settle_congr (turn.trans ((if_neg (Nat.not_lt.2 hlen)).trans (if_pos hbad)))
    · exact next_settle_congr (turn.trans ((if_neg (Nat.not_lt.2 hlen)).trans
        ((if_neg (by simp [hclean])).trans (engineAccess_write _ hl hpoll _))))
    · exact next_settle_congr (turn.trans ((if_neg (Nat.not_lt.2 hlen)).trans
        ((if_neg (by simp [hclean])).trans (engineAccess_far _ hl hpoll _ _))))
  · have hop := liveWith_opcode h
    have hpoll : o.first.opcode ≠ ocPoll := by rw [hop]; decide
    have turn := (read_reg errs h hc).trans (regTurn_read hb hh hroom hop)
    exact ⟨fun hshort => next_settle_congr (turn.trans (if_pos (by simp [hshort]))),
      fun hready hl => next_settle_congr (turn.trans ((if_neg (by simp [hready])).trans (engineAccess_read _ hl hpoll))),
      fun hready hl => next_settle_congr
        (turn.trans ((if_neg (by simp [hready])).trans (engineAccess_far _ hl hpoll _ _)))⟩
  · exact next_settle_congr ((read_lxb errs h hc hnear).trans (lxbTurn_read hb hh hroom hf (liveWith_opcode h) hready))
  · exact next_settle_congr
      ((write_lxb errs h hc hnear).trans (lxbTurn_write hb hh hroom hf (liveWith_opcode h) hlen hclean))
  · rcases hc with hc | ⟨hc, hnear⟩
    · exact next_settle_congr ((write_reg errs h hc).trans (regTurn_waits hw))
    · exact next_settle_congr ((write_lxb errs h hc hnear).trans (lxbTurn_waits hw))
  · rcases hc with hc | ⟨hc, hnear⟩
    · exact next_settle_congr ((read_reg errs h hc).trans (regTurn_waits hw))
    · exact next_settle_congr ((read_lxb errs h hc hnear).trans (lxbTurn_waits hw))

end Sys2Proof.Machine

end

section

namespace Sys2Proof.Machine

/-! ### The end of an operation, and time-outs (O18) -/

/-! An operation of a local program that has ended (R337–R339, R344) -/

section LocalEnd

variable {s : State} {tag : Nat} {p : Prog} {o : Op}

theorem localEnd_chain_unread (hc : o.chainRead = false) (status detail : Nat) :
    s.localEnd tag p o status detail = s := if_pos (by simp [hc])

variable (hc : o.chainRead = true)
include hc

theorem localEnd_failed {status : Nat} (h : status ≠ stSuccess) (detail : Nat) : s.localEnd tag p o status detail =
    (s.withdraw tag).finalize tag status (p.merge o) ((s.withdraw tag).eswNow tag (p.merge o) detail) :=
  (if_neg (by simp [hc])).trans (if_pos h)

theorem localEnd_mismatched (hm : o.mismatch = true) (hw : o.lastFlags.testBit 8 = false) (detail : Nat) :
    s.localEnd tag p o stSuccess detail =
      (s.withdraw tag).finalize tag stLength (p.merge o) ((s.withdraw tag).eswNow tag (p.merge o) 0) :=
  (if_neg (by simp [hc])).trans ((if_neg (by simp)).trans (if_pos (by simp [hm, hw])))

theorem localEnd_chains (hm : o.mismatch = true → o.lastFlags.testBit 8 = true) (detail : Nat) :
    s.localEnd tag p o stSuccess detail =
      let q := { p.merge o with lenOk := (p.merge o).lenOk || o.mismatch }
      ((s.withdraw tag).setProg tag q).chainOn tag q o :=
  (if_neg (by simp [hc])).trans ((if_neg (by simp)).trans (if_neg (by simpa using hm)))

end LocalEnd

/-! The operation of a far slot that has ended (R353–R355) -/

section FarEnd

variable {s : State} {slot : Nat} (o : Op) (status detail : Nat)

theorem farEnd_no_slot (h : tget s.farSlots slot = none) : s.farEnd slot o status detail = s := by
  simp only [State.farEnd, h]

variable {fs : FarSlot} (h : tget s.farSlots slot = some fs)
include h

theorem farEnd_sending (hout : fs.out ≠ []) : s.farEnd slot o status detail = s := by
  simp only [State.farEnd, h]
  exact if_pos (by simpa using hout)

theorem farEnd_reports (hout : fs.out = []) : s.farEnd slot o status detail =
    let u := (s.withdraw (farAgent slot)).prgRsp fs.origin fs.tag fs.inst 0x82
      (leBytes 1 status ++ leBytes 1 detail ++ leBytes 1 (b2n o.poisoned + 2 * b2n o.gap + 16 * b2n o.truncated)
        ++ zeros 1 ++ leBytes 4 (o.room % 2 ^ 24 + min 255 o.frames * 2 ^ 24) ++ zeros 4)
    { u with ops := tdel u.ops (farAgent slot), farSlots := tdel u.farSlots slot } := by
  simp only [State.farEnd, h]
  exact if_neg (by simp [hout])

end FarEnd

/-! DEVICE_OPERATION_END -/

section OpEnd

variable {s : State} {a : Nat} {o : Op}

theorem opEnd_none (h : s.op a = none) : s.opEnd a = s := by
  simp only [State.opEnd, h]

variable (ho : s.op a = some o)
include ho

theorem opEnd_running (h : o.ended = none) : s.opEnd a = s := by
  simp only [State.opEnd, ho, h]

variable {status detail : Nat} (he : o.ended = some (status, detail))
include he

theorem opEnd_local (ha : a < 2048) {p : Prog} (hp : s.prog a = some p) (hm : s.moving (a / 64) = false) :
    s.opEnd a = s.localEnd a p o status detail := by
  simp [State.opEnd, ho, he, hp, hm, Nat.not_le.2 ha]

theorem opEnd_far (ha : 2048 ≤ a) : s.opEnd a = s.farEnd (a - 2048) o status detail := by
  simp only [State.opEnd, ho, he, if_pos ha]

omit he

theorem opEnd_held (ha : a < 2048) (h : s.prog a = none ∨ s.moving (a / 64) = true) : s.opEnd a = s := by
  cases he : o.ended with
  | none => exact opEnd_running ho he
  | some e =>
    cases hp : s.prog a with
    | none => simp [State.opEnd, ho, he, hp, Nat.not_le.2 ha]
    | some p => simp [State.opEnd, ho, he, hp, Nat.not_le.2 ha, h.resolve_left (by simp [hp])]

end OpEnd

theorem exec_deviceOperationEnd {s t : State} {a : Fin 2560} (h : s.opEnd a = t) :
    exec (.deviceOperationEnd a) s = .next (settle t.reready) :=
  next_settle_congr (congrArg State.reready h)

/-! CCW_TIMEOUT (R346, R347, R648, R657) -/

section Timeout

variable {s : State} {tag : Nat}

/-- A NOP, a MARK and a LEDGER_APPEND have no time-out. -/
theorem expired_untimed (since : Nat) {c : Ccw} (h : [ocNop, ocMark, ocAppend].contains c.opcode = true) :
    s.expired since c = false := by
  have hop : c.opcode = ocNop ∨ c.opcode = ocMark ∨ c.opcode = ocAppend := by simpa using h
  unfold State.expired
  rcases hop with hop | hop | hop <;> rw [hop] <;> rfl

theorem opTimeout_expires {o : Op} (ho : s.op tag = some o) (he : o.ended = none)
    (hx : s.expired o.since o.first = true) : s.opTimeout tag = s.endProg tag stTimeout 0 := by
  simp [State.opTimeout, ho, he, hx]

theorem opTimeout_waits {o : Op} (ho : s.op tag = some o)
    (h : o.ended ≠ none ∨ s.expired o.since o.first = false) : s.opTimeout tag = s := by
  simp only [State.opTimeout, ho]
  exact if_pos (by simpa [Option.isSome_iff_ne_none] using h)

variable (ho : s.op tag = none)
include ho

theorem opTimeout_again {since : Nat} {c : Ccw} (h : (s.prog tag).bind (·.again) = some (since, c)) :
    s.opTimeout tag = if s.expired since c then s.endProg tag stTimeout 0 else s := by
  simp only [State.opTimeout, ho, h]

theorem opTimeout_none (h : (s.prog tag).bind (·.again) = none) : s.opTimeout tag = s := by
  simp only [State.opTimeout, ho, h]

end Timeout

/-- Settles O18: an end by its agent, the chain, its status and its length; a time-out by the operation, or by the one
that is to start again, and its time. -/
theorem operationsEnd : Obligations.OperationsEnd := by
  intro s a
  refine ⟨fun h => exec_deviceOperationEnd (opEnd_none h), fun o ho =>
      ⟨fun h => exec_deviceOperationEnd (opEnd_running ho h), fun ha h => exec_deviceOperationEnd (opEnd_held ho ha h),
        fun p st d ha he hp hm => ?_, fun st d ha he => ?_⟩,
    fun tag => ⟨fun o ho he hx => next_settle_congr (opTimeout_expires ho he hx),
      fun o ho h => next_settle_congr (opTimeout_waits ho h), fun o since _ h => expired_untimed since h,
      fun ho t c h => next_settle_congr (opTimeout_again ho h), fun ho h => next_settle_congr (opTimeout_none ho h)⟩⟩
  · have ends {t : State} (h : s.localEnd a p o st d = t) : exec (.deviceOperationEnd a) s = .next (settle t.reready) :=
      exec_deviceOperationEnd ((opEnd_local ho he ha hp hm).trans h)
    refine ⟨fun hc => ends (localEnd_chain_unread hc st d), fun hc => ⟨fun h => ends (localEnd_failed hc h d), ?_, ?_⟩⟩
    · rintro rfl hm hw
      exact ends (localEnd_mismatched hc hm hw d)
    · rintro rfl hm
      exact ends (localEnd_chains hc hm d)
  · have ends {t : State} (h : s.farEnd (a - 2048) o st d = t) :
        exec (.deviceOperationEnd a) s = .next (settle t.reready) :=
      exec_deviceOperationEnd ((opEnd_far ho he ha).trans h)
    exact ⟨fun h => ends (farEnd_no_slot o st d h), fun fs h hout => ends (farEnd_sending o st d h hout),
      fun fs h hout => ends (farEnd_reports o st d h hout)⟩

end Sys2Proof.Machine

end

section

namespace Sys2Proof.Machine

/-! ### Far operations between originator and agent (O50) -/

theorem updOp_some {s : State} {a : Nat} {o : Op} (h : s.op a = some o) (f : Op → Op) :
    s.updOp a f = s.setOp a (f o) := by
  simp only [State.updOp, h]

theorem updOp_none {s : State} {a : Nat} (h : s.op a = none) (f : Op → Op) : s.updOp a f = s := by
  simp only [State.updOp, h]

/-- The least number below n that has a property. -/
theorem find?_range_least {f : Nat → Bool} {n k : Nat} (hk : k < n) (hf : f k = true) (hleast : ∀ j < k, f j = false) :
    (List.range n).find? f = some k :=
  List.find?_range_eq_some.2 ⟨hf, List.mem_range.2 hk, fun j hj => by simp [hleast j hj]⟩

/-! The far agent (R352–R356) -/

/-- The CCW that a START carries (R352). -/
def startedCcw (pl : List Byte) : Ccw :=
  { opcode := fieldAt pl 4 1, func := fieldAt pl 5 1, flags := fieldAt pl 6 2, dev := fieldAt pl 8 4,
    count := fieldAt pl 12 4, param := fieldAt pl 16 4 }

/-- A START in far slot k: the slot taken and its operation open, not yet judged (R354). -/
def State.farOpened (s : State) (k src : Nat) (pl : List Byte) : State :=
  State.openOp
    { s with farSlots := tset s.farSlots k
               { origin := src, tag := prgTag pl, inst := prgInst pl, credit := fieldAt pl 20 4 } }
    (farAgent k)
    { first := startedCcw pl, segs := [{ ccw := startedCcw pl, room := (startedCcw pl).count }]
      lastFlags := (startedCcw pl).flags }

/-- An operation with more write data of its originator, within its credit (R355). -/
def Op.takesData (o : Op) (pl : List Byte) (pois : Bool) : Op :=
  let d := (pl.drop 4).take o.credit
  { o with buf := o.buf ++ d.map (·, pois), got := o.got + d.length, credit := o.credit - d.length
           poisoned := o.poisoned || pois }

section Agent

variable {s : State} {src : Nat} {pl : List Byte}

theorem farBegin_in_reset (h : s.inReset = true) : s.farBegin src pl = s.noRoute src 0x20 1 pl := by
  simp only [State.farBegin, if_pos h]

theorem farBegin_full (hr : s.inReset = false) (h : ∀ k < 512, tget s.farSlots k ≠ none) :
    s.farBegin src pl = s.prgRsp src (prgTag pl) (prgInst pl) 0x84 [] := by
  have hfull : (List.range 512).find? (fun k => (tget s.farSlots k).isNone) = none := by
    simpa [List.find?_eq_none] using h
  simp [State.farBegin, hr, hfull]

theorem farBegin_starts {k : Nat} (hr : s.inReset = false) (hk : k < 512) (hfree : tget s.farSlots k = none)
    (hleast : ∀ j < k, tget s.farSlots j ≠ none) : s.farBegin src pl =
      let t := (s.farOpened k src pl).judgeStart (farAgent k) (startedCcw pl)
      if (startedCcw pl).opcode = ocWrite then t.grantWrite k else t := by
  have hfind : (List.range 512).find? (fun k => (tget s.farSlots k).isNone) = some k :=
    find?_range_least hk (by simp [hfree]) fun j hj => Option.isNone_eq_false_iff.2 (Option.isSome_iff_ne_none.2 (hleast j hj))
  simp only [State.farBegin, hr, Bool.false_eq_true, if_false, hfind]
  rfl

theorem judgeStart_sound {a : Nat} {c : Ccw} (h : s.startFault c = none) : s.judgeStart a c = s := by
  simp only [State.judgeStart, h]

theorem judgeStart_faulty {a : Nat} {c : Ccw} {e : Nat × Nat} (h : s.startFault c = some e) :
    s.judgeStart a c = s.endOp a e.1 e.2 := by
  simp only [State.judgeStart, h]

section NoSlot

variable (h : s.slotOf src (prgTag pl) (prgInst pl) = none)
include h

theorem farCancel_none : s.farCancel src pl = s := by
  simp only [State.farCancel, h]

theorem farData_none (pois : Bool) : s.farData src pl pois = s := by
  simp only [State.farData, h]

theorem farCredit_none : s.farCredit src pl = s := by
  simp only [State.farCredit, h]

end NoSlot

variable {k : Nat} (h : s.slotOf src (prgTag pl) (prgInst pl) = some k)
include h

theorem farCancel_stops : s.farCancel src pl =
    let u := s.stopOp (farAgent k)
    { u with ops := tdel u.ops (farAgent k), farSlots := tdel u.farSlots k } := by
  simp only [State.farCancel, h]

theorem farData_no_op (ho : s.op (farAgent k) = none) (pois : Bool) : s.farData src pl pois = s := by
  simp only [State.farData, h, updOp_none ho]

theorem farData_takes {o : Op} (ho : s.op (farAgent k) = some o) (pois : Bool) :
    s.farData src pl pois = s.setOp (farAgent k) (o.takesData pl pois) := by
  simp only [State.farData, h, updOp_some ho, Op.takesData]

theorem farCredit_no_slot (hx : tget s.farSlots k = none) : s.farCredit src pl = s := by
  simp only [State.farCredit, h, hx]

theorem farCredit_adds {x : FarSlot} (hx : tget s.farSlots k = some x) : s.farCredit src pl = State.pumpSlot
    { s with farSlots := tset s.farSlots k { x with credit := x.credit + fieldAt pl 4 4 } } k := by
  simp only [State.farCredit, h, hx]

end Agent

/-! The originator (R353–R356) -/

/-- What an operation has met and handed by the END of its far unit (R353). -/
def Op.reported (o : Op) (pl : List Byte) : Op :=
  { o with poisoned := o.poisoned || (fieldAt pl 6 1).testBit 0, gap := o.gap || (fieldAt pl 6 1).testBit 1
           truncated := o.truncated || (fieldAt pl 6 1).testBit 4, frames := fieldAt pl 11 1, handedLast := true }

section Originator

variable {s : State} {pl : List Byte}

section NoOrigin

variable (h : s.originOf pl = none)
include h

theorem originEnd_none : s.originEnd pl = s := by
  simp only [State.originEnd, h]

theorem originRetry_none : s.originRetry pl = s := by
  simp only [State.originRetry, h]

theorem originData_none (pois : Bool) : s.originData pl pois = s := by
  simp only [State.originData, h]

theorem originCredit_none : s.originCredit pl = s := by
  simp only [State.originCredit, h]

end NoOrigin

variable {tag : Nat} {o : Op} (h : s.originOf pl = some tag) (ho : s.op tag = some o)
include h ho

theorem originCredit_adds : s.originCredit pl = s.setOp tag { o with credit := o.credit + fieldAt pl 4 4 } := by
  simp only [State.originCredit, h, updOp_some ho]

theorem originData_delivers (pois : Bool) : s.originData pl pois =
    let d := (pl.drop 4).take o.credit
    ((s.setOp tag { o with credit := o.credit - d.length }).deliver tag d pois).renewCredit tag := by
  simp only [State.originData, h, ho]

theorem originRetry_waits : s.originRetry pl =
    (s.setOp tag { o with sent := false, busy := true }).raise R.CHE_EVT_cause 4 (R.CHE_EVT_CNT_count 4) := by
  simp only [State.originRetry, h, updOp_some ho]

theorem originEnd_ends : s.originEnd pl =
    (((s.useOp tag (zeros (o.room - fieldAt pl 8 3))).1.updOp tag fun x => x.reported pl).endOp tag (fieldAt pl 4 1)
      (fieldAt pl 5 1)) := by
  simp only [State.originEnd, h, ho, Op.reported]

end Originator

section Resend

variable {s : State} {tag : Nat}

theorem resendStart_none (h : s.op tag = none) : s.resendStart tag = s := by
  simp only [State.resendStart, h]

variable {o : Op} (ho : s.op tag = some o)
include ho

theorem resendStart_sends (hb : o.busy = true) (hs : o.sent = false) (he : o.ended = none) :
    s.resendStart tag = (s.setOp tag { o with busy := false }).farStart tag := by
  simp [State.resendStart, ho, hb, hs, he]

theorem resendStart_idle (h : o.busy = false ∨ o.sent = true ∨ o.ended ≠ none) : s.resendStart tag = s := by
  simp only [State.resendStart, ho]
  exact if_neg (by rcases h with h | h | h <;> simp [h])

end Resend

/-! Flits that arrive -/

section Flits

variable {s t : State} {p : Fin 2} {f : FlitIn}

theorem prgFlit_taken (hf : s.arrives p f = true) {c : FClass} {g : State → State} (h : g (s.accept p c f) = t) :
    (.next (settle (s.prgFlit p c f g)) : Host.Outcome State Fault Refusal) = .next (settle t) :=
  next_settle_congr ((prgFlit_arrives hf c g).trans h)

theorem prgFlit_ignored (hf : s.arrives p f = false) (c : FClass) (g : State → State) :
    (.next (settle (s.prgFlit p c f g)) : Host.Outcome State Fault Refusal) = .next (settle s) :=
  next_settle_congr (prgFlit_not_arrives hf c g)

end Flits

/-- Settles O50: a flit that does not arrive, one for an agent by its slot, one for an originator by its operation, and a
resend by what START waits for. -/
theorem farOperationsExchange : Obligations.FarOperationsExchange := by
  intro s
  refine ⟨fun p f hf => ⟨prgFlit_ignored hf _ _, prgFlit_ignored hf _ _, prgFlit_ignored hf _ _,
      prgFlit_ignored hf _ _, fun rsp => ⟨prgFlit_ignored hf _ _, prgFlit_ignored hf _ _⟩⟩, ?_, ?_,
    fun tag o ho => ⟨fun hb hs he => next_settle_congr (resendStart_sends ho hb hs he),
      fun h => next_settle_congr (resendStart_idle ho h)⟩,
    fun tag ho => next_settle_congr (resendStart_none ho)⟩
  · rintro p f a hf rfl
    refine ⟨fun hr => prgFlit_taken hf (farBegin_in_reset hr), fun hr hfull => prgFlit_taken hf (farBegin_full hr hfull),
      fun k hr hk hfree hleast v hsound hfaulty => ?_,
      fun h => ⟨prgFlit_taken hf (farCancel_none h), prgFlit_taken hf (farData_none h _),
        prgFlit_taken hf (farCredit_none h)⟩,
      fun k h => ⟨prgFlit_taken hf (farCancel_stops h), fun ho => prgFlit_taken hf (farData_no_op h ho _),
        fun hx => prgFlit_taken hf (farCredit_no_slot h hx), fun o ho => prgFlit_taken hf (farData_takes h ho _),
        fun x hx => prgFlit_taken hf (farCredit_adds h hx)⟩⟩
    have hv : ((s.accept p .req f).farOpened k f.src.toNat f.payload).judgeStart (farAgent k) (startedCcw f.payload)
        = v := by
      cases hfault : ((s.accept p .req f).farOpened k f.src.toNat f.payload).startFault (startedCcw f.payload) with
      | none => exact (judgeStart_sound hfault).trans (hsound hfault).symm
      | some e => exact (judgeStart_faulty hfault).trans (hfaulty e.1 e.2 hfault).symm
    subst hv
    exact ⟨fun hop => prgFlit_taken hf ((farBegin_starts hr hk hfree hleast).trans (if_neg hop)),
      fun hop => prgFlit_taken hf ((farBegin_starts hr hk hfree hleast).trans (if_pos hop))⟩
  · rintro p f a hf rfl
    refine ⟨fun h => ⟨prgFlit_taken hf (originEnd_none h), prgFlit_taken hf (originRetry_none h),
        prgFlit_taken hf (originData_none h _), prgFlit_taken hf (originCredit_none h)⟩,
      fun tag o h ho => ⟨prgFlit_taken hf (originCredit_adds h ho), prgFlit_taken hf (originData_delivers h ho _),
        prgFlit_taken hf (originRetry_waits h ho), fun hu => ?_, fun q hq => ?_⟩⟩
    · exact prgFlit_taken hf ((originEnd_ends h ho).trans (by rw [updOp_none hu]))
    · exact prgFlit_taken hf ((originEnd_ends h ho).trans (by rw [updOp_some hq]; rfl))

end Sys2Proof.Machine

end

section

namespace Sys2Proof.Machine

/-! ### Appends of records, and the release of segments (O44) -/

/-! An append reaches the sequencer (R563, R564) -/

section Append

variable {s : State} {b : Append}

theorem ldgAppend_refused {d : Nat} (h : s.appendRefusal b = some d) : s.ldgAppend b = s.appendRefused b d := by
  simp only [State.ldgAppend, h]

theorem ldgAppend_queued (h : s.appendRefusal b = none) : s.ldgAppend b = s.ldgQueue (.append b) := by
  simp only [State.ldgAppend, h]

/-- A command that hands an append to the sequencer ends by why the append is refused, if it is. -/
theorem exec_ldgAppend {c : Instr} {u : State} (h : exec c u = .next (settle (s.ldgAppend b))) :
    (∀ d, s.appendRefusal b = some d → exec c u = .next (settle (s.appendRefused b d))) ∧
    (s.appendRefusal b = none → exec c u = .next (settle (s.ldgQueue (.append b)))) :=
  ⟨fun _ hd => h.trans (next_settle_congr (ldgAppend_refused hd)),
    fun hn => h.trans (next_settle_congr (ldgAppend_queued hn))⟩

end Append

/-! LEDGER_APPEND (R357, R542) -/

/-- The block that a program appends to the ledger of this unit. -/
def Op.block (o : Op) (s : State) (tag : Nat) : Append :=
  { bytes := o.buf.map (·.1), mid := 3, src := s.ownSrc, poisoned := o.poisoned, by_ := .program (o.token tag) }

section Block

variable {s : State} {tag : Nat} {o : Op}

theorem ledgerAppend_none (h : s.liveWith tag ocAppend = none) : s.ledgerAppend tag = s := by
  simp only [State.ledgerAppend, h]

variable (h : s.liveWith tag ocAppend = some o)
include h

theorem ledgerAppend_handed (hw : o.busy = true ∨ o.sent = true) : s.ledgerAppend tag = s := by
  simp only [State.ledgerAppend, h]
  exact if_pos (by rcases hw with hw | hw <;> simp [hw])

variable (ht : tag < 2048) (hb : o.busy = false) (hs : o.sent = false)
include ht hb hs

theorem ledgerAppend_wants (hr : o.allRead = false) : s.ledgerAppend tag = s.wantData tag := by
  simp [State.ledgerAppend, h, hb, hs, hr, Nat.not_le.2 ht]

variable (hr : o.allRead = true)
include hr

omit ht in
theorem ledgerAppend_short (hlen : o.buf.length < o.room) : s.ledgerAppend tag = s := by
  simp [State.ledgerAppend, h, hb, hs, hr, hlen]

variable (hlen : o.room ≤ o.buf.length)
include hlen

theorem ledgerAppend_far_poisoned (hfar : s.opFar tag o = true) (hp : o.poisoned = true) :
    s.ledgerAppend tag = s.endOp tag stPoisoned 0 := by
  simp [State.ledgerAppend, h, hb, hs, hr, hfar, hp, Nat.not_le.2 ht, Nat.not_lt.2 hlen]

theorem ledgerAppend_sends (hfar : s.opFar tag o = true) (hp : o.poisoned = false) :
    s.ledgerAppend tag = s.sendAppend tag o := by
  simp [State.ledgerAppend, h, hb, hs, hr, hfar, hp, Nat.not_le.2 ht, Nat.not_lt.2 hlen]

theorem ledgerAppend_near (hnear : s.opFar tag o = false) :
    s.ledgerAppend tag = (s.setOp tag { o with busy := true }).ldgAppend (o.block s tag) := by
  simp [State.ledgerAppend, h, hb, hs, hr, hnear, Nat.not_le.2 ht, Nat.not_lt.2 hlen, Op.block]

end Block

/-! An append to a far ledger (R351, R544) -/

section FarAppend

variable {s : State} {tag : Nat} (o : Op)

theorem sendAppend_held (h : s.writesHeld tag = true) : s.sendAppend tag o = s := if_pos h

theorem sendAppend_unroutable (h : s.writesHeld tag = false) (hr : s.routeTo (devUnit o.first.dev) = none) :
    s.sendAppend tag o = s.endOp tag stFarGone 0 :=
  (if_neg (by simp [h])).trans (if_pos (by simp [hr]))

end FarAppend

section Waiting

variable {s : State} {tag : Fin 2048}

section NoAppend

variable (h : s.liveWith tag ocAppend = none)
include h

theorem exec_farAppendResend_none : exec (.farAppendResend tag) s = .next (settle s) :=
  next_settle_congr (by simp only [h])

theorem exec_farAppendTimeout_none : exec (.farAppendTimeout tag) s = .next (settle s) :=
  next_settle_congr (by simp only [h])

end NoAppend

variable {o : Op} (h : s.liveWith tag ocAppend = some o)
include h

theorem exec_farAppendResend_live : exec (.farAppendResend tag) s =
    .next (settle (if o.sent && o.busy then s.sendAppend tag o else s)) :=
  next_settle_congr (by simp only [h])

theorem exec_farAppendTimeout_live : exec (.farAppendTimeout tag) s =
    .next (settle (if o.sent && !o.busy then s.endOp tag stTimeout 0 else s)) :=
  next_settle_congr (by simp only [h])

end Waiting

/-! A part of a far append (R544) -/

/-- The assembly slot that a part names. -/
def appendKey (f : FlitIn) : Nat := f.src.toNat * 2 ^ 16 + fieldAt f.payload 0 2

/-- The assembly slots once a part 0 has taken its own, where one is free. -/
def State.partSlots (s : State) (f : FlitIn) : NMap FarAppend :=
  if fieldAt f.payload 2 1 = 0 ∧ (s.ldg.farIn.length < 64 ∨ (tget s.ldg.farIn (appendKey f)).isSome = true) then
    tset s.ldg.farIn (appendKey f) { parts := fieldAt f.payload 4 1, next := 0, bytes := [], poisoned := false }
  else s.ldg.farIn

/-- The assembly slots of the ledger changed. -/
def State.withSlots (s : State) (l : NMap FarAppend) : State := s.setLdg { s.ldg with farIn := l }

/-- A far append with one part more. -/
def FarAppend.extend (x : FarAppend) (f : FlitIn) : FarAppend :=
  { x with next := fieldAt f.payload 2 1 + 1, bytes := x.bytes ++ f.payload.drop 8, poisoned := x.poisoned || f.poisoned }

/-- The block of a far append, handed over by its last part. -/
def FarAppend.block (y : FarAppend) (f : FlitIn) : Append :=
  { bytes := y.bytes, mid := 3, src := f.src.toNat + 2 ^ 15, poisoned := y.poisoned
    by_ := .far f.src.toNat (fieldAt f.payload 0 2) (fieldAt f.payload 2 1) }

section Part

variable {s : State} {f : FlitIn}

/-- The ledger with which a part goes on, as LDG_APPEND_PART tests it. -/
theorem partSlots_opens (s : State) (f : FlitIn) :
    (if fieldAt f.payload 2 1 = 0 && (s.ldg.farIn.length < 64 ||
        (tget s.ldg.farIn (f.src.toNat * 2 ^ 16 + fieldAt f.payload 0 2)).isSome) then
      { s.ldg with farIn := tset s.ldg.farIn (f.src.toNat * 2 ^ 16 + fieldAt f.payload 0 2)
                     { parts := fieldAt f.payload 4 1, next := 0, bytes := [], poisoned := false } }
    else s.ldg) = { s.ldg with farIn := s.partSlots f } := by
  simp only [State.partSlots, appendKey, Bool.and_eq_true, Bool.or_eq_true, decide_eq_true_eq]
  split
  case isTrue h => exact congrArg (fun l => { s.ldg with farIn := l }) (if_pos h).symm
  case isFalse h => exact congrArg (fun l => { s.ldg with farIn := l }) (if_neg h).symm

theorem appendPart_unknown (h : tget (s.partSlots f) (appendKey f) = none) : s.appendPart f =
    if fieldAt f.payload 2 1 + 1 = fieldAt f.payload 4 1 then
      (s.withSlots (s.partSlots f)).appendEnd f.src.toNat (fieldAt f.payload 0 2) (fieldAt f.payload 2 1) 1 0
    else s.withSlots (s.partSlots f) := by
  unfold appendKey at h
  simp only [State.appendPart, partSlots_opens, h, State.withSlots]

variable {x : FarAppend} (h : tget (s.partSlots f) (appendKey f) = some x)
include h

theorem appendPart_extends (hp : fieldAt f.payload 2 1 + 1 < fieldAt f.payload 4 1) :
    s.appendPart f = s.withSlots (tset (s.partSlots f) (appendKey f) (x.extend f)) := by
  unfold appendKey at h
  simp only [State.appendPart, partSlots_opens, h, if_pos hp, State.withSlots, appendKey, FarAppend.extend]

theorem appendPart_last (hp : fieldAt f.payload 4 1 ≤ fieldAt f.payload 2 1 + 1) : s.appendPart f =
    let u := s.withSlots (tdel (s.partSlots f) (appendKey f))
    if !s.ldg.ready then u.appendEnd f.src.toNat (fieldAt f.payload 0 2) (fieldAt f.payload 2 1) 5 0
    else u.ldgAppend ((x.extend f).block f) := by
  unfold appendKey at h
  simp only [State.appendPart, partSlots_opens, h, if_neg (Nat.not_lt.2 hp), State.withSlots, appendKey,
    FarAppend.extend, FarAppend.block]

end Part

/-! APPEND_END (R544) -/

section End

variable {s : State} {pl : List Byte}

theorem appendEnded_none (h : s.appendOf pl = none) : s.appendEnded pl = s := by
  simp only [State.appendEnded, h]

variable {tag : Nat} {o : Op} (h : s.appendOf pl = some (tag, o))
include h

theorem appendEnded_numbered (hst : fieldAt pl 4 1 = 0) :
    s.appendEnded pl = s.appended (.program (o.token tag)) (fieldAt pl 8 8) := by
  simp only [State.appendEnded, h, if_pos hst]

theorem appendEnded_retried (hst : fieldAt pl 4 1 = 1) :
    s.appendEnded pl = s.setOp tag { o with busy := true } := by
  simp [State.appendEnded, h, hst]

theorem appendEnded_refused (h0 : fieldAt pl 4 1 ≠ 0) (h1 : fieldAt pl 4 1 ≠ 1) :
    s.appendEnded pl = s.endOp tag stDeviceError (if fieldAt pl 4 1 = 2 then 0x72 else if fieldAt pl 4 1 = 3 then 0x71
      else if fieldAt pl 4 1 = 5 then 0x73 else 0x70) := by
  simp only [State.appendEnded, h, if_neg h0, if_neg h1]

end End

section Flits

variable {s t : State} {p : Fin 2} {f : FlitIn}

theorem exec_ldgAppendPart_in_reset (hf : s.arrives p f = true) (hr : (s.accept p .req f).inReset = true) :
    exec (.ldgAppendPart p f) s = .next (settle ((s.accept p .req f).noRoute f.src.toNat 0x30 1 f.payload)) :=
  prgFlit_taken hf (if_pos (by simp [hr]))

theorem exec_ldgAppendPart_taken (hf : s.arrives p f = true) (hr : (s.accept p .req f).inReset = false)
    (h : (s.accept p .req f).appendPart f = t) : exec (.ldgAppendPart p f) s = .next (settle t) :=
  prgFlit_taken hf ((if_neg (by simp [hr])).trans h)

theorem exec_appendEnd (hf : s.arrives p f = true) (h : (s.accept p .rsp f).appendEnded f.payload = t) :
    exec (.appendEnd p f) s = .next (settle t) :=
  prgFlit_taken hf ((if_neg (by simp)).trans h)

end Flits

/-! A firmware append (R542) -/

/-- The block that firmware has written to LDG_FWA_DATA. -/
def State.fwaBlock (s : State) : Append :=
  { bytes := ((List.range 58).flatMap fun w => leBytes 4 (s.get (R.LDG_FWA_DATA_word w))).take
      (s.get R.LDG_FWA_CTL_count)
    mid := 2, src := s.ownSrc, poisoned := false, by_ := .firmware }

section Firmware

variable {s : State} {mid : BitVec 4}

theorem fwaGo_running (h : s.on R.LDG_FWA_CTL_go = true) : s.fwaGo = s := if_pos h

theorem fwaGo_appends (h : s.on R.LDG_FWA_CTL_go = false) :
    s.fwaGo = (s.put R.LDG_FWA_CTL_go 1).ldgAppend s.fwaBlock := if_neg (by simp [h])

theorem exec_firmwareAppend (ha : s.answers = true) :
    exec (.firmwareAppend mid) s = .next (settle (if mid = 2 then s.fwaGo else s)) :=
  next_settle_congr (State.whenUp_of_answers ha _)

end Firmware

/-! Durable records (R531, R543, R545) -/

/-- The oldest staged record in its segment, and the rest still staged. -/
def State.recordLanded (s : State) (x : Staged) (rest : List Staged) : State :=
  s.setLdg { s.ldg with
    staged := rest, segs := addRecord s.ldg.segs x, nvPair := x.pair, durable := ldgSeq x.bytes
    horizon := if ldgType x.bytes = tSeal then fieldAt x.bytes 0x78 8 else s.ldg.horizon }

section Durable

variable {s : State}

theorem durableOne_none (h : s.ldg.staged = []) : s.durableOne = s := by
  simp only [State.durableOne, h]

variable {x : Staged} {rest : List Staged} (h : s.ldg.staged = x :: rest)
include h

theorem durableOne_own (hb : x.by_ = none) : s.durableOne =
    let u := s.recordLanded x rest
    if ldgType x.bytes = tRelease then u.releaseDone x.bytes else u := by
  simp only [State.durableOne, h, hb, State.recordLanded]

theorem durableOne_append {b : AppendBy} (hb : x.by_ = some b) : s.durableOne =
    let u := (s.recordLanded x rest).appended b (ldgSeq x.bytes)
    if ldgType x.bytes = tRelease then u.releaseDone x.bytes else u := by
  simp only [State.durableOne, h, hb, State.recordLanded]

end Durable

/-! LDG_CMD (R538, R552, R570) -/

section Cmd

variable {s : State} {mid : BitVec 4}

theorem exec_sealRequest (ha : s.answers = true) :
    exec (.sealRequest mid) s = .next (settle (if mid.toNat < 3 ∧ s.sequences = true then s.ldgSealReq else s)) :=
  next_settle_congr ((State.whenUp_of_answers ha _).trans (by simp [State.ldgCmdWrite, Nat.testBit]))

theorem exec_segmentRelease (ha : s.answers = true) :
    exec (.segmentRelease mid) s = .next (settle (if mid.toNat < 2 then s.ldgRelease else s)) :=
  next_settle_congr ((State.whenUp_of_answers ha _).trans (by simp [State.ldgCmdWrite, Nat.testBit]))

theorem ldgSealReq_waits (h : LdgItem.seal ∈ s.ldg.due) : s.ldgSealReq = s.sequence :=
  if_pos (List.contains_iff_mem.2 h)

theorem ldgSealReq_queues (h : LdgItem.seal ∉ s.ldg.due) : s.ldgSealReq = s.ldgQueue .seal :=
  if_neg (mt List.contains_iff_mem.1 h)

theorem ldgRelease_idle (h : s.sequences = false ∨ s.ldgRuns = false) : s.ldgRelease = s.releaseRefused 4 :=
  if_pos (by rcases h with h | h <;> simp [h])

variable (hs : s.sequences = true) (hr : s.ldgRuns = true)
include hs hr

theorem ldgRelease_nothing (h : s.ldg.oldestSeg = none ∨ s.ldg.erase ≠ none) :
    s.ldgRelease = s.releaseRefused 1 := by
  refine (if_neg (by simp [hs, hr])).trans ?_
  cases ho : s.ldg.oldestSeg with
  | none => rfl
  | some x => exact if_pos (Option.isSome_iff_ne_none.2 (h.resolve_left (by simp [ho])))

variable {i : Nat} {g : Segment} (he : s.ldg.erase = none) (ho : s.ldg.oldestSeg = some (i, g))
include he ho

theorem ldgRelease_kept {n : Nat} (h : s.releaseReason i g = some n) : s.ldgRelease = s.releaseRefused n := by
  simp [State.ldgRelease, hs, hr, he, ho, h]

theorem ldgRelease_queues (h : s.releaseReason i g = none) : s.ldgRelease =
    (s.setLdg { s.ldg with erase := some i }).ldgQueue (.hw tRelease
      (leBytes 8 ((g.recs.head?.map ldgSeq).getD 0) ++ leBytes 8 ((g.recs.getLast?.map ldgSeq).getD 0))) := by
  simp [State.ldgRelease, hs, hr, he, ho, h]

end Cmd

/-! What a refused release shows (R570) -/

theorem releaseRefused_eq (s : State) (n : Nat) : s.releaseRefused n =
    (s.put R.LDG_LAST_release_reason n).raise R.LDG_EVT_cause 10 (R.LDG_EVT_CNT_count 10) := rfl

theorem releaseRefused_only (s : State) (n : Nat) :
    Only s (s.releaseRefused n) [R.LDG_LAST_release_reason, R.LDG_EVT_cause, R.LDG_EVT_CNT_count 10] :=
  ((Only.refl s _).put (by simp) n).raise (by simp) (by simp) 10

theorem releaseRefused_reason (s : State) {n : Nat} (h : n < 16) :
    (s.releaseRefused n).get R.LDG_LAST_release_reason = n := by
  have hraise : Only (s.put R.LDG_LAST_release_reason n) (s.releaseRefused n)
      [R.LDG_EVT_cause, R.LDG_EVT_CNT_count 10] := (Only.refl _ _).raise (by simp) (by simp) 10
  exact (hraise.2 _ (by decide)).trans ((State.get_put_same ..).trans (Nat.mod_eq_of_lt h))

theorem releaseRefused_raised (s : State) (n : Nat) :
    Raised s (s.releaseRefused n) R.LDG_EVT_cause 10 (R.LDG_EVT_CNT_count 10) := by
  have hput : Only s (s.put R.LDG_LAST_release_reason n) [R.LDG_LAST_release_reason] :=
    (Only.refl s _).put (by simp) n
  obtain ⟨hcause, hcount⟩ := raised_raise (s.put R.LDG_LAST_release_reason n) (evt := R.LDG_EVT_cause)
    (cnt := R.LDG_EVT_CNT_count 10) 10 (by decide)
  rw [← releaseRefused_eq, hput.2 _ (by decide)] at hcause
  rw [← releaseRefused_eq, State.plus, hput.2 _ (by decide)] at hcount
  exact ⟨hcause, hcount⟩

/-! LDG_EXPORTED (R551) -/

section Exported

variable {s : State} {mid : BitVec 4} {v : W64} (ha : s.answers = true)
include ha

theorem exec_exportedWrite_moves (h : mid = 2 ∧ s.ldg.exported ≤ v.toNat ∧ v.toNat ≤ s.ldg.durable) :
    exec (.exportedWrite mid v) s = .next { s with ldg := { s.ldg with exported := v.toNat } } := by
  obtain ⟨hm, hrange⟩ := h
  exact congrArg _ ((State.whenUp_of_answers ha _).trans ((if_pos hm).trans (if_pos (by simpa using hrange))))

theorem exec_exportedWrite_ignored (h : ¬ (mid = 2 ∧ s.ldg.exported ≤ v.toNat ∧ v.toNat ≤ s.ldg.durable)) :
    exec (.exportedWrite mid v) s = .next s := by
  refine congrArg _ ((State.whenUp_of_answers ha _).trans ?_)
  by_cases hm : mid = 2
  · exact (if_pos hm).trans (if_neg (by simpa [hm] using h))
  · exact if_neg hm

end Exported

end Sys2Proof.Machine

end

section

namespace Sys2Proof.Machine

/-! ### Appends of records, and the release of segments (O44): the statement -/

/-- A part of a far append that reaches a unit out of reset, by the slot that it finds and whether it is the last. -/
theorem exec_ldgAppendPart_assembled {s : State} {p : Fin 2} {f : FlitIn} (hf : s.arrives p f = true)
    (hr : (s.accept p .req f).inReset = false) {x : FarAppend}
    (hx : tget ((s.accept p .req f).partSlots f) (appendKey f) = some x) :
    let a := s.accept p .req f
    let takes (t : State) := exec (.ldgAppendPart p f) s = .next (settle t)
    let u := a.withSlots (tdel (a.partSlots f) (appendKey f))
    let b := (x.extend f).block f
    (fieldAt f.payload 2 1 + 1 < fieldAt f.payload 4 1 →
      takes (a.withSlots (tset (a.partSlots f) (appendKey f) (x.extend f)))) ∧
    (fieldAt f.payload 4 1 ≤ fieldAt f.payload 2 1 + 1 →
      (a.ldg.ready = false →
        takes (u.appendEnd f.src.toNat (fieldAt f.payload 0 2) (fieldAt f.payload 2 1) 5 0)) ∧
      (a.ldg.ready = true →
        (∀ d, u.appendRefusal b = some d → takes (u.appendRefused b d)) ∧
        (u.appendRefusal b = none → takes (u.ldgQueue (.append b))))) := by
  refine ⟨fun hp => exec_ldgAppendPart_taken hf hr (appendPart_extends hx hp), fun hp =>
    ⟨fun hready => ?_, fun hready => exec_ldgAppend ?_⟩⟩
  · exact exec_ldgAppendPart_taken hf hr ((appendPart_last hx hp).trans (if_pos (by simp [hready])))
  · exact exec_ldgAppendPart_taken hf hr ((appendPart_last hx hp).trans (if_neg (by simp [hready])))

/-- Settles O44: a LEDGER_APPEND by how far its block has been read and where its ledger is, a part by its slot, an
APPEND_END by its status, a staged record by what asked for it, the writes of LDG_CMD and LDG_EXPORTED by their
conditions. -/
theorem appendsEnterTheLedger : Obligations.AppendsEnterTheLedger := by
  intro s
  refine ⟨fun tag o h => ?_, fun tag o => ⟨sendAppend_held o, sendAppend_unroutable o⟩,
    fun tag h => ⟨next_settle_congr (ledgerAppend_none h), exec_farAppendResend_none h, exec_farAppendTimeout_none h⟩,
    fun tag o h => ?_, fun p f hf => ?_, fun p f hf => ?_,
    fun p f hf => ⟨prgFlit_ignored hf _ _, prgFlit_ignored hf _ _⟩, fun ha mid => ⟨fun h => ?_, fun hm hgo => ?_⟩,
    fun h => next_settle_congr (congrArg State.sequence (durableOne_none h)),
    fun x rest h => ⟨fun hb => next_settle_congr (congrArg State.sequence (durableOne_own h hb)),
      fun b hb => next_settle_congr (congrArg State.sequence (durableOne_append h hb))⟩,
    fun ha mid => ⟨fun hm hs => ⟨fun hd => ?_, fun hd => ?_⟩, fun h => ?_, fun hm => ?_, fun hm => ?_,
      fun v h => exec_exportedWrite_moves ha h, fun v h => exec_exportedWrite_ignored ha h⟩,
    fun n hn => ⟨releaseRefused_only s n, releaseRefused_reason s (hn.trans (by decide)), releaseRefused_raised s n⟩⟩
  · have ht : tag.val < 2048 := tag.isLt
    exact ⟨fun hw => next_settle_congr (ledgerAppend_handed h hw),
      fun hb hs hr => next_settle_congr (ledgerAppend_wants h ht hb hs hr),
      fun hb hs hr hlen => next_settle_congr (ledgerAppend_short h hb hs hr hlen),
      fun hb hs hr hlen hfar => ⟨fun hp => next_settle_congr (ledgerAppend_far_poisoned h ht hb hs hr hlen hfar hp),
        fun hp => next_settle_congr (ledgerAppend_sends h ht hb hs hr hlen hfar hp)⟩,
      fun hb hs hr hlen hnear => exec_ldgAppend (next_settle_congr (ledgerAppend_near h ht hb hs hr hlen hnear))⟩
  · have hresend := exec_farAppendResend_live h
    have htimeout := exec_farAppendTimeout_live h
    refine ⟨fun hs hb => ?_, fun hw => ?_, fun hs hb => ?_, fun hw => ?_⟩
    · exact hresend.trans (next_settle_congr (if_pos (by simp [hs, hb])))
    · exact hresend.trans (next_settle_congr (if_neg (by rcases hw with hw | hw <;> simp [hw])))
    · exact htimeout.trans (next_settle_congr (if_pos (by simp [hs, hb])))
    · exact htimeout.trans (next_settle_congr (if_neg (by rcases hw with hw | hw <;> simp [hw])))
  · refine ⟨fun hr => exec_ldgAppendPart_in_reset hf hr, fun hr => ⟨fun hx => ⟨fun hp => ?_, fun hp => ?_⟩,
      fun x hx => exec_ldgAppendPart_assembled hf hr hx⟩⟩
    · exact exec_ldgAppendPart_taken hf hr ((appendPart_unknown hx).trans (if_pos hp))
    · exact exec_ldgAppendPart_taken hf hr ((appendPart_unknown hx).trans (if_neg hp))
  · refine ⟨fun h => exec_appendEnd hf (appendEnded_none h), fun tag o h =>
      ⟨fun hst => exec_appendEnd hf (appendEnded_numbered h hst),
        fun hst => exec_appendEnd hf (appendEnded_retried h hst), ?_⟩⟩
    rintro st rfl h0 h1
    exact exec_appendEnd hf (appendEnded_refused h h0 h1)
  · refine (exec_firmwareAppend ha).trans (next_settle_congr ?_)
    rcases h with hm | hgo
    · exact if_neg hm
    · rw [fwaGo_running hgo, ite_self]
  · exact exec_ldgAppend
      ((exec_firmwareAppend ha).trans (next_settle_congr ((if_pos hm).trans (fwaGo_appends hgo))))
  · exact (exec_sealRequest ha).trans (next_settle_congr ((if_pos ⟨hm, hs⟩).trans (ldgSealReq_queues hd)))
  · exact (exec_sealRequest ha).trans (next_settle_congr ((if_pos ⟨hm, hs⟩).trans (ldgSealReq_waits hd)))
  · exact (exec_sealRequest ha).trans (next_settle_congr (if_neg h))
  · exact (exec_segmentRelease ha).trans (next_settle_congr (if_neg (Nat.not_lt.2 hm)))
  · have release {t : State} (h : s.ldgRelease = t) : exec (.segmentRelease mid) s = .next (settle t) :=
      (exec_segmentRelease ha).trans (next_settle_congr ((if_pos hm).trans h))
    exact ⟨fun h => release (ldgRelease_idle h), fun hs hr => ⟨fun h => release (ldgRelease_nothing hs hr h),
      fun i g he ho => ⟨fun n h => release (ldgRelease_kept hs hr he ho h),
        fun h => release (ldgRelease_queues hs hr he ho h)⟩⟩⟩

end Sys2Proof.Machine

end

section

namespace Sys2Proof.Machine

/-! ### Sub-engines retired and migrated (O54) -/

/-! The end of a migration (R350, R626, R639) -/

/-- A program that has been migrated, before its operation is judged: marked and traced (R350, R663). -/
def State.migrationNoted (s : State) (tag i j : Nat) (p : Prog) : State :=
  (s.setProg tag { p with migrated := true }).trace .program
    { type := 0x07, mid := 6, tag := some tag, sq := p.sq, arg0 := i, arg1 := j }

section Migrate

variable {s : State} {tag i j : Nat}

theorem migrateProg_none (h : s.prog tag = none) : s.migrateProg tag i j = s := by
  simp only [State.migrateProg, h]

variable {p : Prog} (hp : s.prog tag = some p)
include hp

theorem migrateProg_no_op (ho : (s.migrationNoted tag i j p).op tag = none) :
    s.migrateProg tag i j = s.migrationNoted tag i j p := by
  unfold State.migrationNoted at ho ⊢
  simp only [State.migrateProg, hp, ho]

variable {o : Op} (ho : (s.migrationNoted tag i j p).op tag = some o)
include ho

theorem migrateProg_op : s.migrateProg tag i j =
    if o.ended.isSome then s.migrationNoted tag i j p
    else if o.deviceBegun && !o.first.idem then (s.migrationNoted tag i j p).endProg tag stInterrupted 0
    else (s.migrationNoted tag i j p).restartOp tag := by
  unfold State.migrationNoted at ho ⊢
  simp only [State.migrateProg, hp, ho]

theorem migrateProg_ended (he : o.ended ≠ none) : s.migrateProg tag i j = s.migrationNoted tag i j p :=
  (migrateProg_op hp ho).trans (if_pos (Option.isSome_iff_ne_none.2 he))

variable (he : o.ended = none)
include he

theorem migrateProg_interrupts (hb : (o.deviceBegun && !o.first.idem) = true) :
    s.migrateProg tag i j = (s.migrationNoted tag i j p).endProg tag stInterrupted 0 :=
  (migrateProg_op hp ho).trans ((if_neg (by simp [he])).trans (if_pos hb))

theorem migrateProg_restarts (hb : (o.deviceBegun && !o.first.idem) = false) :
    s.migrateProg tag i j = (s.migrationNoted tag i j p).restartOp tag :=
  (migrateProg_op hp ho).trans ((if_neg (by simp [he])).trans (if_neg (by simp [hb])))

end Migrate

section MigrationEnd

variable {s : State} {k : Nat}

theorem migrationEnd_none (h : s.tln.moves.find? (fun m => m.1 == k) = none) : s.migrationEnd k = s := by
  simp only [State.migrationEnd, h]

/-- The programs of a logical sub-engine migrated, its mapping changed, and the journal entry written (R626). -/
def State.migratedTo (s : State) (k i j cause : Nat) : State :=
  let u := (s.progsOf k).foldl (fun t g => t.migrateProg g i j) s
  State.jrnlWrite { u with sePhys := tput u.sePhys k j k } jSubengine 0x02 i (j + k * 2 ^ 8) cause

theorem migrationEnd_moves {q i j cause : Nat} (h : s.tln.moves.find? (fun m => m.1 == k) = some (q, i, j, cause)) :
    s.migrationEnd k =
      let w := s.migratedTo k i j cause
      let x := w.setTln { w.tln with moves := w.tln.moves.filter fun m => m.1 != k
                                     waiting := w.tln.waiting.filter fun x => x.1 != i }
      (w.tln.waiting.filter fun x => x.1 == i).foldl (fun t x => (t.retireSe x.1 x.2).1)
        (x.put R.TLN_STATUS_migrating (b2n (!x.tln.moves.isEmpty))) := by
  simp only [State.migrationEnd, h, State.migratedTo, State.flag]

theorem exec_migrationComplete {s t : State} {k : Fin 32} (h : s.migrationEnd k = t) :
    exec (.migrationComplete k) s = .next (settle t.reready) :=
  next_settle_congr (congrArg State.reready h)

end MigrationEnd

/-! A retire request (R626, R627, R639) -/

section Retire

variable {s : State} {i : Nat} (cause : Nat)

theorem retireSe_waits (h : s.tln.moves.any (fun m => m.2.1 == i) = true) :
    (s.retireSe i cause).1 = s.setTln { s.tln with waiting := s.tln.waiting ++ [(i, cause)] } := by
  simp only [State.retireSe, if_pos h]

variable (hm : s.tln.moves.any (fun m => m.2.1 == i) = false)
include hm

theorem retireSe_already (h : s.tln.retired.contains i = true) : (s.retireSe i cause).1 = s := by
  simp only [State.retireSe, hm, Bool.false_eq_true, if_false, if_pos h]

variable (hr : s.tln.retired.contains i = false)
include hr

section Target

variable {m : Nat × Nat × Nat × Nat} (h : s.tln.moves.find? (fun m => m.2.2.1 == i) = some m)
include h

theorem retireSe_target_no_spare (hs : s.spareSes = []) : (s.retireSe i cause).1 = s.tlnRaise 3 := by
  simp only [State.retireSe, hm, hr, Bool.false_eq_true, if_false, h, hs]

theorem retireSe_target {j : Nat} {rest : List Nat} (hs : s.spareSes = j :: rest) : (s.retireSe i cause).1 =
    (s.markRetired i 0x3F 0 cause).setTln { (s.markRetired i 0x3F 0 cause).tln with
      moves := s.tln.moves.map fun n => if n.1 == m.1 then (n.1, n.2.1, j, n.2.2.2) else n } := by
  simp only [State.retireSe, hm, hr, Bool.false_eq_true, if_false, h, hs]

end Target

variable (h : s.tln.moves.find? (fun m => m.2.2.1 == i) = none)
include h

theorem retireSe_spare (hl : s.logicalOf i = none) : (s.retireSe i cause).1 = s.markRetired i 0x3F 0 cause := by
  simp only [State.retireSe, hm, hr, Bool.false_eq_true, if_false, h, hl]

variable {k : Nat} (hl : s.logicalOf i = some k)
include hl

theorem retireSe_carrier_no_spare (hs : s.spareSes = []) : (s.retireSe i cause).1 = s.tlnRaise 3 := by
  simp only [State.retireSe, hm, hr, Bool.false_eq_true, if_false, h, hl, hs]

theorem retireSe_carrier {j : Nat} {rest : List Nat} (hs : s.spareSes = j :: rest) : (s.retireSe i cause).1 =
    let u := s.setTln { s.tln with
      moves := s.tln.moves ++ [(k, i, j, cause)], retired := s.tln.retired ++ [i], seSince := s.tln.seSince + 1 }
    (State.put { u with progs := u.progs.map (onMoved k) } R.TLN_STATUS_migrating 1).tlnRaise 0 := by
  simp only [State.retireSe, hm, hr, Bool.false_eq_true, if_false, h, hl, hs]

end Retire

/-- A retire request that is taken, by what the sub-engine does and which spares there are. -/
theorem retireSe_retired {s : State} {i : Nat} {done : State → Prop} (h : done (s.retireSe i causeRequest).1) :
    SubengineRetired s i done := by
  have ends {t : State} (ht : (s.retireSe i causeRequest).1 = t) : done t := ht ▸ h
  exact ⟨fun hm => ends (retireSe_waits _ hm), fun hm => ⟨fun hr => ends (retireSe_already _ hm hr), fun hr =>
    ⟨fun m hf => ⟨fun hs => ends (retireSe_target_no_spare _ hm hr hf hs),
        fun j rest hs => ends (retireSe_target _ hm hr hf hs)⟩,
      fun hf => ⟨fun hl => ends (retireSe_spare _ hm hr hf hl),
        fun k hl => ⟨fun hs => ends (retireSe_carrier_no_spare _ hm hr hf hl hs),
          fun j rest hs => ends (retireSe_carrier _ hm hr hf hl hs)⟩⟩⟩⟩⟩

section RetireRequest

variable {s : State} {mid : BitVec 4} {i : BitVec 6}

theorem exec_retireSe_ignored (h : s.answers = false ∨ 2 < mid.toNat ∨ 36 ≤ i.toNat) :
    exec (.retireSe mid i) s = .next (settle s) := by
  rcases h with h | h | h
  · exact next_settle_congr (State.whenUp_of_not_answers h _)
  · exact next_settle_congr (State.whenUp_of_idle (if_neg (by simp [Nat.not_le.2 h])))
  · exact next_settle_congr (State.whenUp_of_idle (if_neg (by simp [Nat.not_lt.2 h])))

theorem exec_retireSe_taken (ha : s.answers = true) (hm : mid.toNat ≤ 2) (hi : i.toNat < 36) :
    exec (.retireSe mid i) s = .next (settle (s.retireSe i.toNat causeRequest).1) :=
  next_settle_congr ((State.whenUp_of_answers ha _).trans (if_pos (by simp [hm, hi])))

end RetireRequest

end Sys2Proof.Machine

end

section

namespace Sys2Proof.Machine

/-! ### Rows, banks, lanes and the repair point (O54) -/

/-! A row request (R629) -/

section Row

variable {s : State} {bank word : Nat} (cause : Nat)

theorem queueRow_queued (h : rowCode (s.physBank bank) word ∈ s.tln.rowQ) : (s.queueRow bank word cause).1 = s := by
  simp only [State.queueRow, if_pos (List.contains_iff_mem.2 h)]

variable (hq : rowCode (s.physBank bank) word ∉ s.tln.rowQ)
include hq

theorem queueRow_unqueued : (s.queueRow bank word cause).1 =
    if (s.spareRow (rowCode (s.physBank bank) word)).isNone then
      if s.tln.bankQ == some bank then s
      else if s.bankFree && s.tln.bankQ.isNone then s.queueBank bank cause else s
    else if 64 ≤ s.tln.rowQ.length then s.tlnRaise 4
    else ((s.setTln { s.tln with rowQ := s.tln.rowQ ++ [rowCode (s.physBank bank) word] }).jrnlWrite jRow 0x01
      (rowCode (s.physBank bank) word) 0 cause).tlnRaise 1 := by
  simp only [State.queueRow, if_neg (mt List.contains_iff_mem.1 hq), apply_ite Prod.fst]

section Spare

variable (hs : s.spareRow (rowCode (s.physBank bank) word) ≠ none)
include hs

theorem queueRow_joins (h : s.tln.rowQ.length < 64) : (s.queueRow bank word cause).1 =
    ((s.setTln { s.tln with rowQ := s.tln.rowQ ++ [rowCode (s.physBank bank) word] }).jrnlWrite jRow 0x01
      (rowCode (s.physBank bank) word) 0 cause).tlnRaise 1 := by
  rw [queueRow_unqueued cause hq, if_neg (by simpa using hs), if_neg (Nat.not_le.2 h)]

theorem queueRow_full (h : 64 ≤ s.tln.rowQ.length) : (s.queueRow bank word cause).1 = s.tlnRaise 4 := by
  rw [queueRow_unqueued cause hq, if_neg (by simpa using hs), if_pos h]

end Spare

variable (hs : s.spareRow (rowCode (s.physBank bank) word) = none)
include hs

theorem queueRow_bank (hb : s.tln.bankQ = none) (hf : s.bankFree = true) : (s.queueRow bank word cause).1 =
    (s.setTln { s.tln with bankQ := some bank }).jrnlWrite jBank 0x01 bank 0 cause := by
  rw [queueRow_unqueued cause hq, if_pos (by simp [hs]), if_neg (by simp [hb]), if_pos (by simp [hb, hf])]
  exact if_neg (by simp [hb])

theorem queueRow_nothing (h : s.tln.bankQ ≠ none ∨ s.bankFree = false) : (s.queueRow bank word cause).1 = s := by
  rw [queueRow_unqueued cause hq, if_pos (by simp [hs])]
  split
  · rfl
  · exact if_neg (by rcases h with h | h <;> simp [h])

end Row

section RowRequest

variable {s : State} {mid : BitVec 4} {v : W32}

theorem exec_rowRequest_ignored (h : s.answers = false ∨ 2 < mid.toNat ∨ 25 ≤ bits v.toNat 16 5) :
    exec (.rowRequest mid v) s = .next (settle s) := by
  rcases h with h | h | h
  · exact next_settle_congr (State.whenUp_of_not_answers h _)
  · exact next_settle_congr (State.whenUp_of_idle (if_neg (by simp [Nat.not_le.2 h])))
  · exact next_settle_congr (State.whenUp_of_idle (if_neg (by simp [Nat.not_lt.2 h])))

theorem exec_rowRequest_taken (ha : s.answers = true) (hm : mid.toNat ≤ 2) (hb : bits v.toNat 16 5 < 25) {t : State}
    (h : (s.queueRow (bits v.toNat 16 5) (v.toNat % 65536) causeRequest).1 = t) :
    exec (.rowRequest mid v) s = .next (settle t) :=
  next_settle_congr ((State.whenUp_of_answers ha _).trans ((if_pos (by simp [hm, hb])).trans h))

end RowRequest

/-! A repair point begins and ends (R630–R632, R640) -/

section Repair

variable {s : State}

theorem exec_repair_begins {mid : BitVec 4} (ha : s.answers = true) (hm : mid = 2) (hp : s.power = 0)
    (hr : s.on R.TLN_STATUS_repairing = false) :
    exec (.repair mid) s = .next (s.put R.TLN_STATUS_repairing 1) :=
  congrArg _ ((State.whenUp_of_answers ha _).trans (if_pos (by simp [hm, hp, hr])))

theorem exec_repair_ignored {mid : BitVec 4}
    (h : s.answers = false ∨ mid ≠ 2 ∨ s.power ≠ 0 ∨ s.on R.TLN_STATUS_repairing = true) :
    exec (.repair mid) s = .next s := by
  rcases h with h | hm | h | h
  · exact congrArg _ (State.whenUp_of_not_answers h _)
  · have hm' : mid.toNat ≠ 2 := fun e => hm (BitVec.eq_of_toNat_eq e)
    exact congrArg _ (State.whenUp_of_idle (if_neg (by simp [hm'])))
  · exact congrArg _ (State.whenUp_of_idle (if_neg (by simp [h])))
  · exact congrArg _ (State.whenUp_of_idle (if_neg (by simp [h])))

/-- What a repair point repairs once its words have been copied: the queued rows, whose count is the second part of the
answer, and the queued bank. -/
def State.repaired (s : State) (f : RepairFaults) : (State × Nat) × Nat :=
  let r := State.repairRows f s.tln.rowQ s 0 []
  ((r.1.setTln { r.1.tln with rowQ := r.2.2 }).repairBank f, r.2.1)

/-- The counts of a repair point that has ended, shown in TLN_RP (R632). -/
def State.repairShown (s : State) (rows banks : Nat) : State :=
  ((((((s.setTln { s.tln with seSince := 0, asked := none }).put R.TLN_RP_rows rows).put R.TLN_RP_banks banks).put
    R.TLN_RP_subengines s.tln.seSince).put R.TLN_STATUS_repairing 0).tlnRaise 2)

variable {f : RepairFaults}

theorem repairEnd_idle (h : s.on R.TLN_STATUS_repairing = false) : s.repairEnd f = s := if_pos (by simp [h])

variable (h : s.on R.TLN_STATUS_repairing = true)
include h

theorem repairEnd_unasked (ha : ((settle (s.copyWords f.words)).repaired f).1.1.tln.asked = none) :
    s.repairEnd f =
      let r := (settle (s.copyWords f.words)).repaired f
      r.1.1.repairShown r.2 r.1.2 := by
  dsimp only [State.repaired] at ha ⊢
  simp only [State.repairEnd, h, Bool.not_true, Bool.false_eq_true, if_false, ha, State.repairShown]

theorem repairEnd_answers {a : Asked} (ha : ((settle (s.copyWords f.words)).repaired f).1.1.tln.asked = some a) :
    s.repairEnd f =
      let r := (settle (s.copyWords f.words)).repaired f
      let z := r.1.1.repairShown r.2 r.1.2
      z.fwReply a rsOk [r.2, r.1.2, z.get R.TLN_RP_subengines] := by
  dsimp only [State.repaired] at ha ⊢
  simp only [State.repairEnd, h, Bool.not_true, Bool.false_eq_true, if_false, ha, State.repairShown]

end Repair

/-! CLEAR_LANE (R633), and the self-tests (R619) -/

section Lane

variable {s : State} {mid : BitVec 4} {p : Fin 2}

theorem exec_clearLane_ignored (h : s.answers = false ∨ 1 < mid.toNat) :
    exec (.clearLane mid p) s = .next (settle s) := by
  rcases h with h | h
  · exact next_settle_congr (State.whenUp_of_not_answers h _)
  · exact next_settle_congr (State.whenUp_of_idle (if_neg (Nat.not_le.2 h)))

theorem exec_clearLane_clears (ha : s.answers = true) (hm : mid.toNat ≤ 1) : exec (.clearLane mid p) s =
    .next (settle ((s.setTln (s.tln.lanesCleared p)).jrnlWrite jLaneClear 0x02 p 0 causeRequest)) :=
  next_settle_congr ((State.whenUp_of_answers ha _).trans (if_pos hm))

theorem spareTest_failed {i : Nat} (h : s.spareSes.contains i = true) :
    s.spareTest i true = s.fault { src := 80 + i, res := i } :=
  if_pos (by rw [h]; rfl)

theorem spareTest_quiet {i : Nat} {failed : Bool} (h : failed = false ∨ s.spareSes.contains i = false) :
    s.spareTest i failed = s :=
  if_neg (by rcases h with h | h <;> simp only [h, Bool.false_and, Bool.and_false, Bool.false_eq_true, not_false_eq_true])

end Lane

end Sys2Proof.Machine

end

section

namespace Sys2Proof.Machine

/-! ### The scrubber (O54) -/

/-! What a scrubber read leaves of the bank map (R618) -/

theorem bankRetired_of_bankMap {s t : State} (h : t.tln.bankMap = s.tln.bankMap) (bank : Nat) :
    t.bankRetired bank = s.bankRetired bank := by
  simp only [State.bankRetired, State.bankNumber, State.physBank, h]

theorem uncorrRead_bankMap (s : State) (a : Nat) : (s.uncorrRead a).tln.bankMap = s.tln.bankMap := by
  unfold State.uncorrRead
  split <;> rfl

theorem scrubUsed_poisoned {s : State} {a : Nat} (h : s.poisonAt a = true) : s.scrubUsed a .uncorrectable = s := if_pos h

theorem scrubUsed_uncorrectable {s : State} {a : Nat} (h : s.poisonAt a = false) :
    s.scrubUsed a .uncorrectable = ((s.count (R.SCB_CNT_count 2)).scbRaise 2).uncorrRead a :=
  if_neg (by simp [h])

theorem scrubUsed_bankMap (s : State) (a : Nat) (c : WordCheck) : (s.scrubUsed a c).tln.bankMap = s.tln.bankMap := by
  cases c with
  | good => rfl
  | corrected => rfl
  | uncorrectable =>
    cases h : s.poisonAt a with
    | true => rw [scrubUsed_poisoned h]
    | false =>
      rw [scrubUsed_uncorrectable h]
      exact uncorrRead_bankMap ..

theorem scrubFree_bankMap (s : State) (key : Nat) (c : WordCheck) :
    (s.scrubFree key c).1.tln.bankMap = s.tln.bankMap := by
  cases c <;> rfl

/-- The scrubber's part at a place of a spare row that is free (R637). -/
def State.scrubSpare (s : State) (bank pos : Nat) (c : WordCheck) : State :=
  let p := scbPlace pos
  let key := 2 * (8 * bank + p.1) + (p.2.1 - 512)
  if 512 ≤ p.2.1 && (tget s.tln.spares key).isNone then
    let r := s.scrubFree key c
    if r.2 then (r.1.setTln { r.1.tln with spares := tset r.1.tln.spares key (2, 0) }).scbRaise 3 else r.1
  else s

theorem scrubSpare_bankMap (s : State) (bank pos : Nat) (c : WordCheck) :
    (s.scrubSpare bank pos c).tln.bankMap = s.tln.bankMap := by
  unfold State.scrubSpare
  dsimp only
  split
  · split <;> exact scrubFree_bankMap ..
  · rfl

/-- The scrubber's part at a word of the unmapped spare bank, or of a row in use (R636, R637). -/
def State.scrubWord (s : State) (bank pos : Nat) (c : WordCheck) : State :=
  if s.spareBank bank then
    let r := s.scrubFree (bankWordKey pos) c
    if r.2 && !r.1.tln.bankFailed then (r.1.setTln { r.1.tln with bankFailed := true }).scbRaise 3 else r.1
  else
    match s.scbAddr bank pos with
    | some a => s.scrubUsed a (s.checkOf a c)
    | none => s

theorem scrubWord_bankMap (s : State) (bank pos : Nat) (c : WordCheck) :
    (s.scrubWord bank pos c).tln.bankMap = s.tln.bankMap := by
  unfold State.scrubWord
  dsimp only
  split
  · split <;> exact scrubFree_bankMap ..
  · split
    · exact scrubUsed_bankMap ..
    · rfl

theorem scrubAt_eq (s : State) (bank pos : Nat) (c : WordCheck) :
    s.scrubAt bank pos c = (s.scrubSpare bank pos c).scrubWord bank pos c := rfl

theorem scrubAt_bankMap (s : State) (bank pos : Nat) (c : WordCheck) :
    (s.scrubAt bank pos c).tln.bankMap = s.tln.bankMap :=
  (congrArg (·.tln.bankMap) (scrubAt_eq s bank pos c)).trans
    ((scrubWord_bankMap ..).trans (scrubSpare_bankMap s bank pos c))

/-! A word of a row in use (R636) -/

section Word

variable {s : State} {bank pos a : Nat}

theorem scrubSpare_in_use (h : pos / 16 % 514 < 512) (c : WordCheck) : s.scrubSpare bank pos c = s :=
  if_neg (by simp [scbPlace, Nat.not_le.2 h])

theorem scrubAt_in_use (hb : s.spareBank bank = false) (hp : pos / 16 % 514 < 512) (ha : s.scbAddr bank pos = some a)
    (c : WordCheck) : s.scrubAt bank pos c = s.scrubUsed a (s.checkOf a c) := by
  rw [scrubAt_eq, scrubSpare_in_use hp]
  simp only [State.scrubWord, hb, Bool.false_eq_true, if_false, ha]

end Word

/-! The read (R635–R638) -/

section Read

variable {s : State} {c : WordCheck} (starved : Bool)

theorem scrub_idle (h : s.isUp = false ∨ s.running = false) : s.scrub c starved = s :=
  if_pos (by rcases h with h | h <;> simp [h])

/-- The state in which the scrubber reads: a read forced by the starvation bound has set its cause. -/
def State.scrubBegun (s : State) (starved : Bool) : State := if starved then s.scbRaise 4 else s

variable (hu : s.isUp = true) (hr : s.running = true)
include hu hr

theorem scrub_skips (h : (s.scrubBegun starved).bankRetired ((s.scrubBegun starved).get R.SCB_STATUS_bank) = true) :
    s.scrub c starved = (s.scrubBegun starved).scbNext ((s.scrubBegun starved).get R.SCB_STATUS_bank) 65791 := by
  unfold State.scrubBegun at h ⊢
  simp only [State.scrub, hu, hr, h, Bool.not_true, Bool.or_self, Bool.false_eq_true, if_false, if_true]

theorem scrub_reads (h : (s.scrubBegun starved).bankRetired ((s.scrubBegun starved).get R.SCB_STATUS_bank) = false) :
    s.scrub c starved =
      let u := s.scrubBegun starved
      let bank := u.get R.SCB_STATUS_bank
      let pos := u.get R.SCB_STATUS_position
      (u.scrubAt bank pos c).scbNext bank pos := by
  have hafter := fun pos => (bankRetired_of_bankMap (scrubAt_bankMap (s.scrubBegun starved)
    ((s.scrubBegun starved).get R.SCB_STATUS_bank) pos c) ((s.scrubBegun starved).get R.SCB_STATUS_bank)).trans h
  unfold State.scrubBegun at h hafter ⊢
  simp only [State.scrub, hu, hr, h, hafter, Bool.not_true, Bool.or_self, Bool.false_eq_true, if_false]

/-- A word of a row in use that the scrubber reads, by what its check finds. -/
theorem scrub_finds {a : Nat}
    (h : (s.scrubBegun starved).bankRetired ((s.scrubBegun starved).get R.SCB_STATUS_bank) = false)
    (hb : (s.scrubBegun starved).spareBank ((s.scrubBegun starved).get R.SCB_STATUS_bank) = false)
    (hp : (s.scrubBegun starved).get R.SCB_STATUS_position / 16 % 514 < 512)
    (ha : (s.scrubBegun starved).scbAddr ((s.scrubBegun starved).get R.SCB_STATUS_bank)
      ((s.scrubBegun starved).get R.SCB_STATUS_position) = some a)
    ⦃found : WordCheck⦄ (hd : (s.scrubBegun starved).checkOf a c = found) {t : State}
    (ht : (s.scrubBegun starved).scrubUsed a found = t) :
    s.scrub c starved = t.scbNext ((s.scrubBegun starved).get R.SCB_STATUS_bank)
      ((s.scrubBegun starved).get R.SCB_STATUS_position) := by
  subst hd ht
  simp only [scrub_reads starved hu hr h, scrubAt_in_use hb hp ha]

end Read

end Sys2Proof.Machine

end

section

namespace Sys2Proof.Machine

/-! ### Talon's repairs (O54): the statement -/

/-- Settles O54: a migration by whether its sub-engine moves, a program by its operation, the requests by their sender
and their place, a repair point by whether one asked for it, a scrubber read by its bank and by its word. -/
theorem talonRepairsAndScrubs : Obligations.TalonRepairsAndScrubs := by
  intro s
  refine ⟨fun k => ⟨fun h => exec_migrationComplete (migrationEnd_none h),
      fun q i j cause h => exec_migrationComplete (migrationEnd_moves h)⟩,
    fun tag i j => ⟨migrateProg_none, fun p hp => ⟨migrateProg_no_op hp, fun o ho => ⟨migrateProg_ended hp ho,
      migrateProg_interrupts hp ho, migrateProg_restarts hp ho⟩⟩⟩,
    fun mid i => ⟨exec_retireSe_ignored, fun ha hm hi => retireSe_retired (exec_retireSe_taken ha hm hi)⟩,
    fun mid v => ⟨exec_rowRequest_ignored, fun ha hm hb => ?_⟩, fun mid => ⟨exec_repair_begins, exec_repair_ignored⟩,
    fun words rows bank => ⟨fun h => next_settle_congr (repairEnd_idle h), fun h =>
      ⟨fun ha => next_settle_congr (repairEnd_unasked h ha), fun a ha => next_settle_congr (repairEnd_answers h ha)⟩⟩,
    fun mid p => ⟨exec_clearLane_ignored, exec_clearLane_clears⟩, fun corr uncorr starved => ?_, fun i => ?_⟩
  · have asks {t : State} (h : (s.queueRow (bits v.toNat 16 5) (v.toNat % 65536) causeRequest).1 = t) :
        exec (.rowRequest mid v) s = .next (settle t) := exec_rowRequest_taken ha hm hb h
    exact ⟨fun hq => asks (queueRow_queued _ hq), fun hq hs hn => asks (queueRow_joins _ hq hs hn),
      fun hq hs hn => asks (queueRow_full _ hq hs hn), fun hq hs hbank hf => asks (queueRow_bank _ hq hs hbank hf),
      fun hq hs h => asks (queueRow_nothing _ hq hs h)⟩
  · refine ⟨fun h => next_settle_congr (scrub_idle starved h), fun hu hr =>
      ⟨fun h => next_settle_congr (scrub_skips starved hu hr h), fun h => next_settle_congr (scrub_reads starved hu hr h),
        fun a h hb hp ha => ?_⟩⟩
    have finds := scrub_finds (c := if uncorr then .uncorrectable else if corr then .corrected else .good) starved hu hr h
      hb hp ha
    exact ⟨fun hd => next_settle_congr (finds hd rfl), fun hd => next_settle_congr (finds hd rfl),
      fun hd hpois => next_settle_congr (finds hd (scrubUsed_poisoned hpois)),
      fun hd hpois => next_settle_congr (finds hd (scrubUsed_uncorrectable hpois))⟩
  · exact ⟨rfl, next_settle_congr (spareTest_quiet (.inl rfl)), fun h => next_settle_congr (spareTest_quiet (.inr h)),
      fun h => next_settle_congr (spareTest_failed h)⟩

end Sys2Proof.Machine

end

section

namespace Sys2Proof.Machine

/-! ### Placement and commands of port queues (O14) -/

/-! One queue of the state -/

@[simp] theorem wq_setWq_same (s : State) (q : Nat) (x : WQ) : (s.setWq q x).wq q = x := tget_tput_same ..

theorem wq_setWq_other (s : State) {q p : Nat} (x : WQ) (h : p ≠ q) : (s.setWq q x).wq p = s.wq p :=
  congrArg (fun y : Option WQ => y.getD {}) (tget_tput_other _ _ h)

theorem Only.setWq {s u : State} {fs : List Fld} (h : Only s u fs) (q : Nat) (x : WQ) :
    Only { s with wqs := (u.setWq q x).wqs } (u.setWq q x) fs := by
  obtain ⟨hrec, hget⟩ := h
  refine ⟨?_, hget⟩
  rw [hrec]
  rfl

/-! A write refused with a reason (R374, R393) -/

/-- What a refused write of a queue's registers shows. -/
def bufRefusalFlds : List Fld := [R.BUF_EVT_cause, R.BUF_EVT_CNT_count 0, R.BUF_LAST_q, R.BUF_LAST_reason]

theorem bufRefused_only (s : State) (q reason : Nat) : Only s (s.bufRefused q reason) bufRefusalFlds :=
  (((Only.refl s _).raise (by simp [bufRefusalFlds]) (by simp [bufRefusalFlds]) 0).put (by simp [bufRefusalFlds]) _).put
    (by simp [bufRefusalFlds]) _

theorem bufRefused_raised (s : State) (q reason : Nat) :
    Raised s (s.bufRefused q reason) R.BUF_EVT_cause 0 (R.BUF_EVT_CNT_count 0) := by
  obtain ⟨hcause, hcount⟩ := raised_raise s (evt := R.BUF_EVT_cause) (cnt := R.BUF_EVT_CNT_count 0) 0 (by decide)
  have kept {f : Fld} (hq : f.key ≠ R.BUF_LAST_q.key) (hr : f.key ≠ R.BUF_LAST_reason.key) :
      (s.bufRefused q reason).get f = (s.raise R.BUF_EVT_cause 0 (R.BUF_EVT_CNT_count 0)).get f := by
    rw [State.bufRefused, State.get_put_other _ _ hr, State.get_put_other _ _ hq]
  exact ⟨(kept (by decide) (by decide)).trans hcause, (kept (by decide) (by decide)).trans hcount⟩

theorem bufRefused_last_q (s : State) {q : Nat} (hq : q < 216) (reason : Nat) :
    (s.bufRefused q reason).get R.BUF_LAST_q = q := by
  rw [State.bufRefused, State.get_put_other _ _ (by decide), State.get_put_same]
  exact Nat.mod_eq_of_lt (hq.trans (by decide))

theorem bufRefused_last_reason (s : State) (q : Nat) {reason : Nat} (hr : reason < 8) :
    (s.bufRefused q reason).get R.BUF_LAST_reason = reason := by
  rw [State.bufRefused, State.get_put_same]
  exact Nat.mod_eq_of_lt (hr.trans (by decide))

/-- The reasons of R374 are 1 to 6. -/
theorem placeFault_lt {s : State} {q base k r : Nat} {portOnly : Bool} (h : s.placeFault q base k portOnly = some r) :
    r < 8 := by
  unfold State.placeFault at h
  split_ifs at h <;> cases h <;> decide

/-! A write of BUF_Qq_CFG (R374) -/

section Config

variable {s : State} {q v : Nat}

/-- A written value moves the queue. -/
abbrev State.CfgMoves (s : State) (q v : Nat) : Prop :=
  bits v 16 14 ≠ s.get (R.BUF_Q_CFG_base q) ∨ bits v 4 4 ≠ s.get (R.BUF_Q_CFG_log2 q)

/-- A written value takes the queue out of use. -/
abbrev State.CfgEnds (s : State) (q v : Nat) : Prop := v % 2 = 0 ∧ s.qOn q = true

/-- A written value puts the queue into use. -/
abbrev State.CfgStarts (s : State) (q v : Nat) : Prop := v % 2 = 1 ∧ s.qOn q = false

/-- The first condition of R374 that a written value breaks. -/
abbrev State.cfgFault (s : State) (q v : Nat) : Option Nat :=
  s.placeFault q (bits v 16 14) (bits v 4 4) (decide (s.CfgEnds q v ∧ ¬ s.CfgMoves q v))

/-- The state with the fields of BUF_Qq_CFG written. -/
def State.cfgPlaced (s : State) (q v : Nat) : State :=
  ((s.put (R.BUF_Q_CFG_en q) (v % 2)).put (R.BUF_Q_CFG_log2 q) (bits v 4 4)).put (R.BUF_Q_CFG_base q) (bits v 16 14)

/-- The model's tests of a written value decide these conditions. -/
theorem cfgTests (s : State) (q v : Nat) :
    (bits v 16 14 != s.get (R.BUF_Q_CFG_base q) || bits v 4 4 != s.get (R.BUF_Q_CFG_log2 q)) = decide (s.CfgMoves q v) ∧
      (v % 2 == 0 && s.qOn q) = decide (s.CfgEnds q v) ∧ (v % 2 == 1 && !s.qOn q) = decide (s.CfgStarts q v) := by
  exact ⟨Bool.eq_iff_iff.2 (by simp), Bool.eq_iff_iff.2 (by simp), Bool.eq_iff_iff.2 (by simp)⟩

theorem qCfgWrite_no_queue (hq : queueExists q = false) : s.qCfgWrite q v = s := if_pos (by simp [hq])

section Exists

variable (hq : queueExists q = true)
include hq

theorem qCfgWrite_same (hm : ¬ s.CfgMoves q v) (he : ¬ s.CfgEnds q v) (hs : ¬ s.CfgStarts q v) : s.qCfgWrite q v = s := by
  obtain ⟨hmoves, hends, hstarts⟩ := cfgTests s q v
  simp only [State.qCfgWrite, hmoves, hends, hstarts, hq, hm, he, hs, decide_false, Bool.not_true, Bool.or_self,
    Bool.not_false, Bool.or_true, if_true]

variable (h : s.CfgMoves q v ∨ s.CfgEnds q v ∨ s.CfgStarts q v)
include h

/-- A write that asks for something is judged by R374. -/
theorem qCfgWrite_asks {r : Option Nat} (hr : s.cfgFault q v = r) : s.qCfgWrite q v =
    r.elim (if s.CfgMoves q v ∨ s.CfgEnds q v then (s.cfgPlaced q v).qEmptyOut q else s.cfgPlaced q v)
      (s.bufRefused q) := by
  obtain ⟨hmoves, hends, hstarts⟩ := cfgTests s q v
  have hasks : (!queueExists q || !(decide (s.CfgMoves q v) || decide (s.CfgEnds q v) || decide (s.CfgStarts q v))) =
      false :=
    by rw [hq, ← Bool.decide_or, ← Bool.decide_or, decide_eq_true (or_assoc.2 h)]; rfl
  have hfault : s.placeFault q (bits v 16 14) (bits v 4 4) (decide (s.CfgEnds q v) && !decide (s.CfgMoves q v)) = r := by
    rw [← hr, State.cfgFault, Bool.decide_and (s.CfgEnds q v), decide_not]
  simp only [State.qCfgWrite, hmoves, hends, hstarts, hasks, hfault, Bool.false_eq_true, if_false]
  cases r with
  | some r => rfl
  | none => simp only [Option.elim_none, Bool.or_eq_true, decide_eq_true_eq]; rfl

theorem qCfgWrite_refused {r : Nat} (hr : s.cfgFault q v = some r) : s.qCfgWrite q v = s.bufRefused q r :=
  qCfgWrite_asks hq h hr

end Exists

/-- The fields of BUF_Qq_CFG. -/
def queueCfgFlds (q : Nat) : List Fld := [R.BUF_Q_CFG_en q, R.BUF_Q_CFG_log2 q, R.BUF_Q_CFG_base q]

theorem queueCfgFlds_distinct (q : Nat) : ((queueCfgFlds q).map Fld.key).Nodup := by
  simp [queueCfgFlds, Fld.key, R.BUF_Q_CFG_en, R.BUF_Q_CFG_log2, R.BUF_Q_CFG_base]

theorem cfgPlaced_only (s : State) (q v : Nat) : Only s (s.cfgPlaced q v) (queueCfgFlds q) :=
  (((Only.refl s _).put (by simp [queueCfgFlds]) _).put (by simp [queueCfgFlds]) _).put (by simp [queueCfgFlds]) _

/-- The fields of a queue's configuration show the written value. -/
def CfgShown (t : State) (q v : Nat) : Prop :=
  t.get (R.BUF_Q_CFG_en q) = v % 2 ∧ t.get (R.BUF_Q_CFG_log2 q) = bits v 4 4 ∧ t.get (R.BUF_Q_CFG_base q) = bits v 16 14

theorem cfgPlaced_shown (s : State) (q v : Nat) : CfgShown (s.cfgPlaced q v) q v := by
  have hd := queueCfgFlds_distinct q
  simp only [queueCfgFlds, List.map_cons, List.map_nil, List.nodup_cons, List.mem_cons, not_or] at hd
  obtain ⟨⟨hel, heb, -⟩, ⟨hlb, -⟩, -⟩ := hd
  unfold State.cfgPlaced
  refine ⟨?_, ?_, ?_⟩
  · rw [State.get_put_other _ _ heb, State.get_put_other _ _ hel, State.get_put_same]
    exact Nat.mod_mod v 2
  · rw [State.get_put_other _ _ hlb, State.get_put_same]
    exact bits_mod v 4 4
  · rw [State.get_put_same]
    exact bits_mod v 16 14

/-- A write that moves the queue or takes it out of use empties it; one that only puts it into use does not (R374). -/
theorem qCfgWrite_placed (hq : queueExists q = true) (h : s.CfgMoves q v ∨ s.CfgEnds q v ∨ s.CfgStarts q v)
    (hr : s.cfgFault q v = none) :
    Only { s with wqs := (s.qCfgWrite q v).wqs } (s.qCfgWrite q v) (queueCfgFlds q) ∧ CfgShown (s.qCfgWrite q v) q v ∧
      (s.CfgMoves q v ∨ s.CfgEnds q v → (s.qCfgWrite q v).wq q = {}) ∧
      (¬ (s.CfgMoves q v ∨ s.CfgEnds q v) → (s.qCfgWrite q v).wq q = s.wq q) ∧
      ∀ p, p ≠ q → (s.qCfgWrite q v).wq p = s.wq p := by
  rw [qCfgWrite_asks hq h hr, Option.elim_none]
  by_cases hm : s.CfgMoves q v ∨ s.CfgEnds q v
  · rw [if_pos hm]
    exact ⟨(cfgPlaced_only s q v).setWq q {}, cfgPlaced_shown s q v, fun _ => wq_setWq_same .., (absurd hm ·),
      fun p hp => wq_setWq_other (s.cfgPlaced q v) {} hp⟩
  · rw [if_neg hm]
    exact ⟨cfgPlaced_only s q v, cfgPlaced_shown s q v, (absurd · hm), fun _ => rfl, fun _ _ => rfl⟩

end Config

/-! CLAIM_GRANT and DROP_PKT (R385, R393) -/

section Commands

variable {s : State} {q : Nat}

theorem qGrant_grants {a : Nat} {rest : List Nat} (hc : (s.wq q).claim = none) (hw : (s.wq q).claimWait = a :: rest) :
    s.qGrant q = s.setWq q { s.wq q with claim := some a, claimWait := rest } := by
  simp only [State.qGrant, hc, hw]

theorem qGrant_idle (h : (s.wq q).claim ≠ none ∨ (s.wq q).claimWait = []) : s.qGrant q = s := by
  unfold State.qGrant
  dsimp only
  split
  · next hc hw => simp [hc, hw] at h
  · rfl

/-- DROP_PKT writes 1 to BUF_Qq_CMD. -/
theorem qCmdWrite_no_queue (hq : queueExists q = false) : s.qCmdWrite q 1 = s := if_pos (by simp [hq])

section Exists

variable (hq : queueExists q = true)
include hq

theorem qCmdWrite_transmit (ht : isTxQueue q = true) : s.qCmdWrite q 1 = s.bufRefused q 7 := by
  rw [State.qCmdWrite, if_neg (by simp [hq]), if_pos ht]

theorem qCmdWrite_receive (ht : isTxQueue q = false) : s.qCmdWrite q 1 = s.qDropPkt q := by
  rw [State.qCmdWrite, if_neg (by simp [hq]), if_neg (by simp [ht])]

end Exists

theorem qDropPkt_empty (h : (s.wq q).pkts = []) : s.qDropPkt q = s := if_pos (by simp [h])

theorem qDropPkt_takes (h : (s.wq q).pkts ≠ []) : s.qDropPkt q =
    (s.qTake q []).1.setWq q { (s.qTake q []).1.wq q with
      gapPending := ((s.qTake q []).1.wq q).gapPending || (s.qTake q []).2.gap } :=
  if_neg (by simpa using h)

end Commands

theorem exec_queueConfig {s : State} (h : s.answers = true) (q : Fin 216) (v : W32) :
    exec (.queueConfig q v) s = .next (s.qCfgWrite q v.toNat) := next_congr (State.whenUp_of_answers h _)

theorem exec_dropPkt {s t : State} (h : s.answers = true) {q : Fin 216} (ht : s.qCmdWrite q 1 = t) :
    exec (.dropPkt q) s = .next (settle t) := next_settle_congr ((State.whenUp_of_answers h _).trans ht)

/-- What changes nothing is without effect whether registers answer or not. -/
theorem whenUp_self {s : State} {f : State → State} (h : f s = s) : s.whenUp f = s := by
  rw [State.whenUp, h, ite_self]

/-- Settles O14: a configuration by what it asks for and what it breaks, a claim by its holder and its queue, a DROP_PKT
by the kind of its queue and what it holds. -/
theorem queuePlacement : Obligations.QueuePlacement := by
  intro s q
  refine ⟨fun ha hq v => ⟨fun hm he hs => ?_, fun h => ⟨fun r hr => ?_, fun hr => ?_⟩⟩, fun hq => ⟨fun v => ?_, ?_⟩,
    fun a rest hc hw => ?_, fun h => next_congr (qGrant_idle h), fun ha hq => ⟨fun ht hp => ?_, fun ht hp => ?_,
    fun ht => ?_⟩⟩
  · rw [exec_queueConfig ha, qCfgWrite_same hq hm he hs]
  · refine ⟨s.bufRefused q r, ?_, bufRefused_only s q r, bufRefused_raised s q r, bufRefused_last_q s q.isLt r,
      bufRefused_last_reason s q (placeFault_lt hr)⟩
    rw [exec_queueConfig ha, qCfgWrite_refused hq h hr]
  · obtain ⟨honly, ⟨hen, hlog, hbase⟩, hempty, hkept, hother⟩ := qCfgWrite_placed hq h hr
    exact ⟨_, exec_queueConfig ha q v, honly, hen, hlog, hbase, hempty, fun hm he => hkept (not_or.2 ⟨hm, he⟩), hother⟩
  · exact next_congr (whenUp_self (qCfgWrite_no_queue hq))
  · exact next_settle_congr (whenUp_self (qCmdWrite_no_queue hq))
  · exact ⟨_, next_congr (qGrant_grants hc hw), rfl, wq_setWq_same .., fun p hp => wq_setWq_other s _ hp⟩
  · exact exec_dropPkt ha ((qCmdWrite_receive hq ht).trans (qDropPkt_takes hp))
  · exact exec_dropPkt ha ((qCmdWrite_receive hq ht).trans (qDropPkt_empty hp))
  · exact ⟨_, exec_dropPkt ha (qCmdWrite_transmit hq ht), bufRefused_only s q 7, bufRefused_raised s q 7,
      bufRefused_last_reason s q (by decide)⟩

end Sys2Proof.Machine

end

section

namespace Sys2Proof.Machine

/-! ### Fault events handled by command (O34) -/

/-! Quarantine cleared (R599) -/

section Quarantine

variable {s : State} {cls idx : Nat}

theorem on_put_below {f g : Fld} (hl : f.lo < 64) (h : f.off < g.off) (v : Nat) : (s.put f v).on g = s.on g := by
  rw [State.on, State.get_put_other _ _ (by simp only [Fld.key]; omega), State.on]

/-- The en bits of ports lie above 0x40000. -/
theorem portEn_put_below {f : Fld} (hl : f.lo < 64) (h : f.off < 0x40000) (v : Nat) (cls idx : Nat) :
    (s.put f v).portEn cls idx = s.portEn cls idx := by
  have hon {g : Fld} (hg : 0x40000 ≤ g.off) : (s.put f v).on g = s.on g := on_put_below hl (h.trans_le hg) v
  unfold State.portEn
  rw [hon (g := R.CAN_CTL_en idx) (Nat.le_add_right ..), hon (g := R.LIN_CFG_en idx) (by simp only [R.LIN_CFG_en]; omega),
    hon (g := R.SENT_CFG_en idx) (by simp only [R.SENT_CFG_en]; omega),
    hon (g := R.SER_CFG_en idx) (by simp only [R.SER_CFG_en]; omega),
    hon (g := R.CARD_CFG_en idx) (by simp only [R.CARD_CFG_en]; omega),
    hon (g := R.ETH_CFG_en idx) (by simp only [R.ETH_CFG_en]; omega),
    hon (g := R.HNG_LXB_CS_CFG_en idx) (by simp only [R.HNG_LXB_CS_CFG_en]; omega)]

theorem portReleased_disabled (h : s.portEn cls idx = false) : s.portReleased cls idx = s := if_pos (by simp [h])

/-- Ports that are not enabled stay as they are when they are freed. -/
theorem portsReleased_disabled {ps : List (Nat × Nat)} (h : ∀ p ∈ ps, s.portEn p.1 p.2 = false) :
    ps.foldl (fun t p => t.portReleased p.1 p.2) s = s := by
  induction ps with
  | nil => rfl
  | cons p ps ih =>
    obtain ⟨hp, hps⟩ := List.forall_mem_cons.1 h
    rw [List.foldl_cons, portReleased_disabled hp, ih hps]

/-- The fields of FLT_QUAR_PORT0 and FLT_QUAR_PORT1. -/
def quarFld (hi : Bool) : Fld := if hi then R.FLT_QUAR_PORT1_port else R.FLT_QUAR_PORT0_port

theorem quarFld_place (hi : Bool) : (quarFld hi).lo < 64 ∧ (quarFld hi).off < 0x40000 := by cases hi <;> decide

/-- A quarantine bit lies in one of the two fields. -/
theorem quarBit_fld {g : Fld} {b : Nat} (h : quarBit cls idx = some (g, b)) : ∃ hi, g = quarFld hi := by
  unfold quarBit at h
  split_ifs at h <;> cases h
  exacts [⟨false, rfl⟩, ⟨false, rfl⟩, ⟨false, rfl⟩, ⟨false, rfl⟩, ⟨true, rfl⟩, ⟨true, rfl⟩]

theorem quarFld_key_inj : ∀ hi hi' : Bool, (quarFld hi).key = (quarFld hi').key → hi = hi' := by decide

/-- A freed port's bit is set in the register and in the written value. -/
theorem mem_freedPorts {hi : Bool} {v : Nat} {p : Nat × Nat} (h : p ∈ freedPorts s (quarFld hi) v) :
    p ∈ allPorts ∧ ∃ b, quarBit p.1 p.2 = some (quarFld hi, b) ∧ (s.get (quarFld hi) &&& v).testBit b = true := by
  obtain ⟨hp, hbit⟩ := List.mem_filter.1 h
  refine ⟨hp, ?_⟩
  split at hbit
  · next g b hg =>
    obtain ⟨hk, hb⟩ := Bool.and_eq_true_iff.1 hbit
    obtain ⟨hi', rfl⟩ := quarBit_fld hg
    obtain rfl := quarFld_key_inj hi' hi (eq_of_beq hk)
    exact ⟨b, hg, hb⟩
  · exact absurd hbit Bool.false_ne_true

/-- The register with the written bits cleared. -/
def State.quarCleared (s : State) (hi : Bool) (v : Nat) : State :=
  s.put (quarFld hi) (clearBits (s.get (quarFld hi)) v)

theorem quarWrite_taken {w : Who} (hw : w.mid < 3) (hi : Bool) (v : Nat) : s.quarWrite hi w v =
    (freedPorts s (quarFld hi) v).foldl (fun t p => t.portReleased p.1 p.2) (s.quarCleared hi v) :=
  if_neg (by omega)

theorem quarWrite_refused {w : Who} (hw : 2 < w.mid) (hi : Bool) (v : Nat) :
    s.quarWrite hi w v = s.accessRefused (quarFld hi).off w := if_pos hw

/-- A write that frees no enabled port clears bits only. -/
theorem quarWrite_disabled {w : Who} (hw : w.mid < 3) {hi : Bool} {v : Nat}
    (h : ∀ p ∈ allPorts, (∃ b, quarBit p.1 p.2 = some (quarFld hi, b) ∧ (s.get (quarFld hi) &&& v).testBit b = true) →
      s.portEn p.1 p.2 = false) : s.quarWrite hi w v = s.quarCleared hi v := by
  obtain ⟨hlo, hoff⟩ := quarFld_place hi
  rw [quarWrite_taken hw]
  refine portsReleased_disabled fun p hp => ?_
  obtain ⟨hall, hbit⟩ := mem_freedPorts hp
  rw [State.quarCleared, portEn_put_below hlo hoff, h p hall hbit]

end Quarantine

/-! Injection (R609) -/

section Injection

variable {s : State} {mid v : Nat}

/-- The event that a write of FTM_FLT_INJ names. -/
def injectedEvent (v : Nat) : FaultEv :=
  { src := bits v 0 7, detail := bits v 16 8, res := bits v 24 8, injected := true }

/-- An injection is accepted: in FACTORY_TEST, from MIDs 0, 1 and 5, of an assigned source, and none runs. -/
def State.MayInject (s : State) (mid v : Nat) : Prop :=
  s.nv.lifecycle = 0 ∧ (mid ≤ 1 ∨ mid = 5) ∧ srcAssigned (bits v 0 7) = true ∧ s.injecting = []

/-- The model's test for ignoring an injection. -/
theorem injectionTest : (decide (s.nv.lifecycle ≠ 0) || !(decide (mid ≤ 1) || decide (mid = 5)) ||
    !srcAssigned (bits v 0 7) || !s.injecting.isEmpty) = true ↔ ¬ s.MayInject mid v := by
  simp [State.MayInject, imp_iff_not_or, or_assoc]

theorem faultInject_accepted (h : s.MayInject mid v) : s.faultInject mid v =
    { s with injecting := List.replicate (bits v 8 8) (injectedEvent v) }.injectNext :=
  if_neg (mt injectionTest.1 (not_not_intro h))

theorem faultInject_ignored (h : ¬ s.MayInject mid v) : s.faultInject mid v = s := if_pos (injectionTest.2 h)

theorem injectNext_idle (h : s.injecting = []) : s.injectNext = s := by simp only [State.injectNext, h]

/-- An accepted injection brings its first event and leaves the rest. -/
theorem faultInject_begins (h : s.MayInject mid v) {n : Nat} (hn : bits v 8 8 = n + 1) : s.faultInject mid v =
    { s with injecting := List.replicate n (injectedEvent v), dueFaults := s.dueFaults ++ [injectedEvent v] } := by
  rw [faultInject_accepted h, hn, List.replicate_succ]
  rfl

theorem faultInject_nothing (h : ¬ s.MayInject mid v ∨ bits v 8 8 = 0) : s.faultInject mid v = s := by
  by_cases hm : s.MayInject mid v
  · obtain ⟨-, -, -, hrun⟩ := id hm
    rw [faultInject_accepted hm, h.resolve_left (not_not_intro hm), List.replicate_zero, ← hrun]
    exact injectNext_idle hrun
  · exact faultInject_ignored hm

end Injection

/-! The event chain read (R378, R391, R605) -/

section EventChain

variable {s : State}

theorem chainPop_one_word {w : Nat} {rest : List Nat} (h : s.chain1.items = w :: rest) :
    s.chainPop 1 = ({ s with chain1 := { s.chain1 with items := rest, lastWord := w } }, w) := by
  have hc : s.chain 1 = s.chain1 := rfl
  rw [State.chainPop, hc, h]
  rfl

theorem chainPop_one_empty (h : s.chain1.items = []) : s.chainPop 1 =
    (s.raiseF (R.BUF_CHAIN_EVT_cause 1) 1 (R.BUF_CHAIN_CNT_count 1 1) 13 0x101, s.chain1.lastWord) := by
  have hc : s.chain 1 = s.chain1 := rfl
  rw [State.chainPop, hc, h]
  rfl

/-- What a read of FLT_EVQ returns is shown: the word, or its low half with the high half held (R17). -/
def State.evqShown (s : State) (w : Who) (wide : Bool) (word : Nat) : State :=
  if wide then { s with readData := word % 2 ^ 64 }
  else { s.keepHalf w R.FLT_EVQ_word.off false (word % 2 ^ 64 / 2 ^ 32) with readData := word % 2 ^ 64 % 2 ^ 32 }

theorem exec_faultEventPop (h : s.answers = true) (mid : BitVec 4) (origin : BitVec 10) (wide uncorr : Bool) :
    exec (.faultEventPop mid origin wide uncorr) s = .next (settle ((s.evqPop mid.toNat uncorr).1.evqShown
      (who mid origin) wide (s.evqPop mid.toNat uncorr).2)) :=
  next_settle_congr (State.whenUp_of_answers h _)

theorem evqPop_taken {mid : Nat} (h : mid < 3) (uncorr : Bool) : s.evqPop mid uncorr =
    ({ (s.chainPop 1).1 with
        evqSeen := tput (s.chainPop 1).1.evqSeen mid (wordSb (s.chainPop 1).2 + 4 * b2n uncorr) 0 },
      wordData (s.chainPop 1).2) := if_neg (by omega)

theorem evqPop_foreign {mid : Nat} (h : 2 < mid) (uncorr : Bool) : s.evqPop mid uncorr = s.drawFree := if_pos h

end EventChain

section Commands

variable {s : State} (h : s.answers = true)
include h

theorem exec_quarantineClear (hi : Bool) (mid : BitVec 4) (origin : BitVec 10) (v : W32) :
    exec (.quarantineClear hi mid origin v) s = .next (settle (s.quarWrite hi (who mid origin) v.toNat)) :=
  next_settle_congr (State.whenUp_of_answers h _)

theorem exec_faultInjection (mid : BitVec 4) (v : W32) :
    exec (.faultInjection mid v) s = .next (settle (s.faultInject mid.toNat v.toNat)) :=
  next_settle_congr (State.whenUp_of_answers h _)

end Commands

/-- Settles O34: a quarantine write by its MID and by the ports that it frees, an injection by whether it is accepted, a
read of the event chain by its MID and by what the chain holds. -/
theorem faultCommandsAct : Obligations.FaultCommandsAct := by
  intro s origin v ha
  refine ⟨fun hi mid hm => ⟨?_, fun hdis => ⟨s.quarCleared hi v.toNat, ?_, ?_, State.get_put_same ..⟩⟩, fun hi mid hm => ?_,
    fun mid => ⟨fun hmay n hn => ?_, fun hno => ?_⟩, fun mid uncorr hm => ⟨?_, ?_, fun w rest => chainPop_one_word,
    fun he => ?_⟩, fun mid uncorr hm => ⟨s.drawFree.2 % 2 ^ 64,
      s.drawFree.2 % 2 ^ 64 / 2 ^ 32, ?_, ?_⟩⟩
  · exact (exec_quarantineClear ha hi mid origin v).trans (next_settle_congr (quarWrite_taken hm hi v.toNat))
  · exact (exec_quarantineClear ha hi mid origin v).trans (next_settle_congr (quarWrite_disabled hm hdis))
  · exact (Only.refl s _).put (List.mem_singleton_self (quarFld hi)) _
  · exact (exec_quarantineClear ha hi mid origin v).trans (next_settle_congr (quarWrite_refused hm hi v.toNat))
  · exact (exec_faultInjection ha mid v).trans (next_settle_congr (faultInject_begins hmay hn))
  · exact (exec_faultInjection ha mid v).trans (next_settle_congr (faultInject_nothing hno))
  · rw [exec_faultEventPop ha, evqPop_taken hm]
    rfl
  · rw [exec_faultEventPop ha, evqPop_taken hm]
    rfl
  · rw [chainPop_one_empty he]
    exact ⟨rfl, raiseF_shown s 1 13 0x101 (by decide)⟩
  · rw [exec_faultEventPop ha, evqPop_foreign hm]
    rfl
  · rw [exec_faultEventPop ha, evqPop_foreign hm]
    rfl

end Sys2Proof.Machine

end

section

namespace Sys2Proof.Machine

/-! ### A step, and every command (O57, O58) -/

/-- The buffer memory is the same, and so are the injected events that are still to come. -/
structure MemorySame (s t : State) : Prop where
  sram : t.sram = s.sram
  poison : t.poison = s.poison
  injecting : t.injecting = s.injecting

theorem MemorySame.refl (s : State) : MemorySame s s := ⟨rfl, rfl, rfl⟩

theorem MemorySame.trans {s u t : State} (h : MemorySame s u) (h' : MemorySame u t) : MemorySame s t :=
  ⟨h'.sram.trans h.sram, h'.poison.trans h.poison, h'.injecting.trans h.injecting⟩

theorem MemorySame.ite {s a b : State} {c : Prop} [Decidable c] (ha : MemorySame s a) (hb : MemorySame s b) :
    MemorySame s (if c then a else b) := by
  split <;> assumption

theorem gainTokens_memory (s : State) : MemorySame s s.gainTokens := by
  unfold State.gainTokens
  generalize s.gwSpent = l
  suffices h : ∀ t, MemorySame s t → MemorySame s
      (l.foldl (fun t e => { t with gwSpent := tput t.gwSpent e.1 (e.2 - t.capRate e.1) 0 }) t) from h s (.refl s)
  induction l with
  | nil => exact fun _ h => h
  | cons e r ih => exact fun t h => ih _ (h.trans ⟨rfl, rfl, rfl⟩)

theorem monoTick_memory (s : State) : MemorySame s s.monoTick := by
  have hc : MemorySame s (({ s with cycle := 0 } : State).count R.CLK_MONO_time) := ⟨rfl, rfl, rfl⟩
  exact .ite (.refl s) (.ite ⟨rfl, rfl, rfl⟩ (.ite (hc.trans (gainTokens_memory _)) hc))

theorem pwrTick_memory (s : State) : MemorySame s s.pwrTick := .ite ⟨rfl, rfl, rfl⟩ (.refl s)

theorem ptpEdge_memory (s : State) : MemorySame s s.ptpEdge := .ite ⟨rfl, rfl, rfl⟩ ⟨rfl, rfl, rfl⟩

theorem ptpTick_memory (s : State) : MemorySame s s.ptpTick := by
  have hn : MemorySame s { s with ptp := { s.ptp with phase := (s.ptp.phase + 5) % 32 } } := ⟨rfl, rfl, rfl⟩
  exact .ite (hn.trans (ptpEdge_memory _)) hn

theorem injectTick_idle {s : State} (h : s.injecting = []) : s.injectTick = s := if_pos (by simp [h])

/-- A core cycle in which no injection brings an event leaves the buffer memory as it was. -/
theorem tick_memory {s : State} (h : s.injecting = []) : MemorySame s s.tick := by
  have ht : MemorySame s s.monoTick.pwrTick := (monoTick_memory s).trans (pwrTick_memory _)
  have hd : MemorySame s s.monoTick.pwrTick.ptpTick.dutyTick := (ht.trans (ptpTick_memory _)).trans ⟨rfl, rfl, rfl⟩
  refine .ite ?_ ht
  rw [injectTick_idle (hd.injecting.trans h)]
  exact hd

/-- Settles O58: every command completes, and what every operation keeps includes the commands that wait. -/
theorem everyCommandCompletes : Obligations.EveryCommandCompletes := by
  intro c s
  obtain ⟨t, ht, hkeeps, -⟩ := exec_completes c s
  exact ⟨t, ht, hkeeps.pending⟩

theorem step_empty {s : State} (h : s.pending = []) : step s = .next s.tick := by
  unfold step
  rw [h]

/-- Settles O57: the step takes the front of the queue off, and a core cycle keeps the queue and, without an injection,
the memory. -/
theorem stepRunsFrontCommand : Obligations.StepRunsFrontCommand := by
  refine ⟨fun _ _ _ => rfl, fun s h => ⟨s.tick, step_empty h, rfl, ?_, fun hi => ?_⟩⟩
  · exact (State.tick_keeps (.refl s)).pending.trans h
  · exact ⟨(tick_memory hi).sram, (tick_memory hi).poison⟩

end Sys2Proof.Machine

end

section

namespace Sys2Proof.Machine

/-! ### The PTP clock and its pulses (O30) -/

/-- A time below 10⁹ ns in its second is read back as it was set (R454, R466). -/
theorem ptpOfNs_ptpToNs {v : Nat} (hv : v < 2 ^ 64) (h : v % 2 ^ 30 < 1000000000) : ptpOfNs (ptpToNs v) = v := by
  simp only [ptpOfNs, ptpToNs]
  omega

/-- TIM_NOW fits its 64 bits (R454). -/
theorem ptpOfNs_lt (n : Nat) : ptpOfNs n < 2 ^ 64 := by
  simp only [ptpOfNs]
  omega

theorem timCause_keys (bit : Nat) : R.TIM_EVT_cause.key ≠ (R.TIM_EVT_CNT_count bit).key := by
  simp only [Fld.key, R.TIM_EVT_cause, R.TIM_EVT_CNT_count]
  omega

theorem timRaise_only (s : State) (bit : Nat) :
    Only s (s.timRaise bit) [R.TIM_EVT_cause, R.TIM_EVT_CNT_count bit] :=
  (Only.refl s _).raise (by simp) (by simp) bit

theorem timRaise_raised (s : State) (bit : Nat) :
    Raised s (s.timRaise bit) R.TIM_EVT_cause bit (R.TIM_EVT_CNT_count bit) :=
  raised_raise s bit (timCause_keys bit)

section Writes

variable {s : State} {mid v : Nat}

/-- The clock that a valid write of TIM_SET leaves: set, and not slewing (R466). -/
def State.ptpSet (s : State) (v : Nat) : State :=
  { s with ptp := { s.ptp with ns := ptpToNs v, frac := 0, slew := 0 } }

theorem timSet_valid (hm : timWriter mid = true) (h : v % 2 ^ 30 < 1000000000) :
    s.timSet mid v = (s.ptpSet v).timRaise 2 := by
  rw [State.timSet, if_neg (by simp [hm]), if_pos h]
  rfl

theorem timSet_invalid (hm : timWriter mid = true) (h : 1000000000 ≤ v % 2 ^ 30) : s.timSet mid v = s.timRaise 4 := by
  rw [State.timSet, if_neg (by simp [hm]), if_neg (by omega)]

theorem timSet_other (hm : timWriter mid = false) : s.timSet mid v = s := if_pos (by simp [hm])

theorem timRate_taken (hm : timWriter mid = true) (hlo : -500000000 ≤ signed 32 v) (hhi : signed 32 v ≤ 500000000) :
    s.timRate mid v = s.put R.TIM_RATE_rate v := if_pos (by simp [hm, hlo, hhi])

theorem timRate_ignored (h : timWriter mid = false ∨ signed 32 v < -500000000 ∨ 500000000 < signed 32 v) :
    s.timRate mid v = s := by
  refine if_neg fun hc => ?_
  simp only [Bool.and_eq_true, decide_eq_true_eq] at hc
  obtain ⟨⟨hm, hlo⟩, hhi⟩ := hc
  rcases h with h | h
  · simp [hm] at h
  · omega

theorem timSlew_taken (hm : timWriter mid = true) (hlo : -1000000 ≤ signed 21 (v % 2 ^ 21))
    (hhi : signed 21 (v % 2 ^ 21) ≤ 1000000) :
    s.timSlew mid v = { s with ptp := { s.ptp with slew := signed 21 (v % 2 ^ 21) * 10000 } } := by
  rw [State.timSlew, if_neg (by simp [hm])]
  exact if_pos (by rw [decide_eq_true hlo, decide_eq_true hhi]; rfl)

theorem timSlew_outside (hm : timWriter mid = true)
    (h : signed 21 (v % 2 ^ 21) < -1000000 ∨ 1000000 < signed 21 (v % 2 ^ 21)) : s.timSlew mid v = s.timRaise 4 := by
  rw [State.timSlew, if_neg (by simp [hm])]
  refine if_neg ?_
  simp only [Bool.and_eq_true, decide_eq_true_eq]
  omega

theorem timSlew_other (hm : timWriter mid = false) : s.timSlew mid v = s := if_pos (by simp [hm])

/-- TIM_SLEW_LEFT shows a slew that has just been asked for (R465). -/
theorem left_of_slew (p : Ptp) (d : Int) : ({ p with slew := d * 10000 } : Ptp).left = d := by
  simp only [Ptp.left]
  split <;> omega

end Writes

theorem slewDone_ends {s : State} (h : s.ptp.slew ≠ 0) : s.slewDone =
    { s with ptp := { s.ptp with ns := ((s.ptp.ns : Int) + s.ptp.left).toNat, slew := 0 } }.timRaise 3 := if_neg h

theorem slewDone_idle {s : State} (h : s.ptp.slew = 0) : s.slewDone = s := if_pos h

theorem crossStamp_only (s : State) :
    Only s s.crossStamp [R.TIM_XTS_PTP_time, R.TIM_XTS_MONO_time, R.TIM_XTS_CTL_sub] :=
  (((Only.refl s _).put (by simp) _).put (by simp) _).put (by simp) _

/-- A cross-timestamp captures the PTP clock, the monotonic counter and the part of its microsecond (R470). -/
theorem crossStamp_get (s : State) :
    s.crossStamp.get R.TIM_XTS_PTP_time = s.ptpNow ∧
      s.crossStamp.get R.TIM_XTS_MONO_time = s.now % 2 ^ R.TIM_XTS_MONO_time.w ∧
      s.crossStamp.get R.TIM_XTS_CTL_sub = s.cycle / 32 % 2 ^ R.TIM_XTS_CTL_sub.w := by
  refine ⟨?_, ?_, State.get_put_same ..⟩
  · rw [State.crossStamp, State.get_put_other _ _ (by decide), State.get_put_other _ _ (by decide),
      State.get_put_same]
    exact Nat.mod_eq_of_lt (ptpOfNs_lt _)
  · rw [State.crossStamp, State.get_put_other _ _ (by decide), State.get_put_same]

/-! An edge on TIM_CAPn (R473) -/

section Capture

variable {u : State} {n : Nat}

/-- TIM_CAPn_TIME as an edge sets it. -/
def State.capStored (u : State) (n : Nat) : State := u.put (R.TIM_CAP_TIME_time n) (ptpShift u.ptpNow (-16))

theorem capEdge_stores {s : State} {rising : Bool} (hu : u = { s with capIn := putBit s.capIn n rising })
    (ha : u.attached ⟨.tim, 0, 2 + n⟩ = true)
    (hs : u.bitOf (R.TIM_CAP_CTL_edge n) (if rising then 0 else 1) = true) :
    s.capEdge n rising = (u.capStored n).timRaise n := by
  subst hu
  exact if_pos (by rw [ha, hs]; rfl)

theorem capEdge_passes {s : State} {rising : Bool} (hu : u = { s with capIn := putBit s.capIn n rising })
    (h : u.attached ⟨.tim, 0, 2 + n⟩ = false ∨ u.bitOf (R.TIM_CAP_CTL_edge n) (if rising then 0 else 1) = false) :
    s.capEdge n rising = u := by
  subst hu
  exact if_neg (by rcases h with h | h <;> simp [h])

theorem capTime_keys (hn : n < 2) : (R.TIM_CAP_TIME_time n).key ≠ R.TIM_EVT_cause.key ∧
    ∀ i, (R.TIM_CAP_TIME_time n).key ≠ (R.TIM_EVT_CNT_count i).key := by
  simp only [Fld.key, R.TIM_CAP_TIME_time, R.TIM_EVT_cause, R.TIM_EVT_CNT_count]
  exact ⟨by omega, fun i => by omega⟩

theorem capStored_raise_get (hn : n < 2) (i : Nat) :
    ((u.capStored n).timRaise i).get (R.TIM_CAP_TIME_time n) = ptpShift u.ptpNow (-16) := by
  obtain ⟨hcause, hcount⟩ := capTime_keys hn
  rw [State.timRaise, State.get_raise_other _ _ hcause (hcount i), State.capStored, State.get_put_same]
  exact Nat.mod_eq_of_lt (ptpOfNs_lt _)

theorem capStored_raised (hn : n < 2) (i : Nat) :
    Raised u ((u.capStored n).timRaise i) R.TIM_EVT_cause i (R.TIM_EVT_CNT_count i) := by
  obtain ⟨hcause, hcount⟩ := capTime_keys hn
  have h := timRaise_raised (u.capStored n) i
  rwa [Raised, State.plus, State.capStored, State.get_put_other _ _ hcause.symm,
    State.get_put_other _ _ (hcount i).symm] at h

theorem capStored_only (i : Nat) : Only u ((u.capStored n).timRaise i)
    [R.TIM_CAP_TIME_time n, R.TIM_EVT_cause, R.TIM_EVT_CNT_count i] :=
  ((Only.refl u [R.TIM_CAP_TIME_time n]).put (by simp) _).trans (timRaise_only _ i)

end Capture

/-! The commands -/

section Commands

variable {s : State}

theorem exec_timSet (ha : s.answers = true) (mid : BitVec 4) (v : W64) :
    exec (.timSet mid v) s = .next (s.timSet mid.toNat v.toNat) := next_congr (State.whenUp_of_answers ha _)

theorem exec_timRate (ha : s.answers = true) (mid : BitVec 4) (v : W32) :
    exec (.timRate mid v) s = .next (s.timRate mid.toNat v.toNat) := next_congr (State.whenUp_of_answers ha _)

theorem exec_timSlew (ha : s.answers = true) (mid : BitVec 4) (v : W32) :
    exec (.timSlew mid v) s = .next (s.timSlew mid.toNat v.toNat) := next_congr (State.whenUp_of_answers ha _)

theorem exec_crossTimestamp (ha : s.answers = true) : exec .crossTimestamp s = .next s.crossStamp :=
  next_congr (State.whenUp_of_answers ha _)

theorem ppsEdge_pulses {n : Nat} (hp : s.get (R.TIM_PPS_PER_period n) ≠ 0) (ha : s.attached ⟨.tim, 0, n⟩ = true) :
    s.ppsEdge n = { s with out := s.out ++ [.line clsTim n 1 (s.get (R.TIM_PPS_WIDTH_width n))] } :=
  (if_neg hp).trans (emitOn_attached ha _)

theorem ppsEdge_silent {n : Nat} (h : s.get (R.TIM_PPS_PER_period n) = 0 ∨ s.attached ⟨.tim, 0, n⟩ = false) :
    s.ppsEdge n = s := by
  by_cases hp : s.get (R.TIM_PPS_PER_period n) = 0
  · exact if_pos hp
  · exact (if_neg hp).trans (emitOn_detached (h.resolve_left hp) _)

end Commands

/-- Settles O30: each writer's register by the value's limits, the end of a slew, the captures and the pulses. -/
theorem ptpClockAndPulses : Obligations.PtpClockAndPulses := by
  intro s
  refine ⟨fun ha mid v hm => ⟨fun hv => ⟨_, ?_, ?_, timRaise_only _ 2, timRaise_raised _ 2⟩,
      fun hv => ⟨_, ?_, timRaise_only s 4, timRaise_raised s 4⟩⟩,
    fun ha mid v hm => ⟨fun hlo hhi => ⟨_, ?_, (Only.refl s _).put (List.mem_singleton_self _) v.toNat, ?_⟩,
      fun hout => ?_, fun hlo hhi => ⟨?_, left_of_slew ..⟩, fun hout => ⟨_, ?_, timRaise_only s 4, timRaise_raised s 4⟩⟩,
    fun ha mid hm => ⟨fun v => ?_, fun v => ?_, fun v => ?_⟩,
    fun hs => ⟨_, next_congr (slewDone_ends hs), timRaise_only _ 3, timRaise_raised _ 3⟩,
    fun hs => next_congr (slewDone_idle hs),
    fun ha => ⟨_, exec_crossTimestamp ha, crossStamp_only s, crossStamp_get s⟩,
    fun n rising => ⟨fun hat hsel => ⟨_, next_congr (capEdge_stores rfl hat hsel), capStored_only n,
      capStored_raise_get n.isLt n, capStored_raised n.isLt n⟩, fun h => next_congr (capEdge_passes rfl h)⟩,
    fun n hp hat => next_congr (ppsEdge_pulses hp hat), fun n h => next_congr (ppsEdge_silent h)⟩
  · rw [exec_timSet ha, timSet_valid hm hv]
    rfl
  · exact ptpOfNs_ptpToNs v.isLt hv
  · rw [exec_timSet ha, timSet_invalid hm hv]
  · rw [exec_timRate ha, timRate_taken hm hlo hhi]
  · exact (State.get_put_same ..).trans (Nat.mod_eq_of_lt v.isLt)
  · rw [exec_timRate ha, timRate_ignored (.inr hout)]
  · rw [exec_timSlew ha, timSlew_taken hm hlo hhi]
  · rw [exec_timSlew ha, timSlew_outside hm hout]
  · rw [exec_timSet ha, timSet_other hm]
  · rw [exec_timRate ha, timRate_ignored (.inl hm)]
  · rw [exec_timSlew ha, timSlew_other hm]

end Sys2Proof.Machine

end

section

namespace Sys2Proof.Machine

/-! ### Semaphores (O40) -/

theorem who_key (mid : BitVec 4) (origin : BitVec 10) :
    (who mid origin).key = (mid.toNat, if mid = 4 then origin.toNat else 0) := by
  have h : mid.toNat = 4 ↔ mid = 4 := by rw [BitVec.toNat_eq]; rfl
  simp only [Who.key, who, h]

section Semaphores

variable {s : State} {k : Nat} {w : Who}

theorem semRead_free (h : tget s.sems k = none) : s.semRead k w = ({ s with sems := tset s.sems k w.key }, 0) := by
  simp only [State.semRead, h]

theorem semRead_held {o : Nat × Nat} (h : tget s.sems k = some o) :
    s.semRead k w = (s, if o = w.key then 0 else 2 ^ 31 + o.1 % 16 + o.2 % 1024 * 2 ^ 4) := by
  simp only [State.semRead, h]

theorem semWrite_holder (h : tget s.sems k = some w.key) : s.semWrite k w = { s with sems := tdel s.sems k } := if_pos h

theorem semWrite_foreign (h : tget s.sems k ≠ some w.key) : s.semWrite k w = s.hngRaise 10 0 := if_neg h

theorem exec_semaphoreRead (ha : s.answers = true) (k : Fin 64) (mid : BitVec 4) (origin : BitVec 10) {t : State}
    {x : Nat} (h : s.semRead k (who mid origin) = (t, x)) :
    exec (.semaphoreRead k mid origin) s = .next { t with readData := x } :=
  next_congr ((State.whenUp_of_answers ha _).trans (by simp only [h]))

theorem exec_semaphoreRelease (ha : s.answers = true) (k : Fin 64) (mid : BitVec 4) (origin : BitVec 10) :
    exec (.semaphoreRelease k mid origin) s = .next (settle (s.semWrite k (who mid origin))) :=
  next_settle_congr (State.whenUp_of_answers ha _)

end Semaphores

/-- Settles O40: a read by what the semaphore holds, a write by whether the writer holds it. -/
theorem semaphoresExclude : Obligations.SemaphoresExclude := by
  intro s k mid origin ha me
  have hkey : (who mid origin).key = me := who_key mid origin
  refine ⟨fun h => ⟨{ s with sems := tset s.sems k me }, ?_, rfl, tget_tset_same .., fun _ hj => tget_tset_other _ hj⟩,
    fun h => ?_, fun o h hne => ?_,
    fun h => ⟨{ s with sems := tdel s.sems k }, ?_, rfl, tget_tdel_same .., fun _ hj => tget_tdel_other hj⟩,
    fun h => ⟨s.hngRaise 10 0, ?_, hngRaise_cause s 0 (Nat.le_refl _)⟩⟩
  · exact exec_semaphoreRead ha k mid origin (hkey ▸ semRead_free h)
  · exact exec_semaphoreRead ha k mid origin ((semRead_held h).trans (by rw [hkey, if_pos rfl]))
  · exact exec_semaphoreRead ha k mid origin ((semRead_held h).trans (by rw [hkey, if_neg hne]))
  · rw [exec_semaphoreRelease ha, semWrite_holder (hkey.symm ▸ h)]
  · rw [exec_semaphoreRelease ha, semWrite_foreign (hkey.symm ▸ h)]

end Sys2Proof.Machine

end

section

namespace Sys2Proof.Machine

/-! ### The configuration of fault sources (O31) -/

/-- Two fields of one register differ by their lowest bits. -/
theorem key_ne_of_lo {f g : Fld} (hoff : f.off = g.off) (hlo : f.lo ≠ g.lo) : f.key ≠ g.key := by
  simp only [Fld.key, hoff]
  omega

/-- The fields of FLT_SRCn_CFG (R612). -/
def srcCfgFlds (n : Nat) : List Fld :=
  [R.FLT_SRC_CFG_n n, R.FLT_SRC_CFG_k n, R.FLT_SRC_CFG_action n, R.FLT_SRC_CFG_to_pf n, R.FLT_SRC_CFG_to_cp n,
   R.FLT_SRC_CFG_rec_all n]

/-- A value of FLT_SRCn_CFG holds a field that is looser than its bound (R606). -/
def State.srcCfgLoose (s : State) (n v : Nat) : Bool :=
  (!nReserved (bits v 0 8) && s.nLooser n (bits v 0 8)) || (!kReserved (bits v 8 5) && s.kLooser n (bits v 8 5)) ||
    (!actReserved n (bits v 16 3) && s.actLooser n (bits v 16 3))

/-- The bounded fields of FLT_SRCn_CFG as a write leaves them (R606). -/
def State.srcBounded (s : State) (n v : Nat) : State :=
  ((s.putIf (R.FLT_SRC_CFG_n n) (!nReserved (bits v 0 8) && !s.nLooser n (bits v 0 8)) (bits v 0 8)).putIf
    (R.FLT_SRC_CFG_k n) (!kReserved (bits v 8 5) && !s.kLooser n (bits v 8 5)) (bits v 8 5)).putIf
    (R.FLT_SRC_CFG_action n) (!actReserved n (bits v 16 3) && !s.actLooser n (bits v 16 3)) (bits v 16 3)

/-- FLT_SRCn_CFG as a write leaves it. -/
def State.srcCfgTaken (s : State) (n v : Nat) : State :=
  (((s.srcBounded n v).put (R.FLT_SRC_CFG_to_pf n) (bits v 20 2)).put (R.FLT_SRC_CFG_to_cp n) (bits v 22 1)).put
    (R.FLT_SRC_CFG_rec_all n) (bits v 23 1)

section Write

variable {s : State} {n : Nat} {w : Who} {v : Nat}

theorem srcCfgWrite_foreign (hw : w.mid ≠ 2) : s.srcCfgWrite n w v = s.accessRefused (R.FLT_SRC_CFG_n n).off w :=
  if_pos hw

theorem srcCfgWrite_unassigned (hw : w.mid = 2) (hn : srcAssigned n = false) : s.srcCfgWrite n w v = s := by
  rw [State.srcCfgWrite, if_neg (not_not.2 hw), if_pos (by simp [hn])]

theorem srcCfgWrite_own (hw : w.mid = 2) (hn : srcAssigned n = true) : s.srcCfgWrite n w v =
    if s.srcCfgLoose n v then (s.srcCfgTaken n v).boundRefused (R.FLT_SRC_CFG_n n).off 2 else s.srcCfgTaken n v := by
  rw [State.srcCfgWrite, if_neg (not_not.2 hw), if_neg (by simp [hn])]
  rfl

theorem srcBounded_only (s : State) (n v : Nat) : Only s (s.srcBounded n v) (srcCfgFlds n) :=
  (((Only.refl s _).putIf (by simp [srcCfgFlds]) ..).putIf (by simp [srcCfgFlds]) ..).putIf (by simp [srcCfgFlds]) ..

theorem srcCfgTaken_only (s : State) (n v : Nat) : Only s (s.srcCfgTaken n v) (srcCfgFlds n) :=
  (((srcBounded_only s n v).put (by simp [srcCfgFlds]) _).put (by simp [srcCfgFlds]) _).put (by simp [srcCfgFlds]) _

/-- A bounded field in a state that reads as a conditional write left it. -/
theorem cfgField_of_get {s t : State} {f : Fld} {x : Nat} {reserved looser : Bool} (hx : x < 2 ^ f.w)
    (h : t.get f = (s.putIf f (!reserved && !looser) x).get f) : CfgField s t f x reserved looser := by
  rw [State.get_putIf_same, Nat.mod_eq_of_lt hx] at h
  unfold CfgField
  cases reserved <;> cases looser <;> exact h

/-- The fields without a bound are written after those with one, and change none of them. -/
theorem srcCfgTaken_bounded {f : Fld} (hoff : f.off = 0x4000 + 4 * n) (hlo : f.lo < 20) :
    (s.srcCfgTaken n v).get f = (s.srcBounded n v).get f := by
  rw [State.srcCfgTaken, State.get_put_other _ _ (key_ne_of_lo hoff (show f.lo ≠ 23 by omega)),
    State.get_put_other _ _ (key_ne_of_lo hoff (show f.lo ≠ 22 by omega)),
    State.get_put_other _ _ (key_ne_of_lo hoff (show f.lo ≠ 20 by omega))]

theorem srcCfgTaken_n (s : State) (n v : Nat) : CfgField s (s.srcCfgTaken n v) (R.FLT_SRC_CFG_n n) (bits v 0 8)
    (nReserved (bits v 0 8)) (s.nLooser n (bits v 0 8)) := by
  obtain ⟨hnk, hna, -⟩ := source_keys n
  refine cfgField_of_get (bits_lt ..) ?_
  rw [srcCfgTaken_bounded rfl (by decide : 0 < 20), State.srcBounded, State.get_putIf_other _ _ _ hna,
    State.get_putIf_other _ _ _ hnk]

theorem srcCfgTaken_k (s : State) (n v : Nat) : CfgField s (s.srcCfgTaken n v) (R.FLT_SRC_CFG_k n) (bits v 8 5)
    (kReserved (bits v 8 5)) (s.kLooser n (bits v 8 5)) := by
  obtain ⟨hnk, -, hka⟩ := source_keys n
  refine cfgField_of_get (bits_lt ..) ?_
  rw [srcCfgTaken_bounded rfl (by decide : 8 < 20), State.srcBounded, State.get_putIf_other _ _ _ hka,
    State.get_putIf_same, State.get_putIf_same, State.get_putIf_other _ _ _ hnk.symm]

theorem srcCfgTaken_action (s : State) (n v : Nat) : CfgField s (s.srcCfgTaken n v) (R.FLT_SRC_CFG_action n)
    (bits v 16 3) (actReserved n (bits v 16 3)) (s.actLooser n (bits v 16 3)) := by
  obtain ⟨-, hna, hka⟩ := source_keys n
  refine cfgField_of_get (bits_lt ..) ?_
  rw [srcCfgTaken_bounded rfl (by decide : 16 < 20), State.srcBounded, State.get_putIf_same, State.get_putIf_same,
    State.get_putIf_other _ _ _ hka.symm, State.get_putIf_other _ _ _ hna.symm]

/-- The fields without a bound read as they were written. -/
theorem srcCfgTaken_unbounded (s : State) (n v : Nat) :
    (s.srcCfgTaken n v).get (R.FLT_SRC_CFG_to_pf n) = bits v 20 2 ∧
      (s.srcCfgTaken n v).get (R.FLT_SRC_CFG_to_cp n) = bits v 22 1 ∧
      (s.srcCfgTaken n v).get (R.FLT_SRC_CFG_rec_all n) = bits v 23 1 := by
  have hpc : (R.FLT_SRC_CFG_to_pf n).key ≠ (R.FLT_SRC_CFG_to_cp n).key := key_ne_of_lo rfl (show 20 ≠ 22 by decide)
  have hpr : (R.FLT_SRC_CFG_to_pf n).key ≠ (R.FLT_SRC_CFG_rec_all n).key := key_ne_of_lo rfl (show 20 ≠ 23 by decide)
  have hcr : (R.FLT_SRC_CFG_to_cp n).key ≠ (R.FLT_SRC_CFG_rec_all n).key := key_ne_of_lo rfl (show 22 ≠ 23 by decide)
  rw [State.srcCfgTaken, State.get_put_other _ _ hpr, State.get_put_other _ _ hpc, State.get_put_other _ _ hcr]
  simp only [State.get_put_same]
  exact ⟨bits_mod .., bits_mod .., bits_mod ..⟩

/-- What a write of MID 2 leaves due: one event of source 4 where a field is looser (R606, R608). -/
theorem srcCfgWrite_own_due (hw : w.mid = 2) (hn : srcAssigned n = true) : s.srcCfgWrite n w v =
    { s.srcCfgTaken n v with dueFaults := s.dueFaults ++ if s.srcCfgLoose n v then
        [{ src := 4, res := bits (R.FLT_SRC_CFG_n n).off 2 18, mid := some 2 }] else [] } := by
  have hdue : (s.srcCfgTaken n v).dueFaults = s.dueFaults := by rw [(srcCfgTaken_only s n v).1]
  rw [srcCfgWrite_own hw hn]
  split
  · rw [State.boundRefused, State.fault, hdue]
  · rw [List.append_nil, ← hdue]

end Write

theorem exec_faultSourceConfig {s : State} (ha : s.answers = true) (n : Fin 128) (mid : BitVec 4) (origin : BitVec 10)
    (v : W32) : exec (.faultSourceConfig n mid origin v) s =
      .next (settle (s.srcCfgWrite n (who mid origin) v.toNat)) := next_settle_congr (State.whenUp_of_answers ha _)

/-- Settles O31: a write by MID 2 field by field, one of an unassigned source, one by another MID. -/
theorem faultSourcesConfigured : Obligations.FaultSourcesConfigured := by
  intro s n origin v ha
  refine ⟨fun hn => ?_, fun hn => ?_, fun mid hm => ?_⟩
  · have hown := srcCfgWrite_own_due (s := s) (w := who 2 origin) (v := v.toNat) rfl hn
    obtain ⟨hrec, hget⟩ := srcCfgTaken_only s n v.toNat
    refine ⟨_, (exec_faultSourceConfig ha n 2 origin v).trans (next_settle_congr hown), ⟨?_, hget⟩, rfl,
      srcCfgTaken_n s n _, srcCfgTaken_k s n _, srcCfgTaken_action s n _, srcCfgTaken_unbounded s n _⟩
    rw [hrec]
  · rw [exec_faultSourceConfig ha, srcCfgWrite_unassigned rfl hn]
  · rw [exec_faultSourceConfig ha, srcCfgWrite_foreign fun h => hm (BitVec.eq_of_toNat_eq h)]

end Sys2Proof.Machine

end

section

namespace Sys2Proof.Machine

/-! ### The fault collector counts (O33) -/

/-! The collector's rounds (R597, R610) -/

section Rounds

variable {s : State}

theorem collectAll_idle (h : s.dueFaults = []) : s.collectAll = s := if_pos (by simp [h])

theorem collectAll_stopped (h : s.running = false) : s.collectAll = { s with dueFaults := [] } := by
  unfold State.collectAll
  split_ifs with hdue hrun
  · rw [← List.isEmpty_iff.1 hdue]
  · exact absurd hrun (by simp [h])
  · rfl

theorem settleRounds_idle (n : Nat) (severe : List Nat) (h : s.dueFaults = []) : s.settleRounds n severe = s := by
  cases n with
  | zero => rw [State.settleRounds, ← h]
  | succ n => exact if_pos (by simp [h])

theorem collect_one {e : FaultEv} (ha : srcAssigned e.src = true) : (s.collect [] [e]).1 = (s.countEvent e).1 := by
  simp [State.collect, ha]

/-- One due event is counted, and where that brings no other the collector has finished. -/
theorem collectAll_one {e : FaultEv} (hdue : s.dueFaults = [e]) (hrun : s.running = true)
    (ha : srcAssigned e.src = true) (hquiet : ((({ s with dueFaults := [] } : State).countEvent e).1).dueFaults = []) :
    s.collectAll = (({ s with dueFaults := [] } : State).countEvent e).1 := by
  have hne : ¬ s.dueFaults.isEmpty = true := by simp [hdue]
  rw [State.collectAll, if_neg hne, if_pos hrun, State.settleRounds, if_neg hne, hdue]
  exact (settleRounds_idle _ _ ((congrArg State.dueFaults (collect_one ha)).trans hquiet)).trans (collect_one ha)

/-- Levels that are still high have not fallen (R247). -/
theorem levelFalls_none (h : ∀ e ∈ s.lastLevel, s.level (e.1 / 4) (e.1 % 4) = true) : s.levelFalls = s := by
  unfold State.levelFalls
  generalize s.lastLevel = l at h
  induction l with
  | nil => rfl
  | cons e r ih =>
    rw [List.foldl_cons, if_pos (h e (by simp))]
    exact ih fun x hx => h x (List.mem_cons_of_mem e hx)

end Rounds

/-! An event of a source whose action is COUNT (R594, R596) -/

/-- A window of source n that has ended is opened anew. -/
def State.windowOpened (u : State) (n : Nat) (opens : Bool) : State :=
  if opens then { u with faultEnd := tset u.faultEnd n (u.now + 1000 * 2 ^ u.get (R.FLT_SRC_CFG_k n)) } else u

/-- The unit once an event of source n is counted: a severe one puts the count back to 0. -/
def State.eventCounted (s : State) (n : Nat) : State :=
  ((s.count (R.FLT_SRC_TOTAL_count n)).windowOpened n (s.nextCount n).2).put (R.FLT_SRC_STATE_count n)
    (if s.get (R.FLT_SRC_CFG_n n) ≤ (s.nextCount n).1 then 0 else (s.nextCount n).1)

theorem flt_total_key {n : Nat} (hn : n < 128) {f : Fld} (hl : f.lo < 64) (h : f.off < 0x4400 ∨ 0x4600 ≤ f.off) :
    f.key ≠ (R.FLT_SRC_TOTAL_count n).key := by
  simp only [Fld.key, R.FLT_SRC_TOTAL_count]
  omega

section Counted

variable {s : State} {n : Nat}

/-- A field outside the totals is as it was before the event was counted. -/
theorem windowOpened_get (hn : n < 128) (opens : Bool) {f : Fld} (hl : f.lo < 64)
    (h : f.off < 0x4400 ∨ 0x4600 ≤ f.off) :
    ((s.count (R.FLT_SRC_TOTAL_count n)).windowOpened n opens).get f = s.get f := by
  unfold State.windowOpened
  split <;> exact State.get_count_other _ _ (flt_total_key hn hl h)

theorem nextCount_count (hn : n < 128) : (s.count (R.FLT_SRC_TOTAL_count n)).nextCount n = s.nextCount n := by
  have hc : (s.count (R.FLT_SRC_TOTAL_count n)).get (R.FLT_SRC_STATE_count n) = s.get (R.FLT_SRC_STATE_count n) :=
    State.get_count_other _ _ (flt_total_key hn (show 0 < 64 by decide) (.inl (show 0x4200 + 4 * n < 0x4400 by omega)))
  have ht : (s.count (R.FLT_SRC_TOTAL_count n)).now = s.now :=
    State.get_count_other _ _ (by simp only [Fld.key, R.CLK_MONO_time, R.FLT_SRC_TOTAL_count]; omega)
  simp only [State.nextCount, hc, ht, State.count_faultEnd]

theorem applyAction_count (s : State) (e : FaultEv) : s.applyAction e 0 = (s, resDone) := rfl

/-- An event of a source below 116 that is only counted: no record, no action, and no row is asked for. -/
theorem countEvent_counts {e : FaultEv} (he : e.src < 116) (ha : s.get (R.FLT_SRC_CFG_action e.src) = 0)
    (hr : s.get (R.FLT_SRC_CFG_rec_all e.src) = 0) : (s.countEvent e).1 = s.eventCounted e.src := by
  have hlow : 0x4000 + 4 * e.src < 0x4400 := by omega
  have hget (opens : Bool) {f : Fld} (hl : f.lo < 64) (h : f.off = 0x4000 + 4 * e.src) :
      ((s.count (R.FLT_SRC_TOTAL_count e.src)).windowOpened e.src opens).get f = s.get f :=
    windowOpened_get (by omega) opens hl (.inl (h ▸ hlow))
  have hrec (u : State) (x : Nat) (h : u.get (R.FLT_SRC_CFG_rec_all e.src) = 0) :
      (u.put (R.FLT_SRC_STATE_count e.src) x).on (R.FLT_SRC_CFG_rec_all e.src) = false := by
    have hne : (R.FLT_SRC_CFG_rec_all e.src).key ≠ (R.FLT_SRC_STATE_count e.src).key := by
      simp only [Fld.key, R.FLT_SRC_CFG_rec_all, R.FLT_SRC_STATE_count]
      omega
    rw [State.on, State.get_put_other _ _ hne, h]
    rfl
  have howner : s.withOwner e = e := if_neg (by simp; omega)
  have hrow : s.unownedRow e = s := if_neg (by simp; omega)
  have hask (u : State) : u.ownedRow e = u := if_neg (by simp; omega)
  have hwin (u : State) (c : Bool) : (if c = true then { u with
      faultEnd := tset u.faultEnd e.src (u.now + 1000 * 2 ^ u.get (R.FLT_SRC_CFG_k e.src)) } else u) =
      u.windowOpened e.src c := rfl
  have hn0 := hget (s.nextCount e.src).2 (f := R.FLT_SRC_CFG_n e.src) (show 0 < 64 by decide) rfl
  have ha0 := hget (s.nextCount e.src).2 (f := R.FLT_SRC_CFG_action e.src) (show 16 < 64 by decide) rfl
  have hr0 := hget (s.nextCount e.src).2 (f := R.FLT_SRC_CFG_rec_all e.src) (show 23 < 64 by decide) rfl
  simp only [State.countEvent, howner, hrow, nextCount_count (show e.src < 128 by omega), hwin, hn0, ha0, ha,
    applyAction_count, hrec _ _ (hr0.trans hr), hask, State.eventCounted]
  split <;> simp

theorem eventCounted_rest (s : State) (n : Nat) :
    s.eventCounted n = { s with regs := (s.eventCounted n).regs, faultEnd := (s.eventCounted n).faultEnd } := by
  simp only [State.eventCounted, State.windowOpened]
  split <;> rfl

theorem eventCounted_only (s : State) (n : Nat) : Only { s with faultEnd := (s.eventCounted n).faultEnd }
    (s.eventCounted n) [R.FLT_SRC_STATE_count n, R.FLT_SRC_TOTAL_count n] := by
  refine ⟨eventCounted_rest s n, fun g hg => ?_⟩
  simp only [List.map_cons, List.map_nil, List.mem_cons, List.not_mem_nil, or_false, not_or] at hg
  obtain ⟨hstate, htotal⟩ := hg
  rw [State.eventCounted, State.get_put_other _ _ hstate, State.windowOpened]
  split <;> exact State.get_count_other _ _ htotal

theorem eventCounted_total (s : State) (hn : n < 128) :
    (s.eventCounted n).get (R.FLT_SRC_TOTAL_count n) = s.plus (R.FLT_SRC_TOTAL_count n) 1 := by
  have hne : (R.FLT_SRC_TOTAL_count n).key ≠ (R.FLT_SRC_STATE_count n).key :=
    (flt_total_key hn (show 0 < 64 by decide) (.inl (show 0x4200 + 4 * n < 0x4400 by omega))).symm
  rw [State.eventCounted, State.get_put_other _ _ hne, State.windowOpened]
  split <;> exact State.get_count_same ..

theorem nextCount_lt (s : State) (n : Nat) : (s.nextCount n).1 < 256 := by
  simp only [State.nextCount]
  split <;> simp only <;> omega

theorem eventCounted_count (s : State) (n : Nat) : (s.eventCounted n).get (R.FLT_SRC_STATE_count n) =
    if s.get (R.FLT_SRC_CFG_n n) ≤ (s.nextCount n).1 then 0 else (s.nextCount n).1 := by
  rw [State.eventCounted, State.get_put_same]
  refine Nat.mod_eq_of_lt ?_
  split
  · exact Nat.two_pow_pos _
  · exact nextCount_lt s n

/-- The count and the window by whether the event opens one (R594). -/
theorem nextCount_opens (h : s.get (R.FLT_SRC_STATE_count n) = 0 ∨ (tget s.faultEnd n).getD 0 ≤ s.now) :
    s.nextCount n = (1, true) := if_pos (by simpa using h)

theorem nextCount_adds (h : ¬ (s.get (R.FLT_SRC_STATE_count n) = 0 ∨ (tget s.faultEnd n).getD 0 ≤ s.now)) :
    s.nextCount n = (min 255 (s.get (R.FLT_SRC_STATE_count n) + 1), false) := if_neg (by simpa using h)

theorem eventCounted_window_opens (hn : n < 128) (h : (s.nextCount n).2 = true) :
    tget (s.eventCounted n).faultEnd n = some (s.now + 1000 * 2 ^ s.get (R.FLT_SRC_CFG_k n)) := by
  have hk : (s.count (R.FLT_SRC_TOTAL_count n)).get (R.FLT_SRC_CFG_k n) = s.get (R.FLT_SRC_CFG_k n) :=
    State.get_count_other _ _ (flt_total_key hn (show 8 < 64 by decide) (.inl (show 0x4000 + 4 * n < 0x4400 by omega)))
  have ht : (s.count (R.FLT_SRC_TOTAL_count n)).now = s.now :=
    State.get_count_other _ _ (by simp only [Fld.key, R.CLK_MONO_time, R.FLT_SRC_TOTAL_count]; omega)
  simp only [State.eventCounted, h, State.windowOpened, if_true, State.put_faultEnd, tget_tset_same, hk, ht]

theorem eventCounted_window_stays (h : (s.nextCount n).2 = false) : (s.eventCounted n).faultEnd = s.faultEnd := by
  simp only [State.eventCounted, h]
  rfl

end Counted

/-- Settles O33: one event counted by its window and threshold, and what the collector leaves due. -/
theorem collectorCountsEvents : Obligations.CollectorCountsEvents := by
  refine ⟨?_, settle_due, fun s hdue hl => ?_, fun s h => collectAll_stopped h⟩
  · intro s e hdue hrun ha he hact hrec t c opens c'
    have hcount : (({ s with dueFaults := [] } : State).countEvent e).1 =
        ({ s with dueFaults := [] } : State).eventCounted e.src := countEvent_counts he hact hrec
    have hall : t = ({ s with dueFaults := [] } : State).eventCounted e.src := by
      refine (collectAll_one hdue hrun ha ?_).trans hcount
      rw [hcount, eventCounted_rest]
    have hn : e.src < 128 := by omega
    have hnext : (({ s with dueFaults := [] } : State).nextCount e.src).1 = c' := by
      by_cases ho : opens
      · exact (congrArg Prod.fst (nextCount_opens ho)).trans (if_pos ho).symm
      · exact (congrArg Prod.fst (nextCount_adds ho)).trans (if_neg ho).symm
    refine ⟨rfl, ?_, ?_, ?_, fun ho => ?_, fun ho => ?_⟩
    · rw [hall]
      exact eventCounted_only _ _
    · rw [hall]
      exact eventCounted_total _ hn
    · rw [hall, eventCounted_count, hnext]
      rfl
    · rw [hall]
      exact eventCounted_window_opens hn (congrArg Prod.snd (nextCount_opens ho))
    · rw [hall]
      exact eventCounted_window_stays (congrArg Prod.snd (nextCount_adds ho))
  · rw [settle, collectAll_idle hdue, levelFalls_none hl]

end Sys2Proof.Machine

end

section

namespace Sys2Proof.Machine

/-! ### Ethernet frames (O28) -/

theorem etherCause_keys (m bit : Nat) : (R.ETH_EVT_cause m).key ≠ (R.ETH_EVT_CNT_count m bit).key := by
  simp only [Fld.key, R.ETH_EVT_cause, R.ETH_EVT_CNT_count]
  omega

@[simp] theorem eth_setEth_same (s : State) (m : Nat) (x : EthPort) : (s.setEth m x).eth m = x := tget_tput_same ..

/-! Reception (R456–R459) -/

section Reception

variable {s : State} {m : Nat} {l : List Byte} {bad : Bool}

/-- A received frame has a bad FCS or a length out of range (R456). -/
def State.ethBad (s : State) (m : Nat) (l : List Byte) (bad : Bool) : Prop :=
  bad = true ∨ l.length + 4 < 64 ∨ s.get (R.ETH_CFG_max_len m) < l.length + 4

/-- Each cause of a bad frame set and counted (R456). -/
def State.ethRefused (s : State) (m : Nat) (l : List Byte) (bad : Bool) : State :=
  let u := if bad then (s.setEth m { s.eth m with fcs := sat1 (s.eth m).fcs }).ethRaise m 2 else s
  let w := if l.length + 4 < 64 then u.ethRaise m 3 else u
  if s.get (R.ETH_CFG_max_len m) < l.length + 4 then w.ethRaise m 4 else w

theorem ethBad_iff : (bad || decide (l.length + 4 < 64) || decide (s.get (R.ETH_CFG_max_len m) < l.length + 4)) = true ↔
    s.ethBad m l bad := by
  simp only [State.ethBad, Bool.or_eq_true, decide_eq_true_eq, or_assoc]

theorem ethReceive_unheard (h : s.ethCarries m = false) (time : Nat) : s.ethReceive m l bad time = s :=
  if_pos (by simp [h])

theorem ethReceive_bad (hc : s.ethCarries m = true) (hb : s.ethBad m l bad) (time : Nat) :
    s.ethReceive m l bad time = s.ethRefused m l bad := by
  rw [State.ethReceive, if_neg (by simp [hc])]
  exact if_pos (ethBad_iff.2 hb)

theorem ethReceive_control (hc : s.ethCarries m = true) (hb : ¬ s.ethBad m l bad) (ht : etherType l = 0x8808)
    (time : Nat) : s.ethReceive m l bad time = s.ethRaise m 5 := by
  rw [State.ethReceive, if_neg (by simp [hc])]
  exact (if_neg (ethBad_iff.not.2 hb)).trans (if_pos ht)

theorem ethReceive_taken (hc : s.ethCarries m = true) (hb : ¬ s.ethBad m l bad) (ht : etherType l ≠ 0x8808)
    (time : Nat) : s.ethReceive m l bad time =
      s.ethStore m l (ptpShift time (-(s.get (R.ETH_TS_LAT_ingress m) : Int))) := by
  rw [State.ethReceive, if_neg (by simp [hc])]
  exact (if_neg (ethBad_iff.not.2 hb)).trans (if_neg ht)

/-- The unit once port m has counted a good frame (R459). -/
def State.ethHeard (s : State) (m : Nat) : State := s.setEth m { s.eth m with rx := sat1 (s.eth m).rx }

/-- A frame is offered to the gateway unless it is link-local (R459). -/
def State.ethOffered (w : State) (m : Nat) (l : List Byte) (time : Nat) : State :=
  if linkLocal l then w else w.gwOffer (gwCode clsEth m) (ethRecord l 0 time)

theorem ethStore_filtered {f : Nat} (hf : (List.range 64).find? (s.ethFilterTakes m l) = some f) (time : Nat) :
    s.ethStore m l time = (((s.ethHeard m).store clsEth m ((s.ethHeard m).get (R.ETH_FLT_W3_class m f))
      (ethRecord l f time)).count (R.ETH_CNT_count m 0)).ethOffered m l time := by
  simp only [State.ethStore, hf]
  rfl

theorem ethStore_unfiltered (hf : (List.range 64).find? (s.ethFilterTakes m l) = none) (time : Nat)
    {u w : State} (hu : u = s.ethHeard m)
    (hw : w = ((u.setEth m { u.eth m with noFilter := sat1 (u.eth m).noFilter }).ethRaise m 6).count
      (R.ETH_CNT_count m 2)) :
    s.ethStore m l time =
      if linkLocal l then w else (w.count (R.ETH_CNT_count m 0)).gwOffer (gwCode clsEth m) (ethRecord l 0 time) := by
  subst hu
  subst hw
  rcases hl : linkLocal l with _ | _
  · simp only [State.ethStore, hf, hl, Option.isSome_none, Bool.not_false, Bool.or_true, if_true, Bool.false_eq_true,
      if_false]
    rfl
  · simp only [State.ethStore, hf, hl, Option.isSome_none, Bool.not_true, Bool.or_false, if_true, Bool.false_eq_true,
      if_false]
    rfl

end Reception

/-! Sending (R461) -/

section Sending

variable {s : State} {m : Nat} {f : TxFrame}

/-- The unit once frame f has left port m padded and counted. -/
def State.ethLeft (s : State) (m : Nat) (f : TxFrame) : State :=
  let d := (recData f.bytes).take (recLen f.bytes)
  State.count { (s.setEth m
    { s.eth m with tx := none, sent := sat1 (s.eth m).sent, burst := (s.eth m).burst - 1 }) with
      out := s.out ++ [Out.frame clsEth m (d ++ zeros (60 - d.length))] } (R.ETH_CNT_count m 1)

/-- A PLCA burst ends where no frame follows (R480). -/
def State.burstEnded (w : State) (m : Nat) : State :=
  if (w.eth m).tx.isNone then w.setEth m { w.eth m with burst := 0 } else w

theorem ethSent_none (h : (s.eth m).tx = none) (time : Nat) : s.ethSent m time = s := by
  simp only [State.ethSent, h]

theorem ethSent_other (h : (s.eth m).tx = some f) (hsrc : ∀ token, f.src ≠ .program token) (time : Nat) :
    s.ethSent m time = ((s.ethLeft m f).ethLoad m).burstEnded m := by
  simp only [State.ethSent, h]
  rfl

theorem ethSent_program (h : (s.eth m).tx = some f) {token : Nat} (hsrc : f.src = .program token) (time : Nat) :
    s.ethSent m time = (((if (recKind f.bytes).testBit 0 then (s.ethLeft m f).ethStamp m (recIdent f.bytes % 4)
      (ptpShift time ((s.ethLeft m f).get (R.ETH_TS_LAT_egress m))) else s.ethLeft m f).frameLeft token).ethLoad
        m).burstEnded m := by
  simp only [State.ethSent, h, hsrc]
  rfl

end Sending

/-! Collisions (R482) -/

section Collisions

variable {s : State} {f : TxFrame}

/-- The unit once a collision on ETH6 is counted. -/
def State.ethCollided (s : State) : State :=
  (s.setEth 6 { s.eth 6 with collisions := sat1 (s.eth 6).collisions }).ethRaise 6 8

/-- What is told of a frame that is dropped: its program hears the detail (R461, R482). -/
def State.txDropped (w : State) (f : TxFrame) (detail : Nat) : State :=
  match f.src with
  | .program token => w.frameFailed token detail
  | _ => w

theorem txDropped_program {token : Nat} (h : f.src = .program token) (w : State) (detail : Nat) :
    w.txDropped f detail = w.frameFailed token detail := by
  simp only [State.txDropped, h]

theorem txDropped_other (h : ∀ token, f.src ≠ .program token) (w : State) (detail : Nat) :
    w.txDropped f detail = w := by
  unfold State.txDropped
  split
  · next token ht => exact absurd ht (h token)
  · rfl

theorem ethCollide_none (h : (s.eth 6).tx = none) (late : Bool) : s.ethCollide late = s := by
  simp only [State.ethCollide, h]

theorem ethCollide_plca (hp : s.on (R.ETH_STATUS_plca_active 6) = true) (late : Bool) : s.ethCollide late = s := by
  cases hx : (s.eth 6).tx with
  | none => exact ethCollide_none hx late
  | some f => simp only [State.ethCollide, hx, hp, if_true]

/-- A frame that collides under CSMA/CD is counted, and backs off or is dropped. -/
theorem ethCollide_counted (h : (s.eth 6).tx = some f) (hp : s.on (R.ETH_STATUS_plca_active 6) = false) {late : Bool}
    {w : State} (hw : w = s.ethCollided.setEth 6 { s.ethCollided.eth 6 with tx := none }) : s.ethCollide late =
      if (late || decide (15 ≤ f.tries)) = true then (w.txDropped f 0x51).ethLoad 6
      else s.ethCollided.setEth 6 { s.ethCollided.eth 6 with tx := some { f with tries := f.tries + 1 } } := by
  subst hw
  simp only [State.ethCollide, State.ethCollided, State.txDropped, h, hp, Bool.false_eq_true, if_false] <;> rfl

theorem ethCollide_backs_off (h : (s.eth 6).tx = some f) (hp : s.on (R.ETH_STATUS_plca_active 6) = false)
    (ht : f.tries < 15) : s.ethCollide false =
      s.ethCollided.setEth 6 { s.ethCollided.eth 6 with tx := some { f with tries := f.tries + 1 } } := by
  exact (ethCollide_counted h hp rfl).trans (if_neg (by simp; omega))

theorem ethCollide_drops (h : (s.eth 6).tx = some f) (hp : s.on (R.ETH_STATUS_plca_active 6) = false) {late : Bool}
    (ht : late = true ∨ 15 ≤ f.tries) {w : State}
    (hw : w = s.ethCollided.setEth 6 { s.ethCollided.eth 6 with tx := none }) : s.ethCollide late =
      (w.txDropped f 0x51).ethLoad 6 :=
  (ethCollide_counted h hp hw).trans (if_pos (by simpa using ht))

end Collisions

/-- Settles O28: a received frame by its checks and its filter, a sent one by its source, a collision by its count. -/
theorem ethernetFramesMove : Obligations.EthernetFramesMove := by
  intro s m
  refine ⟨fun l bad time hc => next_settle_congr (ethReceive_unheard hc _), fun l bad time hc => ⟨fun hb => ?_,
      fun hb => ⟨fun ht => ?_, fun ht => ⟨fun f hf => ?_, fun hf => ?_⟩⟩⟩,
    fun f time hf => ⟨fun hsrc => ?_, fun token hsrc => ⟨fun hstamp => ?_, fun hstamp => ?_⟩⟩,
    fun time h => next_settle_congr (ethSent_none h _),
    fun late f hf hp => ⟨fun hl ht => ?_, fun ht => ⟨fun token hsrc => ?_, fun hsrc => ?_⟩⟩,
    fun late h => next_settle_congr (h.elim (ethCollide_none · late) (ethCollide_plca · late))⟩
  · exact next_settle_congr (ethReceive_bad hc hb _)
  · exact next_settle_congr (ethReceive_control hc hb ht _)
  · exact next_settle_congr ((ethReceive_taken hc hb ht _).trans (ethStore_filtered hf _))
  · exact next_settle_congr ((ethReceive_taken hc hb ht _).trans (ethStore_unfiltered hf _ rfl rfl))
  · exact next_settle_congr (ethSent_other hf hsrc _)
  · exact next_settle_congr ((ethSent_program hf hsrc _).trans (by rw [if_neg (by simp [hstamp])]; rfl))
  · exact next_settle_congr ((ethSent_program hf hsrc _).trans (by rw [if_pos hstamp]; rfl))
  · subst hl
    exact next_settle_congr (ethCollide_backs_off hf hp ht)
  · exact next_settle_congr ((ethCollide_drops hf hp ht rfl).trans
      (congrArg (State.ethLoad · 6) (txDropped_program hsrc ..)))
  · exact next_settle_congr ((ethCollide_drops hf hp ht rfl).trans
      (congrArg (State.ethLoad · 6) (txDropped_other hsrc ..)))

end Sys2Proof.Machine

end

section

namespace Sys2Proof.Machine

/-! ### Ethernet links (O29) -/

/-! The en bit of ETHm_CFG (R406, R476) -/

section Enable

variable {s : State} {m : Nat}

theorem ethEn_same {en : Bool} (h : s.on (R.ETH_CFG_en m) = en) : s.ethEn m en = s := by
  cases en <;> simp [State.ethEn, h]

theorem ethEn_enables (h : s.on (R.ETH_CFG_en m) = false) (hlo : 64 ≤ s.get (R.ETH_CFG_max_len m))
    (hhi : s.get (R.ETH_CFG_max_len m) ≤ 2000) : s.ethEn m true = (s.put (R.ETH_CFG_en m) 1).ethSettle m := by
  simp [State.ethEn, h, hlo, hhi]

theorem ethEn_refused (h : s.on (R.ETH_CFG_en m) = false)
    (hl : s.get (R.ETH_CFG_max_len m) < 64 ∨ 2000 < s.get (R.ETH_CFG_max_len m)) :
    s.ethEn m true = s.ethRaise m 10 := by
  rw [State.ethEn, if_pos (by simp [h]), if_neg (by simp; omega)]

theorem ethEn_disables (h : s.on (R.ETH_CFG_en m) = true) : s.ethEn m false =
    ((s.put (R.ETH_CFG_en m) 0).portOff clsEth m stBadDevice 0x03).ethSettle m := by
  simp [State.ethEn, h]

/-- cfg_refused is no event for the fault collector (R489). -/
theorem ethRaise_refused (s : State) (m : Nat) :
    Only s (s.ethRaise m 10) [R.ETH_EVT_cause m, R.ETH_EVT_CNT_count m 10] ∧
      Raised s (s.ethRaise m 10) (R.ETH_EVT_cause m) 10 (R.ETH_EVT_CNT_count m 10) :=
  ⟨(Only.refl s _).raise (by simp) (by simp) 10, raised_raise s 10 (etherCause_keys m 10)⟩

end Enable

/-- PORT_ENABLE of an Ethernet port is ETH_ENABLE (R406). -/
theorem exec_portEnable_eth (s : State) (m : Fin 7) (mid : BitVec 4) (v : W32) :
    exec (.portEnable (.eth m) mid v) s = exec (.ethEnable m mid v) s := rfl

section Configured

variable {s : State} (h : s.answers = true) (mid : BitVec 4) (v : W32) (m : Fin 7)
include h

theorem exec_ethEnable : exec (.ethEnable m mid v) s =
    .next (settle ((s.writeOthers mid.toNat (setBit v.toNat 0) (R.ETH_CFG_en m)).ethEn m true)) := by
  refine next_settle_congr ((State.whenUp_of_answers h _).trans ?_)
  rw [State.ethCfgWrite, testBit_setBit_zero]

theorem exec_portDisable_eth : exec (.portDisable (.eth m) mid v) s =
    .next (settle ((s.writeOthers mid.toNat (clearBits v.toNat 1) (R.ETH_CFG_en m)).ethEn m false)) := by
  rw [exec_portDisable h, State.portCfgWrite, State.ethCfgWrite, testBit_clearBits_one]

end Configured

/-! The link (R462, R476, R478) -/

section Link

variable {s : State} {m : Nat}

theorem ethLinkTo_same {up : Bool} (h : s.ethLink m = up) : s.ethLinkTo m up = s := if_pos h

theorem ethLinkTo_up (h : s.ethLink m = false) {u : State}
    (hu : u = ((s.put (R.ETH_STATUS_link m) 1).ethRaise m 0).linkUpDone m) :
    s.ethLinkTo m true = (u.portEvent clsEth m 0x06 (fun _ => true)).ethLoad m := by
  rw [hu]
  simp only [State.ethLinkTo, h, State.flag, b2n, Bool.false_eq_true, if_false, if_true]

theorem ethLinkTo_down (h : s.ethLink m = true) {u : State}
    (hu : u = ((s.put (R.ETH_STATUS_link m) 0).ethRaise m 1).ethCut m) :
    s.ethLinkTo m false = u.portEvent clsEth m 0x06 (fun _ => true) := by
  rw [hu]
  simp only [State.ethLinkTo, h, State.flag, b2n, Bool.true_eq_false, Bool.false_eq_true, if_false]

theorem ethLinkChange_may (h : s.ethMayLink m = true) (up : Bool) : s.ethLinkChange m up = s.ethLinkTo m up :=
  if_neg (by simp [h])

theorem ethLinkChange_down : s.ethLinkChange m false = s.ethLinkTo m false := if_neg (by simp)

theorem ethLinkChange_none {up : Bool} (h : s.ethLink m = up ∨ up = true ∧ s.ethMayLink m = false) :
    s.ethLinkChange m up = s := by
  by_cases hb : up = true ∧ s.ethMayLink m = false
  · exact if_pos (by simp [hb.1, hb.2])
  · exact (if_neg (by simpa using hb)).trans (ethLinkTo_same (h.resolve_right hb))

/-- A coordinator that runs has PLCA active, and ETH6 its link where it may have one (R476, R480). -/
theorem ethSettle_coordinator (hp : s.plcaOn = true) (hr : s.portRuns clsEth 6 = true)
    (h0 : s.get R.ETH_PLCA_node_id = 0) {x : State} (hx : x = s.put (R.ETH_STATUS_plca_active 6) 1) :
    s.ethSettle 6 = x.ethLinkTo 6 (x.ethMayLink 6) := by
  have hplca : s.plcaSettle = x := by
    rw [State.plcaSettle, if_neg (by simp [hp, hr]), if_pos h0, hx]
  rw [State.ethSettle, if_pos rfl, hplca]
  cases x.ethMayLink 6 <;> rfl

end Link

/-! PLCA (R480, R481) -/

section Plca

variable {s : State}

theorem plcaBeacon_active (hp : s.plcaOn = true) (hr : s.portRuns clsEth 6 = true) :
    s.plcaBeacon = s.put (R.ETH_STATUS_plca_active 6) 1 := if_pos (by simp [hp, hr])

theorem plcaBeacon_ignored (h : s.plcaOn = false ∨ s.portRuns clsEth 6 = false) : s.plcaBeacon = s :=
  if_neg (by rcases h with h | h <;> simp [h])

theorem plcaLoss_lost (ha : s.on (R.ETH_STATUS_plca_active 6) = true) (hn : s.get R.ETH_PLCA_node_id ≠ 0) :
    s.plcaLoss = ((s.put (R.ETH_STATUS_plca_active 6) 0).ethRaise 6 9).ethLoad 6 := if_pos (by simp [ha, hn])

theorem plcaLoss_ignored (h : s.on (R.ETH_STATUS_plca_active 6) = false ∨ s.get R.ETH_PLCA_node_id = 0) :
    s.plcaLoss = s := if_neg (by rcases h with h | h <;> simp [h])

/-- The BEACON with which the coordinator begins a cycle (R480). -/
def State.beaconSent (s : State) : State :=
  if s.get R.ETH_PLCA_node_id = 0 then
    { s with out := s.out ++ [Out.line clsEth 6 2 (s.get R.ETH_PLCA_node_count)] } else s

theorem plcaOpportunity_taken (ha : s.on (R.ETH_STATUS_plca_active 6) = true) (ht : (s.eth 6).tx = none) {u : State}
    (hu : u = s.beaconSent) : s.plcaOpportunity =
      ((u.setEth 6 { u.eth 6 with burst := u.get R.ETH_PLCA_BURST_burst_count + 1 }).ethLoad 6).burstEnded 6 := by
  subst hu
  exact if_pos (by simp [ha, ht])

theorem plcaOpportunity_passes (h : s.on (R.ETH_STATUS_plca_active 6) = false ∨ (s.eth 6).tx ≠ none) :
    s.plcaOpportunity = s := by
  refine if_neg ?_
  rcases h with h | h
  · simp [h]
  · simpa using fun _ => h

end Plca

/-- Settles O29: the en bit by the configuration, a link by what it was and may be, PLCA by its node, and the two
CONTROL functions. -/
theorem ethernetLinks : Obligations.EthernetLinks := by
  intro s m
  refine ⟨fun ha mid v => ⟨exec_portEnable_eth s m mid v, fun hon => ?_, fun hoff => ⟨fun hlo hhi => ⟨?_, ?_⟩,
      fun hl => ⟨_, ?_, ethRaise_refused _ m⟩⟩⟩,
    fun ha mid v => ⟨fun hon => ?_, fun hoff => ?_⟩,
    fun hd hmay => next_settle_congr ((ethLinkChange_may hmay true).trans (ethLinkTo_up hd rfl)),
    fun hu => next_settle_congr (ethLinkChange_down.trans (ethLinkTo_down hu rfl)),
    fun up h => next_settle_congr (ethLinkChange_none h),
    fun hp hr => next_congr (plcaBeacon_active hp hr), fun h => next_congr (plcaBeacon_ignored h),
    fun hact hn => next_settle_congr (plcaLoss_lost hact hn), fun h => next_settle_congr (plcaLoss_ignored h),
    fun hact ht => next_settle_congr (plcaOpportunity_taken hact ht rfl),
    fun h => next_settle_congr (plcaOpportunity_passes h),
    fun a => ⟨fun hi => next_settle_congr (portFunc_issued hi _), fun hi => next_settle_congr (portFunc_issued hi _),
      fun hi => next_settle_congr (portFunc_not_issued hi _), fun hi => next_settle_congr (portFunc_not_issued hi _)⟩⟩
  · rw [exec_ethEnable ha, ethEn_same hon]
  · rw [exec_ethEnable ha, ethEn_enables hoff hlo hhi]
  · intro hm hp hr h0
    rw [hm] at hp hr h0 ⊢
    exact ethSettle_coordinator hp hr h0 rfl
  · rw [exec_ethEnable ha, ethEn_refused hoff hl]
  · rw [exec_portDisable_eth ha, ethEn_disables hon]
  · rw [exec_portDisable_eth ha, ethEn_same hoff]

end Sys2Proof.Machine

end

section

namespace Sys2Proof.Machine

/-! ### CAN ports started and recovered (O15) -/

/-! The en bit of CANm_CTL (R407, R720) -/

section Enable

variable {s : State} {m : Nat}

theorem canEn_same {en : Bool} (h : s.on (R.CAN_CTL_en m) = en) : s.canEn m en = s := by
  cases en <;> simp [State.canEn, h]

theorem canEn_enables (h : s.on (R.CAN_CTL_en m) = false) (hc : s.canCfgOk m = true) :
    s.canEn m true = s.canEnable m := by
  simp [State.canEn, h, hc]

theorem canEn_refused (h : s.on (R.CAN_CTL_en m) = false) (hc : s.canCfgOk m = false) :
    s.canEn m true = s.canRaise m 9 := by
  simp [State.canEn, h, hc]

theorem canEn_disables (h : s.on (R.CAN_CTL_en m) = true) : s.canEn m false =
    ((s.put (R.CAN_CTL_en m) 0).portOff clsCan m stBadDevice 0x03).canClear m := by
  simp [State.canEn, h]

theorem canCause_keys (m bit : Nat) : (R.CAN_EVT_cause m).key ≠ (R.CAN_EVT_CNT_count m bit).key := by
  simp only [Fld.key, R.CAN_EVT_cause, R.CAN_EVT_CNT_count]
  omega

/-- bus_on, bus_off by the host and cfg_refused are no events for the fault collector (R448). -/
theorem canRaise_unreported (s : State) (m : Nat) {bit : Nat} (h : bit = 3 ∨ bit = 5 ∨ bit = 9) :
    s.canRaise m bit = s.raise (R.CAN_EVT_cause m) bit (R.CAN_EVT_CNT_count m bit) :=
  if_pos (by simpa [or_assoc] using h)

theorem canRaise_refused (s : State) (m : Nat) :
    Only s (s.canRaise m 9) [R.CAN_EVT_cause m, R.CAN_EVT_CNT_count m 9] ∧
      Raised s (s.canRaise m 9) (R.CAN_EVT_cause m) 9 (R.CAN_EVT_CNT_count m 9) := by
  rw [canRaise_unreported s m (.inr (.inr rfl))]
  exact ⟨(Only.refl s _).raise (by simp) (by simp) 9, raised_raise s 9 (canCause_keys m 9)⟩

/-- A port without any protocol state (R720). -/
def CanPort.cleared (x : CanPort) : CanPort :=
  { x with integrating := false, busOff := false, recovering := false, sessions := [], ptxDue := 0, supFired := 0 }

/-- The fields that an accepted enable writes. -/
def canStartFlds (m : Nat) : List Fld :=
  [R.CAN_CTL_en m, R.CAN_STATUS_tec m, R.CAN_STATUS_rec m, R.CAN_STATUS_host_off m]

/-- The registers of a port that has been enabled: error active, with the host on (R720). -/
def State.canStartShown (u : State) (m : Nat) : State :=
  (((u.put (R.CAN_CTL_en m) 1).put (R.CAN_STATUS_tec m) 0).put (R.CAN_STATUS_rec m) 0).put (R.CAN_STATUS_host_off m) 0

theorem canStartShown_only (u : State) (m : Nat) : Only u (u.canStartShown m) (canStartFlds m) :=
  ((((Only.refl u _).put (by simp [canStartFlds]) _).put (by simp [canStartFlds]) _).put (by simp [canStartFlds])
    _).put (by simp [canStartFlds]) _

theorem canStartShown_can (u : State) (m n : Nat) : (u.canStartShown m).can n = u.can n := rfl

theorem canStart_keys (m : Nat) : (R.CAN_CTL_en m).key ≠ (R.CAN_STATUS_tec m).key ∧
    (R.CAN_CTL_en m).key ≠ (R.CAN_STATUS_rec m).key ∧ (R.CAN_CTL_en m).key ≠ (R.CAN_STATUS_host_off m).key ∧
    (R.CAN_STATUS_tec m).key ≠ (R.CAN_STATUS_rec m).key ∧ (R.CAN_STATUS_tec m).key ≠ (R.CAN_STATUS_host_off m).key ∧
    (R.CAN_STATUS_rec m).key ≠ (R.CAN_STATUS_host_off m).key := by
  simp only [Fld.key, R.CAN_CTL_en, R.CAN_STATUS_tec, R.CAN_STATUS_rec, R.CAN_STATUS_host_off]
  omega

theorem canStartShown_get (u : State) (m : Nat) : (u.canStartShown m).get (R.CAN_CTL_en m) = 1 ∧
    (u.canStartShown m).get (R.CAN_STATUS_tec m) = 0 ∧ (u.canStartShown m).get (R.CAN_STATUS_rec m) = 0 ∧
    (u.canStartShown m).get (R.CAN_STATUS_host_off m) = 0 := by
  obtain ⟨het, her, heh, htr, hth, hrh⟩ := canStart_keys m
  unfold State.canStartShown
  refine ⟨?_, ?_, ?_, ?_⟩
  · rw [State.get_put_other _ _ heh, State.get_put_other _ _ her, State.get_put_other _ _ het, State.get_put_same]
    rfl
  · rw [State.get_put_other _ _ hth, State.get_put_other _ _ htr, State.get_put_same]
    rfl
  · rw [State.get_put_other _ _ hrh, State.get_put_same]
    rfl
  · rw [State.get_put_same]
    rfl

/-- An enabled port integrates, with its protocol state cleared before (R720). -/
theorem canEnable_eq (u : State) (m : Nat) : u.canEnable m =
    ((u.setCan m (u.can m).cleared).setCan m { (u.can m).cleared with integrating := true }).canStartShown m := by
  have hcan : ((u.put (R.CAN_CTL_en m) 1).canClear m).can m = (u.can m).cleared := can_setCan_same ..
  rw [State.canEnable, hcan]
  rfl

theorem canEnable_only (u : State) (m : Nat) :
    Only { u with cans := (u.canEnable m).cans } (u.canEnable m) (canStartFlds m) := by
  rw [canEnable_eq]
  exact canStartShown_only _ m

theorem canEnable_get (u : State) (m : Nat) : (u.canEnable m).get (R.CAN_CTL_en m) = 1 ∧
    (u.canEnable m).get (R.CAN_STATUS_tec m) = 0 ∧ (u.canEnable m).get (R.CAN_STATUS_rec m) = 0 ∧
    (u.canEnable m).get (R.CAN_STATUS_host_off m) = 0 := by
  rw [canEnable_eq]
  exact canStartShown_get _ m

theorem canEnable_can (u : State) (m : Nat) :
    (u.canEnable m).can m = { (u.can m).cleared with integrating := true } := by
  rw [canEnable_eq, canStartShown_can, can_setCan_same]

theorem canEnable_can_other (u : State) {m n : Nat} (h : n ≠ m) : (u.canEnable m).can n = u.can n := by
  rw [canEnable_eq, canStartShown_can, can_setCan_other _ _ h, can_setCan_other _ _ h]

end Enable

section Configured

variable {s : State} (h : s.answers = true) (mid : BitVec 4) (v : W32) (m : Fin 16)
include h

theorem exec_canEnable : exec (.canEnable m mid v) s =
    .next (settle (((canWritten s m mid (setBit v.toNat 0)).autoRecover m).canEn m true)) := by
  refine next_settle_congr ((State.whenUp_of_answers h _).trans ?_)
  rw [State.canCtlWrite, testBit_setBit_zero]
  rfl

theorem exec_portDisable_can : exec (.portDisable (.can m) mid v) s =
    .next (settle (((canWritten s m mid (clearBits v.toNat 1)).autoRecover m).canEn m false)) := by
  rw [exec_portDisable h, State.portCfgWrite, State.canCtlWrite, testBit_clearBits_one]
  rfl

theorem exec_autoRecoverWrite : exec (.autoRecoverWrite m mid v) s =
    .next (settle (((canWritten s m mid (setBit v.toNat 6)).autoRecover m).canEn m ((setBit v.toNat 6).testBit 0))) :=
  next_settle_congr (State.whenUp_of_answers h _)

end Configured

/-- PORT_ENABLE of a CAN port is CAN_ENABLE (R406). -/
theorem exec_portEnable_can (s : State) (m : Fin 16) (mid : BitVec 4) (v : W32) :
    exec (.portEnable (.can m) mid v) s = exec (.canEnable m mid v) s := rfl

/-! Recovery from bus-off (R417) -/

section Recovery

variable {s : State} {m : Nat}

theorem autoRecover_eq (u : State) (m : Nat) : u.autoRecover m =
    if u.on (R.CAN_CTL_auto_recover m) = true ∧ (u.can m).busOff = true ∧ (u.can m).recovering = false then
      (u.setCan m { u.can m with recovering := true }).busOnDone m else u := by
  unfold State.autoRecover State.canRecover
  by_cases ha : u.on (R.CAN_CTL_auto_recover m) = true <;> simp [ha]

/-- The port once its recovery has counted its 128 occurrences: error active, with bus_on raised. -/
def State.canBack (s : State) (m : Nat) : State :=
  ((s.setCan m { s.can m with busOff := false, recovering := false }).canCountersPut m 0 0).raise (R.CAN_EVT_cause m) 3
    (R.CAN_EVT_CNT_count m 3)

theorem canBack_only (s : State) (m : Nat) : Only { s with cans := (s.canBack m).cans } (s.canBack m)
    [R.CAN_STATUS_tec m, R.CAN_STATUS_rec m, R.CAN_EVT_cause m, R.CAN_EVT_CNT_count m 3] :=
  (canCountersPut_only _ m 0 0).trans ((Only.refl _ [R.CAN_EVT_cause m, R.CAN_EVT_CNT_count m 3]).raise (by simp)
    (by simp) 3)

theorem canBack_can (s : State) (m : Nat) : (s.canBack m).can m =
    { s.can m with busOff := false, recovering := false } := can_setCan_same ..

/-- The counters of a port lie in another register than its causes. -/
theorem canCounter_keys (m bit : Nat) : (R.CAN_STATUS_tec m).key ≠ (R.CAN_EVT_cause m).key ∧
    (R.CAN_STATUS_tec m).key ≠ (R.CAN_EVT_CNT_count m bit).key ∧
    (R.CAN_STATUS_rec m).key ≠ (R.CAN_EVT_cause m).key ∧
    (R.CAN_STATUS_rec m).key ≠ (R.CAN_EVT_CNT_count m bit).key := by
  simp only [Fld.key, R.CAN_STATUS_tec, R.CAN_STATUS_rec, R.CAN_EVT_cause, R.CAN_EVT_CNT_count]
  omega

theorem canBack_counters (s : State) (m : Nat) :
    (s.canBack m).get (R.CAN_STATUS_tec m) = 0 ∧ (s.canBack m).get (R.CAN_STATUS_rec m) = 0 := by
  obtain ⟨htc, htn, hrc, hrn⟩ := canCounter_keys m 3
  rw [State.canBack, State.get_raise_other _ _ htc htn, State.get_raise_other _ _ hrc hrn]
  exact canCountersPut_get _ m (by decide) (by decide)

theorem canBack_raised (s : State) (m : Nat) :
    Raised s (s.canBack m) (R.CAN_EVT_cause m) 3 (R.CAN_EVT_CNT_count m 3) := by
  obtain ⟨htc, htn, hrc, hrn⟩ := canCounter_keys m 3
  have h := raised_raise ((s.setCan m { s.can m with busOff := false, recovering := false }).canCountersPut m 0 0) 3
    (canCause_keys m 3)
  rw [Raised, State.plus, State.canCountersPut, State.get_put_other _ _ hrc.symm, State.get_put_other _ _ htc.symm,
    State.get_put_other _ _ hrn.symm, State.get_put_other _ _ htn.symm] at h
  exact h

theorem canRecovered_recovers (hb : (s.can m).busOff = true) (hr : (s.can m).recovering = true) :
    s.canRecovered m = ((s.canBack m).canStateSeen m 2).canLoad m := by
  have hold : s.canErrState m = 2 := if_pos hb
  have hraise (u : State) : u.canRaise m 3 = u.raise (R.CAN_EVT_cause m) 3 (R.CAN_EVT_CNT_count m 3) :=
    canRaise_unreported u m (.inl rfl)
  refine (if_pos (by simp [hb, hr])).trans ?_
  rw [hold, hraise]
  rfl

theorem canRecovered_idle (h : (s.can m).busOff = false ∨ (s.can m).recovering = false) : s.canRecovered m = s :=
  if_neg (by rcases h with h | h <;> simp [h])

end Recovery

/-! BUS_ON and ABORT_TX (R418) -/

section Control

variable {s : State} {m a : Nat} {u : State}

/-- BUS_ON as the port takes it: the host no longer holds it off. -/
def State.busOnTaken (s : State) (m a : Nat) : State :=
  (s.put (R.CAN_STATUS_host_off m) 0).updOp a fun o => { o with event := true }

theorem busOn_busOff (h : ((s.busOnTaken m a).can m).busOff = true) :
    s.busOn m a = ((s.busOnTaken m a).canRecover m).endOp a stSuccess 0 := if_pos h

theorem busOn_active (hb : ((s.busOnTaken m a).can m).busOff = false) (he : (s.busOnTaken m a).canErrState m = 0) :
    s.busOn m a = ((s.busOnTaken m a).endOp a stSuccess 0).canLoad m :=
  (if_neg (show ¬ ((s.busOnTaken m a).can m).busOff = true by simp [hb])).trans (if_pos he)

theorem busOn_passive (hb : ((s.busOnTaken m a).can m).busOff = false) (he : (s.busOnTaken m a).canErrState m ≠ 0) :
    s.busOn m a = (s.busOnTaken m a).canLoad m :=
  (if_neg (show ¬ ((s.busOnTaken m a).can m).busOff = true by simp [hb])).trans (if_neg he)

theorem abortTx_idle (hu : u = s.canDiscard m 0x12) (h : (u.can m).tx = none) :
    s.abortTx m a = u.endOp a stSuccess 0 := by
  rw [hu] at h ⊢
  simp only [State.abortTx, h]

theorem abortTx_sending (hu : u = s.canDiscard m 0x12) {f : TxFrame} (h : (u.can m).tx = some f) : s.abortTx m a =
    (u.setCan m { u.can m with tx := some { f with last := true } }).endOp a stSuccess 0 := by
  rw [hu] at h ⊢
  simp only [State.abortTx, h]

end Control

/-- Settles O15: the en bit by the configuration, recovery by bus-off, and each CONTROL function by the port's state. -/
theorem canStartsAndRecovers : Obligations.CanStartsAndRecovers := by
  intro s m
  refine ⟨fun ha mid v => ⟨exec_portEnable_can s m mid v, fun hon => ?_, fun hoff hc => ⟨_, ?_, canEnable_only _ m, ?_⟩,
      fun hoff hc => ⟨_, ?_, canRaise_refused _ m⟩⟩,
    fun ha mid v => ⟨fun hon => ?_, fun hoff => ?_⟩, fun ha mid v => ?_,
    fun hi hr => next_settle_congr (if_pos (by simp [hi, hr])),
    fun h => next_settle_congr (if_neg (by rcases h with h | h <;> simp [h])),
    fun hb hr => ⟨s.canBack m, canBack_only s m, canBack_can s m, (canBack_counters s m).1, (canBack_counters s m).2,
      canBack_raised s m, next_settle_congr (canRecovered_recovers hb hr)⟩,
    fun h => next_settle_congr (canRecovered_idle h),
    fun a => ⟨fun hi => next_settle_congr (portFunc_issued hi _), fun hi => ⟨fun hb => ?_, fun hb he => ?_,
      fun hb he => ?_⟩, fun hi => ⟨fun ht => ?_, fun f ht => ?_⟩, fun x hx hi => ?_⟩⟩
  · rw [exec_canEnable ha, canEn_same hon]
  · rw [exec_canEnable ha, canEn_enables hoff hc]
  · obtain ⟨hen, htec, hrec, hhost⟩ := canEnable_get ((canWritten s m mid (setBit v.toNat 0)).autoRecover m) m
    exact ⟨hen, htec, hrec, hhost, canEnable_can _ m, fun n hn => canEnable_can_other _ hn⟩
  · rw [exec_canEnable ha, canEn_refused hoff hc]
  · rw [exec_portDisable_can ha, canEn_disables hon]
  · rw [exec_portDisable_can ha, canEn_same hoff]
  · rw [exec_autoRecoverWrite ha, autoRecover_eq]
  · exact next_settle_congr ((portFunc_issued hi _).trans (busOn_busOff hb))
  · exact next_settle_congr ((portFunc_issued hi _).trans (busOn_active hb he))
  · exact next_settle_congr ((portFunc_issued hi _).trans (busOn_passive hb he))
  · exact next_settle_congr ((portFunc_issued hi _).trans (abortTx_idle rfl ht))
  · exact next_settle_congr ((portFunc_issued hi _).trans (abortTx_sending rfl ht))
  · simp only [List.mem_cons, List.not_mem_nil, or_false] at hx
    rcases hx with rfl | rfl | rfl <;> exact next_settle_congr (portFunc_not_issued hi _)

end Sys2Proof.Machine

end

section

namespace Sys2Proof.Machine

/-! ### Standby pairs mirror in epochs (O45) -/

/-! LDG_EVT causes (R569) -/

theorem ldgCause_keys (bit : Nat) : R.LDG_EVT_cause.key ≠ (R.LDG_EVT_CNT_count bit).key := by
  simp only [Fld.key, R.LDG_EVT_cause, R.LDG_EVT_CNT_count]
  omega

/-- Causes 3, 5, 6, 12 and 13 are events of source 25 with the partner as resource (R593). -/
theorem ldgRaise_partner (s : State) {bit : Nat} (h : bit ∈ [3, 5, 6, 12, 13]) : s.ldgRaise bit =
    s.raiseF R.LDG_EVT_cause bit (R.LDG_EVT_CNT_count bit) 25 s.ldg.pair.partner := by
  simp only [List.mem_cons, List.not_mem_nil, or_false] at h
  rcases h with rfl | rfl | rfl | rfl | rfl <;> rfl

theorem mismatch_member {s : State} (h : s.member = true) : s.mismatch = s.ldgRaise 12 := if_pos h

/-! Heartbeats (R559) -/

section Heartbeats

variable {s : State}

theorem sendHeartbeat_member (h : s.member = true) : s.sendHeartbeat =
    State.sendTo { s with ldg := { s.ldg with hbSent := s.ldg.hbSent + 1 } } 0x06 s.ldg.pair.partner
      (leBytes 8 s.now ++ leBytes 4 (s.ldg.hbSent + 1)) := if_neg (by simp [h])

theorem sendHeartbeat_alone (h : s.member = false) : s.sendHeartbeat = s := if_pos (by simp [h])

/-- A member whose partner is not heard any more: a standby's grace starts. -/
def State.heartbeatGone (s : State) : State := s.setLdg { s.ldg with hbLost := true, grace := s.ldg.pair.role == 2 }

theorem heartbeatLost_member (h : s.member = true) (hl : s.ldg.hbLost = false) : s.heartbeatLost =
    s.heartbeatGone.raiseF R.LDG_EVT_cause 3 (R.LDG_EVT_CNT_count 3) 25 s.ldg.pair.partner := by
  rw [State.heartbeatLost, if_neg (by simp [h, hl]), ldgRaise_partner _ (by simp)]
  rfl

theorem heartbeatLost_ignored (h : s.member = false ∨ s.ldg.hbLost = true) : s.heartbeatLost = s :=
  if_pos (by simpa using h)

/-- A heartbeat that the unit is to act on comes from the partner. -/
def State.fromPair (s : State) (f : FlitIn) : Bool := s.member && f.src.toNat == s.ldg.pair.partner

theorem fromPair_partner {f : FlitIn} (h : s.member = true) (hp : f.src.toNat = s.ldg.pair.partner) :
    s.fromPair f = true := by
  simp [State.fromPair, h, hp]

theorem fromPair_stranger {f : FlitIn} (h : s.member = false ∨ f.src.toNat ≠ s.ldg.pair.partner) :
    s.fromPair f = false := by
  simpa [State.fromPair, imp_iff_not_or] using h

theorem exec_heartbeat_partner {p : Fin 2} {f : FlitIn} (ha : s.arrives p f = true) {t : State}
    (ht : t = s.accept p .lc f) (hp : t.fromPair f = true) : exec (.heartbeat p f) s = .next (settle t.heartbeat) := by
  subst ht
  exact next_settle_congr ((prgFlit_arrives ha _ _).trans (if_pos hp))

theorem exec_heartbeat_stranger {p : Fin 2} {f : FlitIn} (ha : s.arrives p f = true) {t : State}
    (ht : t = s.accept p .lc f) (hp : t.fromPair f = false) : exec (.heartbeat p f) s = .next (settle t.mismatch) := by
  subst ht
  exact next_settle_congr ((prgFlit_arrives ha _ _).trans (if_neg (show ¬ State.fromPair _ f = true by simp [hp])))

theorem heartbeat_eq {u v : State} (hu : u = if s.ldg.hbLost then s.ldgRaise 4 else s)
    (hv : v = u.setLdg { u.ldg with hbSeen := true, hbLost := false, grace := false }) : s.heartbeat =
      if s.ldg.hbLost = true ∨ s.ldg.hbSeen = false then v.sendState false else v := by
  subst hu
  subst hv
  simp [State.heartbeat]

end Heartbeats

/-! Epochs sent (R555, R558) -/

section Sending

variable {s : State}

theorem closeEpoch_waits (h : s.ldg.feeding = false ∨ s.ldg.unsent = [] ∨ 2 ≤ s.ldg.epochs.length) :
    s.closeEpoch = s := if_pos (by simpa [or_assoc] using h)

theorem closeEpoch_closes (hf : s.ldg.feeding = true) (hu : s.ldg.unsent ≠ []) (hl : s.ldg.epochs.length < 2)
    {recs : List (List Byte)} (hr : recs = epochTake 256 65536 s.ldg.resync s.ldg.epochFrom) {e : Epoch}
    (he : e = { num := s.ldg.nextEpoch, term := s.ldg.epochTerm, recs := recs,
                chain := recs.foldl chainAfter s.ldg.sentChain }) :
    s.closeEpoch = ((s.setLdg { s.ldg with
      unsent := s.ldg.epochFrom.drop recs.length, epochs := s.ldg.epochs ++ [e], resync := false
      nextEpoch := (s.ldg.nextEpoch + 1) % 2 ^ 32, sentChain := e.chain }).put R.LDG_EPOCH_epoch e.num).sendEpoch e := by
  subst hr
  subst he
  exact if_neg (by simp [hf, hu, hl])

theorem exec_epochResendTimeout_some {newer : Bool} {e : Epoch} (h : s.ldg.epochs[b2n newer]? = some e) :
    exec (.epochResendTimeout newer) s = .next (settle ((s.sendEpoch e).ldgRaise 8)) :=
  next_settle_congr (by simp only [h])

theorem exec_epochResendTimeout_none {newer : Bool} (h : s.ldg.epochs[b2n newer]? = none) :
    exec (.epochResendTimeout newer) s = .next (settle s) :=
  next_settle_congr (by simp only [h])

theorem epochAcked_unknown {pl : List Byte} (h : s.ldg.epochs.find? (fun e => e.num == fieldAt pl 4 4) = none) :
    s.epochAcked pl = s := by
  simp only [State.epochAcked, h]

variable {pl : List Byte} {e : Epoch} (h : s.ldg.epochs.find? (fun e => e.num == fieldAt pl 4 4) = some e)
include h

theorem epochAcked_discarded (hd : fieldAt pl 8 1 ≠ 0) : s.epochAcked pl = (s.sendEpoch e).ldgRaise 8 := by
  simp only [State.epochAcked, h, if_neg hd]

theorem epochAcked_committed (hd : fieldAt pl 8 1 = 0) {rest : List Epoch}
    (hr : rest = (s.ldg.epochs.dropWhile fun x => x.num != e.num).drop 1) : s.epochAcked pl =
      (s.setLdg { s.ldg with
        epochs := rest, mirrorSeq := (e.recs.getLast?.map ldgSeq).getD s.ldg.mirrorSeq
        feeding := s.ldg.feeding &&
          !(s.ldg.pair.role == 2 && rest.isEmpty && s.ldg.unsent.isEmpty) }).handAnswered := by
  subst hr
  simp only [State.epochAcked, h, if_pos hd]

end Sending

/-! Epochs received (R556, R557) -/

section Receiving

variable {s : State} {f : FlitIn}

/-- The epoch that an EPOCH_BEGIN opens. -/
def begunStage (f : FlitIn) : Stage :=
  { num := fieldAt f.payload 4 4, first := fieldAt f.payload 8 8, count := fieldAt f.payload 16 2,
    term := fieldAt f.payload 18 2, size := fieldAt f.payload 20 4,
    ok := fieldAt f.payload 24 4 == crc32c ((f.payload.drop 4).take 20), poisoned := f.poisoned }

theorem epochBegin_fresh (h : s.ldg.stage = none) :
    s.epochBegin f = s.setLdg { s.ldg with stage := some (begunStage f) } := by
  have hdrop : s.dropStage = s := if_neg (by simp [h])
  rw [State.epochBegin, hdrop]
  rfl

/-- A partial epoch is dropped, with epoch_discard. -/
theorem epochBegin_drops (h : s.ldg.stage ≠ none) {d : State}
    (hd : d = (s.setLdg { s.ldg with stage := none }).ldgRaise 7) :
    s.epochBegin f = d.setLdg { d.ldg with stage := some (begunStage f) } := by
  have hdrop : s.dropStage = d := hd ▸ if_pos (Option.isSome_iff_ne_none.2 h)
  rw [State.epochBegin, hdrop]
  rfl

theorem epochData_unstaged (h : s.ldg.stage = none) : s.epochData f = s := by
  simp only [State.epochData, h]

theorem epochData_staged {g : Stage} (h : s.ldg.stage = some g) : s.epochData f =
    s.setLdg { s.ldg with stage := some { g with
      data := g.data ++ f.payload.drop 8, ok := g.ok && fieldAt f.payload 4 4 == g.data.length
      poisoned := g.poisoned || f.poisoned } } := by
  simp only [State.epochData, h]
  rfl

variable {num : Nat} (hn : num = fieldAt f.payload 4 4)
include hn

theorem epochEnd_again_durable (hh : s.ldg.hasEpoch num = true) (hc : num ∉ s.ldg.commits) :
    s.epochEnd f = (s.setLdg { s.ldg with stage := none }).sendAck num 0 := by
  subst hn
  exact (if_pos hh).trans (if_neg (by simpa using hc))

theorem epochEnd_again_waiting (hh : s.ldg.hasEpoch num = true) (hc : num ∈ s.ldg.commits) :
    s.epochEnd f = s.setLdg { s.ldg with stage := none } := by
  subst hn
  exact (if_pos hh).trans (if_pos (by simpa using hc))

theorem epochEnd_unstaged (hh : s.ldg.hasEpoch num = false) (h : s.ldg.stage = none) : s.epochEnd f = s := by
  subst hn
  simp only [State.epochEnd, hh, h, Bool.false_eq_true, if_false]

variable {g : Stage} (hh : s.ldg.hasEpoch num = false) (h : s.ldg.stage = some g) {u : State}
  (hu : u = s.setLdg { s.ldg with stage := none })
include hh h hu

theorem epochEnd_discards {reason : Nat} (hj : u.judgeEpoch g f = .inl reason) :
    s.epochEnd f = (u.ldgRaise 7).sendAck num reason := by
  subst hn
  subst hu
  simp only [State.epochEnd, hh, h, hj, Bool.false_eq_true, if_false]

theorem epochEnd_commits {m : Ledger} (hj : u.judgeEpoch g f = .inr m) :
    s.epochEnd f = (u.setLdg { m with
      commits := m.commits ++ [num], lastEpoch := num, anchored := true
      handTo := (handTerm ((splitRecs 257 g.data).getD [])).or m.handTo }).put R.LDG_EPOCH_epoch num := by
  subst hn
  subst hu
  simp only [State.epochEnd, hh, h, hj, Bool.false_eq_true, if_false]

end Receiving

/-- Epochs that become durable are answered, and a committed HANDOVER takes effect (R557, R560). -/
theorem epochCommit_commits {s : State} (h : s.ldg.commits ≠ []) {l : Ledger} (hl : l = s.ldgFlush.ldg) :
    s.epochCommit = (s.ldg.commits.foldl (fun t n => t.sendAck n 0)
      (s.ldgFlush.setLdg { l with commits := [], mirrorSeq := l.newestSeq })).handedOver := by
  subst hl
  exact if_neg (by simpa using h)

theorem epochCommit_none {s : State} (h : s.ldg.commits = []) : s.epochCommit = s := if_pos (by simp [h])

/-! Flits of the mirror protocol (R554) -/

section Flits

variable {s : State} {p : Fin 2} {f : FlitIn} {t : State}

theorem mirrorFlit_unheard (h : s.arrives p f = false) (rsp : Bool) (g : State → State) :
    s.mirrorFlit p rsp f g = s := by
  rw [State.mirrorFlit, State.ldgFlit, prgFlit_not_arrives h]

/-- The partner's message is acted on, any other sender's is a mismatch (R554). -/
def State.ifPartner (t : State) (f : FlitIn) (g : State → State) : State :=
  if t.fromPair f then g t else t.mismatch

theorem ifPartner_partner (h : t.fromPair f = true) (g : State → State) : t.ifPartner f g = g t := if_pos h

theorem ifPartner_stranger (h : t.fromPair f = false) (g : State → State) : t.ifPartner f g = t.mismatch :=
  if_neg (by simp [h])

variable (ha : s.arrives p f = true)
include ha

theorem mirrorFlit_in_reset (ht : t = s.accept p .req f) (hr : t.inReset = true) (g : State → State) :
    s.mirrorFlit p false f g = t.noRoute f.src.toNat 0x30 1 f.payload := by
  subst ht
  rw [State.mirrorFlit, State.ldgFlit, prgFlit_arrives ha]
  exact if_pos (by simpa using hr)

theorem mirrorFlit_request (ht : t = s.accept p .req f) (hr : t.inReset = false) (g : State → State) :
    s.mirrorFlit p false f g = t.ifPartner f g := by
  subst ht
  rw [State.mirrorFlit, State.ldgFlit, prgFlit_arrives ha]
  exact if_neg (by simpa using hr)

theorem mirrorFlit_answer (ht : t = s.accept p .rsp f) (g : State → State) :
    s.mirrorFlit p true f g = t.ifPartner f g := by
  subst ht
  rw [State.mirrorFlit, State.ldgFlit, prgFlit_arrives ha]
  exact if_neg (by simp)

end Flits

theorem asStandby_standby {s : State} (h : s.ldg.pair.role = 2) (g : State → State) : s.asStandby g = g s := if_pos h

theorem asStandby_other {s : State} (h : s.ldg.pair.role ≠ 2) (g : State → State) : s.asStandby g = s := if_neg h

/-- The commands of the mirror protocol that only a standby acts on, with what it makes of each (R556, R557). -/
inductive Staging (p : Fin 2) (f : FlitIn) : Instr → (State → State) → Prop
  | begins : Staging p f (.epochBegin p f) fun u => u.epochBegin f
  | adds : Staging p f (.epochData p f) fun u => u.epochData f
  | ends : Staging p f (.epochEnd p f) fun u => u.epochEnd f

section Staged

variable {s b : State} {p : Fin 2} {f : FlitIn} {c : Instr} {g : State → State}

theorem staging_of_mem (h : c ∈ [Instr.epochBegin p f, .epochData p f, .epochEnd p f]) : ∃ g, Staging p f c g := by
  simp only [List.mem_cons, List.not_mem_nil, or_false] at h
  rcases h with rfl | rfl | rfl
  · exact ⟨_, .begins⟩
  · exact ⟨_, .adds⟩
  · exact ⟨_, .ends⟩

theorem exec_staging (hc : Staging p f c g) :
    exec c s = .next (settle (s.mirrorFlit p false f fun t => t.asStandby g)) := by
  cases hc <;> rfl

theorem exec_staging_unheard (hc : Staging p f c g) (h : s.arrives p f = false) : exec c s = .next (settle s) :=
  (exec_staging hc).trans (next_settle_congr (mirrorFlit_unheard h _ _))

variable (ha : s.arrives p f = true) (hb : b = s.accept p .req f)
include ha hb

theorem exec_staging_in_reset (hc : Staging p f c g) (hr : b.inReset = true) :
    exec c s = .next (settle (b.noRoute f.src.toNat 0x30 1 f.payload)) :=
  (exec_staging hc).trans (next_settle_congr (mirrorFlit_in_reset ha hb hr _))

theorem exec_staging_stranger (hc : Staging p f c g) (hr : b.inReset = false) (hp : b.fromPair f = false) :
    exec c s = .next (settle b.mismatch) :=
  (exec_staging hc).trans (next_settle_congr ((mirrorFlit_request ha hb hr _).trans (ifPartner_stranger hp _)))

theorem exec_staging_partner (hc : Staging p f c g) (hr : b.inReset = false) (hp : b.fromPair f = true) :
    exec c s = .next (settle (b.asStandby g)) :=
  (exec_staging hc).trans (next_settle_congr ((mirrorFlit_request ha hb hr _).trans (ifPartner_partner hp _)))

theorem exec_staging_other (hc : Staging p f c g) (hr : b.inReset = false) (hp : b.fromPair f = true)
    (h2 : b.ldg.pair.role ≠ 2) : exec c s = .next (settle b) :=
  (exec_staging_partner ha hb hc hr hp).trans (next_settle_congr (asStandby_other h2 _))

theorem exec_staging_standby (hc : Staging p f c g) (hr : b.inReset = false) (hp : b.fromPair f = true)
    (h2 : b.ldg.pair.role = 2) {t : State} (ht : g b = t) : exec c s = .next (settle t) :=
  (exec_staging_partner ha hb hc hr hp).trans (next_settle_congr ((asStandby_standby h2 _).trans ht))

end Staged

section Acks

variable {s a t : State} {p : Fin 2} {f : FlitIn} (hf : s.arrives p f = true) (ha : a = s.accept p .rsp f)
include hf ha

theorem exec_epochAck_partner (hp : a.fromPair f = true) (ht : a.epochAcked f.payload = t) :
    exec (.epochAck p f) s = .next (settle t) :=
  next_settle_congr ((mirrorFlit_answer hf ha _).trans ((ifPartner_partner hp _).trans ht))

theorem exec_epochAck_stranger (hp : a.fromPair f = false) : exec (.epochAck p f) s = .next (settle a.mismatch) :=
  next_settle_congr ((mirrorFlit_answer hf ha _).trans (ifPartner_stranger hp _))

end Acks

/-- Settles O45: heartbeats by the pair's state, epochs sent by the room for them, epochs received by the sender, the
role and what is staged. -/
theorem pairsMirrorInEpochs : Obligations.PairsMirrorInEpochs := by
  intro s
  refine ⟨fun h => next_congr (sendHeartbeat_member h), fun h => next_congr (sendHeartbeat_alone h),
    fun h hl => ?_, fun h => next_settle_congr (heartbeatLost_ignored h),
    fun h => next_congr (closeEpoch_waits h), fun recs hf hu hl hr => next_congr (closeEpoch_closes hf hu hl hr rfl),
    fun newer e h => exec_epochResendTimeout_some h, fun newer h => exec_epochResendTimeout_none h,
    fun p f h => ⟨next_settle_congr (prgFlit_not_arrives h _ _), exec_staging_unheard .begins h,
      exec_staging_unheard .adds h, exec_staging_unheard .ends h, next_settle_congr (mirrorFlit_unheard h _ _)⟩,
    fun p f ha => ⟨fun hm hp => ?_, fun hp => ?_, fun hm hp => ?_⟩,
    fun p f ha => ⟨fun c hc => ?_, fun hp => exec_epochAck_stranger ha rfl (fromPair_stranger hp)⟩,
    fun p f b ha hb hr hm hp => ?_, fun h => next_settle_congr (epochCommit_none h),
    fun h l hl => next_settle_congr (epochCommit_commits h hl), fun p f a hf ha hm hp => ?_⟩
  · obtain ⟨honly, hraised⟩ := raiseF_shown s.heartbeatGone (evt := R.LDG_EVT_cause) (cnt := R.LDG_EVT_CNT_count 3) 3 25
      s.ldg.pair.partner (ldgCause_keys 3)
    exact ⟨_, next_settle_congr (heartbeatLost_member h hl), honly, List.length_append (as := s.dueFaults), hraised⟩
  · have hstranger := fromPair_stranger (f := f) (s := s.accept p .lc f) (.inr hp)
    rw [exec_heartbeat_stranger ha rfl hstranger, mismatch_member hm, ldgRaise_partner _ (by simp)]
    exact ⟨_, rfl, (raiseF_shown _ 12 25 _ (ldgCause_keys 12)).2⟩
  · exact exec_heartbeat_stranger ha rfl (fromPair_stranger hp)
  · exact (exec_heartbeat_partner ha rfl (fromPair_partner hm hp)).trans (next_settle_congr (heartbeat_eq rfl rfl))
  · obtain ⟨g, hg⟩ := staging_of_mem hc
    exact ⟨fun hr => exec_staging_in_reset ha rfl hg hr,
      fun hr hp => exec_staging_stranger ha rfl hg hr (fromPair_stranger hp)⟩
  · have hpair := fromPair_partner hm hp
    refine ⟨fun h2 => ⟨exec_staging_other ha hb .begins hr hpair h2, exec_staging_other ha hb .adds hr hpair h2,
      exec_staging_other ha hb .ends hr hpair h2⟩, fun h2 => ?_⟩
    have hstands {c : Instr} {g : State → State} (hc : Staging p f c g) {t : State} (ht : g b = t) :
        exec c s = .next (settle t) := exec_staging_standby ha hb hc hr hpair h2 ht
    exact ⟨⟨fun h => hstands .begins (epochBegin_fresh h), fun h => hstands .begins (epochBegin_drops h rfl)⟩,
      fun g h => hstands .adds (epochData_staged h), fun h => hstands .adds (epochData_unstaged h),
      fun hh => ⟨fun hc => hstands .ends (epochEnd_again_waiting rfl hh hc),
        fun hc => hstands .ends (epochEnd_again_durable rfl hh hc)⟩,
      fun hh => ⟨fun h => hstands .ends (epochEnd_unstaged rfl hh h), fun g h =>
        ⟨fun reason hj => hstands .ends (epochEnd_discards rfl hh h rfl hj),
          fun m hj => hstands .ends (epochEnd_commits rfl hh h rfl hj)⟩⟩⟩
  · have hack {t : State} (ht : a.epochAcked f.payload = t) : exec (.epochAck p f) s = .next (settle t) :=
      exec_epochAck_partner hf ha (fromPair_partner hm hp) ht
    exact ⟨fun h => hack (epochAcked_unknown h), fun e h => ⟨fun hd => hack (epochAcked_discarded h hd),
      fun hd => hack (epochAcked_committed h hd rfl)⟩⟩

end Sys2Proof.Machine

end

section

namespace Sys2Proof.Machine

/-! ### The trace, the test instructions and lifecycle requests (O56) -/

/-! The writer (R660, R667–R669) -/

section Writer

variable {s : State}

/-- The unit once the writer has taken the first item. -/
def State.itemTaken (s : State) : State :=
  { s with chain2 := { s.chain2 with
    items := (firstItem s.chain2.items).2
    lastWord := (firstItem s.chain2.items).1.getLastD s.chain2.lastWord } }

/-- The entry that the first item is written as. -/
def State.nextEntry (s : State) : List Nat := trcEntry (firstItem s.chain2.items).1 (firstItem s.chain2.items).2

theorem traceWrite_idle (h : s.chain2.items = [] ∨ s.on R.TRC_CTL_en = false ∨ 5 ≤ s.sup.pf) : s.traceWrite = s :=
  if_pos (by simp; tauto)

section Recording

variable (hen : s.on R.TRC_CTL_en = true) (hpf : s.sup.pf < 5) (hi : s.chain2.items ≠ [])
include hen hpf hi

theorem traceWrite_takes : s.traceWrite = (if s.itemTaken.on R.TRC_STATUS_stopped then
    s.itemTaken.count R.TRC_STOP_DROP_CNT_count else s.itemTaken.trcStore s.nextEntry).markDone s.nextEntry :=
  if_neg (by simp [hen, hi]; omega)

theorem traceWrite_stopped (hs : s.on R.TRC_STATUS_stopped = true) :
    s.traceWrite = (s.itemTaken.count R.TRC_STOP_DROP_CNT_count).markDone s.nextEntry :=
  (traceWrite_takes hen hpf hi).trans (by rw [if_pos (show s.itemTaken.on R.TRC_STATUS_stopped = true from hs)])

theorem traceWrite_stores (hs : s.on R.TRC_STATUS_stopped = false) :
    s.traceWrite = (s.itemTaken.trcStore s.nextEntry).markDone s.nextEntry :=
  (traceWrite_takes hen hpf hi).trans
    (by rw [if_neg (show ¬ s.itemTaken.on R.TRC_STATUS_stopped = true from by rw [Bool.not_eq_true]; exact hs)])

end Recording

/-- An entry at the write pointer, which has moved on, before the sink has been looked after. -/
def State.entryStored (s : State) (e : List Nat) : State :=
  (State.put { s with trcBuf := tset s.trcBuf (s.get R.TRC_STATUS_wr_ptr) e } R.TRC_STATUS_wr_ptr
    ((s.get R.TRC_STATUS_wr_ptr + 1) % 8192)).count R.TRC_ENTRIES_count

theorem trcStore_before_end (h : s.get R.TRC_STATUS_wr_ptr + 1 < 8192) (e : List Nat) :
    s.trcStore e = (s.entryStored e).sinkLost := if_pos h

section Wraps

variable (h : 8192 ≤ s.get R.TRC_STATUS_wr_ptr + 1) (e : List Nat) {x : State}
  (hx : x = (s.entryStored e).sinkLost.put R.TRC_STATUS_wrapped 1)
include h hx

theorem trcStore_wraps (hm : x.on R.TRC_CTL_mode = false) : s.trcStore e = x := by
  rw [hx] at hm ⊢
  exact (if_neg (Nat.not_lt.2 h)).trans (if_neg (by rw [Bool.not_eq_true]; exact hm))

theorem trcStore_stops (hm : x.on R.TRC_CTL_mode = true) :
    s.trcStore e = (x.put R.TRC_STATUS_stopped 1).trcRaise 0 := by
  rw [hx] at hm ⊢
  exact (if_neg (Nat.not_lt.2 h)).trans (if_pos hm)

end Wraps

theorem sinkLost_lags {v : State} (h : v.sinkLag < 8192) : v.sinkLost = { v with sinkLag := v.sinkLag + 1 } := if_pos h

theorem entryStored_only (s : State) (e : List Nat) :
    Only { s with trcBuf := tset s.trcBuf (s.get R.TRC_STATUS_wr_ptr) e } (s.entryStored e)
      [R.TRC_STATUS_wr_ptr, R.TRC_ENTRIES_count] :=
  ((Only.refl _ _).put (by simp) _).put (by simp) _

theorem entryStored_pointer (h : s.get R.TRC_STATUS_wr_ptr + 1 < 8192) (e : List Nat) :
    (s.entryStored e).get R.TRC_STATUS_wr_ptr = s.get R.TRC_STATUS_wr_ptr + 1 := by
  rw [State.entryStored, State.get_count_other _ _ (by decide), State.get_put_same, Nat.mod_eq_of_lt h]
  exact Nat.mod_eq_of_lt h

theorem entryStored_counted (s : State) (e : List Nat) :
    (s.entryStored e).get R.TRC_ENTRIES_count = s.plus R.TRC_ENTRIES_count 1 := by
  rw [State.entryStored, State.get_count_same, State.get_put_other _ _ (by decide)]
  rfl

/-- The sink falls behind by the entry written. -/
theorem Only.sinkLag {u t : State} {fs : List Fld} (h : Only u t fs) (n : Nat) :
    Only { u with sinkLag := n } { t with sinkLag := n } fs := by
  obtain ⟨hrec, hget⟩ := h
  refine ⟨?_, hget⟩
  rw [hrec]

end Writer

/-! Marks, TRC_CLEAR and the sink (R665–R670) -/

section Commands

variable {s : State}

theorem exec_hostMark_offered (ha : s.answers = true) {mid : BitVec 4} (hm : mid.toNat ≤ 1) (v : W32) :
    exec (.hostMark mid v) s = .next (settle (s.trace .mark { type := 0x31, mid := mid.toNat, arg0 := v.toNat })) :=
  next_settle_congr ((State.whenUp_of_answers ha _).trans (if_pos hm))

theorem exec_hostMark_ignored {mid : BitVec 4} (h : s.answers = false ∨ 1 < mid.toNat) (v : W32) :
    exec (.hostMark mid v) s = .next (settle s) := by
  refine next_settle_congr ?_
  rcases h with h | h
  · exact State.whenUp_of_not_answers h _
  · exact whenUp_self (if_neg (Nat.not_le.2 h))

/-- The MIDs that may write TRC_CLEAR (R669). -/
theorem trcClear_iff (mid v : Nat) : (v.testBit 0 && [0, 1, 2, 5].contains mid) = true ↔
    v % 2 = 1 ∧ mid ∈ [0, 1, 2, 5] := by
  simp only [Bool.and_eq_true, Nat.testBit_zero, decide_eq_true_eq, List.contains_iff_mem]

/-- The trace once it has been cleared: the sink goes on with the next entry. -/
def State.trcCleared (s : State) : State :=
  { ((s.put R.TRC_STATUS_wr_ptr 0).put R.TRC_STATUS_wrapped 0).put R.TRC_STATUS_stopped 0 with sinkLag := 0 }

theorem trcCleared_only (s : State) : Only { s with sinkLag := 0 } s.trcCleared
    [R.TRC_STATUS_wr_ptr, R.TRC_STATUS_wrapped, R.TRC_STATUS_stopped] :=
  Only.sinkLag ((((Only.refl s _).put (by simp) 0).put (by simp) 0).put (by simp) 0) 0

theorem trcCleared_get (s : State) : s.trcCleared.get R.TRC_STATUS_wr_ptr = 0 ∧
    s.trcCleared.get R.TRC_STATUS_wrapped = 0 ∧ s.trcCleared.get R.TRC_STATUS_stopped = 0 := by
  have hget (f : Fld) : s.trcCleared.get f =
      (((s.put R.TRC_STATUS_wr_ptr 0).put R.TRC_STATUS_wrapped 0).put R.TRC_STATUS_stopped 0).get f := rfl
  refine ⟨?_, ?_, ?_⟩
  · rw [hget, State.get_put_other _ _ (by decide), State.get_put_other _ _ (by decide), State.get_put_same]
    rfl
  · rw [hget, State.get_put_other _ _ (by decide), State.get_put_same]
    rfl
  · rw [hget, State.get_put_same]
    rfl

theorem exec_traceClear_clears (ha : s.answers = true) {mid : BitVec 4} {v : W32} (hv : v.toNat % 2 = 1)
    (hm : mid.toNat ∈ [0, 1, 2, 5]) : exec (.traceClear mid v) s = .next s.trcCleared :=
  next_congr ((State.whenUp_of_answers ha _).trans (if_pos ((trcClear_iff _ _).2 ⟨hv, hm⟩)))

theorem exec_traceClear_ignored {mid : BitVec 4} {v : W32}
    (h : s.answers = false ∨ v.toNat % 2 = 0 ∨ mid.toNat ∉ [0, 1, 2, 5]) : exec (.traceClear mid v) s = .next s := by
  refine next_congr ?_
  rcases h with h | h
  · exact State.whenUp_of_not_answers h _
  · refine whenUp_self (if_neg fun hc => ?_)
    obtain ⟨hv, hm⟩ := (trcClear_iff _ _).1 hc
    exact h.elim (by omega) (· hm)

theorem sinkCopy_waits (h : s.on R.TRC_CTL_sink_en = false ∨ s.sinkLag = 0 ∨ s.sinkRoom = false ∨
    s.sinkFree (s.get R.TRC_CTL_sink_pf) = false) (uncorr : Bool) : s.sinkCopy uncorr = s :=
  if_pos (by simp; tauto)

theorem sinkCopy_copies (hen : s.on R.TRC_CTL_sink_en = true) (hl : s.sinkLag ≠ 0) (hr : s.sinkRoom = true)
    (hf : s.sinkFree (s.get R.TRC_CTL_sink_pf) = true) {uncorr : Bool} {u : State}
    (hu : u = if uncorr then s.trcRaise 2 else s) : s.sinkCopy uncorr =
      (State.put { u with sinkLag := u.sinkLag - 1 } R.TRC_SINK_TAIL_tail
        ((s.get R.TRC_SINK_TAIL_tail + 1) % 2 ^ (s.get R.TRC_SINK_LOG2_k + 1))).dataWrite (s.get R.TRC_CTL_sink_pf)
        (u.get R.TRC_SINK_BASE_base + 32 * (s.get R.TRC_SINK_TAIL_tail % 2 ^ s.get R.TRC_SINK_LOG2_k))
        (fit 32 (bytesOf ((tget s.trcBuf ((s.get R.TRC_STATUS_wr_ptr + 8192 - s.sinkLag) % 8192)).getD []))) := by
  rw [hu]
  exact if_neg (by simp [hen, hl, hr, hf])

end Commands

/-! The test access port (R671, R672) -/

/-- The unit with a test instruction loaded, before any land is parked. -/
def State.tapTaken (s : State) (i : TapInstr) : State := { s with tap := if s.tapAllows i then i else .bypass }

/-- Loading a test instruction parks the lands that the boundary register lets go of. -/
theorem tapLoaded_of_tapLoad (s : State) (i : TapInstr) {done : State → Prop} (h : done (s.tapLoad i)) :
    TapLoaded s i done := by
  refine ⟨fun hk => ?_, fun hs ht => ?_⟩
  · have hkeeps : (!s.tapDrives || (s.tapTaken i).tapDrives) = true := by
      rcases hk with hk | hk
      · rw [hk]
        rfl
      · rw [show (s.tapTaken i).tapDrives = true from hk, Bool.or_true]
    rwa [show s.tapLoad i = s.tapTaken i from if_pos hkeeps] at h
  · have hlets : ¬ (!s.tapDrives || (s.tapTaken i).tapDrives) = true := by
      rw [hs, show (s.tapTaken i).tapDrives = false from ht]
      decide
    exact (show s.tapLoad i = _ from if_neg hlets) ▸ h

/-! Lifecycle requests (R677, R683) -/

section Lifecycle

variable {s : State} {w : Who} {v : Nat}

/-- The key of GLB_LC_REQ is the upper half of the word (R677). -/
theorem lcKey (hv : v < 2 ^ 32) : bits v 16 16 = v / 65536 := by
  rw [bits]
  omega

/-- The unit with a lifecycle request recorded. -/
def State.lcAsked (s : State) (v : Nat) : State :=
  { (s.put R.GLB_LC_STATUS_pending 1).put R.GLB_LC_STATUS_target (v % 4) with
    nv := { s.nv with lcReq := some (v % 4) } }

theorem lcReqWrite_keyed (hm : w.mid ≤ 1) (hv : v < 2 ^ 32) (hk : v / 65536 = 0x1C5A) :
    s.lcReqWrite w v = s.lcAsked v :=
  if_neg (by simp [lcKey hv, hk]; omega)

theorem lcReqWrite_refused (hv : v < 2 ^ 32) (h : 1 < w.mid ∨ v / 65536 ≠ 0x1C5A) :
    s.lcReqWrite w v = s.accessRefused R.GLB_LC_REQ_target.off w :=
  if_pos (by simpa [lcKey hv] using h)

theorem lcAsked_only (s : State) (v : Nat) : Only { s with nv := { s.nv with lcReq := some (v % 4) } } (s.lcAsked v)
    [R.GLB_LC_STATUS_pending, R.GLB_LC_STATUS_target] :=
  ((Only.refl { s with nv := { s.nv with lcReq := some (v % 4) } } _).put (by simp) 1).put (by simp) (v % 4)

theorem lcAsked_get (s : State) (v : Nat) :
    (s.lcAsked v).get R.GLB_LC_STATUS_pending = 1 ∧ (s.lcAsked v).get R.GLB_LC_STATUS_target = v % 4 := by
  have hget (f : Fld) : (s.lcAsked v).get f =
      ((s.put R.GLB_LC_STATUS_pending 1).put R.GLB_LC_STATUS_target (v % 4)).get f := rfl
  refine ⟨?_, ?_⟩
  · rw [hget, State.get_put_other _ _ (by decide), State.get_put_same]
    rfl
  · rw [hget, State.get_put_same]
    exact Nat.mod_mod _ 4

theorem exec_lifecycleRequest (ha : s.answers = true) (mid : BitVec 4) (origin : BitVec 10) (v : W32) :
    exec (.lifecycleRequest mid origin v) s =
      .next (settle (s.lcReqWrite { mid := mid.toNat, addr := origin.toNat } v.toNat)) :=
  next_settle_congr (State.whenUp_of_answers ha _)

end Lifecycle

/-- Settles O56: the writer by what waits and by the buffer's end, the sink by its room, marks, clears and lifecycle
requests by their writer, and the test instructions by what loading one leaves. -/
theorem traceAndDebugAct : Obligations.TraceAndDebugAct := by
  intro s
  refine ⟨fun h => next_congr (traceWrite_idle h), fun hen hpf hi =>
      ⟨fun hs => next_congr (traceWrite_stopped hen hpf hi hs), fun hs => next_congr (traceWrite_stores hen hpf hi hs)⟩,
    fun e => ⟨fun h => trcStore_before_end h e, fun h hm => trcStore_wraps h e rfl hm,
      fun h hm => trcStore_stops h e rfl hm⟩,
    fun e h hl => ⟨_, (trcStore_before_end h e).trans (sinkLost_lags hl), (entryStored_only s e).sinkLag _,
      entryStored_pointer h e, entryStored_counted s e⟩,
    fun mid v => ⟨fun ha hm => exec_hostMark_offered ha hm v, fun h => exec_hostMark_ignored h v,
      fun ha hv hm => ⟨_, exec_traceClear_clears ha hv hm, trcCleared_only s, trcCleared_get s⟩,
      fun h => exec_traceClear_ignored h⟩,
    fun uncorr h => next_congr (sinkCopy_waits h uncorr),
    fun uncorr hen hl hr hf => next_congr (sinkCopy_copies hen hl hr hf rfl),
    tapLoaded_of_tapLoad s _ rfl, tapLoaded_of_tapLoad s _ rfl, fun _ => tapLoaded_of_tapLoad s _ rfl,
    tapLoaded_of_tapLoad s _ rfl, tapLoaded_of_tapLoad s _ rfl, tapLoaded_of_tapLoad s _ rfl,
    fun mid origin v => ⟨fun ha hm hk => ⟨s.lcAsked v.toNat, ?_, lcAsked_only s _, lcAsked_get s _⟩, fun ha h => ?_,
      fun ha => next_settle_congr (State.whenUp_of_not_answers ha _)⟩⟩
  · rw [exec_lifecycleRequest ha, lcReqWrite_keyed hm v.isLt hk]
  · rw [exec_lifecycleRequest ha, lcReqWrite_refused v.isLt h]

end Sys2Proof.Machine

end

section

namespace Sys2Proof.Machine

/-! ### The gateway (O35) -/

theorem gwcCause_keys (bit : Nat) : R.GWC_EVT_cause.key ≠ (R.GWC_EVT_CNT_count bit).key := by
  simp only [Fld.key, R.GWC_EVT_cause, R.GWC_EVT_CNT_count]
  omega

/-! Lookup (R516, R518) -/

section Lookup

variable {s : State} {code : Nat} {rec : List Byte} {p : Bool} {rest : List (List Byte × Bool)} (u : Bool)

theorem gwLookup_idle (h : s.gwStaged code = [] ∨ s.safe = true ∨ s.failing = true) : s.gwLookup code u = s := by
  rw [State.gwLookup]
  cases hl : s.gwStaged code with
  | nil => rfl
  | cons x l => exact if_pos (by simpa [hl] using h)

/-- A record that no entry matches. -/
theorem gwLookup_unrouted (h : s.gwStaged code = (rec, p) :: rest) (hsafe : s.safe = false) (hfail : s.failing = false)
    (hr : State.routeFor { s with gwIn := tput s.gwIn code rest [] } code rec = none) :
    s.gwLookup code u = State.gwRaise { s with gwIn := tput s.gwIn code rest [] } 0 code := by
  simp only [State.gwLookup, h, hr]
  exact if_neg (by simp [hsafe, hfail])

/-- A record routed by its entry, as its ingress port says what it is. -/
theorem gwLookup_routed (h : s.gwStaged code = (rec, p) :: rest) (hsafe : s.safe = false) (hfail : s.failing = false)
    {r : Route} (hr : State.routeFor { s with gwIn := tput s.gwIn code rest [] } code rec = some r) :
    s.gwLookup code u =
      if code < 16 then State.routeRec { s with gwIn := tput s.gwIn code rest [] } r false rec (p || u)
      else if code < 24 then State.routeRec { s with gwIn := tput s.gwIn code rest [] } r true rec (p || u)
      else State.routeEth { s with gwIn := tput s.gwIn code rest [] } r (ethBytes rec) (p || u) := by
  simp only [State.gwLookup, h, hr]
  rw [if_neg (by simp [hsafe, hfail])]
  unfold offeredOf
  split_ifs <;> rfl

/-- no_route is a cause without an event for the fault collector (R528). -/
theorem gwRaise_noRoute (s : State) (port : Nat) : Only s (s.gwRaise 0 port) [R.GWC_EVT_cause, R.GWC_EVT_CNT_count 0] ∧
    Raised s (s.gwRaise 0 port) R.GWC_EVT_cause 0 (R.GWC_EVT_CNT_count 0) :=
  ⟨(Only.refl s _).raise List.mem_cons_self (List.mem_cons_of_mem _ List.mem_cons_self) 0,
    raised_raise s 0 (gwcCause_keys 0)⟩

end Lookup

/-! Commit (R517) -/

section Commit

variable (s : State) (e : Nat)

theorem grtCommit_only (w : Nat) : Only { s with grtShadow := (s.grtCommit e w).grtShadow } (s.grtCommit e w)
    [R.GRT_W_word e 0, R.GRT_W_word e 1, R.GRT_W_word e 2, R.GRT_W_word e 3] :=
  ((((Only.refl { s with grtShadow := (s.grtCommit e w).grtShadow } _).put (by simp) (s.grtHeld e 1)).put (by simp)
    (s.grtHeld e 2)).put (by simp) (s.grtHeld e 3)).put (by simp) w

/-- Nothing is held for an entry that has been committed. -/
theorem grtCommit_shadow (w : Nat) : ∀ i ∈ [1, 2, 3], tget (s.grtCommit e w).grtShadow (4 * e + i) = none := by
  have h (l : NMap Nat) : ∀ i ∈ [1, 2, 3],
      tget (tdel (tdel (tdel l (4 * e + 1)) (4 * e + 2)) (4 * e + 3)) (4 * e + i) = none := by
    simp only [List.forall_mem_cons, List.not_mem_nil, false_implies, implies_true, and_true]
    refine ⟨?_, ?_, tget_tdel_same ..⟩
    · rw [tget_tdel_other (by omega), tget_tdel_other (by omega), tget_tdel_same]
    · rw [tget_tdel_other (by omega), tget_tdel_same]
  exact h _

theorem grtWrite_own (origin : BitVec 10) (w : Nat) : s.grtWrite e 0 (who 2 origin) w = s.grtCommit e w := rfl

theorem grtWrite_foreign {mid : BitVec 4} (hm : mid ≠ 2) (origin : BitVec 10) (w : Nat) :
    s.grtWrite e 0 (who mid origin) w = s.accessRefused (0x60000 + 16 * e) (who mid origin) :=
  if_pos fun h => hm (BitVec.eq_of_toNat_eq h)

end Commit

/-! Egress (R518, R521, R523) -/

section Egress

variable {s : State} {p : Nat}

/-- A dropped frame is counted at its port and raises its cause. -/
theorem egressDrop_only (s : State) (p : Nat) {bit : Nat} (hbit : bit ≠ 0) :
    Only { s with dueFaults := s.dueFaults ++ [{ src := 23, detail := bit, res := p }] } (s.egressDrop p bit)
      [R.GWC_P_CNT_count p 1, R.GWC_EVT_cause, R.GWC_EVT_CNT_count bit] := by
  rw [State.egressDrop, State.gwRaise, if_neg hbit]
  exact ((Only.refl (s.fault { src := 23, detail := bit, res := p }) _).put (f := R.GWC_P_CNT_count p 1) (by simp)
    _).raise (by simp) (by simp) bit

theorem egress_down (h : s.egressUp p = false) (rec : Option (List Byte)) (x : Bool) :
    s.egress p rec x = s.egressDrop p 3 := if_pos (by simp [h])

theorem egress_capped (h : s.egressUp p = true) (ht : s.hasToken p = false) (rec : Option (List Byte)) (x : Bool) :
    s.egress p rec x = s.egressDrop p 2 := by
  rw [State.egress.eq_def, if_neg (by simp [h]), if_pos (by simp [ht])]

theorem egress_formless (h : s.egressUp p = true) (ht : s.hasToken p = true) (x : Bool) :
    s.egress p none x = s.egressDrop p 4 := by
  rw [State.egress, if_neg (by simp [h]), if_neg (by simp [ht])]

/-- A frame that a CAN port's egress queue has room for. -/
theorem egress_can (h : s.egressUp p = true) (ht : s.hasToken p = true) (hp : p < 16) {r : List Byte}
    (hroom : gwWords (s.gwQueued p) + (r.length + 7) / 8 ≤ 8192) (x : Bool) :
    s.egress p (some r) x = s.egressPut p r x := by
  have hwords : egressWords p = 8192 := if_pos hp
  rw [State.egress, if_neg (by simp [h]), if_neg (by simp [ht])]
  simp only [hp, decide_true, Bool.true_or, if_true, hwords, hroom]

theorem egressPut_can (s : State) {p : Nat} (hp : p < 16) (r : List Byte) (x : Bool) : s.egressPut p r x =
    State.portKick { (s.takeToken p).count (R.GWC_P_CNT_count p 0) with
      gwOut := tset ((s.takeToken p).count (R.GWC_P_CNT_count p 0)).gwOut p
        (((s.takeToken p).count (R.GWC_P_CNT_count p 0)).gwQueued p ++ [(r, x)]) } clsCan p := by
  have hport : gwPort p = (clsCan, p) := if_pos hp
  simp only [State.egressPut, hport]
  exact if_neg (by decide)

end Egress

/-- Settles O35: a lookup by the head of staging and its route, a commit by its writer, egress by what the port
lacks. -/
theorem gatewayRoutes : Obligations.GatewayRoutes := by
  intro s
  refine ⟨fun code u rec p rest hst hsafe hfail => ⟨fun hr => ?_, fun r hr => ?_⟩,
    fun code u h => next_settle_congr (gwLookup_idle u h), fun ha e origin w => ?_, fun ha e mid origin w hm => ?_,
    fun p rec x h => ⟨_, rfl, ?_⟩, fun p rec x h ht => egress_capped h ht rec x, fun p x h ht => egress_formless h ht x,
    fun p r x h ht hp hroom => (egress_can h ht hp hroom x).trans (egressPut_can s hp r x)⟩
  · exact ⟨_, next_settle_congr (gwLookup_unrouted u hst hsafe hfail hr), gwRaise_noRoute _ _⟩
  · exact next_settle_congr (gwLookup_routed u hst hsafe hfail hr)
  · refine ⟨s.grtCommit e w.toNat, next_settle_congr ((State.whenUp_of_answers ha _).trans (grtWrite_own ..)),
      grtCommit_only s e _, (grtCommit_word_zero s e _).trans (Nat.mod_eq_of_lt w.isLt),
      grtCommit_word_held s e _, grtCommit_shadow s e _⟩
  · exact next_settle_congr ((State.whenUp_of_answers ha _).trans (grtWrite_foreign s e hm origin _))
  · rw [egress_down h]
    exact egressDrop_only s p (by decide)

end Sys2Proof.Machine

end

section

namespace Sys2Proof.Machine

/-! ### The start of far accesses (O13) -/

/-! Slot commands (R497, R498) -/

section SlotCommand

variable (s : State) (f : Fin 2) (k : Fin 8)

theorem fasAt_slotCmd : fasAt (R.HNG_FAS_CMD_unit f k).off = some (f.val, k.val) := by
  revert f k
  decide

theorem slotCmd_off_lt : (R.HNG_FAS_CMD_unit f k).off < 0x80200 := by
  show 0x80000 + 0x100 * f.val + 0x20 * k.val < 0x80200
  omega

theorem slotCmd_off_ge : 0x80000 ≤ (R.HNG_FAS_CMD_unit f k).off := by
  show 0x80000 ≤ 0x80000 + 0x100 * f.val + 0x20 * k.val
  omega

/-- A write of HNG_FASf_s_CMD starts the slot's access or is ignored with a cause (R497). -/
theorem storeWord_slotCmd (w : Who) (v : Nat) : State.storeWord nesting s w (R.HNG_FAS_CMD_unit f k).off v =
    if w.mid = f && s.get (R.HNG_FAS_DATA_state f k) ≠ foPending && fasOk v then
      s.fasStart f k v fun t o =>
        if v.testBit 14 then (State.storeWord 16 t { mid := f } o (s.get (R.HNG_FAS_WDATA_data f k)), 0)
        else t.loadWord { mid := f } o
    else s.hngRaise 12 0 := by
  have hlt := slotCmd_off_lt f k
  have hge := slotCmd_off_ge f k
  rw [nesting, State.storeWord, if_neg (by simp only [msixRange, Bool.and_eq_true, decide_eq_true_eq]; omega),
    if_neg (by simp only [State.ftmClosed, Bool.and_eq_true, decide_eq_true_eq]; omega), if_neg (by omega),
    fasAt_slotCmd]

end SlotCommand

/-! Fabric accesses (R495, R496, R500) -/

section Fabric

variable {s : State} {mid unit off : Nat} {lxb write wide : Bool} {data : Nat}

theorem fabTry_found {n : Nat} {x : FabAcc} (h : s.fabFind mid lxb unit off = some (n, x)) :
    s.fabTry mid lxb unit off write data wide = ({ s with fabric := if x.ended then tdel s.fabric n else s.fabric },
      if x.ended then some x.result else none) := by
  simp only [State.fabTry, h]
  split_ifs <;> rfl

section New

variable (h : s.fabFind mid lxb unit off = none)
include h

theorem fabTry_misaligned (hl : lxb = false) (ha : fabAligned mid off wide = false) :
    s.fabTry mid lxb unit off write data wide = (s.accessRefused off { mid := mid }, some (foDone, 0)) := by
  simp only [State.fabTry, h]
  exact if_pos (by simp [hl, ha])

theorem fabTry_own (hl : lxb = false) (ha : fabAligned mid off wide = true) (hs : s.assigned = true)
    (hu : unit = s.addr) : s.fabTry mid lxb unit off write data wide =
      let width := if wide then Width.long else Width.word
      let x := if write then (s.save { mid := mid } off width data, 0) else s.load { mid := mid } off width false
      (x.1, some (foDone, x.2)) := by
  simp only [State.fabTry, h]
  rw [if_neg (by simp [ha]), if_pos (by simp [hl, hs, hu])]

/-- An access that is neither misaligned nor the unit's own starts, or is to be tried again at four accesses. -/
theorem fabTry_far (hf : lxb = true ∨ fabAligned mid off wide = true ∧ (s.assigned = true → unit ≠ s.addr)) :
    s.fabTry mid lxb unit off write data wide =
      if 4 ≤ s.fabCount mid then (s, none) else (s.fabStart mid lxb unit off write data wide, none) := by
  simp only [State.fabTry, h]
  rcases hf with hl | ⟨ha, hu⟩
  · rw [if_neg (by simp [hl]), if_neg (by simp [hl])]
  · rw [if_neg (by simp [ha]), if_neg (by simpa using fun _ => hu)]

end New

/-- An attempt hands out the state and result that it ends with. -/
theorem exec_fabricFarAccess (ha : s.answers = true) {m : BitVec 4} (hm : m = 2 ∨ m = 5) (lxb : Bool) (u : BitVec 10)
    (o : BitVec 24) (write : Bool) (d : W64) (wide : Bool) {t : State} {r : Option (Nat × Nat)}
    (h : s.fabTry m.toNat lxb u.toNat o.toNat write d.toNat wide = (t, r)) :
    exec (.fabricFarAccess m lxb u o write d wide) s = .next (settle (t.emit (.fabric m.toNat r))) := by
  refine next_settle_congr ((State.whenUp_of_answers ha _).trans ?_)
  rw [if_pos (by simpa using hm)]
  simp only [h]

theorem exec_fabricFarAccess_other {m : BitVec 4} (h2 : m ≠ 2) (h5 : m ≠ 5) (lxb : Bool) (u : BitVec 10)
    (o : BitVec 24) (write : Bool) (d : W64) (wide : Bool) :
    exec (.fabricFarAccess m lxb u o write d wide) s = .next (settle s) :=
  next_settle_congr (whenUp_self (if_neg (by simpa using ⟨h2, h5⟩)))

end Fabric

/-! Rounds of the poller (R508) -/

section Round

variable {s : State} {a : Nat}

theorem pollRound_idle (h : s.polled a = false ∨ s.running = false) : s.pollRound a = s :=
  if_pos (by simpa using h)

section Due

variable (hp : s.polled a = true) (hr : s.running = true)
include hp hr

theorem pollRound_late {r : PollRound} (h : tget s.rounds a = some r) : s.pollRound a = s.hngRaise 5 a := by
  rw [State.pollRound, if_neg (by simp [hp, hr]), h]

theorem pollRound_far (h : tget s.rounds a = none) (ho : s.assigned = true → a ≠ s.addr) : s.pollRound a =
    State.roundOn { s with rounds := tset s.rounds a { stamp := s.now, todo := s.mirrorWords } } a := by
  rw [State.pollRound, if_neg (by simp [hp, hr]), h]
  exact if_neg (by simpa using ho)

theorem pollRound_own (h : tget s.rounds a = none) (hs : s.assigned = true) (ho : a = s.addr) : s.pollRound a =
    (s.mirrorWords.foldl (fun (u : State) i => u.pollOwn a i)
      { s with rounds := tset s.rounds a { stamp := s.now, todo := [], out := s.mirrorWords } }).roundCheck a := by
  rw [State.pollRound, if_neg (by simp [hp, hr]), h]
  exact if_pos (by simp [hs, ho])

end Due

/-- poll_late is a cause without an event for the fault collector (R508, R593). -/
theorem hngRaise_pollLate (s : State) (addr : Nat) : HngCause s (s.hngRaise 5 addr) 5 :=
  ⟨(Only.refl s _).raise (by simp) (by simp) 5, raised_raise s 5 (hngCause_keys 5)⟩

end Round

/-! The debug access port (R673–R675, R681) -/

section Debug

variable {s : State}

theorem dapCapture_idle (h : s.dap.far = none) : s.dapCapture = s := by
  simp only [State.dapCapture, h]

section Far

variable {a : DapFar} (h : s.dap.far = some a)
include h

theorem dapCapture_pending (hx : (s.fabTry 5 false a.unit a.off a.write a.data false).2 = none) :
    s.dapCapture = (s.fabTry 5 false a.unit a.off a.write a.data false).1 := by
  simp only [State.dapCapture, h, hx]

theorem dapCapture_ended {r : Nat × Nat} (hx : (s.fabTry 5 false a.unit a.off a.write a.data false).2 = some r) :
    s.dapCapture = { (s.fabTry 5 false a.unit a.off a.write a.data false).1 with dap := dapEnd a.write r } := by
  simp only [State.dapCapture, h, hx]

end Far

/-- The unit once Capture-DR has shifted out. -/
def State.dapShifted (s : State) : State := s.dapCapture.emit (.tdo 64 s.dapCapture.dap.captured)

/-- The value of a scan asks for a read or a write. -/
def dapAsked (v : Nat) : Prop := bits v 0 2 = 1 ∨ bits v 0 2 = 2

theorem dapScan_other (h : s.tap ≠ .dapAccess) (v : Nat) : s.dapScan v = s := if_pos h

theorem dapScan_shift (h : s.tap = .dapAccess) {v : Nat} (hv : ¬ dapAsked v) : s.dapScan v = s.dapShifted := by
  rw [State.dapScan, if_neg (not_not.2 h)]
  exact if_neg (by simpa [dapAsked] using hv)

theorem dapScan_update (h : s.tap = .dapAccess) {v : Nat} (hv : dapAsked v) :
    s.dapScan v = s.dapShifted.dapUpdate v := by
  rw [State.dapScan, if_neg (not_not.2 h)]
  exact if_pos (by simpa [dapAsked] using hv)

theorem dapUpdate_busy (h : s.dap.status = 1) (v : Nat) : s.dapUpdate v = s := if_pos h

section Update

variable {v : Nat} (hs : s.dap.status ≠ 1)
include hs

theorem dapUpdate_denied (ho : s.dapOpen (bits v 0 2 == 2) = false) : s.dapUpdate v =
    { s.accessRefused (bits v 2 18 * 4) { mid := 5 } with dap := { status := 2 } } :=
  (if_neg hs).trans (if_pos (by simp [ho]))

variable (ho : s.dapOpen (bits v 0 2 == 2) = true)
include ho

theorem dapUpdate_unanswered (ha : s.answers = false) : s.dapUpdate v = { s with dap := { status := 3 } } :=
  (if_neg hs).trans ((if_neg (by simp [ho])).trans (if_pos (by simp [ha])))

variable (ha : s.answers = true)
include ha

/-- An access on this unit ends at once. -/
theorem dapUpdate_own (hf : v.testBit 20 = false) : s.dapUpdate v =
    let r := if bits v 0 2 == 2 then (s.save { mid := 5 } (bits v 2 18 * 4) .word (bits v 32 32), 0)
      else s.load { mid := 5 } (bits v 2 18 * 4) .word false
    { r.1 with dap := dapEnd (bits v 0 2 == 2) (foDone, r.2) } :=
  (if_neg hs).trans ((if_neg (by simp [ho])).trans ((if_neg (by simp [ha])).trans (if_neg (by simp [hf]))))

theorem dapUpdate_write (hf : v.testBit 20 = false) (hw : (bits v 0 2 == 2) = true) : s.dapUpdate v =
    { s.save { mid := 5 } (bits v 2 18 * 4) .word (bits v 32 32) with dap := { status := 0 } } := by
  simp only [dapUpdate_own hs ho ha hf, hw, if_true, dapEnd]

theorem dapUpdate_read (hf : v.testBit 20 = false) (hw : (bits v 0 2 == 2) = false) : s.dapUpdate v =
    { (s.load { mid := 5 } (bits v 2 18 * 4) .word false).1 with
      dap := { status := 0, data := (s.load { mid := 5 } (bits v 2 18 * 4) .word false).2 } } := by
  simp only [dapUpdate_own hs ho ha hf, hw, Bool.false_eq_true, if_false, dapEnd, if_true]

variable (hf : v.testBit 20 = true)
include hf

theorem dapUpdate_far {t : State}
    (hx : s.fabTry 5 false (bits v 21 10) (bits v 2 18 * 4) (bits v 0 2 == 2) (bits v 32 32) false = (t, none)) :
    s.dapUpdate v = { t with
      dap := { status := 1, far := some { unit := bits v 21 10, off := bits v 2 18 * 4, write := bits v 0 2 == 2,
                                          data := bits v 32 32 } } } := by
  rw [State.dapUpdate, if_neg hs, if_neg (by simp [ho]), if_neg (by simp [ha]), if_pos hf, hx]

theorem dapUpdate_farEnded {t : State} {r : Nat × Nat}
    (hx : s.fabTry 5 false (bits v 21 10) (bits v 2 18 * 4) (bits v 0 2 == 2) (bits v 32 32) false = (t, some r)) :
    s.dapUpdate v = { t with dap := dapEnd (bits v 0 2 == 2) r } := by
  rw [State.dapUpdate, if_neg hs, if_neg (by simp [ho]), if_neg (by simp [ha]), if_pos hf, hx]

end Update

end Debug

/-- Settles O13: a slot command by what it asks, a fabric access by what is found and where it goes, a round by what is
due, a scan by its instruction, its value and where the access goes. -/
theorem farAccessesStart : Obligations.FarAccessesStart := by
  intro s
  refine ⟨fun ha f k mid v hm hs hv => ?_, fun ha f k mid v h => ?_, fun mid lxb unit off write data wide => ?_,
    fun a h => next_settle_congr (pollRound_idle h), fun a hp hr h ho => next_settle_congr (pollRound_far hp hr h ho),
    fun a hp hr h hs ho => next_settle_congr (pollRound_own hp hr h hs ho),
    fun a r hp hr h => ⟨_, next_settle_congr (pollRound_late hp hr h), hngRaise_pollLate s _⟩,
    fun v h => next_settle_congr (dapScan_other h _), fun v h => ?_, dapCapture_idle,
    fun a h => ⟨dapCapture_pending h, fun r => dapCapture_ended h⟩⟩
  · exact next_settle_congr (((State.whenUp_of_answers ha _).trans (storeWord_slotCmd s f k _ _)).trans
      (if_pos (by simp [hm, hs, hv])))
  · refine ⟨s.hngRaise 12 0, next_settle_congr (((State.whenUp_of_answers ha _).trans
      (storeWord_slotCmd s f k _ _)).trans (if_neg (by simpa [and_assoc] using h))), hngRaise_cause s 0 (by decide)⟩
  · intro c o
    refine ⟨fun h2 h5 => exec_fabricFarAccess_other h2 h5 .., fun ha hm => ⟨fun n x h => ?_, fun h => ⟨fun hl hal => ?_,
      fun hl hal hs hu => ?_, fun hf => ⟨fun hn => ?_, fun hn => ?_⟩⟩⟩⟩
    · exact exec_fabricFarAccess ha hm _ _ _ _ _ _ (fabTry_found h)
    · exact exec_fabricFarAccess ha hm _ _ _ _ _ _ (fabTry_misaligned h hl hal)
    · exact exec_fabricFarAccess ha hm _ _ _ _ _ _ (fabTry_own h hl hal hs hu)
    · exact exec_fabricFarAccess ha hm _ _ _ _ _ _ ((fabTry_far h hf).trans (if_neg (Nat.not_le.2 hn)))
    · exact exec_fabricFarAccess ha hm _ _ _ _ _ _ ((fabTry_far h hf).trans (if_pos hn))
  · intro t asked
    refine ⟨fun hv => next_settle_congr ?_, fun hv hs => ⟨fun ho => ?_, fun ho ha => ?_, fun ho ha hf => ⟨fun hw => ?_,
      fun hw => ?_⟩, fun ho ha hf => ⟨fun hx => ?_, fun r hx => ?_⟩⟩⟩
    · by_cases hv' : asked
      · exact (dapScan_update h hv').trans (dapUpdate_busy (hv.resolve_left (not_not.2 hv')) _)
      · exact dapScan_shift h hv'
    · exact next_settle_congr ((dapScan_update h hv).trans (dapUpdate_denied hs ho))
    · exact next_settle_congr ((dapScan_update h hv).trans (dapUpdate_unanswered hs ho ha))
    · exact next_settle_congr ((dapScan_update h hv).trans (dapUpdate_write hs ho ha hf hw))
    · exact next_settle_congr ((dapScan_update h hv).trans (dapUpdate_read hs ho ha hf hw))
    · exact next_settle_congr ((dapScan_update h hv).trans (dapUpdate_far hs ho ha hf (Prod.ext rfl hx)))
    · exact next_settle_congr ((dapScan_update h hv).trans (dapUpdate_farEnded hs ho ha hf (Prod.ext rfl hx)))

end Sys2Proof.Machine

end

section

namespace Sys2Proof.Machine

/-! ### The ledger, pair and repair commands of firmware (O39) -/

/-! Writes to host memory leave the ledger as it is -/

section HostWrites

theorem setFn_ldg (s : State) (f : Nat) (x : Upstream) : (s.setFn f x).ldg = s.ldg := by
  unfold State.setFn
  split_ifs <;> rfl

theorem ringCount_ldg (s : State) (m : Nat) : (s.ringCount m).ldg = s.ldg := by
  unfold State.ringCount
  dsimp only
  split_ifs <;> rfl

theorem issued_ldg (s : State) (f : Nat) (k : PostKind) : (s.issued f k).ldg = s.ldg := by
  cases k with
  | final tag m => exact ringCount_ldg (s.freeTag tag) m
  | record m => exact ringCount_ldg s m
  | _ => rfl

theorem cplRelease_ldg (n : Nat) (s : State) : (State.cplRelease n s).ldg = s.ldg := by
  induction n generalizing s with
  | zero => rfl
  | succ n ih =>
    unfold State.cplRelease
    split
    · rfl
    · split_ifs
      · exact ih _
      · rfl

theorem drainPosts_ldg (f n : Nat) (s : State) : (State.drainPosts f n s).ldg = s.ldg := by
  induction n generalizing s with
  | zero => rfl
  | succ n ih =>
    unfold State.drainPosts
    split
    · rfl
    · split_ifs
      · rfl
      · exact (ih _).trans ((issued_ldg ..).trans (setFn_ldg ..))

theorem dataWrite_ldg (s : State) (f addr : Nat) (data : List Byte) : (s.dataWrite f addr data).ldg = s.ldg :=
  (cplRelease_ldg _ _).trans ((drainPosts_ldg _ _ _).trans (setFn_ldg ..))

/-- Bytes written to the ranges of a host buffer. -/
def State.writeAll (s : State) (f : Nat) (ws : List (Nat × List Byte)) : State :=
  ws.foldl (fun v w => v.dataWrite f w.1 w.2) s

theorem writeAll_ldg (s : State) (f : Nat) (ws : List (Nat × List Byte)) : (s.writeAll f ws).ldg = s.ldg := by
  induction ws generalizing s with
  | nil => rfl
  | cons w ws ih => exact (ih _).trans (dataWrite_ldg ..)

end HostWrites

section Commands

variable {u : State} {r : FwReq}

/-! TIME_SET and LDG_SEAL (R548, R561) -/

theorem timeSet_bad (h : 4 < r.w 3) : r.timeSet u = u.answer r rsBadArg := if_pos h

theorem timeSet_stale (h : r.w 3 ≤ 4) (hx : u.xtsFresh = false) : r.timeSet u = u.answer r rsState :=
  (if_neg (Nat.not_lt.2 h)).trans (if_pos (by simp [hx]))

/-- The body of a TIME_SET record: the value, the cross-timestamp and the source (R548). -/
def FwReq.timeBody (r : FwReq) (u : State) : List Byte :=
  leBytes 8 (r.w64 1) ++ leBytes 8 (u.get R.TIM_XTS_MONO_time) ++ leBytes 8 (u.get R.TIM_XTS_PTP_time) ++
    leBytes 1 (r.w 3) ++ zeros 7

theorem timeSet_fresh (h : r.w 3 ≤ 4) (hx : u.xtsFresh = true) : r.timeSet u =
    (u.setLdg { u.ldg with fwaFor := some r.asked }).fwRecord tTimeSet (r.timeBody u) :=
  (if_neg (Nat.not_lt.2 h)).trans (if_neg (by simp [hx]))

theorem ldgSeal_runs (hs : u.sequences = true) (hr : u.ldgRuns = true) : r.ldgSeal u =
    (u.setLdg { u.ldg with sealFor := u.ldg.sealFor ++ [r.asked] }).ldgSealReq := if_neg (by simp [hs, hr])

theorem ldgSeal_refused (h : u.sequences = false ∨ u.ldgRuns = false) : r.ldgSeal u = u.answer r rsState :=
  if_pos (by simpa using h)

/-! LDG_EXPORT (R550, R551) -/

section Export

/-- The records that the chain of a ledger holds. -/
def State.exportable (u : State) : List (List Byte) := u.ldg.chainRecs u.ldg.pair.cur

/-- The range that a LDG_EXPORT is adjusted to. -/
def State.exportFirst (u : State) (r : FwReq) : Nat := max (r.w64 1) (u.ldg.exportFrom u.exportable)
def State.exportLast (u : State) (r : FwReq) : Nat := min (r.w64 3) ((u.exportable.getLast?.map ldgSeq).getD 0)

theorem exportWanted_eq (u : State) (r : FwReq) : u.exportWanted r =
    if u.exportable.isEmpty || decide (u.exportLast r < u.exportFirst r) then none
    else some (exportRecs u.exportable (u.exportFirst r) (u.exportLast r)) := rfl

theorem exportWanted_none (h : u.exportable = [] ∨ u.exportLast r < u.exportFirst r) : u.exportWanted r = none :=
  (exportWanted_eq u r).trans (if_pos (by simpa using h))

theorem exportWanted_some (hn : u.exportable ≠ []) (h : u.exportFirst r ≤ u.exportLast r) :
    u.exportWanted r = some (exportRecs u.exportable (u.exportFirst r) (u.exportLast r)) :=
  (exportWanted_eq u r).trans (if_neg (by simpa [hn] using h))

theorem exec_ldgExport (s : State) (via : Option (Fin 16)) (chan : Fin 16) :
    exec (.ldgExport via.isSome (via.getD chan)) s = .next (settle (s.fwServe via 0x33 FwReq.ldgExport)) :=
  next_settle_congr (by rw [carriedBy_isSome_getD])

theorem ldgExport_bad (h : u.exportWanted r = none ∨ r.w64 5 % 16 ≠ 0) : r.ldgExport u = u.answer r rsBadArg := by
  rw [FwReq.ldgExport]
  cases hw : u.exportWanted r with
  | none => rfl
  | some l => exact if_pos (h.resolve_left (by simp [hw]))

theorem ldgExport_reads {l : List (List Byte)} (h : u.exportWanted r = some l) (ha : r.w64 5 % 16 = 0) :
    r.ldgExport u = u.fwTables r l.flatten.length (r.w64 5) := by
  rw [FwReq.ldgExport, h]
  exact if_neg (not_not.2 ha)

/-- With no faulty read of the flash due, records are read without a trace. -/
theorem flashRead_clean (h : u.flashReads = []) (addr : Nat) : (u.flashRead addr).1 = u := by
  rw [State.flashRead, h]

theorem exportRead_clean (h : u.flashReads = []) (out : List (List Byte)) :
    out.foldl (fun t x => (t.flashRead (t.ldg.addrOf x)).1) u = u := by
  induction out with
  | nil => rfl
  | cons x out ih => rw [List.foldl_cons, flashRead_clean h, ih]

/-- A LDG_EXPORT that leaves a gap behind what has left already only writes its records and answers their range. -/
theorem ldgExported_gap {area : List (Nat × Nat)} {x : List Byte} {l xs : List (List Byte)}
    (hw : u.exportWanted r = some l) (hfit : fitRecs (area.map (·.2)).sum l = x :: xs) (hf : u.flashReads = [])
    (hgap : u.ldg.exported + 1 < ldgSeq x) : r.ldgExported area u =
      (u.writeAll r.mid (useArea area (x :: xs).flatten).1).answer r rsOk
        (words2 (ldgSeq x) ++ words2 (ldgSeq ((x :: xs).getLastD x)) ++ [(x :: xs).flatten.length]) := by
  have hlast : (x :: xs).getLast? = some ((x :: xs).getLastD x) := by
    rw [List.getLast?_eq_getLast_of_ne_nil (List.cons_ne_nil x xs), List.getLastD_cons, List.getLast_eq_getLastD]
  have hkeeps : ¬ ldgSeq x ≤ (u.writeAll r.mid (useArea area (x :: xs).flatten).1).ldg.exported + 1 := by
    rw [writeAll_ldg]
    omega
  simp only [FwReq.ldgExported, hw, hfit, List.head?_cons, hlast, exportRead_clean hf]
  exact congrArg (fun t : State => t.answer r rsOk _) (if_neg hkeeps)

end Export

/-! Pairs (R553, R560, R561, R566) -/

theorem pairBind_waits (h : u.bindRefusal (r.w 1 % 1024) (bits (r.w 1) 16 1) = none) : r.pairBind u =
    (u.setLdg { u.ldg with binding := some (r.asked, r.w 1 % 1024, bits (r.w 1) 16 1) }).pairSend (r.w 1 % 1024) opBind
      (1 - bits (r.w 1) 16 1) false := by
  simp only [FwReq.pairBind, h]

theorem pairBind_refused {st : Nat} (h : u.bindRefusal (r.w 1 % 1024) (bits (r.w 1) 16 1) = some st) :
    r.pairBind u = u.answer r st := by
  simp only [FwReq.pairBind, h]

theorem bindExpired_waiting {b : Asked × Nat × Nat} (h : u.ldg.binding = some b) :
    u.bindExpired = (u.setLdg { u.ldg with binding := none }).fwReply b.1 rsState [] := by
  simp only [State.bindExpired, h]

theorem bindExpired_none (h : u.ldg.binding = none) : u.bindExpired = u := by
  simp only [State.bindExpired, h]

theorem handoverExpired_waiting {b : Asked × Nat} (h : u.ldg.handing = some b) :
    u.handoverExpired = (u.setLdg { u.ldg with handing := none }).fwReply b.1 rsState [] := by
  simp only [State.handoverExpired, h]

theorem handoverExpired_none (h : u.ldg.handing = none) : u.handoverExpired = u := by
  simp only [State.handoverExpired, h]

theorem pairUnbind_single (h : u.ldg.pair.role = 0) : r.pairUnbind u = u.answer r rsState := if_pos h

theorem pairUnbind_leaves (h : u.ldg.pair.role ≠ 0) : r.pairUnbind u =
    (u.pairSend u.ldg.pair.partner opUnbind u.ldg.pair.role false).unbind.answer r rsOk := if_neg h

theorem takeover_refused (h : u.ldg.pair.role ≠ 2) : r.takeover u = u.answer r rsState := if_pos h

theorem takeover_standby (h : u.ldg.pair.role = 2) :
    r.takeover u = (u.takeover 0).answer r rsOk (words2 u.ldg.next) := if_neg (not_not.2 h)

theorem handover_sequenced {t : State} (hr : u.ldg.pair.role = 1) (hh : u.hbOk = true)
    (hroom : u.closeEpoch.ldgRoom 80 = some t) : r.handover u = t.handOver r.asked := by
  rw [FwReq.handover, if_neg (by simp [hr, hh]), hroom]

theorem handover_refused (h : u.ldg.pair.role ≠ 1 ∨ u.hbOk = false ∨ u.closeEpoch.ldgRoom 80 = none) :
    r.handover u = u.answer r rsState := by
  by_cases hm : u.ldg.pair.role ≠ 1 ∨ u.hbOk = false
  · exact if_pos (by simpa using hm)
  · rw [FwReq.handover, if_neg (by simpa using hm), (or_assoc.2 h).resolve_left hm]

/-! REPAIR_POINT (R630) -/

theorem repairPoint_inactive (h : u.power ≠ 0) : r.repairPoint u = u.answer r rsState := if_pos h

theorem repairPoint_busy (h : u.power = 0) (hr : u.on R.TLN_STATUS_repairing = true) :
    r.repairPoint u = u.answer r rsBusy := (if_neg (not_not.2 h)).trans (if_pos hr)

theorem repairPoint_starts (h : u.power = 0) (hr : u.on R.TLN_STATUS_repairing = false) : r.repairPoint u =
    (u.repairStart 2).setTln { (u.repairStart 2).tln with asked := some r.asked } :=
  (if_neg (not_not.2 h)).trans (if_neg (by simp [hr]))

end Commands

/-- Settles O39: at its turn each command does what its own definition says, by its operands, the ledger and the role in
the pair; LDG_EXPORT by its range and what fits its buffer. -/
theorem firmwareLedgerCommands : Obligations.FirmwareLedgerCommands := by
  intro s u via chan r
  have times (h : FwTurn s u via 0x30 r) (hfree : s.fwaFree = true) {t : State} (ht : r.timeSet u = t) :
      exec (.timeSet via) s = .next (settle t) := exec_at_turn h (exec_timeSet_free hfree) ht
  have exports (h : FwTurn s u via 0x33 r) {t : State} (ht : r.ldgExport u = t) :
      exec (.ldgExport via.isSome (via.getD chan)) s = .next (settle t) := exec_at_turn h (exec_ldgExport ..) ht
  refine ⟨fun h hfree => ⟨fun hb => times h hfree (timeSet_bad hb), fun hg hx => times h hfree (timeSet_fresh hg hx),
      fun hg hx => times h hfree (timeSet_stale hg hx)⟩,
    fun h => ⟨fun hs hr => exec_at_turn h rfl (ldgSeal_runs hs hr), fun hn => exec_at_turn h rfl (ldgSeal_refused hn)⟩,
    fun h => ⟨fun hb => exports h (ldgExport_bad hb), fun l hl ha => exports h (ldgExport_reads hl ha)⟩,
    ⟨exportWanted_none, exportWanted_some, fun area x l xs hw hfit hf hgap => ldgExported_gap hw hfit hf hgap⟩,
    fun h => ⟨fun hn => exec_at_turn h rfl (pairBind_waits hn), fun st hs => exec_at_turn h rfl (pairBind_refused hs)⟩,
    fun b hb => next_settle_congr (bindExpired_waiting hb), fun b hb => next_settle_congr (handoverExpired_waiting hb),
    fun h => next_settle_congr (bindExpired_none h), fun h => next_settle_congr (handoverExpired_none h),
    fun h hr => exec_at_turn h rfl (pairUnbind_leaves hr), fun h hr => exec_at_turn h rfl (takeover_standby hr),
    fun h => ⟨fun t hr hh hroom => exec_at_turn h rfl (handover_sequenced hr hh hroom),
      fun hn => exec_at_turn h rfl (handover_refused hn)⟩,
    fun h => ⟨fun hp => exec_at_turn h rfl (repairPoint_inactive hp),
      fun hp hr => exec_at_turn h rfl (repairPoint_busy hp hr),
      fun hp hr => exec_at_turn h rfl (repairPoint_starts hp hr)⟩, ?_⟩
  simp only [List.forall_mem_cons, List.not_mem_nil, false_implies, implies_true, and_true]
  exact ⟨fun h hr => exec_at_turn h rfl (pairUnbind_single hr), fun h hr => exec_at_turn h rfl (takeover_refused hr),
    fun h hr => exec_at_turn h rfl (handover_refused (.inl hr))⟩

end Sys2Proof.Machine

end
